-- ==== Sys2Proof/Word.lean ====
section
/-!
DEFINITION. The words of the hub: a BAR0 register is 32 bits wide (R12), memory is bytes (R9), hub time and addresses are
64 bits.
-/
namespace Sys2Proof

/-- A BAR0 register word (R12). -/
abbrev Word := BitVec 32

/-- A byte of memory or of a message (R9: multi-byte fields are little-endian). -/
abbrev Byte := BitVec 8

/-- A 64-bit value: hub time, an address, a bus datum. -/
abbrev DWord := BitVec 64

end Sys2Proof
end

