-- ==== Sys2Proof/Config.lean ====
section
/-!
DEFINITION. What an implementation fixes and what the spec leaves open: constants without a body. Nothing in Lean can see
their values, so a statement holds whatever they are. Each is named in a row of notes/assumptions.
-/
namespace Sys2Proof

/-- GLB_ID.FORM of the delivered hub: the spec sells two forms, 0b00 KH480-D and 0b01 KH480-P4 (R2). Free (assumption 2).
[log: DESIGN CHOICE 2] -/
opaque Config.isP4 : Bool

/-- GLB_ID.FORM: 0 or 1 (R2). [log: DESIGN CHOICE 2] -/
def Config.form : Nat := if Config.isP4 then 1 else 0

/-- A free value: the `n`-th value the spec leaves open in a run (assumption 3). [log: DESIGN CHOICE 3] -/
opaque Config.free : Nat → Nat

/-- KIND of the RAS entry of a NOTICE whose rule names no kind, by the rule that logs it: R222 lists none (assumption 4).
[log: DESIGN CHOICE 4] -/
opaque Config.noticeKind : Nat → Nat

/-- The requester code of an event no requester caused, and of the TAP: R222 lists none (assumption 4).
[log: DESIGN CHOICE 4] -/
opaque Config.noRequester : Nat

/-- HMAC-SHA-256 of a message under the device's secret, which no register or instruction shows (R380, R385; assumption 10).
[log: DESIGN CHOICE 10] -/
opaque Config.hedgeMac : List Byte → List Byte

/-- SHA-256 (R382): the spec names the function and does not give it (assumption 10). [log: DESIGN CHOICE 10] -/
opaque Config.sha256 : List Byte → List Byte

/-- SHA-384 (R76): the spec names the function and does not give it (assumption 10). [log: DESIGN CHOICE 10] -/
opaque Config.sha384 : List Byte → List Byte

/-- The token's key ID names a listed and unrevoked key, under which its signature verifies (R382; assumption 10).
[log: DESIGN CHOICE 10] -/
opaque Config.tokenSigned : List Byte → Bool

/-- The JEP106 code in IDCODE (R374): the spec does not give it (assumption 10). [log: DESIGN CHOICE 10] -/
opaque Config.jep106 : Nat

/-- The bytes of a copy of the state region (R387, R398), from its version, its retirements and its queued repairs: the spec
does not give their layout (assumption 10). [log: DESIGN CHOICE 10] -/
opaque Config.regionImage : Nat → List (Nat × Nat × Nat × Nat) → List Nat → List Byte

/-- What the MCTP responder answers about its MCTP versions and its vendor: DSP0236 and the vendor ID, which the spec does not
give (assumption 10). [log: DESIGN CHOICE 10] -/
opaque Config.mctpVersions : List Byte

/-- The vendor ID record of the MCTP responder (assumption 10). [log: DESIGN CHOICE 10] -/
opaque Config.mctpVendor : List Byte

/-- The Corhearo vendor ID, which the spec writes symbolically (spec/00; assumption 10). [log: DESIGN CHOICE 10] -/
opaque Config.vendorId : Nat

/-- RAIL code by which PWR_PMB_DEVn names the VDD_CORE rail: the spec gives none (assumption 4). [log: DESIGN CHOICE 4] -/
opaque Config.railCore : Nat

/-- The estimate of the input power, 0.1 W, from the measured one and the regulators' newest answers (R56): the spec does not give
the calibration (assumption 20). [log: DESIGN CHOICE 20] -/
opaque Config.calibrated : Nat → List (Nat × List Int) → Nat

/-- Power of a unit under its readmission test, mW, by unit type (R95): the spec gives none (assumption 40).
[log: DEDUCED 40] -/
opaque Config.testMw : Nat → Nat

/-- The bits of a floating-point result of Spar's elimination, by operation (0 a ÷ b, 1 a − b·c, 2 2^−c · a), element width in bytes
and operand bits: the spec fixes neither the rounding nor the order of operations (assumption 46). [log: DESIGN CHOICE 46] -/
opaque Config.fpOp : Nat → Nat → List Nat → Nat

/-- Minus the exponent of LINEAR16 voltages, which the board's regulators declare in VOUT_MODE (R55; assumption 20).
[log: DESIGN CHOICE 20] -/
opaque Config.voutExp : Nat

/-- By how much one RFM lowers a bank's activation count: JESD238 defines it, the spec does not (assumption 7).
[log: DESIGN CHOICE 7] -/
opaque Config.raaPerRfm : Nat

/-- How many refreshes of a bank may be postponed, and how many pulled in: JESD238 gives the limits, the spec does not (R194;
assumption 7). [log: DESIGN CHOICE 7] -/
opaque Config.refreshLimit : Nat

/-- Bytes beyond one line that the token bucket of a Sheet class holds (R203): the spec gives no depth (assumption 38).
[log: DESIGN CHOICE 38] -/
opaque Config.bucket : Nat → Nat

/-- By how much one refresh lowers a bank's activation count (assumption 7). [log: DESIGN CHOICE 7] -/
opaque Config.raaPerRefresh : Nat

end Sys2Proof
end

