-- ==== Sys2Proof/Operand.lean ====
section
/-!
DEFINITION. The kinds of operand a command carries: who makes a register access, what a frame or message holds, what the
outside world answers. Plain data, named as the spec names it.
-/
namespace Sys2Proof

/-- A path by which registers are read and written (R167): the PF, VF `k`, Masthead, site `s`, or the TAP, which
reaches the TEST block only (R375). -/
inductive Path where
  | pf
  | vf (k : Nat)
  | masthead
  | site (s : Nat)
  | tap
deriving DecidableEq, Repr

/-- The requester code of a path (R222); the TAP has none there. -/
def Path.req : Path → Nat
  | .pf => 0
  | .vf k => k + 1
  | .masthead => 0x3000
  | .site s => 0x2000 + s
  | .tap => Config.noRequester

/-- The path names a function or site that exists: VFs 0 to 30, sites 0 to 3 (R10, R103). -/
def Path.wf : Path → Bool
  | .pf => true
  | .vf k => decide (k < 31)
  | .masthead => true
  | .site s => decide (s < 4)
  | .tap => true

/-- The path holds the register blocks of BAR0: the PF and Masthead. A VF's BAR0 holds its rings only (R100), a site reaches
hub time only (R160), the TAP the TEST block only (R375). [log: DEDUCED 15] -/
def Path.holdsBlocks (p : Path) : Bool := p == .pf || p == .masthead

/-- A sideband frame from a die that no other command carries: its TYPE and its LEN (R263). -/
structure SbHead where
  type : Nat
  len : Nat
deriving DecidableEq, Repr

/-- What FEC did to a frame on its way: codewords corrected, and codewords it could not correct (R297). -/
structure FecCount where
  fixed : Nat
  lost : Nat
deriving DecidableEq, Repr

/-- A request the receiver of function `fn` cannot take: malformed, or beyond the credits it gave (`overflow`, R108). -/
structure BadTlp where
  fn : Nat
  overflow : Bool
deriving DecidableEq, Repr

/-- A field of a function's configuration space that R98, R100 or R103 gives a value or a range to. -/
inductive CfgField where
  /-- Dword `i` of the function's BARs: two for each of BAR0, BAR2 and BAR4 (R100). -/
  | bar (i : Nat)
  /-- Dword `i` of the VF BARs in the PF's SR-IOV capability (R100). -/
  | vfBar (i : Nat)
  /-- Max Payload Size Supported and in force: 128 bytes × 2 to the code (R98). -/
  | mpsSupported | mps
  /-- Max Read Request Size in force, likewise (R98). -/
  | mrrs
  /-- Enables of Relaxed Ordering and ID-Based Ordering (R98). -/
  | relaxedOrdering | idOrdering
  /-- 10-bit tags supported (bit 0), 14-bit tags (bit 1), and the 10-bit Tag Requester Enable (R98). -/
  | tagsSupported | tagEnable
  /-- Completion timeout ranges supported, bit 0 range A; the value in force, 0 the default 50 µs to 50 ms (R98). -/
  | timeoutRanges | timeout
  /-- Low-power link states supported (R98). -/
  | linkPower
  /-- Device power state: 0 D0, 3 D3hot (R98, R127). -/
  | powerState
  /-- Bus Master Enable (R127). -/
  | busMaster
  /-- The SR-IOV capability's fields (R103). -/
  | totalVfs | numVfs | vfEnable | vfDeviceId | firstVfOffset | vfStride | pageSizes | systemPageSize
deriving DecidableEq, Repr

/-- What a configuration request asks for (R63): the ID word, a field the spec describes, another register, MSI-X Enable and
Function Mask, a write of a field, or a write the hub's own rules say nothing about. Bus mastering, power state, VF Enable and
function resets are written by commands of their own. -/
inductive CfgReq where
  | readId
  | read (f : CfgField)
  | readOther
  | msix (enable mask : Bool)
  | write (f : CfgField) (v : Word)
  | writeOther
deriving DecidableEq, Repr

/-- The access sizes of BAR0 in bits (R12). -/
def sizeOk (bits : Nat) : Bool := bits == 8 || bits == 16 || bits == 32 || bits == 64

/-- The offset lies in BAR0's 32 MiB (R27), or in BAR2's 1 MiB of doorbell pages, numbered from 0x200_0000 on (R100). -/
def offOk (off : Nat) : Bool := decide (off < 0x2100000)

/-- The unit number names a unit of its class (R404). -/
def unitNamed (cls unit : Nat) : Bool :=
  if cls = 0 then unit == 0xFFFF
  else decide (unit < match cls with
    | 1 => 256 | 2 => 64 | 3 => 32 | 4 => 32 | 5 => 32 | 6 => 4 | 7 => 6 | 8 => 74 | 9 => 96 | 10 => 16 | 11 => 32 | 12 => 7
    | 13 => 220 | 14 => 16 | 15 => 1 | _ => 0)

/-- Payload bytes of a sideband frame that a die sends, by TYPE; 0 for a TYPE it does not send (R265). -/
def dieLen (type : Nat) : Nat :=
  if type = 2 then 1 else if type = 3 then 48 else if type = 5 then 1 else if type = 7 then 6 else if type = 0x0B then 2
  else if type = 0x0D then 6 else if type = 0x0E then 2 else 0

end Sys2Proof
end

