-- ==== Sys2Proof/Syntax.lean ====
section
/-!
DEFINITION. The commands of the hub: ONE constructor per row of spec/opcode_table.json, in the table's order, with the
operands the spec gives it or the environment supplies (a written word, a sensor's reading, a frame's fields).
-/
namespace Sys2Proof

/-- A command to the hub: a register access, a pin event, a message, a timer's expiry, a unit's event. -/
inductive Instr where
  /-- REGISTER_WRITE (R12). A write to a BAR0 register that has no row of its own is stored, clamped, ignored or logged according to its access code, lock and alignment. -/
  | registerWrite (req : Path) (off bits : Nat) (v : DWord)
  /-- RC_FIELD_READ (R12). A read of a register holding an RC field returns the value and clears the field, also for narrow reads. -/
  | rcFieldRead (req : Path) (off bits : Nat)
  /-- LEVEL_PROTECTED_READ (R14). A read of a register protected above the current hedge-gate level returns 0 and is logged. -/
  | levelProtectedRead (req : Path) (off : Nat)
  /-- UNALIGNED_ACCESS (R29). An access that is not naturally aligned completes on PCIe, reads 0 or has no effect, and is logged. -/
  | unalignedAccess (req : Path) (write : Bool) (off bits : Nat) (v : DWord)
  /-- SHADOW_LOW_READ (R167). A read of the low half of a 64-bit register latches the high half into the path's shadow. -/
  | shadowLowRead (path : Path) (off : Nat)
  /-- SHADOW_HIGH_READ (R167). A read of the high half returns and empties the shadow, or returns the live half and sets STALE_HALF. -/
  | shadowHighRead (path : Path) (off : Nat)
  /-- LOCK (R16). Writing 1 to GLB_CTRL.LOCK fixes every RWL register until the next reset. -/
  | lock (req : Path) (v : Word)
  /-- GLB_RST_WARM (R57). A GLB_RST write with KIND 0b01 and the right KEY starts a warm reset. -/
  | glbRstWarm (req : Path) (v : Word)
  /-- GLB_RST_HUB (R57). A GLB_RST write with KIND 0b10 and the right KEY starts a hub reset. -/
  | glbRstHub (req : Path) (v : Word)
  /-- PWRGOOD_RISE (R413). PWRGOOD rising after D0 reset samples the straps and starts a cold reset. -/
  | pwrgoodRise (siteFit mtSel smbAddr : Nat)
  /-- PWRGOOD_FALL (R413). PWRGOOD falling starts the 1 µs filter on the low level. -/
  | pwrgoodFall
  /-- PWRGOOD_LOW_FILTER_EXPIRY (R413). PWRGOOD low for 1 µs triggers a last gasp and turns the VHOLD charger off. -/
  | pwrgoodLowFilterExpiry
  /-- PERST_N_ASSERT (R414). PERST_N asserted with PWRGOOD high schedules a warm reset 1 µs later. -/
  | perstNAssert
  /-- WARM_RESET (R57). A warm reset resets every block outside D0, keeping the fail record, NEXT, hedge level and Yew RAM state, then starts bring-up. -/
  | warmReset
  /-- HUB_RESET (R57). A hub reset after a FATAL event or a GLB_RST request resets every block outside D0 and starts bring-up. -/
  | hubReset
  /-- EMERGENCY_LOWER_WAVE (R38). The emergency sequencer lowers the next wave of domains in reverse wave order under the falling slew before a reset. -/
  | emergencyLowerWave
  /-- PERST_N_DEASSERT (R63). PERST_N deassertion lets the hub enter LTSSM Detect within 20 ms. -/
  | perstNDeassert
  /-- D0_RESET (R395). VHOLD falling below 2.5 V after a last gasp puts D0 into reset. -/
  | d0Reset (siteFit mtSel smbAddr : Nat)
  /-- REFCLK_LOSS (R32). Loss of REFCLK makes every island hold its DCO trim, hub time run on held trim, and a WARNING be raised. -/
  | refclkLoss
  /-- REFCLK_RETURN (R32). Returning REFCLK resumes island trimming within 100 µs, clears the condition and logs a NOTICE. -/
  | refclkReturn
  /-- SERIAL_REFCLK_TIMEOUT (R306). REFCLK absent for 10 ms puts every serial port DOWN with reason 6. -/
  | serialRefclkTimeout
  /-- LOCKSTEP_MISMATCH (R402). The two Masthead cores disagree, which is a FATAL event. -/
  | lockstepMismatch
  /-- WATCHDOG_EXPIRY (R401). A unit with pending work makes no progress for 1 ms and raises a FAULT or a FATAL event. -/
  | watchdogExpiry (cls unit : Nat)
  /-- MASTHEAD_WATCHDOG (R401). Expiry of the D0 timer watching Masthead's loop is FATAL. -/
  | mastheadWatchdog
  /-- FAULT_RESET_TIMEOUT (R400). A FAULT reset not completed within its bound raises a FATAL event. -/
  | faultResetTimeout (cls unit : Nat)
  /-- DOMAIN_REQ_HOLD_ON (R37). PWR_DOM_n.REQ = 0b01 asks to hold a domain on, refused with REASON 7 or 8 for dropped, unfitted or failed domains. -/
  | domainReqHoldOn (req : Path) (n : Nat)
  /-- DOMAIN_REQ_HOLD_OFF (R39). PWR_DOM_n.REQ = 0b10 asks to hold a domain off, refused with the reasons of R39 or deferred before readiness. -/
  | domainReqHoldOff (req : Path) (n : Nat)
  /-- DOMAIN_REQ_HUB (R37). PWR_DOM_n.REQ = 0b00 or 0b11 returns the domain to bring-up and on-demand hoisting. -/
  | domainReqHub (req : Path) (n : Nat)
  /-- DOMAIN_ADMIT (R36). Reef admits a pending domain transition or hoist wave once the covenant allows its step. -/
  | domainAdmit (n : Nat)
  /-- DOMAIN_TRANSITION_COMPLETE (R36). A domain reaches ON or OFF, clearing PENDING and applying any latched request. -/
  | domainTransitionComplete (n : Nat)
  /-- DOMAIN_LOWER_IDLE (R40). A domain's NIs report idle after traffic was held, so the lowering proceeds. -/
  | domainLowerIdle (n : Nat)
  /-- DOMAIN_LOWER_ABANDON (R40). NIs not idle 1 ms after traffic was held make the hub abandon the lowering with REASON 6. -/
  | domainLowerAbandon (n : Nat)
  /-- DROOP_TRIP (R43). An island's supply falls more than TRIP_MV below setpoint and its clock period lengthens by 25 %. -/
  | droopTrip (island sagMv : Nat)
  /-- DROOP_RELEASE (R43). The supply stays within the release level for 100 ns and the island returns to its normal period. -/
  | droopRelease (island sagMv : Nat)
  /-- REEF_TICK (R51). Every 8 µs Reef estimates input power, handles soak, admits pending steps and sets island targets. -/
  | reefTick (pin hubAbove stackTraffic sensedDrop knownDrop : Nat)
  /-- REEF_ENABLE (R47). A write of 1 to PWR_REEF_CTRL.ENABLE at level 2 enables Reef. -/
  | reefEnable (req : Path) (v : Word)
  /-- REEF_DISABLE (R47). A write of 0 to PWR_REEF_CTRL.ENABLE at level 2 disables Reef and its covenant guarantee. -/
  | reefDisable (req : Path) (v : Word)
  /-- COV_SLEW_WRITE (R48). A PWR_COV_SLEW write is clamped to 250–1,000 W/ms and logged as a NOTICE when clamped. -/
  | covSlewWrite (req : Path) (v : Word)
  /-- COV_STEP_WRITE (R48). A PWR_COV_STEP write caps STEP at 60 and keeps GUARD at or below STEP, logging a NOTICE. -/
  | covStepWrite (req : Path) (v : Word)
  /-- PMBUS_POLL (R56). Every 1 ms the hub polls each listed regulator and calibrates its input estimate. -/
  | pmbusPoll (answers : List (List Nat))
  /-- VOUT_COMMAND (R408). The hub moves VDD_CORE by one 5 mV step through VOUT_COMMAND, no faster than 5 mV per 10 µs. -/
  | voutCommand (up : Bool)
  /-- VHOLD_READY (R54). VHOLD exceeding 4.8 V sets PWR_HOLD.READY and lets S1 end. -/
  | vholdReady (mv : Nat)
  /-- STAGE_S1 (R60). S1 boots Masthead from the first verifying image and waits for VHOLD ready. -/
  | stageS1 (images : List (Bool × Nat))
  /-- STAGE_S2 (R60). S2 hoists hub domains in waves and trims island DCOs to nominal. -/
  | stageS2
  /-- STAGE_S3 (R365). S3 runs logic BIST slices one at a time when LBIST is 1. -/
  | stageS3
  /-- STAGE_S4 (R190). S4 initialises, lane-tests, repairs and trains every stack and applies queued hard repairs. -/
  | stageS4 (present cap36 : Nat)
  /-- STAGE_S5 (R266). S5 runs sideband discovery, negotiation and training on every fitted site. -/
  | stageS5
  /-- STAGE_S6 (R66). S6 runs the chosen memory-test profile then the zero fill. -/
  | stageS6
  /-- STAGE_S7 (R62). S7 merges defect sources and programs map epoch 1 into every NI. -/
  | stageS7
  /-- STAGE_S8 (R72). S8 grants compute-core hoist waves to live sites. -/
  | stageS8
  /-- STAGE_S9 (R76). S9 broadcasts engine microcode and partner images. -/
  | stageS9 (image : List Byte)
  /-- STAGE_S10 (R78). S10 runs known-answer workloads on every physical unit and live site. -/
  | stageS10
  /-- READY_SET (R79). S11 writes the BOOT Yew record, sets GLB_RDY and sends the readiness interrupt. -/
  | readySet (meas : List Nat) (hubStatic stackStatic : Nat)
  /-- READINESS_PEND_SEND (R65). A pending readiness message is sent once MSI-X is enabled and the vector unmasked, clearing PEND. -/
  | readinessPendSend
  /-- STAGE_LIMIT_EXPIRY (R60). A stage still running at its limit ends with the outcome of R80. -/
  | stageLimitExpiry
  /-- BOOT_PROFILE_WRITE (R59). A BOOT_PROFILE write sets CUR until S6, LBIST until S3 and NEXT, logging a closed-field change. -/
  | bootProfileWrite (req : Path) (v : Word)
  /-- LBIST_SLICE_END (R365). A slice's patterns complete and its MISR is compared with the golden signature. -/
  | lbistSliceEnd (us sig : Nat) (good : Bool)
  /-- LBIST_SLICE_TIMEOUT (R365). A slice's budget expires, so it is stopped and recorded TIMEOUT. -/
  | lbistSliceTimeout
  /-- STACK_TRAINING_COMPLETE (R190). Training of a stack ends and all stacks are retrained to the lowest common rate. -/
  | stackTrainingComplete (stack code chan rate lanes raaimt raammt pprGood : Nat)
  /-- MEMORY_TEST_ELEMENT_END (R69). A memory-test element ends, winding down under the covenant, and the next element or the zero fill begins. -/
  | memoryTestElementEnd (banks : List Nat) (rows : List (Nat × Bool)) (entries : List (Nat × Nat × Nat × Nat))
  /-- WAVE_GRANT (R72). The hub grants a site its next wave of cores once interval, stagger and covenant allow. -/
  | waveGrant (site : Nat)
  /-- WAVE_DONE (R73). A site reports its wave complete, allowing its next grant. -/
  | waveDone (site up : Nat)
  /-- WAVE_TIMEOUT (R73). No wave completion within 50 ms makes the hub send a zero allowance and drop the site. -/
  | waveTimeout (site : Nat)
  /-- BOOT_FW_GO (R75). Writing BOOT_FW_CTRL.GO marks the host image ready, held until S9. -/
  | bootFwGo (req : Path) (v : Word) (image : List Byte)
  /-- FW_WAIT_TIMEOUT (R75). GO missing WAIT_S seconds after S9 starts drops every site that needed the image with FW_WAIT. -/
  | fwWaitTimeout
  /-- KNOWN_ANSWER_COMPLETE (R78). A unit finishes its known-answer run and is compared, retiring it on mismatch. -/
  | knownAnswerComplete (t p : Nat) (good : Bool)
  /-- KNOWN_ANSWER_TIMEOUT (R78). A hub unit not finished within 100 ms is marked Retired. -/
  | knownAnswerTimeout (t p : Nat)
  /-- KAR_DIGEST (R78). A site's known-answer digest arrives and a mismatch drops the site. -/
  | karDigest (site : Nat) (digest : List Byte)
  /-- MAP_CMD_RETIRE (R92). A MAP_CMD retire assigns a spare, stages the epoch and handles in-flight work by MODE. -/
  | mapCmdRetire (req : Path) (v : Word)
  /-- MAP_CMD_READMIT (R95). A MAP_CMD readmit moves a Retired physical unit into Quarantine. -/
  | mapCmdReadmit (req : Path) (v : Word)
  /-- BANK_COPY_COMPLETE (R93). The retiring bank's copy to its spare completes, allowing the epoch. -/
  | bankCopyComplete
  /-- MAP_EPOCH_ADOPT (R88). Masthead sends the adopt message and every NI switches to the new table. -/
  | mapEpochAdopt (old : Nat)
  /-- MAP_EPOCH_DRAIN_END (R89). No old-epoch transaction remains, DRAIN clears and any merged change may be prepared. -/
  | mapEpochDrainEnd
  /-- MAP_DRAIN_TIMEOUT (R89). Old-epoch transactions remaining 1 ms after adoption raise a FAULT against the oldest holder. -/
  | mapDrainTimeout (cls unit : Nat)
  /-- QUARANTINE_END (R95). A quarantined unit is isolated and enters Testing. -/
  | quarantineEnd
  /-- READMISSION_TEST_END (R95). A unit's readmission test passes to Staged or fails back to Retired with cause 7. -/
  | readmissionTestEnd (pass : Bool)
  /-- READMISSION_TEST_TIMEOUT (R95). A unit exceeding its testing limit returns to Retired. -/
  | readmissionTestTimeout
  /-- MAP_LOOKUP (R85). A MAP_LOOKUP write translates a logical unit to its physical unit under the current epoch. -/
  | mapLookup (req : Path) (v : Word)
  /-- CONFIG_REQUEST (R63). A PCIe configuration request is answered with Successful Completion. -/
  | configRequest (fn : Nat) (what : CfgReq)
  /-- PCIE_LINK_UP (R99). The PCIe link trains, GLB_PCIE_STAT reports rate and width, and a slow link logs a WARNING. -/
  | pcieLinkUp (rate width : Nat) (flit : Bool)
  /-- BAR4_READ (R101). A BAR4 read is served from buffer or DRAM, or as 0, with errors per R102. -/
  | bar4Read (off n : Nat)
  /-- BAR4_WRITE (R101). A BAR4 write is applied to buffer or DRAM, or ignored. -/
  | bar4Write (off : Nat) (data : List Byte)
  /-- HOST_DMA_ERROR (R108). A poisoned or timed-out host DMA read fails its descriptor with HOST_DMA_ERR or its ring with FETCH. -/
  | hostDmaError (n id what : Nat) (poisoned : Bool)
  /-- PF_FLR (R126). An FLR of the PF resets its rings, clears MSI-X and VF Enable and resets every VF. -/
  | pfFlr
  /-- VF_FLR (R126). An FLR of a VF resets its rings, clears its MSI-X table and zeroes their GEN. -/
  | vfFlr (k : Nat)
  /-- VF_ENABLE_CHANGE (R105). Clearing VF Enable or lowering NumVFs resets every ring owned by the now-absent VFs. -/
  | vfEnableChange (enable : Bool) (num : Nat)
  /-- VF_WINDOW_WRITE (R107). A GLB_VF_WIN_k write is accepted only while every ring of VF k is disabled. -/
  | vfWindowWrite (req : Path) (k w : Nat) (v : Word)
  /-- RING_OWNER_WRITE (R105). A RING_n_OWNER write is accepted only for a valid, unique FN and LOCAL while the ring is disabled. -/
  | ringOwnerWrite (req : Path) (n : Nat) (v : Word)
  /-- RING_ENABLE (R111). Writing ENABLE = 1 makes the ring ACTIVE with zeroed pointers, or ERROR with cause SIZE. -/
  | ringEnable (req : Path) (n : Nat)
  /-- RING_RESET (R125). Writing ENABLE = 0 or a FAULT starts a ring reset that discards and stops its descriptors. -/
  | ringReset (req : Path) (n : Nat)
  /-- RING_RESET_COMPLETE (R125). The last stopped descriptor lets go and the ring clears its pointers, increments GEN and becomes DISABLED. -/
  | ringResetComplete (n : Nat)
  /-- SUBMISSION_DOORBELL (R114). A submission doorbell posts entries up to PI, or is dropped for stale GEN or state. -/
  | submissionDoorbell (req : Path) (page : Nat) (v : Word)
  /-- COMPLETION_RELEASE (R116). A completion release frees slots up to CQH and writes held completions. -/
  | completionRelease (req : Path) (page : Nat) (v : Word)
  /-- RING_HALT_ENTRY (R124). Once started descriptors of an ERROR ring complete, the RING_HALT entry is written and the vector fires. -/
  | ringHaltEntry (n : Nat)
  /-- DESCRIPTOR_FETCH (R115). The hub reads posted submission entries and checks each descriptor. -/
  | descriptorFetch (n : Nat) (host : List Byte)
  /-- DESCRIPTOR_COMPLETE (R140). A descriptor ends: its writes become visible, its signal is performed and its completion written. -/
  | descriptorComplete (n id energy peak mean drop : Nat) (host : List Byte)
  /-- MODERATION_TIMER_EXPIRY (R121). The moderation timer expires and fires the vector if completions are pending. -/
  | moderationTimerExpiry (n : Nat)
  /-- VECTOR_UNMASK (R123). Unmasking a vector with its pending bit set sends one MSI-X message. -/
  | vectorUnmask (fn vec : Nat)
  /-- BUS_MASTER_DISABLE (R127). Clearing Bus Master Enable or entering D3hot pauses the function's rings. -/
  | busMasterDisable (fn : Nat) (d3hot : Bool)
  /-- BUS_MASTER_ENABLE (R127). Bus Master Enable set with the function in D0 resumes its rings within 100 µs. -/
  | busMasterEnable (fn : Nat)
  /-- NOP (R133). A NOP descriptor starts and completes with result 0. -/
  | nop (n id : Nat)
  /-- COPY (R134). A COPY is admitted against cleats, fences, credit and domains and moves bytes on one engine. -/
  | copy (n id limit : Nat) (host : List Byte)
  /-- FILL (R134). A FILL is admitted and writes its repeated 64-bit pattern. -/
  | fill (n id limit : Nat)
  /-- GATHER (R133). A GATHER reads its list and copies the listed ranges into a contiguous destination. -/
  | gather (n id limit : Nat) (host : List Byte)
  /-- SCATTER (R133). A SCATTER reads its list and writes a contiguous source into the listed ranges. -/
  | scatter (n id limit : Nat) (host : List Byte)
  /-- STREAM_OPEN (R135). A STREAM_OPEN pairs a hub engine with a partner engine and carries LENGTH bytes. -/
  | streamOpen (n id : Nat)
  /-- STREAM_CLOSE (R135). A STREAM_CLOSE drains or aborts an open stream. -/
  | streamClose (n id : Nat)
  /-- SITE_CALL (R136). A SITE_CALL sends CALL with entry, argument and remaining deadline to a site. -/
  | siteCall (n id : Nat)
  /-- CLEAT_WAIT (R137). A CLEAT_WAIT completes once its wait and any AT_TIME condition hold. -/
  | cleatWait (n id : Nat)
  /-- CLEAT_SIGNAL (R133). A CLEAT_SIGNAL performs its signal and returns the cleat value. -/
  | cleatSignal (n id : Nat)
  /-- FENCE (R149). A FENCE completes when every earlier descriptor of its ring has completed. -/
  | fence (n id : Nat)
  /-- BOUNDARY (R151). A BOUNDARY opens in ring order and governs when head descriptors may start. -/
  | boundary (n id : Nat)
  /-- SOLVE_SETUP (R330). A SOLVE_SETUP checks the structure record, copies values and builds the context's resident structure. -/
  | solveSetup (n id : Nat)
  /-- SOLVE_PATCH (R331). A SOLVE_PATCH checks the whole list and applies every entry in order, or none. -/
  | solvePatch (n id : Nat)
  /-- SOLVE_RUN (R333). A SOLVE_RUN factorises if needed and solves, writing output and a result record. -/
  | solveRun (n id : Nat)
  /-- LANE_SEND (R292). A LANE_SEND sends a frame, message or raw words on a logical port. -/
  | laneSend (n id limit : Nat) (host : List Byte)
  /-- LANE_RECV (R292). A LANE_RECV receives a frame, message or raw words from a logical port. -/
  | laneRecv (n id : Nat)
  /-- BUDGET_HINT (R138). A BUDGET_HINT replaces the ring's hint for a pool and completes OK at once. -/
  | budgetHint (n id : Nat)
  /-- HINT_LAPSE (R138). A budget hint lapses at the end of its horizon. -/
  | hintLapse (n pool : Nat)
  /-- DEADLINE_EXPIRY (R141). A descriptor's STRICT deadline passes, completing it DEADLINE_MISS or stopping it at its next boundary. -/
  | deadlineExpiry (n id : Nat)
  /-- CALL_STOP_TIMEOUT (R141). 100 µs after CALL_STOP without an answer, the SITE_CALL completes DEADLINE_MISS. -/
  | callStopTimeout (site tag : Nat)
  /-- CLEAT_WAIT_TIMEOUT (R158). A descriptor's wait timeout falls due and it completes CLEAT_TIMEOUT. -/
  | cleatWaitTimeout (n id : Nat)
  /-- CREDIT_HOLD_WARN (R145). A credit hold longer than DISP_CTRL.EHOLD_WARN raises a WARNING. -/
  | creditHoldWarn (n id : Nat)
  /-- CLT_SET (R161). A write to CLT_n.VALUE performs SET on the cleat. -/
  | cltSet (req : Path) (n : Nat) (v : Word)
  /-- CLT_ADD (R161). A write to CLT_n.ADD performs ADD on the cleat. -/
  | cltAdd (req : Path) (n : Nat) (v : Word)
  /-- CLT_CLEAR (R154). A CLT_CLEAR write sets a range of cleats to 0, each as a SET. -/
  | cltClear (req : Path) (v : Word)
  /-- WATCH_ARM (R162). Writing CLT_WATCH_w.EN = 1 registers the watch and judges it at once. -/
  | watchArm (req : Path) (w : Nat) (v : Word)
  /-- WATCH_CANCEL (R162). A word-0 write with EN = 0 on an armed watch removes it without firing. -/
  | watchCancel (req : Path) (w : Nat) (v : Word)
  /-- WATCH_TIMEOUT (R162). A watch's timeout passes, setting TIMEDOUT and sending its vector. -/
  | watchTimeout (w : Nat)
  /-- TIME_SET (R163). A write to TIME_SET's high half steps hub time and logs a NOTICE. -/
  | timeSet (req : Path) (v : Word)
  /-- TIME_SLEW (R164). A TIME_SLEW write slews its offset into hub time at no more than SLEW_PPM. -/
  | timeSlew (req : Path) (v : Word)
  /-- TIME_ADJ (R164). A TIME_ADJ write sets the signed rate correction while free-running. -/
  | timeAdj (req : Path) (v : Word)
  /-- TIME_EVT_SEL (R163). Writing an event selection clears that 64-bit counter. -/
  | timeEvtSel (req : Path) (n : Nat) (v : Word)
  /-- WINDOW_ENABLE (R175). BUF_WIN CMD = 1 checks the window and makes it ENABLING. -/
  | windowEnable (req : Path) (w : Nat)
  /-- WINDOW_ENABLE_COMPLETE (R175). Earlier accesses drain, chunks are assigned Unowned and the window turns ON. -/
  | windowEnableComplete (w : Nat)
  /-- WINDOW_DISABLE (R176). BUF_WIN CMD = 2 makes the window DISABLING and recalls every held line. -/
  | windowDisable (req : Path) (w : Nat)
  /-- WINDOW_DISABLE_COMPLETE (R176). The recall walk ends, chunks are freed and the window turns OFF. -/
  | windowDisableComplete (w : Nat)
  /-- RD_SHARED (R181). A site asks for a shared copy of a coherent line. -/
  | rdShared (site tag : Nat) (addr : DWord)
  /-- RD_OWN (R181). A site asks for ownership of a coherent line. -/
  | rdOwn (site tag : Nat) (addr : DWord)
  /-- UPGRADE (R181). A sharing site asks to upgrade its copy to ownership. -/
  | upgrade (site tag : Nat) (addr : DWord)
  /-- WB_DIRTY (R181). An owner writes a line back with data, ending ownership. -/
  | wbDirty (site tag : Nat) (addr : DWord) (line : List Byte)
  /-- EVICT_CLEAN (R181). An owner ends ownership without data. -/
  | evictClean (site tag : Nat) (addr : DWord)
  /-- RECALL_ACK (R182). A site answers a recall without data. -/
  | recallAck (site tag : Nat) (addr : DWord)
  /-- RECALL_DATA (R182). A site answers a recall with the line's written data. -/
  | recallData (site tag : Nat) (addr : DWord) (line : List Byte)
  /-- NON_CACHING_READ (R181). A non-caching read of a coherent line is served through the directory. -/
  | nonCachingRead (req off n : Nat)
  /-- NON_CACHING_WRITE (R181). A non-caching write of a coherent line recalls holders and writes the bank. -/
  | nonCachingWrite (req off : Nat) (data : List Byte)
  /-- RECALL_TIMEOUT (R183). A recall unanswered within RECALL_TMO raises a FAULT against the site. -/
  | recallTimeout (site line : Nat)
  /-- DIR_QUERY (R180). A BUF_DIR_QUERY write looks up a line's directory state into BUF_DIR_RESULT. -/
  | dirQuery (req : Path) (v : Word)
  /-- REFRESH (R194). A bank's refresh falls due at the temperature-dependent interval. -/
  | refresh (stack q bank how : Nat)
  /-- SCHEDULE_COMMAND (R199). When a command slot opens the scheduler issues the first request of the highest occupied rank. -/
  | scheduleCommand (stack q : Nat) (busy : List Nat)
  /-- CA_PARITY_ERROR (R196). A stack reports a command/address parity error and the command is reissued, FATAL after four failures. -/
  | caParityError (stack : Nat) (again : Bool)
  /-- STACK_TEMP_READ (R192). Every 1 ms Masthead reads each stack's temperature over IEEE 1500. -/
  | stackTempRead (stack : Nat) (ok : Bool) (temp : Nat)
  /-- POWER_DOWN_ENTRY (R201). A pseudo-channel idle for PD_IDLE enters power-down. -/
  | powerDownEntry (stack q : Nat)
  /-- SHEET_UPDATE (R204). Every 50 ns Sheet updates congestion and cuts or raises each class's rate. -/
  | sheetUpdate
  /-- FLOOR_WRITE (R205). A FLOOR write is stored only if the floors stay within 75 % of peak, else FLOOR_REF is set. -/
  | floorWrite (req : Path) (c : Nat) (v : Word)
  /-- TELLTALE_THRESHOLD_WRITE (R206). A threshold write is stored and sorted into ascending order with a NOTICE if out of order. -/
  | telltaleThresholdWrite (req : Path) (m : Nat) (v : Word)
  /-- TELLTALE_LEVEL_CHANGE (R206). A hub-side master's buffer fill crosses a threshold and its level rises or falls. -/
  | telltaleLevelChange (m fill : Nat)
  /-- TELLTALE_WINDOW (R208). Each 10 µs window restarts a master's urgent byte count. -/
  | telltaleWindow
  /-- DRAM_SCRUB_READ (R219). The DRAM scrubber reads the next sector of its pass, skipping listed granules. -/
  | dramScrubRead
  /-- BUF_SCRUB_READ (R219). The buffer scrubber reads the next physical bank word or directory word. -/
  | bufScrubRead
  /-- RAS_CONS_WRITE (R223). A CONS write consumes entries if it lies between CONS and PROD, else it is ignored and logged. -/
  | rasConsWrite (req : Path) (v : Word)
  /-- FLIP_ARM (R231). Writing RAS_FLIP_CTRL.ARM = 1 arms the flip mask or sets REFUSED. -/
  | flipArm (req : Path) (v : Word)
  /-- FLIP_DISARM (R232). Writing ARM = 0 disarms the mask without firing. -/
  | flipDisarm (req : Path) (v : Word)
  /-- CE_HOURLY (R225). Each hour after READY the correction counts are summarised into a Yew record. -/
  | ceHourly
  /-- FLIT_RECEIVE (R252). A flit arrives on a module and is accepted, discarded or answered with NAK. -/
  | flitReceive (site module v k : Nat) (payload : List Byte)
  /-- ACK (R253). An ACK LINK flit frees replay buffers and requests replay for entries with NAK. -/
  | ack (site first mset : Nat) (entries : List (Nat × Nat))
  /-- ACK_INTERVAL (R253). Every ACK_INT ns the receiver sends ACK flits for changed entries. -/
  | ackInterval (site : Nat)
  /-- REPLAY_START (R252). A REPLAY_START marker with matching SEQ and MSET arms the pending module. -/
  | replayStart (site module seq mset : Nat)
  /-- REPLAY_TIMEOUT (R254). Unanswered flits for REPLAY_TMO without EXP advance trigger a replay. -/
  | replayTimeout (site module : Nat)
  /-- DRIFT_UPDATE (R244). Every 256 flit times the receiver moves each lane's sampling phase by one step, failing beyond ±16. -/
  | driftUpdate (site module : Nat) (up : Bool)
  /-- TEST (R241). A TEST LINK flit of T6 is checked for CRC and payload. -/
  | moduleTest (site module : Nat) (good : Bool)
  /-- DROP_REQ (R257). A DROP_REQ for a failed module is answered with DROP_ACK and both ends switch to MSET + 1. -/
  | dropReq (site module mset xr cause : Nat)
  /-- DROP_ACK (R257). A DROP_ACK completes the drop exchange and the new generation starts at XR. -/
  | dropAck (site module mset xr : Nat)
  /-- DROP_REQ_REPEAT (R257). DROP_REQ is repeated every 64 ns until DROP_ACK arrives. -/
  | dropReqRepeat (site : Nat)
  /-- SPARE_PROPOSAL (R259). Within 100 µs of a drop, with AUTO_SPARE set, the hub proposes adding the lowest spare. -/
  | spareProposal (site : Nat)
  /-- SET_ACCEPT (R260). The die accepts a planned module-set change with its switch SFN. -/
  | setAccept (site xd : Nat)
  /-- MSET_SWITCH (R260). A direction reaches its switch SFN and moves to MSET + 1. -/
  | msetSwitch (site : Nat) (tx : Bool)
  /-- SIDEBAND_HELLO (R266). Every 1 ms of S5 the hub sends HELLO until HELLO_ACK arrives. -/
  | sidebandHello (site : Nat)
  /-- HELLO_ACK (R266). The die answers HELLO and the hub sends its IDENT. -/
  | helloAck (site : Nat)
  /-- IDENT (R267). The die's IDENT arrives, is checked and the hub negotiates. -/
  | ident (site : Nat) (payload : List Byte)
  /-- NEG_ACK (R266). The die accepts or refuses the negotiation. -/
  | negAck (site : Nat) (accept : Bool)
  /-- TRAIN_RES (R266). Both training results arrive and the next step's mask is sent. -/
  | trainRes (site step pass : Nat)
  /-- TRAIN_STEP_LIMIT (R241). A training step's limit expires and modules not passing fail that step. -/
  | trainStepLimit (site pass : Nat) (eyes : List (Nat × Nat × Nat × Nat))
  /-- LINK_UP (R266). When all fitted sites are ready or dropped, the hub sends LINK_UP to each and starts SFN 0. -/
  | linkUp
  /-- QUIET_ACK (R288). The die confirms a module is quiet and the hub closes the pad loopback switch. -/
  | quietAck (site module : Nat) (quiet : Bool)
  /-- MGMT_DATA (R265). The die returns a management-space value. -/
  | mgmtData (site addr : Nat) (v : Word)
  /-- SIDEBAND_NAK (R265). A sideband NAK reports a refused frame type, length or state. -/
  | sidebandNak (site type why : Nat)
  /-- SIDEBAND_RESEND (R263). An unacknowledged frame is resent after 10 µs idle, and the sideband fails after three resends. -/
  | sidebandResend (site : Nat)
  /-- SIDEBAND_ANSWER_TIMEOUT (R265). A frame needing an answer is unanswered for 1 ms and the site is dropped. -/
  | sidebandAnswerTimeout (site type : Nat)
  /-- DATA_RUN (R279). A run header and its DATA flits deliver stream data at OFFSET. -/
  | dataRun (site id offset : Nat) (data : List Byte)
  /-- CREDIT (R276). A CREDIT message returns credits to the hub's pools. -/
  | credit (site : Nat) (give : List Nat)
  /-- CREDIT_RETURN (R276). The hub sends a CREDIT message within 64 ns of the first unreturned credit. -/
  | creditReturn (site : Nat)
  /-- RD (R274). A site's uncached read is answered with RD_RESP. -/
  | siteRd (site tag : Nat) (addr : DWord)
  /-- WR (R274). A site's uncached write is applied under its byte mask and answered with WR_ACK. -/
  | siteWr (site tag : Nat) (addr mask : DWord) (line : List Byte)
  /-- SITE_CLT_ADD (R160). A site's CLT_OP ADD is applied after its earlier writes are visible. -/
  | siteCltAdd (site tag n : Nat) (v : Word)
  /-- SITE_CLT_SET (R160). A site's CLT_OP SET is applied after its earlier writes are visible. -/
  | siteCltSet (site tag n : Nat) (v : Word)
  /-- SITE_CLT_WAIT (R159). A site's CLT_OP WAIT is registered, or answered CLEAT_DENIED or CLEAT_BUSY. -/
  | siteCltWait (site tag cmp n : Nat) (v : Word) (tmo : Nat)
  /-- SITE_CLT_READ (R160). A site's CLT_OP READ is answered with the cleat value. -/
  | siteCltRead (site tag n : Nat)
  /-- SITE_CLT_WAIT_TIMEOUT (R160). A site's wait times out and is answered TIMEOUT with the value. -/
  | siteCltWaitTimeout (site tag : Nat)
  /-- TIME_RD (R167). A site reads a half of hub time under its path's shadow. -/
  | timeRd (site tag half : Nat)
  /-- OPEN_ACK (R278). The die's OPEN_ACK opens the stream or fails the descriptor SITE_ERR. -/
  | openAck (site tag status : Nat)
  /-- OPEN_ACK_TIMEOUT (R278). No OPEN_ACK within 100 µs completes STREAM_OPEN SITE_ERR and logs a WARNING. -/
  | openAckTimeout (site tag : Nat)
  /-- SITE_STREAM_CLOSE (R280). A STREAM_CLOSE from the site ends a stream with DONE, STOP or ABORT. -/
  | siteStreamClose (site tag : Nat) (toSite : Bool) (mode id : Nat)
  /-- CLOSE_ACK (R280). A CLOSE_ACK frees the stream ID and may complete its descriptor. -/
  | closeAck (site : Nat) (toSite : Bool) (id : Nat)
  /-- CALL_DONE (R282). A site's CALL_DONE completes the SITE_CALL with the status it carries. -/
  | callDone (site tag : Nat) (result : Word) (status energy : Nat)
  /-- ALLOW_ACK (R285). A site reports its power and energy, counted OVER if above its allowance. -/
  | allowAck (site power energy : Nat)
  /-- SITE_DROP (R286). A site is dropped: DROP is sent, its work ends, lines are handled and its domain lowered. -/
  | siteDrop (site why : Nat)
  /-- LOOPBACK_RUN (R288). A YDL_s_LB RUN starts a loopback test on an eligible module, quieting it first for LB_PAD. -/
  | loopbackRun (req : Path) (site : Nat) (v : Word)
  /-- LOOPBACK_END (R287). A loopback run ends after TIME, sets DONE and releases the module. -/
  | loopbackEnd (site : Nat) (fails : List Nat) (errs : List (Nat × Nat))
  /-- PORT_ENABLE (R289). A SER_PORT_p_CFG write with EN enables a port or marks it REFUSED. -/
  | portEnable (req : Path) (p : Nat) (v : Word)
  /-- PORT_DISABLE (R290). Writing 0 to SER_PORT_p_CFG disables the port and completes its lane descriptors LANE_DOWN. -/
  | portDisable (req : Path) (p : Nat)
  /-- LANE_SIGNAL_DETECT (R306). Signal detected for 1 ms moves a lane from SIGNAL_WAIT onward. -/
  | laneSignalDetect (l : Nat)
  /-- AN_COMPLETE (R293). Clause 73 auto-negotiation completes on the port's first lane. -/
  | anComplete (p : Nat) (ok : Bool)
  /-- AN_RETRY (R293). Failed auto-negotiation is retried every 500 ms. -/
  | anRetry (p : Nat)
  /-- LINK_TRAINING_COMPLETE (R306). PMD link training completes and the lane enters ADAPT. -/
  | linkTrainingComplete (l : Nat)
  /-- ADAPT_SETTLED (R307). Adaptation settles and the lane enters ALIGN. -/
  | adaptSettled (l snr8 : Nat)
  /-- ALIGN_LOCK (R306). CDR, block and FEC lock are reached and the lane goes UP. -/
  | alignLock (l : Nat)
  /-- LANE_STEP_TIMEOUT (R306). A lane step fails its limit and the lane returns to SIGNAL_WAIT. -/
  | laneStepTimeout (l : Nat)
  /-- LANE_SIGNAL_LOSS (R306). Loss of signal or lock for 2 ms returns an UP lane to SIGNAL_WAIT. -/
  | laneSignalLoss (l : Nat)
  /-- ADAPT_STEP (R307). In continuous mode one tap is moved by one step and kept only if FOM does not fall. -/
  | adaptStep (l snr8 : Nat)
  /-- FOM_UPDATE (R307). FOM is recomputed every 2^20 symbols. -/
  | fomUpdate (l snr8 : Nat)
  /-- FOM_LOW (R308). FOM below FOM_MIN for 1 s sets LOW and logs a WARNING. -/
  | fomLow (l : Nat)
  /-- ADAPT_RESTART (R307). Writing ADAPT.RESTART returns the lane to ADAPT. -/
  | adaptRestart (req : Path) (l : Nat)
  /-- EYE_SCAN_RUN (R309). Writing SCAN.RUN starts an eye-scan point on an UP or TEST lane, else sets REFUSED. -/
  | eyeScanRun (req : Path) (l : Nat) (v : Word)
  /-- EYE_SCAN_DONE (R309). A scan point's dwell ends and COUNT and DONE are set. -/
  | eyeScanDone (l count : Nat)
  /-- PRBS_CONFIG_WRITE (R310). A PRBS or loopback write on an eligible lane puts it in TEST, else it is ignored and logged. -/
  | prbsConfigWrite (req : Path) (l : Nat) (v : Word)
  /-- SLIP (R305). Writing RAW.SLIP delays the receive word boundary by one UI. -/
  | slip (req : Path) (l : Nat)
  /-- FRAME_RECEIVE (R294). An Ethernet frame is received, checked and held for the port or dropped and counted. -/
  | frameReceive (p : Nat) (data : List Byte) (back fixed lost : Nat)
  /-- PAUSE (R294). A received PAUSE frame stops transmission at the next frame boundary. -/
  | pause (p quanta : Nat)
  /-- PAUSE_REPEAT (R294). PAUSE is repeated every half quantum time while fill stays at or above T2. -/
  | pauseRepeat (p : Nat)
  /-- CREW_DATA (R299). A crew DATA frame is accepted in order, forwarded, or answered with NAK. -/
  | crewData (p lane src dst hops seq msg offset : Nat) (last : Bool) (data : List Byte) (good : Bool) (back : Nat) (fec : FecCount)
  /-- CREW_ACK (R299). A crew ACK frees stored frames, returns credit and updates RX_LANES. -/
  | crewAck (p seq credit lanes : Nat)
  /-- CREW_NAK (R299). A crew NAK resends from the expected LINK_SEQ, going DOWN after sixteen resends. -/
  | crewNak (p seq credit lanes : Nat)
  /-- CREW_ACK_TIMER (R299). The receiver sends an ACK at least every 1 µs while anything has changed. -/
  | crewAckTimer (p : Nat)
  /-- CREW_HELLO_TIMER (R314). The hub sends HELLO on every crew port every 1 ms before MUSTERED and every 16 ms after. -/
  | crewHelloTimer
  /-- CREW_HELLO (R316). A received HELLO judges the port and offers the peer's claim. -/
  | crewHello (p : Nat) (payload : List Byte)
  /-- CREW_PEER_TIMEOUT (R317). No HELLO for four peer intervals returns a JOINED port to WAIT. -/
  | crewPeerTimeout (p : Nat)
  /-- SYNC_LOSS (R319). No Sync on UPPORT for four sync intervals loses the leader and takes own claim at EPOCH + 1. -/
  | syncLoss
  /-- CLAIM_HOLD_DOWN_END (R319). Eight sync intervals after losing a leader, its claims may be adopted again. -/
  | claimHoldDownEnd (leader : Nat)
  /-- MUSTERED (R321). A claim unchanged for eight HELLO intervals makes the hub MUSTERED and sets DISC. -/
  | mustered
  /-- CREW_REMUSTER (R320). Writing CREW_CTRL.REMUSTER re-musters with EPOCH + 1. -/
  | crewRemuster (req : Path)
  /-- SYNC_SEND (R322). Each sync interval a MASTER port sends Sync and Follow_Up. -/
  | syncSend
  /-- PDELAY_REQ_SEND (R322). Each Pdelay interval the hub sends Pdelay_Req on every JOINED port. -/
  | pdelayReqSend
  /-- SYNC (R322). A Sync arrives on the SLAVE port, or is discarded on a MASTER port. -/
  | sync (p seq : Nat)
  /-- FOLLOW_UP (R323). A Follow_Up completes the offset, which steps or slews hub time and sets or clears TRUSTED. -/
  | followUp (p seq origin : Nat) (corr : Int)
  /-- PDELAY_REQ (R322). A received Pdelay_Req is answered with Pdelay_Resp and Pdelay_Resp_Follow_Up. -/
  | pdelayReq (p seq : Nat)
  /-- PDELAY_RESP (R322). A received Pdelay_Resp supplies the peer delay timestamps. -/
  | pdelayResp (p seq t2 : Nat)
  /-- PDELAY_RESP_FOLLOW_UP (R322). A received Pdelay_Resp_Follow_Up completes the peer delay measurement. -/
  | pdelayRespFollowUp (p seq t3 : Nat)
  /-- TRIM_EPOCH_START (R345). Every 250 µs the plan is applied, inputs snapshotted, the QP posted and allowances sent. -/
  | trimEpochStart (meas : List Nat) (hubStatic stackStatic : Nat)
  /-- TRIM_SOLVE_COMPLETE (R353). Trim's solve completes and the plan is accepted and projected or replaced by fallback. -/
  | trimSolveComplete (status iters us : Nat) (x : List Nat) (y : List Int)
  /-- SENSE_OUTPUT (R360). Every 8 µs a decimator yields an output, ending a scanning visit at the first valid one. -/
  | senseOutput (c code : Nat)
  /-- SENSE_TRIGGER (R361). A SNS_CONV_c.TRIG write latches a one-visit trigger, or counts an overrun. -/
  | senseTrigger (req : Path) (c : Nat) (v : Word)
  /-- SENSE_SYNC (R360). Writing SNS_CTRL.SYNC resets every decimator. -/
  | senseSync (req : Path)
  /-- THERMAL_TRIP_TIMEOUT (R363). A sensor still at or above TRIP_C + 5 °C 1 ms after the trip raises a FATAL event. -/
  | thermalTripTimeout
  /-- EXTEST (R376). Loading EXTEST removes boundary pins from functional logic. -/
  | extest
  /-- IDCODE (R374). Loading IDCODE selects the identification register. -/
  | idcode
  /-- SAMPLE (R375). Loading SAMPLE captures the boundary register. -/
  | sample (pins : Nat)
  /-- PRELOAD (R375). Loading PRELOAD at level 1 loads the boundary register. -/
  | preload (v : Nat)
  /-- CLAMP (R376). Loading CLAMP holds the boundary outputs and removes pins from function. -/
  | clamp
  /-- HIGHZ (R376). Loading HIGHZ floats the boundary outputs. -/
  | highz
  /-- EXTEST_PULSE (R376). Loading EXTEST_PULSE runs the 1149.6 pulse test on AC pins. -/
  | extestPulse
  /-- EXTEST_TRAIN (R376). Loading EXTEST_TRAIN runs the 1149.6 train test on AC pins. -/
  | extestTrain
  /-- HEDGE_REQ (R381). A level request draws a challenge and sets STATE to CHALLENGE, or is refused. -/
  | hedgeReq (req : Path) (v : Word)
  /-- HEDGE_CHAL (R375). The HEDGE_CHAL instruction selects the challenge registers for reading. -/
  | hedgeChal
  /-- HEDGE_RESP (R375). The HEDGE_RESP instruction selects the response registers for writing. -/
  | hedgeResp (words : List Word)
  /-- HEDGE_TOKEN (R375). The HEDGE_TOKEN instruction selects the token registers for writing. -/
  | hedgeToken (words : List Word)
  /-- HEDGE_GO (R381). GO submits response and token for checking by hardware and Masthead. -/
  | hedgeGo (req : Path) (v : Word)
  /-- HEDGE_STAT (R375). The HEDGE_STAT instruction selects the gate status register. -/
  | hedgeStat
  /-- HEDGE_VERIFY_COMPLETE (R381). Both checks finish and the raise proceeds to zeroisation or is refused. -/
  | hedgeVerifyComplete
  /-- ZEROISE_COMPLETE (R384). Zeroisation ends, LEVEL is raised, GRANTED set and a HEDGE record written. -/
  | zeroiseComplete
  /-- HEDGE_RESPONSE_TIMEOUT (R380). No GO within 60 s of the challenge refuses the attempt. -/
  | hedgeResponseTimeout
  /-- HEDGE_WINDOW_CLOSE (R380). 10 s after the PWRGOOD rise the request window closes. -/
  | hedgeWindowClose
  /-- TEST_REG (R375). The TEST_REG instruction gives 32-bit access to the TEST block at level 1. -/
  | testReg (write : Bool) (off : Nat) (v : Word)
  /-- SCAN_SHIFT (R377). A SCAN instruction ends normal operation, lowering every domain outside D0 before the first shift. -/
  | scanShift (op : Nat)
  /-- SCAN_CAPTURE (R377). SCAN_CAPTURE captures logic state into the scan chains at level 2. -/
  | scanCapture
  /-- BYPASS (R375). Loading BYPASS, or a denied opcode, selects the bypass register. -/
  | bypass (op : Nat)
  /-- TRST_N_ASSERT (R374). TRST_N resets the TAP to IDCODE and returns pins to functional use. -/
  | trstNAssert
  /-- FMAP_INDEX (R371). A TEST_FMAP_IDX write selects a fail-map entry into the data words. -/
  | fmapIndex (req : Path) (v : Word)
  /-- VIN_BELOW_WARN (R393). The VIN comparator crossing below VIN_WARN triggers a last gasp. -/
  | vinBelowWarn
  /-- LG_RECOVER (R395). VIN back above VIN_WARN + 2 V with PWRGOOD high for 1 ms resumes dispatch and logs a WARNING. -/
  | lgRecover
  /-- YEW_FLUSH (R389). A staged block is programmed when full, after FLUSH_S seconds, or on a FATAL record. -/
  | yewFlush
  /-- SECTOR_ERASE (R390). The oldest log sector is erased in the background to keep two erased sectors ahead. -/
  | sectorErase
  /-- BUCKET_REFILL (R391). The record token bucket refills at RATE, writing a SUPPRESSED record when room returns. -/
  | bucketRefill
  /-- MIRROR_COPY (R396). A programmed block is copied to the xSPI ring within 100 ms, stopping the mirror on failure. -/
  | mirrorCopy (good : Bool)
  /-- YEW_RD_SEQ (R397). A YEW_RD_SEQ write looks up a record by SEQ into YEW_RD_DATA. -/
  | yewRdSeq (req : Path) (v : Word)
  /-- SET_ENDPOINT_ID (R398). The MCTP responder assigns its endpoint ID. -/
  | setEndpointId (eid : Nat)
  /-- GET_ENDPOINT_ID (R398). The MCTP responder returns its endpoint ID. -/
  | getEndpointId
  /-- GET_MCTP_VERSION_SUPPORT (R398). The MCTP responder returns its version support. -/
  | getMctpVersionSupport
  /-- GET_MESSAGE_TYPE_SUPPORT (R398). The MCTP responder returns its supported message types. -/
  | getMessageTypeSupport
  /-- GET_VENDOR_DEFINED_MESSAGE_SUPPORT (R398). The MCTP responder returns its vendor-defined message support. -/
  | getVendorDefinedMessageSupport
  /-- GET_INFO (R398). GET_INFO returns the oldest and newest SEQ, GLB_RDY, hedge level and FATALS. -/
  | getInfo
  /-- READ (R398). READ returns 1 to 8 Yew records from a starting SEQ. -/
  | bmcRead (seq count : Nat)
  /-- STATE (R398). STATE returns the valid state-region copy in 248-byte pieces. -/
  | bmcState (piece : Nat)
  /-- GET_VERSION (R405). The mailbox command returns the Masthead version, slot and rollback count. -/
  | getVersion
  /-- YEW_MARK (R405). The mailbox command writes a MARK record with the firmware's 40 bytes. -/
  | yewMark
  /-- YEW_READ (R405). The mailbox command returns up to three records from a SEQ. -/
  | yewRead
  /-- PPR_REQUEST (R228). The mailbox command queues or cancels a hard post-package repair for a row. -/
  | pprRequest (noResource : Bool)
  /-- PPR_LIST (R405). The mailbox command returns the queued repair addresses. -/
  | pprList
  /-- SITE_MGMT_RD (R405). The mailbox command reads a site's management space over the sideband. -/
  | siteMgmtRd
  /-- IMAGE_STAGE (R405). The mailbox command writes image bytes into the inactive Masthead slot. -/
  | imageStage
  /-- MAILBOX_COMPLETE (R405). Masthead sets DONE with RESULT and RLEN and sends MAST_IRQ if enabled. -/
  | mailboxComplete
  /-- AT_TIME_REACHED (R137). Hub time reaches the AT_TIME of a held CLEAT_WAIT, whose admission checks then run again. -/
  | atTimeReached (n id : Nat)
  /-- DOMAIN_FAILED (R38). A domain that fails to reach ON in S2 is returned to OFF with outcome DOMAIN or DOMAIN_UNIT. -/
  | domainFailed (n : Nat)
  /-- SIDEBAND_CRC_ERROR (R263). A sideband frame received with a bad CRC-16 is not acknowledged and is counted in CRCERR. -/
  | sidebandCrcError (site : Nat)
  /-- SIDEBAND_UNKNOWN_TYPE (R263). A good sideband frame of an unknown TYPE is acknowledged and then answered with NAK. -/
  | sidebandUnknownType (site : Nat) (frame : SbHead)
  /-- UNLISTED_MSG (R273). A control message of an unlisted MSG, or sent in the wrong direction, is discarded, its credit returned and BADMSG counted. -/
  | unlistedMsg (site : Nat) (rsp : Bool) (flits : Nat)
  /-- CREW_FRAME_UNKNOWN_TYPE (R298). A crew frame whose TYPE is not DATA, ACK, NAK, HELLO or TIME is dropped and counted. -/
  | crewFrameUnknownType (p type : Nat)
  /-- RX_LANES_LOSS (R300). A crew lane that loses signal, block lock or FEC alignment, or shows uncorrectable codewords for 1 ms, leaves the receiver's RX_LANES. -/
  | rxLanesLoss (l fec : Nat)
  /-- QUIET_ACK_TIMEOUT (R288). QUIET_ACK not arriving within 100 µs refuses the LB_PAD loopback run. -/
  | quietAckTimeout (site : Nat)
  /-- PAUSE_QUANTA_EXPIRY (R294). The pause time set by a received PAUSE frame runs out and transmission resumes as Annex 31B defines. -/
  | pauseQuantaExpiry (p : Nat)
  /-- UNSUPPORTED_REQUEST (R108). A request to an address no BAR covers is answered Unsupported Request and reported through AER. -/
  | unsupportedRequest (fn : Nat) (posted : Bool)
  /-- POISONED_TLP_RECEIVED (R108). A poisoned TLP received by the hub is reported through AER against the requester's function. -/
  | poisonedTlpReceived (fn : Nat)
  /-- MALFORMED_TLP (R108). A malformed TLP is reported through AER against the function whose requester ID it carries. -/
  | malformedTlp (tlp : BadTlp)
deriving DecidableEq, Repr

end Sys2Proof
end

