-- ==== Sys2Proof/WellFormed.lean ====
section
/-!
DEFINITION. Which commands are well formed: their operands name units, offsets and field values that exist (R10, R27).
No agent can send a command that is not.
-/
namespace Sys2Proof


/-- Operands of REGISTER_WRITE. -/
def Ok.registerWrite (req : Path) (off bits : Nat) (_v : DWord) : Bool := req.wf && offOk off && sizeOk bits

/-- Operands of RC_FIELD_READ. -/
def Ok.rcFieldRead (req : Path) (off bits : Nat) : Bool := req.wf && offOk off && sizeOk bits

/-- Operands of LEVEL_PROTECTED_READ. -/
def Ok.levelProtectedRead (req : Path) (off : Nat) : Bool := req.wf && offOk off

/-- Operands of UNALIGNED_ACCESS. -/
def Ok.unalignedAccess (req : Path) (_write : Bool) (off bits : Nat) (_v : DWord) : Bool := req.wf && offOk off && sizeOk bits

/-- Operands of SHADOW_LOW_READ. -/
def Ok.shadowLowRead (path : Path) (off : Nat) : Bool := path.wf && offOk off

/-- Operands of SHADOW_HIGH_READ. -/
def Ok.shadowHighRead (path : Path) (off : Nat) : Bool := path.wf && offOk off

/-- Operands of LOCK. -/
def Ok.lock (req : Path) (_v : Word) : Bool := req.wf

/-- Operands of GLB_RST_WARM. -/
def Ok.glbRstWarm (req : Path) (_v : Word) : Bool := req.wf

/-- Operands of GLB_RST_HUB. -/
def Ok.glbRstHub (req : Path) (_v : Word) : Bool := req.wf

/-- Operands of PWRGOOD_RISE. -/
def Ok.pwrgoodRise (siteFit mtSel smbAddr : Nat) : Bool := decide (siteFit < 16) && decide (mtSel < 4) && decide (smbAddr < 4)

/-- Operands of PWRGOOD_FALL. -/
def Ok.pwrgoodFall : Bool := true

/-- Operands of PWRGOOD_LOW_FILTER_EXPIRY. -/
def Ok.pwrgoodLowFilterExpiry : Bool := true

/-- Operands of PERST_N_ASSERT. -/
def Ok.perstNAssert : Bool := true

/-- Operands of WARM_RESET. -/
def Ok.warmReset : Bool := true

/-- Operands of HUB_RESET. -/
def Ok.hubReset : Bool := true

/-- Operands of EMERGENCY_LOWER_WAVE. -/
def Ok.emergencyLowerWave : Bool := true

/-- Operands of PERST_N_DEASSERT. -/
def Ok.perstNDeassert : Bool := true

/-- Operands of D0_RESET. -/
def Ok.d0Reset (siteFit mtSel smbAddr : Nat) : Bool := decide (siteFit < 16) && decide (mtSel < 4) && decide (smbAddr < 4)

/-- Operands of REFCLK_LOSS. -/
def Ok.refclkLoss : Bool := true

/-- Operands of REFCLK_RETURN. -/
def Ok.refclkReturn : Bool := true

/-- Operands of SERIAL_REFCLK_TIMEOUT. -/
def Ok.serialRefclkTimeout : Bool := true

/-- Operands of LOCKSTEP_MISMATCH. -/
def Ok.lockstepMismatch : Bool := true

/-- Operands of WATCHDOG_EXPIRY. -/
def Ok.watchdogExpiry (cls unit : Nat) : Bool := unitNamed cls unit

/-- Operands of MASTHEAD_WATCHDOG. -/
def Ok.mastheadWatchdog : Bool := true

/-- Operands of FAULT_RESET_TIMEOUT. -/
def Ok.faultResetTimeout (cls unit : Nat) : Bool := unitNamed cls unit

/-- Operands of DOMAIN_REQ_HOLD_ON. -/
def Ok.domainReqHoldOn (req : Path) (n : Nat) : Bool := req.wf && decide (n < 74)

/-- Operands of DOMAIN_REQ_HOLD_OFF. -/
def Ok.domainReqHoldOff (req : Path) (n : Nat) : Bool := req.wf && decide (n < 74)

/-- Operands of DOMAIN_REQ_HUB. -/
def Ok.domainReqHub (req : Path) (n : Nat) : Bool := req.wf && decide (n < 74)

/-- Operands of DOMAIN_ADMIT. -/
def Ok.domainAdmit (n : Nat) : Bool := decide (n < 74)

/-- Operands of DOMAIN_TRANSITION_COMPLETE. -/
def Ok.domainTransitionComplete (n : Nat) : Bool := decide (n < 74)

/-- Operands of DOMAIN_LOWER_IDLE. -/
def Ok.domainLowerIdle (n : Nat) : Bool := decide (n < 74)

/-- Operands of DOMAIN_LOWER_ABANDON. -/
def Ok.domainLowerAbandon (n : Nat) : Bool := decide (n < 74)

/-- Operands of DROOP_TRIP. -/
def Ok.droopTrip (island _sagMv : Nat) : Bool := decide (island < 96)

/-- Operands of DROOP_RELEASE. -/
def Ok.droopRelease (island _sagMv : Nat) : Bool := decide (island < 96)

/-- Operands of REEF_TICK. -/
def Ok.reefTick (pin _hubAbove _stackTraffic _sensedDrop _knownDrop : Nat) : Bool := decide (pin < 65536)

/-- Operands of REEF_ENABLE. -/
def Ok.reefEnable (req : Path) (_v : Word) : Bool := req.wf

/-- Operands of REEF_DISABLE. -/
def Ok.reefDisable (req : Path) (_v : Word) : Bool := req.wf

/-- Operands of COV_SLEW_WRITE. -/
def Ok.covSlewWrite (req : Path) (_v : Word) : Bool := req.wf

/-- Operands of COV_STEP_WRITE. -/
def Ok.covStepWrite (req : Path) (_v : Word) : Bool := req.wf

/-- Operands of PMBUS_POLL. -/
def Ok.pmbusPoll (answers : List (List Nat)) : Bool := decide (answers.length ≤ 16) && answers.all (fun l => l.all fun w => decide (w < 65536))

/-- Operands of VOUT_COMMAND. -/
def Ok.voutCommand (_up : Bool) : Bool := true

/-- Operands of VHOLD_READY. -/
def Ok.vholdReady (mv : Nat) : Bool := decide (mv < 8192)

/-- Operands of STAGE_S1. -/
def Ok.stageS1 (images : List (Bool × Nat)) : Bool := images.all fun e => decide (e.2 < 4294967296)

/-- Operands of STAGE_S2. -/
def Ok.stageS2 : Bool := true

/-- Operands of STAGE_S3. -/
def Ok.stageS3 : Bool := true

/-- Operands of STAGE_S4. -/
def Ok.stageS4 (present cap36 : Nat) : Bool := decide (present < 64) && decide (cap36 < 64)

/-- Operands of STAGE_S5. -/
def Ok.stageS5 : Bool := true

/-- Operands of STAGE_S6. -/
def Ok.stageS6 : Bool := true

/-- Operands of STAGE_S7. -/
def Ok.stageS7 : Bool := true

/-- Operands of STAGE_S8. -/
def Ok.stageS8 : Bool := true

/-- Operands of STAGE_S9. -/
def Ok.stageS9 (image : List Byte) : Bool := decide (image.length ≤ 268435456)

/-- Operands of STAGE_S10. -/
def Ok.stageS10 : Bool := true

/-- Operands of READY_SET. -/
def Ok.readySet (meas : List Nat) (hubStatic stackStatic : Nat) : Bool := decide (meas.length = 36) && meas.all (fun m => decide (m < 4096)) && decide (hubStatic < 4096) && decide (stackStatic < 4096)

/-- Operands of READINESS_PEND_SEND. -/
def Ok.readinessPendSend : Bool := true

/-- Operands of STAGE_LIMIT_EXPIRY. -/
def Ok.stageLimitExpiry : Bool := true

/-- Operands of BOOT_PROFILE_WRITE. -/
def Ok.bootProfileWrite (req : Path) (_v : Word) : Bool := req.wf

/-- Operands of LBIST_SLICE_END. -/
def Ok.lbistSliceEnd (_us sig : Nat) (_good : Bool) : Bool := decide (sig < 18446744073709551616)

/-- Operands of LBIST_SLICE_TIMEOUT. -/
def Ok.lbistSliceTimeout : Bool := true

/-- Operands of STACK_TRAINING_COMPLETE. -/
def Ok.stackTrainingComplete (stack code chan rate lanes _raaimt _raammt pprGood : Nat) : Bool := decide (stack < 6) && (code == 1 || code == 4 || code == 5) && decide (chan < 16) && decide (1 ≤ rate) && decide (rate ≤ 6) && decide (lanes < 256) && decide (pprGood < 16)

/-- Operands of MEMORY_TEST_ELEMENT_END. -/
def Ok.memoryTestElementEnd (banks : List Nat) (rows : List (Nat × Bool)) (entries : List (Nat × Nat × Nat × Nat)) : Bool := (banks.all fun p => decide (p < 1600)) && (rows.all fun e => decide (e.1 < 268435456)) && (entries.all fun e => decide (e.1 < 2) && decide (e.2.1 < 4294967296) && decide (e.2.2.1 < 4294967296) && decide (e.2.2.2 < 4294967296))

/-- Operands of WAVE_GRANT. -/
def Ok.waveGrant (site : Nat) : Bool := decide (site < 4)

/-- Operands of WAVE_DONE. -/
def Ok.waveDone (site up : Nat) : Bool := decide (site < 4) && decide (up < 65536)

/-- Operands of WAVE_TIMEOUT. -/
def Ok.waveTimeout (site : Nat) : Bool := decide (site < 4)

/-- Operands of BOOT_FW_GO. -/
def Ok.bootFwGo (req : Path) (_v : Word) (image : List Byte) : Bool := req.wf && decide (image.length ≤ 268435456)

/-- Operands of FW_WAIT_TIMEOUT. -/
def Ok.fwWaitTimeout : Bool := true

/-- Operands of KNOWN_ANSWER_COMPLETE. -/
def Ok.knownAnswerComplete (t p : Nat) (_good : Bool) : Bool := decide (t < 3) && decide (p < (if t = 0 then 68 else if t = 1 then 18 else 48))

/-- Operands of KNOWN_ANSWER_TIMEOUT. -/
def Ok.knownAnswerTimeout (t p : Nat) : Bool := decide (t < 3) && decide (p < (if t = 0 then 68 else if t = 1 then 18 else 48))

/-- Operands of KAR_DIGEST. -/
def Ok.karDigest (site : Nat) (digest : List Byte) : Bool := decide (site < 4) && decide (digest.length = 48)

/-- Operands of MAP_CMD_RETIRE. -/
def Ok.mapCmdRetire (req : Path) (_v : Word) : Bool := req.wf

/-- Operands of MAP_CMD_READMIT. -/
def Ok.mapCmdReadmit (req : Path) (_v : Word) : Bool := req.wf

/-- Operands of BANK_COPY_COMPLETE. -/
def Ok.bankCopyComplete : Bool := true

/-- Operands of MAP_EPOCH_ADOPT. -/
def Ok.mapEpochAdopt (_old : Nat) : Bool := true

/-- Operands of MAP_EPOCH_DRAIN_END. -/
def Ok.mapEpochDrainEnd : Bool := true

/-- Operands of MAP_DRAIN_TIMEOUT. -/
def Ok.mapDrainTimeout (cls unit : Nat) : Bool := (cls == 1 && decide (unit < 256)) || (cls == 2 && decide (unit < 64))

/-- Operands of QUARANTINE_END. -/
def Ok.quarantineEnd : Bool := true

/-- Operands of READMISSION_TEST_END. -/
def Ok.readmissionTestEnd (_pass : Bool) : Bool := true

/-- Operands of READMISSION_TEST_TIMEOUT. -/
def Ok.readmissionTestTimeout : Bool := true

/-- Operands of MAP_LOOKUP. -/
def Ok.mapLookup (req : Path) (_v : Word) : Bool := req.wf

/-- Operands of CONFIG_REQUEST. -/
def Ok.configRequest (fn : Nat) (_what : CfgReq) : Bool := decide (fn < 32)

/-- Operands of PCIE_LINK_UP. -/
def Ok.pcieLinkUp (rate width : Nat) (_flit : Bool) : Bool := decide (1 ≤ rate) && decide (rate ≤ 6) && [1, 2, 4, 8, 16].contains width

/-- Operands of BAR4_READ. -/
def Ok.bar4Read (off n : Nat) : Bool := decide (off < 2 ^ 36) && decide (1 ≤ n) && decide (off % 4096 + n ≤ 4096)

/-- Operands of BAR4_WRITE. -/
def Ok.bar4Write (off : Nat) (data : List Byte) : Bool := decide (off < 2 ^ 36) && decide (1 ≤ data.length) && decide (data.length ≤ 512) && decide (off % 4096 + data.length ≤ 4096)

/-- Operands of HOST_DMA_ERROR. -/
def Ok.hostDmaError (n _id what : Nat) (_poisoned : Bool) : Bool := decide (n < 256) && decide (what < 4)

/-- Operands of PF_FLR. -/
def Ok.pfFlr : Bool := true

/-- Operands of VF_FLR. -/
def Ok.vfFlr (k : Nat) : Bool := decide (k < 31)

/-- Operands of VF_ENABLE_CHANGE. -/
def Ok.vfEnableChange (_enable : Bool) (num : Nat) : Bool := decide (num ≤ 31)

/-- Operands of VF_WINDOW_WRITE. -/
def Ok.vfWindowWrite (req : Path) (k w : Nat) (_v : Word) : Bool := req.wf && decide (k < 31) && decide (w < 4)

/-- Operands of RING_OWNER_WRITE. -/
def Ok.ringOwnerWrite (req : Path) (n : Nat) (_v : Word) : Bool := req.wf && decide (n < 256)

/-- Operands of RING_ENABLE. -/
def Ok.ringEnable (req : Path) (n : Nat) : Bool := req.wf && decide (n < 256)

/-- Operands of RING_RESET. -/
def Ok.ringReset (req : Path) (n : Nat) : Bool := req.wf && decide (n < 256)

/-- Operands of RING_RESET_COMPLETE. -/
def Ok.ringResetComplete (n : Nat) : Bool := decide (n < 256)

/-- Operands of SUBMISSION_DOORBELL. -/
def Ok.submissionDoorbell (req : Path) (page : Nat) (_v : Word) : Bool := req.wf && decide (page < 256)

/-- Operands of COMPLETION_RELEASE. -/
def Ok.completionRelease (req : Path) (page : Nat) (_v : Word) : Bool := req.wf && decide (page < 256)

/-- Operands of RING_HALT_ENTRY. -/
def Ok.ringHaltEntry (n : Nat) : Bool := decide (n < 256)

/-- Operands of DESCRIPTOR_FETCH. -/
def Ok.descriptorFetch (n : Nat) (_host : List Byte) : Bool := decide (n < 256)

/-- Operands of DESCRIPTOR_COMPLETE. -/
def Ok.descriptorComplete (n _id _energy _peak _mean _drop : Nat) (_host : List Byte) : Bool := decide (n < 256)

/-- Operands of MODERATION_TIMER_EXPIRY. -/
def Ok.moderationTimerExpiry (n : Nat) : Bool := decide (n < 256)

/-- Operands of VECTOR_UNMASK. -/
def Ok.vectorUnmask (fn vec : Nat) : Bool := decide (fn < 32) && decide (vec < 264) && (fn == 0 || decide (vec < 8))

/-- Operands of BUS_MASTER_DISABLE. -/
def Ok.busMasterDisable (fn : Nat) (_d3hot : Bool) : Bool := decide (fn < 32)

/-- Operands of BUS_MASTER_ENABLE. -/
def Ok.busMasterEnable (fn : Nat) : Bool := decide (fn < 32)

/-- Operands of NOP. -/
def Ok.nop (n _id : Nat) : Bool := decide (n < 256)

/-- Operands of COPY. -/
def Ok.copy (n _id _limit : Nat) (_host : List Byte) : Bool := decide (n < 256)

/-- Operands of FILL. -/
def Ok.fill (n _id _limit : Nat) : Bool := decide (n < 256)

/-- Operands of GATHER. -/
def Ok.gather (n _id _limit : Nat) (_host : List Byte) : Bool := decide (n < 256)

/-- Operands of SCATTER. -/
def Ok.scatter (n _id _limit : Nat) (_host : List Byte) : Bool := decide (n < 256)

/-- Operands of STREAM_OPEN. -/
def Ok.streamOpen (n _id : Nat) : Bool := decide (n < 256)

/-- Operands of STREAM_CLOSE. -/
def Ok.streamClose (n _id : Nat) : Bool := decide (n < 256)

/-- Operands of SITE_CALL. -/
def Ok.siteCall (n _id : Nat) : Bool := decide (n < 256)

/-- Operands of CLEAT_WAIT. -/
def Ok.cleatWait (n _id : Nat) : Bool := decide (n < 256)

/-- Operands of CLEAT_SIGNAL. -/
def Ok.cleatSignal (n _id : Nat) : Bool := decide (n < 256)

/-- Operands of FENCE. -/
def Ok.fence (n _id : Nat) : Bool := decide (n < 256)

/-- Operands of BOUNDARY. -/
def Ok.boundary (n _id : Nat) : Bool := decide (n < 256)

/-- Operands of SOLVE_SETUP. -/
def Ok.solveSetup (n _id : Nat) : Bool := decide (n < 256)

/-- Operands of SOLVE_PATCH. -/
def Ok.solvePatch (n _id : Nat) : Bool := decide (n < 256)

/-- Operands of SOLVE_RUN. -/
def Ok.solveRun (n _id : Nat) : Bool := decide (n < 256)

/-- Operands of LANE_SEND. -/
def Ok.laneSend (n _id _limit : Nat) (_host : List Byte) : Bool := decide (n < 256)

/-- Operands of LANE_RECV. -/
def Ok.laneRecv (n _id : Nat) : Bool := decide (n < 256)

/-- Operands of BUDGET_HINT. -/
def Ok.budgetHint (n _id : Nat) : Bool := decide (n < 256)

/-- Operands of HINT_LAPSE. -/
def Ok.hintLapse (n pool : Nat) : Bool := decide (n < 256) && decide (pool < 5)

/-- Operands of DEADLINE_EXPIRY. -/
def Ok.deadlineExpiry (n _id : Nat) : Bool := decide (n < 256)

/-- Operands of CALL_STOP_TIMEOUT. -/
def Ok.callStopTimeout (site _tag : Nat) : Bool := decide (site < 4)

/-- Operands of CLEAT_WAIT_TIMEOUT. -/
def Ok.cleatWaitTimeout (n _id : Nat) : Bool := decide (n < 256)

/-- Operands of CREDIT_HOLD_WARN. -/
def Ok.creditHoldWarn (n _id : Nat) : Bool := decide (n < 256)

/-- Operands of CLT_SET. -/
def Ok.cltSet (req : Path) (n : Nat) (_v : Word) : Bool := req.wf && decide (n < 4096)

/-- Operands of CLT_ADD. -/
def Ok.cltAdd (req : Path) (n : Nat) (_v : Word) : Bool := req.wf && decide (n < 4096)

/-- Operands of CLT_CLEAR. -/
def Ok.cltClear (req : Path) (_v : Word) : Bool := req.wf

/-- Operands of WATCH_ARM. -/
def Ok.watchArm (req : Path) (w : Nat) (_v : Word) : Bool := req.wf && decide (w < 64)

/-- Operands of WATCH_CANCEL. -/
def Ok.watchCancel (req : Path) (w : Nat) (_v : Word) : Bool := req.wf && decide (w < 64)

/-- Operands of WATCH_TIMEOUT. -/
def Ok.watchTimeout (w : Nat) : Bool := decide (w < 64)

/-- Operands of TIME_SET. -/
def Ok.timeSet (req : Path) (_v : Word) : Bool := req.wf

/-- Operands of TIME_SLEW. -/
def Ok.timeSlew (req : Path) (_v : Word) : Bool := req.wf

/-- Operands of TIME_ADJ. -/
def Ok.timeAdj (req : Path) (_v : Word) : Bool := req.wf

/-- Operands of TIME_EVT_SEL. -/
def Ok.timeEvtSel (req : Path) (n : Nat) (_v : Word) : Bool := req.wf && decide (n < 16)

/-- Operands of WINDOW_ENABLE. -/
def Ok.windowEnable (req : Path) (w : Nat) : Bool := req.wf && decide (w < 8)

/-- Operands of WINDOW_ENABLE_COMPLETE. -/
def Ok.windowEnableComplete (w : Nat) : Bool := decide (w < 8)

/-- Operands of WINDOW_DISABLE. -/
def Ok.windowDisable (req : Path) (w : Nat) : Bool := req.wf && decide (w < 8)

/-- Operands of WINDOW_DISABLE_COMPLETE. -/
def Ok.windowDisableComplete (w : Nat) : Bool := decide (w < 8)

/-- Operands of RD_SHARED. -/
def Ok.rdShared (site _tag : Nat) (_addr : DWord) : Bool := decide (site < 4)

/-- Operands of RD_OWN. -/
def Ok.rdOwn (site _tag : Nat) (_addr : DWord) : Bool := decide (site < 4)

/-- Operands of UPGRADE. -/
def Ok.upgrade (site _tag : Nat) (_addr : DWord) : Bool := decide (site < 4)

/-- Operands of WB_DIRTY. -/
def Ok.wbDirty (site _tag : Nat) (_addr : DWord) (line : List Byte) : Bool := decide (site < 4) && decide (line.length = 64)

/-- Operands of EVICT_CLEAN. -/
def Ok.evictClean (site _tag : Nat) (_addr : DWord) : Bool := decide (site < 4)

/-- Operands of RECALL_ACK. -/
def Ok.recallAck (site _tag : Nat) (_addr : DWord) : Bool := decide (site < 4)

/-- Operands of RECALL_DATA. -/
def Ok.recallData (site _tag : Nat) (_addr : DWord) (line : List Byte) : Bool := decide (site < 4) && decide (line.length = 64)

/-- Operands of NON_CACHING_READ. -/
def Ok.nonCachingRead (req _off n : Nat) : Bool := decide (req < 0x5000) && decide (1 ≤ n) && decide (n ≤ 4096)

/-- Operands of NON_CACHING_WRITE. -/
def Ok.nonCachingWrite (req _off : Nat) (data : List Byte) : Bool := decide (req < 0x5000) && decide (1 ≤ data.length) && decide (data.length ≤ 4096)

/-- Operands of RECALL_TIMEOUT. -/
def Ok.recallTimeout (site _line : Nat) : Bool := decide (site < 4)

/-- Operands of DIR_QUERY. -/
def Ok.dirQuery (req : Path) (_v : Word) : Bool := req.wf

/-- Operands of REFRESH. -/
def Ok.refresh (stack q bank how : Nat) : Bool := decide (stack < 6) && decide (q < 32) && decide (bank < 48) && decide (how < 3)

/-- Operands of SCHEDULE_COMMAND. -/
def Ok.scheduleCommand (stack q : Nat) (_busy : List Nat) : Bool := decide (stack < 6) && decide (q < 32)

/-- Operands of CA_PARITY_ERROR. -/
def Ok.caParityError (stack : Nat) (_again : Bool) : Bool := decide (stack < 6)

/-- Operands of STACK_TEMP_READ. -/
def Ok.stackTempRead (stack : Nat) (_ok : Bool) (temp : Nat) : Bool := decide (stack < 6) && decide (temp < 256)

/-- Operands of POWER_DOWN_ENTRY. -/
def Ok.powerDownEntry (stack q : Nat) : Bool := decide (stack < 6) && decide (q < 32)

/-- Operands of SHEET_UPDATE. -/
def Ok.sheetUpdate : Bool := true

/-- Operands of FLOOR_WRITE. -/
def Ok.floorWrite (req : Path) (c : Nat) (_v : Word) : Bool := req.wf && decide (c < 7)

/-- Operands of TELLTALE_THRESHOLD_WRITE. -/
def Ok.telltaleThresholdWrite (req : Path) (m : Nat) (_v : Word) : Bool := req.wf && decide (m < 13)

/-- Operands of TELLTALE_LEVEL_CHANGE. -/
def Ok.telltaleLevelChange (m fill : Nat) : Bool := decide (4 ≤ m) && decide (m < 13) && decide (fill ≤ 100)

/-- Operands of TELLTALE_WINDOW. -/
def Ok.telltaleWindow : Bool := true

/-- Operands of DRAM_SCRUB_READ. -/
def Ok.dramScrubRead : Bool := true

/-- Operands of BUF_SCRUB_READ. -/
def Ok.bufScrubRead : Bool := true

/-- Operands of RAS_CONS_WRITE. -/
def Ok.rasConsWrite (req : Path) (_v : Word) : Bool := req.wf

/-- Operands of FLIP_ARM. -/
def Ok.flipArm (req : Path) (_v : Word) : Bool := req.wf

/-- Operands of FLIP_DISARM. -/
def Ok.flipDisarm (req : Path) (_v : Word) : Bool := req.wf

/-- Operands of CE_HOURLY. -/
def Ok.ceHourly : Bool := true

/-- Operands of FLIT_RECEIVE. -/
def Ok.flitReceive (site module v k : Nat) (payload : List Byte) : Bool := decide (site < 4) && decide (module < 34) && decide (v < 256) && decide (k < 4294967296) && decide (payload.length = 64)

/-- Operands of ACK. -/
def Ok.ack (site first mset : Nat) (entries : List (Nat × Nat)) : Bool := decide (site < 4) && (first == 0 || first == 16) && decide (entries.length = 16) && decide (mset < 256)

/-- Operands of ACK_INTERVAL. -/
def Ok.ackInterval (site : Nat) : Bool := decide (site < 4)

/-- Operands of REPLAY_START. -/
def Ok.replayStart (site module seq mset : Nat) : Bool := decide (site < 4) && decide (module < 34) && decide (seq < 64) && decide (mset < 256)

/-- Operands of REPLAY_TIMEOUT. -/
def Ok.replayTimeout (site module : Nat) : Bool := decide (site < 4) && decide (module < 34)

/-- Operands of DRIFT_UPDATE. -/
def Ok.driftUpdate (site module : Nat) (_up : Bool) : Bool := decide (site < 4) && decide (module < 34)

/-- Operands of TEST. -/
def Ok.moduleTest (site module : Nat) (_good : Bool) : Bool := decide (site < 4) && decide (module < 34)

/-- Operands of DROP_REQ. -/
def Ok.dropReq (site module mset xr cause : Nat) : Bool := decide (site < 4) && decide (module < 34) && decide (mset < 256) && decide (xr < 4294967296) && (cause == 1 || cause == 2)

/-- Operands of DROP_ACK. -/
def Ok.dropAck (site module mset xr : Nat) : Bool := decide (site < 4) && decide (module < 34) && decide (mset < 256) && decide (xr < 4294967296)

/-- Operands of DROP_REQ_REPEAT. -/
def Ok.dropReqRepeat (site : Nat) : Bool := decide (site < 4)

/-- Operands of SPARE_PROPOSAL. -/
def Ok.spareProposal (site : Nat) : Bool := decide (site < 4)

/-- Operands of SET_ACCEPT. -/
def Ok.setAccept (site xd : Nat) : Bool := decide (site < 4) && decide (xd < 4294967296)

/-- Operands of MSET_SWITCH. -/
def Ok.msetSwitch (site : Nat) (_tx : Bool) : Bool := decide (site < 4)

/-- Operands of SIDEBAND_HELLO. -/
def Ok.sidebandHello (site : Nat) : Bool := decide (site < 4)

/-- Operands of HELLO_ACK. -/
def Ok.helloAck (site : Nat) : Bool := decide (site < 4)

/-- Operands of IDENT. -/
def Ok.ident (site : Nat) (payload : List Byte) : Bool := decide (site < 4) && decide (payload.length ≤ 48)

/-- Operands of NEG_ACK. -/
def Ok.negAck (site : Nat) (_accept : Bool) : Bool := decide (site < 4)

/-- Operands of TRAIN_RES. -/
def Ok.trainRes (site step _pass : Nat) : Bool := decide (site < 4) && decide (step < 256)

/-- Operands of TRAIN_STEP_LIMIT. -/
def Ok.trainStepLimit (site _pass : Nat) (_eyes : List (Nat × Nat × Nat × Nat)) : Bool := decide (site < 4)

/-- Operands of LINK_UP. -/
def Ok.linkUp : Bool := true

/-- Operands of QUIET_ACK. -/
def Ok.quietAck (site module : Nat) (_quiet : Bool) : Bool := decide (site < 4) && decide (module < 34)

/-- Operands of MGMT_DATA. -/
def Ok.mgmtData (site _addr : Nat) (_v : Word) : Bool := decide (site < 4)

/-- Operands of SIDEBAND_NAK. -/
def Ok.sidebandNak (site _type why : Nat) : Bool := decide (site < 4) && decide (why < 256)

/-- Operands of SIDEBAND_RESEND. -/
def Ok.sidebandResend (site : Nat) : Bool := decide (site < 4)

/-- Operands of SIDEBAND_ANSWER_TIMEOUT. -/
def Ok.sidebandAnswerTimeout (site _type : Nat) : Bool := decide (site < 4)

/-- Operands of DATA_RUN. -/
def Ok.dataRun (site id _offset : Nat) (data : List Byte) : Bool := decide (site < 4) && decide (id < 65536) && decide (64 ≤ data.length) && decide (data.length ≤ 16320) && decide (data.length % 64 = 0)

/-- Operands of CREDIT. -/
def Ok.credit (site : Nat) (give : List Nat) : Bool := decide (site < 4) && decide (give.length = 6) && give.all (fun n => decide (n < 65536))

/-- Operands of CREDIT_RETURN. -/
def Ok.creditReturn (site : Nat) : Bool := decide (site < 4)

/-- Operands of RD. -/
def Ok.siteRd (site _tag : Nat) (_addr : DWord) : Bool := decide (site < 4)

/-- Operands of WR. -/
def Ok.siteWr (site _tag : Nat) (_addr _mask : DWord) (line : List Byte) : Bool := decide (site < 4) && decide (line.length = 64)

/-- Operands of SITE_CLT_ADD. -/
def Ok.siteCltAdd (site _tag n : Nat) (_v : Word) : Bool := decide (site < 4) && decide (n < 65536)

/-- Operands of SITE_CLT_SET. -/
def Ok.siteCltSet (site _tag n : Nat) (_v : Word) : Bool := decide (site < 4) && decide (n < 65536)

/-- Operands of SITE_CLT_WAIT. -/
def Ok.siteCltWait (site _tag cmp n : Nat) (_v : Word) (tmo : Nat) : Bool := decide (site < 4) && decide (n < 65536) && decide (cmp < 256) && decide (tmo < 65536)

/-- Operands of SITE_CLT_READ. -/
def Ok.siteCltRead (site _tag n : Nat) : Bool := decide (site < 4) && decide (n < 65536)

/-- Operands of SITE_CLT_WAIT_TIMEOUT. -/
def Ok.siteCltWaitTimeout (site _tag : Nat) : Bool := decide (site < 4)

/-- Operands of TIME_RD. -/
def Ok.timeRd (site _tag half : Nat) : Bool := decide (site < 4) && decide (half < 2)

/-- Operands of OPEN_ACK. -/
def Ok.openAck (site _tag status : Nat) : Bool := decide (site < 4) && decide (status < 256)

/-- Operands of OPEN_ACK_TIMEOUT. -/
def Ok.openAckTimeout (site _tag : Nat) : Bool := decide (site < 4)

/-- Operands of SITE_STREAM_CLOSE. -/
def Ok.siteStreamClose (site _tag : Nat) (_toSite : Bool) (mode _id : Nat) : Bool := decide (site < 4) && decide (mode < 3)

/-- Operands of CLOSE_ACK. -/
def Ok.closeAck (site : Nat) (_toSite : Bool) (_id : Nat) : Bool := decide (site < 4)

/-- Operands of CALL_DONE. -/
def Ok.callDone (site _tag : Nat) (_result : Word) (status _energy : Nat) : Bool := decide (site < 4) && decide (status < 65536)

/-- Operands of ALLOW_ACK. -/
def Ok.allowAck (site power _energy : Nat) : Bool := decide (site < 4) && decide (power < 65536)

/-- Operands of SITE_DROP. -/
def Ok.siteDrop (site why : Nat) : Bool := decide (site < 4) && decide (why < 16)

/-- Operands of LOOPBACK_RUN. -/
def Ok.loopbackRun (req : Path) (site : Nat) (_v : Word) : Bool := req.wf && decide (site < 4)

/-- Operands of LOOPBACK_END. -/
def Ok.loopbackEnd (site : Nat) (_fails : List Nat) (_errs : List (Nat × Nat)) : Bool := decide (site < 4)

/-- Operands of PORT_ENABLE. -/
def Ok.portEnable (req : Path) (p : Nat) (_v : Word) : Bool := req.wf && decide (p < 32)

/-- Operands of PORT_DISABLE. -/
def Ok.portDisable (req : Path) (p : Nat) : Bool := req.wf && decide (p < 32)

/-- Operands of LANE_SIGNAL_DETECT. -/
def Ok.laneSignalDetect (l : Nat) : Bool := decide (l < 32)

/-- Operands of AN_COMPLETE. -/
def Ok.anComplete (p : Nat) (_ok : Bool) : Bool := decide (p < 32)

/-- Operands of AN_RETRY. -/
def Ok.anRetry (p : Nat) : Bool := decide (p < 32)

/-- Operands of LINK_TRAINING_COMPLETE. -/
def Ok.linkTrainingComplete (l : Nat) : Bool := decide (l < 32)

/-- Operands of ADAPT_SETTLED. -/
def Ok.adaptSettled (l _snr8 : Nat) : Bool := decide (l < 32)

/-- Operands of ALIGN_LOCK. -/
def Ok.alignLock (l : Nat) : Bool := decide (l < 32)

/-- Operands of LANE_STEP_TIMEOUT. -/
def Ok.laneStepTimeout (l : Nat) : Bool := decide (l < 32)

/-- Operands of LANE_SIGNAL_LOSS. -/
def Ok.laneSignalLoss (l : Nat) : Bool := decide (l < 32)

/-- Operands of ADAPT_STEP. -/
def Ok.adaptStep (l _snr8 : Nat) : Bool := decide (l < 32)

/-- Operands of FOM_UPDATE. -/
def Ok.fomUpdate (l _snr8 : Nat) : Bool := decide (l < 32)

/-- Operands of FOM_LOW. -/
def Ok.fomLow (l : Nat) : Bool := decide (l < 32)

/-- Operands of ADAPT_RESTART. -/
def Ok.adaptRestart (req : Path) (l : Nat) : Bool := req.wf && decide (l < 32)

/-- Operands of EYE_SCAN_RUN. -/
def Ok.eyeScanRun (req : Path) (l : Nat) (_v : Word) : Bool := req.wf && decide (l < 32)

/-- Operands of EYE_SCAN_DONE. -/
def Ok.eyeScanDone (l _count : Nat) : Bool := decide (l < 32)

/-- Operands of PRBS_CONFIG_WRITE. -/
def Ok.prbsConfigWrite (req : Path) (l : Nat) (_v : Word) : Bool := req.wf && decide (l < 32)

/-- Operands of SLIP. -/
def Ok.slip (req : Path) (l : Nat) : Bool := req.wf && decide (l < 32)

/-- Operands of FRAME_RECEIVE. -/
def Ok.frameReceive (p : Nat) (_data : List Byte) (_back _fixed _lost : Nat) : Bool := decide (p < 32)

/-- Operands of PAUSE. -/
def Ok.pause (p quanta : Nat) : Bool := decide (p < 32) && decide (quanta < 65536)

/-- Operands of PAUSE_REPEAT. -/
def Ok.pauseRepeat (p : Nat) : Bool := decide (p < 32)

/-- Operands of CREW_DATA. -/
def Ok.crewData (p lane src dst hops seq msg offset : Nat) (_last : Bool) (data : List Byte) (_good : Bool) (_back : Nat) (_fec : FecCount) : Bool := decide (p < 32) && decide (lane < 8) && decide (src < 256) && decide (dst < 256) && decide (hops < 16) && decide (seq < 65536) && decide (msg < 4294967296) && decide (offset < 4294967296) && decide (data.length ≤ 8192)

/-- Operands of CREW_ACK. -/
def Ok.crewAck (p seq credit lanes : Nat) : Bool := decide (p < 32) && decide (seq < 65536) && decide (credit < 4294967296) && decide (lanes < 256)

/-- Operands of CREW_NAK. -/
def Ok.crewNak (p seq credit lanes : Nat) : Bool := decide (p < 32) && decide (seq < 65536) && decide (credit < 4294967296) && decide (lanes < 256)

/-- Operands of CREW_ACK_TIMER. -/
def Ok.crewAckTimer (p : Nat) : Bool := decide (p < 32)

/-- Operands of CREW_HELLO_TIMER. -/
def Ok.crewHelloTimer : Bool := true

/-- Operands of CREW_HELLO. -/
def Ok.crewHello (p : Nat) (payload : List Byte) : Bool := decide (p < 32) && decide (payload.length = 48)

/-- Operands of CREW_PEER_TIMEOUT. -/
def Ok.crewPeerTimeout (p : Nat) : Bool := decide (p < 32)

/-- Operands of SYNC_LOSS. -/
def Ok.syncLoss : Bool := true

/-- Operands of CLAIM_HOLD_DOWN_END. -/
def Ok.claimHoldDownEnd (leader : Nat) : Bool := decide (leader < 256)

/-- Operands of MUSTERED. -/
def Ok.mustered : Bool := true

/-- Operands of CREW_REMUSTER. -/
def Ok.crewRemuster (req : Path) : Bool := req.wf

/-- Operands of SYNC_SEND. -/
def Ok.syncSend : Bool := true

/-- Operands of PDELAY_REQ_SEND. -/
def Ok.pdelayReqSend : Bool := true

/-- Operands of SYNC. -/
def Ok.sync (p seq : Nat) : Bool := decide (p < 32) && decide (seq < 65536)

/-- Operands of FOLLOW_UP. -/
def Ok.followUp (p seq _origin : Nat) (_corr : Int) : Bool := decide (p < 32) && decide (seq < 65536)

/-- Operands of PDELAY_REQ. -/
def Ok.pdelayReq (p seq : Nat) : Bool := decide (p < 32) && decide (seq < 65536)

/-- Operands of PDELAY_RESP. -/
def Ok.pdelayResp (p seq _t2 : Nat) : Bool := decide (p < 32) && decide (seq < 65536)

/-- Operands of PDELAY_RESP_FOLLOW_UP. -/
def Ok.pdelayRespFollowUp (p seq _t3 : Nat) : Bool := decide (p < 32) && decide (seq < 65536)

/-- Operands of TRIM_EPOCH_START. -/
def Ok.trimEpochStart (meas : List Nat) (hubStatic stackStatic : Nat) : Bool := decide (meas.length = 36) && meas.all (fun m => decide (m < 4096)) && decide (hubStatic < 4096) && decide (stackStatic < 4096)

/-- Operands of TRIM_SOLVE_COMPLETE. -/
def Ok.trimSolveComplete (status iters us : Nat) (x : List Nat) (y : List Int) : Bool := decide (status < 65536) && decide (iters < 65536) && decide (us < 65536) && (decide (x.length = 48 ∧ y.length = 59) || decide (x = [] ∧ y = []))

/-- Operands of SENSE_OUTPUT. -/
def Ok.senseOutput (c code : Nat) : Bool := decide (c < 16) && decide (code < 4096)

/-- Operands of SENSE_TRIGGER. -/
def Ok.senseTrigger (req : Path) (c : Nat) (_v : Word) : Bool := req.wf && decide (c < 16)

/-- Operands of SENSE_SYNC. -/
def Ok.senseSync (req : Path) : Bool := req.wf

/-- Operands of THERMAL_TRIP_TIMEOUT. -/
def Ok.thermalTripTimeout : Bool := true

/-- Operands of EXTEST. -/
def Ok.extest : Bool := true

/-- Operands of IDCODE. -/
def Ok.idcode : Bool := true

/-- Operands of SAMPLE. -/
def Ok.sample (_pins : Nat) : Bool := true

/-- Operands of PRELOAD. -/
def Ok.preload (_v : Nat) : Bool := true

/-- Operands of CLAMP. -/
def Ok.clamp : Bool := true

/-- Operands of HIGHZ. -/
def Ok.highz : Bool := true

/-- Operands of EXTEST_PULSE. -/
def Ok.extestPulse : Bool := true

/-- Operands of EXTEST_TRAIN. -/
def Ok.extestTrain : Bool := true

/-- Operands of HEDGE_REQ. -/
def Ok.hedgeReq (req : Path) (_v : Word) : Bool := req.wf

/-- Operands of HEDGE_CHAL. -/
def Ok.hedgeChal : Bool := true

/-- Operands of HEDGE_RESP. -/
def Ok.hedgeResp (words : List Word) : Bool := decide (words.length = 8) || words.isEmpty

/-- Operands of HEDGE_TOKEN. -/
def Ok.hedgeToken (words : List Word) : Bool := decide (words.length = 64) || words.isEmpty

/-- Operands of HEDGE_GO. -/
def Ok.hedgeGo (req : Path) (_v : Word) : Bool := req.wf

/-- Operands of HEDGE_STAT. -/
def Ok.hedgeStat : Bool := true

/-- Operands of HEDGE_VERIFY_COMPLETE. -/
def Ok.hedgeVerifyComplete : Bool := true

/-- Operands of ZEROISE_COMPLETE. -/
def Ok.zeroiseComplete : Bool := true

/-- Operands of HEDGE_RESPONSE_TIMEOUT. -/
def Ok.hedgeResponseTimeout : Bool := true

/-- Operands of HEDGE_WINDOW_CLOSE. -/
def Ok.hedgeWindowClose : Bool := true

/-- Operands of TEST_REG. -/
def Ok.testReg (_write : Bool) (off : Nat) (_v : Word) : Bool := decide (0xA00000 ≤ off) && decide (off < 0xB00000) && decide (off % 4 = 0)

/-- Operands of SCAN_SHIFT. -/
def Ok.scanShift (op : Nat) : Bool := decide (0x20 ≤ op) && decide (op < 0x30) && decide (op ≠ 0x21)

/-- Operands of SCAN_CAPTURE. -/
def Ok.scanCapture : Bool := true

/-- Operands of BYPASS. -/
def Ok.bypass (op : Nat) : Bool := decide (op < 256) && !([0, 1, 2, 3, 4, 5, 6, 7, 0x10, 0x11, 0x12, 0x13, 0x14, 0x15, 0x18].contains op) && !(decide (0x20 ≤ op) && decide (op < 0x30))

/-- Operands of TRST_N_ASSERT. -/
def Ok.trstNAssert : Bool := true

/-- Operands of FMAP_INDEX. -/
def Ok.fmapIndex (req : Path) (_v : Word) : Bool := req.wf

/-- Operands of VIN_BELOW_WARN. -/
def Ok.vinBelowWarn : Bool := true

/-- Operands of LG_RECOVER. -/
def Ok.lgRecover : Bool := true

/-- Operands of YEW_FLUSH. -/
def Ok.yewFlush : Bool := true

/-- Operands of SECTOR_ERASE. -/
def Ok.sectorErase : Bool := true

/-- Operands of BUCKET_REFILL. -/
def Ok.bucketRefill : Bool := true

/-- Operands of MIRROR_COPY. -/
def Ok.mirrorCopy (_good : Bool) : Bool := true

/-- Operands of YEW_RD_SEQ. -/
def Ok.yewRdSeq (req : Path) (_v : Word) : Bool := req.wf

/-- Operands of SET_ENDPOINT_ID. -/
def Ok.setEndpointId (eid : Nat) : Bool := decide (eid < 256)

/-- Operands of GET_ENDPOINT_ID. -/
def Ok.getEndpointId : Bool := true

/-- Operands of GET_MCTP_VERSION_SUPPORT. -/
def Ok.getMctpVersionSupport : Bool := true

/-- Operands of GET_MESSAGE_TYPE_SUPPORT. -/
def Ok.getMessageTypeSupport : Bool := true

/-- Operands of GET_VENDOR_DEFINED_MESSAGE_SUPPORT. -/
def Ok.getVendorDefinedMessageSupport : Bool := true

/-- Operands of GET_INFO. -/
def Ok.getInfo : Bool := true

/-- Operands of READ. -/
def Ok.bmcRead (seq count : Nat) : Bool := decide (seq < 4294967296) && decide (count < 256)

/-- Operands of STATE. -/
def Ok.bmcState (piece : Nat) : Bool := decide (piece < 65536)

/-- Operands of GET_VERSION. -/
def Ok.getVersion : Bool := true

/-- Operands of YEW_MARK. -/
def Ok.yewMark : Bool := true

/-- Operands of YEW_READ. -/
def Ok.yewRead : Bool := true

/-- Operands of PPR_REQUEST. -/
def Ok.pprRequest (_noResource : Bool) : Bool := true

/-- Operands of PPR_LIST. -/
def Ok.pprList : Bool := true

/-- Operands of SITE_MGMT_RD. -/
def Ok.siteMgmtRd : Bool := true

/-- Operands of IMAGE_STAGE. -/
def Ok.imageStage : Bool := true

/-- Operands of MAILBOX_COMPLETE. -/
def Ok.mailboxComplete : Bool := true

/-- Operands of AT_TIME_REACHED. -/
def Ok.atTimeReached (n _id : Nat) : Bool := decide (n < 256)

/-- Operands of DOMAIN_FAILED. -/
def Ok.domainFailed (n : Nat) : Bool := decide (n < 74)

/-- Operands of SIDEBAND_CRC_ERROR. -/
def Ok.sidebandCrcError (site : Nat) : Bool := decide (site < 4)

/-- Operands of SIDEBAND_UNKNOWN_TYPE. -/
def Ok.sidebandUnknownType (site : Nat) (frame : SbHead) : Bool :=
  decide (site < 4) && decide (frame.type < 256) && decide (frame.len ≤ 48) && decide (dieLen frame.type = 0 ∨ frame.len ≠ dieLen frame.type)

/-- Operands of UNLISTED_MSG. -/
def Ok.unlistedMsg (site : Nat) (_rsp : Bool) (flits : Nat) : Bool := decide (site < 4) && decide (1 ≤ flits) && decide (flits ≤ 2)

/-- Operands of CREW_FRAME_UNKNOWN_TYPE. -/
def Ok.crewFrameUnknownType (p type : Nat) : Bool := decide (p < 32) && decide (type < 256) && !([1, 2, 3, 16, 17].contains type)

/-- Operands of RX_LANES_LOSS. -/
def Ok.rxLanesLoss (l _fec : Nat) : Bool := decide (l < 32)

/-- Operands of QUIET_ACK_TIMEOUT. -/
def Ok.quietAckTimeout (site : Nat) : Bool := decide (site < 4)

/-- Operands of PAUSE_QUANTA_EXPIRY. -/
def Ok.pauseQuantaExpiry (p : Nat) : Bool := decide (p < 32)

/-- Operands of UNSUPPORTED_REQUEST. -/
def Ok.unsupportedRequest (fn : Nat) (_posted : Bool) : Bool := decide (fn < 32)

/-- Operands of POISONED_TLP_RECEIVED. -/
def Ok.poisonedTlpReceived (fn : Nat) : Bool := decide (fn < 32)

/-- Operands of MALFORMED_TLP. -/
def Ok.malformedTlp (tlp : BadTlp) : Bool := decide (tlp.fn < 32)

/-- The command is well formed. -/
def Instr.wf : Instr → Bool
  | .registerWrite a0 a1 a2 a3 => Ok.registerWrite a0 a1 a2 a3
  | .rcFieldRead a0 a1 a2 => Ok.rcFieldRead a0 a1 a2
  | .levelProtectedRead a0 a1 => Ok.levelProtectedRead a0 a1
  | .unalignedAccess a0 a1 a2 a3 a4 => Ok.unalignedAccess a0 a1 a2 a3 a4
  | .shadowLowRead a0 a1 => Ok.shadowLowRead a0 a1
  | .shadowHighRead a0 a1 => Ok.shadowHighRead a0 a1
  | .lock a0 a1 => Ok.lock a0 a1
  | .glbRstWarm a0 a1 => Ok.glbRstWarm a0 a1
  | .glbRstHub a0 a1 => Ok.glbRstHub a0 a1
  | .pwrgoodRise a0 a1 a2 => Ok.pwrgoodRise a0 a1 a2
  | .pwrgoodFall => Ok.pwrgoodFall
  | .pwrgoodLowFilterExpiry => Ok.pwrgoodLowFilterExpiry
  | .perstNAssert => Ok.perstNAssert
  | .warmReset => Ok.warmReset
  | .hubReset => Ok.hubReset
  | .emergencyLowerWave => Ok.emergencyLowerWave
  | .perstNDeassert => Ok.perstNDeassert
  | .d0Reset a0 a1 a2 => Ok.d0Reset a0 a1 a2
  | .refclkLoss => Ok.refclkLoss
  | .refclkReturn => Ok.refclkReturn
  | .serialRefclkTimeout => Ok.serialRefclkTimeout
  | .lockstepMismatch => Ok.lockstepMismatch
  | .watchdogExpiry a0 a1 => Ok.watchdogExpiry a0 a1
  | .mastheadWatchdog => Ok.mastheadWatchdog
  | .faultResetTimeout a0 a1 => Ok.faultResetTimeout a0 a1
  | .domainReqHoldOn a0 a1 => Ok.domainReqHoldOn a0 a1
  | .domainReqHoldOff a0 a1 => Ok.domainReqHoldOff a0 a1
  | .domainReqHub a0 a1 => Ok.domainReqHub a0 a1
  | .domainAdmit a0 => Ok.domainAdmit a0
  | .domainTransitionComplete a0 => Ok.domainTransitionComplete a0
  | .domainLowerIdle a0 => Ok.domainLowerIdle a0
  | .domainLowerAbandon a0 => Ok.domainLowerAbandon a0
  | .droopTrip a0 a1 => Ok.droopTrip a0 a1
  | .droopRelease a0 a1 => Ok.droopRelease a0 a1
  | .reefTick a0 a1 a2 a3 a4 => Ok.reefTick a0 a1 a2 a3 a4
  | .reefEnable a0 a1 => Ok.reefEnable a0 a1
  | .reefDisable a0 a1 => Ok.reefDisable a0 a1
  | .covSlewWrite a0 a1 => Ok.covSlewWrite a0 a1
  | .covStepWrite a0 a1 => Ok.covStepWrite a0 a1
  | .pmbusPoll a0 => Ok.pmbusPoll a0
  | .voutCommand a0 => Ok.voutCommand a0
  | .vholdReady a0 => Ok.vholdReady a0
  | .stageS1 a0 => Ok.stageS1 a0
  | .stageS2 => Ok.stageS2
  | .stageS3 => Ok.stageS3
  | .stageS4 a0 a1 => Ok.stageS4 a0 a1
  | .stageS5 => Ok.stageS5
  | .stageS6 => Ok.stageS6
  | .stageS7 => Ok.stageS7
  | .stageS8 => Ok.stageS8
  | .stageS9 a0 => Ok.stageS9 a0
  | .stageS10 => Ok.stageS10
  | .readySet a0 a1 a2 => Ok.readySet a0 a1 a2
  | .readinessPendSend => Ok.readinessPendSend
  | .stageLimitExpiry => Ok.stageLimitExpiry
  | .bootProfileWrite a0 a1 => Ok.bootProfileWrite a0 a1
  | .lbistSliceEnd a0 a1 a2 => Ok.lbistSliceEnd a0 a1 a2
  | .lbistSliceTimeout => Ok.lbistSliceTimeout
  | .stackTrainingComplete a0 a1 a2 a3 a4 a5 a6 a7 => Ok.stackTrainingComplete a0 a1 a2 a3 a4 a5 a6 a7
  | .memoryTestElementEnd a0 a1 a2 => Ok.memoryTestElementEnd a0 a1 a2
  | .waveGrant a0 => Ok.waveGrant a0
  | .waveDone a0 a1 => Ok.waveDone a0 a1
  | .waveTimeout a0 => Ok.waveTimeout a0
  | .bootFwGo a0 a1 a2 => Ok.bootFwGo a0 a1 a2
  | .fwWaitTimeout => Ok.fwWaitTimeout
  | .knownAnswerComplete a0 a1 a2 => Ok.knownAnswerComplete a0 a1 a2
  | .knownAnswerTimeout a0 a1 => Ok.knownAnswerTimeout a0 a1
  | .karDigest a0 a1 => Ok.karDigest a0 a1
  | .mapCmdRetire a0 a1 => Ok.mapCmdRetire a0 a1
  | .mapCmdReadmit a0 a1 => Ok.mapCmdReadmit a0 a1
  | .bankCopyComplete => Ok.bankCopyComplete
  | .mapEpochAdopt a0 => Ok.mapEpochAdopt a0
  | .mapEpochDrainEnd => Ok.mapEpochDrainEnd
  | .mapDrainTimeout a0 a1 => Ok.mapDrainTimeout a0 a1
  | .quarantineEnd => Ok.quarantineEnd
  | .readmissionTestEnd a0 => Ok.readmissionTestEnd a0
  | .readmissionTestTimeout => Ok.readmissionTestTimeout
  | .mapLookup a0 a1 => Ok.mapLookup a0 a1
  | .configRequest a0 a1 => Ok.configRequest a0 a1
  | .pcieLinkUp a0 a1 a2 => Ok.pcieLinkUp a0 a1 a2
  | .bar4Read a0 a1 => Ok.bar4Read a0 a1
  | .bar4Write a0 a1 => Ok.bar4Write a0 a1
  | .hostDmaError a0 a1 a2 a3 => Ok.hostDmaError a0 a1 a2 a3
  | .pfFlr => Ok.pfFlr
  | .vfFlr a0 => Ok.vfFlr a0
  | .vfEnableChange a0 a1 => Ok.vfEnableChange a0 a1
  | .vfWindowWrite a0 a1 a2 a3 => Ok.vfWindowWrite a0 a1 a2 a3
  | .ringOwnerWrite a0 a1 a2 => Ok.ringOwnerWrite a0 a1 a2
  | .ringEnable a0 a1 => Ok.ringEnable a0 a1
  | .ringReset a0 a1 => Ok.ringReset a0 a1
  | .ringResetComplete a0 => Ok.ringResetComplete a0
  | .submissionDoorbell a0 a1 a2 => Ok.submissionDoorbell a0 a1 a2
  | .completionRelease a0 a1 a2 => Ok.completionRelease a0 a1 a2
  | .ringHaltEntry a0 => Ok.ringHaltEntry a0
  | .descriptorFetch a0 a1 => Ok.descriptorFetch a0 a1
  | .descriptorComplete a0 a1 a2 a3 a4 a5 a6 => Ok.descriptorComplete a0 a1 a2 a3 a4 a5 a6
  | .moderationTimerExpiry a0 => Ok.moderationTimerExpiry a0
  | .vectorUnmask a0 a1 => Ok.vectorUnmask a0 a1
  | .busMasterDisable a0 a1 => Ok.busMasterDisable a0 a1
  | .busMasterEnable a0 => Ok.busMasterEnable a0
  | .nop a0 a1 => Ok.nop a0 a1
  | .copy a0 a1 a2 a3 => Ok.copy a0 a1 a2 a3
  | .fill a0 a1 a2 => Ok.fill a0 a1 a2
  | .gather a0 a1 a2 a3 => Ok.gather a0 a1 a2 a3
  | .scatter a0 a1 a2 a3 => Ok.scatter a0 a1 a2 a3
  | .streamOpen a0 a1 => Ok.streamOpen a0 a1
  | .streamClose a0 a1 => Ok.streamClose a0 a1
  | .siteCall a0 a1 => Ok.siteCall a0 a1
  | .cleatWait a0 a1 => Ok.cleatWait a0 a1
  | .cleatSignal a0 a1 => Ok.cleatSignal a0 a1
  | .fence a0 a1 => Ok.fence a0 a1
  | .boundary a0 a1 => Ok.boundary a0 a1
  | .solveSetup a0 a1 => Ok.solveSetup a0 a1
  | .solvePatch a0 a1 => Ok.solvePatch a0 a1
  | .solveRun a0 a1 => Ok.solveRun a0 a1
  | .laneSend a0 a1 a2 a3 => Ok.laneSend a0 a1 a2 a3
  | .laneRecv a0 a1 => Ok.laneRecv a0 a1
  | .budgetHint a0 a1 => Ok.budgetHint a0 a1
  | .hintLapse a0 a1 => Ok.hintLapse a0 a1
  | .deadlineExpiry a0 a1 => Ok.deadlineExpiry a0 a1
  | .callStopTimeout a0 a1 => Ok.callStopTimeout a0 a1
  | .cleatWaitTimeout a0 a1 => Ok.cleatWaitTimeout a0 a1
  | .creditHoldWarn a0 a1 => Ok.creditHoldWarn a0 a1
  | .cltSet a0 a1 a2 => Ok.cltSet a0 a1 a2
  | .cltAdd a0 a1 a2 => Ok.cltAdd a0 a1 a2
  | .cltClear a0 a1 => Ok.cltClear a0 a1
  | .watchArm a0 a1 a2 => Ok.watchArm a0 a1 a2
  | .watchCancel a0 a1 a2 => Ok.watchCancel a0 a1 a2
  | .watchTimeout a0 => Ok.watchTimeout a0
  | .timeSet a0 a1 => Ok.timeSet a0 a1
  | .timeSlew a0 a1 => Ok.timeSlew a0 a1
  | .timeAdj a0 a1 => Ok.timeAdj a0 a1
  | .timeEvtSel a0 a1 a2 => Ok.timeEvtSel a0 a1 a2
  | .windowEnable a0 a1 => Ok.windowEnable a0 a1
  | .windowEnableComplete a0 => Ok.windowEnableComplete a0
  | .windowDisable a0 a1 => Ok.windowDisable a0 a1
  | .windowDisableComplete a0 => Ok.windowDisableComplete a0
  | .rdShared a0 a1 a2 => Ok.rdShared a0 a1 a2
  | .rdOwn a0 a1 a2 => Ok.rdOwn a0 a1 a2
  | .upgrade a0 a1 a2 => Ok.upgrade a0 a1 a2
  | .wbDirty a0 a1 a2 a3 => Ok.wbDirty a0 a1 a2 a3
  | .evictClean a0 a1 a2 => Ok.evictClean a0 a1 a2
  | .recallAck a0 a1 a2 => Ok.recallAck a0 a1 a2
  | .recallData a0 a1 a2 a3 => Ok.recallData a0 a1 a2 a3
  | .nonCachingRead a0 a1 a2 => Ok.nonCachingRead a0 a1 a2
  | .nonCachingWrite a0 a1 a2 => Ok.nonCachingWrite a0 a1 a2
  | .recallTimeout a0 a1 => Ok.recallTimeout a0 a1
  | .dirQuery a0 a1 => Ok.dirQuery a0 a1
  | .refresh a0 a1 a2 a3 => Ok.refresh a0 a1 a2 a3
  | .scheduleCommand a0 a1 a2 => Ok.scheduleCommand a0 a1 a2
  | .caParityError a0 a1 => Ok.caParityError a0 a1
  | .stackTempRead a0 a1 a2 => Ok.stackTempRead a0 a1 a2
  | .powerDownEntry a0 a1 => Ok.powerDownEntry a0 a1
  | .sheetUpdate => Ok.sheetUpdate
  | .floorWrite a0 a1 a2 => Ok.floorWrite a0 a1 a2
  | .telltaleThresholdWrite a0 a1 a2 => Ok.telltaleThresholdWrite a0 a1 a2
  | .telltaleLevelChange a0 a1 => Ok.telltaleLevelChange a0 a1
  | .telltaleWindow => Ok.telltaleWindow
  | .dramScrubRead => Ok.dramScrubRead
  | .bufScrubRead => Ok.bufScrubRead
  | .rasConsWrite a0 a1 => Ok.rasConsWrite a0 a1
  | .flipArm a0 a1 => Ok.flipArm a0 a1
  | .flipDisarm a0 a1 => Ok.flipDisarm a0 a1
  | .ceHourly => Ok.ceHourly
  | .flitReceive a0 a1 a2 a3 a4 => Ok.flitReceive a0 a1 a2 a3 a4
  | .ack a0 a1 a2 a3 => Ok.ack a0 a1 a2 a3
  | .ackInterval a0 => Ok.ackInterval a0
  | .replayStart a0 a1 a2 a3 => Ok.replayStart a0 a1 a2 a3
  | .replayTimeout a0 a1 => Ok.replayTimeout a0 a1
  | .driftUpdate a0 a1 a2 => Ok.driftUpdate a0 a1 a2
  | .moduleTest a0 a1 a2 => Ok.moduleTest a0 a1 a2
  | .dropReq a0 a1 a2 a3 a4 => Ok.dropReq a0 a1 a2 a3 a4
  | .dropAck a0 a1 a2 a3 => Ok.dropAck a0 a1 a2 a3
  | .dropReqRepeat a0 => Ok.dropReqRepeat a0
  | .spareProposal a0 => Ok.spareProposal a0
  | .setAccept a0 a1 => Ok.setAccept a0 a1
  | .msetSwitch a0 a1 => Ok.msetSwitch a0 a1
  | .sidebandHello a0 => Ok.sidebandHello a0
  | .helloAck a0 => Ok.helloAck a0
  | .ident a0 a1 => Ok.ident a0 a1
  | .negAck a0 a1 => Ok.negAck a0 a1
  | .trainRes a0 a1 a2 => Ok.trainRes a0 a1 a2
  | .trainStepLimit a0 a1 a2 => Ok.trainStepLimit a0 a1 a2
  | .linkUp => Ok.linkUp
  | .quietAck a0 a1 a2 => Ok.quietAck a0 a1 a2
  | .mgmtData a0 a1 a2 => Ok.mgmtData a0 a1 a2
  | .sidebandNak a0 a1 a2 => Ok.sidebandNak a0 a1 a2
  | .sidebandResend a0 => Ok.sidebandResend a0
  | .sidebandAnswerTimeout a0 a1 => Ok.sidebandAnswerTimeout a0 a1
  | .dataRun a0 a1 a2 a3 => Ok.dataRun a0 a1 a2 a3
  | .credit a0 a1 => Ok.credit a0 a1
  | .creditReturn a0 => Ok.creditReturn a0
  | .siteRd a0 a1 a2 => Ok.siteRd a0 a1 a2
  | .siteWr a0 a1 a2 a3 a4 => Ok.siteWr a0 a1 a2 a3 a4
  | .siteCltAdd a0 a1 a2 a3 => Ok.siteCltAdd a0 a1 a2 a3
  | .siteCltSet a0 a1 a2 a3 => Ok.siteCltSet a0 a1 a2 a3
  | .siteCltWait a0 a1 a2 a3 a4 a5 => Ok.siteCltWait a0 a1 a2 a3 a4 a5
  | .siteCltRead a0 a1 a2 => Ok.siteCltRead a0 a1 a2
  | .siteCltWaitTimeout a0 a1 => Ok.siteCltWaitTimeout a0 a1
  | .timeRd a0 a1 a2 => Ok.timeRd a0 a1 a2
  | .openAck a0 a1 a2 => Ok.openAck a0 a1 a2
  | .openAckTimeout a0 a1 => Ok.openAckTimeout a0 a1
  | .siteStreamClose a0 a1 a2 a3 a4 => Ok.siteStreamClose a0 a1 a2 a3 a4
  | .closeAck a0 a1 a2 => Ok.closeAck a0 a1 a2
  | .callDone a0 a1 a2 a3 a4 => Ok.callDone a0 a1 a2 a3 a4
  | .allowAck a0 a1 a2 => Ok.allowAck a0 a1 a2
  | .siteDrop a0 a1 => Ok.siteDrop a0 a1
  | .loopbackRun a0 a1 a2 => Ok.loopbackRun a0 a1 a2
  | .loopbackEnd a0 a1 a2 => Ok.loopbackEnd a0 a1 a2
  | .portEnable a0 a1 a2 => Ok.portEnable a0 a1 a2
  | .portDisable a0 a1 => Ok.portDisable a0 a1
  | .laneSignalDetect a0 => Ok.laneSignalDetect a0
  | .anComplete a0 a1 => Ok.anComplete a0 a1
  | .anRetry a0 => Ok.anRetry a0
  | .linkTrainingComplete a0 => Ok.linkTrainingComplete a0
  | .adaptSettled a0 a1 => Ok.adaptSettled a0 a1
  | .alignLock a0 => Ok.alignLock a0
  | .laneStepTimeout a0 => Ok.laneStepTimeout a0
  | .laneSignalLoss a0 => Ok.laneSignalLoss a0
  | .adaptStep a0 a1 => Ok.adaptStep a0 a1
  | .fomUpdate a0 a1 => Ok.fomUpdate a0 a1
  | .fomLow a0 => Ok.fomLow a0
  | .adaptRestart a0 a1 => Ok.adaptRestart a0 a1
  | .eyeScanRun a0 a1 a2 => Ok.eyeScanRun a0 a1 a2
  | .eyeScanDone a0 a1 => Ok.eyeScanDone a0 a1
  | .prbsConfigWrite a0 a1 a2 => Ok.prbsConfigWrite a0 a1 a2
  | .slip a0 a1 => Ok.slip a0 a1
  | .frameReceive a0 a1 a2 a3 a4 => Ok.frameReceive a0 a1 a2 a3 a4
  | .pause a0 a1 => Ok.pause a0 a1
  | .pauseRepeat a0 => Ok.pauseRepeat a0
  | .crewData a0 a1 a2 a3 a4 a5 a6 a7 a8 a9 a10 a11 a12 => Ok.crewData a0 a1 a2 a3 a4 a5 a6 a7 a8 a9 a10 a11 a12
  | .crewAck a0 a1 a2 a3 => Ok.crewAck a0 a1 a2 a3
  | .crewNak a0 a1 a2 a3 => Ok.crewNak a0 a1 a2 a3
  | .crewAckTimer a0 => Ok.crewAckTimer a0
  | .crewHelloTimer => Ok.crewHelloTimer
  | .crewHello a0 a1 => Ok.crewHello a0 a1
  | .crewPeerTimeout a0 => Ok.crewPeerTimeout a0
  | .syncLoss => Ok.syncLoss
  | .claimHoldDownEnd a0 => Ok.claimHoldDownEnd a0
  | .mustered => Ok.mustered
  | .crewRemuster a0 => Ok.crewRemuster a0
  | .syncSend => Ok.syncSend
  | .pdelayReqSend => Ok.pdelayReqSend
  | .sync a0 a1 => Ok.sync a0 a1
  | .followUp a0 a1 a2 a3 => Ok.followUp a0 a1 a2 a3
  | .pdelayReq a0 a1 => Ok.pdelayReq a0 a1
  | .pdelayResp a0 a1 a2 => Ok.pdelayResp a0 a1 a2
  | .pdelayRespFollowUp a0 a1 a2 => Ok.pdelayRespFollowUp a0 a1 a2
  | .trimEpochStart a0 a1 a2 => Ok.trimEpochStart a0 a1 a2
  | .trimSolveComplete a0 a1 a2 a3 a4 => Ok.trimSolveComplete a0 a1 a2 a3 a4
  | .senseOutput a0 a1 => Ok.senseOutput a0 a1
  | .senseTrigger a0 a1 a2 => Ok.senseTrigger a0 a1 a2
  | .senseSync a0 => Ok.senseSync a0
  | .thermalTripTimeout => Ok.thermalTripTimeout
  | .extest => Ok.extest
  | .idcode => Ok.idcode
  | .sample a0 => Ok.sample a0
  | .preload a0 => Ok.preload a0
  | .clamp => Ok.clamp
  | .highz => Ok.highz
  | .extestPulse => Ok.extestPulse
  | .extestTrain => Ok.extestTrain
  | .hedgeReq a0 a1 => Ok.hedgeReq a0 a1
  | .hedgeChal => Ok.hedgeChal
  | .hedgeResp a0 => Ok.hedgeResp a0
  | .hedgeToken a0 => Ok.hedgeToken a0
  | .hedgeGo a0 a1 => Ok.hedgeGo a0 a1
  | .hedgeStat => Ok.hedgeStat
  | .hedgeVerifyComplete => Ok.hedgeVerifyComplete
  | .zeroiseComplete => Ok.zeroiseComplete
  | .hedgeResponseTimeout => Ok.hedgeResponseTimeout
  | .hedgeWindowClose => Ok.hedgeWindowClose
  | .testReg a0 a1 a2 => Ok.testReg a0 a1 a2
  | .scanShift a0 => Ok.scanShift a0
  | .scanCapture => Ok.scanCapture
  | .bypass a0 => Ok.bypass a0
  | .trstNAssert => Ok.trstNAssert
  | .fmapIndex a0 a1 => Ok.fmapIndex a0 a1
  | .vinBelowWarn => Ok.vinBelowWarn
  | .lgRecover => Ok.lgRecover
  | .yewFlush => Ok.yewFlush
  | .sectorErase => Ok.sectorErase
  | .bucketRefill => Ok.bucketRefill
  | .mirrorCopy a0 => Ok.mirrorCopy a0
  | .yewRdSeq a0 a1 => Ok.yewRdSeq a0 a1
  | .setEndpointId a0 => Ok.setEndpointId a0
  | .getEndpointId => Ok.getEndpointId
  | .getMctpVersionSupport => Ok.getMctpVersionSupport
  | .getMessageTypeSupport => Ok.getMessageTypeSupport
  | .getVendorDefinedMessageSupport => Ok.getVendorDefinedMessageSupport
  | .getInfo => Ok.getInfo
  | .bmcRead a0 a1 => Ok.bmcRead a0 a1
  | .bmcState a0 => Ok.bmcState a0
  | .getVersion => Ok.getVersion
  | .yewMark => Ok.yewMark
  | .yewRead => Ok.yewRead
  | .pprRequest a0 => Ok.pprRequest a0
  | .pprList => Ok.pprList
  | .siteMgmtRd => Ok.siteMgmtRd
  | .imageStage => Ok.imageStage
  | .mailboxComplete => Ok.mailboxComplete
  | .atTimeReached a0 a1 => Ok.atTimeReached a0 a1
  | .domainFailed a0 => Ok.domainFailed a0
  | .sidebandCrcError a0 => Ok.sidebandCrcError a0
  | .sidebandUnknownType a0 a1 => Ok.sidebandUnknownType a0 a1
  | .unlistedMsg a0 a1 a2 => Ok.unlistedMsg a0 a1 a2
  | .crewFrameUnknownType a0 a1 => Ok.crewFrameUnknownType a0 a1
  | .rxLanesLoss a0 a1 => Ok.rxLanesLoss a0 a1
  | .quietAckTimeout a0 => Ok.quietAckTimeout a0
  | .pauseQuantaExpiry a0 => Ok.pauseQuantaExpiry a0
  | .unsupportedRequest a0 a1 => Ok.unsupportedRequest a0 a1
  | .poisonedTlpReceived a0 => Ok.poisonedTlpReceived a0
  | .malformedTlp a0 => Ok.malformedTlp a0

end Sys2Proof
end

