-- ==== Sys2Proof/Decode.lean ====
section
/-!
DEFINITION. The words that spell commands. No row of spec/opcode_table.json gives a command any bits: a command is a
register access, a pin event, a frame or a timer's expiry, not a word of an instruction stream. So no word spells one.
-/
namespace Sys2Proof

/-- The command a table word spells: none, as no row has bits. [log: DESIGN CHOICE 11] -/
def decodeTableWord (_nbits _w : Nat) : Option Instr := none

end Sys2Proof
end

