-- ==== Sys2Proof/Machine/Bits.lean ====
section
/-!
DEFINITION. Bit-field, byte-order and check-code helpers: fields of words, little-endian bytes (R9), sign extension,
CRC-32 (R315) and CRC-24 (R246), clamping and saturation.
-/
namespace Sys2Proof.Machine

/-- The `width` bits of `w` from bit `lo`, as a number. -/
def bitsOf (w : Word) (lo width : Nat) : Nat := w.toNat / 2 ^ lo % 2 ^ width

/-- `w` with the `width` bits from `lo` replaced by `v` (modulo the width). -/
def setBits (w : Word) (lo width v : Nat) : Word :=
  BitVec.ofNat 32 (w.toNat - bitsOf w lo width * 2 ^ lo + v % 2 ^ width * 2 ^ lo)

/-- The number a `width`-bit field holds when read as two's complement. -/
def signed (width v : Nat) : Int := if v % 2 ^ width < 2 ^ (width - 1) then (v % 2 ^ width : Nat) else (v % 2 ^ width : Nat) - (2 ^ width : Nat)

/-- Two's complement of `x` in `width` bits. -/
def unsigned (width : Nat) (x : Int) : Nat := (x % ((2 : Int) ^ width)).toNat

/-- The `n` little-endian bytes of `v` (R9). -/
def leBytes : Nat → Nat → List Byte
  | 0, _ => []
  | n + 1, v => BitVec.ofNat 8 v :: leBytes n (v / 256)

/-- The number whose little-endian bytes are `bs` (R9). -/
def ofLe : List Byte → Nat
  | [] => 0
  | b :: bs => b.toNat + 256 * ofLe bs

/-- The number in bytes `at_` to `at_ + n - 1` of `bs`, little-endian; bytes that are missing count as 0. -/
def leAt (bs : List Byte) (at_ n : Nat) : Nat := ofLe ((bs.drop at_).take n)

/-- Bit `k` of `v`. -/
def bit (v k : Nat) : Bool := v / 2 ^ k % 2 == 1

/-- 1 for true, 0 for false. -/
def b2n (b : Bool) : Nat := if b then 1 else 0

/-- `v` moved to the nearer bound of `[lo, hi]`. -/
def clampNat (lo hi v : Nat) : Nat := max lo (min hi v)

/-- `v` stopped at the largest `width`-bit value: counters that saturate. -/
def satNat (width v : Nat) : Nat := min v (2 ^ width - 1)

/-- One bit of the reflected CRC-32 of IEEE 802.3. -/
def crc32Bit (c : Nat) : Nat := if c % 2 = 1 then (c / 2) ^^^ 0xEDB88320 else c / 2

/-- One byte of the reflected CRC-32. -/
def crc32Byte (c : Nat) (b : Byte) : Nat :=
  crc32Bit (crc32Bit (crc32Bit (crc32Bit (crc32Bit (crc32Bit (crc32Bit (crc32Bit (c ^^^ b.toNat))))))))

/-- CRC-32: polynomial 0x04C1_1DB7 reflected, seed and final XOR 0xFFFF_FFFF (R315). -/
def crc32 (bs : List Byte) : Nat := bs.foldl crc32Byte 0xFFFFFFFF ^^^ 0xFFFFFFFF

/-- The 16 bytes of the canonical configuration record (R315). -/
def crewRecord (hops domain syncL pdelayL app : Nat) : List Byte :=
  leBytes 2 1 ++ [BitVec.ofNat 8 hops, BitVec.ofNat 8 domain, BitVec.ofNat 8 syncL, BitVec.ofNat 8 pdelayL]
    ++ leBytes 2 0 ++ leBytes 4 app ++ leBytes 4 0

/-- CREW_DIGEST: the CRC-32 of the canonical configuration record (R315). -/
def crewDigest (hops domain syncL pdelayL app : Nat) : Nat := crc32 (crewRecord hops domain syncL pdelayL app)

/-- The number of bits at 1 in `v`, counted over `n` bits. -/
def popCount : Nat → Nat → Nat
  | 0, _ => 0
  | n + 1, v => v % 2 + popCount n (v / 2)

end Sys2Proof.Machine
end

