-- ==== Sys2Proof/Machine/Regs.lean ====
section
/-!
DEFINITION. The BAR0 registers as the register tables of spec/00 to spec/18 list them: for every register its offset
(and strides), and for every field its bits, access code, reset value, clamp and whether D0 keeps it over a warm or hub
reset (R57). `R.<REGISTER>_<FIELD>` names one field of one instance. Offsets are from BAR0 (R11, R27).
-/
namespace Sys2Proof.Machine

/-- One field of one register: byte offset of its word from BAR0, lowest bit, width. -/
structure RF where
  off : Nat
  lo : Nat
  width : Nat
deriving DecidableEq, Repr

/-- The access codes of the register tables (spec/00, Register access). -/
inductive Acc where
  | rw | ro | w1c | wo | rc | rwl
deriving DecidableEq, Repr

/-- One field's row of a register table. `reset i j` is the reset value in instance `i`, word `j`; `clampTo` holds the
bounds a written value is clamped to (none: stored as written); `kept` says the field lives in D0 over warm and hub resets. -/
structure FieldSpec where
  name : String
  lo : Nat
  width : Nat
  acc : Acc
  reset : Nat → Nat → Nat
  clampTo : Option (Nat × Nat)
  kept : Bool

/-- One register (or ladder of registers): instance `i < c1`, word `j < c2` stands at `base + i * s1 + j * s2`. -/
structure RegSpec where
  name : String
  base : Nat
  s1 : Nat
  c1 : Nat
  s2 : Nat
  c2 : Nat
  level : Nat
  fields : List FieldSpec

/-- The instance and word of a register that stand at `off`, if `off` is one of its words. -/
def RegSpec.at? (r : RegSpec) (off : Nat) : Option (Nat × Nat) :=
  if off < r.base then none else
  let d := off - r.base
  let i := if r.s1 = 0 then 0 else d / r.s1
  let e := d - i * r.s1
  let j := e / r.s2
  if i < r.c1 ∧ j < r.c2 ∧ j * r.s2 = e then some (i, j) else none

/-! ## Reset values the tables give in words -/

/-- Nominal frequency of island `n`, MHz (R41, R34): the reset of PWR_ISL_CAP_n. -/
def islandNominal (n : Nat) : Nat :=
  if n < 48 then 2000 else if n < 54 then 2400 else if n < 62 then 1000 else if n < 70 then 1600
  else if n < 72 then 2000 else if n < 90 then 2400 else if n < 94 then 2000 else if n < 95 then 1600 else 1200

/-- Default ceiling of Sheet class `c`, GB/s (R203). -/
def sheetCeil (c : Nat) : Nat :=
  if c < 4 then 2048 else if c = 4 then 16384 else if c = 5 then 128 else 2000

/-- Default floor of Sheet class `c`, GB/s (R203). -/
def sheetFloor (c : Nat) : Nat :=
  if c < 4 then 800 else if c = 4 then 1500 else if c = 5 then 100 else 400

/-- Default TRIM_H_z_v (spec/16, Registers): zone 0 with the hub variables 4 to 40, zone 1 + s with site s, zones 5 and 6
with the memory variables of their edge (controllers 0 to 2 and 3 to 5). -/
def trimHeat (z v : Nat) : Nat :=
  if z = 0 then (if 4 ≤ v ∧ v ≤ 40 then 410 else 0)
  else if z < 5 then (if v + 1 = z then 492 else 0)
  else if z = 5 then (if 12 ≤ v ∧ v ≤ 14 then 1229 else 0)
  else (if 15 ≤ v ∧ v ≤ 17 then 1229 else 0)

/-- Channel of entry `i` of the default SNS_LIST (R361): remote diodes and supplies 128 to 217, then thermal 0 to 127. -/
def snsListChan (i : Nat) : Nat := if i < 90 then 128 + i else if i < 218 then i - 90 else 0

/-- DESIGN CHOICE (assumption 8): converter of entry `i` of the default SNS_LIST, dealt round over converters 2 to 15. -/
def snsListConv (i : Nat) : Nat := if i < 90 then 2 + i % 14 else if i < 218 then 2 + (90 + (i - 90) / 4) % 14 else 0

/-- EVERY of entry `i` of the default SNS_LIST (R361): thermal entries run every fourth epoch. -/
def snsListEvery (i : Nat) : Nat := if 90 ≤ i ∧ i < 218 then 2 else 0

/-- PHASE of entry `i` of the default SNS_LIST (R361). -/
def snsListPhase (i : Nat) : Nat := if 90 ≤ i ∧ i < 218 then (i - 90) % 4 else 0

/-- CREW_DIGEST of the reset configuration record: HOPS 8, DOMAIN 0, SYNC_LOG2 −6, PDELAY_LOG2 −3, APP 0 (R315). -/
def crewDigestReset : Nat := crewDigest 8 0 0xFA 0xFD 0

/-! ## The register tables, block by block (R27) -/

/-- Registers of block GLB. -/
def regsGLB : List RegSpec := [
  ⟨"GLB_ID", 0x0, 0, 1, 4, 1, 0, [
    ⟨"DEVICE", 0, 16, .ro, fun _ _ => 1152, none, true⟩,
    ⟨"STEPPING", 16, 8, .ro, fun _ _ => 0x10, none, true⟩,
    ⟨"FORM", 24, 2, .ro, fun _ _ => Sys2Proof.Config.form, none, true⟩]⟩,
  ⟨"GLB_CTRL", 0x10, 0, 1, 4, 1, 0, [
    ⟨"LOCK", 0, 1, .rwl, fun _ _ => 0, none, false⟩]⟩,
  ⟨"GLB_STRAP", 0x4, 0, 1, 4, 1, 0, [
    ⟨"SITE_FIT", 0, 4, .ro, fun _ _ => 0, none, true⟩]⟩,
  ⟨"GLB_POP", 0x8, 0, 1, 4, 1, 0, [
    ⟨"SITE_LIVE", 0, 4, .ro, fun _ _ => 0, none, false⟩,
    ⟨"STACK_LIVE", 4, 6, .ro, fun _ _ => 0, none, false⟩,
    ⟨"STACK_CAP", 10, 2, .ro, fun _ _ => 0, none, false⟩,
    ⟨"SITE_MISSING", 12, 4, .ro, fun _ _ => 0, none, false⟩]⟩,
  ⟨"GLB_RDY", 0xc, 0, 1, 4, 1, 0, [
    ⟨"READY", 0, 1, .ro, fun _ _ => 0, none, false⟩,
    ⟨"OUTCOME", 4, 3, .ro, fun _ _ => 0, none, false⟩,
    ⟨"STAGE", 8, 4, .ro, fun _ _ => 0, none, false⟩,
    ⟨"PEND", 16, 1, .ro, fun _ _ => 0, none, false⟩]⟩,
  ⟨"GLB_RST", 0x14, 0, 1, 4, 1, 0, [
    ⟨"KIND", 0, 2, .wo, fun _ _ => 0, none, false⟩,
    ⟨"KEY", 16, 16, .wo, fun _ _ => 0, none, false⟩]⟩,
  ⟨"GLB_BAR4_DRAM", 0x100, 0, 1, 4, 1, 0, [
    ⟨"BASE", 0, 8, .rw, fun _ _ => 0, none, false⟩]⟩,
  ⟨"GLB_PCIE_STAT", 0x104, 0, 1, 4, 1, 0, [
    ⟨"RATE", 0, 4, .ro, fun _ _ => 0, none, false⟩,
    ⟨"WIDTH", 4, 6, .ro, fun _ _ => 0, none, false⟩,
    ⟨"FLIT", 12, 1, .ro, fun _ _ => 0, none, false⟩]⟩,
  ⟨"GLB_VF_WIN0", 0x200, 16, 31, 4, 1, 0, [
    ⟨"DRAM_BASE", 0, 8, .rw, fun _ _ => 0, none, false⟩,
    ⟨"DRAM_SIZE", 8, 8, .rw, fun _ _ => 0, none, false⟩]⟩,
  ⟨"GLB_VF_WIN1", 0x204, 16, 31, 4, 1, 0, [
    ⟨"BANK_BASE", 0, 11, .rw, fun _ _ => 0, none, false⟩,
    ⟨"BANK_COUNT", 16, 11, .rw, fun _ _ => 0, none, false⟩]⟩,
  ⟨"GLB_VF_WIN2", 0x208, 16, 31, 4, 1, 0, [
    ⟨"CLT_BASE", 0, 12, .rw, fun _ _ => 0, none, false⟩,
    ⟨"CLT_COUNT", 12, 13, .rw, fun _ _ => 0, none, false⟩,
    ⟨"SITES", 28, 4, .rw, fun _ _ => 0, none, false⟩]⟩,
  ⟨"GLB_VF_WIN3", 0x20c, 16, 31, 4, 1, 0, [
    ⟨"SPAR_CTX", 0, 31, .rw, fun _ _ => 0, none, false⟩]⟩,
  ⟨"GLB_GPIO_IN", 0x20, 0, 1, 4, 1, 0, [
    ⟨"IN", 0, 16, .ro, fun _ _ => 0x000E, none, false⟩]⟩,
  ⟨"GLB_GPIO_OUT", 0x24, 0, 1, 4, 1, 0, [
    ⟨"OUT", 4, 12, .rw, fun _ _ => 0, none, false⟩,
    ⟨"OE", 20, 12, .rw, fun _ _ => 0, none, false⟩]⟩,
  ⟨"MSIX_ADDR_LO", 0x8000, 16, 264, 4, 1, 0, [
    ⟨"ADDR", 0, 32, .rw, fun _ _ => 0, none, false⟩]⟩,
  ⟨"MSIX_ADDR_HI", 0x8004, 16, 264, 4, 1, 0, [
    ⟨"ADDR", 0, 32, .rw, fun _ _ => 0, none, false⟩]⟩,
  ⟨"MSIX_DATA", 0x8008, 16, 264, 4, 1, 0, [
    ⟨"DATA", 0, 32, .rw, fun _ _ => 0, none, false⟩]⟩,
  ⟨"MSIX_CTRL", 0x800c, 16, 264, 4, 1, 0, [
    ⟨"MASK", 0, 1, .rw, fun _ _ => 1, none, false⟩]⟩,
  ⟨"MSIX_PBA", 0xc000, 4, 9, 4, 1, 0, [
    ⟨"PEND", 0, 32, .ro, fun _ _ => 0, none, false⟩]⟩]

/-- Registers of block PWR. -/
def regsPWR : List RegSpec := [
  ⟨"PWR_COV_SLEW", 0x10000, 0, 1, 4, 1, 0, [
    ⟨"UP", 0, 12, .rwl, fun _ _ => 1000, some (250, 1000), false⟩,
    ⟨"DN", 16, 12, .rwl, fun _ _ => 1000, some (250, 1000), false⟩]⟩,
  ⟨"PWR_COV_STEP", 0x10004, 0, 1, 4, 1, 0, [
    ⟨"STEP", 0, 7, .rwl, fun _ _ => 60, some (0, 60), false⟩,
    ⟨"GUARD", 8, 7, .rwl, fun _ _ => 5, none, false⟩]⟩,
  ⟨"PWR_REEF_CTRL", 0x10008, 0, 1, 4, 1, 0, [
    ⟨"ENABLE", 0, 1, .rw, fun _ _ => 1, none, false⟩,
    ⟨"WAVE_STEP", 16, 7, .rwl, fun _ _ => 40, none, false⟩]⟩,
  ⟨"PWR_SOAK_CTRL", 0x1000c, 0, 1, 4, 1, 0, [
    ⟨"MAX", 0, 7, .rwl, fun _ _ => 80, some (0, 80), false⟩,
    ⟨"PRERAMP_EN", 8, 1, .rw, fun _ _ => 1, none, false⟩]⟩,
  ⟨"PWR_SOAK_STAT", 0x10010, 0, 1, 4, 1, 0, [
    ⟨"SOAK", 0, 7, .ro, fun _ _ => 0, none, true⟩,
    ⟨"SEGS", 8, 6, .ro, fun _ _ => 0, none, true⟩,
    ⟨"EVENTS", 16, 16, .rc, fun _ _ => 0, none, true⟩]⟩,
  ⟨"PWR_IN_STAT", 0x10014, 0, 1, 4, 1, 0, [
    ⟨"PIN", 0, 16, .ro, fun _ _ => 0, none, false⟩]⟩,
  ⟨"PWR_EXPO", 0x10018, 0, 1, 4, 1, 0, [
    ⟨"XTOT", 0, 8, .ro, fun _ _ => 0, none, false⟩,
    ⟨"XSENSE", 8, 8, .ro, fun _ _ => 0, none, false⟩]⟩,
  ⟨"PWR_COV_VIOL", 0x1001c, 0, 1, 4, 1, 0, [
    ⟨"COUNT", 0, 16, .rc, fun _ _ => 0, none, false⟩,
    ⟨"KIND", 16, 2, .ro, fun _ _ => 0, none, false⟩]⟩,
  ⟨"PWR_HOLD", 0x10020, 0, 1, 4, 1, 0, [
    ⟨"VHOLD", 0, 13, .ro, fun _ _ => 0, none, true⟩,
    ⟨"READY", 16, 1, .ro, fun _ _ => 0, none, true⟩]⟩,
  ⟨"PWR_ISL_RAMP", 0x10024, 0, 1, 4, 1, 0, [
    ⟨"RAMP", 0, 8, .rwl, fun _ _ => 20, none, false⟩]⟩,
  ⟨"PWR_DROOP", 0x10028, 0, 1, 4, 1, 0, [
    ⟨"TRIP_MV", 0, 8, .rwl, fun _ _ => 30, some (15, 100), false⟩]⟩,
  ⟨"PWR_SITE_FIXCAP", 0x10040, 4, 4, 4, 1, 0, [
    ⟨"CAP", 0, 10, .rwl, fun _ _ => 0, none, false⟩,
    ⟨"FASTDROP", 16, 7, .rwl, fun _ _ => 0, none, false⟩]⟩,
  ⟨"PWR_DOM", 0x10400, 4, 74, 4, 1, 0, [
    ⟨"REQ", 0, 2, .rw, fun _ _ => 0, none, false⟩,
    ⟨"STATE", 4, 2, .ro, fun i _ => if i = 0 then 2 else 0, none, false⟩,
    ⟨"PENDING", 8, 1, .ro, fun _ _ => 0, none, false⟩,
    ⟨"REFUSED", 9, 1, .w1c, fun _ _ => 0, none, false⟩,
    ⟨"REASON", 12, 4, .ro, fun _ _ => 0, none, false⟩]⟩,
  ⟨"PWR_ISL", 0x10800, 4, 96, 4, 1, 0, [
    ⟨"TARGET", 0, 12, .ro, fun _ _ => 0, none, false⟩,
    ⟨"ACTUAL", 16, 12, .ro, fun _ _ => 0, none, false⟩,
    ⟨"STRETCHED", 31, 1, .ro, fun _ _ => 0, none, false⟩]⟩,
  ⟨"PWR_ISL_CAP", 0x10c00, 4, 96, 4, 1, 0, [
    ⟨"CAP_MHZ", 0, 12, .rw, fun i _ => islandNominal i, none, false⟩]⟩,
  ⟨"PWR_ISL_STRETCH", 0x10e00, 4, 96, 4, 1, 0, [
    ⟨"COUNT", 0, 32, .rc, fun _ _ => 0, none, false⟩]⟩,
  ⟨"PWR_PMB_CTRL", 0x11000, 0, 1, 4, 1, 0, [
    ⟨"SPEED", 0, 1, .rw, fun _ _ => 0, none, false⟩]⟩,
  ⟨"PWR_PMB_DEV", 0x11010, 4, 16, 4, 1, 0, [
    ⟨"ADDR", 0, 7, .rw, fun _ _ => 0, none, false⟩,
    ⟨"RAIL", 8, 8, .rw, fun _ _ => 0, none, false⟩]⟩,
  ⟨"PWR_PMB_STAT", 0x11050, 0, 1, 4, 1, 0, [
    ⟨"NOANS", 0, 16, .ro, fun _ _ => 0, none, false⟩]⟩]

/-- Registers of block TRIM. -/
def regsTRIM : List RegSpec := [
  ⟨"TRIM_CTRL", 0x20000, 0, 1, 4, 1, 0, [
    ⟨"DL_US", 0, 8, .rw, fun _ _ => 180, some (50, 230), false⟩,
    ⟨"RES_EXP", 8, 8, .rw, fun _ _ => 10, none, false⟩,
    ⟨"MAXIT", 16, 16, .rw, fun _ _ => 200, none, false⟩]⟩,
  ⟨"TRIM_LIMIT", 0x20004, 0, 1, 4, 1, 0, [
    ⟨"PKG", 0, 11, .rw, fun _ _ => 1500, some (100, 1500), false⟩,
    ⟨"STATIC_N", 16, 8, .rw, fun _ _ => 40, some (3, 255), false⟩]⟩,
  ⟨"TRIM_STAT", 0x20008, 0, 1, 4, 1, 0, [
    ⟨"MODE", 0, 2, .ro, fun _ _ => 0, none, false⟩,
    ⟨"RUN", 8, 8, .ro, fun _ _ => 0, none, false⟩,
    ⟨"INFEAS", 16, 1, .ro, fun _ _ => 0, none, false⟩,
    ⟨"LAST", 24, 8, .ro, fun _ _ => 0, none, false⟩]⟩,
  ⟨"TRIM_EPOCH", 0x2000c, 0, 1, 4, 1, 0, [
    ⟨"EPOCH", 0, 32, .ro, fun _ _ => 0, none, false⟩]⟩,
  ⟨"TRIM_RELRES_LO", 0x20010, 0, 1, 4, 1, 0, [
    ⟨"LO", 0, 32, .ro, fun _ _ => 0, none, false⟩]⟩,
  ⟨"TRIM_RELRES_HI", 0x20014, 0, 1, 4, 1, 0, [
    ⟨"HI", 0, 32, .ro, fun _ _ => 0, none, false⟩]⟩,
  ⟨"TRIM_SOLVE", 0x20018, 0, 1, 4, 1, 0, [
    ⟨"ITERS", 0, 16, .ro, fun _ _ => 0, none, false⟩,
    ⟨"TIME_US", 16, 16, .ro, fun _ _ => 0, none, false⟩]⟩,
  ⟨"TRIM_STATIC", 0x2001c, 0, 1, 4, 1, 0, [
    ⟨"HUB", 0, 12, .ro, fun _ _ => 0, none, false⟩,
    ⟨"STACK", 16, 12, .ro, fun _ _ => 0, none, false⟩]⟩,
  ⟨"TRIM_FLOOR", 0x20020, 0, 1, 4, 1, 0, [
    ⟨"SUM", 0, 11, .ro, fun _ _ => 0, none, false⟩]⟩,
  ⟨"TRIM_EVT", 0x20024, 0, 1, 4, 1, 0, [
    ⟨"FALLBACKS", 0, 16, .rc, fun _ _ => 0, none, false⟩,
    ⟨"PROJ", 16, 16, .rc, fun _ _ => 0, none, false⟩]⟩,
  ⟨"TRIM_PEN", 0x20028, 0, 1, 4, 1, 0, [
    ⟨"EXP", 0, 5, .rw, fun _ _ => 14, none, false⟩]⟩,
  ⟨"TRIM_VAR0", 0x20100, 16, 48, 4, 1, 0, [
    ⟨"LO", 0, 12, .rw, fun _ _ => 0, none, false⟩,
    ⟨"HI", 16, 12, .rw, fun _ _ => 0, none, false⟩]⟩,
  ⟨"TRIM_VAR1", 0x20104, 16, 48, 4, 1, 0, [
    ⟨"WEIGHT", 0, 8, .rw, fun i _ => if i < 4 then 16 else if i < 40 then 64 else if i = 40 then 4 else 0, none, false⟩,
    ⟨"HEAD", 8, 8, .rw, fun _ _ => 10, none, false⟩,
    ⟨"EXPO_T", 16, 8, .rw, fun i _ => if i < 4 then 0 else if 12 ≤ i ∧ i ≤ 17 then 105 else 70, none, false⟩,
    ⟨"EXPO_S", 24, 8, .rw, fun i _ => if 12 ≤ i ∧ i ≤ 17 then 77 else 0, none, false⟩]⟩,
  ⟨"TRIM_VAR2", 0x20108, 16, 48, 4, 1, 0, [
    ⟨"PLAN", 0, 12, .ro, fun _ _ => 0, none, false⟩,
    ⟨"DEMAND", 16, 12, .ro, fun _ _ => 0, none, false⟩]⟩,
  ⟨"TRIM_VAR3", 0x2010c, 16, 48, 4, 1, 0, [
    ⟨"MEAS", 0, 12, .ro, fun _ _ => 0, none, false⟩,
    ⟨"STATIC", 16, 12, .rw, fun _ _ => 0, none, false⟩]⟩,
  ⟨"TRIM_ZONE", 0x20400, 4, 7, 4, 1, 0, [
    ⟨"TMAX", 0, 8, .rw, fun i _ => if i = 0 then 100 else if i < 5 then 95 else 88, none, false⟩,
    ⟨"TEMP", 8, 8, .ro, fun _ _ => 0, none, false⟩,
    ⟨"PRED", 16, 8, .ro, fun _ _ => 0, none, false⟩]⟩,
  ⟨"TRIM_POOL", 0x20500, 4, 5, 4, 1, 0, [
    ⟨"RATIO", 0, 12, .ro, fun _ _ => 256, none, false⟩]⟩,
  ⟨"TRIM_H", 0x21000, 256, 7, 4, 48, 0, [
    ⟨"H", 0, 16, .rw, fun i j => trimHeat i j, none, false⟩]⟩]

/-- Registers of block SNS. -/
def regsSNS : List RegSpec := [
  ⟨"SNS_CTRL", 0x30000, 0, 1, 4, 1, 0, [
    ⟨"SYNC", 0, 1, .wo, fun _ _ => 0, none, false⟩]⟩,
  ⟨"SNS_THERM", 0x30008, 0, 1, 4, 1, 0, [
    ⟨"TRIP_C", 0, 8, .rwl, fun _ _ => 110, some (90, 115), false⟩,
    ⟨"TRIPPED", 8, 1, .ro, fun _ _ => 0, none, true⟩]⟩,
  ⟨"SNS_CONV", 0x30010, 16, 16, 4, 1, 0, [
    ⟨"TRIG", 0, 1, .wo, fun _ _ => 0, none, false⟩,
    ⟨"CHAN", 8, 9, .rw, fun _ _ => 0, none, false⟩,
    ⟨"BUSY", 24, 1, .ro, fun _ _ => 0, none, false⟩,
    ⟨"PEND", 25, 1, .ro, fun _ _ => 0, none, false⟩]⟩,
  ⟨"SNS_CONV1", 0x30014, 16, 16, 4, 1, 0, [
    ⟨"OVERRUN_COUNT", 0, 16, .rc, fun _ _ => 0, none, false⟩]⟩,
  ⟨"SNS_ISCALE", 0x30200, 4, 16, 4, 1, 0, [
    ⟨"SCALE", 0, 16, .rwl, fun _ _ => 10, none, false⟩]⟩,
  ⟨"SNS_LIST", 0x30400, 4, 256, 4, 1, 0, [
    ⟨"CHAN", 0, 9, .rwl, fun i _ => snsListChan i, none, false⟩,
    ⟨"CONV", 12, 4, .rwl, fun i _ => snsListConv i, none, false⟩,
    ⟨"EVERY", 16, 2, .rwl, fun i _ => snsListEvery i, none, false⟩,
    ⟨"PHASE", 20, 2, .rwl, fun i _ => snsListPhase i, none, false⟩,
    ⟨"EN", 31, 1, .rwl, fun i _ => if i < 218 then 1 else 0, none, false⟩]⟩,
  ⟨"SNS_CH", 0x31000, 4, 220, 4, 1, 0, [
    ⟨"CODE", 0, 12, .ro, fun _ _ => 0, none, true⟩,
    ⟨"VALID", 12, 1, .ro, fun _ _ => 0, none, true⟩,
    ⟨"SETTLING", 13, 1, .ro, fun _ _ => 0, none, true⟩,
    ⟨"STALE", 14, 1, .ro, fun _ _ => 0, none, true⟩,
    ⟨"HELD", 16, 12, .ro, fun _ _ => 0, none, true⟩]⟩]

/-- Registers of block BOOT. -/
def regsBOOT : List RegSpec := [
  ⟨"BOOT_STAT", 0x40000, 0, 1, 4, 1, 0, [
    ⟨"STAGE", 0, 4, .ro, fun _ _ => 0, none, false⟩,
    ⟨"PCT", 8, 7, .ro, fun _ _ => 0, none, false⟩,
    ⟨"WAIT_HOST", 16, 1, .ro, fun _ _ => 0, none, false⟩]⟩,
  ⟨"BOOT_FAIL", 0x40004, 0, 1, 4, 1, 0, [
    ⟨"REASON", 0, 8, .ro, fun _ _ => 0, none, false⟩,
    ⟨"STAGE", 8, 4, .ro, fun _ _ => 0, none, false⟩,
    ⟨"UNIT", 16, 12, .ro, fun _ _ => 0, none, false⟩]⟩,
  ⟨"BOOT_PROFILE", 0x40008, 0, 1, 4, 1, 0, [
    ⟨"CUR", 0, 2, .rw, fun _ _ => 0, none, false⟩,
    ⟨"LBIST", 4, 1, .rw, fun _ _ => 1, none, false⟩,
    ⟨"NEXT", 8, 2, .rw, fun _ _ => 0, none, true⟩,
    ⟨"COLD", 12, 1, .ro, fun _ _ => 0, none, false⟩]⟩,
  ⟨"BOOT_STRAP", 0x4000c, 0, 1, 4, 1, 0, [
    ⟨"MT_SEL", 0, 2, .ro, fun _ _ => 0, none, true⟩]⟩,
  ⟨"BOOT_MT_CTRL", 0x40010, 0, 1, 4, 1, 0, [
    ⟨"PWR", 0, 8, .rw, fun _ _ => 120, some (40, 180), false⟩,
    ⟨"SPPR_EN", 8, 1, .rw, fun _ _ => 1, none, false⟩]⟩,
  ⟨"BOOT_MT_STAT", 0x40014, 0, 1, 4, 1, 0, [
    ⟨"FAILS", 0, 16, .ro, fun _ _ => 0, none, false⟩,
    ⟨"SPPR", 16, 16, .ro, fun _ _ => 0, none, false⟩]⟩,
  ⟨"BOOT_WAVE", 0x40018, 0, 1, 4, 1, 0, [
    ⟨"CORES", 0, 9, .rw, fun _ _ => 256, some (1, 256), false⟩,
    ⟨"INTERVAL", 16, 16, .rw, fun _ _ => 2000, some (2000, 65535), false⟩]⟩,
  ⟨"BOOT_FW_CTRL", 0x40020, 0, 1, 4, 1, 0, [
    ⟨"SRC", 0, 1, .rw, fun _ _ => 0, none, false⟩,
    ⟨"GO", 4, 1, .wo, fun _ _ => 0, none, false⟩,
    ⟨"WAIT_S", 8, 8, .rw, fun _ _ => 30, none, false⟩]⟩,
  ⟨"BOOT_FW_ADDR_LO", 0x40028, 0, 1, 4, 1, 0, [
    ⟨"ADDR_LO", 0, 32, .rw, fun _ _ => 0, none, false⟩]⟩,
  ⟨"BOOT_FW_ADDR_HI", 0x4002c, 0, 1, 4, 1, 0, [
    ⟨"ADDR_HI", 0, 32, .rw, fun _ _ => 0, none, false⟩]⟩,
  ⟨"BOOT_FW_LEN", 0x40030, 0, 1, 4, 1, 0, [
    ⟨"LEN", 0, 32, .rw, fun _ _ => 0, none, false⟩]⟩,
  ⟨"BOOT_IRQ", 0x40034, 0, 1, 4, 1, 0, [
    ⟨"VEC", 0, 9, .rw, fun _ _ => 0, none, false⟩]⟩,
  ⟨"BOOT_TIME", 0x40100, 4, 12, 4, 1, 0, [
    ⟨"US", 0, 32, .ro, fun _ _ => 0, none, false⟩]⟩,
  ⟨"BOOT_LBIST_FAIL_LO", 0x40140, 0, 1, 4, 1, 0, [
    ⟨"MASK", 0, 32, .ro, fun _ _ => 0, none, false⟩]⟩,
  ⟨"BOOT_LBIST_FAIL_HI", 0x40144, 0, 1, 4, 1, 0, [
    ⟨"MASK", 0, 16, .ro, fun _ _ => 0, none, false⟩]⟩,
  ⟨"BOOT_WAVE_STAT", 0x40200, 4, 4, 4, 1, 0, [
    ⟨"UP", 0, 16, .ro, fun _ _ => 0, none, false⟩,
    ⟨"WAVES", 16, 8, .ro, fun _ _ => 0, none, false⟩]⟩]

/-- Registers of block MAP. -/
def regsMAP : List RegSpec := [
  ⟨"MAP_EPOCH", 0x50000, 0, 1, 4, 1, 0, [
    ⟨"CUR", 0, 32, .ro, fun _ _ => 0, none, false⟩]⟩,
  ⟨"MAP_EPOCH_STAT", 0x50004, 0, 1, 4, 1, 0, [
    ⟨"DRAIN", 0, 1, .ro, fun _ _ => 0, none, false⟩,
    ⟨"QUEUED", 1, 1, .ro, fun _ _ => 0, none, false⟩,
    ⟨"OLD_TXN", 8, 16, .ro, fun _ _ => 0, none, false⟩]⟩,
  ⟨"MAP_COUNT", 0x50008, 0, 1, 4, 1, 0, [
    ⟨"ENG", 0, 7, .ro, fun _ _ => 0, none, false⟩,
    ⟨"TILE", 8, 5, .ro, fun _ _ => 0, none, false⟩,
    ⟨"BANK", 16, 11, .ro, fun _ _ => 0, none, false⟩]⟩,
  ⟨"MAP_SPARES", 0x5000c, 0, 1, 4, 1, 0, [
    ⟨"ENG", 0, 4, .ro, fun _ _ => 0, none, false⟩,
    ⟨"TILE", 4, 4, .ro, fun _ _ => 0, none, false⟩,
    ⟨"BANK", 16, 7, .ro, fun _ _ => 0, none, false⟩]⟩,
  ⟨"MAP_SITE", 0x50010, 4, 4, 4, 1, 0, [
    ⟨"LIVE", 0, 6, .ro, fun _ _ => 0, none, false⟩,
    ⟨"SPARE", 8, 6, .ro, fun _ _ => 0, none, false⟩]⟩,
  ⟨"MAP_CMD", 0x50100, 0, 1, 4, 1, 0, [
    ⟨"OP", 0, 3, .wo, fun _ _ => 0, none, false⟩,
    ⟨"TYPE", 4, 3, .wo, fun _ _ => 0, none, false⟩,
    ⟨"MODE", 7, 1, .wo, fun _ _ => 0, none, false⟩,
    ⟨"PERSIST", 8, 1, .wo, fun _ _ => 0, none, false⟩,
    ⟨"DISCARD", 9, 1, .wo, fun _ _ => 0, none, false⟩,
    ⟨"SITE", 12, 2, .wo, fun _ _ => 0, none, false⟩,
    ⟨"UNIT", 16, 11, .wo, fun _ _ => 0, none, false⟩]⟩,
  ⟨"MAP_CMD_STAT", 0x50104, 0, 1, 4, 1, 0, [
    ⟨"STATUS", 0, 4, .ro, fun _ _ => 0, none, false⟩,
    ⟨"BUSY", 4, 1, .ro, fun _ _ => 0, none, false⟩,
    ⟨"EPOCH", 16, 16, .ro, fun _ _ => 0, none, false⟩]⟩,
  ⟨"MAP_LOOKUP", 0x50108, 0, 1, 4, 1, 0, [
    ⟨"LOGICAL", 0, 11, .rw, fun _ _ => 0, none, false⟩,
    ⟨"TYPE", 12, 3, .rw, fun _ _ => 0, none, false⟩,
    ⟨"SITE", 16, 2, .rw, fun _ _ => 0, none, false⟩,
    ⟨"PHYS", 20, 11, .ro, fun _ _ => 0, none, false⟩,
    ⟨"VALID", 31, 1, .ro, fun _ _ => 0, none, false⟩]⟩,
  ⟨"MAP_ENG", 0x51000, 4, 68, 4, 1, 0, [
    ⟨"STATE", 0, 3, .ro, fun _ _ => 0, none, false⟩,
    ⟨"CAUSE", 4, 4, .ro, fun _ _ => 0, none, false⟩,
    ⟨"FAILS", 12, 4, .ro, fun _ _ => 0, none, false⟩,
    ⟨"LOGICAL", 16, 11, .ro, fun _ _ => 2047, none, false⟩]⟩,
  ⟨"MAP_TILE", 0x51200, 4, 18, 4, 1, 0, [
    ⟨"STATE", 0, 3, .ro, fun _ _ => 0, none, false⟩,
    ⟨"CAUSE", 4, 4, .ro, fun _ _ => 0, none, false⟩,
    ⟨"FAILS", 12, 4, .ro, fun _ _ => 0, none, false⟩,
    ⟨"LOGICAL", 16, 11, .ro, fun _ _ => 2047, none, false⟩]⟩,
  ⟨"MAP_BANK", 0x52000, 4, 1600, 4, 1, 0, [
    ⟨"STATE", 0, 3, .ro, fun _ _ => 0, none, false⟩,
    ⟨"CAUSE", 4, 4, .ro, fun _ _ => 0, none, false⟩,
    ⟨"ROWS", 8, 4, .ro, fun _ _ => 0, none, false⟩,
    ⟨"FAILS", 12, 4, .ro, fun _ _ => 0, none, false⟩,
    ⟨"LOGICAL", 16, 11, .ro, fun _ _ => 2047, none, false⟩]⟩,
  ⟨"MAP_MOD", 0x54000, 256, 4, 4, 34, 0, [
    ⟨"STATE", 0, 3, .ro, fun _ _ => 0, none, false⟩,
    ⟨"CAUSE", 4, 4, .ro, fun _ _ => 0, none, false⟩,
    ⟨"FAILS", 12, 4, .ro, fun _ _ => 0, none, false⟩,
    ⟨"LOGICAL", 16, 11, .ro, fun _ _ => 2047, none, false⟩]⟩,
  ⟨"MAP_LANE", 0x54400, 4, 32, 4, 1, 0, [
    ⟨"STATE", 0, 3, .ro, fun _ _ => 0, none, false⟩,
    ⟨"CAUSE", 4, 4, .ro, fun _ _ => 0, none, false⟩,
    ⟨"FAILS", 12, 4, .ro, fun _ _ => 0, none, false⟩,
    ⟨"LOGICAL", 16, 11, .ro, fun _ _ => 2047, none, false⟩]⟩,
  ⟨"MAP_FUSE_CRC", 0x50200, 0, 1, 4, 1, 0, [
    ⟨"CRC", 0, 32, .ro, fun _ _ => 0, none, false⟩]⟩,
  ⟨"MAP_FUSE_ROWADDR", 0x58000, 32, 1600, 4, 8, 0, [
    ⟨"ROW", 0, 10, .ro, fun _ _ => 0, none, false⟩,
    ⟨"USED", 31, 1, .ro, fun _ _ => 0, none, false⟩]⟩]

/-- Registers of block RING. -/
def regsRING : List RegSpec := [
  ⟨"RING_SQ_BASE_LO", 0x100000, 256, 256, 4, 1, 0, [
    ⟨"BASE_LO", 0, 32, .rw, fun _ _ => 0, none, false⟩]⟩,
  ⟨"RING_SQ_BASE_HI", 0x100004, 256, 256, 4, 1, 0, [
    ⟨"BASE_HI", 0, 32, .rw, fun _ _ => 0, none, false⟩]⟩,
  ⟨"RING_CQ_BASE_LO", 0x100008, 256, 256, 4, 1, 0, [
    ⟨"BASE_LO", 0, 32, .rw, fun _ _ => 0, none, false⟩]⟩,
  ⟨"RING_CQ_BASE_HI", 0x10000c, 256, 256, 4, 1, 0, [
    ⟨"BASE_HI", 0, 32, .rw, fun _ _ => 0, none, false⟩]⟩,
  ⟨"RING_SIZE", 0x100010, 256, 256, 4, 1, 0, [
    ⟨"SQ_LOG2", 0, 5, .rw, fun _ _ => 0, none, false⟩,
    ⟨"CQ_LOG2", 8, 5, .rw, fun _ _ => 0, none, false⟩]⟩,
  ⟨"RING_CTRL", 0x100014, 256, 256, 4, 1, 0, [
    ⟨"ENABLE", 0, 1, .rw, fun _ _ => 0, none, false⟩]⟩,
  ⟨"RING_OWNER", 0x100018, 256, 256, 4, 1, 0, [
    ⟨"FN", 0, 5, .rw, fun _ _ => 0, none, false⟩,
    ⟨"LOCAL", 8, 6, .rw, fun _ _ => 0, none, false⟩]⟩,
  ⟨"RING_IRQ", 0x10001c, 256, 256, 4, 1, 0, [
    ⟨"VEC", 0, 9, .rw, fun _ _ => 0, none, false⟩,
    ⟨"COUNT", 16, 8, .rw, fun _ _ => 1, none, false⟩,
    ⟨"EN", 31, 1, .rw, fun _ _ => 0, none, false⟩]⟩,
  ⟨"RING_IRQ_TIMER", 0x100020, 256, 256, 4, 1, 0, [
    ⟨"US", 0, 10, .rw, fun _ _ => 0, none, false⟩]⟩,
  ⟨"RING_STAT", 0x100024, 256, 256, 4, 1, 0, [
    ⟨"STATE", 0, 3, .ro, fun _ _ => 0, none, false⟩,
    ⟨"CQ_FULL", 4, 1, .ro, fun _ _ => 0, none, false⟩,
    ⟨"FAULTED", 5, 1, .w1c, fun _ _ => 0, none, false⟩,
    ⟨"CAUSE", 8, 4, .ro, fun _ _ => 0, none, false⟩,
    ⟨"GEN", 16, 16, .ro, fun _ _ => 0, none, false⟩]⟩,
  ⟨"RING_SQ_PTR", 0x100028, 256, 256, 4, 1, 0, [
    ⟨"SQ_HEAD", 0, 16, .ro, fun _ _ => 0, none, false⟩,
    ⟨"SQ_TAIL", 16, 16, .ro, fun _ _ => 0, none, false⟩]⟩,
  ⟨"RING_CQ_PTR", 0x10002c, 256, 256, 4, 1, 0, [
    ⟨"CQ_TAIL", 0, 16, .ro, fun _ _ => 0, none, false⟩,
    ⟨"CQ_HEAD", 16, 15, .ro, fun _ _ => 0, none, false⟩,
    ⟨"PHASE", 31, 1, .ro, fun _ _ => 1, none, false⟩]⟩,
  ⟨"RING_DB_CNT", 0x100030, 256, 256, 4, 1, 0, [
    ⟨"DB_DROP", 0, 16, .rc, fun _ _ => 0, none, false⟩,
    ⟨"DB_STALE", 16, 16, .rc, fun _ _ => 0, none, false⟩]⟩,
  ⟨"RING_DONE_LO", 0x100038, 256, 256, 4, 1, 0, [
    ⟨"LO", 0, 32, .ro, fun _ _ => 0, none, false⟩]⟩,
  ⟨"RING_DONE_HI", 0x10003c, 256, 256, 4, 1, 0, [
    ⟨"HI", 0, 32, .ro, fun _ _ => 0, none, false⟩]⟩,
  ⟨"RING_CQ_HEAD16", 0x100040, 256, 256, 4, 1, 0, [
    ⟨"BIT", 0, 1, .ro, fun _ _ => 0, none, false⟩]⟩]

/-- Registers of block DISP. -/
def regsDISP : List RegSpec := [
  ⟨"DISP_CTRL", 0x110000, 0, 1, 4, 1, 0, [
    ⟨"EHOLD_WARN", 0, 8, .rw, fun _ _ => 4, none, false⟩,
    ⟨"WAIT_MAX", 8, 16, .rw, fun _ _ => 1000, none, false⟩]⟩,
  ⟨"DISP_POOL", 0x110010, 16, 5, 4, 1, 0, [
    ⟨"GRANT", 0, 32, .ro, fun _ _ => 0, none, false⟩]⟩,
  ⟨"DISP_POOL1", 0x110014, 16, 5, 4, 1, 0, [
    ⟨"BALANCE", 0, 32, .ro, fun _ _ => 0, none, false⟩]⟩,
  ⟨"DISP_POOL2", 0x110018, 16, 5, 4, 1, 0, [
    ⟨"DEMAND", 0, 32, .ro, fun _ _ => 0, none, false⟩]⟩,
  ⟨"DISP_POOL3", 0x11001c, 16, 5, 4, 1, 0, [
    ⟨"HELD", 0, 16, .ro, fun _ _ => 0, none, false⟩]⟩,
  ⟨"DISP_OVL", 0x110060, 0, 1, 4, 1, 0, [
    ⟨"GRANT", 0, 32, .ro, fun _ _ => 0, none, false⟩]⟩,
  ⟨"DISP_OVL1", 0x110064, 0, 1, 4, 1, 0, [
    ⟨"LEFT", 0, 32, .ro, fun _ _ => 0, none, false⟩]⟩,
  ⟨"DISP_OCLASS_MISS", 0x110068, 0, 1, 4, 1, 0, [
    ⟨"COUNT", 0, 16, .rc, fun _ _ => 0, none, false⟩]⟩,
  ⟨"DISP_BND", 0x111000, 16, 256, 4, 1, 0, [
    ⟨"BATCH", 0, 16, .ro, fun _ _ => 0, none, false⟩,
    ⟨"FENCE", 16, 2, .ro, fun _ _ => 0, none, false⟩,
    ⟨"OPEN", 20, 1, .ro, fun _ _ => 0, none, false⟩,
    ⟨"TAIL_LEFT", 24, 8, .ro, fun _ _ => 0, none, false⟩]⟩,
  ⟨"DISP_BND1", 0x111004, 16, 256, 4, 1, 0, [
    ⟨"PRELOADS", 0, 16, .ro, fun _ _ => 0, none, false⟩,
    ⟨"VIOL", 16, 16, .rc, fun _ _ => 0, none, false⟩]⟩,
  ⟨"DISP_RING", 0x112000, 4, 256, 4, 1, 0, [
    ⟨"INFLIGHT", 0, 7, .ro, fun _ _ => 0, none, false⟩,
    ⟨"HOLD", 8, 4, .ro, fun _ _ => 0, none, false⟩]⟩]

/-- Registers of block CLT. -/
def regsCLT : List RegSpec := [
  ⟨"CLT", 0x120000, 8, 4096, 4, 1, 0, [
    ⟨"VALUE", 0, 32, .rw, fun _ _ => 0, none, false⟩]⟩,
  ⟨"CLT_ADD", 0x120004, 8, 4096, 4, 1, 0, [
    ⟨"ADD", 0, 32, .wo, fun _ _ => 0, none, false⟩]⟩,
  ⟨"CLT_STAT", 0x128000, 0, 1, 4, 1, 0, [
    ⟨"WAITERS", 0, 12, .ro, fun _ _ => 0, none, false⟩,
    ⟨"DENIED", 16, 16, .rc, fun _ _ => 0, none, false⟩]⟩,
  ⟨"CLT_CLEAR", 0x128008, 0, 1, 4, 1, 0, [
    ⟨"BASE", 0, 12, .wo, fun _ _ => 0, none, false⟩,
    ⟨"COUNT", 12, 13, .wo, fun _ _ => 0, none, false⟩]⟩,
  ⟨"CLT_SITE_WIN", 0x128010, 8, 4, 4, 1, 0, [
    ⟨"BASE", 0, 12, .rw, fun _ _ => 0, none, false⟩,
    ⟨"COUNT", 12, 13, .rw, fun _ _ => 0, none, false⟩]⟩,
  ⟨"CLT_WATCH0", 0x129000, 16, 64, 4, 1, 0, [
    ⟨"CLEAT", 0, 12, .rw, fun _ _ => 0, none, false⟩,
    ⟨"CMP", 12, 4, .rw, fun _ _ => 0, none, false⟩,
    ⟨"EN", 31, 1, .rw, fun _ _ => 0, none, false⟩]⟩,
  ⟨"CLT_WATCH1", 0x129004, 16, 64, 4, 1, 0, [
    ⟨"VALUE", 0, 32, .rw, fun _ _ => 0, none, false⟩]⟩,
  ⟨"CLT_WATCH2", 0x129008, 16, 64, 4, 1, 0, [
    ⟨"TMO", 0, 16, .rw, fun _ _ => 0, none, false⟩,
    ⟨"VEC", 16, 9, .rw, fun _ _ => 0, none, false⟩]⟩,
  ⟨"CLT_WATCH3", 0x12900c, 16, 64, 4, 1, 0, [
    ⟨"FIRED", 0, 1, .w1c, fun _ _ => 0, none, false⟩,
    ⟨"TIMEDOUT", 1, 1, .w1c, fun _ _ => 0, none, false⟩]⟩]

/-- Registers of block TIME. -/
def regsTIME : List RegSpec := [
  ⟨"TIME_NOW_LO", 0x130000, 0, 1, 4, 1, 0, [
    ⟨"LO", 0, 32, .ro, fun _ _ => 0, none, false⟩]⟩,
  ⟨"TIME_NOW_HI", 0x130004, 0, 1, 4, 1, 0, [
    ⟨"HI", 0, 32, .ro, fun _ _ => 0, none, false⟩]⟩,
  ⟨"TIME_STAT", 0x130008, 0, 1, 4, 1, 0, [
    ⟨"TRUSTED", 0, 1, .ro, fun _ _ => 1, none, false⟩,
    ⟨"DISC", 1, 2, .ro, fun _ _ => 0, none, false⟩,
    ⟨"REFLOST", 4, 1, .ro, fun _ _ => 0, none, true⟩,
    ⟨"STALE_HALF", 8, 1, .w1c, fun _ _ => 0, none, false⟩]⟩,
  ⟨"TIME_ADJ", 0x13000c, 0, 1, 4, 1, 0, [
    ⟨"PPB", 0, 24, .rw, fun _ _ => 0, none, false⟩]⟩,
  ⟨"TIME_SLEW", 0x130010, 0, 1, 4, 1, 0, [
    ⟨"NS", 0, 32, .wo, fun _ _ => 0, none, false⟩]⟩,
  ⟨"TIME_SET_LO", 0x130018, 0, 1, 4, 1, 0, [
    ⟨"LO", 0, 32, .rw, fun _ _ => 0, none, false⟩]⟩,
  ⟨"TIME_SET_HI", 0x13001c, 0, 1, 4, 1, 0, [
    ⟨"HI", 0, 32, .wo, fun _ _ => 0, none, false⟩]⟩,
  ⟨"TIME_CTRL", 0x130020, 0, 1, 4, 1, 0, [
    ⟨"SLEW_PPM", 0, 10, .rw, fun _ _ => 100, none, false⟩]⟩,
  ⟨"TIME_STEPS", 0x130024, 0, 1, 4, 1, 0, [
    ⟨"COUNT", 0, 16, .rc, fun _ _ => 0, none, true⟩]⟩,
  ⟨"TIME_EVT_SEL", 0x130100, 4, 16, 4, 1, 0, [
    ⟨"SEL", 0, 4, .rw, fun _ _ => 0, none, false⟩]⟩,
  ⟨"TIME_EVT_LO", 0x130200, 8, 16, 4, 1, 0, [
    ⟨"LO", 0, 32, .ro, fun _ _ => 0, none, false⟩]⟩,
  ⟨"TIME_EVT_HI", 0x130204, 8, 16, 4, 1, 0, [
    ⟨"HI", 0, 32, .ro, fun _ _ => 0, none, false⟩]⟩]

/-- Registers of block BUF. -/
def regsBUF : List RegSpec := [
  ⟨"BUF_CTRL", 0x200000, 0, 1, 4, 1, 0, [
    ⟨"RECALL_TMO", 0, 10, .rw, fun _ _ => 100, some (10, 1000), false⟩]⟩,
  ⟨"BUF_STAT", 0x200004, 0, 1, 4, 1, 0, [
    ⟨"COH_MIB", 0, 7, .ro, fun _ _ => 0, none, false⟩,
    ⟨"SITE_COH", 8, 4, .ro, fun _ _ => 0, none, false⟩,
    ⟨"WALK", 12, 1, .ro, fun _ _ => 0, none, false⟩]⟩,
  ⟨"BUF_EVT", 0x200008, 0, 1, 4, 1, 0, [
    ⟨"CONFLICTS", 0, 16, .rc, fun _ _ => 0, none, false⟩,
    ⟨"PROTO", 16, 16, .rc, fun _ _ => 0, none, false⟩]⟩,
  ⟨"BUF_RECALLS_LO", 0x200010, 0, 1, 4, 1, 0, [
    ⟨"LO", 0, 32, .ro, fun _ _ => 0, none, false⟩]⟩,
  ⟨"BUF_RECALLS_HI", 0x200014, 0, 1, 4, 1, 0, [
    ⟨"HI", 0, 32, .ro, fun _ _ => 0, none, false⟩]⟩,
  ⟨"BUF_WIN0", 0x200100, 16, 8, 4, 1, 0, [
    ⟨"BASE", 0, 9, .rw, fun _ _ => 0, none, false⟩,
    ⟨"SIZE", 16, 7, .rw, fun _ _ => 0, none, false⟩]⟩,
  ⟨"BUF_WIN1", 0x200104, 16, 8, 4, 1, 0, [
    ⟨"CMD", 0, 2, .wo, fun _ _ => 0, none, false⟩]⟩,
  ⟨"BUF_WIN2", 0x200108, 16, 8, 4, 1, 0, [
    ⟨"STATE", 0, 2, .ro, fun _ _ => 0, none, false⟩,
    ⟨"ERR", 4, 4, .ro, fun _ _ => 0, none, false⟩]⟩,
  ⟨"BUF_DIR_CNT0", 0x200200, 0, 1, 4, 1, 0, [
    ⟨"SHARED", 0, 21, .ro, fun _ _ => 0, none, false⟩]⟩,
  ⟨"BUF_DIR_CNT1", 0x200204, 0, 1, 4, 1, 0, [
    ⟨"OWNED", 0, 21, .ro, fun _ _ => 0, none, false⟩]⟩,
  ⟨"BUF_DIR_QUERY", 0x200300, 0, 1, 4, 1, 0, [
    ⟨"OFFSET", 6, 23, .rw, fun _ _ => 0, none, false⟩]⟩,
  ⟨"BUF_DIR_RESULT", 0x200304, 0, 1, 4, 1, 0, [
    ⟨"STATE", 0, 2, .ro, fun _ _ => 0, none, false⟩,
    ⟨"MASK", 4, 4, .ro, fun _ _ => 0, none, false⟩,
    ⟨"OWNER", 8, 2, .ro, fun _ _ => 0, none, false⟩,
    ⟨"PENDING", 12, 1, .ro, fun _ _ => 0, none, false⟩,
    ⟨"QUEUED", 16, 3, .ro, fun _ _ => 0, none, false⟩,
    ⟨"SLICE", 24, 4, .ro, fun _ _ => 0, none, false⟩]⟩,
  ⟨"BUF_RR", 0x200400, 4, 16, 4, 1, 0, [
    ⟨"PTR", 0, 3, .ro, fun _ _ => 0, none, false⟩]⟩,
  ⟨"BUF_TILE_LOAD", 0x201000, 4, 48, 4, 1, 0, [
    ⟨"LOAD", 0, 10, .ro, fun _ _ => 0, none, false⟩]⟩]

/-- Registers of block MEM. -/
def regsMEM : List RegSpec := [
  ⟨"MEM_CFG", 0x300000, 131072, 6, 4, 1, 0, [
    ⟨"RATE_MAX", 0, 4, .rwl, fun _ _ => 6, none, false⟩,
    ⟨"PD_EN", 4, 1, .rw, fun _ _ => 1, none, false⟩,
    ⟨"PD_IDLE", 8, 8, .rw, fun _ _ => 50, none, false⟩]⟩,
  ⟨"MEM_STAT", 0x300004, 131072, 6, 4, 1, 0, [
    ⟨"RATE", 0, 4, .ro, fun _ _ => 0, none, false⟩,
    ⟨"LANES_REP", 4, 8, .ro, fun _ _ => 0, none, false⟩,
    ⟨"TEMP", 16, 8, .ro, fun _ _ => 0, none, false⟩,
    ⟨"HOT", 24, 1, .ro, fun _ _ => 0, none, false⟩,
    ⟨"TRIP", 25, 1, .ro, fun _ _ => 0, none, false⟩]⟩,
  ⟨"MEM_TRAIN", 0x300008, 131072, 6, 4, 1, 0, [
    ⟨"CODE", 0, 4, .ro, fun _ _ => 0, none, false⟩,
    ⟨"CHAN", 8, 4, .ro, fun _ _ => 0, none, false⟩]⟩,
  ⟨"MEM_SCHED", 0x30000c, 131072, 6, 4, 1, 0, [
    ⟨"AGE_MAX", 0, 10, .rw, fun _ _ => 200, some (10, 1000), false⟩,
    ⟨"WR_HI", 16, 7, .rw, fun _ _ => 48, some (8, 64), false⟩,
    ⟨"WR_LO", 24, 7, .rw, fun _ _ => 16, none, false⟩]⟩,
  ⟨"MEM_THERM", 0x300010, 131072, 6, 4, 1, 0, [
    ⟨"TRIP_C", 0, 8, .rw, fun _ _ => 95, none, false⟩]⟩,
  ⟨"MEM_EVT", 0x300014, 131072, 6, 4, 1, 0, [
    ⟨"CAPAR", 0, 16, .rc, fun _ _ => 0, none, false⟩,
    ⟨"RFM", 16, 16, .rc, fun _ _ => 0, none, false⟩]⟩,
  ⟨"MEM_RD_BYTES_LO", 0x300020, 131072, 6, 4, 1, 0, [
    ⟨"LO", 0, 32, .ro, fun _ _ => 0, none, false⟩]⟩,
  ⟨"MEM_RD_BYTES_HI", 0x300024, 131072, 6, 4, 1, 0, [
    ⟨"HI", 0, 32, .ro, fun _ _ => 0, none, false⟩]⟩,
  ⟨"MEM_WR_BYTES_LO", 0x300028, 131072, 6, 4, 1, 0, [
    ⟨"LO", 0, 32, .ro, fun _ _ => 0, none, false⟩]⟩,
  ⟨"MEM_WR_BYTES_HI", 0x30002c, 131072, 6, 4, 1, 0, [
    ⟨"HI", 0, 32, .ro, fun _ _ => 0, none, false⟩]⟩,
  ⟨"MEM_PC", 0x300100, 131072, 6, 4, 32, 0, [
    ⟨"RDQ", 0, 7, .ro, fun _ _ => 0, none, false⟩,
    ⟨"WRQ", 8, 7, .ro, fun _ _ => 0, none, false⟩,
    ⟨"CONG", 16, 1, .ro, fun _ _ => 0, none, false⟩,
    ⟨"PD", 17, 1, .ro, fun _ _ => 0, none, false⟩]⟩]

/-- Registers of block QOS. -/
def regsQOS : List RegSpec := [
  ⟨"QOS_SHEET_CTRL", 0x400000, 0, 1, 4, 1, 0, [
    ⟨"HI", 0, 8, .rw, fun _ _ => 96, some (2, 128), false⟩,
    ⟨"LO", 8, 8, .rw, fun _ _ => 64, none, false⟩,
    ⟨"CUT", 16, 4, .rw, fun _ _ => 4, some (1, 8), false⟩,
    ⟨"RISE", 24, 8, .rw, fun _ _ => 64, none, false⟩]⟩,
  ⟨"QOS_SHEET_STAT", 0x400004, 0, 1, 4, 1, 0, [
    ⟨"CONG_PC", 0, 8, .ro, fun _ _ => 0, none, false⟩,
    ⟨"FLOOR_REF", 8, 1, .w1c, fun _ _ => 0, none, false⟩,
    ⟨"FLOOR_SCALED", 9, 1, .ro, fun _ _ => 0, none, false⟩,
    ⟨"CRITICAL", 10, 1, .ro, fun _ _ => 0, none, false⟩]⟩,
  ⟨"QOS_CLASS0", 0x400010, 16, 7, 4, 1, 0, [
    ⟨"CEIL", 0, 16, .rw, fun i _ => sheetCeil i, none, false⟩,
    ⟨"FLOOR", 16, 16, .rwl, fun i _ => sheetFloor i, none, false⟩]⟩,
  ⟨"QOS_CLASS1", 0x400014, 16, 7, 4, 1, 0, [
    ⟨"RATE", 0, 16, .ro, fun i _ => sheetCeil i, none, false⟩,
    ⟨"THROTTLED", 16, 1, .ro, fun _ _ => 0, none, false⟩]⟩,
  ⟨"QOS_CLASS2", 0x400018, 16, 7, 4, 1, 0, [
    ⟨"CUTS", 0, 16, .rc, fun _ _ => 0, none, false⟩]⟩,
  ⟨"QOS_TT0", 0x400200, 16, 13, 4, 1, 0, [
    ⟨"T1", 0, 7, .rw, fun i _ => if i < 4 then 0 else 50, none, false⟩,
    ⟨"T2", 8, 7, .rw, fun i _ => if i < 4 then 0 else 75, none, false⟩,
    ⟨"T3", 16, 7, .rw, fun i _ => if i < 4 then 0 else 90, none, false⟩]⟩,
  ⟨"QOS_TT1", 0x400204, 16, 13, 4, 1, 0, [
    ⟨"LEVEL", 0, 2, .ro, fun _ _ => 0, none, false⟩,
    ⟨"FILL", 8, 7, .ro, fun _ _ => 0, none, false⟩]⟩,
  ⟨"QOS_TT2", 0x400208, 16, 13, 4, 1, 0, [
    ⟨"BUDGET", 0, 16, .rw, fun i _ => if i < 4 then 20480 else if i = 4 then 1280 else 600, none, false⟩]⟩,
  ⟨"QOS_TT3", 0x40020c, 16, 13, 4, 1, 0, [
    ⟨"CLAMPS", 0, 16, .rc, fun _ _ => 0, none, false⟩,
    ⟨"URGENT", 16, 16, .rc, fun _ _ => 0, none, false⟩]⟩]

/-- Registers of block RAS. -/
def regsRAS : List RegSpec := [
  ⟨"RAS_CTRL", 0x500000, 0, 1, 4, 1, 0, [
    ⟨"VEC", 0, 9, .rw, fun _ _ => 0, none, false⟩,
    ⟨"IRQ_SEV", 12, 2, .rw, fun _ _ => 1, none, false⟩,
    ⟨"IRQ_EN", 15, 1, .rw, fun _ _ => 0, none, false⟩]⟩,
  ⟨"RAS_LOG_PTR", 0x500004, 0, 1, 4, 1, 0, [
    ⟨"PROD", 0, 10, .ro, fun _ _ => 0, none, false⟩,
    ⟨"CONS", 16, 10, .rw, fun _ _ => 0, none, false⟩]⟩,
  ⟨"RAS_LOG_STAT", 0x500008, 0, 1, 4, 1, 0, [
    ⟨"LOST", 0, 16, .rc, fun _ _ => 0, none, false⟩]⟩,
  ⟨"RAS_REPEAT_CFG", 0x50000c, 0, 1, 4, 1, 0, [
    ⟨"N", 0, 8, .rwl, fun _ _ => 4, some (2, 255), false⟩,
    ⟨"WINDOW_H", 8, 8, .rwl, fun _ _ => 24, some (1, 255), false⟩]⟩,
  ⟨"RAS_REPEAT_STAT", 0x500010, 0, 1, 4, 1, 0, [
    ⟨"TRACKED", 0, 9, .ro, fun _ _ => 0, none, false⟩,
    ⟨"UNTRACKED", 16, 16, .rc, fun _ _ => 0, none, false⟩]⟩,
  ⟨"RAS_SCRUB_DRAM", 0x500020, 0, 1, 4, 1, 0, [
    ⟨"HOURS", 0, 8, .rwl, fun _ _ => 24, none, false⟩,
    ⟨"PASSES", 16, 16, .ro, fun _ _ => 0, none, false⟩]⟩,
  ⟨"RAS_SCRUB_DRAM_POS", 0x500024, 0, 1, 4, 1, 0, [
    ⟨"GRANULE", 0, 26, .ro, fun _ _ => 0, none, false⟩]⟩,
  ⟨"RAS_SCRUB_BUF", 0x500028, 0, 1, 4, 1, 0, [
    ⟨"MIN", 0, 8, .rwl, fun _ _ => 10, none, false⟩,
    ⟨"PASSES", 16, 16, .ro, fun _ _ => 0, none, false⟩]⟩,
  ⟨"RAS_SCRUB_STAT", 0x50002c, 0, 1, 4, 1, 0, [
    ⟨"SKIP_FULL", 0, 1, .ro, fun _ _ => 0, none, false⟩,
    ⟨"OFF_SKIPS", 16, 16, .rc, fun _ _ => 0, none, false⟩]⟩,
  ⟨"RAS_CE_CNT", 0x500030, 0, 1, 4, 1, 0, [
    ⟨"BUF", 0, 16, .rc, fun _ _ => 0, none, false⟩,
    ⟨"DRAM", 16, 16, .rc, fun _ _ => 0, none, false⟩]⟩,
  ⟨"RAS_UE_CNT", 0x500034, 0, 1, 4, 1, 0, [
    ⟨"BUF", 0, 8, .rc, fun _ _ => 0, none, false⟩,
    ⟨"DRAM", 8, 8, .rc, fun _ _ => 0, none, false⟩,
    ⟨"LATENT", 16, 8, .rc, fun _ _ => 0, none, false⟩,
    ⟨"NVA", 24, 8, .rc, fun _ _ => 0, none, false⟩]⟩,
  ⟨"RAS_CAP", 0x500040, 0, 1, 4, 1, 0, [
    ⟨"INJECT", 0, 1, .rwl, fun _ _ => 0, none, false⟩]⟩,
  ⟨"RAS_FLIP_CTRL", 0x500044, 0, 1, 4, 1, 0, [
    ⟨"ARM", 0, 1, .rw, fun _ _ => 0, none, false⟩,
    ⟨"TARGET", 4, 3, .rw, fun _ _ => 0, none, false⟩,
    ⟨"CTRL_N", 8, 3, .rw, fun _ _ => 0, none, false⟩,
    ⟨"MATCH_EN", 12, 1, .rw, fun _ _ => 0, none, false⟩,
    ⟨"FIRED", 16, 1, .w1c, fun _ _ => 0, none, false⟩,
    ⟨"REFUSED", 17, 1, .w1c, fun _ _ => 0, none, false⟩]⟩,
  ⟨"RAS_FLIP_ADDR_LO", 0x500048, 0, 1, 4, 1, 0, [
    ⟨"LO", 0, 32, .rw, fun _ _ => 0, none, false⟩]⟩,
  ⟨"RAS_FLIP_ADDR_HI", 0x50004c, 0, 1, 4, 1, 0, [
    ⟨"HI", 0, 32, .rw, fun _ _ => 0, none, false⟩]⟩,
  ⟨"RAS_FLIP_NVA", 0x500050, 0, 1, 4, 1, 0, [
    ⟨"WIN", 0, 10, .rw, fun _ _ => 0, none, false⟩]⟩,
  ⟨"RAS_FLIP_MASK", 0x500060, 4, 9, 4, 1, 0, [
    ⟨"MASK", 0, 32, .rw, fun _ _ => 0, none, false⟩]⟩,
  ⟨"RAS_SKIP", 0x501000, 4, 512, 4, 1, 0, [
    ⟨"GRANULE", 0, 26, .rw, fun _ _ => 0, none, false⟩,
    ⟨"VALID", 31, 1, .rw, fun _ _ => 0, none, false⟩]⟩,
  ⟨"RAS_LOG", 0x508000, 32, 1024, 4, 8, 0, [
    ⟨"WORD", 0, 32, .ro, fun _ _ => 0, none, false⟩]⟩]

/-- Registers of block YDL. -/
def regsYDL : List RegSpec := [
  ⟨"YDL_CTRL", 0x600000, 262144, 4, 4, 1, 0, [
    ⟨"REPLAY_TMO", 0, 8, .rw, fun _ _ => 64, some (16, 255), false⟩,
    ⟨"ACK_INT", 8, 6, .rw, fun _ _ => 16, some (4, 63), false⟩,
    ⟨"AUTO_SPARE", 16, 1, .rw, fun _ _ => 1, none, false⟩,
    ⟨"RX_TERM", 17, 1, .rwl, fun _ _ => 0, none, false⟩]⟩,
  ⟨"YDL_STAT", 0x600004, 262144, 4, 4, 1, 0, [
    ⟨"STATE", 0, 3, .ro, fun _ _ => 0, none, false⟩,
    ⟨"LIVE", 8, 6, .ro, fun _ _ => 0, none, false⟩,
    ⟨"MSET_TX", 16, 8, .ro, fun _ _ => 0, none, false⟩,
    ⟨"RATE", 24, 4, .ro, fun _ _ => 0, none, false⟩]⟩,
  ⟨"YDL_SFN_TX", 0x600008, 262144, 4, 4, 1, 0, [
    ⟨"SFN", 0, 32, .ro, fun _ _ => 0, none, false⟩]⟩,
  ⟨"YDL_SFN_RX", 0x60000c, 262144, 4, 4, 1, 0, [
    ⟨"SFN", 0, 32, .ro, fun _ _ => 0, none, false⟩]⟩,
  ⟨"YDL_TT", 0x600010, 262144, 4, 4, 1, 0, [
    ⟨"LEVEL", 0, 2, .ro, fun _ _ => 0, none, false⟩,
    ⟨"BAD", 16, 16, .rc, fun _ _ => 0, none, false⟩]⟩,
  ⟨"YDL_EVT", 0x600014, 262144, 4, 4, 1, 0, [
    ⟨"DROPS", 0, 8, .rc, fun _ _ => 0, none, false⟩,
    ⟨"CHANGES", 8, 8, .rc, fun _ _ => 0, none, false⟩,
    ⟨"MSET_RX", 16, 8, .ro, fun _ _ => 0, none, false⟩,
    ⟨"BADOP", 24, 8, .rc, fun _ _ => 0, none, false⟩]⟩,
  ⟨"YDL_REPLAY", 0x600018, 262144, 4, 4, 1, 0, [
    ⟨"COUNT", 0, 32, .rc, fun _ _ => 0, none, false⟩]⟩,
  ⟨"YDL_NAKS", 0x60001c, 262144, 4, 4, 1, 0, [
    ⟨"COUNT", 0, 32, .rc, fun _ _ => 0, none, false⟩]⟩,
  ⟨"YDL_MOD", 0x600100, 262144, 4, 4, 34, 0, [
    ⟨"STATE", 0, 3, .ro, fun _ _ => 0, none, false⟩,
    ⟨"LOGICAL", 8, 6, .ro, fun _ _ => 63, none, false⟩,
    ⟨"RUN", 16, 4, .ro, fun _ _ => 0, none, false⟩,
    ⟨"CAUSE", 20, 2, .ro, fun _ _ => 0, none, false⟩]⟩,
  ⟨"YDL_MODCNT", 0x600200, 262144, 4, 4, 34, 0, [
    ⟨"RX_ERR", 0, 16, .rc, fun _ _ => 0, none, false⟩,
    ⟨"TX_NAK", 16, 16, .rc, fun _ _ => 0, none, false⟩]⟩,
  ⟨"YDL_DRIFT", 0x600300, 262144, 4, 4, 34, 0, [
    ⟨"OFFSET", 0, 6, .ro, fun _ _ => 0, none, false⟩,
    ⟨"PEAK", 8, 6, .ro, fun _ _ => 0, none, false⟩]⟩,
  ⟨"YDL_TRN", 0x600400, 262144, 4, 4, 34, 0, [
    ⟨"STEP", 0, 3, .ro, fun _ _ => 0, none, false⟩,
    ⟨"WIDTH", 8, 6, .ro, fun _ _ => 0, none, false⟩,
    ⟨"HEIGHT", 16, 6, .ro, fun _ _ => 0, none, false⟩,
    ⟨"LANE", 24, 7, .ro, fun _ _ => 0, none, false⟩]⟩,
  ⟨"YDL_PEER_ID", 0x600800, 262144, 4, 4, 1, 0, [
    ⟨"CLASS", 0, 8, .ro, fun _ _ => 0, none, false⟩,
    ⟨"VER", 8, 8, .ro, fun _ _ => 0, none, false⟩,
    ⟨"PCODE", 16, 16, .ro, fun _ _ => 0, none, false⟩]⟩,
  ⟨"YDL_PEER_SN_LO", 0x600804, 262144, 4, 4, 1, 0, [
    ⟨"LO", 0, 32, .ro, fun _ _ => 0, none, false⟩]⟩,
  ⟨"YDL_PEER_SN_HI", 0x600808, 262144, 4, 4, 1, 0, [
    ⟨"HI", 0, 32, .ro, fun _ _ => 0, none, false⟩]⟩,
  ⟨"YDL_PEER_CAP_LO", 0x60080c, 262144, 4, 4, 1, 0, [
    ⟨"LO", 0, 32, .ro, fun _ _ => 0, none, false⟩]⟩,
  ⟨"YDL_PEER_CAP_HI", 0x600810, 262144, 4, 4, 1, 0, [
    ⟨"HI", 0, 32, .ro, fun _ _ => 0, none, false⟩]⟩,
  ⟨"YDL_NEG_LO", 0x600814, 262144, 4, 4, 1, 0, [
    ⟨"LO", 0, 32, .ro, fun _ _ => 0, none, false⟩]⟩,
  ⟨"YDL_NEG_HI", 0x600818, 262144, 4, 4, 1, 0, [
    ⟨"HI", 0, 32, .ro, fun _ _ => 0, none, false⟩]⟩,
  ⟨"YDL_DISC", 0x60081c, 262144, 4, 4, 1, 0, [
    ⟨"VER", 0, 8, .ro, fun _ _ => 0, none, false⟩,
    ⟨"LDID", 8, 2, .ro, fun _ _ => 0, none, false⟩,
    ⟨"PHASE", 12, 3, .ro, fun _ _ => 0, none, false⟩,
    ⟨"WHY", 16, 4, .ro, fun _ _ => 0, none, false⟩]⟩,
  ⟨"YDL_PEER_PWR", 0x600820, 262144, 4, 4, 1, 0, [
    ⟨"WW", 0, 16, .ro, fun _ _ => 0, none, false⟩,
    ⟨"FASTDROP", 16, 8, .ro, fun _ _ => 0, none, false⟩,
    ⟨"P_IDLE", 24, 8, .ro, fun _ _ => 0, none, false⟩]⟩,
  ⟨"YDL_PEER_CORES", 0x600824, 262144, 4, 4, 1, 0, [
    ⟨"CORES", 0, 16, .ro, fun _ _ => 0, none, false⟩,
    ⟨"P_MAX", 16, 16, .ro, fun _ _ => 0, none, false⟩]⟩,
  ⟨"YDL_HUB_CAP_LO", 0x600828, 262144, 4, 4, 1, 0, [
    ⟨"LO", 0, 32, .rw, fun _ _ => 0x4040041F, none, true⟩]⟩,
  ⟨"YDL_HUB_CAP_HI", 0x60082c, 262144, 4, 4, 1, 0, [
    ⟨"HI", 0, 32, .rw, fun _ _ => 0x00000223, none, true⟩]⟩,
  ⟨"YDL_SB_STAT", 0x600830, 262144, 4, 4, 1, 0, [
    ⟨"LOST", 0, 8, .rc, fun _ _ => 0, none, false⟩,
    ⟨"RETRY", 8, 8, .rc, fun _ _ => 0, none, false⟩,
    ⟨"CRCERR", 16, 8, .rc, fun _ _ => 0, none, false⟩,
    ⟨"DEAD", 24, 1, .ro, fun _ _ => 0, none, false⟩]⟩,
  ⟨"YDL_ALLOW", 0x600834, 262144, 4, 4, 1, 0, [
    ⟨"ALLOW", 0, 16, .ro, fun _ _ => 0, none, false⟩,
    ⟨"OVER", 24, 8, .rc, fun _ _ => 0, none, false⟩]⟩,
  ⟨"YDL_POWER", 0x600838, 262144, 4, 4, 1, 0, [
    ⟨"POWER", 0, 16, .ro, fun _ _ => 0, none, false⟩,
    ⟨"MISSED", 16, 3, .ro, fun _ _ => 0, none, false⟩]⟩,
  ⟨"YDL_CTL", 0x60083c, 262144, 4, 4, 1, 0, [
    ⟨"BADMSG", 0, 16, .rc, fun _ _ => 0, none, false⟩]⟩,
  ⟨"YDL_CREDIT", 0x600840, 262144, 4, 4, 6, 0, [
    ⟨"HELD", 0, 16, .ro, fun _ _ => 0, none, false⟩,
    ⟨"OWED", 16, 16, .ro, fun _ _ => 0, none, false⟩]⟩,
  ⟨"YDL_STRM", 0x600860, 262144, 4, 4, 1, 0, [
    ⟨"H2S", 0, 7, .ro, fun _ _ => 0, none, false⟩,
    ⟨"S2H", 8, 7, .ro, fun _ _ => 0, none, false⟩]⟩,
  ⟨"YDL_LB", 0x600870, 262144, 4, 4, 1, 1, [
    ⟨"MODE", 0, 2, .rw, fun _ _ => 0, none, false⟩,
    ⟨"PAT", 4, 1, .rw, fun _ _ => 0, none, false⟩,
    ⟨"RUN", 8, 1, .wo, fun _ _ => 0, none, false⟩,
    ⟨"DONE", 9, 1, .ro, fun _ _ => 0, none, false⟩,
    ⟨"REFUSED", 10, 1, .w1c, fun _ _ => 0, none, false⟩,
    ⟨"MOD", 16, 6, .rw, fun _ _ => 0, none, false⟩,
    ⟨"TIME", 24, 8, .rw, fun _ _ => 1, none, false⟩]⟩,
  ⟨"YDL_LB_FAIL", 0x600874, 262144, 4, 4, 3, 1, [
    ⟨"FAIL", 0, 32, .ro, fun _ _ => 0, none, false⟩]⟩,
  ⟨"YDL_LB_ERR", 0x600880, 262144, 4, 4, 69, 1, [
    ⟨"ERR", 0, 32, .rc, fun _ _ => 0, none, false⟩]⟩]

/-- Registers of block SER. -/
def regsSER : List RegSpec := [
  ⟨"SER_LANE_STAT", 0x700000, 4096, 32, 4, 1, 0, [
    ⟨"STATE", 0, 4, .ro, fun _ _ => 0, none, false⟩,
    ⟨"SIGNAL", 4, 1, .ro, fun _ _ => 0, none, false⟩,
    ⟨"FOM", 8, 8, .ro, fun _ _ => 0, none, false⟩,
    ⟨"PORT", 16, 5, .ro, fun _ _ => 0, none, false⟩,
    ⟨"RETRY", 24, 8, .rc, fun _ _ => 0, none, false⟩]⟩,
  ⟨"SER_LANE_ADAPT", 0x700004, 4096, 32, 4, 1, 0, [
    ⟨"MODE", 0, 2, .rw, fun _ _ => 0, none, false⟩,
    ⟨"FOM_MIN", 8, 8, .rw, fun _ _ => 96, none, false⟩,
    ⟨"LOW", 16, 1, .ro, fun _ _ => 0, none, false⟩,
    ⟨"RESTART", 31, 1, .wo, fun _ _ => 0, none, false⟩]⟩,
  ⟨"SER_LANE_TXFFE", 0x700040, 4096, 32, 4, 1, 0, [
    ⟨"PRE2", 0, 8, .rw, fun _ _ => 0, none, false⟩,
    ⟨"PRE1", 8, 8, .rw, fun _ _ => 0, none, false⟩,
    ⟨"MAIN", 16, 8, .rw, fun _ _ => 63, none, false⟩,
    ⟨"POST1", 24, 8, .rw, fun _ _ => 0, none, false⟩]⟩,
  ⟨"SER_LANE_SCAN", 0x700100, 4096, 32, 4, 1, 0, [
    ⟨"RUN", 0, 1, .wo, fun _ _ => 0, none, false⟩,
    ⟨"FREEZE", 1, 1, .rw, fun _ _ => 0, none, false⟩,
    ⟨"EYE", 2, 2, .rw, fun _ _ => 0, none, false⟩,
    ⟨"PHASE", 8, 6, .rw, fun _ _ => 0, none, false⟩,
    ⟨"VOLT", 16, 8, .rw, fun _ _ => 0, none, false⟩,
    ⟨"DWELL", 24, 6, .rw, fun _ _ => 20, some (10, 40), false⟩,
    ⟨"REFUSED", 30, 1, .w1c, fun _ _ => 0, none, false⟩,
    ⟨"DONE", 31, 1, .ro, fun _ _ => 0, none, false⟩]⟩,
  ⟨"SER_LANE_SCAN1", 0x700104, 4096, 32, 4, 1, 0, [
    ⟨"COUNT", 0, 32, .ro, fun _ _ => 0, none, false⟩]⟩,
  ⟨"SER_LANE_PRBS", 0x700200, 4096, 32, 4, 1, 1, [
    ⟨"TXEN", 0, 1, .rw, fun _ _ => 0, none, false⟩,
    ⟨"RXEN", 1, 1, .rw, fun _ _ => 0, none, false⟩,
    ⟨"PAT", 4, 3, .rw, fun _ _ => 0, none, false⟩,
    ⟨"LB", 8, 2, .rw, fun _ _ => 0, none, false⟩,
    ⟨"LOCK", 16, 1, .ro, fun _ _ => 0, none, false⟩]⟩,
  ⟨"SER_LANE_PRBS1", 0x700204, 4096, 32, 4, 1, 1, [
    ⟨"ERR", 0, 32, .rc, fun _ _ => 0, none, false⟩]⟩,
  ⟨"SER_LANE_RAW", 0x700300, 4096, 32, 4, 1, 0, [
    ⟨"SLIP", 0, 1, .wo, fun _ _ => 0, none, false⟩,
    ⟨"SCR", 1, 1, .rw, fun _ _ => 0, none, false⟩,
    ⟨"WDELAY", 8, 4, .rw, fun _ _ => 0, none, false⟩,
    ⟨"SLIPS", 16, 6, .ro, fun _ _ => 0, none, false⟩]⟩,
  ⟨"SER_LANE_RXWORD_LO", 0x700304, 4096, 32, 4, 1, 0, [
    ⟨"LO", 0, 32, .ro, fun _ _ => 0, none, false⟩]⟩,
  ⟨"SER_LANE_RXWORD_HI", 0x700308, 4096, 32, 4, 1, 0, [
    ⟨"HI", 0, 32, .ro, fun _ _ => 0, none, false⟩]⟩,
  ⟨"SER_LANE_TXWORD_LO", 0x70030c, 4096, 32, 4, 1, 0, [
    ⟨"LO", 0, 32, .rw, fun _ _ => 0, none, false⟩]⟩,
  ⟨"SER_LANE_TXWORD_HI", 0x700310, 4096, 32, 4, 1, 0, [
    ⟨"HI", 0, 32, .rw, fun _ _ => 0, none, false⟩]⟩,
  ⟨"SER_PORT_CFG", 0x781000, 64, 32, 4, 1, 0, [
    ⟨"EN", 0, 1, .rw, fun _ _ => 0, none, false⟩,
    ⟨"MODE", 1, 2, .rw, fun _ _ => 0, none, false⟩,
    ⟨"RATE", 4, 2, .rw, fun _ _ => 0, none, false⟩,
    ⟨"FIRST", 8, 5, .rw, fun _ _ => 0, none, false⟩,
    ⟨"WIDTH", 16, 4, .rw, fun _ _ => 0, none, false⟩,
    ⟨"FEC", 20, 1, .rw, fun _ _ => 1, none, false⟩,
    ⟨"AN", 24, 1, .rw, fun _ _ => 0, none, false⟩,
    ⟨"PAUSE", 25, 1, .rw, fun _ _ => 0, none, false⟩]⟩,
  ⟨"SER_PORT_STAT", 0x781004, 64, 32, 4, 1, 0, [
    ⟨"STATE", 0, 3, .ro, fun _ _ => 0, none, false⟩,
    ⟨"REASON", 8, 4, .ro, fun _ _ => 0, none, false⟩,
    ⟨"WIDTH_NOW", 16, 4, .ro, fun _ _ => 0, none, false⟩,
    ⟨"PEER", 24, 6, .ro, fun _ _ => 0, none, false⟩,
    ⟨"PEER_V", 30, 1, .ro, fun _ _ => 0, none, false⟩]⟩,
  ⟨"SER_PORT_RXCNT", 0x781008, 64, 32, 4, 1, 0, [
    ⟨"RX_BAD", 0, 16, .rc, fun _ _ => 0, none, false⟩,
    ⟨"RX_LONG", 16, 16, .rc, fun _ _ => 0, none, false⟩]⟩,
  ⟨"SER_PORT_RXCNT1", 0x78100c, 64, 32, 4, 1, 0, [
    ⟨"RX_DROP", 0, 16, .rc, fun _ _ => 0, none, false⟩,
    ⟨"FEC_UNCORR", 16, 16, .rc, fun _ _ => 0, none, false⟩]⟩,
  ⟨"SER_PORT_FECCORR_LO", 0x781010, 64, 32, 4, 1, 0, [
    ⟨"LO", 0, 32, .ro, fun _ _ => 0, none, false⟩]⟩,
  ⟨"SER_PORT_FECCORR_HI", 0x781014, 64, 32, 4, 1, 0, [
    ⟨"HI", 0, 32, .ro, fun _ _ => 0, none, false⟩]⟩,
  ⟨"SER_PORT_TXTS_LO", 0x781018, 64, 32, 4, 1, 0, [
    ⟨"LO", 0, 32, .ro, fun _ _ => 0, none, false⟩]⟩,
  ⟨"SER_PORT_TXTS_HI", 0x78101c, 64, 32, 4, 1, 0, [
    ⟨"HI", 0, 32, .ro, fun _ _ => 0, none, false⟩]⟩,
  ⟨"SER_PORT_CREWCNT", 0x781020, 64, 32, 4, 1, 0, [
    ⟨"RESENDS", 0, 16, .rc, fun _ _ => 0, none, false⟩,
    ⟨"FWD_DROP", 16, 16, .rc, fun _ _ => 0, none, false⟩]⟩,
  ⟨"SER_PORT_ASYM", 0x781024, 64, 32, 4, 1, 0, [
    ⟨"ASYM", 0, 32, .rw, fun _ _ => 0, none, false⟩]⟩,
  ⟨"SER_QUAD", 0x780000, 16, 8, 4, 1, 0, [
    ⟨"RATE", 0, 2, .ro, fun _ _ => 0, none, false⟩,
    ⟨"PLL", 4, 1, .ro, fun _ _ => 0, none, false⟩,
    ⟨"FILL", 8, 7, .ro, fun _ _ => 0, none, false⟩]⟩,
  ⟨"SER_CREW_CTRL", 0x780100, 0, 1, 4, 1, 0, [
    ⟨"HOPS", 0, 4, .rw, fun _ _ => 8, none, false⟩]⟩,
  ⟨"SER_CREW_ROUTE", 0x782000, 4, 64, 4, 1, 0, [
    ⟨"PORT", 0, 5, .rw, fun _ _ => 0, none, false⟩,
    ⟨"VALID", 31, 1, .rw, fun _ _ => 0, none, false⟩]⟩,
  ⟨"SER_LANE_EQ", 0x700010, 4096, 32, 4, 12, 0, [
    ⟨"EQ", 0, 32, .ro, fun _ _ => 0, none, false⟩]⟩]

/-- Registers of block CREW. -/
def regsCREW : List RegSpec := [
  ⟨"CREW_CTRL", 0x800000, 0, 1, 4, 1, 0, [
    ⟨"EN", 0, 1, .rwl, fun _ _ => 0, none, false⟩,
    ⟨"ID", 8, 6, .rwl, fun _ _ => 0, none, false⟩,
    ⟨"CAPS", 16, 2, .rwl, fun _ _ => 3, none, false⟩,
    ⟨"REMUSTER", 31, 1, .wo, fun _ _ => 0, none, false⟩]⟩,
  ⟨"CREW_CFG", 0x800004, 0, 1, 4, 1, 0, [
    ⟨"DOMAIN", 0, 8, .rwl, fun _ _ => 0, some (0, 127), false⟩,
    ⟨"SYNC_LOG2", 8, 4, .rwl, fun _ _ => 0xA, none, false⟩,
    ⟨"PDELAY_LOG2", 12, 4, .rwl, fun _ _ => 0xD, none, false⟩]⟩,
  ⟨"CREW_APP", 0x800008, 0, 1, 4, 1, 0, [
    ⟨"APP", 0, 32, .rwl, fun _ _ => 0, none, false⟩]⟩,
  ⟨"CREW_DIGEST", 0x80000c, 0, 1, 4, 1, 0, [
    ⟨"DIGEST", 0, 32, .ro, fun _ _ => crewDigestReset, none, false⟩]⟩,
  ⟨"CREW_FW", 0x800010, 0, 1, 4, 1, 0, [
    ⟨"PATCH", 0, 16, .ro, fun _ _ => 0, none, false⟩,
    ⟨"MINOR", 16, 8, .ro, fun _ _ => 0, none, false⟩,
    ⟨"MAJOR", 24, 8, .ro, fun _ _ => 0, none, false⟩]⟩,
  ⟨"CREW_STAT", 0x800014, 0, 1, 4, 1, 0, [
    ⟨"STATE", 0, 2, .ro, fun _ _ => 0, none, false⟩,
    ⟨"LEADER", 8, 6, .ro, fun _ _ => 0, none, false⟩,
    ⟨"IS_LEADER", 14, 1, .ro, fun _ _ => 0, none, false⟩,
    ⟨"DIST", 16, 6, .ro, fun _ _ => 0, none, false⟩,
    ⟨"UPPORT", 24, 5, .ro, fun _ _ => 0, none, false⟩,
    ⟨"MISMATCH", 29, 1, .ro, fun _ _ => 0, none, false⟩]⟩,
  ⟨"CREW_EPOCH", 0x800018, 0, 1, 4, 1, 0, [
    ⟨"EPOCH", 0, 32, .ro, fun _ _ => 0, none, false⟩]⟩,
  ⟨"CREW_OFFSET", 0x80001c, 0, 1, 4, 1, 0, [
    ⟨"OFFSET", 0, 32, .ro, fun _ _ => 0, none, false⟩]⟩,
  ⟨"CREW_EVT", 0x800020, 0, 1, 4, 1, 0, [
    ⟨"REMUSTERS", 0, 8, .rc, fun _ _ => 0, none, false⟩,
    ⟨"MISMATCHES", 8, 8, .rc, fun _ _ => 0, none, false⟩,
    ⟨"SYNC_LOST", 16, 8, .rc, fun _ _ => 0, none, false⟩,
    ⟨"BADTIME", 24, 8, .rc, fun _ _ => 0, none, false⟩]⟩,
  ⟨"CREW_IRQ", 0x800024, 0, 1, 4, 1, 0, [
    ⟨"VEC", 0, 9, .rw, fun _ _ => 0, none, false⟩,
    ⟨"EN", 15, 1, .rw, fun _ _ => 0, none, false⟩]⟩,
  ⟨"CREW_PORT", 0x800100, 4, 32, 4, 1, 0, [
    ⟨"STATE", 0, 3, .ro, fun _ _ => 0, none, false⟩,
    ⟨"CAUSE", 4, 4, .ro, fun _ _ => 0, none, false⟩,
    ⟨"PEER", 8, 6, .ro, fun _ _ => 0, none, false⟩,
    ⟨"LEVEL", 16, 4, .ro, fun _ _ => 0, none, false⟩,
    ⟨"CAPS", 20, 2, .ro, fun _ _ => 0, none, false⟩,
    ⟨"ROLE", 24, 2, .ro, fun _ _ => 0, none, false⟩]⟩,
  ⟨"CREW_PEER_DIGEST", 0x800200, 4, 32, 4, 1, 0, [
    ⟨"DIGEST", 0, 32, .ro, fun _ _ => 0, none, false⟩]⟩]

/-- Registers of block SPAR. -/
def regsSPAR : List RegSpec := [
  ⟨"SPAR_SCRATCH", 0x900000, 0, 1, 4, 1, 0, [
    ⟨"BASE", 0, 9, .rwl, fun _ _ => 288, none, false⟩,
    ⟨"SIZE", 16, 9, .rwl, fun _ _ => 96, some (32, 128), false⟩]⟩,
  ⟨"SPAR_PIV", 0x900004, 0, 1, 4, 1, 0, [
    ⟨"TAU64", 0, 8, .rw, fun _ _ => 40, none, false⟩,
    ⟨"DELTA64", 8, 8, .rw, fun _ _ => 26, none, false⟩,
    ⟨"TAU32", 16, 8, .rw, fun _ _ => 20, none, false⟩,
    ⟨"DELTA32", 24, 8, .rw, fun _ _ => 12, none, false⟩]⟩,
  ⟨"SPAR_PIVU", 0x900008, 0, 1, 4, 1, 0, [
    ⟨"U", 0, 8, .rw, fun _ _ => 26, some (1, 255), false⟩]⟩,
  ⟨"SPAR_STAT", 0x90000c, 0, 1, 4, 1, 0, [
    ⟨"TILES_FREE", 0, 5, .ro, fun _ _ => 0, none, false⟩,
    ⟨"SCRATCH_FREE", 8, 8, .ro, fun _ _ => 0, none, false⟩,
    ⟨"WAITING", 16, 8, .ro, fun _ _ => 0, none, false⟩]⟩,
  ⟨"SPAR_FLOPS_LO", 0x900010, 0, 1, 4, 1, 0, [
    ⟨"LO", 0, 32, .ro, fun _ _ => 0, none, false⟩]⟩,
  ⟨"SPAR_FLOPS_HI", 0x900014, 0, 1, 4, 1, 0, [
    ⟨"HI", 0, 32, .ro, fun _ _ => 0, none, false⟩]⟩,
  ⟨"SPAR_CTX", 0x900100, 32, 32, 4, 1, 0, [
    ⟨"STATE", 0, 3, .ro, fun _ _ => 0, none, false⟩,
    ⟨"METHOD", 8, 8, .ro, fun _ _ => 0, none, false⟩,
    ⟨"PREC", 16, 1, .ro, fun _ _ => 0, none, false⟩,
    ⟨"PARTIAL", 17, 1, .ro, fun _ _ => 0, none, false⟩,
    ⟨"QUEUED", 24, 4, .ro, fun _ _ => 0, none, false⟩]⟩,
  ⟨"SPAR_CTX1", 0x900104, 32, 32, 4, 1, 0, [
    ⟨"N", 0, 32, .ro, fun _ _ => 0, none, false⟩]⟩,
  ⟨"SPAR_CTX2", 0x900108, 32, 32, 4, 1, 0, [
    ⟨"SCRATCH", 0, 16, .ro, fun _ _ => 0, none, false⟩,
    ⟨"STORE", 16, 16, .ro, fun _ _ => 0, none, false⟩]⟩,
  ⟨"SPAR_CTX_RES_LO", 0x90010c, 32, 32, 4, 1, 0, [
    ⟨"LO", 0, 32, .ro, fun _ _ => 0, none, false⟩]⟩,
  ⟨"SPAR_CTX_RES_HI", 0x900110, 32, 32, 4, 1, 0, [
    ⟨"HI", 0, 32, .ro, fun _ _ => 0, none, false⟩]⟩,
  ⟨"SPAR_CTX_ITERS", 0x900114, 32, 32, 4, 1, 0, [
    ⟨"ITERS", 0, 32, .ro, fun _ _ => 0, none, false⟩]⟩,
  ⟨"SPAR_CTX_FLAGGED", 0x900118, 32, 32, 4, 1, 0, [
    ⟨"FLAGGED", 0, 32, .ro, fun _ _ => 0, none, false⟩]⟩,
  ⟨"SPAR_CTX_FIRST", 0x90011c, 32, 32, 4, 1, 0, [
    ⟨"FIRST", 0, 32, .ro, fun _ _ => 4294967295, none, false⟩]⟩]

/-- Registers of block TEST. -/
def regsTEST : List RegSpec := [
  ⟨"TEST_LBIST_CTRL", 0xa00000, 0, 1, 4, 1, 0, [
    ⟨"SLICE_BUDGET", 0, 14, .rwl, fun _ _ => 1500, some (100, 10000), false⟩]⟩,
  ⟨"TEST_LBIST_STAT", 0xa00004, 0, 1, 4, 1, 0, [
    ⟨"DONE", 0, 1, .ro, fun _ _ => 0, none, false⟩,
    ⟨"FAILS", 8, 6, .ro, fun _ _ => 0, none, false⟩]⟩,
  ⟨"TEST_LBIST", 0xa00100, 4, 48, 4, 1, 0, [
    ⟨"RESULT", 0, 3, .ro, fun _ _ => 0, none, false⟩,
    ⟨"TIME_US", 16, 16, .ro, fun _ _ => 0, none, false⟩]⟩,
  ⟨"TEST_LBIST_SIG_LO", 0xa00200, 8, 48, 4, 1, 0, [
    ⟨"LO", 0, 32, .ro, fun _ _ => 0, none, false⟩]⟩,
  ⟨"TEST_LBIST_SIG_HI", 0xa00204, 8, 48, 4, 1, 0, [
    ⟨"HI", 0, 32, .ro, fun _ _ => 0, none, false⟩]⟩,
  ⟨"TEST_HEDGE_STAT", 0xa00400, 0, 1, 4, 1, 0, [
    ⟨"LEVEL", 0, 2, .ro, fun _ _ => 0, none, true⟩,
    ⟨"STATE", 4, 3, .ro, fun _ _ => 0, none, true⟩,
    ⟨"RESULT", 8, 8, .ro, fun _ _ => 0, none, true⟩,
    ⟨"FAILS", 16, 2, .ro, fun _ _ => 0, none, true⟩,
    ⟨"WINDOW", 18, 1, .ro, fun _ _ => 1, none, true⟩,
    ⟨"PATH", 20, 1, .ro, fun _ _ => 0, none, true⟩]⟩,
  ⟨"TEST_HEDGE_REQ", 0xa00404, 0, 1, 4, 1, 0, [
    ⟨"LEVEL", 0, 2, .wo, fun _ _ => 0, none, false⟩]⟩,
  ⟨"TEST_HEDGE_CHAL", 0xa00410, 4, 8, 4, 1, 0, [
    ⟨"CHAL", 0, 32, .ro, fun _ _ => 0, none, true⟩]⟩,
  ⟨"TEST_HEDGE_RESP", 0xa00430, 4, 8, 4, 1, 0, [
    ⟨"RESP", 0, 32, .wo, fun _ _ => 0, none, true⟩]⟩,
  ⟨"TEST_HEDGE_GO", 0xa00450, 0, 1, 4, 1, 0, [
    ⟨"GO", 0, 1, .wo, fun _ _ => 0, none, false⟩]⟩,
  ⟨"TEST_HEDGE_TOKEN", 0xa00500, 4, 64, 4, 1, 0, [
    ⟨"TOKEN", 0, 32, .wo, fun _ _ => 0, none, true⟩]⟩,
  ⟨"TEST_FMAP_IDX", 0xa00600, 0, 1, 4, 1, 1, [
    ⟨"INDEX", 0, 12, .rw, fun _ _ => 0, none, false⟩]⟩,
  ⟨"TEST_FMAP_DATA", 0xa00604, 4, 4, 4, 1, 1, [
    ⟨"DATA", 0, 32, .ro, fun _ _ => 0, none, false⟩]⟩,
  ⟨"TEST_FMAP_STAT", 0xa00614, 0, 1, 4, 1, 0, [
    ⟨"COUNT", 0, 13, .ro, fun _ _ => 0, none, true⟩,
    ⟨"LOST", 16, 16, .ro, fun _ _ => 0, none, true⟩]⟩,
  ⟨"TEST_YDL_WALK", 0xa00620, 0, 1, 4, 1, 1, [
    ⟨"EN", 0, 1, .rw, fun _ _ => 0, none, false⟩,
    ⟨"ONES", 1, 1, .rw, fun _ _ => 1, none, false⟩]⟩,
  ⟨"TEST_JTAG_STAT", 0xa00700, 0, 1, 4, 1, 0, [
    ⟨"DENIED", 0, 16, .rc, fun _ _ => 0, none, true⟩,
    ⟨"IR", 16, 8, .ro, fun _ _ => 1, none, true⟩]⟩]

/-- Registers of block YEW. -/
def regsYEW : List RegSpec := [
  ⟨"YEW_CTRL", 0xb00000, 0, 1, 4, 1, 0, [
    ⟨"RATE", 0, 8, .rwl, fun _ _ => 4, some (1, 255), false⟩,
    ⟨"BURST", 8, 8, .rwl, fun _ _ => 255, none, false⟩,
    ⟨"FLUSH_S", 16, 8, .rwl, fun _ _ => 10, some (1, 60), false⟩,
    ⟨"MIRROR_EN", 24, 1, .rwl, fun _ _ => 0, none, false⟩]⟩,
  ⟨"YEW_STAT", 0xb00004, 0, 1, 4, 1, 0, [
    ⟨"SUPPRESSED", 0, 16, .rc, fun _ _ => 0, none, true⟩,
    ⟨"SCAN_BAD", 16, 8, .ro, fun _ _ => 0, none, true⟩,
    ⟨"LG_ARMED", 24, 1, .ro, fun _ _ => 0, none, true⟩]⟩,
  ⟨"YEW_SEQ", 0xb00008, 0, 1, 4, 1, 0, [
    ⟨"SEQ", 0, 32, .ro, fun _ _ => 0, none, true⟩]⟩,
  ⟨"YEW_OLDEST", 0xb0000c, 0, 1, 4, 1, 0, [
    ⟨"SEQ", 0, 32, .ro, fun _ _ => 0, none, true⟩]⟩,
  ⟨"YEW_LG_CFG", 0xb00010, 0, 1, 4, 1, 0, [
    ⟨"VIN_WARN", 0, 10, .rwl, fun _ _ => 380, some (300, 400), false⟩]⟩,
  ⟨"YEW_ESC", 0xb00014, 0, 1, 4, 1, 0, [
    ⟨"FAULTS", 0, 16, .rc, fun _ _ => 0, none, true⟩,
    ⟨"FATALS", 16, 16, .ro, fun _ _ => 0, none, true⟩]⟩,
  ⟨"YEW_XSPI", 0xb00020, 0, 1, 4, 1, 0, [
    ⟨"BASE", 0, 16, .rwl, fun _ _ => 0, none, false⟩,
    ⟨"SIZE", 16, 16, .rwl, fun _ _ => 0, none, false⟩]⟩,
  ⟨"YEW_XSPI_STAT", 0xb00024, 0, 1, 4, 1, 0, [
    ⟨"ERR", 0, 1, .ro, fun _ _ => 0, none, true⟩,
    ⟨"LAG", 16, 16, .ro, fun _ _ => 0, none, true⟩]⟩,
  ⟨"YEW_RD_SEQ", 0xb00100, 0, 1, 4, 1, 0, [
    ⟨"SEQ", 0, 32, .rw, fun _ _ => 0, none, false⟩]⟩,
  ⟨"YEW_RD_STAT", 0xb00104, 0, 1, 4, 1, 0, [
    ⟨"FOUND", 0, 1, .ro, fun _ _ => 0, none, false⟩,
    ⟨"NOT_FOUND", 1, 1, .ro, fun _ _ => 0, none, false⟩,
    ⟨"CORR", 2, 1, .ro, fun _ _ => 0, none, false⟩,
    ⟨"BUSY", 3, 1, .ro, fun _ _ => 0, none, false⟩]⟩,
  ⟨"YEW_RD_DATA", 0xb00140, 4, 16, 4, 1, 0, [
    ⟨"DATA", 0, 32, .ro, fun _ _ => 0, none, false⟩]⟩]

/-- Registers of block MAST. -/
def regsMAST : List RegSpec := [
  ⟨"MAST_CMD", 0xc00000, 0, 1, 4, 1, 0, [
    ⟨"OP", 0, 8, .rw, fun _ _ => 0, none, false⟩,
    ⟨"LEN", 8, 8, .rw, fun _ _ => 0, none, false⟩]⟩,
  ⟨"MAST_GO", 0xc00004, 0, 1, 4, 1, 0, [
    ⟨"GO", 0, 1, .wo, fun _ _ => 0, none, false⟩]⟩,
  ⟨"MAST_STAT", 0xc00008, 0, 1, 4, 1, 0, [
    ⟨"BUSY", 0, 1, .ro, fun _ _ => 0, none, false⟩,
    ⟨"DONE", 1, 1, .w1c, fun _ _ => 0, none, false⟩,
    ⟨"RESULT", 8, 8, .ro, fun _ _ => 0, none, false⟩,
    ⟨"RLEN", 16, 8, .ro, fun _ _ => 0, none, false⟩]⟩,
  ⟨"MAST_IRQ", 0xc0000c, 0, 1, 4, 1, 0, [
    ⟨"VEC", 0, 9, .rw, fun _ _ => 0, none, false⟩,
    ⟨"EN", 15, 1, .rw, fun _ _ => 0, none, false⟩]⟩,
  ⟨"MAST_DATA", 0xc00100, 4, 64, 4, 1, 0, [
    ⟨"DATA", 0, 32, .rw, fun _ _ => 0, none, false⟩]⟩]

/-- The table of the block whose range holds `off` (R27); offsets of no block have none. -/
def regsOf (off : Nat) : List RegSpec :=
  if off < 0x10000 then regsGLB else
  if off < 0x20000 then regsPWR else
  if off < 0x30000 then regsTRIM else
  if off < 0x40000 then regsSNS else
  if off < 0x50000 then regsBOOT else
  if off < 0x100000 then regsMAP else
  if off < 0x110000 then regsRING else
  if off < 0x120000 then regsDISP else
  if off < 0x130000 then regsCLT else
  if off < 0x200000 then regsTIME else
  if off < 0x300000 then regsBUF else
  if off < 0x400000 then regsMEM else
  if off < 0x500000 then regsQOS else
  if off < 0x600000 then regsRAS else
  if off < 0x700000 then regsYDL else
  if off < 0x800000 then regsSER else
  if off < 0x900000 then regsCREW else
  if off < 0xa00000 then regsSPAR else
  if off < 0xb00000 then regsTEST else
  if off < 0xc00000 then regsYEW else
  if off < 0xd00000 then regsMAST else
  []

/-- The register (with instance and word) that stands at `off`. -/
def findIn : List RegSpec → Nat → Option (RegSpec × Nat × Nat)
  | [], _ => none
  | r :: rs, off => match r.at? off with
    | some (i, j) => some (r, i, j)
    | none => findIn rs off

/-- The register at byte offset `off` of BAR0; an unassigned offset has none (R13). -/
def findReg (off : Nat) : Option (RegSpec × Nat × Nat) := findIn (regsOf off) off

/-- The bits of a field. -/
def fieldMask (lo width : Nat) : Word := BitVec.ofNat 32 ((2 ^ width - 1) * 2 ^ lo)

/-- The reset word of the register at `off`: every field at the value its table gives, reserved bits 0 (R13).
[log: DESIGN CHOICE 1; DESIGN CHOICE 8] -/
def resetWord (off : Nat) : Word := match findReg off with
  | none => 0
  | some (r, i, j) => r.fields.foldl (fun w f => w ||| BitVec.ofNat 32 (f.reset i j % 2 ^ f.width * 2 ^ f.lo)) 0

/-- The bits of the register at `off` whose fields satisfy `p`. -/
def maskOf (off : Nat) (p : FieldSpec → Bool) : Word := match findReg off with
  | none => 0
  | some (r, _, _) => r.fields.foldl (fun w f => if p f then w ||| fieldMask f.lo f.width else w) 0

/-! ## One name per field -/

abbrev R.GLB_ID_DEVICE : RF := ⟨0x0, 0, 16⟩
abbrev R.GLB_ID_STEPPING : RF := ⟨0x0, 16, 8⟩
abbrev R.GLB_ID_FORM : RF := ⟨0x0, 24, 2⟩
abbrev R.GLB_CTRL_LOCK : RF := ⟨0x10, 0, 1⟩
abbrev R.GLB_STRAP_SITE_FIT : RF := ⟨0x4, 0, 4⟩
abbrev R.GLB_POP_SITE_LIVE : RF := ⟨0x8, 0, 4⟩
abbrev R.GLB_POP_STACK_LIVE : RF := ⟨0x8, 4, 6⟩
abbrev R.GLB_POP_STACK_CAP : RF := ⟨0x8, 10, 2⟩
abbrev R.GLB_POP_SITE_MISSING : RF := ⟨0x8, 12, 4⟩
abbrev R.GLB_RDY_READY : RF := ⟨0xc, 0, 1⟩
abbrev R.GLB_RDY_OUTCOME : RF := ⟨0xc, 4, 3⟩
abbrev R.GLB_RDY_STAGE : RF := ⟨0xc, 8, 4⟩
abbrev R.GLB_RDY_PEND : RF := ⟨0xc, 16, 1⟩
abbrev R.GLB_RST_KIND : RF := ⟨0x14, 0, 2⟩
abbrev R.GLB_RST_KEY : RF := ⟨0x14, 16, 16⟩
abbrev R.GLB_BAR4_DRAM_BASE : RF := ⟨0x100, 0, 8⟩
abbrev R.GLB_PCIE_STAT_RATE : RF := ⟨0x104, 0, 4⟩
abbrev R.GLB_PCIE_STAT_WIDTH : RF := ⟨0x104, 4, 6⟩
abbrev R.GLB_PCIE_STAT_FLIT : RF := ⟨0x104, 12, 1⟩
abbrev R.GLB_VF_WIN0_DRAM_BASE (i : Nat) : RF := ⟨0x200 + 16 * i, 0, 8⟩
abbrev R.GLB_VF_WIN0_DRAM_SIZE (i : Nat) : RF := ⟨0x200 + 16 * i, 8, 8⟩
abbrev R.GLB_VF_WIN1_BANK_BASE (i : Nat) : RF := ⟨0x204 + 16 * i, 0, 11⟩
abbrev R.GLB_VF_WIN1_BANK_COUNT (i : Nat) : RF := ⟨0x204 + 16 * i, 16, 11⟩
abbrev R.GLB_VF_WIN2_CLT_BASE (i : Nat) : RF := ⟨0x208 + 16 * i, 0, 12⟩
abbrev R.GLB_VF_WIN2_CLT_COUNT (i : Nat) : RF := ⟨0x208 + 16 * i, 12, 13⟩
abbrev R.GLB_VF_WIN2_SITES (i : Nat) : RF := ⟨0x208 + 16 * i, 28, 4⟩
abbrev R.GLB_VF_WIN3_SPAR_CTX (i : Nat) : RF := ⟨0x20c + 16 * i, 0, 31⟩
abbrev R.GLB_GPIO_IN : RF := ⟨0x20, 0, 16⟩
abbrev R.GLB_GPIO_OUT : RF := ⟨0x24, 4, 12⟩
abbrev R.GLB_GPIO_OUT_OE : RF := ⟨0x24, 20, 12⟩
abbrev R.MSIX_ADDR_LO_ADDR (i : Nat) : RF := ⟨0x8000 + 16 * i, 0, 32⟩
abbrev R.MSIX_ADDR_HI_ADDR (i : Nat) : RF := ⟨0x8004 + 16 * i, 0, 32⟩
abbrev R.MSIX_DATA (i : Nat) : RF := ⟨0x8008 + 16 * i, 0, 32⟩
abbrev R.MSIX_CTRL_MASK (i : Nat) : RF := ⟨0x800c + 16 * i, 0, 1⟩
abbrev R.MSIX_PBA_PEND (i : Nat) : RF := ⟨0xc000 + 4 * i, 0, 32⟩
abbrev R.PWR_COV_SLEW_UP : RF := ⟨0x10000, 0, 12⟩
abbrev R.PWR_COV_SLEW_DN : RF := ⟨0x10000, 16, 12⟩
abbrev R.PWR_COV_STEP : RF := ⟨0x10004, 0, 7⟩
abbrev R.PWR_COV_STEP_GUARD : RF := ⟨0x10004, 8, 7⟩
abbrev R.PWR_REEF_CTRL_ENABLE : RF := ⟨0x10008, 0, 1⟩
abbrev R.PWR_REEF_CTRL_WAVE_STEP : RF := ⟨0x10008, 16, 7⟩
abbrev R.PWR_SOAK_CTRL_MAX : RF := ⟨0x1000c, 0, 7⟩
abbrev R.PWR_SOAK_CTRL_PRERAMP_EN : RF := ⟨0x1000c, 8, 1⟩
abbrev R.PWR_SOAK_STAT_SOAK : RF := ⟨0x10010, 0, 7⟩
abbrev R.PWR_SOAK_STAT_SEGS : RF := ⟨0x10010, 8, 6⟩
abbrev R.PWR_SOAK_STAT_EVENTS : RF := ⟨0x10010, 16, 16⟩
abbrev R.PWR_IN_STAT_PIN : RF := ⟨0x10014, 0, 16⟩
abbrev R.PWR_EXPO_XTOT : RF := ⟨0x10018, 0, 8⟩
abbrev R.PWR_EXPO_XSENSE : RF := ⟨0x10018, 8, 8⟩
abbrev R.PWR_COV_VIOL_COUNT : RF := ⟨0x1001c, 0, 16⟩
abbrev R.PWR_COV_VIOL_KIND : RF := ⟨0x1001c, 16, 2⟩
abbrev R.PWR_HOLD_VHOLD : RF := ⟨0x10020, 0, 13⟩
abbrev R.PWR_HOLD_READY : RF := ⟨0x10020, 16, 1⟩
abbrev R.PWR_ISL_RAMP : RF := ⟨0x10024, 0, 8⟩
abbrev R.PWR_DROOP_TRIP_MV : RF := ⟨0x10028, 0, 8⟩
abbrev R.PWR_SITE_FIXCAP_CAP (i : Nat) : RF := ⟨0x10040 + 4 * i, 0, 10⟩
abbrev R.PWR_SITE_FIXCAP_FASTDROP (i : Nat) : RF := ⟨0x10040 + 4 * i, 16, 7⟩
abbrev R.PWR_DOM_REQ (i : Nat) : RF := ⟨0x10400 + 4 * i, 0, 2⟩
abbrev R.PWR_DOM_STATE (i : Nat) : RF := ⟨0x10400 + 4 * i, 4, 2⟩
abbrev R.PWR_DOM_PENDING (i : Nat) : RF := ⟨0x10400 + 4 * i, 8, 1⟩
abbrev R.PWR_DOM_REFUSED (i : Nat) : RF := ⟨0x10400 + 4 * i, 9, 1⟩
abbrev R.PWR_DOM_REASON (i : Nat) : RF := ⟨0x10400 + 4 * i, 12, 4⟩
abbrev R.PWR_ISL_TARGET (i : Nat) : RF := ⟨0x10800 + 4 * i, 0, 12⟩
abbrev R.PWR_ISL_ACTUAL (i : Nat) : RF := ⟨0x10800 + 4 * i, 16, 12⟩
abbrev R.PWR_ISL_STRETCHED (i : Nat) : RF := ⟨0x10800 + 4 * i, 31, 1⟩
abbrev R.PWR_ISL_CAP_CAP_MHZ (i : Nat) : RF := ⟨0x10c00 + 4 * i, 0, 12⟩
abbrev R.PWR_ISL_STRETCH_COUNT (i : Nat) : RF := ⟨0x10e00 + 4 * i, 0, 32⟩
abbrev R.PWR_PMB_CTRL_SPEED : RF := ⟨0x11000, 0, 1⟩
abbrev R.PWR_PMB_DEV_ADDR (i : Nat) : RF := ⟨0x11010 + 4 * i, 0, 7⟩
abbrev R.PWR_PMB_DEV_RAIL (i : Nat) : RF := ⟨0x11010 + 4 * i, 8, 8⟩
abbrev R.PWR_PMB_STAT_NOANS : RF := ⟨0x11050, 0, 16⟩
abbrev R.TRIM_CTRL_DL_US : RF := ⟨0x20000, 0, 8⟩
abbrev R.TRIM_CTRL_RES_EXP : RF := ⟨0x20000, 8, 8⟩
abbrev R.TRIM_CTRL_MAXIT : RF := ⟨0x20000, 16, 16⟩
abbrev R.TRIM_LIMIT_PKG : RF := ⟨0x20004, 0, 11⟩
abbrev R.TRIM_LIMIT_STATIC_N : RF := ⟨0x20004, 16, 8⟩
abbrev R.TRIM_STAT_MODE : RF := ⟨0x20008, 0, 2⟩
abbrev R.TRIM_STAT_RUN : RF := ⟨0x20008, 8, 8⟩
abbrev R.TRIM_STAT_INFEAS : RF := ⟨0x20008, 16, 1⟩
abbrev R.TRIM_STAT_LAST : RF := ⟨0x20008, 24, 8⟩
abbrev R.TRIM_EPOCH : RF := ⟨0x2000c, 0, 32⟩
abbrev R.TRIM_RELRES_LO : RF := ⟨0x20010, 0, 32⟩
abbrev R.TRIM_RELRES_HI : RF := ⟨0x20014, 0, 32⟩
abbrev R.TRIM_SOLVE_ITERS : RF := ⟨0x20018, 0, 16⟩
abbrev R.TRIM_SOLVE_TIME_US : RF := ⟨0x20018, 16, 16⟩
abbrev R.TRIM_STATIC_HUB : RF := ⟨0x2001c, 0, 12⟩
abbrev R.TRIM_STATIC_STACK : RF := ⟨0x2001c, 16, 12⟩
abbrev R.TRIM_FLOOR_SUM : RF := ⟨0x20020, 0, 11⟩
abbrev R.TRIM_EVT_FALLBACKS : RF := ⟨0x20024, 0, 16⟩
abbrev R.TRIM_EVT_PROJ : RF := ⟨0x20024, 16, 16⟩
abbrev R.TRIM_PEN_EXP : RF := ⟨0x20028, 0, 5⟩
abbrev R.TRIM_VAR0_LO (i : Nat) : RF := ⟨0x20100 + 16 * i, 0, 12⟩
abbrev R.TRIM_VAR0_HI (i : Nat) : RF := ⟨0x20100 + 16 * i, 16, 12⟩
abbrev R.TRIM_VAR1_WEIGHT (i : Nat) : RF := ⟨0x20104 + 16 * i, 0, 8⟩
abbrev R.TRIM_VAR1_HEAD (i : Nat) : RF := ⟨0x20104 + 16 * i, 8, 8⟩
abbrev R.TRIM_VAR1_EXPO_T (i : Nat) : RF := ⟨0x20104 + 16 * i, 16, 8⟩
abbrev R.TRIM_VAR1_EXPO_S (i : Nat) : RF := ⟨0x20104 + 16 * i, 24, 8⟩
abbrev R.TRIM_VAR2_PLAN (i : Nat) : RF := ⟨0x20108 + 16 * i, 0, 12⟩
abbrev R.TRIM_VAR2_DEMAND (i : Nat) : RF := ⟨0x20108 + 16 * i, 16, 12⟩
abbrev R.TRIM_VAR3_MEAS (i : Nat) : RF := ⟨0x2010c + 16 * i, 0, 12⟩
abbrev R.TRIM_VAR3_STATIC (i : Nat) : RF := ⟨0x2010c + 16 * i, 16, 12⟩
abbrev R.TRIM_ZONE_TMAX (i : Nat) : RF := ⟨0x20400 + 4 * i, 0, 8⟩
abbrev R.TRIM_ZONE_TEMP (i : Nat) : RF := ⟨0x20400 + 4 * i, 8, 8⟩
abbrev R.TRIM_ZONE_PRED (i : Nat) : RF := ⟨0x20400 + 4 * i, 16, 8⟩
abbrev R.TRIM_POOL_RATIO (i : Nat) : RF := ⟨0x20500 + 4 * i, 0, 12⟩
abbrev R.TRIM_H (i j : Nat) : RF := ⟨0x21000 + 256 * i + 4 * j, 0, 16⟩
abbrev R.SNS_CTRL_SYNC : RF := ⟨0x30000, 0, 1⟩
abbrev R.SNS_THERM_TRIP_C : RF := ⟨0x30008, 0, 8⟩
abbrev R.SNS_THERM_TRIPPED : RF := ⟨0x30008, 8, 1⟩
abbrev R.SNS_CONV_TRIG (i : Nat) : RF := ⟨0x30010 + 16 * i, 0, 1⟩
abbrev R.SNS_CONV_CHAN (i : Nat) : RF := ⟨0x30010 + 16 * i, 8, 9⟩
abbrev R.SNS_CONV_BUSY (i : Nat) : RF := ⟨0x30010 + 16 * i, 24, 1⟩
abbrev R.SNS_CONV_PEND (i : Nat) : RF := ⟨0x30010 + 16 * i, 25, 1⟩
abbrev R.SNS_CONV1_OVERRUN_COUNT (i : Nat) : RF := ⟨0x30014 + 16 * i, 0, 16⟩
abbrev R.SNS_ISCALE_SCALE (i : Nat) : RF := ⟨0x30200 + 4 * i, 0, 16⟩
abbrev R.SNS_LIST_CHAN (i : Nat) : RF := ⟨0x30400 + 4 * i, 0, 9⟩
abbrev R.SNS_LIST_CONV (i : Nat) : RF := ⟨0x30400 + 4 * i, 12, 4⟩
abbrev R.SNS_LIST_EVERY (i : Nat) : RF := ⟨0x30400 + 4 * i, 16, 2⟩
abbrev R.SNS_LIST_PHASE (i : Nat) : RF := ⟨0x30400 + 4 * i, 20, 2⟩
abbrev R.SNS_LIST_EN (i : Nat) : RF := ⟨0x30400 + 4 * i, 31, 1⟩
abbrev R.SNS_CH_CODE (i : Nat) : RF := ⟨0x31000 + 4 * i, 0, 12⟩
abbrev R.SNS_CH_VALID (i : Nat) : RF := ⟨0x31000 + 4 * i, 12, 1⟩
abbrev R.SNS_CH_SETTLING (i : Nat) : RF := ⟨0x31000 + 4 * i, 13, 1⟩
abbrev R.SNS_CH_STALE (i : Nat) : RF := ⟨0x31000 + 4 * i, 14, 1⟩
abbrev R.SNS_CH_HELD (i : Nat) : RF := ⟨0x31000 + 4 * i, 16, 12⟩
abbrev R.BOOT_STAT_STAGE : RF := ⟨0x40000, 0, 4⟩
abbrev R.BOOT_STAT_PCT : RF := ⟨0x40000, 8, 7⟩
abbrev R.BOOT_STAT_WAIT_HOST : RF := ⟨0x40000, 16, 1⟩
abbrev R.BOOT_FAIL_REASON : RF := ⟨0x40004, 0, 8⟩
abbrev R.BOOT_FAIL_STAGE : RF := ⟨0x40004, 8, 4⟩
abbrev R.BOOT_FAIL_UNIT : RF := ⟨0x40004, 16, 12⟩
abbrev R.BOOT_PROFILE_CUR : RF := ⟨0x40008, 0, 2⟩
abbrev R.BOOT_PROFILE_LBIST : RF := ⟨0x40008, 4, 1⟩
abbrev R.BOOT_PROFILE_NEXT : RF := ⟨0x40008, 8, 2⟩
abbrev R.BOOT_PROFILE_COLD : RF := ⟨0x40008, 12, 1⟩
abbrev R.BOOT_STRAP_MT_SEL : RF := ⟨0x4000c, 0, 2⟩
abbrev R.BOOT_MT_CTRL_PWR : RF := ⟨0x40010, 0, 8⟩
abbrev R.BOOT_MT_CTRL_SPPR_EN : RF := ⟨0x40010, 8, 1⟩
abbrev R.BOOT_MT_STAT_FAILS : RF := ⟨0x40014, 0, 16⟩
abbrev R.BOOT_MT_STAT_SPPR : RF := ⟨0x40014, 16, 16⟩
abbrev R.BOOT_WAVE_CORES : RF := ⟨0x40018, 0, 9⟩
abbrev R.BOOT_WAVE_INTERVAL : RF := ⟨0x40018, 16, 16⟩
abbrev R.BOOT_FW_CTRL_SRC : RF := ⟨0x40020, 0, 1⟩
abbrev R.BOOT_FW_CTRL_GO : RF := ⟨0x40020, 4, 1⟩
abbrev R.BOOT_FW_CTRL_WAIT_S : RF := ⟨0x40020, 8, 8⟩
abbrev R.BOOT_FW_ADDR_LO : RF := ⟨0x40028, 0, 32⟩
abbrev R.BOOT_FW_ADDR_HI : RF := ⟨0x4002c, 0, 32⟩
abbrev R.BOOT_FW_LEN : RF := ⟨0x40030, 0, 32⟩
abbrev R.BOOT_IRQ_VEC : RF := ⟨0x40034, 0, 9⟩
abbrev R.BOOT_TIME_US (i : Nat) : RF := ⟨0x40100 + 4 * i, 0, 32⟩
abbrev R.BOOT_LBIST_FAIL_LO_MASK : RF := ⟨0x40140, 0, 32⟩
abbrev R.BOOT_LBIST_FAIL_HI_MASK : RF := ⟨0x40144, 0, 16⟩
abbrev R.BOOT_WAVE_STAT_UP (i : Nat) : RF := ⟨0x40200 + 4 * i, 0, 16⟩
abbrev R.BOOT_WAVE_STAT_WAVES (i : Nat) : RF := ⟨0x40200 + 4 * i, 16, 8⟩
abbrev R.MAP_EPOCH_CUR : RF := ⟨0x50000, 0, 32⟩
abbrev R.MAP_EPOCH_STAT_DRAIN : RF := ⟨0x50004, 0, 1⟩
abbrev R.MAP_EPOCH_STAT_QUEUED : RF := ⟨0x50004, 1, 1⟩
abbrev R.MAP_EPOCH_STAT_OLD_TXN : RF := ⟨0x50004, 8, 16⟩
abbrev R.MAP_COUNT_ENG : RF := ⟨0x50008, 0, 7⟩
abbrev R.MAP_COUNT_TILE : RF := ⟨0x50008, 8, 5⟩
abbrev R.MAP_COUNT_BANK : RF := ⟨0x50008, 16, 11⟩
abbrev R.MAP_SPARES_ENG : RF := ⟨0x5000c, 0, 4⟩
abbrev R.MAP_SPARES_TILE : RF := ⟨0x5000c, 4, 4⟩
abbrev R.MAP_SPARES_BANK : RF := ⟨0x5000c, 16, 7⟩
abbrev R.MAP_SITE_LIVE (i : Nat) : RF := ⟨0x50010 + 4 * i, 0, 6⟩
abbrev R.MAP_SITE_SPARE (i : Nat) : RF := ⟨0x50010 + 4 * i, 8, 6⟩
abbrev R.MAP_CMD_OP : RF := ⟨0x50100, 0, 3⟩
abbrev R.MAP_CMD_TYPE : RF := ⟨0x50100, 4, 3⟩
abbrev R.MAP_CMD_MODE : RF := ⟨0x50100, 7, 1⟩
abbrev R.MAP_CMD_PERSIST : RF := ⟨0x50100, 8, 1⟩
abbrev R.MAP_CMD_DISCARD : RF := ⟨0x50100, 9, 1⟩
abbrev R.MAP_CMD_SITE : RF := ⟨0x50100, 12, 2⟩
abbrev R.MAP_CMD_UNIT : RF := ⟨0x50100, 16, 11⟩
abbrev R.MAP_CMD_STAT_STATUS : RF := ⟨0x50104, 0, 4⟩
abbrev R.MAP_CMD_STAT_BUSY : RF := ⟨0x50104, 4, 1⟩
abbrev R.MAP_CMD_STAT_EPOCH : RF := ⟨0x50104, 16, 16⟩
abbrev R.MAP_LOOKUP_LOGICAL : RF := ⟨0x50108, 0, 11⟩
abbrev R.MAP_LOOKUP_TYPE : RF := ⟨0x50108, 12, 3⟩
abbrev R.MAP_LOOKUP_SITE : RF := ⟨0x50108, 16, 2⟩
abbrev R.MAP_LOOKUP_PHYS : RF := ⟨0x50108, 20, 11⟩
abbrev R.MAP_LOOKUP_VALID : RF := ⟨0x50108, 31, 1⟩
abbrev R.MAP_ENG_STATE (i : Nat) : RF := ⟨0x51000 + 4 * i, 0, 3⟩
abbrev R.MAP_ENG_CAUSE (i : Nat) : RF := ⟨0x51000 + 4 * i, 4, 4⟩
abbrev R.MAP_ENG_FAILS (i : Nat) : RF := ⟨0x51000 + 4 * i, 12, 4⟩
abbrev R.MAP_ENG_LOGICAL (i : Nat) : RF := ⟨0x51000 + 4 * i, 16, 11⟩
abbrev R.MAP_TILE_STATE (i : Nat) : RF := ⟨0x51200 + 4 * i, 0, 3⟩
abbrev R.MAP_TILE_CAUSE (i : Nat) : RF := ⟨0x51200 + 4 * i, 4, 4⟩
abbrev R.MAP_TILE_FAILS (i : Nat) : RF := ⟨0x51200 + 4 * i, 12, 4⟩
abbrev R.MAP_TILE_LOGICAL (i : Nat) : RF := ⟨0x51200 + 4 * i, 16, 11⟩
abbrev R.MAP_BANK_STATE (i : Nat) : RF := ⟨0x52000 + 4 * i, 0, 3⟩
abbrev R.MAP_BANK_CAUSE (i : Nat) : RF := ⟨0x52000 + 4 * i, 4, 4⟩
abbrev R.MAP_BANK_ROWS (i : Nat) : RF := ⟨0x52000 + 4 * i, 8, 4⟩
abbrev R.MAP_BANK_FAILS (i : Nat) : RF := ⟨0x52000 + 4 * i, 12, 4⟩
abbrev R.MAP_BANK_LOGICAL (i : Nat) : RF := ⟨0x52000 + 4 * i, 16, 11⟩
abbrev R.MAP_MOD_STATE (i j : Nat) : RF := ⟨0x54000 + 256 * i + 4 * j, 0, 3⟩
abbrev R.MAP_MOD_CAUSE (i j : Nat) : RF := ⟨0x54000 + 256 * i + 4 * j, 4, 4⟩
abbrev R.MAP_MOD_FAILS (i j : Nat) : RF := ⟨0x54000 + 256 * i + 4 * j, 12, 4⟩
abbrev R.MAP_MOD_LOGICAL (i j : Nat) : RF := ⟨0x54000 + 256 * i + 4 * j, 16, 11⟩
abbrev R.MAP_LANE_STATE (i : Nat) : RF := ⟨0x54400 + 4 * i, 0, 3⟩
abbrev R.MAP_LANE_CAUSE (i : Nat) : RF := ⟨0x54400 + 4 * i, 4, 4⟩
abbrev R.MAP_LANE_FAILS (i : Nat) : RF := ⟨0x54400 + 4 * i, 12, 4⟩
abbrev R.MAP_LANE_LOGICAL (i : Nat) : RF := ⟨0x54400 + 4 * i, 16, 11⟩
abbrev R.MAP_FUSE_CRC : RF := ⟨0x50200, 0, 32⟩
abbrev R.MAP_FUSE_ROWADDR_ROW (i j : Nat) : RF := ⟨0x58000 + 32 * i + 4 * j, 0, 10⟩
abbrev R.MAP_FUSE_ROWADDR_USED (i j : Nat) : RF := ⟨0x58000 + 32 * i + 4 * j, 31, 1⟩
abbrev R.RING_SQ_BASE_LO (i : Nat) : RF := ⟨0x100000 + 256 * i, 0, 32⟩
abbrev R.RING_SQ_BASE_HI (i : Nat) : RF := ⟨0x100004 + 256 * i, 0, 32⟩
abbrev R.RING_CQ_BASE_LO (i : Nat) : RF := ⟨0x100008 + 256 * i, 0, 32⟩
abbrev R.RING_CQ_BASE_HI (i : Nat) : RF := ⟨0x10000c + 256 * i, 0, 32⟩
abbrev R.RING_SIZE_SQ_LOG2 (i : Nat) : RF := ⟨0x100010 + 256 * i, 0, 5⟩
abbrev R.RING_SIZE_CQ_LOG2 (i : Nat) : RF := ⟨0x100010 + 256 * i, 8, 5⟩
abbrev R.RING_CTRL_ENABLE (i : Nat) : RF := ⟨0x100014 + 256 * i, 0, 1⟩
abbrev R.RING_OWNER_FN (i : Nat) : RF := ⟨0x100018 + 256 * i, 0, 5⟩
abbrev R.RING_OWNER_LOCAL (i : Nat) : RF := ⟨0x100018 + 256 * i, 8, 6⟩
abbrev R.RING_IRQ_VEC (i : Nat) : RF := ⟨0x10001c + 256 * i, 0, 9⟩
abbrev R.RING_IRQ_COUNT (i : Nat) : RF := ⟨0x10001c + 256 * i, 16, 8⟩
abbrev R.RING_IRQ_EN (i : Nat) : RF := ⟨0x10001c + 256 * i, 31, 1⟩
abbrev R.RING_IRQ_TIMER_US (i : Nat) : RF := ⟨0x100020 + 256 * i, 0, 10⟩
abbrev R.RING_STAT_STATE (i : Nat) : RF := ⟨0x100024 + 256 * i, 0, 3⟩
abbrev R.RING_STAT_CQ_FULL (i : Nat) : RF := ⟨0x100024 + 256 * i, 4, 1⟩
abbrev R.RING_STAT_FAULTED (i : Nat) : RF := ⟨0x100024 + 256 * i, 5, 1⟩
abbrev R.RING_STAT_CAUSE (i : Nat) : RF := ⟨0x100024 + 256 * i, 8, 4⟩
abbrev R.RING_STAT_GEN (i : Nat) : RF := ⟨0x100024 + 256 * i, 16, 16⟩
abbrev R.RING_SQ_PTR_SQ_HEAD (i : Nat) : RF := ⟨0x100028 + 256 * i, 0, 16⟩
abbrev R.RING_SQ_PTR_SQ_TAIL (i : Nat) : RF := ⟨0x100028 + 256 * i, 16, 16⟩
abbrev R.RING_CQ_PTR_CQ_TAIL (i : Nat) : RF := ⟨0x10002c + 256 * i, 0, 16⟩
abbrev R.RING_CQ_PTR_CQ_HEAD (i : Nat) : RF := ⟨0x10002c + 256 * i, 16, 15⟩
abbrev R.RING_CQ_PTR_PHASE (i : Nat) : RF := ⟨0x10002c + 256 * i, 31, 1⟩
abbrev R.RING_DB_CNT_DB_DROP (i : Nat) : RF := ⟨0x100030 + 256 * i, 0, 16⟩
abbrev R.RING_DB_CNT_DB_STALE (i : Nat) : RF := ⟨0x100030 + 256 * i, 16, 16⟩
abbrev R.RING_DONE_LO (i : Nat) : RF := ⟨0x100038 + 256 * i, 0, 32⟩
abbrev R.RING_DONE_HI (i : Nat) : RF := ⟨0x10003c + 256 * i, 0, 32⟩
abbrev R.RING_CQ_HEAD16_BIT (i : Nat) : RF := ⟨0x100040 + 256 * i, 0, 1⟩
abbrev R.DISP_CTRL_EHOLD_WARN : RF := ⟨0x110000, 0, 8⟩
abbrev R.DISP_CTRL_WAIT_MAX : RF := ⟨0x110000, 8, 16⟩
abbrev R.DISP_POOL_GRANT (i : Nat) : RF := ⟨0x110010 + 16 * i, 0, 32⟩
abbrev R.DISP_POOL1_BALANCE (i : Nat) : RF := ⟨0x110014 + 16 * i, 0, 32⟩
abbrev R.DISP_POOL2_DEMAND (i : Nat) : RF := ⟨0x110018 + 16 * i, 0, 32⟩
abbrev R.DISP_POOL3_HELD (i : Nat) : RF := ⟨0x11001c + 16 * i, 0, 16⟩
abbrev R.DISP_OVL_GRANT : RF := ⟨0x110060, 0, 32⟩
abbrev R.DISP_OVL1_LEFT : RF := ⟨0x110064, 0, 32⟩
abbrev R.DISP_OCLASS_MISS_COUNT : RF := ⟨0x110068, 0, 16⟩
abbrev R.DISP_BND_BATCH (i : Nat) : RF := ⟨0x111000 + 16 * i, 0, 16⟩
abbrev R.DISP_BND_FENCE (i : Nat) : RF := ⟨0x111000 + 16 * i, 16, 2⟩
abbrev R.DISP_BND_OPEN (i : Nat) : RF := ⟨0x111000 + 16 * i, 20, 1⟩
abbrev R.DISP_BND_TAIL_LEFT (i : Nat) : RF := ⟨0x111000 + 16 * i, 24, 8⟩
abbrev R.DISP_BND1_PRELOADS (i : Nat) : RF := ⟨0x111004 + 16 * i, 0, 16⟩
abbrev R.DISP_BND1_VIOL (i : Nat) : RF := ⟨0x111004 + 16 * i, 16, 16⟩
abbrev R.DISP_RING_INFLIGHT (i : Nat) : RF := ⟨0x112000 + 4 * i, 0, 7⟩
abbrev R.DISP_RING_HOLD (i : Nat) : RF := ⟨0x112000 + 4 * i, 8, 4⟩
abbrev R.CLT_VALUE (i : Nat) : RF := ⟨0x120000 + 8 * i, 0, 32⟩
abbrev R.CLT_ADD (i : Nat) : RF := ⟨0x120004 + 8 * i, 0, 32⟩
abbrev R.CLT_STAT_WAITERS : RF := ⟨0x128000, 0, 12⟩
abbrev R.CLT_STAT_DENIED : RF := ⟨0x128000, 16, 16⟩
abbrev R.CLT_CLEAR_BASE : RF := ⟨0x128008, 0, 12⟩
abbrev R.CLT_CLEAR_COUNT : RF := ⟨0x128008, 12, 13⟩
abbrev R.CLT_SITE_WIN_BASE (i : Nat) : RF := ⟨0x128010 + 8 * i, 0, 12⟩
abbrev R.CLT_SITE_WIN_COUNT (i : Nat) : RF := ⟨0x128010 + 8 * i, 12, 13⟩
abbrev R.CLT_WATCH0_CLEAT (i : Nat) : RF := ⟨0x129000 + 16 * i, 0, 12⟩
abbrev R.CLT_WATCH0_CMP (i : Nat) : RF := ⟨0x129000 + 16 * i, 12, 4⟩
abbrev R.CLT_WATCH0_EN (i : Nat) : RF := ⟨0x129000 + 16 * i, 31, 1⟩
abbrev R.CLT_WATCH1_VALUE (i : Nat) : RF := ⟨0x129004 + 16 * i, 0, 32⟩
abbrev R.CLT_WATCH2_TMO (i : Nat) : RF := ⟨0x129008 + 16 * i, 0, 16⟩
abbrev R.CLT_WATCH2_VEC (i : Nat) : RF := ⟨0x129008 + 16 * i, 16, 9⟩
abbrev R.CLT_WATCH3_FIRED (i : Nat) : RF := ⟨0x12900c + 16 * i, 0, 1⟩
abbrev R.CLT_WATCH3_TIMEDOUT (i : Nat) : RF := ⟨0x12900c + 16 * i, 1, 1⟩
abbrev R.TIME_NOW_LO : RF := ⟨0x130000, 0, 32⟩
abbrev R.TIME_NOW_HI : RF := ⟨0x130004, 0, 32⟩
abbrev R.TIME_STAT_TRUSTED : RF := ⟨0x130008, 0, 1⟩
abbrev R.TIME_STAT_DISC : RF := ⟨0x130008, 1, 2⟩
abbrev R.TIME_STAT_REFLOST : RF := ⟨0x130008, 4, 1⟩
abbrev R.TIME_STAT_STALE_HALF : RF := ⟨0x130008, 8, 1⟩
abbrev R.TIME_ADJ_PPB : RF := ⟨0x13000c, 0, 24⟩
abbrev R.TIME_SLEW_NS : RF := ⟨0x130010, 0, 32⟩
abbrev R.TIME_SET_LO : RF := ⟨0x130018, 0, 32⟩
abbrev R.TIME_SET_HI : RF := ⟨0x13001c, 0, 32⟩
abbrev R.TIME_CTRL_SLEW_PPM : RF := ⟨0x130020, 0, 10⟩
abbrev R.TIME_STEPS_COUNT : RF := ⟨0x130024, 0, 16⟩
abbrev R.TIME_EVT_SEL (i : Nat) : RF := ⟨0x130100 + 4 * i, 0, 4⟩
abbrev R.TIME_EVT_LO (i : Nat) : RF := ⟨0x130200 + 8 * i, 0, 32⟩
abbrev R.TIME_EVT_HI (i : Nat) : RF := ⟨0x130204 + 8 * i, 0, 32⟩
abbrev R.BUF_CTRL_RECALL_TMO : RF := ⟨0x200000, 0, 10⟩
abbrev R.BUF_STAT_COH_MIB : RF := ⟨0x200004, 0, 7⟩
abbrev R.BUF_STAT_SITE_COH : RF := ⟨0x200004, 8, 4⟩
abbrev R.BUF_STAT_WALK : RF := ⟨0x200004, 12, 1⟩
abbrev R.BUF_EVT_CONFLICTS : RF := ⟨0x200008, 0, 16⟩
abbrev R.BUF_EVT_PROTO : RF := ⟨0x200008, 16, 16⟩
abbrev R.BUF_RECALLS_LO : RF := ⟨0x200010, 0, 32⟩
abbrev R.BUF_RECALLS_HI : RF := ⟨0x200014, 0, 32⟩
abbrev R.BUF_WIN0_BASE (i : Nat) : RF := ⟨0x200100 + 16 * i, 0, 9⟩
abbrev R.BUF_WIN0_SIZE (i : Nat) : RF := ⟨0x200100 + 16 * i, 16, 7⟩
abbrev R.BUF_WIN1_CMD (i : Nat) : RF := ⟨0x200104 + 16 * i, 0, 2⟩
abbrev R.BUF_WIN2_STATE (i : Nat) : RF := ⟨0x200108 + 16 * i, 0, 2⟩
abbrev R.BUF_WIN2_ERR (i : Nat) : RF := ⟨0x200108 + 16 * i, 4, 4⟩
abbrev R.BUF_DIR_CNT0_SHARED : RF := ⟨0x200200, 0, 21⟩
abbrev R.BUF_DIR_CNT1_OWNED : RF := ⟨0x200204, 0, 21⟩
abbrev R.BUF_DIR_QUERY_OFFSET : RF := ⟨0x200300, 6, 23⟩
abbrev R.BUF_DIR_RESULT_STATE : RF := ⟨0x200304, 0, 2⟩
abbrev R.BUF_DIR_RESULT_MASK : RF := ⟨0x200304, 4, 4⟩
abbrev R.BUF_DIR_RESULT_OWNER : RF := ⟨0x200304, 8, 2⟩
abbrev R.BUF_DIR_RESULT_PENDING : RF := ⟨0x200304, 12, 1⟩
abbrev R.BUF_DIR_RESULT_QUEUED : RF := ⟨0x200304, 16, 3⟩
abbrev R.BUF_DIR_RESULT_SLICE : RF := ⟨0x200304, 24, 4⟩
abbrev R.BUF_RR_PTR (i : Nat) : RF := ⟨0x200400 + 4 * i, 0, 3⟩
abbrev R.BUF_TILE_LOAD (i : Nat) : RF := ⟨0x201000 + 4 * i, 0, 10⟩
abbrev R.MEM_CFG_RATE_MAX (i : Nat) : RF := ⟨0x300000 + 131072 * i, 0, 4⟩
abbrev R.MEM_CFG_PD_EN (i : Nat) : RF := ⟨0x300000 + 131072 * i, 4, 1⟩
abbrev R.MEM_CFG_PD_IDLE (i : Nat) : RF := ⟨0x300000 + 131072 * i, 8, 8⟩
abbrev R.MEM_STAT_RATE (i : Nat) : RF := ⟨0x300004 + 131072 * i, 0, 4⟩
abbrev R.MEM_STAT_LANES_REP (i : Nat) : RF := ⟨0x300004 + 131072 * i, 4, 8⟩
abbrev R.MEM_STAT_TEMP (i : Nat) : RF := ⟨0x300004 + 131072 * i, 16, 8⟩
abbrev R.MEM_STAT_HOT (i : Nat) : RF := ⟨0x300004 + 131072 * i, 24, 1⟩
abbrev R.MEM_STAT_TRIP (i : Nat) : RF := ⟨0x300004 + 131072 * i, 25, 1⟩
abbrev R.MEM_TRAIN_CODE (i : Nat) : RF := ⟨0x300008 + 131072 * i, 0, 4⟩
abbrev R.MEM_TRAIN_CHAN (i : Nat) : RF := ⟨0x300008 + 131072 * i, 8, 4⟩
abbrev R.MEM_SCHED_AGE_MAX (i : Nat) : RF := ⟨0x30000c + 131072 * i, 0, 10⟩
abbrev R.MEM_SCHED_WR_HI (i : Nat) : RF := ⟨0x30000c + 131072 * i, 16, 7⟩
abbrev R.MEM_SCHED_WR_LO (i : Nat) : RF := ⟨0x30000c + 131072 * i, 24, 7⟩
abbrev R.MEM_THERM_TRIP_C (i : Nat) : RF := ⟨0x300010 + 131072 * i, 0, 8⟩
abbrev R.MEM_EVT_CAPAR (i : Nat) : RF := ⟨0x300014 + 131072 * i, 0, 16⟩
abbrev R.MEM_EVT_RFM (i : Nat) : RF := ⟨0x300014 + 131072 * i, 16, 16⟩
abbrev R.MEM_RD_BYTES_LO (i : Nat) : RF := ⟨0x300020 + 131072 * i, 0, 32⟩
abbrev R.MEM_RD_BYTES_HI (i : Nat) : RF := ⟨0x300024 + 131072 * i, 0, 32⟩
abbrev R.MEM_WR_BYTES_LO (i : Nat) : RF := ⟨0x300028 + 131072 * i, 0, 32⟩
abbrev R.MEM_WR_BYTES_HI (i : Nat) : RF := ⟨0x30002c + 131072 * i, 0, 32⟩
abbrev R.MEM_PC_RDQ (i j : Nat) : RF := ⟨0x300100 + 131072 * i + 4 * j, 0, 7⟩
abbrev R.MEM_PC_WRQ (i j : Nat) : RF := ⟨0x300100 + 131072 * i + 4 * j, 8, 7⟩
abbrev R.MEM_PC_CONG (i j : Nat) : RF := ⟨0x300100 + 131072 * i + 4 * j, 16, 1⟩
abbrev R.MEM_PC_PD (i j : Nat) : RF := ⟨0x300100 + 131072 * i + 4 * j, 17, 1⟩
abbrev R.QOS_SHEET_CTRL_HI : RF := ⟨0x400000, 0, 8⟩
abbrev R.QOS_SHEET_CTRL_LO : RF := ⟨0x400000, 8, 8⟩
abbrev R.QOS_SHEET_CTRL_CUT : RF := ⟨0x400000, 16, 4⟩
abbrev R.QOS_SHEET_CTRL_RISE : RF := ⟨0x400000, 24, 8⟩
abbrev R.QOS_SHEET_STAT_CONG_PC : RF := ⟨0x400004, 0, 8⟩
abbrev R.QOS_SHEET_STAT_FLOOR_REF : RF := ⟨0x400004, 8, 1⟩
abbrev R.QOS_SHEET_STAT_FLOOR_SCALED : RF := ⟨0x400004, 9, 1⟩
abbrev R.QOS_SHEET_STAT_CRITICAL : RF := ⟨0x400004, 10, 1⟩
abbrev R.QOS_CLASS0_CEIL (i : Nat) : RF := ⟨0x400010 + 16 * i, 0, 16⟩
abbrev R.QOS_CLASS0_FLOOR (i : Nat) : RF := ⟨0x400010 + 16 * i, 16, 16⟩
abbrev R.QOS_CLASS1_RATE (i : Nat) : RF := ⟨0x400014 + 16 * i, 0, 16⟩
abbrev R.QOS_CLASS1_THROTTLED (i : Nat) : RF := ⟨0x400014 + 16 * i, 16, 1⟩
abbrev R.QOS_CLASS2_CUTS (i : Nat) : RF := ⟨0x400018 + 16 * i, 0, 16⟩
abbrev R.QOS_TT0_T1 (i : Nat) : RF := ⟨0x400200 + 16 * i, 0, 7⟩
abbrev R.QOS_TT0_T2 (i : Nat) : RF := ⟨0x400200 + 16 * i, 8, 7⟩
abbrev R.QOS_TT0_T3 (i : Nat) : RF := ⟨0x400200 + 16 * i, 16, 7⟩
abbrev R.QOS_TT1_LEVEL (i : Nat) : RF := ⟨0x400204 + 16 * i, 0, 2⟩
abbrev R.QOS_TT1_FILL (i : Nat) : RF := ⟨0x400204 + 16 * i, 8, 7⟩
abbrev R.QOS_TT2_BUDGET (i : Nat) : RF := ⟨0x400208 + 16 * i, 0, 16⟩
abbrev R.QOS_TT3_CLAMPS (i : Nat) : RF := ⟨0x40020c + 16 * i, 0, 16⟩
abbrev R.QOS_TT3_URGENT (i : Nat) : RF := ⟨0x40020c + 16 * i, 16, 16⟩
abbrev R.RAS_CTRL_VEC : RF := ⟨0x500000, 0, 9⟩
abbrev R.RAS_CTRL_IRQ_SEV : RF := ⟨0x500000, 12, 2⟩
abbrev R.RAS_CTRL_IRQ_EN : RF := ⟨0x500000, 15, 1⟩
abbrev R.RAS_LOG_PTR_PROD : RF := ⟨0x500004, 0, 10⟩
abbrev R.RAS_LOG_PTR_CONS : RF := ⟨0x500004, 16, 10⟩
abbrev R.RAS_LOG_STAT_LOST : RF := ⟨0x500008, 0, 16⟩
abbrev R.RAS_REPEAT_CFG_N : RF := ⟨0x50000c, 0, 8⟩
abbrev R.RAS_REPEAT_CFG_WINDOW_H : RF := ⟨0x50000c, 8, 8⟩
abbrev R.RAS_REPEAT_STAT_TRACKED : RF := ⟨0x500010, 0, 9⟩
abbrev R.RAS_REPEAT_STAT_UNTRACKED : RF := ⟨0x500010, 16, 16⟩
abbrev R.RAS_SCRUB_DRAM_HOURS : RF := ⟨0x500020, 0, 8⟩
abbrev R.RAS_SCRUB_DRAM_PASSES : RF := ⟨0x500020, 16, 16⟩
abbrev R.RAS_SCRUB_DRAM_POS_GRANULE : RF := ⟨0x500024, 0, 26⟩
abbrev R.RAS_SCRUB_BUF_MIN : RF := ⟨0x500028, 0, 8⟩
abbrev R.RAS_SCRUB_BUF_PASSES : RF := ⟨0x500028, 16, 16⟩
abbrev R.RAS_SCRUB_STAT_SKIP_FULL : RF := ⟨0x50002c, 0, 1⟩
abbrev R.RAS_SCRUB_STAT_OFF_SKIPS : RF := ⟨0x50002c, 16, 16⟩
abbrev R.RAS_CE_CNT_BUF : RF := ⟨0x500030, 0, 16⟩
abbrev R.RAS_CE_CNT_DRAM : RF := ⟨0x500030, 16, 16⟩
abbrev R.RAS_UE_CNT_BUF : RF := ⟨0x500034, 0, 8⟩
abbrev R.RAS_UE_CNT_DRAM : RF := ⟨0x500034, 8, 8⟩
abbrev R.RAS_UE_CNT_LATENT : RF := ⟨0x500034, 16, 8⟩
abbrev R.RAS_UE_CNT_NVA : RF := ⟨0x500034, 24, 8⟩
abbrev R.RAS_CAP_INJECT : RF := ⟨0x500040, 0, 1⟩
abbrev R.RAS_FLIP_CTRL_ARM : RF := ⟨0x500044, 0, 1⟩
abbrev R.RAS_FLIP_CTRL_TARGET : RF := ⟨0x500044, 4, 3⟩
abbrev R.RAS_FLIP_CTRL_CTRL_N : RF := ⟨0x500044, 8, 3⟩
abbrev R.RAS_FLIP_CTRL_MATCH_EN : RF := ⟨0x500044, 12, 1⟩
abbrev R.RAS_FLIP_CTRL_FIRED : RF := ⟨0x500044, 16, 1⟩
abbrev R.RAS_FLIP_CTRL_REFUSED : RF := ⟨0x500044, 17, 1⟩
abbrev R.RAS_FLIP_ADDR_LO : RF := ⟨0x500048, 0, 32⟩
abbrev R.RAS_FLIP_ADDR_HI : RF := ⟨0x50004c, 0, 32⟩
abbrev R.RAS_FLIP_NVA_WIN : RF := ⟨0x500050, 0, 10⟩
abbrev R.RAS_FLIP_MASK (i : Nat) : RF := ⟨0x500060 + 4 * i, 0, 32⟩
abbrev R.RAS_SKIP_GRANULE (i : Nat) : RF := ⟨0x501000 + 4 * i, 0, 26⟩
abbrev R.RAS_SKIP_VALID (i : Nat) : RF := ⟨0x501000 + 4 * i, 31, 1⟩
abbrev R.RAS_LOG_WORD (i j : Nat) : RF := ⟨0x508000 + 32 * i + 4 * j, 0, 32⟩
abbrev R.YDL_CTRL_REPLAY_TMO (i : Nat) : RF := ⟨0x600000 + 262144 * i, 0, 8⟩
abbrev R.YDL_CTRL_ACK_INT (i : Nat) : RF := ⟨0x600000 + 262144 * i, 8, 6⟩
abbrev R.YDL_CTRL_AUTO_SPARE (i : Nat) : RF := ⟨0x600000 + 262144 * i, 16, 1⟩
abbrev R.YDL_CTRL_RX_TERM (i : Nat) : RF := ⟨0x600000 + 262144 * i, 17, 1⟩
abbrev R.YDL_STAT_STATE (i : Nat) : RF := ⟨0x600004 + 262144 * i, 0, 3⟩
abbrev R.YDL_STAT_LIVE (i : Nat) : RF := ⟨0x600004 + 262144 * i, 8, 6⟩
abbrev R.YDL_STAT_MSET_TX (i : Nat) : RF := ⟨0x600004 + 262144 * i, 16, 8⟩
abbrev R.YDL_STAT_RATE (i : Nat) : RF := ⟨0x600004 + 262144 * i, 24, 4⟩
abbrev R.YDL_SFN_TX_SFN (i : Nat) : RF := ⟨0x600008 + 262144 * i, 0, 32⟩
abbrev R.YDL_SFN_RX_SFN (i : Nat) : RF := ⟨0x60000c + 262144 * i, 0, 32⟩
abbrev R.YDL_TT_LEVEL (i : Nat) : RF := ⟨0x600010 + 262144 * i, 0, 2⟩
abbrev R.YDL_TT_BAD (i : Nat) : RF := ⟨0x600010 + 262144 * i, 16, 16⟩
abbrev R.YDL_EVT_DROPS (i : Nat) : RF := ⟨0x600014 + 262144 * i, 0, 8⟩
abbrev R.YDL_EVT_CHANGES (i : Nat) : RF := ⟨0x600014 + 262144 * i, 8, 8⟩
abbrev R.YDL_EVT_MSET_RX (i : Nat) : RF := ⟨0x600014 + 262144 * i, 16, 8⟩
abbrev R.YDL_EVT_BADOP (i : Nat) : RF := ⟨0x600014 + 262144 * i, 24, 8⟩
abbrev R.YDL_REPLAY_COUNT (i : Nat) : RF := ⟨0x600018 + 262144 * i, 0, 32⟩
abbrev R.YDL_NAKS_COUNT (i : Nat) : RF := ⟨0x60001c + 262144 * i, 0, 32⟩
abbrev R.YDL_MOD_STATE (i j : Nat) : RF := ⟨0x600100 + 262144 * i + 4 * j, 0, 3⟩
abbrev R.YDL_MOD_LOGICAL (i j : Nat) : RF := ⟨0x600100 + 262144 * i + 4 * j, 8, 6⟩
abbrev R.YDL_MOD_RUN (i j : Nat) : RF := ⟨0x600100 + 262144 * i + 4 * j, 16, 4⟩
abbrev R.YDL_MOD_CAUSE (i j : Nat) : RF := ⟨0x600100 + 262144 * i + 4 * j, 20, 2⟩
abbrev R.YDL_MODCNT_RX_ERR (i j : Nat) : RF := ⟨0x600200 + 262144 * i + 4 * j, 0, 16⟩
abbrev R.YDL_MODCNT_TX_NAK (i j : Nat) : RF := ⟨0x600200 + 262144 * i + 4 * j, 16, 16⟩
abbrev R.YDL_DRIFT_OFFSET (i j : Nat) : RF := ⟨0x600300 + 262144 * i + 4 * j, 0, 6⟩
abbrev R.YDL_DRIFT_PEAK (i j : Nat) : RF := ⟨0x600300 + 262144 * i + 4 * j, 8, 6⟩
abbrev R.YDL_TRN_STEP (i j : Nat) : RF := ⟨0x600400 + 262144 * i + 4 * j, 0, 3⟩
abbrev R.YDL_TRN_WIDTH (i j : Nat) : RF := ⟨0x600400 + 262144 * i + 4 * j, 8, 6⟩
abbrev R.YDL_TRN_HEIGHT (i j : Nat) : RF := ⟨0x600400 + 262144 * i + 4 * j, 16, 6⟩
abbrev R.YDL_TRN_LANE (i j : Nat) : RF := ⟨0x600400 + 262144 * i + 4 * j, 24, 7⟩
abbrev R.YDL_PEER_ID_CLASS (i : Nat) : RF := ⟨0x600800 + 262144 * i, 0, 8⟩
abbrev R.YDL_PEER_ID_VER (i : Nat) : RF := ⟨0x600800 + 262144 * i, 8, 8⟩
abbrev R.YDL_PEER_ID_PCODE (i : Nat) : RF := ⟨0x600800 + 262144 * i, 16, 16⟩
abbrev R.YDL_PEER_SN_LO (i : Nat) : RF := ⟨0x600804 + 262144 * i, 0, 32⟩
abbrev R.YDL_PEER_SN_HI (i : Nat) : RF := ⟨0x600808 + 262144 * i, 0, 32⟩
abbrev R.YDL_PEER_CAP_LO (i : Nat) : RF := ⟨0x60080c + 262144 * i, 0, 32⟩
abbrev R.YDL_PEER_CAP_HI (i : Nat) : RF := ⟨0x600810 + 262144 * i, 0, 32⟩
abbrev R.YDL_NEG_LO (i : Nat) : RF := ⟨0x600814 + 262144 * i, 0, 32⟩
abbrev R.YDL_NEG_HI (i : Nat) : RF := ⟨0x600818 + 262144 * i, 0, 32⟩
abbrev R.YDL_DISC_VER (i : Nat) : RF := ⟨0x60081c + 262144 * i, 0, 8⟩
abbrev R.YDL_DISC_LDID (i : Nat) : RF := ⟨0x60081c + 262144 * i, 8, 2⟩
abbrev R.YDL_DISC_PHASE (i : Nat) : RF := ⟨0x60081c + 262144 * i, 12, 3⟩
abbrev R.YDL_DISC_WHY (i : Nat) : RF := ⟨0x60081c + 262144 * i, 16, 4⟩
abbrev R.YDL_PEER_PWR_WW (i : Nat) : RF := ⟨0x600820 + 262144 * i, 0, 16⟩
abbrev R.YDL_PEER_PWR_FASTDROP (i : Nat) : RF := ⟨0x600820 + 262144 * i, 16, 8⟩
abbrev R.YDL_PEER_PWR_P_IDLE (i : Nat) : RF := ⟨0x600820 + 262144 * i, 24, 8⟩
abbrev R.YDL_PEER_CORES (i : Nat) : RF := ⟨0x600824 + 262144 * i, 0, 16⟩
abbrev R.YDL_PEER_CORES_P_MAX (i : Nat) : RF := ⟨0x600824 + 262144 * i, 16, 16⟩
abbrev R.YDL_HUB_CAP_LO (i : Nat) : RF := ⟨0x600828 + 262144 * i, 0, 32⟩
abbrev R.YDL_HUB_CAP_HI (i : Nat) : RF := ⟨0x60082c + 262144 * i, 0, 32⟩
abbrev R.YDL_SB_STAT_LOST (i : Nat) : RF := ⟨0x600830 + 262144 * i, 0, 8⟩
abbrev R.YDL_SB_STAT_RETRY (i : Nat) : RF := ⟨0x600830 + 262144 * i, 8, 8⟩
abbrev R.YDL_SB_STAT_CRCERR (i : Nat) : RF := ⟨0x600830 + 262144 * i, 16, 8⟩
abbrev R.YDL_SB_STAT_DEAD (i : Nat) : RF := ⟨0x600830 + 262144 * i, 24, 1⟩
abbrev R.YDL_ALLOW (i : Nat) : RF := ⟨0x600834 + 262144 * i, 0, 16⟩
abbrev R.YDL_ALLOW_OVER (i : Nat) : RF := ⟨0x600834 + 262144 * i, 24, 8⟩
abbrev R.YDL_POWER (i : Nat) : RF := ⟨0x600838 + 262144 * i, 0, 16⟩
abbrev R.YDL_POWER_MISSED (i : Nat) : RF := ⟨0x600838 + 262144 * i, 16, 3⟩
abbrev R.YDL_CTL_BADMSG (i : Nat) : RF := ⟨0x60083c + 262144 * i, 0, 16⟩
abbrev R.YDL_CREDIT_HELD (i j : Nat) : RF := ⟨0x600840 + 262144 * i + 4 * j, 0, 16⟩
abbrev R.YDL_CREDIT_OWED (i j : Nat) : RF := ⟨0x600840 + 262144 * i + 4 * j, 16, 16⟩
abbrev R.YDL_STRM_H2S (i : Nat) : RF := ⟨0x600860 + 262144 * i, 0, 7⟩
abbrev R.YDL_STRM_S2H (i : Nat) : RF := ⟨0x600860 + 262144 * i, 8, 7⟩
abbrev R.YDL_LB_MODE (i : Nat) : RF := ⟨0x600870 + 262144 * i, 0, 2⟩
abbrev R.YDL_LB_PAT (i : Nat) : RF := ⟨0x600870 + 262144 * i, 4, 1⟩
abbrev R.YDL_LB_RUN (i : Nat) : RF := ⟨0x600870 + 262144 * i, 8, 1⟩
abbrev R.YDL_LB_DONE (i : Nat) : RF := ⟨0x600870 + 262144 * i, 9, 1⟩
abbrev R.YDL_LB_REFUSED (i : Nat) : RF := ⟨0x600870 + 262144 * i, 10, 1⟩
abbrev R.YDL_LB_MOD (i : Nat) : RF := ⟨0x600870 + 262144 * i, 16, 6⟩
abbrev R.YDL_LB_TIME (i : Nat) : RF := ⟨0x600870 + 262144 * i, 24, 8⟩
abbrev R.YDL_LB_FAIL (i j : Nat) : RF := ⟨0x600874 + 262144 * i + 4 * j, 0, 32⟩
abbrev R.YDL_LB_ERR (i j : Nat) : RF := ⟨0x600880 + 262144 * i + 4 * j, 0, 32⟩
abbrev R.SER_LANE_STAT_STATE (i : Nat) : RF := ⟨0x700000 + 4096 * i, 0, 4⟩
abbrev R.SER_LANE_STAT_SIGNAL (i : Nat) : RF := ⟨0x700000 + 4096 * i, 4, 1⟩
abbrev R.SER_LANE_STAT_FOM (i : Nat) : RF := ⟨0x700000 + 4096 * i, 8, 8⟩
abbrev R.SER_LANE_STAT_PORT (i : Nat) : RF := ⟨0x700000 + 4096 * i, 16, 5⟩
abbrev R.SER_LANE_STAT_RETRY (i : Nat) : RF := ⟨0x700000 + 4096 * i, 24, 8⟩
abbrev R.SER_LANE_ADAPT_MODE (i : Nat) : RF := ⟨0x700004 + 4096 * i, 0, 2⟩
abbrev R.SER_LANE_ADAPT_FOM_MIN (i : Nat) : RF := ⟨0x700004 + 4096 * i, 8, 8⟩
abbrev R.SER_LANE_ADAPT_LOW (i : Nat) : RF := ⟨0x700004 + 4096 * i, 16, 1⟩
abbrev R.SER_LANE_ADAPT_RESTART (i : Nat) : RF := ⟨0x700004 + 4096 * i, 31, 1⟩
abbrev R.SER_LANE_TXFFE_PRE2 (i : Nat) : RF := ⟨0x700040 + 4096 * i, 0, 8⟩
abbrev R.SER_LANE_TXFFE_PRE1 (i : Nat) : RF := ⟨0x700040 + 4096 * i, 8, 8⟩
abbrev R.SER_LANE_TXFFE_MAIN (i : Nat) : RF := ⟨0x700040 + 4096 * i, 16, 8⟩
abbrev R.SER_LANE_TXFFE_POST1 (i : Nat) : RF := ⟨0x700040 + 4096 * i, 24, 8⟩
abbrev R.SER_LANE_SCAN_RUN (i : Nat) : RF := ⟨0x700100 + 4096 * i, 0, 1⟩
abbrev R.SER_LANE_SCAN_FREEZE (i : Nat) : RF := ⟨0x700100 + 4096 * i, 1, 1⟩
abbrev R.SER_LANE_SCAN_EYE (i : Nat) : RF := ⟨0x700100 + 4096 * i, 2, 2⟩
abbrev R.SER_LANE_SCAN_PHASE (i : Nat) : RF := ⟨0x700100 + 4096 * i, 8, 6⟩
abbrev R.SER_LANE_SCAN_VOLT (i : Nat) : RF := ⟨0x700100 + 4096 * i, 16, 8⟩
abbrev R.SER_LANE_SCAN_DWELL (i : Nat) : RF := ⟨0x700100 + 4096 * i, 24, 6⟩
abbrev R.SER_LANE_SCAN_REFUSED (i : Nat) : RF := ⟨0x700100 + 4096 * i, 30, 1⟩
abbrev R.SER_LANE_SCAN_DONE (i : Nat) : RF := ⟨0x700100 + 4096 * i, 31, 1⟩
abbrev R.SER_LANE_SCAN1_COUNT (i : Nat) : RF := ⟨0x700104 + 4096 * i, 0, 32⟩
abbrev R.SER_LANE_PRBS_TXEN (i : Nat) : RF := ⟨0x700200 + 4096 * i, 0, 1⟩
abbrev R.SER_LANE_PRBS_RXEN (i : Nat) : RF := ⟨0x700200 + 4096 * i, 1, 1⟩
abbrev R.SER_LANE_PRBS_PAT (i : Nat) : RF := ⟨0x700200 + 4096 * i, 4, 3⟩
abbrev R.SER_LANE_PRBS_LB (i : Nat) : RF := ⟨0x700200 + 4096 * i, 8, 2⟩
abbrev R.SER_LANE_PRBS_LOCK (i : Nat) : RF := ⟨0x700200 + 4096 * i, 16, 1⟩
abbrev R.SER_LANE_PRBS1_ERR (i : Nat) : RF := ⟨0x700204 + 4096 * i, 0, 32⟩
abbrev R.SER_LANE_RAW_SLIP (i : Nat) : RF := ⟨0x700300 + 4096 * i, 0, 1⟩
abbrev R.SER_LANE_RAW_SCR (i : Nat) : RF := ⟨0x700300 + 4096 * i, 1, 1⟩
abbrev R.SER_LANE_RAW_WDELAY (i : Nat) : RF := ⟨0x700300 + 4096 * i, 8, 4⟩
abbrev R.SER_LANE_RAW_SLIPS (i : Nat) : RF := ⟨0x700300 + 4096 * i, 16, 6⟩
abbrev R.SER_LANE_RXWORD_LO (i : Nat) : RF := ⟨0x700304 + 4096 * i, 0, 32⟩
abbrev R.SER_LANE_RXWORD_HI (i : Nat) : RF := ⟨0x700308 + 4096 * i, 0, 32⟩
abbrev R.SER_LANE_TXWORD_LO (i : Nat) : RF := ⟨0x70030c + 4096 * i, 0, 32⟩
abbrev R.SER_LANE_TXWORD_HI (i : Nat) : RF := ⟨0x700310 + 4096 * i, 0, 32⟩
abbrev R.SER_PORT_CFG_EN (i : Nat) : RF := ⟨0x781000 + 64 * i, 0, 1⟩
abbrev R.SER_PORT_CFG_MODE (i : Nat) : RF := ⟨0x781000 + 64 * i, 1, 2⟩
abbrev R.SER_PORT_CFG_RATE (i : Nat) : RF := ⟨0x781000 + 64 * i, 4, 2⟩
abbrev R.SER_PORT_CFG_FIRST (i : Nat) : RF := ⟨0x781000 + 64 * i, 8, 5⟩
abbrev R.SER_PORT_CFG_WIDTH (i : Nat) : RF := ⟨0x781000 + 64 * i, 16, 4⟩
abbrev R.SER_PORT_CFG_FEC (i : Nat) : RF := ⟨0x781000 + 64 * i, 20, 1⟩
abbrev R.SER_PORT_CFG_AN (i : Nat) : RF := ⟨0x781000 + 64 * i, 24, 1⟩
abbrev R.SER_PORT_CFG_PAUSE (i : Nat) : RF := ⟨0x781000 + 64 * i, 25, 1⟩
abbrev R.SER_PORT_STAT_STATE (i : Nat) : RF := ⟨0x781004 + 64 * i, 0, 3⟩
abbrev R.SER_PORT_STAT_REASON (i : Nat) : RF := ⟨0x781004 + 64 * i, 8, 4⟩
abbrev R.SER_PORT_STAT_WIDTH_NOW (i : Nat) : RF := ⟨0x781004 + 64 * i, 16, 4⟩
abbrev R.SER_PORT_STAT_PEER (i : Nat) : RF := ⟨0x781004 + 64 * i, 24, 6⟩
abbrev R.SER_PORT_STAT_PEER_V (i : Nat) : RF := ⟨0x781004 + 64 * i, 30, 1⟩
abbrev R.SER_PORT_RXCNT_RX_BAD (i : Nat) : RF := ⟨0x781008 + 64 * i, 0, 16⟩
abbrev R.SER_PORT_RXCNT_RX_LONG (i : Nat) : RF := ⟨0x781008 + 64 * i, 16, 16⟩
abbrev R.SER_PORT_RXCNT1_RX_DROP (i : Nat) : RF := ⟨0x78100c + 64 * i, 0, 16⟩
abbrev R.SER_PORT_RXCNT1_FEC_UNCORR (i : Nat) : RF := ⟨0x78100c + 64 * i, 16, 16⟩
abbrev R.SER_PORT_FECCORR_LO (i : Nat) : RF := ⟨0x781010 + 64 * i, 0, 32⟩
abbrev R.SER_PORT_FECCORR_HI (i : Nat) : RF := ⟨0x781014 + 64 * i, 0, 32⟩
abbrev R.SER_PORT_TXTS_LO (i : Nat) : RF := ⟨0x781018 + 64 * i, 0, 32⟩
abbrev R.SER_PORT_TXTS_HI (i : Nat) : RF := ⟨0x78101c + 64 * i, 0, 32⟩
abbrev R.SER_PORT_CREWCNT_RESENDS (i : Nat) : RF := ⟨0x781020 + 64 * i, 0, 16⟩
abbrev R.SER_PORT_CREWCNT_FWD_DROP (i : Nat) : RF := ⟨0x781020 + 64 * i, 16, 16⟩
abbrev R.SER_PORT_ASYM (i : Nat) : RF := ⟨0x781024 + 64 * i, 0, 32⟩
abbrev R.SER_QUAD_RATE (i : Nat) : RF := ⟨0x780000 + 16 * i, 0, 2⟩
abbrev R.SER_QUAD_PLL (i : Nat) : RF := ⟨0x780000 + 16 * i, 4, 1⟩
abbrev R.SER_QUAD_FILL (i : Nat) : RF := ⟨0x780000 + 16 * i, 8, 7⟩
abbrev R.SER_CREW_CTRL_HOPS : RF := ⟨0x780100, 0, 4⟩
abbrev R.SER_CREW_ROUTE_PORT (i : Nat) : RF := ⟨0x782000 + 4 * i, 0, 5⟩
abbrev R.SER_CREW_ROUTE_VALID (i : Nat) : RF := ⟨0x782000 + 4 * i, 31, 1⟩
abbrev R.SER_LANE_EQ (i j : Nat) : RF := ⟨0x700010 + 4096 * i + 4 * j, 0, 32⟩
abbrev R.CREW_CTRL_EN : RF := ⟨0x800000, 0, 1⟩
abbrev R.CREW_CTRL_ID : RF := ⟨0x800000, 8, 6⟩
abbrev R.CREW_CTRL_CAPS : RF := ⟨0x800000, 16, 2⟩
abbrev R.CREW_CTRL_REMUSTER : RF := ⟨0x800000, 31, 1⟩
abbrev R.CREW_CFG_DOMAIN : RF := ⟨0x800004, 0, 8⟩
abbrev R.CREW_CFG_SYNC_LOG2 : RF := ⟨0x800004, 8, 4⟩
abbrev R.CREW_CFG_PDELAY_LOG2 : RF := ⟨0x800004, 12, 4⟩
abbrev R.CREW_APP : RF := ⟨0x800008, 0, 32⟩
abbrev R.CREW_DIGEST : RF := ⟨0x80000c, 0, 32⟩
abbrev R.CREW_FW_PATCH : RF := ⟨0x800010, 0, 16⟩
abbrev R.CREW_FW_MINOR : RF := ⟨0x800010, 16, 8⟩
abbrev R.CREW_FW_MAJOR : RF := ⟨0x800010, 24, 8⟩
abbrev R.CREW_STAT_STATE : RF := ⟨0x800014, 0, 2⟩
abbrev R.CREW_STAT_LEADER : RF := ⟨0x800014, 8, 6⟩
abbrev R.CREW_STAT_IS_LEADER : RF := ⟨0x800014, 14, 1⟩
abbrev R.CREW_STAT_DIST : RF := ⟨0x800014, 16, 6⟩
abbrev R.CREW_STAT_UPPORT : RF := ⟨0x800014, 24, 5⟩
abbrev R.CREW_STAT_MISMATCH : RF := ⟨0x800014, 29, 1⟩
abbrev R.CREW_EPOCH : RF := ⟨0x800018, 0, 32⟩
abbrev R.CREW_OFFSET : RF := ⟨0x80001c, 0, 32⟩
abbrev R.CREW_EVT_REMUSTERS : RF := ⟨0x800020, 0, 8⟩
abbrev R.CREW_EVT_MISMATCHES : RF := ⟨0x800020, 8, 8⟩
abbrev R.CREW_EVT_SYNC_LOST : RF := ⟨0x800020, 16, 8⟩
abbrev R.CREW_EVT_BADTIME : RF := ⟨0x800020, 24, 8⟩
abbrev R.CREW_IRQ_VEC : RF := ⟨0x800024, 0, 9⟩
abbrev R.CREW_IRQ_EN : RF := ⟨0x800024, 15, 1⟩
abbrev R.CREW_PORT_STATE (i : Nat) : RF := ⟨0x800100 + 4 * i, 0, 3⟩
abbrev R.CREW_PORT_CAUSE (i : Nat) : RF := ⟨0x800100 + 4 * i, 4, 4⟩
abbrev R.CREW_PORT_PEER (i : Nat) : RF := ⟨0x800100 + 4 * i, 8, 6⟩
abbrev R.CREW_PORT_LEVEL (i : Nat) : RF := ⟨0x800100 + 4 * i, 16, 4⟩
abbrev R.CREW_PORT_CAPS (i : Nat) : RF := ⟨0x800100 + 4 * i, 20, 2⟩
abbrev R.CREW_PORT_ROLE (i : Nat) : RF := ⟨0x800100 + 4 * i, 24, 2⟩
abbrev R.CREW_PEER_DIGEST (i : Nat) : RF := ⟨0x800200 + 4 * i, 0, 32⟩
abbrev R.SPAR_SCRATCH_BASE : RF := ⟨0x900000, 0, 9⟩
abbrev R.SPAR_SCRATCH_SIZE : RF := ⟨0x900000, 16, 9⟩
abbrev R.SPAR_PIV_TAU64 : RF := ⟨0x900004, 0, 8⟩
abbrev R.SPAR_PIV_DELTA64 : RF := ⟨0x900004, 8, 8⟩
abbrev R.SPAR_PIV_TAU32 : RF := ⟨0x900004, 16, 8⟩
abbrev R.SPAR_PIV_DELTA32 : RF := ⟨0x900004, 24, 8⟩
abbrev R.SPAR_PIVU_U : RF := ⟨0x900008, 0, 8⟩
abbrev R.SPAR_STAT_TILES_FREE : RF := ⟨0x90000c, 0, 5⟩
abbrev R.SPAR_STAT_SCRATCH_FREE : RF := ⟨0x90000c, 8, 8⟩
abbrev R.SPAR_STAT_WAITING : RF := ⟨0x90000c, 16, 8⟩
abbrev R.SPAR_FLOPS_LO : RF := ⟨0x900010, 0, 32⟩
abbrev R.SPAR_FLOPS_HI : RF := ⟨0x900014, 0, 32⟩
abbrev R.SPAR_CTX_STATE (i : Nat) : RF := ⟨0x900100 + 32 * i, 0, 3⟩
abbrev R.SPAR_CTX_METHOD (i : Nat) : RF := ⟨0x900100 + 32 * i, 8, 8⟩
abbrev R.SPAR_CTX_PREC (i : Nat) : RF := ⟨0x900100 + 32 * i, 16, 1⟩
abbrev R.SPAR_CTX_PARTIAL (i : Nat) : RF := ⟨0x900100 + 32 * i, 17, 1⟩
abbrev R.SPAR_CTX_QUEUED (i : Nat) : RF := ⟨0x900100 + 32 * i, 24, 4⟩
abbrev R.SPAR_CTX1_N (i : Nat) : RF := ⟨0x900104 + 32 * i, 0, 32⟩
abbrev R.SPAR_CTX2_SCRATCH (i : Nat) : RF := ⟨0x900108 + 32 * i, 0, 16⟩
abbrev R.SPAR_CTX2_STORE (i : Nat) : RF := ⟨0x900108 + 32 * i, 16, 16⟩
abbrev R.SPAR_CTX_RES_LO (i : Nat) : RF := ⟨0x90010c + 32 * i, 0, 32⟩
abbrev R.SPAR_CTX_RES_HI (i : Nat) : RF := ⟨0x900110 + 32 * i, 0, 32⟩
abbrev R.SPAR_CTX_ITERS (i : Nat) : RF := ⟨0x900114 + 32 * i, 0, 32⟩
abbrev R.SPAR_CTX_FLAGGED (i : Nat) : RF := ⟨0x900118 + 32 * i, 0, 32⟩
abbrev R.SPAR_CTX_FIRST (i : Nat) : RF := ⟨0x90011c + 32 * i, 0, 32⟩
abbrev R.TEST_LBIST_CTRL_SLICE_BUDGET : RF := ⟨0xa00000, 0, 14⟩
abbrev R.TEST_LBIST_STAT_DONE : RF := ⟨0xa00004, 0, 1⟩
abbrev R.TEST_LBIST_STAT_FAILS : RF := ⟨0xa00004, 8, 6⟩
abbrev R.TEST_LBIST_RESULT (i : Nat) : RF := ⟨0xa00100 + 4 * i, 0, 3⟩
abbrev R.TEST_LBIST_TIME_US (i : Nat) : RF := ⟨0xa00100 + 4 * i, 16, 16⟩
abbrev R.TEST_LBIST_SIG_LO (i : Nat) : RF := ⟨0xa00200 + 8 * i, 0, 32⟩
abbrev R.TEST_LBIST_SIG_HI (i : Nat) : RF := ⟨0xa00204 + 8 * i, 0, 32⟩
abbrev R.TEST_HEDGE_STAT_LEVEL : RF := ⟨0xa00400, 0, 2⟩
abbrev R.TEST_HEDGE_STAT_STATE : RF := ⟨0xa00400, 4, 3⟩
abbrev R.TEST_HEDGE_STAT_RESULT : RF := ⟨0xa00400, 8, 8⟩
abbrev R.TEST_HEDGE_STAT_FAILS : RF := ⟨0xa00400, 16, 2⟩
abbrev R.TEST_HEDGE_STAT_WINDOW : RF := ⟨0xa00400, 18, 1⟩
abbrev R.TEST_HEDGE_STAT_PATH : RF := ⟨0xa00400, 20, 1⟩
abbrev R.TEST_HEDGE_REQ_LEVEL : RF := ⟨0xa00404, 0, 2⟩
abbrev R.TEST_HEDGE_CHAL (i : Nat) : RF := ⟨0xa00410 + 4 * i, 0, 32⟩
abbrev R.TEST_HEDGE_RESP (i : Nat) : RF := ⟨0xa00430 + 4 * i, 0, 32⟩
abbrev R.TEST_HEDGE_GO : RF := ⟨0xa00450, 0, 1⟩
abbrev R.TEST_HEDGE_TOKEN (i : Nat) : RF := ⟨0xa00500 + 4 * i, 0, 32⟩
abbrev R.TEST_FMAP_IDX_INDEX : RF := ⟨0xa00600, 0, 12⟩
abbrev R.TEST_FMAP_DATA (i : Nat) : RF := ⟨0xa00604 + 4 * i, 0, 32⟩
abbrev R.TEST_FMAP_STAT_COUNT : RF := ⟨0xa00614, 0, 13⟩
abbrev R.TEST_FMAP_STAT_LOST : RF := ⟨0xa00614, 16, 16⟩
abbrev R.TEST_YDL_WALK_EN : RF := ⟨0xa00620, 0, 1⟩
abbrev R.TEST_YDL_WALK_ONES : RF := ⟨0xa00620, 1, 1⟩
abbrev R.TEST_JTAG_STAT_DENIED : RF := ⟨0xa00700, 0, 16⟩
abbrev R.TEST_JTAG_STAT_IR : RF := ⟨0xa00700, 16, 8⟩
abbrev R.YEW_CTRL_RATE : RF := ⟨0xb00000, 0, 8⟩
abbrev R.YEW_CTRL_BURST : RF := ⟨0xb00000, 8, 8⟩
abbrev R.YEW_CTRL_FLUSH_S : RF := ⟨0xb00000, 16, 8⟩
abbrev R.YEW_CTRL_MIRROR_EN : RF := ⟨0xb00000, 24, 1⟩
abbrev R.YEW_STAT_SUPPRESSED : RF := ⟨0xb00004, 0, 16⟩
abbrev R.YEW_STAT_SCAN_BAD : RF := ⟨0xb00004, 16, 8⟩
abbrev R.YEW_STAT_LG_ARMED : RF := ⟨0xb00004, 24, 1⟩
abbrev R.YEW_SEQ : RF := ⟨0xb00008, 0, 32⟩
abbrev R.YEW_OLDEST_SEQ : RF := ⟨0xb0000c, 0, 32⟩
abbrev R.YEW_LG_CFG_VIN_WARN : RF := ⟨0xb00010, 0, 10⟩
abbrev R.YEW_ESC_FAULTS : RF := ⟨0xb00014, 0, 16⟩
abbrev R.YEW_ESC_FATALS : RF := ⟨0xb00014, 16, 16⟩
abbrev R.YEW_XSPI_BASE : RF := ⟨0xb00020, 0, 16⟩
abbrev R.YEW_XSPI_SIZE : RF := ⟨0xb00020, 16, 16⟩
abbrev R.YEW_XSPI_STAT_ERR : RF := ⟨0xb00024, 0, 1⟩
abbrev R.YEW_XSPI_STAT_LAG : RF := ⟨0xb00024, 16, 16⟩
abbrev R.YEW_RD_SEQ : RF := ⟨0xb00100, 0, 32⟩
abbrev R.YEW_RD_STAT_FOUND : RF := ⟨0xb00104, 0, 1⟩
abbrev R.YEW_RD_STAT_NOT_FOUND : RF := ⟨0xb00104, 1, 1⟩
abbrev R.YEW_RD_STAT_CORR : RF := ⟨0xb00104, 2, 1⟩
abbrev R.YEW_RD_STAT_BUSY : RF := ⟨0xb00104, 3, 1⟩
abbrev R.YEW_RD_DATA (i : Nat) : RF := ⟨0xb00140 + 4 * i, 0, 32⟩
abbrev R.MAST_CMD_OP : RF := ⟨0xc00000, 0, 8⟩
abbrev R.MAST_CMD_LEN : RF := ⟨0xc00000, 8, 8⟩
abbrev R.MAST_GO : RF := ⟨0xc00004, 0, 1⟩
abbrev R.MAST_STAT_BUSY : RF := ⟨0xc00008, 0, 1⟩
abbrev R.MAST_STAT_DONE : RF := ⟨0xc00008, 1, 1⟩
abbrev R.MAST_STAT_RESULT : RF := ⟨0xc00008, 8, 8⟩
abbrev R.MAST_STAT_RLEN : RF := ⟨0xc00008, 16, 8⟩
abbrev R.MAST_IRQ_VEC : RF := ⟨0xc0000c, 0, 9⟩
abbrev R.MAST_IRQ_EN : RF := ⟨0xc0000c, 15, 1⟩
abbrev R.MAST_DATA (i : Nat) : RF := ⟨0xc00100 + 4 * i, 0, 32⟩

end Sys2Proof.Machine
end

