-- ==== Sys2Proof/Machine/Store.lean ====
section
/-!
DEFINITION. Sparse stores: a list of (key, value) pairs in one canonical form (keys strictly rising, no entry equal to
what an unlisted key reads as), so that equal contents are equal data. Registers, buffer, DRAM and every table of the hub
that most runs leave mostly at its default is held in one.
-/
namespace Sys2Proof.Machine

/-- The value at `k`: the entry's, or the default of an unlisted key. -/
def Store.get {α : Type} (d : Nat → α) : List (Nat × α) → Nat → α
  | [], k => d k
  | e :: l, k => if e.1 = k then e.2 else Store.get d l k

/-- The list without key `k`. -/
def Store.erase {α : Type} : List (Nat × α) → Nat → List (Nat × α)
  | [], _ => []
  | e :: l, k => if e.1 = k then Store.erase l k else e :: Store.erase l k

/-- The list with `(k, v)` put before the first larger key. -/
def Store.insert {α : Type} : List (Nat × α) → Nat → α → List (Nat × α)
  | [], k, v => [(k, v)]
  | e :: l, k, v => if k < e.1 then (k, v) :: e :: l else e :: Store.insert l k v

/-- Write `v` at `k`, keeping the canonical form: writing the default removes the entry. -/
def Store.set {α : Type} [DecidableEq α] (d : Nat → α) (l : List (Nat × α)) (k : Nat) (v : α) : List (Nat × α) :=
  if v = d k then Store.erase l k else Store.insert (Store.erase l k) k v

/-- Every key of the list is above `b`. -/
def Store.above {α : Type} (b : Nat) : List (Nat × α) → Bool
  | [] => true
  | e :: l => decide (b < e.1) && Store.above b l

/-- The canonical form: keys strictly rising, no entry at its default. -/
def Store.wf {α : Type} [DecidableEq α] (d : Nat → α) : List (Nat × α) → Bool
  | [] => true
  | e :: l => Store.above e.1 l && decide (e.2 ≠ d e.1) && Store.wf d l

/-- Keep the entries whose key satisfies `p`; the others return to the default. -/
def Store.keep {α : Type} (p : Nat → Bool) : List (Nat × α) → List (Nat × α)
  | [] => []
  | e :: l => if p e.1 then e :: Store.keep p l else Store.keep p l

/-- A store of numbers whose unlisted keys read 0. -/
abbrev NatStore := List (Nat × Nat)

/-- The number at `k`, 0 when unlisted. -/
def nget (l : NatStore) (k : Nat) : Nat := Store.get (fun _ => 0) l k

/-- Write a number; writing 0 removes the entry. -/
def nset (l : NatStore) (k v : Nat) : NatStore := Store.set (fun _ => 0) l k v

end Sys2Proof.Machine
end

