-- ==== Sys2Proof/Machine/State.lean ====
section
/-!
DEFINITION. The state of the hub as plain data: its registers, its stored data with their check-code errors, every queue,
buffer, counter and mode the spec gives it, the pins it watches, and the commands that are waiting. Fields marked
"model's own" are not state of the spec: they count the model's elapsed time, its free values and what the hub has sent.
-/
namespace Sys2Proof.Machine

/-- Why a step stops. -/
inductive Fault where
  /-- Raised by every command whose operands name a unit, offset or code that does not exist (`Instr.wf` is false).
  No agent can send such a command, so stopping is safe. -/
  | noSuchUnit
deriving DecidableEq, Repr

/-- Why a command is refused. -/
inductive Refusal where
  /-- Raised by `exec` alone, for a command that has no meaning in the model yet. Safe: nothing is claimed of it. -/
  | notModelled (mnemonic : String)
deriving DecidableEq, Repr

/-- What the hub sends to the outside (model's own record of it, newest first). -/
inductive Out where
  /-- The data of a register read by a path (R12). -/
  | readData (dst : Path) (v : Nat)
  /-- A PCIe completion to function `fn`: `code` 0 Successful, 1 Unsupported Request, 4 Completer Abort (R102, R108). -/
  | completion (fn code : Nat) (data : List Byte)
  /-- An MSI-X message of function `fn`'s vector `vec` (R122). -/
  | msix (fn vec : Nat)
  /-- A write to the host memory of function `fn` (R118). -/
  | hostWrite (fn addr : Nat) (data : List Byte)
  /-- A control-class message to site `s`: its MSG code, TAG, body and line (R272, R273). -/
  | control (s msg tag : Nat) (body data : List Byte)
  /-- A flit on physical module `p` of site `s`: its valid word, its control bits K and its payload (R245, R246). -/
  | flit (s p v k : Nat) (payload : List Byte)
  /-- A sideband frame to site `s`: its bytes, CRC last (R263). -/
  | sideband (s : Nat) (frame : List Byte)
  /-- What the modules of a mask of site `s` send from now on: the signals of training step 1 to 6 (R241), a loopback run's pattern,
  7 LB_NEAR with the pads at 0, 8 LB_PAD (R287), 9 a readmission's check (R261). `prbs` is its PRBS length, 0 where none is sent, and
  `seeds` those of lanes D0 to D63, C0 to C3 and V; for a walking pattern, `prbs` 0, the value walked (R373). -/
  | pattern (s step mask prbs : Nat) (seeds : List Nat)
  /-- Payload flits toward site `s` on a credit class (R272). -/
  | payload (s cls stream : Nat) (data : List Byte)
  /-- A frame on serial port `p`: its kind (0 Ethernet, 1 PAUSE, 2 raw words, 3 crew, 4 crew TIME), fields of a PAUSE or TIME
  frame, and its bytes; a crew frame's are those of R298, header to FCS. -/
  | frame (p kind : Nat) (fields : List Nat) (data : List Byte)
  /-- An answer of the MCTP responder (R398). -/
  | mctp (cmd : Nat) (data : List Byte)
  /-- A PMBus transfer to regulator `n` at the speed PWR_PMB_CTRL gives: the bytes the hub sends, PEC last (R55). -/
  | pmbus (n speed : Nat) (bytes : List Byte)
  /-- A signal driven on a test or package pin group (R376). -/
  | pins (group v : Nat)
deriving DecidableEq, Repr

/-- The pins and inputs the hub watches (R410 to R419). -/
structure Pins where
  pwrgood : Bool      -- level of PWRGOOD
  lowFilter : Bool    -- PWRGOOD is low and its 1 µs filter runs (R413)
  d0Reset : Bool      -- D0 is in reset (R413)
  perstN : Bool       -- level of PERST_N
  refclk : Bool       -- REFCLK_MAIN present (R32)
  vinLow : Bool       -- VIN below VIN_WARN (R393)
  fatalN : Bool       -- GPIO1, low from a FATAL to the next READY (R418)
  lgN : Bool          -- GPIO3, low from a last-gasp trigger to D0 reset (R418)
  smbAddr : Nat       -- SMB_ADDR strap sampled at cold reset (R398)
deriving DecidableEq, Repr

/-- A step Reef has not admitted yet (R49, R51). -/
structure ReefStep where
  kind : Nat     -- 2 core-wave grant, 4 overlap start, 5 logic BIST slice, 6 readmission test
  unit : Nat     -- the site or slice, 0 of a readmission; of an overlap start, its ring and descriptor (`overlapUnit`)
  mw : Nat       -- rise of power, mW
  expo : Nat     -- rise of X_total, mW
  sense : Nat    -- rise of X_sense, mW
  adm : Bool     -- admitted by Reef and not yet taken
deriving DecidableEq, Repr

/-- Power domains, islands and Reef beyond their registers (spec/02). -/
structure PowerS where
  want : NatStore       -- per domain: 0 none, 1 hoist pending, 2 lowering waits for idle NIs, 3 lowering idle
  latch : NatStore      -- per domain: newest request during a transition (R40 corner): 1 on, 2 off, 3 hub
  barred : NatStore     -- per domain: 7 dropped site, 8 failed in S2 (R38)
  own : NatStore        -- per domain: 1 while a lowering on the hub's own decision is not complete (R38)
  aim : NatStore        -- per island: the frequency Trim's plan asks for, MHz; 0 its nominal (R41)
  deferOff : NatStore   -- per domain: 1 a hold-off made before readiness (R39)
  heldNi : NatStore     -- per domain: 1 new traffic to its NIs is held (R40)
  waves : List (List Nat)   -- domains hoisted, wave by wave, newest first (R37, R38)
  rise : Nat            -- rising steps taken and not yet covered by the slew, mW (R45)
  fall : Nat            -- falling steps likewise, mW
  rose : Nat            -- rise of the measured input not yet covered by the slew, mW (R45)
  lastIn : Option Nat   -- the newest estimate of the input power, 0.1 W
  ramps : List (Nat × Nat × Nat)  -- sites whose allowance rises: site, rise left, rise per tick, mW (R283)
  entry : Nat           -- power of the running memory-test element that Reef has not admitted yet, mW (R69)
  leave : Nat           -- power an ended element still withdraws at the falling slew, mW (R69)
  stop : Nat            -- its power that then stops at once, mW
  release : Bool        -- soak release under way (R50)
  credit : Nat          -- released soak not yet a whole segment, mW
  steps : List ReefStep -- pending steps, by priority
  noRise : Nat          -- no rising step is admitted before this clock (excursion corner)
  missed : NatStore     -- per regulator: polls missed in a row (R56)
  silent : NatStore     -- per regulator: 1 while GUARD is widened for it (R56)
  readings : List (Nat × List Nat)  -- per regulator: the words of its newest answers (R56)
  vdd : Nat             -- VDD_CORE set point, mV (R408)
  vddAt : Nat           -- clock of the last VOUT_COMMAND
  charger : Bool        -- VHOLD charger on (R54, R413)
deriving DecidableEq, Repr

/-- The D0 memory-test fail record (R67). -/
structure FailRecord where
  soft : List Nat      -- rows (DRAM address ÷ 1 KiB) with a soft repair in force
  grans : List Nat     -- up to 512 granules that failed without soft repair
  complete : Bool      -- an S6 has completed since the cold reset (corner of R59)
  fmap : List (List Nat)   -- fail-map entries of four words, oldest first, at most 4,096 (R370, R371)
deriving DecidableEq, Repr

/-- A core-wave record of one site (R72, R73). -/
structure SiteWave where
  granted : Nat     -- cores granted
  up : Nat          -- cores reported up
  busy : Bool       -- a grant is not yet reported complete
  lastAt : Nat      -- clock of the last grant
deriving DecidableEq, Repr

/-- Bring-up beyond its registers (spec/03). -/
structure BootS where
  pend : Nat             -- lowering and reset that wait: 0 none, 1 warm, 2 hub, 3 scan (no reset follows, R377)
  zeroSent : Bool        -- every site has been sent a zero allowance before the reset
  perst : Bool           -- a PERST_N assertion is counting its 1 µs (R414)
  begun : Nat            -- clock at which the current stage began
  done : Bool            -- the current stage's work is complete
  slot : Nat             -- Masthead image slot booted
  version : Nat          -- its version
  lbNext : Nat           -- LBIST slice running in S3 (48: none left)
  lbRise : Nat           -- H_eff taken when S3 began, W (R367)
  lbBudget : Nat         -- a slice's budget taken when S3 began, µs (R368)
  trained : List (Nat × Nat)  -- stacks trained in S4, with the rate each reached
  elem : Nat             -- memory-test element running in S6
  elems : Nat            -- elements of the profile
  hold : Bool            -- the next element waits for zeroisation (R381)
  elemMw : Nat           -- power of the running element, mW (R69)
  newFails : List Nat    -- granules found failing without repair in this S6
  waves : List (Nat × SiteWave)  -- core waves, per live site of S8
  lastWave : Option (Nat × Nat)  -- site and clock of the last wave grant
  fwAddr : Bool          -- BOOT_FW_ADDR has been written (R75)
  fwLen : Bool           -- BOOT_FW_LEN has been written
  goHeld : Bool          -- GO written and not yet used (R75)
  image : List Byte      -- the partner image: directory and payloads (R76)
  fwDue : Bool           -- the fetch of a host image waits for Bus Master Enable (R75)
  imgDone : Bool         -- the directory has been handled
  fwq : List (Nat × Nat) -- sites that take their image by unicast next, with their entries (R77)
  fwBad : List Nat       -- sites whose image stream failed
  karLeft : List (Nat × Nat)  -- (type, number) of units whose known-answer run is not finished: 0 engines, 1 Spar tiles, 2 buffer tiles (R78)
  karBad : Bool          -- a unit has left the map in S10
  karSites : List Nat    -- sites whose digest is awaited
  entryOf : NatStore     -- per site: 1 + directory entry sent (R76)
  fatalEnd : Bool        -- a hub reset is owed to a FATAL event
deriving DecidableEq, Repr

/-- One entry of the correction-tracking table (R224). -/
structure Repeat where
  unit : Nat
  addr : Nat
  count : Nat
  first : Nat
  said : Bool    -- an entry of it has carried REPEAT in the window (R225)
deriving DecidableEq, Repr

/-- Error handling beyond its registers (spec/10). -/
structure RasS where
  seq : Nat                -- SEQ of the newest log entry (R222)
  reps : List Repeat       -- tracked locations, oldest first, at most 256 (R224)
  irqAt : Option Nat       -- clock of the last RAS message (R226)
  ceHour : NatStore        -- corrections this hour: 0 buffer, 1 + n controller n (R225)
  dramSec : Nat            -- DRAM scrubber: next sector of the granule RAS_SCRUB_DRAM_POS shows
  bufPos : Nat             -- buffer scrubber: next word read
  sram : NatStore          -- per 64-bit word of the SRAMs seen at BAR0 (offset ÷ 8): its stored bits in error (R210)
deriving DecidableEq, Repr

/-- One Yew record (R388), its CRC implied. -/
structure YewRec where
  type : Nat
  sev : Nat
  flags : Nat
  seq : Nat
  time : Nat
  cold : Nat
  stage : Nat
  payload : List Byte
deriving DecidableEq, Repr

/-- One programmed block of the log: its records and the stored bits in error (R210, R232). -/
structure YewBlk where
  recs : List YewRec
  err : Nat
deriving DecidableEq, Repr

/-- A persisted retirement (R94, R387). -/
structure Retire where
  type : Nat
  site : Nat
  phys : Nat
  cause : Nat
deriving DecidableEq, Repr

/-- One copy of the persistent state region (R387). -/
structure Region where
  version : Nat
  valid : Bool
  retires : List Retire
  ppr : List Nat
deriving DecidableEq, Repr

/-- The Yew log, the non-volatile array and escalation beyond their registers (spec/18). -/
structure YewS where
  blocks : List (Nat × YewBlk)  -- programmed blocks, by block number counted since manufacture
  wp : Nat                  -- next block to program
  erasedTo : Nat            -- blocks below this are erased or programmed
  staged : List YewRec      -- staged records, oldest first (R389)
  stagedAt : Nat            -- clock of the first staged record
  seq : Nat                 -- next SEQ
  tokens : Nat              -- token bucket (R391)
  refused : Nat             -- records refused since the last SUPPRESSED record
  hist : List Nat           -- last four escalation cause codes, newest first (R394)
  escSeq : Nat              -- SEQ of the newest ESC record
  lgAt : Option Nat         -- clock of the last last-gasp set
  lgInput : Bool            -- an input or PWRGOOD last gasp is running
  dispStop : Bool           -- the dispatcher starts no descriptor (R393)
  copyA : Region
  copyB : Region
  cold : Nat                -- cold resets since manufacture
  active : Nat              -- image slot booted last
  rollback : Nat            -- anti-rollback fuse count
  imgBytes : List (Nat × Byte)  -- bytes staged into the inactive slot (R405)
  mirrorOff : Bool          -- mirror stopped until the next cold reset (R396)
  unmirrored : List Nat     -- programmed blocks not yet copied, oldest first
  xspi : List (Nat × YewBlk)    -- blocks in the xSPI ring
  eid : Nat                 -- MCTP endpoint ID
deriving DecidableEq, Repr

/-- The PCIe function beyond its registers (spec/05). Stores are by function: 0 PF, k + 1 VF k. -/
structure PcieS where
  bme : NatStore       -- Bus Master Enable
  d3 : NatStore        -- 1 in D3hot
  msixEn : NatStore    -- MSI-X enabled
  fmask : NatStore     -- MSI-X function mask
  numVfs : Nat
  vfEn : Bool
  linkUp : Bool
  detect : Bool        -- LTSSM has entered Detect (R63)
  vfTable : List (Nat × Word)  -- VF MSI-X tables: word `w` of entry `e` of VF `k` at 32 k + 4 e + w
  vfPba : NatStore     -- pending bits of VF k
  vfStale : NatStore   -- VF_SHADOW.STALE_HALF of VF k (R167)
  aer : NatStore       -- AER errors logged per function, one bit per kind (R108)
  cfg : NatStore       -- configuration fields written: 1 + value, at 64 × function + `cfgCode` (R98, R100)
deriving DecidableEq, Repr

/-- A completion entry (R117) before its phase is known. -/
structure Cpl where
  tag : Nat
  status : Nat
  eclass : Nat
  result : Nat
  slot : Nat
deriving DecidableEq, Repr

/-- A fetched descriptor that has not completed. -/
structure Desc where
  id : Nat               -- entries its ring fetched before it since the ring was enabled
  slot : Nat             -- submission slot
  bytes : List Byte      -- its 64 bytes (R129)
  at_ : Nat              -- clock of its fetch: the moment of dispatch (R141)
  group : Nat            -- number of BOUNDARYs before it in its ring
  started : Bool
  waitOk : Bool          -- its wait, AT_TIME included, has held at a judgement (latched, R137, R158)
  judged : Bool          -- its wait has been judged: its timeout runs (R158)
  timedOut : Bool        -- its wait's timeout has passed
  late : Bool            -- its deadline has passed (R141)
  stop : Bool            -- it stops at its next 4 KiB boundary
  epochs : Nat           -- epoch starts it has been held for credit across (R145)
  inCredit : Bool        -- it is held for credit
  debit : Nat            -- energy debited at its start, µJ
  ovl : Bool             -- it started as an overlap start (R153)
  moved : Nat            -- bytes moved
  drained : Bool         -- its writes have drained (R152)
  list : List (Nat × Nat)  -- its GATHER or SCATTER list once read: address, length
  listRead : Bool
  snap : Option (List Byte)  -- source of an overlapping COPY, read in full first (R134)
  ended : Bool           -- its work has ended; its completion has not been written
  status : Nat           -- status its work ended with
  result : Nat           -- result word of its work
  unit : Nat             -- physical engine (68: none), stream, call tag or context it runs on
deriving DecidableEq, Repr

/-- An open BOUNDARY (R150, R151). -/
structure Bound where
  id : Nat
  fence : Nat
  regions : List Nat
  group : Nat
deriving DecidableEq, Repr

/-- A ring beyond its registers (spec/05, spec/06). -/
structure RingS where
  descs : List Desc        -- fetched and not completed, in ring order
  fetched : Nat            -- entries fetched since enable
  used : Nat               -- completion slots written and not released
  held : List Cpl          -- completions held, in order (R120)
  pend : Nat               -- completions since the vector last fired (R121)
  timer : Bool             -- moderation timer runs
  vec : Nat                -- VEC as the newest completion took it (R110)
  groups : Nat             -- BOUNDARYs fetched since enable
  bound : Option Bound     -- the open BOUNDARY
  haltDone : Bool          -- the RING_HALT entry has been written (R124)
  zeroGen : Bool           -- its reset belongs to an FLR: GEN returns to 0 (R126)
  hints : List (Nat × Nat × Nat)  -- BUDGET_HINTs: pool, energy in µJ, horizon in µs (R138)
deriving DecidableEq, Repr

/-- The dispatcher beyond its registers (spec/06). -/
structure DispS where
  rr : NatStore        -- per pool and PRIO (4 × pool + PRIO): 1 + ring served last (R145)
  movers : List (Nat × Nat)  -- started movers, ring and number, in the order their engines take them next (R134)
deriving DecidableEq, Repr

/-- Who waits on a cleat (R157). -/
inductive Waiter where
  | desc (ring id : Nat)
  | site (s tag tmo : Nat)   -- timeout in 16 µs units, 0 none
  | watch (w : Nat)
  | masthead
deriving DecidableEq, Repr

/-- A registered wait (R156). -/
structure Wait where
  who : Waiter
  cleat : Nat
  cmp : Nat
  value : Nat
  time : Nat             -- AT_TIME that must also be reached; 0 none (R137)
deriving DecidableEq, Repr

/-- Cleats and hub time beyond their registers (spec/07). -/
structure CleatS where
  waits : List Wait       -- registered waits, oldest first
  seen : NatStore         -- per watch: 1 + SEEN while word 1 reads it (R162)
deriving DecidableEq, Repr

/-- Hub time (R163 to R168). -/
structure TimeS where
  now : Nat               -- 64-bit count of ns
  frac : Int              -- fraction of a ns not yet added, in 10⁻⁹ ns
  slew : Int              -- offset still to be slewed in, ns
  slewFrac : Nat          -- elapsed time toward the next slewed ns, in 10⁻⁶ ns
  shadows : List (Path × Nat × Word)  -- per path: the register's low offset and its latched high half
deriving DecidableEq, Repr

/-- A request waiting in a pseudo-channel's queue (R199). -/
structure MemReq where
  write : Bool
  addr : Nat
  size : Nat     -- its bytes, at most a line
  cls : Nat      -- its Sheet class (R203), 7 none
  tag : Nat      -- urgency tag at issue (R206)
  master : Nat   -- 0 to 3 sites, 4 PCIe, 5 to 12 serial quads, 13 none
  scrub : Bool   -- a patrol scrub read (R220)
  at_ : Nat      -- clock of its entry
deriving DecidableEq, Repr

/-- Memory controllers, Sheet and Telltale beyond their registers (spec/09). Banks are keyed 48 × pseudo-channel + bank. -/
structure MemChS where
  queues : List (Nat × List MemReq)  -- per hub pseudo-channel, oldest first
  drain : NatStore       -- per pseudo-channel: 1 while a write drain runs
  rows : NatStore        -- per bank: 1 + open row
  raa : NatStore         -- per bank: rolling accumulated activations (R195)
  raaimt : NatStore      -- per stack: RAAIMT it reports
  raammt : NatStore      -- per stack: RAAMMT it reports
  owed : NatStore        -- per bank: refreshes postponed (R194)
  pulled : NatStore      -- per bank: refreshes pulled in (R194)
  selfRef : Bool         -- the stacks sit in self-refresh (R188)
  parity : NatStore      -- per stack: reissues of the command in trouble (R196)
  rate : NatStore        -- per Sheet class: 1 + rate in force, 10⁻³ GB/s (unlisted: at its ceiling)
  sinceCut : NatStore    -- per class: ns since its last cut (R204)
  spent : NatStore       -- per class: tokens its buckets lack, in 1/20 byte (R203)
  waiting : List (Nat × List MemReq)  -- per class: requests that wait at their NIs for tokens, oldest first
  congAt : NatStore      -- per class: 1 + clock of its last request to a congested pseudo-channel
  urgent : NatStore      -- per master: urgent bytes in the running window (R208)
  clamp : NatStore       -- per master: 1 while its requests carry tag 1
  tells : List (Nat × Nat × Nat)  -- changes of level: master, clock, level, newest first (R206)
deriving DecidableEq, Repr

/-- A sequenced flit the hub has sent or is about to send (R250, R251). -/
structure TxFlit where
  sfn : Nat
  seq : Nat          -- assigned when it enters a module's replay buffer
  type : Nat         -- 1 DATA, 2 CONTROL (R248)
  payload : List Byte
deriving DecidableEq, Repr

/-- A flit accepted and not yet delivered in site order (R251). -/
structure RxFlit where
  sfn : Nat
  seq : Nat
  module : Nat       -- physical module it came on
  type : Nat
  payload : List Byte
deriving DecidableEq, Repr

/-- Both directions of one physical module beyond its registers (R250 to R255). -/
structure ModLink where
  txSeq : Nat          -- next SEQ the hub sends
  txBuf : List TxFlit  -- replay buffer: undelivered flits, oldest first
  txExp : Nat          -- EXP the die last reported
  exp : Nat            -- expected SEQ
  nak : Bool           -- the flag `pending` of R252
  armed : Bool
  dlv : Nat            -- 1 + SEQ of the last flit delivered; 0 before the first of this generation
  asked : Bool         -- the next ACK flit carries NAK for this module
  changed : Bool       -- its ACK entry has changed since the last ACK flit
deriving DecidableEq, Repr

/-- A planned change of the module set (R260). -/
structure SetChange where
  remove : Bool
  module : Nat
  xh : Nat             -- hub-to-site switch SFN
  xd : Option Nat      -- site-to-hub switch SFN, once accepted
  txDone : Bool
  rxDone : Bool
deriving DecidableEq, Repr

/-- A drop exchange the hub has begun (R257). -/
structure DropX where
  module : Nat
  cause : Nat          -- 1 replay, 2 drift
deriving DecidableEq, Repr

/-- A stream (R278 to R281). -/
structure Stream where
  toSite : Bool
  id : Nat
  tag : Nat            -- TAG of its STREAM_OPEN
  cls : Nat            -- data class
  len : Nat            -- 64-byte units
  got : Nat            -- units sent or received
  sent : Nat           -- data flits sent by the hub, headers not counted
  state : Nat          -- 0 opening, 1 open, 2 closing with DONE, 3 with STOP, 4 with ABORT
  bcast : Bool
  space : Nat          -- local range: space and address
  addr : Nat
  engine : Nat         -- physical engine it is bound to (R90)
  ring : Nat           -- its STREAM_OPEN descriptor
  desc : Nat
  closeRing : Nat      -- its STREAM_CLOSE descriptor (256: none)
  closeDesc : Nat
deriving DecidableEq, Repr

/-- A control-class message waiting for credits (R275). -/
structure CtlMsg where
  rsp : Bool           -- class RSP, else REQ
  msg : Nat
  tag : Nat
  body : List Byte     -- from byte 4
  data : List Byte     -- the line of a data flit, or nothing
deriving DecidableEq, Repr

/-- A SITE_CALL in progress (R282). -/
structure Call where
  tag : Nat
  ring : Nat
  desc : Nat
  stopped : Bool       -- CALL_STOP has been sent
deriving DecidableEq, Repr

/-- A site's RD or WR that came before map epoch 1 and is not issued until then (R62). -/
structure EarlyReq where
  write : Bool
  tag : Nat
  addr : Nat
  mask : Nat
  line : List Byte
deriving DecidableEq, Repr

/-- A site's link beyond its registers (spec/11, spec/12). -/
structure SiteS where
  mods : List (Nat × ModLink)   -- by physical module
  setTx : List Nat       -- physical modules of the hub-to-site set, by logical number
  setRx : List Nat
  baseTx : Nat           -- B of the hub-to-site generation
  baseRx : Nat
  txq : List TxFlit      -- flits that wait for room in a replay buffer, in SFN order
  held : List RxFlit     -- accepted, not yet delivered
  change : Option SetChange
  again : Option Nat     -- a module to propose again once a drop is complete
  dropx : Option DropX
  lastDrop : Option (Nat × Nat)  -- the module dropped last, and the hub's XR of that exchange (R257)
  spareDue : Nat         -- drops for which no spare has been proposed (R259)
  sfn : Nat              -- SFN the next sequenced flit takes (R251)
  hdr : Option (List Byte)  -- a delivered control header whose data flit is due
  run : Option (Nat × Nat × Nat)  -- run being received: stream ID, flits left, next unit
  ctlq : List CtlMsg     -- messages that wait for credits, in order
  escape : Bool          -- the hub holds its escape credit (R276)
  escSfn : Nat           -- SFN of the CREDIT flit the escape credit was spent on
  streams : List Stream
  calls : List Call
  tag : Nat              -- tag of the next message that needs an answer
  sbFrame : Option (Nat × List Nat)  -- sideband frame sent and not acknowledged: TYPE, payload
  sbResends : Nat
  sbAwait : Nat          -- TYPE of the sideband answer awaited (0 none)
  step : Nat             -- training step under way, 1 to 6
  mask : Nat             -- modules in it
  bad : Nat              -- modules listed bad in either IDENT
  trained : Nat          -- modules that passed T6
  testBad : Nat          -- modules with a bad TEST flit in T6
  hubPass : Option Nat   -- modules the hub passed in the step, once its limit has come
  diePass : Option Nat   -- modules the die passed, once its result has come
  crReq : Nat            -- die's grants to the hub, of its IDENT
  crRsp : Nat
  crData : Nat
  lbQuiet : Bool         -- an LB_PAD run waits for QUIET_ACK
  lbOn : Bool            -- a loopback run is under way
  lbPad : Bool           -- its module was made quiet at the die
  lbMod : Nat            -- its module
  allowDue : Bool        -- an ALLOW is unanswered
  overSaid : Bool        -- an over-allowance WARNING has been logged this epoch
  prevAllow : Nat × Nat  -- an allowance that a lowering replaces, 0.25 W, and the clock until which it is in force (R284)
  energy : Nat           -- energy reported in ALLOW_ACKs, µJ
  early : List EarlyReq  -- in order of arrival
deriving DecidableEq, Repr

/-- A request to the directory for one line (R181, R184, R176). -/
structure DirReq where
  pos : Nat      -- rotation position: sites 0 to 3, 4 every non-caching requester
  kind : Nat     -- 0 RD_SHARED, 1 RD_OWN, 2 UPGRADE, 3 non-caching read, 4 non-caching write, 5 word recovery, 6 disable walk,
                 -- 7 a writeback already applied
  tag : Nat      -- TAG of a site's message
  nc : Nat       -- the non-caching access it belongs to; 0 none
deriving DecidableEq, Repr

/-- A line's transaction in progress and the requests that wait for the line (R185). -/
structure DirTxn where
  line : Nat           -- buffer offset ÷ 64
  req : DirReq
  await : Nat          -- sites whose answer to the recall is awaited
  bare : Bool          -- its grant carries no data (an UPGRADE of a sharer)
  queue : List DirReq
deriving DecidableEq, Repr

/-- A non-caching access that waits for recalls (R181). -/
structure NcAcc where
  id : Nat
  write : Bool
  req : Nat            -- requester code
  ans : Nat            -- who is answered: 0 nobody, 1 function `req` by completion, 2 site by RD_RESP or WR_ACK
  tag : Nat
  off : Nat            -- buffer offset
  len : Nat
  pieces : List (Nat × List Byte)  -- what a write stores: offset and bytes, none crossing a line
  left : List Nat      -- lines not yet served
  got : List (Nat × List Byte)     -- lines read: offset and bytes
  bad : Bool           -- an uncorrectable error was met
  epoch : Nat          -- its tag: the map epoch it entered under (R84)
deriving DecidableEq, Repr

/-- A site's ADD or SET that waits until the writes it sent earlier are visible (R160). -/
structure CltHeld where
  site : Nat
  tag : Nat
  set : Bool           -- SET, else ADD
  cleat : Nat
  value : Nat
  after : Nat          -- number of the first access that came after it
deriving DecidableEq, Repr

/-- The coherent windows and the directory beyond their registers (spec/08). -/
structure DirS where
  chunks : NatStore    -- per directory chunk: 1 + the MiB of the buffer it serves
  entries : NatStore   -- per coherent index: 0 Unowned, 16 + mask Shared, 32 + site Owned
  errs : NatStore      -- per directory word (8192 × slice + word): its stored bits in error (R184)
  txns : List DirTxn   -- at most one per line
  ncs : List NcAcc
  ncNext : Nat         -- number of the next non-caching access
  asked : Bool         -- BUF_DIR_QUERY has been written
  gather : List (Nat × DirReq)  -- requests of the slice decision under way, with their lines (R185)
  clts : List CltHeld  -- in order of arrival
deriving DecidableEq, Repr

/-- The data at rest and its check-code errors (R210). Unlisted bytes read 0; an unlisted error mask is 0: a clean codeword. -/
structure Mem where
  dram : List (Nat × Byte)     -- by hub DRAM address
  buf : List (Nat × Byte)      -- by buffer offset (logical bank × 256 KiB + offset in bank)
  dramErr : NatStore           -- per 32-byte sector: the stored bits in error, symbol j bit t at 8 j + t (R211)
  bufErr : NatStore            -- per 8-byte word: data bits 0 to 63 and check bits 64 to 71 in error
deriving DecidableEq, Repr

/-- The canonical form of the stored data: every list strictly rising, no entry at its default. -/
def Mem.wf (m : Mem) : Bool :=
  Store.wf (fun _ => (0 : Byte)) m.dram && Store.wf (fun _ => (0 : Byte)) m.buf
    && Store.wf (fun _ => 0) m.dramErr && Store.wf (fun _ => 0) m.bufErr

/-- The one-time defect fuses (R81): what the factory listed. -/
structure FuseS where
  bad : NatStore       -- per unit (`unitKey`): 1 listed bad
  rows : NatStore      -- 8 × bank + j: 1 + address of a repaired row
  lanes : NatStore     -- per bad module (`unitKey`): 1 + its first bad lane, for failure analysis only (R82)
  crc : Nat            -- the stored fuse CRC
  serial : Nat         -- die serial number (R267, R392)
  crcOk : Bool         -- the sense passes its CRC
deriving DecidableEq, Repr

/-- The map command in progress (R92, R95). -/
structure MapCmd where
  join : Bool          -- a readmission, else a retirement
  type : Nat
  site : Nat
  phys : Nat
  logical : Nat
  spare : Nat          -- the spare that takes over; 0x7FF none
  abort : Bool
  discard : Bool
  phase : Nat          -- 0 copying, 1 waits for the link's agreement, 2 waits for the epoch, 3 quarantine, 4 testing
deriving DecidableEq, Repr

/-- A change of the map staged for the next epoch (R88, R89). -/
structure MapChange where
  join : Bool
  type : Nat
  site : Nat
  phys : Nat
  logical : Nat
  spare : Nat
  cause : Nat
  abort : Bool
  byCmd : Bool
deriving DecidableEq, Repr

/-- The map beyond its registers (spec/04). -/
structure MapS where
  fuse : FuseS
  cmd : Option MapCmd
  changes : List MapChange  -- oldest first
  prev : List (Nat × Nat)   -- the table of the previous epoch: `unitKey` of a logical unit, its physical unit (R84)
  left : Option (Nat × Mem) -- the logical bank whose home a DISCARD retirement changed, and the old bank's contents, while
                            -- the epoch drains (R88, R93)
  born : NatStore           -- per logical Spar tile: the epoch at which it raised the count; 0 from bring-up (R96)
deriving DecidableEq, Repr

/-- The Masthead mailbox beyond its registers (R405). -/
structure MastS where
  op : Nat                                 -- OP of the command GO started
  len : Nat
  answer : Option (Nat × Nat × List Byte)  -- RESULT, RLEN and response of a command Masthead has carried out
  mgmt : Option Nat                        -- site whose management space is being read
deriving DecidableEq, Repr
/-- A received frame, or raw words, held for a port (R291). -/
structure RxHeld where
  data : List Byte     -- payload: an Ethernet frame without its FCS, a crew payload, raw words
  time : Nat           -- hub time of its start
  src : Nat            -- crew header fields (R298)
  dst : Nat
  hops : Nat
  msg : Nat
  offset : Nat
  last : Bool
  quads : List Nat     -- quads whose receive buffers hold it, alike (R291); none for a frame of this hub's own
deriving DecidableEq, Repr

/-- A DATA frame kept until an ACK covers it (R299). -/
structure CrewTx where
  seq : Nat
  frame : RxHeld
  owner : Option (Nat × Nat)   -- ring and descriptor of its LANE_SEND; none for a forwarded frame
deriving DecidableEq, Repr

/-- A started LANE_RECV of a port. -/
structure Recv where
  ring : Nat
  desc : Nat
  bound : Option (Nat × Nat)   -- source and message number it is bound to (R301)
  time : Nat                   -- hub time of the start of its data
  trunc : Bool
deriving DecidableEq, Repr

/-- A serial port beyond its registers (R289 to R305). -/
structure PortS where
  rx : List RxHeld        -- held in the receive buffer, in arrival order
  sends : List (Nat × Nat)   -- started LANE_SENDs: ring and descriptor, oldest first
  recvs : List Recv       -- started LANE_RECVs, oldest first
  paused : Bool           -- a received PAUSE stops transmission
  pausing : Bool          -- PAUSE has been sent and not taken back
  store : List CrewTx     -- unacknowledged DATA frames, oldest first
  txSeq : Nat             -- next LINK_SEQ sent
  resendOf : Nat          -- LINK_SEQ of the newest resend
  resends : Nat           -- consecutive resends from it
  rxExp : Nat             -- LINK_SEQ expected
  gap : Bool              -- NAK has been sent for the present gap
  sinceAck : Nat          -- DATA frames received since the last ACK
  changed : Bool          -- something has changed since the last ACK
  rxLanes : Nat           -- lanes of the port received well (RX_LANES sent), bit i for lane FIRST + i
  peerLanes : Nat         -- newest RX_LANES received
  returned : Nat          -- credits returned in total, modulo 2³²
  used : Nat              -- credits used in total, modulo 2³²
  granted : Nat           -- CREDIT of the newest ACK or NAK
deriving DecidableEq, Repr

/-- A serial lane beyond its registers. -/
structure LaneS where
  scan : Bool             -- an eye-scan point is being taken (R309)
  txScr : Nat             -- last 58 bits sent, newest in bit 0 (R304)
  rxScr : Nat             -- last 58 bits received
  words : List Nat        -- last words received, newest first (R305)
  part : List Bool         -- line bits of a raw word not yet whole, oldest first
  skip : Nat               -- line bits still to be passed over by slips (R305)
deriving DecidableEq, Repr

/-- Serial lanes and ports beyond their registers (spec/13). -/
structure SerS where
  ports : List (Nat × PortS)
  lanes : List (Nat × LaneS)
  msg : Nat               -- number of the next crew message (R298)
deriving DecidableEq, Repr

/-- What a crew port knows of its peer, its link delay and its newest Sync (R316, R322). -/
structure CrewPort where
  heard : Bool            -- a HELLO has been received
  leader : Nat            -- claim of its newest HELLO
  epoch : Nat
  dist : Nat
  pdSeq : Nat             -- sequence number of the newest Pdelay_Req
  pdT1 : Nat              -- its transmit time
  pdT2 : Option (Nat × Nat)  -- of its Pdelay_Resp: the peer's receive time, and the arrival time here
  delay : Int             -- mean link delay, ps
  syncAt : Option (Nat × Nat)  -- Sync that waits for its Follow_Up: sequence number, arrival time
deriving DecidableEq, Repr

/-- The crew beyond its registers (spec/14). -/
structure CrewS where
  ports : List (Nat × CrewPort)
  ownEpoch : Nat          -- epoch of the hub's own claim
  down : List (Nat × Nat) -- leaders whose claims are held down, with the epoch (R319)
  ever : Bool             -- the hub has been MUSTERED (R321)
  fresh : Bool            -- Sync is received on UPPORT (R319)
  first : Bool            -- no Sync has been judged since the last re-muster (R323)
  good : Nat              -- consecutive Syncs within 250 ns
  syncSeq : Nat           -- sequence number of the next Sync
deriving DecidableEq, Repr

/-- A port with nothing held, sent or posted. -/
def PortS.empty : PortS :=
  { rx := [], sends := [], recvs := [], paused := false, pausing := false, store := [], txSeq := 0, resendOf := 0, resends := 0,
    rxExp := 0, gap := false, sinceAck := 0, changed := false, rxLanes := 0, peerLanes := 0, returned := 0, used := 0,
    granted := 0 }

/-- A lane that has carried nothing. [log: DESIGN CHOICE 43] -/
def LaneS.empty : LaneS := { scan := false, txScr := 0, rxScr := 0, words := [], part := [], skip := 0 }

/-- A crew port that has heard nothing. -/
def CrewPort.empty : CrewPort :=
  { heard := false, leader := 0, epoch := 0, dist := 0, pdSeq := 0, pdT1 := 0, pdT2 := none, delay := 0, syncAt := none }

/-- A checked run record and the output address (R333). -/
structure RunRec where
  rhs : Nat
  x0 : Nat
  result : Nat
  tol : Nat            -- FP64 bits
  maxit : Nat
  tiles : Nat
  flags : Nat
  tau : Nat
  delta : Nat
  rho : Nat
  sigma : Nat
  alpha : Nat
  out : Nat
deriving DecidableEq, Repr

/-- A solver operation that has started (R325). -/
structure SparOp where
  ring : Nat
  desc : Nat
  op : Nat             -- 0x18 SETUP, 0x19 PATCH, 0x1A RUN
  prio : Nat
  seq : Nat            -- order of arrival
  begun : Bool         -- it holds its tiles and runs
  warm : Bool          -- it starts from the best iterate of the run it superseded (R342)
  run : Option RunRec
deriving DecidableEq, Repr

/-- A Spar context (R325, R329): its resident structure, factor, iterate and operations. Context 31 is Trim's (R18). -/
structure SparCtx where
  method : Nat         -- 0 while it is EMPTY
  prec : Nat
  format : Nat
  n : Nat
  m : Nat
  precond : Nat
  restart : Nat
  rowptr : List Nat    -- resident pattern: of the matrix or P, then of A
  colidx : List Nat
  aRow : List Nat
  aCol : List Nat
  values : List Nat    -- resident values, as bits
  aValues : List Nat
  qlu : List Nat
  store : Nat
  storeUse : Nat       -- bytes of the store in use
  scratch : Nat        -- scratch need, MiB
  factor : Option (Nat × Nat × Nat × Nat)   -- factor in force: its τ, δ, ρ, σ; none while stale
  partial_ : Option (Nat × Nat × Nat × Nat) -- partial factor held (R340)
  best : Option (List Byte)                 -- last best iterate
  queue : List SparOp  -- in order; the first is in progress
  tiles : Nat          -- tiles it holds
  maxTiles : Nat
  paused : Bool        -- its last tile has gone to context 31 (R327)
  epoch : Nat          -- the map epoch at which it was set up (R96)
  order : List Nat     -- row order of its newest DENSE_LU factor, by step (R335)
deriving DecidableEq, Repr

/-- Spar beyond its registers (spec/15). -/
structure SparS where
  ctxs : List (Nat × SparCtx)
  seq : Nat            -- operations that have arrived
deriving DecidableEq, Repr

/-- An EMPTY context. -/
def SparCtx.empty : SparCtx :=
  { method := 0, prec := 0, format := 0, n := 0, m := 0, precond := 0, restart := 0, rowptr := [], colidx := [], aRow := [],
    aCol := [], values := [], aValues := [], qlu := [], store := 0, storeUse := 0, scratch := 0, factor := none,
    partial_ := none, best := none, queue := [], tiles := 0, maxTiles := 0, paused := false,
    epoch := 0, order := [] }


/-- A plan of Trim: its mode, its power variables in µW and its slacks in µK, and r_max of its overlap grant (R347, R355). -/
structure TrimPlan where
  mode : Nat           -- 0 seed, 1 solved, 2 fallback, 3 static
  x : List Nat
  rmax : Nat           -- in quarters (R355)
deriving DecidableEq, Repr

/-- A row l ≤ Ax ≤ u of Trim's QP (R350): its coefficients in 1/4096 and its bounds in 1/4096 µW or µK; none is no bound. -/
structure QpRow where
  coef : List Int
  lo : Option Int
  hi : Option Int
deriving DecidableEq, Repr

/-- Trim's QP (R350, R351): the diagonal of P in eighths, the demands q = −P d comes from, in µW, and the rows. -/
structure Qp where
  hess : List Nat
  dem : List Nat
  rows : List QpRow
deriving DecidableEq, Repr

/-- The inputs of a plan, taken at the snapshot (R345, R350). -/
structure TrimSnap where
  lo : List Nat        -- bounds in force, 0.25 W
  hi : List Nat
  soak : Nat           -- soak, mW
  rmax : Nat
  qp : Qp              -- what context 31 solves
deriving DecidableEq, Repr

/-- Trim beyond its registers (R344 to R358). -/
structure TrimS where
  plan : TrimPlan      -- the plan in force
  next : Option TrimPlan   -- the plan of the next epoch
  snap : TrimSnap
  posted : Bool        -- a solve is running on context 31
  char : NatStore      -- per variable: lowest + 4096 × highest characterised value, 0.25 W
  done : NatStore      -- per pool: measured energy of the descriptors completed this epoch, µJ (R349)
  debits : NatStore    -- per pool: their debits, µJ
deriving DecidableEq, Repr

/-- A sense converter (R360, R361). -/
structure Conv where
  seq : List Nat       -- channels of the visits left, the present one first
  outs : Nat           -- outputs since the last synchronising reset, at most 3
  latch : Option (List Nat)  -- the pending trigger: channels of its visits
deriving DecidableEq, Repr

/-- The sense converters beyond their registers. -/
structure SnsS where
  convs : List (Nat × Conv)
  seen : NatStore      -- per channel: 1 + the epoch of its last valid output (R362)
deriving DecidableEq, Repr

/-- A plan of nothing. -/
def TrimPlan.empty : TrimPlan := { mode := 0, x := [], rmax := 4 }

/-- A converter at rest. -/
def Conv.empty : Conv := { seq := [], outs := 0, latch := none }


/-- The TAP and the hedge gate beyond their registers (spec/17). -/
structure TestS where
  boundary : Nat       -- boundary register
  scan : Bool          -- scan operation has begun (R377)
  sub : List Byte      -- response and token submitted with GO
deriving DecidableEq, Repr


/-- Everything the hub holds but its stored data: registers, queues, counters, modes, pins. -/
structure Hub where
  regs : List (Nat × Word)   -- the BAR0 registers, by offset; unlisted ones read `resetWord`
  clock : Nat                -- ns of the model's elapsed time (model's own)
  draws : Nat                -- free values taken so far (model's own)
  out : List Out             -- what the hub has sent, newest first (model's own)
  pins : Pins
  power : PowerS
  boot : BootS
  fail : FailRecord
  ras : RasS
  yew : YewS
  pcie : PcieS
  rings : List (Nat × RingS)
  disp : DispS
  cleat : CleatS
  time : TimeS
  memch : MemChS
  sites : List (Nat × SiteS)   -- by site
  dir : DirS
  map : MapS
  mast : MastS
  ser : SerS
  crew : CrewS
  spar : SparS
  trim : TrimS
  sns : SnsS
  test : TestS
deriving DecidableEq, Repr

/-- The machine: the hub, its stored data, and the commands waiting, first in first out. -/
structure State where
  hub : Hub
  mem : Mem
  pending : List Instr
deriving DecidableEq, Repr

/-- The pins before power is good: PWRGOOD low, D0 in reset, REFCLK stable (R410), PERST_N asserted.
[log: DESIGN CHOICE 1; DEDUCED 57] -/
def Pins.reset : Pins :=
  { pwrgood := false, lowFilter := false, d0Reset := true, perstN := false, refclk := true, vinLow := false,
    fatalN := true, lgN := true, smbAddr := 0 }

/-- Power as a cold reset leaves it: nothing pending, nothing hoisted, VDD_CORE at the board's 0.70 V (R408). -/
def PowerS.reset : PowerS :=
  { want := [], latch := [], barred := [], own := [], aim := [], deferOff := [], heldNi := [], waves := [], rise := 0, fall := 0,
    rose := 0, lastIn := none, ramps := [], entry := 0, leave := 0, stop := 0,
    release := false, credit := 0, steps := [], noRise := 0, missed := [], silent := [], readings := [], vdd := 700, vddAt := 0,
    charger := false }

/-- An empty fail record: the one a cold reset leaves (R67). -/
def FailRecord.reset : FailRecord := { soft := [], grans := [], complete := false, fmap := [] }

/-- Bring-up before S0. -/
def BootS.reset : BootS :=
  { pend := 0, zeroSent := false, perst := false, begun := 0, done := false, slot := 0, version := 0, lbNext := 48, lbRise := 38, lbBudget := 1500,
    trained := [], elem := 0, elems := 0, hold := false, elemMw := 0, newFails := [], waves := [], lastWave := none, fwAddr := false, fwLen := false, goHeld := false,
    image := [], fwDue := false, imgDone := false, fwq := [], fwBad := [], karBad := false,
    karLeft := [], karSites := [], entryOf := [], fatalEnd := false }

/-- Error handling after any reset: an empty log and tracking table. -/
def RasS.reset : RasS := { seq := 0, reps := [], irqAt := none, ceHour := [], dramSec := 0, bufPos := 0, sram := [] }

/-- An empty copy of the state region. [log: DESIGN CHOICE 1] -/
def Region.reset : Region := { version := 0, valid := true, retires := [], ppr := [] }

/-- An array that has been written nothing: the hub as manufactured (DESIGN CHOICE, assumption 1).
[log: DESIGN CHOICE 1; DEDUCED 57] -/
def YewS.reset : YewS :=
  { blocks := [], wp := 0, erasedTo := 6016, staged := [], stagedAt := 0, seq := 1, tokens := 255, refused := 0, hist := [],
    escSeq := 0, lgAt := none, lgInput := false, dispStop := false, copyA := Region.reset, copyB := Region.reset, cold := 0,
    active := 0, rollback := 0, imgBytes := [], mirrorOff := false, unmirrored := [], xspi := [], eid := 0 }

/-- The PCIe function after reset: nothing enabled. -/
def PcieS.reset : PcieS :=
  { bme := [], d3 := [], msixEn := [], fmask := [], numVfs := 0, vfEn := false, linkUp := false, detect := false,
    vfTable := [], vfPba := [], vfStale := [], aer := [], cfg := [] }

/-- A ring with nothing fetched. -/
def RingS.empty : RingS :=
  { descs := [], fetched := 0, used := 0, held := [], pend := 0, timer := false, vec := 0, groups := 0, bound := none,
    haltDone := false, zeroGen := false, hints := [] }

/-- A module's link before its training: sequence numbers at 0 (R241). -/
def ModLink.empty : ModLink :=
  { txSeq := 0, txBuf := [], txExp := 0, exp := 0, nak := false, armed := false, dlv := 0, asked := false, changed := false }

/-- A site's link before S5. -/
def SiteS.empty : SiteS :=
  { mods := [], setTx := [], setRx := [], baseTx := 0, baseRx := 0, txq := [], held := [], change := none, again := none,
    dropx := none, lastDrop := none, spareDue := 0, sfn := 0, hdr := none, run := none, ctlq := [], escape := true, escSfn := 0, streams := [], calls := [], tag := 0,
    sbFrame := none, sbResends := 0, sbAwait := 0, step := 0, mask := 0, bad := 0, trained := 0, testBad := 0, hubPass := none, diePass := none, crReq := 0, crRsp := 0,
    crData := 0, lbQuiet := false, lbOn := false, lbPad := false, lbMod := 0, allowDue := false, overSaid := false,
    prevAllow := (0, 0), energy := 0, early := [] }

/-- Hub time at cold reset: 0 (R163). -/
def TimeS.reset : TimeS := { now := 0, frac := 0, slew := 0, slewFrac := 0, shadows := [] }

/-- The hub right after reset, before PWRGOOD rises. [log: DESIGN CHOICE 1] -/
def Hub.reset : Hub :=
  { regs := [], clock := 0, draws := 0, out := [], pins := Pins.reset, power := PowerS.reset, boot := BootS.reset,
    fail := FailRecord.reset, ras := RasS.reset, yew := YewS.reset, pcie := PcieS.reset, rings := [],
    disp := { rr := [], movers := [] }, cleat := { waits := [], seen := [] }, time := TimeS.reset
    , memch := { queues := [], drain := [], rows := [], raa := [], raaimt := [], raammt := [], owed := [], parity := [],
                 pulled := [], selfRef := false, rate := [], sinceCut := [], spent := [], waiting := [], congAt := [],
                 urgent := [], clamp := [], tells := [] }
    , sites := []
    , dir := { chunks := [], entries := [], errs := [], txns := [], ncs := [], ncNext := 1, asked := false, gather := [], clts := [] }
    , map := { fuse := { bad := [], rows := [], lanes := [], crc := 0, serial := 0, crcOk := true }, cmd := none, changes := [], prev := [], left := none, born := [] }
    , mast := { op := 0, len := 0, answer := none, mgmt := none }
    , ser := { ports := [], lanes := [], msg := 0 }
    , crew := { ports := [], ownEpoch := 0, down := [], ever := false, fresh := false, first := false, good := 0, syncSeq := 0 }
    , spar := { ctxs := [], seq := 0 }
    , trim := { plan := TrimPlan.empty, next := none, snap := { lo := [], hi := [], soak := 0, rmax := 4, qp := { hess := [], dem := [], rows := [] } }, posted := false,
                char := [], done := [], debits := [] }
    , sns := { convs := [], seen := [] }
    , test := { boundary := 0, scan := false, sub := [] }
  }

/-- Stored data with nothing listed. [log: DESIGN CHOICE 14] -/
def Mem.reset : Mem := { dram := [], buf := [], dramErr := [], bufErr := [] }

/-- The machine right after reset: no command waits. [log: DESIGN CHOICE 1] -/
def State.reset : State := { hub := Hub.reset, mem := Mem.reset, pending := [] }

end Sys2Proof.Machine
end

