-- ==== Sys2Proof/Machine/Ops.lean ====
section
/-!
DEFINITION. The shared operations: reading and writing register fields, free values, what the hub sends, MSI-X messages
(R121 to R123), the RAS log (R222 to R226), the Yew log (R388 to R394), escalation (R399 to R403), and how a meaning runs.
-/
namespace Sys2Proof.Machine

/-! ## How a meaning runs -/

/-- A command that touches no stored data: with operands that name things that exist (`ok`) it answers with `f` of the hub;
the stored data and the queue stay as they are. [log: DESIGN CHOICE 12] -/
def State.act (ok : Bool) (f : Hub → Hub) (s : State) : Host.Outcome State Fault Refusal :=
  if ok then .next { s with hub := f s.hub } else .fault .noSuchUnit

/-- The hub with its stored data. -/
structure Chip where
  hub : Hub
  mem : Mem
deriving DecidableEq, Repr

/-- A command that may touch stored data: the queue stays as it is. [log: DESIGN CHOICE 12] -/
def State.actMem (ok : Bool) (f : Chip → Chip) (s : State) : Host.Outcome State Fault Refusal :=
  if ok then .next { s with hub := (f ⟨s.hub, s.mem⟩).hub, mem := (f ⟨s.hub, s.mem⟩).mem } else .fault .noSuchUnit

/-- `f` on the hub when `c` holds, else the hub unchanged. -/
def Hub.when (c : Bool) (f : Hub → Hub) (h : Hub) : Hub := if c then f h else h

/-- `f` for every number below `n`, in rising order. -/
def Hub.upto (n : Nat) (f : Nat → Hub → Hub) (h : Hub) : Hub := (List.range n).foldl (fun g k => f k g) h

/-- `f` for every element of `l`, in order. -/
def Hub.each {α : Type} (l : List α) (f : α → Hub → Hub) (h : Hub) : Hub := l.foldl (fun g a => f a g) h

/-- `f` for every element of `l`, in order, on the hub with its stored data. -/
def Chip.each {α : Type} (l : List α) (f : α → Chip → Chip) (c : Chip) : Chip := l.foldl (fun d a => f a d) c

/-! ## Registers -/

/-- The stored word of the register at `off`; unlisted ones hold their reset word. -/
def Hub.reg (h : Hub) (off : Nat) : Word := Store.get resetWord h.regs off

/-- Store a register's word. -/
def Hub.setReg (h : Hub) (off : Nat) (w : Word) : Hub := { h with regs := Store.set resetWord h.regs off w }

/-- The value of a register field. -/
def Hub.get (h : Hub) (f : RF) : Nat := bitsOf (h.reg f.off) f.lo f.width

/-- Store a register field, modulo its width; the word's other bits stay. -/
def Hub.put (h : Hub) (f : RF) (v : Nat) : Hub := h.setReg f.off (setBits (h.reg f.off) f.lo f.width v)

/-- The field is not 0. -/
def Hub.on (h : Hub) (f : RF) : Bool := h.get f != 0

/-- A free value: the spec leaves it open (assumption 3). [log: DESIGN CHOICE 3] -/
def Hub.free (h : Hub) : Nat := Config.free h.draws

/-- The next free value is another one. [log: DESIGN CHOICE 3] -/
def Hub.drew (h : Hub) : Hub := { h with draws := h.draws + 1 }

/-- Store a free value in a field: one the spec says exists and does not state. [log: DESIGN CHOICE 3] -/
def Hub.putFree (h : Hub) (f : RF) : Hub := (h.put f h.free).drew

/-- Count `n` events in a counter. A sum beyond the counter's width is not stated by the spec: a free value (assumption 5).
[log: DESIGN CHOICE 5] -/
def Hub.bump (h : Hub) (f : RF) (n : Nat) : Hub :=
  if h.get f + n < 2 ^ f.width then h.put f (h.get f + n) else h.putFree f

/-- Count `n` events in a counter that saturates where a rule says so. [log: DESIGN CHOICE 5] -/
def Hub.bumpSat (h : Hub) (f : RF) (n : Nat) : Hub := h.put f (satNat f.width (h.get f + n))

/-- Add to a 64-bit counter held in two words; it wraps at 2⁶⁴. [log: DESIGN CHOICE 5] -/
def Hub.add64 (h : Hub) (lo hi : Nat) (n : Nat) : Hub :=
  let v := ((h.reg lo).toNat + 2 ^ 32 * (h.reg hi).toNat + n) % 2 ^ 64
  (h.setReg lo (BitVec.ofNat 32 v)).setReg hi (BitVec.ofNat 32 (v / 2 ^ 32))

/-- The 64-bit value of two words. -/
def Hub.get64 (h : Hub) (lo hi : Nat) : Nat := (h.reg lo).toNat + 2 ^ 32 * (h.reg hi).toNat

/-- Record that the hub sends `o`. [log: DESIGN CHOICE 13] -/
def Hub.send (h : Hub) (o : Out) : Hub := { h with out := o :: h.out }

/-- Hub time, ns (R163). -/
def Hub.now (h : Hub) : Nat := h.time.now

/-- Count `n` events of `code` in every event counter that selects it (spec/07, Event counters). -/
def Hub.countEvents (code n : Nat) (h : Hub) : Hub :=
  h.upto 16 fun i g => if g.get (R.TIME_EVT_SEL i) = code then g.add64 (R.TIME_EVT_LO i).off (R.TIME_EVT_HI i).off n else g

/-- Count one event of `code`. -/
def Hub.countEvent (code : Nat) (h : Hub) : Hub := h.countEvents code 1

/-! ## Domains -/

/-- State of domain `n`: 0 OFF, 1 HOISTING, 2 ON, 3 LOWERING (R34). -/
def Hub.domState (h : Hub) (n : Nat) : Nat := h.get (R.PWR_DOM_STATE n)

/-- Domain `n` is ON. -/
def Hub.domOn (h : Hub) (n : Nat) : Bool := h.domState n == 2

/-- The hub is ready (R65). -/
def Hub.ready (h : Hub) : Bool := h.on R.GLB_RDY_READY

/-- The current bring-up stage. -/
def Hub.stage (h : Hub) : Nat := h.get R.GLB_RDY_STAGE

/-! ## MSI-X (R121 to R123, R127) -/

/-- Function `fn` (0 PF, k + 1 VF k) may send: Bus Master Enable set and the function in D0 (R127). -/
def Hub.fnRuns (h : Hub) (fn : Nat) : Bool := nget h.pcie.bme fn == 1 && nget h.pcie.d3 fn == 0

/-- Reset word of a VF's MSI-X table: vector control masked, the rest 0. -/
def vfTableReset (k : Nat) : Word := if k % 4 = 3 then 1 else 0

/-- Vectors of function `fn` (R104). -/
def vectorsOf (fn : Nat) : Nat := if fn = 0 then 264 else 8

/-- The vector's mask bit. -/
def Hub.vecMasked (h : Hub) (fn vec : Nat) : Bool :=
  nget h.pcie.fmask fn == 1 ||
    (if fn = 0 then h.on (R.MSIX_CTRL_MASK vec)
     else bitsOf (Store.get vfTableReset h.pcie.vfTable (32 * (fn - 1) + 4 * vec + 3)) 0 1 == 1)

/-- The vector's pending bit. -/
def Hub.vecPending (h : Hub) (fn vec : Nat) : Bool :=
  if fn = 0 then bit (h.get (R.MSIX_PBA_PEND (vec / 32))) (vec % 32) else bit (nget h.pcie.vfPba (fn - 1)) vec

/-- Set or clear a bit of a number. -/
def withBit (v k : Nat) (b : Bool) : Nat := v - (v / 2 ^ k % 2) * 2 ^ k + b2n b * 2 ^ k

/-- Set or clear the vector's pending bit. -/
def Hub.setPending (h : Hub) (fn vec : Nat) (b : Bool) : Hub :=
  if fn = 0 then h.put (R.MSIX_PBA_PEND (vec / 32)) (withBit (h.get (R.MSIX_PBA_PEND (vec / 32))) (vec % 32) b)
  else { h with pcie := { h.pcie with vfPba := nset h.pcie.vfPba (fn - 1) (withBit (nget h.pcie.vfPba (fn - 1)) vec b) } }

/-- Send vector `vec` of function `fn`: nothing while MSI-X is disabled; masked or paused, its pending bit is set (R123, R127).
[log: DESIGN CHOICE 32] -/
def Hub.sendVector (h : Hub) (fn vec : Nat) : Hub :=
  if nget h.pcie.msixEn fn = 0 then h
  else if h.vecMasked fn vec || !h.fnRuns fn then h.setPending fn vec true
  else h.send (.msix fn vec)

/-! ## The Yew log (R386 to R394) -/

/-- Bytes padded with zeros (or cut) to `n`. -/
def padTo (n : Nat) (bs : List Byte) : List Byte := (bs ++ List.replicate n 0).take n

/-- The newest mask of RAS_FLIP_MASK_0 to RAS_FLIP_MASK_8, bit 32 i + b in bit b of word i (R230). -/
def Hub.flipMask (h : Hub) : Nat := (List.range 9).foldl (fun m i => m + h.get (R.RAS_FLIP_MASK i) * 2 ^ (32 * i)) 0

/-- An entry of the RAS log before TIME and SEQ are known (R222). -/
structure RasEntry where
  kind : Nat
  unit : Nat := 5
  inst : Nat := 0
  flags : Nat := 0
  sev : Nat := 0
  req : Nat := 0
  addr : Nat := 0
  detail : Nat := 0
  count : Nat := 0
deriving DecidableEq, Repr

/-- The eight words of an entry (R222). -/
def RasEntry.words (e : RasEntry) (time seq : Nat) : List Nat :=
  [time % 2 ^ 32, time / 2 ^ 32 % 2 ^ 32, e.addr % 2 ^ 32, e.addr / 2 ^ 32 % 2 ^ 32,
   e.kind % 256 + 256 * (e.unit % 16 + 16 * (e.inst % 16)) + 65536 * (e.flags % 256) + 2 ^ 24 * (e.sev % 256),
   e.req % 65536 + 65536 * (e.count % 65536), e.detail % 2 ^ 32, seq % 2 ^ 32]

/-- The RAS log ring holds as many unread entries as it can: the next slot is the oldest unread one (R223; assumption 6).
[log: DEDUCED 6] -/
def Hub.rasFull (h : Hub) : Bool := (h.get R.RAS_LOG_PTR_PROD + 1) % 1024 == h.get R.RAS_LOG_PTR_CONS

/-- R226: an entry at or above IRQ_SEV sends the RAS vector, at most once per 10 µs. -/
def Hub.rasIrq (sev : Nat) (h : Hub) : Hub :=
  let quiet := match h.ras.irqAt with
    | none => false
    | some t => decide (h.clock < t + 10000)
  if h.on R.RAS_CTRL_IRQ_EN && decide (h.get R.RAS_CTRL_IRQ_SEV ≤ sev) && !quiet then
    let g := h.sendVector 0 (h.get R.RAS_CTRL_VEC % 264)
    { g with ras := { g.ras with irqAt := some h.clock } }
  else h

/-- R223: an access entry like the newest one, within 1 ms of it, is only counted there. -/
def Hub.rasRepeats (h : Hub) (e : RasEntry) : Bool :=
  let k := (h.get R.RAS_LOG_PTR_PROD + 1023) % 1024
  decide (0x10 ≤ e.kind) && decide (e.kind ≤ 0x13) && h.ras.seq != 0
    && h.get (R.RAS_LOG_WORD k 2) + 2 ^ 32 * h.get (R.RAS_LOG_WORD k 3) == e.addr % 2 ^ 64
    && h.get (R.RAS_LOG_WORD k 4) % 256 == e.kind && h.get (R.RAS_LOG_WORD k 5) % 65536 == e.req % 65536
    && decide (h.now ≤ h.get (R.RAS_LOG_WORD k 0) + 2 ^ 32 * h.get (R.RAS_LOG_WORD k 1) + 1000000)

/-- Count a repeated access in the newest entry's COUNT, saturating (R222, R223). -/
def Hub.rasCountNewest (h : Hub) : Hub :=
  let k := (h.get R.RAS_LOG_PTR_PROD + 1023) % 1024
  let w := h.get (R.RAS_LOG_WORD k 5)
  h.put (R.RAS_LOG_WORD k 5) (w % 65536 + 65536 * satNat 16 (w / 65536 + 1))

/-- Write an entry in full at PROD, then advance PROD; a full ring loses its oldest unread entry (R223). [log: DEDUCED 6] -/
def Hub.rasPush (h : Hub) (e : RasEntry) : Hub :=
  let k := h.get R.RAS_LOG_PTR_PROD
  let full := h.rasFull
  let ws := e.words h.now (h.ras.seq + 1)
  let g := h.upto 8 fun j g => g.put (R.RAS_LOG_WORD k j) (ws.getD j 0)
  let w := 0x508000 / 8 + 4 * k
  let g := { g with ras := { g.ras with
    seq := g.ras.seq + 1, sram := Store.keep (fun i => !(decide (w ≤ i) && decide (i < w + 4))) g.ras.sram } }
  let g := g.put R.RAS_LOG_PTR_PROD ((k + 1) % 1024)
  let g := if full then (g.put R.RAS_LOG_PTR_CONS ((g.get R.RAS_LOG_PTR_CONS + 1) % 1024)).bump R.RAS_LOG_STAT_LOST 1 else g
  g.rasIrq e.sev

/-- Write a RAS log entry (R223), without its copy to the Yew log. -/
def Hub.rasWrite (h : Hub) (e : RasEntry) : Hub := if h.rasRepeats e then h.rasCountNewest else h.rasPush e

/-- The write point's block is stored; an armed flip mask aimed at the array fires on it (R230, R232). [log: DEDUCED 51] -/
def Hub.programBlock (recs : List YewRec) (h : Hub) : Hub :=
  let n := h.yew.wp
  let fires := h.on R.RAS_FLIP_CTRL_ARM && h.get R.RAS_FLIP_CTRL_TARGET == 2
  let err := if fires then h.flipMask * 2 ^ (8 * h.get R.RAS_FLIP_NVA_WIN) else 0
  let y := h.yew
  -- the ring keeps two erased sectors ahead; a sector not yet erased is erased before it is programmed (R390)
  let et := if y.erasedTo ≤ n then n - n % 8 + 8 else y.erasedTo
  let mirrored := h.on R.YEW_CTRL_MIRROR_EN && h.get R.YEW_XSPI_SIZE != 0 && !y.mirrorOff
  let h := { h with yew := { y with
    blocks := Store.keep (fun b => decide (et ≤ b + 6016)) (Store.insert (Store.erase y.blocks n) n { recs := recs, err := err }),
    wp := n + 1, erasedTo := et, unmirrored := if mirrored then y.unmirrored ++ [n] else y.unmirrored } }
  let h := h.put R.YEW_XSPI_STAT_LAG h.yew.unmirrored.length
  let h := match h.yew.blocks with
    | [] => h
    | e :: _ => match e.2.recs with
      | [] => h
      | r :: _ => h.put R.YEW_OLDEST_SEQ r.seq
  if fires then
    ((h.put R.RAS_FLIP_CTRL_ARM 0).put R.RAS_FLIP_CTRL_FIRED 1).rasWrite
      { kind := 0x09, unit := 2, flags := 8, req := 0x3000, addr := 0x110000 + n % 6016 * 512 }
  else h

/-- R389: program the staged block, if it holds anything. -/
def Hub.flushStaged (h : Hub) : Hub :=
  if h.yew.staged = [] then h
  else
    let recs := h.yew.staged
    { h with yew := { h.yew with staged := [] } }.programBlock recs

/-- SEQ after `q`: one more, never 0xFFFF_FFFF (R388). [log: DEDUCED 51] -/
def nextSeq (q : Nat) : Nat := if q + 1 = 0xFFFFFFFF then 0 else q + 1

/-- A record with the header the hub gives it now (R388). -/
def Hub.yewRec (h : Hub) (type sev flags seq : Nat) (payload : List Byte) : YewRec :=
  { type := type, sev := sev, flags := flags, seq := seq, time := h.now, cold := h.yew.cold % 65536, stage := h.stage,
    payload := padTo 40 payload }

/-- Stage a record: it takes the next SEQ. -/
def Hub.yewStage (type sev flags : Nat) (payload : List Byte) (h : Hub) : Hub :=
  let q := h.yew.seq
  let h := { h with yew := { h.yew with
    staged := h.yew.staged ++ [h.yewRec type sev flags q payload],
    stagedAt := if h.yew.staged = [] then h.clock else h.yew.stagedAt,
    seq := nextSeq q } }
  h.put R.YEW_SEQ q

/-- Write a record with FLAGS (R389, R391): a class that does not bypass the bucket takes a token, or is refused and counted; a
block of 8 records is programmed, and so is a block that takes a FATAL record. -/
def Hub.yewRecordWith (flags type sev : Nat) (bypass : Bool) (payload : List Byte) (h : Hub) : Hub :=
  if !bypass && h.yew.tokens == 0 then
    { h with yew := { h.yew with refused := h.yew.refused + 1 } }.bump R.YEW_STAT_SUPPRESSED 1
  else
    let h := if bypass then h else { h with yew := { h.yew with tokens := h.yew.tokens - 1 } }
    let h := h.yewStage type sev flags payload
    if 8 ≤ h.yew.staged.length ∨ sev = 3 then h.flushStaged else h

/-- Write a record without flags. -/
def Hub.yewRecord (type sev : Nat) (bypass : Bool) (payload : List Byte) (h : Hub) : Hub :=
  h.yewRecordWith 0 type sev bypass payload

/-- The payload of an ESC record (R392). -/
def escPayload (level code cls detail unit req : Nat) : List Byte :=
  [BitVec.ofNat 8 level, BitVec.ofNat 8 code, BitVec.ofNat 8 cls, BitVec.ofNat 8 detail] ++ leBytes 2 unit ++ leBytes 2 req

/-- Note an escalation's cause for the next last gasp (R394). -/
def Hub.escNote (code : Nat) (h : Hub) : Hub :=
  { h with yew := { h.yew with hist := (code :: h.yew.hist).take 4, escSeq := h.yew.seq } }

/-- A WARNING (R399, R403): an ESC record through the bucket. -/
def Hub.warn (code cls detail unit : Nat) (h : Hub) : Hub :=
  (h.escNote code).yewRecord 0x50 1 false (escPayload 1 code cls detail unit Config.noRequester)

/-- The record part of a FAULT (R399): counted, with an ESC record that bypasses the bucket. The unit's reset is the
caller's (R400). -/
def Hub.faultRecord (code cls unit : Nat) (h : Hub) : Hub :=
  ((h.bump R.YEW_ESC_FAULTS 1).escNote code).yewRecord 0x50 2 true (escPayload 2 code cls 0 unit Config.noRequester)

/-- The 32 bytes of a log entry, as the Yew log copies them. -/
def RasEntry.bytes (e : RasEntry) (time seq : Nat) : List Byte := (e.words time seq).flatMap (leBytes 4)

/-- R225: kinds whose entries are copied to the Yew log. -/
def rasToYew (kind : Nat) : Bool := kind == 2 || kind == 3 || kind == 4 || kind == 5 || kind == 7 || kind == 8

/-- Log an entry: the ring (R223), the escalation of a WARNING (R403 code 0x20) and the Yew copy (R225). `firstRepeat` marks
the first entry of a location that carries REPEAT. -/
def Hub.rasLogWith (firstRepeat : Bool) (e : RasEntry) (h : Hub) : Hub :=
  let g := h.rasWrite e
  let g := if e.sev = 1 then
      g.warn 0x20 (if e.unit = 1 then 7 else 0) e.kind (if e.unit = 1 then e.inst else 0xFFFF) else g
  if rasToYew e.kind || firstRepeat then g.yewRecord 0x10 e.sev false (e.bytes h.now (h.ras.seq + 1)) else g

/-- Log an entry that is no first REPEAT. -/
def Hub.rasLog (e : RasEntry) (h : Hub) : Hub := h.rasLogWith false e

/-- Log a register or BAR access (kinds 0x10 to 0x13): offset, requester and the value written (R222). -/
def Hub.logAccess (kind : Nat) (req : Path) (off v : Nat) (h : Hub) : Hub :=
  h.rasLog { kind := kind, req := req.req, addr := off, detail := v }

/-- Log a NOTICE whose rule names no kind: `what` is the number of the rule (assumption 4). [log: DESIGN CHOICE 4] -/
def Hub.notice (what detail : Nat) (h : Hub) : Hub :=
  h.rasLog { kind := Config.noticeKind what, req := Config.noRequester, detail := detail }

/-! ## Last gasp and FATAL (R393 to R395, R399, R402) -/

/-- VIN in tenths of a volt: code of channel 218 at 20 mV (R359). -/
def Hub.vinTenths (h : Hub) : Nat := h.get (R.SNS_CH_CODE 218) / 5

/-- Total of the plan in force, W: the power variables 0 to 40 in quarter watts (R347). -/
def Hub.planTotal (h : Hub) : Nat := (List.range 41).foldl (fun a v => a + h.get (R.TRIM_VAR2_PLAN v)) 0 / 4

/-- The payloads of the four LAST_GASP records (R394). -/
def Hub.lgPayload (cause index : Nat) (h : Hub) : List Byte :=
  let b := BitVec.ofNat 8
  match index with
  | 0 => [b 0, b cause] ++ leBytes 2 h.vinTenths ++ leBytes 2 (h.get R.PWR_IN_STAT_PIN) ++ leBytes 2 (h.get R.PWR_HOLD_VHOLD)
  | 1 => padTo 8 (b 1 :: h.yew.hist.map b) ++ leBytes 4 h.yew.escSeq
  | 2 => [b 2, b (h.get R.TRIM_STAT_MODE)] ++ leBytes 2 h.planTotal ++ (List.range 7).map (fun z => b (h.get (R.TRIM_ZONE_TEMP z)))
  | _ => padTo 8 (b 3 :: leBytes 4 (h.get R.MAP_EPOCH_CUR)) ++ leBytes 4 h.ras.seq ++ leBytes 2 (h.get R.RAS_LOG_STAT_LOST)

/-- The set of four LAST_GASP records, programmed as one block; then the staged block (R393). [log: DESIGN CHOICE 20] -/
def Hub.lgSet (cause sev : Nat) (h : Hub) : Hub :=
  let q := h.yew.seq
  let q1 := nextSeq q
  let q2 := nextSeq q1
  let q3 := nextSeq q2
  let recs := [h.yewRec 0x60 sev 1 q (h.lgPayload cause 0), h.yewRec 0x60 sev 1 q1 (h.lgPayload cause 1),
    h.yewRec 0x60 sev 1 q2 (h.lgPayload cause 2), h.yewRec 0x60 sev 1 q3 (h.lgPayload cause 3)]
  let h := { h with yew := { h.yew with seq := nextSeq q3, lgAt := some h.clock } }.put R.YEW_SEQ q3
  (h.programBlock recs).flushStaged

/-- PWR_HOLD shows VHOLD at `mv`: READY, and a last gasp possible, above 4.8 V (R54). -/
def Hub.showHold (mv : Nat) (h : Hub) : Hub :=
  ((h.put R.PWR_HOLD_VHOLD mv).put R.PWR_HOLD_READY (b2n (decide (4800 < mv)))).put R.YEW_STAT_LG_ARMED (b2n (decide (4800 < mv)))

/-- D0 runs from VHOLD, which falls: how far is not stated (R54, R393). [log: DESIGN CHOICE 20] -/
def Hub.discharge (h : Hub) : Hub := (h.showHold (min (h.get R.PWR_HOLD_VHOLD) (h.free % 5001))).drew

/-- A last-gasp trigger (R393, R395): cause 1 VIN, 2 PWRGOOD, 3 FATAL. Dispatch stops and LG_N falls (R418). No set is
written within 1 ms of the last one, nor for an input or PWRGOOD trigger without the hold-up energy. [log: DESIGN CHOICE 20] -/
def Hub.lastGasp (cause : Nat) (h : Hub) : Hub :=
  let recent := match h.yew.lgAt with
    | none => false
    | some t => decide (h.clock ≤ t + 1000000)
  let inputTrigger := decide (cause < 3)
  let skip := recent || (inputTrigger && !h.on R.PWR_HOLD_READY)
  let h := { h with
    yew := { h.yew with dispStop := true, lgInput := h.yew.lgInput || inputTrigger },
    pins := { h.pins with lgN := false },
    power := { h.power with charger := h.power.charger && !inputTrigger } }
  let h := if skip then h else h.lgSet cause (if inputTrigger then 1 else 3)
  if inputTrigger then h.discharge else h

/-- A FATAL event (R399, R402): counted in D0, an ESC record, a last gasp, and a hub reset that waits for the emergency
lowering. -/
def Hub.fatal (code cls unit : Nat) (h : Hub) : Hub :=
  if h.pins.d0Reset then h else
  let h := h.bump R.YEW_ESC_FATALS 1
  let h := (h.escNote code).yewStage 0x50 3 0 (escPayload 3 code cls 0 unit Config.noRequester)
  let h := { h with pins := { h.pins with fatalN := false }, boot := { h.boot with pend := 2, fatalEnd := true } }
  let h := h.lastGasp 3
  if h.yew.lgInput then h else h.flushStaged

/-! ## A site's link: sending flits and control messages (R245, R246, R249 to R251, R272, R275) -/

/-- One bit of the CRC-24. -/
def crc24Bit (crc b : Nat) : Nat :=
  let c := crc * 2 % 2 ^ 24
  if (crc / 2 ^ 23 + b) % 2 = 1 then c ^^^ 0x5D6DCB else c

/-- One byte of the CRC-24, most significant bit first. -/
def crc24Byte (crc : Nat) (b : Byte) : Nat :=
  [7, 6, 5, 4, 3, 2, 1, 0].foldl (fun c k => crc24Bit c (b.toNat / 2 ^ k % 2)) crc

/-- The CRC of a flit: over the byte of SEQ and TYPE, then the 64 payload bytes (R249). -/
def flitCrc (seq type : Nat) (payload : List Byte) : Nat :=
  (BitVec.ofNat 8 (4 * (seq % 64) + type % 4) :: payload).foldl crc24Byte 0xFFFFFF

/-- The 32 control bits of a flit: TYPE, SEQ and CRC (R245). -/
def flitControl (seq type : Nat) (payload : List Byte) : Nat := type % 4 + 4 * (seq % 64) + 256 * flitCrc seq type payload

/-- A flit as the hub sends it: the valid word marks a flit, with telltale level 0 (R245 to R247). -/
def flitOut (s p seq type : Nat) (payload : List Byte) : Out := .flit s p 0xC3 (flitControl seq type payload) payload

/-- The link state of site `s`. -/
def Hub.siteS (h : Hub) (s : Nat) : SiteS := Store.get (fun _ => SiteS.empty) h.sites s

/-- Change the link state of site `s`. -/
def Hub.onSite (s : Nat) (f : SiteS → SiteS) (h : Hub) : Hub :=
  { h with sites := Store.set (fun _ => SiteS.empty) h.sites s (f (h.siteS s)) }

/-- The link state of physical module `p`. -/
def SiteS.mod (x : SiteS) (p : Nat) : ModLink := Store.get (fun _ => ModLink.empty) x.mods p

/-- Change the link state of physical module `p`. -/
def SiteS.onMod (p : Nat) (f : ModLink → ModLink) (x : SiteS) : SiteS :=
  { x with mods := Store.set (fun _ => ModLink.empty) x.mods p (f (x.mod p)) }

/-- The mainband of site `s` carries flits: its link is UP or CHANGING. -/
def Hub.siteUp (h : Hub) (s : Nat) : Bool := h.get (R.YDL_STAT_STATE s) == 2 || h.get (R.YDL_STAT_STATE s) == 3

/-- Physical module that carries flit `sfn` under a set of modules from base `b` (R251). -/
def moduleOf (set : List Nat) (b sfn : Nat) : Nat := set.getD ((sfn + 2 ^ 32 - b) % 2 ^ 32 % max 1 set.length) 34

/-- The tx direction stops before `sfn`: a proposed change switches there first (R260). -/
def SiteS.txBarred (x : SiteS) (sfn : Nat) : Bool :=
  match x.change with
  | some c => !c.txDone && decide ((sfn + 2 ^ 32 - c.xh) % 2 ^ 32 < 2 ^ 31)
  | none => false

/-- Put flit `f` into its module's replay buffer and send it; none while 63 are undelivered there (R250). -/
def SiteS.place (x : SiteS) (f : TxFlit) : Option (Nat × TxFlit × SiteS) :=
  let p := moduleOf x.setTx x.baseTx f.sfn
  let m := x.mod p
  if x.setTx = [] ∨ 63 ≤ m.txBuf.length ∨ x.txBarred f.sfn then none
  else
    let g := { f with seq := m.txSeq }
    some (p, g, x.onMod p fun m => { m with txSeq := (m.txSeq + 1) % 64, txBuf := m.txBuf ++ [g] })

/-- Send the flits of `l` in order until one has no room; the rest wait. SFN_TX shows the next one sent. -/
def Hub.pumpList (s : Nat) : List TxFlit → Hub → Hub
  | [], h => h.onSite s fun x => { x with txq := [] }
  | f :: fs, h =>
    match (h.siteS s).place f with
    | none => h.onSite s fun x => { x with txq := f :: fs }
    | some (p, g, x) =>
      let h := ((h.onSite s fun _ => x).put (R.YDL_SFN_TX_SFN s) ((g.sfn + 1) % 2 ^ 32)).send (flitOut s p g.seq g.type g.payload)
      Hub.pumpList s fs h

/-- Send the waiting flits of site `s` while their modules have room. -/
def Hub.pump (s : Nat) (h : Hub) : Hub := h.pumpList s (h.siteS s).txq

/-- A sequenced flit takes the next SFN and its place in the rotation (R251). -/
def Hub.txFlit (s type : Nat) (payload : List Byte) (h : Hub) : Hub :=
  (h.onSite s fun x =>
    { x with sfn := (x.sfn + 1) % 2 ^ 32, txq := x.txq ++ [{ sfn := x.sfn, seq := 0, type := type, payload := padTo 64 payload }] }).pump s

/-- Flits of a control message: one, or two with a line (R272). -/
def CtlMsg.flits (m : CtlMsg) : Nat := if m.data = [] then 1 else 2

/-- The header flit of a control message (R272). -/
def CtlMsg.header (m : CtlMsg) : List Byte :=
  [BitVec.ofNat 8 m.msg, BitVec.ofNat 8 (b2n (m.data != []))] ++ leBytes 2 m.tag ++ m.body

/-- Credit pool of a control message. -/
def CtlMsg.pool (m : CtlMsg) : Nat := b2n m.rsp

/-- Send a message's flits, its credits taken. -/
def Hub.emitCtl (s : Nat) (m : CtlMsg) (h : Hub) : Hub :=
  let h := (h.send (.control s m.msg m.tag m.body m.data)).txFlit s 2 m.header
  if m.data = [] then h else h.txFlit s 2 m.data

/-- The hub holds the credits of `m`'s flits. -/
def Hub.ctlReady (h : Hub) (s : Nat) (m : CtlMsg) : Bool := decide (m.flits ≤ h.get (R.YDL_CREDIT_HELD s m.pool))

/-- Take a message's credits and send it. -/
def Hub.passCtl (s : Nat) (m : CtlMsg) (h : Hub) : Hub :=
  (h.put (R.YDL_CREDIT_HELD s m.pool) (h.get (R.YDL_CREDIT_HELD s m.pool) - m.flits)).emitCtl s m

/-- Send the waiting messages of `l` that have credits, each class in its order. -/
def Hub.releaseCtl (s : Nat) (l : List CtlMsg) (h : Hub) : Hub :=
  l.foldl (fun h m =>
    if h.ctlReady s m && !(h.siteS s).ctlq.any (fun w => w.rsp == m.rsp) then h.passCtl s m
    else h.onSite s fun x => { x with ctlq := x.ctlq ++ [m] }) (h.onSite s fun x => { x with ctlq := [] })

/-- Send a control message to site `s`, at once or when the credits of its class allow (R275); a site that is not up gets
none. -/
def Hub.sendCtl (s : Nat) (m : CtlMsg) (h : Hub) : Hub :=
  if h.siteUp s then h.releaseCtl s ((h.siteS s).ctlq ++ [m]) else h

/-- A CLT_ANS (R273). [log: DEDUCED 36] -/
def Hub.cltAns (s tag result value : Nat) (h : Hub) : Hub :=
  h.sendCtl s { rsp := true, msg := 0x31, tag := tag,
                body := [BitVec.ofNat 8 result, 0, 0, 0] ++ leBytes 4 value, data := [] }

/-! ## Cleats (R154 to R162) -/

/-- A compare code's condition on the cleat's value `c` and the wait's value `v` (R129); reserved codes never hold. -/
def cmpHolds (cmp c v : Nat) : Bool :=
  match cmp with
  | 0 => decide (0 ≤ signed 32 ((c + 2 ^ 32 - v % 2 ^ 32) % 2 ^ 32))
  | 1 => c == v
  | 2 => c != v
  | 3 => decide (v ≤ c)
  | 4 => decide (c < v)
  | _ => false

/-- The state of ring `n`. -/
def Hub.ring (h : Hub) (n : Nat) : RingS := Store.get (fun _ => RingS.empty) h.rings n

/-- Store the state of ring `n`. -/
def Hub.setRing (h : Hub) (n : Nat) (r : RingS) : Hub := { h with rings := Store.set (fun _ => RingS.empty) h.rings n r }

/-- Change descriptor `id` of ring `n`. -/
def Hub.onDesc (n id : Nat) (f : Desc → Desc) (h : Hub) : Hub :=
  let r := h.ring n
  h.setRing n { r with descs := r.descs.map fun d => if d.id = id then f d else d }

/-- WAITERS shows the wait entries in use. -/
def Hub.showWaiters (h : Hub) : Hub := h.put R.CLT_STAT_WAITERS h.cleat.waits.length

/-- A watch ends (R162): FIRED or TIMEDOUT is set, EN clears, SEEN holds the cleat's value, VEC is sent. -/
def Hub.watchEnd (w : Nat) (fired : Bool) (value : Nat) (h : Hub) : Hub :=
  let h := if fired then h.put (R.CLT_WATCH3_FIRED w) 1 else h.put (R.CLT_WATCH3_TIMEDOUT w) 1
  let h := h.put (R.CLT_WATCH0_EN w) 0
  let h := { h with cleat := { h.cleat with seen := nset h.cleat.seen w (value + 1) } }
  h.sendVector 0 (h.get (R.CLT_WATCH2_VEC w) % 264)

/-- What a satisfied wait does for its owner (R156): a descriptor's wait latches (R158), a site is answered (R160), a watch
fires (R162). [log: DEDUCED 36] -/
def Hub.waitDone (value : Nat) (w : Wait) (h : Hub) : Hub :=
  match w.who with
  | .desc n id => h.onDesc n id fun d => { d with waitOk := true, result := value }
  | .site s tag _ => h.cltAns s tag 1 value
  | .watch k => h.watchEnd k true value
  | .masthead => h

/-- AT_TIME `t` has been reached under a trusted hub time, or there is none (R137). -/
def Hub.timeReached (h : Hub) (t : Nat) : Bool := t == 0 || (h.on R.TIME_STAT_TRUSTED && decide (t ≤ h.now))

/-- A wait is satisfied by value `v` of its cleat: the compare holds, and an AT_TIME has been reached (R137, R156). -/
def Hub.satisfies (h : Hub) (v : Nat) (w : Wait) : Bool := cmpHolds w.cmp v w.value && h.timeReached w.time

/-- Judge every wait registered on cleat `n` against its value (R156). -/
def Hub.judge (n : Nat) (h : Hub) : Hub :=
  let v := h.get (R.CLT_VALUE n)
  let hit := h.cleat.waits.filter fun w => w.cleat == n && h.satisfies v w
  let rest := h.cleat.waits.filter fun w => !(w.cleat == n && h.satisfies v w)
  let h := { h with cleat := { h.cleat with waits := rest } }
  (h.each hit (Hub.waitDone v)).showWaiters

/-- SET on a cleat: its value is replaced and the waits are judged (R155, R156). -/
def Hub.cleatSet (n v : Nat) (h : Hub) : Hub := ((h.put (R.CLT_VALUE n) v).countEvent 3).judge n

/-- ADD on a cleat, modulo 2³² (R155, R156). -/
def Hub.cleatAdd (n v : Nat) (h : Hub) : Hub := h.cleatSet n ((h.get (R.CLT_VALUE n) + v) % 2 ^ 32)

/-- Register a wait and judge it at once (R156, R162). [log: DEDUCED 36] -/
def Hub.cleatWait (w : Wait) (h : Hub) : Hub :=
  ({ h with cleat := { h.cleat with waits := h.cleat.waits ++ [w] } }.countEvent 3).judge w.cleat

/-- Drop the waits that satisfy `p`, without answer (R157 corner). -/
def Hub.dropWaits (p : Wait → Bool) (h : Hub) : Hub :=
  { h with cleat := { h.cleat with waits := h.cleat.waits.filter fun w => !p w } }.showWaiters

end Sys2Proof.Machine
end

