-- ==== Sys2Proof/Machine/Power.lean ====
section
/-!
DEFINITION. Power domains, islands, Reef and the rail covenant, PMBus (spec/02, R408): the shared operations and the
meanings of DOMAIN_*, DROOP_*, REEF_*, COV_*, PMBUS_POLL, VOUT_COMMAND and VHOLD_READY.
-/
namespace Sys2Proof.Machine

/-- Hoist step of domain `n`, tenths of a watt (R34). -/
def hoistStep (n : Nat) : Nat :=
  if n = 0 then 0 else if n = 1 then 60 else if n < 50 then 12 else if n < 56 then 35 else if n < 60 then 40
  else if n < 68 then 25 else if n = 68 then 50 else if n < 73 then 30 else 80

/-- Islands of domain `n` (R34). -/
def islandsOf (n : Nat) : List Nat :=
  if n = 0 then [95] else if n = 1 then [94] else if n < 50 then [n - 2] else if n < 56 then [n - 2]
  else if n < 60 then [54 + 2 * (n - 56), 55 + 2 * (n - 56)] else if n < 68 then [62 + (n - 60)]
  else if n = 68 then [70, 71] else if n = 69 then [72, 73, 74, 75, 76] else if n = 70 then [77, 78, 79, 80, 81]
  else if n = 71 then [82, 83, 84, 85] else if n = 72 then [86, 87, 88, 89] else [90, 91, 92, 93]

/-- Domain that feeds island `k` (R34). -/
def domainOfIsland (k : Nat) : Nat :=
  if k < 48 then k + 2 else if k < 54 then k + 2 else if k < 62 then 56 + (k - 54) / 2 else if k < 70 then k - 2
  else if k < 72 then 68 else if k < 77 then 69 else if k < 82 then 70 else if k < 86 then 71 else if k < 90 then 72
  else if k < 94 then 73 else if k = 94 then 1 else 0

/-- Lowest DCO frequency of island `k`, MHz (R41). [log: DESIGN CHOICE 19] -/
def islandMin (k : Nat) : Nat :=
  if k < 48 then 400 else if k < 54 then 600 else if k < 62 then 500 else if k < 70 then 400 else if k < 72 then 500
  else if k < 95 then 400 else 200

/-- Nominal frequency of island `k`, MHz (R41): a memory controller's is its trained data rate ÷ 4, once its stack has
trained. -/
def Hub.islandNom (h : Hub) (k : Nat) : Nat :=
  if 48 ≤ k ∧ k < 54 then [2400, 1600, 1800, 2000, 2200, 2300].getD (h.get (R.MEM_STAT_RATE (k - 48))) 2400 else islandNominal k

/-- Highest DCO frequency of island `k`, MHz (R41). -/
def islandMax (k : Nat) : Nat := if 54 ≤ k ∧ k < 62 then 1100 else islandNominal k

/-- A target below the cap your firmware wrote and inside the island's range (R41, corner of R44). -/
def Hub.islandTarget (h : Hub) (k mhz : Nat) : Nat :=
  clampNat (islandMin k) (islandMax k) (min mhz (h.get (R.PWR_ISL_CAP_CAP_MHZ k)))

/-- What Trim's plan asks island `k` to run at, under cap and range: its nominal frequency while no plan has asked (R41).
[log: DESIGN CHOICE 19] -/
def Hub.aimed (h : Hub) (k : Nat) : Nat :=
  h.islandTarget k (if nget h.power.aim k = 0 then h.islandNom k else nget h.power.aim k)

/-- Set island `k`'s target from what the plan asks (R41). -/
def Hub.setIsland (k mhz : Nat) (h : Hub) : Hub :=
  let h := { h with power := { h.power with aim := nset h.power.aim k mhz } }
  h.put (R.PWR_ISL_TARGET k) (h.aimed k)

/-- Let island `k`'s frequency move toward its target for `us` µs at no more than RAMP (R42); it holds its trim while REFCLK is
lost (R32). -/
def Hub.rampIsland (us k : Nat) (h : Hub) : Hub :=
  if h.domOn (domainOfIsland k) && h.pins.refclk then
    let t := h.get (R.PWR_ISL_TARGET k)
    let a := h.get (R.PWR_ISL_ACTUAL k)
    let d := h.get R.PWR_ISL_RAMP * us
    h.put (R.PWR_ISL_ACTUAL k) (if a ≤ t then min t (a + d) else max t (a - d))
  else h

/-- Domain of a compute site (R34). -/
def siteDomain (s : Nat) : Nat := 56 + s

/-- Site `s` is strapped as fitted (R26). -/
def Hub.siteFit (h : Hub) (s : Nat) : Bool := bit (h.get R.GLB_STRAP_SITE_FIT) s

/-- Site `s` has been dropped, or its domain has failed, for this bring-up (R38, R286). -/
def Hub.siteOut (h : Hub) (s : Nat) : Bool := nget h.power.barred (siteDomain s) != 0

/-- Site `s` is live (GLB_POP.SITE_LIVE). -/
def Hub.siteLive (h : Hub) (s : Nat) : Bool := bit (h.get R.GLB_POP_SITE_LIVE) s

/-- First physical bank and number of banks of buffer tile `t` (R85). -/
def tileBanks (t : Nat) : Nat × Nat := if t < 16 then (34 * t, 34) else (544 + 33 * (t - 16), 33)

/-- Tile of a physical bank (R85). -/
def tileOfBank (p : Nat) : Nat := if p < 544 then p / 34 else 16 + (p - 544) / 33

/-- Buffer tile `t` holds a bank present in the Topiary map: Live, serving or spare (R39, R96). -/
def Hub.tileMapped (h : Hub) (t : Nat) : Bool :=
  h.get R.MAP_EPOCH_CUR != 0 &&
    (List.range (tileBanks t).2).any fun i => decide (h.get (R.MAP_BANK_STATE ((tileBanks t).1 + i)) ≤ 1)

/-- Some ring is enabled (R39). -/
def Hub.anyRing (h : Hub) : Bool := (List.range 256).any fun n => h.on (R.RING_CTRL_ENABLE n)

/-- Why a request to hold domain `n` off is refused; 0 when it is not (R39). A Spar quad is the last powered one while no other
is ON: two that are asked off before the first is lowered are both accepted. [log: DESIGN CHOICE 20] -/
def Hub.offReason (h : Hub) (n : Nat) : Nat :=
  if n ≤ 1 then 1
  else if n < 50 then (if h.tileMapped (n - 2) then 2 else 0)
  else if n < 56 then 4
  else if 69 ≤ n ∧ n < 73 then
    (if h.domOn n ∧ ¬ ([69, 70, 71, 72].any fun m => m != n && h.domOn m) then 3 else 0)
  else if n = 73 then (if h.anyRing then 5 else 0)
  else 0

/-- Refuse a domain request: REFUSED with REASON (R39, R40, R38). -/
def Hub.refuseDom (n reason : Nat) (h : Hub) : Hub :=
  (h.put (R.PWR_DOM_REFUSED n) 1).put (R.PWR_DOM_REASON n) reason

/-- PENDING of domain `n` shows a request that is not carried out yet (R36): one that waits, one deferred to readiness, or a
transition in progress. -/
def Hub.showPending (n : Nat) (h : Hub) : Hub :=
  h.put (R.PWR_DOM_PENDING n)
    (b2n (nget h.power.want n != 0 || nget h.power.deferOff n != 0 || h.domState n == 1 || h.domState n == 3))

/-- Set domain `n`'s state. -/
def Hub.setDom (n v : Nat) (h : Hub) : Hub := (h.put (R.PWR_DOM_STATE n) v).showPending n

/-- Set what domain `n` waits for: 0 nothing, 1 hoist, 2 idle NIs before a lowering, 3 the lowering's admission. -/
def Hub.setWant (n w : Nat) (h : Hub) : Hub := { h with power := { h.power with want := nset h.power.want n w } }.showPending n

/-- Defer (1) or forget (0) a hold-off made before readiness (R39). -/
def Hub.defer (n v : Nat) (h : Hub) : Hub :=
  { h with power := { h.power with deferOff := nset h.power.deferOff n v } }.showPending n

/-- Hold (1) or let go (0) new traffic to domain `n`'s NIs (R40). -/
def Hub.holdNi (n v : Nat) (h : Hub) : Hub := { h with power := { h.power with heldNi := nset h.power.heldNi n v } }

/-- New traffic to domain `n`'s NIs is held: its lowering waits, or the lowering before a reset (R38, R40).
[log: DEDUCED 21] -/
def Hub.niHeld (h : Hub) (n : Nat) : Bool := nget h.power.heldNi n == 1 || (h.boot.pend != 0 && n != 0)

/-- Latch the newest request of a domain in transition (corner of R40). -/
def Hub.latchDom (n v : Nat) (h : Hub) : Hub := { h with power := { h.power with latch := nset h.power.latch n v } }

/-- The hub lowers domain `n` on its own decision (1), or no longer (0) (R38). -/
def Hub.setOwn (n v : Nat) (h : Hub) : Hub := { h with power := { h.power with own := nset h.power.own n v } }

/-- A request for domain `n` waits for a transition, or for a lowering the hub makes on its own (R38, corner of R40). -/
def Hub.domBusy (h : Hub) (n : Nat) : Bool := h.domState n == 1 || h.domState n == 3 || nget h.power.own n == 1

/-- Ask for domain `n` to be hoisted: PENDING until its transition completes (R36). An ON domain whose lowering waits is
kept ON. -/
def Hub.askOn (n : Nat) (h : Hub) : Hub :=
  if h.domState n = 0 then h.setWant n 1 else (h.setWant n 0).holdNi n 0

/-- A request to hold domain `n` on (R37, R38): latched in a transition; refused with REASON 7 for a dropped or unfitted
site, 8 for a domain that failed in S2. -/
def Hub.reqOn (n : Nat) (h : Hub) : Hub :=
  if h.domBusy n then h.latchDom n 1
  else if nget h.power.barred n = 8 then h.refuseDom n 8
  else if nget h.power.barred n = 7 ∨ (56 ≤ n ∧ n < 60 ∧ ¬ h.siteFit (n - 56)) then h.refuseDom n 7
  else h.askOn n

/-- Start a lowering: new traffic is held and the NIs are waited for (R40). -/
def Hub.askOff (n : Nat) (h : Hub) : Hub :=
  if h.domState n = 2 then (h.holdNi n 1).setWant n 2 else h.setWant n 0

/-- A request to hold domain `n` off (R39): latched in a transition, deferred before readiness, refused with its reason, or
begun. -/
def Hub.reqOff (n : Nat) (h : Hub) : Hub :=
  if h.domBusy n then h.latchDom n 2
  else if ¬ h.ready then h.defer n 1
  else if h.offReason n ≠ 0 then h.refuseDom n (h.offReason n)
  else h.askOff n

/-- A request that leaves domain `n` to the hub (R37). -/
def Hub.reqHub (n : Nat) (h : Hub) : Hub := if h.domBusy n then h.latchDom n 3 else h

/-- Take request `v`: 1 hold on, 2 hold off, else hub. -/
def Hub.takeReq (n v : Nat) (h : Hub) : Hub := if v = 1 then h.reqOn n else if v = 2 then h.reqOff n else h.reqHub n

/-- A write of PWR_DOM_n.REQ (R37): the newest request takes the place of a deferred one. -/
def Hub.domReq (n v : Nat) (h : Hub) : Hub := ((h.put (R.PWR_DOM_REQ n) v).defer n 0).takeReq n v

/-! ## Reef (R45 to R51) -/

/-- Reef is enabled (R47). -/
def Hub.reefOn (h : Hub) : Bool := h.on R.PWR_REEF_CTRL_ENABLE

/-- STEP, mW. -/
def Hub.stepMw (h : Hub) : Nat := 1000 * h.get R.PWR_COV_STEP

/-- GUARD in force, mW: widened by 10 W for each silent regulator (R56). -/
def Hub.guardMw (h : Hub) : Nat := 1000 * h.get R.PWR_COV_STEP_GUARD + 10000 * h.power.silent.length

/-- Soak segments engaged. -/
def Hub.segs (h : Hub) : Nat := h.get R.PWR_SOAK_STAT_SEGS

/-- Soak segments MAX allows: 2.5 W each, 32 in all. -/
def Hub.segMax (h : Hub) : Nat := min 32 (2 * h.get R.PWR_SOAK_CTRL_MAX / 5)

/-- Set the engaged segments; SOAK shows their power, W (R50). -/
def Hub.setSegs (n : Nat) (h : Hub) : Hub := (h.put R.PWR_SOAK_STAT_SEGS n).put R.PWR_SOAK_STAT_SOAK (5 * n / 2)

/-- Engage soak for a drop of `mw`, as far as MAX allows; what soak does not fill counts as a falling step (R50). -/
def Hub.engageSoak (mw : Nat) (h : Hub) : Hub :=
  if mw = 0 then h else
  let want := (mw + 2499) / 2500
  let n := min want (h.segMax - h.segs)
  let h := if n = 0 then h else ((h.setSegs (h.segs + n)).bump R.PWR_SOAK_STAT_EVENTS 1).countEvent 10
  { h with power := { h.power with fall := h.power.fall + (mw - 2500 * n) } }

/-- The covenant allows a rising step of `mw` after the steps already taken (R45, R51). [log: DESIGN CHOICE 19] -/
def Hub.covenantAllows (h : Hub) (mw : Nat) : Bool :=
  !h.reefOn || (decide (h.power.rise + mw ≤ h.stepMw) && decide (h.power.noRise ≤ h.clock))

/-- Both limits of R49 hold after a step that adds `expo` to X_total and `sense` to X_sense (mW). -/
def Hub.exposureOk (h : Hub) (expo sense : Nat) : Bool :=
  !h.reefOn ||
    (decide (1000 * h.get R.PWR_EXPO_XTOT + expo + h.guardMw + 2500 * h.segs ≤ h.stepMw + 1000 * h.get R.PWR_SOAK_CTRL_MAX) &&
     decide (1000 * h.get R.PWR_EXPO_XSENSE + sense + h.guardMw ≤ h.stepMw))

/-- The first valid VIN and IIN have been seen, without which Reef admits no step (corner of R363). -/
def Hub.inputSeen (h : Hub) : Bool := h.on (R.SNS_CH_VALID 218) && h.on (R.SNS_CH_VALID 219)

/-- Take a rising step: the covenant remembers it until the slew has covered it. [log: DESIGN CHOICE 19] -/
def Hub.takeRise (mw : Nat) (h : Hub) : Hub := { h with power := { h.power with rise := h.power.rise + mw } }

/-- Soak given up for a planned step above STEP as its load arrives, mW (R51). -/
def Hub.swapOf (h : Hub) (mw : Nat) : Nat :=
  if h.stepMw < mw ∧ h.on R.PWR_SOAK_CTRL_PRERAMP_EN then min mw (2500 * h.segs) else 0

/-- Soak of `swap` mW is released. -/
def Hub.swapSoak (swap : Nat) (h : Hub) : Hub := if swap = 0 then h else h.setSegs (h.segs - (swap + 2499) / 2500)

/-- Reef admits a rising step of `mw`, of which soak gives up `swap`, that adds `expo` to X_total and `sense` to X_sense (R49, R51,
corner of R363). [log: DESIGN CHOICE 19] -/
def Hub.riseOk (h : Hub) (mw swap expo sense : Nat) : Bool :=
  !h.reefOn || (h.inputSeen && h.covenantAllows (mw - swap) && (h.swapSoak swap).exposureOk expo sense)

/-- An admitted rising step is taken. -/
def Hub.takeStep (mw swap : Nat) (h : Hub) : Hub := (h.swapSoak swap).takeRise (mw - swap)

/-- Reef judges a rising step of `mw` at once: the hub that has taken it, if it is admitted. -/
def Hub.tryStep (mw expo sense : Nat) (h : Hub) : Option Hub :=
  if h.riseOk mw (h.swapOf mw) expo sense then some (h.takeStep mw (h.swapOf mw)) else none

/-- Largest wave step, W (R37): WAVE_STEP, and never more than STEP. -/
def Hub.waveStep (h : Hub) : Nat := min (h.get R.PWR_REEF_CTRL_WAVE_STEP) (h.get R.PWR_COV_STEP)

/-- The domains of the list's first wave: hoist steps of at most `lim` (0.1 W) in all, or one domain above it (R37). -/
def takeWave (lim : Nat) : Nat → List Nat → List Nat
  | _, [] => []
  | sum, n :: l => if sum = 0 ∨ sum + hoistStep n ≤ lim then n :: takeWave lim (sum + hoistStep n) l else []

/-- Next wave: the pending hoists in ascending domain order, as far as a wave goes (R37, corner of R40). -/
def Hub.nextWave (h : Hub) : List Nat :=
  takeWave (10 * h.waveStep) 0 ((List.range 74).filter fun n => nget h.power.want n == 1)

/-- Hoist steps of a wave, mW. -/
def waveMw (l : List Nat) : Nat := l.foldl (fun a n => a + 100 * hoistStep n) 0

/-- Domain `n` of an admitted wave starts to hoist (R36). -/
def Hub.startHoist (n : Nat) (h : Hub) : Hub :=
  (h.setWant n 0).setDom n 1

/-- Take the wave `l`. -/
def Hub.hoistWave (l : List Nat) (h : Hub) : Hub :=
  let h := h.takeStep (waveMw l) (h.swapOf (waveMw l))
  Hub.each l Hub.startHoist { h with power := { h.power with waves := l :: h.power.waves } }

/-- Reef admits domain `n`'s pending transition once the covenant allows its step (R36, R37, R49): a hoist with its whole wave,
in ascending domain order. [log: DESIGN CHOICE 19] -/
def Hub.admitDomain (n : Nat) (h : Hub) : Hub :=
  if nget h.power.want n = 1 then
    let l := h.nextWave
    if l.contains n && h.riseOk (waveMw l) (h.swapOf (waveMw l)) 0 0 then h.hoistWave l else h
  else if nget h.power.want n = 3 then
    if !h.reefOn || decide (h.power.fall + 100 * hoistStep n ≤ h.stepMw) then
      ({ h with power := { h.power with fall := h.power.fall + 100 * hoistStep n } }.setWant n 0).setDom n 3
    else h
  else h

/-- The unit of an overlap start's step: descriptor `id` of ring `n` (R153). -/
def overlapUnit (n id : Nat) : Nat := n + 256 * id

/-- Add a step for Reef to admit, unless one of its kind and unit waits already. -/
def Hub.addStep (st : ReefStep) (h : Hub) : Hub :=
  if h.power.steps.any fun x => x.kind == st.kind && x.unit == st.unit then h
  else { h with power := { h.power with steps := h.power.steps ++ [st] } }

/-- Soak is pre-ramped for a step (R51): a planned one above STEP, where PRERAMP_EN allows it; a logic BIST slice while
STEP − GUARD is below 2 W, whatever PRERAMP_EN holds (R367). -/
def Hub.preramps (h : Hub) (st : ReefStep) : Bool :=
  (h.on R.PWR_SOAK_CTRL_PRERAMP_EN && decide (h.stepMw < st.mw)) ||
    (st.kind == 5 && decide (h.get R.PWR_COV_STEP < h.get R.PWR_COV_STEP_GUARD + 2))

/-- Soak given up for the step. -/
def Hub.swapFor (h : Hub) (st : ReefStep) : Nat := if h.preramps st then min st.mw (2500 * h.segs) else 0

/-- Reef judges one pending step (R49, R51); a slice waits for the soak pre-ramped for it (R367). -/
def Hub.judgeStep (st : ReefStep) (h : Hub) : Hub :=
  let swap := h.swapFor st
  let ready := st.kind != 5 || !h.preramps st || swap == st.mw
  let ok := !st.adm && (!h.reefOn || ready) && h.riseOk st.mw swap st.expo st.sense
  let h := if ok then h.takeStep st.mw swap else h
  { h with power := { h.power with steps := h.power.steps ++ [{ st with adm := st.adm || ok }] } }

/-- A step of this kind and unit has been admitted. -/
def Hub.stepAdmitted (h : Hub) (kind unit : Nat) : Bool :=
  h.power.steps.any fun x => x.kind == kind && x.unit == unit && x.adm

/-- The step has been taken: Reef forgets it. -/
def Hub.dropStep (kind unit : Nat) (h : Hub) : Hub :=
  { h with power := { h.power with steps := h.power.steps.filter fun x => !(x.kind == kind && x.unit == unit) } }

/-- Declared or negotiated fast-drop figure of site `s`, W: a fixed-cap site's declaration, else the die's (R49). -/
def Hub.siteFastDrop (h : Hub) (s : Nat) : Nat :=
  if h.siteLive s then
    (if h.get (R.PWR_SITE_FIXCAP_CAP s) = 0 then h.get (R.YDL_PEER_PWR_FASTDROP s) else h.get (R.PWR_SITE_FIXCAP_FASTDROP s))
  else 0

/-- Σ of the sites' fast-drop figures, W. -/
def Hub.sitesFastDrop (h : Hub) : Nat := (List.range 4).foldl (fun a s => a + h.siteFastDrop s) 0

/-- The zone with the highest temperature, and its °C. -/
def Hub.hottest (h : Hub) : Nat × Nat :=
  (List.range 7).foldl (fun best z => if best.2 < h.get (R.TRIM_ZONE_TEMP z) then (z, h.get (R.TRIM_ZONE_TEMP z)) else best)
    (0, h.get (R.TRIM_ZONE_TEMP 0))

/-- A planned step above STEP waits, a hoist wave's among them, and soak may be pre-ramped for it (R51). -/
def Hub.preramping (h : Hub) : Bool :=
  (h.on R.PWR_SOAK_CTRL_PRERAMP_EN && decide (h.stepMw < waveMw h.nextWave)) ||
    h.power.steps.any fun x => !x.adm && h.preramps x

/-- Soak is pre-ramped for one tick at the rising slew (R51). [log: DESIGN CHOICE 19] -/
def Hub.preramp (h : Hub) : Hub :=
  if h.reefOn && h.preramping then
    let c := h.power.credit + 8 * h.get R.PWR_COV_SLEW_UP
    let n := min (h.segMax - h.segs) (c / 2500)
    let h := (h.setSegs (h.segs + n)).takeRise (2500 * n)
    { h with power := { h.power with credit := c % 2500 } }
  else h

/-- A POWER record (R392): 0 covenant excursion, 1 thermal trip, by the model's numbering of `kind` (assumption 4).
[log: DESIGN CHOICE 4] -/
def Hub.powerRecord (kind sev : Nat) (h : Hub) : Hub :=
  h.yewRecord 0x41 sev false
    (padTo 4 [BitVec.ofNat 8 kind] ++ leBytes 2 (h.get R.PWR_IN_STAT_PIN)
      ++ [BitVec.ofNat 8 h.hottest.1, BitVec.ofNat 8 h.hottest.2])

/-- A covenant excursion (corner of R51): all soak engages, it is counted with its kind, a WARNING is logged, and no rising
step is admitted for 1 ms. [log: DESIGN CHOICE 19; DESIGN CHOICE 20] -/
def Hub.excursion (kind : Nat) (h : Hub) : Hub :=
  let h := h.setSegs (max h.segs h.segMax)
  let h := (h.bump R.PWR_COV_VIOL_COUNT 1).put R.PWR_COV_VIOL_KIND kind
  let h := { h with power := { h.power with noRise := h.clock + 1000000 } }
  (h.warn 0x12 0 kind 0xFFFF).powerRecord 0 1

/-- A falling step above STEP is an excursion (corner of R51): a drop of `mw` that soak leaves above STEP is of kind step, a
fall that adds up to it of kind falling. [log: DESIGN CHOICE 19] -/
def Hub.judgeFall (mw : Nat) (h : Hub) : Hub :=
  if h.stepMw < h.power.fall then h.excursion (if h.stepMw < mw then 3 else 2) else h

/-- A drop Reef knows of engages soak; what soak cannot fill falls (R50). -/
def Hub.knownFall (mw : Nat) (h : Hub) : Hub :=
  if mw = 0 then h else
  let left := mw - 2500 * (h.segMax - h.segs)
  (h.engageSoak mw).judgeFall left

/-- A drop seen by measurement (R50): what the covenant's step does not cover engages soak, and release starts.
[log: DESIGN CHOICE 19] -/
def Hub.sensedDrop (mw : Nat) (h : Hub) : Hub :=
  if mw = 0 then h else
  let excess := h.power.fall + mw - h.stepMw
  let left := mw - 2500 * (h.segMax - h.segs)
  let h := { h with power := { h.power with fall := h.power.fall + (mw - excess), release := true } }
  (h.engageSoak excess).judgeFall left

/-- The drops of one tick: soak fills the known one first (R50, R51). -/
def Hub.takeDrops (known sensed : Nat) (h : Hub) : Hub :=
  if sensed = 0 then h.knownFall known else (h.engageSoak known).sensedDrop sensed

/-- The tick in which measurement confirms a drop that soak has filled: the input has not risen with the soak. Its release
starts (R50). [log: DESIGN CHOICE 19] -/
def Hub.confirmDrop (pin last : Nat) (h : Hub) : Hub :=
  if h.inputSeen && decide (0 < h.segs) && decide (pin ≤ last) then { h with power := { h.power with release := true } } else h

/-- Release soak for one tick at the falling slew, one 2.5 W segment at a time (R50); soak that is pre-ramped for a waiting
step stays. -/
def Hub.releaseSoak (h : Hub) : Hub :=
  if h.preramping then h
  else if h.power.release && decide (0 < h.segs) then
    let c := h.power.credit + 8 * h.get R.PWR_COV_SLEW_DN
    let n := min h.segs (c / 2500)
    let h := h.setSegs (h.segs - n)
    { h with power := { h.power with credit := if h.segs = 0 then 0 else c - 2500 * n, fall := h.power.fall + 2500 * n } }
  else { h with power := { h.power with release := false, credit := 0 } }

/-- The step still has a taker: an overlap start's descriptor waits unstarted. -/
def Hub.stepLive (h : Hub) (st : ReefStep) : Bool :=
  st.kind != 4 || (h.ring (st.unit % 256)).descs.any fun d => overlapUnit (st.unit % 256) d.id == st.unit && !d.started

/-- Every pending step is judged once, in order. -/
def Hub.judgeSteps (h : Hub) : Hub :=
  let l := h.power.steps.filter h.stepLive
  ({ h with power := { h.power with steps := [] } }).each l Hub.judgeStep

/-- The running memory-test element brings in its next group, of at most WAVE_STEP, if Reef admits it (R69). -/
def Hub.admitGroup (h : Hub) : Hub :=
  let mw := min h.power.entry (1000 * h.waveStep)
  if mw = 0 ∨ h.power.leave ≠ 0 then h
  else match h.tryStep mw mw 0 with
    | some g => { g with power := { g.power with entry := g.power.entry - mw } }
    | none => h

/-- Pending transitions and steps are judged (R36, R51): the domains in ascending number, then the other steps in order of
arrival, then the memory test's group. [log: DESIGN CHOICE 19] -/
def Hub.admitAll (h : Hub) : Hub := (h.upto 74 Hub.admitDomain).judgeSteps.admitGroup

/-- One tick's admissions: a rising step that can be taken now pauses the release of soak, else soak is released and the
steps judged after it (R50, corner of R51). [log: DESIGN CHOICE 19] -/
def Hub.admitOrRelease (h : Hub) : Hub :=
  let a := h.admitAll
  if !h.reefOn || decide (h.power.rise < a.power.rise) || decide (a.segs < h.segs) then a else h.releaseSoak.admitAll

/-- Reef sets island `k`'s target from the plan and the cap in force, and moves it there for one tick (R41, R42). -/
def Hub.tickIsland (k : Nat) (h : Hub) : Hub :=
  if h.domOn (domainOfIsland k) then
    (h.put (R.PWR_ISL_TARGET k) (h.aimed k)).rampIsland 8 k
  else h

/-- One tick of the slews (R45): what the steps taken still owe shrinks by what the slew covers; sites whose allowances rise, and
an element that withdraws, use theirs up as they go (R69, R283). [log: DESIGN CHOICE 19] -/
def Hub.slewTick (h : Hub) : Hub :=
  let p := h.power
  let up := p.ramps.foldl (fun a r => a + min r.2.1 r.2.2) 0
  let down := min p.leave (8 * h.get R.PWR_COV_SLEW_DN)
  { h with power := { p with
    rise := p.rise + up - 8 * h.get R.PWR_COV_SLEW_UP
    fall := p.fall + down - 8 * h.get R.PWR_COV_SLEW_DN
    ramps := (p.ramps.map fun r => (r.1, r.2.1 - r.2.2, r.2.2)).filter fun r => decide (0 < r.2.1)
    leave := p.leave - down } }

/-- What is left of an ended memory-test element stops at once, its drop filled by soak (R69). -/
def Hub.stopElement (h : Hub) : Hub :=
  if h.power.leave = 0 ∧ 0 < h.power.stop then { h with power := { h.power with stop := 0 } }.knownFall h.power.stop else h

/-- The input estimate of this tick, 0.1 W, against the last: a measured rise that adds up to more than STEP beyond the slew is an
excursion of kind rising (R45, corner of R51). [log: DESIGN CHOICE 19] -/
def Hub.measureRise (pin : Nat) (h : Hub) : Hub :=
  let rise := match h.power.lastIn with
    | some l => 100 * (pin - l)
    | none => 0
  let r := h.power.rose + rise - 8 * h.get R.PWR_COV_SLEW_UP
  let h := { h with power := { h.power with lastIn := some pin, rose := if h.stepMw < r then 0 else r } }
  if h.reefOn ∧ h.stepMw < r then h.excursion 1 else h

/-- A PMBus value in LINEAR11: an 11-bit mantissa and a 5-bit exponent, both signed (R55). Its numerator over 2¹⁶.
[log: PRESUMED 58] -/
def linear11 (w : Nat) : Int := signed 11 (w % 2048) * 2 ^ (16 + signed 5 (w / 2048 % 32)).toNat

/-- A poll's answers as values: STATUS_WORD as it is, VOUT in mV from LINEAR16, the others over 2¹⁶ from LINEAR11 (R55).
[log: PRESUMED 58] -/
def pmbusValues (ws : List Nat) : List Int :=
  ws.zipIdx.map fun e =>
    if e.2 = 0 then (e.1 : Int) else if e.2 = 3 then ((e.1 * 1000 / 2 ^ Config.voutExp : Nat) : Int) else linear11 e.1

/-- The estimate of P(t) (R56): the measured input, calibrated by the regulators' newest readings; the spec does not give the
calibration. [log: DESIGN CHOICE 20] -/
def Hub.estimate (h : Hub) (pin : Nat) : Nat :=
  if h.power.readings = [] then pin else Config.calibrated pin (h.power.readings.map fun e => (e.1, pmbusValues e.2)) % 65536

/-- One Reef tick (R49 to R51): `pin` is the measured input (0.1 W), `hubAbove` and `stackTraffic` the units' power above
their floors and the stacks' traffic power (W), the drops in mW. Without a valid input the last estimate is held.
[log: DESIGN CHOICE 19] -/
def Hub.reefTick (pin hubAbove stackTraffic sensed known : Nat) (h : Hub) : Hub :=
  let last := h.get R.PWR_IN_STAT_PIN
  let p := h.estimate pin
  let h := h.slewTick
  let h := if h.inputSeen then (h.put R.PWR_IN_STAT_PIN p).measureRise p else h
  let xs := stackTraffic + h.sitesFastDrop
  let h := (h.put R.PWR_EXPO_XSENSE (satNat 8 xs)).put R.PWR_EXPO_XTOT (satNat 8 (hubAbove + xs))
  let h := if h.reefOn then ((h.confirmDrop p last).takeDrops known sensed).stopElement else h
  h.admitOrRelease.preramp.upto 96 Hub.tickIsland

/-! ## A domain's transition -/

/-- Bits of the register at `off` that D1 keeps while its block's domain is off: RW and RWL fields (R28). -/
def configBits (off : Nat) : Word := maskOf off fun f => f.acc == .rw || f.acc == .rwl

/-- Domain whose blocks hold the register at `off`, if it is not D0 or D1 (R28, R34); the training result of a memory
controller stays readable (corner of R29). -/
def regDomain (off : Nat) : Option Nat :=
  if off = 0x104 then some 68
  else if 0x300000 ≤ off ∧ off < 0x3C0000 then
    (if (off - 0x300000) % 0x20000 = 4 ∨ (off - 0x300000) % 0x20000 = 8 then none else some (50 + (off - 0x300000) / 0x20000))
  else if 0x600000 ≤ off ∧ off < 0x700000 then some (56 + (off - 0x600000) / 0x40000)
  else if 0x700000 ≤ off ∧ off < 0x720000 then some (60 + (off - 0x700000) / 0x4000)
  else if 0x780000 ≤ off ∧ off < 0x780080 then some (60 + (off - 0x780000) / 0x10)
  else if 0x201000 ≤ off ∧ off < 0x2010C0 then some (2 + (off - 0x201000) / 4)
  else none

/-- The registers of domain `n` lose all but their configuration bits. -/
def dropStatus (n : Nat) (l : List (Nat × Word)) : List (Nat × Word) :=
  (l.map fun e => if regDomain e.1 = some n then
      (e.1, (e.2 &&& configBits e.1) ||| (resetWord e.1 &&& ~~~ configBits e.1)) else e).filter fun e => e.2 != resetWord e.1

/-- Domain `n` has reached ON: its islands start at the bottom of their range and ramp to nominal (R41, S2 of R60). -/
def Hub.domUp (n : Nat) (h : Hub) : Hub :=
  let h := h.setDom n 2
  (h.each (islandsOf n) fun k g => (g.put (R.PWR_ISL_ACTUAL k) (islandMin k)).setIsland k (g.islandNom k)).holdNi n 0

/-- Domain `n` leaves the waves it was hoisted in. -/
def Hub.leaveWaves (n : Nat) (h : Hub) : Hub :=
  { h with power := { h.power with waves := (h.power.waves.map fun w => w.filter fun m => m != n).filter fun w => w != [] } }

/-- Domain `n` has reached OFF: its islands stop and its blocks lose their status (R28). -/
def Hub.domDown (n : Nat) (h : Hub) : Hub :=
  let h := (h.setOwn n 0).setDom n 0
  let h := h.each (islandsOf n) fun k g => ((g.put (R.PWR_ISL_ACTUAL k) 0).put (R.PWR_ISL_TARGET k) 0).put (R.PWR_ISL_STRETCHED k) 0
  ({ h with regs := dropStatus n h.regs }.holdNi n 0).leaveWaves n

/-- A transition of domain `n` has ended: a lowering the hub decided on goes first, then the request latched meanwhile
(R38, corner of R40). -/
def Hub.applyLatched (n : Nat) (h : Hub) : Hub :=
  if nget h.power.own n = 1 then h.askOff n
  else if nget h.power.latch n = 0 then h
  else (h.latchDom n 0).takeReq n (nget h.power.latch n)

/-- Lower domain `n` on the hub's own decision (R38), whatever REQ holds: traffic is held and the NIs are waited for; a domain
in transition is lowered when it ends. -/
def Hub.lowerOwn (n : Nat) (h : Hub) : Hub :=
  if h.domState n = 0 then h.setWant n 0 else if h.domState n = 2 then (h.setOwn n 1).askOff n else h.setOwn n 1

/-- A write to a register block: nothing happens where the path does not hold it. -/
def Hub.pfWrite (req : Path) (f : Hub → Hub) (h : Hub) : Hub := if req.holdsBlocks then f h else h

/-- A write-only bit of a block whose domain is off is ignored and logged (R28). -/
def Hub.ifPowered (req : Path) (off v : Nat) (f : Hub → Hub) (h : Hub) : Hub :=
  match regDomain off with
  | none => f h
  | some d => if h.domOn d then f h else h.logAccess 0x13 req off v

/-! ## Meanings -/

/-- DOMAIN_REQ_HOLD_ON (R37, R38). -/
def execDomainReqHoldOn (req : Path) (n : Nat) (s : State) : Host.Outcome State Fault Refusal :=
  s.act (Ok.domainReqHoldOn req n) (Hub.pfWrite req (Hub.domReq n 1))

/-- DOMAIN_REQ_HOLD_OFF (R39, R40). -/
def execDomainReqHoldOff (req : Path) (n : Nat) (s : State) : Host.Outcome State Fault Refusal :=
  s.act (Ok.domainReqHoldOff req n) (Hub.pfWrite req (Hub.domReq n 2))

/-- DOMAIN_REQ_HUB (R37). -/
def execDomainReqHub (req : Path) (n : Nat) (s : State) : Host.Outcome State Fault Refusal :=
  s.act (Ok.domainReqHub req n) (Hub.pfWrite req (Hub.domReq n 0))

/-- DOMAIN_ADMIT (R36, R37, R49). -/
def execDomainAdmit (n : Nat) (s : State) : Host.Outcome State Fault Refusal :=
  s.act (Ok.domainAdmit n) (Hub.admitDomain n)

/-- DOMAIN_LOWER_IDLE (R40): the NIs are idle, so the lowering waits for Reef only, which judges it at once. -/
def execDomainLowerIdle (n : Nat) (s : State) : Host.Outcome State Fault Refusal :=
  s.act (Ok.domainLowerIdle n) fun h => if nget h.power.want n = 2 then (h.setWant n 3).admitDomain n else h

/-- DOMAIN_LOWER_ABANDON (R40): the domain stays ON and REFUSED is set with REASON 6. -/
def execDomainLowerAbandon (n : Nat) (s : State) : Host.Outcome State Fault Refusal :=
  s.act (Ok.domainLowerAbandon n) fun h =>
    if nget h.power.want n = 2 then ((((h.setWant n 0).holdNi n 0).setOwn n 0).refuseDom n 6).applyLatched n else h

/-- DROOP_TRIP (R43): a fall of more than TRIP_MV stretches the island's clock and counts the stretch; an island already
stretched starts its 100 ns again. ACTUAL shows the frequency without the stretch. [log: DESIGN CHOICE 19] -/
def execDroopTrip (island sagMv : Nat) (s : State) : Host.Outcome State Fault Refusal :=
  s.act (Ok.droopTrip island sagMv) fun h =>
    if h.get R.PWR_DROOP_TRIP_MV < sagMv ∧ h.domOn (domainOfIsland island) ∧ ¬ h.on (R.PWR_ISL_STRETCHED island) then
      ((h.put (R.PWR_ISL_STRETCHED island) 1).bump (R.PWR_ISL_STRETCH_COUNT island) 1).countEvent 13
    else h

/-- DROOP_RELEASE (R43): the supply has stayed within TRIP_MV − 10 mV for 100 ns. -/
def execDroopRelease (island sagMv : Nat) (s : State) : Host.Outcome State Fault Refusal :=
  s.act (Ok.droopRelease island sagMv) fun h =>
    if sagMv + 10 ≤ h.get R.PWR_DROOP_TRIP_MV then h.put (R.PWR_ISL_STRETCHED island) 0 else h

/-- REEF_TICK (R51). -/
def execReefTick (pin hubAbove stackTraffic sensedDrop knownDrop : Nat) (s : State) : Host.Outcome State Fault Refusal :=
  s.act (Ok.reefTick pin hubAbove stackTraffic sensedDrop knownDrop) (Hub.reefTick pin hubAbove stackTraffic sensedDrop knownDrop)

/-- RWL fields take writes (GLB_CTRL.LOCK is 0). -/
def Hub.unlocked (h : Hub) : Bool := !h.on R.GLB_CTRL_LOCK

/-- A write of an RWL field: stored while LOCK = 0, else ignored and logged (R14). -/
def Hub.writeLocked (req : Path) (off : Nat) (v : Word) (f : Hub → Hub) (h : Hub) : Hub :=
  if h.unlocked then f h else h.logAccess 0x10 req off v.toNat

/-- The hedge-gate level in force. -/
def Hub.level (h : Hub) : Nat := h.get R.TEST_HEDGE_STAT_LEVEL

/-- A write of PWR_REEF_CTRL: ENABLE is protected at level 2 (R47), WAVE_STEP is RWL. -/
def Hub.reefCtrlWrite (req : Path) (v : Word) (h : Hub) : Hub :=
  let h := if 2 ≤ h.level then h.put R.PWR_REEF_CTRL_ENABLE (bitsOf v 0 1) else h.logAccess 0x10 req 0x10008 v.toNat
  h.writeLocked req 0x10008 v fun g => g.put R.PWR_REEF_CTRL_WAVE_STEP (bitsOf v 16 7)

/-- REEF_ENABLE (R47): a write of PWR_REEF_CTRL that sets ENABLE. -/
def execReefEnable (req : Path) (v : Word) (s : State) : Host.Outcome State Fault Refusal :=
  s.act (Ok.reefEnable req v) (Hub.pfWrite req (Hub.reefCtrlWrite req (v ||| 1)))

/-- REEF_DISABLE (R47): a write of PWR_REEF_CTRL that clears ENABLE. -/
def execReefDisable (req : Path) (v : Word) (s : State) : Host.Outcome State Fault Refusal :=
  s.act (Ok.reefDisable req v) (Hub.pfWrite req (Hub.reefCtrlWrite req (v &&& ~~~ 1)))

/-- A write of PWR_COV_SLEW (R48): both slews clamped to 250 to 1,000 W/ms, a clamp logged as a NOTICE. -/
def Hub.covSlewWrite (req : Path) (v : Word) (h : Hub) : Hub :=
  h.writeLocked req 0x10000 v fun g =>
    let up := clampNat 250 1000 (bitsOf v 0 12)
    let dn := clampNat 250 1000 (bitsOf v 16 12)
    let g := (g.put R.PWR_COV_SLEW_UP up).put R.PWR_COV_SLEW_DN dn
    if up = bitsOf v 0 12 ∧ dn = bitsOf v 16 12 then g else g.notice 48 v.toNat

/-- COV_SLEW_WRITE (R48). -/
def execCovSlewWrite (req : Path) (v : Word) (s : State) : Host.Outcome State Fault Refusal :=
  s.act (Ok.covSlewWrite req v) (Hub.pfWrite req (Hub.covSlewWrite req v))

/-- A write of PWR_COV_STEP (R48): STEP at most 60, GUARD never above STEP, a lowered GUARD logged as a NOTICE.
A word that holds both is judged by its own STEP, the one in force once it is stored. [log: DEDUCED 16] -/
def Hub.covStepWrite (req : Path) (v : Word) (h : Hub) : Hub :=
  h.writeLocked req 0x10004 v fun g =>
    let step := min 60 (bitsOf v 0 7)
    let guard := min step (bitsOf v 8 7)
    let g := (g.put R.PWR_COV_STEP step).put R.PWR_COV_STEP_GUARD guard
    if guard = bitsOf v 8 7 then g else g.notice 48 v.toNat

/-- COV_STEP_WRITE (R48). -/
def execCovStepWrite (req : Path) (v : Word) (s : State) : Host.Outcome State Fault Refusal :=
  s.act (Ok.covStepWrite req v) (Hub.pfWrite req (Hub.covStepWrite req v))

/-- PEC of a transfer: CRC-8 of polynomial x⁸ + x² + x + 1 over address and data (PMBus 1.3, by SMBus). [log: PRESUMED 58] -/
def pec (bs : List Byte) : Byte :=
  bs.foldl (fun c b => (List.range 8).foldl (fun c _ => if c.msb then (c <<< 1) ^^^ 0x07 else c <<< 1) (c ^^^ b)) 0

/-- The hub sends command `cmd` with `data` to regulator `n`, with PEC (R55): a write, or the first part of a read, whose answer
carries its own. [log: PRESUMED 58] -/
def Hub.pmbus (n cmd : Nat) (data : List Byte) (h : Hub) : Hub :=
  let bs := BitVec.ofNat 8 (2 * h.get (R.PWR_PMB_DEV_ADDR n)) :: BitVec.ofNat 8 cmd :: data
  h.send (.pmbus n (h.get R.PWR_PMB_CTRL_SPEED) (if data = [] then bs else bs ++ [pec bs]))

/-- mV as LINEAR16, the mantissa of the exponent the regulator declares in VOUT_MODE (R55). [log: DESIGN CHOICE 20] -/
def linear16 (mv : Nat) : Nat := mv * 2 ^ Config.voutExp / 1000 % 65536

/-- The commands of a poll, in order: STATUS_WORD, READ_VIN, READ_IIN, READ_VOUT, READ_IOUT, READ_TEMPERATURE_1 (R55).
[log: PRESUMED 58] -/
def pollCmds : List Nat := [0x79, 0x88, 0x89, 0x8B, 0x8C, 0x8D]

/-- A regulator whose STATUS_WORD shows a fault has it cleared by CLEAR_FAULTS: when the hub uses the command is not given.
[log: DESIGN CHOICE 20] -/
def Hub.clearFaults (n : Nat) (words : List Nat) (h : Hub) : Hub := if words.headD 0 = 0 then h else h.pmbus n 0x03 []

/-- One regulator's poll (R56): an answer ends its silence and its words are kept; a third miss in a row raises a WARNING and
widens GUARD. [log: DESIGN CHOICE 20] -/
def Hub.pollRegulator (answers : List (List Nat)) (n : Nat) (h : Hub) : Hub :=
  if h.get (R.PWR_PMB_DEV_ADDR n) = 0 then h
  else
    let h := h.each pollCmds fun c g => g.pmbus n c []
    let flags := h.get R.PWR_PMB_STAT_NOANS
    let words := answers.getD n []
    if words ≠ [] then
      let h := { h with power := { h.power with
        missed := nset h.power.missed n 0, silent := nset h.power.silent n 0,
        readings := Store.insert (Store.erase h.power.readings n) n words } }
      (h.put R.PWR_PMB_STAT_NOANS (withBit flags n false)).clearFaults n words
    else
      let m := nget h.power.missed n + 1
      let h := { h with power := { h.power with missed := nset h.power.missed n (min 3 m) } }
      let h := h.put R.PWR_PMB_STAT_NOANS (withBit flags n true)
      if m = 3 then { h with power := { h.power with silent := nset h.power.silent n 1 } }.warn 0x11 10 0 n else h

/-- The TAP instruction in force removes the boundary pins from functional logic: EXTEST, CLAMP, HIGHZ, EXTEST_PULSE and
EXTEST_TRAIN (R376). -/
def Hub.pinsOut (h : Hub) : Bool := [0x00, 0x04, 0x05, 0x06, 0x07].contains (h.get R.TEST_JTAG_STAT_IR)

/-- PMBUS_POLL (R56): every listed regulator is polled; entry n of `answers` is what regulator n answers, empty where it does not. None
does while the pins are removed from function (R376). -/
def execPmbusPoll (answers : List (List Nat)) (s : State) : Host.Outcome State Fault Refusal :=
  s.act (Ok.pmbusPoll answers) fun h => h.upto 16 (Hub.pollRegulator (if h.pinsOut then [] else answers))

/-- The regulator that PWR_PMB_DEVn names for VDD_CORE, if one does (R408). [log: DESIGN CHOICE 4] -/
def Hub.coreRegulator (h : Hub) : Option Nat :=
  (List.range 16).find? fun n => h.get (R.PWR_PMB_DEV_ADDR n) != 0 && h.get (R.PWR_PMB_DEV_RAIL n) == Config.railCore % 2 ^ (R.PWR_PMB_DEV_RAIL n).width

/-- One step of VDD_CORE (R408): 5 mV, within 650 to 750 mV, from S2 onward, no sooner than 10 µs after the last; held while
its regulator does not answer (corner of R411). [log: DESIGN CHOICE 20] -/
def Hub.voutStep (up : Bool) (h : Hub) : Hub :=
  let v := if up then h.power.vdd + 5 else h.power.vdd - 5
  match h.coreRegulator with
  | none => h
  | some n =>
    if 2 ≤ h.stage ∧ 650 ≤ v ∧ v ≤ 750 ∧ h.power.vddAt + 10000 ≤ h.clock ∧ nget h.power.missed n = 0 then
      { h with power := { h.power with vdd := v, vddAt := h.clock } }.pmbus n 0x21 (leBytes 2 (linear16 v))
    else h

/-- VOUT_COMMAND (R408). -/
def execVoutCommand (up : Bool) (s : State) : Host.Outcome State Fault Refusal :=
  s.act (Ok.voutCommand up) (Hub.voutStep up)

/-- VHOLD_READY (R54): VHOLD is measured while its charger is on; above 4.8 V READY is set, and a last gasp is possible from then
on. -/
def execVholdReady (mv : Nat) (s : State) : Host.Outcome State Fault Refusal :=
  s.act (Ok.vholdReady mv) fun h =>
    if h.power.charger then h.showHold mv else h

end Sys2Proof.Machine
end

