-- ==== Sys2Proof/Machine/Cleat.lean ====
section
/-!
DEFINITION. Register access to cleats (R154, R161) and watches (R162): the meanings of CLT_SET, CLT_ADD, CLT_CLEAR,
WATCH_ARM, WATCH_CANCEL and WATCH_TIMEOUT.
-/
namespace Sys2Proof.Machine

/-- CLT_SET (R161): a write of CLT_n.VALUE performs SET. -/
def execCltSet (req : Path) (n : Nat) (v : Word) (s : State) : Host.Outcome State Fault Refusal :=
  s.act (Ok.cltSet req n v) (Hub.pfWrite req (Hub.cleatSet n v.toNat))

/-- CLT_ADD (R161): a write of CLT_n.ADD performs ADD. -/
def execCltAdd (req : Path) (n : Nat) (v : Word) (s : State) : Host.Outcome State Fault Refusal :=
  s.act (Ok.cltAdd req n v) (Hub.pfWrite req (Hub.cleatAdd n v.toNat))

/-- Cleats `base` to `base + count - 1` are SET to 0, those that exist (R154). -/
def Hub.clearCleats (base count : Nat) (h : Hub) : Hub :=
  h.upto (min count (4096 - base)) fun i g => g.cleatSet (base + i) 0

/-- A write of CLT_CLEAR. COUNT is 1 to 4,096; how many cleats another count clears is not stated: a free value.
[log: DESIGN CHOICE 17] -/
def Hub.cltClear (v : Word) (h : Hub) : Hub :=
  let n := bitsOf v 12 13
  if 1 ≤ n ∧ n ≤ 4096 then h.clearCleats (bitsOf v 0 12) n
  else h.drew.clearCleats (bitsOf v 0 12) (h.free % 4097)

/-- CLT_CLEAR (R154). -/
def execCltClear (req : Path) (v : Word) (s : State) : Host.Outcome State Fault Refusal :=
  s.act (Ok.cltClear req v) (Hub.pfWrite req (Hub.cltClear v))

/-! ## Operations of sites (R159, R160) -/

/-- A flag of the negotiated word: 0 CACHE, 1 CLEAT, 2 TT, 3 PALLOW, 4 MCAST. -/
def Hub.negFlag (h : Hub) (s k : Nat) : Bool := bit (h.get (R.YDL_NEG_LO s)) k

/-- A site may operate on cleat `n` (R159). -/
def Hub.siteCleat (h : Hub) (s n : Nat) : Bool :=
  h.negFlag s 1 && decide (h.get (R.CLT_SITE_WIN_BASE s) ≤ n)
    && decide (n < h.get (R.CLT_SITE_WIN_BASE s) + h.get (R.CLT_SITE_WIN_COUNT s))

/-- A CLT_OP on cleat `n`: `f`, or CLEAT_DENIED and counted. [log: DEDUCED 36] -/
def Hub.cltOp (s tag n : Nat) (f : Hub → Hub) (h : Hub) : Hub :=
  if h.siteCleat s n ∧ n < 4096 then f h
  else (h.bump R.CLT_STAT_DENIED 1).cltAns s tag 3 0

/-- Answer an operation DONE with the cleat's value. [log: DEDUCED 36] -/
def Hub.cltDone (s tag n : Nat) (h : Hub) : Hub := h.cltAns s tag 0 (h.get (R.CLT_VALUE n))

/-- A site's ADD or SET is applied and answered (R155, R160). [log: DEDUCED 36] -/
def Hub.cltApply (x : CltHeld) (h : Hub) : Hub :=
  h.cltOp x.site x.tag x.cleat fun h =>
    (if x.set then h.cleatSet x.cleat x.value else h.cleatAdd x.cleat x.value).cltDone x.site x.tag x.cleat

/-! ## Watches (R162) -/

/-- A write of a watch's word 0 with EN = 1: it registers the watch and judges it; on an armed watch it is ignored and
logged. -/
def Hub.watchArm (req : Path) (w : Nat) (v : Word) (h : Hub) : Hub :=
  if h.on (R.CLT_WATCH0_EN w) then h.logAccess 0x13 req (R.CLT_WATCH0_EN w).off v.toNat
  else
    let h := ((h.put (R.CLT_WATCH0_CLEAT w) (bitsOf v 0 12)).put (R.CLT_WATCH0_CMP w) (bitsOf v 12 4)).put (R.CLT_WATCH0_EN w) 1
    let h := { h with cleat := { h.cleat with seen := nset h.cleat.seen w 0 } }
    h.cleatWait { who := .watch w, cleat := bitsOf v 0 12, cmp := bitsOf v 12 4, value := h.get (R.CLT_WATCH1_VALUE w), time := 0 }

/-- WATCH_ARM (R162). -/
def execWatchArm (req : Path) (w : Nat) (v : Word) (s : State) : Host.Outcome State Fault Refusal :=
  s.act (Ok.watchArm req w v) (Hub.pfWrite req (Hub.watchArm req w (v ||| 0x80000000)))

/-- The wait belongs to watch `w`. -/
def Wait.ofWatch (w : Nat) (x : Wait) : Bool := x.who == .watch w

/-- A write of a watch's word 0 with EN = 0: an armed watch is cancelled and the other bits ignored; an idle one takes the
fields. -/
def Hub.watchCancel (w : Nat) (v : Word) (h : Hub) : Hub :=
  if h.on (R.CLT_WATCH0_EN w) then (h.dropWaits (Wait.ofWatch w)).put (R.CLT_WATCH0_EN w) 0
  else (h.put (R.CLT_WATCH0_CLEAT w) (bitsOf v 0 12)).put (R.CLT_WATCH0_CMP w) (bitsOf v 12 4)

/-- WATCH_CANCEL (R162). -/
def execWatchCancel (req : Path) (w : Nat) (v : Word) (s : State) : Host.Outcome State Fault Refusal :=
  s.act (Ok.watchCancel req w v) (Hub.pfWrite req (Hub.watchCancel w v))

/-- WATCH_TIMEOUT (R162): the timeout of an armed watch that has one passes. -/
def execWatchTimeout (w : Nat) (s : State) : Host.Outcome State Fault Refusal :=
  s.act (Ok.watchTimeout w) fun h =>
    if h.on (R.CLT_WATCH0_EN w) ∧ h.on (R.CLT_WATCH2_TMO w) then
      ((h.dropWaits (Wait.ofWatch w)).countEvent 4).watchEnd w false (h.get (R.CLT_VALUE (h.get (R.CLT_WATCH0_CLEAT w))))
    else h

/-- A write of a watch's word 1 or 2: stored while the watch is idle, else ignored and logged (R162). A write of word 1
ends its reading of SEEN. -/
def Hub.watchWord (req : Path) (w k : Nat) (v : Word) (h : Hub) : Hub :=
  if h.on (R.CLT_WATCH0_EN w) then h.logAccess 0x13 req (0x129000 + 0x10 * w + 4 * k) v.toNat
  else if k = 1 then
    { h with cleat := { h.cleat with seen := nset h.cleat.seen w 0 } }.put (R.CLT_WATCH1_VALUE w) v.toNat
  else (h.put (R.CLT_WATCH2_TMO w) (bitsOf v 0 16)).put (R.CLT_WATCH2_VEC w) (bitsOf v 16 9)

end Sys2Proof.Machine
end

