-- ==== Sys2Proof/Machine/Mem.lean ====
section
/-!
DEFINITION. Stored data: codewords and their check codes (R210, R211), correcting and rewriting (R213, R214), uncorrectable
errors and poisoning (R215 to R217), the tracking of corrected locations (R224), the flip mask (R230 to R232), reads and
writes of the buffer and DRAM in ranges, and the DRAM address decode (R197).
-/
namespace Sys2Proof.Machine

/-- A place of a hub DRAM address (R197). -/
structure DramPlace where
  stack : Nat
  q : Nat
  channel : Nat
  pc : Nat
  bank : Nat         -- bank index j, 0 to 47
  bankGroup : Nat
  bankInGroup : Nat
  sid : Nat          -- stack ID
  row : Nat
  byteInRow : Nat
deriving DecidableEq, Repr

/-- The pseudo-channel permutation's mixing term (R197). -/
def dramMix (r : Nat) : Nat := (r ^^^ (r / 64) ^^^ (r / 4096) ^^^ (r / 262144)) % 64

/-- The hub pseudo-channel, 0 to 191, of a hub DRAM address (R197). -/
def dramPc (addr : Nat) : Nat :=
  let g := addr / 4096
  let r := g / 192
  let i := g % 192
  64 * ((i / 64 + r) % 3) + ((i % 64) ^^^ dramMix r)

/-- The decode of a hub DRAM address (R197). -/
def dramDecode (addr : Nat) : DramPlace :=
  let p := dramPc addr
  let r := addr / 4096 / 192
  let j := 4 * (r % 12) + addr % 4096 / 1024
  { stack := p / 32, q := p % 32, channel := p % 32 / 2, pc := p % 2, bank := j, bankGroup := j % 4, bankInGroup := j / 4 % 4,
    sid := j / 16, row := r / 12, byteInRow := addr % 1024 }

/-- Installed DRAM, bytes: 144 or 216 GiB, none before S4 has read the stacks (R189). -/
def Hub.dramSize (h : Hub) : Nat :=
  if h.get R.GLB_POP_STACK_CAP = 1 then 144 * 2 ^ 30 else if h.get R.GLB_POP_STACK_CAP = 2 then 216 * 2 ^ 30 else 0

/-- Buffer bytes the map gives: logical banks of 256 KiB (R169). -/
def Hub.bufSize (h : Hub) : Nat := h.get R.MAP_COUNT_BANK * 262144

/-- Bytes of a memory space: 0 DRAM, 1 buffer (R130). -/
def Hub.spaceSize (h : Hub) (sp : Nat) : Nat := if sp = 0 then h.dramSize else h.bufSize

/-- `n` bytes at buffer offset `off` touch Spar's scratch (R326). -/
def Hub.inScratch (h : Hub) (off n : Nat) : Bool :=
  decide (off < (h.get R.SPAR_SCRATCH_BASE + h.get R.SPAR_SCRATCH_SIZE) * 2 ^ 20) &&
    decide (h.get R.SPAR_SCRATCH_BASE * 2 ^ 20 < off + n)

/-- Bytes of a codeword: a DRAM sector of 32, a buffer word of 8 (R210). -/
def cwBytes (sp : Nat) : Nat := if sp = 0 then 32 else 8

/-- The byte of space `sp` at `a`. [log: DESIGN CHOICE 14] -/
def Mem.byte (m : Mem) (sp a : Nat) : Byte :=
  Store.get (fun _ => (0 : Byte)) (if sp = 0 then m.dram else m.buf) a

/-- Store a byte. -/
def Mem.setByte (m : Mem) (sp a : Nat) (b : Byte) : Mem :=
  if sp = 0 then { m with dram := Store.set (fun _ => (0 : Byte)) m.dram a b }
  else { m with buf := Store.set (fun _ => (0 : Byte)) m.buf a b }

/-- The stored bits in error of the codeword at `base`. [log: DESIGN CHOICE 14] -/
def Mem.err (m : Mem) (sp base : Nat) : Nat := nget (if sp = 0 then m.dramErr else m.bufErr) (base / cwBytes sp)

/-- Set the stored bits in error of the codeword at `base`. -/
def Mem.setErr (m : Mem) (sp base e : Nat) : Mem :=
  if sp = 0 then { m with dramErr := nset m.dramErr (base / cwBytes sp) e }
  else { m with bufErr := nset m.bufErr (base / cwBytes sp) e }

/-- `n` bytes from `a`. -/
def Mem.bytes (m : Mem) (sp a n : Nat) : List Byte := (List.range n).map fun i => m.byte sp (a + i)

/-- Store bytes from `a`. -/
def Mem.setBytes (m : Mem) (sp a : Nat) (bs : List Byte) : Mem :=
  bs.zipIdx.foldl (fun m' e => m'.setByte sp (a + e.2) e.1) m

/-- Check bits 0 and 1 of a buffer word inverted, or check bytes 32 and 33 of a sector: decodes as uncorrectable (R216). -/
def poisonMask (sp : Nat) : Nat := if sp = 0 then 0xFFFF * 2 ^ 256 else 3 * 2 ^ 64

/-- Symbols of a sector in error (R211). -/
def symbolsBad (e : Nat) : Nat := ((List.range 36).filter fun j => e / 2 ^ (8 * j) % 256 != 0).length

/-- What the code sees in a codeword with error bits `e` (R210): 0 clean, 1 correctable, 2 uncorrectable, 3 beyond what the
code guarantees. [log: DESIGN CHOICE 39] -/
def errClass (sp e : Nat) : Nat :=
  if e = 0 then 0
  else if sp = 0 then (let n := symbolsBad e; if n ≤ 1 then 1 else if n ≤ 3 then 2 else 3)
  else (let n := popCount 72 e; if n ≤ 1 then 1 else if n = 2 then 2 else 3)

/-- DETAIL of a correction (R222): the buffer bit, or the DRAM symbol and its error value. -/
def errDetail (sp e : Nat) : Nat :=
  if sp = 0 then
    (match (List.range 36).find? fun j => e / 2 ^ (8 * j) % 256 != 0 with
     | none => 0
     | some j => j + 256 * (e / 2 ^ (8 * j) % 256))
  else (match (List.range 72).find? fun j => e / 2 ^ j % 2 != 0 with
     | none => 0
     | some j => j)

/-- UNIT and INST of a stored location (R222). -/
def placeUnit (sp base : Nat) : Nat × Nat := if sp = 0 then (1, (dramDecode base).stack) else (0, 0)

/-! ## Tracking and logging -/

/-- A first correction of a location, with REPEAT from `limit` corrections on. -/
def Repeat.new (limit unit addr now : Nat) : Repeat :=
  { unit := unit, addr := addr, count := 1, first := now, said := decide (limit ≤ 1) }

/-- A correction of a location: its entry before and after it, and the table (R224). -/
def trackIn (limit unit addr now windowNs : Nat) : List Repeat → Option (Repeat × Repeat × List Repeat)
  | [] => none
  | r :: rs =>
    if r.unit = unit ∧ r.addr = addr then
      (if now ≤ r.first + windowNs then
        let q := { r with count := r.count + 1, said := r.said || decide (limit ≤ r.count + 1) }
        some (r, q, q :: rs)
       else
        let q := Repeat.new limit unit addr now
        some ({ q with said := false }, q, rs ++ [q]))
    else (trackIn limit unit addr now windowNs rs).map fun t => (t.1, t.2.1, r :: t.2.2)

/-- Remove the first (oldest) entry with count 1. -/
def dropOldestOne : List Repeat → Option (List Repeat)
  | [] => none
  | r :: rs => if r.count = 1 then some rs else (dropOldestOne rs).map (r :: ·)

/-- Track a corrected location (R224): its count in the current window, whether its entry is the first that carries REPEAT in it,
and the hub after it. -/
def Hub.track (limit unit addr : Nat) (h : Hub) : Nat × Bool × Hub :=
  let win := h.get R.RAS_REPEAT_CFG_WINDOW_H * 3600000000000
  let new := Repeat.new limit unit addr h.now
  let put (l : List Repeat) : Hub := { h with ras := { h.ras with reps := l } }.put R.RAS_REPEAT_STAT_TRACKED l.length
  match trackIn limit unit addr h.now win h.ras.reps with
  | some (r, q, l) => (q.count, q.said && !r.said, put l)
  | none =>
    if h.ras.reps.length < 256 then (1, new.said, put (h.ras.reps ++ [new]))
    else match dropOldestOne h.ras.reps with
      | some l => (1, new.said, put (l ++ [new]))
      | none => (1, new.said, h.bump R.RAS_REPEAT_STAT_UNTRACKED 1)

/-- Granule `g` is listed with VALID in the skip table (R221). -/
def Hub.skipped (h : Hub) (g : Nat) : Bool :=
  (List.range 512).any fun i => h.on (R.RAS_SKIP_VALID i) && h.get (R.RAS_SKIP_GRANULE i) == g

/-- FLAGS[4], SKIPPED: the location lies in a granule of the skip table (R221, R222). [log: DESIGN CHOICE 39] -/
def Hub.skipFlag (h : Hub) (sp base : Nat) : Nat := if sp = 0 ∧ h.skipped (base / 4096) then 16 else 0

/-- The log entry of a correction whose location now counts `n` corrections in its window (R222, R224). -/
def ceEntry (req sp base detail n limit skip : Nat) : RasEntry :=
  { kind := 1, unit := (placeUnit sp base).1, inst := (placeUnit sp base).2, flags := 4 + b2n (decide (limit ≤ n)) + skip,
    sev := b2n (decide (limit ≤ n)), req := req, addr := base, detail := detail, count := satNat 16 n }

/-- Count a correction: the RC counters, the event counters, and the hourly counts of R225. -/
def Hub.countCe (sp base : Nat) (h : Hub) : Hub :=
  let h := (h.bump (if sp = 0 then R.RAS_CE_CNT_DRAM else R.RAS_CE_CNT_BUF) 1).countEvent 9
  let slot := if sp = 0 then 1 + (placeUnit sp base).2 else 0
  { h with ras := { h.ras with ceHour := nset h.ras.ceHour slot (nget h.ras.ceHour slot + 1) } }

/-- Log a correction (R213, R222, R224, R225): counted, tracked, flagged WRITTEN_BACK and REPEAT. -/
def Hub.logCe (req sp base detail : Nat) (h : Hub) : Hub :=
  let limit := h.get R.RAS_REPEAT_CFG_N
  let t := (h.countCe sp base).track limit (placeUnit sp base).1 base
  t.2.2.rasLogWith t.2.1 (ceEntry req sp base detail t.1 limit (h.skipFlag sp base))

/-- Log an uncorrectable error (R215): kind UE, or LATENT when a scrub read finds it (R220). -/
def Hub.logUe (req sp base : Nat) (latent : Bool) (h : Hub) : Hub :=
  let u := placeUnit sp base
  let h := h.bump (if latent then R.RAS_UE_CNT_LATENT else if sp = 0 then R.RAS_UE_CNT_DRAM else R.RAS_UE_CNT_BUF) 1
  h.rasLog
    { kind := if latent then 3 else 2, unit := u.1, inst := u.2, flags := (if latent then 2 else 0) + h.skipFlag sp base, sev := 1,
      req := req, addr := base }

/-- Log a poisoning write (R216). -/
def Hub.logPoison (req sp base : Nat) (h : Hub) : Hub :=
  let u := placeUnit sp base
  h.rasLog { kind := 6, unit := u.1, inst := u.2, flags := h.skipFlag sp base, req := req, addr := base }

/-- Count DRAM bytes moved by the controller that holds the codeword. -/
def Hub.countBytes (write : Bool) (sp base : Nat) (h : Hub) : Hub :=
  if sp = 0 then
    let n := (dramDecode base).stack
    if write then h.add64 (R.MEM_WR_BYTES_LO n).off (R.MEM_WR_BYTES_HI n).off 32
    else h.add64 (R.MEM_RD_BYTES_LO n).off (R.MEM_RD_BYTES_HI n).off 32
  else h

/-! ## The pseudo-channel queues (R199, R203, R206) -/

/-- The requests waiting in hub pseudo-channel `p`. -/
def Hub.queue (h : Hub) (p : Nat) : List MemReq := Store.get (fun _ => []) h.memch.queues p

/-- Store a pseudo-channel's queue; MEM_n_PC_q shows its reads and writes, at most 64 of each. -/
def Hub.setQueue (p : Nat) (l : List MemReq) (h : Hub) : Hub :=
  let h := { h with memch := { h.memch with queues := Store.set (fun _ => []) h.memch.queues p l } }
  (h.put (R.MEM_PC_RDQ (p / 32) (p % 32)) (min 64 (l.filter fun r => !r.write).length)).put
    (R.MEM_PC_WRQ (p / 32) (p % 32)) (min 64 (l.filter fun r => r.write).length)

/-- Sheet class of a requester (R203); 7 is none: scrubbing, Masthead, bring-up. -/
def sheetClass (req : Nat) : Nat :=
  if req < 0x1000 then 5 else if req < 0x2000 then 4 else if req < 0x3000 then req - 0x2000
  else if 0x4000 ≤ req then 6 else 7

/-- Telltale master of a requester (R206): a site or the PCIe ingress buffer; 13 is none. -/
def masterOf (req : Nat) : Nat := if req < 0x1000 then 4 else if 0x2000 ≤ req ∧ req < 0x2004 then req - 0x2000 else 13

/-- Current level of master `m`: a site's from its link, a hub-side one's from its fill (R206). -/
def Hub.level4 (h : Hub) (m : Nat) : Nat :=
  if m < 4 then h.get (R.YDL_TT_LEVEL m) else if m < 13 then h.get (R.QOS_TT1_LEVEL m) else 0

/-- Master `m`'s level becomes `l`; LEVEL shows it, and a change is noted with its time (R206). -/
def Hub.setLevel (m l : Nat) (h : Hub) : Hub :=
  let g := if l = h.level4 m then h else { h with memch := { h.memch with tells := (m, h.clock, l) :: h.memch.tells } }
  (if m < 4 then g.put (R.YDL_TT_LEVEL m) l else g).put (R.QOS_TT1_LEVEL m) l

/-- The level master `m`'s requests carry: the newest one that has stood for 100 ns (R206). -/
def Hub.levelNow (h : Hub) (m : Nat) : Nat :=
  match h.memch.tells.find? fun t => t.1 == m && decide (t.2.1 + 100 ≤ h.clock) with
  | none => 0
  | some t => t.2.2

/-- Urgency tag a master's request carries now (R206, R208). -/
def Hub.tagOf (h : Hub) (m : Nat) : Nat := if nget h.memch.clamp m = 1 then min 1 (h.levelNow m) else h.levelNow m

/-- A request enters its pseudo-channel's queue; a class that sends to a congested one is noted (R204). -/
def Hub.enter (q : MemReq) (h : Hub) : Hub :=
  let p := dramPc q.addr
  let h := if h.on (R.MEM_PC_CONG (p / 32) (p % 32)) ∧ q.cls < 7 then
      { h with memch := { h.memch with congAt := nset h.memch.congAt q.cls (h.clock + 1) } } else h
  h.setQueue p (h.queue p ++ [q])

/-- The requests of class `c` that wait for tokens. -/
def Hub.waiting (h : Hub) (c : Nat) : List MemReq := Store.get (fun _ => []) h.memch.waiting c

/-- Store a class's waiting requests. -/
def Hub.setWaiting (c : Nat) (l : List MemReq) (h : Hub) : Hub :=
  { h with memch := { h.memch with waiting := Store.set (fun _ => []) h.memch.waiting c l } }

/-- Class `c`'s bucket holds the tokens of `n` bytes (R203). [log: DESIGN CHOICE 38] -/
def Hub.tokensFor (h : Hub) (c n : Nat) : Bool := decide (nget h.memch.spent c + 20 * n ≤ 20 * (64 + Config.bucket c))

/-- A request takes its tokens and enters. -/
def Hub.payEnter (q : MemReq) (h : Hub) : Hub :=
  { h with memch := { h.memch with spent := nset h.memch.spent q.cls (nget h.memch.spent q.cls + 20 * q.size) } }.enter q

/-- A request at its NI (R203, R207, R208): one that Sheet does not throttle, or that is urgent, enters its queue at once; any other
takes its tokens or waits for them, in order. [log: DESIGN CHOICE 38] -/
def Hub.request (q : MemReq) (h : Hub) : Hub :=
  if 7 ≤ q.cls ∨ 2 ≤ q.tag then h.enter q
  else if (h.waiting q.cls).isEmpty ∧ h.tokensFor q.cls q.size then h.payEnter q
  else h.setWaiting q.cls (h.waiting q.cls ++ [q])

/-- A request of requester `req` for the bytes from `a` up to `b` of one line, with the urgency tag of master `m`. -/
def Hub.requestOf (h : Hub) (write : Bool) (req m a b : Nat) : MemReq :=
  { write := write, addr := a / 64 * 64, size := b - a, cls := sheetClass req, tag := h.tagOf m, master := m, scrub := false,
    at_ := h.clock }

/-- A DRAM access enters the network line by line. -/
def Hub.enqueue (write : Bool) (req m sp a n : Nat) (h : Hub) : Hub :=
  if sp = 0 ∧ n ≠ 0 then
    h.upto ((a + n - 1) / 64 - a / 64 + 1) fun i g =>
      let l := (a / 64 + i) * 64
      g.request (g.requestOf write req m (max a l) (min (a + n) (l + 64)))
  else h

/-! ## Reading -/

/-- What a read answers: its data, whether it met an uncorrectable error, and the chip after its rewrites and logs. -/
structure Rd where
  data : List Byte
  bad : Bool
  chip : Chip

/-- Read the codeword at `base` for requester `req` (R213, R215): clean data; corrected, rewritten and logged; or not
delivered. An error beyond the code's guarantee is detected or miscorrected: a free choice, with free data.
[log: DESIGN CHOICE 39] -/
def Chip.readCw (req : Nat) (latent : Bool) (sp base : Nat) (c : Chip) : Rd :=
  let n := cwBytes sp
  let e := c.mem.err sp base
  let h := c.hub.countBytes false sp base
  match errClass sp e with
  | 0 => { data := c.mem.bytes sp base n, bad := false, chip := ⟨h, c.mem⟩ }
  | 1 => { data := c.mem.bytes sp base n, bad := false, chip := ⟨h.logCe req sp base (errDetail sp e), c.mem.setErr sp base 0⟩ }
  | 2 => { data := [], bad := true, chip := ⟨h.logUe req sp base latent, c.mem⟩ }
  | _ =>
    if h.free % 2 = 0 then { data := [], bad := true, chip := ⟨h.drew.logUe req sp base latent, c.mem⟩ }
    else
      let bs := leBytes n h.drew.free
      { data := bs, bad := false,
        chip := ⟨h.drew.drew.logCe req sp base h.drew.drew.free, (c.mem.setErr sp base 0).setBytes sp base bs⟩ }

/-- Read `k` codewords from `base`, stopping at the first that is uncorrectable. -/
def Chip.readCws (req : Nat) (sp : Nat) : Nat → Nat → Chip → Rd
  | 0, _, c => { data := [], bad := false, chip := c }
  | k + 1, base, c =>
    let r := c.readCw req false sp base
    if r.bad then r
    else
      let q := Chip.readCws req sp k (base + cwBytes sp) r.chip
      { q with data := r.data ++ q.data }

/-- Read `n` bytes at `a` of space `sp` for requester `req`. -/
def Chip.read (req sp a n : Nat) (c : Chip) : Rd :=
  if n = 0 then { data := [], bad := false, chip := c }
  else
    let w := cwBytes sp
    let b := a / w * w
    let r := Chip.readCws req sp ((a + n - 1) / w - a / w + 1) b ⟨c.hub.enqueue false req (masterOf req) sp a n, c.mem⟩
    { r with data := if r.bad then [] else (r.data.drop (a - b)).take n }

/-! ## Writing -/

/-- What a write answers: whether the writer met an uncorrectable error (R171), and the chip after it. -/
structure Wr where
  bad : Bool
  chip : Chip

/-- Write bytes within the codeword at `base`, from byte `at_` of it (R171, R214, R216): a whole codeword is stored with fresh
check bits; a part is merged, corrected first where the code can, and poisoned where it cannot. A part merged into a codeword the
code miscorrects leaves free data around it. [log: DESIGN CHOICE 39] -/
def Chip.writeCw (req sp base at_ : Nat) (bs : List Byte) (c : Chip) : Wr :=
  let e := c.mem.err sp base
  let h := c.hub.countBytes true sp base
  let m := c.mem.setBytes sp (base + at_) bs
  if bs.length = cwBytes sp then { bad := false, chip := ⟨h, m.setErr sp base 0⟩ }
  else match errClass sp e with
    | 0 => { bad := false, chip := ⟨h, m⟩ }
    | 1 => { bad := false, chip := ⟨h.logCe req sp base (errDetail sp e), m.setErr sp base 0⟩ }
    | 2 => { bad := true, chip := ⟨h.logPoison req sp base, m.setErr sp base (poisonMask sp)⟩ }
    | _ =>
      if h.free % 2 = 0 then { bad := true, chip := ⟨h.drew.logPoison req sp base, m.setErr sp base (poisonMask sp)⟩ }
      else
        let g := h.drew.drew
        { bad := false,
          chip := ⟨g.drew.logCe req sp base h.drew.free,
            ((c.mem.setBytes sp base (leBytes (cwBytes sp) g.free)).setBytes sp (base + at_) bs).setErr sp base 0⟩ }

/-- Write bytes over codewords in rising order. -/
def Chip.writeCws (req sp : Nat) : Nat → Nat → List Byte → Chip → Wr
  | 0, _, _, c => { bad := false, chip := c }
  | k + 1, a, bs, c =>
    let w := cwBytes sp
    let base := a / w * w
    let room := base + w - a
    let r := c.writeCw req sp base (a - base) (bs.take room)
    let q := Chip.writeCws req sp k (base + w) (bs.drop room) r.chip
    { q with bad := r.bad || q.bad }

/-- The codewords an armed flip mask matches in a requester's write of `n` bytes at `a` (R232), in rising order.
[log: DESIGN CHOICE 39] -/
def Hub.flipHits (h : Hub) (sp a n : Nat) : List Nat :=
  let w := cwBytes sp
  let first := a / w * w
  let want := h.get R.RAS_FLIP_ADDR_LO + 2 ^ 32 * h.get R.RAS_FLIP_ADDR_HI
  let target := if sp = 0 then 1 else 0
  if n ≠ 0 ∧ h.on R.RAS_FLIP_CTRL_ARM ∧ h.get R.RAS_FLIP_CTRL_TARGET = target then
    if h.on R.RAS_FLIP_CTRL_MATCH_EN then
      let b := want / w * w
      if first ≤ b ∧ b < a + n ∧ (sp ≠ 0 ∨ (dramDecode b).stack = h.get R.RAS_FLIP_CTRL_CTRL_N) then [b] else []
    else ((List.range ((a + n - 1) / w - a / w + 1)).map fun i => first + w * i).filter fun b =>
      sp != 0 || (dramDecode b).stack == h.get R.RAS_FLIP_CTRL_CTRL_N
  else []

/-- The flip mask fires on the codeword at `base` (R232): the masked bits are stored inverted, ARM clears, FIRED is set, and
INJECT is logged. -/
def Chip.flipFire (req sp base : Nat) (c : Chip) : Chip :=
  let mask := if sp = 0 then c.hub.flipMask % 2 ^ 288 else c.hub.flipMask % 2 ^ 72
  let u := placeUnit sp base
  let h := ((c.hub.put R.RAS_FLIP_CTRL_ARM 0).put R.RAS_FLIP_CTRL_FIRED 1).rasLog
    { kind := 9, unit := u.1, inst := u.2, flags := 8, req := req, addr := base }
  ⟨h, c.mem.setErr sp base (c.mem.err sp base ^^^ mask)⟩

/-- Write bytes at `a` of space `sp` for requester `req` with the urgency tag of master `m`; an armed flip mask fires on the lowest
matching codeword whose write was no poisoning write (R232). -/
def Chip.writeAs (m req sp a : Nat) (bs : List Byte) (c : Chip) : Wr :=
  if bs = [] then { bad := false, chip := c }
  else
    let w := cwBytes sp
    let hits := c.hub.flipHits sp a bs.length
    let r := Chip.writeCws req sp ((a + bs.length - 1) / w - a / w + 1) a bs ⟨c.hub.enqueue true req m sp a bs.length, c.mem⟩
    match hits.find? fun b => r.chip.mem.err sp b == 0 with
    | none => r
    | some b => { r with chip := r.chip.flipFire req sp b }

/-- Write bytes at `a` of space `sp` for requester `req`. -/
def Chip.write (req sp a : Nat) (bs : List Byte) (c : Chip) : Wr := c.writeAs (masterOf req) req sp a bs

/-- Poison the codeword at `base` for requester `req`, logged (R216). -/
def Chip.poisonCw (req sp base : Nat) (c : Chip) : Chip :=
  ⟨c.hub.logPoison req sp base, c.mem.setErr sp base (poisonMask sp)⟩

/-- Poison every codeword of `n` bytes from `a`. -/
def Chip.poison (req sp a n : Nat) (c : Chip) : Chip :=
  (List.range (n / cwBytes sp)).foldl (fun c i => c.poisonCw req sp (a + cwBytes sp * i)) c

/-- Every byte and error from `a` up to `a + n` returns to zero with valid check bits. [log: DESIGN CHOICE 14] -/
def Mem.clear (m : Mem) (sp a n : Nat) : Mem :=
  let out (k : Nat) : Bool := !(decide (a ≤ k) && decide (k < a + n))
  let outE (k : Nat) : Bool := !(decide (a ≤ k * cwBytes sp) && decide (k * cwBytes sp < a + n))
  if sp = 0 then { m with dram := Store.keep out m.dram, dramErr := Store.keep outE m.dramErr }
  else { m with buf := Store.keep out m.buf, bufErr := Store.keep outE m.bufErr }

end Sys2Proof.Machine
end

