-- ==== Sys2Proof/Machine/Ring.lean ====
section
/-!
DEFINITION. Rings (R103 to R124, R127): ownership and enabling, doorbells and releases, completion entries and moderation,
ring errors, vectors and bus mastering; and the meanings of RING_OWNER_WRITE, RING_ENABLE, SUBMISSION_DOORBELL,
COMPLETION_RELEASE, RING_HALT_ENTRY, MODERATION_TIMER_EXPIRY, VECTOR_UNMASK, BUS_MASTER_*, VF_WINDOW_WRITE.
-/
namespace Sys2Proof.Machine

/-- State of ring `n`: 0 DISABLED, 1 ACTIVE, 2 RESETTING, 3 ERROR. -/
def Hub.ringState (h : Hub) (n : Nat) : Nat := h.get (R.RING_STAT_STATE n)

/-- Function that owns ring `n`: 0 PF, k + 1 VF k (R105). -/
def Hub.ringFn (h : Hub) (n : Nat) : Nat := h.get (R.RING_OWNER_FN n)

/-- Slots of ring `n`'s submission ring. -/
def Hub.sqSize (h : Hub) (n : Nat) : Nat := 2 ^ h.get (R.RING_SIZE_SQ_LOG2 n)

/-- Slots of ring `n`'s completion ring. [log: DEDUCED 31] -/
def Hub.cqSize (h : Hub) (n : Nat) : Nat := 2 ^ h.get (R.RING_SIZE_CQ_LOG2 n)

/-- Log an AER error against a function (R108): 0 Completer Abort, 1 Unsupported Request, 2 Poisoned TLP, 3 Completion
Timeout, 4 Unexpected Completion, 5 Malformed TLP, 6 Receiver Overflow, 7 Correctable Internal Error. -/
def Hub.aer (fn kind : Nat) (h : Hub) : Hub :=
  { h with pcie := { h.pcie with aer := nset h.pcie.aer fn (withBit (nget h.pcie.aer fn) kind true) } }

/-- VF `k` is present: VF Enable is set and `k` is below NumVFs (R103). -/
def Hub.vfHere (h : Hub) (k : Nat) : Bool := h.pcie.vfEn && decide (k < h.pcie.numVfs)

/-- The ring that is VF `k`'s local ring `r` (R105); an absent VF has no registers. -/
def Hub.localRing (h : Hub) (k r : Nat) : Option Nat :=
  if ¬ h.vfHere k then none else (List.range 256).find? fun n => h.ringFn n == k + 1 && h.get (R.RING_OWNER_LOCAL n) == r

/-- The full CQ head: RING_n_CQ_PTR holds bits 14 to 0, CQ_HEAD16 bit 15. -/
def Hub.cqHead (h : Hub) (n : Nat) : Nat := h.get (R.RING_CQ_PTR_CQ_HEAD n) + 2 ^ 15 * h.get (R.RING_CQ_HEAD16_BIT n)

/-- Set the CQ head. -/
def Hub.setCqHead (n v : Nat) (h : Hub) : Hub :=
  (h.put (R.RING_CQ_PTR_CQ_HEAD n) (v % 2 ^ 15)).put (R.RING_CQ_HEAD16_BIT n) (v / 2 ^ 15 % 2)

/-- A write by path `req` to the registers of its ring `n` (a VF's local ring number): a PF write to a VF-owned ring is
ignored and logged, a VF write to an unfilled slot is ignored (R105); no other path holds the block. -/
def Hub.ringWrite (req : Path) (n off : Nat) (v : Word) (f : Nat → Hub → Hub) (h : Hub) : Hub :=
  match req with
  | .vf k => match h.localRing k n with
    | some m => f m h
    | none => h
  | .pf => if h.ringFn n = 0 then f n h else h.logAccess 0x13 req (0x100000 + 0x100 * n + off) v.toNat
  | _ => h

/-! ## Completions (R117 to R122) -/

/-- Fire ring `n`'s vector (R121), the one its newest completion took from RING_n_IRQ (R110). A VEC that a change of OWNER has
left beyond the new owner's table is taken modulo the table's size. [log: DEDUCED 31] -/
def Hub.fire (n : Nat) (h : Hub) : Hub :=
  let r := h.ring n
  (h.setRing n { r with pend := 0, timer := false }).sendVector (h.ringFn n) (r.vec % vectorsOf (h.ringFn n))

/-- Moderation after a completion with `status` (R121): RING_n_IRQ and its timer take effect here (R110). -/
def Hub.moderate (n status : Nat) (h : Hub) : Hub :=
  if !h.on (R.RING_IRQ_EN n) then h
  else
    let r := { h.ring n with vec := h.get (R.RING_IRQ_VEC n) }
    let p := r.pend + 1
    let h := h.setRing n { r with pend := p }
    if status ≠ 0 ∨ max (h.get (R.RING_IRQ_COUNT n)) 1 ≤ p then h.fire n
    else if !r.timer && h.on (R.RING_IRQ_TIMER_US n) then h.setRing n { r with pend := p, timer := true }
    else h

/-- The 16 bytes of a completion entry (R117). -/
def Cpl.bytes (c : Cpl) (phase sqHead : Nat) : List Byte :=
  leBytes 4 c.tag ++ leBytes 2 c.status ++ [BitVec.ofNat 8 (phase + 16 * (c.eclass % 16)), 0] ++ leBytes 4 c.result
    ++ leBytes 2 sqHead ++ leBytes 2 c.slot

/-- Host address of completion slot `t`; bits 11 to 0 of the base are ignored (R109). -/
def Hub.cqAddr (h : Hub) (n t : Nat) : Nat :=
  h.get (R.RING_CQ_BASE_LO n) / 4096 * 4096 + 2 ^ 32 * h.get (R.RING_CQ_BASE_HI n) + 16 * t

/-- Change how many completion slots await release; CQ_FULL shows whether all do (R120). [log: DEDUCED 31] -/
def Hub.setUsed (n u : Nat) (h : Hub) : Hub :=
  let r := h.ring n
  (h.setRing n { r with used := u }).put (R.RING_STAT_CQ_FULL n) (b2n (decide (h.cqSize n ≤ u)))

/-- Write a completion entry: one 16-byte write at the CQ tail, which advances and inverts PHASE at each wrap (R118); then
moderation runs. -/
def Hub.writeCpl (n : Nat) (c : Cpl) (h : Hub) : Hub :=
  let t := h.get (R.RING_CQ_PTR_CQ_TAIL n)
  let ph := h.get (R.RING_CQ_PTR_PHASE n)
  let h := h.send (.hostWrite (h.ringFn n) (h.cqAddr n t) (c.bytes ph (h.get (R.RING_SQ_PTR_SQ_HEAD n))))
  let t1 := (t + 1) % h.cqSize n
  let h := (h.put (R.RING_CQ_PTR_CQ_TAIL n) t1).put (R.RING_CQ_PTR_PHASE n) (if t1 = 0 then 1 - ph else ph)
  let h := (h.setUsed n ((h.ring n).used + 1)).add64 (R.RING_DONE_LO n).off (R.RING_DONE_HI n).off 1
  (h.countEvent 2).moderate n c.status

/-- A completion of ring `n` may be written now: a released slot, and the function not paused (R120, R127). -/
def Hub.cplReady (h : Hub) (n : Nat) : Bool := decide ((h.ring n).used < h.cqSize n) && h.fnRuns (h.ringFn n)

/-- Write the held completions of `l` in order while slots are free; the rest stay held. -/
def Hub.flushList (n : Nat) : List Cpl → Hub → Hub
  | [], h => h.setRing n { h.ring n with held := [] }
  | c :: cs, h => if h.cplReady n then Hub.flushList n cs (h.writeCpl n c) else h.setRing n { h.ring n with held := c :: cs }

/-- Write the held completions that can be written (R120). -/
def Hub.flushHeld (n : Nat) (h : Hub) : Hub := h.flushList n (h.ring n).held

/-- A descriptor's completion is written, or held behind those that wait; a ring under reset writes none (R119, R120, R125). -/
def Hub.pushCpl (n : Nat) (c : Cpl) (h : Hub) : Hub :=
  if h.ringState n = 1 ∨ h.ringState n = 3 then
    if (h.ring n).held = [] ∧ h.cplReady n then h.writeCpl n c
    else h.setRing n { h.ring n with held := (h.ring n).held ++ [c] }
  else h

/-! ## Ring state -/

/-- Ring `n` enters ERROR with a cause (R124). -/
def Hub.ringError (n cause : Nat) (h : Hub) : Hub := (h.put (R.RING_STAT_STATE n) 3).put (R.RING_STAT_CAUSE n) cause

/-- SIZE holds sizes that R109 allows. -/
def Hub.sizesOk (h : Hub) (n : Nat) : Bool :=
  let a := h.get (R.RING_SIZE_SQ_LOG2 n)
  let b := h.get (R.RING_SIZE_CQ_LOG2 n)
  decide (4 ≤ a) && decide (a ≤ 16) && decide (4 ≤ b) && decide (b ≤ 16)

/-- Heads, tails and counters of ring `n` return to 0 and PHASE to 1. -/
def Hub.clearRing (n : Nat) (h : Hub) : Hub :=
  let h := ((h.put (R.RING_SQ_PTR_SQ_HEAD n) 0).put (R.RING_SQ_PTR_SQ_TAIL n) 0).put (R.RING_CQ_PTR_CQ_TAIL n) 0
  let h := ((h.setCqHead n 0).put (R.RING_CQ_PTR_PHASE n) 1).put (R.RING_STAT_CQ_FULL n) 0
  (h.put (R.DISP_RING_INFLIGHT n) 0).put (R.DISP_RING_HOLD n) 0

/-- ENABLE = 1 (R111): a disabled ring becomes ACTIVE, or ERROR with cause SIZE; ignored and logged while RESETTING. -/
def Hub.ringEnable (req : Path) (n : Nat) (h : Hub) : Hub :=
  if h.ringState n = 2 then h.logAccess 0x13 req (0x100014 + 0x100 * n) 1
  else if h.ringState n = 0 then
    let h := ((h.put (R.RING_CTRL_ENABLE n) 1).clearRing n).setRing n { RingS.empty with hints := (h.ring n).hints }
    if h.sizesOk n then (h.put (R.RING_STAT_STATE n) 1).put (R.RING_STAT_CAUSE n) 0 else h.ringError n 1
  else h

/-- RING_ENABLE (R111): a write of RING_n_CTRL with ENABLE = 1 through path `req`. -/
def execRingEnable (req : Path) (n : Nat) (s : State) : Host.Outcome State Fault Refusal :=
  s.act (Ok.ringEnable req n) (Hub.ringWrite req n 0x14 1 (Hub.ringEnable req))

/-- A RING_n_OWNER write is accepted (R105, R110). -/
def Hub.ownerOk (h : Hub) (n fn loc : Nat) : Bool :=
  !h.on (R.RING_CTRL_ENABLE n) &&
    (fn == 0 || (decide (fn ≤ 31) && decide (loc ≤ 47) &&
      (List.range 256).all fun m => m == n || h.ringFn m != fn || h.get (R.RING_OWNER_LOCAL m) != loc))

/-- A write of RING_n_OWNER, which only the PF holds. -/
def Hub.ownerWrite (req : Path) (n : Nat) (v : Word) (h : Hub) : Hub :=
  if h.ownerOk n (bitsOf v 0 5) (bitsOf v 8 6) then
    (h.put (R.RING_OWNER_FN n) (bitsOf v 0 5)).put (R.RING_OWNER_LOCAL n) (bitsOf v 8 6)
  else h.logAccess 0x13 req (0x100018 + 0x100 * n) v.toNat

/-- RING_OWNER_WRITE (R105). -/
def execRingOwnerWrite (req : Path) (n : Nat) (v : Word) (s : State) : Host.Outcome State Fault Refusal :=
  s.act (Ok.ringOwnerWrite req n v) (Hub.pfWrite req (Hub.ownerWrite req n v))

/-! ## Doorbells (R112 to R116) -/

/-- A dropped doorbell. [log: DEDUCED 31] -/
def Hub.dropDoorbell (f : RF) (h : Hub) : Hub := (h.bump f 1).countEvent 14

/-- A doorbell word of path `req` at its page `page`, offset `off`: logged before READY (R64); dropped on a ring of another
function, with a stale GEN, or in a state other than ACTIVE; else `f` takes its low half. [log: DEDUCED 31] -/
def Hub.doorbell (req : Path) (page off : Nat) (v : Word) (f : Nat → Nat → Hub → Hub) (h : Hub) : Hub :=
  let target := match req with
    | .pf => some page
    | .vf k => h.localRing k page
    | _ => none
  if !h.ready then h.logAccess 0x12 req (0x1000 * page + off) v.toNat
  else match target with
  | none => h
  | some n =>
    if req = .pf ∧ h.ringFn n ≠ 0 then h.dropDoorbell (R.RING_DB_CNT_DB_DROP n)
    else if bitsOf v 16 16 ≠ h.get (R.RING_STAT_GEN n) then h.dropDoorbell (R.RING_DB_CNT_DB_STALE n)
    else if h.ringState n ≠ 1 then h.dropDoorbell (R.RING_DB_CNT_DB_DROP n)
    else f n (bitsOf v 0 16) h

/-- A submission doorbell's PI (R114). -/
def Hub.postEntries (n pi : Nat) (h : Hub) : Hub :=
  if h.sqSize n ≤ pi then h.ringError n 2 else h.put (R.RING_SQ_PTR_SQ_TAIL n) pi

/-- SUBMISSION_DOORBELL (R112 to R114). -/
def execSubmissionDoorbell (req : Path) (page : Nat) (v : Word) (s : State) : Host.Outcome State Fault Refusal :=
  s.act (Ok.submissionDoorbell req page v) (Hub.doorbell req page 0 v Hub.postEntries)

/-- A completion release's CQH (R116): slots up to it are free, and held completions are written. -/
def Hub.releaseSlots (n cqh : Nat) (h : Hub) : Hub :=
  let size := h.cqSize n
  let k := (cqh + size - h.cqHead n) % size
  if size ≤ cqh ∨ (h.ring n).used < k then h.ringError n 3
  else ((h.setCqHead n cqh).setUsed n ((h.ring n).used - k)).flushHeld n

/-- COMPLETION_RELEASE (R116, R120). -/
def execCompletionRelease (req : Path) (page : Nat) (v : Word) (s : State) : Host.Outcome State Fault Refusal :=
  s.act (Ok.completionRelease req page v) (Hub.doorbell req page 4 v Hub.releaseSlots)

/-- RING_HALT_ENTRY (R124): once no started descriptor is left in an ERROR ring, the RING_HALT entry is written; its status
fires the vector at once, where the ring's interrupts are on (R121). Its SLOT and ECLASS, which no descriptor gives, are free.
[log: DEDUCED 31] -/
def execRingHaltEntry (n : Nat) (s : State) : Host.Outcome State Fault Refusal :=
  s.act (Ok.ringHaltEntry n) fun h =>
    let r := h.ring n
    if h.ringState n = 3 ∧ ¬ r.haltDone ∧ ¬ r.descs.any (·.started) then
      (h.drew.drew.setRing n { r with haltDone := true }).pushCpl n
        { tag := 0xFFFFFFFF, status := 0x14, eclass := h.free % 16, result := h.get (R.RING_STAT_CAUSE n),
          slot := h.drew.free % 65536 }
    else h

/-- MODERATION_TIMER_EXPIRY (R121). -/
def execModerationTimerExpiry (n : Nat) (s : State) : Host.Outcome State Fault Refusal :=
  s.act (Ok.moderationTimerExpiry n) fun h =>
    let r := h.ring n
    if r.timer then
      let h := h.setRing n { r with timer := false }
      if 0 < r.pend then h.fire n else h
    else h

/-! ## Vectors and bus mastering (R123, R127) -/

/-- Send a vector whose pending bit is set and which nothing holds back any more. -/
def Hub.sendPending (fn vec : Nat) (h : Hub) : Hub :=
  if h.vecPending fn vec ∧ nget h.pcie.msixEn fn ≠ 0 ∧ ¬ h.vecMasked fn vec ∧ h.fnRuns fn then
    (h.setPending fn vec false).send (.msix fn vec)
  else h

/-- Set or clear a vector's mask bit. -/
def Hub.setMask (fn vec v : Nat) (h : Hub) : Hub :=
  if fn = 0 then h.put (R.MSIX_CTRL_MASK vec) v
  else
    let k := 32 * (fn - 1) + 4 * vec + 3
    { h with pcie := { h.pcie with vfTable := Store.set vfTableReset h.pcie.vfTable k (BitVec.ofNat 32 (v % 2)) } }

/-- VECTOR_UNMASK (R123): a pending vector sends one message. -/
def execVectorUnmask (fn vec : Nat) (s : State) : Host.Outcome State Fault Refusal :=
  s.act (Ok.vectorUnmask fn vec) fun h => (h.setMask fn vec 0).sendPending fn vec

/-- BUS_MASTER_DISABLE (R127): Bus Master Enable is cleared, or the function enters D3hot. -/
def execBusMasterDisable (fn : Nat) (d3hot : Bool) (s : State) : Host.Outcome State Fault Refusal :=
  s.act (Ok.busMasterDisable fn d3hot) fun h =>
    if d3hot then { h with pcie := { h.pcie with d3 := nset h.pcie.d3 fn 1 } }
    else { h with pcie := { h.pcie with bme := nset h.pcie.bme fn 0 } }

/-- Bus Master Enable is set with the function in D0 (R127): its rings resume, held completions and pending messages go out.
[log: DESIGN CHOICE 32] -/
def Hub.busMasterOn (fn : Nat) (h : Hub) : Hub :=
  let h := { h with pcie := { h.pcie with bme := nset h.pcie.bme fn 1, d3 := nset h.pcie.d3 fn 0 } }
  let h := h.upto 256 fun n g => if g.ringFn n = fn then g.flushHeld n else g
  h.upto (vectorsOf fn) (Hub.sendPending fn)

/-! ## VF windows (R107) -/

/-- Every ring of VF `k` is disabled. -/
def Hub.vfIdle (h : Hub) (k : Nat) : Bool :=
  (List.range 256).all fun n => h.ringFn n != k + 1 || (h.ringState n == 0 && !h.on (R.RING_CTRL_ENABLE n))

/-- The bits that a word of GLB_VF_WIN_k holds. -/
def vfWinMask (w : Nat) : Word :=
  if w = 0 then 0x0000FFFF else if w = 1 then 0x07FF07FF else if w = 2 then 0xF1FFFFFF else 0x7FFFFFFF

/-- A write of word `w` of GLB_VF_WIN_k: accepted while every ring of VF k is disabled, else ignored and logged. -/
def Hub.vfWinWrite (req : Path) (k w : Nat) (v : Word) (h : Hub) : Hub :=
  let off := 0x200 + 0x10 * k + 4 * w
  if h.vfIdle k then h.setReg off (v &&& vfWinMask w) else h.logAccess 0x13 req off v.toNat

/-- VF_WINDOW_WRITE (R107). -/
def execVfWindowWrite (req : Path) (k w : Nat) (v : Word) (s : State) : Host.Outcome State Fault Refusal :=
  s.act (Ok.vfWindowWrite req k w v) (Hub.pfWrite req (Hub.vfWinWrite req k w v))

end Sys2Proof.Machine
end

