-- ==== Sys2Proof/Machine/Desc.lean ====
section
/-!
DEFINITION. Descriptors (R129 to R133, R139 to R153): their fields and checks, admission, starting, energy credit, batch
boundaries, and their end: signal, completion, moderation.
-/
namespace Sys2Proof.Machine

/-! ## Fields of the 64 bytes (R129) -/

/-- OPCODE. -/
def dOp (b : List Byte) : Nat := leAt b 0 1
/-- Bit `k` of FLAGS: 0 WAIT_EN, 1 SIGNAL_EN, 2 PRELOAD, 3 SUPERSEDE, 4 SIGNAL_ON_ERROR. -/
def dFlag (b : List Byte) (k : Nat) : Bool := bit (leAt b 1 1) k
/-- ECLASS. -/
def dEclass (b : List Byte) : Nat := leAt b 2 1 % 16
/-- OCLASS. -/
def dOclass (b : List Byte) : Nat := leAt b 2 1 / 16 % 4
/-- PRIO. -/
def dPrio (b : List Byte) : Nat := leAt b 2 1 / 64
/-- TAG. -/
def dTag (b : List Byte) : Nat := leAt b 4 4
/-- DEADLINE, µs. -/
def dDeadline (b : List Byte) : Nat := leAt b 8 4 % 2 ^ 24
/-- MODE: 0 NONE, 1 BEST, 2 STRICT. -/
def dMode (b : List Byte) : Nat := leAt b 8 4 / 2 ^ 24 % 4
/-- WCLEAT. -/
def dWcleat (b : List Byte) : Nat := leAt b 12 2 % 4096
/-- WCMP. -/
def dWcmp (b : List Byte) : Nat := leAt b 12 2 / 4096
/-- SCLEAT. -/
def dScleat (b : List Byte) : Nat := leAt b 20 2 % 4096
/-- SOP: 0 ADD, 1 SET. -/
def dSop (b : List Byte) : Nat := leAt b 20 2 / 4096
/-- AT_TIME of a CLEAT_WAIT; 0 of every other opcode. -/
def dAtTime (b : List Byte) : Nat := if dOp b = 0x10 then leAt b 28 8 else 0

/-- Space of an address operand (R130). -/
def addrSpace (a : Nat) : Nat := a / 2 ^ 60
/-- Offset of an address operand. -/
def addrOff (a : Nat) : Nat := a % 2 ^ 60

/-- A data mover: COPY, FILL, GATHER, SCATTER. -/
def isMover (op : Nat) : Bool := decide (1 ≤ op) && decide (op ≤ 4)

/-- An opcode that debits nothing (R142). -/
def isFree (op : Nat) : Bool := op == 0 || op == 0x10 || op == 0x11 || op == 0x12 || op == 0x13 || op == 0x28

/-- Space and offset a mover writes to or reads its contiguous side from, and its engine byte's place. -/
def dDest (b : List Byte) : Nat :=
  if dOp b = 1 then leAt b 36 8 else if dOp b = 2 then leAt b 28 8 else leAt b 40 8

/-- Length of a COPY or FILL. -/
def dLen (b : List Byte) : Nat := if dOp b = 1 then leAt b 44 4 else leAt b 36 4

/-! ## Checks at the fetch (R132) -/

/-- The opcode is listed (R133). -/
def opListed (op : Nat) : Bool :=
  [0x00, 0x01, 0x02, 0x03, 0x04, 0x08, 0x09, 0x0A, 0x10, 0x11, 0x12, 0x13, 0x18, 0x19, 0x1A, 0x20, 0x21, 0x28].contains op

/-- The operand bytes an opcode names, as ranges (R133); the others are reserved. -/
def opBytes (op : Nat) : List (Nat × Nat) :=
  if op = 0x01 ∨ op = 0x02 ∨ op = 0x03 ∨ op = 0x04 then [(28, 48)]
  else if op = 0x08 then [(28, 30), (32, 48)]
  else if op = 0x09 then [(28, 30), (32, 33)]
  else if op = 0x0A then [(28, 28), (32, 55)]
  else if op = 0x10 then [(28, 35)]
  else if op = 0x13 then [(28, 30), (32, 63)]
  else if op = 0x18 then [(28, 29), (32, 43)]
  else if op = 0x19 then [(28, 28), (32, 43)]
  else if op = 0x1A then [(28, 28), (32, 47)]
  else if op = 0x20 then [(28, 30), (32, 43)]
  else if op = 0x21 then [(28, 29), (32, 43)]
  else if op = 0x28 then [(28, 28), (32, 39)]
  else []

/-- Every reserved byte from 28 on reads 0. -/
def reservedZero (b : List Byte) : Bool :=
  (List.range 36).all fun i =>
    (opBytes (dOp b)).any (fun r => decide (r.1 ≤ i + 28) && decide (i + 28 ≤ r.2)) || b.getD (i + 28) 0 == 0

/-- A region operand with its reserved bits and code at legal values (R131). -/
def regionFields (r : Nat) : Bool := r / 2 ^ 60 % 4 == 0 && decide (r / 2 ^ 62 ≤ 1)

/-- Lengths, counts and codes of an opcode's operands lie in their stated ranges (R132, R133, R150, R292, R328). -/
def operandsOk (b : List Byte) : Bool :=
  let op := dOp b
  if op = 0x01 ∨ op = 0x02 then dLen b != 0
  else if op = 0x03 ∨ op = 0x04 then decide (1 ≤ leAt b 36 4) && decide (leAt b 36 4 ≤ 65536)
  else if op = 0x08 then
    decide (leAt b 28 1 < 4) && decide (leAt b 29 1 ≤ 1) && decide (64 ≤ leAt b 44 4) && leAt b 44 4 % 64 == 0
  else if op = 0x09 then decide (leAt b 28 1 < 4) && decide (leAt b 29 1 ≤ 1) && decide (leAt b 30 1 ≤ 1)
  else if op = 0x0A then decide (leAt b 28 1 < 4) && decide (leAt b 44 4 ≤ 65536) && regionFields (leAt b 48 8)
  else if op = 0x11 then dFlag b 1
  else if op = 0x13 then
    let c := leAt b 30 1
    decide (c % 4 ≤ 2) && c / 4 % 4 == 0 && decide (c / 16 ≤ 4) &&
      (List.range (c / 16)).all fun i => regionFields (leAt b (32 + 8 * i) 8)
  else if op = 0x18 then
    [1, 2, 3, 4, 0x10, 0x11, 0x12, 0x20].contains (leAt b 29 1) && leAt b 40 4 == 128
  else if op = 0x19 then decide (1 ≤ leAt b 40 4) && decide (leAt b 40 4 ≤ 1048576)
  else if op = 0x20 then decide (leAt b 29 1 ≤ 1) && leAt b 40 4 != 0
  else if op = 0x21 then decide (leAt b 29 1 ≤ 1) && leAt b 40 4 != 0
  else if op = 0x28 then
    decide (leAt b 28 1 ≤ 4) && decide (250 ≤ leAt b 36 4) && decide (leAt b 36 4 ≤ 16000000)
  else true

/-- No reserved field, bit or code is set, no flag is misplaced, and every value is in range (R129, R132). -/
def descFields (b : List Byte) : Bool :=
  let op := dOp b
  decide (leAt b 1 1 < 32) && leAt b 3 1 == 0 && decide (leAt b 8 4 < 2 ^ 26) && dMode b != 3
    && (dMode b == 0 || dDeadline b != 0)
    && (!dFlag b 0 || decide (dWcmp b ≤ 4))
    && (!dFlag b 1 || (decide (dSop b ≤ 1) && leAt b 22 2 == 0))
    && (!dFlag b 2 || isMover op || op == 0x21) && (!dFlag b 3 || op == 0x1A)
    && reservedZero b && operandsOk b

/-- `len` bytes at an address operand lie wholly inside its space (R130), and outside scratch (R326). A reserved SPACE code holds no
address, so it fails this check: BAD_ADDR. [log: DEDUCED 34] -/
def Hub.rangeOk (h : Hub) (a len : Nat) : Bool :=
  if addrSpace a = 1 ∧ h.inScratch (addrOff a) len then false
  else if addrSpace a ≤ 1 then decide (addrOff a + len ≤ h.spaceSize (addrSpace a)) && decide (addrOff a < h.spaceSize (addrSpace a))
  else addrSpace a == 2 && decide (addrOff a + len ≤ 2 ^ 60)

/-- A region lies inside its space; SIZE 0 is the whole of both (R131). -/
def Hub.regionOk (h : Hub) (r : Nat) : Bool :=
  r / 2 ^ 30 % 2 ^ 30 == 0 || decide (4096 * (r % 2 ^ 30 + r / 2 ^ 30 % 2 ^ 30) ≤ h.spaceSize (r / 2 ^ 62))

/-- The ranges of memory a descriptor's operands name, but for lists: address operand and length. -/
def dRanges (b : List Byte) : List (Nat × Nat) :=
  let op := dOp b
  if op = 0x01 then [(leAt b 28 8, dLen b), (leAt b 36 8, dLen b)]
  else if op = 0x02 then [(leAt b 28 8, dLen b)]
  else if op = 0x03 ∨ op = 0x04 then [(leAt b 28 8, 16 * leAt b 36 4), (leAt b 40 8, 1)]
  else if op = 0x08 then [(leAt b 36 8, leAt b 44 4)]
  else if op = 0x0A then (if leAt b 44 4 = 0 then [] else [(leAt b 36 8, leAt b 44 4)])
  else if op = 0x18 then [(leAt b 32 8, leAt b 40 4)]
  else if op = 0x19 then [(leAt b 32 8, 16 * leAt b 40 4)]
  else if op = 0x1A then [(leAt b 32 8, 64), (leAt b 40 8, 1)]
  else if op = 0x20 ∨ op = 0x21 then [(leAt b 32 8, leAt b 40 4)]
  else []

/-- The regions a descriptor names. -/
def dRegions (b : List Byte) : List Nat :=
  if dOp b = 0x0A then [leAt b 48 8]
  else if dOp b = 0x13 then (List.range (leAt b 30 1 / 16)).map fun i => leAt b (32 + 8 * i) 8
  else []

/-- The spaces an opcode's addresses may lie in: a stream's local range is buffer, a call's argument and Spar's records are
DRAM or buffer. -/
def spacesOk (b : List Byte) : Bool :=
  let op := dOp b
  (dRanges b).all fun r =>
    if op = 0x08 then addrSpace r.1 == 1
    else if op = 0x0A ∨ op = 0x18 ∨ op = 0x19 ∨ op = 0x1A then decide (addrSpace r.1 ≤ 1) else true

/-- Every address and region lies where it may. -/
def Hub.addrsOk (h : Hub) (b : List Byte) : Bool :=
  spacesOk b && (dRanges b).all (fun r => h.rangeOk r.1 r.2) && (dRegions b).all h.regionOk

/-- The ENGINE byte of a mover or stream names an engine below MAP_COUNT.ENG, or leaves the choice; a context and a port
exist. -/
def Hub.unitsOk (h : Hub) (b : List Byte) : Bool :=
  let op := dOp b
  if isMover op ∨ op = 0x08 then leAt b 48 1 == 0xFF || decide (leAt b 48 1 < h.get R.MAP_COUNT_ENG)
  else if op = 0x18 ∨ op = 0x19 ∨ op = 0x1A then decide (leAt b 28 1 < 32) && h.on R.MAP_COUNT_TILE
  else if op = 0x20 ∨ op = 0x21 then decide (leAt b 28 1 < 32)
  else true

/-- A range lies inside VF `k`'s window (R106); host memory has none. -/
def Hub.vfRange (h : Hub) (k a len : Nat) : Bool :=
  let o := addrOff a
  if addrSpace a = 0 then
    let base := h.get (R.GLB_VF_WIN0_DRAM_BASE k) * 2 ^ 30
    decide (base ≤ o) && decide (o + len ≤ base + h.get (R.GLB_VF_WIN0_DRAM_SIZE k) * 2 ^ 30)
  else if addrSpace a = 1 then
    let base := h.get (R.GLB_VF_WIN1_BANK_BASE k) * 262144
    decide (base ≤ o) && decide (o + len ≤ base + h.get (R.GLB_VF_WIN1_BANK_COUNT k) * 262144)
  else true

/-- A region lies inside VF `k`'s window; the whole-memory region does not. -/
def Hub.vfRegion (h : Hub) (k r : Nat) : Bool :=
  r / 2 ^ 30 % 2 ^ 30 != 0 && h.vfRange k (r / 2 ^ 62 * 2 ^ 60 + 4096 * (r % 2 ^ 30)) (4096 * (r / 2 ^ 30 % 2 ^ 30))

/-- Cleat `c` lies inside VF `k`'s window. -/
def Hub.vfCleat (h : Hub) (k c : Nat) : Bool :=
  decide (h.get (R.GLB_VF_WIN2_CLT_BASE k) ≤ c) &&
    decide (c < h.get (R.GLB_VF_WIN2_CLT_BASE k) + h.get (R.GLB_VF_WIN2_CLT_COUNT k))

/-- Everything a descriptor of VF `k` names lies in its window, and it uses no lane (R106). [log: DESIGN CHOICE 32] -/
def Hub.vfAllowed (h : Hub) (k : Nat) (b : List Byte) : Bool :=
  let op := dOp b
  op != 0x20 && op != 0x21
    && (!dFlag b 0 || h.vfCleat k (dWcleat b)) && (!dFlag b 1 || h.vfCleat k (dScleat b))
    && (!(op == 0x08 || op == 0x09 || op == 0x0A) || bit (h.get (R.GLB_VF_WIN2_SITES k)) (leAt b 28 1))
    && (!(op == 0x18 || op == 0x19 || op == 0x1A) || bit (h.get (R.GLB_VF_WIN3_SPAR_CTX k)) (leAt b 28 1))
    && (!(op == 0x28 && leAt b 28 1 != 0) || bit (h.get (R.GLB_VF_WIN2_SITES k)) (leAt b 28 1 - 1))
    && (dRanges b).all (fun r => h.vfRange k r.1 r.2) && (dRegions b).all (h.vfRegion k)

/-- The function may run the descriptor: context 31 is nobody's (R18), and a VF keeps to its window (R106). -/
def Hub.allowed (h : Hub) (fn : Nat) (b : List Byte) : Bool :=
  let spar := dOp b == 0x18 || dOp b == 0x19 || dOp b == 0x1A
  !(spar && leAt b 28 1 == 31) && (fn == 0 || h.vfAllowed (fn - 1) b)

/-- A port is enabled. -/
def Hub.portOn (h : Hub) (p : Nat) : Bool := decide (1 ≤ h.get (R.SER_PORT_STAT_STATE p)) && decide (h.get (R.SER_PORT_STAT_STATE p) ≤ 3)

/-- The length and the destination of a LANE_SEND or LANE_RECV suit its port's mode: 14 to 9,212 bytes of an Ethernet frame, a
crew ID below 64 that is not the hub's own, whole raw words (R295, R301, R304). A port that is not enabled has no mode. -/
def Hub.laneFields (h : Hub) (b : List Byte) : Bool :=
  let p := leAt b 28 1
  let mode := h.get (R.SER_PORT_CFG_MODE p)
  let len := leAt b 40 4
  !(dOp b == 0x20 || dOp b == 0x21) || !h.portOn p
    || (if mode = 0 then dOp b == 0x21 || (decide (14 ≤ len) && decide (len ≤ 9212))
        else if mode = 1 then dOp b == 0x21 || (decide (leAt b 30 1 ≤ 63) && leAt b 30 1 != h.get R.CREW_CTRL_ID)
        else len % 8 == 0)

/-- The status a descriptor's checks end in: 0, or the first that fails of BAD_OPCODE, BAD_DESC, BAD_ADDR, BAD_UNIT,
ACCESS_DENIED (R132). -/
def Hub.descCheck (h : Hub) (fn : Nat) (b : List Byte) : Nat :=
  if !opListed (dOp b) then 1
  else if !(descFields b && h.laneFields b) then 2
  else if !h.addrsOk b then 3
  else if !h.unitsOk b then 4
  else if !h.allowed fn b then 5
  else 0

/-! ## Energy pools (R142 to R145) -/

/-- Energy a descriptor debits at its start, µJ (R142). -/
def dDebit (b : List Byte) : Nat := if isFree (dOp b) then 0 else if dEclass b = 15 then 32768 else 2 ^ dEclass b

/-- Pool a descriptor draws on (R144). -/
def dPool (b : List Byte) : Nat := if dOp b = 0x0A then 1 + leAt b 28 1 else 0

/-- Balance of pool `p`, µJ. -/
def Hub.balance (h : Hub) (p : Nat) : Int := signed 32 (h.get (R.DISP_POOL1_BALANCE p))

/-- Set a pool's balance. -/
def Hub.setBalance (p : Nat) (v : Int) (h : Hub) : Hub := h.put (R.DISP_POOL1_BALANCE p) (unsigned 32 v)

/-- The pool affords `debit`: B is at least the debit, or B is all of a smaller grant (R144). -/
def Hub.affords (h : Hub) (p debit : Nat) : Bool :=
  let g := h.get (R.DISP_POOL_GRANT p)
  decide ((debit : Int) ≤ h.balance p) || (decide (g < debit) && h.balance p == (g : Int))

/-- A hint's share of one epoch: 250 µs ÷ horizon (R348). -/
def hintShare (x : Nat × Nat × Nat) : Nat := x.2.1 * 250 / x.2.2

/-- Demand on pool `p`: debits of fetched, unstarted descriptors plus hints for this epoch. -/
def Hub.demandOf (h : Hub) (p : Nat) : Nat :=
  h.rings.foldl (fun a e =>
    a + (e.2.descs.foldl (fun a d => if !d.started && dPool d.bytes == p then a + dDebit d.bytes else a) 0)
      + (e.2.hints.foldl (fun a x => if x.1 = p then a + hintShare x else a) 0)) 0

/-- Descriptors held for credit in pool `p`. -/
def Hub.heldOf (h : Hub) (p : Nat) : Nat :=
  h.rings.foldl (fun a e => a + (e.2.descs.filter fun d => d.inCredit && dPool d.bytes == p).length) 0

/-- Show DEMAND and HELD of every pool. -/
def Hub.showPools (h : Hub) : Hub :=
  h.upto 5 fun p g => (g.put (R.DISP_POOL2_DEMAND p) (satNat 32 (h.demandOf p))).put (R.DISP_POOL3_HELD p) (satNat 16 (h.heldOf p))

/-! ## Boundaries (R150 to R153) -/

/-- A tail descriptor of the open BOUNDARY `b`. -/
def Bound.tail (b : Bound) (d : Desc) : Bool := decide (d.group ≤ b.group) && d.id != b.id

/-- Some tail descriptor has not completed. -/
def RingS.tailOpen (r : RingS) : Bool :=
  match r.bound with
  | none => false
  | some b => r.descs.any b.tail

/-- Some tail descriptor has not drained its writes (R152). -/
def RingS.tailUndrained (r : RingS) : Bool :=
  match r.bound with
  | none => false
  | some b => r.descs.any fun d => b.tail d && !d.drained

/-- Show the open BOUNDARY's tail count in DISP_BND_n. -/
def Hub.showTail (n : Nat) (h : Hub) : Hub :=
  let r := h.ring n
  match r.bound with
  | none => (h.put (R.DISP_BND_OPEN n) 0).put (R.DISP_BND_TAIL_LEFT n) 0
  | some b => (h.put (R.DISP_BND_OPEN n) 1).put (R.DISP_BND_TAIL_LEFT n) (satNat 8 (r.descs.filter b.tail).length)

/-- First byte and length a region covers in its space; SIZE 0 covers all. -/
def regionSpan (r : Nat) : Nat × Nat × Nat := (r / 2 ^ 62, 4096 * (r % 2 ^ 30), 4096 * (r / 2 ^ 30 % 2 ^ 30))

/-- The byte at address operand `a` lies in region `r`. -/
def inRegion (a r : Nat) : Bool :=
  let s := regionSpan r
  s.2.2 == 0 || (addrSpace a == s.1 && decide (s.2.1 ≤ addrOff a) && decide (addrOff a < s.2.1 + s.2.2))

/-- Every one of `len` bytes at an address operand lies in some region of `l`, which are followed one after another: `k` is how
many may be needed. -/
def covered (l : List Nat) : Nat → Nat → Nat → Bool
  | 0, _, len => len == 0
  | k + 1, a, len =>
    len == 0 || match l.find? (inRegion a) with
      | none => false
      | some r =>
        let s := regionSpan r
        s.2.2 == 0 || (let n := s.2.1 + s.2.2 - addrOff a; covered l k (a + n) (len - n))

/-- A range and a region share a byte. -/
def meetsRegion (a len r : Nat) : Bool :=
  let s := regionSpan r
  decide (addrSpace a ≤ 1) && (s.2.2 == 0 || (addrSpace a == s.1 && decide (addrOff a < s.2.1 + s.2.2) && decide (s.2.1 < addrOff a + len)))

/-- Two regions share a byte. -/
def regionsMeet (q r : Nat) : Bool :=
  let s := regionSpan q
  s.2.2 == 0 || (regionSpan r).2.2 == 0 || meetsRegion (s.1 * 2 ^ 60 + s.2.1) s.2.2 r

/-- Total length of a list. -/
def listLen (l : List (Nat × Nat)) : Nat := l.foldl (fun a e => a + e.2) 0

/-- The ranges a descriptor writes, as far as they are known. -/
def Desc.writes (d : Desc) : List (Nat × Nat) :=
  let op := dOp d.bytes
  if op = 0x01 ∨ op = 0x02 then [(dDest d.bytes, dLen d.bytes)]
  else if op = 0x03 then [(dDest d.bytes, listLen d.list)]
  else if op = 0x04 then d.list
  else if op = 0x21 then [(leAt d.bytes 32 8, leAt d.bytes 40 4)]
  else if op = 0x08 ∧ leAt d.bytes 29 1 = 1 then [(leAt d.bytes 36 8, leAt d.bytes 44 4)]
  else []

/-- Every range of a list that reaches byte `k` or beyond lies in host memory. -/
def listHostFrom : List (Nat × Nat) → Nat → Bool
  | [], _ => true
  | e :: l, k => (decide (e.2 ≤ k) || decide (2 ≤ addrSpace e.1)) && listHostFrom l (k - e.2)

/-- A mover writes neither DRAM nor buffer from its byte `k` on (R152). -/
def Desc.hostFrom (d : Desc) (k : Nat) : Bool :=
  if dOp d.bytes = 4 then listHostFrom d.list k else decide (2 ≤ addrSpace (dDest d.bytes))

/-- The ranges a descriptor reads, as far as they are known. -/
def Desc.reads (d : Desc) : List (Nat × Nat) :=
  let op := dOp d.bytes
  if op = 0x01 then [(leAt d.bytes 28 8, dLen d.bytes)]
  else if op = 0x03 then (leAt d.bytes 28 8, 16 * leAt d.bytes 36 4) :: d.list
  else if op = 0x04 then [(leAt d.bytes 28 8, 16 * leAt d.bytes 36 4), (dDest d.bytes, listLen d.list)]
  else if op = 0x08 ∧ leAt d.bytes 29 1 = 0 then [(leAt d.bytes 36 8, leAt d.bytes 44 4)]
  else dRanges d.bytes

/-- A PRELOAD's writes to DRAM and buffer all lie in the fresh regions; host writes are not checked (R153). -/
def Bound.fresh (b : Bound) (d : Desc) : Bool :=
  d.writes.all fun w => decide (2 ≤ addrSpace w.1) || covered b.regions b.regions.length w.1 w.2

/-- The fresh regions a descriptor writes. -/
def Bound.written (b : Bound) (d : Desc) : List Nat := b.regions.filter fun r => d.writes.any fun w => meetsRegion w.1 w.2 r

/-- ADMM_QP (R328). -/
def isAdmm (m : Nat) : Bool := m == 0x20
/-- Elements of a context's solution. -/
def SparCtx.outLen (x : SparCtx) : Nat := x.n + (if isAdmm x.method then x.m else 0)
/-- Element width. -/
def SparCtx.width (x : SparCtx) : Nat := if x.prec = 0 then 8 else 4
/-- FLAGS bits: 0 WARM, 1 REFACTOR, 2 FACTOR_ONLY (R333). -/
def RunRec.flag (r : RunRec) (k : Nat) : Bool := bit r.flags k

/-- The ranges a run reads and writes beside its result record: RHS, X0, output. -/
def SparCtx.runRanges (x : SparCtx) (r : RunRec) : List (Nat × Nat) :=
  [ (r.rhs, if isAdmm x.method then 0 else x.n * x.width), (r.x0, if r.x0 = 0 then 0 else x.outLen * x.width),
    (r.out, if r.flag 2 then 0 else x.outLen * x.width) ]

/-- Context `k`. -/
def Hub.ctx (h : Hub) (k : Nat) : SparCtx := Store.get (fun _ => SparCtx.empty) h.spar.ctxs k

/-- The ranges descriptor `d` of ring `n` is known to read or write beside those its own bytes name: of a SOLVE_RUN those of its
run record, under the structure of its context, and of a SOLVE_PATCH or SOLVE_SETUP the context's store (R153). -/
def Hub.sparRanges (h : Hub) (n : Nat) (d : Desc) : List (Nat × Nat) :=
  if dOp d.bytes = 0x18 ∨ dOp d.bytes = 0x19 ∨ dOp d.bytes = 0x1A then
    let x := h.ctx (leAt d.bytes 28 1)
    let run := match (x.queue.find? fun o => o.ring == n && o.desc == d.id).bind fun o => o.run with
      | none => []
      | some r => (r.result, 64) :: x.runRanges r
    (x.store, x.storeUse) :: run
  else []

/-- A tail descriptor of ring `n` touches one of the regions `l` (R153): its ranges, or a call's footprint. -/
def Hub.touches (h : Hub) (n : Nat) (t : Desc) (l : List Nat) : Bool :=
  l.any fun r => (t.reads ++ t.writes ++ h.sparRanges n t).any (fun w => w.2 != 0 && meetsRegion w.1 w.2 r) ||
    (dOp t.bytes == 0x0A && regionsMeet (leAt t.bytes 48 8) r)

/-- A PRELOAD head descriptor under an open fence other than FULL whose tail has not completed. -/
def RingS.preloading (r : RingS) (d : Desc) : Bool :=
  dFlag d.bytes 2 && r.tailOpen && match r.bound with
    | none => false
    | some b => b.fence != 0 && decide (b.group < d.group)

/-- The FENCE and BOUNDARY rules let `d` of ring `n` start (R149, R151, R152, R153), apart from a PRELOAD's overlap grant. -/
def Hub.fenceOk (h : Hub) (n : Nat) (d : Desc) : Bool :=
  let r := h.ring n
  if dOp d.bytes = 0x12 then !(r.descs.any fun e => decide (e.id < d.id))
  else if dOp d.bytes = 0x13 then r.bound.isNone
  else match r.bound with
    | none => true
    | some b =>
      if r.preloading d then !(r.descs.any fun t => b.tail t && h.touches n t (b.written d))
      else if b.fence = 0 then !r.tailOpen
      else if b.fence = 1 then !r.tailUndrained
      else true

/-! ## Which descriptor may be considered (R147) -/

/-- The oldest unstarted descriptor. -/
def RingS.oldest (r : RingS) : Option Desc := r.descs.find? fun d => !d.started

/-- `d` is the oldest unstarted descriptor of ring `n`, or the oldest unstarted PRELOAD while the fence holds the head before it,
with no FENCE or BOUNDARY between. -/
def Hub.candidate (h : Hub) (n : Nat) (d : Desc) : Bool :=
  let r := h.ring n
  match r.oldest with
  | none => false
  | some o =>
    o.id == d.id ||
      (r.preloading d && !(dFlag o.bytes 2) && !h.fenceOk n o
        && !(r.descs.any fun e => !e.started && decide (e.id < d.id)
              && (dFlag e.bytes 2 || dOp e.bytes == 0x12 || dOp e.bytes == 0x13)))

/-! ## The end of a descriptor (R139 to R143) -/

/-- The signal of a descriptor of function `fn` is performed (R140): its fields pass R132, a VF's window (R106) among them. -/
def Hub.signals (h : Hub) (fn : Nat) (b : List Byte) (status : Nat) : Bool :=
  dFlag b 1 && decide (dSop b ≤ 1) && leAt b 22 2 == 0 && (fn == 0 || h.vfCleat (fn - 1) (dScleat b)) &&
    (status == 0 || status == 0x0B || status == 0x44 || status == 0x48 || dFlag b 4)

/-- Perform a descriptor's signal on its cleat (R129). -/
def Hub.signal (b : List Byte) (h : Hub) : Hub :=
  if dSop b = 0 then h.cleatAdd (dScleat b) (leAt b 24 4) else h.cleatSet (dScleat b) (leAt b 24 4)

/-- The smallest energy class that covers `e` µJ, or 15 (R143). -/
def eclassOf (e : Nat) : Nat := ((List.range 15).find? fun k => decide (e ≤ 2 ^ k)).getD 15

/-- Trim counts the measured energy and the debit of a completed descriptor for its pool (R349). -/
def Hub.countEnergy (p energy debit : Nat) (h : Hub) : Hub :=
  { h with trim := { h.trim with done := nset h.trim.done p (nget h.trim.done p + energy),
                                 debits := nset h.trim.debits p (nget h.trim.debits p + debit) } }

/-- At completion the debit is credited back and the measured energy debited (R143). -/
def Hub.settle (d : Desc) (energy : Nat) (h : Hub) : Hub :=
  if d.debit = 0 then h
  else (h.setBalance (dPool d.bytes) (h.balance (dPool d.bytes) + d.debit - energy)).countEnergy (dPool d.bytes) energy d.debit

/-- LATE in place of OK when a BEST deadline has passed (R141), but never of a SOLVE_RUN (R341). -/
def lateStatus (d : Desc) (status : Nat) : Nat :=
  if status = 0 ∧ d.late ∧ dMode d.bytes = 1 ∧ dOp d.bytes ≠ 0x1A then 0x0B else status

/-- Remove a descriptor and end it: its energy is settled, its signal performed, its completion written (R140). Nothing is
completed or signalled by a ring under reset (R125). -/
def Hub.endDesc (n : Nat) (d : Desc) (status result energy : Nat) (h : Hub) : Hub :=
  let st := lateStatus d status
  let r := h.ring n
  let h := h.setRing n { r with descs := r.descs.filter fun e => e.id != d.id }
  let h := h.dropWaits fun w => w.who == .desc n d.id
  let h := h.settle d energy
  let h := if d.started then h.put (R.DISP_RING_INFLIGHT n) (h.get (R.DISP_RING_INFLIGHT n) - 1) else h
  if h.ringState n = 1 ∨ h.ringState n = 3 then
    let h := if h.signals (h.ringFn n) d.bytes st then h.signal d.bytes else h
    h.pushCpl n { tag := dTag d.bytes, status := st, eclass := eclassOf energy, result := result, slot := d.slot }
  else h

/-- When the last tail descriptor has completed, the open BOUNDARY completes with its signal (R151). -/
def Hub.closeBound (n : Nat) (h : Hub) : Hub :=
  let r := h.ring n
  match r.bound with
  | none => h
  | some b =>
    if r.tailOpen then h
    else match r.descs.find? fun d => d.id == b.id with
      | none => h.setRing n { r with bound := none }
      | some d => (h.setRing n { r with bound := none }).endDesc n d 0 (h.get (R.DISP_BND1_PRELOADS n)) 0

/-- End a descriptor, then the BOUNDARY whose tail it closed; the dispatcher's views follow. -/
def Hub.finish (n : Nat) (d : Desc) (status result energy : Nat) (h : Hub) : Hub :=
  (((h.endDesc n d status result energy).closeBound n).showTail n).showPools

/-- The descriptor of ring `n` numbered `id`. -/
def Hub.desc (h : Hub) (n id : Nat) : Option Desc := (h.ring n).descs.find? fun d => d.id == id

/-- The measured peak exceeds the declared ratio of peak to mean (R146). -/
def oclassMiss (c peak mean : Nat) : Bool :=
  if c = 0 then decide (5 * mean < 4 * peak) else if c = 1 then decide (2 * mean < peak)
  else if c = 2 then decide (4 * mean < peak) else false

/-- A started descriptor's measured peak and mean power are held against its OCLASS (R146). -/
def Hub.judgePeak (b : List Byte) (peak mean : Nat) (h : Hub) : Hub :=
  if oclassMiss (dOclass b) peak mean then h.bump R.DISP_OCLASS_MISS_COUNT 1 else h

/-- The same with a peak and mean the hub's counters measured and no command carries: free values. [log: DESIGN CHOICE 3] -/
def Hub.freePeak (b : List Byte) (h : Hub) : Hub := h.drew.drew.judgePeak b h.free h.drew.free

/-- End descriptor `id` of ring `n`, if it is still there, with energy, peak and mean the hub's counters measured: free values, as
no rule gives them (assumption 3); the energy of a SITE_CALL whose site reported none is the declared debit (R143). -/
def Hub.finishId (n id status result : Nat) (h : Hub) : Hub :=
  match h.desc n id with
  | none => h
  | some d =>
    if d.debit = 0 then h.finish n d status result 0
    else if dOp d.bytes = 0x0A then (h.freePeak d.bytes).finish n d status result d.debit
    else (h.drew.freePeak d.bytes).finish n d status result h.free

/-! ## Admission (R147, R148) -/

/-- What admission answers. -/
inductive Verdict where
  | hold (reason : Nat)
  | done (status : Nat)
  | go
deriving DecidableEq, Repr

/-- `d` has a wait: a cleat condition or an AT_TIME (R148). -/
def Desc.waits (d : Desc) : Bool := dFlag d.bytes 0 || dAtTime d.bytes != 0

/-- The wait of `d` holds, judged now (R137, R158): its AT_TIME is reached and its cleat condition holds, together; once both have,
that latches. -/
def Hub.waitHolds (h : Hub) (d : Desc) : Bool :=
  d.waitOk || (h.timeReached (dAtTime d.bytes) &&
    (!dFlag d.bytes 0 || cmpHolds (dWcmp d.bytes) (h.get (R.CLT_VALUE (dWcleat d.bytes))) (leAt d.bytes 16 4)))

/-- The STRICT deadline of `d` has passed (R141, R148). -/
def Hub.strictPast (h : Hub) (d : Desc) : Bool :=
  dMode d.bytes == 2 && (d.late || decide (d.at_ + 1000 * dDeadline d.bytes ≤ h.clock))

/-- `d` would be ready for credit: its deadline, wait and fence let it pass (pure part of R148). [log: DEDUCED 34] -/
def Hub.readyForCredit (h : Hub) (n : Nat) (d : Desc) : Bool :=
  !h.strictPast d && h.waitHolds d && h.fenceOk n d && h.candidate n d

/-- The dispatcher's order among descriptors ready for credit in one pool (R145): PRIO, a reserving one first, then rings
round-robin after the one served last. -/
def Hub.ahead (h : Hub) (n : Nat) (d : Desc) (m : Nat) (e : Desc) : Bool :=
  let last := nget h.disp.rr (4 * dPool d.bytes + dPrio d.bytes)
  let turn (k : Nat) : Nat := (k + 512 - last) % 256
  decide (dPrio e.bytes < dPrio d.bytes) ||
    (dPrio e.bytes == dPrio d.bytes &&
      (decide (e.epochs < 2 ∧ 2 ≤ d.epochs) || (decide (e.epochs < 2 ↔ d.epochs < 2) && decide (turn n < turn m))))

/-- The quad of domain `n` (D69 to D72) holds a logical tile: a physical tile that is Live and serving (R85, R327). -/
def Hub.quadHasTile (h : Hub) (n : Nat) : Bool :=
  (List.range 18).any fun p =>
    (if p < 5 then 69 else if p < 10 then 70 else if p < 14 then 71 else 72) == n && h.get ⟨0x51200 + 4 * p, 0, 3⟩ == 0

/-- The domains a descriptor's units need (R148): streams and movers the engines, Spar's operations one quad, lanes their
port's quads, calls and streams their site. -/
def Hub.domainsOf (h : Hub) (b : List Byte) : List Nat :=
  let op := dOp b
  if isMover op then [73]
  else if op = 0x08 then [73, 56 + leAt b 28 1]
  else if op = 0x0A then [56 + leAt b 28 1]
  else if op = 0x18 ∨ op = 0x19 ∨ op = 0x1A then (match [69, 70, 71, 72].filter h.quadHasTile with
      | [] => [69]
      | q :: qs => match (q :: qs).filter h.domOn with
        | [] => [q]
        | on => match on.filter fun k => !h.niHeld k with
          | [] => on.take 1
          | k :: _ => [k])
  else if op = 0x20 ∨ op = 0x21 then
    let p := leAt b 28 1
    (List.range 8).filterMap fun q =>
      let first := h.get (R.SER_PORT_CFG_FIRST p)
      if h.on (R.SER_PORT_CFG_EN p) ∧ first / 4 ≤ q ∧ q ≤ (first + h.get (R.SER_PORT_CFG_WIDTH p) - 1) / 4 then some (60 + q)
      else none
  else []

/-- Ask Reef for a domain on demand; one the firmware holds off stays off (R37). -/
def Hub.demandDom (n : Nat) (h : Hub) : Hub :=
  if h.domState n = 0 ∧ h.get (R.PWR_DOM_REQ n) ≠ 2 ∧ nget h.power.barred n = 0 then h.askOn n else h

/-- The pool's balance and the overlap grant both cover the debit of `d` (R153, R358). -/
def Hub.overlapCredit (h : Hub) (d : Desc) : Bool :=
  decide ((dDebit d.bytes : Int) ≤ h.balance (dPool d.bytes)) && decide (dDebit d.bytes ≤ h.get R.DISP_OVL1_LEFT)

/-- Credit and Reef allow an overlap start of `d` in ring `n` (R153). [log: DEDUCED 34] -/
def Hub.overlapOk (h : Hub) (n : Nat) (d : Desc) : Bool := h.overlapCredit d && (!h.reefOn || h.stepAdmitted 4 (overlapUnit n d.id))

/-- The step of an overlap start, mW: r × debit ÷ 250 µs, with r 1.25, 2, 4 and 4 for the overlap classes (R348).
[log: DEDUCED 34] -/
def overlapStep (b : List Byte) : Nat := [5, 8, 16, 16].getD (dOclass b) 16 * dDebit b

/-- A descriptor of ring `n` cannot be considered at all: 5 in-flight limit, 6 completion ring full, 7 host (R120, R127,
R147). 0 is no such hold. -/
def Hub.ringHold (h : Hub) (n : Nat) : Nat :=
  if !h.fnRuns (h.ringFn n) then 7
  else if h.on (R.RING_STAT_CQ_FULL n) then 6
  else if 64 ≤ h.get (R.DISP_RING_INFLIGHT n) then 5
  else 0

/-- Another ring's descriptor comes before `d` in its pool: a ready one, PRELOAD or not, that can start, or a reserving one of equal
or higher PRIO (R145). A ring that holds its descriptors for another reason holds back no other. -/
def Hub.outranked (h : Hub) (n : Nat) (d : Desc) : Bool :=
  h.rings.any fun x =>
    x.1 != n && h.ringState x.1 == 1 && h.ringHold x.1 == 0 && x.2.descs.any fun e =>
      !e.started && dPool e.bytes == dPool d.bytes && !isFree (dOp e.bytes) && h.readyForCredit x.1 e && h.ahead x.1 e n d &&
        (decide (2 ≤ e.epochs) ||
          (h.affords (dPool e.bytes) (dDebit e.bytes) && (!x.2.preloading e || h.overlapOk x.1 e)))

/-- The site a SITE_CALL or stream operation names is not live (corner of R145, R139). -/
def Hub.siteGone (h : Hub) (b : List Byte) : Bool :=
  (dOp b == 0x0A || dOp b == 0x08 || dOp b == 0x09) && !(h.siteLive (leAt b 28 1) && h.siteUp (leAt b 28 1))

/-- Why a LANE_SEND or LANE_RECV does not execute on its port (R292, R295, R301, R304): LANE_DOWN where the port is not UP,
BAD_DESC; 0 when it does. -/
def Hub.laneStatus (h : Hub) (b : List Byte) : Nat :=
  if !(dOp b == 0x20 || dOp b == 0x21) then 0
  else if h.get (R.SER_PORT_STAT_STATE (leAt b 28 1)) ≠ 2 then 0x12
  else if h.laneFields b then 0
  else 2

/-- The domains `d` needs are ON, and none holds new traffic (R40, R148). -/
def Hub.domainsOk (h : Hub) (b : List Byte) : Bool := (h.domainsOf b).all fun n => h.domOn n && !h.niHeld n

/-- The checks of R148 in their order. -/
def Hub.verdict (h : Hub) (n : Nat) (d : Desc) : Verdict :=
  let r := h.ring n
  if h.strictPast d then .done 0x0A
  else if !h.waitHolds d then (if d.timedOut then .done 0x09 else .hold 1)
  else if r.preloading d && !(match r.bound with | none => true | some b => b.fresh d) then .done 0x0C
  else if !h.fenceOk n d then .hold 2
  else if h.siteGone d.bytes then .done 0x0F
  else if h.laneStatus d.bytes ≠ 0 then .done (h.laneStatus d.bytes)
  else if !isFree (dOp d.bytes) && (!h.affords (dPool d.bytes) (dDebit d.bytes) || h.outranked n d) then .hold 3
  else if r.preloading d && !h.overlapOk n d then .hold 3
  else if !h.domainsOk d.bytes then .hold 4
  else .go

/-- Judging latches a wait that holds; the first judgement of one that does not starts its timeout and registers its cleat
condition (R157, R158). [log: DEDUCED 34] -/
def Hub.judgeWait (n : Nat) (d : Desc) (h : Hub) : Hub :=
  if !d.waits || d.waitOk then h
  else
    let ok := h.waitHolds d
    let v := if ok && dFlag d.bytes 0 then h.get (R.CLT_VALUE (dWcleat d.bytes)) else d.result
    let h := h.onDesc n d.id fun x => { x with waitOk := ok, judged := true, result := v }
    if ok then (if d.judged then h.dropWaits fun w => w.who == .desc n d.id else h)
    else if d.judged || !dFlag d.bytes 0 then h
    else h.cleatWait
      { who := .desc n d.id, cleat := dWcleat d.bytes, cmp := dWcmp d.bytes, value := leAt d.bytes 16 4, time := dAtTime d.bytes }

/-- Start a descriptor (R148): the debit is taken, the overlap grant spent, and it counts in flight. What drains at its start is as
R152 lists it; a STREAM_CLOSE, which R152 does not list, drains at its end. [log: DEDUCED 34; DESIGN CHOICE 35; DEDUCED 57] -/
def Hub.startDesc (n : Nat) (d : Desc) (h : Hub) : Hub :=
  let ovl := (h.ring n).preloading d
  let debit := dDebit d.bytes
  let h := if debit = 0 then h else h.setBalance (dPool d.bytes) (h.balance (dPool d.bytes) - debit)
  let h := if debit = 0 then h
    else { h with disp := { h.disp with rr := nset h.disp.rr (4 * dPool d.bytes + dPrio d.bytes) (n + 1) } }
  let h := if ovl then
      ((h.put R.DISP_OVL1_LEFT (h.get R.DISP_OVL1_LEFT - debit)).bump (R.DISP_BND1_PRELOADS n) 1).dropStep 4 (overlapUnit n d.id) else h
  let op := dOp d.bytes
  let early := (isMover op && d.hostFrom 0) || op == 0x20
    || (op == 0x21 && decide (2 ≤ addrSpace (leAt d.bytes 32 8)))
    || (op == 0x08 && leAt d.bytes 29 1 == 0) || isFree op
  let h := h.onDesc n d.id fun x => { x with started := true, debit := debit, ovl := ovl, inCredit := false, drained := early }
  ((h.bump (R.DISP_RING_INFLIGHT n) 1).countEvent 1).put (R.DISP_RING_HOLD n) 0

/-- A hold: its reason is shown, a credit hold is counted when it begins, a domain is asked for, an overlap step is put to
Reef. [log: DEDUCED 34] -/
def Hub.holdDesc (n : Nat) (d : Desc) (reason : Nat) (h : Hub) : Hub :=
  let h := h.put (R.DISP_RING_HOLD n) reason
  let h := if reason = 3 ∧ ¬ d.inCredit then h.countEvent 5 else h
  let h := h.onDesc n d.id fun x => { x with inCredit := decide (reason = 3) }
  let h := if reason = 4 then h.each (h.domainsOf d.bytes) Hub.demandDom else h
  if reason = 3 ∧ (h.ring n).preloading d then
    h.addStep { kind := 4, unit := overlapUnit n d.id, mw := overlapStep d.bytes, expo := overlapStep d.bytes, sense := 0, adm := false }
  else h

/-- The admission checks of `d` run: it is unstarted and in its place; never before READY, in a ring that is not ACTIVE, or once a
last gasp has stopped dispatch. -/
def Hub.considers (h : Hub) (n : Nat) (d : Desc) : Bool :=
  !d.started && h.candidate n d && h.ringState n == 1 && h.ready && !h.yew.dispStop

/-- Admission ends `d` unstarted with a status: a region violation and a wait's timeout are counted. -/
def Hub.endUnstarted (n : Nat) (d : Desc) (st : Nat) (h : Hub) : Hub :=
  let h := if st = 0x0C then h.bump (R.DISP_BND1_VIOL n) 1 else h
  let h := if st = 0x09 then h.countEvent 4 else h
  h.finish n d st 0 0

/-- The dispatcher considers descriptor `id` of ring `n` if its opcode is `op`: it starts, is held, or completes with a
status (R148). -/
def Hub.consider (op n id : Nat) (h : Hub) : Hub :=
  match h.desc n id with
  | none => h
  | some d =>
    if dOp d.bytes ≠ op ∨ ¬ h.considers n d then h
    else if h.ringHold n ≠ 0 then h.put (R.DISP_RING_HOLD n) (h.ringHold n)
    else
      let h := h.judgeWait n d
      match h.desc n id with
      | none => h
      | some d =>
        match h.verdict n d with
        | .hold r => (h.holdDesc n d r).showPools
        | .done st => h.endUnstarted n d st
        | .go => (h.startDesc n d).showPools

/-- The descriptor of ring `n` numbered `id` runs: it has opcode `op`, has started, and its work has not ended. -/
def Hub.running (h : Hub) (op n id : Nat) : Option Desc :=
  match h.desc n id with
  | none => none
  | some d => if dOp d.bytes = op ∧ d.started ∧ ¬ d.ended then some d else none

/-- The list of a GATHER or SCATTER may be read: its wait holds and its place in the ring lets it. -/
def Hub.listReady (h : Hub) (n : Nat) (d : Desc) : Bool :=
  (dOp d.bytes == 3 || dOp d.bytes == 4) && !d.listRead && h.considers n d
    && h.ringHold n == 0 && !h.strictPast d && h.waitHolds d && ((h.ring n).preloading d || h.fenceOk n d)

/-- The work of descriptor `id` ends with a status and result; its completion follows with DESCRIPTOR_COMPLETE. Its writes have
drained, but a solver operation's drain at its completion (R152). -/
def Hub.endWork (n id status result : Nat) (h : Hub) : Hub :=
  h.onDesc n id fun d =>
    { d with ended := true, drained := d.drained || !(dOp d.bytes == 0x18 || dOp d.bytes == 0x19 || dOp d.bytes == 0x1A),
             status := status, result := result }

end Sys2Proof.Machine
end

