-- ==== Sys2Proof/Machine/Map.lean ====
section
/-!
DEFINITION. The Topiary map (R81 to R90): unit states, groups, spares, the assignment of epoch 1 and of replacements, and the
staging of changes for the next epoch. The commands of the map are in MapOps.lean.
-/
namespace Sys2Proof.Machine

/-! ## Units: 0 stream engine, 1 Spar tile, 2 buffer bank, 3 YDL module, 4 serial lane (R81) -/

/-- Physical units of a type (of one site, for modules). -/
def unitCount (t : Nat) : Nat := if t = 0 then 68 else if t = 1 then 18 else if t = 2 then 1600 else if t = 3 then 34 else 32

/-- The key of a unit in the defect fuses. -/
def unitKey (t s p : Nat) : Nat := (4 * t + s) * 4096 + p

/-- Offset of a unit's state register. -/
def unitOff (t s p : Nat) : Nat :=
  if t = 0 then 0x51000 + 4 * p else if t = 1 then 0x51200 + 4 * p else if t = 2 then 0x52000 + 4 * p
  else if t = 3 then 0x54000 + 0x100 * s + 4 * p else 0x54400 + 4 * p

/-- STATE of a unit: 0 Live serving, 1 Live spare, 2 Retired, 3 Quarantine, 4 Testing, 5 Staged, 6 Fused bad, 7 Down. -/
def Hub.unitState (h : Hub) (t s p : Nat) : Nat := h.get ⟨unitOff t s p, 0, 3⟩

/-- Logical number of a unit; 0x7FF when it serves none. -/
def Hub.unitLogical (h : Hub) (t s p : Nat) : Nat := h.get ⟨unitOff t s p, 16, 11⟩

/-- Set a unit's STATE. -/
def Hub.setState (t s p st : Nat) (h : Hub) : Hub := h.put ⟨unitOff t s p, 0, 3⟩ st

/-- Set a unit's CAUSE. -/
def Hub.setCause (t s p cause : Nat) (h : Hub) : Hub := h.put ⟨unitOff t s p, 4, 4⟩ cause

/-- Set a unit's LOGICAL. -/
def Hub.setLogical (t s p l : Nat) (h : Hub) : Hub := h.put ⟨unitOff t s p, 16, 11⟩ l

/-- A unit leaves the map: STATE and CAUSE, and no logical number. -/
def Hub.unitOut (t s p st cause : Nat) (h : Hub) : Hub := ((h.setState t s p st).setCause t s p cause).setLogical t s p 0x7FF

/-- A unit fails its readmission: Retired with CAUSE 7, one more failure, saturating at 15 (R95). -/
def Hub.unitFailed (t s p : Nat) (h : Hub) : Hub :=
  let n := h.get ⟨unitOff t s p, 12, 4⟩
  (h.unitOut t s p 2 7).put ⟨unitOff t s p, 12, 4⟩ (min 15 (n + 1))

/-- Group, quad or tile of a physical unit (R85). [log: DEDUCED 28] -/
def unitGroup (t p : Nat) : Nat :=
  if t = 0 then p / 17 else if t = 1 then (if p < 5 then 0 else if p < 10 then 1 else if p < 14 then 2 else 3)
  else if t = 2 then tileOfBank p else 0

/-- Logical units of one group at epoch 1 (R85). [log: DEDUCED 28] -/
def perGroup (t : Nat) : Nat := if t = 0 then 16 else if t = 1 then 4 else 32

/-- Groups of a type. -/
def groupsOf (t : Nat) : Nat := if t = 2 then 48 else if t ≤ 1 then 4 else 1

/-- Largest logical count of a type. -/
def logicalMax (t : Nat) : Nat := if t = 0 then 64 else if t = 1 then 16 else if t = 2 then 1536 else 32

/-- MAP_COUNT field of a type. -/
def countField (t : Nat) : RF := if t = 0 then R.MAP_COUNT_ENG else if t = 1 then R.MAP_COUNT_TILE else R.MAP_COUNT_BANK

/-- Current logical count of a type: engines, tiles and banks from MAP_COUNT, modules in service, the 32 lanes. -/
def Hub.logicalCount (h : Hub) (t s : Nat) : Nat :=
  if t ≤ 2 then h.get (countField t) else if t = 3 then h.get (R.MAP_SITE_LIVE s) else 32

/-- Physical units of a type in a state. -/
def Hub.unitsIn (h : Hub) (t s st : Nat) : List Nat := (List.range (unitCount t)).filter fun p => h.unitState t s p == st

/-- Spares of a type. -/
def Hub.spares (h : Hub) (t s : Nat) : List Nat := h.unitsIn t s 1

/-- The physical unit that serves logical unit `l`. -/
def Hub.physOf (h : Hub) (t s l : Nat) : Option Nat :=
  (List.range (unitCount t)).find? fun p => h.unitState t s p == 0 && h.unitLogical t s p == l

/-- The group with the most units of `us`, the lowest number winning a tie. -/
def richest (t : Nat) (us : List Nat) : Nat :=
  let n (g : Nat) : Nat := (us.filter fun p => unitGroup t p == g).length
  (List.range (groupsOf t)).foldl (fun b g => if n b < n g then g else b) 0

/-- The current table of a type: each unit in service, by the `unitKey` of its logical number. -/
def Hub.tableOf (h : Hub) (t s : Nat) : List (Nat × Nat) :=
  (h.unitsIn t s 0).map fun p => (unitKey t s (h.unitLogical t s p), p)

/-- The table every NI holds (R84). -/
def Hub.table (h : Hub) : List (Nat × Nat) :=
  h.tableOf 0 0 ++ h.tableOf 1 0 ++ h.tableOf 2 0 ++ (List.range 4).flatMap (h.tableOf 3) ++ h.tableOf 4 0

/-- The physical unit that a transaction tagged with epoch `e` finds at logical unit `l` (R84, R88): the current table's for the
current epoch, else the previous table's. -/
def Hub.physAt (h : Hub) (e t s l : Nat) : Option Nat :=
  if e = h.get R.MAP_EPOCH_CUR then h.physOf t s l else (h.map.prev.find? fun x => x.1 == unitKey t s l).map (·.2)

/-- The spare that replaces a unit of group `g` (R86): the lowest-numbered of the same group, else of the group with the most
spares. [log: DEDUCED 28] -/
def pickSpare (t g : Nat) (us : List Nat) : Option Nat :=
  match us.find? fun p => unitGroup t p == g with
  | some p => some p
  | none => us.find? fun p => unitGroup t p == richest t us

/-- Show the free spares. -/
def Hub.showSpares (h : Hub) : Hub :=
  let h := ((h.put R.MAP_SPARES_ENG (h.spares 0 0).length).put R.MAP_SPARES_TILE (h.spares 1 0).length).put
    R.MAP_SPARES_BANK (h.spares 2 0).length
  h.upto 4 fun s g => g.put (R.MAP_SITE_SPARE s) (g.spares 3 s).length

/-- Physical unit `p` serves logical unit `l`. [log: DEDUCED 28] -/
def Hub.assign (t s p l : Nat) (h : Hub) : Hub := (h.setState t s p 0).setLogical t s p l

/-- The first units of group `g` take its logical numbers below `count` (R85). -/
def Hub.assignGroup (t count g : Nat) (h : Hub) : Hub :=
  let us := ((h.spares t 0).filter fun p => unitGroup t p == g).take (perGroup t)
  Hub.each us.zipIdx (fun e h => if perGroup t * g + e.2 < count then h.assign t 0 e.1 (perGroup t * g + e.2) else h) h

/-- Logical unit `l` without a physical unit takes a spare (R86). -/
def Hub.fillLogical (t l : Nat) (h : Hub) : Hub :=
  match h.physOf t 0 l with
  | some _ => h
  | none =>
    match pickSpare t (l / perGroup t) (h.spares t 0) with
    | none => h
    | some p => h.assign t 0 p l

/-- Logical count of `good` good units (R87). -/
def countOf (t good : Nat) : Nat :=
  if logicalMax t ≤ good then logicalMax t else if t = 2 then good / 16 * 16 else good

/-- Build the map of a type from its good units (R85 to R87): every unit that is Live is first a spare. -/
def Hub.buildType (t : Nat) (h : Hub) : Hub :=
  let live := (List.range (unitCount t)).filter fun p => decide (h.unitState t 0 p ≤ 1)
  let h := Hub.each live (fun p h => (h.setState t 0 p 1).setLogical t 0 p 0x7FF) h
  let n := countOf t live.length
  let h := h.put (countField t) n
  let h := h.upto (groupsOf t) (Hub.assignGroup t n)
  h.upto n (Hub.fillLogical t)

/-- A defect source is applied to a unit: it leaves the map unless it already has (R62). -/
def Hub.mergeDefect (t s p st cause : Nat) (h : Hub) : Hub := if h.unitState t s p ≤ 1 then h.unitOut t s p st cause else h

/-- The defect fuses are merged into the unit states (R62): a fused-bad unit reads so whatever else has failed in it. -/
def Hub.mergeFuses (h : Hub) : Hub :=
  Hub.each h.map.fuse.bad (fun e h =>
    let k := e.1 / 4096
    h.unitOut (k / 4) (k % 4) (e.1 % 4096) 6 1) h

/-- Persisted field retirements are merged into the unit states (R62, R94). -/
def Hub.mergeRetires (l : List Retire) (h : Hub) : Hub := Hub.each l (fun e h => h.mergeDefect e.type e.site e.phys 2 8) h

/-- Lanes: logical lane l is physical lane l; one that is not good is down (R85). -/
def Hub.buildLanes (h : Hub) : Hub :=
  h.upto 32 fun l h => if h.unitState 4 0 l ≤ 1 then h.assign 4 0 l l else h.setState 4 0 l 7

/-- Units of some type are fewer than the logical count of a full hub (R87). -/
def Hub.shortUnits (h : Hub) : Bool := [0, 1, 2].any fun t => decide (h.get (countField t) < logicalMax t)

/-- Map epoch 1 (R62, R85 to R87). -/
def Hub.buildMap (l : List Retire) (h : Hub) : Hub :=
  let h := h.mergeFuses.mergeRetires l
  let h := ((h.buildType 0).buildType 1).buildType 2
  (h.buildLanes.put R.MAP_EPOCH_CUR 1).showSpares

/-! ## Staging changes (R88, R89) -/

/-- Change the map's own state. -/
def Hub.onMap (f : MapS → MapS) (h : Hub) : Hub := { h with map := f h.map }

/-- QUEUED: a further epoch waits while one drains. -/
def Hub.showQueued (h : Hub) : Hub := h.put R.MAP_EPOCH_STAT_QUEUED (b2n (h.on R.MAP_EPOCH_STAT_DRAIN && h.map.changes != []))

/-- Stage a change for the next epoch; changes merge into one epoch (R89). -/
def Hub.stageChange (c : MapChange) (h : Hub) : Hub := (h.onMap fun m => { m with changes := m.changes ++ [c] }).showQueued

/-- The command in progress ends with a status (R94, R95). -/
def Hub.mapDone (status : Nat) (h : Hub) : Hub :=
  (((h.dropStep 6 0).onMap fun m => { m with cmd := none }).put R.MAP_CMD_STAT_BUSY 0).put R.MAP_CMD_STAT_STATUS status

/-- Power of the readmission test that runs, mW (R95): the spec gives none, so it is a constant of the chip per unit type.
[log: DEDUCED 40] -/
def Hub.testingMw (h : Hub) : Nat :=
  match h.map.cmd with
  | some c => if c.join ∧ c.phase = 4 then Config.testMw c.type else 0
  | none => 0

/-- A command is accepted. -/
def Hub.mapBegin (c : MapCmd) (h : Hub) : Hub := (h.onMap fun m => { m with cmd := some c }).put R.MAP_CMD_STAT_BUSY 1

/-- Move the command in progress to a phase. -/
def Hub.mapPhase (n : Nat) (h : Hub) : Hub := h.onMap fun m => { m with cmd := m.cmd.map fun c => { c with phase := n } }

/-- The change a command stages. -/
def MapCmd.change (c : MapCmd) : MapChange :=
  { join := c.join, type := c.type, site := c.site, phys := c.phys, logical := c.logical, spare := c.spare, cause := 5,
    abort := c.abort, byCmd := true }

/-- The command in progress stages its change and waits for the epoch. -/
def Hub.stageCmd (h : Hub) : Hub :=
  match h.map.cmd with
  | none => h
  | some c => (h.stageChange c.change).mapPhase 2

end Sys2Proof.Machine
end

