-- ==== Sys2Proof/Machine/Buffer.lean ====
section
/-!
DEFINITION. The shared buffer's coherent windows and their directory (R171 to R187): windows, entries, recalls and grants,
colliding requests, non-caching accesses, the loss of a directory word, and the buffer scrubber (R219); the meanings of
WINDOW_*, NON_CACHING_*, DIR_QUERY and BUF_SCRUB_READ. A site's requests are in Site.lean.
-/
namespace Sys2Proof.Machine

/-! ## Where a line is (R174, R179) -/

/-- The window that covers line `l` and is not OFF. -/
def Hub.windowOf (h : Hub) (l : Nat) : Option Nat :=
  (List.range 8).find? fun w =>
    h.on (R.BUF_WIN2_STATE w) && decide (h.get (R.BUF_WIN0_BASE w) ≤ l / 16384)
      && decide (l / 16384 < h.get (R.BUF_WIN0_BASE w) + h.get (R.BUF_WIN0_SIZE w))

/-- State of the window that covers line `l`: 0 when none does. -/
def Hub.lineState (h : Hub) (l : Nat) : Nat :=
  match h.windowOf l with
  | none => 0
  | some w => h.get (R.BUF_WIN2_STATE w)

/-- The coherent index of line `l`, if its MiB has a directory chunk (R179). -/
def Hub.cohIndex (h : Hub) (l : Nat) : Option Nat :=
  (h.dir.chunks.find? fun e => e.2 == l / 16384 + 1).map fun e => e.1 * 16384 + l % 16384

/-- Slice of a coherent index (R179). -/
def dirSlice (i : Nat) : Nat := (i % 16) ^^^ (i / 16 % 16)

/-- Directory word of a coherent index: eight entries of its slice. -/
def dirWord (i : Nat) : Nat := 8192 * dirSlice i + i / 16 / 8

/-- The coherent index of entry `e` of slice `k`. -/
def dirIndex (k e : Nat) : Nat := 16 * e + (k ^^^ (e % 16))

/-- The line a coherent index stands for, if its chunk is in use. -/
def Hub.lineOf (h : Hub) (i : Nat) : Option Nat :=
  let m := nget h.dir.chunks (i / 16384)
  if m = 0 then none else some ((m - 1) * 16384 + i % 16384)

/-- A site has negotiated caching (R180). -/
def Hub.caches (h : Hub) (s : Nat) : Bool := bit (h.get R.BUF_STAT_SITE_COH) s

/-! ## Entries (R180) -/

/-- The entry of a Shared line. -/
def dirShared (mask : Nat) : Nat := if mask % 16 = 0 then 0 else 16 + mask % 16

/-- The entry of a line Owned by `s`. -/
def dirOwned (s : Nat) : Nat := 32 + s

/-- Owner of an entry. -/
def dirOwner (e : Nat) : Option Nat := if 32 ≤ e then some (e - 32) else none

/-- Sharers of an entry. -/
def dirMask (e : Nat) : Nat := if 16 ≤ e ∧ e < 32 then e - 16 else 0

/-- A site's bit in a mask. -/
def siteBit (s : Nat) : Nat := 2 ^ s

/-- Union of two masks of four sites. -/
def maskOr (a b : Nat) : Nat := (a ||| b) % 16

/-- The sites of `a` that are not in `b`. -/
def maskLess (a b : Nat) : Nat := a % 16 - (a &&& b) % 16

/-- The directory entry at coherent index `i`. -/
def Hub.entry (h : Hub) (i : Nat) : Nat := nget h.dir.entries i

/-- Change the directory's own state. -/
def Hub.onDir (f : DirS → DirS) (h : Hub) : Hub := { h with dir := f h.dir }

/-- Set an entry; BUF_DIR_CNT follows. -/
def Hub.setEntry (i e : Nat) (h : Hub) : Hub :=
  let h := h.onDir fun d => { d with entries := nset d.entries i e }
  (h.put R.BUF_DIR_CNT0_SHARED (h.dir.entries.filter fun x => decide (x.2 < 32)).length).put R.BUF_DIR_CNT1_OWNED
    (h.dir.entries.filter fun x => decide (32 ≤ x.2)).length

/-! ## Transactions -/

/-- The transaction in progress on line `l`. -/
def Hub.txn (h : Hub) (l : Nat) : Option DirTxn := h.dir.txns.find? fun t => t.line == l

/-- A recovery of a directory word is under way: BUF_STAT.WALK. -/
def Hub.showWalk (h : Hub) : Hub := h.put R.BUF_STAT_WALK (b2n (h.dir.txns.any fun t => t.req.kind == 5))

/-- Add or replace a line's transaction. -/
def Hub.setTxn (t : DirTxn) (h : Hub) : Hub :=
  (h.onDir fun d => { d with txns := (d.txns.filter fun x => x.line != t.line) ++ [t] }).showWalk

/-- End a line's transaction. -/
def Hub.endTxn (l : Nat) (h : Hub) : Hub := (h.onDir fun d => { d with txns := d.txns.filter fun x => x.line != l }).showWalk

/-- A request of the hub that a site answers, with the next tag. -/
def Hub.sendReq (s msg : Nat) (body : List Byte) (h : Hub) : Hub :=
  let t := (h.siteS s).tag
  (h.onSite s fun x => { x with tag := (t + 1) % 65536 }).sendCtl s { rsp := false, msg := msg, tag := t, body := body, data := [] }

/-- The address operand of line `l` in a message. -/
def lineBody (l : Nat) : List Byte := leBytes 8 (2 ^ 60 + 64 * l)

/-- Recall line `l` from the sites of `mask` (R181): RECALL_INV, or RECALL_SHARE. -/
def Hub.recall (l mask : Nat) (inv : Bool) (h : Hub) : Hub :=
  h.upto 4 fun s g =>
    if bit mask s then (g.add64 R.BUF_RECALLS_LO.off R.BUF_RECALLS_HI.off 1).sendReq s (if inv then 0x23 else 0x22) (lineBody l)
    else g

/-- Answer a site's cacheable request NOT_COHERENT. [log: DEDUCED 37] -/
def Hub.notCoherent (s tag : Nat) (addr : Nat) (h : Hub) : Hub :=
  h.sendCtl s { rsp := true, msg := 0x25, tag := tag, body := leBytes 8 addr, data := [] }

/-- Grant a line (R181, R215): GRANT_S or GRANT_O with the line, its status DATA_ERR and zeros where the bank's data cannot
be read; without data after an UPGRADE. -/
def Chip.grant (s msg tag l : Nat) (bare : Bool) (c : Chip) : Chip :=
  let m (st : Nat) (data : List Byte) : CtlMsg :=
    { rsp := true, msg := msg, tag := tag, body := lineBody l ++ [BitVec.ofNat 8 st], data := data }
  if bare then ⟨c.hub.sendCtl s (m 0 []), c.mem⟩
  else
    let r := c.read (0x2000 + s) 1 (64 * l) 64
    ⟨r.chip.hub.sendCtl s (m (b2n r.bad) (if r.bad then List.replicate 64 0 else r.data)), r.chip.mem⟩

/-! ## Non-caching accesses -/

/-- The part of `n` bytes at `off` that lies in line `l`: offset and length. -/
def linePart (off n l : Nat) : Nat × Nat :=
  let a := max off (64 * l)
  (a, min (off + n) (64 * l + 64) - a)

/-- The lines of `n` bytes at `off`. -/
def linesOf (off n : Nat) : List Nat := if n = 0 then [] else (List.range ((off + n - 1) / 64 - off / 64 + 1)).map (off / 64 + ·)

/-- `n` bytes of zeros in place of data that could not be read. -/
def zeros (n : Nat) : List Byte := List.replicate n 0

/-- Answer a non-caching access that is complete: function `req` by a completion, Completer Abort where data is uncorrectable
(R102); a site by RD_RESP or WR_ACK (R274). -/
def Hub.ncAnswer (a : NcAcc) (data : List Byte) (h : Hub) : Hub :=
  match a.ans with
  | 1 =>
    if a.write then h
    else if a.bad then (h.aer a.req 0).send (.completion a.req 4 [])
    else h.send (.completion a.req 0 data)
  | 2 =>
    let s := a.req - 0x2000
    if a.write then h.sendCtl s { rsp := true, msg := 0x13, tag := a.tag, body := [BitVec.ofNat 8 (b2n a.bad)], data := [] }
    else h.sendCtl s
      { rsp := true, msg := 0x12, tag := a.tag, body := [BitVec.ofNat 8 (b2n a.bad)], data := if a.bad then zeros 64 else data }
  | _ => h

/-- The data of a finished read. -/
def NcAcc.data (a : NcAcc) : List Byte :=
  if a.bad then []
  else (linesOf a.off a.len).flatMap fun l => ((a.got.find? fun g => g.1 / 64 == l).map fun g => g.2).getD []

/-- An access whose lines are all served is answered and ends. -/
def Hub.ncDone (id : Nat) (h : Hub) : Hub :=
  match h.dir.ncs.find? fun a => a.id == id with
  | none => h
  | some a => if a.left = [] then (h.onDir fun d => { d with ncs := d.ncs.filter fun x => x.id != id }).ncAnswer a a.data else h

/-- Write the pieces of `l` for requester `req` with the urgency tag of master `m`; true when one met an uncorrectable word
(R171). -/
def Chip.writePiecesAs (m req sp : Nat) : List (Nat × List Byte) → Chip → Wr
  | [], c => { bad := false, chip := c }
  | p :: ps, c =>
    let r := c.writeAs m req sp p.1 p.2
    let q := Chip.writePiecesAs m req sp ps r.chip
    { q with bad := r.bad || q.bad }

/-- Write the pieces of `l` for requester `req`. -/
def Chip.writePieces (req sp : Nat) (l : List (Nat × List Byte)) (c : Chip) : Wr := c.writePiecesAs (masterOf req) req sp l

/-- An access tagged with epoch `e` finds line `l` in a bank that a DISCARD retirement has taken out of the map since: the old
bank's contents (R84, R88, R93). -/
def Hub.oldBank (h : Hub) (e l : Nat) : Option Mem :=
  match h.map.left with
  | some (b, m) => if b = l / 4096 ∧ h.physAt e 2 0 b ≠ h.physOf 2 0 b then some m else none
  | none => none

/-- Run an access of epoch `e` to line `l` where its tag takes it: the data in force, or the old bank's (R88). -/
def Chip.inEpoch (e l : Nat) (f : Chip → Chip) (c : Chip) : Chip :=
  match c.hub.oldBank e l with
  | none => f c
  | some m =>
    let r := f ⟨c.hub, m⟩
    ⟨{ r.hub with map := { r.hub.map with left := r.hub.map.left.map fun x => (x.1, r.mem) } }, c.mem⟩

/-- Access `id` does its part in line `l`, translated with the table of the epoch it entered under (R84). -/
def Chip.ncPart (id l : Nat) (c : Chip) : Chip :=
  match c.hub.dir.ncs.find? fun a => a.id == id with
  | none => c
  | some a =>
    Chip.inEpoch a.epoch l (fun c =>
    let put (bad : Bool) (got : List (Nat × List Byte)) (h : Hub) : Hub :=
      (h.onDir fun d => { d with ncs := d.ncs.map fun x =>
        if x.id = id then { x with left := x.left.filter fun y => y != l, bad := x.bad || bad, got := x.got ++ got } else x }).ncDone id
    if a.write then
      let r := c.writePieces a.req 1 (a.pieces.filter fun p => p.1 / 64 == l)
      ⟨put r.bad [] r.chip.hub, r.chip.mem⟩
    else
      let p := linePart a.off a.len l
      let r := c.read a.req 1 p.1 p.2
      ⟨put r.bad [(p.1, r.data)] r.chip.hub, r.chip.mem⟩) c

/-! ## Decisions of the directory (R181, R185) -/

/-- Who is recalled for a request of `kind` from site `s` on entry `e`, and whether for invalidation (R181); `coh` is the set
of sites that cache. -/
def recallFor (kind s e coh : Nat) : Nat × Bool :=
  let own := (dirOwner e).map siteBit
  match kind with
  | 0 => (own.getD 0, false)
  | 1 => (own.getD (maskLess (dirMask e) (siteBit s)), true)
  | 2 => (own.getD (maskLess (dirMask e) (siteBit s)), true)
  | 3 => (own.getD 0, false)
  | 5 => (coh, true)
  | _ => (own.getD (dirMask e), true)

/-- The entry after a request of `kind` from site `s` has been served on entry `e` (R181). -/
def entryAfter (kind s e : Nat) : Nat :=
  match kind with
  | 0 => dirShared (maskOr (match dirOwner e with | some o => siteBit o | none => dirMask e) (siteBit s))
  | 1 => dirOwned s
  | 2 => dirOwned s
  | 3 => (match dirOwner e with | some o => dirShared (siteBit o) | none => e)
  | _ => 0

/-- Serve request `r` on line `l` at index `i`, every recall answered: the grant or access, then the new state. -/
def Chip.dirGrant (r : DirReq) (l i : Nat) (bare : Bool) (c : Chip) : Chip :=
  let h := c.hub.setEntry i (entryAfter r.kind r.pos (c.hub.entry i))
  match r.kind with
  | 0 => (⟨h, c.mem⟩ : Chip).grant r.pos 0x20 r.tag l false
  | 1 => (⟨h, c.mem⟩ : Chip).grant r.pos 0x21 r.tag l false
  | 2 => (⟨h, c.mem⟩ : Chip).grant r.pos 0x21 r.tag l bare
  | 3 => if r.nc = 0 then ⟨h, c.mem⟩ else (⟨h, c.mem⟩ : Chip).ncPart r.nc l
  | 4 => if r.nc = 0 then ⟨h, c.mem⟩ else (⟨h, c.mem⟩ : Chip).ncPart r.nc l
  | _ => ⟨h, c.mem⟩

/-- A request from the line's present owner for the line it owns is a protocol error: the earlier ownership is taken as
evicted clean (corner of R184). -/
def Hub.dropOwn (r : DirReq) (i : Nat) (h : Hub) : Hub :=
  if r.kind ≤ 2 ∧ dirOwner (h.entry i) = some r.pos then (h.bump R.BUF_EVT_PROTO 1).setEntry i 0 else h

/-- Decide request `r` on line `l` with no transaction in progress: refused while the window is DISABLING (R176), served, or
recalled for. [log: DEDUCED 37] -/
def Chip.dirServe (l i : Nat) (r : DirReq) (c : Chip) : Chip :=
  if r.kind ≤ 2 ∧ c.hub.lineState l = 3 then ⟨c.hub.notCoherent r.pos r.tag (2 ^ 60 + 64 * l), c.mem⟩
  else
    let h := c.hub.dropOwn r i
    let e := h.entry i
    let k := recallFor r.kind r.pos e (h.get R.BUF_STAT_SITE_COH)
    let bare := r.kind == 2 && bit (dirMask e) r.pos
    if k.1 = 0 then (⟨h, c.mem⟩ : Chip).dirGrant r l i bare
    else ⟨(h.setTxn { line := l, req := r, await := k.1, bare := bare, queue := [] }).recall l k.1 k.2, c.mem⟩

/-- A request reaches line `l`: it waits behind a transaction in progress, or is decided. -/
def Chip.dirArrive (l i : Nat) (r : DirReq) (c : Chip) : Chip :=
  match c.hub.txn l with
  | some t => ⟨c.hub.setTxn { t with queue := t.queue ++ [r] }, c.mem⟩
  | none => c.dirServe l i r

/-- The waiting requests in rotation order from position `p` (R185). -/
def rotated (p : Nat) (q : List DirReq) : List DirReq :=
  (List.range 5).flatMap fun k => q.filter fun r => r.pos == (p + k) % 5

/-- Requests `q` behind the line's transaction. -/
def Hub.queueBehind (l : Nat) (q : List DirReq) (h : Hub) : Hub :=
  match h.txn l with
  | some t => if q = [] then h else h.setTxn { t with queue := t.queue ++ q }
  | none => h

/-- Settle the requests `q` for a line (R185): two or more of one decision, or that waited when the line's transaction ended, are a
conflict (`clash`: a writeback of the same decision makes it one too), which is counted and moves the slice's pointer past the
winner, the first from the pointer. The winner is decided; the others wait for its transaction, or are settled anew.
[log: DEDUCED 37] -/
def Chip.dirSettle (l i : Nat) : Nat → Bool → List DirReq → Chip → Chip
  | 0, _, _, c => c
  | n + 1, clash, q, c =>
    let k := dirSlice i
    match rotated (c.hub.get (R.BUF_RR_PTR k)) q with
    | [] => c
    | r :: _ =>
      let h := if clash || decide (2 ≤ q.length) then
          (c.hub.bump R.BUF_EVT_CONFLICTS 1).put (R.BUF_RR_PTR k) ((r.pos + 1) % 5) else c.hub
      let c := (⟨h, c.mem⟩ : Chip).dirServe l i r
      if (c.hub.txn l).isSome then ⟨c.hub.queueBehind l (q.erase r), c.mem⟩
      else Chip.dirSettle l i n false (q.erase r) c

/-- The request of a line's finished transaction is granted; a site's is refused when its window has been disabled meanwhile
(R176), with what the recall left. -/
def Chip.dirFinish (t : DirTxn) (i : Nat) (c : Chip) : Chip :=
  if t.req.kind ≤ 2 ∧ c.hub.lineState t.line = 3 then
    let e := entryAfter (if t.req.kind = 0 then 3 else 4) t.req.pos (c.hub.entry i)
    ⟨(c.hub.setEntry i e).notCoherent t.req.pos t.req.tag (2 ^ 60 + 64 * t.line), c.mem⟩
  else c.dirGrant t.req t.line i t.bare

/-- A line's transaction ends: its request is served, then the waiting ones are settled. -/
def Chip.dirEnd (t : DirTxn) (c : Chip) : Chip :=
  match c.hub.cohIndex t.line with
  | none => ⟨c.hub.endTxn t.line, c.mem⟩
  | some i =>
    let c : Chip := ⟨c.hub.endTxn t.line, c.mem⟩
    (c.dirFinish t i).dirSettle t.line i t.queue.length false t.queue

/-- Site `s` has answered the recall of line `l`; the last answer ends the transaction. -/
def Chip.dirAnswered (s l : Nat) (c : Chip) : Chip :=
  match c.hub.txn l with
  | none => c
  | some t =>
    let a := maskLess t.await (siteBit s)
    if a = t.await then c
    else if a = 0 then c.dirEnd t
    else ⟨c.hub.setTxn { t with await := a }, c.mem⟩

/-- Site `s`'s answer to a recall of line `l` is awaited. -/
def Hub.awaits (h : Hub) (s l : Nat) : Bool :=
  match h.txn l with
  | none => false
  | some t => bit t.await s

/-! ## Directory words in error (R184) -/

/-- Start the recovery of line `l` at index `i`: a recall from every caching site, then Unowned. On a line with a transaction in
progress it follows that. -/
def Chip.dirRecover (i : Nat) (c : Chip) : Chip :=
  match c.hub.lineOf i with
  | none => c
  | some l =>
    (⟨c.hub.setEntry i 0, c.mem⟩ : Chip).dirArrive l i { pos := 4, kind := 5, tag := 0, nc := 0 }

/-- An entry value that exists, chosen freely. [log: DEDUCED 37] -/
def freeEntry (v : Nat) : Nat := if v % 20 < 16 then dirShared (v % 20) else dirOwned (v % 20 - 16)

/-- Read directory word `w` for requester `req` (R184): clean; one bit corrected, rewritten and logged; two bits lost, with a
WARNING and the recovery of its eight lines; more are detected or miscorrected, a free choice. [log: DEDUCED 37] -/
def Chip.dirCheck (req w : Nat) (c : Chip) : Chip :=
  let e := nget c.hub.dir.errs w
  let k := w / 8192
  let idx := (List.range 8).map fun j => dirIndex k (8 * (w % 8192) + j)
  let clean (h : Hub) : Hub := h.onDir fun d => { d with errs := nset d.errs w 0 }
  let lost (c : Chip) : Chip :=
    Chip.each idx Chip.dirRecover ⟨(clean c.hub).warn 0x21 14 0 k, c.mem⟩
  let fixed (h : Hub) : Hub := (clean h).rasLog { kind := 1, unit := 4, flags := 4, req := req, addr := w, detail := errDetail 1 e, count := 1 }
  match errClass 1 e with
  | 0 => c
  | 1 => ⟨fixed c.hub, c.mem⟩
  | 2 => lost c
  | _ =>
    if c.hub.free % 2 = 0 then lost ⟨c.hub.drew, c.mem⟩
    else ⟨Hub.each idx (fun i g => (g.setEntry i (freeEntry g.free)).drew) (fixed c.hub.drew), c.mem⟩

/-- Show the queried line in BUF_DIR_RESULT (R180), once a query has been made. -/
def Hub.showQuery (h : Hub) : Hub :=
  if !h.dir.asked then h
  else
    let l := h.get R.BUF_DIR_QUERY_OFFSET
    match h.cohIndex l with
    | none => (h.setReg 0x200304 0).put R.BUF_DIR_RESULT_STATE 3
    | some i =>
      let e := h.entry i
      let t := h.txn l
      let h := h.put R.BUF_DIR_RESULT_STATE (if e = 0 then 0 else if e < 32 then 1 else 2)
      let h := (h.put R.BUF_DIR_RESULT_MASK (dirMask e)).put R.BUF_DIR_RESULT_OWNER ((dirOwner e).getD 0)
      let h := h.put R.BUF_DIR_RESULT_PENDING (b2n t.isSome)
      let h := h.put R.BUF_DIR_RESULT_QUEUED (match t with | none => 0 | some t => min 7 t.queue.length)
      h.put R.BUF_DIR_RESULT_SLICE (dirSlice i)

/-- The ADDs and SETs of sites whose earlier writes have become visible are applied, in order (R160). [log: DEDUCED 36] -/
def Hub.cltRelease (h : Hub) : Hub :=
  let due (x : CltHeld) : Bool := !h.dir.ncs.any fun a => a.write && a.req == 0x2000 + x.site && decide (a.id < x.after)
  let l := h.dir.clts
  if l.any due then
    (h.onDir fun d => { d with clts := d.clts.filter fun x => !due x }).each (l.filter due) Hub.cltApply
  else h

/-- After a change of the directory: operations that waited for it go on, and the queried line is shown. -/
def Chip.shown (c : Chip) : Chip := ⟨c.hub.cltRelease.showQuery, c.mem⟩

/-- A request joins the slice decision under way: its word is read first. [log: DEDUCED 37] -/
def Chip.dirGather (req l i : Nat) (r : DirReq) (c : Chip) : Chip :=
  let c := c.dirCheck req (dirWord i)
  match c.hub.txn l with
  | some _ => ⟨c.hub.queueBehind l [r], c.mem⟩
  | none => ⟨c.hub.onDir fun d => { d with gather := d.gather ++ [(l, r)] }, c.mem⟩

/-- The slice decides what it has gathered (R185), unless the next command belongs to the same decision (`more`).
[log: DEDUCED 37] -/
def Chip.decided (more : Bool) (c : Chip) : Chip :=
  if more then c
  else
    let g := c.hub.dir.gather
    let c : Chip := ⟨c.hub.onDir fun d => { d with gather := [] }, c.mem⟩
    (Chip.each ((g.map (·.1)).eraseDups) (fun l c =>
      let q := (g.filter fun e => e.1 == l).map (·.2)
      match c.hub.cohIndex l with
      | none => c
      | some i => c.dirSettle l i q.length (decide (2 ≤ q.length)) (q.filter fun r => r.kind != 7)) c).shown

/-- The buffer line a command asks the directory for, when it asks for one. -/
def askedLine (i : Instr) : Option Nat :=
  let ofAddr (a : DWord) : Option Nat := if addrSpace a.toNat = 1 then some (addrOff a.toNat / 64) else none
  let ofRange (off n : Nat) : Option Nat := if 0 < n ∧ off / 64 = (off + n - 1) / 64 then some (off / 64) else none
  match i with
  | .rdShared _ _ a => ofAddr a
  | .rdOwn _ _ a => ofAddr a
  | .upgrade _ _ a => ofAddr a
  | .wbDirty _ _ a _ => ofAddr a
  | .evictClean _ _ a => ofAddr a
  | .siteRd _ _ a => ofAddr a
  | .siteWr _ _ a _ _ => ofAddr a
  | .nonCachingRead _ off n => ofRange off n
  | .nonCachingWrite _ off d => ofRange off d.length
  | _ => none

/-- The command that follows `i` in the queue asks for the same line: the two reach their slice in one decision.
[log: DEDUCED 37] -/
def State.sameDecision (s : State) (i : Instr) : Bool :=
  match s.pending with
  | [] => false
  | j :: _ => (askedLine i).isSome && askedLine j == askedLine i

/-- A request of the directory for line `l`: its word is read, then it is decided or waits. [log: DEDUCED 37] -/
def Chip.dirRequest (req l i : Nat) (r : DirReq) (c : Chip) : Chip := (c.dirCheck req (dirWord i)).dirArrive l i r

/-! ## Non-caching accesses of a range (R178, R181) -/

/-- Line `l` can be accessed at once: it is not coherent, or nothing is in progress and no site must be recalled. -/
def Hub.lineFree (h : Hub) (write : Bool) (l : Nat) : Bool :=
  match h.cohIndex l with
  | none => true
  | some i =>
    (h.txn l).isNone && nget h.dir.errs (dirWord i) == 0 && (if write then h.entry i == 0 else decide (h.entry i < 32))

/-- Every line of a buffer range can be accessed at once. -/
def Hub.rangeFree (h : Hub) (write : Bool) (off n : Nat) : Bool := (linesOf off n).all (h.lineFree write)

/-- Ask for the recalls a range needs, without an access: a mover or Spar tries again when they are answered. -/
def Chip.probe (req : Nat) (write : Bool) (off n : Nat) (c : Chip) : Chip :=
  Chip.each (linesOf off n) (fun l c =>
    match c.hub.cohIndex l with
    | none => c
    | some i =>
      if c.hub.lineFree write l ∨ (c.hub.txn l).any (fun t => (t.req :: t.queue).any fun r => r.kind == (if write then 4 else 3) && r.nc == 0)
      then c else c.dirRequest req l i { pos := 4, kind := if write then 4 else 3, tag := 0, nc := 0 }) c

/-- A non-caching access of a buffer range: at once where no line has to be recalled, else line by line as the directory
serves them. -/
def Chip.ncAccess (more : Bool) (a : NcAcc) (c : Chip) : Chip :=
  if !more && c.hub.dir.gather == [] && c.hub.rangeFree a.write a.off a.len then
    if a.write then
      let r := c.writePieces a.req 1 a.pieces
      ⟨r.chip.hub.ncAnswer { a with bad := r.bad } [], r.chip.mem⟩
    else
      let r := c.read a.req 1 a.off a.len
      ⟨r.chip.hub.ncAnswer { a with bad := r.bad } r.data, r.chip.mem⟩
  else
    let id := c.hub.dir.ncNext
    let lines := linesOf a.off a.len
    let h := c.hub
    let h := h.onDir fun d => { d with ncNext := id + 1, ncs := d.ncs ++ [{ a with id := id, left := lines, epoch := h.get R.MAP_EPOCH_CUR }] }
    (Chip.each lines (fun l c =>
      match c.hub.cohIndex l with
      | none => c.ncPart id l
      | some i => c.dirGather a.req l i { pos := 4, kind := if a.write then 4 else 3, tag := 0, nc := id }) ⟨h, c.mem⟩).decided more

/-- Bytes at `off` cut at line boundaries. -/
def cutLines (off : Nat) (bs : List Byte) : List (Nat × List Byte) :=
  (linesOf off bs.length).map fun l => let p := linePart off bs.length l; (p.1, (bs.drop (p.1 - off)).take p.2)

/-- A non-caching read by requester `req`, answered as `ans`. -/
def Chip.ncRead (more : Bool) (req ans tag off n : Nat) (c : Chip) : Chip :=
  c.ncAccess more { id := 0, write := false, req := req, ans := ans, tag := tag, off := off, len := n, pieces := [], left := [],
                    got := [], bad := false, epoch := 0 }

/-- A non-caching write by requester `req`, answered as `ans`. -/
def Chip.ncWrite (more : Bool) (req ans tag off n : Nat) (pieces : List (Nat × List Byte)) (c : Chip) : Chip :=
  c.ncAccess more { id := 0, write := true, req := req, ans := ans, tag := tag, off := off, len := n, pieces := pieces, left := [],
                    got := [], bad := false, epoch := 0 }

/-- Who is answered: a function by a completion, others nobody. -/
def ncAns (req : Nat) : Nat := if req < 32 then 1 else 0

/-- NON_CACHING_READ (R181) of `n` bytes at buffer offset `off`. -/
def execNonCachingRead (req off n : Nat) (s : State) : Host.Outcome State Fault Refusal :=
  s.actMem (Ok.nonCachingRead req off n) fun c =>
    if off + n ≤ c.hub.bufSize then
      c.ncRead (s.sameDecision (.nonCachingRead req off n)) req (ncAns req) 0 off n
    else c.decided (s.sameDecision (.nonCachingRead req off n))

/-- NON_CACHING_WRITE (R181) of bytes at buffer offset `off`. -/
def execNonCachingWrite (req off : Nat) (data : List Byte) (s : State) : Host.Outcome State Fault Refusal :=
  s.actMem (Ok.nonCachingWrite req off data) fun c =>
    if off + data.length ≤ c.hub.bufSize then
      c.ncWrite (s.sameDecision (.nonCachingWrite req off data)) req (ncAns req) 0 off data.length (cutLines off data)
    else c.decided (s.sameDecision (.nonCachingWrite req off data))

/-! ## Windows (R174 to R177) -/

/-- First MiB and length of window `w`. -/
def Hub.winSpan (h : Hub) (w : Nat) : Nat × Nat := (h.get (R.BUF_WIN0_BASE w), h.get (R.BUF_WIN0_SIZE w))

/-- Two ranges of MiB meet. -/
def spansMeet (a b : Nat × Nat) : Bool := decide (a.1 < b.1 + b.2) && decide (b.1 < a.1 + a.2)

/-- MiB in windows that are not OFF. -/
def Hub.cohMib (h : Hub) : Nat := ((List.range 8).filter fun w => h.on (R.BUF_WIN2_STATE w)).foldl (fun a w => a + (h.winSpan w).2) 0

/-- An open stream's local range meets window `w`. -/
def Hub.streamMeets (h : Hub) (w : Nat) : Bool :=
  let sp := h.winSpan w
  h.sites.any fun e => e.2.streams.any fun x =>
    x.space == 1 && decide (x.addr < (sp.1 + sp.2) * 2 ^ 20) && decide (sp.1 * 2 ^ 20 < x.addr + 64 * x.len)

/-- Why window `w` cannot be enabled: 0, or the first code of R174 whose condition fails. -/
def Hub.winErr (h : Hub) (w : Nat) : Nat :=
  let sp := h.winSpan w
  if sp.2 = 0 ∨ 64 < sp.2 ∨ h.bufSize < (sp.1 + sp.2) * 2 ^ 20 then 1
  else if (List.range 8).any fun v => v != w && h.on (R.BUF_WIN2_STATE v) && spansMeet sp (h.winSpan v) then 2
  else if 64 < h.cohMib + sp.2 then 3
  else if spansMeet sp (h.get R.SPAR_SCRATCH_BASE, h.get R.SPAR_SCRATCH_SIZE) then 4
  else if h.streamMeets w then 5
  else 0

/-- Set a window's state; BUF_STAT.COH_MIB follows. -/
def Hub.setWin (w st : Nat) (h : Hub) : Hub :=
  let h := h.put (R.BUF_WIN2_STATE w) st
  h.put R.BUF_STAT_COH_MIB h.cohMib

/-- CMD = 1 (R174, R175, R177); ERR keeps the code of the last refusal. -/
def Hub.winEnable (req : Path) (w : Nat) (h : Hub) : Hub :=
  if h.get (R.BUF_WIN2_STATE w) = 0 then
    let e := h.winErr w
    if e = 0 then h.setWin w 1 else h.put (R.BUF_WIN2_ERR w) e
  else h.logAccess 0x13 req (0x200104 + 16 * w) 1

/-- WINDOW_ENABLE (R175). -/
def execWindowEnable (req : Path) (w : Nat) (s : State) : Host.Outcome State Fault Refusal :=
  s.act (Ok.windowEnable req w) (Hub.pfWrite req (Hub.winEnable req w))

/-- The `n` lowest-numbered free directory chunks. -/
def Hub.freeChunks (h : Hub) (n : Nat) : List Nat := ((List.range 64).filter fun k => nget h.dir.chunks k == 0).take n

/-- The window's chunks are assigned, its entries Unowned, and it is ON (R175). -/
def Hub.winOn (w : Nat) (h : Hub) : Hub :=
  if h.get (R.BUF_WIN2_STATE w) = 1 then
    let sp := h.winSpan w
    let h := Hub.each (h.freeChunks sp.2).zipIdx (fun k g => g.onDir fun d =>
      { d with
        chunks := nset d.chunks k.1 (sp.1 + k.2 + 1), entries := Store.keep (fun i => i / 16384 != k.1) d.entries,
        errs := Store.keep (fun w => w % 8192 / 128 != k.1) d.errs }) h
    (h.setWin w 2).showQuery
  else h

/-- WINDOW_ENABLE_COMPLETE (R175). -/
def execWindowEnableComplete (w : Nat) (s : State) : Host.Outcome State Fault Refusal :=
  s.act (Ok.windowEnableComplete w) (Hub.winOn w)

/-- Coherent index `i` belongs to window `w`. -/
def Hub.inWindow (h : Hub) (w i : Nat) : Bool :=
  match h.lineOf i with
  | none => false
  | some l => h.windowOf l == some w

/-- CMD = 2 (R176, R177): the window is DISABLING and every held line is recalled. -/
def Chip.winDisable (req : Path) (w : Nat) (c : Chip) : Chip :=
  if c.hub.get (R.BUF_WIN2_STATE w) = 2 then
    let h := c.hub.setWin w 3
    let held := (h.dir.entries.map fun e => e.1).filter (h.inWindow w)
    (Chip.each held (fun i c => match c.hub.lineOf i with
      | none => c
      | some l => c.dirRequest 0x3001 l i { pos := 4, kind := 6, tag := 0, nc := 0 }) ⟨h, c.mem⟩).shown
  else ⟨c.hub.logAccess 0x13 req (0x200104 + 16 * w) 2, c.mem⟩

/-- A write to a block that a VF's BAR0 does not hold (R100). -/
def Chip.pfWrite (req : Path) (f : Chip → Chip) (c : Chip) : Chip :=
  if req.holdsBlocks then f c else c

/-- WINDOW_DISABLE (R176). -/
def execWindowDisable (req : Path) (w : Nat) (s : State) : Host.Outcome State Fault Refusal :=
  s.actMem (Ok.windowDisable req w) (Chip.pfWrite req (Chip.winDisable req w))

/-- The recall walk is over: no line of the window is held or has a transaction in progress. -/
def Hub.winClear (h : Hub) (w : Nat) : Bool :=
  !(h.dir.entries.any fun e => h.inWindow w e.1) && !(h.dir.txns.any fun t => h.windowOf t.line == some w)

/-- The walk's end frees the chunks and turns the window OFF (R176). -/
def Hub.winOff (w : Nat) (h : Hub) : Hub :=
  if h.get (R.BUF_WIN2_STATE w) = 3 ∧ h.winClear w then
    let sp := h.winSpan w
    let h := h.onDir fun d => { d with chunks := d.chunks.filter fun e => !(decide (sp.1 < e.2) && decide (e.2 ≤ sp.1 + sp.2)) }
    (h.setWin w 0).showQuery
  else h

/-- WINDOW_DISABLE_COMPLETE (R176). -/
def execWindowDisableComplete (w : Nat) (s : State) : Host.Outcome State Fault Refusal :=
  s.act (Ok.windowDisableComplete w) (Hub.winOff w)

/-- A write of BUF_DIR_QUERY (R180). [log: DEDUCED 37] -/
def Hub.dirQuery (v : Word) (h : Hub) : Hub :=
  ((h.put R.BUF_DIR_QUERY_OFFSET (bitsOf v 6 23)).onDir fun d => { d with asked := true }).showQuery

/-- DIR_QUERY (R180). -/
def execDirQuery (req : Path) (v : Word) (s : State) : Host.Outcome State Fault Refusal :=
  s.act (Ok.dirQuery req v) (Hub.pfWrite req (Hub.dirQuery v))

/-! ## The drop of a site (R183) -/

/-- The walk poisons and frees what site `s` owned, and removes it from every mask. -/
def Chip.dropLine (s i : Nat) (c : Chip) : Chip :=
  let e := c.hub.entry i
  if dirOwner e = some s then
    match c.hub.lineOf i with
    | none => ⟨c.hub.setEntry i 0, c.mem⟩
    | some l =>
      let c1 := c.poison (0x2000 + s) 1 (64 * l) 64
      ⟨(c1.hub.setEntry i 0).rasLog { kind := 5, unit := 0, inst := s, sev := 1, req := 0x2000 + s, addr := 64 * l }, c1.mem⟩
  else ⟨c.hub.setEntry i (dirShared (maskLess (dirMask e) (siteBit s))), c.mem⟩

/-- A transaction without the dropped site's requests: its own request becomes a recall that nobody is granted. -/
def DirTxn.without (s : Nat) (t : DirTxn) : DirTxn :=
  { t with
    queue := t.queue.filter fun r => !(r.kind ≤ 2 && r.pos == s)
    req := if t.req.kind ≤ 2 ∧ t.req.pos = s then { t.req with pos := 4, kind := if t.req.kind = 0 then 3 else 6, nc := 0 } else t.req }

/-- R183: the directory forgets site `s`; requests that waited on it complete with the data in the bank. -/
def Chip.dirDropSite (s : Nat) (c : Chip) : Chip :=
  let held := (c.hub.dir.entries.map fun e => e.1).filter fun i =>
    dirOwner (c.hub.entry i) == some s || bit (dirMask (c.hub.entry i)) s
  let c := Chip.each held (Chip.dropLine s) c
  let h := c.hub.onDir fun d =>
    { d with
      txns := d.txns.map (DirTxn.without s)
      ncs := d.ncs.map fun a => if a.req = 0x2000 + s then { a with ans := 0 } else a
      clts := d.clts.filter fun x => x.site != s }
  (Chip.each h.dir.txns (fun t c => c.dirAnswered s t.line) ⟨h, c.mem⟩).shown

/-! ## The buffer scrubber (R219, R220) -/

/-- Words of a physical bank, spare rows included (R82). -/
def bankWords : Nat := 33024

/-- Words of the whole pass: 1,600 physical banks, then 131,072 directory words. -/
def bufPassWords : Nat := 1600 * bankWords + 131072

/-- Move the buffer scrubber; past the last word a pass is complete. -/
def Hub.scrubBufTo (n : Nat) (h : Hub) : Hub :=
  if bufPassWords ≤ n then { h.bump R.RAS_SCRUB_BUF_PASSES 1 with ras := { h.ras with bufPos := 0 } }
  else { h with ras := { h.ras with bufPos := n } }

/-- The logical bank that physical bank `p` serves, if it is Live. -/
def Hub.bankServes (h : Hub) (p : Nat) : Option Nat :=
  if h.get (R.MAP_BANK_STATE p) = 0 ∧ h.get (R.MAP_BANK_LOGICAL p) < 1536 then some (h.get (R.MAP_BANK_LOGICAL p)) else none

/-- The buffer scrubber reads its next word: a bank word, where a bank of a domain that is off is skipped and counted, or a
directory word. It runs from READY while MIN is not 0. -/
def Chip.scrubBuf (c : Chip) : Chip :=
  let h := c.hub
  let n := h.ras.bufPos
  if !h.ready || !h.on R.RAS_SCRUB_BUF_MIN then c
  else if n < 1600 * bankWords then
    let p := n / bankWords
    if !h.domOn (2 + tileOfBank p) then
      ⟨(h.bump R.RAS_SCRUB_STAT_OFF_SKIPS 1).scrubBufTo ((p + 1) * bankWords), c.mem⟩
    else
      let w := n % bankWords
      match h.bankServes p with
      | some b =>
        if w < 32768 then
          let r := c.readCw 0x3001 true 1 (262144 * b + 8 * w)
          ⟨r.chip.hub.scrubBufTo (n + 1), r.chip.mem⟩
        else ⟨h.scrubBufTo (n + 1), c.mem⟩
      | none => ⟨h.scrubBufTo (n + 1), c.mem⟩
  else
    let r := c.dirCheck 0x3001 (n - 1600 * bankWords)
    (⟨r.hub.scrubBufTo (n + 1), r.mem⟩ : Chip).shown

/-- BUF_SCRUB_READ (R219, R220). -/
def execBufScrubRead (s : State) : Host.Outcome State Fault Refusal := s.actMem Ok.bufScrubRead Chip.scrubBuf

end Sys2Proof.Machine
end

