-- ==== Sys2Proof/Machine/Time.lean ====
section
/-!
DEFINITION. Hub time (R163 to R168): its advance with REFCLK, steps and slews, the shadows of 64-bit reads, the event
counters' selections; and the meanings of TIME_SET, TIME_SLEW, TIME_ADJ and TIME_EVT_SEL.
-/
namespace Sys2Proof.Machine

/-- Nanoseconds that one REFCLK edge adds before slewing: 10 ns and what the rate accumulator carries (R163). Without
REFCLK the D0 oscillator's held trim may be off by up to 2 % (R32, R166): a free value. [log: DESIGN CHOICE 9] -/
def Hub.tickRate (h : Hub) : Int :=
  10 * signed 24 (h.get R.TIME_ADJ_PPB) +
    (if h.pins.refclk then 0 else ((h.free % 400000001 : Nat) : Int) - 200000000)

/-- Hub time's slew over one edge of 10 ns: at most SLEW_PPM of the elapsed time, never backward (R164).
[log: DESIGN CHOICE 9] -/
def Hub.tickSlew (h : Hub) : Int × Hub :=
  if h.time.slew = 0 then (0, { h with time := { h.time with slewFrac := 0 } })
  else
    let f := h.time.slewFrac + 10 * h.get R.TIME_CTRL_SLEW_PPM
    if f < 1000000 then (0, { h with time := { h.time with slewFrac := f } })
    else
      let d : Int := if 0 < h.time.slew then 1 else -1
      (d, { h with time := { h.time with slew := h.time.slew - d, slewFrac := f - 1000000 } })

/-- One REFCLK edge: 10 ns pass (model's own clock) and hub time advances, modulo 2⁶⁴ (R163). [log: DESIGN CHOICE 9] -/
def Hub.tick (h : Hub) : Hub :=
  let r := h.time.frac + h.tickRate
  let h := if h.pins.refclk then h else h.drew
  let p := h.tickSlew
  let h := p.2
  { h with
    clock := h.clock + 10
    time := { h.time with now := (h.time.now + (10 + r / 1000000000 + p.1).toNat) % 2 ^ 64, frac := r % 1000000000 } }

/-- A step of hub time to `t` (R163): counted, and logged as a NOTICE whose detail is 1 for a step backward. -/
def Hub.stepTime (t : Nat) (h : Hub) : Hub :=
  let back := decide (t % 2 ^ 64 < h.time.now)
  ({ h with time := { h.time with now := t % 2 ^ 64, frac := 0 } }.bump R.TIME_STEPS_COUNT 1).notice 163 (b2n back)

/-- An offset is slewed into hub time (R164). -/
def Hub.slewTime (d : Int) (h : Hub) : Hub := { h with time := { h.time with slew := h.time.slew + d } }

/-! ## Shadows (R167, R168) -/

/-- A path's shadow: the register's low offset and the latched high half. -/
def Hub.shadow (h : Hub) (p : Path) : Option (Nat × Word) :=
  (h.time.shadows.find? fun e => e.1 == p).map fun e => e.2

/-- Empty a path's shadow. -/
def Hub.dropShadow (p : Path) (h : Hub) : Hub :=
  { h with time := { h.time with shadows := h.time.shadows.filter fun e => e.1 != p } }

/-- A low read latches the high half `hi` of the register at `off` into the path's shadow. -/
def Hub.latchShadow (p : Path) (off : Nat) (hi : Word) (h : Hub) : Hub :=
  let h := h.dropShadow p
  { h with time := { h.time with shadows := (p, off, hi) :: h.time.shadows } }

/-- The path's STALE_HALF is set: TIME_STAT for the PF, VF_SHADOW for a VF; a site's is a flag of its answer and Masthead's
is nowhere. -/
def Hub.setStale (p : Path) (h : Hub) : Hub :=
  match p with
  | .pf => h.put R.TIME_STAT_STALE_HALF 1
  | .vf k => { h with pcie := { h.pcie with vfStale := nset h.pcie.vfStale k 1 } }
  | _ => h

/-- What a high read of the register at low offset `off` returns, whether it is stale, and the hub after it. -/
def Hub.takeShadow (p : Path) (off : Nat) (live : Word) (h : Hub) : Word × Bool × Hub :=
  match h.shadow p with
  | some (o, w) => if o = off then (w, false, h.dropShadow p) else (live, true, h.setStale p)
  | none => (live, true, h.setStale p)

/-! ## Meanings -/

/-- A write to hub time's controls under DISC 1 or 2 is ignored and logged (R164). -/
def Hub.ifFreeRunning (req : Path) (off : Nat) (v : Word) (f : Hub → Hub) (h : Hub) : Hub :=
  if h.on R.TIME_STAT_DISC then h.logAccess 0x13 req off v.toNat else f h

/-- A write of TIME_SET's high half steps hub time (R163). -/
def Hub.timeSetWrite (req : Path) (v : Word) (h : Hub) : Hub :=
  h.ifFreeRunning req 0x13001C v fun g => g.stepTime (g.get R.TIME_SET_LO + 2 ^ 32 * v.toNat)

/-- TIME_SET (R163). -/
def execTimeSet (req : Path) (v : Word) (s : State) : Host.Outcome State Fault Refusal :=
  s.act (Ok.timeSet req v) (Hub.pfWrite req (Hub.timeSetWrite req v))

/-- A write of TIME_SLEW adds a signed offset to be slewed in (R164). -/
def Hub.timeSlewWrite (req : Path) (v : Word) (h : Hub) : Hub :=
  h.ifFreeRunning req 0x130010 v fun g => g.slewTime (signed 32 v.toNat)

/-- TIME_SLEW (R164). -/
def execTimeSlew (req : Path) (v : Word) (s : State) : Host.Outcome State Fault Refusal :=
  s.act (Ok.timeSlew req v) (Hub.pfWrite req (Hub.timeSlewWrite req v))

/-- A signed correction clamped to ±500,000 ppb. [log: DEDUCED 16] -/
def clampPpb (x : Int) : Int := max (-500000) (min 500000 x)

/-- A write of TIME_ADJ.PPB (R164). -/
def Hub.timeAdjWrite (req : Path) (v : Word) (h : Hub) : Hub :=
  h.ifFreeRunning req 0x13000C v fun g => g.put R.TIME_ADJ_PPB (unsigned 24 (clampPpb (signed 24 (bitsOf v 0 24))))

/-- TIME_ADJ (R164). -/
def execTimeAdj (req : Path) (v : Word) (s : State) : Host.Outcome State Fault Refusal :=
  s.act (Ok.timeAdj req v) (Hub.pfWrite req (Hub.timeAdjWrite req v))

/-- A write of TIME_EVT_SEL_n clears counter `n` (spec/07, Event counters). -/
def Hub.evtSelWrite (n : Nat) (v : Word) (h : Hub) : Hub :=
  ((h.put (R.TIME_EVT_SEL n) (bitsOf v 0 4)).setReg (R.TIME_EVT_LO n).off 0).setReg (R.TIME_EVT_HI n).off 0

/-- TIME_EVT_SEL (R163). -/
def execTimeEvtSel (req : Path) (n : Nat) (v : Word) (s : State) : Host.Outcome State Fault Refusal :=
  s.act (Ok.timeEvtSel req n v) (Hub.pfWrite req (Hub.evtSelWrite n v))

end Sys2Proof.Machine
end

