-- ==== Sys2Proof/Machine/Crew.lean ====
section
/-!
DEFINITION. The crew (R313 to R323): HELLOs and the judging of ports, claims and leadership, and the discipline of hub time;
and the meanings of CREW_HELLO*, CREW_PEER_TIMEOUT, SYNC_LOSS, CLAIM_HOLD_DOWN_END, MUSTERED, CREW_REMUSTER, SYNC*,
FOLLOW_UP and PDELAY_*.
-/
namespace Sys2Proof.Machine

/-- What is known of crew port `p`'s peer. -/
def Hub.crewPort (h : Hub) (p : Nat) : CrewPort := Store.get (fun _ => CrewPort.empty) h.crew.ports p

/-- Change what is known of crew port `p`'s peer. -/
def Hub.onCrewPort (p : Nat) (f : CrewPort → CrewPort) (h : Hub) : Hub :=
  { h with crew := { h.crew with ports := Store.set (fun _ => CrewPort.empty) h.crew.ports p (f (h.crewPort p)) } }

/-- The crew is enabled. -/
def Hub.crewOn (h : Hub) : Bool := h.on R.CREW_CTRL_EN

/-- Crew port `p` is JOINED. -/
def Hub.joined (h : Hub) (p : Nat) : Bool := h.get (R.CREW_PORT_STATE p) == 2

/-- Port `p` is a crew port that is UP. -/
def Hub.crewUp (h : Hub) (p : Nat) : Bool := h.get (R.SER_PORT_STAT_STATE p) == 2 && h.get (R.SER_PORT_CFG_MODE p) == 1

/-- CREW_DIGEST follows its source fields (R315). -/
def Hub.showDigest (h : Hub) : Hub :=
  h.put R.CREW_DIGEST (crewDigest (h.get R.SER_CREW_CTRL_HOPS) (h.get R.CREW_CFG_DOMAIN)
    (unsigned 8 (signed 4 (h.get R.CREW_CFG_SYNC_LOG2))) (unsigned 8 (signed 4 (h.get R.CREW_CFG_PDELAY_LOG2))) (h.get R.CREW_APP))

/-- CREW_IRQ: a change of STATE, MISMATCH or TRUSTED sends the vector. -/
def Hub.crewIrq (f : Hub → Hub) (h : Hub) : Hub :=
  let g := f h
  if (g.get R.CREW_STAT_STATE ≠ h.get R.CREW_STAT_STATE ∨ g.get R.CREW_STAT_MISMATCH ≠ h.get R.CREW_STAT_MISMATCH
      ∨ g.get R.TIME_STAT_TRUSTED ≠ h.get R.TIME_STAT_TRUSTED) ∧ g.on R.CREW_IRQ_EN then
    g.sendVector 0 (g.get R.CREW_IRQ_VEC % 264)
  else g

/-! ## Claims (R318 to R321) -/

/-- A claim: leader, epoch, distance, and the port that offers it (32: the hub's own). -/
structure Claim where
  leader : Nat
  epoch : Nat
  dist : Nat
  port : Nat
deriving DecidableEq, Repr

/-- Epoch `a` is newer than `b`: a signed 32-bit difference. -/
def newer (a b : Nat) : Bool := decide (0 < signed 32 ((a + 2 ^ 32 - b % 2 ^ 32) % 2 ^ 32))

/-- Claim `a` ranks above `b` (R318). -/
def Claim.above (a b : Claim) : Bool :=
  decide (a.leader < b.leader) || (a.leader == b.leader &&
    (newer a.epoch b.epoch || (a.epoch == b.epoch &&
      (decide (a.dist < b.dist) || (a.dist == b.dist && decide (a.port < b.port))))))

/-- The hub's own claim; its own port number counts as 0. -/
def Hub.ownClaim (h : Hub) : Claim := { leader := h.get R.CREW_CTRL_ID, epoch := h.crew.ownEpoch, dist := 0, port := 32 }

/-- A claim of `leader` at `epoch` is held down (R319). -/
def Hub.heldDown (h : Hub) (leader epoch : Nat) : Bool := h.crew.down.any fun e => e.1 == leader && !newer epoch e.2

/-- The claims offered on JOINED ports. -/
def Hub.offers (h : Hub) : List Claim :=
  (List.range 32).filterMap fun p =>
    let x := h.crewPort p
    if h.joined p ∧ x.heard ∧ x.dist + 1 ≤ 63 ∧ ¬ h.heldDown x.leader x.epoch then
      some { leader := x.leader, epoch := x.epoch, dist := x.dist + 1, port := p } else none

/-- The highest-ranked claim. -/
def Hub.bestClaim (h : Hub) : Claim := h.offers.foldl (fun b c => if c.above b then c else b) h.ownClaim

/-- DISC after the first MUSTERED: 2 on the leader, 1 on every other hub (R321). -/
def Hub.showDisc (h : Hub) : Hub :=
  if h.crew.ever then h.put R.TIME_STAT_DISC (if h.on R.CREW_STAT_IS_LEADER then 2 else 1) else h

/-- ROLE of every port (R322): UPPORT is SLAVE, every other JOINED port MASTER; PASSIVE where time is not served.
[log: DESIGN CHOICE 45] -/
def Hub.showRoles (h : Hub) : Hub :=
  h.upto 32 fun p g =>
    g.put (R.CREW_PORT_ROLE p)
      (if ¬ g.joined p then 0
       else if ¬ bit (g.get (R.CREW_PORT_CAPS p)) 1 then 3
       else if ¬ g.on R.CREW_STAT_IS_LEADER ∧ g.get R.CREW_STAT_UPPORT = p then 1 else 2)

/-- A re-muster (R320). -/
def Hub.remuster (newLeader : Bool) (h : Hub) : Hub :=
  let h := (h.put R.CREW_STAT_STATE 1).bump R.CREW_EVT_REMUSTERS 1
  let h := { h with crew := { h.crew with first := true, good := 0 } }
  if newLeader then h.put R.TIME_STAT_TRUSTED 0 else h

/-- The hub holds claim `c`; a change of LEADER or EPOCH is a re-muster. -/
def Hub.holdClaim (c : Claim) (h : Hub) : Hub :=
  let own := c.port = 32
  let changed := h.get R.CREW_STAT_LEADER ≠ c.leader ∨ h.get R.CREW_EPOCH ≠ c.epoch
  let newLeader := decide (h.get R.CREW_STAT_LEADER ≠ c.leader)
  let moved := decide (h.get R.CREW_STAT_UPPORT ≠ c.port % 32)
  let h := if changed then h.remuster newLeader else h
  let h := ((h.put R.CREW_STAT_LEADER c.leader).put R.CREW_STAT_IS_LEADER (if own then 1 else 0)).put R.CREW_STAT_DIST c.dist
  let h := (h.put R.CREW_STAT_UPPORT (if own then 0 else c.port)).put R.CREW_EPOCH c.epoch
  let h := if newLeader || moved then { h with crew := { h.crew with fresh := false } } else h
  h.showDisc.showRoles

/-- A leader that is offered its own ID at a newer epoch takes that epoch + 1 (R320). -/
def Hub.answerOwn (h : Hub) : Hub :=
  if h.on R.CREW_STAT_IS_LEADER then
    h.each (h.offers.filter fun c => c.leader == h.get R.CREW_CTRL_ID) fun c g =>
      if newer c.epoch g.crew.ownEpoch then { g with crew := { g.crew with ownEpoch := (c.epoch + 1) % 2 ^ 32 } } else g
  else h

/-- Choose the claim to hold (R318). -/
def Hub.chooseClaim (h : Hub) : Hub :=
  if h.crewOn then (let h := h.answerOwn; h.holdClaim h.bestClaim) else h

/-- The hub loses its leader (R319). -/
def Hub.loseLeader (h : Hub) : Hub :=
  if h.on R.CREW_STAT_IS_LEADER then h
  else
    let l := h.get R.CREW_STAT_LEADER
    let e := h.get R.CREW_EPOCH
    let h := (h.bump R.CREW_EVT_SYNC_LOST 1).put R.TIME_STAT_TRUSTED 0
    { h with crew := { h.crew with ownEpoch := (e + 1) % 2 ^ 32, fresh := false,
                                   down := (l, e) :: h.crew.down.filter fun x => x.1 != l } }.chooseClaim

/-- MISMATCH clears once no port is HELD (R317). -/
def Hub.showMismatch (h : Hub) : Hub :=
  if (List.range 32).any fun p => h.get (R.CREW_PORT_STATE p) == 3 then h else h.put R.CREW_STAT_MISMATCH 0

/-- Crew port `p` takes a state and cause; losing the upstream port loses the leader, and the claims are ranked anew. -/
def Hub.setCrewPort (p st cause : Nat) (h : Hub) : Hub :=
  let up := h.crewOn && h.joined p && st != 2 && !h.on R.CREW_STAT_IS_LEADER && h.get R.CREW_STAT_UPPORT == p
  let h := ((h.put (R.CREW_PORT_STATE p) st).put (R.CREW_PORT_CAUSE p) cause).showMismatch
  if up then h.loseLeader else h.chooseClaim.showRoles

/-- Port `p` has left UP or come up in crew mode: it waits for a HELLO (R317). -/
def Hub.crewWait (p : Nat) (h : Hub) : Hub :=
  h.crewIrq fun h => ((h.onCrewPort p fun _ => CrewPort.empty).setCrewPort p 1 0).put (R.SER_PORT_STAT_PEER_V p) 0

/-- Port `p` is no crew port any more. -/
def Hub.crewGone (p : Nat) (h : Hub) : Hub :=
  h.crewIrq fun h =>
    let h := ((h.onCrewPort p fun _ => CrewPort.empty).setCrewPort p 0 0).put (R.SER_PORT_STAT_PEER_V p) 0
    ((h.setReg (R.CREW_PORT_STATE p).off 0).put (R.CREW_PEER_DIGEST p) 0).put (R.SER_PORT_STAT_PEER p) 0

/-- The crew is enabled or disabled by a write of CREW_CTRL.EN (R313, R165). [log: DESIGN CHOICE 45] -/
def Hub.crewEnable (on : Bool) (h : Hub) : Hub :=
  h.crewIrq fun h =>
    if on then
      let h := (h.put R.CREW_CTRL_EN 1).put R.TIME_STAT_TRUSTED 0
      let h := (((h.put R.CREW_STAT_STATE 1).put R.CREW_STAT_LEADER (h.get R.CREW_CTRL_ID)).put R.CREW_STAT_IS_LEADER 1).put
        R.CREW_EPOCH h.crew.ownEpoch
      { h with crew := { h.crew with first := true, good := 0 } }.showRoles
    else
      let h := (h.put R.CREW_CTRL_EN 0).setReg R.CREW_STAT_STATE.off 0
      let h := h.upto 32 fun p g => if g.get (R.CREW_PORT_STATE p) = 0 then g
        else ((g.setReg (R.CREW_PORT_STATE p).off 0).put (R.CREW_PORT_STATE p) 1).onCrewPort p fun _ => CrewPort.empty
      ((h.put R.TIME_STAT_TRUSTED 1).put R.TIME_STAT_DISC 0) |> fun g => { g with crew := { g.crew with ever := false, fresh := false, down := [] } }

/-! ## HELLO (R314, R316) -/

/-- The 48 bytes of a HELLO payload (R314). -/
def Hub.helloBytes (h : Hub) : List Byte :=
  let b := BitVec.ofNat 8
  let lead := h.on R.CREW_STAT_IS_LEADER
  [b (h.get R.CREW_CTRL_ID), b (h.get R.CREW_FW_MAJOR), b (h.get R.CREW_FW_MINOR), 0] ++ leBytes 2 (h.get R.CREW_FW_PATCH)
    ++ [0, 0] ++ leBytes 4 (h.get R.CREW_DIGEST) ++ leBytes 4 (h.get R.CREW_CTRL_CAPS) ++ leBytes 4 (h.get R.CREW_EPOCH)
    ++ [b (h.get R.CREW_STAT_LEADER), b (h.get R.CREW_STAT_DIST),
        b (b2n (h.get R.CREW_STAT_STATE == 2) + 2 * b2n (lead || h.crew.fresh) + 4 * h.get R.TIME_STAT_TRUSTED), 0]
    ++ leBytes 8 h.now ++ leBytes 8 h.map.fuse.serial ++ leBytes 8 0

/-- The 4 bytes of the FCS of a frame. -/
def fcs (bs : List Byte) : List Byte := leBytes 4 (crc32 bs)

/-- The bytes of a crew frame (R298): `hops` holds HOPS and LAST, `credit` MSG or CREDIT, `lanes` OFFSET or LANES. -/
def crewFrame (type src dst hops seq credit lanes : Nat) (data : List Byte) : List Byte :=
  let b := [BitVec.ofNat 8 type, BitVec.ofNat 8 src, BitVec.ofNat 8 dst, BitVec.ofNat 8 hops] ++ leBytes 2 seq ++ leBytes 2 data.length
    ++ leBytes 4 credit ++ leBytes 4 lanes ++ data
  b ++ fcs b

/-- Send a crew frame of `type` that is no DATA on port `p` to the peer (R298). -/
def Hub.sendFrame (p type dst seq credit lanes : Nat) (data : List Byte) (h : Hub) : Hub :=
  h.send (.frame p 3 [] (crewFrame type (h.get R.CREW_CTRL_ID) dst 0 seq credit lanes data))

/-- DST of a HELLO, ACK, NAK or TIME frame on port `p` (R298, R314). -/
def Hub.peerId (h : Hub) (p : Nat) : Nat := if h.on (R.SER_PORT_STAT_PEER_V p) then h.get (R.CREW_PORT_PEER p) else 0xFF

/-- CREW_HELLO_TIMER (R314): a HELLO on every crew port that is UP. -/
def execCrewHelloTimer (s : State) : Host.Outcome State Fault Refusal :=
  s.act Ok.crewHelloTimer fun h =>
    if h.crewOn then h.upto 32 fun p g => if g.crewUp p then g.sendFrame p 0x10 (g.peerId p) 0 0 0 g.helloBytes else g else h

/-- The verdict on a HELLO (R316): port state and cause. -/
def Hub.judgeHello (h : Hub) (b : List Byte) : Nat × Nat :=
  if leAt b 32 8 = h.map.fuse.serial then (4, 4)
  else if 63 < leAt b 0 1 then (4, 5)
  else if leAt b 0 1 = h.get R.CREW_CTRL_ID then (4, 3)
  else if leAt b 1 1 ≠ h.get R.CREW_FW_MAJOR then (4, 1)
  else if leAt b 8 4 ≠ h.get R.CREW_DIGEST then (3, 2)
  else (2, 0)

/-- What a new verdict raises (R316): a NOTICE, WARNINGs, CREW records, MUSTER_MISMATCH. [log: DESIGN CHOICE 45] -/
def Hub.helloAlarm (p st cause : Nat) (b : List Byte) (h : Hub) : Hub :=
  if h.get (R.CREW_PORT_STATE p) = st ∧ h.get (R.CREW_PORT_CAUSE p) = cause then h
  else if st = 2 then h
  else if cause = 4 then h.notice 316 p
  else
    let h := h.warn 0x36 11 cause p
    let h := if cause = 2 then (h.put R.CREW_STAT_MISMATCH 1).bump R.CREW_EVT_MISMATCHES 1 else h
    if cause = 1 ∨ cause = 2 then
      h.yewRecord 0x40 1 false ([BitVec.ofNat 8 cause, BitVec.ofNat 8 p, BitVec.ofNat 8 (leAt b 0 1), 0, 0, 0, 0, 0] ++ leBytes 8 (leAt b 32 8))
    else h

/-- A HELLO is received on port `p` (R316): the port is judged and its peer's claim offered. -/
def Hub.takeHello (p : Nat) (b : List Byte) (h : Hub) : Hub :=
  let v := h.judgeHello b
  let h := h.helloAlarm p v.1 v.2 b
  let h := h.onCrewPort p fun x => { x with heard := true, leader := leAt b 20 1, epoch := leAt b 16 4, dist := leAt b 21 1 }
  let h := (((h.put (R.CREW_PEER_DIGEST p) (leAt b 8 4)).put (R.CREW_PORT_PEER p) (leAt b 0 1)).put (R.SER_PORT_STAT_PEER p) (leAt b 0 1)).put
    (R.SER_PORT_STAT_PEER_V p) 1
  let h := (h.put (R.CREW_PORT_LEVEL p) (min (leAt b 2 1) (h.get R.CREW_FW_MINOR))).put (R.CREW_PORT_CAPS p)
    (leAt b 12 4 % 4 &&& h.get R.CREW_CTRL_CAPS)
  h.setCrewPort p v.1 v.2

/-- CREW_HELLO (R313, R316, R318): `payload` is the 48 bytes of R314. -/
def execCrewHello (p : Nat) (payload : List Byte) (s : State) : Host.Outcome State Fault Refusal :=
  s.act (Ok.crewHello p payload) fun h => if h.crewOn ∧ h.crewUp p then h.crewIrq (Hub.takeHello p payload) else h

/-- CREW_PEER_TIMEOUT (R317): a JOINED port without HELLOs returns to WAIT. -/
def execCrewPeerTimeout (p : Nat) (s : State) : Host.Outcome State Fault Refusal :=
  s.act (Ok.crewPeerTimeout p) fun h => if h.joined p then h.crewWait p else h

/-- SYNC_LOSS (R319): no Sync on UPPORT for four sync intervals. -/
def execSyncLoss (s : State) : Host.Outcome State Fault Refusal :=
  s.act Ok.syncLoss fun h => if h.crewOn then h.crewIrq Hub.loseLeader else h

/-- CLAIM_HOLD_DOWN_END (R319): claims of `leader` may be adopted again. -/
def execClaimHoldDownEnd (leader : Nat) (s : State) : Host.Outcome State Fault Refusal :=
  s.act (Ok.claimHoldDownEnd leader) fun h =>
    { h with crew := { h.crew with down := h.crew.down.filter fun x => x.1 != leader } }.crewIrq Hub.chooseClaim

/-- A leader that is MUSTERED sets TRUSTED unless REFLOST (R323): also when REFLOST clears. [log: DESIGN CHOICE 45] -/
def Hub.leaderTrusts (h : Hub) : Hub :=
  if h.crewOn ∧ h.get R.CREW_STAT_STATE = 2 ∧ h.on R.CREW_STAT_IS_LEADER ∧ ¬ h.on R.TIME_STAT_REFLOST then h.put R.TIME_STAT_TRUSTED 1
  else h

/-- MUSTERED (R321, R323): the claim has not changed for eight HELLO intervals; the leader sets TRUSTED unless REFLOST. -/
def execMustered (s : State) : Host.Outcome State Fault Refusal :=
  s.act Ok.mustered fun h =>
    if h.crewOn ∧ h.get R.CREW_STAT_STATE = 1 then
      h.crewIrq fun h =>
        { (h.put R.CREW_STAT_STATE 2) with crew := { h.crew with ever := true } }.showDisc.leaderTrusts
    else h

/-- A write of 1 to CREW_CTRL.REMUSTER (R320): the claim held is raised to EPOCH + 1: the hub's own, or the one its UPPORT
offers. [log: DESIGN CHOICE 45] -/
def Hub.askRemuster (h : Hub) : Hub :=
  if h.crewOn then
    let e := (h.get R.CREW_EPOCH + 1) % 2 ^ 32
    h.crewIrq fun h =>
      if h.on R.CREW_STAT_IS_LEADER then { h with crew := { h.crew with ownEpoch := e } }.chooseClaim
      else (h.onCrewPort (h.get R.CREW_STAT_UPPORT) fun x => { x with epoch := e }).chooseClaim
  else h

/-- CREW_REMUSTER (R320). -/
def execCrewRemuster (req : Path) (s : State) : Host.Outcome State Fault Refusal :=
  s.act (Ok.crewRemuster req) (Hub.pfWrite req Hub.askRemuster)

/-! ## Crew time (R322, R323) -/

/-- PTP message types: 0 Sync, 2 Pdelay_Req, 3 Pdelay_Resp, 8 Follow_Up, 0xA Pdelay_Resp_Follow_Up. A TIME frame's fields
hold source, destination, the type, the sequence number and the timestamp it carries: the message's bytes are IEEE 1588's.
[log: DESIGN CHOICE 45] -/
def Hub.sendTime (p type seq stamp : Nat) (h : Hub) : Hub :=
  h.send (.frame p 4 [h.get R.CREW_CTRL_ID, h.peerId p, type, seq, stamp] [])

/-- A timestamp the hub takes at its PCS: hub time, to ±2 ns (R303). [log: DESIGN CHOICE 45] -/
def Hub.stamp (h : Hub) : Nat := h.now + h.free % 5 - 2

/-- SYNC_SEND (R322): Sync and Follow_Up on every MASTER port. -/
def execSyncSend (s : State) : Host.Outcome State Fault Refusal :=
  s.act Ok.syncSend fun h =>
    let q := h.crew.syncSeq
    let h := { h with crew := { h.crew with syncSeq := (q + 1) % 2 ^ 16 } }
    h.upto 32 fun p g =>
      if g.get (R.CREW_PORT_ROLE p) = 2 then ((g.sendTime p 0 q 0).sendTime p 8 q g.stamp).drew else g

/-- PDELAY_REQ_SEND (R322): Pdelay_Req on every JOINED port. -/
def execPdelayReqSend (s : State) : Host.Outcome State Fault Refusal :=
  s.act Ok.pdelayReqSend fun h =>
    h.upto 32 fun p g =>
      if g.joined p then
        let q := ((g.crewPort p).pdSeq + 1) % 2 ^ 16
        ((g.onCrewPort p fun x => { x with pdSeq := q, pdT1 := g.stamp, pdT2 := none }).drew).sendTime p 2 q 0
      else g

/-- A TIME frame that is not expected is discarded and counted. -/
def Hub.badTime (h : Hub) : Hub := h.bump R.CREW_EVT_BADTIME 1

/-- SYNC (R319, R322): kept on the SLAVE port with its arrival time; discarded elsewhere. -/
def execSync (p seq : Nat) (s : State) : Host.Outcome State Fault Refusal :=
  s.act (Ok.sync p seq) fun h =>
    if h.get (R.CREW_PORT_ROLE p) = 1 then
      let h := h.onCrewPort p fun x => { x with syncAt := some (seq, h.stamp) }
      { h with crew := { h.crew with fresh := true } }.drew
    else h.badTime

/-- The offset of hub time to the master, ps (R322, R323): arrival less origin, correction, link delay and asymmetry. -/
def Hub.syncOffset (h : Hub) (p arrival origin : Nat) (corr : Int) : Int :=
  ((arrival : Int) - (origin : Int)) * 1000 - corr - (h.crewPort p).delay - signed 32 (h.get (R.SER_PORT_ASYM p))

/-- A signed value saturated to 32 bits. -/
def sat32 (x : Int) : Nat := unsigned 32 (max (-2147483648) (min 2147483647 x))

/-- An offset that is not stepped is slewed in, and the servo corrects the rate by at most 500 ppm: by how much is free.
[log: DESIGN CHOICE 45] -/
def Hub.servo (off : Int) (h : Hub) : Hub :=
  let rate := ((h.free % 1000001 : Nat) : Int) - 500000
  { (h.put R.TIME_ADJ_PPB (unsigned 24 rate)).drew with time := { h.time with slew := -off } }

/-- An offset (ns) is judged (R323). [log: DESIGN CHOICE 45] -/
def Hub.judgeOffset (off : Int) (h : Hub) : Hub :=
  let h := h.put R.CREW_OFFSET (sat32 off)
  let big := decide (10000 < off.natAbs)
  let stepping := h.crew.first && big
  let h := if 1000 < off.natAbs then h.put R.TIME_STAT_TRUSTED 0 else h
  let good := if stepping then 1 else if off.natAbs ≤ 250 then min 8 (h.crew.good + 1) else 0
  let h := if stepping then h.stepTime ((h.now : Int) - off + 2 ^ 64).toNat else h.servo off
  let h := if big && !stepping && h.get R.CREW_STAT_STATE == 2 then h.remuster false
    else { h with crew := { h.crew with first := false } }
  let h := { h with crew := { h.crew with good := good } }
  if good = 8 then h.put R.TIME_STAT_TRUSTED 1 else h

/-- FOLLOW_UP (R322, R323): the Follow_Up of a kept Sync; `origin` in ns, `corr` the correction in ps. -/
def execFollowUp (p seq origin : Nat) (corr : Int) (s : State) : Host.Outcome State Fault Refusal :=
  s.act (Ok.followUp p seq origin corr) fun h =>
    match (h.crewPort p).syncAt with
    | none => h.badTime
    | some (q, t) =>
      if q = seq ∧ h.get (R.CREW_PORT_ROLE p) = 1 then
        (h.onCrewPort p fun x => { x with syncAt := none }).crewIrq (Hub.judgeOffset (h.syncOffset p t origin corr / 1000))
      else h.badTime

/-- PDELAY_REQ (R322): answered with Pdelay_Resp and Pdelay_Resp_Follow_Up. -/
def execPdelayReq (p seq : Nat) (s : State) : Host.Outcome State Fault Refusal :=
  s.act (Ok.pdelayReq p seq) fun h =>
    if h.joined p then
      let h := (h.sendTime p 3 seq h.stamp).drew
      (h.sendTime p 0xA seq h.stamp).drew
    else h.badTime

/-- PDELAY_RESP (R322): the peer's receive time `t2` and the arrival time are kept. -/
def execPdelayResp (p seq t2 : Nat) (s : State) : Host.Outcome State Fault Refusal :=
  s.act (Ok.pdelayResp p seq t2) fun h =>
    if h.joined p ∧ (h.crewPort p).pdSeq = seq then (h.onCrewPort p fun x => { x with pdT2 := some (t2, h.stamp) }).drew
    else h.badTime

/-- PDELAY_RESP_FOLLOW_UP (R322): the peer's send time `t3` completes the link delay, half of the round trip less the peer's
turnaround. -/
def execPdelayRespFollowUp (p seq t3 : Nat) (s : State) : Host.Outcome State Fault Refusal :=
  s.act (Ok.pdelayRespFollowUp p seq t3) fun h =>
    let x := h.crewPort p
    match x.pdT2 with
    | none => h.badTime
    | some (t2, t4) =>
      if h.joined p ∧ x.pdSeq = seq then
        h.onCrewPort p fun x =>
          { x with pdT2 := none, delay := (((t4 : Int) - (x.pdT1 : Int)) - ((t3 : Int) - (t2 : Int))) * 500 }
      else h.badTime

end Sys2Proof.Machine
end

