-- ==== Sys2Proof/Machine/MemCh.lean ====
section
/-!
DEFINITION. Memory channels: refresh, activation counts, parity, the pseudo-channel scheduler (R194 to R201), Sheet (R203 to
R205) and Telltale (R206 to R208).
-/
namespace Sys2Proof.Machine

/-- Key of a bank: 48 × hub pseudo-channel + bank index. -/
def bankKey (p bank : Nat) : Nat := 48 * p + bank

/-- Set a bank's activation count. -/
def Hub.setRaa (k v : Nat) (h : Hub) : Hub := { h with memch := { h.memch with raa := nset h.memch.raa k v } }

/-- One refresh of bank `k` of a pseudo-channel: it closes the bank's row, lowers its activation count and wakes the
pseudo-channel (R201). -/
def Hub.refreshBank (stack q k : Nat) (h : Hub) : Hub :=
  let m := h.memch
  { h with memch := { m with rows := nset m.rows k 0, raa := nset m.raa k (nget m.raa k - Config.raaPerRefresh) } }.put
    (R.MEM_PC_PD stack q) 0

/-- Set how many refreshes of a bank are postponed and pulled in. -/
def Hub.setRefresh (k owed pulled : Nat) (h : Hub) : Hub :=
  { h with memch := { h.memch with owed := nset h.memch.owed k owed, pulled := nset h.memch.pulled k pulled } }

/-- A refresh of bank `k` is due: one that was pulled in stands for it; it is postponed behind pending requests where `postpone` says
so, up to the limit; else it is issued. [log: DESIGN CHOICE 7] -/
def Hub.refreshDue (stack q k : Nat) (postpone : Bool) (h : Hub) : Hub :=
  let owed := nget h.memch.owed k
  let pulled := nget h.memch.pulled k
  if 0 < pulled then h.setRefresh k owed (pulled - 1)
  else if postpone ∧ ¬ (h.queue (32 * stack + q)).isEmpty ∧ owed < Config.refreshLimit then h.setRefresh k (owed + 1) pulled
  else h.refreshBank stack q k

/-- A refresh beyond those that are due: a postponed one is made up, or in idle one is pulled in, up to the limit.
[log: DESIGN CHOICE 7] -/
def Hub.refreshExtra (stack q k : Nat) (h : Hub) : Hub :=
  let owed := nget h.memch.owed k
  let pulled := nget h.memch.pulled k
  if 0 < owed then (h.setRefresh k (owed - 1) pulled).refreshBank stack q k
  else if (h.queue (32 * stack + q)).isEmpty ∧ pulled < Config.refreshLimit then
    (h.setRefresh k owed (pulled + 1)).refreshBank stack q k
  else h

/-- REFRESH (R194): `how` is 0 for a refresh that is due and issued, 1 due and postponed behind pending requests, 2 one more, made up
or pulled in. In self-refresh the stacks refresh themselves (R188). [log: DESIGN CHOICE 7] -/
def execRefresh (stack q bank how : Nat) (s : State) : Host.Outcome State Fault Refusal :=
  s.act (Ok.refresh stack q bank how) fun h =>
    let k := bankKey (32 * stack + q) bank
    if h.memch.selfRef then h
    else if how = 2 then h.refreshExtra stack q k
    else h.refreshDue stack q k (how == 1)

/-- The stacks enter self-refresh with an all-bank refresh (R188): every row closes, and no refresh is owed or ahead.
[log: DESIGN CHOICE 7] -/
def Hub.selfRefresh (h : Hub) : Hub :=
  { h with memch := { h.memch with rows := [], owed := [], pulled := [], selfRef := true } }

/-- The stacks leave self-refresh. -/
def Hub.wakeStacks (h : Hub) : Hub := { h with memch := { h.memch with selfRef := false } }

/-- Scheduling rank of a request, 1 first (R199); a scrub read takes the lowest until its age counts.
[log: DESIGN CHOICE 38] -/
def Hub.rank (h : Hub) (p : Nat) (r : MemReq) : Nat :=
  let d := dramDecode r.addr
  if 2 ≤ r.tag then 1
  else if r.at_ + 10 * h.get (R.MEM_SCHED_AGE_MAX (p / 32)) ≤ h.clock then 2
  else if r.tag = 1 then 3
  else if nget h.memch.rows (bankKey p d.bank) = d.row + 1 ∧ ¬ r.scrub then 4
  else 5

/-- A write drain starts at WR_HI queued writes and ends at WR_LO (R199). -/
def Hub.drainNow (h : Hub) (p : Nat) : Bool :=
  let n := ((h.queue p).filter fun r => r.write).length
  if nget h.memch.drain p = 1 then decide (h.get (R.MEM_SCHED_WR_LO (p / 32)) < n)
  else decide (h.get (R.MEM_SCHED_WR_HI (p / 32)) ≤ n)

/-- A request the scheduler may choose: its bank is free, its activation is not blocked at RAAMMT (R195), and during a write
drain it is a write or an urgent read. -/
def Hub.mayIssue (h : Hub) (p : Nat) (busy : List Nat) (drain : Bool) (r : MemReq) : Bool :=
  let d := dramDecode r.addr
  let k := bankKey p d.bank
  let hit := nget h.memch.rows k == d.row + 1
  let blocked := !hit && nget h.memch.raammt (p / 32) != 0 && decide (nget h.memch.raammt (p / 32) ≤ nget h.memch.raa k)
  !busy.contains d.bank && !blocked && (!drain || r.write || decide (2 ≤ r.tag))

/-- The request the scheduler chooses: lowest rank, oldest first; in a write drain among the writes and the urgent reads.
[log: DESIGN CHOICE 38] -/
def Hub.choose (h : Hub) (p : Nat) (busy : List Nat) : Option MemReq :=
  let l := (h.queue p).filter (h.mayIssue p busy (h.drainNow p))
  [1, 2, 3, 4, 5].findSome? fun k => l.find? fun r => h.rank p r == k

/-- Count an urgent request's `n` bytes against its master's window (R208): at BUDGET the master is clamped for the rest of it. -/
def Hub.countUrgent (m n : Nat) (h : Hub) : Hub :=
  if 13 ≤ m then h else
  let h := (h.bump (R.QOS_TT3_URGENT m) 1).countEvent 7
  let u := nget h.memch.urgent m + n
  let h := { h with memch := { h.memch with urgent := nset h.memch.urgent m u } }
  if 1000 * h.get (R.QOS_TT2_BUDGET m) ≤ u ∧ nget h.memch.clamp m = 0 then
    { h with memch := { h.memch with clamp := nset h.memch.clamp m 1 } }.bump (R.QOS_TT3_CLAMPS m) 1
  else h

/-- Issue a request to the stack: a row miss activates its row and counts in RAA. -/
def Hub.issue (p : Nat) (r : MemReq) (h : Hub) : Hub :=
  let d := dramDecode r.addr
  let k := bankKey p d.bank
  let hit := nget h.memch.rows k == d.row + 1
  let h := h.setQueue p ((h.queue p).erase r)
  let m := h.memch
  let h := if hit then h else { h with memch := { m with rows := nset m.rows k (d.row + 1), raa := nset m.raa k (nget m.raa k + 1) } }
  let h := h.put (R.MEM_PC_PD (p / 32) (p % 32)) 0
  if 2 ≤ r.tag then h.countUrgent r.master r.size else h

/-- A bank of pseudo-channel `p` whose count has reached RAAIMT and which is free (R195). [log: DESIGN CHOICE 7] -/
def Hub.rfmBank (h : Hub) (p : Nat) (busy : List Nat) : Option Nat :=
  let t := nget h.memch.raaimt (p / 32)
  (List.range 48).find? fun b => t != 0 && decide (t ≤ nget h.memch.raa (bankKey p b)) && !busy.contains b

/-- A command slot (R195, R199): RFM to a bank that has reached RAAIMT, else the first request of the highest occupied rank. -/
def Hub.schedule (p : Nat) (busy : List Nat) (h : Hub) : Hub :=
  let h := { h with memch := { h.memch with drain := nset h.memch.drain p (b2n (h.drainNow p)) } }
  match h.rfmBank p busy with
  | some b =>
    let k := bankKey p b
    (h.setRaa k (nget h.memch.raa k - Config.raaPerRfm)).bump (R.MEM_EVT_RFM (p / 32)) 1
  | none => match h.choose p busy with
    | none => h
    | some r => h.issue p r

/-- SCHEDULE_COMMAND (R199): `busy` names the banks that are not free. -/
def execScheduleCommand (stack q : Nat) (busy : List Nat) (s : State) : Host.Outcome State Fault Refusal :=
  s.act (Ok.scheduleCommand stack q busy) (Hub.schedule (32 * stack + q) busy)

/-- CA_PARITY_ERROR (R196): the command is reissued and the reissue counted; `again` says that a reissue of it failed. Four
failed reissues are FATAL (cause 0x03). -/
def execCaParityError (stack : Nat) (again : Bool) (s : State) : Host.Outcome State Fault Refusal :=
  s.act (Ok.caParityError stack again) fun h =>
    let n := if again then nget h.memch.parity stack else 0
    if 4 ≤ n then { h with memch := { h.memch with parity := nset h.memch.parity stack 0 } }.fatal 3 7 stack
    else { h with memch := { h.memch with parity := nset h.memch.parity stack (n + 1) } }.bump (R.MEM_EVT_CAPAR stack) 1

/-- STACK_TEMP_READ (R192, R194): the reading sets TEMP, the refresh rate and TRIP, whose rise raises a WARNING; a failed read
takes the stack as hot and raises a WARNING (corner of R196). [log: DESIGN CHOICE 56] -/
def execStackTempRead (stack : Nat) (ok : Bool) (temp : Nat) (s : State) : Host.Outcome State Fault Refusal :=
  s.act (Ok.stackTempRead stack ok temp) fun h =>
    if ok then
      let trip := decide (h.get (R.MEM_THERM_TRIP_C stack) ≤ temp)
      let rises := trip && !h.on (R.MEM_STAT_TRIP stack)
      let h := ((h.put (R.MEM_STAT_TEMP stack) temp).put (R.MEM_STAT_HOT stack) (b2n (decide (85 ≤ temp)))).put
        (R.MEM_STAT_TRIP stack) (b2n trip)
      if rises then h.warn 0x22 7 temp stack else h
    else (h.put (R.MEM_STAT_HOT stack) 1).warn 0x23 7 0 stack

/-- POWER_DOWN_ENTRY (R201): an idle pseudo-channel with PD_EN enters power-down. -/
def execPowerDownEntry (stack q : Nat) (s : State) : Host.Outcome State Fault Refusal :=
  s.act (Ok.powerDownEntry stack q) fun h =>
    if h.on (R.MEM_CFG_PD_EN stack) ∧ (h.queue (32 * stack + q)).isEmpty then h.put (R.MEM_PC_PD stack q) 1 else h

/-! ## Sheet -/

/-- Ceiling in force of class `c`: CEIL, or FLOOR when CEIL lies below it (corner of R205). -/
def Hub.ceilOf (h : Hub) (c : Nat) : Nat := max (h.get (R.QOS_CLASS0_CEIL c)) (h.get (R.QOS_CLASS0_FLOOR c))

/-- Rate in force of class `c`, 10⁻³ GB/s. [log: DESIGN CHOICE 38] -/
def Hub.rateOf (h : Hub) (c : Nat) : Nat :=
  if nget h.memch.rate c = 0 then 1000 * h.ceilOf c else nget h.memch.rate c - 1

/-- Some master is at level 3 (R207). -/
def Hub.critical (h : Hub) : Bool := (List.range 13).any fun m => h.level4 m == 3

/-- Store class `c`'s rate; RATE and THROTTLED show it, at FLOOR while a master is critical (R207). [log: DESIGN CHOICE 38] -/
def Hub.setRate (c v : Nat) (h : Hub) : Hub :=
  let h := { h with memch := { h.memch with rate := nset h.memch.rate c (v + 1) } }
  let shown := if h.critical then h.get (R.QOS_CLASS0_FLOOR c) else v / 1000
  (h.put (R.QOS_CLASS1_RATE c) shown).put (R.QOS_CLASS1_THROTTLED c) (b2n (decide (shown < h.get (R.QOS_CLASS0_CEIL c))))

/-- Congestion of one pseudo-channel (R203, R204). -/
def Hub.congest (p : Nat) (h : Hub) : Hub :=
  let n := (h.queue p).length
  let f := R.MEM_PC_CONG (p / 32) (p % 32)
  h.put f (b2n (decide (h.get R.QOS_SHEET_CTRL_HI ≤ n) || (h.on f && decide (h.get R.QOS_SHEET_CTRL_LO < n))))

/-- Class `c` sent to a congested pseudo-channel within the last `ns`. -/
def Hub.sentCong (h : Hub) (c ns : Nat) : Bool :=
  nget h.memch.congAt c != 0 && decide (h.clock + 1 ≤ nget h.memch.congAt c + ns)

/-- Requests of class `c` that waited enter, oldest first, as far as the tokens go. -/
def Hub.releaseWaiting (c : Nat) : List MemReq → Hub → Hub
  | [], h => h.setWaiting c []
  | q :: l, h => if h.tokensFor c q.size then Hub.releaseWaiting c l (h.payEnter q) else h.setWaiting c (q :: l)

/-- 50 ns of tokens for class `c`, at its rate, or at FLOOR while a master is critical (R203, R207).
[log: DESIGN CHOICE 38] -/
def Hub.sheetRefill (c : Nat) (h : Hub) : Hub :=
  let rate := if h.critical then 1000 * h.get (R.QOS_CLASS0_FLOOR c) else h.rateOf c
  let h := { h with memch := { h.memch with spent := nset h.memch.spent c (nget h.memch.spent c - rate) } }
  Hub.releaseWaiting c (h.waiting c) h

/-- One class's part of the Sheet loop (R204, R205). -/
def Hub.sheetClassStep (c : Nat) (h : Hub) : Hub :=
  let since := nget h.memch.sinceCut c + 50
  let h := { h with memch := { h.memch with sinceCut := nset h.memch.sinceCut c since } }
  if h.sentCong c 200 && decide (200 ≤ since) then
    let v := max (1000 * h.get (R.QOS_CLASS0_FLOOR c)) (h.rateOf c * (16 - h.get R.QOS_SHEET_CTRL_CUT) / 16)
    let h := { h with memch := { h.memch with sinceCut := nset h.memch.sinceCut c 0 } }
    ((h.setRate c v).bump (R.QOS_CLASS2_CUTS c) 1).countEvent 6
  else if !h.sentCong c 1000 then h.setRate c (min (1000 * h.ceilOf c) (h.rateOf c + 50 * h.get R.QOS_SHEET_CTRL_RISE))
  else h.setRate c (h.rateOf c)

/-- SHEET_UPDATE (R204): every 50 ns; each class's buckets then take the tokens of that time. -/
def execSheetUpdate (s : State) : Host.Outcome State Fault Refusal :=
  s.act Ok.sheetUpdate fun h =>
    let h := h.upto 192 Hub.congest
    let n := ((List.range 192).filter fun p => h.on (R.MEM_PC_CONG (p / 32) (p % 32))).length
    (((h.put R.QOS_SHEET_STAT_CONG_PC n).put R.QOS_SHEET_STAT_CRITICAL (b2n h.critical)).upto 7 Hub.sheetClassStep).upto 7 Hub.sheetRefill

/-- 75 % of the peak aggregate rate at rate code `code`, tenths of GB/s (R205, R22); an untrained hub counts 9.6 Gb/s.
[log: DESIGN CHOICE 38] -/
def floorLimit (code : Nat) : Nat :=
  if code = 1 then 36864 else if code = 2 then 41472 else if code = 3 then 46080 else if code = 4 then 50688
  else if code = 5 then 52992 else 55296

/-- Sum of the floors with class `c`'s replaced by `v`. [log: DESIGN CHOICE 38] -/
def Hub.floorSum (h : Hub) (c v : Nat) : Nat :=
  (List.range 7).foldl (fun a k => a + if k = c then v else h.get (R.QOS_CLASS0_FLOOR k)) 0

/-- A write of QOS_CLASS_c word 0 (R205): a floor that breaks the limit is not stored, FLOOR_REF is set and a NOTICE logged. -/
def Hub.floorWrite (req : Path) (c : Nat) (v : Word) (h : Hub) : Hub :=
  let off := (R.QOS_CLASS0_CEIL c).off
  if !h.unlocked then (h.put (R.QOS_CLASS0_CEIL c) (bitsOf v 0 16)).logAccess 0x10 req off v.toNat
  else if floorLimit (h.get (R.MEM_STAT_RATE 0)) < 10 * h.floorSum c (bitsOf v 16 16) then
    (h.put R.QOS_SHEET_STAT_FLOOR_REF 1).notice 205 v.toNat
  else (h.put (R.QOS_CLASS0_CEIL c) (bitsOf v 0 16)).put (R.QOS_CLASS0_FLOOR c) (bitsOf v 16 16)

/-- FLOOR_WRITE (R205). -/
def execFloorWrite (req : Path) (c : Nat) (v : Word) (s : State) : Host.Outcome State Fault Refusal :=
  s.act (Ok.floorWrite req c v) (Hub.pfWrite req (Hub.floorWrite req c v))

/-- Floors above the limit at the trained rate are all scaled down by one factor (R205). -/
def Hub.scaleFloors (h : Hub) : Hub :=
  let lim := floorLimit (h.get (R.MEM_STAT_RATE 0))
  let sum := 10 * h.floorSum 7 0
  if sum ≤ lim then h
  else ((h.upto 7 fun c g => g.put (R.QOS_CLASS0_FLOOR c) (g.get (R.QOS_CLASS0_FLOOR c) * lim / sum)).put
    R.QOS_SHEET_STAT_FLOOR_SCALED 1).notice 205 0

/-! ## Telltale -/

/-- Three thresholds in ascending order. -/
def sort3 (a b c : Nat) : Nat × Nat × Nat :=
  let lo := min a (min b c)
  let hi := max a (max b c)
  (lo, a + b + c - lo - hi, hi)

/-- A write of QOS_TT_m word 0 (corner of R209): stored in ascending order, a disorder logged as a NOTICE; a site's reads 0
and ignores it. -/
def Hub.thresholdWrite (m : Nat) (v : Word) (h : Hub) : Hub :=
  if m < 4 then h else
  let t1 := bitsOf v 0 7
  let t2 := bitsOf v 8 7
  let t3 := bitsOf v 16 7
  let t := sort3 t1 t2 t3
  let h := ((h.put (R.QOS_TT0_T1 m) t.1).put (R.QOS_TT0_T2 m) t.2.1).put (R.QOS_TT0_T3 m) t.2.2
  if t2 ≤ t1 ∨ t3 ≤ t2 then h.notice 209 v.toNat else h

/-- TELLTALE_THRESHOLD_WRITE (R206, corner of R209). -/
def execTelltaleThresholdWrite (req : Path) (m : Nat) (v : Word) (s : State) : Host.Outcome State Fault Refusal :=
  s.act (Ok.telltaleThresholdWrite req m v) (Hub.pfWrite req (Hub.thresholdWrite m v))

/-- A level follows the fill (R206): up to the highest threshold reached, down one level for each threshold the fill lies 5
points or more below. -/
def levelStep (t1 t2 t3 fill level : Nat) : Nat :=
  let up := if t3 ≤ fill then 3 else if t2 ≤ fill then 2 else if t1 ≤ fill then 1 else 0
  let down := if fill + 5 ≤ t1 then 0 else if fill + 5 ≤ t2 then 1 else if fill + 5 ≤ t3 then 2 else 3
  max up (min level down)

/-- The fill of hub-side master `m` is `fill` %: its level follows, and CRITICAL shows a master at level 3. -/
def Hub.fillLevel (m fill : Nat) (h : Hub) : Hub :=
  let l := levelStep (h.get (R.QOS_TT0_T1 m)) (h.get (R.QOS_TT0_T2 m)) (h.get (R.QOS_TT0_T3 m)) fill (h.get (R.QOS_TT1_LEVEL m))
  let h := (h.put (R.QOS_TT1_FILL m) fill).setLevel m l
  h.put R.QOS_SHEET_STAT_CRITICAL (b2n h.critical)

/-- TELLTALE_WINDOW (R208): a new 10 µs window begins for every master. -/
def execTelltaleWindow (s : State) : Host.Outcome State Fault Refusal :=
  s.act Ok.telltaleWindow fun h => { h with memch := { h.memch with urgent := [], clamp := [] } }

end Sys2Proof.Machine
end

