-- ==== Sys2Proof/Machine/Mover.lean ====
section
/-!
DEFINITION. The data movers (R133, R134, R215) and the end of a descriptor whose work has ended (R140, R143, R146): the
meanings of COPY, FILL, GATHER, SCATTER and DESCRIPTOR_COMPLETE.
-/
namespace Sys2Proof.Machine

/-! ## Lists (R133) -/

/-- Entries of a list's bytes: address, length, reserved bytes. -/
def listEntries (b : List Byte) : Nat → List (Nat × Nat × Nat)
  | 0 => []
  | k + 1 => listEntries b k ++ [(leAt b (16 * k) 8, leAt b (16 * k + 8) 4, leAt b (16 * k + 12) 4)]

/-- Status the entries of a list end in: 0, or the first of BAD_DESC, BAD_ADDR, ACCESS_DENIED that fails (R132, R133). -/
def Hub.listCheck (h : Hub) (fn : Nat) (dest : Nat) (l : List (Nat × Nat × Nat)) : Nat :=
  let total := l.foldl (fun a e => a + e.2.1) 0
  if l.any fun e => e.2.1 == 0 || e.2.2 != 0 then 2
  else if !(l.all (fun e => h.rangeOk e.1 e.2.1) && h.rangeOk dest total) then 3
  else if fn != 0 && !(l.all (fun e => h.vfRange (fn - 1) e.1 e.2.1) && h.vfRange (fn - 1) dest total) then 5
  else 0

/-- What reading a list answers: not yet, an uncorrectable error, or its bytes. -/
inductive ListRead where
  | wait
  | bad
  | bytes (b : List Byte)
deriving DecidableEq, Repr

/-- Read the list of `d` from its space; from host memory it is `host`. -/
def Chip.readList (req : Nat) (d : Desc) (host : List Byte) (c : Chip) : ListRead × Chip :=
  let a := leAt d.bytes 28 8
  let n := 16 * leAt d.bytes 36 4
  if 2 ≤ addrSpace a then (if host.length < n then (.wait, c) else (.bytes (host.take n), c))
  else if addrSpace a = 1 ∧ ¬ c.hub.rangeFree false (addrOff a) n then (.wait, (c.probe req false (addrOff a) n).shown)
  else
    let r := c.read req (addrSpace a) (addrOff a) n
    (if r.bad then .bad else .bytes r.data, r.chip)

/-- Read the whole list before the first data write (R133, R215): an error or a bad entry completes the descriptor. Also how
many bytes of `host` the list took. [log: DEDUCED 34] -/
def Chip.fetchList (n id : Nat) (host : List Byte) (c : Chip) : Nat × Chip :=
  match c.hub.desc n id with
  | none => (0, c)
  | some d =>
    if !c.hub.listReady n d then (0, c)
    else match c.readList (0x1000 + n) d host with
      | (.wait, c) => (0, c)
      | (.bad, c) => (0, ⟨c.hub.finish n d 8 0 0, c.mem⟩)
      | (.bytes b, c) =>
        let l := listEntries b (leAt d.bytes 36 4)
        let st := c.hub.listCheck (c.hub.ringFn n) (dDest d.bytes) l
        if st ≠ 0 then (0, ⟨c.hub.finish n d st 0 0, c.mem⟩)
        else
          let h := c.hub.onDesc n id fun x => { x with list := l.map fun e => (e.1, e.2.1), listRead := true }
          (if 2 ≤ addrSpace (leAt d.bytes 28 8) then b.length else 0, ⟨h, c.mem⟩)

/-! ## Where the bytes are -/

/-- The address operand of byte `k` of a list of ranges, and how many bytes of its range follow. -/
def inList : List (Nat × Nat) → Nat → Nat × Nat
  | [], _ => (0, 0)
  | e :: l, k => if k < e.2 then (e.1 + k, e.2 - k) else inList l (k - e.2)

/-- Bytes a mover moves in all. -/
def Desc.total (d : Desc) : Nat := if dOp d.bytes ≤ 2 then dLen d.bytes else listLen d.list

/-- Source address of byte `k` and the bytes that follow it contiguously; a FILL has none. -/
def Desc.srcAt (d : Desc) (k : Nat) : Nat × Nat :=
  if dOp d.bytes = 3 then inList d.list k
  else if dOp d.bytes = 4 then (dDest d.bytes + k, d.total - k)
  else (leAt d.bytes 28 8 + k, d.total - k)

/-- Destination address of byte `k` and the bytes that follow it contiguously. -/
def Desc.dstAt (d : Desc) (k : Nat) : Nat × Nat :=
  if dOp d.bytes = 4 then inList d.list k else (dDest d.bytes + k, d.total - k)

/-- Bytes from address operand `a` to the end of its line; host memory is taken in lines too. -/
def toLineEnd (a : Nat) : Nat := 64 - addrOff a % 64

/-- The pattern bytes of a FILL from byte `k` (R133). -/
def fillBytes (pattern k n : Nat) : List Byte := (List.range n).map fun i => BitVec.ofNat 8 (pattern / 256 ^ ((k + i) % 8))

/-- A COPY's source and destination share a byte (R134). -/
def Desc.overlaps (d : Desc) : Bool :=
  dOp d.bytes == 1 && (
    let s := leAt d.bytes 28 8
    let t := dDest d.bytes
    addrSpace s == addrSpace t && decide (s < t + d.total) && decide (t < s + d.total))

/-! ## Moving -/

/-- What reading a piece answers. -/
inductive Piece where
  | wait
  | bad
  | bytes (b : List Byte)
deriving DecidableEq, Repr

/-- Read `n` bytes of source at operand `a`, all in one line; host bytes are the next of `host`, once function `fn` may read (R127). -/
def Chip.readPiece (req fn a n : Nat) (host : List Byte) (c : Chip) : Piece × Chip :=
  if 2 ≤ addrSpace a then (if host.length < n ∨ ¬ c.hub.fnRuns fn then (.wait, c) else (.bytes (host.take n), c))
  else if addrSpace a = 1 ∧ ¬ c.hub.rangeFree false (addrOff a) n then (.wait, (c.probe req false (addrOff a) n).shown)
  else
    let r := c.read req (addrSpace a) (addrOff a) n
    (if r.bad then .bad else .bytes r.data, r.chip)

/-- The bytes of an overlapping COPY's source up to the first line that cannot be read, line by line (R134, R215). -/
def Chip.readSource (req : Nat) : Nat → Nat → Nat → Chip → List Byte × Chip
  | 0, _, _, c => ([], c)
  | k + 1, a, n, c =>
    let m := min n (toLineEnd a)
    if m = 0 then ([], c)
    else
      let r := c.read req (addrSpace a) (addrOff a) m
      if r.bad then ([], r.chip)
      else
        let q := Chip.readSource req k (a + m) (n - m) r.chip
        (r.data ++ q.1, q.2)

/-- What one move of a mover does: it goes on, waits, or its work ends with a status. -/
inductive Moved where
  | more (n : Nat)
  | wait
  | over (status : Nat)
deriving DecidableEq, Repr

/-- Write a piece at operand `a` (R171): to host memory it is a PCIe write, which waits while the function is paused (R127); a line
that must be recalled waits. [log: DESIGN CHOICE 35] -/
def Chip.writePiece (req fn a : Nat) (bs : List Byte) (c : Chip) : Moved × Chip :=
  if 2 ≤ addrSpace a ∧ ¬ c.hub.fnRuns fn then (.wait, c)
  else if 2 ≤ addrSpace a then (.more bs.length, ⟨c.hub.send (.hostWrite fn (addrOff a) bs), c.mem⟩)
  else if addrSpace a = 1 ∧ ¬ c.hub.rangeFree true (addrOff a) bs.length then (.wait, (c.probe req true (addrOff a) bs.length).shown)
  else
    let r := c.writePieces req (addrSpace a) (cutLines (addrOff a) bs)
    (if r.bad then .over 8 else .more bs.length, r.chip)

/-- One move of `d` from byte `k`: the rest of its source line, or less where a range ends or a stop point comes. A SCATTER reads the
rest of the line before it writes any of it (R215). A stop point is a multiple of 4 KiB in bytes moved, and a stopped mover that
moves its last byte ends OK (R141). [log: DESIGN CHOICE 35] -/
def Chip.moveOne (n : Nat) (d : Desc) (k : Nat) (host : List Byte) (c : Chip) : Moved × Nat × Chip :=
  let left := d.total - k
  let fn := c.hub.ringFn n
  let req := 0x1000 + n
  let dst := d.dstAt k
  let stopAt := if d.stop then 4096 - k % 4096 else left
  if left = 0 then (.over 0, 0, c)
  else if d.stop ∧ k % 4096 = 0 then (.over 0x0A, 0, c)
  else if d.overlaps ∧ d.snap = none then (.wait, 0, c)
  else if dOp d.bytes = 2 then
    let m := min (min left stopAt) (min dst.2 (toLineEnd dst.1))
    let w := c.writePiece req fn dst.1 (fillBytes (leAt d.bytes 40 8) k m)
    (w.1, 0, w.2)
  else
    let src := d.srcAt k
    let m := min (min left stopAt) (min (min dst.2 src.2) (toLineEnd src.1))
    match d.snap with
    | some b =>
      if b.length < k + m then (.over 8, 0, c)
      else
        let w := c.writePiece req fn dst.1 ((b.drop k).take m)
        (w.1, 0, w.2)
    | none =>
      let whole := if 2 ≤ addrSpace src.1 then m else min left (min src.2 (toLineEnd src.1))
      match c.readPiece req fn src.1 whole host with
      | (.wait, c) => (.wait, 0, c)
      | (.bad, c) => (.over 8, 0, c)
      | (.bytes b, c) =>
        let w := c.writePiece req fn dst.1 (b.take m)
        (w.1, if 2 ≤ addrSpace src.1 then (match w.1 with | .wait => 0 | _ => m) else 0, w.2)

/-- A mover at work on engine `e`. -/
def Desc.movesOn (e : Nat) (d : Desc) : Bool := isMover (dOp d.bytes) && d.started && !d.ended && d.unit == e

/-- It is the turn of `d` of ring `n` among the movers of its engine (R134). -/
def Hub.itsTurn (h : Hub) (n : Nat) (d : Desc) : Bool :=
  match h.disp.movers.find? fun e => (h.desc e.1 e.2).any (Desc.movesOn d.unit) with
  | none => true
  | some e => e == (n, d.id)

/-- Descriptor `id` of ring `n` goes to the end of its engine's round; those that have ended leave it. -/
def Hub.passTurn (n id : Nat) (h : Hub) : Hub :=
  let l := h.disp.movers.filter fun e => e != (n, id) && (h.desc e.1 e.2).any fun d => d.started && !d.ended
  { h with disp := { h.disp with movers := l ++ [(n, id)] } }

/-- At most `k` moves of descriptor `id`, in its turn: the engine goes on to its next mover at a 4 KiB boundary and where this one
waits (R134). Its work ends at its last byte, at an error, or at a stop point. [log: DESIGN CHOICE 35] -/
def Chip.moves (n id : Nat) : Nat → List Byte → Chip → Chip
  | 0, _, c => c
  | k + 1, host, c =>
    match c.hub.desc n id with
    | none => c
    | some d =>
      if d.ended ∨ ¬ c.hub.itsTurn n d then c
      else match c.moveOne n d d.moved host with
        | (.wait, _, c) => ⟨c.hub.passTurn n id, c.mem⟩
        | (.over st, _, c) => ⟨c.hub.endWork n id st d.moved, c.mem⟩
        | (.more m, used, c) =>
          let h := c.hub.onDesc n id fun x => { x with moved := x.moved + m, drained := x.drained || x.hostFrom (x.moved + m) }
          let h := if d.moved + m = d.total then h.endWork n id 0 d.total
            else if (d.moved + m) % 4096 = 0 then h.passTurn n id else h
          Chip.moves n id k (host.drop used) ⟨h, c.mem⟩

/-- A mover that has just started takes its engine, physical under the map in force (R84; the dispatcher's choice among the
logical engines is free). -/
def Chip.beginMove (n : Nat) (d : Desc) (c : Chip) : Chip :=
  let e := leAt d.bytes 48 1
  let unit := (c.hub.physOf 0 0 (if e = 0xFF then c.hub.free % max 1 (c.hub.get R.MAP_COUNT_ENG) else e)).getD 68
  let h := if e = 0xFF then c.hub.drew else c.hub
  ⟨(h.onDesc n d.id fun x => { x with unit := unit }).passTurn n d.id, c.mem⟩

/-- An overlapping COPY that has started reads its source in full first, once no line of it has to be recalled, or once `host` holds
all of it (R134). Also how many bytes of `host` that took. -/
def Chip.takeSnap (n id : Nat) (host : List Byte) (c : Chip) : Nat × Chip :=
  match c.hub.desc n id with
  | none => (0, c)
  | some d =>
    let s := leAt d.bytes 28 8
    if ¬ (d.started ∧ d.overlaps ∧ d.snap = none ∧ ¬ d.ended) then (0, c)
    else if 2 ≤ addrSpace s then
      (if host.length < d.total ∨ ¬ c.hub.fnRuns (c.hub.ringFn n) then (0, c)
       else (d.total, ⟨c.hub.onDesc n id fun x => { x with snap := some (host.take d.total) }, c.mem⟩))
    else if addrSpace s = 1 ∧ ¬ c.hub.rangeFree false (addrOff s) d.total then
      (0, (c.probe (0x1000 + n) false (addrOff s) d.total).shown)
    else
      let r := c.readSource (0x1000 + n) (d.total / 64 + 2) s d.total
      (0, ⟨r.2.hub.onDesc n id fun x => { x with snap := some r.1 }, r.2.mem⟩)

/-- A started mover goes on: an overlapping COPY's source is read first, then at most `k` lines are moved. -/
def Chip.goOn (n id k : Nat) (host : List Byte) (c : Chip) : Chip :=
  let s := c.takeSnap n id host
  s.2.moves n id k (host.drop s.1)

/-- A mover is considered, but for one whose list is still on its way; started, it moves at most `limit` lines (R134, R148).
[log: DESIGN CHOICE 35] -/
def Chip.mover (op n id limit : Nat) (host : List Byte) (c : Chip) : Chip :=
  match c.hub.desc n id with
  | none => c
  | some d0 =>
    if dOp d0.bytes ≠ op then c
    else
      let p := c.fetchList n id host
      let c := p.2
      let h := match c.hub.desc n id with
        | none => c.hub
        | some d => if c.hub.listReady n d then c.hub else c.hub.consider op n id
      match h.running op n id with
      | none => ⟨h, c.mem⟩
      | some d =>
        let c : Chip := ⟨h, c.mem⟩
        (if d0.started then c else c.beginMove n d).goOn n id limit (host.drop p.1)

/-- COPY (R133, R134): `limit` lines are moved now; `host` is what the host memory answers. -/
def execCopy (n id limit : Nat) (host : List Byte) (s : State) : Host.Outcome State Fault Refusal :=
  s.actMem (Ok.copy n id limit host) (Chip.mover 1 n id limit host)

/-- FILL (R133, R134). -/
def execFill (n id limit : Nat) (s : State) : Host.Outcome State Fault Refusal :=
  s.actMem (Ok.fill n id limit) (Chip.mover 2 n id limit [])

/-- GATHER (R133): reads its list, then its listed ranges in order into the contiguous destination. -/
def execGather (n id limit : Nat) (host : List Byte) (s : State) : Host.Outcome State Fault Refusal :=
  s.actMem (Ok.gather n id limit host) (Chip.mover 3 n id limit host)

/-- SCATTER (R133): reads its list, then writes the contiguous source into its listed ranges in order. -/
def execScatter (n id limit : Nat) (host : List Byte) (s : State) : Host.Outcome State Fault Refusal :=
  s.actMem (Ok.scatter n id limit host) (Chip.mover 4 n id limit host)

/-! ## The end (R140, R143, R146) -/

/-- The unit that did the work falls silent: soak takes up a drop Reef knows of, where Reef runs (R50). [log: DEDUCED 34] -/
def Hub.knownDrop (mw : Nat) (h : Hub) : Hub := if h.reefOn then h.knownFall mw else h

/-- DESCRIPTOR_COMPLETE (R140): a mover moves what is left; once its work has ended the descriptor completes with its
measured energy, µJ, its peak and mean power are held against OCLASS, and its unit's fall of `drop` mW is known. -/
def execDescriptorComplete (n id energy peak mean drop : Nat) (host : List Byte) (s : State) :
    Host.Outcome State Fault Refusal :=
  s.actMem (Ok.descriptorComplete n id energy peak mean drop host) fun c =>
    let c := match c.hub.desc n id with
      | none => c
      | some d => if isMover (dOp d.bytes) ∧ d.started ∧ ¬ d.ended then c.goOn n id (d.total + 1) host else c
    match c.hub.desc n id with
    | none => c
    | some d =>
      if d.started ∧ d.ended then
        ⟨((c.hub.judgePeak d.bytes peak mean).finish n d d.status d.result (if d.debit = 0 then 0 else energy)).knownDrop drop, c.mem⟩
      else c

end Sys2Proof.Machine
end

