-- ==== Sys2Proof/Machine/Serial.lean ====
section
/-!
DEFINITION. Serial lanes, quads and ports (R289 to R292, R296, R300, R306 to R311): which lanes a port uses, leaving and
reaching UP, marked lanes, the lane's states, adaptation, eye scan, PRBS; and the meanings of PORT_*, LANE_SIGNAL_*, AN_*,
LINK_TRAINING_COMPLETE, ADAPT_*, ALIGN_LOCK, LANE_STEP_TIMEOUT, FOM_*, EYE_SCAN_*, PRBS_CONFIG_WRITE, SLIP,
SERIAL_REFCLK_TIMEOUT and DOMAIN_TRANSITION_COMPLETE. What ports carry is in Frames.lean.
-/
namespace Sys2Proof.Machine

/-! ## Lanes, quads and ports -/

/-- The state of port `p` beyond its registers. -/
def Hub.port (h : Hub) (p : Nat) : PortS := Store.get (fun _ => PortS.empty) h.ser.ports p

/-- Change the state of port `p`. -/
def Hub.onPort (p : Nat) (f : PortS → PortS) (h : Hub) : Hub :=
  { h with ser := { h.ser with ports := Store.set (fun _ => PortS.empty) h.ser.ports p (f (h.port p)) } }

/-- The state of lane `l` beyond its registers. -/
def Hub.lane (h : Hub) (l : Nat) : LaneS := Store.get (fun _ => LaneS.empty) h.ser.lanes l

/-- Change the state of lane `l`. -/
def Hub.onLane (l : Nat) (f : LaneS → LaneS) (h : Hub) : Hub :=
  { h with ser := { h.ser with lanes := Store.set (fun _ => LaneS.empty) h.ser.lanes l (f (h.lane l)) } }

/-- STATE of port `p`: 0 DISABLED, 1 TRAINING, 2 UP, 3 DOWN, 4 REFUSED. -/
def Hub.portState (h : Hub) (p : Nat) : Nat := h.get (R.SER_PORT_STAT_STATE p)

/-- Mode of port `p`: 0 Ethernet, 1 crew, 2 raw. -/
def Hub.portMode (h : Hub) (p : Nat) : Nat := h.get (R.SER_PORT_CFG_MODE p)

/-- Lanes of a port of a configuration. -/
def lanesOf (first width : Nat) : List Nat := (List.range width).map (first + ·)

/-- Lanes of port `p`. -/
def Hub.portLanes (h : Hub) (p : Nat) : List Nat := lanesOf (h.get (R.SER_PORT_CFG_FIRST p)) (h.get (R.SER_PORT_CFG_WIDTH p))

/-- Quads that lanes touch. -/
def quadsOfLanes (l : List Nat) : List Nat := (List.range 8).filter fun q => l.any fun x => x / 4 == q

/-- Quads port `p` touches. -/
def Hub.quadsOf (h : Hub) (p : Nat) : List Nat := quadsOfLanes (h.portLanes p)

/-- The enabled port that holds lane `l`. -/
def Hub.lanePort (h : Hub) (l : Nat) : Option Nat := (List.range 32).find? fun p => h.portOn p && (h.portLanes p).contains l

/-- Lane `l` is marked down: its physical lane is not Live (R85). -/
def Hub.laneMarked (h : Hub) (l : Nat) : Bool := h.unitState 4 0 l != 0

/-- Widths the Ethernet table gives a rate (R293), widest first. -/
def ethWidths (rate : Nat) : List Nat := if rate = 1 then [4, 1] else if rate = 2 ∨ rate = 3 then [8, 4, 2, 1] else []

/-- Lanes port `p` uses (R296, R300): all that are not marked down in crew and raw mode; in Ethernet mode the lowest-numbered
aligned group of the widest PHY with no lane down. -/
def Hub.inUse (h : Hub) (p : Nat) : List Nat :=
  let first := h.get (R.SER_PORT_CFG_FIRST p)
  let width := h.get (R.SER_PORT_CFG_WIDTH p)
  if h.portMode p = 0 then
    let groups := ((ethWidths (h.get (R.SER_PORT_CFG_RATE p))).filter (· ≤ width)).flatMap fun w =>
      (List.range (width / w)).map fun g => lanesOf (first + g * w) w
    (groups.find? fun g => g.all fun l => !h.laneMarked l).getD []
  else (h.portLanes p).filter fun l => !h.laneMarked l

/-- Quad `q`'s domain is ON. -/
def Hub.quadOn (h : Hub) (q : Nat) : Bool := h.domOn (60 + q)

/-- Rate and PLL of quad `q`: the rate of its enabled ports. -/
def Hub.showQuad (q : Nat) (h : Hub) : Hub :=
  match (List.range 32).find? fun p => h.portOn p && (h.quadsOf p).contains q with
  | none => (h.put (R.SER_QUAD_RATE q) 0).put (R.SER_QUAD_PLL q) 0
  | some p =>
    if h.quadOn q then (h.put (R.SER_QUAD_RATE q) (h.get (R.SER_PORT_CFG_RATE p))).put (R.SER_QUAD_PLL q) 1
    else (h.put (R.SER_QUAD_RATE q) 0).put (R.SER_QUAD_PLL q) 0

/-- A lane's PRBS or loopback is on (R310). -/
def Hub.laneTest (h : Hub) (l : Nat) : Bool := h.on (R.SER_LANE_PRBS_TXEN l) || h.on (R.SER_LANE_PRBS_RXEN l) || h.on (R.SER_LANE_PRBS_LB l)

/-- The state a lane has when no step of it is under way (R306): DOWN, OFF, TEST, SIGNAL_WAIT or IDLE. -/
def Hub.restState (h : Hub) (l : Nat) : Nat :=
  if !h.quadOn (l / 4) then 0
  else if h.unitState 4 0 l = 4 then 9
  else if h.laneMarked l then 1
  else if h.laneTest l then 9
  else match h.lanePort l with
    | none => 0
    | some p => if (h.inUse p).contains l then 2 else 8

/-- State of lane `l`. -/
def Hub.laneState (h : Hub) (l : Nat) : Nat := h.get (R.SER_LANE_STAT_STATE l)

/-- A lane takes a state; a running eye scan stops when it leaves UP and TEST (corner of R309): the count so far is free. -/
def Hub.setLane (l st : Nat) (h : Hub) : Hub :=
  let h := h.put (R.SER_LANE_STAT_STATE l) st
  if (h.lane l).scan ∧ st ≠ 7 ∧ st ≠ 9 then
    (((h.onLane l fun x => { x with scan := false }).put (R.SER_LANE_SCAN_DONE l) 1).put (R.SER_LANE_SCAN_REFUSED l) 1).putFree
      (R.SER_LANE_SCAN1_COUNT l)
  else h

/-- A lane takes its resting state. -/
def Hub.restLane (l : Nat) (h : Hub) : Hub := h.setLane l (h.restState l)

/-! ## Receive buffers (R291, R206) -/

/-- Bytes of a held frame in quad `q`'s receive buffer: one received on lanes of two quads uses both alike.
[log: DESIGN CHOICE 43] -/
def RxHeld.inQuad (f : RxHeld) (q : Nat) : Nat := if f.quads.contains q then f.data.length / f.quads.length else 0

/-- Bytes held for port `p`. -/
def Hub.heldBytes (h : Hub) (p : Nat) : Nat := (h.port p).rx.foldl (fun a f => a + f.data.length) 0

/-- Bytes held in quad `q`'s receive buffer: those its own lanes received (R291). [log: DESIGN CHOICE 43] -/
def Hub.quadUse (h : Hub) (q : Nat) : Nat :=
  (List.range 32).foldl (fun a p => (h.port p).rx.foldl (fun a f => a + f.inQuad q) a) 0

/-- Fill of quad `q`'s buffer, %. -/
def Hub.quadFill (h : Hub) (q : Nat) : Nat := min 100 (h.quadUse q * 100 / 2 ^ 20)

/-- Quads that hold the lanes port `p` receives on: those of the lanes in use (R291, R296). -/
def Hub.rxQuads (h : Hub) (p : Nat) : List Nat := quadsOfLanes (h.inUse p)

/-- A received frame fits the buffers of its quads. -/
def Hub.rxRoom (h : Hub) (f : RxHeld) : Bool := f.quads.all fun q => decide (h.quadUse q + f.inQuad q ≤ 2 ^ 20)

/-- Port `p` sends a PAUSE frame with `quanta` (R294). -/
def Hub.sendPause (p quanta : Nat) (h : Hub) : Hub := h.send (.frame p 1 [quanta] [])

/-- PAUSE of port `p` follows its buffers' fill (R294): sent at T3, taken back below T2. -/
def Hub.pauseCheck (p : Nat) (h : Hub) : Hub :=
  if h.portMode p = 0 ∧ h.portState p = 2 ∧ h.on (R.SER_PORT_CFG_PAUSE p) then
    if (h.quadsOf p).any fun q => decide (h.get (R.QOS_TT0_T3 (5 + q)) ≤ h.quadFill q) then
      (if (h.port p).pausing then h else (h.onPort p fun x => { x with pausing := true }).sendPause p 0xFFFF)
    else if (h.port p).pausing ∧ (h.quadsOf p).all fun q => decide (h.quadFill q < h.get (R.QOS_TT0_T2 (5 + q))) then
      (h.onPort p fun x => { x with pausing := false }).sendPause p 0
    else h
  else h

/-- The fill of quad `q` has changed: SER_QUAD and the telltale level of master 5 + q follow (R206). -/
def Hub.showFill (q : Nat) (h : Hub) : Hub := (h.put (R.SER_QUAD_FILL q) (h.quadFill q)).fillLevel (5 + q) (h.quadFill q)

/-- The held frames of port `p` have changed. -/
def Hub.rxChanged (p : Nat) (h : Hub) : Hub := (h.each (h.quadsOf p) Hub.showFill).pauseCheck p

/-- TELLTALE_LEVEL_CHANGE (R206, R294): the fill of hub-side master `m`; that of a receive buffer is what it holds, and its
ports' PAUSE follows. -/
def execTelltaleLevelChange (m fill : Nat) (s : State) : Host.Outcome State Fault Refusal :=
  s.act (Ok.telltaleLevelChange m fill) fun h =>
    if m = 4 then h.fillLevel m fill
    else (h.showFill (m - 5)).upto 32 fun p g => if (g.quadsOf p).contains (m - 5) then g.pauseCheck p else g

/-! ## Leaving and reaching UP (R292) -/

/-- Complete a lane descriptor with LANE_DOWN and the bytes moved (R292). -/
def Hub.laneDown (e : Nat × Nat) (h : Hub) : Hub :=
  match h.desc e.1 e.2 with
  | none => h
  | some d => h.finishId e.1 e.2 0x12 d.moved

/-- Every started LANE_SEND and LANE_RECV of port `p` completes with LANE_DOWN. -/
def Hub.endPortWork (p : Nat) (h : Hub) : Hub :=
  let x := h.port p
  let h := h.onPort p fun x => { x with sends := [], recvs := [], paused := false, pausing := false, store := [] }
  h.each (x.sends ++ x.recvs.map fun r => (r.ring, r.desc)) Hub.laneDown

/-- A lane descriptor has ended otherwise: its port forgets it. -/
def Hub.laneForget (n id : Nat) (h : Hub) : Hub :=
  h.upto 32 fun p g =>
    if (g.port p).sends.any (· == (n, id)) ∨ (g.port p).recvs.any fun r => r.ring == n && r.desc == id then
      g.onPort p fun x => { x with sends := x.sends.filter (· != (n, id)), recvs := x.recvs.filter fun r => !(r.ring == n && r.desc == id) }
    else g

/-- Port `p` is not UP, or no longer: STATE, REASON, its descriptors, and in crew mode its peer (R292, R317). -/
def Hub.portLeave (p st reason : Nat) (h : Hub) : Hub :=
  let was := h.portState p == 2
  let h := ((h.put (R.SER_PORT_STAT_STATE p) st).put (R.SER_PORT_STAT_REASON p) reason).put (R.SER_PORT_STAT_WIDTH_NOW p) 0
  let h := if was then h.endPortWork p else h
  if h.portMode p = 1 ∧ h.get (R.CREW_PORT_STATE p) ≠ 0 then h.crewWait p else h

/-- Bit mask of lanes within port `p`: bit i for lane FIRST + i. -/
def Hub.laneMask (h : Hub) (p : Nat) (l : List Nat) : Nat := (l.map fun x => 2 ^ (x - h.get (R.SER_PORT_CFG_FIRST p))).foldl (· + ·) 0

/-- Lanes crew port `p` sends on: those of the newest RX_LANES that are not marked down (R300). -/
def Hub.txLanes (h : Hub) (p : Nat) : List Nat :=
  (h.inUse p).filter fun l => bit (h.port p).peerLanes (l - h.get (R.SER_PORT_CFG_FIRST p))

/-- The lanes of port `p` that are UP. -/
def Hub.upLanes (h : Hub) (p : Nat) : List Nat := (h.inUse p).filter fun l => h.laneState l == 7

/-- WIDTH_NOW: the lanes in use. -/
def Hub.showWidth (p : Nat) (h : Hub) : Hub :=
  h.put (R.SER_PORT_STAT_WIDTH_NOW p)
    (if h.portState p = 2 then (if h.portMode p = 1 then (h.txLanes p).length else (h.inUse p).length) else 0)

/-- Port `p` comes UP; a crew port begins its link anew and waits for a HELLO (R299, R317). [log: DEDUCED 44] -/
def Hub.portUp (p : Nat) (h : Hub) : Hub :=
  let h := (h.put (R.SER_PORT_STAT_STATE p) 2).put (R.SER_PORT_STAT_REASON p) 0
  let h := if h.portMode p = 1 then
      let m := h.laneMask p (h.upLanes p)
      (h.onPort p fun x => { PortS.empty with rx := x.rx, rxLanes := m, peerLanes := m, changed := true }).crewWait p
    else h
  h.showWidth p

/-- Port `p` can carry traffic: every lane in use is UP; in crew mode at least one. -/
def Hub.portReady (h : Hub) (p : Nat) : Bool :=
  h.inUse p != [] && (if h.portMode p = 1 then h.upLanes p != [] else (h.upLanes p).length == (h.inUse p).length)

/-- Lane `l` of port `p` has come UP: a training port, or one that was DOWN for want of signal, comes UP once it can; an UP
crew port adds the lane to those it receives well. -/
def Hub.portSettle (p l : Nat) (h : Hub) : Hub :=
  if (h.portState p = 1 ∨ (h.portState p = 3 ∧ h.get (R.SER_PORT_STAT_REASON p) = 4)) ∧ h.portReady p then h.portUp p
  else if h.portState p = 2 ∧ h.portMode p = 1 then
    h.onPort p fun x => { x with rxLanes := x.rxLanes ||| h.laneMask p [l], changed := true }
  else h

/-- Port `p` trains: the lanes it uses wait for signal, its others rest (R296, R306). -/
def Hub.portTrain (p : Nat) (h : Hub) : Hub :=
  let h := (h.put (R.SER_PORT_STAT_STATE p) 1).put (R.SER_PORT_STAT_REASON p) 0
  h.each (h.portLanes p) Hub.restLane

/-- PORT of lane `l`: shown while its quad is ON (R28). -/
def Hub.showLanePort (l p : Nat) (h : Hub) : Hub := if h.quadOn (l / 4) then h.put (R.SER_LANE_STAT_PORT l) p else h

/-- What the PRBS checker of lane `l` finds: while its quad is ON (R28), whether and how well it locks is the channel's: free.
[log: DESIGN CHOICE 43] -/
def Hub.checkPrbs (l : Nat) (h : Hub) : Hub :=
  if !h.quadOn (l / 4) then h
  else if h.on (R.SER_LANE_PRBS_RXEN l) then (h.putFree (R.SER_LANE_PRBS_LOCK l)).putFree (R.SER_LANE_PRBS1_ERR l)
  else h.put (R.SER_LANE_PRBS_LOCK l) 0

/-! ## Enabling and disabling (R289, R290) -/

/-- Why port `p`'s configuration is refused; 0 when it is not (R289). [log: DESIGN CHOICE 43] -/
def Hub.portReason (h : Hub) (p : Nat) : Nat :=
  let w := h.get (R.SER_PORT_CFG_WIDTH p)
  let first := h.get (R.SER_PORT_CFG_FIRST p)
  let rate := h.get (R.SER_PORT_CFG_RATE p)
  let mode := h.portMode p
  let lanes := lanesOf first w
  let others := (List.range 32).filter fun o => o != p && h.portOn o
  if !((w == 1 || w == 2 || w == 4 || w == 8) && first % max 1 w == 0) then 1
  else if !(if mode = 0 then (ethWidths rate).contains w else if mode = 1 then rate != 0 else if mode = 2 then w == 1 && rate != 0 else false) then 1
  else if others.any fun o => (h.portLanes o).any lanes.contains then 1
  else if others.any fun o => (h.quadsOf o).any (quadsOfLanes lanes).contains && h.get (R.SER_PORT_CFG_RATE o) != rate then 2
  else if (quadsOfLanes lanes).any fun q => h.get (R.PWR_DOM_REQ (60 + q)) == 2 then 7
  else 0

/-- The fields of a SER_PORT_p_CFG word that are held. -/
def portCfgMask : Word := 0x031F1F37

/-- Enable port `p` with the configuration just stored, or refuse it (R289). -/
def Hub.portEnable (p : Nat) (h : Hub) : Hub :=
  let r := h.portReason p
  if r ≠ 0 then (h.put (R.SER_PORT_STAT_STATE p) 4).put (R.SER_PORT_STAT_REASON p) r
  else
    let h := h.onPort p fun _ => PortS.empty
    let h := h.put (R.SER_PORT_STAT_STATE p) 1 |>.put (R.SER_PORT_STAT_REASON p) 0
    let h := h.each (h.quadsOf p) fun q g => (g.demandDom (60 + q)).showQuad q
    let h := h.each (h.portLanes p) fun l g => (g.showLanePort l p).restLane l
    let h := if h.portMode p = 1 then h.crewWait p else h
    if h.inUse p = [] then h.portLeave p 3 3 else h

/-- Disable port `p` (R290): its descriptors complete LANE_DOWN, its held frames are discarded, its lanes are let go. -/
def Hub.portDisable (p : Nat) (h : Hub) : Hub :=
  let h := if h.portOn p then (h.endPortWork p).onPort p (fun x => { x with rx := [] }) |>.rxChanged p else h
  let lanes := h.portLanes p
  let quads := h.quadsOf p
  let on := h.portOn p
  let h := if on ∧ h.portMode p = 1 then h.crewGone p else h
  let h := ((h.setReg (R.SER_PORT_CFG_EN p).off 0).setReg (R.SER_PORT_STAT_STATE p).off 0).onPort p fun _ => PortS.empty
  if on then (h.each lanes fun l g => (g.put (R.SER_LANE_STAT_PORT l) 0).restLane l).each quads Hub.showQuad else h

/-- A write of SER_PORT_p_CFG (R290). -/
def Hub.portCfgWrite (req : Path) (p : Nat) (v : Word) (h : Hub) : Hub :=
  let off := (R.SER_PORT_CFG_EN p).off
  if v = 0 then h.portDisable p
  else if h.on (R.SER_PORT_CFG_EN p) then h.logAccess 0x13 req off v.toNat
  else
    let h := h.setReg off (v &&& portCfgMask)
    if bitsOf v 0 1 = 1 then h.portEnable p else h

/-- PORT_ENABLE (R289, R290). -/
def execPortEnable (req : Path) (p : Nat) (v : Word) (s : State) : Host.Outcome State Fault Refusal :=
  s.act (Ok.portEnable req p v) (Hub.pfWrite req (Hub.portCfgWrite req p (v ||| 1)))

/-- PORT_DISABLE (R290). -/
def execPortDisable (req : Path) (p : Nat) (s : State) : Host.Outcome State Fault Refusal :=
  s.act (Ok.portDisable req p) (Hub.pfWrite req (Hub.portCfgWrite req p 0))

/-! ## Quads, marks, REFCLK -/

/-- Quad `q`'s domain has gone OFF: the ports on it go DOWN with reason 7 (corner of R292). [log: DESIGN CHOICE 43] -/
def Hub.quadLost (q : Nat) (h : Hub) : Hub :=
  let h := h.upto 32 fun p g => if g.portOn p ∧ (g.quadsOf p).contains q then g.portLeave p 3 7 else g
  (h.upto 4 fun i g => g.restLane (4 * q + i)).showQuad q

/-- Quad `q`'s domain has come ON: its lanes join their ports, and ports that were down for it train. -/
def Hub.quadUp (q : Nat) (h : Hub) : Hub :=
  let h := (h.upto 4 fun i g =>
    let l := 4 * q + i
    ((g.showLanePort l ((g.lanePort l).getD 0)).checkPrbs l).restLane l).showQuad q
  h.upto 32 fun p g =>
    if g.portState p = 3 ∧ g.get (R.SER_PORT_STAT_REASON p) = 7 ∧ (g.quadsOf p).contains q then g.portTrain p else g

/-- The map has marked lane `l` down or up (R296, R300, R311). -/
def Hub.laneMark (l : Nat) (h : Hub) : Hub :=
  match h.lanePort l with
  | none => h.restLane l
  | some p =>
    let h := h.restLane l
    if h.portMode p = 1 then
      let h := h.onPort p fun x =>
        { x with rxLanes := x.rxLanes &&& h.laneMask p (h.upLanes p), peerLanes := x.peerLanes &&& h.laneMask p (h.inUse p), changed := true }
      if h.inUse p = [] then h.portLeave p 3 3
      else if h.portState p = 2 ∧ h.upLanes p = [] then h.portLeave p 3 4
      else if h.portState p = 3 ∧ h.get (R.SER_PORT_STAT_REASON p) = 3 then h.portTrain p
      else h.showWidth p
    else if h.portState p = 3 ∧ 6 ≤ h.get (R.SER_PORT_STAT_REASON p) then h
    else
      let h := h.portLeave p 1 0
      if h.inUse p = [] then (h.each (h.portLanes p) Hub.restLane).portLeave p 3 3 else h.portTrain p

/-- DOMAIN_TRANSITION_COMPLETE (R36): a domain in transition reaches ON or OFF and the latched request is applied; one that has
failed does not reach ON (R38). A serial quad's lanes follow it (corner of R292). -/
def execDomainTransitionComplete (n : Nat) (s : State) : Host.Outcome State Fault Refusal :=
  s.act (Ok.domainTransitionComplete n) fun h =>
    let serial := decide (60 ≤ n ∧ n < 68)
    if h.domState n = 1 then
      if nget h.power.barred n = 8 then h else
      let h := (h.domUp n).applyLatched n
      if serial then h.quadUp (n - 60) else h
    else if h.domState n = 3 then
      let h := (h.domDown n).applyLatched n
      if serial then h.quadLost (n - 60) else h
    else h

/-- SERIAL_REFCLK_TIMEOUT (corner of R308): REFCLK absent for 10 ms puts every port DOWN with reason 6. -/
def execSerialRefclkTimeout (s : State) : Host.Outcome State Fault Refusal :=
  s.act Ok.serialRefclkTimeout fun h =>
    if h.pins.refclk then h else h.upto 32 fun p g => if g.portOn p then g.portLeave p 3 6 else g

/-- REFCLK has returned: ports that were down for it train (corner of R308). -/
def Hub.serialRefclkBack (h : Hub) : Hub :=
  h.upto 32 fun p g => if g.portState p = 3 ∧ g.get (R.SER_PORT_STAT_REASON p) = 6 then g.portTrain p else g

/-! ## The lane's states (R306, R307) -/

/-- Port `p` runs auto-negotiation and link training: Ethernet with AN (R293). -/
def Hub.portAn (h : Hub) (p : Nat) : Bool := h.portMode p == 0 && h.on (R.SER_PORT_CFG_AN p)

/-- LANE_SIGNAL_DETECT (R306): a waiting lane goes on to AN (first lane), TRAIN (once AN is complete) or ADAPT. -/
def execLaneSignalDetect (l : Nat) (s : State) : Host.Outcome State Fault Refusal :=
  s.act (Ok.laneSignalDetect l) fun h =>
    match h.lanePort l with
    | none => h
    | some p =>
      if h.laneState l = 2 ∧ h.pins.refclk then
        let h := h.put (R.SER_LANE_STAT_SIGNAL l) 1
        let h := if h.portState p = 3 ∧ h.get (R.SER_PORT_STAT_REASON p) = 4 then
            (h.put (R.SER_PORT_STAT_STATE p) 1).put (R.SER_PORT_STAT_REASON p) 0 else h
        if h.portAn p then
          let first := (h.inUse p).headD 32
          if l = first then h.setLane l 3 else if 4 ≤ h.laneState first ∧ h.laneState first ≤ 7 then h.setLane l 4 else h
        else h.setLane l 5
      else h

/-- Count a failed step of lane `l` and let it wait for signal. -/
def Hub.laneRetry (l : Nat) (h : Hub) : Hub := (h.bump (R.SER_LANE_STAT_RETRY l) 1).setLane l 2

/-- AN_COMPLETE (R293): auto-negotiation of port `p` agrees on the configured PHY (`ok`) and its lanes with signal train; or
the partner advertises another, and it fails. -/
def execAnComplete (p : Nat) (ok : Bool) (s : State) : Host.Outcome State Fault Refusal :=
  s.act (Ok.anComplete p ok) fun h =>
    let first := (h.inUse p).headD 32
    if h.portOn p ∧ first < 32 ∧ h.laneState first = 3 then
      if ok then
        h.each (h.inUse p) fun l g => if l = first ∨ (g.laneState l = 2 ∧ g.on (R.SER_LANE_STAT_SIGNAL l)) then g.setLane l 4 else g
      else h.laneRetry first
    else h

/-- AN_RETRY (corner of R296): every 500 ms a failed auto-negotiation is tried again. -/
def execAnRetry (p : Nat) (s : State) : Host.Outcome State Fault Refusal :=
  s.act (Ok.anRetry p) fun h =>
    let first := (h.inUse p).headD 32
    if h.portState p = 1 ∧ h.portAn p ∧ first < 32 ∧ h.laneState first = 2 ∧ h.on (R.SER_LANE_STAT_SIGNAL first) then h.setLane first 3 else h

/-- LINK_TRAINING_COMPLETE (R306). -/
def execLinkTrainingComplete (l : Nat) (s : State) : Host.Outcome State Fault Refusal :=
  s.act (Ok.linkTrainingComplete l) fun h => if h.laneState l = 4 then h.setLane l 5 else h

/-- The equaliser of lane `l` takes new values: the layout of SER_LANE_l_EQ is not stated, so each word is free.
[log: DESIGN CHOICE 43] -/
def Hub.eqFree (l : Nat) (h : Hub) : Hub := h.upto 12 fun k g => g.putFree (R.SER_LANE_EQ l k)

/-- FOM of an SNR in eighths of a decibel (R307). [log: DESIGN CHOICE 43] -/
def Hub.showFom (l snr8 : Nat) (h : Hub) : Hub := h.put (R.SER_LANE_STAT_FOM l) (min 255 snr8)

/-- ADAPT_SETTLED (R307): adaptation settles with an SNR of `snr8` eighths of a decibel. -/
def execAdaptSettled (l snr8 : Nat) (s : State) : Host.Outcome State Fault Refusal :=
  s.act (Ok.adaptSettled l snr8) fun h => if h.laneState l = 5 then ((h.eqFree l).showFom l snr8).setLane l 6 else h

/-- ALIGN_LOCK (R306): the lane goes UP, and its port once it can. -/
def execAlignLock (l : Nat) (s : State) : Host.Outcome State Fault Refusal :=
  s.act (Ok.alignLock l) fun h =>
    if h.laneState l = 6 then
      let h := h.setLane l 7
      match h.lanePort l with
      | none => h
      | some p => h.portSettle p l
    else h

/-- LANE_STEP_TIMEOUT (R306): a step past its limit fails; its port, still training, shows reason 5. -/
def execLaneStepTimeout (l : Nat) (s : State) : Host.Outcome State Fault Refusal :=
  s.act (Ok.laneStepTimeout l) fun h =>
    if 3 ≤ h.laneState l ∧ h.laneState l ≤ 6 then
      let h := h.laneRetry l
      match h.lanePort l with
      | none => h
      | some p => if h.portState p = 1 then h.put (R.SER_PORT_STAT_REASON p) 5 else h
    else h

/-- Lane `l` is not received well on UP crew port `p`: it leaves RX_LANES, and with the last one the port leaves UP (R300). -/
def Hub.leaveRxLanes (p l st reason : Nat) (h : Hub) : Hub :=
  let left := withBit (h.port p).rxLanes (l - h.get (R.SER_PORT_CFG_FIRST p)) false
  if left = 0 then h.portLeave p st reason else h.onPort p fun x => { x with rxLanes := left, changed := true }

/-- Lane `l` of port `p` carries no traffic any more: an Ethernet or raw port leaves UP, a crew lane leaves RX_LANES (R292,
R300). [log: DESIGN CHOICE 43] -/
def Hub.portLaneLost (p l st reason : Nat) (h : Hub) : Hub :=
  if h.portState p ≠ 2 then h else if h.portMode p = 1 then h.leaveRxLanes p l st reason else h.portLeave p st reason

/-- LANE_SIGNAL_LOSS (R306): an UP lane without signal or lock for 2 ms waits for signal again. -/
def execLaneSignalLoss (l : Nat) (s : State) : Host.Outcome State Fault Refusal :=
  s.act (Ok.laneSignalLoss l) fun h =>
    if h.laneState l = 7 then
      let h := (h.put (R.SER_LANE_STAT_SIGNAL l) 0).laneRetry l
      match h.lanePort l with
      | none => h
      | some p => h.portLaneLost p l 3 4
    else h

/-- RX_LANES_LOSS (R300): a crew lane that is not received well leaves RX_LANES; `fec` uncorrectable codewords were seen. -/
def execRxLanesLoss (l fec : Nat) (s : State) : Host.Outcome State Fault Refusal :=
  s.act (Ok.rxLanesLoss l fec) fun h =>
    match h.lanePort l with
    | none => h
    | some p =>
      if h.portState p = 2 ∧ h.portMode p = 1 then
        (h.bump (R.SER_PORT_RXCNT1_FEC_UNCORR p) fec).leaveRxLanes p l 3 4
      else h

/-- ADAPT_STEP (R307): in continuous mode one tap of an UP lane moves, and stays moved only if FOM does not fall to below what
it was; `snr8` is the SNR after the step. -/
def execAdaptStep (l snr8 : Nat) (s : State) : Host.Outcome State Fault Refusal :=
  s.act (Ok.adaptStep l snr8) fun h =>
    let frozen := (h.lane l).scan && h.on (R.SER_LANE_SCAN_FREEZE l)
    if h.laneState l = 7 ∧ h.get (R.SER_LANE_ADAPT_MODE l) = 0 ∧ ¬ frozen ∧ h.get (R.SER_LANE_STAT_FOM l) ≤ min 255 snr8 then h.eqFree l
    else h

/-- FOM_UPDATE (R307, R308): FOM of lane `l`; from FOM_MIN + 8 on, LOW is over. [log: DESIGN CHOICE 56] -/
def execFomUpdate (l snr8 : Nat) (s : State) : Host.Outcome State Fault Refusal :=
  s.act (Ok.fomUpdate l snr8) fun h =>
    let h := h.showFom l snr8
    if h.get (R.SER_LANE_ADAPT_FOM_MIN l) + 8 ≤ h.get (R.SER_LANE_STAT_FOM l) then h.put (R.SER_LANE_ADAPT_LOW l) 0 else h

/-- FOM_LOW (R308): FOM has stayed below FOM_MIN for 1 s; one WARNING until it has recovered. -/
def execFomLow (l : Nat) (s : State) : Host.Outcome State Fault Refusal :=
  s.act (Ok.fomLow l) fun h =>
    if h.get (R.SER_LANE_STAT_FOM l) < h.get (R.SER_LANE_ADAPT_FOM_MIN l) ∧ ¬ h.on (R.SER_LANE_ADAPT_LOW l) then
      (h.put (R.SER_LANE_ADAPT_LOW l) 1).warn 0x35 5 (h.get (R.SER_LANE_STAT_FOM l)) l
    else h

/-- A write of 1 to SER_LANE_l_ADAPT.RESTART: an UP lane adapts again. -/
def Hub.adaptRestart (req : Path) (l : Nat) : Hub → Hub :=
  Hub.ifPowered req (R.SER_LANE_ADAPT_MODE l).off (2 ^ 31) fun h =>
    if h.laneState l = 7 then
      let h := h.setLane l 5
      match h.lanePort l with
      | none => h
      | some p => h.portLaneLost p l 1 0
    else h

/-- ADAPT_RESTART (corner of R308): an UP lane adapts again; an adapting one starts over. -/
def execAdaptRestart (req : Path) (l : Nat) (s : State) : Host.Outcome State Fault Refusal :=
  s.act (Ok.adaptRestart req l) (Hub.pfWrite req (Hub.adaptRestart req l))

/-! ## Eye scan (R309) -/

/-- A write of SER_LANE_l_SCAN: the point's fields, REFUSED cleared by 1, and RUN. VOLT −128 is outside its range: what is
kept is free. [log: DESIGN CHOICE 43] -/
def Hub.scanWrite (req : Path) (l : Nat) (v : Word) (h : Hub) : Hub :=
  let off := (R.SER_LANE_SCAN_RUN l).off
  if (h.lane l).scan ∧ bitsOf v 0 1 = 1 then h.logAccess 0x13 req off v.toNat
  else
    let h := (((h.put (R.SER_LANE_SCAN_FREEZE l) (bitsOf v 1 1)).put (R.SER_LANE_SCAN_EYE l) (bitsOf v 2 2)).put
      (R.SER_LANE_SCAN_PHASE l) (bitsOf v 8 6)).put (R.SER_LANE_SCAN_DWELL l) (clampNat 10 40 (bitsOf v 24 6))
    let h := if bitsOf v 16 8 = 128 then
        (h.put (R.SER_LANE_SCAN_VOLT l) (unsigned 8 (((h.free % 255 : Nat) : Int) - 127))).drew
      else h.put (R.SER_LANE_SCAN_VOLT l) (bitsOf v 16 8)
    let h := if bitsOf v 30 1 = 1 then h.put (R.SER_LANE_SCAN_REFUSED l) 0 else h
    if bitsOf v 0 1 = 0 then h
    else if !h.quadOn (l / 4) then h.logAccess 0x13 req off v.toNat
    else if h.laneState l = 7 ∨ h.laneState l = 9 then
      (h.onLane l fun x => { x with scan := true }).put (R.SER_LANE_SCAN_DONE l) 0
    else h.put (R.SER_LANE_SCAN_REFUSED l) 1

/-- EYE_SCAN_RUN (R309): a write of SER_LANE_l_SCAN with RUN. -/
def execEyeScanRun (req : Path) (l : Nat) (v : Word) (s : State) : Host.Outcome State Fault Refusal :=
  s.act (Ok.eyeScanRun req l v) (Hub.pfWrite req (Hub.scanWrite req l (v ||| 1)))

/-- EYE_SCAN_DONE (R309): the dwell ends with `count` differing symbols, saturating. -/
def execEyeScanDone (l count : Nat) (s : State) : Host.Outcome State Fault Refusal :=
  s.act (Ok.eyeScanDone l count) fun h =>
    if (h.lane l).scan then
      ((h.onLane l fun x => { x with scan := false }).put (R.SER_LANE_SCAN1_COUNT l)
        (satNat 32 (min count (2 ^ h.get (R.SER_LANE_SCAN_DWELL l))))).put (R.SER_LANE_SCAN_DONE l) 1
    else h

/-! ## PRBS and loopback (R310), slips (R305) -/

/-- A write of SER_LANE_l_PRBS (R310): protected at level 1; it takes effect while the lane is OFF, DOWN, IDLE or in TEST and
puts it in TEST, at once or when its quad comes ON. [log: DESIGN CHOICE 43] -/
def Hub.prbsWrite (req : Path) (l : Nat) (v : Word) (h : Hub) : Hub :=
  let off := (R.SER_LANE_PRBS_TXEN l).off
  let st := h.laneState l
  if h.level < 1 then h.logAccess 0x10 req off v.toNat
  else if st = 0 ∨ st = 1 ∨ st = 8 ∨ st = 9 then
    let h := (((h.put (R.SER_LANE_PRBS_TXEN l) (bitsOf v 0 1)).put (R.SER_LANE_PRBS_RXEN l) (bitsOf v 1 1)).put
      (R.SER_LANE_PRBS_PAT l) (bitsOf v 4 3)).put (R.SER_LANE_PRBS_LB l) (bitsOf v 8 2)
    let h := h.checkPrbs l
    if !h.quadOn (l / 4) then h else if h.laneTest l then h.setLane l 9 else h.restLane l
  else h.logAccess 0x13 req off v.toNat

/-- PRBS_CONFIG_WRITE (R310). -/
def execPrbsConfigWrite (req : Path) (l : Nat) (v : Word) (s : State) : Host.Outcome State Fault Refusal :=
  s.act (Ok.prbsConfigWrite req l v) (Hub.pfWrite req (Hub.prbsWrite req l v))

/-- One slip of lane `l` (R305): its word boundary moves one UI, 1 bit at NRZ and 2 at PAM4, later; SLIPS counts modulo 64 at
NRZ and 32 at PAM4; with no rate the modulus is not stated. -/
def Hub.slip (l : Nat) (h : Hub) : Hub :=
  let rate := h.get (R.SER_QUAD_RATE (l / 4))
  let n := h.get (R.SER_LANE_RAW_SLIPS l) + 1
  let h := h.onLane l fun x => { x with skip := x.skip + (if rate = 0 then 0 else if rate = 1 then 1 else 2) }
  if rate = 1 then h.put (R.SER_LANE_RAW_SLIPS l) (n % 64)
  else if rate = 0 then h.putFree (R.SER_LANE_RAW_SLIPS l)
  else h.put (R.SER_LANE_RAW_SLIPS l) (n % 32)

/-- SLIP (R305). -/
def execSlip (req : Path) (l : Nat) (s : State) : Host.Outcome State Fault Refusal :=
  s.act (Ok.slip req l) (Hub.pfWrite req (Hub.ifPowered req (R.SER_LANE_RAW_SLIP l).off 1 (Hub.slip l)))

end Sys2Proof.Machine
end

