-- ==== Sys2Proof/Machine/BootFail.lean ====
section
/-!
DEFINITION. How bring-up notes its failures and ends (R65, R79, R80): BOOT_FAIL, the stage times, the BOOT and BOOT_HALT
records, the readiness interrupt, the halt; and the loss of a fitted site during bring-up.
-/
namespace Sys2Proof.Machine

/-- Change bring-up's own state. -/
def Hub.onBoot (f : BootS → BootS) (h : Hub) : Hub := { h with boot := f h.boot }

/-- Bring-up has not ended: OUTCOME reads running. -/
def Hub.booting (h : Hub) : Bool := h.get R.GLB_RDY_OUTCOME == 0

/-- BOOT_FAIL takes a failure of the current stage; `unit` 0xFFF when no single unit is concerned (R80).
[log: DESIGN CHOICE 23] -/
def Hub.noteFail (reason unit : Nat) (h : Hub) : Hub :=
  ((h.put R.BOOT_FAIL_REASON reason).put R.BOOT_FAIL_STAGE h.stage).put R.BOOT_FAIL_UNIT unit

/-- A DEGRADED failure: BOOT_FAIL keeps the first (R80). [log: DESIGN CHOICE 23] -/
def Hub.bootDegrade (reason unit : Nat) (h : Hub) : Hub :=
  if h.booting && h.get R.BOOT_FAIL_REASON == 0 then h.noteFail reason unit else h

/-- BOOT_TIME of the current stage, µs. -/
def Hub.closeStage (h : Hub) : Hub := h.put (R.BOOT_TIME_US h.stage) ((h.clock - h.boot.begun) / 1000)

/-- PCT within a stage whose work has begun: the rules do not say how it is reckoned, so it is free (R60).
[log: DESIGN CHOICE 23] -/
def Hub.progress (h : Hub) : Hub := (h.put R.BOOT_STAT_PCT (h.free % 101)).drew

/-- A stage time as the BOOT record holds it: ms, or units of 100 ms with bit 15 set (R392). -/
def stageTime (us : Nat) : Nat := if us / 1000 ≤ 32767 then us / 1000 else 32768 + us / 100000 % 32768

/-- The BOOT record (R79, R392). -/
def Hub.bootRecord (h : Hub) : Hub :=
  h.yewRecord 0x01 0 true
    ([BitVec.ofNat 8 (h.get R.GLB_RDY_OUTCOME), BitVec.ofNat 8 (h.get R.BOOT_FAIL_REASON)]
      ++ leBytes 2 (h.get R.BOOT_FAIL_UNIT) ++ [BitVec.ofNat 8 (h.get R.BOOT_PROFILE_CUR), 0]
      ++ leBytes 4 (h.get R.MAP_EPOCH_CUR)
      ++ (List.range 12).flatMap fun n => leBytes 2 (stageTime (h.get (R.BOOT_TIME_US n))))

/-- The readiness vector is sent, or PEND is set while MSI-X is disabled or the vector masked (R65). -/
def Hub.readinessIrq (h : Hub) : Hub :=
  let v := h.get R.BOOT_IRQ_VEC % 264
  if nget h.pcie.msixEn 0 = 0 ∨ h.vecMasked 0 v then h.put R.GLB_RDY_PEND 1 else h.sendVector 0 v

/-- Bring-up halts (R38, R80): BOOT_FAIL holds the first HALTED failure, every domain but D0, D1 and D68 is lowered, a record
is written (by the D0 sequencer in S0 and S1, where Masthead does not run yet) and the readiness interrupt is sent.
[log: DESIGN CHOICE 22] -/
def Hub.bootHalt (reason unit : Nat) (h : Hub) : Hub :=
  if h.booting then
    let h := ((h.noteFail reason unit).closeStage.put R.GLB_RDY_OUTCOME 3).put R.BOOT_STAT_WAIT_HOST 0
    let h := h.upto 74 fun n g => if n = 0 ∨ n = 1 ∨ n = 68 then g else g.lowerOwn n
    let h := if h.stage ≤ 1 then h.yewRecord 0x02 0 true [BitVec.ofNat 8 reason, BitVec.ofNat 8 h.boot.slot] else h.bootRecord
    h.readinessIrq
  else h

/-- A fitted site is dropped while bring-up runs (R80): SITE_LOST, and GLB_POP.SITE_MISSING when its discovery failed.
[log: DESIGN CHOICE 23] -/
def Hub.bootSiteLost (s : Nat) (h : Hub) : Hub :=
  if h.booting && decide (5 ≤ h.stage) && decide (h.stage ≤ 10) then
    let h := if h.stage = 5 then h.put R.GLB_POP_SITE_MISSING (withBit (h.get R.GLB_POP_SITE_MISSING) s true) else h
    h.bootDegrade 0x0A s
  else h

end Sys2Proof.Machine
end

