-- ==== Sys2Proof/Machine/Site.lean ====
section
/-!
DEFINITION. What passes between the hub and a compute site above the flit layer (R159, R160, R167, R181 to R183, R272 to R286):
credits, uncached and coherent requests, cleat operations, time reads, streams, calls, allowances, and the drop of a site.
-/
namespace Sys2Proof.Machine

/-! ## The negotiated word (R268) -/

/-- Negotiated data classes. -/
def Hub.negClasses (h : Hub) (s : Nat) : Nat := h.get (R.YDL_NEG_LO s) / 2 ^ 8 % 8

/-- Negotiated streams of a direction open at once. -/
def Hub.negStreams (h : Hub) (s : Nat) (toSite : Bool) : Nat :=
  if toSite then h.get (R.YDL_NEG_LO s) / 2 ^ 16 % 256 else h.get (R.YDL_NEG_LO s) / 2 ^ 24 % 256

/-! ## The sideband: sending (R263, R265) -/

/-- TYPE of the answer a frame needs, 0 for none (R265). -/
def sbAnswer (type : Nat) : Nat :=
  if type = 1 then 2 else if type = 3 then 3 else if type = 4 then 5 else if type = 6 then 7 else if type = 0x0A then 0x0B
  else if type = 0x0C then 0x0D else 0

/-- One byte of the CRC-16 with polynomial 0x1021, most significant bit first (R263). -/
def crc16Byte (crc b : Nat) : Nat :=
  [7, 6, 5, 4, 3, 2, 1, 0].foldl (fun c k =>
    let d := c * 2 % 2 ^ 16
    if (c / 2 ^ 15 + b / 2 ^ k) % 2 = 1 then d ^^^ 0x1021 else d) crc

/-- The CRC-16 of a frame's bytes, seeded with 0xFFFF. -/
def crc16 (l : List Nat) : Nat := l.foldl crc16Byte 0xFFFF

/-- The bytes of a frame of the hub: SRC 0x01, TYPE, LEN, payload, CRC-16 high byte first (R263, R264). -/
def sbBytes (type : Nat) (payload : List Nat) : List Byte :=
  let l := [1, type, payload.length] ++ payload
  (l ++ [crc16 l / 256, crc16 l % 256]).map (BitVec.ofNat 8)

/-- Send a sideband frame to site `s`; none once the sideband has failed. -/
def Hub.sbSend (s type : Nat) (payload : List Nat) (h : Hub) : Hub :=
  if h.on (R.YDL_SB_STAT_DEAD s) then h
  else
    (h.onSite s fun x => { x with
      sbFrame := some (type, payload), sbResends := 0, sbAwait := if sbAnswer type = 0 then x.sbAwait else sbAnswer type }).send
      (.sideband s (sbBytes type payload))

/-! ## Streams: their list and their close messages (R278 to R280) -/

/-- The stream of a direction with an ID. -/
def SiteS.stream (x : SiteS) (toSite : Bool) (id : Nat) : Option Stream := x.streams.find? fun t => t.toSite == toSite && t.id == id

/-- Show the open streams of site `s`. -/
def Hub.showStreams (s : Nat) (h : Hub) : Hub :=
  let l := (h.siteS s).streams
  (h.put (R.YDL_STRM_H2S s) (l.filter fun t => t.toSite).length).put (R.YDL_STRM_S2H s) (l.filter fun t => !t.toSite).length

/-- Change a stream. -/
def Hub.onStream (s : Nat) (toSite : Bool) (id : Nat) (f : Stream → Stream) (h : Hub) : Hub :=
  h.onSite s fun x => { x with streams := x.streams.map fun t => if t.toSite = toSite ∧ t.id = id then f t else t }

/-- Free a stream's ID. -/
def Hub.freeStream (s : Nat) (toSite : Bool) (id : Nat) (h : Hub) : Hub :=
  (h.onSite s fun x => { x with streams := x.streams.filter fun t => !(t.toSite == toSite && t.id == id) }).showStreams s

/-- Direction code of a message: 0 hub to site, 1 site to hub. -/
def dirCode (toSite : Bool) : Byte := if toSite then 0 else 1

/-- The body of STREAM_CLOSE: direction, mode, ERR, ID, data flits (R273). -/
def closeBody (t : Stream) (mode err : Nat) : List Byte :=
  [dirCode t.toSite, BitVec.ofNat 8 mode, BitVec.ofNat 8 err, 0] ++ leBytes 2 t.id ++ leBytes 2 0 ++ leBytes 4 (if t.toSite then t.got else 0)

/-- Close a stream by message: mode 0 DONE, 1 STOP, 2 ABORT. -/
def Hub.sendClose (s : Nat) (t : Stream) (mode err : Nat) (h : Hub) : Hub :=
  (h.onStream s t.toSite t.id fun u => { u with state := 2 + mode }).sendReq s 0x42 (closeBody t mode err)

/-- Answer a site's STREAM_CLOSE. -/
def Hub.closeAck (s tag : Nat) (t : Stream) (h : Hub) : Hub :=
  h.sendCtl s
    { rsp := true, msg := 0x43, tag := tag,
      body := [dirCode t.toSite, 0, 0, 0] ++ leBytes 2 t.id ++ leBytes 2 0 ++ leBytes 4 (if t.toSite then t.got else 0), data := [] }

/-- Complete a stream's STREAM_OPEN, with the bytes carried, and forget the descriptor. -/
def Hub.endOpen (s : Nat) (t : Stream) (status : Nat) (h : Hub) : Hub :=
  (h.onStream s t.toSite t.id fun u => { u with ring := 256 }).finishId t.ring t.desc status (64 * t.got)

/-! ## Streams that carry partner images in S9 (R76, R77): space 2, their address is the directory entry -/

/-- The payload of directory entry `e`. -/
def Hub.fwPayload (h : Hub) (e : Nat) : List Byte :=
  let b := h.boot.image
  (b.drop (leAt b (68 + 128 * e) 4)).take (leAt b (72 + 128 * e) 4)

/-- Unit `i` of the payload, its last unit padded with zeros. -/
def Hub.fwLine (h : Hub) (e i : Nat) : List Byte := padTo 64 (((h.fwPayload e).drop (64 * i)).take 64)

/-- Open the stream that carries entry `e` to site `s`: stream 0 of data class 0. An empty payload needs none; a site with no
stream or no class to take it has failed. Partner engine 0xFFFF is its firmware loader (R281). -/
def Hub.fwOpen (s e : Nat) (bcast : Bool) (h : Hub) : Hub :=
  let n := ((h.fwPayload e).length + 63) / 64
  if n = 0 then h
  else if h.negStreams s true = 0 ∨ h.negClasses s = 0 then { h with boot := { h.boot with fwBad := s :: h.boot.fwBad } }
  else
    let t : Stream :=
      { toSite := true, id := 0, tag := (h.siteS s).tag, cls := 0, len := n, got := 0, sent := 0, state := 0,
        bcast := bcast, space := 2, addr := e, engine := 68, ring := 256, desc := 0, closeRing := 256, closeDesc := 0 }
    let h := (h.onSite s fun x => { x with streams := x.streams ++ [t] }).showStreams s
    h.sendReq s 0x40 ([0, 0, BitVec.ofNat 8 (b2n bcast), 0] ++ leBytes 2 0 ++ leBytes 2 0 ++ leBytes 2 0xFFFF ++ leBytes 2 0 ++ leBytes 4 n)

/-- Send one run (R279): its header and its flits, each on a credit of the class. -/
def Hub.sendRun (s : Nat) (t : Stream) (lines : List (List Byte)) (h : Hub) : Hub :=
  if lines = [] then h
  else
    let pool := 2 + t.cls
    let h := h.put (R.YDL_CREDIT_HELD s pool) (h.get (R.YDL_CREDIT_HELD s pool) - (lines.length + 1))
    let h := h.txFlit s 1 (leBytes 2 t.id ++ [BitVec.ofNat 8 lines.length, BitVec.ofNat 8 (b2n t.bcast)] ++ leBytes 4 t.got)
    let h := Hub.each lines (fun l g => g.txFlit s 1 l) h
    let h := h.onStream s true t.id fun u => { u with got := u.got + lines.length, sent := u.sent + lines.length }
    h.onDesc t.ring t.desc fun d => { d with moved := 64 * (t.got + lines.length) }

/-- The copies of entry `e`'s broadcast stream that still run, with their sites (R281). -/
def Hub.bcastCopies (h : Hub) (e : Nat) : List (Nat × Stream) :=
  (List.range 4).filterMap fun s =>
    ((h.siteS s).streams.find? fun t => t.bcast && t.addr == e && decide (t.state ≤ 1)).map fun t => (s, t)

/-- Send a broadcast stream's runs: each run's source is read once and goes to every site of the group, when all are open and hold its
credits, so that the slowest site paces (R281). -/
def Hub.pumpBcast (e : Nat) : Nat → Hub → Hub
  | 0, h => h
  | k + 1, h =>
    let l := h.bcastCopies e
    match l with
    | [] => h
    | (_, t) :: _ =>
      let n := min 255 (t.len - t.got)
      if n = 0 ∨ l.any (fun c => c.2.state != 1 || decide (h.get (R.YDL_CREDIT_HELD c.1 (2 + c.2.cls)) < n + 1)) then h
      else
        let lines := (List.range n).map fun i => h.fwLine e (t.got + i)
        Hub.pumpBcast e k (Hub.each l (fun c g => g.sendRun c.1 c.2 lines) h)

/-- An image stream is open. -/
def Hub.fwBusy (h : Hub) : Bool := (List.range 4).any fun s => (h.siteS s).streams.any fun t => t.space == 2

/-- Unicast images follow one by one (R77). [log: DEDUCED 26] -/
def Hub.fwUnicast : List (Nat × Nat) → Hub → Hub
  | [], h => h.onBoot fun b => { b with fwq := [] }
  | e :: l, h =>
    if h.fwBusy then h.onBoot fun b => { b with fwq := e :: l }
    else Hub.fwUnicast l (if h.siteUp e.1 then h.fwOpen e.1 e.2 false else h)

/-- Start what may start of the images that wait. -/
def Hub.fwNext (h : Hub) : Hub := if h.boot.fwq = [] then h else h.fwUnicast h.boot.fwq

/-- A broadcast stream goes on when one of its copies has gone. -/
def Hub.bcastOn (t : Stream) (h : Hub) : Hub := if t.bcast then h.pumpBcast t.addr t.len else h

/-- An image stream has ended, whole or not. -/
def Hub.fwEnd (s : Nat) (t : Stream) (whole : Bool) (h : Hub) : Hub :=
  if t.space = 2 then ((if whole then h else h.onBoot fun b => { b with fwBad := s :: b.fwBad }).bcastOn t).fwNext else h

/-- A closed stream's descriptors complete and its ID is free: STREAM_OPEN with `status`, a STREAM_CLOSE with OK.
[log: DEDUCED 41] -/
def Hub.streamOver (s : Nat) (t : Stream) (status : Nat) (h : Hub) : Hub :=
  let h := h.freeStream s t.toSite t.id
  let h := h.finishId t.ring t.desc status (64 * t.got)
  (h.finishId t.closeRing t.closeDesc 0 (64 * t.got)).fwEnd s t (status == 0 && t.got == t.len)

/-! ## The drop of a site (R286) -/

/-- Complete every call and stream of a dropped site. [log: DEDUCED 41] -/
def Hub.dropWork (s : Nat) (h : Hub) : Hub :=
  let x := h.siteS s
  let h := h.onSite s fun x => { x with calls := [], streams := [] }
  let h := Hub.each x.calls (fun c g => g.finishId c.ring c.desc 0x0F 0) h
  let h := Hub.each x.streams (fun t g =>
    (g.finishId t.ring t.desc 0x11 (64 * t.got)).finishId t.closeRing t.closeDesc 0x0F (64 * t.got)) h
  (Hub.each x.streams Hub.bcastOn (h.showStreams s)).fwNext

/-- Forget what a site's link holds; what it negotiated stays readable. [log: DEDUCED 41] -/
def SiteS.dropped (x : SiteS) : SiteS :=
  { SiteS.empty with
    tag := x.tag, sbFrame := x.sbFrame, sbResends := x.sbResends, trained := x.trained, bad := x.bad, energy := x.energy,
    lbQuiet := x.lbQuiet, lbOn := x.lbOn, lbPad := x.lbPad, lbMod := x.lbMod }

/-- Clear a bit of a field. -/
def Hub.clearBit (f : RF) (k : Nat) (h : Hub) : Hub := h.put f (withBit (h.get f) k false)

/-- Set a bit of a field. -/
def Hub.setBit (f : RF) (k : Nat) (h : Hub) : Hub := h.put f (withBit (h.get f) k true)

/-- No module of a dropped site is in service; a map command about one of them ends CANCELLED. -/
def Hub.dropModules (s : Nat) (h : Hub) : Hub :=
  let h := (h.put (R.MAP_SITE_LIVE s) 0).put (R.YDL_STAT_LIVE s) 0
  let h := (h.onMap fun m => { m with changes := m.changes.filter fun x => !(x.type == 3 && x.site == s) }).showQueued
  match h.map.cmd with
  | some m => if m.type = 3 ∧ m.site = s then (if m.join then (h.setState 3 s m.phys 2).mapDone 9 else h.mapDone 9) else h
  | none => h

/-- Drop site `s` for reason `why` (R286): DROP on the sideband, its work ends, its lines are handled, its level, grant and
allowance become 0, and its domain is lowered under the covenant. [log: DEDUCED 41] -/
def Chip.siteDrop (s why : Nat) (c : Chip) : Chip :=
  if c.hub.siteOut s then c
  else
    let h := c.hub.sbSend s 0x09 [why]
    let h := ((h.put (R.YDL_STAT_STATE s) 4).put (R.YDL_DISC_PHASE s) 6).put (R.YDL_DISC_WHY s) why
    let h := h.dropWork s
    let h := h.onSite s SiteS.dropped
    let h := h.dropWaits fun w => match w.who with | .site t _ _ => t == s | _ => false
    let c := (⟨h, c.mem⟩ : Chip).dirDropSite s
    let h := ((c.hub.setLevel s 0).put (R.DISP_POOL_GRANT (1 + s)) 0).put (R.YDL_ALLOW s) 0
    let h := ((h.clearBit R.GLB_POP_SITE_LIVE s).clearBit R.BUF_STAT_SITE_COH s).dropModules s
    let h := { h with power := { h.power with barred := nset h.power.barred (siteDomain s) 7 } }
    let h := (h.lowerOwn (siteDomain s)).bootSiteLost s
    ⟨h.warn 0x30 6 why s, c.mem⟩

/-- SITE_DROP (R286). -/
def execSiteDrop (site why : Nat) (s : State) : Host.Outcome State Fault Refusal :=
  s.actMem (Ok.siteDrop site why) (Chip.siteDrop site why)

/-- RECALL_TIMEOUT (R183): a recall of `line` that site `site` has not answered is a FAULT against the site, which is dropped. -/
def execRecallTimeout (site line : Nat) (s : State) : Host.Outcome State Fault Refusal :=
  s.actMem (Ok.recallTimeout site line) fun c =>
    if c.hub.awaits site line then (⟨c.hub.faultRecord 0x31 6 site, c.mem⟩ : Chip).siteDrop site 10 else c

/-! ## Credits (R275, R276) -/

/-- Credits the hub grants in a pool: 256 REQ, 256 RSP, 8,192 per data class (R267). -/
def hubGrant (pool : Nat) : Nat := if pool < 2 then 256 else 8192

/-- A site's flits of `pool` are consumed: their credits are owed back. One sent without a credit is a protocol error, and the
site is dropped with WHY 12 (R275). -/
def Chip.consume (s pool flits : Nat) (f : Chip → Chip) (c : Chip) : Chip :=
  if !c.hub.siteUp s then c
  else if hubGrant pool < c.hub.get (R.YDL_CREDIT_OWED s pool) + flits then c.siteDrop s 12
  else f ⟨c.hub.put (R.YDL_CREDIT_OWED s pool) (c.hub.get (R.YDL_CREDIT_OWED s pool) + flits), c.mem⟩

/-- Lines of a stream's source read in order, up to the first that is uncorrectable. -/
def Chip.readLines (req sp : Nat) : Nat → Nat → Chip → List (List Byte) × Bool × Chip
  | 0, _, c => ([], false, c)
  | k + 1, a, c =>
    let r := c.read req sp a 64
    if r.bad then ([], true, r.chip)
    else
      let q := Chip.readLines req sp k (a + 64) r.chip
      (r.data :: q.1, q.2.1, q.2.2)

/-- Requester of a stream: its ring's descriptor, or Masthead for an image. -/
def Stream.req (t : Stream) : Nat := if t.ring < 256 then 0x1000 + t.ring else 0x3000

/-- A STRICT deadline has stopped the stream's descriptor (R141). -/
def Hub.streamStop (h : Hub) (t : Stream) : Bool :=
  match h.desc t.ring t.desc with
  | none => false
  | some d => d.stop

/-- Units of the next run of a hub-to-site stream: 255, or what is left, or what is left to the stop's 4 KiB boundary. -/
def Hub.runLen (h : Hub) (t : Stream) : Nat :=
  let k := min 255 (t.len - t.got)
  if h.streamStop t then min k ((64 - t.got % 64) % 64) else k

/-- Send what stream `id` of site `s` can send with the credits held; an uncorrectable line closes it (R215). -/
def Chip.pumpStream (s id : Nat) : Nat → Chip → Chip
  | 0, c => c
  | k + 1, c =>
    match (c.hub.siteS s).stream true id with
    | none => c
    | some t =>
      let n := c.hub.runLen t
      if t.bcast then ⟨c.hub.pumpBcast t.addr t.len, c.mem⟩
      else if t.state ≠ 1 ∨ t.len ≤ t.got then c
      else if n = 0 then ⟨(c.hub.sendClose s t 1 0).endOpen s t 0x0A, c.mem⟩
      else if c.hub.get (R.YDL_CREDIT_HELD s (2 + t.cls)) < n + 1 then c
      else
        let r := if t.space = 2 then ((List.range n).map fun i => c.hub.fwLine t.addr (t.got + i), false, c)
          else c.readLines t.req t.space n (t.addr + 64 * t.got)
        let h := r.2.2.hub.sendRun s t r.1
        if r.2.1 then
          let t := { t with got := t.got + r.1.length }
          ⟨(h.sendClose s t 2 1).endOpen s t 8, r.2.2.mem⟩
        else Chip.pumpStream s id k ⟨h, r.2.2.mem⟩

/-- Send what every stream of site `s` can send. -/
def Chip.pumpStreams (s : Nat) (c : Chip) : Chip :=
  Chip.each (c.hub.siteS s).streams (fun t c => if t.toSite then c.pumpStream s t.id 512 else c) c

/-- CREDIT (R276): the site returns credits; messages and runs that waited for them are sent. -/
def Chip.takeCredit (s : Nat) (give : List Nat) (c : Chip) : Chip :=
  if !c.hub.siteUp s then c
  else
    let h := c.hub.upto 6 fun p g => g.put (R.YDL_CREDIT_HELD s p) (satNat 16 (g.get (R.YDL_CREDIT_HELD s p) + give.getD p 0))
    let h := h.releaseCtl s (h.siteS s).ctlq
    (⟨h, c.mem⟩ : Chip).pumpStreams s

/-- CREDIT (R276): returns for REQ, RSP and data classes 0 to 3. -/
def execCredit (site : Nat) (give : List Nat) (s : State) : Host.Outcome State Fault Refusal :=
  s.actMem (Ok.credit site give) (Chip.takeCredit site give)

/-- The hub returns every credit it owes in one CREDIT message, which takes the escape credit (R276). -/
def Hub.returnCredits (s : Nat) (h : Hub) : Hub :=
  let owed := (List.range 6).map fun p => h.get (R.YDL_CREDIT_OWED s p)
  if !h.siteUp s || !(h.siteS s).escape || owed.all (· == 0) then h
  else
    let h := h.upto 6 fun p g => g.put (R.YDL_CREDIT_OWED s p) 0
    let h := h.onSite s fun x => { x with escape := false, escSfn := x.sfn }
    h.emitCtl s { rsp := false, msg := 1, tag := 0, body := owed.flatMap (leBytes 2), data := [] }

/-- CREDIT_RETURN (R276). -/
def execCreditReturn (site : Nat) (s : State) : Host.Outcome State Fault Refusal :=
  s.act (Ok.creditReturn site) (Hub.returnCredits site)

/-- UNLISTED_MSG (R273): discarded, its credit returned, and counted in BADMSG. -/
def execUnlistedMsg (site : Nat) (rsp : Bool) (flits : Nat) (s : State) : Host.Outcome State Fault Refusal :=
  s.actMem (Ok.unlistedMsg site rsp flits) fun c =>
    c.consume site (b2n rsp) flits fun c => ⟨c.hub.bump (R.YDL_CTL_BADMSG site) 1, c.mem⟩

/-! ## Uncached access (R273, R274) -/

/-- The address names a whole line of DRAM or buffer that is there (R274). -/
def Hub.lineAddr (h : Hub) (a : Nat) : Bool :=
  decide (addrSpace a ≤ 1) && addrOff a % 64 == 0 && decide (addrOff a + 64 ≤ h.spaceSize (addrSpace a))

/-- RD_RESP. -/
def Hub.rdResp (s tag status : Nat) (data : List Byte) (h : Hub) : Hub :=
  h.sendCtl s { rsp := true, msg := 0x12, tag := tag, body := [BitVec.ofNat 8 status], data := data }

/-- WR_ACK. -/
def Hub.wrAck (s tag status : Nat) (h : Hub) : Hub :=
  h.sendCtl s { rsp := true, msg := 0x13, tag := tag, body := [BitVec.ofNat 8 status], data := [] }

/-- A site's read of the line at `a`: a buffer line is served through the directory (R181), a DRAM line at once; no
request is issued before map epoch 1 (R62). -/
def Chip.siteRead (more : Bool) (s tag a : Nat) (c : Chip) : Chip :=
  if !c.hub.on R.MAP_EPOCH_CUR then
    ⟨c.hub.onSite s fun x => { x with early := x.early ++ [{ write := false, tag := tag, addr := a, mask := 0, line := [] }] }, c.mem⟩
  else if !c.hub.lineAddr a then ⟨c.hub.rdResp s tag 2 (zeros 64), c.mem⟩
  else if addrSpace a = 1 then c.ncRead more (0x2000 + s) 2 tag (addrOff a) 64
  else
    let r := c.read (0x2000 + s) 0 (addrOff a) 64
    ⟨r.chip.hub.rdResp s tag (b2n r.bad) (if r.bad then zeros 64 else r.data), r.chip.mem⟩

/-- RD (R274). -/
def execSiteRd (site tag : Nat) (addr : DWord) (s : State) : Host.Outcome State Fault Refusal :=
  s.actMem (Ok.siteRd site tag addr) fun c => 
    (c.consume site 0 1 (Chip.siteRead (s.sameDecision (.siteRd site tag addr)) site tag addr.toNat)).decided
      (s.sameDecision (.siteRd site tag addr))

/-- The bytes of a line that a mask selects, as maximal runs, from byte `k`. -/
def maskRuns (mask : Nat) (off : Nat) : List Byte → Nat → List (Nat × List Byte)
  | [], _ => []
  | b :: bs, k =>
    let rest := maskRuns mask off bs (k + 1)
    if bit mask k then
      (match rest with
       | (a, l) :: more => if a = off + k + 1 then (off + k, b :: l) :: more else (off + k, [b]) :: rest
       | [] => [(off + k, [b])])
    else rest

/-- A site's masked write of the line at `a`. -/
def Chip.siteWrite (more : Bool) (s tag a mask : Nat) (line : List Byte) (c : Chip) : Chip :=
  if !c.hub.on R.MAP_EPOCH_CUR then
    ⟨c.hub.onSite s fun x => { x with early := x.early ++ [{ write := true, tag := tag, addr := a, mask := mask, line := line }] }, c.mem⟩
  else if !c.hub.lineAddr a then ⟨c.hub.wrAck s tag 2, c.mem⟩
  else
    let p := maskRuns mask (addrOff a) line 0
    if addrSpace a = 1 then c.ncWrite more (0x2000 + s) 2 tag (addrOff a) 64 p
    else
      let r := c.writePieces (0x2000 + s) 0 p
      ⟨r.chip.hub.wrAck s tag (b2n r.bad), r.chip.mem⟩

/-- WR (R274). -/
def execSiteWr (site tag : Nat) (addr mask : DWord) (line : List Byte) (s : State) : Host.Outcome State Fault Refusal :=
  s.actMem (Ok.siteWr site tag addr mask line) fun c =>
    (c.consume site 0 2 (Chip.siteWrite (s.sameDecision (.siteWr site tag addr mask line)) site tag addr.toNat mask.toNat line)).decided
      (s.sameDecision (.siteWr site tag addr mask line))

/-- Map epoch 1 is adopted: the requests that waited for it are issued, in order (R62). [log: DEDUCED 28] -/
def Chip.serveEarly (s : Nat) (c : Chip) : Chip :=
  let l := (c.hub.siteS s).early
  Chip.each l (fun r c => if r.write then c.siteWrite false s r.tag r.addr r.mask r.line else c.siteRead false s r.tag r.addr)
    ⟨c.hub.onSite s fun x => { x with early := [] }, c.mem⟩

/-! ## Coherent access (R180 to R185, R273) -/

/-- A cacheable request of kind 0 RD_SHARED, 1 RD_OWN or 2 UPGRADE: NOT_COHERENT without the capability or outside every ON
window; a grant with ADDR_ERR where the line is not there. -/
def Chip.cacheable (kind s tag a : Nat) (c : Chip) : Chip :=
  let h := c.hub
  if !h.caches s then ⟨h.notCoherent s tag a, c.mem⟩
  else if !h.lineAddr a then
    ⟨h.sendCtl s
      { rsp := true, msg := if kind = 0 then 0x20 else 0x21, tag := tag, body := leBytes 8 a ++ [2], data := zeros 64 }, c.mem⟩
  else
    let l := addrOff a / 64
    match h.cohIndex l with
    | none => ⟨h.notCoherent s tag a, c.mem⟩
    | some i =>
      if addrSpace a ≠ 1 ∨ h.lineState l ≠ 2 then ⟨h.notCoherent s tag a, c.mem⟩
      else c.dirGather (0x2000 + s) l i { pos := s, kind := kind, tag := tag, nc := 0 }

/-- RD_SHARED (R181). -/
def execRdShared (site tag : Nat) (addr : DWord) (s : State) : Host.Outcome State Fault Refusal :=
  s.actMem (Ok.rdShared site tag addr) fun c =>
    (c.consume site 0 1 (Chip.cacheable 0 site tag addr.toNat)).decided (s.sameDecision (.rdShared site tag addr))

/-- RD_OWN (R181). -/
def execRdOwn (site tag : Nat) (addr : DWord) (s : State) : Host.Outcome State Fault Refusal :=
  s.actMem (Ok.rdOwn site tag addr) fun c =>
    (c.consume site 0 1 (Chip.cacheable 1 site tag addr.toNat)).decided (s.sameDecision (.rdOwn site tag addr))

/-- UPGRADE (R181). -/
def execUpgrade (site tag : Nat) (addr : DWord) (s : State) : Host.Outcome State Fault Refusal :=
  s.actMem (Ok.upgrade site tag addr) fun c =>
    (c.consume site 0 1 (Chip.cacheable 2 site tag addr.toNat)).decided (s.sameDecision (.upgrade site tag addr))

/-- Install a line's data in its bank. -/
def Chip.install (s l : Nat) (line : List Byte) (c : Chip) : Chip :=
  if line = [] then c else (c.write (0x2000 + s) 1 (64 * l) line).chip

/-- WB_ACK. -/
def Hub.wbAck (s tag a : Nat) (h : Hub) : Hub :=
  h.sendCtl s { rsp := true, msg := 0x24, tag := tag, body := leBytes 8 a, data := [] }

/-- A writeback, or an eviction without data (R181, R185): it installs, ends the ownership and is acknowledged at once, ahead
of the other requests of its decision, also when a recall is on its way to the owner or the word is being recovered. From a site that is not the owner it is a protocol
error. [log: DEDUCED 37] -/
def Chip.writeback (s tag a : Nat) (line : List Byte) (c : Chip) : Chip :=
  let h := c.hub
  let l := addrOff a / 64
  match h.cohIndex l with
  | none => ⟨h.notCoherent s tag a, c.mem⟩
  | some i =>
    if addrSpace a ≠ 1 ∨ addrOff a % 64 ≠ 0 then ⟨h.notCoherent s tag a, c.mem⟩
    else
      let c := c.dirCheck (0x2000 + s) (dirWord i)
      if dirOwner (c.hub.entry i) = some s ∨ (c.hub.txn l).any fun t => t.req.kind == 5 && bit t.await s then
        let c := c.install s l line
        let h := (c.hub.setEntry i 0).wbAck s tag a
        let wb : DirReq := { pos := s, kind := 7, tag := tag, nc := 0 }
        ⟨if (h.txn l).isSome then h else h.onDir fun d => { d with gather := d.gather ++ [(l, wb)] }, c.mem⟩
      else (⟨c.hub.bump R.BUF_EVT_PROTO 1, c.mem⟩ : Chip).shown

/-- WB_DIRTY (R181). -/
def execWbDirty (site tag : Nat) (addr : DWord) (line : List Byte) (s : State) : Host.Outcome State Fault Refusal :=
  s.actMem (Ok.wbDirty site tag addr line) fun c =>
    (c.consume site 0 2 (Chip.writeback site tag addr.toNat line)).decided (s.sameDecision (.wbDirty site tag addr line))

/-- EVICT_CLEAN (R181). [log: DEDUCED 37] -/
def execEvictClean (site tag : Nat) (addr : DWord) (s : State) : Host.Outcome State Fault Refusal :=
  s.actMem (Ok.evictClean site tag addr) fun c =>
    (c.consume site 0 1 (Chip.writeback site tag addr.toNat [])).decided (s.sameDecision (.evictClean site tag addr))

/-- A site's answer to a recall (R181, R182): its data is installed, and the last answer ends the transaction. -/
def Chip.recallAnswer (s a : Nat) (line : List Byte) (c : Chip) : Chip :=
  let l := addrOff a / 64
  if c.hub.awaits s l then ((c.install s l line).dirAnswered s l).shown else c

/-- RECALL_ACK (R182). -/
def execRecallAck (site tag : Nat) (addr : DWord) (s : State) : Host.Outcome State Fault Refusal :=
  s.actMem (Ok.recallAck site tag addr) fun c => c.consume site 1 1 (Chip.recallAnswer site addr.toNat [])

/-- RECALL_DATA (R182). -/
def execRecallData (site tag : Nat) (addr : DWord) (line : List Byte) (s : State) : Host.Outcome State Fault Refusal :=
  s.actMem (Ok.recallData site tag addr line) fun c => c.consume site 1 2 (Chip.recallAnswer site addr.toNat line)

/-! ## Cleats and hub time (R159, R160, R167) -/

/-- Site `s`'s ADD or SET waits for a write it sent earlier, which the directory still holds (R160). -/
def Hub.cltWaits (h : Hub) (s mark : Nat) : Bool := h.dir.ncs.any fun a => a.write && a.req == 0x2000 + s && decide (a.id < mark)

/-- A site's ADD or SET (R160): applied once every write the site sent before it is visible. [log: DEDUCED 36] -/
def Hub.cltPut (x : CltHeld) (h : Hub) : Hub :=
  let x := { x with after := h.dir.ncNext }
  if h.cltWaits x.site x.after then h.onDir fun d => { d with clts := d.clts ++ [x] } else h.cltApply x

/-- SITE_CLT_ADD (R160). -/
def execSiteCltAdd (site tag n : Nat) (v : Word) (s : State) : Host.Outcome State Fault Refusal :=
  s.actMem (Ok.siteCltAdd site tag n v) fun c => c.consume site 0 1 fun c =>
    ⟨c.hub.cltPut { site := site, tag := tag, set := false, cleat := n, value := v.toNat, after := 0 }, c.mem⟩

/-- SITE_CLT_SET (R160). -/
def execSiteCltSet (site tag n : Nat) (v : Word) (s : State) : Host.Outcome State Fault Refusal :=
  s.actMem (Ok.siteCltSet site tag n v) fun c => c.consume site 0 1 fun c =>
    ⟨c.hub.cltPut { site := site, tag := tag, set := true, cleat := n, value := v.toNat, after := 0 }, c.mem⟩

/-- SITE_CLT_READ (R160). -/
def execSiteCltRead (site tag n : Nat) (s : State) : Host.Outcome State Fault Refusal :=
  s.actMem (Ok.siteCltRead site tag n) fun c => c.consume site 0 1 fun c =>
    ⟨c.hub.cltOp site tag n fun h => (h.countEvent 3).cltDone site tag n, c.mem⟩

/-- Waits site `s` has outstanding. -/
def Hub.siteWaits (h : Hub) (s : Nat) : Nat :=
  (h.cleat.waits.filter fun w => match w.who with | .site t _ _ => t == s | _ => false).length

/-- SITE_CLT_WAIT (R159): registered and judged at once, or CLEAT_BUSY with 256 outstanding. [log: DEDUCED 36] -/
def execSiteCltWait (site tag cmp n : Nat) (v : Word) (tmo : Nat) (s : State) : Host.Outcome State Fault Refusal :=
  s.actMem (Ok.siteCltWait site tag cmp n v tmo) fun c => c.consume site 0 1 fun c =>
    ⟨c.hub.cltOp site tag n fun h =>
      if 256 ≤ h.siteWaits site then h.cltAns site tag 4 0
      else h.cleatWait { who := .site site tag tmo, cleat := n, cmp := cmp, value := v.toNat, time := 0 }, c.mem⟩

/-- SITE_CLT_WAIT_TIMEOUT (R160): a site's wait whose timeout falls due is answered TIMEOUT with the cleat's value. -/
def execSiteCltWaitTimeout (site tag : Nat) (s : State) : Host.Outcome State Fault Refusal :=
  s.act (Ok.siteCltWaitTimeout site tag) fun h =>
    match h.cleat.waits.find? fun w => match w.who with | .site t g o => t == site && g == tag && o != 0 | _ => false with
    | none => h
    | some w => (h.dropWaits fun x => x.who == w.who).cltAns site tag 2 (h.get (R.CLT_VALUE w.cleat))

/-- A site's read of a half of hub time under its path's shadow (R167). -/
def Hub.timeRd (s tag half : Nat) (h : Hub) : Hub :=
  let hi : Word := BitVec.ofNat 32 (h.now / 2 ^ 32)
  let ans (stale v : Nat) (h : Hub) : Hub :=
    h.sendCtl s { rsp := true, msg := 0x33, tag := tag, body := [0, BitVec.ofNat 8 stale, 0, 0] ++ leBytes 4 v, data := [] }
  if half = 0 then ans 0 (h.now % 2 ^ 32) (h.latchShadow (.site s) 0x130000 hi)
  else
    let r := h.takeShadow (.site s) 0x130000 hi
    ans (b2n r.2.1) r.1.toNat r.2.2

/-- TIME_RD (R167). -/
def execTimeRd (site tag half : Nat) (s : State) : Host.Outcome State Fault Refusal :=
  s.actMem (Ok.timeRd site tag half) fun c => c.consume site 0 1 fun c => ⟨c.hub.timeRd site tag half, c.mem⟩

/-! ## Streams (R135, R178, R278 to R281) -/

/-- The local range of a stream touches a window that is not OFF. -/
def Hub.windowMeets (h : Hub) (off n : Nat) : Bool :=
  (List.range 8).any fun w =>
    let sp := h.winSpan w
    h.on (R.BUF_WIN2_STATE w) && decide (off < (sp.1 + sp.2) * 2 ^ 20) && decide (sp.1 * 2 ^ 20 < off + n)

/-- A started STREAM_OPEN (R178, R278): refused STREAM_BAD or BAD_ADDR, or STREAM_OPEN is sent. -/
def Hub.openStream (n : Nat) (d : Desc) (h : Hub) : Hub :=
  let b := d.bytes
  let s := leAt b 28 1
  let toSite := leAt b 29 1 == 0
  let cls := leAt b 30 1
  let id := leAt b 32 2
  let off := addrOff (leAt b 36 8)
  let len := leAt b 44 4
  if h.negStreams s toSite ≤ id ∨ h.negClasses s ≤ cls ∨ ((h.siteS s).stream toSite id).isSome then h.finish n d 0x10 0 0
  else if h.windowMeets off len then h.finish n d 3 0 0
  else
    let e := leAt b 48 1
    let eng := if e = 0xFF then h.free % max 1 (h.get R.MAP_COUNT_ENG) else e
    let h := if e = 0xFF then h.drew else h
    let phys := (h.physOf 0 0 eng).getD 68
    let t : Stream :=
      { toSite := toSite, id := id, tag := (h.siteS s).tag, cls := cls, len := len / 64, got := 0, sent := 0, state := 0,
        bcast := false, space := 1, addr := off, engine := phys, ring := n, desc := d.id, closeRing := 256, closeDesc := 0 }
    let h := h.onDesc n d.id fun x => { x with unit := phys }
    let h := (h.onSite s fun x => { x with streams := x.streams ++ [t] }).showStreams s
    h.sendReq s 0x40 ([dirCode toSite, BitVec.ofNat 8 cls, 0, 0] ++ leBytes 2 id ++ leBytes 2 eng ++ leBytes 2 (leAt b 34 2)
      ++ leBytes 2 0 ++ leBytes 4 (len / 64))

/-- STREAM_OPEN (R135, R278). -/
def execStreamOpen (n id : Nat) (s : State) : Host.Outcome State Fault Refusal :=
  s.act (Ok.streamOpen n id) fun h =>
    let was := (h.desc n id).any fun d => d.started
    let h := h.consider 0x08 n id
    match h.running 0x08 n id with
    | none => h
    | some d => if was then h else h.openStream n d

/-- A started STREAM_CLOSE (R135, R280): STREAM_BAD where no such stream is open; else STOP or ABORT is sent.
[log: DEDUCED 41] -/
def Hub.closeStream (n : Nat) (d : Desc) (h : Hub) : Hub :=
  let b := d.bytes
  let s := leAt b 28 1
  match (h.siteS s).stream (leAt b 29 1 == 0) (leAt b 32 2) with
  | none => h.finish n d 0x10 0 0
  | some t =>
    if 2 ≤ t.state then h.finish n d 0x10 0 0
    else (h.onStream s t.toSite t.id fun u => { u with closeRing := n, closeDesc := d.id }).sendClose s t (1 + leAt b 30 1) 0

/-- STREAM_CLOSE (R135, R280). -/
def execStreamClose (n id : Nat) (s : State) : Host.Outcome State Fault Refusal :=
  s.act (Ok.streamClose n id) fun h =>
    let was := (h.desc n id).any fun d => d.started
    let h := h.consider 0x09 n id
    match h.running 0x09 n id with
    | none => h
    | some d => if was then h else h.closeStream n d

/-- A stream whose descriptor is to stop, at a 4 KiB boundary: it is closed, and its descriptor ends DEADLINE_MISS (R125,
R141). -/
def Hub.stopAtBoundary (n id : Nat) (h : Hub) : Hub :=
  h.upto 4 fun s g =>
    Hub.each ((g.siteS s).streams.filter fun t =>
        t.ring == n && t.desc == id && t.state == 1 && t.got % 64 == 0 && g.streamStop t)
      (fun t g => (g.sendClose s t (if t.toSite then 1 else 2) 0).endOpen s t 0x0A) g

/-- OPEN_ACK (R278): the stream is open, or its descriptor fails SITE_ERR with the status. -/
def Chip.openAck (s tag status : Nat) (c : Chip) : Chip :=
  match (c.hub.siteS s).streams.find? fun t => t.tag == tag && t.state == 0 with
  | none => c
  | some t =>
    if status = 0 then
      let h := (c.hub.onStream s t.toSite t.id fun u => { u with state := 1 }).stopAtBoundary t.ring t.desc
      (⟨h, c.mem⟩ : Chip).pumpStream s t.id 512
    else ⟨((c.hub.freeStream s t.toSite t.id).finishId t.ring t.desc 0x0D status).fwEnd s t false, c.mem⟩

/-- OPEN_ACK (R278). -/
def execOpenAck (site tag status : Nat) (s : State) : Host.Outcome State Fault Refusal :=
  s.actMem (Ok.openAck site tag status) fun c => c.consume site 1 1 (Chip.openAck site tag status)

/-- OPEN_ACK_TIMEOUT (R278): STREAM_OPEN completes SITE_ERR with RESULT 0xFFFF_FFFF, and a WARNING is raised. -/
def execOpenAckTimeout (site tag : Nat) (s : State) : Host.Outcome State Fault Refusal :=
  s.act (Ok.openAckTimeout site tag) fun h =>
    match (h.siteS site).streams.find? fun t => t.tag == tag && t.state == 0 with
    | none => h
    | some t => (((h.freeStream site t.toSite t.id).finishId t.ring t.desc 0x0D 0xFFFFFFFF).warn 0x34 6 0 site).fwEnd site t false

/-- A run reaches the hub (R279): delivered at OFFSET, or a protocol error. A STRICT stop keeps only the bytes before the next
4 KiB boundary; the last unit makes the hub send STREAM_CLOSE DONE (R280). [log: DEDUCED 41] -/
def Chip.takeRun (s id offset : Nat) (data : List Byte) (c : Chip) : Chip :=
  let k := data.length / 64
  match (c.hub.siteS s).stream false id with
  | none => c.siteDrop s 12
  | some t =>
    if t.state = 4 then c
    else if offset ≠ t.got ∨ t.len < t.got + k ∨ t.state = 0 then c.siteDrop s 12
    else
      let stop := c.hub.streamStop t
      let keep := if stop then min k ((64 - t.got % 64) % 64) else k
      let w := c.writePieces t.req t.space (cutLines (t.addr + 64 * t.got) (data.take (64 * keep)))
      let u := { t with got := t.got + keep }
      let h := w.chip.hub.onStream s false id fun _ => u
      let h := h.onDesc t.ring t.desc fun d => { d with moved := 64 * u.got, drained := d.drained || decide (u.got = t.len) }
      let h := if stop ∧ u.got % 64 = 0 then (h.sendClose s u 2 0).endOpen s u 0x0A
        else if u.got = t.len ∧ t.state = 1 then h.sendClose s u 0 0 else h
      ⟨h, w.chip.mem⟩

/-- DATA_RUN (R279): a run of stream `id`, its header and flits each on a credit of the stream's class. -/
def execDataRun (site id offset : Nat) (data : List Byte) (s : State) : Host.Outcome State Fault Refusal :=
  s.actMem (Ok.dataRun site id offset data) fun c =>
    let cls := (((c.hub.siteS site).stream false id).map fun t => t.cls).getD 0
    c.consume site (2 + cls) (1 + data.length / 64) (Chip.takeRun site id offset data)

/-- Status a STREAM_OPEN ends in when its stream is closed with the modes of both ends, the higher ranking (R280): DONE or the
hub's own drain end it OK, a close by the partner before its length, or any ABORT, ends it STREAM_ABORTED. -/
def closeStatus (t : Stream) (theirs : Nat) : Nat :=
  if theirs = 2 ∨ t.state = 4 then 0x11
  else if t.state = 3 then 0
  else if t.got = t.len then 0
  else 0x11

/-- A site's STREAM_CLOSE (R280): taken as CLOSE_ACK of the hub's own, or answered with CLOSE_ACK. [log: DEDUCED 41] -/
def Hub.siteClose (s tag : Nat) (toSite : Bool) (mode id : Nat) (h : Hub) : Hub :=
  match (h.siteS s).stream toSite id with
  | none => h
  | some t =>
    if 2 ≤ t.state then h.streamOver s t (closeStatus t mode)
    else (h.closeAck s tag t).streamOver s t (closeStatus t mode)

/-- SITE_STREAM_CLOSE (R280). -/
def execSiteStreamClose (site tag : Nat) (toSite : Bool) (mode id : Nat) (s : State) : Host.Outcome State Fault Refusal :=
  s.actMem (Ok.siteStreamClose site tag toSite mode id) fun c =>
    c.consume site 0 1 fun c => ⟨c.hub.siteClose site tag toSite mode id, c.mem⟩

/-- CLOSE_ACK (R280): the stream's ID is free, and its descriptors complete. -/
def Hub.closeAcked (s : Nat) (toSite : Bool) (id : Nat) (h : Hub) : Hub :=
  match (h.siteS s).stream toSite id with
  | none => h
  | some t => if 2 ≤ t.state then h.streamOver s t (closeStatus t 0) else h

/-- CLOSE_ACK (R280). -/
def execCloseAck (site : Nat) (toSite : Bool) (id : Nat) (s : State) : Host.Outcome State Fault Refusal :=
  s.actMem (Ok.closeAck site toSite id) fun c => c.consume site 1 1 fun c => ⟨c.hub.closeAcked site toSite id, c.mem⟩

/-! ## Calls (R136, R141, R143, R282) -/

/-- Remaining deadline of a call, µs; 0xFFFF_FFFF for none. -/
def Hub.callDeadline (h : Hub) (d : Desc) : Nat :=
  if dMode d.bytes = 0 then 0xFFFFFFFF else (d.at_ + 1000 * dDeadline d.bytes - h.clock) / 1000

/-- A started SITE_CALL sends CALL. -/
def Hub.sendCall (n : Nat) (d : Desc) (h : Hub) : Hub :=
  let b := d.bytes
  let s := leAt b 28 1
  let tag := (h.siteS s).tag
  let h := h.onSite s fun x => { x with calls := x.calls ++ [{ tag := tag, ring := n, desc := d.id, stopped := false }] }
  h.sendReq s 0x50 (leBytes 4 (leAt b 32 4) ++ leBytes 8 (leAt b 36 8) ++ leBytes 4 (leAt b 44 4) ++ leBytes 4 (h.callDeadline d))

/-- SITE_CALL (R136, R282). -/
def execSiteCall (n id : Nat) (s : State) : Host.Outcome State Fault Refusal :=
  s.act (Ok.siteCall n id) fun h =>
    let was := (h.desc n id).any fun d => d.started
    let h := h.consider 0x0A n id
    match h.running 0x0A n id with
    | none => h
    | some d => if was then h else h.sendCall n d

/-- Outcome of a call: status and result word of its descriptor (R282). -/
def callOutcome (status result : Nat) : Nat × Nat :=
  if status = 0 then (0, result) else if status = 0xFFFF then (0x0E, 0) else (0x0D, status)

/-- The site answers a call: its descriptor completes with the energy reported under PALLOW, else its declared debit (R143); a
stopped one completes DEADLINE_MISS (R141). -/
def Hub.callDone (s tag result status energy : Nat) (h : Hub) : Hub :=
  match (h.siteS s).calls.find? fun c => c.tag == tag with
  | none => h
  | some c =>
    let h := h.onSite s fun x => { x with calls := x.calls.filter fun y => y.tag != tag }
    match h.desc c.ring c.desc with
    | none => h
    | some d =>
      let o := if c.stopped then (0x0A, 0) else callOutcome status result
      (h.freePeak d.bytes).finish c.ring d o.1 o.2 (if h.negFlag s 3 then energy else d.debit)

/-- CALL_DONE (R282). -/
def execCallDone (site tag : Nat) (result : Word) (status energy : Nat) (s : State) : Host.Outcome State Fault Refusal :=
  s.actMem (Ok.callDone site tag result status energy) fun c =>
    c.consume site 1 1 fun c => ⟨c.hub.callDone site tag result.toNat status energy, c.mem⟩

/-! ## Allowances (R283 to R285) -/

/-- Allowance in force at site `s`, 0.25 W: a lowered one is not in force at once (R284). [log: DEDUCED 41] -/
def Hub.inForce (h : Hub) (s : Nat) : Nat :=
  let p := (h.siteS s).prevAllow
  if h.clock < p.2 then max p.1 (h.get (R.YDL_ALLOW s)) else h.get (R.YDL_ALLOW s)

/-- ns from the receipt of a lowered allowance until it is in force (R284): ⌈(P − A) ÷ FASTDROP⌉ × 8 µs + 16 µs, P the power the
site reported last. [log: DEDUCED 41] -/
def Hub.lowerDelay (h : Hub) (s allow : Nat) : Nat :=
  let f := 4 * h.get (R.YDL_PEER_PWR_FASTDROP s)
  (h.get (R.YDL_POWER s) - allow + (f - 1)) / f * 8000 + 16000

/-- The allowance that `allow` replaces stays in force for a time if it is higher (R284). -/
def Hub.keepAllow (s allow : Nat) (h : Hub) : Hub :=
  let old := h.inForce s
  h.onSite s fun x => { x with prevAllow := if allow < old then (old, h.clock + h.lowerDelay s allow) else (0, 0) }

/-- A site reports its power, 0.25 W, and energy: power more than 5 % above the allowance in force is counted and raises a
WARNING, once per epoch (R285). -/
def Hub.allowAck (s power energy : Nat) (h : Hub) : Hub :=
  let h := (h.put (R.YDL_POWER s) power).put (R.YDL_POWER_MISSED s) 0
  let h := h.onSite s fun x => { x with allowDue := false, energy := x.energy + energy }
  if 105 * h.inForce s < 100 * power ∧ ¬ (h.siteS s).overSaid then
    ((h.onSite s fun x => { x with overSaid := true }).bump (R.YDL_ALLOW_OVER s) 1).warn 0x33 6 0 s
  else h

/-- ALLOW_ACK (R285). -/
def execAllowAck (site power energy : Nat) (s : State) : Host.Outcome State Fault Refusal :=
  s.actMem (Ok.allowAck site power energy) fun c => c.consume site 1 1 fun c => ⟨c.hub.allowAck site power energy, c.mem⟩

/-- Send site `s` an allowance, in 0.25 W, that Reef has admitted (R283). A fourth unanswered in a row drops the site (R285). -/
def Chip.sendAllow (s allow rise epoch : Nat) (c : Chip) : Chip :=
  let h := c.hub
  let m := h.get (R.YDL_POWER_MISSED s) + b2n (h.siteS s).allowDue
  if 4 ≤ m then (⟨h.put (R.YDL_POWER_MISSED s) m, c.mem⟩ : Chip).siteDrop s 11
  else
    let h := ((h.keepAllow s allow).put (R.YDL_POWER_MISSED s) m).put (R.YDL_ALLOW s) allow
    let h := h.onSite s fun x => { x with allowDue := true }
    ⟨h.sendReq s 0x60 (leBytes 2 allow ++ leBytes 2 rise ++ leBytes 4 epoch), c.mem⟩

end Sys2Proof.Machine
end

