-- ==== Sys2Proof/Machine/Frames.lean ====
section
/-!
DEFINITION. What serial ports carry (R290 to R305): Ethernet frames and PAUSE, crew messages with their link and forwarding,
raw words; and the meanings of LANE_SEND, LANE_RECV, FRAME_RECEIVE, PAUSE*, CREW_DATA, CREW_ACK*, CREW_NAK and
CREW_FRAME_UNKNOWN_TYPE.
-/
namespace Sys2Proof.Machine

/-! ## Reading a source, writing a destination -/

/-- Read `n` bytes at address operand `a` for ring `r`; host memory answers `host`, once the ring's function may read (R127). -/
def Chip.laneRead (r a n : Nat) (host : List Byte) (c : Chip) : Piece × Chip :=
  if 2 ≤ addrSpace a then (if host.length < n ∨ ¬ c.hub.fnRuns (c.hub.ringFn r) then (.wait, c) else (.bytes (host.take n), c))
  else if addrSpace a = 1 ∧ ¬ c.hub.rangeFree false (addrOff a) n then
    (.wait, (c.probe (0x1000 + r) false (addrOff a) n).shown)
  else
    let x := c.read (0x1000 + r) (addrSpace a) (addrOff a) n
    (if x.bad then .bad else .bytes x.data, x.chip)

/-- Write bytes from the receive buffers of quads `quads`, each its share, with that buffer's urgency (R291): a frame received
on two quads is taken to lie in their buffers one half after the other. [log: DESIGN CHOICE 43] -/
def Chip.drainTo (req sp : Nat) : List Nat → Nat → List Byte → Chip → Wr
  | [], a, bs, c => c.writePieces req sp (cutLines a bs)
  | [q], a, bs, c => c.writePiecesAs (5 + q) req sp (cutLines a bs)
  | q :: qs, a, bs, c =>
    let n := bs.length / (qs.length + 1)
    let x := c.writePiecesAs (5 + q) req sp (cutLines a (bs.take n))
    let y := Chip.drainTo req sp qs (a + n) (bs.drop n) x.chip
    { y with bad := x.bad || y.bad }

/-- Write bytes at address operand `a` for ring `r` from the receive buffers of quads `quads` (R291); a write to host memory
waits while the function is paused (R127). -/
def Chip.laneWrite (quads : List Nat) (r a : Nat) (bs : List Byte) (c : Chip) : Moved × Chip :=
  if 2 ≤ addrSpace a ∧ ¬ c.hub.fnRuns (c.hub.ringFn r) then (.wait, c)
  else if 2 ≤ addrSpace a then (.more bs.length, ⟨c.hub.send (.hostWrite (c.hub.ringFn r) (addrOff a) bs), c.mem⟩)
  else if addrSpace a = 1 ∧ ¬ c.hub.rangeFree true (addrOff a) bs.length then
    (.wait, (c.probe (0x1000 + r) true (addrOff a) bs.length).shown)
  else
    let x := c.drainTo (0x1000 + r) (addrSpace a) quads (addrOff a) bs
    (if x.bad then .over 8 else .more bs.length, x.chip)

/-- Lane operands of a descriptor: MODE bit 0, address, length, destination crew ID. -/
def dLaneFlag (b : List Byte) : Bool := leAt b 29 1 % 2 == 1

/-- Bytes a LANE_RECV keeps for its receive record (R292). -/
def dRecLen (b : List Byte) : Nat := if dLaneFlag b then 16 else 0

/-- Bytes of data a LANE_RECV's buffer takes. -/
def dRoom (b : List Byte) : Nat := leAt b 40 4 - dRecLen b

/-- The 16-byte receive record (R292). -/
def rxRecord (len src : Nat) (trunc : Bool) (time : Nat) : List Byte :=
  leBytes 4 len ++ [BitVec.ofNat 8 src, BitVec.ofNat 8 (b2n trunc), 0, 0] ++ leBytes 8 time

/-- The work of a lane descriptor ends; its port forgets it. [log: DESIGN CHOICE 43] -/
def Hub.endLane (n id status result : Nat) (h : Hub) : Hub := (h.laneForget n id).endWork n id status result

/-- Bytes of a descriptor's transfer are done. -/
def Hub.laneMoved (n id k : Nat) (h : Hub) : Hub := h.onDesc n id fun d => { d with moved := d.moved + k }

/-- A lane transfer whose STRICT deadline has passed ends DEADLINE_MISS at a 4 KiB boundary (R141). -/
def Hub.laneStop (n id : Nat) (h : Hub) : Hub :=
  match h.desc n id with
  | none => h
  | some d => if d.stop ∧ ¬ d.ended ∧ d.moved % 4096 = 0 then h.endLane n id 0x0A d.moved else h

/-- Of `k` bytes a lane transfer may still move: all, or those up to its next 4 KiB boundary once it must stop there (R141). -/
def Desc.laneLeft (d : Desc) (k : Nat) : Nat := if d.stop then min k (4096 - d.moved % 4096) else k

/-! ## Ethernet (R294, R295) -/

/-- Transmit time of port `p`'s first frame of a descriptor with TS (R292). -/
def Hub.recordTx (p : Nat) (h : Hub) : Hub :=
  let t := h.stamp
  ((h.put (R.SER_PORT_TXTS_LO p) t).put (R.SER_PORT_TXTS_HI p) (t / 2 ^ 32)).drew

/-- Send one Ethernet frame for descriptor `d`: padded to 60 bytes, FCS appended (R295). -/
def Hub.ethSend (n : Nat) (d : Desc) (p : Nat) (bs : List Byte) (h : Hub) : Hub :=
  let f := if bs.length < 60 then padTo 60 bs else bs
  let h := h.send (.frame p 0 [] (f ++ fcs f))
  let h := if dLaneFlag d.bytes then h.recordTx p else h
  (h.laneMoved n d.id bs.length).endLane n d.id 0 bs.length

/-- Deliver the held frames of an Ethernet port to its LANE_RECVs, at most `k` of them (R295). -/
def Chip.ethDrain (p : Nat) : Nat → Chip → Chip
  | 0, c => c
  | k + 1, c =>
    match (c.hub.port p).rx, (c.hub.port p).recvs with
    | f :: fs, r :: rs =>
      match c.hub.desc r.ring r.desc with
      | none => Chip.ethDrain p k ⟨c.hub.onPort p fun x => { x with recvs := rs }, c.mem⟩
      | some d =>
        if dRoom d.bytes < f.data.length then
          Chip.ethDrain p k ⟨((c.hub.onPort p fun x => { x with rx := fs }).rxChanged p).bump (R.SER_PORT_RXCNT_RX_LONG p) 1, c.mem⟩
        else
          let rec_ := if dLaneFlag d.bytes then rxRecord f.data.length 0xFF false f.time else []
          match c.laneWrite f.quads r.ring (leAt d.bytes 32 8) (rec_ ++ f.data) with
          | (.wait, c) => c
          | (.over st, c) =>
            Chip.ethDrain p k ⟨((c.hub.onPort p fun x => { x with rx := fs }).rxChanged p).endLane r.ring r.desc st 0, c.mem⟩
          | (.more _, c) =>
            let h := ((c.hub.onPort p fun x => { x with rx := fs }).rxChanged p).laneMoved r.ring r.desc f.data.length
            Chip.ethDrain p k ⟨h.endLane r.ring r.desc 0 f.data.length, c.mem⟩
    | _, _ => c

/-- An Ethernet frame arrives on port `p` (R294): dropped and counted when it is short, long or has a bad FCS, or when the
buffer is full; else held without its FCS. -/
def Hub.ethArrive (p : Nat) (data : List Byte) (back : Nat) (h : Hub) : Hub :=
  let body := data.take (data.length - 4)
  if 9216 < data.length then h.bump (R.SER_PORT_RXCNT_RX_LONG p) 1
  else if data.length < 64 ∨ data.drop (data.length - 4) ≠ fcs body then h.bump (R.SER_PORT_RXCNT_RX_BAD p) 1
  else
    let f : RxHeld := { data := body, time := h.now - back, src := 0xFF, dst := 0, hops := 0, msg := 0, offset := 0, last := true,
                        quads := h.rxQuads p }
    if !h.rxRoom f then h.bump (R.SER_PORT_RXCNT1_RX_DROP p) 1
    else (h.onPort p fun x => { x with rx := x.rx ++ [f] }).rxChanged p

/-! ## Raw mode (R304, R305) -/

/-- One bit through the scrambler x⁵⁸ + x³⁹ + 1: the history's newest bit is bit 0. -/
def scrBit (st : Nat) (b : Bool) : Bool := b != (bit st 38 != bit st 57)

/-- The bits of bytes, least significant first. -/
def bitsOfBytes (bs : List Byte) : List Bool := bs.flatMap fun b => (List.range 8).map fun k => bit b.toNat k

/-- Bytes of bits, least significant first. -/
def bytesOfBits (l : List Bool) : List Byte :=
  (List.range (l.length / 8)).map fun i =>
    BitVec.ofNat 8 ((List.range 8).foldl (fun a k => a + b2n (l.getD (8 * i + k) false) * 2 ^ k) 0)

/-- Scramble bits for sending: the line bits and the new history. [log: DESIGN CHOICE 43] -/
def scramble : Nat → List Bool → List Bool × Nat
  | st, [] => ([], st)
  | st, b :: bs =>
    let o := scrBit st b
    let r := scramble ((2 * st + b2n o) % 2 ^ 58) bs
    (o :: r.1, r.2)

/-- Descramble received line bits. -/
def descramble : Nat → List Bool → List Bool × Nat
  | st, [] => ([], st)
  | st, b :: bs =>
    let r := descramble ((2 * st + b2n b) % 2 ^ 58) bs
    (scrBit st b :: r.1, r.2)

/-- Send raw words on lane `l` of port `p` (R304). [log: DESIGN CHOICE 43] -/
def Hub.rawSend (p l : Nat) (bs : List Byte) (h : Hub) : Hub :=
  if h.on (R.SER_LANE_RAW_SCR l) then
    let r := scramble (h.lane l).txScr (bitsOfBytes bs)
    (h.onLane l fun x => { x with txScr := r.2 }).send (.frame p 2 [] (bytesOfBits r.1))
  else h.send (.frame p 2 [] bs)

/-- A 64-bit word of lane `l` is whole: delayed by WDELAY words, and shown in RXWORD; the word that results, if the delay has
filled. -/
def Hub.rawWord (l : Nat) (w : List Byte) (h : Hub) : Option (List Byte) × Hub :=
  let words := (ofLe w :: (h.lane l).words).take 16
  let h := h.onLane l fun x => { x with words := words }
  match words[h.get (R.SER_LANE_RAW_WDELAY l)]? with
  | none => (none, h)
  | some d => (some (leBytes 8 d), (h.put (R.SER_LANE_RXWORD_LO l) d).put (R.SER_LANE_RXWORD_HI l) (d / 2 ^ 32))

/-- A raw word is held for the running LANE_RECV that still needs it; without one it is discarded (R304). -/
def Hub.rawHold (p : Nat) (w : List Byte) (h : Hub) : Hub :=
  match (h.port p).recvs with
  | [] => h
  | r :: _ =>
    match h.desc r.ring r.desc with
    | none => h
    | some d =>
      let f : RxHeld := { data := w, time := h.now, src := 0xFF, dst := 0, hops := 0, msg := 0, offset := 0, last := false,
                          quads := quadsOfLanes (h.portLanes p) }
      if dRoom d.bytes ≤ d.moved + h.heldBytes p then h
      else if !h.rxRoom f then h.bump (R.SER_PORT_RXCNT1_RX_DROP p) 1
      else (h.onPort p fun x => { x with rx := x.rx ++ [f] }).rxChanged p

/-- Line bits of lane `l` are taken in: descrambled, slips passed over, and cut into words at the lane's boundary; the words
that are whole (R304, R305). -/
def Hub.rawBits (l : Nat) (bits : List Bool) (h : Hub) : List Bool × Hub :=
  let x := h.lane l
  let r := descramble x.rxScr bits
  let all := x.part ++ (if h.on (R.SER_LANE_RAW_SCR l) then r.1 else bits)
  let n := all.length - x.skip
  (((all.drop x.skip).take (n / 64 * 64)),
    h.onLane l fun x => { x with rxScr := r.2, skip := x.skip - all.length, part := (all.drop x.skip).drop (n / 64 * 64) })

/-- Raw line bits arrive on port `p`. -/
def Hub.rawArrive (p : Nat) (data : List Byte) (h : Hub) : Hub :=
  let l := (h.portLanes p).headD 0
  let q := h.rawBits l (bitsOfBytes data)
  q.2.upto (q.1.length / 64) fun i g =>
    let r := g.rawWord l (bytesOfBits ((q.1.drop (64 * i)).take 64))
    match r.1 with
    | none => r.2
    | some w => r.2.rawHold p w

/-- Deliver held raw words to the oldest LANE_RECV, at most `k` of them; its last word ends it. -/
def Chip.rawDrain (p : Nat) : Nat → Chip → Chip
  | 0, c => c
  | k + 1, c =>
    match (c.hub.port p).rx, (c.hub.port p).recvs with
    | f :: fs, r :: rs =>
      match c.hub.desc r.ring r.desc with
      | none => Chip.rawDrain p k ⟨c.hub.onPort p fun x => { x with recvs := rs }, c.mem⟩
      | some d =>
        let time := if d.moved = 0 then f.time else r.time
        match c.laneWrite f.quads r.ring (leAt d.bytes 32 8 + dRecLen d.bytes + d.moved) f.data with
        | (.wait, c) => c
        | (.over st, c) =>
          Chip.rawDrain p k ⟨((c.hub.onPort p fun x => { x with rx := fs }).rxChanged p).endLane r.ring r.desc st d.moved, c.mem⟩
        | (.more m, c) =>
          let h := (c.hub.onPort p fun x => { x with rx := fs, recvs := { r with time := time } :: rs }).rxChanged p
          let h := h.laneMoved r.ring r.desc m
          if d.moved + m < dRoom d.bytes then Chip.rawDrain p k ⟨h.laneStop r.ring r.desc, c.mem⟩
          else
            let q := if dLaneFlag d.bytes then
                Chip.laneWrite f.quads r.ring (leAt d.bytes 32 8) (rxRecord (d.moved + m) 0xFF false time) ⟨h, c.mem⟩
              else (.more 0, ⟨h, c.mem⟩)
            ⟨q.2.hub.endLane r.ring r.desc (match q.1 with | .over st => st | _ => 0) (d.moved + m), q.2.mem⟩
    | _, _ => c

/-! ## The crew link (R298 to R302) -/

/-- Credits a payload takes, in 256-byte units (R298, R299). [log: DEDUCED 44] -/
def creditUnits (n : Nat) : Nat := (n + 255) / 256

/-- Lanes of port `p` in quad `q`. -/
def Hub.lanesIn (h : Hub) (p q : Nat) : Nat := ((h.portLanes p).filter fun l => l / 4 == q).length

/-- Initial grant of port `p`: its share of the 1 MiB of each quad it touches, divided among the crew ports of the quad by
width (R299). [log: DEDUCED 44] -/
def Hub.creditShare (h : Hub) (p : Nat) : Nat :=
  (h.quadsOf p).foldl (fun a q =>
    let all := ((List.range 32).filter fun o => h.portOn o && h.portMode o == 1).foldl (fun a o => a + h.lanesIn o q) 0
    a + 4096 * h.lanesIn p q / max 1 all) 0

/-- The sender of port `p` may send a DATA frame of `n` bytes: credit, at most 256 unacknowledged, lanes left (R299, R300). -/
def Hub.crewRoom (h : Hub) (p n : Nat) : Bool :=
  let x := h.port p
  decide (x.store.length < 256) && h.txLanes p != []
    && decide ((x.used + 2 ^ 32 - x.granted) % 2 ^ 32 + creditUnits n ≤ h.creditShare p)

/-- Put a DATA frame on the line (R298): type 1, HOPS with LAST, LINK_SEQ, message, offset. -/
def Hub.putData (p seq : Nat) (f : RxHeld) (h : Hub) : Hub :=
  h.send (.frame p 3 [] (crewFrame 1 f.src f.dst (f.hops + 128 * b2n f.last) seq f.msg f.offset f.data))

/-- Send a DATA frame on port `p`: the next LINK_SEQ, kept until it is acknowledged. -/
def Hub.crewPush (p : Nat) (f : RxHeld) (owner : Option (Nat × Nat)) (h : Hub) : Hub :=
  let x := h.port p
  (h.onPort p fun y => { y with txSeq := (x.txSeq + 1) % 2 ^ 16, used := (x.used + creditUnits f.data.length) % 2 ^ 32,
                                store := x.store ++ [{ seq := x.txSeq, frame := f, owner := owner }] }).putData p x.txSeq f

/-- Send an ACK (`type` 2) or NAK (3) on port `p`: LINK_SEQ, credits returned, RX_LANES (R298). [log: DEDUCED 44] -/
def Hub.crewReply (p type seq : Nat) (h : Hub) : Hub :=
  let x := h.port p
  h.sendFrame p type (h.peerId p) seq x.returned x.rxLanes []

/-- Send an ACK: the last LINK_SEQ received in order. -/
def Hub.crewAck (p : Nat) (h : Hub) : Hub :=
  let seq := ((h.port p).rxExp + 2 ^ 16 - 1) % 2 ^ 16
  (h.onPort p fun x => { x with changed := false, sinceAck := 0 }).crewReply p 2 seq

/-- A bad frame or a gap: NAK with the LINK_SEQ expected, once per gap (R299). -/
def Hub.crewGap (p : Nat) (h : Hub) : Hub :=
  if (h.port p).gap then h else (h.onPort p fun x => { x with gap := true }).crewReply p 3 (h.port p).rxExp

/-- A frame has left the receive buffer of port `p`: its credit is returned. -/
def Hub.crewFreed (p n : Nat) (h : Hub) : Hub :=
  h.onPort p fun x => { x with returned := (x.returned + creditUnits n) % 2 ^ 32, changed := true }

/-- Count a frame dropped in forwarding or on a port that is not JOINED (R302, R317). [log: DEDUCED 44] -/
def Hub.fwdDrop (p : Nat) (h : Hub) : Hub := h.bump (R.SER_PORT_CREWCNT_FWD_DROP p) 1

/-- Forward a held frame of port `p` (R302, R317): dropped without hops, a route, the FWD capability or a JOINED port; it
waits while the outgoing port has no room. True when it has left the buffer. [log: DEDUCED 44] -/
def Hub.forward (p : Nat) (f : RxHeld) (h : Hub) : Bool × Hub :=
  let o := h.get (R.SER_CREW_ROUTE_PORT f.dst)
  if f.hops = 0 ∨ 63 < f.dst ∨ ¬ h.on (R.SER_CREW_ROUTE_VALID f.dst) ∨ ¬ bit (h.get (R.CREW_PORT_CAPS p)) 0
      ∨ ¬ h.crewUp o ∨ ¬ h.joined o then (true, h.fwdDrop p)
  else if h.crewRoom o f.data.length then (true, h.crewPush o { f with hops := f.hops - 1 } none)
  else (false, h)

/-- Bind a message to the oldest unbound LANE_RECV of the port. -/
def bindRecv (src msg time : Nat) : List Recv → Option (List Recv)
  | [] => none
  | r :: rs =>
    if r.bound = none then some ({ r with bound := some (src, msg), time := time } :: rs)
    else (bindRecv src msg time rs).map (r :: ·)

/-- The LANE_RECV a message is bound to. -/
def PortS.boundTo (x : PortS) (src msg : Nat) : Option Recv := x.recvs.find? fun r => r.bound == some (src, msg)

/-- End a bound LANE_RECV on its message's LAST frame (R292, R301). -/
def Chip.crewEnd (quads : List Nat) (r : Recv) (d : Desc) (src len : Nat) (trunc : Bool) (c : Chip) : Chip :=
  let q := if dLaneFlag d.bytes then
      c.laneWrite quads r.ring (leAt d.bytes 32 8) ((rxRecord len src trunc r.time).take (leAt d.bytes 40 4))
    else (.more 0, c)
  ⟨q.2.hub.endLane r.ring r.desc (match q.1 with | .over st => st | _ => 0) len, q.2.mem⟩

/-- Deliver a held frame of port `p` to the LANE_RECV its message is bound to (R301). True when it has left the buffer. A
frame whose message's LANE_RECV is gone is discarded. [log: DEDUCED 44] -/
def Chip.crewDeliver (p : Nat) (f : RxHeld) (c : Chip) : Bool × Chip :=
  let h := if f.offset = 0 ∧ ((c.hub.port p).boundTo f.src f.msg).isNone then
      match bindRecv f.src f.msg f.time (c.hub.port p).recvs with
      | none => c.hub
      | some l => c.hub.onPort p fun x => { x with recvs := l }
    else c.hub
  match (h.port p).boundTo f.src f.msg with
  | none => (f.offset != 0, ⟨h, c.mem⟩)
  | some r =>
    match h.desc r.ring r.desc with
    | none => (true, ⟨h.laneForget r.ring r.desc, c.mem⟩)
    | some d =>
      let n := d.laneLeft f.data.length
      let part := f.data.take (min n (dRoom d.bytes - f.offset))
      let trunc := r.trunc || decide (dRoom d.bytes < f.offset + f.data.length)
      match Chip.laneWrite f.quads r.ring (leAt d.bytes 32 8 + dRecLen d.bytes + f.offset) part ⟨h, c.mem⟩ with
      | (.wait, c) => (false, c)
      | (.over st, c) => (true, ⟨c.hub.endLane r.ring r.desc st d.moved, c.mem⟩)
      | (.more _, c) =>
        let h := (c.hub.onPort p fun x =>
          { x with recvs := x.recvs.map fun y => if y.ring = r.ring ∧ y.desc = r.desc then { y with trunc := trunc } else y }).laneMoved
            r.ring r.desc n
        if n < f.data.length then (true, ⟨h.laneStop r.ring r.desc, c.mem⟩)
        else if f.last then (true, Chip.crewEnd f.quads r d f.src (f.offset + f.data.length) trunc ⟨h, c.mem⟩) else (true, ⟨h.laneStop r.ring r.desc, c.mem⟩)

/-- Work through the held frames of crew port `p`: delivered or forwarded in order per source; the rest stay held. -/
def Chip.crewDrain (p : Nat) : List RxHeld → List Nat → Chip → Chip
  | [], _, c => c
  | f :: fs, stuck, c =>
    if stuck.contains f.src then
      Chip.crewDrain p fs stuck ⟨c.hub.onPort p fun x => { x with rx := x.rx ++ [f] }, c.mem⟩
    else
      let r := if f.dst = c.hub.get R.CREW_CTRL_ID then c.crewDeliver p f
        else (let q := c.hub.forward p f; (q.1, ⟨q.2, c.mem⟩))
      if r.1 then Chip.crewDrain p fs stuck ⟨r.2.hub.crewFreed p f.data.length, r.2.mem⟩
      else Chip.crewDrain p fs (f.src :: stuck) ⟨r.2.hub.onPort p fun x => { x with rx := x.rx ++ [f] }, r.2.mem⟩

/-- Deliver what port `p` holds to its LANE_RECVs (R291). -/
def Chip.portDrain (p : Nat) (c : Chip) : Chip :=
  if c.hub.portMode p = 0 then c.ethDrain p ((c.hub.port p).rx.length + (c.hub.port p).recvs.length)
  else if c.hub.portMode p = 2 then c.rawDrain p ((c.hub.port p).rx.length + (c.hub.port p).recvs.length)
  else
    let l := (c.hub.port p).rx
    let c := Chip.crewDrain p l [] ⟨c.hub.onPort p fun x => { x with rx := [] }, c.mem⟩
    ⟨c.hub.rxChanged p, c.mem⟩

/-- Every crew port works through its held frames: credit or room has appeared somewhere. -/
def Chip.crewDrainAll (c : Chip) : Chip :=
  Chip.each (List.range 32) (fun p c => if c.hub.portOn p ∧ c.hub.portMode p = 1 ∧ (c.hub.port p).rx ≠ [] then c.portDrain p else c) c

/-- CREW_DATA (R299, R301, R302, R317): the frame came on lane FIRST + `lane`; `good` is the FCS check, `back` how
long ago the frame began, `fec` the FEC codewords corrected and uncorrectable on the way. -/
def execCrewData (p lane src dst hops seq msg offset : Nat) (last : Bool) (data : List Byte) (good : Bool) (back : Nat) (fec : FecCount)
    (s : State) : Host.Outcome State Fault Refusal :=
  s.actMem (Ok.crewData p lane src dst hops seq msg offset last data good back fec) fun c =>
    let h := (c.hub.add64 (R.SER_PORT_FECCORR_LO p).off (R.SER_PORT_FECCORR_HI p).off fec.fixed).bump (R.SER_PORT_RXCNT1_FEC_UNCORR p) fec.lost
    if !h.crewUp p ∨ ¬ lane < h.get (R.SER_PORT_CFG_WIDTH p) then c
    else if !good then ⟨(h.bump (R.SER_PORT_RXCNT_RX_BAD p) 1).crewGap p, c.mem⟩
    else if !h.joined p then ⟨h.fwdDrop p, c.mem⟩
    else
      let x := h.port p
      if seq = x.rxExp then
        let f : RxHeld := { data := data, time := h.now - back, src := src, dst := dst, hops := hops, msg := msg,
                            offset := offset, last := last, quads := [(h.get (R.SER_PORT_CFG_FIRST p) + lane) / 4] }
        let h := h.onPort p fun x => { x with rxExp := (x.rxExp + 1) % 2 ^ 16, gap := false, sinceAck := x.sinceAck + 1,
                                              changed := true, rx := x.rx ++ [f] }
        let c := Chip.portDrain p ⟨h, c.mem⟩
        ⟨if 16 ≤ (c.hub.port p).sinceAck then c.hub.crewAck p else c.hub, c.mem⟩
      else if newer (seq * 65536) (x.rxExp * 65536) then ⟨h.crewGap p, c.mem⟩
      else ⟨h.onPort p fun x => { x with changed := true }, c.mem⟩

/-- The frames after the one numbered `seq`, if it is among them: those up to it are covered. -/
def uncovered (seq : Nat) (l : List CrewTx) : List CrewTx :=
  if l.any fun t => t.seq == seq then (l.dropWhile fun t => t.seq != seq).drop 1 else l

/-- An ACK or NAK brings credit and RX_LANES (R299, R300). -/
def Hub.crewGrant (p credit lanes : Nat) (h : Hub) : Hub :=
  (h.onPort p fun x => { x with granted := credit, peerLanes := lanes }).showWidth p

/-- A LANE_SEND whose frames are all sent and acknowledged has ended (R301). -/
def Hub.sendEnds (p : Nat) (h : Hub) : Hub :=
  h.each (h.port p).sends fun e g =>
    match g.desc e.1 e.2 with
    | none => g
    | some d =>
      if d.moved = leAt d.bytes 40 4 ∧ ¬ (g.port p).store.any fun t => t.owner == some e then g.endLane e.1 e.2 0 d.moved else g

/-- CREW_ACK (R299, R300, R301): frames up to `seq` are covered, credit and RX_LANES are taken, and waiting frames go on. -/
def execCrewAck (p seq credit lanes : Nat) (s : State) : Host.Outcome State Fault Refusal :=
  s.actMem (Ok.crewAck p seq credit lanes) fun c =>
    if c.hub.crewUp p ∧ c.hub.joined p then
      let left := uncovered seq (c.hub.port p).store
      let h := c.hub.onPort p fun x =>
        { x with store := left, resends := if left.length = x.store.length then x.resends else 0 }
      Chip.crewDrainAll ⟨(h.crewGrant p credit lanes).sendEnds p, c.mem⟩
    else c

/-- A NAK is obeyed (R299): every stored frame from `seq` on is sent again; the sixteenth resend running from one LINK_SEQ
puts the port DOWN with reason 8. [log: DEDUCED 44] -/
def Hub.crewResend (p seq : Nat) (h : Hub) : Hub :=
  let x := h.port p
  let n := if x.resends ≠ 0 ∧ x.resendOf = seq then x.resends + 1 else 1
  let h := (h.onPort p fun x => { x with resendOf := seq, resends := n }).bump (R.SER_PORT_CREWCNT_RESENDS p) 1
  let h := h.each (x.store.dropWhile fun t => t.seq != seq) fun t g => g.putData p t.seq t.frame
  if 16 ≤ n then h.portLeave p 3 8 else h

/-- CREW_NAK (R299). -/
def execCrewNak (p seq credit lanes : Nat) (s : State) : Host.Outcome State Fault Refusal :=
  s.act (Ok.crewNak p seq credit lanes) fun h =>
    if h.crewUp p ∧ h.joined p then
      let h := h.crewGrant p credit lanes
      if (h.port p).store.any fun t => t.seq == seq then h.crewResend p seq else h
    else h

/-- CREW_ACK_TIMER (R299): an ACK while anything has changed. -/
def execCrewAckTimer (p : Nat) (s : State) : Host.Outcome State Fault Refusal :=
  s.act (Ok.crewAckTimer p) fun h => if h.crewUp p ∧ h.joined p ∧ (h.port p).changed then h.crewAck p else h

/-- CREW_FRAME_UNKNOWN_TYPE (R298): dropped and counted. [log: DEDUCED 44] -/
def execCrewFrameUnknownType (p type : Nat) (s : State) : Host.Outcome State Fault Refusal :=
  s.act (Ok.crewFrameUnknownType p type) fun h => if h.crewUp p then h.bump (R.SER_PORT_RXCNT_RX_BAD p) 1 else h

/-! ## Frames and words arriving -/

/-- FRAME_RECEIVE (R294, R304): an Ethernet frame, FCS included, or a raw lane's words arrive; `back` ns ago it began, with
`fixed` corrected and `lost` uncorrectable FEC codewords. -/
def execFrameReceive (p : Nat) (data : List Byte) (back fixed lost : Nat) (s : State) : Host.Outcome State Fault Refusal :=
  s.actMem (Ok.frameReceive p data back fixed lost) fun c =>
    if c.hub.portState p = 2 ∧ c.hub.portMode p ≠ 1 then
      let h := (c.hub.add64 (R.SER_PORT_FECCORR_LO p).off (R.SER_PORT_FECCORR_HI p).off fixed).bump (R.SER_PORT_RXCNT1_FEC_UNCORR p) lost
      Chip.portDrain p ⟨if h.portMode p = 0 then h.ethArrive p data back else h.rawArrive p data, c.mem⟩
    else c

/-- PAUSE (R294): transmission stops at the next frame boundary, or goes on for quanta 0. -/
def execPause (p quanta : Nat) (s : State) : Host.Outcome State Fault Refusal :=
  s.act (Ok.pause p quanta) fun h =>
    if h.portState p = 2 ∧ h.portMode p = 0 ∧ h.on (R.SER_PORT_CFG_PAUSE p) then h.onPort p fun x => { x with paused := quanta != 0 }
    else h

/-- PAUSE_QUANTA_EXPIRY (R294): transmission goes on. -/
def execPauseQuantaExpiry (p : Nat) (s : State) : Host.Outcome State Fault Refusal :=
  s.act (Ok.pauseQuantaExpiry p) (Hub.onPort p fun x => { x with paused := false })

/-- PAUSE_REPEAT (R294): PAUSE is repeated while the fill stays at or above T2. -/
def execPauseRepeat (p : Nat) (s : State) : Host.Outcome State Fault Refusal :=
  s.act (Ok.pauseRepeat p) fun h =>
    let h := h.pauseCheck p
    if (h.port p).pausing ∧ h.portState p = 2 ∧ (h.quadsOf p).any fun q => decide (h.get (R.QOS_TT0_T2 (5 + q)) ≤ h.quadFill q) then
      h.sendPause p 0xFFFF
    else h

/-! ## LANE_SEND and LANE_RECV (R292, R295, R301, R304) -/

/-- Take the next crew message number. -/
def Hub.takeMsg (n id : Nat) (h : Hub) : Hub :=
  let m := h.ser.msg
  { h with ser := { h.ser with msg := (m + 1) % 2 ^ 32 } }.onDesc n id fun d => { d with unit := m }

/-- A LANE_SEND has just started (R292). -/
def Hub.sendBegin (n : Nat) (d : Desc) (h : Hub) : Hub :=
  let p := leAt d.bytes 28 1
  let h := h.onPort p fun x => { x with sends := x.sends ++ [(n, d.id)] }
  if h.portMode p = 1 then h.takeMsg n d.id else h

/-- The LANE_SEND of port `p` that sends now: the oldest with bytes left. -/
def Hub.sending (h : Hub) (p : Nat) : Option (Nat × Nat) :=
  (h.port p).sends.find? fun e => match h.desc e.1 e.2 with
    | none => false
    | some d => decide (d.moved < leAt d.bytes 40 4)

/-- Send the frames of a crew message: at most `k`, while credit and the window allow (R299, R301). -/
def Chip.crewSend (n id p : Nat) : Nat → List Byte → Chip → Chip
  | 0, _, c => c
  | k + 1, host, c =>
    match c.hub.desc n id with
    | none => c
    | some d =>
      let left := leAt d.bytes 40 4 - d.moved
      let m := d.laneLeft (min 8192 left)
      if d.ended ∨ left = 0 ∨ ¬ c.hub.joined p ∨ ¬ c.hub.crewRoom p m then c
      else match c.laneRead n (leAt d.bytes 32 8 + d.moved) m host with
        | (.wait, c) => c
        | (.bad, c) => ⟨c.hub.endLane n id 8 d.moved, c.mem⟩
        | (.bytes bs, c) =>
          let f : RxHeld := { data := bs, time := 0, src := c.hub.get R.CREW_CTRL_ID, dst := leAt d.bytes 30 1,
                              hops := c.hub.get R.SER_CREW_CTRL_HOPS, msg := d.unit, offset := d.moved, last := decide (m = left),
                              quads := [] }
          let h := c.hub.crewPush p f (some (n, id))
          let h := if dLaneFlag d.bytes ∧ d.moved = 0 then h.recordTx p else h
          Chip.crewSend n id p k (if 2 ≤ addrSpace (leAt d.bytes 32 8) then host.drop m else host) ⟨(h.laneMoved n id m).laneStop n id, c.mem⟩

/-- A started LANE_SEND goes on, if it is its port's turn. -/
def Chip.sendGo (n : Nat) (d : Desc) (limit : Nat) (host : List Byte) (c : Chip) : Chip :=
  let p := leAt d.bytes 28 1
  if c.hub.sending p ≠ some (n, d.id) then c
  else if c.hub.portMode p = 1 then c.crewSend n d.id p limit host
  else if (c.hub.port p).paused then c
  else match c.laneRead n (leAt d.bytes 32 8) (leAt d.bytes 40 4) host with
    | (.wait, c) => c
    | (.bad, c) => ⟨c.hub.endLane n d.id 8 0, c.mem⟩
    | (.bytes bs, c) =>
      if c.hub.portMode p = 0 then ⟨c.hub.ethSend n d p bs, c.mem⟩
      else
        let h := c.hub.rawSend p ((c.hub.portLanes p).headD 0) bs
        let h := if dLaneFlag d.bytes then h.recordTx p else h
        ⟨(h.laneMoved n d.id bs.length).endLane n d.id 0 bs.length, c.mem⟩

/-- LANE_SEND (R292, R295, R301, R304): admitted, then its frame, words, or up to `limit` frames of its message are sent;
`host` is what the host memory answers. -/
def execLaneSend (n id limit : Nat) (host : List Byte) (s : State) : Host.Outcome State Fault Refusal :=
  s.actMem (Ok.laneSend n id limit host) fun c =>
    let was := (c.hub.running 0x20 n id).isSome
    let h := c.hub.consider 0x20 n id
    match h.running 0x20 n id with
    | none => ⟨h, c.mem⟩
    | some d =>
      let h := if was then h else h.sendBegin n d
      match h.running 0x20 n id with
      | none => ⟨h, c.mem⟩
      | some d => Chip.sendGo n d limit host ⟨h, c.mem⟩

/-- LANE_RECV (R292, R295, R301, R304): admitted, then its port delivers what it holds. -/
def execLaneRecv (n id : Nat) (s : State) : Host.Outcome State Fault Refusal :=
  s.actMem (Ok.laneRecv n id) fun c =>
    let was := (c.hub.running 0x21 n id).isSome
    let h := c.hub.consider 0x21 n id
    match h.running 0x21 n id with
    | none => ⟨h, c.mem⟩
    | some d =>
      let p := leAt d.bytes 28 1
      if was then Chip.portDrain p ⟨h, c.mem⟩
      else Chip.portDrain p ⟨h.onPort p fun x =>
        { x with recvs := x.recvs ++ [{ ring := n, desc := id, bound := none, time := 0, trunc := false }] }, c.mem⟩

end Sys2Proof.Machine
end

