-- ==== Sys2Proof/Machine/SparData.lean ====
section
/-!
DEFINITION. Spar's records and structures (R328 to R333): the structure record and its checks, CSR arrays, the symbolic
factor's size, scratch and store needs, patches, run records, FP64 codes.
-/
namespace Sys2Proof.Machine

/-! ## Methods (R328) -/

/-- A dense method: DENSE_CHOL, DENSE_LDLT, DENSE_LU. -/
def isDense (m : Nat) : Bool := decide (1 ≤ m) && decide (m ≤ 3)
/-- An iterative method: PCG, MINRES, GMRES. -/
def isIter (m : Nat) : Bool := decide (0x10 ≤ m) && decide (m ≤ 0x12)
/-- A direct method. -/
def isDirect (m : Nat) : Bool := isDense m || m == 4

/-- Largest order of a method. -/
def orderMax (m : Nat) : Nat := if isDense m then 32768 else if m = 4 then 2 ^ 24 else if isIter m then 2 ^ 26 else 2 ^ 20

/-- A format that a method allows: 0 dense, 1 CSR upper, 2 CSR full. -/
def formatOk (m f : Nat) : Bool :=
  if isDense m then f == 0 else if m = 4 ∨ isAdmm m then f == 1 else if m = 0x12 then f == 2 else f == 1 || f == 2

/-! ## FP64 codes -/

/-- A finite FP64. -/
def fpFinite (b : Nat) : Bool := b / 2 ^ 52 % 2048 != 2047
/-- An FP64 at 0, of either sign. -/
def fpZero (b : Nat) : Bool := b % 2 ^ 63 == 0
/-- A NaN. -/
def fpNan (b : Nat) : Bool := !fpFinite b && b % 2 ^ 52 != 0
/-- An FP64 above 0. -/
def fpPos (b : Nat) : Bool := b / 2 ^ 63 == 0 && !fpZero b && !fpNan b
/-- An FP64 that is not negative, and finite. -/
def fpNonneg (b : Nat) : Bool := fpFinite b && (b / 2 ^ 63 == 0 || fpZero b)
/-- An FP64 in (0, 2). -/
def fpBelowTwo (b : Nat) : Bool := fpPos b && decide (b < 0x4000000000000000)

/-- All ones: the NaN of R334. -/
def fpNone : Nat := 2 ^ 64 - 1

/-- FP64 rounded to FP32, to nearest even (R331). [log: DESIGN CHOICE 46] -/
def fpNarrow (b : Nat) : Nat :=
  let s := b / 2 ^ 63 % 2 * 2 ^ 31
  let e := b / 2 ^ 52 % 2048
  let m := b % 2 ^ 52
  if e = 2047 then s + (if m = 0 then 0x7F800000 else 0x7FC00000 + m / 2 ^ 29 % 2 ^ 22)
  else if e = 0 then s
  else
    let sig := 2 ^ 52 + m
    let shift := if 897 ≤ e then 29 else 29 + (897 - e)
    let q := sig / 2 ^ shift
    let r := sig % 2 ^ shift
    let up := decide (2 ^ shift < 2 * r) || (2 * r == 2 ^ shift && q % 2 == 1)
    s + min 0x7F800000 ((if 897 ≤ e then (e - 897) * 2 ^ 23 else 0) + q + b2n up)

/-- Elements of `w` bytes. -/
def elems (w : Nat) : Nat → List Byte → List Nat
  | 0, _ => []
  | n + 1, bs => leAt bs 0 w :: elems w n (bs.drop w)

/-! ## The structure record (R329) -/

/-- Element width of a structure record. -/
def sWidth (b : List Byte) : Nat := if leAt b 8 1 = 0 then 8 else 4
/-- N. -/
def sN (b : List Byte) : Nat := leAt b 0 4
/-- M. -/
def sM (b : List Byte) : Nat := leAt b 4 4
/-- NNZ. -/
def sNnz (b : List Byte) : Nat := leAt b 12 4
/-- A_NNZ. -/
def sANnz (b : List Byte) : Nat := leAt b 88 4

/-- Fields in range, reserved ones 0, the format allowed, addresses aligned (R328, R329, R330 step 1). [log: DEDUCED 47] -/
def structOk (m : Nat) (b : List Byte) : Bool :=
  let n := sN b
  decide (1 ≤ n) && decide (n ≤ orderMax m)
    && (if isAdmm m then decide (sM b ≤ 2 ^ 20) else sM b == 0)
    && decide (leAt b 8 1 ≤ 1) && formatOk m (leAt b 9 1)
    && (if m = 0x12 then decide (2 ≤ leAt b 10 1) && decide (leAt b 10 1 ≤ 64) else leAt b 10 1 == 0)
    && (if isIter m then decide (leAt b 11 1 ≤ 2) else leAt b 11 1 == 0)
    && (!isDense m || (sNnz b == 0 && leAt b 16 8 == 0 && leAt b 24 8 == 0))
    && (m == 4 || isAdmm m || leAt b 40 8 == 0)
    && (isAdmm m || (leAt b 64 8 == 0 && leAt b 72 8 == 0 && leAt b 80 8 == 0 && sANnz b == 0 && leAt b 96 8 == 0))
    && leAt b 92 4 == 0 && leAt b 104 24 == 0
    && [16, 24, 32, 40, 48, 64, 72, 80, 96].all fun i => leAt b i 8 % 64 == 0

/-- The matrix arrays a record names: row pointers, column indices, values, permutation, those of A, and q, l, u. -/
def structArrays (m : Nat) (b : List Byte) : List (Nat × Nat) :=
  let n := sN b
  let w := sWidth b
  let csr := !isDense m
  [ (leAt b 16 8, if csr then 8 * (n + 1) else 0),
    (leAt b 24 8, if csr then 4 * sNnz b else 0),
    (leAt b 32 8, if csr then sNnz b * w else n * n * w),
    (leAt b 40 8, if leAt b 40 8 = 0 then 0 else 4 * n),
    (leAt b 64 8, if isAdmm m then 8 * (sM b + 1) else 0),
    (leAt b 72 8, 4 * sANnz b),
    (leAt b 80 8, sANnz b * w),
    (leAt b 96 8, if isAdmm m then (n + 2 * sM b) * w else 0) ]

/-- Every range of a record, its store among them. -/
def structRanges (m : Nat) (b : List Byte) : List (Nat × Nat) := (leAt b 48 8, leAt b 56 8) :: structArrays m b

/-- `n` bytes at an operand lie in DRAM or buffer, outside scratch (R329, R130, R326); no bytes lie anywhere. -/
def Hub.sparRange (h : Hub) (e : Nat × Nat) : Bool := e.2 == 0 || (decide (addrSpace e.1 ≤ 1) && h.rangeOk e.1 e.2)

/-- Ranges inside the window of the function, if it is a VF (R106). -/
def Hub.sparAllowed (h : Hub) (fn : Nat) (l : List (Nat × Nat)) : Bool :=
  fn == 0 || l.all fun e => e.2 == 0 || h.vfRange (fn - 1) e.1 e.2

/-- Status a structure record's checks end in (R330 step 1); 0 when it passes. -/
def Hub.structCheck (h : Hub) (fn m : Nat) (b : List Byte) : Nat :=
  if !structOk m b then 2
  else if !(structRanges m b).all h.sparRange then 3
  else if !h.sparAllowed fn (structRanges m b) then 5
  else 0

/-! ## CSR arrays and the symbolic factor -/

/-- Slices of the column indices, one per row. -/
def csrRows (cols : List Nat) : List Nat → List (List Nat)
  | a :: b :: l => ((cols.drop a).take (b - a)) :: csrRows cols (b :: l)
  | _ => []

/-- Strictly rising. -/
def rising : List Nat → Bool
  | a :: b :: l => decide (a < b) && rising (b :: l)
  | _ => true

/-- Never falling. -/
def notFalling : List Nat → Bool
  | a :: b :: l => decide (a ≤ b) && notFalling (b :: l)
  | _ => true

/-- A well-formed CSR pattern of `rows` rows and `cols` columns with `nnz` entries; upper ones hold no entry left of the
diagonal (R328). -/
def csrOk (rows cols nnz : Nat) (upper : Bool) (ptr idx : List Nat) : Bool :=
  ptr.length == rows + 1 && ptr.head? == some 0 && ptr.getLast? == some nnz && notFalling ptr && idx.length == nnz
    && (csrRows idx ptr).zipIdx.all fun r => rising r.1 && r.1.all fun c => decide (c < cols) && (!upper || decide (r.2 ≤ c))

/-- A permutation of 0 to n − 1. [log: DEDUCED 47] -/
def permOk (n : Nat) (l : List Nat) : Bool := l.length == n && (List.range n).all l.contains

/-- Positions that two lists hold between them, without repeats. -/
def joinSets (a b : List Nat) : List Nat := a ++ b.filter fun x => !a.contains x

/-- Symbolic elimination of the columns in `l`, the first being column `j`, one column for each of the first argument: entries
of the factor, and the largest front. -/
def symbolic : Nat → Nat → List (List Nat) → Nat × Nat
  | k + 1, j, s :: l =>
    let p := s.foldl min (j + l.length + 1)
    let l1 := l.zipIdx.map fun e => if e.2 + j + 1 = p then joinSets e.1 (s.filter (· != p)) else e.1
    let r := symbolic k (j + 1) l1
    (r.1 + s.length + 1, max r.2 (s.length + 1))
  | _, _, _ => (0, 0)

/-- Column structures below the diagonal of a symmetric matrix given by its edges. -/
def lowerCols (order : Nat) (edges : List (Nat × Nat)) : List (List Nat) :=
  (List.range order).map fun j => edges.foldl (fun a e =>
    if e.1 = j ∧ j < e.2 then joinSets a [e.2] else if e.2 = j ∧ j < e.1 then joinSets a [e.1] else a) []

/-- Entries of a CSR pattern as (row, column). -/
def csrEdges (ptr idx : List Nat) : List (Nat × Nat) := (csrRows idx ptr).zipIdx.flatMap fun r => r.1.map fun c => (r.2, c)

/-- Place of an index under a permutation; indices it does not hold keep their own. -/
def permPlace (perm : List Nat) (i : Nat) : Nat := (perm.findIdx? (· == i)).getD i

/-- Entries and largest front of the symbolic factor (R330 step 3). -/
def symbolicOf (m n mm : Nat) (ptr idx aPtr aIdx perm : List Nat) : Nat × Nat :=
  if m = 4 ∨ isAdmm m then
    let e := csrEdges ptr idx ++ (csrEdges aPtr aIdx).map fun x => (x.2, n + x.1)
    symbolic (n + mm) 0 (lowerCols (n + mm) (e.map fun x => (permPlace perm x.1, permPlace perm x.2)))
  else (0, 0)

/-- Upper bounds of the scratch and store needs, bytes (R328): `nnzL` and `front` of the symbolic factor.
[log: DESIGN CHOICE 46; DEDUCED 47] -/
def sparBounds (m w n mm nnz restart nnzL front : Nat) : Nat × Nat :=
  if isDense m then (256 * n * w + 2 ^ 20, 2 * n * n * w + 4 * n + 65536)
  else if m = 4 then (front * front * w + 2 ^ 20, (nnz + nnzL) * w + 24 * n + 65536)
  else if m = 0x12 then (8 * (restart + 1) * (restart + 1) + 2 ^ 20, nnz * (w + 4) + 8 * n + (restart + 6) * n * w + 65536)
  else if isIter m then (2 ^ 20, nnz * (w + 4) + 8 * n + 10 * n * w + 65536)
  else (front * front * w + 2 ^ 20, (nnz + n + mm + nnzL) * w + 24 * (n + mm) + 65536 + 8 * (n + mm) * w)

/-- MiB, rounded up. -/
def mibUp (n : Nat) : Nat := (n + 2 ^ 20 - 1) / 2 ^ 20

/-! ## Patches (R331) -/

/-- One entry of a patch list: target, row, column, value. -/
structure PatchEntry where
  target : Nat
  row : Nat
  col : Nat
  value : Nat
deriving DecidableEq, Repr

/-- The entries of a patch list. -/
def patchEntries : Nat → List Byte → List PatchEntry
  | 0, _ => []
  | k + 1, b =>
    { target := leAt b 0 4 / 2 ^ 28, row := leAt b 0 4 % 2 ^ 28, col := leAt b 4 4, value := leAt b 8 8 } :: patchEntries k (b.drop 16)

/-- Place of an entry in a CSR pattern. -/
def csrPlace (ptr idx : List Nat) (r c : Nat) : Option Nat :=
  if r + 1 < ptr.length then
    let a := ptr.getD r 0
    (((idx.drop a).take (ptr.getD (r + 1) 0 - a)).findIdx? (· == c)).map (a + ·)
  else none

/-- A format that stores one triangle: an entry below the diagonal addresses its mirror (R331). -/
def SparCtx.symmetric (x : SparCtx) : Bool := x.method == 1 || x.method == 2 || x.format == 1

/-- Place of an entry within its target's values; none outside the resident pattern. -/
def SparCtx.place (x : SparCtx) (e : PatchEntry) : Option Nat :=
  if e.target = 0 then
    let r := if x.symmetric ∧ e.col < e.row then e.col else e.row
    let c := if x.symmetric ∧ e.col < e.row then e.row else e.col
    if r < x.n ∧ c < x.n then (if isDense x.method then some (c * x.n + r) else csrPlace x.rowptr x.colidx r c) else none
  else if ¬ isAdmm x.method then none
  else if e.target = 1 then (if e.row < x.m ∧ e.col < x.n then csrPlace x.aRow x.aCol e.row e.col else none)
  else if e.col ≠ 0 then none
  else if e.target = 2 then (if e.row < x.n then some e.row else none)
  else if e.target = 3 then (if e.row < x.m then some (x.n + e.row) else none)
  else if e.target = 4 then (if e.row < x.m then some (x.n + x.m + e.row) else none)
  else none

/-- Apply one entry; an FP32 context rounds its value. -/
def SparCtx.apply (x : SparCtx) (e : PatchEntry) : SparCtx :=
  let v := if x.prec = 0 then e.value else fpNarrow e.value
  match x.place e with
  | none => x
  | some k =>
    if e.target = 0 then { x with values := x.values.set k v, factor := none, partial_ := none }
    else if e.target = 1 then { x with aValues := x.aValues.set k v, factor := none, partial_ := none }
    else { x with qlu := x.qlu.set k v }

/-! ## Dense factors (R335, R336) -/

/-- Magnitude of an element of `w` bytes, in units of its format's smallest. -/
def fpMag (w b : Nat) : Nat :=
  let mb := if w = 8 then 52 else 23
  let e := b / 2 ^ mb % 2 ^ (8 * w - 1 - mb)
  if e = 0 then b % 2 ^ mb else (2 ^ mb + b % 2 ^ mb) * 2 ^ (e - 1)

/-- An element below 0. -/
def fpNeg (w b : Nat) : Bool := b / 2 ^ (8 * w - 1) % 2 == 1 && fpMag w b != 0

/-- Spar's computed result of an operation on elements of `w` bytes. [log: DESIGN CHOICE 46] -/
def fpOp (op w : Nat) (l : List Nat) : Nat := Config.fpOp op w l % 2 ^ (8 * w)

/-- DENSE_LU's pivot row among the candidates of a step, whose entries in the pivot column are `col`, the diagonal row's first
(R335): the diagonal row if it reaches u = `u` ÷ 256 of the largest, else the lowest row of largest magnitude. -/
def pivotRow (w u : Nat) (col : List Nat) : Nat :=
  let top := col.foldl (fun a b => max a (fpMag w b)) 0
  match col with
  | [] => 0
  | d :: _ => if u * top ≤ 256 * fpMag w d then 0 else (col.findIdx? fun b => fpMag w b == top).getD 0

/-- A row of a dense matrix under elimination: its original index, its scale s (R336), and its entries from the pivot column
on. -/
structure ElimRow where
  orig : Nat
  scale : Nat
  entries : List Nat

/-- The row scale s of R336: the largest magnitude of the row as the factorisation read it, 1 for a row of zeros. -/
def rowScale (w : Nat) (l : List Nat) : Nat :=
  let best := l.foldl (fun a b => if fpMag w a < fpMag w b then b else a) 0
  if fpMag w best = 0 then (if w = 8 then 0x3FF0000000000000 else 0x3F800000) else best % 2 ^ (8 * w - 1)

/-- What a dense factorisation leaves: its row order, the pivots flagged, the original index of the first, and whether a negative
pivot stopped it. -/
structure DenseFactor where
  order : List Nat
  flagged : Nat
  first : Option Nat
  broke : Bool

/-- The pivot a factorisation uses in place of `p` in row `r`, and whether it flags it (R336); `m` is the method, τ and δ its
exponents. -/
def usedPivot (m w tau delta p : Nat) (r : ElimRow) : Nat × Bool :=
  if fpMag w p * 2 ^ tau < fpMag w r.scale ∨ fpMag w p = 0 then
    let d := fpOp 2 w [r.scale, delta]
    (if m = 1 ∨ !fpNeg w p then d else d + 2 ^ (8 * w - 1), true)
  else (p, false)

/-- One row less the multiple of the pivot row that clears its pivot column. [log: DESIGN CHOICE 46] -/
def eliminate (w p : Nat) (piv : List Nat) (r : ElimRow) : ElimRow :=
  match r.entries with
  | [] => r
  | a :: l => { r with entries := (l.zip piv).map fun e => fpOp 1 w [e.1, fpOp 0 w [a, p], e.2] }

/-- The elimination of `rows`, at most `n` steps, step `k` first (R335, R336). Only DENSE_LU exchanges rows. -/
def denseSteps (m w u tau delta : Nat) : Nat → Nat → List ElimRow → DenseFactor → DenseFactor
  | 0, _, _, f => f
  | n + 1, k, rows, f =>
    match rows with
    | [] => f
    | top :: _ =>
      let i := if m = 3 then pivotRow w u (rows.map fun r => r.entries.headD 0) else 0
      let r := rows.getD i top
      let p := r.entries.headD 0
      let q := usedPivot m w tau delta p r
      if m = 1 ∧ !q.2 ∧ fpNeg w p then { f with broke := true }
      else
        let f := { f with
          order := f.order ++ [r.orig], flagged := f.flagged + b2n q.2,
          first := if f.first = none ∧ q.2 then some r.orig else f.first }
        let rest := (rows.set i top).drop 1
        denseSteps m w u tau delta n (k + 1) (rest.map (eliminate w q.1 (r.entries.drop 1))) f

/-- The rows of a context's dense matrix, stored column by column; a symmetric one gives its upper triangle (R328). -/
def SparCtx.denseRows (x : SparCtx) : List ElimRow :=
  (List.range x.n).map fun i =>
    let l := (List.range x.n).map fun j =>
      if x.symmetric ∧ j < i then x.values.getD (i * x.n + j) 0 else x.values.getD (j * x.n + i) 0
    { orig := i, scale := rowScale x.width l, entries := l }

/-- The factor of a context's dense matrix under threshold `u`, τ and δ. -/
def SparCtx.denseFactor (x : SparCtx) (u tau delta : Nat) : DenseFactor :=
  denseSteps x.method x.width u tau delta x.n 0 x.denseRows { order := [], flagged := 0, first := none, broke := false }

/-! ## Run records (R333) -/

/-- The fields of a run record; `out` is the descriptor's output address. -/
def runRec (b : List Byte) (out : Nat) : RunRec :=
  { rhs := leAt b 0 8, x0 := leAt b 8 8, result := leAt b 16 8, tol := leAt b 24 8, maxit := leAt b 32 4, tiles := leAt b 36 1,
    flags := leAt b 37 1, tau := leAt b 38 1, delta := leAt b 39 1, rho := leAt b 40 8, sigma := leAt b 48 8,
    alpha := leAt b 56 8, out := out }

/-- REFINE. -/
def RunRec.refine (r : RunRec) : Nat := r.flags / 16

/-- Status of the checks of a run record that no structure bears on: 0, BAD_DESC, BAD_ADDR or ACCESS_DENIED.
[log: DEDUCED 47] -/
def Hub.runCheck (h : Hub) (fn : Nat) (r : RunRec) : Nat :=
  if !(fpNonneg r.tol && decide (r.tiles ≤ 16) && r.flags / 8 % 2 == 0 && decide (r.refine ≤ 8)) then 2
  else if !h.sparRange (r.result, 64) then 3
  else if !h.sparAllowed fn [(r.result, 64)] then 5
  else 0

/-- Two ranges of operands share a byte. -/
def rangesMeet (a b : Nat × Nat) : Bool :=
  a.2 != 0 && b.2 != 0 && decide (a.1 < b.1 + b.2) && decide (b.1 < a.1 + a.2)

/-- Status of the checks of a run against its context's structure (R333): 0, BAD_DESC, BAD_ADDR or ACCESS_DENIED. -/
def Hub.runFits (h : Hub) (fn : Nat) (x : SparCtx) (r : RunRec) : Nat :=
  let l := x.runRanges r
  let out := l.getD 2 (0, 0)
  if (isIter x.method || isAdmm x.method) && r.maxit == 0 then 2
  else if isAdmm x.method && !(r.rhs == 0 && fpPos r.rho && fpPos r.sigma && fpBelowTwo r.alpha) then 2
  else if !l.all h.sparRange then 3
  else if (rangesMeet out (x.store, x.storeUse)) || rangesMeet out (l.getD 0 (0, 0)) || rangesMeet out (l.getD 1 (0, 0)) then 3
  else if !h.sparAllowed fn l then 5
  else 0

end Sys2Proof.Machine
end

