-- ==== Sys2Proof/Machine/Spar.lean ====
section
/-!
DEFINITION. Spar (R324 to R343): tiles and scratch, contexts and their queues, setting up, patching, running, stopping and
superseding; and the meanings of SOLVE_SETUP, SOLVE_PATCH and SOLVE_RUN. The spec fixes no order of floating-point
operations, so iterates, residuals, pivots flagged and times are free values within what the rules bound.
-/
namespace Sys2Proof.Machine

/-! ## Contexts, tiles, scratch (R325 to R327) -/

/-- Capacity in tiles: logical tiles in quads whose domain is ON. -/
def Hub.tileCap (h : Hub) : Nat :=
  ((List.range 18).filter fun p => h.unitState 1 0 p == 0 && h.domOn (69 + unitGroup 1 p)).length

/-- Tiles that nothing holds. -/
def Hub.tilesFree (h : Hub) : Nat := h.tileCap - h.spar.ctxs.foldl (fun a e => a + e.2.tiles) 0

/-- Tiles that nothing holds and a context set up under epoch `e` may use (R96): a tile that raised the count at epoch `b` takes
only contexts set up under `b` or later, so contexts set up before `b` share the tiles born before it. [log: DEDUCED 47] -/
def Hub.tilesFor (h : Hub) (e : Nat) : Nat :=
  (h.map.born.map (·.2)).foldl (fun n b =>
    if e < b then
      min n (((List.range 18).filter fun p =>
          h.unitState 1 0 p == 0 && h.domOn (69 + unitGroup 1 p) && decide (nget h.map.born (h.unitLogical 1 0 p) < b)).length
        - h.spar.ctxs.foldl (fun a x => a + if x.2.epoch < b then x.2.tiles else 0) 0)
    else n) h.tilesFree

/-- The epoch that counts for an operation's tiles (R96): its context's, or the present one for a SETUP. [log: DEDUCED 47] -/
def Hub.opEpoch (h : Hub) (k : Nat) (o : SparOp) : Nat := if o.op = 0x18 then h.get R.MAP_EPOCH_CUR else (h.ctx k).epoch

/-- A context's operation runs. -/
def SparCtx.active (x : SparCtx) : Bool := match x.queue with
  | [] => false
  | o :: _ => o.begun

/-- Its operation is a RUN that runs. -/
def SparCtx.running (x : SparCtx) : Bool := match x.queue with
  | [] => false
  | o :: _ => o.begun && o.op == 0x1A

/-- Scratch a running RUN holds, MiB; context 31's is its own. -/
def Hub.scratchHeld (h : Hub) : Nat := h.spar.ctxs.foldl (fun a e => a + if e.2.running && e.1 != 31 then e.2.scratch else 0) 0

/-- Runtime scratch that is free, MiB: all but the lowest, which is context 31's. -/
def Hub.scratchFree (h : Hub) : Nat := h.get R.SPAR_SCRATCH_SIZE - 1 - h.scratchHeld

/-- Operations that wait for tiles or scratch, by context. -/
def Hub.sparWaiting (h : Hub) : List (Nat × SparOp) :=
  h.spar.ctxs.filterMap fun e => match e.2.queue with
    | [] => none
    | o :: _ => if o.begun then none else some (e.1, o)

/-- Show SPAR_STAT. -/
def Hub.showSpar (h : Hub) : Hub :=
  ((h.put R.SPAR_STAT_TILES_FREE h.tilesFree).put R.SPAR_STAT_SCRATCH_FREE h.scratchFree).put R.SPAR_STAT_WAITING h.sparWaiting.length

/-- STATE of a context: 0 EMPTY, 1 SETTING_UP, 2 READY, 3 FACTORED, 4 RUNNING. -/
def SparCtx.state (x : SparCtx) : Nat :=
  match x.queue with
  | [] => if x.method = 0 then 0 else if x.factor.isSome then 3 else 2
  | o :: _ =>
    if o.begun ∧ o.op = 0x18 then 1 else if o.begun ∧ o.op = 0x1A then 4
    else if x.method = 0 then 0 else if x.factor.isSome then 3 else 2

/-- Store context `k`; its registers show it. -/
def Hub.setCtx (k : Nat) (x : SparCtx) (h : Hub) : Hub :=
  let h := { h with spar := { h.spar with ctxs := Store.set (fun _ => SparCtx.empty) h.spar.ctxs k x } }
  let h := (((h.put (R.SPAR_CTX_STATE k) x.state).put (R.SPAR_CTX_METHOD k) x.method).put (R.SPAR_CTX_PREC k) x.prec).put
    (R.SPAR_CTX_PARTIAL k) (b2n x.partial_.isSome)
  let h := ((h.put (R.SPAR_CTX_QUEUED k) (min 15 (x.queue.length - 1))).put (R.SPAR_CTX1_N k) x.n).put (R.SPAR_CTX2_SCRATCH k) x.scratch
  (h.put (R.SPAR_CTX2_STORE k) (mibUp x.storeUse)).showSpar

/-- Change context `k`. -/
def Hub.onCtx (k : Nat) (f : SparCtx → SparCtx) (h : Hub) : Hub := h.setCtx k (f (h.ctx k))

/-- Change the operation in progress of context `k`. -/
def SparCtx.onHead (f : SparOp → SparOp) (x : SparCtx) : SparCtx :=
  { x with queue := match x.queue with
      | [] => []
      | o :: l => f o :: l }

/-- Tiles an operation asks for: a RUN's TILES (0: all), one for the others. [log: DEDUCED 47] -/
def SparOp.want (o : SparOp) : Nat := match o.run with
  | none => 1
  | some r => if r.tiles = 0 then 16 else r.tiles

/-- Scratch an operation asks for, MiB. [log: DEDUCED 47] -/
def Hub.opScratch (h : Hub) (k : Nat) (o : SparOp) : Nat := if o.op = 0x1A then (h.ctx k).scratch else 0

/-- The operation served first (R327): by PRIO, then by arrival. [log: DEDUCED 47] -/
def firstOf (l : List (Nat × SparOp)) : Option (Nat × SparOp) :=
  l.foldl (fun b e => match b with
    | none => some e
    | some x => if x.2.prio < e.2.prio ∨ (x.2.prio = e.2.prio ∧ e.2.seq < x.2.seq) then some e else b) none

/-- Freed tiles with no waiter go to the running operation that holds fewest of those it asked for (R327). -/
def Hub.spreadTiles : Nat → Hub → Hub
  | 0, h => h
  | k + 1, h =>
    if h.tilesFree = 0 then h
    else
      let l := h.spar.ctxs.filter fun e => match e.2.queue with
        | [] => false
        | o :: _ => o.begun && decide (e.2.tiles < o.want) && h.tilesFor e.2.epoch != 0
      match l.foldl (fun b e => match b with
        | none => some e
        | some x => if e.2.tiles < x.2.tiles then some e else b) none with
      | none => h
      | some e => Hub.spreadTiles k (h.onCtx e.1 fun x => { x with tiles := x.tiles + 1, maxTiles := max x.maxTiles (x.tiles + 1), paused := false })

/-! ## Access to memory -/

/-- Requester code of context `k` (R222). -/
def sparReq (k : Nat) : Nat := 0x4000 + k

/-- A range of the buffer can be accessed at once; DRAM always can. -/
def Hub.sparFree (h : Hub) (write : Bool) (e : Nat × Nat) : Bool :=
  e.2 == 0 || addrSpace e.1 != 1 || h.rangeFree write (addrOff e.1) e.2

/-- Ask for the recalls that ranges need. -/
def Chip.sparProbe (k : Nat) (write : Bool) (l : List (Nat × Nat)) (c : Chip) : Chip :=
  (Chip.each (l.filter fun e => !c.hub.sparFree write e) (fun e c => c.probe (sparReq k) write (addrOff e.1) e.2) c).shown

/-- Read a range whose lines are free: none where an error is uncorrectable. -/
def Chip.sparRead (k : Nat) (e : Nat × Nat) (c : Chip) : Option (List Byte) × Chip :=
  if e.2 = 0 then (some [], c)
  else
    let r := c.read (sparReq k) (addrSpace e.1) (addrOff e.1) e.2
    (if r.bad then none else some r.data, r.chip)

/-- Read ranges in order; none where one met an uncorrectable error. -/
def Chip.sparReads (k : Nat) : List (Nat × Nat) → Chip → Option (List (List Byte)) × Chip
  | [], c => (some [], c)
  | e :: l, c =>
    let r := c.sparRead k e
    let q := Chip.sparReads k l r.2
    (match r.1, q.1 with
     | some b, some bs => some (b :: bs)
     | _, _ => none, q.2)

/-- Write bytes at an operand, as a non-caching request (R178): lines that a site holds are recalled, and written as they are
given back. -/
def Chip.sparWrite (k a : Nat) (bs : List Byte) (c : Chip) : Wr :=
  if addrSpace a = 1 ∧ ¬ c.hub.rangeFree true (addrOff a) bs.length then
    { bad := false, chip := c.ncWrite false (sparReq k) 0 0 (addrOff a) bs.length (cutLines (addrOff a) bs) }
  else c.writePieces (sparReq k) (addrSpace a) (cutLines (addrOff a) bs)

/-- A free value and the hub after it. [log: DESIGN CHOICE 46] -/
def Hub.draw (h : Hub) : Nat × Hub := (h.free, h.drew)

/-! ## The end of an operation -/

/-- The operation in progress of context `k` ends: its tiles are freed and the next becomes the one in progress. -/
def Hub.popOp (k : Nat) (h : Hub) : Hub := h.onCtx k fun x => { x with queue := x.queue.drop 1, tiles := 0, maxTiles := 0, paused := false }

/-- The operation in progress ends with a status and result word. -/
def Hub.endOp (k : Nat) (o : SparOp) (status result : Nat) (h : Hub) : Hub := (h.popOp k).endWork o.ring o.desc status result

/-- What a run leaves (R334). -/
structure RunEnd where
  status : Nat
  iters : Nat := 0
  relres : Nat := fpNone
  factorNs : Nat := 0
  prim : Nat := 0
  dual : Nat := 0
deriving DecidableEq, Repr

/-- Result word of a run (R334). -/
def Hub.runWord (h : Hub) (k iters : Nat) : Nat := min iters 0xFFFF + 65536 * min (h.get (R.SPAR_CTX_FLAGGED k)) 0xFFFF

/-- The 64-byte result record (R334). -/
def Hub.resultRecord (h : Hub) (k : Nat) (o : SparOp) (e : RunEnd) : List Byte :=
  let t := match h.desc o.ring o.desc with
    | none => 0
    | some d => h.clock - d.at_
  leBytes 2 e.status ++ [0, 0] ++ leBytes 4 e.iters ++ leBytes 8 e.relres ++ leBytes 4 (h.get (R.SPAR_CTX_FLAGGED k))
    ++ leBytes 4 (h.get (R.SPAR_CTX_FIRST k)) ++ leBytes 8 t ++ leBytes 8 e.factorNs ++ leBytes 8 e.prim ++ leBytes 8 e.dual
    ++ leBytes 4 (h.ctx k).maxTiles ++ [0, 0, 0, 0]

/-- Write a run's output, if it has one, then its result record, and end it (R334); a word it could not write is an error of its
own (R171, R343). `extra` is added to the result word. -/
def Chip.runOver (k : Nat) (o : SparOp) (e : RunEnd) (out : Option (List Byte)) (extra : Nat) (c : Chip) : Chip :=
  match o.run with
  | none => ⟨c.hub.endOp k o e.status 0, c.mem⟩
  | some r =>
    let w : Wr := match out with
      | none => { bad := false, chip := c }
      | some bs => c.sparWrite k r.out bs
    let e := if w.bad then { e with status := 0x40 } else e
    let w := w.chip.sparWrite k r.result (w.chip.hub.resultRecord k o e)
    let e := if w.bad then { e with status := 0x40 } else e
    let c := w.chip
    let h := ((c.hub.put (R.SPAR_CTX_RES_LO k) e.relres).put (R.SPAR_CTX_RES_HI k) (e.relres / 2 ^ 32)).put (R.SPAR_CTX_ITERS k) e.iters
    let h := h.countEvents 15 e.iters
    ⟨h.endOp k o e.status (h.runWord k e.iters + extra), c.mem⟩

/-- An operation meets an uncorrectable error in its context's store: the context becomes EMPTY (R343). -/
def Chip.storeLost (k : Nat) (o : SparOp) (c : Chip) : Chip :=
  let h := c.hub.onCtx k fun x => { SparCtx.empty with queue := x.queue, tiles := x.tiles, maxTiles := x.maxTiles }
  ⟨h.endOp k o 0x40 (2 ^ 31), c.mem⟩

/-! ## SETUP (R330) -/

/-- SETUP begins: the record is checked; the context is emptied, or the operation ends and the context is unchanged. -/
def Chip.setupBegin (k : Nat) (o : SparOp) (d : Desc) (c : Chip) : Chip :=
  let rec_ := (leAt d.bytes 32 8, 128)
  if !c.hub.sparFree false rec_ then c.sparProbe k false [rec_]
  else match c.sparRead k rec_ with
    | (none, c) => ⟨c.hub.endOp k o 0x40 0, c.mem⟩
    | (some b, c) =>
      let st := c.hub.structCheck (c.hub.ringFn o.ring) (leAt d.bytes 29 1) b
      if st ≠ 0 then ⟨c.hub.endOp k o st 0, c.mem⟩
      else
        let h := c.hub.onCtx k fun x =>
          { SparCtx.empty with queue := x.queue, tiles := x.tiles, maxTiles := x.maxTiles, epoch := c.hub.get R.MAP_EPOCH_CUR }
        ⟨((h.onDesc o.ring o.desc fun d => { d with snap := some b }).put (R.SPAR_CTX_FLAGGED k) 0).put (R.SPAR_CTX_FIRST k) 0xFFFFFFFF, c.mem⟩

/-- The structure of a record whose arrays are `l`, before its needs are known. -/
def structCtx (m : Nat) (b : List Byte) (l : List (List Byte)) (x : SparCtx) : SparCtx :=
  let w := sWidth b
  let n := sN b
  let a (i : Nat) := l.getD i []
  { x with
    method := m, prec := leAt b 8 1, format := leAt b 9 1, n := n, m := sM b, precond := leAt b 11 1, restart := leAt b 10 1,
    rowptr := elems 8 ((a 0).length / 8) (a 0), colidx := elems 4 ((a 1).length / 4) (a 1), values := elems w ((a 2).length / w) (a 2),
    aRow := elems 8 ((a 4).length / 8) (a 4), aCol := elems 4 ((a 5).length / 4) (a 5), aValues := elems w ((a 6).length / w) (a 6),
    qlu := elems w ((a 7).length / w) (a 7), store := leAt b 48 8, factor := none, partial_ := none, best := none }

/-- The arrays of a new structure are well-formed (R330 step 3). -/
def structArraysOk (b : List Byte) (perm : List Nat) (x : SparCtx) : Bool :=
  (isDense x.method || csrOk x.n x.n (sNnz b) (x.format == 1) x.rowptr x.colidx)
    && (!isAdmm x.method || csrOk x.m x.n (sANnz b) false x.aRow x.aCol)
    && (leAt b 40 8 == 0 || permOk x.n perm)

/-- SETUP ends (R330 steps 3 to 5): values copied, the store filled, the needs known and reported. -/
def Chip.setupEnd (k : Nat) (o : SparOp) (m : Nat) (b : List Byte) (c : Chip) : Chip :=
  if !(structArrays m b).all (c.hub.sparFree false) then c.sparProbe k false (structArrays m b)
  else if !c.hub.sparFree true (leAt b 48 8, leAt b 56 8) then c.sparProbe k true [(leAt b 48 8, leAt b 56 8)]
  else match c.sparReads k (structArrays m b) with
    | (none, c) => ⟨c.hub.endOp k o 0x40 (2 ^ 31), c.mem⟩
    | (some l, c) =>
      let x := structCtx m b l (c.hub.ctx k)
      let perm := elems 4 ((l.getD 3 []).length / 4) (l.getD 3 [])
      let sym := symbolicOf m x.n x.m x.rowptr x.colidx x.aRow x.aCol perm
      if !structArraysOk b perm x || decide (2 ^ 30 < sym.1) then ⟨c.hub.endOp k o 2 0, c.mem⟩
      else
        let bounds := sparBounds m x.width x.n x.m (sNnz b + sANnz b) x.restart sym.1 sym.2
        let f1 := c.hub.draw
        let f2 := f1.2.draw
        let scr := 1 + f1.1 % bounds.1
        let sto := 1 + f2.1 % bounds.2
        let room := (f2.2.get R.SPAR_SCRATCH_SIZE - 1) * 2 ^ 20
        if leAt b 56 8 < sto then ⟨f2.2.endOp k o 0x46 (2 ^ 31 + mibUp (sto - leAt b 56 8)), c.mem⟩
        else if room < scr ∧ k ≠ 31 then ⟨f2.2.endOp k o 0x46 (mibUp (scr - room)), c.mem⟩
        else
          let h := f2.2.setCtx k { x with scratch := mibUp scr, storeUse := sto }
          let w := Chip.sparWrite k x.store (leBytes sto h.free) ⟨h.drew, c.mem⟩
          if w.bad then w.chip.storeLost k o else ⟨w.chip.hub.endOp k o 0 (mibUp scr % 65536 + 65536 * (mibUp sto % 65536)), w.chip.mem⟩

/-! ## PATCH (R331, R332) -/

/-- A PATCH reads and checks its whole list, then applies every entry in order, or none. -/
def Chip.patchGo (k : Nat) (o : SparOp) (d : Desc) (c : Chip) : Chip :=
  let n := leAt d.bytes 40 4
  let list := (leAt d.bytes 32 8, 16 * n)
  let x := c.hub.ctx k
  if x.method = 0 then ⟨c.hub.endOp k o 0x45 0, c.mem⟩
  else if !c.hub.sparFree false list then c.sparProbe k false [list]
  else match c.sparRead k list with
    | (none, c) => ⟨c.hub.endOp k o 0x40 0, c.mem⟩
    | (some b, c) =>
      let es := patchEntries n b
      match es.findIdx? fun e => (x.place e).isNone with
      | some i => ⟨c.hub.endOp k o 0x43 i, c.mem⟩
      | none =>
        if !c.hub.sparFree true (x.store, x.storeUse) then c.sparProbe k true [(x.store, x.storeUse)]
        else
          let h := c.hub.setCtx k (es.foldl SparCtx.apply x)
          let w := Chip.sparWrite k x.store (leBytes x.storeUse h.free) ⟨h.drew, c.mem⟩
          if w.bad then w.chip.storeLost k o else ⟨w.chip.hub.endOp k o 0 n, w.chip.mem⟩

/-! ## RUN (R333 to R341) -/

/-- τ, δ, ρ and σ a run uses: SPAR_PIV's where its record gives 0 (R333, R336). -/
def Hub.runParams (h : Hub) (x : SparCtx) (r : RunRec) : Nat × Nat × Nat × Nat :=
  (if r.tau ≠ 0 then r.tau else h.get (if x.prec = 0 then R.SPAR_PIV_TAU64 else R.SPAR_PIV_TAU32),
   if r.delta ≠ 0 then r.delta else h.get (if x.prec = 0 then R.SPAR_PIV_DELTA64 else R.SPAR_PIV_DELTA32),
   if isAdmm x.method then r.rho else 0, if isAdmm x.method then r.sigma else 0)

/-- The factor in force serves the run (R332). -/
def Hub.factorServes (h : Hub) (x : SparCtx) (r : RunRec) : Bool := !r.flag 1 && x.factor == some (h.runParams x r)

/-- A method whose factor has pivots that R336 tests. -/
def SparCtx.pivots (x : SparCtx) : Bool := isDirect x.method || isAdmm x.method || x.precond == 2

/-- A Cholesky factor, which can break down (R336). -/
def SparCtx.cholesky (x : SparCtx) : Bool := x.method == 1 || x.method == 4 || x.precond == 2

/-- The dense factor a run makes (R335, R336). -/
def Hub.denseOf (h : Hub) (x : SparCtx) (r : RunRec) : DenseFactor :=
  x.denseFactor (h.get R.SPAR_PIVU_U) (h.runParams x r).1 (h.runParams x r).2.1

/-- A complete factor is in force (R335, R336): a dense one has the row order and the flagged pivots its elimination gives; those
of the others, whose order of elimination the spec leaves to the hub, are free. [log: DESIGN CHOICE 46] -/
def Hub.factorDone (k : Nat) (r : RunRec) (h : Hub) : Hub :=
  let x := h.ctx k
  let f := h.draw
  let g := f.2.draw
  let d := h.denseOf x r
  let n := if isDense x.method then d.flagged else if x.pivots then f.1 % (x.outLen + 1) else 0
  let first := if n = 0 then 0xFFFFFFFF else if isDense x.method then d.first.getD 0xFFFFFFFF else g.1 % max 1 x.outLen
  let h := (g.2.put (R.SPAR_CTX_FLAGGED k) n).put (R.SPAR_CTX_FIRST k) first
  h.onCtx k fun x =>
    { x with factor := some (h.runParams x r), partial_ := none, order := if x.method = 3 then d.order else [] }

/-- The largest finite FP64. -/
def fpTop : Nat := 2047 * 2 ^ 52 - 1

/-- A finite FP64 that is not negative: a free residual. -/
def resid (v : Nat) : Nat := v % (fpTop + 1)

/-- A free residual at or below `top`. -/
def residTo (top v : Nat) : Nat := v % (min top fpTop + 1)

/-- A free residual above `low`, which is below the largest. -/
def residOver (low v : Nat) : Nat := fpTop - v % (fpTop - min low (fpTop - 1))

/-- Twice an FP64 that is not negative. -/
def fpTwice (b : Nat) : Nat := if b < 2 ^ 52 then 2 * b else b + 2 ^ 52

/-- The residuals of the iterate a run writes, RELRES, PRIM and DUAL, from free values: a direct method that stopped before its
last refinement step is at or below TOL (R337); a converged iterative run's true residual is at or below 2 TOL (R338); that of
ADMM is max(prim, dual), at or below TOL exactly when it has converged (R339). -/
def runResids (x : SparCtx) (r : RunRec) (status iters v u1 u2 : Nat) : Nat × Nat × Nat :=
  let tol := r.tol % 2 ^ 63
  if isAdmm x.method then
    let p := if status = 0 then residTo tol u1 else if status = 0x48 then residOver tol u1 else resid u1
    let q := if status = 0 then residTo tol u2 else resid u2
    (max p q, p, q)
  else if isIter x.method then (if status = 0 then residTo (fpTwice tol) v else resid v, 0, 0)
  else (if iters < r.refine then residTo tol v else resid v, 0, 0)

/-- Every element of a right-hand side is 0. -/
def allZero (w : Nat) (bs : List Byte) : Bool :=
  (elems w (bs.length / w) bs).all fun e => e % 2 ^ (8 * w - 1) == 0

/-- How a run's iteration ends (R337 to R339): status, iterations, residual code. A free choice among what its method, TOL
and MAXIT allow. [log: DESIGN CHOICE 46] -/
def Hub.runOutcome (x : SparCtx) (r : RunRec) (h : Hub) : (Nat × Nat) × Hub :=
  let f := h.draw
  let g := f.2.draw
  if isDirect x.method then ((0, if fpZero r.tol then r.refine else f.1 % (r.refine + 1)), g.2)
  else
    let n := 1 + f.1 % r.maxit
    let pick := g.1 % 3
    if pick = 0 ∧ ¬ fpZero r.tol then ((0, n), g.2)
    else if pick = 1 then ((0x47, n), g.2)
    else ((0x48, r.maxit), g.2)

/-- A run that ends of itself, its inputs read (`rhs`): the factor, the iteration, the output, the record. -/
def Chip.runSolve (k : Nat) (o : SparOp) (r : RunRec) (rhs : List Byte) (c : Chip) : Chip :=
  let x := c.hub.ctx k
  let fresh := !c.hub.factorServes x r
  let f := c.hub.draw
  let f2 := f.2.draw
  let t := match f2.2.desc o.ring o.desc with
    | none => 0
    | some d => f2.2.clock - d.at_
  let fns := if fresh then f2.1 % (t + 1) else 0
  if fresh && (if isDense x.method then (c.hub.denseOf x r).broke else x.cholesky && f.1 % 2 == 1) then
    -- a negative pivot stops a Cholesky factorisation before any iterate
    Chip.runOver k o { status := 0x47, factorNs := fns } none 0 ⟨f2.2.onCtx k fun x => { x with factor := none, partial_ := none }, c.mem⟩
  else
    let h := if fresh then f2.2.factorDone k r else f2.2
    let h := h.add64 R.SPAR_FLOPS_LO.off R.SPAR_FLOPS_HI.off (h.free % 2 ^ 64) |>.drew
    if r.flag 2 then Chip.runOver k o { status := 0, factorNs := fns } none 0 ⟨h, c.mem⟩
    else if isIter x.method && allZero x.width rhs then
      let bs := zeros (x.n * x.width)
      Chip.runOver k o { status := 0, relres := 0, factorNs := fns } (some bs) 0 ⟨h.onCtx k fun x => { x with best := some bs }, c.mem⟩
    else
      let q := h.runOutcome x r
      let a := q.2.draw
      let b := a.2.draw
      let u := b.2.draw
      let bs := leBytes (x.outLen * x.width) a.1
      -- a breakdown by a NaN before the first iterate has no output (corner of R340)
      let bare := q.1.1 == 0x47 && u.1 % 2 == 1
      let z := runResids x r q.1.1 q.1.2 b.1 u.1 u.2.free
      let e : RunEnd := {
        status := q.1.1, iters := q.1.2, relres := if bare then fpNone else z.1, factorNs := fns, prim := z.2.1, dual := z.2.2 }
      let h := u.2.drew
      if bare then Chip.runOver k o e none 0 ⟨h, c.mem⟩
      else Chip.runOver k o e (some bs) 0 ⟨h.onCtx k fun x => { x with best := some bs }, c.mem⟩

/-- A running RUN ends of itself (R334, R343): an uncorrectable error in its inputs or its store stops it. -/
def Chip.runFinish (k : Nat) (o : SparOp) (r : RunRec) (c : Chip) : Chip :=
  let x := c.hub.ctx k
  let l := x.runRanges r
  let ins := l.take 2 ++ [(x.store, x.storeUse)]
  let outs := [l.getD 2 (0, 0), (r.result, 64)]
  if !ins.all (c.hub.sparFree false) then c.sparProbe k false ins
  else if !outs.all (c.hub.sparFree true) then c.sparProbe k true outs
  else
    let a := c.sparReads k (l.take 2)
    let b := a.2.sparRead k (x.store, x.storeUse)
    match a.1, b.1 with
    | some bs, some _ => b.2.runSolve k o r (bs.getD 0 [])
    | none, _ => Chip.runOver k o { status := 0x40 } none 0 ⟨b.2.hub.onCtx k fun x => { x with factor := none }, b.2.mem⟩
    | some _, none =>
      let f := b.2.hub.draw
      if f.1 % 2 = 0 then Chip.runOver k o { status := 0x40 } none 0 ⟨f.2.onCtx k fun x => { x with factor := none }, b.2.mem⟩
      else
        let h := f.2.onCtx k fun x => { SparCtx.empty with queue := x.queue, tiles := x.tiles, maxTiles := x.maxTiles }
        Chip.runOver k o { status := 0x40 } none (2 ^ 31) ⟨h, b.2.mem⟩

/-- A RUN stops before its end (R340, R341, R342): how far it has come is free; a factorisation under way is kept as partial.
Answers whether an iterate exists. -/
def Hub.runStop (k : Nat) (r : RunRec) (h : Hub) : Bool × Hub :=
  let x := h.ctx k
  let f := h.draw
  let done := h.factorServes x r || f.1 % 2 == 1
  let h := if h.factorServes x r then f.2
    else if done then f.2.factorDone k r
    else f.2.onCtx k fun x => { x with factor := none, partial_ := some (h.runParams x r) }
  let g := h.draw
  if done && g.1 % 2 == 1 && !r.flag 2 then
    let b := g.2.draw
    (true, b.2.onCtx k fun x => { x with best := some (leBytes (x.outLen * x.width) b.1) })
  else (false, g.2)

/-- A stopped RUN completes with a status that writes no output (R341, R342). -/
def Chip.runCut (k : Nat) (o : SparOp) (r : RunRec) (status : Nat) (c : Chip) : Chip :=
  let s := c.hub.runStop k r
  let a := s.2.draw
  let b := a.2.draw
  Chip.runOver k o { status := status, iters := a.1 % (max 1 r.maxit), relres := if s.1 then resid b.1 else fpNone } none 0 ⟨b.2, c.mem⟩

/-- A RUN stopped by its BEST deadline (R341): its best iterate is written, or none exists. -/
def Chip.runBest (k : Nat) (o : SparOp) (r : RunRec) (c : Chip) : Chip :=
  let s := c.hub.runStop k r
  let a := s.2.draw
  let b := a.2.draw
  let it := a.1 % (max 1 r.maxit)
  if s.1 then Chip.runOver k o { status := 0x44, iters := it, relres := resid b.1 } (b.2.ctx k).best 0 ⟨b.2, c.mem⟩
  else Chip.runOver k o { status := 0x42, iters := 0 } none 0 ⟨b.2, c.mem⟩

/-- A RUN has its tiles (R333): it starts unless its context is EMPTY, a check fails, or its BEST deadline has passed. -/
def Chip.runBegin (k : Nat) (o : SparOp) (d : Desc) (r : RunRec) (c : Chip) : Chip :=
  let x := c.hub.ctx k
  if x.method = 0 then Chip.runOver k o { status := 0x45 } none 0 c
  else
    let st := c.hub.runFits (c.hub.ringFn o.ring) x r
    if st ≠ 0 then Chip.runOver k o { status := st } none 0 c
    else if d.late ∧ dMode d.bytes = 1 then Chip.runOver k o { status := 0x42 } none 0 c
    else c

/-! ## Serving the contexts -/

/-- An operation takes its tiles and begins. -/
def Chip.opBegin (k : Nat) (o : SparOp) (c : Chip) : Chip :=
  let t := if k = 31 then 1 else min o.want (c.hub.tilesFor (c.hub.opEpoch k o))
  let h := c.hub.onCtx k fun x => { (x.onHead fun o => { o with begun := true }) with tiles := t, maxTiles := t }
  let c : Chip := ⟨h, c.mem⟩
  let o := { o with begun := true }
  match c.hub.desc o.ring o.desc with
  | none => ⟨c.hub.popOp k, c.mem⟩
  | some d =>
    if o.op = 0x18 then c.setupBegin k o d
    else if o.op = 0x19 then c.patchGo k o d
    else match o.run with
      | none => ⟨c.hub.popOp k, c.mem⟩
      | some r => c.runBegin k o d r

/-- Serve the waiting operations in their order (R327), at most `n`; then spread the tiles that are left. -/
def Chip.sparServe : Nat → Chip → Chip
  | 0, c => ⟨c.hub.spreadTiles 18, c.mem⟩
  | n + 1, c =>
    match firstOf c.hub.sparWaiting with
    | none => ⟨c.hub.spreadTiles 18, c.mem⟩
    | some (k, o) =>
      if c.hub.tilesFor (c.hub.opEpoch k o) = 0 ∨ c.hub.scratchFree < c.hub.opScratch k o then ⟨c.hub.spreadTiles 18, c.mem⟩
      else Chip.sparServe n (c.opBegin k o)

/-- Serve, with room for every queued operation. -/
def Chip.sparGo (c : Chip) : Chip := c.sparServe 600

/-- RUNs queued or in progress ahead of a SUPERSEDE run complete SUPERSEDED; SETUPs and PATCHes stay (R342). The new run is
warm unless a SETUP is left ahead of it. [log: DEDUCED 47; DEDUCED 57] -/
def Chip.supersede (k : Nat) (new : SparOp) (c : Chip) : Chip :=
  let x := c.hub.ctx k
  match x.queue with
  | [] => ⟨c.hub.onCtx k fun x => { x with queue := [new] }, c.mem⟩
  | o :: _ =>
    if o.op ≠ 0x1A then ⟨c.hub.onCtx k fun x => { x with queue := x.queue ++ [new] }, c.mem⟩
    else
      let runs := x.queue.filter fun p => p.op == 0x1A
      let rest := x.queue.filter fun p => p.op != 0x1A
      -- each run ends in its turn at the head, so that its record is written as the run in progress
      let c := Chip.each runs (fun p c =>
        let c : Chip := ⟨c.hub.onCtx k fun y => { y with queue := p :: y.queue.filter fun q => q.seq != p.seq }, c.mem⟩
        match p.run with
        | none => ⟨c.hub.popOp k, c.mem⟩
        | some r => if p.begun then c.runCut k p r 0x41 else Chip.runOver k p { status := 0x41 } none 0 c) c
      ⟨c.hub.onCtx k fun y => { y with queue := rest ++ [{ new with warm := rest.all fun p => p.op != 0x18 }] }, c.mem⟩

/-! ## Admission -/

/-- A started solver descriptor enters its context's queue (R325, R342). -/
def Chip.sparEnter (n : Nat) (d : Desc) (run : Option RunRec) (c : Chip) : Chip :=
  let k := leAt d.bytes 28 1
  let q := c.hub.spar.seq
  let o : SparOp := { ring := n, desc := d.id, op := dOp d.bytes, prio := dPrio d.bytes, seq := q, begun := false, warm := false, run := run }
  let c : Chip := ⟨{ c.hub with spar := { c.hub.spar with seq := q + 1 } }, c.mem⟩
  let c := if dFlag d.bytes 3 then c.supersede k o else ⟨c.hub.onCtx k fun x => { x with queue := x.queue ++ [o] }, c.mem⟩
  c.sparGo

/-- Every check of R148 passes for `d` now. [log: DEDUCED 47] -/
def Hub.wouldStart (h : Hub) (n : Nat) (d : Desc) : Bool :=
  h.considers n d && h.ringHold n == 0
    && h.verdict n d == .go

/-- Read and check a run record before its descriptor starts (R333): a record; or not yet, or completed with a status. -/
def Chip.fetchRun (n : Nat) (d : Desc) (c : Chip) : Option RunRec × Chip :=
  let k := leAt d.bytes 28 1
  let e := (leAt d.bytes 32 8, 64)
  if !c.hub.sparFree false e then (none, c.sparProbe k false [e])
  else match c.sparRead k e with
    | (none, c) => (none, ⟨c.hub.finish n d 0x40 0 0, c.mem⟩)
    | (some b, c) =>
      let r := runRec b (leAt d.bytes 40 8)
      let st := c.hub.runCheck (c.hub.ringFn n) r
      if st ≠ 0 then (none, ⟨c.hub.finish n d st 0 0, c.mem⟩) else (some r, c)

/-- The solver operation in progress of a context goes on, if it is descriptor `id` of ring `n`. -/
def Chip.sparStep (n id k : Nat) (c : Chip) : Chip :=
  match (c.hub.ctx k).queue with
  | [] => c
  | o :: _ =>
    if o.ring ≠ n ∨ o.desc ≠ id ∨ ¬ o.begun ∨ (c.hub.ctx k).paused then c
    else match c.hub.desc n id with
      | none => c
      | some d =>
        if o.op = 0x18 then
          (match d.snap with
           | none => c.setupBegin k o d
           | some b => c.setupEnd k o (leAt d.bytes 29 1) b)
        else if o.op = 0x19 then c.patchGo k o d
        else match o.run with
          | none => c
          | some r => c.runFinish k o r

/-- A solver descriptor of opcode `op`: admitted into its context's queue (a full queue is hold reason 4, R325); once it is
the operation in progress, each further command takes it one step on. -/
def Chip.solver (op n id : Nat) (c : Chip) : Chip :=
  match c.hub.desc n id with
  | none => c
  | some d =>
    let k := leAt d.bytes 28 1
    if dOp d.bytes ≠ op then c
    else if d.started then (c.sparStep n id k).sparGo
    else if c.hub.wouldStart n d ∧ 16 ≤ (c.hub.ctx k).queue.length then ⟨c.hub.put (R.DISP_RING_HOLD n) 4, c.mem⟩
    else if c.hub.wouldStart n d ∧ op = 0x1A then
      match c.fetchRun n d with
      | (none, c) => c
      | (some r, c) =>
        let h := c.hub.consider op n id
        match h.running op n id with
        | none => ⟨h, c.mem⟩
        | some d => Chip.sparEnter n d (some r) ⟨h, c.mem⟩
    else
      let h := c.hub.consider op n id
      match h.running op n id with
      | none => ⟨h, c.mem⟩
      | some d => Chip.sparEnter n d none ⟨h, c.mem⟩

/-- SOLVE_SETUP (R330). -/
def execSolveSetup (n id : Nat) (s : State) : Host.Outcome State Fault Refusal :=
  s.actMem (Ok.solveSetup n id) (Chip.solver 0x18 n id)

/-- SOLVE_PATCH (R331). -/
def execSolvePatch (n id : Nat) (s : State) : Host.Outcome State Fault Refusal :=
  s.actMem (Ok.solvePatch n id) (Chip.solver 0x19 n id)

/-- SOLVE_RUN (R333 to R342). -/
def execSolveRun (n id : Nat) (s : State) : Host.Outcome State Fault Refusal :=
  s.actMem (Ok.solveRun n id) (Chip.solver 0x1A n id)

/-! ## What ends operations from outside -/

/-- The context and operation of descriptor `id` of ring `n`. -/
def Hub.sparFind (h : Hub) (n id : Nat) : Option (Nat × SparOp) :=
  h.spar.ctxs.findSome? fun e => (e.2.queue.find? fun o => o.ring == n && o.desc == id).map fun o => (e.1, o)

/-- An operation that is not in progress, or not begun, leaves its queue. -/
def Hub.sparDrop (k : Nat) (o : SparOp) (h : Hub) : Hub := h.onCtx k fun x => { x with queue := x.queue.filter fun p => p.seq != o.seq }

/-- The deadline of a started solver descriptor passes (R141, R341). -/
def Chip.sparDeadline (n id : Nat) (strict : Bool) (c : Chip) : Chip :=
  match c.hub.sparFind n id with
  | none => c
  | some (k, o) =>
    match o.run with
    | some r =>
      Chip.sparGo (if o.begun then (if strict then c.runCut k o r 0x0A else c.runBest k o r)
        else
          let c : Chip := ⟨c.hub.onCtx k fun x => { x with queue := o :: x.queue.filter fun p => p.seq != o.seq }, c.mem⟩
          let rest := (c.hub.ctx k)
          -- a run that waits is recorded and leaves; the operation in progress keeps its tiles
          let c := Chip.runOver k o { status := if strict then 0x0A else 0x42 } none 0 c
          ⟨c.hub.onCtx k fun x => { x with tiles := rest.tiles, maxTiles := rest.maxTiles, paused := rest.paused }, c.mem⟩)
    | none =>
      if !strict then c
      else
        let h := if o.begun then
            (if o.op = 0x18 then (c.hub.onCtx k fun x => { SparCtx.empty with queue := x.queue }).popOp k else c.hub.popOp k)
          else c.hub.sparDrop k o
        Chip.sparGo ⟨h.endWork n id 0x0A 0, c.mem⟩

/-- The solver operations of ring `n` are stopped (R125): no completion and no record; a running one keeps its structure and
its partial factor. -/
def Chip.sparDropRing (n : Nat) (c : Chip) : Chip :=
  let h := c.hub.upto 31 fun k h =>
    match (h.ctx k).queue with
    | [] => h
    | o :: _ =>
      let h := if o.ring = n ∧ o.begun then
          (match o.run with
           | some r => (h.runStop k r).2.popOp k
           | none => if o.op = 0x18 then (h.onCtx k fun x => { SparCtx.empty with queue := x.queue }).popOp k else h.popOp k)
        else h
      if (h.ctx k).queue.any fun p => p.ring == n then h.onCtx k fun x => { x with queue := x.queue.filter fun p => p.ring != n } else h
  Chip.sparGo ⟨h, c.mem⟩

/-- A solver operation in progress is ended by a fault of its context or the loss of its tile (R92, R400): its factor is
stale. -/
def Chip.sparFault (k status : Nat) (c : Chip) : Chip :=
  match (c.hub.ctx k).queue with
  | [] => c
  | o :: _ =>
    let c : Chip := ⟨c.hub.onCtx k fun x => { x with factor := none }, c.mem⟩
    Chip.sparGo (match o.run with
      | some _ => if o.begun then Chip.runOver k o { status := status } none 0 c else c
      | none => if o.begun then ⟨c.hub.endOp k o status 0, c.mem⟩ else c)

/-- Context 31 takes a tile for Trim's solve (R327): a free one; else one of the operation that holds the most; else the last
one of the operation of lowest PRIO, latest arrival first, which pauses. -/
def Hub.trimTile (h : Hub) : Hub :=
  let take (k : Nat) (h : Hub) : Hub := h.onCtx k fun x => { x with tiles := x.tiles - 1, paused := decide (x.tiles ≤ 1) }
  let h := if h.tilesFree ≠ 0 then h
    else
      let l := h.spar.ctxs.filter fun e => e.1 != 31 && decide (0 < e.2.tiles)
      let most := l.foldl (fun a e => max a e.2.tiles) 0
      if 1 < most then
        (match l.find? fun e => e.2.tiles == most with
         | none => h
         | some e => take e.1 h)
      else
        let heads := l.filterMap fun e => e.2.queue.head?.map fun o => (e.1, { o with prio := 3 - o.prio, seq := h.spar.seq - o.seq })
        match firstOf heads with
        | none => h
        | some e => take e.1 h
  h.onCtx 31 fun x => { x with tiles := 1 }

/-- Context 31 gives its tile back. -/
def Chip.trimDone (c : Chip) : Chip := Chip.sparGo ⟨c.hub.onCtx 31 fun x => { x with tiles := 0 }, c.mem⟩

end Sys2Proof.Machine
end

