-- ==== Sys2Proof/Machine/Trim.lean ====
section
/-!
DEFINITION. Trim and the sense converters (spec/16): the 48 variables, demand, the rows' bounds, acceptance, projection,
fallback and the static plan, grants, allowances and island targets; visits, triggers, stale channels and the thermal trip;
and the meanings of TRIM_EPOCH_START, TRIM_SOLVE_COMPLETE, SENSE_*, THERMAL_TRIP_TIMEOUT. Plans are held in µW and µK.
-/
namespace Sys2Proof.Machine

/-! ## The variables (R347) -/

/-- µW in 0.25 W. [log: DESIGN CHOICE 48] -/
def qW : Nat := 250000

/-- Islands hub variable `v` drives. -/
def islandsOfVar (v : Nat) : List Nat :=
  if v < 4 then [] else if v < 12 then (List.range 6).map fun i => 6 * (v - 4) + i
  else if v < 18 then [48 + (v - 12)] else if v < 22 then [54 + 2 * (v - 18), 55 + 2 * (v - 18)]
  else if v < 30 then [62 + (v - 22)] else if v = 30 then [70, 71] else if v < 35 then islandsOf (69 + (v - 31))
  else if v < 39 then [90 + (v - 35)] else if v = 39 then [94] else []

/-- Hub variables that take descriptor demand. -/
def demandVars : List Nat := [22, 23, 24, 25, 26, 27, 28, 29, 31, 32, 33, 34, 35, 36, 37, 38]

/-- The unit behind variable `v` draws nothing: every domain of its islands is OFF (corner of R363).
[log: DESIGN CHOICE 48] -/
def Hub.varOff (h : Hub) (v : Nat) : Bool :=
  islandsOfVar v != [] && (islandsOfVar v).all fun k => !h.domOn (domainOfIsland k)

/-- The value variable `v` is pinned at, 0.25 W, if it is: 0 for an unfitted or dropped site and a unit that is off, CAP for a
fixed-cap site. -/
def Hub.pinned (h : Hub) (v : Nat) : Option Nat :=
  if v < 4 then
    if !h.siteLive v then some 0
    else if h.get (R.PWR_SITE_FIXCAP_CAP v) = 0 then none else some (4 * h.get (R.PWR_SITE_FIXCAP_CAP v))
  else if h.varOff v then some 0 else none

/-- LO in force of power variable `v`, 0.25 W. -/
def Hub.varLo (h : Hub) (v : Nat) : Nat := (h.pinned v).getD (h.get (R.TRIM_VAR0_LO v))

/-- HI in force; never below LO. -/
def Hub.varHi (h : Hub) (v : Nat) : Nat := (h.pinned v).getD (max (h.get (R.TRIM_VAR0_LO v)) (h.get (R.TRIM_VAR0_HI v)))

/-- Site `s` has PALLOW and is live. -/
def Hub.pallow (h : Hub) (s : Nat) : Bool := h.siteLive s && h.negFlag s 3

/-! ## Demand (R348) -/

/-- Groups of engines a descriptor's work is attributed to: its engine's, or all four. -/
def Hub.groupsOfEngine (h : Hub) (e : Nat) : List Nat :=
  if e = 0xFF then [0, 1, 2, 3] else match h.physOf 0 0 e with
    | some p => [unitGroup 0 p]
    | none => [0, 1, 2, 3]

/-- Variables a descriptor's debit is attributed to, in even shares. -/
def Hub.attributed (h : Hub) (b : List Byte) : List Nat :=
  let op := dOp b
  if op = 0x0A then [leAt b 28 1 % 4]
  else if op = 0x20 ∨ op = 0x21 then (h.quadsOf (leAt b 28 1)).map (22 + ·)
  else if op = 0x18 ∨ op = 0x19 ∨ op = 0x1A then ([69, 70, 71, 72].filter h.quadHasTile).map fun n => 31 + (n - 69)
  else if isMover op ∨ op = 0x08 then (h.groupsOfEngine (leAt b 48 1)).map (35 + ·)
  else []

/-- 840 times the share of `v` in `e` µJ attributed evenly to the variables `vs`. -/
def share840 (v e : Nat) (vs : List Nat) : Nat := if vs.contains v then 840 * e / vs.length else 0

/-- Variables a hint of pool `p` is attributed to. -/
def hintVars (p : Nat) : List Nat := if p = 0 then [35, 36, 37, 38] else [p - 1]

/-- 840 × E_v: debits of fetched, unstarted descriptors attributed to `v` but PRELOADs that await an overlap start, and 250 µs
÷ horizon of each hint. -/
def Hub.energyOf (h : Hub) (v : Nat) : Nat :=
  h.rings.foldl (fun a e =>
    a + (e.2.descs.foldl (fun a d => if !d.started && !e.2.preloading d then a + share840 v (dDebit d.bytes) (h.attributed d.bytes) else a) 0)
      + (e.2.hints.foldl (fun a x => a + share840 v (hintShare x) (hintVars x.1)) 0)) 0

/-- r of an OCLASS, in quarters. -/
def ratioQ (oclass : Nat) : Nat := if oclass = 0 then 5 else if oclass = 1 then 8 else 16

/-- The PRELOAD descriptors that await an overlap start. -/
def Hub.overlaps (h : Hub) : List Desc := h.rings.flatMap fun e => e.2.descs.filter fun d => !d.started && e.2.preloading d

/-- r_max in quarters (R355): 1 when no PRELOAD is counted. -/
def Hub.rMax (h : Hub) : Nat := h.overlaps.foldl (fun a d => max a (ratioQ (dOclass d.bytes))) 4

/-- `a ÷ b` rounded up. -/
def ceilDiv (a b : Nat) : Nat := (a + b - 1) / b

/-- Demand d_v in 0.25 W, rounded up, before its clamp (R348). -/
def Hub.rawDemand (h : Hub) (v : Nat) : Nat :=
  let m := h.get (R.TRIM_VAR3_MEAS v)
  if v = 40 then ceilDiv (h.overlaps.foldl (fun a d => a + ratioQ (dOclass d.bytes) * dDebit d.bytes) 0) 250
  else if v < 4 ∨ demandVars.contains v then
    m + ceilDiv (4 * h.get (R.TRIM_POOL_RATIO (if v < 4 then 1 + v else 0)) * h.energyOf v) (256 * 840 * 250)
  else ceilDiv (m * (100 + h.get (R.TRIM_VAR1_HEAD v))) 100

/-- R349: RATIO_p moves by an eighth toward Σ measured ÷ Σ debit of the last epoch, within 1/16 to 2.
[log: DESIGN CHOICE 48] -/
def Hub.learnRatio (p : Nat) (h : Hub) : Hub :=
  let d := nget h.trim.debits p
  if d = 0 then h
  else
    let r := h.get (R.TRIM_POOL_RATIO p)
    h.put (R.TRIM_POOL_RATIO p) (clampNat 16 512 ((7 * r * d + 256 * nget h.trim.done p) / (8 * d)))

/-! ## Temperatures (R347, R362) -/

/-- The zone of a thermal channel: hub sensors, then four remote diodes a site. -/
def zoneOfChannel (n : Nat) : Nat := if n < 112 then 0 else 1 + (n - 112) / 4

/-- °C of a code of a thermal channel, whole degrees, not below 0. [log: DESIGN CHOICE 48] -/
def degC (code : Nat) : Nat := code / 16 - 64

/-- °C Trim uses for a thermal channel: its last valid code, or TMAX of its zone while it is STALE. -/
def Hub.chTemp (h : Hub) (n : Nat) : Nat :=
  if h.on (R.SNS_CH_STALE n) then h.get (R.TRIM_ZONE_TMAX (zoneOfChannel n)) else degC (h.get (R.SNS_CH_HELD n))

/-- Reading of zone `z`. -/
def Hub.zoneTemp (h : Hub) (z : Nat) : Nat :=
  if z < 5 then (List.range 128).foldl (fun a n => if zoneOfChannel n = z then max a (h.chTemp n) else a) 0
  else (List.range 3).foldl (fun a i => max a (h.get (R.MEM_STAT_TEMP (3 * (z - 5) + i)))) 0

/-- R362: a channel whose last valid output is more than 16 epochs old is STALE, a thermal one with a WARNING.
[log: DESIGN CHOICE 48] -/
def Hub.ageChannel (n : Nat) (h : Hub) : Hub :=
  if max 1 (nget h.sns.seen n) + 16 < h.get R.TRIM_EPOCH + 1 ∧ ¬ h.on (R.SNS_CH_STALE n) then
    let h := h.put (R.SNS_CH_STALE n) 1
    if n < 128 then h.warn 0x43 13 0 n else h
  else h

/-! ## Plans (R350, R353 to R357) -/

/-- Value of variable `v` of a plan, µW or µK. [log: DESIGN CHOICE 48] -/
def TrimPlan.val (p : TrimPlan) (v : Nat) : Nat := p.x.getD v 0

/-- Σ of the power variables, µW. -/
def TrimPlan.total (p : TrimPlan) : Nat := (List.range 41).foldl (fun a v => a + p.val v) 0

/-- Static power, µW. -/
def Hub.staticW (h : Hub) : Nat := qW * (h.get R.TRIM_STATIC_HUB + h.get R.TRIM_STATIC_STACK)

/-- A row: the first of its variables, which end at 40, their coefficients in 1/128, and the upper bound, µW (R350). -/
structure TrimRow where
  first : Nat
  coef : List Nat
  upper : Int

/-- What the package limit leaves for the plan, µW (R33, R350): a readmission test's power counts toward the hub's (R95). -/
def Hub.pkgRoom (h : Hub) : Int := 1000000 * (h.get R.TRIM_LIMIT_PKG : Int) - h.staticW - 1000 * h.testingMw

/-- Upper bound of the package row. -/
def Hub.pkgUpper (h : Hub) : Int :=
  min h.pkgRoom
    (h.trim.plan.total + 250000 * (h.get R.PWR_COV_SLEW_UP : Int) + 1000000 * h.get R.PWR_COV_STEP)

/-- Lower bound of the package row, never above the upper. -/
def Hub.pkgLower (h : Hub) : Int :=
  min h.pkgUpper
    (h.trim.plan.total - (250000 * (h.get R.PWR_COV_SLEW_DN : Int) + 1000000 * h.get R.PWR_COV_STEP) - h.staticW)

/-- The package, hub, X_total and X_sense rows, in the order in which they are projected (R350, R354). -/
def Hub.trimRows (h : Hub) : List TrimRow :=
  let room : Int := 1000000 * (h.get R.PWR_COV_STEP : Int) - 1000 * h.guardMw - 1000000 * h.sitesFastDrop
  let hubVars (f : Nat → Nat) : List Nat := (List.range 41).map fun v => if v < 4 then 0 else f v
  [⟨0, (List.range 41).map fun _ => 128, h.pkgUpper⟩,
   ⟨4, hubVars fun _ => 128, 240000000 - qW * (h.get R.TRIM_STATIC_HUB : Int) - 1000 * h.trim.snap.soak - 1000 * h.testingMw⟩,
   ⟨4, hubVars fun v => h.get (R.TRIM_VAR1_EXPO_T v), room + 1000000 * h.get R.PWR_SOAK_CTRL_MAX⟩,
   ⟨4, hubVars fun v => h.get (R.TRIM_VAR1_EXPO_S v), room⟩]

/-- Σ of a row, µW/128. -/
def TrimRow.sum (r : TrimRow) (x : List Nat) : Nat := (r.coef.zip x).foldl (fun a e => a + e.1 * e.2) 0

/-- One row's projection (R354): the excess over LO of every variable it is over is scaled by one factor until the row holds. -/
def TrimRow.project (r : TrimRow) (lo x : List Nat) : List Nat :=
  let s := r.sum x
  let base := r.sum (lo.map (qW * ·))
  if (s : Int) ≤ 128 * r.upper then x
  else
    let room := (128 * r.upper - base).toNat
    let exc := s - base
    (x.zip lo).zipIdx.map fun e =>
      if e.2 < r.first then e.1.1 else qW * e.1.2 + (e.1.1 - qW * e.1.2) * min room exc / max 1 exc

/-- A plan's power variables clamped to their bounds. -/
def clampPlan (lo hi x : List Nat) : List Nat := ((x.zip lo).zip hi).map fun e => clampNat (qW * e.1.2) (qW * e.2) e.1.1

/-- Projection (R354): the clamp, then the rows in their order. -/
def Hub.project (h : Hub) (x : List Nat) : List Nat :=
  h.trimRows.foldl (fun y r => r.project h.trim.snap.lo y) (clampPlan h.trim.snap.lo h.trim.snap.hi x)

/-- Projection moved some variable by more than 1 %. -/
def projMoved (before after : List Nat) : Bool :=
  (before.zip after).any fun e => decide (e.1 < 100 * (e.2 - e.1)) || decide (e.1 < 100 * (e.1 - e.2))

/-- °C predicted for zone `z` under power variables `x` (TRIM_ZONE.PRED): reading plus H times the change from MEAS. -/
def Hub.predicted (h : Hub) (z : Nat) (x : List Nat) : Nat :=
  let d : Int := (List.range 41).foldl (fun a v =>
    a + (h.get (R.TRIM_H z v) : Int) * ((x.getD v 0 : Int) - qW * h.get (R.TRIM_VAR3_MEAS v))) 0
  min 255 ((h.get (R.TRIM_ZONE_TEMP z) : Int) + d / (4096 * 1000000)).toNat

/-- Prepare a plan for the next epoch; its prediction is shown. -/
def Hub.setNext (mode : Nat) (power slack : List Nat) (h : Hub) : Hub :=
  let h := { h with trim := { h.trim with next := some { mode := mode, x := power ++ slack, rmax := h.trim.snap.rmax } } }
  h.upto 7 fun z g => g.put (R.TRIM_ZONE_PRED z) (h.predicted z power)

/-- Project a plan and prepare it; an epoch that projection changes by more than 1 % is counted. -/
def Hub.projectNext (mode : Nat) (x slack : List Nat) (h : Hub) : Hub :=
  let y := h.project x
  let h := if projMoved x y then h.bump R.TRIM_EVT_PROJ 1 else h
  h.setNext mode y slack

/-- The package row of a bound. -/
def packageRow (upper : Int) : TrimRow := ⟨0, (List.range 41).map fun _ => 128, upper⟩

/-- The plan in force moved toward the static plan as far as the package row allows, and never above its upper bound (R33, R357).
[log: DESIGN CHOICE 48] -/
def Hub.staticStep (h : Hub) : List Nat :=
  let p := h.trim.plan
  let tgt := clampPlan h.trim.snap.lo h.trim.snap.hi ((List.range 41).map fun v => qW * h.get (R.TRIM_VAR3_STATIC v))
  let s0 : Int := p.total
  let s1 : Int := (tgt.foldl (· + ·) 0 : Nat)
  let nd : Int × Int :=
    if h.pkgUpper < s1 ∧ s0 < s1 then (max 0 (h.pkgUpper - s0), s1 - s0)
    else if s1 < h.pkgLower ∧ s1 < s0 then (max 0 (s0 - h.pkgLower), s0 - s1)
    else (1, 1)
  let n := min nd.1 nd.2
  (packageRow h.pkgUpper).project h.trim.snap.lo
    (tgt.zipIdx.map fun e => ((p.val e.2 : Int) + ((e.1 : Int) - p.val e.2) * n / nd.2).toNat)

/-- Move the plan toward the static plan; entering it raises a WARNING (R357). [log: DESIGN CHOICE 48] -/
def Hub.goStatic (h : Hub) : Hub :=
  let h := if h.trim.plan.mode = 3 then h else h.warn 0x41 0 0 0xFFFF
  h.setNext 3 h.staticStep (List.replicate 7 0)

/-- A solve is rejected (R356, R357): the fallback plan, or the static plan after STATIC_N of them or with no good tile.
[log: DESIGN CHOICE 48] -/
def Hub.rejectSolve (h : Hub) : Hub :=
  let run := h.get R.TRIM_STAT_RUN
  let h := h.put R.TRIM_STAT_RUN (min 255 (run + 1))
  if h.trim.plan.mode = 3 ∨ h.get R.TRIM_LIMIT_STATIC_N ≤ run ∨ h.get R.MAP_COUNT_TILE = 0 then h.goStatic
  else
    let h := ((h.notice 356 2).bump R.TRIM_EVT_FALLBACKS 1).countEvent 12
    let h := if run + 1 = 3 then h.warn 0x40 0 0 0xFFFF else h
    h.projectNext 2 (((List.range 41).map fun v => max (qW * h.trim.snap.lo.getD v 0) (9 * h.trim.plan.val v / 10)))
      (List.replicate 7 0)

/-- FP64 bits of 2^−e. -/
def fpPow (e : Nat) : Nat := (1023 - e) * 2 ^ 52

/-- The solve is one R353 accepts. -/
def Hub.acceptable (h : Hub) (status relres : Nat) : Bool :=
  (status == 0 || status == 0x44 || status == 0x48) && decide (relres ≤ fpPow (h.get R.TRIM_CTRL_RES_EXP))

/-- A solve has ended with iterate `x` (R353): accepted and projected, or rejected. -/
def Hub.judgeSolve (status relres : Nat) (x : List Nat) (h : Hub) : Hub :=
  if h.acceptable status relres then (h.put R.TRIM_STAT_RUN 0).projectNext 1 (x.take 41) (x.drop 41) else h.rejectSolve

/-! ## The QP (R350, R351) -/

/-- The rows of the QP (R350): package, hub, X_total, X_sense, the zones and the boxes. -/
def Hub.qpRows (h : Hub) (lo hi : List Nat) (soak : Nat) : List QpRow :=
  let room : Int := 1000000 * (h.get R.PWR_COV_STEP : Int) - 1000 * h.guardMw - 1000000 * h.sitesFastDrop
  let row (f : Nat → Int) (lo hi : Option Int) : QpRow :=
    { coef := (List.range 48).map f, lo := lo.map (4096 * ·), hi := hi.map (4096 * ·) }
  let hubOnly (f : Nat → Nat) (v : Nat) : Int := if 4 ≤ v ∧ v ≤ 40 then f v else 0
  let zone (z : Nat) : QpRow :=
    { coef := (List.range 48).map fun v => if v < 41 then (h.get (R.TRIM_H z v) : Int) else if v = 41 + z then -4096 else 0
      lo := none
      hi := some (4096 * 1000000 * ((h.get (R.TRIM_ZONE_TMAX z) : Int) - h.get (R.TRIM_ZONE_TEMP z))
        + (List.range 41).foldl (fun a v => a + (h.get (R.TRIM_H z v) : Int) * (qW * h.get (R.TRIM_VAR3_MEAS v))) 0) }
  [row (fun v => if v < 41 then 4096 else 0) (some h.pkgLower) (some h.pkgUpper),
   row (hubOnly fun _ => 4096) none
     (some (240000000 - qW * (h.get R.TRIM_STATIC_HUB : Int) - 1000 * soak - 1000 * h.testingMw)),
   row (hubOnly fun v => 32 * h.get (R.TRIM_VAR1_EXPO_T v)) none (some (room + 1000000 * h.get R.PWR_SOAK_CTRL_MAX)),
   row (hubOnly fun v => 32 * h.get (R.TRIM_VAR1_EXPO_S v)) none (some room)]
    ++ (List.range 7).map zone
    ++ (List.range 48).map fun v => row (fun u => if u = v then 4096 else 0) (some (if v < 41 then qW * lo.getD v 0 else 0))
        (if v < 41 then some (qW * hi.getD v 0) else none)

/-- The objective (R351): P is WEIGHT ÷ 8 for a power variable, 2^(EXP + 1) for a slack; q is −P times the demand. -/
def Hub.qpHess (h : Hub) : List Nat :=
  (List.range 48).map fun v => if v < 41 then h.get (R.TRIM_VAR1_WEIGHT v) else 2 ^ (h.get R.TRIM_PEN_EXP + 4)

/-- The QP of a snapshot (R350 to R352). -/
def Hub.qpOf (h : Hub) (lo hi : List Nat) (soak : Nat) : Qp :=
  { hess := h.qpHess, dem := (List.range 48).map fun v => if v < 41 then qW * h.get (R.TRIM_VAR2_DEMAND v) else 0,
    rows := h.qpRows lo hi soak }

/-- Σ of the products of two lists. -/
def dot (a b : List Int) : Int := (a.zip b).foldl (fun s e => s + e.1 * e.2) 0

/-- The largest magnitude of a list. -/
def topMag (l : List Int) : Nat := l.foldl (fun a v => max a v.natAbs) 0

/-- A row's value brought within its bounds: the z of R339. [log: DESIGN CHOICE 48] -/
def QpRow.clamp (r : QpRow) (v : Int) : Int :=
  let v := match r.hi with | some b => min v b | none => v
  match r.lo with | some b => max v b | none => v

/-- The relative primal residual of an iterate, as a fraction (R339). -/
def Qp.prim (p : Qp) (x : List Int) : Nat × Nat :=
  let ax := p.rows.map fun r => dot r.coef x
  let z := (p.rows.zip ax).map fun e => e.1.clamp e.2
  (topMag ((ax.zip z).map fun e => e.1 - e.2), max (topMag ax) (topMag z))

/-- The relative dual residual of an iterate and its multipliers, as a fraction (R339, R351). -/
def Qp.dual (p : Qp) (x y : List Int) : Nat × Nat :=
  let px := (p.hess.zip x).map fun e => 4096 * (e.1 : Int) * e.2
  let q := (p.hess.zip p.dem).map fun e => -(4096 * (e.1 : Int) * e.2)
  let aty := (List.range 48).map fun v => 8 * dot (p.rows.map fun r => r.coef.getD v 0) y
  (topMag (((px.zip q).zip aty).map fun e => e.1.1 + e.1.2 + e.2), max (topMag px) (max (topMag aty) (topMag q)))

/-- The FP64 bits of a fraction, rounded toward 0; one too small for a normal number is 0. [log: DESIGN CHOICE 48] -/
def fpRatio (n d : Nat) : Nat :=
  let q := n * 2 ^ 1200 / max 1 d
  let l := Nat.log2 q
  if l < 178 then 0 else min (2047 * 2 ^ 52) ((l - 177) * 2 ^ 52 + q / 2 ^ (l - 52) % 2 ^ 52)

/-- RELRES of a solve's iterate (R334, R339): the larger residual; all ones where none exists. [log: DESIGN CHOICE 48] -/
def Qp.relres (p : Qp) (x : List Nat) (y : List Int) : Nat :=
  if x = [] then fpNone
  else
    let xs := x.map Int.ofNat
    max (fpRatio (p.prim xs).1 (p.prim xs).2) (fpRatio (p.dual xs y).1 (p.dual xs y).2)

/-! ## Applying a plan (R355) -/

/-- G_ovl, µJ. [log: DEDUCED 34] -/
def TrimPlan.overlap (p : TrimPlan) : Nat := p.val 40 * 250 * 4 / (p.rmax * 1000000)

/-- G_0, µJ. -/
def Hub.hubGrantOf (h : Hub) (p : TrimPlan) : Nat :=
  demandVars.foldl (fun a v => a + (p.val v - qW * h.varLo v)) 0 * 250 / 1000000 + p.overlap

/-- G_(1+s), µJ. -/
def Hub.siteGrantOf (h : Hub) (p : TrimPlan) (s : Nat) : Nat :=
  if h.pallow s then (p.val s - 1000000 * h.get (R.YDL_PEER_PWR_P_IDLE s)) * 250 / 1000000 else 0

/-- Set a pool's grant and B = min(B, 0) + G (R144). -/
def Hub.grantPool (p g : Nat) (h : Hub) : Hub := (h.put (R.DISP_POOL_GRANT p) g).setBalance p (min (h.balance p) 0 + g)

/-- A descriptor held for credit has been held across one more epoch start (R145). -/
def Desc.heldOn (d : Desc) : Desc := if d.inCredit then { d with epochs := d.epochs + 1 } else d

/-- The grants of a plan; the seed plan's are 0 (R346). -/
def Hub.applyGrants (p : TrimPlan) (h : Hub) : Hub :=
  let seed := p.mode == 0
  let h := h.grantPool 0 (if seed then 0 else h.hubGrantOf p)
  let h := h.upto 4 fun s g => g.grantPool (1 + s) (if seed then 0 else g.siteGrantOf p s)
  ((h.put R.DISP_OVL_GRANT (if seed then 0 else p.overlap)).put R.DISP_OVL1_LEFT (if seed then 0 else p.overlap)).showPools

/-- An epoch starts: descriptors held for credit are held across it (R145), and each site may be found over its allowance once
more (R285). -/
def Hub.newEpoch (h : Hub) : Hub :=
  let h := { h with rings := h.rings.map fun (e : Nat × RingS) => (e.1, { e.2 with descs := e.2.descs.map Desc.heldOn }) }
  h.upto 4 fun s g => g.onSite s fun x => { x with overSaid := false }

/-- Target of island `k` under hub variable `v`, MHz. -/
def Hub.planTarget (h : Hub) (p : TrimPlan) (v k : Nat) : Nat :=
  let span := qW * (h.varHi v - h.varLo v)
  if span = 0 then islandMin k
  else islandMin k + (h.islandNom k - islandMin k) * min span (p.val v - qW * h.varLo v) / span

/-- Hand the island targets to Reef (R42, R355); during a thermal trip every island goes to its minimum (R363). -/
def Hub.applyIslands (p : TrimPlan) (h : Hub) : Hub :=
  h.upto 40 fun v g => g.each (islandsOfVar v) fun k g =>
    g.setIsland k (if g.on R.SNS_THERM_TRIPPED then islandMin k else g.planTarget p v k)

/-- Show a plan in the PLAN fields. [log: DESIGN CHOICE 48] -/
def Hub.showPlan (p : TrimPlan) (h : Hub) : Hub :=
  h.upto 48 fun v g =>
    g.put (R.TRIM_VAR2_PLAN v) (satNat 12 (if v < 41 then p.val v / qW else p.val v * 16 / 1000000))

/-- Apply a plan: a thermal trip holds it at LO (R363). -/
def Hub.applyPlan (p : TrimPlan) (h : Hub) : Hub :=
  let p := if h.on R.SNS_THERM_TRIPPED then
      { p with x := ((List.range 41).map fun v => qW * h.varLo v) ++ p.x.drop 41 } else p
  let h := { h with trim := { h.trim with plan := p } }
  (((h.put R.TRIM_STAT_MODE p.mode).showPlan p).applyGrants p).applyIslands p

/-- RISE of site `s`, 0.25 W per 8 µs (R355). [log: DESIGN CHOICE 48] -/
def Hub.riseOf (h : Hub) (old new : TrimPlan) (s : Nat) : Nat :=
  let d (v : Nat) : Nat := new.val v - old.val v
  let all := (List.range 41).foldl (fun a v => a + d v) 0
  if d s = 0 then 0 else h.get R.PWR_COV_SLEW_UP * 8 * d s / (250 * all)

/-- Reef judges a rise of site `s`'s allowance by `up` (0.25 W) at `rise` (0.25 W per 8 µs, R283): its first 8 µs are a step, which
the covenant and the exposure limits must allow; the rest follows tick by tick. [log: DESIGN CHOICE 48] -/
def Hub.admitAllow (s up rise : Nat) (h : Hub) : Option Hub :=
  let first := 250 * min up rise
  (h.tryStep first 0 0).map fun g =>
    { g with power := { g.power with
      ramps := (g.power.ramps.filter fun r => r.1 != s) ++ (if 0 < rise ∧ rise < up then [(s, 250 * (up - rise), 250 * rise)] else []) } }

/-- Send site `s` its allowance for the epoch: PLAN_s, or the one in force while Reef does not admit a rise. A lowered allowance
ends a ramp under way. [log: DESIGN CHOICE 48] -/
def Chip.allowSite (old : TrimPlan) (s : Nat) (c : Chip) : Chip :=
  let h := c.hub
  if !h.pallow s then c
  else
    let now := h.get (R.YDL_ALLOW s)
    let want := h.trim.plan.val s / qW
    let rise := min 65535 (h.riseOf old h.trim.plan s)
    if now < want then
      match h.admitAllow s (want - now) rise with
      | none => c.sendAllow s now 0 (h.get R.TRIM_EPOCH)
      | some g => (⟨g, c.mem⟩ : Chip).sendAllow s want rise (h.get R.TRIM_EPOCH)
    else
      let g := if want < now then { h with power := { h.power with ramps := h.power.ramps.filter fun r => r.1 != s } } else h
      (⟨g, c.mem⟩ : Chip).sendAllow s want rise (h.get R.TRIM_EPOCH)

/-- Send every PALLOW site its allowance (R283). -/
def Chip.allowAll (old : TrimPlan) (c : Chip) : Chip := c.each [0, 1, 2, 3] (Chip.allowSite old)

/-! ## The snapshot (R345, R348) -/

/-- Σ LO + static, W, beyond the package limit: INFEAS, with a WARNING when it begins. -/
def Hub.checkFloor (h : Hub) : Hub :=
  let sum := (List.range 41).foldl (fun a v => a + h.varLo v) 0 + h.get R.TRIM_STATIC_HUB + h.get R.TRIM_STATIC_STACK
  let h := h.put R.TRIM_FLOOR_SUM (satNat 11 (sum / 4))
  if 4 * h.get R.TRIM_LIMIT_PKG < sum then
    if h.on R.TRIM_STAT_INFEAS then h else (h.put R.TRIM_STAT_INFEAS 1).warn 0x42 0 0 0xFFFF
  else h.put R.TRIM_STAT_INFEAS 0

/-- MEAS of a variable: the site's last ALLOW_ACK, a hub variable's energy counters, 0 of the rest. -/
def Hub.measOf (h : Hub) (meas : List Nat) (v : Nat) : Nat :=
  if v < 4 then (if h.siteLive v then satNat 12 (h.get (R.YDL_POWER v)) else 0) else if v < 40 then meas.getD (v - 4) 0 else 0

/-- Store the measured powers and static powers, 0.25 W. -/
def Hub.measure (meas : List Nat) (hubStatic stackStatic : Nat) (h : Hub) : Hub :=
  let h := (h.put R.TRIM_STATIC_HUB hubStatic).put R.TRIM_STATIC_STACK stackStatic
  h.upto 48 fun v g => g.put (R.TRIM_VAR3_MEAS v) (g.measOf meas v)

/-- The snapshot's inputs, and the solve's post on context 31 (R345, R352). -/
def Hub.snapshot (h : Hub) : Hub :=
  let h := h.upto 218 Hub.ageChannel
  let h := h.upto 7 fun z g => g.put (R.TRIM_ZONE_TEMP z) (min 255 (g.zoneTemp z))
  let h := h.upto 5 Hub.learnRatio
  let h := { h with trim := { h.trim with done := [], debits := [] } }
  let h := h.upto 41 fun v g => g.put (R.TRIM_VAR2_DEMAND v) (clampNat (g.varLo v) (g.varHi v) (g.rawDemand v))
  let lo := (List.range 41).map h.varLo
  let hi := (List.range 41).map h.varHi
  let soak := 2500 * h.segs
  let h := { h with trim := { h.trim with snap := { lo := lo, hi := hi, soak := soak, rmax := h.rMax, qp := h.qpOf lo hi soak } } }
  h.checkFloor

/-- Post the solve on context 31, which takes a tile (R327, R352). [log: DESIGN CHOICE 48] -/
def Hub.postSolve (h : Hub) : Hub :=
  let h := if h.get R.MAP_COUNT_TILE = 0 then h else h.trimTile
  let op : SparOp := { ring := 256, desc := 0, op := 0x1A, prio := 3, seq := 0, begun := true, warm := true, run := none }
  { h with trim := { h.trim with posted := true } }.onCtx 31 fun x =>
    { x with method := 0x20, prec := 0, n := 48, m := 59, scratch := 1, queue := [op], epoch := h.get R.MAP_EPOCH_CUR }

/-- The solve's end: context 31 gives its tile back and holds the factor. [log: DESIGN CHOICE 48] -/
def Chip.endSolve (c : Chip) : Chip :=
  let h := { c.hub with trim := { c.hub.trim with posted := false } }
  Chip.trimDone ⟨h.onCtx 31 fun x => { x with queue := [], factor := some (0, 0, 0, 0) }, c.mem⟩

/-! ## Sense converters (R359 to R363) -/

/-- A converter's state. -/
def Hub.conv (h : Hub) (c : Nat) : Conv := Store.get (fun _ => Conv.empty) h.sns.convs c

/-- Store a converter; BUSY and PEND show it. -/
def Hub.setConv (c : Nat) (x : Conv) (h : Hub) : Hub :=
  let h := { h with sns := { h.sns with convs := Store.set (fun _ => Conv.empty) h.sns.convs c x } }
  (h.put (R.SNS_CONV_BUSY c) (b2n (x.seq != []))).put (R.SNS_CONV_PEND c) (b2n x.latch.isSome)

/-- A trigger (R361): it starts its visits, is latched, or is counted and dropped. [log: DEDUCED 49] -/
def Hub.trigger (c : Nat) (chans : List Nat) (h : Hub) : Hub :=
  let x := h.conv c
  if chans = [] then h
  else if x.seq = [] then h.setConv c { x with seq := chans, outs := 0 }
  else if x.latch.isNone then h.setConv c { x with latch := some chans }
  else h.bump (R.SNS_CONV1_OVERRUN_COUNT c) 1

/-- The entries of SNS_LIST due in the epoch on converter `c`, in the list's order (R361). [log: DEDUCED 49] -/
def Hub.dueChannels (h : Hub) (c : Nat) : List Nat :=
  (List.range 256).filterMap fun i =>
    let k := 2 ^ h.get (R.SNS_LIST_EVERY i)
    if h.on (R.SNS_LIST_EN i) ∧ h.get (R.SNS_LIST_CONV i) = c ∧ h.get R.TRIM_EPOCH % k = h.get (R.SNS_LIST_PHASE i) % k then
      some (h.get (R.SNS_LIST_CHAN i)) else none

/-- An epoch start triggers converters 2 to 15 (R361). [log: DESIGN CHOICE 8] -/
def Hub.runList (h : Hub) : Hub := h.upto 14 fun i g => g.trigger (i + 2) (g.dueChannels (i + 2))

/-- An on-die sensor's code at or above `t` °C. -/
def Hub.sensorAbove (h : Hub) (t n : Nat) : Bool := decide (16 * (t + 64) ≤ h.get (R.SNS_CH_HELD n))

/-- Some on-die sensor reads at or above `t` °C. -/
def Hub.anySensorAbove (h : Hub) (t : Nat) : Bool := (List.range 112).any (h.sensorAbove t)

/-- The thermal trip (R363): idle allowances, islands toward their minimum, the plan at LO, a WARNING. -/
def Chip.thermalTrip (n : Nat) (c : Chip) : Chip :=
  let h := c.hub.put R.SNS_THERM_TRIPPED 1
  let h := h.upto 95 fun k g => g.setIsland k (islandMin k)
  let h := (h.warn 0x44 13 (degC (h.get (R.SNS_CH_HELD n))) n).powerRecord 1 1
  let h := if h.ready then h.applyPlan h.trim.plan else h
  (⟨h, c.mem⟩ : Chip).each [0, 1, 2, 3] fun s c =>
    if c.hub.pallow s then c.sendAllow s (4 * c.hub.get (R.YDL_PEER_PWR_P_IDLE s)) 0 (c.hub.get R.TRIM_EPOCH) else c

/-- A valid output of channel `n` (R360): the trip begins at TRIP_C and ends when every sensor is 5 °C below it. -/
def Chip.validOutput (n code : Nat) (c : Chip) : Chip :=
  let h := (((c.hub.put (R.SNS_CH_CODE n) code).put (R.SNS_CH_VALID n) 1).put (R.SNS_CH_SETTLING n) 0).put (R.SNS_CH_HELD n) code
  let h := { h with sns := { h.sns with seen := nset h.sns.seen n (h.get R.TRIM_EPOCH + 1) } }.put (R.SNS_CH_STALE n) 0
  let t := h.get R.SNS_THERM_TRIP_C
  if n < 112 ∧ h.sensorAbove t n ∧ ¬ h.on R.SNS_THERM_TRIPPED then Chip.thermalTrip n ⟨h, c.mem⟩
  else if h.on R.SNS_THERM_TRIPPED ∧ ¬ (List.range 112).any (fun i => decide (16 * (t - 5 + 64) < h.get (R.SNS_CH_HELD i))) then
    ⟨h.put R.SNS_THERM_TRIPPED 0, c.mem⟩
  else ⟨h, c.mem⟩

/-- Output 1 or 2 after a synchronising reset: code 0, not valid, settling. [log: DEDUCED 49] -/
def Hub.settlingOutput (n : Nat) (h : Hub) : Hub :=
  ((h.put (R.SNS_CH_CODE n) 0).put (R.SNS_CH_VALID n) 0).put (R.SNS_CH_SETTLING n) 1

/-- An output of channel `n`, if it exists. -/
def Chip.output (n code outs : Nat) (c : Chip) : Chip :=
  if 220 ≤ n then c else if outs < 3 then ⟨c.hub.settlingOutput n, c.mem⟩ else c.validOutput n code

/-- A scanning visit is over: the next begins, or the latched trigger's visits. [log: DEDUCED 49] -/
def Conv.advance (x : Conv) : Conv :=
  match x.seq.drop 1, x.latch with
  | [], some l => { seq := l, outs := 0, latch := none }
  | l, k => { seq := l, outs := 0, latch := k }

/-- A decimator's output (R360): converters 0 and 1 run on VIN and IIN, the others on their visit. [log: DEDUCED 49] -/
def Chip.senseOutput (cv code : Nat) (c : Chip) : Chip :=
  let x := c.hub.conv cv
  let o := min 3 (x.outs + 1)
  if cv < 2 then Chip.output (218 + cv) code o ⟨c.hub.setConv cv { x with outs := o }, c.mem⟩
  else match x.seq with
    | [] => c
    | n :: _ =>
      Chip.output n code o ⟨c.hub.setConv cv (if o = 3 then x.advance else { x with outs := o }), c.mem⟩

/-! ## Epochs -/

/-- What every epoch start does once its plan is applied: snapshot, sense lists, solve, allowances (R345). -/
def Chip.runEpoch (old : TrimPlan) (meas : List Nat) (hubStatic stackStatic : Nat) (c : Chip) : Chip :=
  let h := (((c.hub.measure meas hubStatic stackStatic).snapshot).runList).postSolve
  Chip.allowAll old ⟨h, c.mem⟩

/-- Default bounds of a variable at READY: the ends of its characterised range, a free value; a site's LO is its P_IDLE and
its HI min(P_MAX, 300 W); STATIC is a quarter of the way up. [log: DESIGN CHOICE 48] -/
def Hub.initVar (v : Nat) (h : Hub) : Hub :=
  let lo := if v < 4 then min 1200 (4 * h.get (R.YDL_PEER_PWR_P_IDLE v)) else if v < 41 then h.free % 2048 else 0
  let hi := if v < 4 then max lo (4 * min (h.get (R.YDL_PEER_CORES_P_MAX v)) 300)
    else if v < 41 then lo + h.drew.free % (2048 - lo) else 0
  let h := if v < 4 then h else h.drew.drew
  let h := { h with trim := { h.trim with char := nset h.trim.char v (lo + 4096 * hi) } }
  ((h.put (R.TRIM_VAR0_LO v) lo).put (R.TRIM_VAR0_HI v) hi).put (R.TRIM_VAR3_STATIC v) (lo + (hi - lo) / 4)

/-- Epoch 0 (R344, R346): every variable's bounds and the seed plan; without a good tile the static plan (R357). -/
def Chip.trimReady (meas : List Nat) (hubStatic stackStatic : Nat) (c : Chip) : Chip :=
  let h := c.hub.upto 48 Hub.initVar
  let h := ((h.put R.TRIM_EPOCH 0).upto 5 fun p g => g.put (R.TRIM_POOL_RATIO p) 256).measure meas hubStatic stackStatic
  let bound (v x : Nat) : Nat := clampNat (qW * h.varLo v) (qW * h.varHi v) (qW * x)
  let seed : TrimPlan := { mode := 0, rmax := 4,
                           x := ((List.range 40).map fun v => bound v (h.get (R.TRIM_VAR3_MEAS v))) ++ List.replicate 8 0 }
  let still : TrimPlan := { mode := 3, rmax := 4,
                            x := (packageRow h.pkgRoom).project ((List.range 41).map h.varLo)
                              ((List.range 41).map fun v => bound v (h.get (R.TRIM_VAR3_STATIC v))) ++ List.replicate 7 0 }
  let h := if h.get R.MAP_COUNT_TILE = 0 then (h.warn 0x41 0 0 0xFFFF).applyPlan still else h.applyPlan seed
  Chip.runEpoch TrimPlan.empty meas hubStatic stackStatic ⟨h, c.mem⟩

/-- The plan for the epoch that begins: the prepared one; after a solve that has not ended in time, the fallback. -/
def Chip.takeNext (c : Chip) : Chip :=
  let c := if c.hub.trim.posted then (⟨c.hub.rejectSolve, c.mem⟩ : Chip).endSolve else c
  match c.hub.trim.next with
  | none => ⟨c.hub.applyPlan c.hub.trim.plan, c.mem⟩
  | some p => ⟨{ c.hub with trim := { c.hub.trim with next := none } }.applyPlan p, c.mem⟩

/-- An epoch start after READY. -/
def Chip.epochStart (meas : List Nat) (hubStatic stackStatic : Nat) (c : Chip) : Chip :=
  if !c.hub.ready then c
  else
    let old := c.hub.trim.plan
    let c : Chip := ⟨c.hub.put R.TRIM_EPOCH ((c.hub.get R.TRIM_EPOCH + 1) % 2 ^ 32), c.mem⟩
    Chip.runEpoch old meas hubStatic stackStatic ⟨c.takeNext.hub.newEpoch, c.takeNext.mem⟩

/-! ## Meanings -/

/-- TRIM_EPOCH_START (R345): `meas` holds the measured powers of hub variables 4 to 39, and the static powers, 0.25 W. -/
def execTrimEpochStart (meas : List Nat) (hubStatic stackStatic : Nat) (s : State) : Host.Outcome State Fault Refusal :=
  s.actMem (Ok.trimEpochStart meas hubStatic stackStatic) (Chip.epochStart meas hubStatic stackStatic)

/-- TRIM_SOLVE_COMPLETE (R351, R353): the solve's status, iterations and duration, and the iterate it reached, x in µW and µK with
its multipliers y in the same units, if it reached one. RELRES is that of the iterate in the QP of the snapshot.
[log: DESIGN CHOICE 48] -/
def execTrimSolveComplete (status iters us : Nat) (x : List Nat) (y : List Int) (s : State) : Host.Outcome State Fault Refusal :=
  s.actMem (Ok.trimSolveComplete status iters us x y) fun c =>
    if c.hub.trim.posted then
      let relres := c.hub.trim.snap.qp.relres x y
      let h := ((c.hub.put R.TRIM_STAT_LAST status).put R.TRIM_RELRES_LO relres).put R.TRIM_RELRES_HI (relres / 2 ^ 32)
      let h := ((h.countEvents 15 iters).put R.TRIM_SOLVE_ITERS iters).put R.TRIM_SOLVE_TIME_US us
      (⟨h.judgeSolve status relres x, c.mem⟩ : Chip).endSolve
    else c

/-- SENSE_OUTPUT (R360): the output of converter `c`'s decimator. [log: DESIGN CHOICE 56] -/
def execSenseOutput (c code : Nat) (s : State) : Host.Outcome State Fault Refusal :=
  s.actMem (Ok.senseOutput c code) (Chip.senseOutput c code)

/-- A write of SNS_CONV_c: CHAN is stored; TRIG is a trigger for one visit to it, ignored and logged on converters 0 and 1. -/
def Hub.convWrite (req : Path) (c : Nat) (v : Word) (h : Hub) : Hub :=
  let h := h.put (R.SNS_CONV_CHAN c) (bitsOf v 8 9)
  if bitsOf v 0 1 = 0 then h
  else if c < 2 then h.logAccess 0x13 req (0x30010 + 0x10 * c) v.toNat
  else h.trigger c [bitsOf v 8 9]

/-- SENSE_TRIGGER (R361): a write of SNS_CONV_c with TRIG = 1. -/
def execSenseTrigger (req : Path) (c : Nat) (v : Word) (s : State) : Host.Outcome State Fault Refusal :=
  s.act (Ok.senseTrigger req c v) (Hub.pfWrite req (Hub.convWrite req c (v ||| 1)))

/-- Every decimator resets (R360): the visits under way begin again. -/
def Hub.senseSync (h : Hub) : Hub :=
  let h := h.upto 16 fun c g => g.setConv c { g.conv c with outs := 0 }
  (h.put (R.SNS_CH_VALID 218) 0).put (R.SNS_CH_VALID 219) 0

/-- SENSE_SYNC (R360): a write of 1 to SNS_CTRL.SYNC. -/
def execSenseSync (req : Path) (s : State) : Host.Outcome State Fault Refusal :=
  s.act (Ok.senseSync req) (Hub.pfWrite req Hub.senseSync)

/-- THERMAL_TRIP_TIMEOUT (R363): 1 ms after a trip a sensor still at TRIP_C + 5 °C or above is FATAL. -/
def execThermalTripTimeout (s : State) : Host.Outcome State Fault Refusal :=
  s.act Ok.thermalTripTimeout fun h =>
    if h.on R.SNS_THERM_TRIPPED ∧ h.anySensorAbove (h.get R.SNS_THERM_TRIP_C + 5) then h.fatal 0x04 0 0xFFFF else h

end Sys2Proof.Machine
end

