-- ==== Sys2Proof/Machine/Ydl.lean ====
section
/-!
DEFINITION. The flit layer of the Yelermica Die Link (R244 to R260): the CRC and the valid word, accepting flits in order,
acknowledgement and replay, the drop of a module, and planned changes of the module set. Delivered flits are handed to the
messages of Site.lean in Link.lean.
-/
namespace Sys2Proof.Machine

/-! ## The valid word (R246, R247) -/

/-- What a valid word marks: 0 a flit, 1 an empty slot, 2 a framing error (R246). -/
def slotKind (v : Nat) : Nat := if v % 16 = 3 then 0 else if v % 16 = 5 then 1 else 2

/-- The telltale bits of a valid word. -/
def slotLevel (v : Nat) : Nat := v / 16 % 4

/-- The word's V[7:6] is not the complement of its telltale bits (R247). -/
def slotReserved (v : Nat) : Bool := v / 64 % 4 + slotLevel v != 3

/-! ## The module set -/

/-- Logical number of physical module `p` in a set. -/
def logicalIn (set : List Nat) (p : Nat) : Nat := (set.findIdx? fun q => q == p).getD 0x3F

/-- Show the module set of site `s`: LIVE, and each module's logical number. -/
def Hub.showSet (s : Nat) (h : Hub) : Hub :=
  let l := (h.siteS s).setTx
  let h := h.put (R.YDL_STAT_LIVE s) l.length
  h.upto 34 fun p h => h.put (R.YDL_MOD_LOGICAL s p) (logicalIn l p)

/-- Send a LINK flit on module `p` with SEQ `seq`; bytes after `body` are 0 (the LINK op table). -/
def Hub.linkOut (s p seq : Nat) (body : List Byte) (h : Hub) : Hub := h.send (flitOut s p seq 0 (padTo 64 body))

/-- REPLAY_START's payload. -/
def replayBody (mset : Nat) : List Byte := [2, 0, BitVec.ofNat 8 mset]

/-- Payload of DROP_REQ (`op` 3) and DROP_ACK (4). -/
def dropBody (op p mset xr cause : Nat) : List Byte :=
  [BitVec.ofNat 8 op, BitVec.ofNat 8 p, BitVec.ofNat 8 mset, 0] ++ leBytes 4 xr ++ [BitVec.ofNat 8 cause]

/-- ACK's payload: FIRST, MSET and the entries (R253). -/
def ackBody (first mset : Nat) (entries : List (Nat × Nat)) : List Byte :=
  [1, BitVec.ofNat 8 first, BitVec.ofNat 8 mset, 0] ++ entries.flatMap fun e => [BitVec.ofNat 8 e.1, BitVec.ofNat 8 e.2]

/-! ## Replay (R254, R255) -/

/-- The hub's next undelivered SFN in the direction it receives: XR (R257). -/
def Hub.ownXr (h : Hub) (s : Nat) : Nat := h.get (R.YDL_SFN_RX_SFN s)

/-- The map command in progress concerns module `p` of site `s`. -/
def Hub.cmdOf (h : Hub) (s p : Nat) : Bool :=
  match h.map.cmd with
  | some m => m.type == 3 && m.site == s && m.phys == p
  | none => false

/-- Abandon a planned change (corner of R260): the module it was adding is a spare again and is proposed again; a removal ends
its command CANCELLED. [log: DEDUCED 40] -/
def Hub.abandonChange (s : Nat) (h : Hub) : Hub :=
  match (h.siteS s).change with
  | none => h
  | some c =>
    let h := (h.onSite s fun x => { x with change := none, again := if c.remove then none else some c.module }).put (R.YDL_STAT_STATE s) 2
    let h := (h.onMap fun m => { m with changes := m.changes.filter fun x => !(x.type == 3 && x.site == s && x.phys == c.module) }).showQueued
    if h.cmdOf s c.module then (if c.remove then h.mapDone 9 else h.mapPhase 1) else h

/-- Send DROP_REQ for the exchange in progress on every other module of the set (R257). -/
def Hub.sendDropReq (s : Nat) (h : Hub) : Hub :=
  match (h.siteS s).dropx with
  | none => h
  | some d =>
    Hub.each ((h.siteS s).setTx.filter fun p => p != d.module)
      (fun p g => g.linkOut s p 0 (dropBody 3 d.module (g.get (R.YDL_EVT_MSET_RX s)) (g.ownXr s) d.cause)) h

/-- The set that a drop of module `p` leaves: a planned change that has reached one direction only is undone. -/
def SiteS.dropSet (x : SiteS) (p : Nat) : List Nat :=
  (match x.change with
   | some c => if c.txDone then x.setRx else x.setTx
   | none => x.setTx).filter fun q => q != p

/-- The map change of a module that has failed: Retired with CAUSE 6 (R258). -/
def lostModule (s p : Nat) : MapChange :=
  { join := false, type := 3, site := s, phys := p, logical := 0x7FF, spare := 0x7FF, cause := 6, abort := false, byCmd := false }

/-- Module `p` of site `s` has failed, cause 1 replay or 2 drift (R244, R255 to R258): the exchange begins, or the site is dropped if
fewer than 8 modules would be left. A spare that fails carries nothing and is retired without an exchange. [log: DEDUCED 40] -/
def Chip.moduleFail (s p cause : Nat) (c : Chip) : Chip :=
  let h := c.hub.put (R.YDL_MOD_CAUSE s p) cause
  if ¬ h.siteUp s then c
  else if h.get (R.YDL_MOD_STATE s p) = 2 then ⟨(h.put (R.YDL_MOD_STATE s p) 4).stageChange (lostModule s p), c.mem⟩
  else if ¬ (h.siteS s).setTx.contains p ∨ (h.siteS s).dropx.isSome then c
  else if ((h.siteS s).dropSet p).length < 8 then (⟨h, c.mem⟩ : Chip).siteDrop s 6
  else ⟨(h.onSite s fun x => { x with dropx := some { module := p, cause := cause } }).sendDropReq s, c.mem⟩

/-- The flits of a replay buffer from sequence number `e` on. -/
def fromSeq (e : Nat) (l : List TxFlit) : List TxFlit := l.dropWhile fun f => f.seq != e

/-- Replay module `p` from `e` (R254): REPLAY_START, then every flit from `e` on; a ninth replay of one `e` fails the module
(R255). -/
def Chip.replay (s p e : Nat) (c : Chip) : Chip :=
  let h := c.hub
  let n := h.get (R.YDL_MOD_RUN s p)
  if 8 ≤ n then c.moduleFail s p 1
  else
    let h := (h.put (R.YDL_MOD_RUN s p) (n + 1)).bump (R.YDL_REPLAY_COUNT s) 1 |>.countEvent 8
    let h := h.linkOut s p e (replayBody (h.get (R.YDL_STAT_MSET_TX s)))
    ⟨Hub.each (fromSeq e ((h.siteS s).mod p).txBuf) (fun f g => g.send (flitOut s p f.seq f.type f.payload)) h, c.mem⟩

/-- REPLAY_TIMEOUT (R254): flits beyond the last reported EXP have gone unanswered. -/
def execReplayTimeout (site module : Nat) (s : State) : Host.Outcome State Fault Refusal :=
  s.actMem (Ok.replayTimeout site module) fun c =>
    let m := (c.hub.siteS site).mod module
    if c.hub.siteUp site ∧ (c.hub.siteS site).setTx.contains module ∧ fromSeq m.txExp m.txBuf ≠ [] then
      c.replay site module m.txExp else c

/-! ## Acknowledgement (R253) -/

/-- Free a replay buffer up to sequence number `dlv`. -/
def freeTo (dlv : Nat) (l : List TxFlit) : List TxFlit :=
  if l.any fun f => f.seq == dlv then (l.dropWhile fun f => f.seq != dlv).drop 1 else l

/-- The escape credit returns once its CREDIT flit is reported delivered (R276). [log: DEDUCED 40] -/
def SiteS.escapeBack (x : SiteS) : SiteS :=
  if x.escape ∨ x.txq.any (fun f => f.sfn == x.escSfn) ∨ x.mods.any (fun e => e.2.txBuf.any fun f => f.sfn == x.escSfn) then x
  else { x with escape := true }

/-- One entry of an ACK, for physical module `p`: DLV frees the buffer, an EXP that advances ends the run of replays, and NAK
asks for a replay from EXP. -/
def Chip.ackEntry (s p : Nat) (e : Nat × Nat) (c : Chip) : Chip :=
  let exp := e.2 % 64
  let h := if exp = ((c.hub.siteS s).mod p).txExp then c.hub else c.hub.put (R.YDL_MOD_RUN s p) 0
  let h := h.onSite s fun x => x.onMod p fun m =>
    { m with txExp := exp, txBuf := if e.1 / 64 % 2 = 1 then freeTo (e.1 % 64) m.txBuf else m.txBuf }
  if e.2 / 64 % 2 = 1 then (⟨h.bump (R.YDL_MODCNT_TX_NAK s p) 1, c.mem⟩ : Chip).replay s p exp else ⟨h, c.mem⟩

/-- An ACK flit (R253): ignored unless its MSET is the current one. -/
def Chip.takeAck (s first mset : Nat) (entries : List (Nat × Nat)) (c : Chip) : Chip :=
  if ¬ c.hub.siteUp s ∨ mset ≠ c.hub.get (R.YDL_STAT_MSET_TX s) then c
  else
    let set := (c.hub.siteS s).setTx
    let c := Chip.each entries.zipIdx (fun e c => if first + e.2 < set.length then c.ackEntry s (set.getD (first + e.2) 34) e.1 else c) c
    ⟨(c.hub.onSite s SiteS.escapeBack).pump s, c.mem⟩

/-- ACK (R253). -/
def execAck (site first mset : Nat) (entries : List (Nat × Nat)) (s : State) : Host.Outcome State Fault Refusal :=
  s.actMem (Ok.ack site first mset entries) (Chip.takeAck site first mset entries)

/-- The entry of module `p` in the hub's ACK flits: DLV and DLV_V, EXP and NAK. -/
def ModLink.ackEntry (m : ModLink) : Nat × Nat := (if m.dlv = 0 then 0 else (m.dlv - 1) % 64 + 64, m.exp % 64 + 64 * b2n m.asked)

/-- Send the ACK flit of 16 logical modules from `first` on. -/
def Hub.sendAck (s first : Nat) (h : Hub) : Hub :=
  let x := h.siteS s
  let part := (x.setRx.drop first).take 16
  if part = [] then h
  else
    let nak := (part.filter fun p => (x.mod p).asked).length
    let h := h.linkOut s (x.setTx.getD 0 34) 0 (ackBody first (h.get (R.YDL_EVT_MSET_RX s)) (part.map fun p => (x.mod p).ackEntry))
    let h := h.onSite s fun x => part.foldl (fun x p => x.onMod p fun m => { m with asked := false, changed := false }) x
    if nak = 0 then h else h.bump (R.YDL_NAKS_COUNT s) nak

/-- ACK_INTERVAL (R253): ACK flits for every logical module while any entry has changed. -/
def execAckInterval (site : Nat) (s : State) : Host.Outcome State Fault Refusal :=
  s.act (Ok.ackInterval site) fun h =>
    if h.siteUp site ∧ (h.siteS site).setRx.any fun p => ((h.siteS site).mod p).changed || ((h.siteS site).mod p).asked then
      (h.sendAck site 0).sendAck site 16 else h

/-! ## The drop of a module (R257, R258) -/

/-- Insert a flit by SFN, counted from `b`. -/
def insertSfn (b : Nat) (f : TxFlit) : List TxFlit → List TxFlit
  | [] => [f]
  | g :: l => if (f.sfn + 2 ^ 32 - b) % 2 ^ 32 < (g.sfn + 2 ^ 32 - b) % 2 ^ 32 then f :: g :: l else g :: insertSfn b f l

/-- Every flit at or above SFN `b` that waits or is undelivered, in SFN order. -/
def SiteS.unsent (x : SiteS) (b : Nat) : List TxFlit :=
  ((x.mods.flatMap fun e => e.2.txBuf) ++ x.txq).foldl
    (fun l f => if (f.sfn + 2 ^ 32 - b) % 2 ^ 32 < 2 ^ 31 then insertSfn b f l else l) []

/-- A module at the start of a generation after a drop. [log: DEDUCED 40] -/
def ModLink.restart (m : ModLink) : ModLink :=
  { m with txSeq := 0, txBuf := [], txExp := 0, exp := 0, nak := false, armed := false, dlv := 0, asked := false, changed := false }

/-- Both directions move to MSET + 1 without module `p` (R257): a planned change is abandoned, held flits at or above the hub's XR
are discarded, every exp is 0, and every flit from the other end's XR on is sent again in the new rotation after a REPLAY_START
with SEQ 0. -/
def Hub.dropModule (s p cause xr : Nat) (h : Hub) : Hub :=
  let own := h.ownXr s
  let x := h.siteS s
  let set := x.dropSet p
  let l := x.unsent xr
  let h := (h.abandonChange s).onSite s fun x =>
    { x with
      mods := x.mods.map fun e => (e.1, e.2.restart), setTx := set, setRx := set, baseTx := xr, baseRx := own, held := [],
      txq := l, dropx := none, lastDrop := some (p, own), spareDue := x.spareDue + 1,
      again := if x.again = some p then none else x.again }
  let h := h.put (R.YDL_SFN_TX_SFN s) xr
  let h := (h.put (R.YDL_STAT_MSET_TX s) (h.get (R.YDL_STAT_MSET_TX s) + 1)).put (R.YDL_EVT_MSET_RX s) (h.get (R.YDL_EVT_MSET_RX s) + 1)
  let h := ((h.put (R.YDL_MOD_STATE s p) 4).put (R.YDL_MOD_CAUSE s p) cause).bump (R.YDL_EVT_DROPS s) 1
  let h := Hub.each set (fun q g => (g.put (R.YDL_MOD_RUN s q) 0).linkOut s q 0 (replayBody (g.get (R.YDL_STAT_MSET_TX s)))) (h.showSet s)
  (h.pump s).stageChange (lostModule s p)

/-- Answer a DROP_REQ for module `p`, on the first other module of the set. -/
def Hub.dropAck (s p mset xr cause : Nat) (h : Hub) : Hub :=
  h.linkOut s (((h.siteS s).setTx.filter fun q => q != p).getD 0 34) 0 (dropBody 4 p mset xr cause)

/-- A DROP_REQ that is no copy of one carried out: it must name the generation in force and a module of the set. -/
def Chip.freshDropReq (s p mset xr cause : Nat) (c : Chip) : Chip :=
  let h := c.hub
  let x := h.siteS s
  if mset ≠ h.get (R.YDL_STAT_MSET_TX s) ∨ ¬ x.setTx.contains p then c
  else match x.dropx with
    | some d => if d.module = p then ⟨h.dropModule s p d.cause xr, c.mem⟩ else c
    | none =>
      if (x.dropSet p).length < 8 then c.siteDrop s 6
      else ⟨(h.dropAck s p (h.get (R.YDL_EVT_MSET_RX s)) (h.ownXr s) cause).dropModule s p cause xr, c.mem⟩

/-- A DROP_REQ of the die (R257): taken as DROP_ACK of the hub's own for the same module; set aside while the hub's own for
another is in progress; else answered with DROP_ACK and carried out. A copy of one that has been carried out is answered again.
[log: DEDUCED 40] -/
def Chip.takeDropReq (s p mset xr cause : Nat) (c : Chip) : Chip :=
  let h := c.hub
  let x := h.siteS s
  let now := h.get (R.YDL_STAT_MSET_TX s)
  if ¬ h.siteUp s then c
  else match x.lastDrop with
    | some (q, own) =>
      if q = p ∧ (mset + 1) % 256 = now then ⟨h.dropAck s p ((h.get (R.YDL_EVT_MSET_RX s) + 255) % 256) own cause, c.mem⟩
      else c.freshDropReq s p mset xr cause
    | none => c.freshDropReq s p mset xr cause

/-- DROP_REQ (R257). -/
def execDropReq (site module mset xr cause : Nat) (s : State) : Host.Outcome State Fault Refusal :=
  s.actMem (Ok.dropReq site module mset xr cause) (Chip.takeDropReq site module mset xr cause)

/-- The die's DROP_ACK completes the exchange the hub began (R257). -/
def Hub.takeDropAck (s p mset xr : Nat) (h : Hub) : Hub :=
  if ¬ h.siteUp s ∨ mset ≠ h.get (R.YDL_STAT_MSET_TX s) then h
  else match (h.siteS s).dropx with
    | some d => if d.module = p then h.dropModule s p d.cause xr else h
    | none => h

/-- DROP_ACK (R257). -/
def execDropAck (site module mset xr : Nat) (s : State) : Host.Outcome State Fault Refusal :=
  s.act (Ok.dropAck site module mset xr) (Hub.takeDropAck site module mset xr)

/-- DROP_REQ_REPEAT (R257). -/
def execDropReqRepeat (site : Nat) (s : State) : Host.Outcome State Fault Refusal :=
  s.act (Ok.dropReqRepeat site) (Hub.sendDropReq site)

/-- A signed step count in 6 bits. -/
def stepsOf (v : Nat) : Int := signed 6 v

/-- DRIFT_UPDATE (R243, R244): every lane of a trained module, spare or in the set, moves by at most one step, in the direction the V
lane shows; a module that would need more than 16 fails with cause drift. [log: DESIGN CHOICE 56] -/
def execDriftUpdate (site module : Nat) (up : Bool) (s : State) : Host.Outcome State Fault Refusal :=
  s.actMem (Ok.driftUpdate site module up) fun c =>
    let o := stepsOf (c.hub.get (R.YDL_DRIFT_OFFSET site module)) + (if up then 1 else -1)
    if ¬ [1, 2].contains (c.hub.get (R.YDL_MOD_STATE site module)) then c
    else if 16 < o.natAbs then c.moduleFail site module 2
    else
      let h := c.hub.put (R.YDL_DRIFT_OFFSET site module) (unsigned 6 o)
      ⟨h.put (R.YDL_DRIFT_PEAK site module) (max (h.get (R.YDL_DRIFT_PEAK site module)) o.natAbs), c.mem⟩

/-! ## Training steps (R241, R266) -/

/-- A mask of modules as the five bytes of a frame. -/
def maskBytes (m : Nat) : List Nat := (leBytes 5 m).map fun b => b.toNat

/-- The seeds of the lanes' PRBS: lane n takes n + 1, D lanes 0 to 63, C lanes 64 to 67, and V, where it sends a pattern, 69 (R241,
R287). -/
def laneSeeds (v : Bool) : List Nat := (List.range (if v then 69 else 68)).map (· + 1)

/-- Begin a training step of a mask of modules; T1 begins their training afresh: drift, replay count and cause are those of a module
that has trained nothing. -/
def Hub.trainStep (s step mask : Nat) (h : Hub) : Hub :=
  let h := h.onSite s fun x => { x with step := step, mask := mask, testBad := 0, hubPass := none, diePass := none }
  let h := h.upto 34 fun p h =>
    if ¬ bit mask p then h
    else
      let h := h.put (R.YDL_MOD_STATE s p) 3
      if step = 1 then
        ((((h.put (R.YDL_MOD_RUN s p) 0).put (R.YDL_MOD_CAUSE s p) 0).put (R.YDL_TRN_STEP s p) 0).put (R.YDL_DRIFT_OFFSET s p) 0).put
          (R.YDL_DRIFT_PEAK s p) 0
      else h
  let prbs := if step = 3 ∨ step = 4 ∨ step = 6 then 15 else 0
  (h.sbSend s 6 (step :: maskBytes mask)).send (.pattern s step mask prbs (if step = 3 ∨ step = 4 then laneSeeds false else []))

/-! ## Planned changes (R259, R260) -/

/-- Propose to add or remove module `p`: the hub's switch SFN lies 4,096 beyond its next (R260). [log: DEDUCED 40] -/
def Hub.proposeSet (s : Nat) (remove : Bool) (p : Nat) (h : Hub) : Hub :=
  let xh := (h.get (R.YDL_SFN_TX_SFN s) + 4096) % 2 ^ 32
  let h := h.onSite s fun x =>
    { x with change := some { remove := remove, module := p, xh := xh, xd := none, txDone := false, rxDone := false }, again := none }
  (h.put (R.YDL_STAT_STATE s) 3).sendReq s 0x70
    ([if remove then 1 else 0, BitVec.ofNat 8 p, BitVec.ofNat 8 (h.get (R.YDL_STAT_MSET_TX s) + 1), 0] ++ leBytes 4 xh)

/-- A change can be proposed: the link is UP and neither a change nor a drop is in progress. -/
def Hub.canPropose (h : Hub) (s : Nat) : Bool :=
  h.get (R.YDL_STAT_STATE s) == 2 && (h.siteS s).change.isNone && (h.siteS s).dropx.isNone

/-- A retirement of a module of site `s` waits to be proposed. -/
def Hub.cmdRemoves (h : Hub) (s : Nat) : Bool :=
  match h.map.cmd with
  | some m => !m.join && m.type == 3 && m.site == s && m.phase == 1
  | none => false

/-- SPARE_PROPOSAL (R259): after a drop, with AUTO_SPARE set, the lowest-numbered spare is proposed as logical module m, one for each
drop; a module whose change was abandoned is proposed again. -/
def execSpareProposal (site : Nat) (s : State) : Host.Outcome State Fault Refusal :=
  s.act (Ok.spareProposal site) fun h =>
    let x := h.siteS site
    if ¬ h.canPropose site then h
    else if h.cmdRemoves site then h.proposeSet site true ((h.map.cmd.map fun m => m.phys).getD 34)
    else match x.again with
      | some p => h.proposeSet site false p
      | none =>
        if h.on (R.YDL_CTRL_AUTO_SPARE site) ∧ x.setTx.length < 32 ∧ 0 < x.spareDue then
          match (List.range 34).find? fun p => h.get (R.YDL_MOD_STATE site p) == 2 with
          | none => h
          | some p => (h.onSite site fun x => { x with spareDue := x.spareDue - 1 }).proposeSet site false p
        else h

/-- The die accepts a planned change with its own switch SFN; an added module expects SEQ 0, and the map change waits for the next
epoch (R90, R260). -/
def Hub.setAccept (s xd : Nat) (h : Hub) : Hub :=
  match (h.siteS s).change with
  | none => h
  | some c =>
    if c.xd.isSome ∨ (h.siteS s).dropx.isSome then h
    else
      let h := h.onSite s fun x =>
        let y := { x with change := some { c with xd := some xd } }
        if c.remove then y else y.onMod c.module fun m => { m with exp := 0, nak := false, armed := false, dlv := 0 }
      if h.cmdOf s c.module then h.stageCmd
      else if c.remove then h
      else h.stageChange { join := true, type := 3, site := s, phys := c.module, logical := 0x7FF, spare := 0x7FF, cause := 0,
                           abort := false, byCmd := false }

/-- SET_ACCEPT (R260). -/
def execSetAccept (site xd : Nat) (s : State) : Host.Outcome State Fault Refusal :=
  s.actMem (Ok.setAccept site xd) fun c => c.consume site 1 1 fun c => ⟨c.hub.setAccept site xd, c.mem⟩

/-- A set after a change. -/
def SetChange.apply (c : SetChange) (set : List Nat) : List Nat :=
  if c.remove then set.filter fun q => q != c.module else set ++ [c.module]

/-- A planned change is complete when both directions have switched. -/
def Hub.endChange (s : Nat) (h : Hub) : Hub :=
  match (h.siteS s).change with
  | none => h
  | some c =>
    if c.txDone ∧ c.rxDone then
      let h := (h.onSite s fun x => { x with change := none }).bump (R.YDL_EVT_CHANGES s) 1
      ((h.put (R.YDL_STAT_STATE s) 2).put (R.YDL_MOD_STATE s c.module) (if c.remove then 5 else 1)).showSet s
    else h

/-- Every flit below the hub's switch SFN has been sent, and a module that leaves has had its own delivered (R260).
[log: DEDUCED 40] -/
def SiteS.txReached (x : SiteS) (c : SetChange) (next : Nat) : Bool :=
  decide ((next + 2 ^ 32 - c.xh) % 2 ^ 32 < 2 ^ 31) && (!c.remove || (x.mod c.module).txBuf == [])

/-- Hub-to-site flits move to MSET + 1 with B = X_h; an added module starts at SEQ 0 after a REPLAY_START (R260). -/
def Hub.switchTx (s : Nat) (c : SetChange) (h : Hub) : Hub :=
  let h := h.onSite s fun x =>
    { x with change := some { c with txDone := true }, setTx := c.apply x.setTx, baseTx := c.xh }
  let h := h.put (R.YDL_STAT_MSET_TX s) (h.get (R.YDL_STAT_MSET_TX s) + 1)
  let h := if c.remove then h
    else (h.onSite s fun x => x.onMod c.module fun m => { m with txSeq := 0, txBuf := [], txExp := 0 }).linkOut s c.module 0
      (replayBody (h.get (R.YDL_STAT_MSET_TX s)))
  ((h.showSet s).pump s).endChange s

/-- Site-to-hub flits move to MSET + 1 with B = X_d, under which nothing has been delivered yet (R253). -/
def Hub.switchRx (s : Nat) (c : SetChange) (xd : Nat) (h : Hub) : Hub :=
  let h := h.onSite s fun x =>
    { x with
      change := some { c with rxDone := true }, setRx := c.apply x.setRx, baseRx := xd,
      mods := x.mods.map fun e => (e.1, { e.2 with dlv := 0, changed := true }) }
  let h := h.put (R.YDL_EVT_MSET_RX s) (h.get (R.YDL_EVT_MSET_RX s) + 1)
  h.endChange s

/-- A direction of site `s` reaches its switch SFN (R260). [log: DEDUCED 40] -/
def Hub.msetSwitch (s : Nat) (tx : Bool) (h : Hub) : Hub :=
  match (h.siteS s).change with
  | none => h
  | some c =>
    match c.xd with
    | none => h
    | some xd =>
      if (h.siteS s).dropx.isSome then h
      else if tx then (if !c.txDone && (h.siteS s).txReached c (h.get (R.YDL_SFN_TX_SFN s)) then h.switchTx s c else h)
      else if !c.rxDone && h.ownXr s == xd then h.switchRx s c xd else h

/-- MSET_SWITCH (R260). -/
def execMsetSwitch (site : Nat) (tx : Bool) (s : State) : Host.Outcome State Fault Refusal :=
  s.act (Ok.msetSwitch site tx) (Hub.msetSwitch site tx)

/-- A REPLAY_START marker arms a module whose expected sequence number it names, under the current generation (R252). -/
def Hub.replayStart (s p seq mset : Nat) (h : Hub) : Hub :=
  let m := (h.siteS s).mod p
  if h.siteUp s ∧ seq = m.exp ∧ mset = h.get (R.YDL_EVT_MSET_RX s) then
    h.onSite s fun x => x.onMod p fun m => { m with armed := true } else h

/-- REPLAY_START (R252). -/
def execReplayStart (site module seq mset : Nat) (s : State) : Host.Outcome State Fault Refusal :=
  s.act (Ok.replayStart site module seq mset) (Hub.replayStart site module seq mset)

/-! ## Accepting flits (R251, R252) -/

/-- SFNs from `r` up to `x`, exclusive, that logical module `j` of `m` carries from base `b`. -/
def carried (b m j r x : Nat) : Nat :=
  let first := (j + m - (r + 2 ^ 32 - b) % 2 ^ 32 % m) % m
  let span := (x + 2 ^ 32 - r) % 2 ^ 32
  if span ≤ first then 0 else (span - first + m - 1) / m

/-- The SFN of the `k`-th flit from `r` on that logical module `j` of `m` carries. -/
def kthSfn (b m j r k : Nat) : Nat := (r + (j + m - (r + 2 ^ 32 - b) % 2 ^ 32 % m) % m + m * k) % 2 ^ 32

/-- The SFN of the next flit accepted on physical module `p`: the next in the rotation, across a planned change's X_d. -/
def SiteS.nextSfn (x : SiteS) (p r : Nat) : Nat :=
  let k := (x.held.filter fun f => f.module == p).length
  let m := x.setRx.length
  match x.change with
  | some c =>
    (match c.xd with
     | some xd =>
       if c.rxDone then kthSfn x.baseRx m (logicalIn x.setRx p) r k
       else
         let old := if x.setRx.contains p then carried x.baseRx m (logicalIn x.setRx p) r xd else 0
         if k < old then kthSfn x.baseRx m (logicalIn x.setRx p) r k
         else
           let set := c.apply x.setRx
           kthSfn xd set.length (logicalIn set p) xd (k - old)
     | none => kthSfn x.baseRx m (logicalIn x.setRx p) r k)
  | none => kthSfn x.baseRx m (logicalIn x.setRx p) r k

/-- Module `p` carries flits to the hub: it is in the set, or an agreed change adds it. -/
def SiteS.rxOn (x : SiteS) (p : Nat) : Bool :=
  x.setRx.contains p || match x.change with
    | some c => !c.remove && c.xd.isSome && c.module == p
    | none => false

/-- Accept a flit on module `p` (R252): it is held until its turn in SFN order. -/
def Hub.acceptFlit (s p seq type : Nat) (payload : List Byte) (h : Hub) : Hub :=
  let n := (h.siteS s).nextSfn p (h.ownXr s)
  h.onSite s fun x =>
    { (x.onMod p fun m => { m with exp := (m.exp + 1) % 64, nak := false, armed := false, changed := true }) with
      held := x.held ++ [{ sfn := n, seq := seq, module := p, type := type, payload := payload }] }

/-- A bad flit on module `p` (R252): counted, and answered with NAK unless one is pending and unarmed. -/
def Hub.badFlit (s p : Nat) (h : Hub) : Hub :=
  let m := (h.siteS s).mod p
  let h := h.bump (R.YDL_MODCNT_RX_ERR s p) 1
  if !m.nak || m.armed then
    (h.onSite s fun x => x.onMod p fun m => { m with nak := true, armed := false, asked := true }).sendAck s
      (logicalIn (h.siteS s).setRx p / 16 * 16)
  else h

/-- The telltale level of a valid word on logical module 0 (R247); a die without the capability sends 0. -/
def Hub.takeLevel (s p v : Nat) (h : Hub) : Hub :=
  if (h.siteS s).setRx.head? ≠ some p ∨ slotKind v = 2 then h
  else if slotReserved v then (h.setLevel s 0).bump (R.YDL_TT_BAD s) 1
  else h.setLevel s (slotLevel v)

/-- The flit next in SFN order, if it is held: it leaves the held flits, and its module reports it delivered (R251). -/
def Hub.nextFlit (s : Nat) (h : Hub) : Option (RxFlit × Hub) :=
  let r := h.ownXr s
  match (h.siteS s).held.find? fun f => f.sfn == r with
  | none => none
  | some f =>
    let h := h.onSite s fun x =>
      { (x.onMod f.module fun m => { m with dlv := f.seq + 1, changed := true }) with held := x.held.filter fun g => g.sfn != r }
    some (f, h.put (R.YDL_SFN_RX_SFN s) ((r + 1) % 2 ^ 32))

end Sys2Proof.Machine
end

