-- ==== Sys2Proof/Machine/Yew.lean ====
section
/-!
DEFINITION. The Yew log and its readers (R386 to R398): flushing, erasing, the token bucket, the last gasp's trigger and
recovery, the xSPI mirror, reading by SEQ, the MCTP responder, the persistent state region; and the meanings of
VIN_BELOW_WARN, LG_RECOVER, YEW_FLUSH, SECTOR_ERASE, BUCKET_REFILL, MIRROR_COPY, YEW_RD_SEQ and the MCTP commands.
-/
namespace Sys2Proof.Machine

/-! ## The state region (R387) -/

/-- The newer copy is A. -/
def YewS.newerA (y : YewS) : Bool := y.copyA.valid && (!y.copyB.valid || decide (y.copyB.version ≤ y.copyA.version))

/-- The valid copy with the higher version. -/
def YewS.region (y : YewS) : Region := if y.newerA then y.copyA else y.copyB

/-- Rewrite the older copy whole, with a version 1 higher. -/
def Hub.writeRegion (f : Region → Region) (h : Hub) : Hub :=
  let r := h.yew.region
  let r := { f r with version := r.version + 1, valid := true }
  { h with yew := if h.yew.newerA then { h.yew with copyB := r } else { h.yew with copyA := r } }

/-- A RETIRE or RETIRE_CANCEL record (R392). -/
def Hub.retireRecord (type ut site phys logical cause : Nat) (h : Hub) : Hub :=
  h.yewRecord type 0 true
    ([BitVec.ofNat 8 ut, BitVec.ofNat 8 site] ++ leBytes 2 phys ++ leBytes 2 logical ++ [BitVec.ofNat 8 cause])

/-- A PPR record (R392): event 0 queued, 1 cancelled, 2 done, 3 failed, by the model's numbering (assumption 4).
[log: DESIGN CHOICE 4] -/
def Hub.pprRecord (event addr : Nat) (h : Hub) : Hub :=
  h.yewRecord 0x22 0 true (padTo 8 [BitVec.ofNat 8 event] ++ leBytes 8 addr)

/-! ## Records (R388, R389) -/

/-- The 64 bytes of a record, its CRC last. -/
def YewRec.bytes (r : YewRec) : List Byte :=
  let b := leBytes 2 r.type ++ [BitVec.ofNat 8 r.sev, BitVec.ofNat 8 r.flags] ++ leBytes 4 r.seq ++ leBytes 8 r.time
    ++ leBytes 2 r.cold ++ [BitVec.ofNat 8 r.stage, 0] ++ padTo 40 r.payload
  b ++ leBytes 4 (crc32 b)

/-- Stored bits of a block in error. [log: DEDUCED 51] -/
def YewBlk.wrong (b : YewBlk) : Nat := if b.err = 0 then 0 else popCount 4208 b.err

/-- The programmed block that holds record `seq`, its number and the record. -/
def YewS.findBlk (y : YewS) (seq : Nat) : Option (Nat × YewBlk × YewRec) :=
  y.blocks.findSome? fun e => (e.2.recs.find? fun r => r.seq == seq).map fun r => (e.1, e.2, r)

/-- Byte offset of a block in the array. -/
def blkAddr (n : Nat) : Nat := 0x110000 + n % 6016 * 512

/-- Log what the BCH of a read block finds (R210, R213, R215): corrected bits, or an uncorrectable block. -/
def Hub.logNva (n wrong : Nat) (h : Hub) : Hub :=
  if wrong = 0 then h
  else if wrong ≤ 8 then h.rasLog { kind := 1, unit := 2, req := 0x3000, addr := blkAddr n, detail := wrong }
  else (h.bump R.RAS_UE_CNT_NVA 1).rasLog { kind := 2, unit := 2, sev := 1, req := 0x3000, addr := blkAddr n }

/-- Read a record by SEQ (R397): the record, whether its block was corrected, and the hub. A staged record is read from D0. A
block beyond correction gives none: the BCH or each record's CRC refuses it; whether the BCH detects ten bits or more is free. -/
def Hub.readRec (seq : Nat) (h : Hub) : Option YewRec × Bool × Hub :=
  match h.yew.staged.find? fun r => r.seq == seq with
  | some r => (some r, false, h)
  | none => match h.yew.findBlk seq with
    | none => (none, false, h)
    | some (n, b, r) =>
      let w := b.wrong
      if w ≤ 8 then (some r, w != 0, h.logNva n w)
      else if w = 9 then (none, false, h.logNva n w)
      else if h.free % 2 = 0 then (none, false, h.drew) else (none, false, h.drew.logNva n w)

/-- Up to `k` records from `seq` on, in order, until one is not there. -/
def Hub.readRecs : Nat → Nat → Hub → List YewRec × Hub
  | 0, _, h => ([], h)
  | k + 1, seq, h =>
    match h.readRec seq with
    | (none, _, h) => ([], h)
    | (some r, _, h) =>
      let t := Hub.readRecs k (nextSeq seq) h
      (r :: t.1, t.2)

/-- A write of YEW_RD_SEQ (R397). -/
def Hub.rdSeq (v : Word) (h : Hub) : Hub :=
  let h := h.put R.YEW_RD_SEQ v.toNat
  let r := h.readRec v.toNat
  let h := ((r.2.2.put R.YEW_RD_STAT_FOUND (b2n r.1.isSome)).put R.YEW_RD_STAT_NOT_FOUND (b2n r.1.isNone)).put
    R.YEW_RD_STAT_CORR (b2n r.2.1)
  match r.1 with
  | none => h
  | some x => h.upto 16 fun i g => g.put (R.YEW_RD_DATA i) (leAt x.bytes (4 * i) 4)

/-- YEW_RD_SEQ (R397). -/
def execYewRdSeq (req : Path) (v : Word) (s : State) : Host.Outcome State Fault Refusal :=
  s.act (Ok.yewRdSeq req v) (Hub.pfWrite req (Hub.rdSeq v))

/-! ## Staging, the ring and the bucket (R389 to R391) -/

/-- YEW_FLUSH (R389): FLUSH_S seconds have passed since the first staged record. -/
def execYewFlush (s : State) : Host.Outcome State Fault Refusal := s.act Ok.yewFlush Hub.flushStaged

/-- Show the oldest record's SEQ. -/
def Hub.showOldest (h : Hub) : Hub :=
  match h.yew.blocks.findSome? fun e => e.2.recs.head? with
  | some r => h.put R.YEW_OLDEST_SEQ r.seq
  | none => h

/-- Erase the oldest sector when fewer than two erased ones lie ahead of the write point (R390). -/
def Hub.eraseSector (h : Hub) : Hub :=
  if h.yew.erasedTo < h.yew.wp + 16 then
    let et := h.yew.erasedTo + 8
    { h with yew := { h.yew with erasedTo := et, blocks := Store.keep (fun b => decide (et ≤ b + 6016)) h.yew.blocks } }.showOldest
  else h

/-- SECTOR_ERASE (R390). -/
def execSectorErase (s : State) : Host.Outcome State Fault Refusal := s.act Ok.sectorErase Hub.eraseSector

/-- One token comes back (R391); with refused records behind, a SUPPRESSED record takes it and carries their count.
[log: DEDUCED 51] -/
def Hub.refill (h : Hub) : Hub :=
  let h := { h with yew := { h.yew with tokens := min (h.get R.YEW_CTRL_BURST) (h.yew.tokens + 1) } }
  let n := h.yew.refused
  if n = 0 ∨ h.yew.tokens = 0 then h
  else { h with yew := { h.yew with refused := 0 } }.yewRecord 0x70 0 false (leBytes 4 n)

/-- BUCKET_REFILL (R391): it comes RATE times a second. -/
def execBucketRefill (s : State) : Host.Outcome State Fault Refusal := s.act Ok.bucketRefill Hub.refill

/-! ## The mirror (R396) -/

/-- Blocks the mirror's ring holds. -/
def Hub.mirrorBlocks (h : Hub) : Nat := 128 * h.get R.YEW_XSPI_SIZE

/-- Copy the oldest block not yet mirrored; a device that fails the program stops the mirror. A last gasp's block waits for the
next S1. [log: DEDUCED 51] -/
def Hub.mirrorCopy (good : Bool) (h : Hub) : Hub :=
  match h.yew.unmirrored with
  | [] => h
  | n :: rest =>
    if !h.on R.YEW_CTRL_MIRROR_EN || h.mirrorBlocks == 0 || h.yew.mirrorOff || h.yew.lgInput then h
    else if !good then
      ({ h with yew := { h.yew with mirrorOff := true } }.put R.YEW_XSPI_STAT_ERR 1).warn 0x50 15 0 0
    else
      let x := match h.yew.blocks.find? fun e => e.1 == n with
        | some e => Store.insert (Store.erase h.yew.xspi n) n e.2
        | none => h.yew.xspi
      let h := { h with yew := { h.yew with
        unmirrored := rest, xspi := Store.keep (fun b => decide (n < b + h.mirrorBlocks)) x } }
      h.put R.YEW_XSPI_STAT_LAG rest.length

/-- MIRROR_COPY (R396): `good` says whether the device programs the block. -/
def execMirrorCopy (good : Bool) (s : State) : Host.Outcome State Fault Refusal :=
  s.act (Ok.mirrorCopy good) (Hub.mirrorCopy good)

/-! ## Last gasp (R393, R395) -/

/-- VIN_BELOW_WARN (R393): the comparator sees VIN cross below VIN_WARN. -/
def execVinBelowWarn (s : State) : Host.Outcome State Fault Refusal :=
  s.act Ok.vinBelowWarn fun h =>
    if h.pins.vinLow ∨ h.pins.d0Reset then h
    else { h with pins := { h.pins with vinLow := true } }.lastGasp 1

/-- LG_RECOVER (R395): the input has recovered before VHOLD fell: dispatch resumes, VHOLD charges, a WARNING. -/
def execLgRecover (s : State) : Host.Outcome State Fault Refusal :=
  s.act Ok.lgRecover fun h =>
    if h.yew.lgInput ∧ h.pins.pwrgood ∧ ¬ h.pins.d0Reset then
      { h with
        pins := { h.pins with vinLow := false }
        yew := { h.yew with lgInput := false, dispStop := h.test.scan || h.boot.fatalEnd }
        power := { h.power with charger := true } }.warn 0x15 0 0 0xFFFF
    else h

/-! ## The MCTP responder (R398) -/

/-- Answer the board management controller: always while D0 is powered. [log: DEDUCED 52] -/
def Hub.mctp (cmd : Nat) (f : Hub → List Byte) (h : Hub) : Hub := if h.pins.d0Reset then h else h.send (.mctp cmd (f h))

/-- SET_ENDPOINT_ID (R398): 0 and 255 are no endpoint IDs, and leave it as it is. [log: DEDUCED 52] -/
def execSetEndpointId (eid : Nat) (s : State) : Host.Outcome State Fault Refusal :=
  s.act (Ok.setEndpointId eid) fun h =>
    let h := if h.pins.d0Reset ∨ eid = 0 ∨ eid = 255 then h else { h with yew := { h.yew with eid := eid } }
    h.mctp 0x01 fun h => [BitVec.ofNat 8 h.yew.eid]

/-- GET_ENDPOINT_ID (R398). -/
def execGetEndpointId (s : State) : Host.Outcome State Fault Refusal :=
  s.act Ok.getEndpointId (Hub.mctp 0x02 fun h => [BitVec.ofNat 8 h.yew.eid])

/-- GET_MCTP_VERSION_SUPPORT (R398). -/
def execGetMctpVersionSupport (s : State) : Host.Outcome State Fault Refusal :=
  s.act Ok.getMctpVersionSupport (Hub.mctp 0x04 fun _ => Config.mctpVersions)

/-- GET_MESSAGE_TYPE_SUPPORT (R398): the vendor type 0x7E. -/
def execGetMessageTypeSupport (s : State) : Host.Outcome State Fault Refusal :=
  s.act Ok.getMessageTypeSupport (Hub.mctp 0x05 fun _ => [0x7E])

/-- GET_VENDOR_DEFINED_MESSAGE_SUPPORT (R398). -/
def execGetVendorDefinedMessageSupport (s : State) : Host.Outcome State Fault Refusal :=
  s.act Ok.getVendorDefinedMessageSupport (Hub.mctp 0x06 fun _ => Config.mctpVendor)

/-- GET_INFO (R398): the oldest and newest SEQ, GLB_RDY, the hedge level and YEW_ESC.FATALS, in that order.
[log: DEDUCED 52] -/
def execGetInfo (s : State) : Host.Outcome State Fault Refusal :=
  s.act Ok.getInfo (Hub.mctp 0x101 fun h =>
    leBytes 4 (h.get R.YEW_OLDEST_SEQ) ++ leBytes 4 (h.get R.YEW_SEQ) ++ leBytes 4 (h.reg 0xC).toNat
      ++ [BitVec.ofNat 8 (h.get R.TEST_HEDGE_STAT_LEVEL)] ++ leBytes 2 (h.get R.YEW_ESC_FATALS))

/-- READ (R398): 1 to 8 records from a SEQ on, in order; another count gets none. [log: DEDUCED 52] -/
def execBmcRead (seq count : Nat) (s : State) : Host.Outcome State Fault Refusal :=
  s.act (Ok.bmcRead seq count) fun h =>
    if h.pins.d0Reset then h
    else
      let r := h.readRecs (if count ≤ 8 then count else 0) seq
      r.2.mctp 0x102 fun _ => r.1.flatMap YewRec.bytes

/-- STATE (R398): piece `piece` of 248 bytes of the valid copy of the state region. -/
def execBmcState (piece : Nat) (s : State) : Host.Outcome State Fault Refusal :=
  s.act (Ok.bmcState piece) (Hub.mctp 0x103 fun h =>
    let r := h.yew.region
    ((Config.regionImage r.version (r.retires.map fun x => (x.type, x.site, x.phys, x.cause)) r.ppr).drop (248 * piece)).take 248)

end Sys2Proof.Machine
end

