-- ==== Sys2Proof/Machine/MapOps.lean ====
section
/-!
DEFINITION. The commands of the Topiary map (R84 to R97): retiring a unit, bringing one back, adopting an epoch, looking a
unit up; the meanings of MAP_CMD_RETIRE, MAP_CMD_READMIT, BANK_COPY_COMPLETE, MAP_EPOCH_ADOPT, MAP_EPOCH_DRAIN_END,
QUARANTINE_END, READMISSION_TEST_END, READMISSION_TEST_TIMEOUT and MAP_LOOKUP.
-/
namespace Sys2Proof.Machine

/-- Domain of a physical unit (R34, R86). -/
def unitDomain (t s p : Nat) : Nat :=
  if t = 0 then 73 else if t = 1 then 69 + unitGroup 1 p else if t = 2 then 2 + tileOfBank p
  else if t = 3 then siteDomain s else 60 + p / 4

/-- STATE of a unit that is out of the map: a lane is Down, any other unit Retired. -/
def outState (t : Nat) : Nat := if t = 4 then 7 else 2

/-! ## MAP_LOOKUP (R85) -/

/-- PHYS and VALID of MAP_LOOKUP under the current epoch. [log: DEDUCED 29] -/
def Hub.showLookup (h : Hub) : Hub :=
  let t := h.get R.MAP_LOOKUP_TYPE
  let l := h.get R.MAP_LOOKUP_LOGICAL
  let s := if t = 3 then h.get R.MAP_LOOKUP_SITE else 0
  let phys := if t = 4 then some l else h.physOf t s l
  match if t ≤ 4 ∧ l < h.logicalCount t s then phys else none with
  | some p => (h.put R.MAP_LOOKUP_PHYS p).put R.MAP_LOOKUP_VALID 1
  | none => (h.put R.MAP_LOOKUP_PHYS 0).put R.MAP_LOOKUP_VALID 0

/-- A write of MAP_LOOKUP. -/
def Hub.lookup (v : Word) (h : Hub) : Hub :=
  (((h.put R.MAP_LOOKUP_LOGICAL (bitsOf v 0 11)).put R.MAP_LOOKUP_TYPE (bitsOf v 12 3)).put R.MAP_LOOKUP_SITE (bitsOf v 16 2)).showLookup

/-- MAP_LOOKUP (R85). -/
def execMapLookup (req : Path) (v : Word) (s : State) : Host.Outcome State Fault Refusal :=
  s.act (Ok.mapLookup req v) (Hub.pfWrite req (Hub.lookup v))

/-! ## Retiring (R92 to R94) -/

/-- Persist a retirement (R94, R387): a RETIRE record, and an entry of the state region while it has room for one.
[log: DEDUCED 29] -/
def Hub.persist (t s p l : Nat) (h : Hub) : Hub :=
  let h := h.retireRecord 0x20 t s p l 5
  let known := h.yew.region.retires.any fun r => r.type == t && r.site == s && r.phys == p
  if known ∨ 256 ≤ h.yew.region.retires.length then h
  else h.writeRegion fun r => { r with retires := r.retires ++ [{ type := t, site := s, phys := p, cause := 5 }] }

/-- Persist if the command says so. [log: DEDUCED 29] -/
def Hub.persistIf (v : Word) (t s p l : Nat) (h : Hub) : Hub := if bitsOf v 8 1 = 1 then h.persist t s p l else h

/-- The command a MAP_CMD word gives for a unit. [log: DEDUCED 29] -/
def cmdFor (join : Bool) (v : Word) (t s p l spare phase : Nat) : MapCmd :=
  { join := join, type := t, site := s, phys := p, logical := l, spare := spare, abort := !join && bitsOf v 7 1 == 1,
    discard := !join && t == 2 && bitsOf v 9 1 == 1, phase := phase }

/-- Retire an engine, tile or bank (R92, R94): a spare takes over at the next epoch; a bank is copied first (R93). -/
def Hub.retireSpared (v : Word) (t p l : Nat) (h : Hub) : Hub :=
  let h := h.persistIf v t 0 p l
  match pickSpare t (l / perGroup t) (h.spares t 0) with
  | none => h.mapDone 2
  | some q =>
    let h := h.mapBegin (cmdFor false v t 0 p l q 0)
    if t = 2 ∧ bitsOf v 9 1 = 0 then h else h.stageCmd

/-- Retire a module (R92, R94): LAST_UNIT below 8; else its removal is proposed to the partner (R260). [log: DEDUCED 29] -/
def Hub.retireModule (v : Word) (s p l : Nat) (h : Hub) : Hub :=
  if h.get (R.MAP_SITE_LIVE s) ≤ 8 then h.mapDone 7
  else
    let h := (h.persistIf v 3 s p l).mapBegin (cmdFor false v 3 s p l 0x7FF 1)
    if h.canPropose s then h.proposeSet s true p else h

/-- A MAP_CMD retire (R92): NOT_READY before READY, BAD_UNIT for no such logical unit; a lane that is Down already is in a bad
state. [log: DEDUCED 29] -/
def Hub.retire (v : Word) (h : Hub) : Hub :=
  let t := bitsOf v 4 3
  let s := if t = 3 then bitsOf v 12 2 else 0
  let l := bitsOf v 16 11
  if ¬ h.ready then h.mapDone 5
  else if 4 < t ∨ h.logicalCount t s ≤ l then h.mapDone 4
  else match h.physOf t s l with
    | none => h.mapDone (if t = 4 then 8 else 4)
    | some p =>
      if t ≤ 2 then h.retireSpared v t p l
      else if t = 3 then h.retireModule v s p l
      else ((h.persistIf v 4 0 p l).mapBegin (cmdFor false v 4 0 p l 0x7FF 2)).stageCmd

/-- A retirement of the unit under readmission wins (corner of R97): the unit is out again, and the readmission ends
CANCELLED. Only a lane in readmission can be named, as its logical number is its physical one. [log: DEDUCED 29] -/
def Hub.cancelReadmit (c : MapCmd) (h : Hub) : Hub :=
  let h := (h.onMap fun m => { m with changes := m.changes.filter fun x => !x.byCmd }).showQueued
  ((h.setState c.type c.site c.phys (outState c.type)).restLane c.phys).mapDone 9

/-! ## Bringing back (R95) -/

/-- A MAP_CMD readmit (R95): the unit enters Quarantine, isolated, and its domain is asked for; or the command is refused.
[log: DEDUCED 29] -/
def Hub.readmit (v : Word) (h : Hub) : Hub :=
  let t := bitsOf v 4 3
  let s := if t = 3 then bitsOf v 12 2 else 0
  let p := bitsOf v 16 11
  let d := unitDomain t s p
  if ¬ h.ready then h.mapDone 5
  else if 4 < t ∨ unitCount t ≤ p then h.mapDone 4
  else if h.unitState t s p = 6 then h.mapDone 3
  else if h.unitState t s p ≠ outState t then h.mapDone 8
  else if h.get (R.PWR_DOM_REQ d) = 2 ∨ nget h.power.barred d ≠ 0 ∨ (t = 3 ∧ ¬ h.siteUp s) then h.mapDone 6
  else
    let h := (h.mapBegin (cmdFor true v t s p 0x7FF 0x7FF 3)).setState t s p 3
    let h := if t = 3 then h.put (R.YDL_MOD_STATE s p) 5 else h
    h.demandDom d

/-- A write of MAP_CMD (R92): ignored and logged while a command is in progress; other OPs are ignored. [log: DEDUCED 29] -/
def Hub.mapCmd (req : Path) (v : Word) (h : Hub) : Hub :=
  match h.map.cmd with
  | some c =>
    if c.join ∧ c.type = 4 ∧ bitsOf v 0 3 = 1 ∧ bitsOf v 4 3 = 4 ∧ bitsOf v 16 11 = c.phys then h.cancelReadmit c
    else h.logAccess 0x13 req 0x50100 v.toNat
  | none => if bitsOf v 0 3 = 1 then h.retire v else if bitsOf v 0 3 = 2 then h.readmit v else h

/-- MAP_CMD_RETIRE (R92). -/
def execMapCmdRetire (req : Path) (v : Word) (s : State) : Host.Outcome State Fault Refusal :=
  s.act (Ok.mapCmdRetire req v) (Hub.pfWrite req (Hub.mapCmd req (setBits v 0 3 1)))

/-- MAP_CMD_READMIT (R95). -/
def execMapCmdReadmit (req : Path) (v : Word) (s : State) : Host.Outcome State Fault Refusal :=
  s.act (Ok.mapCmdReadmit req v) (Hub.pfWrite req (Hub.mapCmd req (setBits v 0 3 2)))

/-- The words of logical bank `l` with stored bits in error. -/
def Mem.badWords (m : Mem) (l : Nat) : List Nat := (m.bufErr.map fun e => 8 * e.1).filter fun a => a / 262144 == l

/-- One word of a bank's copy (R93, R217): read by Masthead in the old bank, which reads stay served from; a word it holds
uncorrectable is written poisoned to the new bank. [log: DESIGN CHOICE 30] -/
def Chip.copyWord (a : Nat) (c : Chip) : Chip :=
  let r := c.readCw 0x3000 false 1 a
  if r.bad then ⟨r.chip.hub.logPoison 0x3000 1 a, r.chip.mem⟩ else r.chip

/-- The copy of logical bank `l` (R93), whose data and errors are kept by logical address: only words in error tell the banks
apart. [log: DESIGN CHOICE 30] -/
def Chip.copyBank (l : Nat) (c : Chip) : Chip := Chip.each (c.mem.badWords l) Chip.copyWord c

/-- At the epoch the new bank is the home of logical bank `l` (R93): what the old bank held uncorrectable is poisoned in it.
[log: DESIGN CHOICE 30] -/
def Mem.moved (m : Mem) (l : Nat) : Mem :=
  (m.badWords l).foldl (fun m a => if 2 ≤ errClass 1 (m.err 1 a) then m.setErr 1 a (poisonMask 1) else m) m

/-- The contents of logical bank `l` alone. -/
def Mem.bank (m : Mem) (l : Nat) : Mem :=
  { dram := [], dramErr := [], buf := Store.keep (fun a => a / 262144 == l) m.buf,
    bufErr := Store.keep (fun w => w / 32768 == l) m.bufErr }

/-- BANK_COPY_COMPLETE (R93): the copy is complete, and the epoch may follow. -/
def execBankCopyComplete (s : State) : Host.Outcome State Fault Refusal :=
  s.actMem Ok.bankCopyComplete fun c =>
    match c.hub.map.cmd with
    | some x =>
      if ¬ x.join ∧ x.type = 2 ∧ x.phase = 0 then
        let c := c.copyBank x.logical
        ⟨c.hub.stageCmd, c.mem⟩
      else c
    | none => c

/-- The command in progress is a readmission in phase `n`. -/
def Hub.readmitting (h : Hub) (n : Nat) : Option MapCmd :=
  match h.map.cmd with
  | some c => if c.join ∧ c.phase = n then some c else none
  | none => none

/-- The readmission fails (R95): Retired (a lane Down) with cause 7 and one more failure. -/
def Hub.readmitFails (c : MapCmd) (h : Hub) : Hub :=
  let h := (h.unitFailed c.type c.site c.phys).setState c.type c.site c.phys (outState c.type)
  let h := if c.type = 3 then
      ((h.put (R.YDL_MOD_STATE c.site c.phys) 4).put (R.YDL_MOD_CAUSE c.site c.phys) 3).onSite c.site fun x => { x with step := 7 }
    else if c.type = 4 then h.restLane c.phys else h
  h.mapDone 10

/-- The unit has passed (R95, R96): Staged; a module below the 32nd is proposed to the partner, every other unit waits for the
epoch. -/
def Hub.readmitPasses (c : MapCmd) (h : Hub) : Hub :=
  let h := h.setState c.type c.site c.phys 5
  if c.type = 3 then
    let h := h.put (R.YDL_MOD_STATE c.site c.phys) 2
    if h.get (R.MAP_SITE_LIVE c.site) < 32 then
      let h := h.mapPhase 1
      if h.canPropose c.site then h.proposeSet c.site false c.phys
      else h.onSite c.site fun x => { x with again := some c.phys }
    else h.stageCmd
  else h.stageCmd

/-- The readmission that trains or checks a module of site `s` (R261). -/
def Hub.retrains (h : Hub) (s : Nat) : Option MapCmd :=
  match h.readmitting 4 with
  | some c => if c.type = 3 ∧ c.site = s then some c else none
  | none => none

/-- The unit enters Testing; a module trains from T1 while its siblings carry traffic (R261). -/
def Hub.testUnit (c : MapCmd) (h : Hub) : Hub :=
  let h := ((h.dropStep 6 0).setState c.type c.site c.phys 4).mapPhase 4
  if c.type = 3 then h.trainStep c.site 1 (2 ^ c.phys) else if c.type = 4 then h.restLane c.phys else h

/-- QUARANTINE_END (R95): the unit is isolated and, its domain ON and the test's power step admitted by Reef, enters Testing; a
step that is not admitted yet waits in Reef with the unit in Quarantine. [log: DEDUCED 40] -/
def execQuarantineEnd (s : State) : Host.Outcome State Fault Refusal :=
  s.act Ok.quarantineEnd fun h =>
    match h.readmitting 3 with
    | none => h
    | some c =>
      let mw := Config.testMw c.type
      if !h.domOn (unitDomain c.type c.site c.phys) then h
      else if h.stepAdmitted 6 0 then h.testUnit c
      else match h.tryStep mw mw 0 with
        | some g => g.testUnit c
        | none => h.addStep { kind := 6, unit := 0, mw := mw, expo := mw, sense := 0, adm := false }

/-- READMISSION_TEST_END (R95, R261, R311): the test ends; a module passes its PRBS31 check only once it has trained. -/
def execReadmissionTestEnd (pass : Bool) (s : State) : Host.Outcome State Fault Refusal :=
  s.act (Ok.readmissionTestEnd pass) fun h =>
    match h.readmitting 4 with
    | none => h
    | some c =>
      if !pass then h.readmitFails c
      else if c.type = 3 ∧ (h.siteS c.site).step ≠ 7 then h
      else h.readmitPasses c

/-- READMISSION_TEST_TIMEOUT (R95): the unit exceeds its testing limit. -/
def execReadmissionTestTimeout (s : State) : Host.Outcome State Fault Refusal :=
  s.act Ok.readmissionTestTimeout fun h =>
    match h.readmitting 4 with
    | none => h
    | some c => h.readmitFails c

/-! ## Epochs (R88 to R90, R92, R96, R97) -/

/-- The work of physical engine `p` ends with a status: its movers' descriptors, and its open streams, closed by ABORT (R92,
R400). [log: DESIGN CHOICE 30] -/
def Hub.engineStop (p st : Nat) (h : Hub) : Hub :=
  let ds := h.rings.flatMap fun (e : Nat × RingS) =>
    (e.2.descs.filter fun d => isMover (dOp d.bytes) && d.started && !d.ended && d.unit == p).map fun d => (e.1, d.id, d.moved)
  let h := Hub.each ds (fun (e : Nat × Nat × Nat) g => g.finishId e.1 e.2.1 st e.2.2) h
  h.upto 4 fun s g =>
    Hub.each ((g.siteS s).streams.filter fun t => t.engine == p && decide (t.state < 2))
      (fun t g => (g.sendClose s t 2 0).endOpen s t st) g

/-- The solve on a retired tile ends SOLVE_MEM_ERR (R92): which context holds the tile is a free choice among those that hold
one, and none while a tile is free; context 31 is Trim's solve. [log: DESIGN CHOICE 30] -/
def Chip.tileStop (c : Chip) : Chip :=
  let l := (c.hub.spar.ctxs.filter fun e => decide (0 < e.2.tiles)).map (·.1)
  let l := if c.hub.tilesFree = 0 then l else 32 :: l
  let k := l.getD (c.hub.free % max 1 l.length) 32
  let c : Chip := ⟨c.hub.drew, c.mem⟩
  if k = 32 then c
  else if k = 31 then
    (⟨(c.hub.put R.TRIM_STAT_LAST 0x40).judgeSolve 0x40 0 [], c.mem⟩ : Chip).endSolve
  else c.sparFault k 0x40

/-- Modules in service of site `s` in logical order. -/
def Hub.liveModules (h : Hub) (s : Nat) : List Nat :=
  (List.range (h.get (R.MAP_SITE_LIVE s))).filterMap fun l => h.physOf 3 s l

/-- The modules in service of site `s` take the logical numbers of their order in `l`. [log: DESIGN CHOICE 30] -/
def Hub.setModules (s : Nat) (l : List Nat) (h : Hub) : Hub :=
  (Hub.each l.zipIdx (fun e h => h.assign 3 s e.1 e.2) h).put (R.MAP_SITE_LIVE s) l.length

/-- A unit leaves the map at the epoch; its spare takes its logical number. [log: DESIGN CHOICE 30] -/
def Chip.leave (x : MapChange) (c : Chip) : Chip :=
  let h := c.hub
  let live := h.liveModules x.site
  let h := h.unitOut x.type x.site x.phys (outState x.type) x.cause
  let h := if x.type ≤ 2 then h.assign x.type 0 x.spare x.logical else h
  if x.type = 0 then ⟨if x.abort then h.engineStop x.phys 6 else h, c.mem⟩
  else if x.type = 1 then (if x.abort then Chip.tileStop ⟨h, c.mem⟩ else ⟨h, c.mem⟩)
  else if x.type = 2 then
    (match h.map.cmd with
     | some m =>
       if x.byCmd ∧ m.discard then
         ⟨h.onMap fun y => { y with left := some (x.logical, c.mem.bank x.logical) }, c.mem.clear 1 (262144 * x.logical) 262144⟩
       else ⟨h, c.mem.moved x.logical⟩
     | none => ⟨h, c.mem.moved x.logical⟩)
  else if x.type = 3 then ⟨h.setModules x.site (live.filter fun p => p != x.phys), c.mem⟩
  else ⟨h.laneMark x.phys, c.mem⟩

/-- A unit that reaches Live cancels its persisted retirement (R97). [log: DEDUCED 29] -/
def Hub.cancelRetire (t s p cause : Nat) (h : Hub) : Hub :=
  let h := h.retireRecord 0x21 t s p (h.unitLogical t s p) cause
  let same (r : Retire) : Bool := r.type == t && r.site == s && r.phys == p
  if h.yew.region.retires.any same then h.writeRegion fun r => { r with retires := r.retires.filter fun x => !same x } else h

/-- A unit joins the map at the epoch (R96): an engine or tile takes the lowest missing logical number or is a spare, a bank is
a spare, a module is logical module m or a spare, a lane is up. Its cause and failures are cleared; a unit that was Staged reaches Live
and cancels its persisted retirement (R97). [log: DESIGN CHOICE 30] -/
def Chip.join (x : MapChange) (c : Chip) : Chip :=
  let t := x.type
  let cause := c.hub.get ⟨unitOff t x.site x.phys, 4, 4⟩
  let h := (c.hub.unitOut t x.site x.phys 1 0).put ⟨unitOff t x.site x.phys, 12, 4⟩ 0
  let n := h.logicalCount t x.site
  let h :=
    if t ≤ 1 then
      (if n < logicalMax t then
        let h := (h.assign t 0 x.phys n).put (countField t) (n + 1)
        if t = 1 then h.onMap fun m => { m with born := nset m.born n (h.get R.MAP_EPOCH_CUR) } else h
       else h)
    else if t = 2 then h
    else if t = 3 then (if n < 32 then h.setModules x.site (h.liveModules x.site ++ [x.phys]) else h)
    else (h.assign 4 0 x.phys x.phys).laneMark x.phys
  ⟨if c.hub.unitState t x.site x.phys = 5 then h.cancelRetire t x.site x.phys cause else h, c.mem⟩

/-- Apply a staged change, and end the command it belongs to. -/
def Chip.applyChange (x : MapChange) (c : Chip) : Chip :=
  let c := if x.join then c.join x else c.leave x
  if x.byCmd then ⟨(c.hub.mapDone 0).put R.MAP_CMD_STAT_EPOCH (c.hub.get R.MAP_EPOCH_CUR), c.mem⟩ else c

/-- Every NI adopts the next epoch (R84, R88): the table in force becomes the previous one, and the staged changes take effect
together. `old` transactions elsewhere and the accesses the directory holds carry the last epoch. CUR never wraps.
[log: DESIGN CHOICE 30] -/
def Chip.adoptEpoch (old : Nat) (c : Chip) : Chip :=
  let h := c.hub
  let l := h.map.changes
  if l = [] ∨ h.on R.MAP_EPOCH_STAT_DRAIN ∨ ¬ h.on R.MAP_EPOCH_CUR ∨ h.get R.MAP_EPOCH_CUR + 1 = 2 ^ 32 then c
  else
    let h := (h.onMap fun m => { m with changes := [], prev := h.table }).put R.MAP_EPOCH_CUR (h.get R.MAP_EPOCH_CUR + 1)
    let h := ((h.put R.MAP_EPOCH_STAT_DRAIN 1).put R.MAP_EPOCH_STAT_OLD_TXN (satNat 16 (old + h.dir.ncs.length))).countEvent 11
    let c := Chip.each l Chip.applyChange ⟨h, c.mem⟩
    ⟨c.hub.showSpares.showQueued.showLookup, c.mem⟩

/-- MAP_EPOCH_ADOPT (R88). -/
def execMapEpochAdopt (old : Nat) (s : State) : Host.Outcome State Fault Refusal :=
  s.actMem (Ok.mapEpochAdopt old) (Chip.adoptEpoch old)

/-- An access that the directory holds carries an earlier epoch. -/
def Hub.oldHeld (h : Hub) : Bool := h.dir.ncs.any fun a => a.epoch != h.get R.MAP_EPOCH_CUR

/-- MAP_EPOCH_DRAIN_END (R89): no transaction of the previous epoch remains; not while the directory holds one. -/
def execMapEpochDrainEnd (s : State) : Host.Outcome State Fault Refusal :=
  s.act Ok.mapEpochDrainEnd fun h =>
    if h.oldHeld then h
    else (((h.onMap fun m => { m with left := none }).put R.MAP_EPOCH_STAT_DRAIN 0).put R.MAP_EPOCH_STAT_OLD_TXN 0).showQueued

end Sys2Proof.Machine
end

