-- ==== Sys2Proof/Machine/Ras.lean ====
section
/-!
DEFINITION. The errors of the hub's own SRAMs (R210, R215), the DRAM scrubber (R219 to R221), consuming the RAS log (R223), arming the flip mask (R230 to R232) and the
hourly summary of corrections (R225): the meanings of DRAM_SCRUB_READ, RAS_CONS_WRITE, FLIP_ARM, FLIP_DISARM and CE_HOURLY.
-/
namespace Sys2Proof.Machine

/-! ## The hub's own SRAMs -/

/-- Which protected SRAM holds the register at `off` (R210): 1 Masthead's memory, 2 the RAS log, 3 ring or cleat state; 0 none.
[log: DESIGN CHOICE 39] -/
def sramOf (off : Nat) : Nat :=
  if 0xC00100 ≤ off ∧ off < 0xC00200 then 1
  else if 0x508000 ≤ off ∧ off < 0x510000 then 2
  else if (0x100000 ≤ off ∧ off < 0x110000) ∨ (0x120000 ≤ off ∧ off < 0x128000) then 3
  else 0

/-- The stored bits in error of the SRAM word that holds the register at `off`. -/
def Hub.sramErr (h : Hub) (off : Nat) : Nat := if sramOf off = 0 then 0 else nget h.ras.sram (off / 8)

/-- The SRAM word that holds the register at `off` is clean. -/
def Hub.sramClean (off : Nat) (h : Hub) : Hub := { h with ras := { h.ras with sram := nset h.ras.sram (off / 8) 0 } }

/-- Log a correction of an SRAM word (R213, R222). [log: DESIGN CHOICE 39] -/
def Hub.sramCe (req off detail : Nat) (h : Hub) : Hub :=
  (h.sramClean off).rasLog
    { kind := 1, unit := if sramOf off = 3 then 5 else 3, flags := 4, req := req, addr := off / 8 * 8, detail := detail, count := 1 }

/-- Log an uncorrectable SRAM word (R222): FATAL in Masthead's memory; in the RAS log the entry it hit reads 0 from then on.
[log: DESIGN CHOICE 39] -/
def Hub.sramUe (req off : Nat) (h : Hub) : Hub :=
  let e : RasEntry :=
    { kind := 2, unit := if sramOf off = 3 then 5 else 3, sev := if sramOf off = 1 then 3 else 1, req := req, addr := off / 8 * 8 }
  if sramOf off = 2 then
    let h := h.upto 8 fun i g => (g.setReg (off / 32 * 32 + 4 * i) 0).sramClean (off / 32 * 32 + 4 * i)
    h.rasLog e
  else h.rasLog e

/-- The check of the SRAM word that holds the register at `off`, read for requester `req` (R210, R213, R215): whether its data may be
delivered, and the hub after it. [log: DESIGN CHOICE 39] -/
def Hub.sramCheck (req off : Nat) (h : Hub) : Bool × Hub :=
  let e := h.sramErr off
  let ok := sramOf off == 2
  match errClass 1 e with
  | 0 => (true, h)
  | 1 => (true, h.sramCe req off (errDetail 1 e))
  | 2 => (ok, h.sramUe req off)
  | _ =>
    if h.free % 2 = 0 then (ok, h.drew.sramUe req off)
    else
      let g := h.drew
      let a := off / 8 * 8
      (true, ((g.setReg a (BitVec.ofNat 32 g.free)).setReg (a + 4) (BitVec.ofNat 32 (g.free / 2 ^ 32))).drew.sramCe req off g.drew.free)

/-- A write of the register at `off` merges into its SRAM word, which it corrects where the code can (R214).
[log: DESIGN CHOICE 39] -/
def Hub.sramMerge (req off : Nat) (h : Hub) : Hub :=
  if errClass 1 (h.sramErr off) = 1 then h.sramCe req off (errDetail 1 (h.sramErr off)) else h

/-! ## The DRAM scrubber -/

/-- The first granule from `g` on that is not listed, or the end of the pass. [log: DESIGN CHOICE 38] -/
def Hub.nextGranule (h : Hub) (total : Nat) : Nat → Nat → Nat
  | 0, g => g
  | n + 1, g => if g < total ∧ h.skipped g then h.nextGranule total n (g + 1) else g

/-- Move the DRAM scrubber to sector `sec` of granule `g`; past the last granule a pass is complete (R219). -/
def Hub.scrubTo (total g sec : Nat) (h : Hub) : Hub :=
  if total ≤ g then
    { (h.put R.RAS_SCRUB_DRAM_POS_GRANULE 0).bump R.RAS_SCRUB_DRAM_PASSES 1 with ras := { h.ras with dramSec := 0 } }
  else { h.put R.RAS_SCRUB_DRAM_POS_GRANULE g with ras := { h.ras with dramSec := sec } }

/-- The DRAM scrubber reads its next sector, or ends its pass when only listed granules are left (R219 to R221). It runs
from READY while HOURS is not 0. -/
def Chip.scrubDram (c : Chip) : Chip :=
  let h := c.hub
  let total := h.dramSize / 4096
  if !h.ready || !h.on R.RAS_SCRUB_DRAM_HOURS then c
  else
    let g0 := h.get R.RAS_SCRUB_DRAM_POS_GRANULE
    let g := h.nextGranule total 513 g0
    let sec := if g = g0 then h.ras.dramSec else 0
    if total ≤ g then ⟨h.scrubTo total g 0, c.mem⟩
    else
      let a := 4096 * g + 32 * sec
      let h := h.enter { h.requestOf false 0x3001 13 a (a + 32) with scrub := true }
      let r := (⟨h, c.mem⟩ : Chip).readCw 0x3001 true 0 a
      ⟨if sec + 1 < 128 then r.chip.hub.scrubTo total g (sec + 1) else r.chip.hub.scrubTo total (g + 1) 0, r.chip.mem⟩

/-- DRAM_SCRUB_READ (R219 to R221). -/
def execDramScrubRead (s : State) : Host.Outcome State Fault Refusal :=
  s.actMem Ok.dramScrubRead Chip.scrubDram

/-- A write of RAS_LOG_PTR.CONS (R223): entries are consumed if it lies between CONS and PROD, else it is ignored and logged. -/
def Hub.consWrite (req : Path) (v : Word) (h : Hub) : Hub :=
  let c := h.get R.RAS_LOG_PTR_CONS
  let n := bitsOf v 16 10
  if (n + 1024 - c) % 1024 ≤ (h.get R.RAS_LOG_PTR_PROD + 1024 - c) % 1024 then h.put R.RAS_LOG_PTR_CONS n
  else h.logAccess 0x13 req 0x500004 v.toNat

/-- RAS_CONS_WRITE (R223). -/
def execRasConsWrite (req : Path) (v : Word) (s : State) : Host.Outcome State Fault Refusal :=
  s.act (Ok.rasConsWrite req v) (Hub.pfWrite req (Hub.consWrite req v))

/-- The writer may arm the flip mask (R231). -/
def Hub.mayArm (h : Hub) (req : Path) : Bool := decide (1 ≤ h.level) || (req == .pf && h.on R.RAS_CAP_INJECT && h.ready)

/-- The fields of a RAS_FLIP_CTRL write other than ARM: FIRED and REFUSED are cleared by ones. -/
def Hub.flipFields (v : Word) (h : Hub) : Hub :=
  let h := ((h.put R.RAS_FLIP_CTRL_TARGET (bitsOf v 4 3)).put R.RAS_FLIP_CTRL_CTRL_N (bitsOf v 8 3)).put
    R.RAS_FLIP_CTRL_MATCH_EN (bitsOf v 12 1)
  let h := if bitsOf v 16 1 = 1 then h.put R.RAS_FLIP_CTRL_FIRED 0 else h
  if bitsOf v 17 1 = 1 then h.put R.RAS_FLIP_CTRL_REFUSED 0 else h

/-- A write of RAS_FLIP_CTRL with ARM = 1 (R231): it arms the mask, or is refused, flagged and logged. -/
def Hub.flipArm (req : Path) (v : Word) (h : Hub) : Hub :=
  if h.mayArm req then (h.flipFields v).put R.RAS_FLIP_CTRL_ARM 1
  else (h.put R.RAS_FLIP_CTRL_REFUSED 1).logAccess 0x10 req 0x500044 v.toNat

/-- FLIP_ARM (R231). -/
def execFlipArm (req : Path) (v : Word) (s : State) : Host.Outcome State Fault Refusal :=
  s.act (Ok.flipArm req v) (Hub.pfWrite req (Hub.flipArm req (v ||| 1)))

/-- A write of RAS_FLIP_CTRL with ARM = 0 disarms the mask without firing it (R232). -/
def Hub.flipDisarm (v : Word) (h : Hub) : Hub := (h.flipFields v).put R.RAS_FLIP_CTRL_ARM 0

/-- FLIP_DISARM (R232). -/
def execFlipDisarm (req : Path) (v : Word) (s : State) : Host.Outcome State Fault Refusal :=
  s.act (Ok.flipDisarm req v) (Hub.pfWrite req (Hub.flipDisarm v))

/-- A write of a mask or address word of the flip mask: stored, but ignored and logged while armed (corner of R232). -/
def Hub.flipWord (req : Path) (off : Nat) (v : Word) (h : Hub) : Hub :=
  if h.on R.RAS_FLIP_CTRL_ARM then h.logAccess 0x13 req off v.toNat
  else h.setReg off (if off = 0x500050 then BitVec.ofNat 32 (bitsOf v 0 10) else v)

/-- The payload of a CE_HOURLY record (R392): corrections of the buffer, then of controllers 0 to 5. -/
def Hub.ceHourPayload (h : Hub) : List Byte := (List.range 7).flatMap fun i => leBytes 4 (nget h.ras.ceHour i)

/-- CE_HOURLY (R225): each hour after READY the counts are recorded, and begin again. -/
def execCeHourly (s : State) : Host.Outcome State Fault Refusal :=
  s.act Ok.ceHourly fun h =>
    if h.ready then
      let g := h.yewRecord 0x11 0 false h.ceHourPayload
      { g with ras := { g.ras with ceHour := [] } }
    else h

end Sys2Proof.Machine
end

