-- ==== Sys2Proof/Machine/Side.lean ====
section
/-!
DEFINITION. The sideband and discovery (R61, R241, R242, R262 to R271), and the stand-alone loopback test (R287, R288): the
meanings of SIDEBAND_*, HELLO_ACK, IDENT, NEG_ACK, TRAIN_RES, TRAIN_STEP_LIMIT, TEST, LINK_UP, QUIET_ACK*, LOOPBACK_*.
-/
namespace Sys2Proof.Machine

/-! ## Frames (R263, R265) -/

/-- The hub's YDL version, 1.2 (R267). -/
def hubVersion : Nat := 0x12

/-- Discovery phase of site `s`: 0 idle, 1 contact, 2 identity, 3 negotiated, 4 training, 5 up, 6 dropped. -/
def Hub.phase (h : Hub) (s : Nat) : Nat := h.get (R.YDL_DISC_PHASE s)

/-- A frame's answer has come: it is acknowledged and awaited no more. -/
def Hub.sbAnswered (s : Nat) (h : Hub) : Hub := h.onSite s fun x => { x with sbFrame := none, sbAwait := 0 }

/-- SIDEBAND_HELLO (R266): every 1 ms of S5 until HELLO_ACK arrives. -/
def execSidebandHello (site : Nat) (s : State) : Host.Outcome State Fault Refusal :=
  s.act (Ok.sidebandHello site) fun h => if h.phase site = 1 then h.sbSend site 1 [hubVersion] else h

/-- The hub's fused-bad modules of site `s`, as a mask (R267). -/
def Hub.hubBad (h : Hub) (s : Nat) : Nat :=
  (List.range 34).foldl (fun m p => m + (if nget h.map.fuse.bad (unitKey 3 s p) = 1 then 2 ^ p else 0)) 0

/-- The hub's half of the negotiation: YDL_s_HUB_CAP (R270). -/
def Hub.hubCap (h : Hub) (s : Nat) : Nat := h.get (R.YDL_HUB_CAP_LO s) + 2 ^ 32 * h.get (R.YDL_HUB_CAP_HI s)

/-- The hub's IDENT payload (R267). -/
def Hub.ident (h : Hub) (s : Nat) : List Byte :=
  [1, BitVec.ofNat 8 hubVersion] ++ leBytes 2 1 ++ leBytes 8 (h.hubCap s)
    ++ leBytes 8 h.map.fuse.serial ++ leBytes 5 (h.hubBad s) ++ List.replicate 9 0
    ++ leBytes 2 256 ++ leBytes 2 256 ++ leBytes 2 8192 ++ List.replicate 8 0

/-- Answer a frame with NAK: 1 unknown type, 2 bad length, 3 bad state (R265). [log: DEDUCED 40] -/
def Hub.sbNak (s type why : Nat) (h : Hub) : Hub := h.sbSend s 0x0E [type, why]

/-- HELLO_ACK (R266): the hub sends its IDENT. -/
def execHelloAck (site : Nat) (s : State) : Host.Outcome State Fault Refusal :=
  s.act (Ok.helloAck site) fun h =>
    if h.phase site = 1 then
      (((h.sbAnswered site).put (R.YDL_DISC_PHASE site) 2)).sbSend site 3 ((h.ident site).map fun b => b.toNat)
    else h.sbNak site 2 3

/-! ## Negotiation (R268 to R270) -/

/-- A field of a capability word. -/
def capField (cap lo w : Nat) : Nat := cap / 2 ^ lo % 2 ^ w

/-- The negotiated version: the lower, a minor above 2 taken as 2. -/
def negVersion (die : Nat) : Nat := min hubVersion (0x10 + min 2 (die % 16))

/-- The negotiated word of two capability words under a version (R269). [log: DESIGN CHOICE 42] -/
def negotiate (a b version : Nat) : Nat :=
  let flags := (a &&& b) % 32
  let flags := if version < 0x11 then flags % 16 else flags
  let low (lo w : Nat) : Nat := min (capField a lo w) (capField b lo w)
  let classes := low 8 3
  let rate := if version < 0x12 then min 2 (low 32 4) else low 32 4
  flags + classes * 2 ^ 8 + (if classes = 0 then 0 else low 16 8 * 2 ^ 16 + low 24 8 * 2 ^ 24) + rate * 2 ^ 32 + low 36 6 * 2 ^ 36

/-- Why an IDENT drops its site: 0 it does not; 2 version; 3 malformed; 5 no PALLOW and no fixed cap (R269, R270).
[log: DEDUCED 40] -/
def Hub.identWhy (h : Hub) (s : Nat) (b : List Byte) : Nat :=
  let cls := leAt b 0 1
  let cap := leAt b 4 8
  let mods := capField cap 36 6
  let neg := negotiate (h.hubCap s) cap (negVersion (leAt b 1 1))
  if leAt b 1 1 / 16 ≠ 1 then 2
  else if cls < 0x10 ∨ 0x7F < cls ∨ mods < 8 ∨ 34 < mods ∨ (bit cap 3 ∧ leAt b 28 2 = 0) then 3
  else if ¬ bit neg 3 ∧ h.get (R.PWR_SITE_FIXCAP_CAP s) = 0 then 5
  else 0

/-- Record the die's IDENT. [log: DESIGN CHOICE 42] -/
def Hub.recordIdent (s : Nat) (b : List Byte) (h : Hub) : Hub :=
  let h := ((h.put (R.YDL_PEER_ID_CLASS s) (leAt b 0 1)).put (R.YDL_PEER_ID_VER s) (leAt b 1 1)).put (R.YDL_PEER_ID_PCODE s) (leAt b 2 2)
  let h := (h.put (R.YDL_PEER_CAP_LO s) (leAt b 4 4)).put (R.YDL_PEER_CAP_HI s) (leAt b 8 4)
  let h := (h.put (R.YDL_PEER_SN_LO s) (leAt b 12 4)).put (R.YDL_PEER_SN_HI s) (leAt b 16 4)
  let h := ((h.put (R.YDL_PEER_PWR_WW s) (leAt b 28 2)).put (R.YDL_PEER_PWR_FASTDROP s) (leAt b 30 1)).put (R.YDL_PEER_PWR_P_IDLE s) (leAt b 31 1)
  let h := (h.put (R.YDL_PEER_CORES s) (leAt b 26 2)).put (R.YDL_PEER_CORES_P_MAX s) (leAt b 32 2)
  h.onSite s fun x => { x with
    bad := (h.hubBad s ||| leAt b 20 5) % 2 ^ 34, crReq := leAt b 34 2, crRsp := leAt b 36 2, crData := leAt b 38 2 }

/-- IDENT (R267): the die's identity is checked, and the hub negotiates; one of another length, or out of turn, is refused. -/
def execIdent (site : Nat) (payload : List Byte) (s : State) : Host.Outcome State Fault Refusal :=
  s.actMem (Ok.ident site payload) fun c =>
    if payload.length ≠ 48 then ⟨c.hub.sbNak site 3 2, c.mem⟩
    else if c.hub.phase site ≠ 2 then ⟨c.hub.sbNak site 3 3, c.mem⟩
    else
      let why := c.hub.identWhy site payload
      let h := (c.hub.sbAnswered site).recordIdent site payload
      if why ≠ 0 then (⟨h, c.mem⟩ : Chip).siteDrop site why
      else
        let v := negVersion (leAt payload 1 1)
        let neg := negotiate (h.hubCap site) (leAt payload 4 8) v
        let h := (h.put (R.YDL_NEG_LO site) (neg % 2 ^ 32)).put (R.YDL_NEG_HI site) (neg / 2 ^ 32)
        let h := (h.put (R.YDL_DISC_VER site) v).put (R.YDL_DISC_PHASE site) 3
        ⟨h.sbSend site 4 ([v, capField neg 32 4, site, 0] ++ (leBytes 8 neg).map fun b => b.toNat), c.mem⟩

/-! ## Training (R241, R266) -/

/-- Negotiated module count. -/
def Hub.negMods (h : Hub) (s : Nat) : Nat := h.get (R.YDL_NEG_HI s) / 2 ^ 4 % 64

/-- Bits of `a` below 2³⁴ that are not in `b`. -/
def modLess (a b : Nat) : Nat := a % 2 ^ 34 - (a &&& b) % 2 ^ 34

/-- NEG_ACK (R266): training begins with T1, and the hub's fused-bad modules show as such, or the site is dropped. -/
def execNegAck (site : Nat) (accept : Bool) (s : State) : Host.Outcome State Fault Refusal :=
  s.actMem (Ok.negAck site accept) fun c =>
    if c.hub.phase site ≠ 3 then ⟨c.hub.sbNak site 5 3, c.mem⟩
    else
      let h := c.hub.sbAnswered site
      if accept then
        let h := h.upto 34 fun p g => if bit (g.hubBad site) p then g.put (R.YDL_MOD_STATE site p) 6 else g
        ⟨(h.put (R.YDL_DISC_PHASE site) 4).trainStep site 1 (modLess (2 ^ h.negMods site - 1) (h.siteS site).bad), c.mem⟩
      else (⟨h, c.mem⟩ : Chip).siteDrop site 4

/-- Modules of site `s` with a persisted retirement: they are no good units (R62, R85). -/
def Hub.lostMods (h : Hub) (s : Nat) : Nat :=
  (List.range 34).foldl (fun m p =>
    m + (if h.yew.region.retires.any fun r => r.type == 3 && r.site == s && r.phys == p then 2 ^ p else 0)) 0

/-- Modules that fail a step: failed, with cause training. -/
def Hub.trainFail (s mask : Nat) (h : Hub) : Hub :=
  h.upto 34 fun p h => if bit mask p then (h.put (R.YDL_MOD_STATE s p) 4).put (R.YDL_MOD_CAUSE s p) 3 else h

/-- A readmitted module's results of a step are in (R261): the next step, the PRBS31 check after T6, or the readmission has failed. -/
def Hub.retrainNext (s : Nat) (c : MapCmd) (both : Nat) (h : Hub) : Hub :=
  let x := h.siteS s
  if ¬ bit both c.phys then h.readmitFails c
  else if x.step < 6 then h.trainStep s (x.step + 1) both
  else (h.onSite s fun x => { x with step := 7 }).send (.pattern s 9 (2 ^ c.phys) 31 (laneSeeds false))

/-- The modules of the map: in service, spare, or retired because they did not train (R242).
[log: DESIGN CHOICE 23; DEDUCED 40] -/
def Hub.mapModules (s : Nat) (set spares : List Nat) (h : Hub) : Hub :=
  let h := h.upto 34 fun p h =>
    if set.contains p then h.assign 3 s p (logicalIn set p)
    else if spares.contains p then (h.setState 3 s p 1).setLogical 3 s p 0x7FF
    else if nget h.map.fuse.bad (unitKey 3 s p) = 1 then h.unitOut 3 s p 6 1
    else if bit (h.lostMods s) p then h.unitOut 3 s p 2 8
    else h.unitOut 3 s p 2 9
  (h.put (R.MAP_SITE_LIVE s) set.length).put (R.MAP_SITE_SPARE s) spares.length

/-- Both ends' results are in (R241, R266): the modules both passed show the step and form the next one's mask; after T6 they are
trained, and fewer than 8 drop the site, its failed modules retired (R242). -/
def Chip.trainNext (s : Nat) (c : Chip) : Chip :=
  let x := c.hub.siteS s
  match x.hubPass, x.diePass with
  | some a, some b =>
    let both := (a &&& b &&& x.mask) % 2 ^ 34
    let h := (c.hub.sbAnswered s).upto 34 fun q h => if bit both q then h.put (R.YDL_TRN_STEP s q) x.step else h
    match h.retrains s with
    | some m => ⟨h.retrainNext s m both, c.mem⟩
    | none =>
      let h := h.trainFail s (modLess x.mask both)
      if x.step < 6 then ⟨h.trainStep s (x.step + 1) both, c.mem⟩
      else
        let good := modLess both (h.lostMods s)
        let h := h.onSite s fun x => { x with step := 7, trained := good }
        let h := h.upto 34 fun p h => if bit good p then h.put (R.YDL_MOD_STATE s p) 2 else if bit both p then h.put (R.YDL_MOD_STATE s p) 5 else h
        if popCount 34 good < 8 then (⟨h.mapModules s [] ((List.range 34).filter (bit good)), c.mem⟩ : Chip).siteDrop s 6 else ⟨h, c.mem⟩
  | _, _ => c

/-- Site `s` trains modules: all of them in S5, or one that is readmitted. -/
def Hub.trains (h : Hub) (s : Nat) : Bool := h.phase s == 4 || (h.retrains s).isSome

/-- Record the eyes that the hub measured: module, width, height, lane. [log: DESIGN CHOICE 42] -/
def Hub.recordEyes (s : Nat) (eyes : List (Nat × Nat × Nat × Nat)) (h : Hub) : Hub :=
  Hub.each eyes (fun e h =>
    if e.1 < 34 then ((h.put (R.YDL_TRN_WIDTH s e.1) e.2.1).put (R.YDL_TRN_HEIGHT s e.1) e.2.2.1).put (R.YDL_TRN_LANE s e.1) e.2.2.2
    else h) h

/-- The eye measured for module `q` meets the step's condition (R241): 20 phase steps in T2 and T3, 32 threshold steps in T4. -/
def eyePasses (step q : Nat) (eyes : List (Nat × Nat × Nat × Nat)) : Bool :=
  match eyes.find? fun e => e.1 == q with
  | none => step < 2 || 4 < step
  | some e => if step = 2 ∨ step = 3 then decide (20 ≤ e.2.1) else if step = 4 then decide (32 ≤ e.2.2.1) else true

/-- TRAIN_STEP_LIMIT (R241): the step's limit expires. A module passes at the hub when it is in `pass` (its lock reported in T1, its 256
valid words decoded in T5, every flit of T6 there), its eye is as wide or as high as T2 to T4 ask, and no TEST flit of it was bad.
The hub sends its TRAIN_RES. -/
def execTrainStepLimit (site pass : Nat) (eyes : List (Nat × Nat × Nat × Nat)) (s : State) : Host.Outcome State Fault Refusal :=
  s.actMem (Ok.trainStepLimit site pass eyes) fun c =>
    let x := c.hub.siteS site
    if ¬ c.hub.trains site ∨ x.hubPass.isSome ∨ x.step = 0 ∨ 6 < x.step then c
    else
      let met := ((List.range 34).filter fun q => eyePasses x.step q eyes).foldl (fun m q => m + 2 ^ q) 0
      let p := modLess ((pass &&& x.mask &&& met) % 2 ^ 34) x.testBad
      let h := c.hub.recordEyes site eyes
      let h := (h.onSite site fun x => { x with hubPass := some p }).sbSend site 7 (x.step :: maskBytes p)
      (⟨h, c.mem⟩ : Chip).trainNext site

/-- TRAIN_RES (R266): the die's result of the step under way; one out of turn is refused. [log: DESIGN CHOICE 42] -/
def execTrainRes (site step pass : Nat) (s : State) : Host.Outcome State Fault Refusal :=
  s.actMem (Ok.trainRes site step pass) fun c =>
    if ¬ c.hub.trains site ∨ (c.hub.siteS site).step ≠ step then ⟨c.hub.sbNak site 7 3, c.mem⟩
    else (⟨c.hub.onSite site fun x => { x with diePass := some pass }, c.mem⟩ : Chip).trainNext site

/-- TEST (R241): a TEST flit of T6 whose CRC or payload is bad fails its module. -/
def execModuleTest (site module : Nat) (good : Bool) (s : State) : Host.Outcome State Fault Refusal :=
  s.act (Ok.moduleTest site module good) fun h =>
    if (h.siteS site).step = 6 ∧ ¬ good then
      h.onSite site fun x => { x with testBad := withBit x.testBad module true } else h

/-! ## Link-up (R242, R266, R271) -/

/-- Site `s` is ready for LINK_UP: T6 passed and the link not yet up. -/
def Hub.linkReady (h : Hub) (s : Nat) : Bool := h.phase s == 4 && (h.siteS s).step == 7

/-- Every fitted site has reached this point or been dropped. -/
def Hub.allReady (h : Hub) : Bool := (List.range 4).all fun s => !h.siteFit s || h.linkReady s || h.siteOut s

/-- The rank of site `s` among the sites of its class that reach LINK_UP (R271). -/
def Hub.rankOf (h : Hub) (s : Nat) : Nat :=
  ((List.range s).filter fun t => h.linkReady t && h.get (R.YDL_PEER_ID_CLASS t) == h.get (R.YDL_PEER_ID_CLASS s)).length

/-- Bring site `s` up (R242, R266): its set, its credits, SFN 0 and MSET 0 in both directions. -/
def Hub.linkUp (s ldid : Nat) (h : Hub) : Hub :=
  let x := h.siteS s
  let good := (List.range 34).filter fun p => bit x.trained p
  let set := good.take 32
  let spares := good.drop 32
  let h := h.onSite s fun x =>
    { x with mods := [], setTx := set, setRx := set, baseTx := 0, baseRx := 0, txq := [], held := [], change := none, again := none,
             dropx := none, lastDrop := none, spareDue := 0, sfn := 0, hdr := none, run := none, ctlq := [], escape := true }
  let h := ((h.put (R.YDL_SFN_TX_SFN s) 0).put (R.YDL_SFN_RX_SFN s) 0).put (R.YDL_STAT_MSET_TX s) 0
  let h := ((h.put (R.YDL_EVT_MSET_RX s) 0).put (R.YDL_STAT_STATE s) 2).put (R.YDL_STAT_RATE s) (h.get (R.YDL_NEG_HI s) % 16)
  let h := (h.put (R.YDL_DISC_PHASE s) 5).put (R.YDL_DISC_LDID s) ldid
  let h := Hub.each set (fun p h => h.put (R.YDL_MOD_STATE s p) 1) h
  let h := (h.showSet s).mapModules s set spares
  let h := h.upto 6 fun p h =>
    (h.put (R.YDL_CREDIT_HELD s p)
      (if p = 0 then x.crReq else if p = 1 then x.crRsp else if p - 2 < h.negClasses s then x.crData else 0)).put (R.YDL_CREDIT_OWED s p) 0
  let h := h.setBit R.GLB_POP_SITE_LIVE s
  let h := if h.negFlag s 0 then h.setBit R.BUF_STAT_SITE_COH s else h
  h.sbSend s 8 (maskBytes (set.foldl (fun m p => m + 2 ^ p) 0) ++ [set.length, ldid])

/-- LINK_UP (R266): sent to each ready site in site order once every fitted site is ready or dropped. -/
def execLinkUp (s : State) : Host.Outcome State Fault Refusal :=
  s.act Ok.linkUp fun h =>
    if h.allReady then
      let ready := (List.range 4).filter h.linkReady
      Hub.each (ready.map fun s => (s, h.rankOf s)) (fun e h => h.linkUp e.1 e.2) h
    else h

/-! ## What goes wrong on the sideband (R263, R265) -/

/-- The sideband has failed (corner of R265): after READY a WARNING, and the mainband carries on; before it the site is
dropped with WHY 13. [log: DEDUCED 40] -/
def Chip.sbDead (s : Nat) (c : Chip) : Chip :=
  let h := (c.hub.put (R.YDL_SB_STAT_DEAD s) 1).onSite s fun x => { x with sbFrame := none, sbAwait := 0 }
  if h.ready then ⟨h.warn 0x32 6 0 s, c.mem⟩ else (⟨h, c.mem⟩ : Chip).siteDrop s 13

/-- SIDEBAND_RESEND (R263): the last frame was not acknowledged; it is sent again, and after three resends the sideband has
failed. -/
def execSidebandResend (site : Nat) (s : State) : Host.Outcome State Fault Refusal :=
  s.actMem (Ok.sidebandResend site) fun c =>
    let x := c.hub.siteS site
    match x.sbFrame with
    | none => c
    | some f =>
      if 3 ≤ x.sbResends then c.sbDead site
      else
        let h := (c.hub.onSite site fun x => { x with sbResends := x.sbResends + 1 }).bump (R.YDL_SB_STAT_RETRY site) 1
        ⟨h.send (.sideband site (sbBytes f.1 f.2)), c.mem⟩

/-- SIDEBAND_ANSWER_TIMEOUT (R265, R266): the answer awaited has not come within 1 ms, and the site is dropped. HELLO is
governed by R61: there it is the 100 ms from the start of S5, and the site is missing (WHY 1). A missing result of a readmitted
module's training fails the readmission. [log: DEDUCED 40] -/
def execSidebandAnswerTimeout (site type : Nat) (s : State) : Host.Outcome State Fault Refusal :=
  s.actMem (Ok.sidebandAnswerTimeout site type) fun c =>
    if type = 0 ∨ (c.hub.siteS site).sbAwait ≠ type then c
    else match c.hub.retrains site with
      | some m => if type = 7 then ⟨(c.hub.sbAnswered site).readmitFails m, c.mem⟩ else c.siteDrop site 3
      | none => c.siteDrop site (if type = 2 then 1 else 3)

/-- SIDEBAND_CRC_ERROR (R263): not acknowledged, and counted. -/
def execSidebandCrcError (site : Nat) (s : State) : Host.Outcome State Fault Refusal :=
  s.act (Ok.sidebandCrcError site) fun h => h.bump (R.YDL_SB_STAT_CRCERR site) 1

/-- Why a good frame that no other command carries is refused (R265): its TYPE is unknown, its length is not that of its TYPE, or it is
one the hub sends. [log: DEDUCED 40] -/
def nakWhy (type : Nat) : Nat := if type = 0 ∨ 15 ≤ type then 1 else if dieLen type = 0 then 3 else 2

/-- SIDEBAND_UNKNOWN_TYPE (R263, R265): acknowledged, then answered with NAK; also a frame of another length than its TYPE has, and one
of a TYPE that only the hub sends. -/
def execSidebandUnknownType (site : Nat) (frame : SbHead) (s : State) : Host.Outcome State Fault Refusal :=
  s.act (Ok.sidebandUnknownType site frame) (Hub.sbNak site frame.type (nakWhy frame.type))

/-! ## Loopback (R287, R288) -/

/-- Start a loopback run: the lanes of its module send PRBS15 or PRBS31, V too (R287), or the walking pattern (R373). -/
def Hub.lbStart (s : Nat) (pad : Bool) (h : Hub) : Hub :=
  let h := (h.put (R.YDL_LB_DONE s) 0).upto 3 fun i h => h.put (R.YDL_LB_FAIL s i) 0
  let h := h.onSite s fun x => { x with lbQuiet := false, lbOn := true, lbPad := pad }
  let walk := h.on R.TEST_YDL_WALK_EN
  h.send (.pattern s (if h.get (R.YDL_LB_MODE s) = 1 then 7 else 8) (2 ^ (h.siteS s).lbMod)
    (if walk then 0 else if h.on (R.YDL_LB_PAT s) then 31 else 15) (if walk then [h.get R.TEST_YDL_WALK_ONES] else laneSeeds true))

/-- The module may be tested: untrained, failed, isolated or fused bad (R288). -/
def Hub.lbEligible (h : Hub) (s p : Nat) : Bool :=
  decide (p < 34) && ([0, 4, 5, 6].contains (h.get (R.YDL_MOD_STATE s p)))

/-- A YDL_s_LB write with RUN = 1 (R288): a run starts, after QUIET for LB_PAD on a fitted site, or REFUSED is set.
[log: DESIGN CHOICE 42] -/
def Hub.lbRun (s : Nat) (h : Hub) : Hub :=
  let x := h.siteS s
  let mode := h.get (R.YDL_LB_MODE s)
  let p := h.get (R.YDL_LB_MOD s)
  if mode = 0 ∨ mode = 3 ∨ x.lbOn ∨ x.lbQuiet ∨ ¬ h.lbEligible s p then h.put (R.YDL_LB_REFUSED s) 1
  else if mode = 2 ∧ h.siteFit s then
    (if h.on (R.YDL_SB_STAT_DEAD s) then h.put (R.YDL_LB_REFUSED s) 1
     else (h.onSite s fun x => { x with lbQuiet := true, lbMod := p }).sbSend s 0x0A [p, 1])
  else (h.onSite s fun x => { x with lbMod := p }).lbStart s false

/-- The fields of a YDL_s_LB write. -/
def Hub.lbFields (s : Nat) (v : Word) (h : Hub) : Hub :=
  let h := ((h.put (R.YDL_LB_MODE s) (bitsOf v 0 2)).put (R.YDL_LB_PAT s) (bitsOf v 4 1)).put (R.YDL_LB_MOD s) (bitsOf v 16 6)
  let h := if bitsOf v 10 1 = 1 then h.put (R.YDL_LB_REFUSED s) 0 else h
  h.put (R.YDL_LB_TIME s) (bitsOf v 24 8)

/-- A write of YDL_s_LB, which is protected at test level 1 (R14, R288). -/
def Hub.lbWrite (req : Path) (s : Nat) (v : Word) (h : Hub) : Hub :=
  if h.level < 1 then h.logAccess 0x10 req (0x600870 + 0x40000 * s) v.toNat
  else if bitsOf v 8 1 = 1 then (h.lbFields s v).ifPowered req (0x600870 + 0x40000 * s) v.toNat (Hub.lbRun s) else h.lbFields s v

/-- LOOPBACK_RUN (R288). -/
def execLoopbackRun (req : Path) (site : Nat) (v : Word) (s : State) : Host.Outcome State Fault Refusal :=
  s.act (Ok.loopbackRun req site v) (Hub.pfWrite req (Hub.lbWrite req site (v ||| 0x100)))

/-- QUIET_ACK (R288): the die confirms that the module is quiet, and the hub closes the switch. -/
def execQuietAck (site module : Nat) (quiet : Bool) (s : State) : Host.Outcome State Fault Refusal :=
  s.act (Ok.quietAck site module quiet) fun h =>
    if (h.siteS site).sbAwait ≠ 0x0B then h.sbNak site 0x0B 3
    else
      let g := h.sbAnswered site
      if (h.siteS site).lbQuiet ∧ quiet ∧ module = (h.siteS site).lbMod then g.lbStart site true else g

/-- QUIET_ACK_TIMEOUT (R288): the run is refused. -/
def execQuietAckTimeout (site : Nat) (s : State) : Host.Outcome State Fault Refusal :=
  s.act (Ok.quietAckTimeout site) fun h =>
    if (h.siteS site).lbQuiet then
      (h.onSite site fun x => { x with lbQuiet := false, sbAwait := 0 }).put (R.YDL_LB_REFUSED site) 1
    else h

/-- LOOPBACK_END (R287): the run's time has passed with `errs` errors per lane; lanes of `fails` did not centre or erred. The
module is released. -/
def execLoopbackEnd (site : Nat) (fails : List Nat) (errs : List (Nat × Nat)) (s : State) : Host.Outcome State Fault Refusal :=
  s.act (Ok.loopbackEnd site fails errs) fun h =>
    let x := h.siteS site
    if ¬ x.lbOn then h
    else
      let h := Hub.each fails (fun l h => if l < 69 then h.setBit (R.YDL_LB_FAIL site (l / 32)) (l % 32) else h) h
      let h := Hub.each errs (fun e h => if e.1 < 69 then h.bumpSat (R.YDL_LB_ERR site e.1) e.2 else h) h
      let h := (h.put (R.YDL_LB_DONE site) 1).onSite site fun x => { x with lbOn := false, lbPad := false }
      if x.lbPad then h.sbSend site 0x0A [x.lbMod, 0] else h

end Sys2Proof.Machine
end

