-- ==== Sys2Proof/Machine/Mast.lean ====
section
/-!
DEFINITION. The Masthead mailbox (R405), hard repair requests (R228), and the sideband's management reads and NAKs (R265):
the meanings of GET_VERSION to MAILBOX_COMPLETE, MGMT_DATA and SIDEBAND_NAK. A command's row is Masthead carrying it out;
MAILBOX_COMPLETE shows its answer.
-/
namespace Sys2Proof.Machine

/-- The bytes of MAST_DATA. -/
def Hub.mastData (h : Hub) : List Byte := (List.range 64).flatMap fun i => leBytes 4 (h.get (R.MAST_DATA i))

/-- A write of MAST_GO (R405): the command starts; while BUSY it is ignored and logged. The mailbox is not served in S0 (R64). -/
def Hub.mastGo (req : Path) (v : Word) (h : Hub) : Hub :=
  if bitsOf v 0 1 = 0 ∨ h.stage = 0 then h
  else if h.on R.MAST_STAT_BUSY then h.logAccess 0x13 req 0xC00004 v.toNat
  else
    { h with mast := { op := h.get R.MAST_CMD_OP, len := h.get R.MAST_CMD_LEN, answer := none, mgmt := none } }.put
      R.MAST_STAT_BUSY 1

/-- Masthead has carried the command out: its RESULT and response. -/
def Hub.mastAnswer (result : Nat) (response : List Byte) (h : Hub) : Hub :=
  { h with mast := { h.mast with answer := some (result, response.length, response) } }

/-- Masthead reads the request from its own memory: corrected where the code can; false where it cannot (R215). -/
def Hub.mastRead (h : Hub) : Bool × Hub :=
  (List.range ((h.mast.len + 7) / 8)).foldl (fun r i =>
    let q := r.2.sramCheck 0x3000 ((R.MAST_DATA 0).off + 8 * i)
    (r.1 && q.1, q.2)) (true, h)

/-- Masthead carries out `op`, if the mailbox holds it unanswered outside S1, with a request of `len` bytes or BAD_LEN. A request it
cannot read from its own memory is a FATAL event (R215). [log: DEDUCED 52] -/
def Hub.mastDo (op : Nat) (len : Nat → Bool) (f : Hub → Hub) (h : Hub) : Hub :=
  if h.on R.MAST_STAT_BUSY ∧ h.mast.op = op ∧ h.mast.answer = none ∧ h.mast.mgmt = none ∧ 2 ≤ h.stage then
    let r := h.mastRead
    if !r.1 then r.2.fatal 2 0 0xFFFF
    else if len h.mast.len then f r.2 else r.2.mastAnswer 3 []
  else h

/-- GET_VERSION (R405). [log: DEDUCED 52] -/
def execGetVersion (s : State) : Host.Outcome State Fault Refusal :=
  s.act Ok.getVersion (Hub.mastDo 0x01 (· == 0) fun h =>
    let v := h.boot.version
    h.mastAnswer 0 ([BitVec.ofNat 8 (v / 2 ^ 24), BitVec.ofNat 8 (v / 2 ^ 16)] ++ leBytes 2 v
      ++ [BitVec.ofNat 8 h.boot.slot, BitVec.ofNat 8 h.yew.rollback]))

/-- YEW_MARK (R405): a MARK record with the firmware's 40 bytes; its SEQ is answered. One the bucket refuses is UNAVAILABLE. -/
def execYewMark (s : State) : Host.Outcome State Fault Refusal :=
  s.act Ok.yewMark (Hub.mastDo 0x10 (· == 40) fun h =>
    let q := h.yew.seq
    let g := h.yewRecord 0x80 0 false (h.mastData.take 40)
    if g.yew.seq = q then g.mastAnswer 5 [] else g.mastAnswer 0 (leBytes 4 q))

/-- YEW_READ (R405): up to three records from a SEQ on. -/
def execYewRead (s : State) : Host.Outcome State Fault Refusal :=
  s.act Ok.yewRead (Hub.mastDo 0x11 (· == 5) fun h =>
    let k := leAt h.mastData 4 1
    if k = 0 ∨ 3 < k then h.mastAnswer 4 []
    else
      let r := h.readRecs k (leAt h.mastData 0 4)
      r.2.mastAnswer 0 (r.1.flatMap YewRec.bytes))

/-- Two hub DRAM addresses lie in one row of a bank (R197: a row of a bank holds one 1 KiB quarter of a granule). -/
def sameRow (a b : Nat) : Bool := a / 1024 == b / 1024

/-- A PPR_REQUEST (R228): its result 0 to 5 in byte 0. A cancel of a row that is not queued has no result there: BAD_ARG. -/
def Hub.pprRequest (noResource : Bool) (h : Hub) : Hub :=
  let d := h.mastData
  let a := leAt d 0 8
  let q := h.yew.region.ppr
  let ans (r : Nat) (h : Hub) : Hub := h.mastAnswer 0 [BitVec.ofNat 8 r]
  if leAt d 8 1 / 2 ≠ 0 ∨ leAt d 9 7 ≠ 0 then h.mastAnswer 4 []
  else if h.dramSize ≤ a then ans 2 h
  else if leAt d 8 1 = 1 then
    if q.any (sameRow a) then
      ans 5 ((h.writeRegion fun r => { r with ppr := r.ppr.filter fun b => !sameRow a b }).pprRecord 1 a)
    else h.mastAnswer 4 []
  else if q.any (sameRow a) then ans 4 h
  else if 16 ≤ q.length then ans 3 h
  else if noResource then ans 1 h
  else ans 0 ((h.writeRegion fun r => { r with ppr := r.ppr ++ [a] }).pprRecord 0 a)

/-- PPR_REQUEST (R228): `noResource` is what the stack's repair resources read. -/
def execPprRequest (noResource : Bool) (s : State) : Host.Outcome State Fault Refusal :=
  s.act (Ok.pprRequest noResource) (Hub.mastDo 0x20 (· == 16) (Hub.pprRequest noResource))

/-- PPR_LIST (R405). -/
def execPprList (s : State) : Host.Outcome State Fault Refusal :=
  s.act Ok.pprList (Hub.mastDo 0x21 (· == 0) fun h =>
    let q := h.yew.region.ppr
    h.mastAnswer 0 (BitVec.ofNat 8 q.length :: q.flatMap (leBytes 8)))

/-- The sideband of site `s` can carry a management read: it is alive and the site live. -/
def Hub.mgmtAble (h : Hub) (s : Nat) : Bool := decide (s < 4) && h.siteLive s && !h.on (R.YDL_SB_STAT_DEAD s)

/-- SITE_MGMT_RD (R405): MGMT_RD goes to the site; UNAVAILABLE when it cannot. -/
def execSiteMgmtRd (s : State) : Host.Outcome State Fault Refusal :=
  s.act Ok.siteMgmtRd (Hub.mastDo 0x30 (· == 3) fun h =>
    let site := leAt h.mastData 0 1
    if 4 ≤ site then h.mastAnswer 4 []
    else if !h.mgmtAble site then h.mastAnswer 5 []
    else
      { h with mast := { h.mast with mgmt := some site } }.sbSend site 0x0C [leAt h.mastData 1 1, leAt h.mastData 2 1])

/-- IMAGE_STAGE (R405): bytes go into the inactive image slot. -/
def execImageStage (s : State) : Host.Outcome State Fault Refusal :=
  s.act Ok.imageStage (Hub.mastDo 0x40 (fun n => decide (5 ≤ n) && decide (n ≤ 252)) fun h =>
    let off := leAt h.mastData 0 4
    let n := h.mast.len - 4
    if off % 4 ≠ 0 ∨ 0x80000 < off + n then h.mastAnswer 4 []
    else
      let bytes := ((h.mastData.drop 4).take n).zipIdx
      let l := bytes.foldl (fun l e => Store.set (fun _ => (0 : Byte)) l (off + e.2) e.1) h.yew.imgBytes
      { h with yew := { h.yew with imgBytes := l } }.mastAnswer 0 [])

/-- The listed mailbox commands. -/
def mastOps : List Nat := [0x01, 0x10, 0x11, 0x20, 0x21, 0x30, 0x40]

/-- What Masthead answers now: NOT_READY in S1, BAD_OP, or the command's answer once it is carried out. [log: DEDUCED 52] -/
def Hub.mastResult (h : Hub) : Option (Nat × Nat × List Byte) :=
  if h.stage = 1 then some (1, 0, []) else if !mastOps.contains h.mast.op then some (2, 0, []) else h.mast.answer

/-- MAILBOX_COMPLETE (R405): DONE with RESULT and RLEN, the response over MAST_DATA, and the message. -/
def execMailboxComplete (s : State) : Host.Outcome State Fault Refusal :=
  s.act Ok.mailboxComplete fun h =>
    if ¬ h.on R.MAST_STAT_BUSY then h
    else match h.mastResult with
      | none => h
      | some (result, rlen, bytes) =>
        let h := (((h.put R.MAST_STAT_BUSY 0).put R.MAST_STAT_DONE 1).put R.MAST_STAT_RESULT result).put R.MAST_STAT_RLEN rlen
        let h := h.upto 64 fun i g =>
          if 4 * i < bytes.length then g.put (R.MAST_DATA i) (leAt bytes (4 * i) 4) else g
        if h.on R.MAST_IRQ_EN then h.sendVector 0 (h.get R.MAST_IRQ_VEC % 264) else h

/-! ## Management data and NAK (R265) -/

/-- MGMT_DATA (R265): the value of the read under way answers the mailbox. [log: DEDUCED 52] -/
def execMgmtData (site addr : Nat) (v : Word) (s : State) : Host.Outcome State Fault Refusal :=
  s.act (Ok.mgmtData site addr v) fun h =>
    if (h.siteS site).sbAwait ≠ 0x0D then h.sbNak site 0x0D 3
    else
    let h := h.sbAnswered site
    if h.mast.mgmt = some site ∧ addr = leAt h.mastData 1 2 then
      { h with mast := { h.mast with mgmt := none } }.mastAnswer 0 (leBytes 4 v.toNat)
    else h

/-- SIDEBAND_NAK (R265): a frame is refused. In discovery the site is dropped as if unanswered; a refused QUIET refuses the
loopback run; a refused MGMT_RD is UNAVAILABLE. -/
def execSidebandNak (site type why : Nat) (s : State) : Host.Outcome State Fault Refusal :=
  s.actMem (Ok.sidebandNak site type why) fun c =>
    let h := c.hub.sbAnswered site
    if type = 0x0A then
      (if (h.siteS site).lbQuiet then
        ⟨(h.onSite site fun x => { x with lbQuiet := false }).put (R.YDL_LB_REFUSED site) 1, c.mem⟩ else ⟨h, c.mem⟩)
    else if type = 0x0C then
      (if h.mast.mgmt = some site then ⟨{ h with mast := { h.mast with mgmt := none } }.mastAnswer 5 [], c.mem⟩ else ⟨h, c.mem⟩)
    else if 1 ≤ h.phase site ∧ h.phase site ≤ 4 then (⟨h, c.mem⟩ : Chip).siteDrop site 3
    else ⟨h, c.mem⟩

end Sys2Proof.Machine
end

