-- ==== Sys2Proof/Machine/Pcie.lean ====
section
/-!
DEFINITION. The PCIe function beyond its rings (R63, R64, R98 to R102, R108): link training, configuration requests, the BAR4
window, and the errors the host sees; the meanings of PCIE_LINK_UP, CONFIG_REQUEST, BAR4_*, UNSUPPORTED_REQUEST,
POISONED_TLP_RECEIVED and MALFORMED_TLP.
-/
namespace Sys2Proof.Machine

/-! ## The link (R63, R98, R99) -/

/-- PCIE_LINK_UP (R99): the port trains from Detect while its pins are its own (R376) and D68 is up; GLB_PCIE_STAT takes rate,
width and FLIT mode, which is always on at 64 GT/s (R98). Below 16 GT/s or x8 a WARNING is logged. [log: DESIGN CHOICE 32] -/
def execPcieLinkUp (rate width : Nat) (flit : Bool) (s : State) : Host.Outcome State Fault Refusal :=
  s.act (Ok.pcieLinkUp rate width flit) fun h =>
    if !h.pcie.detect || h.pinsOut || !h.domOn 68 then h
    else
      let h := { h with pcie := { h.pcie with linkUp := true } }
      let h := (h.put R.GLB_PCIE_STAT_RATE rate).put R.GLB_PCIE_STAT_WIDTH width
      let h := h.put R.GLB_PCIE_STAT_FLIT (b2n (flit || rate == 6))
      if rate < 4 ∨ width < 8 then h.warn 0x13 0 rate 0xFFFF else h

/-! ## Configuration requests (R63, R65, R103) -/

/-- The vendor and device ID word of function `fn` (R103, spec/00): 0x0480 for the PF, 0x0481 for a VF.
[log: DESIGN CHOICE 32] -/
def configId (fn : Nat) : Nat := Config.vendorId % 65536 + 65536 * (if fn = 0 then 0x0480 else 0x0481)

/-- Function `fn`'s MSI-X Enable and Function Mask are written: the messages that nothing holds back any more go out (R123). -/
def Hub.msixControl (fn : Nat) (enable mask : Bool) (h : Hub) : Hub :=
  let h := { h with pcie := { h.pcie with
    msixEn := nset h.pcie.msixEn fn (b2n enable), fmask := nset h.pcie.fmask fn (b2n mask) } }
  h.upto (vectorsOf fn) (Hub.sendPending fn)

/-- The place of a writable configuration field in `PcieS.cfg`. -/
def cfgCode : CfgField → Nat
  | .bar i => i % 8
  | .vfBar i => 8 + i % 8
  | .mps => 16
  | .mrrs => 17
  | .relaxedOrdering => 18
  | .idOrdering => 19
  | .tagEnable => 20
  | .timeout => 21
  | .systemPageSize => 22
  | _ => 63

/-- Bytes of BAR dword pair `j` of function `fn` (R100); 0 where there is none. A VF's own BARs read 0: the PF's SR-IOV
capability holds them. [log: DESIGN CHOICE 32] -/
def barSize (fn j : Nat) : Nat := if fn ≠ 0 then 0 else [2 ^ 25, 2 ^ 20, 2 ^ 36].getD j 0

/-- Bytes of VF BAR pair `j` of the PF's SR-IOV capability (R100). -/
def vfBarSize (fn j : Nat) : Nat := if fn ≠ 0 then 0 else [2 ^ 14, 2 ^ 18].getD j 0

/-- Dword `i` of a 64-bit memory BAR of `size` bytes that holds `v`: the type bits, prefetchable for the 64 GiB window, and the
address bits above the size. -/
def barWord (size i v : Nat) : Nat :=
  if size = 0 then 0
  else if i % 2 = 0 then (if size < 2 ^ 32 then v % 2 ^ 32 / size * size else 0) + (if size = 2 ^ 36 then 0xC else 4)
  else if size < 2 ^ 32 then v % 2 ^ 32 else v % 2 ^ 32 / (size / 2 ^ 32) * (size / 2 ^ 32)

/-- The value a field was last written, or the one it has after reset: 512-byte reads and Relaxed Ordering are the PCI Express
defaults. [log: PRESUMED 59] -/
def Hub.cfgHeld (h : Hub) (fn : Nat) (f : CfgField) : Nat :=
  let w := nget h.pcie.cfg (64 * fn + cfgCode f)
  if w ≠ 0 then w - 1 else match f with
    | .mrrs => 2
    | .relaxedOrdering => 1
    | .systemPageSize => 1
    | _ => 0

/-- What a read of a configuration field answers (R98, R100, R103). [log: PRESUMED 59] -/
def Hub.cfgRead (h : Hub) (fn : Nat) (f : CfgField) : Nat :=
  match f with
  | .bar i => barWord (barSize fn (i / 2)) i (h.cfgHeld fn f)
  | .vfBar i => barWord (vfBarSize fn (i / 2)) i (h.cfgHeld fn f)
  | .mpsSupported => 2
  | .tagsSupported => 1
  | .timeoutRanges => 3
  | .linkPower => 0
  | .powerState => if nget h.pcie.d3 fn = 1 then 3 else 0
  | .busMaster => nget h.pcie.bme fn
  | .totalVfs => if fn = 0 then 31 else 0
  | .numVfs => if fn = 0 then h.pcie.numVfs else 0
  | .vfEnable => if fn = 0 then b2n h.pcie.vfEn else 0
  | .vfDeviceId => if fn = 0 then 0x0481 else 0
  | .firstVfOffset => if fn = 0 then 1 else 0
  | .vfStride => if fn = 0 then 1 else 0
  | .pageSizes => if fn = 0 then 1 else 0
  | _ => h.cfgHeld fn f

/-- Bits of a writable field; 0 of a read-only one and of one that other commands write. [log: PRESUMED 59] -/
def cfgWidth : CfgField → Nat
  | .bar _ => 32
  | .vfBar _ => 32
  | .mps => 3
  | .mrrs => 3
  | .relaxedOrdering => 1
  | .idOrdering => 1
  | .tagEnable => 1
  | .timeout => 4
  | .systemPageSize => 32
  | _ => 0

/-- A write of a configuration field: the field holds it; a read-only one does not change. -/
def Hub.cfgWrite (fn : Nat) (f : CfgField) (v : Word) (h : Hub) : Hub :=
  if cfgWidth f = 0 then h
  else { h with pcie := { h.pcie with cfg := nset h.pcie.cfg (64 * fn + cfgCode f) (1 + v.toNat % 2 ^ cfgWidth f) } }

/-- CONFIG_REQUEST (R63): from link-up onward every request is answered with Successful Completion. A register whose contents
the spec does not give reads as a free value; a write to it has no effect on the hub.
[log: DESIGN CHOICE 32; DESIGN CHOICE 33] -/
def execConfigRequest (fn : Nat) (what : CfgReq) (s : State) : Host.Outcome State Fault Refusal :=
  s.act (Ok.configRequest fn what) fun h =>
    if !h.pcie.linkUp then h
    else match what with
      | .readId => h.send (.completion fn 0 (leBytes 4 (configId fn)))
      | .read f => h.send (.completion fn 0 (leBytes 4 (h.cfgRead fn f)))
      | .readOther => h.drew.send (.completion fn 0 (leBytes 4 h.free))
      | .write f v => (h.cfgWrite fn f v).send (.completion fn 0 [])
      | .msix enable mask => (h.msixControl fn enable mask).send (.completion fn 0 [])
      | .writeOther => h.send (.completion fn 0 [])

/-! ## BAR4 (R64, R101, R102, R173, R326) -/

/-- Where a BAR4 offset leads (R101, R173): a buffer offset, a hub DRAM address, or nowhere. -/
inductive Bar4 where
  | buffer (off : Nat)
  | dram (addr : Nat)
  | nowhere
deriving DecidableEq, Repr

/-- The place of BAR4 offset `off`. -/
def Hub.bar4 (h : Hub) (off : Nat) : Bar4 :=
  if off < 0x18000000 then (if off < h.bufSize then .buffer off else .nowhere)
  else if off < 0x40000000 then .nowhere
  else
    let a := h.get R.GLB_BAR4_DRAM_BASE * 2 ^ 30 + (off - 0x40000000)
    if a < h.dramSize then .dram a else .nowhere

/-- Answer a PF read with data. -/
def Hub.readDone (data : List Byte) (h : Hub) : Hub := h.send (.completion 0 0 data)

/-- AER logs a Correctable Internal Error where a read of the PF has met one (R102, R108): the RAS log has moved on.
[log: PRESUMED 59] -/
def Hub.aerCorrected (before : Hub) (h : Hub) : Hub := if h.ras.seq = before.ras.seq then h else h.aer 0 7

/-- A BAR4 read of `n` bytes: 0 and logged before READY and in scratch; 0 where nothing is mapped; a buffer range as a
non-caching read of its home (R178, R181); Completer Abort and AER on an uncorrectable error. [log: DESIGN CHOICE 33] -/
def Chip.bar4Read (off n : Nat) (c : Chip) : Chip :=
  if !c.hub.ready then ⟨(c.hub.logAccess 0x12 .pf off 0).readDone (zeros n), c.mem⟩
  else match c.hub.bar4 off with
    | .nowhere => ⟨c.hub.readDone (zeros n), c.mem⟩
    | .buffer b =>
      if c.hub.inScratch b n then ⟨(c.hub.logAccess 0x13 .pf off 0).readDone (zeros n), c.mem⟩ else c.ncRead false 0 1 0 b n
    | .dram a =>
      let r := c.read 0 0 a n
      if r.bad then ⟨(r.chip.hub.aer 0 0).send (.completion 0 4 []), r.chip.mem⟩ else ⟨(r.chip.hub.aerCorrected c.hub).readDone r.data, r.chip.mem⟩

/-- BAR4_READ (R101, R102): `n` bytes inside one 4 KiB block. -/
def execBar4Read (off n : Nat) (s : State) : Host.Outcome State Fault Refusal :=
  s.actMem (Ok.bar4Read off n) (Chip.bar4Read off n)

/-- A BAR4 write: posted, so nothing is answered; ignored before READY and in scratch (both logged) and where nothing is
mapped. [log: DESIGN CHOICE 33] -/
def Chip.bar4Write (off : Nat) (bs : List Byte) (c : Chip) : Chip :=
  let v := leAt bs 0 4
  if !c.hub.ready then ⟨c.hub.logAccess 0x12 .pf off v, c.mem⟩
  else match c.hub.bar4 off with
    | .nowhere => c
    | .buffer b =>
      if c.hub.inScratch b bs.length then ⟨c.hub.logAccess 0x13 .pf off v, c.mem⟩
      else c.ncWrite false 0 0 0 b bs.length (cutLines b bs)
    | .dram a => (c.write 0 0 a bs).chip

/-- BAR4_WRITE (R101): the bytes of one TLP, inside one 4 KiB block. -/
def execBar4Write (off : Nat) (data : List Byte) (s : State) : Host.Outcome State Fault Refusal :=
  s.actMem (Ok.bar4Write off data) (Chip.bar4Write off data)

/-! ## Errors the host sees (R108) -/

/-- UNSUPPORTED_REQUEST (R108): a request of function `fn` that no BAR covers; a non-posted one is answered Unsupported
Request, and AER logs it. [log: DESIGN CHOICE 33] -/
def execUnsupportedRequest (fn : Nat) (posted : Bool) (s : State) : Host.Outcome State Fault Refusal :=
  s.act (Ok.unsupportedRequest fn posted) fun h =>
    let h := h.aer fn 1
    if posted then h else h.send (.completion fn 1 [])

/-- POISONED_TLP_RECEIVED (R108). -/
def execPoisonedTlpReceived (fn : Nat) (s : State) : Host.Outcome State Fault Refusal :=
  s.act (Ok.poisonedTlpReceived fn) (Hub.aer fn 2)

/-- MALFORMED_TLP (R108): a malformed TLP, or one whose credits overflow the receiver. -/
def execMalformedTlp (tlp : BadTlp) (s : State) : Host.Outcome State Fault Refusal :=
  s.act (Ok.malformedTlp tlp) (Hub.aer tlp.fn (if tlp.overflow then 6 else 5))

end Sys2Proof.Machine
end

