-- ==== Sys2Proof/Machine/Link.lean ====
section
/-!
DEFINITION. Receiving flits (R247 to R252, R272, R279): the valid word, the CRC, LINK flits, and the delivery of DATA and
CONTROL flits in site order to the messages they carry; the meaning of FLIT_RECEIVE. Core waves and known-answer digests
(R73, R78) are told to bring-up through the two hooks of `Chip.siteMessage`.
-/
namespace Sys2Proof.Machine

/-! ## Control messages (R272, R273) -/

/-- A message of class RSP (R273), from either end. -/
def msgRsp (msg : Nat) : Bool :=
  [0x12, 0x13, 0x1D, 0x1E, 0x20, 0x21, 0x24, 0x25, 0x31, 0x33, 0x41, 0x43, 0x51, 0x61, 0x63, 0x65, 0x71].contains msg

/-- A cleat operation of a site: op, compare code, cleat, value, timeout (R273). -/
def Chip.cltMessage (s tag : Nat) (b : List Byte) (c : Chip) : Chip :=
  let op := leAt b 4 1
  let n := leAt b 6 2
  let v := leAt b 8 4
  let f : Hub → Hub := fun h =>
    match op with
    | 0 => h.cltPut { site := s, tag := tag, set := false, cleat := n, value := v, after := 0 }
    | 1 => h.cltPut { site := s, tag := tag, set := true, cleat := n, value := v, after := 0 }
    | 2 => h.cltOp s tag n fun h =>
        if 256 ≤ h.siteWaits s then h.cltAns s tag 4 0
        else h.cleatWait { who := .site s tag (leAt b 12 2), cleat := n, cmp := leAt b 5 1, value := v, time := 0 }
    | 3 => h.cltOp s tag n fun h => (h.countEvent 3).cltDone s tag n
    | _ => h
  ⟨f c.hub, c.mem⟩

/-- What a control message of site `s` does: header `b`, with a line or none. `wave` and `digest` are bring-up's answers to
WAVE_DONE and KAR_DIGEST. -/
def Chip.siteMessage (wave digest : Nat → List Byte → Chip → Chip) (s : Nat) (b line : List Byte) (c : Chip) : Chip :=
  let msg := leAt b 0 1
  let tag := leAt b 2 2
  let a := leAt b 4 8
  let n := if line = [] then 1 else 2
  let hub (f : Hub → Hub) : Chip → Chip := fun c => ⟨f c.hub, c.mem⟩
  match msg with
  | 0x01 => c.takeCredit s ((List.range 6).map fun p => leAt b (4 + 2 * p) 2)
  | 0x10 => Chip.consume s 0 n (Chip.siteRead false s tag a) c
  | 0x11 => Chip.consume s 0 n (Chip.siteWrite false s tag a (leAt b 12 8) line) c
  | 0x18 => (Chip.consume s 0 n (Chip.cacheable 0 s tag a) c).decided false
  | 0x19 => (Chip.consume s 0 n (Chip.cacheable 1 s tag a) c).decided false
  | 0x1A => (Chip.consume s 0 n (Chip.cacheable 2 s tag a) c).decided false
  | 0x1B => (Chip.consume s 0 n (Chip.writeback s tag a line) c).decided false
  | 0x1C => (Chip.consume s 0 n (Chip.writeback s tag a []) c).decided false
  | 0x1D => Chip.consume s 1 n (Chip.recallAnswer s a []) c
  | 0x1E => Chip.consume s 1 n (Chip.recallAnswer s a line) c
  | 0x30 => Chip.consume s 0 n (Chip.cltMessage s tag b) c
  | 0x32 => Chip.consume s 0 n (hub (Hub.timeRd s tag (leAt b 4 1))) c
  | 0x41 => Chip.consume s 1 n (Chip.openAck s tag (leAt b 4 1)) c
  | 0x42 => Chip.consume s 0 n (hub (Hub.siteClose s tag (leAt b 4 1 == 0) (leAt b 5 1) (leAt b 8 2))) c
  | 0x43 => Chip.consume s 1 n (hub (Hub.closeAcked s (leAt b 4 1 == 0) (leAt b 8 2))) c
  | 0x51 => Chip.consume s 1 n (hub (Hub.callDone s tag (leAt b 4 4) (leAt b 8 2) (leAt b 12 4))) c
  | 0x61 => Chip.consume s 1 n (hub (Hub.allowAck s (leAt b 4 2) (leAt b 12 4))) c
  | 0x63 => Chip.consume s 1 n (wave s b) c
  | 0x65 => Chip.consume s 1 n (digest s b) c
  | 0x71 => Chip.consume s 1 n (hub (Hub.setAccept s (leAt b 8 4))) c
  | _ => Chip.consume s (b2n (msgRsp msg)) n (hub fun h => h.bump (R.YDL_CTL_BADMSG s) 1) c

/-! ## Delivery (R251, R279) -/

/-- Deliver a CONTROL flit: a header that announces a line waits for it. -/
def Chip.deliverControl (wave digest : Nat → List Byte → Chip → Chip) (s : Nat) (b : List Byte) (c : Chip) : Chip :=
  match (c.hub.siteS s).hdr with
  | some hd => (⟨c.hub.onSite s fun x => { x with hdr := none }, c.mem⟩ : Chip).siteMessage wave digest s hd b
  | none =>
    if bit (leAt b 1 1) 0 then ⟨c.hub.onSite s fun x => { x with hdr := some b }, c.mem⟩
    else c.siteMessage wave digest s b []

/-- Credit pool of stream `id`'s class. -/
def Hub.runPool (h : Hub) (s id : Nat) : Nat := 2 + (((h.siteS s).stream false id).map fun t => t.cls).getD 0

/-- Deliver a DATA flit: a run's header, or the next 64 bytes of the run (R279). -/
def Chip.deliverData (s : Nat) (b : List Byte) (c : Chip) : Chip :=
  match (c.hub.siteS s).run with
  | some (id, k, off) =>
    let h := c.hub.onSite s fun x => { x with run := if k ≤ 1 then none else some (id, k - 1, off + 1) }
    Chip.consume s (h.runPool s id) 1 (Chip.takeRun s id off b) ⟨h, c.mem⟩
  | none =>
    let id := leAt b 0 2
    let k := leAt b 2 1
    let h := c.hub.onSite s fun x => { x with run := if k = 0 then none else some (id, k, leAt b 4 4) }
    Chip.consume s (h.runPool s id) 1 (fun c => c) ⟨h, c.mem⟩

/-- Deliver every held flit that is next in SFN order. -/
def Chip.deliver (wave digest : Nat → List Byte → Chip → Chip) (s : Nat) : Nat → Chip → Chip
  | 0, c => c
  | k + 1, c =>
    match c.hub.nextFlit s with
    | none => c
    | some (f, h) =>
      let c : Chip := ⟨h.msetSwitch s false, c.mem⟩
      let c := if f.type = 2 then c.deliverControl wave digest s f.payload else c.deliverData s f.payload
      Chip.deliver wave digest s k c

/-! ## LINK flits (R252, the LINK op table) -/

/-- Handle a LINK flit on module `p`. -/
def Chip.handleLink (s p seq : Nat) (b : List Byte) (c : Chip) : Chip :=
  match leAt b 0 1 with
  | 0 => c
  | 1 => c.takeAck s (leAt b 1 1) (leAt b 2 1) ((List.range 16).map fun i => (leAt b (4 + 2 * i) 1, leAt b (5 + 2 * i) 1))
  | 2 => ⟨c.hub.replayStart s p seq (leAt b 2 1), c.mem⟩
  | 3 => c.takeDropReq s (leAt b 1 1) (leAt b 2 1) (leAt b 4 4) (leAt b 8 1)
  | 4 => ⟨c.hub.takeDropAck s (leAt b 1 1) (leAt b 2 1) (leAt b 4 4), c.mem⟩
  | _ => ⟨c.hub.bump (R.YDL_EVT_BADOP s) 1, c.mem⟩

/-- A flit on module `p` of site `s` (R252): its valid word `v`, its control bits `k` and its payload. -/
def Chip.receiveFlit (wave digest : Nat → List Byte → Chip → Chip) (s p v k : Nat) (payload : List Byte) (c : Chip) : Chip :=
  if ¬ c.hub.siteUp s ∨ ¬ (c.hub.siteS s).rxOn p then c
  else
    let h := c.hub.takeLevel s p v
    let type := k % 4
    let seq := k / 4 % 64
    let m := (h.siteS s).mod p
    if slotKind v = 1 then ⟨h, c.mem⟩
    else if slotKind v = 2 ∨ type = 3 ∨ k / 256 ≠ flitCrc seq type payload then ⟨h.badFlit s p, c.mem⟩
    else if type = 0 then (⟨h, c.mem⟩ : Chip).handleLink s p seq payload
    else if (m.nak ∧ ¬ m.armed) ∨ seq ≠ m.exp then ⟨h, c.mem⟩
    else (⟨h.acceptFlit s p seq type payload, c.mem⟩ : Chip).deliver wave digest s 2048

end Sys2Proof.Machine
end

