-- ==== Sys2Proof/Machine/Test.lean ====
section
/-!
DEFINITION. The TAP, the hedge gate, zeroisation and the fail map (spec/17): the meanings of EXTEST to BYPASS,
TRST_N_ASSERT, HEDGE_*, SCAN_* and FMAP_INDEX. Logic BIST and ZEROISE_COMPLETE stand in Stage.lean, TEST_REG in Access.lean.
-/
namespace Sys2Proof.Machine

/-! ## The TAP (R374 to R378) -/

/-- The pins leave function (R376): PCIe goes link-down, every enabled port goes DOWN (R312). No rule gives the reason code:
a free value. -/
def Hub.removePins (h : Hub) : Hub :=
  let h := { h with pcie := { h.pcie with linkUp := false } }
  h.upto 32 fun p g => if g.portOn p then g.drew.portLeave p 3 (g.free % 16) else g

/-- The pins return to function (R376): ports re-enable under their own rules; PCIe retrains when its partner does. -/
def Hub.returnPins (h : Hub) : Hub :=
  h.upto 32 fun p g => if g.portOn p ∧ g.portState p = 3 then g.portEnable p else g

/-- Put opcode `op` in force in the instruction register. -/
def Hub.setIr (op : Nat) (h : Hub) : Hub :=
  let was := h.pinsOut
  let h := h.put R.TEST_JTAG_STAT_IR op
  if h.pinsOut && !was then h.removePins else if was && !h.pinsOut then h.returnPins else h

/-- An opcode not listed, or above the level in force, selects the bypass register and is counted (R375). -/
def Hub.denied (h : Hub) : Hub := (h.setIr 0xFF).bump R.TEST_JTAG_STAT_DENIED 1

/-- Load instruction `op`, which needs level `lvl`; then `f`. -/
def Hub.tapLoad (op lvl : Nat) (f : Hub → Hub) (h : Hub) : Hub := if lvl ≤ h.level then f (h.setIr op) else h.denied

/-- The value of `n` words from field `f 0` on, the first lowest. -/
def Hub.wordsOf (h : Hub) (n : Nat) (f : Nat → RF) : Nat :=
  (List.range n).foldl (fun a i => a + h.get (f i) * 2 ^ (32 * i)) 0

/-- EXTEST (R376): the boundary outputs are driven. -/
def execExtest (s : State) : Host.Outcome State Fault Refusal :=
  s.act Ok.extest (Hub.tapLoad 0x00 1 fun h => h.send (.pins 0 h.test.boundary))

/-- The identification register (R374): version 0x2, part number 0x0480, the JEP106 code, which no rule gives, and 1. -/
def idcode (jep : Nat) : Nat := 2 * 2 ^ 28 + 0x0480 * 2 ^ 12 + jep % 2 ^ 11 * 2 + 1

/-- IDCODE (R374). -/
def execIdcode (s : State) : Host.Outcome State Fault Refusal :=
  s.act Ok.idcode (Hub.tapLoad 0x01 0 fun h => h.send (.readData .tap (idcode Config.jep106)))

/-- SAMPLE (R375): the boundary register captures the pins. -/
def execSample (pins : Nat) (s : State) : Host.Outcome State Fault Refusal :=
  s.act (Ok.sample pins) (Hub.tapLoad 0x02 0 fun h =>
    { h with test := { h.test with boundary := pins } }.send (.readData .tap pins))

/-- PRELOAD (R375): the boundary register is loaded. -/
def execPreload (v : Nat) (s : State) : Host.Outcome State Fault Refusal :=
  s.act (Ok.preload v) (Hub.tapLoad 0x03 1 fun h => { h with test := { h.test with boundary := v } })

/-- CLAMP (R376): the boundary outputs are held. -/
def execClamp (s : State) : Host.Outcome State Fault Refusal :=
  s.act Ok.clamp (Hub.tapLoad 0x04 1 fun h => h.send (.pins 1 h.test.boundary))

/-- HIGHZ (R376): the boundary outputs float. -/
def execHighz (s : State) : Host.Outcome State Fault Refusal :=
  s.act Ok.highz (Hub.tapLoad 0x05 1 fun h => h.send (.pins 2 0))

/-- EXTEST_PULSE (R376): the pulse test on the AC pins. -/
def execExtestPulse (s : State) : Host.Outcome State Fault Refusal :=
  s.act Ok.extestPulse (Hub.tapLoad 0x06 1 fun h => h.send (.pins 3 h.test.boundary))

/-- EXTEST_TRAIN (R376): the train test on the AC pins. -/
def execExtestTrain (s : State) : Host.Outcome State Fault Refusal :=
  s.act Ok.extestTrain (Hub.tapLoad 0x07 1 fun h => h.send (.pins 4 h.test.boundary))

/-- BYPASS (R375): loaded as 0xFF, or selected by an opcode that is not listed, which is counted. -/
def execBypass (op : Nat) (s : State) : Host.Outcome State Fault Refusal :=
  s.act (Ok.bypass op) fun h => if op = 0xFF then h.setIr 0xFF else h.denied

/-- TRST_N_ASSERT (R374): the TAP resets to IDCODE, and the pins return to function. -/
def execTrstNAssert (s : State) : Host.Outcome State Fault Refusal :=
  s.act Ok.trstNAssert (Hub.setIr 0x01)

/-- Scan operation begins (R377): normal operation ends, and the emergency sequencer lowers every domain outside D0 before the
first shift, unless Reef has been disabled. [log: DEDUCED 50] -/
def Hub.enterScan (h : Hub) : Hub :=
  if h.test.scan then h
  else
    { h with test := { h.test with scan := true }, yew := { h.yew with dispStop := true },
             boot := { h.boot with pend := if h.reefOn then 3 else 0 } }

/-- SCAN_SHIFT (R377): SCAN_SHIFT and the chain selects. What the chains hold is not given: a free value is shifted out; the
secret's cells shift out as 0 (R385). [log: DEDUCED 50] -/
def execScanShift (op : Nat) (s : State) : Host.Outcome State Fault Refusal :=
  s.act (Ok.scanShift op) (Hub.tapLoad op 2 fun h => h.enterScan.drew.send (.readData .tap h.free))

/-- SCAN_CAPTURE (R377): the logic's state, a free value, is captured into the chains. [log: DEDUCED 50] -/
def execScanCapture (s : State) : Host.Outcome State Fault Refusal :=
  s.act Ok.scanCapture (Hub.tapLoad 0x21 2 Hub.enterScan)

/-! ## The hedge gate (R379 to R383) -/

/-- An attempt is outstanding: CHALLENGE, VERIFYING or ZEROISING. -/
def Hub.attemptOpen (h : Hub) : Bool :=
  decide (1 ≤ h.get R.TEST_HEDGE_STAT_STATE) && decide (h.get R.TEST_HEDGE_STAT_STATE ≤ 3)

/-- The path code of an attempt's owner: 0 PF, 1 TAP. -/
def hedgePath (req : Path) : Nat := b2n (req == .tap)

/-- The level an attempt asks for. -/
def Hub.hedgeN (h : Hub) : Nat := h.get R.TEST_HEDGE_REQ_LEVEL

/-- The token's bytes `a` to `a + n - 1`, as submitted. -/
def Hub.tokenAt (h : Hub) (a n : Nat) : Nat := leAt h.test.sub (32 + a) n

/-- The HEDGE record of a grant or refusal (R392), which bypasses the bucket. [log: DEDUCED 50] -/
def Hub.hedgeRecord (result : Nat) (h : Hub) : Hub :=
  h.yewRecord 0x30 0 true
    (padTo 4 [BitVec.ofNat 8 h.hedgeN, BitVec.ofNat 8 result, BitVec.ofNat 8 (h.get R.TEST_HEDGE_STAT_PATH)]
      ++ leBytes 4 (h.tokenAt 48 4) ++ leBytes 8 h.map.fuse.serial)

/-- Refuse an attempt (R381): STATE REFUSED, RESULT, and a record. -/
def Hub.hedgeRefuse (result : Nat) (h : Hub) : Hub :=
  ((h.put R.TEST_HEDGE_STAT_STATE 5).put R.TEST_HEDGE_STAT_RESULT result).hedgeRecord result

/-- Draw a 256-bit challenge from the random source. -/
def Hub.drawChallenge (h : Hub) : Hub := h.upto 8 fun i g => g.putFree (R.TEST_HEDGE_CHAL i)

/-- A request for level `n` with no attempt outstanding (R380, R381). [log: DEDUCED 50] -/
def Hub.hedgeAsk (path n : Nat) (h : Hub) : Hub :=
  let h := ((h.put R.TEST_HEDGE_REQ_LEVEL n).put R.TEST_HEDGE_STAT_PATH path)
  let h := { h with test := { h.test with sub := [] } }
  if 3 ≤ h.get R.TEST_HEDGE_STAT_FAILS then h.hedgeRefuse 7
  else if n ≤ h.level then h.hedgeRefuse 6
  else if !h.on R.TEST_HEDGE_STAT_WINDOW then h.hedgeRefuse 2
  else ((h.put R.TEST_HEDGE_STAT_STATE 1).put R.TEST_HEDGE_STAT_RESULT 0).drawChallenge

/-- A write of TEST_HEDGE_REQ by the PF or the TAP; while an attempt is outstanding it is ignored and logged. -/
def Hub.hedgeReq (req : Path) (v : Word) (h : Hub) : Hub :=
  if req ≠ .pf ∧ req ≠ .tap then h
  else if h.attemptOpen then h.logAccess 0x13 req 0xA00404 v.toNat
  else h.hedgeAsk (hedgePath req) (bitsOf v 0 2)

/-- HEDGE_REQ (R381): by the TAP's instruction or by a register write. -/
def execHedgeReq (req : Path) (v : Word) (s : State) : Host.Outcome State Fault Refusal :=
  s.act (Ok.hedgeReq req v) fun h => (if req = .tap then h.setIr 0x10 else h).hedgeReq req v

/-- HEDGE_CHAL (R375): the challenge registers are read. -/
def execHedgeChal (s : State) : Host.Outcome State Fault Refusal :=
  s.act Ok.hedgeChal (Hub.tapLoad 0x11 0 fun h => h.send (.readData .tap (h.wordsOf 8 R.TEST_HEDGE_CHAL)))

/-- A write of a RESP or TOKEN register: by the other path while an attempt is outstanding it is ignored and logged (R381). -/
def Hub.hedgeWord (req : Path) (f : RF) (v : Word) (h : Hub) : Hub :=
  if req ≠ .pf ∧ req ≠ .tap then h
  else if h.attemptOpen ∧ h.get R.TEST_HEDGE_STAT_PATH ≠ hedgePath req then h.logAccess 0x13 req f.off v.toNat
  else h.put f v.toNat

/-- The TAP writes the registers of a HEDGE instruction. -/
def Hub.hedgeWords (f : Nat → RF) (words : List Word) (h : Hub) : Hub :=
  h.each words.zipIdx fun e g => g.hedgeWord .tap (f e.2) e.1

/-- HEDGE_RESP (R375): the response registers take the words shifted in. -/
def execHedgeResp (words : List Word) (s : State) : Host.Outcome State Fault Refusal :=
  s.act (Ok.hedgeResp words) (Hub.tapLoad 0x12 0 (Hub.hedgeWords R.TEST_HEDGE_RESP words))

/-- HEDGE_TOKEN (R375): the token registers take the words shifted in. -/
def execHedgeToken (words : List Word) (s : State) : Host.Outcome State Fault Refusal :=
  s.act (Ok.hedgeToken words) (Hub.tapLoad 0x13 0 (Hub.hedgeWords R.TEST_HEDGE_TOKEN words))

/-- GO (R381): the response and token are submitted; with no challenge outstanding, or by the other path, it is ignored and
logged. [log: DEDUCED 50] -/
def Hub.hedgeGo (req : Path) (v : Word) (h : Hub) : Hub :=
  if (req ≠ .pf ∧ req ≠ .tap) ∨ bitsOf v 0 1 = 0 then h
  else if h.get R.TEST_HEDGE_STAT_STATE ≠ 1 ∨ h.get R.TEST_HEDGE_STAT_PATH ≠ hedgePath req then
    h.logAccess 0x13 req 0xA00450 v.toNat
  else
    let bytes := leBytes 32 (h.wordsOf 8 R.TEST_HEDGE_RESP) ++ leBytes 256 (h.wordsOf 64 R.TEST_HEDGE_TOKEN)
    { h with test := { h.test with sub := bytes } }.put R.TEST_HEDGE_STAT_STATE 2

/-- HEDGE_GO (R381): by the TAP's instruction or by a register write. -/
def execHedgeGo (req : Path) (v : Word) (s : State) : Host.Outcome State Fault Refusal :=
  s.act (Ok.hedgeGo req v) fun h => (if req = .tap then h.setIr 0x14 else h).hedgeGo req v

/-- HEDGE_STAT (R375): the status register is read. -/
def execHedgeStat (s : State) : Host.Outcome State Fault Refusal :=
  s.act Ok.hedgeStat (Hub.tapLoad 0x15 0 fun h => h.send (.readData .tap (h.reg 0xA00400).toNat))

/-- The challenge's 32 bytes. -/
def Hub.challenge (h : Hub) : List Byte := leBytes 32 (h.wordsOf 8 R.TEST_HEDGE_CHAL)

/-- The submitted response is the one R380 asks for. -/
def Hub.responseOk (h : Hub) : Bool :=
  h.test.sub.take 32 == Config.hedgeMac (h.challenge ++ leBytes 8 h.map.fuse.serial ++ [BitVec.ofNat 8 h.hedgeN])

/-- The token is well formed and verifies (R382). -/
def Hub.tokenGood (h : Hub) : Bool :=
  h.tokenAt 0 4 == 0x4748484B && h.tokenAt 4 1 == 1 && (h.tokenAt 5 1 == 1 || h.tokenAt 5 1 == 2) && h.tokenAt 6 2 == 0
    && ((h.test.sub.drop 84).take 108).all (· == 0) && Config.tokenSigned (h.test.sub.drop 32)

/-- The token names this die, level and challenge (R382). -/
def Hub.tokenMatches (h : Hub) : Bool :=
  h.tokenAt 8 8 == h.map.fuse.serial && h.tokenAt 5 1 == h.hedgeN && (h.test.sub.drop 48).take 32 == Config.sha256 h.challenge

/-- Both checks have ended (R381, R382): the raise goes on to zeroisation, or is refused. -/
def Hub.hedgeVerify (h : Hub) : Hub :=
  if h.get R.TEST_HEDGE_STAT_STATE ≠ 2 then h
  else if !h.responseOk then (h.bumpSat R.TEST_HEDGE_STAT_FAILS 1).hedgeRefuse 3
  else if !h.tokenGood then h.hedgeRefuse 4
  else if !h.tokenMatches then h.hedgeRefuse 5
  else h.put R.TEST_HEDGE_STAT_STATE 3

/-- HEDGE_VERIFY_COMPLETE (R381). -/
def execHedgeVerifyComplete (s : State) : Host.Outcome State Fault Refusal :=
  s.act Ok.hedgeVerifyComplete Hub.hedgeVerify

/-- Zeros with valid check bits in every SRAM that can hold customer data (R384): banks, directory slices, Spar, rings, cleats
and dispatcher, serial receive buffers and YDL replay buffers. DRAM, the logs and the fail map are kept.
[log: DESIGN CHOICE 39] -/
def Chip.zeroise (c : Chip) : Chip :=
  let h := c.hub
  let h := { h with
    regs := Store.keep (fun off => !(decide (0x120000 ≤ off) && decide (off < 0x128000))) h.regs,
    rings := [], disp := { rr := [], movers := [] }, cleat := { waits := [], seen := [] },
    dir := { h.dir with entries := [], errs := [] },
    ras := { h.ras with sram := Store.keep (fun w => sramOf (8 * w) != 3) h.ras.sram },
    spar := { h.spar with ctxs := [] },
    ser := { h.ser with ports := h.ser.ports.map fun (e : Nat × PortS) => (e.1, { e.2 with rx := [], store := [] }) },
    sites := h.sites.map fun (e : Nat × SiteS) =>
      (e.1, { e.2 with txq := [], held := [], mods := e.2.mods.map fun m => (m.1, { m.2 with txBuf := [] }) }) }
  ⟨h, { c.mem with buf := [], bufErr := [] }⟩

/-- HEDGE_RESPONSE_TIMEOUT (R380): no GO within 60 s of the challenge refuses the attempt. Which result it shows is not given:
OUT_OF_WINDOW or ABANDONED, a free choice. [log: DEDUCED 50] -/
def execHedgeResponseTimeout (s : State) : Host.Outcome State Fault Refusal :=
  s.act Ok.hedgeResponseTimeout fun h =>
    if h.get R.TEST_HEDGE_STAT_STATE = 1 then h.drew.hedgeRefuse (2 + 6 * (h.free % 2)) else h

/-- HEDGE_WINDOW_CLOSE (R380). -/
def execHedgeWindowClose (s : State) : Host.Outcome State Fault Refusal :=
  s.act Ok.hedgeWindowClose fun h => h.put R.TEST_HEDGE_STAT_WINDOW 0

/-- A warm or hub reset ends an attempt ABANDONED (corner of R383). -/
def Hub.hedgeAbandon (h : Hub) : Hub := if h.attemptOpen then h.hedgeRefuse 8 else h

/-! ## The fail map (R370, R371) -/

/-- Add an entry to the fail map, which holds 4,096; further failures are counted in LOST. -/
def Hub.failMapAdd (e : List Nat) (h : Hub) : Hub :=
  if h.fail.fmap.length < 4096 then
    { h with fail := { h.fail with fmap := h.fail.fmap ++ [e] } }.put R.TEST_FMAP_STAT_COUNT (h.fail.fmap.length + 1)
  else h.bump R.TEST_FMAP_STAT_LOST 1

/-- Select entry `i` into the data words; an entry that is not held reads 0. -/
def Hub.fmapSelect (i : Nat) (h : Hub) : Hub :=
  let e := h.fail.fmap.getD i []
  (h.put R.TEST_FMAP_IDX_INDEX i).upto 4 fun j g => g.put (R.TEST_FMAP_DATA j) (e.getD j 0)

/-- A write of TEST_FMAP_IDX, which is protected at level 1. -/
def Hub.fmapWrite (req : Path) (v : Word) (h : Hub) : Hub :=
  if h.level = 0 then h.logAccess 0x10 req 0xA00600 v.toNat else h.fmapSelect (bitsOf v 0 12)

/-- FMAP_INDEX (R371). -/
def execFmapIndex (req : Path) (v : Word) (s : State) : Host.Outcome State Fault Refusal :=
  s.act (Ok.fmapIndex req v) (fun h => if req.holdsBlocks || req == .tap then h.fmapWrite req v else h)

end Sys2Proof.Machine
end

