-- ==== Sys2Proof/Machine/Reset.lean ====
section
/-!
DEFINITION. Resets (R57 to R59, R395, R410 to R414): what each kind keeps, stage S0, the pins that cause resets, and the
emergency sequencer's lowering before a warm or hub reset; the meanings of PWRGOOD_*, PERST_N_*, D0_RESET, GLB_RST_*,
EMERGENCY_LOWER_WAVE, WARM_RESET, HUB_RESET, REFCLK_RETURN and READINESS_PEND_SEND.
-/
namespace Sys2Proof.Machine

/-! ## What a reset keeps (R57) -/

/-- The registers a warm or hub reset leaves: the fields that live in D0. [log: DEDUCED 21] -/
def keepRegs (l : List (Nat × Word)) : List (Nat × Word) :=
  (l.map fun e =>
    let m := maskOf e.1 fun f => f.kept
    (e.1, (e.2 &&& m) ||| (resetWord e.1 &&& ~~~ m))).filter fun e => e.2 != resetWord e.1

/-- What a warm or hub reset leaves of the hub: D0 alone (R57). [log: DEDUCED 21] -/
def Hub.d0Only (h : Hub) : Hub :=
  { Hub.reset with
    regs := keepRegs h.regs
    clock := h.clock
    draws := h.draws
    out := h.out
    pins := h.pins
    power := { PowerS.reset with
      rise := h.power.rise, fall := h.power.fall, rose := h.power.rose, lastIn := h.power.lastIn,
      leave := h.power.leave, stop := h.power.stop, readings := h.power.readings, release := h.power.release, credit := h.power.credit,
      noRise := h.power.noRise, missed := h.power.missed, silent := h.power.silent,
      vdd := h.power.vdd, vddAt := h.power.vddAt, charger := h.power.charger }
    boot := { BootS.reset with slot := h.boot.slot, version := h.boot.version }
    fail := h.fail
    yew := { h.yew with dispStop := h.yew.lgInput || h.test.scan }
    pcie := { PcieS.reset with detect := h.pins.perstN }
    time := { h.time with shadows := [] }
    map := { Hub.reset.map with fuse := h.map.fuse }
    trim := { Hub.reset.trim with char := h.trim.char }
    sns := h.sns
    test := h.test }

/-- The Yew log without the state of D0's RAM: the array and the xSPI device alone. -/
def YewS.coldLost (y : YewS) : YewS :=
  { y with
    staged := [], stagedAt := 0, seq := YewS.reset.seq, unmirrored := [], tokens := YewS.reset.tokens, refused := 0, hist := [], escSeq := 0, lgAt := none,
    lgInput := false, dispStop := false, mirrorOff := false, eid := 0 }

/-- D0 in reset: what is left is non-volatile, or outside the hub (R57). [log: DEDUCED 21] -/
def Hub.powerLost (h : Hub) : Hub :=
  { Hub.reset with
    clock := h.clock
    draws := h.draws
    out := h.out
    pins := { h.pins with lowFilter := false, d0Reset := true, vinLow := false, lgN := true }
    yew := h.yew.coldLost
    map := { Hub.reset.map with fuse := h.map.fuse }
    trim := { Hub.reset.trim with char := h.trim.char } }

/-! ## S0 (R60) -/

/-- The fuses are sensed: their CRC and the repaired rows of every bank. [log: DESIGN CHOICE 22] -/
def Hub.senseFuses (h : Hub) : Hub :=
  let h := h.put R.MAP_FUSE_CRC h.map.fuse.crc
  Hub.each h.map.fuse.rows (fun e g =>
    let b := e.1 / 8
    let g := (g.put (R.MAP_FUSE_ROWADDR_ROW b (e.1 % 8)) (e.2 - 1)).put (R.MAP_FUSE_ROWADDR_USED b (e.1 % 8)) 1
    g.put (R.MAP_BANK_ROWS b) (g.get (R.MAP_BANK_ROWS b) + 1)) h

/-- The D0 sequencer hoists D1 and D68 in one wave of 11 W, once REFCLK runs (R60, corner of R414). [log: DESIGN CHOICE 22] -/
def Hub.s0Hoist (h : Hub) : Hub :=
  if h.pins.refclk then
    let h := Hub.each [1, 68] (fun n g => g.setDom n 1) (h.takeRise 11000)
    { h with power := { h.power with waves := [[1, 68]] }, boot := { h.boot with done := true } }
  else h

/-- S0 begins: a fuse sense that fails its CRC halts bring-up, with D1 and D68 up all the same (R60, R80).
[log: DEDUCED 21] -/
def Hub.beginS0 (h : Hub) : Hub :=
  let h := (h.onBoot fun b => { b with begun := h.clock }).senseFuses.s0Hoist
  if h.map.fuse.crcOk then h else h.bootHalt 0x01 0xFFF

/-- The profile the MT_SEL straps choose (R59). -/
def strapProfile (mtSel : Nat) : Nat := if mtSel = 1 then 1 else 2

/-- The profile after a warm or hub reset (R59): NEXT's, unless the cold bring-up never completed S6. -/
def Hub.nextProfile (h : Hub) : Nat :=
  if h.fail.complete then (let n := h.get R.BOOT_PROFILE_NEXT; if n = 3 then 0 else n) else strapProfile (h.get R.BOOT_STRAP_MT_SEL)

/-- A cold reset (R57, R59, R412): the straps are sampled, VHOLD charges, bring-up starts. [log: DEDUCED 21; DEDUCED 57] -/
def Hub.coldReset (siteFit mtSel smbAddr : Nat) (h : Hub) : Hub :=
  let h := h.powerLost
  let h := { h with
    pins := { h.pins with pwrgood := true, d0Reset := false, smbAddr := smbAddr }
    power := { h.power with charger := true }
    yew := { h.yew with cold := h.yew.cold + 1 }
    pcie := { h.pcie with detect := h.pins.perstN } }
  let h := (h.put R.GLB_STRAP_SITE_FIT siteFit).put R.BOOT_STRAP_MT_SEL mtSel
  let h := h.put R.TIME_STAT_REFLOST (b2n (!h.pins.refclk))
  ((h.put R.BOOT_PROFILE_COLD 1).put R.BOOT_PROFILE_CUR (strapProfile mtSel)).beginS0

/-- A warm or hub reset, its lowering done (R57): every block outside D0 is reset and bring-up starts; an open hedge-gate
attempt ends ABANDONED. [log: DEDUCED 21] -/
def Hub.reboot (h : Hub) : Hub :=
  let h := h.hedgeAbandon.d0Only
  ((h.put R.BOOT_PROFILE_COLD 0).put R.BOOT_PROFILE_CUR h.nextProfile).beginS0

/-! ## PWRGOOD (R413) -/

/-- PWRGOOD_RISE (R413): the first rise with D0 in reset is a cold reset, with the straps sampled; another ends a low. -/
def execPwrgoodRise (siteFit mtSel smbAddr : Nat) (s : State) : Host.Outcome State Fault Refusal :=
  s.act (Ok.pwrgoodRise siteFit mtSel smbAddr) fun h =>
    if h.pins.pwrgood then h
    else if h.pins.d0Reset then h.coldReset siteFit mtSel smbAddr
    else { h with pins := { h.pins with pwrgood := true, lowFilter := false } }

/-- PWRGOOD_FALL (R413): the 1 µs filter starts; a PERST_N assertion of the same microsecond starts no warm reset.
[log: DESIGN CHOICE 18] -/
def execPwrgoodFall (s : State) : Host.Outcome State Fault Refusal :=
  s.act Ok.pwrgoodFall fun h =>
    if h.pins.pwrgood then
      let h := { h with pins := { h.pins with pwrgood := false, lowFilter := !h.pins.d0Reset } }
      if h.boot.perst then h.onBoot fun b => { b with perst := false, pend := if b.pend = 1 then 0 else b.pend } else h
    else h

/-- PWRGOOD_LOW_FILTER_EXPIRY (R413): low for 1 µs, a last gasp with cause PWRGOOD; its charger is off.
[log: DESIGN CHOICE 18] -/
def execPwrgoodLowFilterExpiry (s : State) : Host.Outcome State Fault Refusal :=
  s.act Ok.pwrgoodLowFilterExpiry fun h =>
    if h.pins.lowFilter then { h with pins := { h.pins with lowFilter := false } }.lastGasp 2 else h

/-- D0_RESET (R395, R413): VHOLD has fallen below 2.5 V after an input or PWRGOOD trigger; D0 enters reset. If PWRGOOD is high
when it leaves reset, that counts as the rise: a cold reset with the straps as they stand. -/
def execD0Reset (siteFit mtSel smbAddr : Nat) (s : State) : Host.Outcome State Fault Refusal :=
  s.act (Ok.d0Reset siteFit mtSel smbAddr) fun h =>
    if h.yew.lgInput ∧ ¬ h.pins.d0Reset then
      (if h.pins.pwrgood then h.coldReset siteFit mtSel smbAddr else h.powerLost)
    else h

/-! ## Warm and hub resets (R38, R57, R414) -/

/-- Ask for a reset of kind 1 warm or 2 hub; one that waits already is kept, but a hub reset takes the place of a warm one.
[log: DEDUCED 21] -/
def Hub.askReset (kind : Nat) (h : Hub) : Hub :=
  if h.pins.d0Reset then h else h.onBoot fun b => { b with pend := if b.pend = 3 then 3 else max b.pend kind }

/-- A write of GLB_RST (R57): ignored and logged without its KEY; a KIND that is not listed is ignored. [log: DEDUCED 21] -/
def Hub.rstWrite (req : Path) (v : Word) (h : Hub) : Hub :=
  if bitsOf v 16 16 ≠ 0xA55A then h.logAccess 0x13 req 0x14 v.toNat
  else if bitsOf v 0 2 = 1 then h.askReset 1
  else if bitsOf v 0 2 = 2 then h.askReset 2
  else h

/-- GLB_RST_WARM (R57). -/
def execGlbRstWarm (req : Path) (v : Word) (s : State) : Host.Outcome State Fault Refusal :=
  s.act (Ok.glbRstWarm req v) (Hub.pfWrite req (Hub.rstWrite req (setBits v 0 2 1)))

/-- GLB_RST_HUB (R57). -/
def execGlbRstHub (req : Path) (v : Word) (s : State) : Host.Outcome State Fault Refusal :=
  s.act (Ok.glbRstHub req v) (Hub.pfWrite req (Hub.rstWrite req (setBits v 0 2 2)))

/-- PERST_N_ASSERT (R414): with PWRGOOD high a warm reset follows 1 µs later, and the PCIe link goes down; with PWRGOOD low it
is ignored. [log: DESIGN CHOICE 18] -/
def execPerstNAssert (s : State) : Host.Outcome State Fault Refusal :=
  s.act Ok.perstNAssert fun h =>
    let h := { h with pins := { h.pins with perstN := false }, pcie := { h.pcie with linkUp := false, detect := false } }
    if h.pins.pwrgood then (h.askReset 1).onBoot fun b => { b with perst := true } else h

/-- PERST_N_DEASSERT (R63): the hub enters Detect, if a cold reset has been released. [log: DESIGN CHOICE 18] -/
def execPerstNDeassert (s : State) : Host.Outcome State Fault Refusal :=
  s.act Ok.perstNDeassert fun h =>
    { h with pins := { h.pins with perstN := true }, pcie := { h.pcie with detect := !h.pins.d0Reset } }

/-- Domains the emergency sequencer lowers next: the newest wave, or whatever is left. -/
def Hub.nextDown (h : Hub) : List Nat :=
  match h.power.waves with
  | w :: _ => w
  | [] => (List.range 74).filter fun n => n != 0 && (h.domState n == 1 || h.domState n == 2)

/-- Lower one domain of the wave: an ON one, whose NIs are idle since new traffic is held from the request on (R40, `Hub.niHeld`);
a HOISTING one when it is up. [log: DEDUCED 21] -/
def Hub.downOne (n : Nat) (h : Hub) : Hub :=
  if h.domState n = 2 then (h.setWant n 0).setDom n 3
  else if h.domState n = 1 then h.setOwn n 1
  else h.setWant n 0

/-- The emergency sequencer lowers one wave (R38, corner of R59): every site is first sent a zero allowance; no wave goes faster
than the falling slew limit allows. [log: DEDUCED 21] -/
def Chip.emergencyWave (c : Chip) : Chip :=
  if c.hub.boot.pend = 0 then c
  else
    let c := if c.hub.boot.zeroSent then c
      else Chip.each ((List.range 4).filter c.hub.siteUp) (fun s c => c.sendAllow s 0 0 (c.hub.get R.TRIM_EPOCH)) c
    let h := c.hub.onBoot fun b => { b with zeroSent := true, perst := false }
    let l := h.nextDown
    let mw := waveMw l
    if h.power.fall = 0 ∨ h.power.fall + mw ≤ h.stepMw then
      let h := Hub.each l Hub.downOne h
      ⟨{ h with power := { h.power with fall := h.power.fall + mw, waves := h.power.waves.drop 1 } }, c.mem⟩
    else ⟨h, c.mem⟩

/-- EMERGENCY_LOWER_WAVE (R38). -/
def execEmergencyLowerWave (s : State) : Host.Outcome State Fault Refusal :=
  s.actMem Ok.emergencyLowerWave Chip.emergencyWave

/-- Every domain but D0 is OFF. -/
def Hub.allOff (h : Hub) : Bool := (List.range 74).all fun n => n == 0 || h.domState n == 0

/-- A reset of kind `kind` that waits may be taken: the lowering is done. Scan operation ends by a cold reset only (R377).
[log: DEDUCED 21] -/
def Hub.mayReset (h : Hub) (kind : Nat) : Bool := h.boot.pend == kind && !h.pins.d0Reset && h.allOff && !h.test.scan

/-- WARM_RESET (R57). -/
def execWarmReset (s : State) : Host.Outcome State Fault Refusal :=
  s.act Ok.warmReset fun h => if h.mayReset 1 then h.reboot else h

/-- HUB_RESET (R57). -/
def execHubReset (s : State) : Host.Outcome State Fault Refusal :=
  s.act Ok.hubReset fun h => if h.mayReset 2 then h.reboot else h

/-! ## REFCLK and the readiness message -/

/-- REFCLK_RETURN (R32, R323, corner of R414): island trimming resumes, the condition clears with a NOTICE, a MUSTERED leader
trusts hub time again, waiting serial ports train again, and an S0 that waited for REFCLK goes on. -/
def execRefclkReturn (s : State) : Host.Outcome State Fault Refusal :=
  s.act Ok.refclkReturn fun h =>
    if h.pins.refclk then h
    else
      let h := { h with pins := { h.pins with refclk := true } }
      if h.pins.d0Reset then h
      else
        let h := (((h.put R.TIME_STAT_REFLOST 0).crewIrq Hub.leaderTrusts).notice 32 0).serialRefclkBack
        if h.booting ∧ h.stage = 0 ∧ ¬ h.boot.done then h.s0Hoist else h

/-- READINESS_PEND_SEND (R65): the pending readiness message goes out once MSI-X is enabled and its vector unmasked. -/
def execReadinessPendSend (s : State) : Host.Outcome State Fault Refusal :=
  s.act Ok.readinessPendSend fun h =>
    let v := h.get R.BOOT_IRQ_VEC % 264
    if h.on R.GLB_RDY_PEND ∧ nget h.pcie.msixEn 0 = 1 ∧ ¬ h.vecMasked 0 v then (h.put R.GLB_RDY_PEND 0).sendVector 0 v else h

end Sys2Proof.Machine
end

