-- ==== Sys2Proof/Machine/Stage.lean ====
section
/-!
DEFINITION. Bring-up stages S1 to S7 (R59 to R71, R190, R229, R364 to R368): when a stage begins and is done, the Masthead
image, the hub's domains, logic BIST, the stacks, the sites, the memory test and the map; the meanings of STAGE_S1 to
STAGE_S7, DOMAIN_FAILED, LBIST_SLICE_*, STACK_TRAINING_COMPLETE, MEMORY_TEST_ELEMENT_END, ZEROISE_COMPLETE and
BOOT_PROFILE_WRITE.
-/
namespace Sys2Proof.Machine

/-! ## Stages (R60) -/

/-- A fitted site has come up or has been dropped. -/
def Hub.siteSettled (h : Hub) (s : Nat) : Bool := !h.siteFit s || h.siteUp s || h.siteOut s

/-- Domain `n` is as S2 leaves it: ON, failed, or of a site that is not fitted. -/
def Hub.domSettled (h : Hub) (n : Nat) : Bool :=
  h.domOn n || nget h.power.barred n != 0 || (decide (56 ≤ n) && decide (n < 60) && !h.siteFit (n - 56))

/-- Every running island has reached its target, unstretched: trimmed and ramped (S2 of R60, corner of R62). -/
def Hub.islandsSettled (h : Hub) : Bool :=
  (List.range 96).all fun k => !h.domOn (domainOfIsland k) ||
    (h.get (R.PWR_ISL_ACTUAL k) == h.get (R.PWR_ISL_TARGET k) && !h.on (R.PWR_ISL_STRETCHED k))

/-- Site `s` has had all its core waves. -/
def Hub.wavesOver (h : Hub) (e : Nat × SiteWave) : Bool :=
  !h.siteUp e.1 || (!e.2.busy && decide (h.get (R.YDL_PEER_CORES e.1) ≤ e.2.granted))

/-- The work of the current stage is complete (R60); a hedge-gate raise in progress holds the end of S6 (R383). -/
def Hub.stageDone (h : Hub) : Bool :=
  match h.stage with
  | 0 => h.boot.done && h.domOn 1 && h.domOn 68
  | 1 => h.boot.done && h.on R.PWR_HOLD_READY
  | 2 => (List.range 74).all h.domSettled && h.islandsSettled
  | 3 => h.boot.lbNext == 48
  | 4 => h.boot.done
  | 5 => (List.range 4).all h.siteSettled
  | 6 => h.boot.done && !h.attemptOpen
  | 7 => true
  | 8 => h.boot.waves.all h.wavesOver
  | 9 => h.boot.imgDone && h.boot.fwq == [] && !h.fwBusy
  | 10 => h.boot.karLeft == [] && !h.boot.karSites.any h.siteUp
  | _ => false

/-- Stage `n` may begin: bring-up runs, no reset waits, and the stage before it is done (R60). -/
def Hub.mayEnter (h : Hub) (n : Nat) : Bool :=
  h.booting && h.stage + 1 == n && h.stageDone && h.boot.pend == 0 && !h.pins.d0Reset

/-- Stage `n` begins: BOOT_TIME of the last is fixed, STAGE shows it. -/
def Hub.enterStage (n : Nat) (h : Hub) : Hub :=
  let h := ((h.closeStage.put R.GLB_RDY_STAGE n).put R.BOOT_STAT_STAGE n).put R.BOOT_STAT_PCT 0
  h.onBoot fun b => { b with begun := h.clock, done := false }

/-- Run `f` as the work of stage `n`, if it may begin. -/
def Hub.runStage (n : Nat) (f : Hub → Hub) (h : Hub) : Hub := if h.mayEnter n then f (h.enterStage n) else h

/-- The current stage's work is complete. -/
def Hub.stageOver (h : Hub) : Hub := h.onBoot fun b => { b with done := true }

/-! ## S1 (R60, R387, R388) -/

/-- Image slots in the order S1 checks them: the slot written by IMAGE_STAGE first, the array before the xSPI device (slot 2). -/
def YewS.slots (y : YewS) : List Nat :=
  if y.imgBytes = [] then [y.active, 1 - y.active, 2] else [1 - y.active, y.active, 2]

/-- The highest SEQ the scan finds. -/
def YewS.topSeq (y : YewS) : Nat :=
  y.blocks.foldl (fun a e => if e.2.wrong ≤ 8 then e.2.recs.foldl (fun a r => max a r.seq) a else a) 0

/-- Slots of records whose block does not decode. [log: DESIGN CHOICE 22] -/
def YewS.badSlots (y : YewS) : Nat := y.blocks.foldl (fun a e => if e.2.wrong ≤ 8 then a else a + e.2.recs.length) 0

/-- Programmed blocks the mirror does not hold yet: those above every block it holds (R396). -/
def YewS.behind (y : YewS) : List Nat :=
  (y.blocks.map (·.1)).filter fun n => y.xspi.all fun e => decide (e.1 < n)

/-- The log is scanned (R388): the next SEQ is above every SEQ found, and every SEQ D0's RAM has given; blocks not mirrored yet,
a last gasp's among them, are to be copied (R396). [log: DESIGN CHOICE 22] -/
def Hub.scanLog (h : Hub) : Hub :=
  let y := h.yew
  let h := { h with yew := { y with
    seq := if y.blocks = [] then y.seq else max y.seq (nextSeq y.topSeq)
    unmirrored := if y.xspi = [] then y.unmirrored else y.behind } }
  let h := h.put R.YEW_XSPI_STAT_LAG h.yew.unmirrored.length
  (h.put R.YEW_STAT_SCAN_BAD 0).bump R.YEW_STAT_SCAN_BAD y.badSlots

/-- Masthead boots from the first image that verifies and is not below the rollback count; else bring-up halts (R60, R80).
[log: DESIGN CHOICE 22] -/
def Hub.bootImage (images : List (Bool × Nat)) (h : Hub) : Hub :=
  let img (k : Nat) : Bool × Nat := images.getD k (false, 0)
  let good := h.yew.slots.filter fun k => (img k).1
  match good.find? fun k => decide (h.yew.rollback ≤ (img k).2) with
  | some k =>
    let h := { h with
      yew := { h.yew with active := if k < 2 then k else h.yew.active, imgBytes := [] }
      boot := { h.boot with slot := k, version := (img k).2, done := true } }
    h.setReg 0x800010 (BitVec.ofNat 32 (img k).2)
  | none => (h.onBoot fun b => { b with slot := 2 }).bootHalt (if good = [] then 0x02 else 0x03) 0xFFF

/-- STAGE_S1 (R60): `images` says of array slots 0 and 1 and of the xSPI device whether an image verifies, and its version.
[log: DESIGN CHOICE 22] -/
def execStageS1 (images : List (Bool × Nat)) (s : State) : Host.Outcome State Fault Refusal :=
  s.act (Ok.stageS1 images) (Hub.runStage 1 fun h => h.scanLog.bootImage images)

/-! ## S2 (R37, R60, R80) -/

/-- Domains S2 hoists: all but D0, D1, D68 and those of unfitted sites. -/
def Hub.s2Domains (h : Hub) : List Nat :=
  (List.range 74).filter fun n => !(n == 0 || n == 1 || n == 68 || (decide (56 ≤ n) && decide (n < 60) && !h.siteFit (n - 56)))

/-- STAGE_S2 (R60). -/
def execStageS2 (s : State) : Host.Outcome State Fault Refusal :=
  s.act Ok.stageS2 (Hub.runStage 2 fun h => Hub.each h.s2Domains Hub.askOn h)

/-- The units of a domain that failed in S2 are Retired (R80); the cause code is not given: free. -/
def Hub.retireAll (t : Nat) (l : List Nat) (h : Hub) : Hub := Hub.each l (fun p h => h.mergeDefect t 0 p (outState t) (h.free % 16)) h.drew

/-- A site whose domain failed in S2 is dropped: its registers read their reset values (R28). -/
def Hub.siteUnpowered (s : Nat) (h : Hub) : Hub :=
  (h.put R.GLB_POP_SITE_MISSING (withBit (h.get R.GLB_POP_SITE_MISSING) s true)).warn 0x30 6 0 s

/-- What a failed domain costs (R80): its units, its site, or bring-up. [log: DESIGN CHOICE 23] -/
def Hub.domainLost (n : Nat) (h : Hub) : Hub :=
  if n = 1 ∨ (50 ≤ n ∧ n < 56) ∨ n = 68 ∨ n = 73 then h.bootHalt 0x05 n
  else
    let h := h.bootDegrade 0x06 n
    if 56 ≤ n ∧ n < 60 then h.siteUnpowered (n - 56)
    else
      let t := if n < 50 then 2 else if n < 68 then 4 else 1
      h.retireAll t ((List.range (unitCount t)).filter fun p => unitDomain t 0 p == n)

/-- DOMAIN_FAILED (R38): a domain that is being hoisted fails to reach ON and is lowered under the covenant, until the next
bring-up. [log: DESIGN CHOICE 23] -/
def execDomainFailed (n : Nat) (s : State) : Host.Outcome State Fault Refusal :=
  s.act (Ok.domainFailed n) fun h =>
    if h.booting ∧ (h.stage = 2 ∨ h.stage = 0) ∧ h.domState n = 1 then
      let h := { h with power := { h.power with barred := nset h.power.barred n 8 } }
      ((h.setWant n 3).admitDomain n).domainLost n
    else h

/-! ## S3: logic BIST (R364 to R368) -/

/-- Spared units a slice covers: type and physical number; a slice of shared logic covers none (R364). -/
def sliceUnits (k : Nat) : List (Nat × Nat) :=
  if k < 18 then [(1, k)] else if k < 35 then (List.range 4).map fun i => (0, 4 * (k - 18) + i) else []

/-- The slice is not run (R365): its site is not fitted, or all its units are fused bad. -/
def Hub.sliceSkipped (h : Hub) (k : Nat) : Bool :=
  if 44 ≤ k then !h.siteFit (k - 44)
  else k < 35 && (sliceUnits k).all fun u => nget h.map.fuse.bad (unitKey u.1 0 u.2) == 1

/-- When S3 begins (R367, R368): H_eff, W, 38 where a slice may rise in full, and a slice's budget, µs, lengthened by 38 ÷ H_eff.
[log: DESIGN CHOICE 24] -/
def Hub.takeBudget (h : Hub) : Hub :=
  let rise := min 38 (max 2 (h.get R.PWR_COV_STEP - h.get R.PWR_COV_STEP_GUARD))
  h.onBoot fun b => { b with lbRise := rise, lbBudget := h.get R.TEST_LBIST_CTRL_SLICE_BUDGET * 38 / rise }

/-- All slices have run: a shared slice that failed halts bring-up (R366). [log: DESIGN CHOICE 24] -/
def Hub.slicesOver (h : Hub) : Hub :=
  let h := (h.onBoot fun b => { b with lbNext := 48 }).put R.TEST_LBIST_STAT_DONE 1
  match ((List.range 48).drop 35).find? fun k => h.get (R.TEST_LBIST_RESULT k) == 2 || h.get (R.TEST_LBIST_RESULT k) == 3 with
  | some k => h.bootHalt 0x07 k
  | none => h

/-- Slice `k`'s rise, which Reef admits as one step (R367); its end is a drop soak covers (R49). [log: DESIGN CHOICE 24] -/
def Hub.sliceStep (k : Nat) (h : Hub) : Hub :=
  (h.addStep { kind := 5, unit := k, mw := 1000 * h.boot.lbRise, expo := 1000 * h.boot.lbRise, sense := 0, adm := false }).judgeSteps

/-- Start the first slice of `l` that is not skipped: it runs once Reef has admitted its rise (R367). -/
def Hub.sliceStart : List Nat → Hub → Hub
  | [], h => h.slicesOver
  | k :: l, h =>
    if h.sliceSkipped k then Hub.sliceStart l (h.put (R.TEST_LBIST_RESULT k) 4)
    else (h.onBoot fun b => { b with lbNext := k }).sliceStep k

/-- STAGE_S3 (R365): with BOOT_PROFILE.LBIST = 0 no slice runs. -/
def execStageS3 (s : State) : Host.Outcome State Fault Refusal :=
  s.act Ok.stageS3 (Hub.runStage 3 fun h =>
    if h.on R.BOOT_PROFILE_LBIST then h.takeBudget.sliceStart (List.range 48) else h.onBoot fun b => { b with lbNext := 48 })

/-- A slice that ends FAIL or TIMEOUT (R366): its bit of BOOT_LBIST_FAIL, and its spared units Retired with cause 2. -/
def Hub.sliceFails (k : Nat) (h : Hub) : Hub :=
  let h := h.bump R.TEST_LBIST_STAT_FAILS 1
  let h := if k < 32 then h.put R.BOOT_LBIST_FAIL_LO_MASK (withBit (h.get R.BOOT_LBIST_FAIL_LO_MASK) k true)
    else h.put R.BOOT_LBIST_FAIL_HI_MASK (withBit (h.get R.BOOT_LBIST_FAIL_HI_MASK) (k - 32) true)
  Hub.each ((sliceUnits k).filter fun u => nget h.map.fuse.bad (unitKey u.1 0 u.2) == 0) (fun u h => h.mergeDefect u.1 0 u.2 2 2) h

/-- The running slice ends: result 1 PASS, 2 FAIL, 3 TIMEOUT, with its time and signature; soak covers its end, and the next
slice starts. [log: DESIGN CHOICE 24] -/
def Hub.sliceEnd (result us sig : Nat) (h : Hub) : Hub :=
  let k := h.boot.lbNext
  if h.stage ≠ 3 ∨ 48 ≤ k ∨ ¬ h.booting ∨ ¬ h.stepAdmitted 5 k then h
  else
    let h := (((h.dropStep 5 k).put (R.TEST_LBIST_RESULT k) result).put (R.TEST_LBIST_TIME_US k) 0).bump (R.TEST_LBIST_TIME_US k) us
    let h := (h.put (R.TEST_LBIST_SIG_LO k) sig).put (R.TEST_LBIST_SIG_HI k) (sig / 2 ^ 32)
    let h := if result = 1 then h else h.sliceFails k
    let h := (h.knownFall (1000 * h.boot.lbRise)).progress
    h.sliceStart ((List.range 48).drop (k + 1))

/-- LBIST_SLICE_END (R365): the patterns have taken `us` µs; `good` says whether the MISR holds the golden signature. A slice
beyond its budget has timed out. -/
def execLbistSliceEnd (us sig : Nat) (good : Bool) (s : State) : Host.Outcome State Fault Refusal :=
  s.act (Ok.lbistSliceEnd us sig good) fun h =>
    if us ≤ h.boot.lbBudget then h.sliceEnd (if good then 1 else 2) us sig else h.sliceEnd 3 h.boot.lbBudget 0

/-- LBIST_SLICE_TIMEOUT (R365): the budget expires first; the signature recorded is 0. -/
def execLbistSliceTimeout (s : State) : Host.Outcome State Fault Refusal :=
  s.act Ok.lbistSliceTimeout fun h => h.sliceEnd 3 h.boot.lbBudget 0

/-! ## S4: the stacks (R25, R190, R229) -/

/-- The stacks' population (R25): every one present, all of one capacity. [log: DESIGN CHOICE 24] -/
def Hub.checkStacks (present cap36 : Nat) (h : Hub) : Hub :=
  let gone := (List.range 6).filter fun n => !bit present n
  if gone ≠ [] then (Hub.each gone (fun n h => h.put (R.MEM_TRAIN_CODE n) 2) h).bootHalt 0x08 (gone.headD 0)
  else if cap36 = 0 ∨ cap36 = 63 then h.put R.GLB_POP_STACK_CAP (if cap36 = 63 then 2 else 1)
  else (h.upto 6 fun n h => h.put (R.MEM_TRAIN_CODE n) 3).bootHalt 0x08 0xFFF

/-- STAGE_S4 (R190): the identities read from the stacks, as masks of those present and of those of 36 GB. -/
def execStageS4 (present cap36 : Nat) (s : State) : Host.Outcome State Fault Refusal :=
  s.act (Ok.stageS4 present cap36) (Hub.runStage 4 (Hub.checkStacks present cap36))

/-- One queued hard repair is applied (R229): done or failed, logged, copied to the Yew log, and no longer queued. -/
def Hub.pprApply (e : Nat × Bool) (h : Hub) : Hub :=
  let a := e.1
  let h := h.rasLog { kind := if e.2 then 0x07 else 0x08, unit := 1, inst := (dramDecode a).stack, sev := b2n (!e.2), req := 0x3002, addr := a }
  (h.pprRecord (if e.2 then 2 else 3) a).writeRegion fun r => { r with ppr := r.ppr.filter fun b => b != a }

/-- All six stacks have trained (R190, R205, R229): one rate, the lowest; queued repairs, at most four, in queue order; the
soft repairs of the fail record are re-applied (R67, R70). -/
def Hub.stacksTrained (pprGood : Nat) (h : Hub) : Hub :=
  let rate := h.boot.trained.foldl (fun a e => min a e.2) 6
  let h := h.upto 6 fun n h => let h := h.put (R.MEM_STAT_RATE n) rate; h.setIsland (48 + n) (h.islandNom (48 + n))
  let h := h.put R.GLB_POP_STACK_LIVE 63
  let h := if rate < 3 then h.warn 0x24 7 rate 0xFFFF else h
  let h := Hub.each ((h.yew.region.ppr.take 4).zipIdx.map fun e => (e.1, bit pprGood e.2)) Hub.pprApply h
  (h.put R.BOOT_MT_STAT_SPPR h.fail.soft.length).scaleFloors.stageOver

/-- A stack's training has passed: its rate, lanes repaired and the activation limits it reports (R193, R195).
[log: DESIGN CHOICE 24] -/
def Hub.stackPassed (stack rate lanes raaimt raammt : Nat) (h : Hub) : Hub :=
  let rate := min rate (max 1 (h.get (R.MEM_CFG_RATE_MAX stack)))
  let h := ((h.put (R.MEM_TRAIN_CODE stack) 1).put (R.MEM_STAT_LANES_REP stack) lanes).put (R.MEM_STAT_RATE stack) rate
  let h := { h with memch := { h.memch with raaimt := nset h.memch.raaimt stack raaimt, raammt := nset h.memch.raammt stack raammt } }
  h.onBoot fun b => { b with trained := (stack, rate) :: b.trained.filter fun e => e.1 != stack }

/-- STACK_TRAINING_COMPLETE (R190): `code` 1 pass, 4 lanes unrepairable, 5 failed at 6.4 Gb/s in channel `chan`; bit i of
`pprGood` says whether the i-th queued hard repair succeeds once the last stack has trained. -/
def execStackTrainingComplete (stack code chan rate lanes raaimt raammt pprGood : Nat) (s : State) :
    Host.Outcome State Fault Refusal :=
  s.act (Ok.stackTrainingComplete stack code chan rate lanes raaimt raammt pprGood) fun h =>
    if h.stage ≠ 4 ∨ ¬ h.booting ∨ h.boot.done then h
    else if code = 1 then
      let h := (h.stackPassed stack rate lanes raaimt raammt).progress
      if h.boot.trained.length = 6 then h.stacksTrained pprGood else h
    else
      let h := ((h.put (R.MEM_TRAIN_CODE stack) code).put (R.MEM_TRAIN_CHAN stack) chan).put (R.MEM_STAT_LANES_REP stack) lanes
      h.bootHalt 0x09 stack

/-! ## S5 (R61, R266) -/

/-- STAGE_S5 (R266): contact begins with every fitted site that has not been dropped. -/
def execStageS5 (s : State) : Host.Outcome State Fault Refusal :=
  s.act Ok.stageS5 (Hub.runStage 5 fun h => h.upto 4 fun k h =>
    if h.siteFit k ∧ ¬ h.siteOut k then (h.put (R.YDL_DISC_PHASE k) 1).put (R.YDL_STAT_STATE k) 1 else h)

/-! ## S6: the memory test and the zero fill (R66 to R71, R221, R370) -/

/-- A granule is listed MT_FAIL (R70): a RAS entry by the bring-up engines, FAILS counts it, and bring-up ends DEGRADED (R80).
[log: DESIGN CHOICE 24] -/
def Hub.mtFail (g : Nat) (h : Hub) : Hub :=
  ((h.rasLog { kind := 0x04, unit := 1, inst := (dramDecode (4096 * g)).stack, sev := 1, req := 0x3002, addr := 4096 * g }).bump
    R.BOOT_MT_STAT_FAILS 1).bootDegrade 0x0B 0xFFF

/-- The skip table holds the listed granules, at most 512 (R221). [log: DESIGN CHOICE 24] -/
def Hub.fillSkips (l : List Nat) (h : Hub) : Hub :=
  let h := Hub.each (l.take 512).zipIdx (fun e h => (h.put (R.RAS_SKIP_GRANULE e.2) e.1).put (R.RAS_SKIP_VALID e.2) 1) h
  if 512 < l.length then h.put R.RAS_SCRUB_STAT_SKIP_FULL 1 else h

/-- The end of S6 (R67, R68): granules held in the fail record and not found again are listed too, the skip table and the fail
record take the union, and the zero fill clears everything and poisons the listed granules. -/
def Chip.zeroFill (tested : Bool) (c : Chip) : Chip :=
  let held := c.hub.fail.grans.filter fun g => !c.hub.boot.newFails.contains g
  let h := Hub.each held Hub.mtFail c.hub
  let l := c.hub.fail.grans ++ c.hub.boot.newFails.filter fun g => !c.hub.fail.grans.contains g
  let h := h.fillSkips l
  let h := if tested then { h with fail := { h.fail with grans := l.take 512, complete := true } } else h
  let c := Chip.each l (fun g c => c.poison 0x3002 0 (4096 * g) 4096) ⟨h, Mem.reset⟩
  ⟨c.hub.stageOver, c.mem⟩

/-- A failing DRAM row, by its address ÷ 1 KiB (R70): soft-repaired where SPPR_EN is set and a resource is free, else its
granule is listed MT_FAIL. Whether the stack and the fail record have room for it is the row's operand.
[log: DESIGN CHOICE 24] -/
def Hub.rowFails (e : Nat × Bool) (h : Hub) : Hub :=
  if h.on R.BOOT_MT_CTRL_SPPR_EN ∧ e.2 then
    let h := { h with fail := { h.fail with soft := if h.fail.soft.contains e.1 then h.fail.soft else h.fail.soft ++ [e.1] } }
    h.put R.BOOT_MT_STAT_SPPR h.fail.soft.length
  else if h.boot.newFails.contains (e.1 / 4) then h
  else (h.onBoot fun b => { b with newFails := b.newFails ++ [e.1 / 4] }).mtFail (e.1 / 4)

/-- Power an element ends at, W: the cap for the neighbourhood element; the others' is not given, and no more than the cap.
[log: DESIGN CHOICE 24] -/
def Hub.elemPower (h : Hub) : Nat := if h.boot.elem = 2 then h.get R.BOOT_MT_CTRL_PWR else h.free % (h.get R.BOOT_MT_CTRL_PWR + 1)

/-- The bound up to which an element may stop at once, W (R69). -/
def Hub.stopBound (h : Hub) : Nat := h.get R.PWR_COV_STEP + h.get R.PWR_SOAK_CTRL_MAX - h.get R.PWR_COV_STEP_GUARD

/-- The element that is next begins: Reef admits its power group by group (R69). The stacks sit in self-refresh during the DRAM
retention element, whose pauses the model does not tell from it (R188). [log: DESIGN CHOICE 24] -/
def Hub.enterElement (h : Hub) : Hub :=
  let mw := 1000 * h.elemPower
  let h := if h.boot.elem = 3 then h.selfRefresh else h.wakeStacks
  ({ h with power := { h.power with entry := mw }, boot := { h.boot with elemMw := mw } }.drew).admitGroup

/-- An element winds down (R69): what lies above the bound is withdrawn at the falling slew, then the rest stops at once, a drop
soak covers. -/
def Hub.windDown (h : Hub) : Hub :=
  let mw := h.boot.elemMw
  let b := 1000 * h.stopBound
  { h with power := { h.power with leave := mw - b, stop := min mw b } }.stopElement

/-- STAGE_S6 (R59, R66, R67): the profile is fixed; Skip goes straight to the zero fill. -/
def execStageS6 (s : State) : Host.Outcome State Fault Refusal :=
  s.actMem Ok.stageS6 fun c =>
    if c.hub.mayEnter 6 then
      let skip := c.hub.get R.BOOT_PROFILE_CUR = 0
      let h := (c.hub.enterStage 6).onBoot fun b => { b with elem := 0, elems := if skip then 0 else 5, hold := false, newFails := [] }
      if skip then (⟨h, c.mem⟩ : Chip).zeroFill false else ⟨h.enterElement, c.mem⟩
    else c

/-- An element of S6's memory test runs. -/
def Hub.testing6 (h : Hub) : Bool := h.stage == 6 && h.booting && !h.boot.done && !h.boot.hold

/-- MEMORY_TEST_ELEMENT_END (R69, R70, R371): the failing physical banks of the buffer element, the failing rows of a DRAM
element (address ÷ 1 KiB, and whether a soft repair is free), and fail-map entries: UNIT and words 1 to 3. -/
def execMemoryTestElementEnd (banks : List Nat) (rows : List (Nat × Bool)) (entries : List (Nat × Nat × Nat × Nat)) (s : State) :
    Host.Outcome State Fault Refusal :=
  s.actMem (Ok.memoryTestElementEnd banks rows entries) fun c =>
    let h := c.hub
    if !h.testing6 ∨ 0 < h.power.entry then c
    else
      let k := h.boot.elem
      let h := if k = 0 then Hub.each banks (fun p h => h.mergeDefect 2 0 p 2 3) h else Hub.each rows Hub.rowFails h
      let h := Hub.each entries (fun e h => h.failMapAdd [e.1 + 256 * k, e.2.1, e.2.2.1, e.2.2.2]) h
      let h := (h.windDown.onBoot fun b => { b with elem := k + 1 }).wakeStacks.progress
      if h.boot.elems ≤ k + 1 then (⟨h, c.mem⟩ : Chip).zeroFill true
      else if h.get R.TEST_HEDGE_STAT_STATE = 3 then ⟨h.onBoot fun b => { b with hold := true }, c.mem⟩
      else ⟨h.enterElement, c.mem⟩

/-- Zeroisation has ended (R381 step 4): the level rises, and an element that waited for it begins. -/
def Chip.zeroised (c : Chip) : Chip :=
  if c.hub.get R.TEST_HEDGE_STAT_STATE ≠ 3 ∨ c.hub.testing6 then c
  else
    let c := c.zeroise
    let h := ((c.hub.put R.TEST_HEDGE_STAT_LEVEL c.hub.hedgeN).put R.TEST_HEDGE_STAT_STATE 4).put R.TEST_HEDGE_STAT_RESULT 1
    let h := h.hedgeRecord 1
    if h.boot.hold ∧ h.stage = 6 ∧ h.booting then ⟨(h.onBoot fun b => { b with hold := false }).enterElement, c.mem⟩ else ⟨h, c.mem⟩

/-- ZEROISE_COMPLETE (R384): during S6 zeroisation waits for the end of the element under test. [log: DEDUCED 50] -/
def execZeroiseComplete (s : State) : Host.Outcome State Fault Refusal :=
  s.actMem Ok.zeroiseComplete Chip.zeroised

/-! ## S7 (R62, R85 to R87) -/

/-- Fewer good units of a type than its logical count end DEGRADED with SPARES (R80, R87); of the modules of a live site too, for
which UNIT takes their type, 3. [log: DEDUCED 28] -/
def Hub.noteSpares (h : Hub) : Hub :=
  let h := Hub.each [0, 1, 2] (fun t h => if h.get (countField t) < logicalMax t then h.bootDegrade 0x0C t else h) h
  if (List.range 4).any fun s => h.siteUp s && decide (h.get (R.MAP_SITE_LIVE s) < 32) then h.bootDegrade 0x0C 3 else h

/-- STAGE_S7 (R62): the defect sources are merged and map epoch 1 is adopted. [log: DESIGN CHOICE 24] -/
def execStageS7 (s : State) : Host.Outcome State Fault Refusal :=
  s.actMem Ok.stageS7 fun c =>
    Chip.each [0, 1, 2, 3] Chip.serveEarly ⟨Hub.runStage 7 (fun h => (h.buildMap h.yew.region.retires).noteSpares) c.hub, c.mem⟩

/-! ## BOOT_PROFILE (R59) -/

/-- A written CUR as it is stored: Skip in a cold bring-up is Quick; 3 names no profile, and which one it stores is free.
[log: DESIGN CHOICE 24] -/
def Hub.curValue (h : Hub) (v : Nat) : Nat :=
  let v := if v = 3 then h.free % 3 else v
  if v = 0 ∧ h.on R.BOOT_PROFILE_COLD then 1 else v

/-- A write of BOOT_PROFILE (R59): NEXT always; CUR until S6 and LBIST until S3 have begun; a closed field that would change is
logged. -/
def Hub.profileWrite (req : Path) (v : Word) (h : Hub) : Hub :=
  let h := h.put R.BOOT_PROFILE_NEXT (bitsOf v 8 2)
  let curOpen := decide (h.stage < 6)
  let lbOpen := decide (h.stage < 3)
  let bad := (!curOpen && bitsOf v 0 2 != h.get R.BOOT_PROFILE_CUR) || (!lbOpen && bitsOf v 4 1 != h.get R.BOOT_PROFILE_LBIST)
  let h := if curOpen then (h.put R.BOOT_PROFILE_CUR (h.curValue (bitsOf v 0 2))).drew else h
  let h := if lbOpen then h.put R.BOOT_PROFILE_LBIST (bitsOf v 4 1) else h
  if bad then h.logAccess 0x13 req 0x40008 v.toNat else h

/-- BOOT_PROFILE_WRITE (R59). -/
def execBootProfileWrite (req : Path) (v : Word) (s : State) : Host.Outcome State Fault Refusal :=
  s.act (Ok.bootProfileWrite req v) (Hub.pfWrite req (Hub.profileWrite req v))

end Sys2Proof.Machine
end

