-- ==== Sys2Proof/Machine/Ready.lean ====
section
/-!
DEFINITION. Bring-up stages S8 to S11 (R60, R64, R65, R72 to R80): core waves, the firmware broadcast, known-answer runs and
readiness; the meanings of STAGE_S8 to STAGE_S10, WAVE_*, BOOT_FW_GO, FW_WAIT_TIMEOUT, BUS_MASTER_ENABLE, KNOWN_ANSWER_*,
KAR_DIGEST, READY_SET, STAGE_LIMIT_EXPIRY and FLIT_RECEIVE.
-/
namespace Sys2Proof.Machine

/-! ## S8: core waves (R72 to R74) -/

/-- The wave record of site `s`. -/
def Hub.wave (h : Hub) (s : Nat) : SiteWave :=
  Store.get (fun _ => { granted := 0, up := 0, busy := false, lastAt := 0 }) h.boot.waves s

/-- Store the wave record of site `s`. -/
def Hub.setWave (s : Nat) (w : SiteWave) (h : Hub) : Hub :=
  h.onBoot fun b => { b with waves := Store.insert (Store.erase b.waves s) s w }

/-- Cores per wave (R72): WAVE_STEP and W_w in tenths of a watt. [log: DEDUCED 25] -/
def Hub.coresPerWave (h : Hub) (s : Nat) : Nat :=
  min 256 (min (h.get R.BOOT_WAVE_CORES) (max 1 (2560 * h.waveStep / h.get (R.YDL_PEER_PWR_WW s))))

/-- Cores of the next wave of site `s`: a site without PALLOW gets all its cores in one grant (R74). -/
def Hub.nextCores (h : Hub) (s : Nat) : Nat :=
  let left := h.get (R.YDL_PEER_CORES s) - (h.wave s).granted
  if h.negFlag s 3 then min (h.coresPerWave s) left else left

/-- Grant site `s` its next wave: WAVE_GRANT goes out (R273). [log: DEDUCED 25] -/
def Hub.grantWave (s : Nat) (h : Hub) : Hub :=
  let n := h.nextCores s
  let w := h.wave s
  let h := h.setWave s { granted := w.granted + n, up := w.up, busy := true, lastAt := h.clock }
  let h := (h.bump (R.BOOT_WAVE_STAT_WAVES s) 1).onBoot fun b => { b with lastWave := some (s, h.clock) }
  h.sendReq s 0x62 (leBytes 2 n)

/-- S8 begins: every live site has a wave record, and a site without PALLOW its one grant (R74). [log: DEDUCED 25] -/
def Hub.beginWaves (h : Hub) : Hub :=
  let live := (List.range 4).filter h.siteUp
  let h := h.onBoot fun b => { b with waves := live.map fun s => (s, { granted := 0, up := 0, busy := false, lastAt := 0 }), lastWave := none }
  Hub.each (live.filter fun s => !h.negFlag s 3 && decide (0 < h.get (R.YDL_PEER_CORES s))) Hub.grantWave h

/-- STAGE_S8 (R72, R74). -/
def execStageS8 (s : State) : Host.Outcome State Fault Refusal :=
  s.act Ok.stageS8 (Hub.runStage 8 Hub.beginWaves)

/-- ns a site's waves keep from the hoists of sites without PALLOW, which began with S8: 2 ms for each 60 W of a cap (R74).
[log: DEDUCED 25] -/
def Hub.fixedGap (h : Hub) (s : Nat) : Nat :=
  ((List.range 4).filter fun t => t != s && h.siteUp t && !h.negFlag t 3).foldl
    (fun a t => max a (2000000 * ((h.get (R.PWR_SITE_FIXCAP_CAP t) + 59) / 60))) 0

/-- Interval, stagger and separation let site `s` have a wave now (R72, R74). [log: DEDUCED 25] -/
def Hub.waveTime (h : Hub) (s : Nat) : Bool :=
  let iv := 1000 * h.get R.BOOT_WAVE_INTERVAL
  ((h.wave s).granted == 0 || decide ((h.wave s).lastAt + iv ≤ h.clock)) &&
    (match h.boot.lastWave with
     | some (t, at_) => t == s || decide (at_ + iv / 4 ≤ h.clock)
     | none => true) &&
    decide (h.boot.begun + h.fixedGap s ≤ h.clock)

/-- Rise of site `s`'s next wave, mW. [log: DEDUCED 25] -/
def Hub.waveRise (h : Hub) (s : Nat) : Nat := 100 * h.nextCores s * h.get (R.YDL_PEER_PWR_WW s) / 256

/-- WAVE_GRANT (R72): once interval and stagger allow, Reef judges the grant's step; one it does not admit yet waits in Reef. -/
def execWaveGrant (site : Nat) (s : State) : Host.Outcome State Fault Refusal :=
  s.act (Ok.waveGrant site) fun h =>
    let w := h.wave site
    if h.stage ≠ 8 ∨ ¬ h.booting ∨ ¬ h.siteUp site ∨ ¬ h.negFlag site 3 ∨ w.busy ∨ h.nextCores site = 0 ∨ ¬ h.waveTime site then h
    else if h.stepAdmitted 2 site then (h.dropStep 2 site).grantWave site
    else match h.tryStep (h.waveRise site) 0 0 with
    | some g => g.grantWave site
    | none => h.addStep { kind := 2, unit := site, mw := h.waveRise site, expo := 0, sense := 0, adm := false }

/-- A site reports a wave complete, with its cores up in total (R73). [log: DEDUCED 25] -/
def Hub.waveDone (s up : Nat) (h : Hub) : Hub :=
  let w := h.wave s
  if h.stage = 8 ∧ w.busy then
    ((h.setWave s { w with up := up, busy := false }).put (R.BOOT_WAVE_STAT_UP s) up).progress
  else h

/-- WAVE_DONE (R73). -/
def execWaveDone (site up : Nat) (s : State) : Host.Outcome State Fault Refusal :=
  s.actMem (Ok.waveDone site up) fun c => c.consume site 1 1 fun c => ⟨c.hub.waveDone site up, c.mem⟩

/-- A site that fails is sent a zero allowance and dropped. -/
def Chip.zeroAndDrop (s why : Nat) (c : Chip) : Chip := (c.sendAllow s 0 0 (c.hub.get R.TRIM_EPOCH)).siteDrop s why

/-- WAVE_TIMEOUT (R73): no report within 50 ms of the grant. -/
def execWaveTimeout (site : Nat) (s : State) : Host.Outcome State Fault Refusal :=
  s.actMem (Ok.waveTimeout site) fun c =>
    if c.hub.stage = 8 ∧ c.hub.siteUp site ∧ (c.hub.wave site).busy then c.zeroAndDrop site 7 else c

/-! ## S9: the firmware broadcast (R75 to R77) -/

/-- Entries of the image's directory: none without its ASCII "KHFW", or with a count outside 1 to 16. [log: DEDUCED 26] -/
def Hub.dirCount (h : Hub) : Nat :=
  let n := leAt h.boot.image 4 2
  if h.boot.image.take 4 = [0x4B, 0x48, 0x46, 0x57] ∧ n ≤ 16 then n else 0

/-- Entry `e` is for site `s`'s class and partner code. [log: DEDUCED 26] -/
def Hub.entryFits (h : Hub) (s e : Nat) : Bool :=
  leAt h.boot.image (64 + 128 * e) 1 == h.get (R.YDL_PEER_ID_CLASS s) && leAt h.boot.image (66 + 128 * e) 2 == h.get (R.YDL_PEER_ID_PCODE s)

/-- The digest entry `e` gives its payload. -/
def Hub.entryDigest (h : Hub) (e : Nat) : List Byte := (h.boot.image.drop (80 + 128 * e)).take 48

/-- Entry `e`'s payload is there and has its digest. -/
def Hub.entryGood (h : Hub) (e : Nat) : Bool :=
  (h.fwPayload e).length == leAt h.boot.image (72 + 128 * e) 4 && Config.sha384 (h.fwPayload e) == h.entryDigest e

/-- A site is dropped with a firmware reason (R80). -/
def Chip.fwDrop (reason s : Nat) (c : Chip) : Chip := (⟨c.hub.bootDegrade reason s, c.mem⟩ : Chip).siteDrop s 8

/-- Choose a live site's entry, the lowest that fits; later ones are logged; with none, or a bad digest, the site is dropped. -/
def Chip.fwChoose (s : Nat) (c : Chip) : Chip :=
  let l := (List.range c.hub.dirCount).filter (c.hub.entryFits s)
  let c : Chip := ⟨Hub.each (l.drop 1) (fun e h => h.logAccess 0x13 .masthead 0x40020 e) c.hub, c.mem⟩
  match l with
  | [] => c.fwDrop 0x0E s
  | e :: _ =>
    if c.hub.entryGood e then ⟨c.hub.onBoot fun b => { b with entryOf := nset b.entryOf s (e + 1) }, c.mem⟩ else c.fwDrop 0x0E s

/-- Live sites that take entry `e`. -/
def Hub.takers (h : Hub) (e : Nat) : List Nat := (List.range 4).filter fun s => h.siteUp s && nget h.boot.entryOf s == e + 1

/-- The digest of a sent image is recorded (R76, R392). [log: DEDUCED 26] -/
def Hub.fwRecord (e : Nat) (h : Hub) : Hub :=
  let l := h.takers e
  if l = [] then h
  else
    let d := h.entryDigest e
    let mask := l.foldl (fun m s => m + 2 ^ s) 0
    (h.yewRecord 0x31 0 false (padTo 8 [BitVec.ofNat 8 e, BitVec.ofNat 8 mask] ++ d.take 32)).yewRecordWith 2 0x31 0 false (d.drop 32)

/-- Send the images: to the multicast sites at once, then to the others one by one (R77). -/
def Hub.fwSend (h : Hub) : Hub :=
  let es := List.range h.dirCount
  let h := Hub.each es Hub.fwRecord h
  let h := Hub.each es (fun e h => Hub.each ((h.takers e).filter fun s => h.negFlag s 4) (fun s h => h.fwOpen s e true) h) h
  let q := es.flatMap fun e => ((h.takers e).filter fun s => !h.negFlag s 4).map fun s => (s, e)
  (h.onBoot fun b => { b with fwq := q, imgDone := true }).fwNext

/-- The image is there: every live site's entry is chosen and the images are sent (R76). [log: DEDUCED 26] -/
def Chip.fwGo (c : Chip) : Chip :=
  let h := (c.hub.put R.BOOT_STAT_WAIT_HOST 0).onBoot fun b => { b with fwDue := false, goHeld := false }
  let c := Chip.each ((List.range 4).filter h.siteUp) Chip.fwChoose ⟨h, c.mem⟩
  ⟨c.hub.fwSend, c.mem⟩

/-- A host image is ready to be fetched: at once, or when Bus Master Enable is set (corner of R77). [log: DEDUCED 26] -/
def Chip.fwFetch (c : Chip) : Chip :=
  if c.hub.fnRuns 0 then c.fwGo
  else ⟨(c.hub.put R.BOOT_STAT_WAIT_HOST 0).onBoot fun b => { b with fwDue := true, goHeld := false }, c.mem⟩

/-- The host image: BOOT_FW_LEN bytes of what host memory holds at BOOT_FW_ADDR (R75). -/
def Hub.hostImage (image : List Byte) (h : Hub) : Hub := h.onBoot fun b => { b with image := image.take (h.get R.BOOT_FW_LEN) }

/-- S9 begins (R75): an xSPI image is at hand; a host image is waited for until GO. [log: DEDUCED 26] -/
def Chip.beginS9 (image : List Byte) (c : Chip) : Chip :=
  if c.hub.on R.BOOT_FW_CTRL_SRC then
    let h := c.hub.hostImage image
    if h.boot.goHeld then Chip.fwFetch ⟨h, c.mem⟩ else ⟨h.put R.BOOT_STAT_WAIT_HOST 1, c.mem⟩
  else (⟨c.hub.onBoot fun b => { b with image := image }, c.mem⟩ : Chip).fwGo

/-- STAGE_S9 (R75, R76): `image` is what the source chosen by SRC holds now. -/
def execStageS9 (image : List Byte) (s : State) : Host.Outcome State Fault Refusal :=
  s.actMem (Ok.stageS9 image) fun c => if c.hub.mayEnter 9 then (⟨c.hub.enterStage 9, c.mem⟩ : Chip).beginS9 image else c

/-- A write of BOOT_FW_CTRL (R75): GO counts once BOOT_FW_ADDR and BOOT_FW_LEN have been written; before S9 it is held, in S9 the
image is fetched. [log: DEDUCED 26] -/
def Chip.fwCtrlWrite (v : Word) (image : List Byte) (c : Chip) : Chip :=
  let h := (c.hub.put R.BOOT_FW_CTRL_SRC (bitsOf v 0 1)).put R.BOOT_FW_CTRL_WAIT_S (bitsOf v 8 8)
  if bitsOf v 4 1 = 0 ∨ ¬ h.boot.fwAddr ∨ ¬ h.boot.fwLen then ⟨h, c.mem⟩
  else if h.on R.BOOT_STAT_WAIT_HOST then (⟨h.hostImage image, c.mem⟩ : Chip).fwFetch
  else ⟨h.onBoot fun b => { b with goHeld := decide (h.stage < 9) || b.goHeld }, c.mem⟩

/-- BOOT_FW_GO (R75): `image` is what host memory holds at BOOT_FW_ADDR. -/
def execBootFwGo (req : Path) (v : Word) (image : List Byte) (s : State) : Host.Outcome State Fault Refusal :=
  s.actMem (Ok.bootFwGo req v image) (Chip.pfWrite req (Chip.fwCtrlWrite (setBits v 4 1 1) image))

/-- BUS_MASTER_ENABLE (R127): the function's rings resume, and a fetch that waited for it goes on. -/
def execBusMasterEnable (fn : Nat) (s : State) : Host.Outcome State Fault Refusal :=
  s.actMem (Ok.busMasterEnable fn) fun c =>
    let c : Chip := ⟨c.hub.busMasterOn fn, c.mem⟩
    if fn = 0 ∧ c.hub.boot.fwDue then c.fwGo else c

/-- FW_WAIT_TIMEOUT (R75, corner of R77): the host image has not come in time, a pause of its fetch counted; every site that needed
it is dropped. -/
def execFwWaitTimeout (s : State) : Host.Outcome State Fault Refusal :=
  s.actMem Ok.fwWaitTimeout fun c =>
    if c.hub.on R.BOOT_STAT_WAIT_HOST ∨ c.hub.boot.fwDue then
      let h := (c.hub.put R.BOOT_STAT_WAIT_HOST 0).onBoot fun b => { b with fwDue := false, goHeld := false, imgDone := true }
      Chip.each ((List.range 4).filter h.siteUp) (Chip.fwDrop 0x0D) ⟨h, c.mem⟩
    else c

/-! ## S10: known-answer runs (R78) -/

/-- Banks of buffer tile `t`. -/
def banksOfTile (t : Nat) : List Nat := (List.range (tileBanks t).2).map fun i => (tileBanks t).1 + i

/-- Units that run their known-answer workload (R78): every physical engine, Spar tile and buffer tile, in the map or not.
[log: DEDUCED 27] -/
def karUnits : List (Nat × Nat) :=
  ((List.range 68).map fun p => (0, p)) ++ ((List.range 18).map fun p => (1, p)) ++ (List.range 48).map fun t => (2, t)

/-- S10 begins: sites whose image stream could not be opened or failed are dropped; the live sites are told to run.
[log: DEDUCED 26] -/
def Chip.beginS10 (c : Chip) : Chip :=
  let c := Chip.each (c.hub.boot.fwBad.filter c.hub.siteUp) (Chip.fwDrop 0x0E) c
  let h := c.hub.enterStage 10
  let live := (List.range 4).filter h.siteUp
  let h := h.onBoot fun b => { b with karLeft := karUnits, karSites := live, karBad := false, fwBad := [] }
  ⟨Hub.each live (fun s h => h.sendReq s 0x64 [BitVec.ofNat 8 (nget h.boot.entryOf s - 1)]) h, c.mem⟩

/-- STAGE_S10 (R78). -/
def execStageS10 (s : State) : Host.Outcome State Fault Refusal :=
  s.actMem Ok.stageS10 fun c => if c.hub.mayEnter 10 then c.beginS10 else c

/-- A unit that fails is Retired with cause 4; a buffer tile with its banks (R78). [log: DEDUCED 27] -/
def Hub.karRetire (t p : Nat) (h : Hub) : Hub :=
  let h := h.onBoot fun b => { b with karBad := true }
  if t = 2 then Hub.each (banksOfTile p) (fun b h => h.mergeDefect 2 0 b 2 4) h else h.mergeDefect t 0 p 2 4

/-- Logical units of a type that lost their unit take spares; with too few, the type is numbered anew (R78, R86, R87).
[log: DEDUCED 27] -/
def Hub.refillType (t : Nat) (h : Hub) : Hub :=
  let n := h.get (countField t)
  let h := h.upto n (Hub.fillLogical t)
  if (List.range n).all fun l => (h.physOf t 0 l).isSome then h else h.buildType t

/-- Map epoch 2 is adopted when every unit has run and some has left (R78). [log: DEDUCED 27] -/
def Hub.karOver (h : Hub) : Hub :=
  if h.boot.karLeft = [] ∧ h.boot.karBad then
    let h := Hub.each [0, 1, 2] Hub.refillType (h.onBoot fun b => { b with karBad := false })
    ((h.put R.MAP_EPOCH_CUR 2).showSpares.showLookup).noteSpares
  else h

/-- A unit's run ends. -/
def Hub.karEnd (t p : Nat) (good : Bool) (h : Hub) : Hub :=
  if h.stage = 10 ∧ h.booting ∧ h.boot.karLeft.contains (t, p) then
    let h := h.onBoot fun b => { b with karLeft := b.karLeft.filter fun e => e != (t, p) }
    ((if good then h else h.karRetire t p).progress).karOver
  else h

/-- KNOWN_ANSWER_COMPLETE (R78): unit `p` of type 0 engine, 1 Spar tile, 2 buffer tile; `good` says whether its result is the
image's. -/
def execKnownAnswerComplete (t p : Nat) (good : Bool) (s : State) : Host.Outcome State Fault Refusal :=
  s.act (Ok.knownAnswerComplete t p good) (Hub.karEnd t p good)

/-- KNOWN_ANSWER_TIMEOUT (R78): a unit has not finished within 100 ms. -/
def execKnownAnswerTimeout (t p : Nat) (s : State) : Host.Outcome State Fault Refusal :=
  s.act (Ok.knownAnswerTimeout t p) (Hub.karEnd t p false)

/-- A site's digest (R78): one that is not its entry's costs it a zero allowance and the drop. -/
def Chip.karDigest (s : Nat) (digest : List Byte) (c : Chip) : Chip :=
  if c.hub.stage = 10 ∧ c.hub.boot.karSites.contains s then
    let h := c.hub.onBoot fun b => { b with karSites := b.karSites.filter fun t => t != s }
    let want := (h.boot.image.drop (128 + 128 * (nget h.boot.entryOf s - 1))).take 48
    if digest = want then ⟨h, c.mem⟩ else (⟨h, c.mem⟩ : Chip).zeroAndDrop s 9
  else c

/-- KAR_DIGEST (R78). -/
def execKarDigest (site : Nat) (digest : List Byte) (s : State) : Host.Outcome State Fault Refusal :=
  s.actMem (Ok.karDigest site digest) fun c => c.consume site 1 1 (Chip.karDigest site digest)

/-! ## S11 (R64, R65, R79) -/

/-- A range for Spar's scratch beyond the buffer is moved down, with a NOTICE (R326). -/
def Hub.fitScratch (h : Hub) : Hub :=
  let top := h.bufSize / 2 ^ 20
  if top < h.get R.SPAR_SCRATCH_BASE + h.get R.SPAR_SCRATCH_SIZE then
    (h.put R.SPAR_SCRATCH_BASE (top - h.get R.SPAR_SCRATCH_SIZE)).notice 326 0
  else h

/-- Hold-offs deferred before readiness are judged (R39). [log: DESIGN CHOICE 20; DEDUCED 27] -/
def Hub.judgeDeferred (h : Hub) : Hub :=
  Hub.each ((List.range 74).filter fun n => nget h.power.deferOff n == 1) (fun n h => (h.defer n 0).reqOff n) h

/-- READY (R64, R65, R71, R79, R346): the outcome is fixed, the BOOT record written, READY set, the interrupt sent; then Trim's
epoch 0 begins and what waited for readiness is done. [log: DEDUCED 27] -/
def Chip.readySet (meas : List Nat) (hubStatic stackStatic : Nat) (c : Chip) : Chip :=
  let h := c.hub.enterStage 11
  let h := if h.get R.BOOT_MT_STAT_FAILS = 0 then h else h.bootDegrade 0x0B 0xFFF
  let h := (h.put R.GLB_RDY_OUTCOME (if h.get R.BOOT_FAIL_REASON = 0 then 1 else 2)).closeStage
  let h := h.bootRecord.put R.GLB_RDY_READY 1
  let h := { h with pins := { h.pins with fatalN := true } }
  let h := h.readinessIrq.fitScratch.showSpar.judgeDeferred
  Chip.trimReady meas hubStatic stackStatic ⟨h, c.mem⟩

/-- READY_SET (R79): with the powers measured for Trim's epoch 0, as TRIM_EPOCH_START. -/
def execReadySet (meas : List Nat) (hubStatic stackStatic : Nat) (s : State) : Host.Outcome State Fault Refusal :=
  s.actMem (Ok.readySet meas hubStatic stackStatic) fun c =>
    if c.hub.mayEnter 11 then c.readySet meas hubStatic stackStatic else c

/-! ## Stage limits (R60, R61, R80) -/

/-- A stage is still running at its limit (R80), which in S9 begins when the image is available: sites not up in S5, and
sites that have sent no digest in S10, are dropped; VHOLD not ready in S1 is HOLDUP; any other cause is STAGE_LIMIT.
[log: DESIGN CHOICE 23] -/
def Chip.stageLimit (c : Chip) : Chip :=
  let h := c.hub
  if !h.booting || h.stageDone || h.pins.d0Reset || h.boot.pend != 0 then c
  else if h.stage = 9 ∧ (h.on R.BOOT_STAT_WAIT_HOST ∨ h.boot.fwDue) then c
  else if h.stage = 1 ∧ ¬ h.on R.PWR_HOLD_READY then ⟨h.bootHalt 0x04 0xFFF, c.mem⟩
  else if h.stage = 5 then
    Chip.each ((List.range 4).filter fun s => !h.siteSettled s)
      (fun s c => c.siteDrop s (if c.hub.get (R.YDL_DISC_PHASE s) = 1 then 1 else 3)) c
  else if h.stage = 10 ∧ h.boot.karLeft = [] then Chip.each (h.boot.karSites.filter h.siteUp) (fun s c => c.zeroAndDrop s 9) c
  else ⟨h.bootHalt 0x0F 0xFFF, c.mem⟩

/-- STAGE_LIMIT_EXPIRY (R60, R80). -/
def execStageLimitExpiry (s : State) : Host.Outcome State Fault Refusal :=
  s.actMem Ok.stageLimitExpiry Chip.stageLimit

/-! ## Flits -/

/-- FLIT_RECEIVE (R252): a slot of physical module `p` with valid word `v`, control bits `k` and its payload. -/
def execFlitReceive (site module v k : Nat) (payload : List Byte) (s : State) : Host.Outcome State Fault Refusal :=
  s.actMem (Ok.flitReceive site module v k payload)
    (Chip.receiveFlit (fun s b c => ⟨c.hub.waveDone s (leAt b 4 2), c.mem⟩) (fun s b c => c.karDigest s ((b.drop 4).take 48))
      site module v k payload)

end Sys2Proof.Machine
end

