-- ==== Sys2Proof/Machine/RingReset.lean ====
section
/-!
DEFINITION. Ring reset and function-level reset (R105, R125, R126) and deadlines (R141): the meanings of RING_RESET,
RING_RESET_COMPLETE, PF_FLR, VF_FLR, VF_ENABLE_CHANGE and DEADLINE_EXPIRY.
-/
namespace Sys2Proof.Machine

/-! ## Ring reset (R125) -/

/-- The descriptor goes on until its next 4 KiB boundary: a started mover or open stream whose work has not ended. -/
def Desc.runsOn (d : Desc) : Bool := d.started && !d.ended && (isMover (dOp d.bytes) || dOp d.bytes == 0x08)

/-- Nothing that is under way at a site or a port refers to ring `n` any more: results of its calls and stream closes are
discarded. -/
def Hub.unlinkRing (n : Nat) (h : Hub) : Hub :=
  h.upto 4 fun s g => g.onSite s fun x =>
    { x with
      calls := x.calls.map fun c => if c.ring = n then { c with ring := 256 } else c,
      streams := x.streams.map fun t => if t.closeRing = n then { t with closeRing := 256 } else t }

/-- Ring `n` enters RESETTING: completions held, moderation, its open BOUNDARY and its waits are cleared; descriptors are
discarded but for movers and streams, which stop at their next 4 KiB boundary. [log: DEDUCED 31] -/
def Chip.resetRing (n : Nat) (zeroGen : Bool) (c : Chip) : Chip :=
  let h := (c.hub.put (R.RING_CTRL_ENABLE n) 0).put (R.RING_STAT_STATE n) 2
  let r := h.ring n
  let h := h.setRing n { r with held := [], pend := 0, timer := false, bound := none, zeroGen := r.zeroGen || zeroGen }
  let h := (h.dropWaits fun w => match w.who with | .desc m _ => m == n | _ => false).unlinkRing n
  let c := (⟨h, c.mem⟩ : Chip).sparDropRing n
  let l := (c.hub.ring n).descs
  let h := Hub.each (l.filter fun d => !d.runsOn) (fun d h => (h.laneForget n d.id).finishId n d.id 0 0) c.hub
  let h := Hub.each (l.filter Desc.runsOn) (fun d h => (h.onDesc n d.id fun x => { x with stop := true }).stopAtBoundary n d.id) h
  ⟨(h.showTail n).showPools, c.mem⟩

/-- Start a reset of ring `n`, unless it is disabled or under reset already (R111, R125). [log: DEDUCED 31] -/
def Chip.startReset (n : Nat) (zeroGen : Bool) (c : Chip) : Chip :=
  if c.hub.ringState n = 1 ∨ c.hub.ringState n = 3 then c.resetRing n zeroGen
  else if c.hub.ringState n = 2 ∧ zeroGen then ⟨c.hub.setRing n { c.hub.ring n with zeroGen := true }, c.mem⟩
  else c

/-- The ring a path's access to ring registers `n` reaches (R105): nothing is reached where the access does nothing. -/
def Hub.ringTarget (h : Hub) (req : Path) (n : Nat) : Option Nat :=
  match req with
  | .vf k => h.localRing k n
  | .pf => if h.ringFn n = 0 then some n else none
  | _ => none

/-- A write of RING_n_CTRL with ENABLE = 0 (R111, R125). -/
def Chip.disableRing (req : Path) (n : Nat) (c : Chip) : Chip :=
  match c.hub.ringTarget req n with
  | some m => c.startReset m false
  | none => ⟨c.hub.ringWrite req n 0x14 0 (fun _ h => h), c.mem⟩

/-- RING_RESET (R125). -/
def execRingReset (req : Path) (n : Nat) (s : State) : Host.Outcome State Fault Refusal :=
  s.actMem (Ok.ringReset req n) (Chip.disableRing req n)

/-- The reset is complete (R125, R126): head, tail and counters return to 0, PHASE to 1, GEN moves on, or to 0 for an FLR.
[log: DEDUCED 31] -/
def Hub.endReset (n : Nat) (h : Hub) : Hub :=
  let r := h.ring n
  let gen := if r.zeroGen then 0 else (h.get (R.RING_STAT_GEN n) + 1) % 2 ^ 16
  let h := (h.clearRing n).setRing n { RingS.empty with hints := r.hints }
  let h := ((h.put (R.RING_DONE_LO n) 0).put (R.RING_DONE_HI n) 0).put (R.RING_DB_CNT_DB_DROP n) 0
  let h := (h.put (R.RING_DB_CNT_DB_STALE n) 0).put (R.RING_STAT_CAUSE n) 0
  (h.put (R.RING_STAT_GEN n) gen).put (R.RING_STAT_STATE n) 0

/-- RING_RESET_COMPLETE (R125): the last stopped descriptor has let go. -/
def execRingResetComplete (n : Nat) (s : State) : Host.Outcome State Fault Refusal :=
  s.act (Ok.ringResetComplete n) fun h => if h.ringState n = 2 ∧ (h.ring n).descs = [] then h.endReset n else h

/-! ## Function-level reset (R126) -/

/-- Every ring of function `fn` is reset, and GEN of its rings returns to 0. -/
def Chip.resetRingsOf (fn : Nat) (c : Chip) : Chip :=
  Chip.each (List.range 256) (fun n c =>
    if c.hub.ringFn n ≠ fn then c
    else if c.hub.ringState n = 0 then ⟨c.hub.put (R.RING_STAT_GEN n) 0, c.mem⟩
    else c.startReset n true) c

/-- The function's own state returns to what it is after reset: MSI-X off, its table and pending bits cleared.
[log: DESIGN CHOICE 32] -/
def Hub.clearFn (fn : Nat) (h : Hub) : Hub :=
  let p := h.pcie
  let h := { h with pcie := { p with
    bme := nset p.bme fn 0, d3 := nset p.d3 fn 0, msixEn := nset p.msixEn fn 0, fmask := nset p.fmask fn 0,
    cfg := Store.keep (fun k => k / 64 != fn) p.cfg } }
  if fn = 0 then
    let h := h.upto 264 fun v g =>
      (((g.put (R.MSIX_ADDR_LO_ADDR v) 0).put (R.MSIX_ADDR_HI_ADDR v) 0).put (R.MSIX_DATA v) 0).setReg (R.MSIX_CTRL_MASK v).off
        (resetWord (R.MSIX_CTRL_MASK v).off)
    h.upto 9 fun i g => g.put (R.MSIX_PBA_PEND i) 0
  else
    let k := fn - 1
    let p := h.pcie
    { h with pcie := { p with
      vfTable := Store.keep (fun w => !(decide (32 * k ≤ w) && decide (w < 32 * k + 32))) p.vfTable,
      vfPba := nset p.vfPba k 0 } }

/-- Reset function `fn` (R126). [log: DESIGN CHOICE 32] -/
def Chip.resetFn (fn : Nat) (c : Chip) : Chip :=
  let c := c.resetRingsOf fn
  ⟨c.hub.clearFn fn, c.mem⟩

/-- VF_FLR (R126). [log: DESIGN CHOICE 32] -/
def execVfFlr (k : Nat) (s : State) : Host.Outcome State Fault Refusal := s.actMem (Ok.vfFlr k) (Chip.resetFn (k + 1))

/-- Set VF Enable and NumVFs: every VF that is no longer present is reset (R126, corners of R108). [log: DESIGN CHOICE 32] -/
def Chip.setVfs (en : Bool) (num : Nat) (c : Chip) : Chip :=
  let gone := (List.range 31).filter fun k => c.hub.vfHere k && !(en && decide (k < num))
  let c := Chip.each gone (fun k c => c.resetFn (k + 1)) c
  ⟨{ c.hub with pcie := { c.hub.pcie with vfEn := en, numVfs := num } }, c.mem⟩

/-- VF_ENABLE_CHANGE (R105): the host writes VF Enable and NumVFs of the SR-IOV capability. -/
def execVfEnableChange (enable : Bool) (num : Nat) (s : State) : Host.Outcome State Fault Refusal :=
  s.actMem (Ok.vfEnableChange enable num) (Chip.setVfs enable num)

/-- PF_FLR (R126): the PF's rings, then VF Enable is cleared, which resets every VF. [log: DESIGN CHOICE 32] -/
def execPfFlr (s : State) : Host.Outcome State Fault Refusal :=
  s.actMem Ok.pfFlr fun c => (c.resetFn 0).setVfs false c.hub.pcie.numVfs

/-! ## Deadlines (R141) -/

/-- The hub tells the site of a call to stop it. [log: DEDUCED 31] -/
def Hub.stopCall (n id : Nat) (h : Hub) : Hub :=
  h.upto 4 fun s g =>
    match (g.siteS s).calls.find? fun c => c.ring == n && c.desc == id && !c.stopped with
    | none => g
    | some c =>
      let g := g.onSite s fun x => { x with calls := x.calls.map fun y => if y.tag = c.tag then { y with stopped := true } else y }
      g.sendCtl s { rsp := false, msg := 0x52, tag := c.tag, body := [], data := [] }

/-- A started descriptor's STRICT deadline passes: a mover, a stream or a lane transfer stops at its next 4 KiB boundary, the
site of a call is told to stop, a solver operation is cut. -/
def Chip.stopDesc (n : Nat) (d : Desc) (c : Chip) : Chip :=
  let op := dOp d.bytes
  if d.runsOn then ⟨(c.hub.onDesc n d.id fun x => { x with stop := true }).stopAtBoundary n d.id, c.mem⟩
  else if op = 0x0A then ⟨c.hub.stopCall n d.id, c.mem⟩
  else if (op = 0x20 ∨ op = 0x21) ∧ ¬ d.ended then ⟨(c.hub.onDesc n d.id fun x => { x with stop := true }).laneStop n d.id, c.mem⟩
  else if op = 0x18 ∨ op = 0x19 ∨ op = 0x1A then c.sparDeadline n d.id true
  else c

/-- The deadline of descriptor `id` of ring `n` passes. -/
def Chip.deadline (n id : Nat) (c : Chip) : Chip :=
  match c.hub.desc n id with
  | none => c
  | some d =>
    let h := c.hub.onDesc n id fun x => { x with late := true }
    if dMode d.bytes = 0 then c
    else if dMode d.bytes = 1 then (⟨h, c.mem⟩ : Chip).sparDeadline n id false
    else if ¬ d.started then ⟨h.finishId n id 0x0A 0, c.mem⟩
    else (⟨h, c.mem⟩ : Chip).stopDesc n d

/-- DEADLINE_EXPIRY (R141). -/
def execDeadlineExpiry (n id : Nat) (s : State) : Host.Outcome State Fault Refusal :=
  s.actMem (Ok.deadlineExpiry n id) (Chip.deadline n id)

end Sys2Proof.Machine
end

