-- ==== Sys2Proof/Machine/Access.lean ====
section
/-!
DEFINITION. Register accesses (R12 to R16, R28, R29, R100, R104, R105, R167): which register a path's offset reaches, reading a
word with its side effects, and writing one, block by block; the meanings of REGISTER_WRITE, RC_FIELD_READ,
LEVEL_PROTECTED_READ, UNALIGNED_ACCESS, SHADOW_*_READ, LOCK and TEST_REG. A register with commands of its own is written here
by the same operation as there.
-/
namespace Sys2Proof.Machine

/-! ## What an offset reaches (R27, R100, R104, R105) -/

/-- What a path's register offset reaches: a register at an offset of the PF's BAR0, a word of a VF's MSI-X table, its PBA, its
VF_SHADOW, a doorbell page, or nothing. -/
inductive Place where
  | reg (off : Nat)
  | vfTable (k i : Nat)
  | vfPba (k : Nat)
  | vfShadow (k : Nat)
  /-- A word of a doorbell page of BAR2 (R112). -/
  | bell (page off : Nat)
  | nothing
deriving DecidableEq, Repr

/-- What VF `k`'s BAR0 offset reaches: the registers of a filled local ring slot but OWNER, its MSI-X table and PBA, VF_SHADOW.
[log: DEDUCED 15] -/
def Hub.vfPlace (h : Hub) (k off : Nat) : Place :=
  if !h.vfHere k then .nothing
  else if 0x2000000 ≤ off then (if off < 0x2040000 then .bell ((off - 0x2000000) / 0x1000) (off % 0x1000) else .nothing)
  else if off < 0x3000 then
    (if off % 0x100 = 0x18 then .nothing
     else match h.localRing k (off / 0x100) with
      | some n => .reg (0x100000 + 0x100 * n + off % 0x100)
      | none => .nothing)
  else if off < 0x3080 then .vfTable k ((off - 0x3000) / 4)
  else if off = 0x3800 then .vfPba k
  else if off = 0x3F00 then .vfShadow k
  else .nothing

/-- What the word at offset `off` is for path `p`; from 0x200_0000 on it is BAR2's (R100, R112). A site reaches hub
time only, the TAP the TEST block only. [log: DEDUCED 15] -/
def Hub.place (h : Hub) (p : Path) (off : Nat) : Place :=
  match p with
  | .vf k => h.vfPlace k off
  | .site _ => if off = 0x130000 ∨ off = 0x130004 then .reg off else .nothing
  | .tap => if 0xA00000 ≤ off ∧ off < 0xB00000 then .reg off else .nothing
  | .masthead => if off < 0x2000000 then .reg off else .nothing
  | .pf => if off < 0x2000000 then .reg off else .bell ((off - 0x2000000) / 0x1000) (off % 0x1000)

/-- The register at `off` is protected above the hedge-gate level in force (R14). [log: DESIGN CHOICE 17] -/
def Hub.guarded (h : Hub) (off : Nat) : Bool :=
  match findReg off with
  | none => false
  | some (r, _, _) => decide (h.level < r.level)

/-! ## Reading (R12 to R14, R28, R167) -/

/-- `off` lies at `at_` within one of `n` units of `stride` bytes from `base`. -/
def inStride (off base stride n at_ : Nat) : Bool :=
  decide (base ≤ off) && decide (off < base + stride * n) && (off - base) % stride == at_

/-- `off` is the low half of a 64-bit register that is read under the shadow rule (R167). -/
def isLowHalf (off : Nat) : Bool :=
  off == 0x130000 || inStride off 0x130200 8 16 0 || off == 0x200010 || inStride off 0x300000 0x20000 6 0x20
    || inStride off 0x300000 0x20000 6 0x28 || inStride off 0x600000 0x40000 4 0x804 || inStride off 0x700000 0x1000 32 0x304
    || inStride off 0x781000 0x40 32 0x10 || inStride off 0x781000 0x40 32 0x18 || off == 0x900010
    || inStride off 0x900100 0x20 32 0x0C || off == 0x20010 || inStride off 0xA00200 8 48 0 || inStride off 0x100000 0x100 256 0x38

/-- The levels of GPIO0 to GPIO15 (R418): READY, FATAL_N, THERMTRIP_N, LG_N, and GPIO4 to GPIO15 as the hub drives them, or as
the board does: a free value. [log: DESIGN CHOICE 17] -/
def Hub.gpioIn (h : Hub) : Nat :=
  let out := h.get R.GLB_GPIO_OUT
  let oe := h.get R.GLB_GPIO_OUT_OE
  b2n h.ready + 2 * b2n h.pins.fatalN + 4 * b2n (!h.on R.SNS_THERM_TRIPPED) + 8 * b2n h.pins.lgN
    + 16 * ((List.range 12).foldl (fun a i => a + (if bit oe i then b2n (bit out i) else b2n (bit h.free i)) * 2 ^ i) 0)

/-- The word a read of the register at `off` returns; write-only fields read 0. A watch's word 1 shows SEEN once it has fired.
[log: DESIGN CHOICE 17] -/
def Hub.live (h : Hub) (off : Nat) : Word :=
  if off = 0x130000 then BitVec.ofNat 32 h.now
  else if off = 0x130004 then BitVec.ofNat 32 (h.now / 2 ^ 32)
  else if off = 0x20 then BitVec.ofNat 32 h.gpioIn
  else
    let seen := nget h.cleat.seen ((off - 0x129000) / 16)
    if inStride off 0x129000 16 64 4 && seen != 0 then BitVec.ofNat 32 (seen - 1)
    else h.reg off &&& ~~~ maskOf off fun f => f.acc == .wo

/-- The RC fields of the register at `off` clear. -/
def Hub.clearRc (off : Nat) (h : Hub) : Hub := h.setReg off (h.reg off &&& ~~~ maskOf off fun f => f.acc == .rc)

/-- What a register read answers: its word, whether a stale half was returned (R167), whether the word it lies in could not be
read (R215), and the hub after it. -/
structure RegRead where
  word : Word
  stale : Bool
  failed : Bool
  hub : Hub

/-- A read that answers `w`. -/
def RegRead.of (w : Word) (h : Hub) : RegRead := { word := w, stale := false, failed := false, hub := h }

/-- Read the register at `off` for path `p`. A protected one reads 0 and is logged (R14); a low half latches the high one, which a
high read takes (R167); RC fields clear. The pins the board drives and a tile's load are free values.
[log: DESIGN CHOICE 17] -/
def Hub.readReg (p : Path) (off : Nat) (h : Hub) : RegRead :=
  if h.guarded off then .of 0 (h.logAccess 0x10 p off 0)
  else if isLowHalf off then .of (h.live off) (h.latchShadow p off (h.live (off + 4)))
  else if 4 ≤ off ∧ isLowHalf (off - 4) then
    let r := h.takeShadow p (off - 4) (h.live off)
    { word := r.1, stale := r.2.1, failed := false, hub := r.2.2 }
  else if off = 0x20 then .of (h.live off) h.drew
  else if inStride off 0x201000 4 48 0 && h.domOn (2 + (off - 0x201000) / 4) then .of (BitVec.ofNat 32 (h.free % 1024)) h.drew
  else .of (h.live off) (h.clearRc off)

/-- Read the register at `off`; one held in a protected SRAM is checked first (R210, R213, R215). -/
def Hub.readChecked (p : Path) (off : Nat) (h : Hub) : RegRead :=
  if h.guarded off ∨ h.sramErr off = 0 then h.readReg p off
  else
    let r := h.sramCheck p.req off
    if r.1 then
      (match p with
       | .pf => r.2.aerCorrected h
       | .vf k => if r.2.ras.seq = h.ras.seq then r.2 else r.2.aer (k + 1) 7
       | _ => r.2).readReg p off
    else { word := 0, stale := false, failed := true, hub := r.2 }

/-- Read the word at a path's aligned offset. -/
def Hub.readAt (p : Path) (off : Nat) (h : Hub) : RegRead :=
  match h.place p off with
  | .reg o => h.readChecked p o
  | .vfTable k i => .of (Store.get vfTableReset h.pcie.vfTable (32 * k + i)) h
  | .vfPba k => .of (BitVec.ofNat 32 (nget h.pcie.vfPba k)) h
  | .vfShadow k => .of (BitVec.ofNat 32 (nget h.pcie.vfStale k)) h
  | .bell _ _ => .of 0 h
  | .nothing => .of 0 h

/-- Answer a read with the value `v` (R12): a site's answer carries STALE_HALF as a flag above the value (R167); a read that could not
be delivered ends in Completer Abort for a function, and is an error to Masthead (R215). -/
def RegRead.answer (p : Path) (bits v : Nat) (r : RegRead) : Hub :=
  if r.failed then
    match p with
    | .pf => (r.hub.aer 0 0).send (.completion 0 4 [])
    | .vf k => (r.hub.aer (k + 1) 0).send (.completion (k + 1) 4 [])
    | _ => r.hub
  else match p with
    | .site _ => r.hub.send (.readData p (v + 2 ^ bits * b2n r.stale))
    | _ => r.hub.send (.readData p v)

/-- A read of `bits` bits (R12, R29), answered: unaligned it returns 0 and is logged; 64 bits are the low word, then the high one;
fewer than 32 select bytes of the whole word. [log: DEDUCED 15] -/
def Hub.readAnswer (p : Path) (off bits : Nat) (h : Hub) : Hub :=
  if off % (bits / 8) ≠ 0 then (RegRead.of 0 (h.logAccess 0x11 p off 0)).answer p bits 0
  else if bits = 64 then
    let a := h.readAt p off
    let b := a.hub.readAt p (off + 4)
    { b with stale := a.stale || b.stale, failed := a.failed || b.failed }.answer p bits (a.word.toNat + 2 ^ 32 * b.word.toNat)
  else
    let a := h.readAt p (off / 4 * 4)
    a.answer p bits (a.word.toNat / 2 ^ (8 * (off % 4)) % 2 ^ bits)

/-- RC_FIELD_READ (R12): of any size, also of a register without an RC field. -/
def execRcFieldRead (req : Path) (off bits : Nat) (s : State) : Host.Outcome State Fault Refusal :=
  s.act (Ok.rcFieldRead req off bits) (Hub.readAnswer req off bits)

/-- LEVEL_PROTECTED_READ (R14): at a level that is high enough it is an ordinary read. -/
def execLevelProtectedRead (req : Path) (off : Nat) (s : State) : Host.Outcome State Fault Refusal :=
  s.act (Ok.levelProtectedRead req off) (Hub.readAnswer req off 32)

/-- SHADOW_LOW_READ (R167). -/
def execShadowLowRead (path : Path) (off : Nat) (s : State) : Host.Outcome State Fault Refusal :=
  s.act (Ok.shadowLowRead path off) (Hub.readAnswer path off 32)

/-- SHADOW_HIGH_READ (R167). -/
def execShadowHighRead (path : Path) (off : Nat) (s : State) : Host.Outcome State Fault Refusal :=
  s.act (Ok.shadowHighRead path off) (Hub.readAnswer path off 32)

/-! ## Writing by access code (R12 to R14) -/

/-- The value a field stores for a written `x`: moved to the nearer bound where its table says so. [log: DEDUCED 16] -/
def FieldSpec.stored (f : FieldSpec) (x : Nat) : Nat :=
  match f.clampTo with
  | none => x
  | some (lo, hi) => clampNat lo hi x

/-- The field after a write of `v` to its word `w`, by its access code. [log: DEDUCED 16] -/
def FieldSpec.write (f : FieldSpec) (unlocked : Bool) (v w : Word) : Word :=
  let x := bitsOf v f.lo f.width
  match f.acc with
  | .rw => setBits w f.lo f.width (f.stored x)
  | .rwl => if unlocked then setBits w f.lo f.width (f.stored x) else w
  | .w1c => if x = 0 then w else setBits w f.lo f.width 0
  | _ => w

/-- A write of the register at `off` by its fields' access codes; one that meets a locked field is logged (R14). An unassigned
offset ignores it (R13). [log: DEDUCED 16] -/
def Hub.plainWrite (p : Path) (off : Nat) (v : Word) (h : Hub) : Hub :=
  match findReg off with
  | none => h
  | some (r, _, _) =>
    let w := r.fields.foldl (fun w f => f.write h.unlocked v w) (h.reg off)
    let g := h.setReg off w
    if !h.unlocked && r.fields.any (fun f => f.acc == .rwl) then g.logAccess 0x10 p off v.toNat else g

/-- The word of the ladder from `base` with `stride` that holds `off`. -/
def unitOf (off base stride : Nat) : Nat := (off - base) / stride

/-! ## Writing, block by block -/

/-- A write of GLB_CTRL (R16): 1 sets LOCK, 0 is ignored; once locked the attempt is logged (R14). -/
def Hub.lockWrite (p : Path) (v : Word) (h : Hub) : Hub :=
  if !h.unlocked then h.logAccess 0x10 p 0x10 v.toNat
  else if bitsOf v 0 1 = 1 then h.put R.GLB_CTRL_LOCK 1
  else h

/-- LOCK (R16). -/
def execLock (req : Path) (v : Word) (s : State) : Host.Outcome State Fault Refusal :=
  s.act (Ok.lock req v) (Hub.pfWrite req (Hub.lockWrite req v))

/-- A write of the mask word of a function's vector: an unmasked pending one sends its message (R123). -/
def Hub.maskWrite (fn vec : Nat) (v : Word) (h : Hub) : Hub := (h.setMask fn vec (bitsOf v 0 1)).sendPending fn vec

/-- The GLB block. -/
def Hub.glbWrite (p : Path) (off : Nat) (v : Word) (h : Hub) : Hub :=
  if off = 0x10 then h.lockWrite p v
  else if off = 0x14 then h.rstWrite p v
  else if 0x200 ≤ off ∧ off < 0x200 + 0x10 * 31 then h.vfWinWrite p (unitOf off 0x200 16) ((off - 0x200) % 16 / 4) v
  else if inStride off 0x8000 16 264 12 then h.maskWrite 0 (unitOf off 0x8000 16) v
  else h.plainWrite p off v

/-- A write of PWR_DOM_n: REFUSED is cleared by 1, then the request is taken. -/
def Hub.domWrite (n : Nat) (v : Word) (h : Hub) : Hub :=
  let f := R.PWR_DOM_REFUSED n
  (if bitsOf v f.lo 1 = 1 then h.put f 0 else h).domReq n (bitsOf v (R.PWR_DOM_REQ n).lo 2)

/-- The PWR block. [log: DEDUCED 16] -/
def Hub.pwrWrite (p : Path) (off : Nat) (v : Word) (h : Hub) : Hub :=
  if off = R.PWR_COV_SLEW_UP.off then h.covSlewWrite p v
  else if off = R.PWR_COV_STEP.off then h.covStepWrite p v
  else if off = R.PWR_REEF_CTRL_ENABLE.off then h.reefCtrlWrite p v
  else if inStride off (R.PWR_DOM_REQ 0).off 4 74 0 then h.domWrite (unitOf off (R.PWR_DOM_REQ 0).off 4) v
  else h.plainWrite p off v

/-- A write of a variable's bounds, clamped to its characterised range. -/
def Hub.boundsWrite (k : Nat) (v : Word) (h : Hub) : Hub :=
  let c := nget h.trim.char k
  let fit (f : RF) : Nat := clampNat (c % 4096) (c / 4096) (bitsOf v f.lo f.width)
  (h.put (R.TRIM_VAR0_LO k) (fit (R.TRIM_VAR0_LO k))).put (R.TRIM_VAR0_HI k) (fit (R.TRIM_VAR0_HI k))

/-- The TRIM block. -/
def Hub.trimWrite (p : Path) (off : Nat) (v : Word) (h : Hub) : Hub :=
  if inStride off 0x20100 16 48 0 then h.boundsWrite (unitOf off 0x20100 16) v else h.plainWrite p off v

/-- The SNS block. -/
def Hub.snsWrite (p : Path) (off : Nat) (v : Word) (h : Hub) : Hub :=
  if off = 0x30000 then (if bitsOf v 0 1 = 1 then h.senseSync else h)
  else if inStride off 0x30010 16 16 0 then h.convWrite p (unitOf off 0x30010 16) v
  else h.plainWrite p off v

/-- The BOOT block. GO by a plain write finds the host image that was last made ready. [log: DEDUCED 26] -/
def Chip.bootWrite (p : Path) (off : Nat) (v : Word) (c : Chip) : Chip :=
  if off = 0x40008 then ⟨c.hub.profileWrite p v, c.mem⟩
  else if off = 0x40020 then c.fwCtrlWrite v c.hub.boot.image
  else if off = 0x40028 ∨ off = 0x4002C then ⟨(c.hub.plainWrite p off v).onBoot fun b => { b with fwAddr := true }, c.mem⟩
  else if off = 0x40030 then ⟨(c.hub.plainWrite p off v).onBoot fun b => { b with fwLen := true }, c.mem⟩
  else ⟨c.hub.plainWrite p off v, c.mem⟩

/-- The MAP block. -/
def Hub.mapWrite (p : Path) (off : Nat) (v : Word) (h : Hub) : Hub :=
  if off = 0x50100 then h.mapCmd p v else if off = 0x50108 then h.lookup v else h.plainWrite p off v

/-- A write of RING_n_IRQ: a VEC beyond the owner's table is stored modulo its size and logged (R123).
[log: DESIGN CHOICE 17] -/
def Hub.ringIrqWrite (p : Path) (n : Nat) (v : Word) (h : Hub) : Hub :=
  let size := vectorsOf (h.ringFn n)
  let vec := bitsOf v 0 9
  let g := (h.plainWrite p (R.RING_IRQ_VEC n).off v).put (R.RING_IRQ_VEC n) (vec % size)
  if size ≤ vec then g.notice 123 v.toNat else g

/-- A write of ring `n`'s register at `r`, but OWNER, by its owner (R110, R111). -/
def Chip.ringRegWrite (p : Path) (n r : Nat) (v : Word) (c : Chip) : Chip :=
  let off := 0x100000 + 0x100 * n + r
  if r = 0x14 then (if bitsOf v 0 1 = 1 then ⟨c.hub.ringEnable p n, c.mem⟩ else c.startReset n false)
  else if r = 0x1C then ⟨c.hub.ringIrqWrite p n v, c.mem⟩
  else if r ≤ 0x10 ∧ c.hub.on (R.RING_CTRL_ENABLE n) then ⟨c.hub.logAccess 0x13 p off v.toNat, c.mem⟩
  else ⟨c.hub.plainWrite p off v, c.mem⟩

/-- The RING block: OWNER by the PF; the rest by the ring's owner, else ignored, and logged for the PF (R105). -/
def Chip.ringBlockWrite (p : Path) (off : Nat) (v : Word) (c : Chip) : Chip :=
  let n := unitOf off 0x100000 0x100
  let r := (off - 0x100000) % 0x100
  match p with
  | .vf _ => c.ringRegWrite p n r v
  | .pf =>
    if r = 0x18 then ⟨c.hub.ownerWrite p n v, c.mem⟩
    else if c.hub.ringFn n ≠ 0 then ⟨c.hub.logAccess 0x13 p off v.toNat, c.mem⟩
    else c.ringRegWrite p n r v
  | _ => c

/-- A write of a word of watch `w` (R162). [log: DESIGN CHOICE 17] -/
def Hub.watchWrite (p : Path) (w k : Nat) (v : Word) (h : Hub) : Hub :=
  if k = 0 then (if bitsOf v 31 1 = 1 then h.watchArm p w v else h.watchCancel w v)
  else if k < 3 then h.watchWord p w k v
  else if h.on (R.CLT_WATCH0_EN w) then h.logAccess 0x13 p (0x129000 + 16 * w + 12) v.toNat
  else h.plainWrite p (0x129000 + 16 * w + 12) v

/-- The CLT block (R161). -/
def Hub.cltWrite (p : Path) (off : Nat) (v : Word) (h : Hub) : Hub :=
  if inStride off 0x120000 8 4096 0 then h.cleatSet (unitOf off 0x120000 8) v.toNat
  else if inStride off 0x120000 8 4096 4 then h.cleatAdd (unitOf off 0x120000 8) v.toNat
  else if off = 0x128008 then h.cltClear v
  else if 0x129000 ≤ off ∧ off < 0x129400 then h.watchWrite p (unitOf off 0x129000 16) ((off - 0x129000) % 16 / 4) v
  else h.plainWrite p off v

/-- The TIME block (R163, R164). [log: DESIGN CHOICE 17] -/
def Hub.timeWrite (p : Path) (off : Nat) (v : Word) (h : Hub) : Hub :=
  if off = 0x13000C then h.timeAdjWrite p v
  else if off = 0x130010 then h.timeSlewWrite p v
  else if off = 0x130018 then h.ifFreeRunning p off v (Hub.plainWrite p off v)
  else if off = 0x13001C then h.timeSetWrite p v
  else if inStride off 0x130100 4 16 0 then h.evtSelWrite (unitOf off 0x130100 4) v
  else h.plainWrite p off v

/-- A write of word 0 or 1 of window `w` (R174 to R177). [log: DESIGN CHOICE 17] -/
def Chip.winWrite (p : Path) (w off : Nat) (v : Word) (c : Chip) : Chip :=
  let ignored : Chip := ⟨c.hub.logAccess 0x13 p off v.toNat, c.mem⟩
  if off % 16 = 4 then
    (if bitsOf v 0 2 = 1 then ⟨c.hub.winEnable p w, c.mem⟩ else if bitsOf v 0 2 = 2 then c.winDisable p w else ignored)
  else if c.hub.on (R.BUF_WIN2_STATE w) then ignored
  else ⟨c.hub.plainWrite p off v, c.mem⟩

/-- The BUF block. -/
def Chip.bufWrite (p : Path) (off : Nat) (v : Word) (c : Chip) : Chip :=
  if inStride off 0x200100 16 8 0 ∨ inStride off 0x200100 16 8 4 then c.winWrite p (unitOf off 0x200100 16) off v
  else if off = 0x200300 then ⟨c.hub.dirQuery v, c.mem⟩
  else ⟨c.hub.plainWrite p off v, c.mem⟩

/-- The MEM block: WR_LO is clamped to WR_HI − 8. -/
def Hub.memWrite (p : Path) (off : Nat) (v : Word) (h : Hub) : Hub :=
  let h := h.plainWrite p off v
  if inStride off 0x300000 0x20000 6 0x0C then
    let n := unitOf off 0x300000 0x20000
    h.put (R.MEM_SCHED_WR_LO n) (min (h.get (R.MEM_SCHED_WR_LO n)) (h.get (R.MEM_SCHED_WR_HI n) - 8))
  else h

/-- The QOS block: the clear threshold is clamped below the congestion threshold. -/
def Hub.qosWrite (p : Path) (off : Nat) (v : Word) (h : Hub) : Hub :=
  if off = 0x400000 then
    let h := h.plainWrite p off v
    h.put R.QOS_SHEET_CTRL_LO (min (h.get R.QOS_SHEET_CTRL_LO) (h.get R.QOS_SHEET_CTRL_HI - 1))
  else if inStride off 0x400010 16 7 0 then h.floorWrite p (unitOf off 0x400010 16) v
  else if inStride off 0x400200 16 13 0 then h.thresholdWrite (unitOf off 0x400200 16) v
  else h.plainWrite p off v

/-- The RAS block; a scrubber stopped by a 0 logs a NOTICE (R219). -/
def Hub.rasRegWrite (p : Path) (off : Nat) (v : Word) (h : Hub) : Hub :=
  if off = 0x500004 then h.consWrite p v
  else if off = 0x500020 ∨ off = 0x500028 then
    let g := h.plainWrite p off v
    if h.unlocked && bitsOf v 0 8 == 0 then g.notice 219 off else g
  else if off = 0x500044 then (if bitsOf v 0 1 = 1 then h.flipArm p v else h.flipDisarm v)
  else if off = 0x500048 ∨ off = 0x50004C ∨ off = 0x500050 ∨ inStride off 0x500060 4 9 0 then h.flipWord p off v
  else h.plainWrite p off v

/-- The capability word a written `v` stores, each field at most the hub's own (R268, R270). -/
def capLoStored (v : Word) : Nat :=
  bitsOf v 0 5 + 2 ^ 8 * min 4 (bitsOf v 8 3) + 2 ^ 16 * min 64 (bitsOf v 16 8) + 2 ^ 24 * min 64 (bitsOf v 24 8)

/-- The high half of the capability word, likewise. -/
def capHiStored (v : Word) : Nat := min 3 (bitsOf v 0 4) + 2 ^ 4 * min 34 (bitsOf v 4 6)

/-- The YDL block. -/
def Hub.ydlWrite (p : Path) (off : Nat) (v : Word) (h : Hub) : Hub :=
  let s := unitOf off 0x600000 0x40000
  let r := (off - 0x600000) % 0x40000
  if r = 0x828 then h.put (R.YDL_HUB_CAP_LO s) (capLoStored v)
  else if r = 0x82C then h.put (R.YDL_HUB_CAP_HI s) (capHiStored v)
  else if r = 0x870 then h.lbWrite p s v
  else h.plainWrite p off v

/-- A write of lane `l`'s register at `r`: ADAPT with RESTART, the FFE taps outside training, scan, PRBS, SLIP. -/
def Hub.laneWrite (p : Path) (l r : Nat) (v : Word) (h : Hub) : Hub :=
  let off := 0x700000 + 0x1000 * l + r
  if r = 0x004 then
    let h := h.plainWrite p off v
    if bitsOf v 31 1 = 1 then h.adaptRestart p l else h
  else if r = 0x040 then (if h.laneState l = 4 then h else h.plainWrite p off v)
  else if r = 0x100 then h.scanWrite p l v
  else if r = 0x200 then h.prbsWrite p l v
  else if r = 0x300 then
    let h := h.plainWrite p off v
    if bitsOf v 0 1 = 1 then h.ifPowered p off v.toNat (Hub.slip l) else h
  else h.plainWrite p off v

/-- The SER block; HOPS is part of the crew's digest (R315). -/
def Hub.serWrite (p : Path) (off : Nat) (v : Word) (h : Hub) : Hub :=
  if off < 0x720000 then h.laneWrite p (unitOf off 0x700000 0x1000) ((off - 0x700000) % 0x1000) v
  else if inStride off 0x781000 0x40 32 0 then h.portCfgWrite p (unitOf off 0x781000 0x40) v
  else if off = 0x780100 then (h.plainWrite p off v).showDigest
  else h.plainWrite p off v

/-- A write of CREW_CTRL: CAPS, ID while EN = 0, EN, and REMUSTER (R313, R320, corner of R316). [log: DESIGN CHOICE 45] -/
def Hub.crewCtrlWrite (p : Path) (v : Word) (h : Hub) : Hub :=
  let en := bitsOf v 0 1 == 1
  let id := bitsOf v 8 6
  let h :=
    if !h.unlocked then h.logAccess 0x10 p 0x800000 v.toNat
    else
      let bad := h.on R.CREW_CTRL_EN && id != h.get R.CREW_CTRL_ID
      let g := h.put R.CREW_CTRL_CAPS (bitsOf v 16 2)
      let g := if bad then g.logAccess 0x13 p 0x800000 v.toNat else g.put R.CREW_CTRL_ID id
      if en == h.on R.CREW_CTRL_EN then g else g.crewEnable en
  if bitsOf v 31 1 = 1 then h.askRemuster else h

/-- A signed field of 4 bits clamped to `[-a, -b]`. -/
def clampNeg (a b x : Nat) : Nat := unsigned 4 (max (-(a : Int)) (min (-(b : Int)) (signed 4 x)))

/-- A write of CREW_CFG, which the digest covers (R315). -/
def Hub.crewCfgWrite (p : Path) (v : Word) (h : Hub) : Hub :=
  h.writeLocked p 0x800004 v fun g =>
    (((g.put R.CREW_CFG_DOMAIN (min 127 (bitsOf v 0 8))).put R.CREW_CFG_SYNC_LOG2 (clampNeg 7 3 (bitsOf v 8 4))).put
      R.CREW_CFG_PDELAY_LOG2 (clampNeg 5 0 (bitsOf v 12 4))).showDigest

/-- The CREW block. -/
def Hub.crewWrite (p : Path) (off : Nat) (v : Word) (h : Hub) : Hub :=
  if off = 0x800000 then h.crewCtrlWrite p v
  else if off = 0x800004 then h.crewCfgWrite p v
  else if off = 0x800008 then (h.plainWrite p off v).showDigest
  else h.plainWrite p off v

/-- The SPAR block: SPAR_SCRATCH takes no write after READY (R326). -/
def Hub.sparWrite (p : Path) (off : Nat) (v : Word) (h : Hub) : Hub :=
  if off = 0x900000 ∧ h.unlocked ∧ h.ready then h.logAccess 0x13 p off v.toNat else h.plainWrite p off v

/-- The TEST block (R371, R381). -/
def Hub.testWrite (p : Path) (off : Nat) (v : Word) (h : Hub) : Hub :=
  if off = 0xA00404 then h.hedgeReq p v
  else if inStride off 0xA00430 4 8 0 then h.hedgeWord p (R.TEST_HEDGE_RESP (unitOf off 0xA00430 4)) v
  else if off = 0xA00450 then h.hedgeGo p v
  else if inStride off 0xA00500 4 64 0 then h.hedgeWord p (R.TEST_HEDGE_TOKEN (unitOf off 0xA00500 4)) v
  else if off = 0xA00600 then h.fmapWrite p v
  else h.plainWrite p off v

/-- The YEW and MAST blocks. -/
def Hub.yewWrite (p : Path) (off : Nat) (v : Word) (h : Hub) : Hub :=
  if off = 0xB00100 then h.rdSeq v else if off = 0xC00004 then h.mastGo p v else h.plainWrite p off v

/-- A write of the register at `off` of a block from SNS upward that touches the hub alone. -/
def Hub.blockWrite (p : Path) (off : Nat) (v : Word) (h : Hub) : Hub :=
  if off < 0x10000 then h.glbWrite p off v
  else if off < 0x20000 then h.pwrWrite p off v
  else if off < 0x30000 then h.trimWrite p off v
  else if off < 0x40000 then h.snsWrite p off v
  else if off < 0x100000 then h.mapWrite p off v
  else if off < 0x120000 then h.plainWrite p off v
  else if off < 0x130000 then h.cltWrite p off v
  else if off < 0x200000 then h.timeWrite p off v
  else if off < 0x400000 then h.memWrite p off v
  else if off < 0x500000 then h.qosWrite p off v
  else if off < 0x600000 then h.rasRegWrite p off v
  else if off < 0x700000 then h.ydlWrite p off v
  else if off < 0x800000 then h.serWrite p off v
  else if off < 0x900000 then h.crewWrite p off v
  else if off < 0xA00000 then h.sparWrite p off v
  else if off < 0xB00000 then h.testWrite p off v
  else h.yewWrite p off v

/-- A write of the register at `off` (R14): a protected one is logged and has no effect. -/
def Chip.writeReg (p : Path) (off : Nat) (v : Word) (c : Chip) : Chip :=
  if c.hub.guarded off then ⟨c.hub.logAccess 0x10 p off v.toNat, c.mem⟩
  else
    let d : Chip := ⟨c.hub.sramMerge p.req off, c.mem⟩
    if 0x40000 ≤ off ∧ off < 0x50000 then d.bootWrite p off v
    else if 0x100000 ≤ off ∧ off < 0x110000 then d.ringBlockWrite p off v
    else if 0x200000 ≤ off ∧ off < 0x300000 then d.bufWrite p off v
    else ⟨d.hub.blockWrite p off v, d.mem⟩

/-- A write of word `i` of VF `k`'s MSI-X table. -/
def Hub.vfTableWrite (k i : Nat) (v : Word) (h : Hub) : Hub :=
  if i % 4 = 3 then h.maskWrite (k + 1) (i / 4) v
  else { h with pcie := { h.pcie with vfTable := Store.set vfTableReset h.pcie.vfTable (32 * k + i) v } }

/-- A write of a word of a doorbell page (R112): a submission doorbell, a completion release, or ignored. -/
def Hub.bellWrite (p : Path) (page o : Nat) (v : Word) (h : Hub) : Hub :=
  if o = 0 then h.doorbell p page 0 v Hub.postEntries
  else if o = 4 then h.doorbell p page 4 v Hub.releaseSlots
  else h

/-- A write of the word at a path's aligned offset; a site writes no register. -/
def Chip.writeAt (p : Path) (off : Nat) (v : Word) (c : Chip) : Chip :=
  match c.hub.place p off with
  | .reg o => match p with
    | .site _ => c
    | _ => c.writeReg p o v
  | .vfTable k i => ⟨c.hub.vfTableWrite k i v, c.mem⟩
  | .vfShadow k =>
    if bitsOf v 0 1 = 1 then ⟨{ c.hub with pcie := { c.hub.pcie with vfStale := nset c.hub.pcie.vfStale k 0 } }, c.mem⟩ else c
  | .bell page o => ⟨c.hub.bellWrite p page o v, c.mem⟩
  | _ => c

/-- A write of `bits` bits (R12, R29): unaligned or narrow it has no effect and is logged; 64 bits are the low word, then the
high one. [log: DEDUCED 15] -/
def Chip.writeAccess (p : Path) (off bits : Nat) (v : DWord) (c : Chip) : Chip :=
  let lo := BitVec.ofNat 32 v.toNat
  if off % (bits / 8) ≠ 0 ∨ bits < 32 then ⟨c.hub.logAccess 0x11 p off lo.toNat, c.mem⟩
  else if bits = 64 then (c.writeAt p off lo).writeAt p (off + 4) (BitVec.ofNat 32 (v.toNat / 2 ^ 32))
  else c.writeAt p off lo

/-- REGISTER_WRITE (R12). -/
def execRegisterWrite (req : Path) (off bits : Nat) (v : DWord) (s : State) : Host.Outcome State Fault Refusal :=
  s.actMem (Ok.registerWrite req off bits v) (Chip.writeAccess req off bits v)

/-- UNALIGNED_ACCESS (R29): one that is aligned after all is an ordinary access. -/
def execUnalignedAccess (req : Path) (write : Bool) (off bits : Nat) (v : DWord) (s : State) :
    Host.Outcome State Fault Refusal :=
  s.actMem (Ok.unalignedAccess req write off bits v) fun c =>
    if write then c.writeAccess req off bits v else ⟨c.hub.readAnswer req off bits, c.mem⟩

/-- TEST_REG (R375): the TAP's 32-bit access to the TEST block, at level 1. [log: DEDUCED 15] -/
def execTestReg (write : Bool) (off : Nat) (v : Word) (s : State) : Host.Outcome State Fault Refusal :=
  s.act (Ok.testReg write off v) (Hub.tapLoad 0x18 1 fun h =>
    if write then (if h.guarded off then h.logAccess 0x10 .tap off v.toNat else h.testWrite .tap off v)
    else h.readAnswer .tap off 32)

end Sys2Proof.Machine
end

