-- ==== Sys2Proof/Machine/DescOps.lean ====
section
/-!
DEFINITION. Fetching descriptors (R115, R132) and the opcodes that move no data (R133, R137, R138, R149, R151): the meanings
of DESCRIPTOR_FETCH, NOP, CLEAT_WAIT, CLEAT_SIGNAL, FENCE, BOUNDARY, BUDGET_HINT, HINT_LAPSE, CALL_STOP_TIMEOUT,
CLEAT_WAIT_TIMEOUT, CREDIT_HOLD_WARN, AT_TIME_REACHED and HOST_DMA_ERROR.
-/
namespace Sys2Proof.Machine

/-- Take one fetched entry: the SQ head moves past it, and it waits for admission or completes with the status of the check
it fails (R115, R132). -/
def Hub.takeEntry (n : Nat) (b : List Byte) (h : Hub) : Hub :=
  let slot := h.get (R.RING_SQ_PTR_SQ_HEAD n)
  let h := h.put (R.RING_SQ_PTR_SQ_HEAD n) ((slot + 1) % h.sqSize n)
  let r := h.ring n
  let st := h.descCheck (h.ringFn n) b
  let d : Desc :=
    { id := r.fetched, slot := slot, bytes := b, at_ := h.clock, group := r.groups, started := false, waitOk := false,
      judged := false, timedOut := false, late := false, stop := false, epochs := 0, inCredit := false,
      debit := 0, ovl := false, moved := 0, drained := false, list := [], listRead := false, snap := none, ended := false,
      status := 0, result := 0, unit := 0 }
  let h := h.setRing n { r with fetched := r.fetched + 1 }
  if st ≠ 0 then h.endDesc n d st 0 0
  else
    let r := h.ring n
    h.setRing n { r with descs := r.descs ++ [d], groups := if dOp b = 0x13 then r.groups + 1 else r.groups }

/-- Read posted entries of ring `n`: at most 16, and no more than are posted (R115). `host` is what the host memory holds at
the SQ head. -/
def Hub.fetchEntries (n : Nat) (host : List Byte) (h : Hub) : Hub :=
  let size := h.sqSize n
  let posted := (h.get (R.RING_SQ_PTR_SQ_TAIL n) + size - h.get (R.RING_SQ_PTR_SQ_HEAD n)) % size
  let k := min 16 (min posted (host.length / 64))
  if h.ringState n = 1 ∧ h.ready ∧ h.fnRuns (h.ringFn n) then
    ((h.upto k fun i g => if g.ringState n = 1 then g.takeEntry n ((host.drop (64 * i)).take 64) else g).showTail n).showPools
  else h

/-- DESCRIPTOR_FETCH (R115, R132). -/
def execDescriptorFetch (n : Nat) (host : List Byte) (s : State) : Host.Outcome State Fault Refusal :=
  s.act (Ok.descriptorFetch n host) (Hub.fetchEntries n host)

/-- A descriptor of opcode `op` that, once started, completes at once with the result `f` gives. -/
def Hub.runAtOnce (op n id : Nat) (f : Desc → Hub → Nat) (h : Hub) : Hub :=
  let h := h.consider op n id
  match h.running op n id with
  | none => h
  | some d => h.finish n d 0 (f d h) 0

/-- NOP (R133). -/
def execNop (n id : Nat) (s : State) : Host.Outcome State Fault Refusal :=
  s.act (Ok.nop n id) (Hub.runAtOnce 0x00 n id fun _ _ => 0)

/-- CLEAT_WAIT (R133, R137): its result is the wait cleat's value when its wait was satisfied. -/
def execCleatWait (n id : Nat) (s : State) : Host.Outcome State Fault Refusal :=
  s.act (Ok.cleatWait n id) (Hub.runAtOnce 0x10 n id fun d _ => d.result)

/-- AT_TIME_REACHED (R137): the admission checks of a held CLEAT_WAIT run again. -/
def execAtTimeReached (n id : Nat) (s : State) : Host.Outcome State Fault Refusal :=
  s.act (Ok.atTimeReached n id) (Hub.runAtOnce 0x10 n id fun d _ => d.result)

/-- The signal cleat's value after the signal of `b`. -/
def Hub.signalled (h : Hub) (b : List Byte) : Nat :=
  if dSop b = 0 then (h.get (R.CLT_VALUE (dScleat b)) + leAt b 24 4) % 2 ^ 32 else leAt b 24 4

/-- CLEAT_SIGNAL (R133): its result is the signal cleat's value after the signal. -/
def execCleatSignal (n id : Nat) (s : State) : Host.Outcome State Fault Refusal :=
  s.act (Ok.cleatSignal n id) (Hub.runAtOnce 0x11 n id fun d h => h.signalled d.bytes)

/-- FENCE (R149): it starts, and completes, once every earlier descriptor of its ring has completed. -/
def execFence (n id : Nat) (s : State) : Host.Outcome State Fault Refusal :=
  s.act (Ok.fence n id) (Hub.runAtOnce 0x12 n id fun _ _ => 0)

/-- Open a started BOUNDARY (R150, R151); one whose tail has completed completes at once. -/
def Hub.openBound (n : Nat) (d : Desc) (h : Hub) : Hub :=
  let c := leAt d.bytes 30 1
  let b : Bound := { id := d.id, fence := c % 4, regions := dRegions d.bytes, group := d.group }
  let h := h.setRing n { h.ring n with bound := some b }
  let h := ((h.put (R.DISP_BND_BATCH n) (leAt d.bytes 28 2)).put (R.DISP_BND_FENCE n) (c % 4)).put (R.DISP_BND1_PRELOADS n) 0
  ((h.closeBound n).showTail n).showPools

/-- BOUNDARY (R151). -/
def execBoundary (n id : Nat) (s : State) : Host.Outcome State Fault Refusal :=
  s.act (Ok.boundary n id) fun h =>
    let was := (h.ring n).bound.isSome
    let h := h.consider 0x13 n id
    match h.running 0x13 n id with
    | none => h
    | some d => if was then h else h.openBound n d

/-- Drop the ring's hint for a pool (R138). -/
def Hub.dropHint (n pool : Nat) (h : Hub) : Hub :=
  let r := h.ring n
  (h.setRing n { r with hints := r.hints.filter fun x => x.1 != pool }).showPools

/-- A BUDGET_HINT replaces the ring's earlier hint for the same pool (R138). -/
def Hub.addHint (n : Nat) (b : List Byte) (h : Hub) : Hub :=
  let h := h.dropHint n (leAt b 28 1)
  let r := h.ring n
  (h.setRing n { r with hints := r.hints ++ [(leAt b 28 1, leAt b 32 4, leAt b 36 4)] }).showPools

/-- BUDGET_HINT (R138): it debits nothing and completes OK at once. -/
def execBudgetHint (n id : Nat) (s : State) : Host.Outcome State Fault Refusal :=
  s.act (Ok.budgetHint n id) fun h =>
    let h := h.consider 0x28 n id
    match h.running 0x28 n id with
    | none => h
    | some d => (h.addHint n d.bytes).finish n d 0 0 0

/-- HINT_LAPSE (R138): the end of a hint's horizon. -/
def execHintLapse (n pool : Nat) (s : State) : Host.Outcome State Fault Refusal :=
  s.act (Ok.hintLapse n pool) (Hub.dropHint n pool)

/-- CALL_STOP_TIMEOUT (R141): a stopped SITE_CALL whose site has not answered completes DEADLINE_MISS. -/
def execCallStopTimeout (site tag : Nat) (s : State) : Host.Outcome State Fault Refusal :=
  s.act (Ok.callStopTimeout site tag) fun h =>
    match (h.siteS site).calls.find? fun c => c.tag == tag && c.stopped with
    | none => h
    | some c =>
      (h.onSite site fun x => { x with calls := x.calls.filter fun c => c.tag != tag }).finishId c.ring c.desc 0x0A 0

/-- The wait of descriptor `id`, judged and not satisfied, is out of time: its checks run again, and unless the wait is satisfied in
this cycle they end it CLEAT_TIMEOUT, or DEADLINE_MISS (R148, R158, corners of R141). It starts, if at all, by its own command. -/
def Hub.waitDue (n id : Nat) (h : Hub) : Hub :=
  match h.desc n id with
  | none => h
  | some d =>
    if d.judged && !d.waitOk && !d.started then
      let h := h.onDesc n id fun x => { x with timedOut := true }
      if h.considers n d && h.ringHold n == 0 then
        let h := h.judgeWait n d
        match h.desc n id with
        | none => h
        | some d => match h.verdict n d with
          | .done st => h.endUnstarted n d st
          | _ => h
      else h
    else h

/-- CLEAT_WAIT_TIMEOUT (R158): the timeout of an unstarted descriptor's wait, counted from its first judgement, falls due; one that
is not satisfied completes CLEAT_TIMEOUT. -/
def execCleatWaitTimeout (n id : Nat) (s : State) : Host.Outcome State Fault Refusal :=
  s.act (Ok.cleatWaitTimeout n id) (Hub.waitDue n id)

/-- CREDIT_HOLD_WARN (R145): a credit hold longer than EHOLD_WARN raises a WARNING with the pool. -/
def execCreditHoldWarn (n id : Nat) (s : State) : Host.Outcome State Fault Refusal :=
  s.act (Ok.creditHoldWarn n id) fun h =>
    match h.desc n id with
    | none => h
    | some d => if d.inCredit then h.warn 0x14 1 (dPool d.bytes) n else h

/-- A host read of descriptor `id` fails (R108, R139): a started one ends HOST_DMA_ERR with what it has moved, and so does a GATHER
or SCATTER whose list is being read from host memory. -/
def Hub.hostReadFails (n id : Nat) (h : Hub) : Hub :=
  match h.desc n id with
  | none => h
  | some d =>
    if d.started then h.finishId n id 7 d.moved
    else if h.listReady n d ∧ 2 ≤ addrSpace (leAt d.bytes 28 8) then h.finish n d 7 0 0
    else h

/-- HOST_DMA_ERROR (R108, R124): `what` 0 a submission read, which puts the ring in ERROR with FETCH; 1 a read of descriptor `id`,
which fails HOST_DMA_ERR; 2 a completion write that the host answers UR, which puts the ring in ERROR with CQ_WRITE, also one in
ERROR already; 3 an unexpected completion, which is only reported. A failed read is reported as `poisoned` or timed out.
[log: DEDUCED 31] -/
def execHostDmaError (n id what : Nat) (poisoned : Bool) (s : State) : Host.Outcome State Fault Refusal :=
  s.act (Ok.hostDmaError n id what poisoned) fun h =>
    let f := h.ringFn n
    let failed := h.aer f (if poisoned then 2 else 3)
    if what = 0 then (if h.ringState n = 1 then failed.ringError n 4 else failed)
    else if what = 1 then failed.hostReadFails n id
    else if what = 2 then (if h.ringState n = 1 ∨ h.ringState n = 3 then h.ringError n 5 else h)
    else h.aer f 4

end Sys2Proof.Machine
end

