-- ==== Sys2Proof/Machine/Escalate.lean ====
section
/-!
DEFINITION. Fault escalation (R89, R399 to R404): the reset of a faulted unit; the meanings of WATCHDOG_EXPIRY,
MAP_DRAIN_TIMEOUT, FAULT_RESET_TIMEOUT, LOCKSTEP_MISMATCH, MASTHEAD_WATCHDOG and REFCLK_LOSS.
-/
namespace Sys2Proof.Machine

/-- A FAULT reset of ring `n` (R125, R400): FAULTED is set; a reset under way serves both. -/
def Chip.faultRing (n : Nat) (c : Chip) : Chip :=
  let c := c.startReset n false
  if c.hub.ringState n = 2 then ⟨c.hub.put (R.RING_STAT_FAULTED n) 1, c.mem⟩ else c

/-- A FAULT against logical engine `l` (R400): its descriptors complete ENGINE_FAULT and its streams close with ABORT. -/
def Chip.faultEngine (l : Nat) (c : Chip) : Chip :=
  match c.hub.physOf 0 0 l with
  | some p => ⟨c.hub.engineStop p 0x13, c.mem⟩
  | none => c

/-- A FAULT against Spar context `k` (R400); context 31 runs Trim's solve, which is rejected. -/
def Chip.faultContext (k : Nat) (c : Chip) : Chip :=
  if k = 31 then
    (if c.hub.trim.posted then (⟨(c.hub.put R.TRIM_STAT_LAST 0x13).judgeSolve 0x13 0 [], c.mem⟩ : Chip).endSolve else c)
  else c.sparFault k 0x13

/-- A FAULT against serial port `p` (R400): DOWN with reason 8, then enabled again. [log: DEDUCED 53] -/
def Hub.faultPort (p : Nat) (h : Hub) : Hub := if h.portOn p then (h.portLeave p 3 8).portEnable p else h

/-- The FAULT resets of R400 by unit class (R404); a unit of another class is FATAL, a shared-unit stall. [log: DEDUCED 53] -/
def Chip.faultReset (cls unit : Nat) (c : Chip) : Chip :=
  if cls = 1 then c.faultRing unit
  else if cls = 2 then c.faultEngine unit
  else if cls = 3 then c.faultContext unit
  else if cls = 4 then ⟨c.hub.faultPort unit, c.mem⟩
  else c.siteDrop unit 10

/-- R400 lists the class: ring, stream engine, Spar context, serial port, compute site. [log: DEDUCED 53] -/
def faultListed (cls : Nat) : Bool := cls == 1 || cls == 2 || cls == 3 || cls == 4 || cls == 6

/-- A FAULT against a unit (R399, R400). [log: DEDUCED 53] -/
def Chip.fault (code cls unit : Nat) (c : Chip) : Chip :=
  if faultListed cls then (⟨c.hub.faultRecord code cls unit, c.mem⟩ : Chip).faultReset cls unit
  else ⟨c.hub.fatal 0x06 cls unit, c.mem⟩

/-- WATCHDOG_EXPIRY (R401). -/
def execWatchdogExpiry (cls unit : Nat) (s : State) : Host.Outcome State Fault Refusal :=
  s.actMem (Ok.watchdogExpiry cls unit) (Chip.fault 0x61 cls unit)

/-- MAP_DRAIN_TIMEOUT (R89): transactions of the previous epoch remain 1 ms after adoption; the FAULT is against the ring or
engine that holds the oldest. -/
def execMapDrainTimeout (cls unit : Nat) (s : State) : Host.Outcome State Fault Refusal :=
  s.actMem (Ok.mapDrainTimeout cls unit) fun c =>
    if c.hub.on R.MAP_EPOCH_STAT_DRAIN then c.fault 0x60 cls unit else c

/-- The FAULT reset of a unit is still under way: a faulted ring that is RESETTING, an engine whose aborted streams have not
closed. [log: DEDUCED 53] -/
def Hub.faultPending (h : Hub) (cls unit : Nat) : Bool :=
  if cls = 1 then h.ringState unit == 2 && h.on (R.RING_STAT_FAULTED unit)
  else if cls = 2 then
    (match h.physOf 0 0 unit with
     | some p => (List.range 4).any fun s => (h.siteS s).streams.any fun t => t.engine == p && t.state == 4
     | none => false)
  else false

/-- FAULT_RESET_TIMEOUT (R400): a FAULT reset beyond its bound is FATAL. [log: DEDUCED 53] -/
def execFaultResetTimeout (cls unit : Nat) (s : State) : Host.Outcome State Fault Refusal :=
  s.act (Ok.faultResetTimeout cls unit) fun h => if h.faultPending cls unit then h.fatal 0x05 cls unit else h

/-- LOCKSTEP_MISMATCH (R402). -/
def execLockstepMismatch (s : State) : Host.Outcome State Fault Refusal :=
  s.act Ok.lockstepMismatch (Hub.fatal 0x01 0 0xFFFF)

/-- MASTHEAD_WATCHDOG (R401). -/
def execMastheadWatchdog (s : State) : Host.Outcome State Fault Refusal :=
  s.act Ok.mastheadWatchdog (Hub.fatal 0x07 0 0xFFFF)

/-- REFCLK_LOSS (R32, R166): the islands hold their trim, hub time runs on held trim, a WARNING is raised; with the crew on,
hub time is no longer trusted. -/
def execRefclkLoss (s : State) : Host.Outcome State Fault Refusal :=
  s.act Ok.refclkLoss fun h =>
    let lost := h.pins.refclk
    let h := { h with pins := { h.pins with refclk := false } }
    if h.pins.d0Reset ∨ ¬ lost then h
    else
      let h := h.put R.TIME_STAT_REFLOST 1
      let h := if h.crewOn then h.crewIrq fun g => g.put R.TIME_STAT_TRUSTED 0 else h
      h.warn 0x10 0 0 0xFFFF

end Sys2Proof.Machine
end

