-- ==== Sys2Proof/Machine/Dispatch.lean ====
section
/-!
DEFINITION. The dispatch: one arm per command, each arm one direct call of that command's meaning.
-/
namespace Sys2Proof.Machine

/-- The effect of a command on everything but the queue of waiting commands. -/
def exec (i : Instr) (s : State) : Host.Outcome State Fault Refusal :=
  match i with
  | .registerWrite req off bits v => Sys2Proof.Machine.execRegisterWrite req off bits v s
  | .rcFieldRead req off bits => Sys2Proof.Machine.execRcFieldRead req off bits s
  | .levelProtectedRead req off => Sys2Proof.Machine.execLevelProtectedRead req off s
  | .unalignedAccess req write off bits v => Sys2Proof.Machine.execUnalignedAccess req write off bits v s
  | .shadowLowRead path off => Sys2Proof.Machine.execShadowLowRead path off s
  | .shadowHighRead path off => Sys2Proof.Machine.execShadowHighRead path off s
  | .lock req v => Sys2Proof.Machine.execLock req v s
  | .glbRstWarm req v => Sys2Proof.Machine.execGlbRstWarm req v s
  | .glbRstHub req v => Sys2Proof.Machine.execGlbRstHub req v s
  | .pwrgoodRise siteFit mtSel smbAddr => Sys2Proof.Machine.execPwrgoodRise siteFit mtSel smbAddr s
  | .pwrgoodFall => Sys2Proof.Machine.execPwrgoodFall s
  | .pwrgoodLowFilterExpiry => Sys2Proof.Machine.execPwrgoodLowFilterExpiry s
  | .perstNAssert => Sys2Proof.Machine.execPerstNAssert s
  | .warmReset => Sys2Proof.Machine.execWarmReset s
  | .hubReset => Sys2Proof.Machine.execHubReset s
  | .emergencyLowerWave => Sys2Proof.Machine.execEmergencyLowerWave s
  | .perstNDeassert => Sys2Proof.Machine.execPerstNDeassert s
  | .d0Reset siteFit mtSel smbAddr => Sys2Proof.Machine.execD0Reset siteFit mtSel smbAddr s
  | .refclkLoss => Sys2Proof.Machine.execRefclkLoss s
  | .refclkReturn => Sys2Proof.Machine.execRefclkReturn s
  | .serialRefclkTimeout => Sys2Proof.Machine.execSerialRefclkTimeout s
  | .lockstepMismatch => Sys2Proof.Machine.execLockstepMismatch s
  | .watchdogExpiry cls unit => Sys2Proof.Machine.execWatchdogExpiry cls unit s
  | .mastheadWatchdog => Sys2Proof.Machine.execMastheadWatchdog s
  | .faultResetTimeout cls unit => Sys2Proof.Machine.execFaultResetTimeout cls unit s
  | .domainReqHoldOn req n => Sys2Proof.Machine.execDomainReqHoldOn req n s
  | .domainReqHoldOff req n => Sys2Proof.Machine.execDomainReqHoldOff req n s
  | .domainReqHub req n => Sys2Proof.Machine.execDomainReqHub req n s
  | .domainAdmit n => Sys2Proof.Machine.execDomainAdmit n s
  | .domainTransitionComplete n => Sys2Proof.Machine.execDomainTransitionComplete n s
  | .domainLowerIdle n => Sys2Proof.Machine.execDomainLowerIdle n s
  | .domainLowerAbandon n => Sys2Proof.Machine.execDomainLowerAbandon n s
  | .droopTrip island sagMv => Sys2Proof.Machine.execDroopTrip island sagMv s
  | .droopRelease island sagMv => Sys2Proof.Machine.execDroopRelease island sagMv s
  | .reefTick pin hubAbove stackTraffic sensedDrop knownDrop => Sys2Proof.Machine.execReefTick pin hubAbove stackTraffic sensedDrop knownDrop s
  | .reefEnable req v => Sys2Proof.Machine.execReefEnable req v s
  | .reefDisable req v => Sys2Proof.Machine.execReefDisable req v s
  | .covSlewWrite req v => Sys2Proof.Machine.execCovSlewWrite req v s
  | .covStepWrite req v => Sys2Proof.Machine.execCovStepWrite req v s
  | .pmbusPoll answers => Sys2Proof.Machine.execPmbusPoll answers s
  | .voutCommand up => Sys2Proof.Machine.execVoutCommand up s
  | .vholdReady mv => Sys2Proof.Machine.execVholdReady mv s
  | .stageS1 images => Sys2Proof.Machine.execStageS1 images s
  | .stageS2 => Sys2Proof.Machine.execStageS2 s
  | .stageS3 => Sys2Proof.Machine.execStageS3 s
  | .stageS4 present cap36 => Sys2Proof.Machine.execStageS4 present cap36 s
  | .stageS5 => Sys2Proof.Machine.execStageS5 s
  | .stageS6 => Sys2Proof.Machine.execStageS6 s
  | .stageS7 => Sys2Proof.Machine.execStageS7 s
  | .stageS8 => Sys2Proof.Machine.execStageS8 s
  | .stageS9 image => Sys2Proof.Machine.execStageS9 image s
  | .stageS10 => Sys2Proof.Machine.execStageS10 s
  | .readySet meas hubStatic stackStatic => Sys2Proof.Machine.execReadySet meas hubStatic stackStatic s
  | .readinessPendSend => Sys2Proof.Machine.execReadinessPendSend s
  | .stageLimitExpiry => Sys2Proof.Machine.execStageLimitExpiry s
  | .bootProfileWrite req v => Sys2Proof.Machine.execBootProfileWrite req v s
  | .lbistSliceEnd us sig good => Sys2Proof.Machine.execLbistSliceEnd us sig good s
  | .lbistSliceTimeout => Sys2Proof.Machine.execLbistSliceTimeout s
  | .stackTrainingComplete stack code chan rate lanes raaimt raammt pprGood => Sys2Proof.Machine.execStackTrainingComplete stack code chan rate lanes raaimt raammt pprGood s
  | .memoryTestElementEnd banks rows entries => Sys2Proof.Machine.execMemoryTestElementEnd banks rows entries s
  | .waveGrant site => Sys2Proof.Machine.execWaveGrant site s
  | .waveDone site up => Sys2Proof.Machine.execWaveDone site up s
  | .waveTimeout site => Sys2Proof.Machine.execWaveTimeout site s
  | .bootFwGo req v image => Sys2Proof.Machine.execBootFwGo req v image s
  | .fwWaitTimeout => Sys2Proof.Machine.execFwWaitTimeout s
  | .knownAnswerComplete t p good => Sys2Proof.Machine.execKnownAnswerComplete t p good s
  | .knownAnswerTimeout t p => Sys2Proof.Machine.execKnownAnswerTimeout t p s
  | .karDigest site digest => Sys2Proof.Machine.execKarDigest site digest s
  | .mapCmdRetire req v => Sys2Proof.Machine.execMapCmdRetire req v s
  | .mapCmdReadmit req v => Sys2Proof.Machine.execMapCmdReadmit req v s
  | .bankCopyComplete => Sys2Proof.Machine.execBankCopyComplete s
  | .mapEpochAdopt old => Sys2Proof.Machine.execMapEpochAdopt old s
  | .mapEpochDrainEnd => Sys2Proof.Machine.execMapEpochDrainEnd s
  | .mapDrainTimeout cls unit => Sys2Proof.Machine.execMapDrainTimeout cls unit s
  | .quarantineEnd => Sys2Proof.Machine.execQuarantineEnd s
  | .readmissionTestEnd pass => Sys2Proof.Machine.execReadmissionTestEnd pass s
  | .readmissionTestTimeout => Sys2Proof.Machine.execReadmissionTestTimeout s
  | .mapLookup req v => Sys2Proof.Machine.execMapLookup req v s
  | .configRequest fn what => Sys2Proof.Machine.execConfigRequest fn what s
  | .pcieLinkUp rate width flit => Sys2Proof.Machine.execPcieLinkUp rate width flit s
  | .bar4Read off n => Sys2Proof.Machine.execBar4Read off n s
  | .bar4Write off data => Sys2Proof.Machine.execBar4Write off data s
  | .hostDmaError n id what poisoned => Sys2Proof.Machine.execHostDmaError n id what poisoned s
  | .pfFlr => Sys2Proof.Machine.execPfFlr s
  | .vfFlr k => Sys2Proof.Machine.execVfFlr k s
  | .vfEnableChange enable num => Sys2Proof.Machine.execVfEnableChange enable num s
  | .vfWindowWrite req k w v => Sys2Proof.Machine.execVfWindowWrite req k w v s
  | .ringOwnerWrite req n v => Sys2Proof.Machine.execRingOwnerWrite req n v s
  | .ringEnable req n => Sys2Proof.Machine.execRingEnable req n s
  | .ringReset req n => Sys2Proof.Machine.execRingReset req n s
  | .ringResetComplete n => Sys2Proof.Machine.execRingResetComplete n s
  | .submissionDoorbell req page v => Sys2Proof.Machine.execSubmissionDoorbell req page v s
  | .completionRelease req page v => Sys2Proof.Machine.execCompletionRelease req page v s
  | .ringHaltEntry n => Sys2Proof.Machine.execRingHaltEntry n s
  | .descriptorFetch n host => Sys2Proof.Machine.execDescriptorFetch n host s
  | .descriptorComplete n id energy peak mean drop host => Sys2Proof.Machine.execDescriptorComplete n id energy peak mean drop host s
  | .moderationTimerExpiry n => Sys2Proof.Machine.execModerationTimerExpiry n s
  | .vectorUnmask fn vec => Sys2Proof.Machine.execVectorUnmask fn vec s
  | .busMasterDisable fn d3hot => Sys2Proof.Machine.execBusMasterDisable fn d3hot s
  | .busMasterEnable fn => Sys2Proof.Machine.execBusMasterEnable fn s
  | .nop n id => Sys2Proof.Machine.execNop n id s
  | .copy n id limit host => Sys2Proof.Machine.execCopy n id limit host s
  | .fill n id limit => Sys2Proof.Machine.execFill n id limit s
  | .gather n id limit host => Sys2Proof.Machine.execGather n id limit host s
  | .scatter n id limit host => Sys2Proof.Machine.execScatter n id limit host s
  | .streamOpen n id => Sys2Proof.Machine.execStreamOpen n id s
  | .streamClose n id => Sys2Proof.Machine.execStreamClose n id s
  | .siteCall n id => Sys2Proof.Machine.execSiteCall n id s
  | .cleatWait n id => Sys2Proof.Machine.execCleatWait n id s
  | .cleatSignal n id => Sys2Proof.Machine.execCleatSignal n id s
  | .fence n id => Sys2Proof.Machine.execFence n id s
  | .boundary n id => Sys2Proof.Machine.execBoundary n id s
  | .solveSetup n id => Sys2Proof.Machine.execSolveSetup n id s
  | .solvePatch n id => Sys2Proof.Machine.execSolvePatch n id s
  | .solveRun n id => Sys2Proof.Machine.execSolveRun n id s
  | .laneSend n id limit host => Sys2Proof.Machine.execLaneSend n id limit host s
  | .laneRecv n id => Sys2Proof.Machine.execLaneRecv n id s
  | .budgetHint n id => Sys2Proof.Machine.execBudgetHint n id s
  | .hintLapse n pool => Sys2Proof.Machine.execHintLapse n pool s
  | .deadlineExpiry n id => Sys2Proof.Machine.execDeadlineExpiry n id s
  | .callStopTimeout site tag => Sys2Proof.Machine.execCallStopTimeout site tag s
  | .cleatWaitTimeout n id => Sys2Proof.Machine.execCleatWaitTimeout n id s
  | .creditHoldWarn n id => Sys2Proof.Machine.execCreditHoldWarn n id s
  | .cltSet req n v => Sys2Proof.Machine.execCltSet req n v s
  | .cltAdd req n v => Sys2Proof.Machine.execCltAdd req n v s
  | .cltClear req v => Sys2Proof.Machine.execCltClear req v s
  | .watchArm req w v => Sys2Proof.Machine.execWatchArm req w v s
  | .watchCancel req w v => Sys2Proof.Machine.execWatchCancel req w v s
  | .watchTimeout w => Sys2Proof.Machine.execWatchTimeout w s
  | .timeSet req v => Sys2Proof.Machine.execTimeSet req v s
  | .timeSlew req v => Sys2Proof.Machine.execTimeSlew req v s
  | .timeAdj req v => Sys2Proof.Machine.execTimeAdj req v s
  | .timeEvtSel req n v => Sys2Proof.Machine.execTimeEvtSel req n v s
  | .windowEnable req w => Sys2Proof.Machine.execWindowEnable req w s
  | .windowEnableComplete w => Sys2Proof.Machine.execWindowEnableComplete w s
  | .windowDisable req w => Sys2Proof.Machine.execWindowDisable req w s
  | .windowDisableComplete w => Sys2Proof.Machine.execWindowDisableComplete w s
  | .rdShared site tag addr => Sys2Proof.Machine.execRdShared site tag addr s
  | .rdOwn site tag addr => Sys2Proof.Machine.execRdOwn site tag addr s
  | .upgrade site tag addr => Sys2Proof.Machine.execUpgrade site tag addr s
  | .wbDirty site tag addr line => Sys2Proof.Machine.execWbDirty site tag addr line s
  | .evictClean site tag addr => Sys2Proof.Machine.execEvictClean site tag addr s
  | .recallAck site tag addr => Sys2Proof.Machine.execRecallAck site tag addr s
  | .recallData site tag addr line => Sys2Proof.Machine.execRecallData site tag addr line s
  | .nonCachingRead req off n => Sys2Proof.Machine.execNonCachingRead req off n s
  | .nonCachingWrite req off data => Sys2Proof.Machine.execNonCachingWrite req off data s
  | .recallTimeout site line => Sys2Proof.Machine.execRecallTimeout site line s
  | .dirQuery req v => Sys2Proof.Machine.execDirQuery req v s
  | .refresh stack q bank how => Sys2Proof.Machine.execRefresh stack q bank how s
  | .scheduleCommand stack q busy => Sys2Proof.Machine.execScheduleCommand stack q busy s
  | .caParityError stack again => Sys2Proof.Machine.execCaParityError stack again s
  | .stackTempRead stack ok temp => Sys2Proof.Machine.execStackTempRead stack ok temp s
  | .powerDownEntry stack q => Sys2Proof.Machine.execPowerDownEntry stack q s
  | .sheetUpdate => Sys2Proof.Machine.execSheetUpdate s
  | .floorWrite req c v => Sys2Proof.Machine.execFloorWrite req c v s
  | .telltaleThresholdWrite req m v => Sys2Proof.Machine.execTelltaleThresholdWrite req m v s
  | .telltaleLevelChange m fill => Sys2Proof.Machine.execTelltaleLevelChange m fill s
  | .telltaleWindow => Sys2Proof.Machine.execTelltaleWindow s
  | .dramScrubRead => Sys2Proof.Machine.execDramScrubRead s
  | .bufScrubRead => Sys2Proof.Machine.execBufScrubRead s
  | .rasConsWrite req v => Sys2Proof.Machine.execRasConsWrite req v s
  | .flipArm req v => Sys2Proof.Machine.execFlipArm req v s
  | .flipDisarm req v => Sys2Proof.Machine.execFlipDisarm req v s
  | .ceHourly => Sys2Proof.Machine.execCeHourly s
  | .flitReceive site module v k payload => Sys2Proof.Machine.execFlitReceive site module v k payload s
  | .ack site first mset entries => Sys2Proof.Machine.execAck site first mset entries s
  | .ackInterval site => Sys2Proof.Machine.execAckInterval site s
  | .replayStart site module seq mset => Sys2Proof.Machine.execReplayStart site module seq mset s
  | .replayTimeout site module => Sys2Proof.Machine.execReplayTimeout site module s
  | .driftUpdate site module up => Sys2Proof.Machine.execDriftUpdate site module up s
  | .moduleTest site module good => Sys2Proof.Machine.execModuleTest site module good s
  | .dropReq site module mset xr cause => Sys2Proof.Machine.execDropReq site module mset xr cause s
  | .dropAck site module mset xr => Sys2Proof.Machine.execDropAck site module mset xr s
  | .dropReqRepeat site => Sys2Proof.Machine.execDropReqRepeat site s
  | .spareProposal site => Sys2Proof.Machine.execSpareProposal site s
  | .setAccept site xd => Sys2Proof.Machine.execSetAccept site xd s
  | .msetSwitch site tx => Sys2Proof.Machine.execMsetSwitch site tx s
  | .sidebandHello site => Sys2Proof.Machine.execSidebandHello site s
  | .helloAck site => Sys2Proof.Machine.execHelloAck site s
  | .ident site payload => Sys2Proof.Machine.execIdent site payload s
  | .negAck site accept => Sys2Proof.Machine.execNegAck site accept s
  | .trainRes site step pass => Sys2Proof.Machine.execTrainRes site step pass s
  | .trainStepLimit site pass eyes => Sys2Proof.Machine.execTrainStepLimit site pass eyes s
  | .linkUp => Sys2Proof.Machine.execLinkUp s
  | .quietAck site module quiet => Sys2Proof.Machine.execQuietAck site module quiet s
  | .mgmtData site addr v => Sys2Proof.Machine.execMgmtData site addr v s
  | .sidebandNak site type why => Sys2Proof.Machine.execSidebandNak site type why s
  | .sidebandResend site => Sys2Proof.Machine.execSidebandResend site s
  | .sidebandAnswerTimeout site type => Sys2Proof.Machine.execSidebandAnswerTimeout site type s
  | .dataRun site id offset data => Sys2Proof.Machine.execDataRun site id offset data s
  | .credit site give => Sys2Proof.Machine.execCredit site give s
  | .creditReturn site => Sys2Proof.Machine.execCreditReturn site s
  | .siteRd site tag addr => Sys2Proof.Machine.execSiteRd site tag addr s
  | .siteWr site tag addr mask line => Sys2Proof.Machine.execSiteWr site tag addr mask line s
  | .siteCltAdd site tag n v => Sys2Proof.Machine.execSiteCltAdd site tag n v s
  | .siteCltSet site tag n v => Sys2Proof.Machine.execSiteCltSet site tag n v s
  | .siteCltWait site tag cmp n v tmo => Sys2Proof.Machine.execSiteCltWait site tag cmp n v tmo s
  | .siteCltRead site tag n => Sys2Proof.Machine.execSiteCltRead site tag n s
  | .siteCltWaitTimeout site tag => Sys2Proof.Machine.execSiteCltWaitTimeout site tag s
  | .timeRd site tag half => Sys2Proof.Machine.execTimeRd site tag half s
  | .openAck site tag status => Sys2Proof.Machine.execOpenAck site tag status s
  | .openAckTimeout site tag => Sys2Proof.Machine.execOpenAckTimeout site tag s
  | .siteStreamClose site tag toSite mode id => Sys2Proof.Machine.execSiteStreamClose site tag toSite mode id s
  | .closeAck site toSite id => Sys2Proof.Machine.execCloseAck site toSite id s
  | .callDone site tag result status energy => Sys2Proof.Machine.execCallDone site tag result status energy s
  | .allowAck site power energy => Sys2Proof.Machine.execAllowAck site power energy s
  | .siteDrop site why => Sys2Proof.Machine.execSiteDrop site why s
  | .loopbackRun req site v => Sys2Proof.Machine.execLoopbackRun req site v s
  | .loopbackEnd site fails errs => Sys2Proof.Machine.execLoopbackEnd site fails errs s
  | .portEnable req p v => Sys2Proof.Machine.execPortEnable req p v s
  | .portDisable req p => Sys2Proof.Machine.execPortDisable req p s
  | .laneSignalDetect l => Sys2Proof.Machine.execLaneSignalDetect l s
  | .anComplete p ok => Sys2Proof.Machine.execAnComplete p ok s
  | .anRetry p => Sys2Proof.Machine.execAnRetry p s
  | .linkTrainingComplete l => Sys2Proof.Machine.execLinkTrainingComplete l s
  | .adaptSettled l snr8 => Sys2Proof.Machine.execAdaptSettled l snr8 s
  | .alignLock l => Sys2Proof.Machine.execAlignLock l s
  | .laneStepTimeout l => Sys2Proof.Machine.execLaneStepTimeout l s
  | .laneSignalLoss l => Sys2Proof.Machine.execLaneSignalLoss l s
  | .adaptStep l snr8 => Sys2Proof.Machine.execAdaptStep l snr8 s
  | .fomUpdate l snr8 => Sys2Proof.Machine.execFomUpdate l snr8 s
  | .fomLow l => Sys2Proof.Machine.execFomLow l s
  | .adaptRestart req l => Sys2Proof.Machine.execAdaptRestart req l s
  | .eyeScanRun req l v => Sys2Proof.Machine.execEyeScanRun req l v s
  | .eyeScanDone l count => Sys2Proof.Machine.execEyeScanDone l count s
  | .prbsConfigWrite req l v => Sys2Proof.Machine.execPrbsConfigWrite req l v s
  | .slip req l => Sys2Proof.Machine.execSlip req l s
  | .frameReceive p data back fixed lost => Sys2Proof.Machine.execFrameReceive p data back fixed lost s
  | .pause p quanta => Sys2Proof.Machine.execPause p quanta s
  | .pauseRepeat p => Sys2Proof.Machine.execPauseRepeat p s
  | .crewData p lane src dst hops seq msg offset last data good back fec => Sys2Proof.Machine.execCrewData p lane src dst hops seq msg offset last data good back fec s
  | .crewAck p seq credit lanes => Sys2Proof.Machine.execCrewAck p seq credit lanes s
  | .crewNak p seq credit lanes => Sys2Proof.Machine.execCrewNak p seq credit lanes s
  | .crewAckTimer p => Sys2Proof.Machine.execCrewAckTimer p s
  | .crewHelloTimer => Sys2Proof.Machine.execCrewHelloTimer s
  | .crewHello p payload => Sys2Proof.Machine.execCrewHello p payload s
  | .crewPeerTimeout p => Sys2Proof.Machine.execCrewPeerTimeout p s
  | .syncLoss => Sys2Proof.Machine.execSyncLoss s
  | .claimHoldDownEnd leader => Sys2Proof.Machine.execClaimHoldDownEnd leader s
  | .mustered => Sys2Proof.Machine.execMustered s
  | .crewRemuster req => Sys2Proof.Machine.execCrewRemuster req s
  | .syncSend => Sys2Proof.Machine.execSyncSend s
  | .pdelayReqSend => Sys2Proof.Machine.execPdelayReqSend s
  | .sync p seq => Sys2Proof.Machine.execSync p seq s
  | .followUp p seq origin corr => Sys2Proof.Machine.execFollowUp p seq origin corr s
  | .pdelayReq p seq => Sys2Proof.Machine.execPdelayReq p seq s
  | .pdelayResp p seq t2 => Sys2Proof.Machine.execPdelayResp p seq t2 s
  | .pdelayRespFollowUp p seq t3 => Sys2Proof.Machine.execPdelayRespFollowUp p seq t3 s
  | .trimEpochStart meas hubStatic stackStatic => Sys2Proof.Machine.execTrimEpochStart meas hubStatic stackStatic s
  | .trimSolveComplete status iters us x y => Sys2Proof.Machine.execTrimSolveComplete status iters us x y s
  | .senseOutput c code => Sys2Proof.Machine.execSenseOutput c code s
  | .senseTrigger req c v => Sys2Proof.Machine.execSenseTrigger req c v s
  | .senseSync req => Sys2Proof.Machine.execSenseSync req s
  | .thermalTripTimeout => Sys2Proof.Machine.execThermalTripTimeout s
  | .extest => Sys2Proof.Machine.execExtest s
  | .idcode => Sys2Proof.Machine.execIdcode s
  | .sample pins => Sys2Proof.Machine.execSample pins s
  | .preload v => Sys2Proof.Machine.execPreload v s
  | .clamp => Sys2Proof.Machine.execClamp s
  | .highz => Sys2Proof.Machine.execHighz s
  | .extestPulse => Sys2Proof.Machine.execExtestPulse s
  | .extestTrain => Sys2Proof.Machine.execExtestTrain s
  | .hedgeReq req v => Sys2Proof.Machine.execHedgeReq req v s
  | .hedgeChal => Sys2Proof.Machine.execHedgeChal s
  | .hedgeResp words => Sys2Proof.Machine.execHedgeResp words s
  | .hedgeToken words => Sys2Proof.Machine.execHedgeToken words s
  | .hedgeGo req v => Sys2Proof.Machine.execHedgeGo req v s
  | .hedgeStat => Sys2Proof.Machine.execHedgeStat s
  | .hedgeVerifyComplete => Sys2Proof.Machine.execHedgeVerifyComplete s
  | .zeroiseComplete => Sys2Proof.Machine.execZeroiseComplete s
  | .hedgeResponseTimeout => Sys2Proof.Machine.execHedgeResponseTimeout s
  | .hedgeWindowClose => Sys2Proof.Machine.execHedgeWindowClose s
  | .testReg write off v => Sys2Proof.Machine.execTestReg write off v s
  | .scanShift op => Sys2Proof.Machine.execScanShift op s
  | .scanCapture => Sys2Proof.Machine.execScanCapture s
  | .bypass op => Sys2Proof.Machine.execBypass op s
  | .trstNAssert => Sys2Proof.Machine.execTrstNAssert s
  | .fmapIndex req v => Sys2Proof.Machine.execFmapIndex req v s
  | .vinBelowWarn => Sys2Proof.Machine.execVinBelowWarn s
  | .lgRecover => Sys2Proof.Machine.execLgRecover s
  | .yewFlush => Sys2Proof.Machine.execYewFlush s
  | .sectorErase => Sys2Proof.Machine.execSectorErase s
  | .bucketRefill => Sys2Proof.Machine.execBucketRefill s
  | .mirrorCopy good => Sys2Proof.Machine.execMirrorCopy good s
  | .yewRdSeq req v => Sys2Proof.Machine.execYewRdSeq req v s
  | .setEndpointId eid => Sys2Proof.Machine.execSetEndpointId eid s
  | .getEndpointId => Sys2Proof.Machine.execGetEndpointId s
  | .getMctpVersionSupport => Sys2Proof.Machine.execGetMctpVersionSupport s
  | .getMessageTypeSupport => Sys2Proof.Machine.execGetMessageTypeSupport s
  | .getVendorDefinedMessageSupport => Sys2Proof.Machine.execGetVendorDefinedMessageSupport s
  | .getInfo => Sys2Proof.Machine.execGetInfo s
  | .bmcRead seq count => Sys2Proof.Machine.execBmcRead seq count s
  | .bmcState piece => Sys2Proof.Machine.execBmcState piece s
  | .getVersion => Sys2Proof.Machine.execGetVersion s
  | .yewMark => Sys2Proof.Machine.execYewMark s
  | .yewRead => Sys2Proof.Machine.execYewRead s
  | .pprRequest noResource => Sys2Proof.Machine.execPprRequest noResource s
  | .pprList => Sys2Proof.Machine.execPprList s
  | .siteMgmtRd => Sys2Proof.Machine.execSiteMgmtRd s
  | .imageStage => Sys2Proof.Machine.execImageStage s
  | .mailboxComplete => Sys2Proof.Machine.execMailboxComplete s
  | .atTimeReached n id => Sys2Proof.Machine.execAtTimeReached n id s
  | .domainFailed n => Sys2Proof.Machine.execDomainFailed n s
  | .sidebandCrcError site => Sys2Proof.Machine.execSidebandCrcError site s
  | .sidebandUnknownType site frame => Sys2Proof.Machine.execSidebandUnknownType site frame s
  | .unlistedMsg site rsp flits => Sys2Proof.Machine.execUnlistedMsg site rsp flits s
  | .crewFrameUnknownType p type => Sys2Proof.Machine.execCrewFrameUnknownType p type s
  | .rxLanesLoss l fec => Sys2Proof.Machine.execRxLanesLoss l fec s
  | .quietAckTimeout site => Sys2Proof.Machine.execQuietAckTimeout site s
  | .pauseQuantaExpiry p => Sys2Proof.Machine.execPauseQuantaExpiry p s
  | .unsupportedRequest fn posted => Sys2Proof.Machine.execUnsupportedRequest fn posted s
  | .poisonedTlpReceived fn => Sys2Proof.Machine.execPoisonedTlpReceived fn s
  | .malformedTlp tlp => Sys2Proof.Machine.execMalformedTlp tlp s

end Sys2Proof.Machine
end

