-- ==== Sys2Proof/Machine/Step.lean ====
section
/-!
DEFINITION. One step of the hub: the command at the front of the queue, or one REFCLK edge when none waits.
-/
namespace Sys2Proof.Machine

/-- On an empty queue one edge of the 100 MHz REFCLK passes: time advances by 10 ns (R163). Nothing else happens by itself;
every other effect of time is a command of the table (DESIGN CHOICE, assumption 9). [log: DESIGN CHOICE 9; DESIGN CHOICE 55] -/
def State.idle (s : State) : State := { s with hub := s.hub.tick }

/-- Take the command at the front of the queue and run it with the queue's rest; on an empty queue, let time pass. -/
def step (s : State) : Host.Outcome State Fault Refusal :=
  match s.pending with
  | [] => .next s.idle
  | c :: rest => exec c { s with pending := rest }

/-- The state with the command a table word spells in front of its queue; no word spells one. [log: DESIGN CHOICE 11] -/
def State.withFetchWord (s : State) (nbits w : Nat) : State :=
  match decodeTableWord nbits w with
  | none => s
  | some c => { s with pending := c :: s.pending }

end Sys2Proof.Machine
end

