-- ==== Sys2Proof/Safety.lean ====
section
/-!
DEFINITION. What counts as a safe run (every waiting command names things that exist, and the stored data is in its canonical
form), and the words in which frames are stated: what a command leaves as it was.
-/
namespace Sys2Proof

/-- Commands whose meaning is given the stored data as well as the hub; every other command's meaning is given the hub alone. -/
def Instr.usesData : Instr → Bool
  | .registerWrite _ _ _ _ | .unalignedAccess _ _ _ _ _ | .emergencyLowerWave | .watchdogExpiry _ _ | .stageS6
  | .stageS7 | .stageS9 _ | .stageS10 | .readySet _ _ _ | .stageLimitExpiry | .memoryTestElementEnd _ _ _
  | .waveDone _ _ | .waveTimeout _ | .bootFwGo _ _ _ | .fwWaitTimeout | .karDigest _ _ | .bankCopyComplete
  | .mapEpochAdopt _ | .mapDrainTimeout _ _ | .bar4Read _ _ | .bar4Write _ _ | .pfFlr | .vfFlr _ | .vfEnableChange _ _
  | .ringReset _ _ | .descriptorComplete _ _ _ _ _ _ _ | .busMasterEnable _ | .copy _ _ _ _ | .fill _ _ _
  | .gather _ _ _ _ | .scatter _ _ _ _ | .solveSetup _ _ | .solvePatch _ _ | .solveRun _ _ | .laneSend _ _ _ _
  | .laneRecv _ _ | .deadlineExpiry _ _ | .windowDisable _ _ | .rdShared _ _ _ | .rdOwn _ _ _ | .upgrade _ _ _
  | .wbDirty _ _ _ _ | .evictClean _ _ _ | .recallAck _ _ _ | .recallData _ _ _ _ | .nonCachingRead _ _ _
  | .nonCachingWrite _ _ _ | .recallTimeout _ _ | .dramScrubRead | .bufScrubRead | .flitReceive _ _ _ _ _
  | .ack _ _ _ _ | .replayTimeout _ _ | .driftUpdate _ _ _ | .dropReq _ _ _ _ _ | .setAccept _ _ | .ident _ _
  | .negAck _ _ | .trainRes _ _ _ | .trainStepLimit _ _ _ | .sidebandNak _ _ _ | .sidebandResend _
  | .sidebandAnswerTimeout _ _ | .dataRun _ _ _ _ | .credit _ _ | .siteRd _ _ _ | .siteWr _ _ _ _ _
  | .siteCltAdd _ _ _ _ | .siteCltSet _ _ _ _ | .siteCltWait _ _ _ _ _ _ | .siteCltRead _ _ _ | .timeRd _ _ _
  | .openAck _ _ _ | .siteStreamClose _ _ _ _ _ | .closeAck _ _ _ | .callDone _ _ _ _ _ | .allowAck _ _ _
  | .siteDrop _ _ | .frameReceive _ _ _ _ _ | .crewData _ _ _ _ _ _ _ _ _ _ _ _ _ | .crewAck _ _ _ _
  | .trimEpochStart _ _ _ | .trimSolveComplete _ _ _ _ _ | .senseOutput _ _ | .zeroiseComplete | .unlistedMsg _ _ _ => true
  | _ => false

/-- The path of a command that is a write of one register of a block (R12, R19): a path that holds no block has no effect. -/
def Instr.blockPath : Instr → Option Path
  | .lock r _ | .glbRstWarm r _ | .glbRstHub r _ | .domainReqHoldOn r _ | .domainReqHoldOff r _ | .domainReqHub r _
  | .reefEnable r _ | .reefDisable r _ | .covSlewWrite r _ | .covStepWrite r _ | .bootProfileWrite r _
  | .bootFwGo r _ _ | .mapCmdRetire r _ | .mapCmdReadmit r _ | .mapLookup r _ | .vfWindowWrite r _ _ _
  | .ringOwnerWrite r _ _ | .cltSet r _ _ | .cltAdd r _ _ | .cltClear r _ | .watchArm r _ _ | .watchCancel r _ _
  | .timeSet r _ | .timeSlew r _ | .timeAdj r _ | .timeEvtSel r _ _ | .windowEnable r _ | .windowDisable r _
  | .dirQuery r _ | .floorWrite r _ _ | .telltaleThresholdWrite r _ _ | .rasConsWrite r _ | .flipArm r _
  | .flipDisarm r _ | .loopbackRun r _ _ | .portEnable r _ _ | .portDisable r _ | .adaptRestart r _
  | .eyeScanRun r _ _ | .prbsConfigWrite r _ _ | .slip r _ | .crewRemuster r | .senseTrigger r _ _ | .senseSync r
  | .yewRdSeq r _ => some r
  | _ => none

end Sys2Proof

namespace Sys2Proof.Machine

/-- Every waiting command is well formed. -/
def State.queueOk (s : State) : Prop := ∀ c ∈ s.pending, c.wf = true

/-- The stored data is in its canonical form and the queue holds only well-formed commands. -/
def State.Inv (s : State) : Prop := s.mem.wf = true ∧ s.queueOk

/-- `g` is `h` but for registers whose offset is in `W`, the logs, what the hub sent, and the free values taken. -/
structure Hub.Quiet (W : Nat → Prop) (h g : Hub) : Prop where
  reg : ∀ a, ¬ W a → g.reg a = h.reg a
  sent : ∃ l, g.out = l ++ h.out
  clock : g.clock = h.clock
  pins : g.pins = h.pins
  power : g.power = h.power
  boot : g.boot = h.boot
  fail : g.fail = h.fail
  pcie : g.pcie = h.pcie
  rings : g.rings = h.rings
  disp : g.disp = h.disp
  cleat : g.cleat = h.cleat
  time : g.time = h.time
  memch : g.memch = h.memch
  sites : g.sites = h.sites
  dir : g.dir = h.dir
  map : g.map = h.map
  mast : g.mast = h.mast
  ser : g.ser = h.ser
  crew : g.crew = h.crew
  spar : g.spar = h.spar
  trim : g.trim = h.trim
  sns : g.sns = h.sns
  test : g.test = h.test

/-- The registers that logging writes: the pending bits of MSI-X, the RAS block but its control, the Yew block but its
control. -/
def logReg (a : Nat) : Prop := (0xC000 ≤ a ∧ a < 0xC100) ∨ (0x500004 ≤ a ∧ a < 0x510000) ∨ (0xB00004 ≤ a ∧ a < 0xB00028)

/-- The counters of the event counters. -/
def evtReg (a : Nat) : Prop := 0x130200 ≤ a ∧ a < 0x130280

/-- The register offsets from `lo` up to, not including, `hi`. -/
abbrev within (lo hi a : Nat) : Prop := lo ≤ a ∧ a < hi

/-- The offsets of the registers that hold the fields listed. -/
abbrev those (l : List RF) (a : Nat) : Prop := ∃ f ∈ l, a = f.off

/-- Where `i` answers a next state, the stored data is as before, and the hub is as before but for what `keep` takes over from
after, the registers in `W`, and what logging, signalling and event counting write. -/
def Leaves (i : Instr) (W : Nat → Prop) (keep : Hub → Hub → Hub := fun h _ => h) : Prop :=
  ∀ s t, exec i s = .next t →
    Hub.Quiet (fun a => logReg a ∨ evtReg a ∨ W a) (keep s.hub t.hub) t.hub ∧ t.mem = s.mem ∧ t.pending = s.pending

end Sys2Proof.Machine
end

