-- ==== Sys2Proof/Certificates/Slice0/Obligations.lean ====
section
/-!
DEFINITION. The statements for the provers. A clause whose conclusion is that a command answers a next state says where that
command completes; each is formalised from the section of spec/ its entry in OBLIGATIONS.json cites.
-/
section
set_option linter.unusedVariables false
open Sys2Proof Sys2Proof.Machine

/-- For every command c, queue rest and state s: step of s with c before rest answers what exec c answers on s with
rest. -/
def Obligations.StepRunsTheFrontCommand : Prop :=
  ∀ (c : Instr) (rest : List Instr) (s : State),
    step { s with pending := c :: rest } = exec c { s with pending := rest }

/-- On an empty queue a step answers a next state: the model's clock is 10 ns later and registers, stored data, rings
and sites are as before. That the edge passes on an empty queue is the model's choice (log entry 9). -/
def Obligations.IdleStepPassesOneClockEdge : Prop :=
  ∀ s : State, s.pending = [] →
    ∃ t, step s = .next t ∧ t.hub.clock = s.hub.clock + 10 ∧ t.hub.regs = s.hub.regs ∧ t.mem = s.mem ∧
      t.hub.rings = s.hub.rings ∧ t.hub.sites = s.hub.sites ∧ t.pending = []

/-- After reset: GLB_CTRL.LOCK 0, Reef enabled with WAVE_STEP 40, hedge-gate level 0, TRIP_C 110, SLICE_BUDGET 1,500,
TIME_STAT.TRUSTED 1, hub time 0, not READY, every cleat 0, every ring OFF and not enabled, no command waiting. -/
def Obligations.ResetLeavesTheStatedValues : Prop :=
  State.reset.hub.get R.GLB_CTRL_LOCK = 0 ∧ State.reset.hub.get R.PWR_REEF_CTRL_ENABLE = 1 ∧
  State.reset.hub.get R.PWR_REEF_CTRL_WAVE_STEP = 40 ∧ State.reset.hub.level = 0 ∧ State.reset.hub.get R.SNS_THERM_TRIP_C = 110 ∧
  State.reset.hub.get R.TEST_LBIST_CTRL_SLICE_BUDGET = 1500 ∧ State.reset.hub.get R.TIME_STAT_TRUSTED = 1 ∧
  State.reset.hub.now = 0 ∧ State.reset.hub.ready = false ∧
  (∀ n, n < 4096 → State.reset.hub.get (R.CLT_VALUE n) = 0) ∧
  (∀ n, n < 256 → State.reset.hub.ringState n = 0 ∧ State.reset.hub.get (R.RING_CTRL_ENABLE n) = 0) ∧
  State.reset.pending = []

/-- The state after reset has its stored data in canonical form and no ill-formed command waiting. -/
def Obligations.ResetMeetsTheInvariant : Prop :=
  State.reset.Inv

/-- For every state whose stored data is in canonical form (each list of bytes and of check-code errors strictly
rising by address, with no entry at its default) and whose waiting commands are all well formed: if a step answers a
next state, that state is so too. -/
def Obligations.EveryStepKeepsTheInvariant : Prop :=
  ∀ s t : State, s.Inv → step s = .next t → t.Inv

/-- For every command and state: if the command is well formed, exec answers a next state with the same queue; if it
is not, exec faults with noSuchUnit. -/
def Obligations.EveryWellFormedCommandCompletes : Prop :=
  ∀ (i : Instr) (s : State),
    (i.wf = true → ∃ t, exec i s = .next t ∧ t.pending = s.pending) ∧ (i.wf = false → exec i s = .fault .noSuchUnit)

/-- For every command that is a write of one register of a block, from a VF, a site or the TAP (paths that hold no
such block): exec answers the state as it was. -/
def Obligations.PathsWithoutBlocksHaveNoEffect : Prop :=
  ∀ (i : Instr) (r : Path) (s : State), i.blockPath = some r → r.holdsBlocks = false → i.wf = true →
    exec i s = .next s

/-- For each of the 227 commands not in Instr.usesData: where exec answers a next state, every byte of DRAM and
buffer, every stored error and the queue are as before. -/
def Obligations.CommandsWithoutDataLeaveMemory : Prop :=
  ∀ (i : Instr) (s t : State), i.usesData = false → exec i s = .next t →
    t.mem = s.mem ∧ (∀ sp a, t.mem.byte sp a = s.mem.byte sp a) ∧ t.pending = s.pending

/-- Where each of these commands answers a next state, stored data and queue are as before, and the hub is as before
but for the logs, what was sent, free values taken, the log and event-count registers, the parts named in its clause,
and the registers its clause names: LOCK, DROOP_TRIP, DROOP_RELEASE, REEF_ENABLE, REEF_DISABLE, COV_SLEW_WRITE,
COV_STEP_WRITE, VHOLD_READY, BOOT_PROFILE_WRITE, MAP_LOOKUP, VF_WINDOW_WRITE, RING_OWNER_WRITE, SUBMISSION_DOORBELL,
CREDIT_HOLD_WARN, TIME_ADJ, TIME_EVT_SEL, WINDOW_ENABLE. -/
def Obligations.FrameOfHubRegisterCommands : Prop :=
  (∀ (req : Path) (v : Word), Leaves (.lock req v) (those [R.GLB_CTRL_LOCK])) ∧
  (∀ (i sag : Nat), Leaves (.droopTrip i sag) (those [R.PWR_ISL_STRETCHED i, R.PWR_ISL_STRETCH_COUNT i])) ∧
  (∀ (i sag : Nat), Leaves (.droopRelease i sag) (those [R.PWR_ISL_STRETCHED i])) ∧
  (∀ (req : Path) (v : Word), Leaves (.reefEnable req v) (those [R.PWR_REEF_CTRL_ENABLE])) ∧
  (∀ (req : Path) (v : Word), Leaves (.reefDisable req v) (those [R.PWR_REEF_CTRL_ENABLE])) ∧
  (∀ (req : Path) (v : Word), Leaves (.covSlewWrite req v) (those [R.PWR_COV_SLEW_UP])) ∧
  (∀ (req : Path) (v : Word), Leaves (.covStepWrite req v) (those [R.PWR_COV_STEP])) ∧
  (∀ (mv : Nat), Leaves (.vholdReady mv) (those [R.PWR_HOLD_READY, R.YEW_STAT_LG_ARMED])) ∧
  (∀ (req : Path) (v : Word), Leaves (.bootProfileWrite req v) (those [R.BOOT_PROFILE_NEXT])) ∧
  (∀ (req : Path) (v : Word), Leaves (.mapLookup req v) (those [R.MAP_LOOKUP_PHYS])) ∧
  (∀ (req : Path) (n w : Nat) (v : Word), Leaves (.vfWindowWrite req n w v) (fun a => a = 0x200 + 0x10 * n + 4 * w)) ∧
  (∀ (req : Path) (n : Nat) (v : Word), Leaves (.ringOwnerWrite req n v) (those [R.RING_OWNER_FN n])) ∧
  (∀ (req : Path) (page : Nat) (v : Word), Leaves (.submissionDoorbell req page v) (within 0x100000 0x110000)) ∧
  (∀ (n id : Nat), Leaves (.creditHoldWarn n id) (those [])) ∧
  (∀ (req : Path) (v : Word), Leaves (.timeAdj req v) (those [R.TIME_ADJ_PPB])) ∧
  (∀ (req : Path) (n : Nat) (v : Word), Leaves (.timeEvtSel req n v) (those [R.TIME_EVT_SEL n])) ∧
  (∀ (req : Path) (w : Nat), Leaves (.windowEnable req w) (within 0x200000 0x300000))

/-- Where each of these commands answers a next state, stored data and queue are as before, and the hub is as before
but for the logs, what was sent, free values taken, the log and event-count registers, the parts named in its clause,
and the registers its clause names: STACK_TEMP_READ, POWER_DOWN_ENTRY, FLOOR_WRITE, TELLTALE_THRESHOLD_WRITE,
RAS_CONS_WRITE, FLIP_ARM, FLIP_DISARM, CE_HOURLY, SIDEBAND_CRC_ERROR, DROP_REQ_REPEAT, ADAPT_STEP, FOM_UPDATE,
FOM_LOW, CREW_HELLO_TIMER, PDELAY_REQ, CREW_FRAME_UNKNOWN_TYPE, HEDGE_VERIFY_COMPLETE, HEDGE_RESPONSE_TIMEOUT,
HEDGE_WINDOW_CLOSE, FMAP_INDEX, YEW_FLUSH, SECTOR_ERASE, BUCKET_REFILL, MIRROR_COPY, YEW_RD_SEQ, SET_ENDPOINT_ID,
GET_ENDPOINT_ID, GET_MCTP_VERSION_SUPPORT, GET_MESSAGE_TYPE_SUPPORT, GET_VENDOR_DEFINED_MESSAGE_SUPPORT, GET_INFO,
READ, STATE. -/
def Obligations.FrameOfUnitRegisterCommands : Prop :=
  (∀ (n temp : Nat) (ok : Bool), Leaves (.stackTempRead n ok temp) (those [R.MEM_STAT_TEMP n])) ∧
  (∀ (n q : Nat), Leaves (.powerDownEntry n q) (those [R.MEM_PC_PD n q])) ∧
  (∀ (req : Path) (c : Nat) (v : Word), Leaves (.floorWrite req c v) (those [R.QOS_CLASS0_CEIL c, R.QOS_SHEET_STAT_FLOOR_REF])) ∧
  (∀ (req : Path) (m : Nat) (v : Word), Leaves (.telltaleThresholdWrite req m v) (those [R.QOS_TT0_T1 m])) ∧
  (∀ (req : Path) (v : Word), Leaves (.rasConsWrite req v) (those [])) ∧
  (∀ (req : Path) (v : Word), Leaves (.flipArm req v) (those [])) ∧
  (∀ (req : Path) (v : Word), Leaves (.flipDisarm req v) (those [])) ∧
  (Leaves .ceHourly (those [])) ∧
  (∀ (n : Nat), Leaves (.sidebandCrcError n) (those [R.YDL_SB_STAT_CRCERR n])) ∧
  (∀ (n : Nat), Leaves (.dropReqRepeat n) (those [])) ∧
  (∀ (l snr8 : Nat), Leaves (.adaptStep l snr8) (within (R.SER_LANE_EQ l 0).off (R.SER_LANE_EQ l 12).off)) ∧
  (∀ (l snr8 : Nat), Leaves (.fomUpdate l snr8) (those [R.SER_LANE_STAT_FOM l, R.SER_LANE_ADAPT_LOW l])) ∧
  (∀ (l : Nat), Leaves (.fomLow l) (those [R.SER_LANE_ADAPT_LOW l])) ∧
  (Leaves .crewHelloTimer (those [])) ∧
  (∀ (p n : Nat), Leaves (.pdelayReq p n) (those [R.CREW_EVT_BADTIME])) ∧
  (∀ (p n : Nat), Leaves (.crewFrameUnknownType p n) (those [R.SER_PORT_RXCNT_RX_BAD p])) ∧
  (Leaves .hedgeVerifyComplete (those [R.TEST_HEDGE_STAT_STATE])) ∧
  (Leaves .hedgeResponseTimeout (those [R.TEST_HEDGE_STAT_STATE])) ∧
  (Leaves .hedgeWindowClose (those [R.TEST_HEDGE_STAT_STATE])) ∧
  (∀ (req : Path) (v : Word), Leaves (.fmapIndex req v) (fun a => those [R.TEST_FMAP_IDX_INDEX] a ∨ within (R.TEST_FMAP_DATA 0).off (R.TEST_FMAP_DATA 4).off a)) ∧
  (Leaves .yewFlush (those [])) ∧
  (Leaves .sectorErase (those [])) ∧
  (Leaves .bucketRefill (those [])) ∧
  (∀ (ok : Bool), Leaves (.mirrorCopy ok) (those [])) ∧
  (∀ (req : Path) (v : Word), Leaves (.yewRdSeq req v) (fun a => those [R.YEW_RD_SEQ, R.YEW_RD_STAT_FOUND] a ∨ within (R.YEW_RD_DATA 0).off (R.YEW_RD_DATA 16).off a)) ∧
  (∀ (n : Nat), Leaves (.setEndpointId n) (those [])) ∧
  (Leaves .getEndpointId (those [])) ∧
  (Leaves .getMctpVersionSupport (those [])) ∧
  (Leaves .getMessageTypeSupport (those [])) ∧
  (Leaves .getVendorDefinedMessageSupport (those [])) ∧
  (Leaves .getInfo (those [])) ∧
  (∀ (n count : Nat), Leaves (.bmcRead n count) (those [])) ∧
  (∀ (n : Nat), Leaves (.bmcState n) (those []))

/-- Where each of these commands answers a next state, stored data and queue are as before, and the hub is as before
but for the logs, what was sent, free values taken, the log and event-count registers, the parts named in its clause,
and the registers its clause names: GLB_RST_WARM, GLB_RST_HUB, REFCLK_LOSS, DOMAIN_REQ_HOLD_ON, DOMAIN_REQ_HOLD_OFF,
DOMAIN_REQ_HUB, DOMAIN_ADMIT, DOMAIN_LOWER_IDLE, DOMAIN_LOWER_ABANDON, REEF_TICK, PMBUS_POLL, VOUT_COMMAND,
PWRGOOD_FALL, PERST_N_DEASSERT, LG_RECOVER, MAP_EPOCH_DRAIN_END, SLIP, PWRGOOD_LOW_FILTER_EXPIRY, VIN_BELOW_WARN,
LOCKSTEP_MISMATCH, MASTHEAD_WATCHDOG, FAULT_RESET_TIMEOUT, THERMAL_TRIP_TIMEOUT. -/
def Obligations.FrameOfPowerAndPinCommands : Prop :=
  (∀ (req : Path) (v : Word), Leaves (.glbRstWarm req v) (those []) (fun h g => { h with boot := g.boot })) ∧
  (∀ (req : Path) (v : Word), Leaves (.glbRstHub req v) (those []) (fun h g => { h with boot := g.boot })) ∧
  (Leaves .refclkLoss (those [R.TIME_STAT_REFLOST]) (fun h g => { h with pins := g.pins })) ∧
  (∀ (req : Path) (n : Nat), Leaves (.domainReqHoldOn req n) (within 0x10000 0x20000) (fun h g => { h with power := g.power })) ∧
  (∀ (req : Path) (n : Nat), Leaves (.domainReqHoldOff req n) (within 0x10000 0x20000) (fun h g => { h with power := g.power })) ∧
  (∀ (req : Path) (n : Nat), Leaves (.domainReqHub req n) (within 0x10000 0x20000) (fun h g => { h with power := g.power })) ∧
  (∀ (n : Nat), Leaves (.domainAdmit n) (within 0x10000 0x20000) (fun h g => { h with power := g.power })) ∧
  (∀ (n : Nat), Leaves (.domainLowerIdle n) (within 0x10000 0x20000) (fun h g => { h with power := g.power })) ∧
  (∀ (n : Nat), Leaves (.domainLowerAbandon n) (within 0x10000 0x20000) (fun h g => { h with power := g.power })) ∧
  (∀ (pin hub stack drop known : Nat), Leaves (.reefTick pin hub stack drop known) (within 0x10000 0x20000) (fun h g => { h with power := g.power })) ∧
  (∀ (answers : List (List Nat)), Leaves (.pmbusPoll answers) (within 0x10000 0x20000) (fun h g => { h with power := g.power })) ∧
  (∀ (up : Bool), Leaves (.voutCommand up) (those []) (fun h g => { h with power := g.power })) ∧
  (Leaves .pwrgoodFall (those []) (fun h g => { h with boot := g.boot, pins := g.pins })) ∧
  (Leaves .perstNDeassert (those []) (fun h g => { h with pcie := g.pcie, pins := g.pins })) ∧
  (Leaves .lgRecover (those []) (fun h g => { h with pins := g.pins, power := g.power })) ∧
  (Leaves .mapEpochDrainEnd (those [R.MAP_EPOCH_STAT_DRAIN]) (fun h g => { h with map := g.map })) ∧
  (∀ (req : Path) (l : Nat), Leaves (.slip req l) (those [R.SER_LANE_RAW_SLIPS l]) (fun h g => { h with ser := g.ser })) ∧
  (Leaves .pwrgoodLowFilterExpiry (those [R.PWR_HOLD_READY]) (fun h g => { h with pins := g.pins, power := g.power })) ∧
  (Leaves .vinBelowWarn (those [R.PWR_HOLD_READY]) (fun h g => { h with pins := g.pins, power := g.power })) ∧
  (Leaves .lockstepMismatch (those [R.YEW_ESC_FATALS]) (fun h g => { h with boot := g.boot, pins := g.pins, power := g.power })) ∧
  (Leaves .mastheadWatchdog (those [R.YEW_ESC_FATALS]) (fun h g => { h with boot := g.boot, pins := g.pins, power := g.power })) ∧
  (∀ (cls n : Nat), Leaves (.faultResetTimeout cls n) (those [R.YEW_ESC_FATALS]) (fun h g => { h with boot := g.boot, pins := g.pins, power := g.power })) ∧
  (Leaves .thermalTripTimeout (those [R.YEW_ESC_FATALS]) (fun h g => { h with boot := g.boot, pins := g.pins, power := g.power }))

/-- Where each of these commands answers a next state, stored data and queue are as before, and the hub is as before
but for the logs, what was sent, free values taken, the log and event-count registers, the parts named in its clause,
and the registers its clause names: REFRESH, SCHEDULE_COMMAND, SHEET_UPDATE, TELLTALE_WINDOW, WINDOW_ENABLE_COMPLETE,
WINDOW_DISABLE_COMPLETE, DIR_QUERY, WATCH_CANCEL, WATCH_TIMEOUT, RING_ENABLE, RING_RESET_COMPLETE, HINT_LAPSE,
COMPLETION_RELEASE, RING_HALT_ENTRY, MODERATION_TIMER_EXPIRY, READINESS_PEND_SEND, CONFIG_REQUEST, PCIE_LINK_UP,
BUS_MASTER_DISABLE, UNSUPPORTED_REQUEST, POISONED_TLP_RECEIVED, MALFORMED_TLP, TIME_SET, TIME_SLEW, SENSE_TRIGGER,
SENSE_SYNC, MAILBOX_COMPLETE, GET_VERSION, YEW_MARK, YEW_READ, PPR_REQUEST, PPR_LIST, IMAGE_STAGE. -/
def Obligations.FrameOfRingLinkAndChannelCommands : Prop :=
  (∀ (n q bank how : Nat), Leaves (.refresh n q bank how) (those [R.MEM_PC_PD n q]) (fun h g => { h with memch := g.memch })) ∧
  (∀ (n q : Nat) (busy : List Nat), Leaves (.scheduleCommand n q busy) (fun a => within 0x300000 0x400000 a ∨ within 0x400000 0x500000 a) (fun h g => { h with memch := g.memch })) ∧
  (Leaves .sheetUpdate (fun a => within 0x300000 0x400000 a ∨ within 0x400000 0x500000 a) (fun h g => { h with memch := g.memch })) ∧
  (Leaves .telltaleWindow (those []) (fun h g => { h with memch := g.memch })) ∧
  (∀ (w : Nat), Leaves (.windowEnableComplete w) (within 0x200000 0x300000) (fun h g => { h with dir := g.dir })) ∧
  (∀ (w : Nat), Leaves (.windowDisableComplete w) (within 0x200000 0x300000) (fun h g => { h with dir := g.dir })) ∧
  (∀ (req : Path) (v : Word), Leaves (.dirQuery req v) (within 0x200000 0x300000) (fun h g => { h with dir := g.dir })) ∧
  (∀ (req : Path) (w : Nat) (v : Word), Leaves (.watchCancel req w v) (within 0x120000 0x130000) (fun h g => { h with cleat := g.cleat })) ∧
  (∀ (w : Nat), Leaves (.watchTimeout w) (within 0x120000 0x130000) (fun h g => { h with cleat := g.cleat })) ∧
  (∀ (req : Path) (n : Nat), Leaves (.ringEnable req n) (fun a => within 0x100000 0x110000 a ∨ within 0x110000 0x120000 a) (fun h g => { h with rings := g.rings })) ∧
  (∀ (n : Nat), Leaves (.ringResetComplete n) (fun a => within 0x100000 0x110000 a ∨ within 0x110000 0x120000 a) (fun h g => { h with rings := g.rings })) ∧
  (∀ (n pool : Nat), Leaves (.hintLapse n pool) (within 0x110000 0x120000) (fun h g => { h with rings := g.rings })) ∧
  (∀ (req : Path) (page : Nat) (v : Word), Leaves (.completionRelease req page v) (within 0x100000 0x110000) (fun h g => { h with pcie := g.pcie, rings := g.rings })) ∧
  (∀ (n : Nat), Leaves (.ringHaltEntry n) (within 0x100000 0x110000) (fun h g => { h with pcie := g.pcie, rings := g.rings })) ∧
  (∀ (n : Nat), Leaves (.moderationTimerExpiry n) (those []) (fun h g => { h with pcie := g.pcie, rings := g.rings })) ∧
  (Leaves .readinessPendSend (those [R.GLB_RDY_PEND]) (fun h g => { h with pcie := g.pcie })) ∧
  (∀ (fn : Nat) (q : CfgReq), Leaves (.configRequest fn q) (those []) (fun h g => { h with pcie := g.pcie })) ∧
  (∀ (rate width : Nat) (flit : Bool), Leaves (.pcieLinkUp rate width flit) (those [R.GLB_PCIE_STAT_RATE]) (fun h g => { h with pcie := g.pcie })) ∧
  (∀ (fn : Nat) (d3 : Bool), Leaves (.busMasterDisable fn d3) (those []) (fun h g => { h with pcie := g.pcie })) ∧
  (∀ (fn : Nat) (posted : Bool), Leaves (.unsupportedRequest fn posted) (those []) (fun h g => { h with pcie := g.pcie })) ∧
  (∀ (fn : Nat), Leaves (.poisonedTlpReceived fn) (those []) (fun h g => { h with pcie := g.pcie })) ∧
  (∀ (tlp : BadTlp), Leaves (.malformedTlp tlp) (those []) (fun h g => { h with pcie := g.pcie })) ∧
  (∀ (req : Path) (v : Word), Leaves (.timeSet req v) (those [R.TIME_STEPS_COUNT]) (fun h g => { h with time := g.time })) ∧
  (∀ (req : Path) (v : Word), Leaves (.timeSlew req v) (those []) (fun h g => { h with time := g.time })) ∧
  (∀ (req : Path) (c : Nat) (v : Word), Leaves (.senseTrigger req c v) (within 0x30000 0x40000) (fun h g => { h with sns := g.sns })) ∧
  (∀ (req : Path), Leaves (.senseSync req) (within 0x30000 0x40000) (fun h g => { h with sns := g.sns })) ∧
  (Leaves .mailboxComplete (within 0xC00000 0xD00000) (fun h g => { h with pcie := g.pcie })) ∧
  (Leaves .getVersion (fun a => those [R.YEW_ESC_FATALS] a ∨ within 0xC00100 0xC00200 a) (fun h g => { h with boot := g.boot, mast := g.mast, pins := g.pins, power := g.power })) ∧
  (Leaves .yewMark (fun a => those [R.YEW_ESC_FATALS] a ∨ within 0xC00100 0xC00200 a) (fun h g => { h with boot := g.boot, mast := g.mast, pins := g.pins, power := g.power })) ∧
  (Leaves .yewRead (fun a => those [R.YEW_ESC_FATALS] a ∨ within 0xC00100 0xC00200 a) (fun h g => { h with boot := g.boot, mast := g.mast, pins := g.pins, power := g.power })) ∧
  (∀ (bad : Bool), Leaves (.pprRequest bad) (fun a => those [R.YEW_ESC_FATALS] a ∨ within 0xC00100 0xC00200 a) (fun h g => { h with boot := g.boot, mast := g.mast, pins := g.pins, power := g.power })) ∧
  (Leaves .pprList (fun a => those [R.YEW_ESC_FATALS] a ∨ within 0xC00100 0xC00200 a) (fun h g => { h with boot := g.boot, mast := g.mast, pins := g.pins, power := g.power })) ∧
  (Leaves .imageStage (fun a => those [R.YEW_ESC_FATALS] a ∨ within 0xC00100 0xC00200 a) (fun h g => { h with boot := g.boot, mast := g.mast, pins := g.pins, power := g.power }))

/-- Where each of these commands answers a next state, stored data and queue are as before, and the hub is as before
but for the logs, what was sent, free values taken, the log and event-count registers, the parts named in its clause,
and the registers its clause names: TELLTALE_LEVEL_CHANGE, LANE_SIGNAL_DETECT, AN_COMPLETE, AN_RETRY,
LINK_TRAINING_COMPLETE, ADAPT_SETTLED, LANE_STEP_TIMEOUT, EYE_SCAN_RUN, EYE_SCAN_DONE, PRBS_CONFIG_WRITE, PAUSE,
PAUSE_QUANTA_EXPIRY, PAUSE_REPEAT, CREW_ACK_TIMER, SYNC_SEND, PDELAY_REQ_SEND, SYNC, PDELAY_RESP,
PDELAY_RESP_FOLLOW_UP, CREW_HELLO, CREW_PEER_TIMEOUT, CLAIM_HOLD_DOWN_END, SYNC_LOSS, CREW_REMUSTER, MUSTERED,
FOLLOW_UP, ALIGN_LOCK. -/
def Obligations.FrameOfSerialAndCrewCommands : Prop :=
  (∀ (m fill : Nat), Leaves (.telltaleLevelChange m fill) (fun a => within 0x400000 0x500000 a ∨ within 0x700000 0x800000 a) (fun h g => { h with memch := g.memch, ser := g.ser })) ∧
  (∀ (l : Nat), Leaves (.laneSignalDetect l) (within 0x700000 0x800000) (fun h g => { h with ser := g.ser })) ∧
  (∀ (p : Nat) (ok : Bool), Leaves (.anComplete p ok) (within 0x700000 0x800000) (fun h g => { h with ser := g.ser })) ∧
  (∀ (p : Nat), Leaves (.anRetry p) (within 0x700000 0x800000) (fun h g => { h with ser := g.ser })) ∧
  (∀ (l : Nat), Leaves (.linkTrainingComplete l) (within 0x700000 0x800000) (fun h g => { h with ser := g.ser })) ∧
  (∀ (l snr8 : Nat), Leaves (.adaptSettled l snr8) (within 0x700000 0x800000) (fun h g => { h with ser := g.ser })) ∧
  (∀ (l : Nat), Leaves (.laneStepTimeout l) (within 0x700000 0x800000) (fun h g => { h with ser := g.ser })) ∧
  (∀ (req : Path) (l : Nat) (v : Word), Leaves (.eyeScanRun req l v) (within 0x700000 0x800000) (fun h g => { h with ser := g.ser })) ∧
  (∀ (l n : Nat), Leaves (.eyeScanDone l n) (within 0x700000 0x800000) (fun h g => { h with ser := g.ser })) ∧
  (∀ (req : Path) (l : Nat) (v : Word), Leaves (.prbsConfigWrite req l v) (within 0x700000 0x800000) (fun h g => { h with ser := g.ser })) ∧
  (∀ (p n : Nat), Leaves (.pause p n) (within 0x700000 0x800000) (fun h g => { h with ser := g.ser })) ∧
  (∀ (p : Nat), Leaves (.pauseQuantaExpiry p) (those []) (fun h g => { h with ser := g.ser })) ∧
  (∀ (p : Nat), Leaves (.pauseRepeat p) (those []) (fun h g => { h with ser := g.ser })) ∧
  (∀ (p : Nat), Leaves (.crewAckTimer p) (those []) (fun h g => { h with ser := g.ser })) ∧
  (Leaves .syncSend (those []) (fun h g => { h with crew := g.crew })) ∧
  (Leaves .pdelayReqSend (those []) (fun h g => { h with crew := g.crew })) ∧
  (∀ (p n : Nat), Leaves (.sync p n) (those [R.CREW_EVT_BADTIME]) (fun h g => { h with crew := g.crew })) ∧
  (∀ (p n t2 : Nat), Leaves (.pdelayResp p n t2) (those [R.CREW_EVT_BADTIME]) (fun h g => { h with crew := g.crew })) ∧
  (∀ (p n t3 : Nat), Leaves (.pdelayRespFollowUp p n t3) (those [R.CREW_EVT_BADTIME]) (fun h g => { h with crew := g.crew })) ∧
  (∀ (p : Nat) (b : List Byte), Leaves (.crewHello p b) (fun a => within 0x800000 0x900000 a ∨ within 0x700000 0x800000 a ∨ within 0x130000 0x140000 a) (fun h g => { h with crew := g.crew, pcie := g.pcie })) ∧
  (∀ (p : Nat), Leaves (.crewPeerTimeout p) (fun a => within 0x800000 0x900000 a ∨ within 0x700000 0x800000 a ∨ within 0x130000 0x140000 a) (fun h g => { h with crew := g.crew, pcie := g.pcie })) ∧
  (∀ (n : Nat), Leaves (.claimHoldDownEnd n) (fun a => within 0x800000 0x900000 a ∨ within 0x130000 0x140000 a) (fun h g => { h with crew := g.crew, pcie := g.pcie })) ∧
  (Leaves .syncLoss (fun a => within 0x800000 0x900000 a ∨ within 0x130000 0x140000 a) (fun h g => { h with crew := g.crew, pcie := g.pcie })) ∧
  (∀ (req : Path), Leaves (.crewRemuster req) (fun a => within 0x800000 0x900000 a ∨ within 0x130000 0x140000 a) (fun h g => { h with crew := g.crew, pcie := g.pcie })) ∧
  (Leaves .mustered (fun a => within 0x800000 0x900000 a ∨ within 0x130000 0x140000 a) (fun h g => { h with crew := g.crew, pcie := g.pcie })) ∧
  (∀ (p n o : Nat) (c : Int), Leaves (.followUp p n o c) (fun a => within 0x800000 0x900000 a ∨ within 0x130000 0x140000 a) (fun h g => { h with crew := g.crew, pcie := g.pcie, time := g.time })) ∧
  (∀ (l : Nat), Leaves (.alignLock l) (fun a => within 0x800000 0x900000 a ∨ within 0x700000 0x800000 a ∨ within 0x130000 0x140000 a) (fun h g => { h with crew := g.crew, pcie := g.pcie, ser := g.ser }))

/-- Where each of these commands answers a next state, stored data and queue are as before, and the hub is as before
but for the logs, what was sent, free values taken, the log and event-count registers, the parts named in its clause,
and the registers its clause names: ACK_INTERVAL, REPLAY_START, TEST, SPARE_PROPOSAL, MSET_SWITCH, SIDEBAND_HELLO,
SIDEBAND_UNKNOWN_TYPE, HELLO_ACK, LINK_UP, CREDIT_RETURN, LOOPBACK_RUN, LOOPBACK_END, QUIET_ACK, QUIET_ACK_TIMEOUT,
MGMT_DATA, SITE_MGMT_RD, DROP_ACK, SITE_CLT_WAIT_TIMEOUT. -/
def Obligations.FrameOfSiteLinkCommands : Prop :=
  (∀ (n : Nat), Leaves (.ackInterval n) (within 0x600000 0x700000) (fun h g => { h with sites := g.sites })) ∧
  (∀ (n m q g : Nat), Leaves (.replayStart n m q g) (those []) (fun h g => { h with sites := g.sites })) ∧
  (∀ (n m : Nat) (good : Bool), Leaves (.moduleTest n m good) (those []) (fun h g => { h with sites := g.sites })) ∧
  (∀ (n : Nat), Leaves (.spareProposal n) (within 0x600000 0x700000) (fun h g => { h with sites := g.sites })) ∧
  (∀ (n : Nat) (tx : Bool), Leaves (.msetSwitch n tx) (within 0x600000 0x700000) (fun h g => { h with sites := g.sites })) ∧
  (∀ (n : Nat), Leaves (.sidebandHello n) (those []) (fun h g => { h with sites := g.sites })) ∧
  (∀ (n : Nat) (f : SbHead), Leaves (.sidebandUnknownType n f) (those []) (fun h g => { h with sites := g.sites })) ∧
  (∀ (n : Nat), Leaves (.helloAck n) (within 0x600000 0x700000) (fun h g => { h with sites := g.sites })) ∧
  (Leaves .linkUp (fun a => within 0 0x10000 a ∨ within 0x50000 0x60000 a ∨ within 0x600000 0x700000 a) (fun h g => { h with sites := g.sites })) ∧
  (∀ (n : Nat), Leaves (.creditReturn n) (within 0x600000 0x700000) (fun h g => { h with sites := g.sites })) ∧
  (∀ (req : Path) (n : Nat) (v : Word), Leaves (.loopbackRun req n v) (within 0x600000 0x700000) (fun h g => { h with sites := g.sites })) ∧
  (∀ (n : Nat) (f : List Nat) (e : List (Nat × Nat)), Leaves (.loopbackEnd n f e) (within 0x600000 0x700000) (fun h g => { h with sites := g.sites })) ∧
  (∀ (n m : Nat) (q : Bool), Leaves (.quietAck n m q) (within 0x600000 0x700000) (fun h g => { h with sites := g.sites })) ∧
  (∀ (n : Nat), Leaves (.quietAckTimeout n) (within 0x600000 0x700000) (fun h g => { h with sites := g.sites })) ∧
  (∀ (n a : Nat) (v : Word), Leaves (.mgmtData n a v) (those []) (fun h g => { h with mast := g.mast, sites := g.sites })) ∧
  (Leaves .siteMgmtRd (fun a => those [R.YEW_ESC_FATALS] a ∨ within 0xC00100 0xC00200 a) (fun h g => { h with boot := g.boot, mast := g.mast, pins := g.pins, power := g.power, sites := g.sites })) ∧
  (∀ (n m g x : Nat), Leaves (.dropAck n m g x) (fun a => within 0x600000 0x700000 a ∨ within 0x50000 0x60000 a) (fun h g => { h with map := g.map, sites := g.sites })) ∧
  (∀ (n tag : Nat), Leaves (.siteCltWaitTimeout n tag) (fun a => within 0x120000 0x130000 a ∨ within 0x600000 0x700000 a) (fun h g => { h with cleat := g.cleat, sites := g.sites }))

/-- For every write of GLB_CTRL, as LOCK or as a REGISTER_WRITE of any size at its offset by a path that holds it, in
every state: a next state is answered, in which LOCK is 1 if it was 1, and LOCK is as it was if the bit written is 0.
-/
def Obligations.LockNeverReturnsToZero : Prop :=
  (∀ (req : Path) (v : Word) (s : State), (Instr.lock req v).wf = true →
    ∃ t, exec (.lock req v) s = .next t ∧ (s.hub.get R.GLB_CTRL_LOCK = 1 → t.hub.get R.GLB_CTRL_LOCK = 1) ∧
      (bitsOf v 0 1 = 0 → t.hub.get R.GLB_CTRL_LOCK = s.hub.get R.GLB_CTRL_LOCK)) ∧
  (∀ (req : Path) (bits : Nat) (v : DWord) (s : State), (Instr.registerWrite req (R.GLB_CTRL_LOCK).off bits v).wf = true →
    req.holdsBlocks = true →
    ∃ t, exec (.registerWrite req (R.GLB_CTRL_LOCK).off bits v) s = .next t ∧
      (s.hub.get R.GLB_CTRL_LOCK = 1 → t.hub.get R.GLB_CTRL_LOCK = 1) ∧
      (v.toNat % 2 = 0 → t.hub.get R.GLB_CTRL_LOCK = s.hub.get R.GLB_CTRL_LOCK)) ∧
  (∀ (req : Path) (v : Word) (s : State), (Instr.lock req v).wf = true → req.holdsBlocks = true → bitsOf v 0 1 = 1 →
    s.hub.unlocked = true → ∃ t, exec (.lock req v) s = .next t ∧ t.hub.unlocked = false ∧ t.mem = s.mem)

/-- For every path, offset and size with the offset not a multiple of the size, in every state: a read answers 0 and a
write changes nothing, but that the access is recorded in the RAS log. -/
def Obligations.UnalignedAccessIsLoggedOnly : Prop :=
  (∀ (req : Path) (off bits : Nat) (v : DWord) (s : State), (Instr.unalignedAccess req false off bits v).wf = true →
    off % (bits / 8) ≠ 0 →
    ∃ t, exec (.unalignedAccess req false off bits v) s = .next t ∧
      t.hub = (s.hub.logAccess 0x11 req off 0).send (.readData req 0) ∧ t.mem = s.mem) ∧
  (∀ (req : Path) (off bits : Nat) (v : DWord) (s : State), (Instr.unalignedAccess req true off bits v).wf = true →
    off % (bits / 8) ≠ 0 →
    ∃ t, exec (.unalignedAccess req true off bits v) s = .next t ∧
      t.hub = s.hub.logAccess 0x11 req off (BitVec.ofNat 32 v.toNat).toNat ∧ t.mem = s.mem)

/-- VF_WINDOW_WRITE while every ring of the VF is disabled stores the word (its fields' bits); at other times it
leaves the word and is recorded; VF_FLR leaves all four words. -/
def Obligations.VfWindowWrittenOnlyWhileIdle : Prop :=
  (∀ (req : Path) (k w : Nat) (v : Word) (s : State), (Instr.vfWindowWrite req k w v).wf = true → req.holdsBlocks = true →
    s.hub.vfIdle k = true →
    ∃ t, exec (.vfWindowWrite req k w v) s = .next t ∧ t.hub.reg (0x200 + 0x10 * k + 4 * w) = v &&& vfWinMask w) ∧
  (∀ (req : Path) (k w : Nat) (v : Word) (s : State), (Instr.vfWindowWrite req k w v).wf = true → req.holdsBlocks = true →
    s.hub.vfIdle k = false →
    ∃ t, exec (.vfWindowWrite req k w v) s = .next t ∧
      t.hub.reg (0x200 + 0x10 * k + 4 * w) = s.hub.reg (0x200 + 0x10 * k + 4 * w) ∧
      t.hub = s.hub.logAccess 0x13 req (0x200 + 0x10 * k + 4 * w) v.toNat) ∧
  (∀ (k w : Nat) (s : State), (Instr.vfFlr k).wf = true → w < 4 →
    ∃ t, exec (.vfFlr k) s = .next t ∧ t.hub.reg (0x200 + 0x10 * k + 4 * w) = s.hub.reg (0x200 + 0x10 * k + 4 * w))

/-- CLT_SET stores the value written; CLT_ADD adds it modulo 2^32; a PF read of CLT_n.VALUE whose stored word has no
error answers the value the cleat holds after every earlier command. -/
def Obligations.CleatWritesSetAndAdd : Prop :=
  (∀ (req : Path) (n : Nat) (v : Word) (s : State), (Instr.cltSet req n v).wf = true → req.holdsBlocks = true →
    ∃ t, exec (.cltSet req n v) s = .next t ∧ t.hub.get (R.CLT_VALUE n) = v.toNat) ∧
  (∀ (req : Path) (n : Nat) (v : Word) (s : State), (Instr.cltAdd req n v).wf = true → req.holdsBlocks = true →
    ∃ t, exec (.cltAdd req n v) s = .next t ∧
      t.hub.get (R.CLT_VALUE n) = (s.hub.get (R.CLT_VALUE n) + v.toNat) % 2 ^ 32) ∧
  (∀ (n : Nat) (s : State), n < 4096 → s.hub.sramErr (R.CLT_VALUE n).off = 0 →
    ∃ t, exec (.rcFieldRead .pf (R.CLT_VALUE n).off 32) s = .next t ∧
      t.hub.out = Out.readData .pf (s.hub.get (R.CLT_VALUE n)) :: s.hub.out)

/-- What an access to a BAR0 register does: plain, cleat, protected, unassigned and 64-bit shadow reads and writes.
Each clause says where its command completes, and with what. What a definition named here takes from the log, not the
spec, is the model's choice: log entry 17. -/
def Obligations.RegisterAccessAnswers : Prop :=
  -- REGISTER_WRITE of GLB_GPIO stores OUT and OE
  (∀ (v : DWord) (w : Word) (s : State),
    (Instr.registerWrite .pf (R.GLB_GPIO_OUT).off 32 v).wf = true →
    w = BitVec.ofNat 32 v.toNat →
    ∃ t, exec (.registerWrite .pf (R.GLB_GPIO_OUT).off 32 v) s = .next t ∧ t.hub.get R.GLB_GPIO_OUT = bitsOf w 4 12 ∧ t.hub.get R.GLB_GPIO_OUT_OE = bitsOf w 20 12 ∧ t.mem = s.mem) ∧
  -- REGISTER_WRITE of CLT_n.VALUE stores the value
  (∀ (n : Nat) (v : DWord) (w : Word) (s : State),
    (Instr.registerWrite .pf (0x120000 + 8 * n) 32 v).wf = true →
    n < 4096 →
    s.hub.sramErr (0x120000 + 8 * n) = 0 →
    w = BitVec.ofNat 32 v.toNat →
    ∃ t, exec (.registerWrite .pf (0x120000 + 8 * n) 32 v) s = .next t ∧ t.hub.get (R.CLT_VALUE n) = w.toNat ∧ t.mem = s.mem) ∧
  -- REGISTER_WRITE to a register above the hedge-gate level only logs the access
  (∀ (off : Nat) (v : DWord) (w : Word) (s : State),
    (Instr.registerWrite .pf off 32 v).wf = true →
    off % 4 = 0 →
    off < 0x2000000 →
    s.hub.guarded off = true →
    ∃ t, exec (.registerWrite .pf off 32 v) s = .next t ∧ t.hub = s.hub.logAccess 0x10 .pf off (BitVec.ofNat 32 v.toNat).toNat ∧ t.mem = s.mem) ∧
  -- REGISTER_WRITE to an unassigned offset above the MAST block changes nothing
  (∀ (off : Nat) (v : DWord) (w : Word) (s : State),
    (Instr.registerWrite .pf off 32 v).wf = true →
    off % 4 = 0 →
    0xC00008 ≤ off →
    off < 0x2000000 →
    findReg off = none →
    s.hub.sramErr off = 0 →
    ∃ t, exec (.registerWrite .pf off 32 v) s = .next t ∧ t = s) ∧
  -- RC_FIELD_READ answers the register's word, clears its RC fields and no other register
  (∀ (off : Nat) (s : State),
    (Instr.rcFieldRead .pf off 32).wf = true →
    off % 4 = 0 →
    off < 0x2000000 →
    s.hub.sramErr off = 0 →
    s.hub.guarded off = false →
    isLowHalf off = false →
    (off < 4 ∨ isLowHalf (off - 4) = false) →
    off ≠ 0x20 →
    inStride off 0x201000 4 48 0 = false →
    ∃ t, exec (.rcFieldRead .pf off 32) s = .next t ∧ t.hub.out = Out.readData .pf (s.hub.live off).toNat :: s.hub.out ∧
      t.hub.reg off = s.hub.reg off &&& ~~~ maskOf off (fun (f : FieldSpec) => f.acc == Acc.rc) ∧ (∀ o, o ≠ off → t.hub.reg o = s.hub.reg o) ∧ t.mem = s.mem) ∧
  -- LEVEL_PROTECTED_READ of a register above the level logs it and answers 0
  (∀ (off : Nat) (s : State),
    (Instr.levelProtectedRead .pf off).wf = true →
    off % 4 = 0 →
    off < 0x2000000 →
    s.hub.guarded off = true →
    ∃ t, exec (.levelProtectedRead .pf off) s = .next t ∧ t.hub = (s.hub.logAccess 0x10 .pf off 0).send (.readData .pf 0) ∧ t.mem = s.mem) ∧
  -- LEVEL_PROTECTED_READ at a level high enough answers the word
  (∀ (off : Nat) (s : State),
    (Instr.levelProtectedRead .pf off).wf = true →
    off % 4 = 0 →
    off < 0x2000000 →
    s.hub.sramErr off = 0 →
    s.hub.guarded off = false →
    isLowHalf off = false →
    (off < 4 ∨ isLowHalf (off - 4) = false) →
    off ≠ 0x20 →
    inStride off 0x201000 4 48 0 = false →
    ∃ t, exec (.levelProtectedRead .pf off) s = .next t ∧ t.hub.out = Out.readData .pf (s.hub.live off).toNat :: s.hub.out ∧
      t.hub.reg off = s.hub.reg off &&& ~~~ maskOf off (fun (f : FieldSpec) => f.acc == Acc.rc) ∧ (∀ o, o ≠ off → t.hub.reg o = s.hub.reg o) ∧ t.mem = s.mem) ∧
  -- SHADOW_LOW_READ answers the low word and latches the high one for the path
  (∀ (off : Nat) (s : State),
    (Instr.shadowLowRead .pf off).wf = true →
    off % 4 = 0 →
    off < 0x2000000 →
    s.hub.sramErr off = 0 →
    s.hub.guarded off = false →
    isLowHalf off = true →
    ∃ t, exec (.shadowLowRead .pf off) s = .next t ∧ t.hub.out = Out.readData .pf (s.hub.live off).toNat :: s.hub.out ∧ t.hub.shadow .pf = some (off, s.hub.live (off + 4)) ∧ t.hub.regs = s.hub.regs ∧ t.mem = s.mem) ∧
  -- SHADOW_HIGH_READ answers the latched word and empties the shadow
  (∀ (off : Nat) (w : Word) (s : State),
    (Instr.shadowHighRead .pf off).wf = true →
    off % 4 = 0 →
    4 ≤ off →
    off < 0x2000000 →
    s.hub.sramErr off = 0 →
    s.hub.guarded off = false →
    isLowHalf off = false →
    isLowHalf (off - 4) = true →
    s.hub.shadow .pf = some (off - 4, w) →
    ∃ t, exec (.shadowHighRead .pf off) s = .next t ∧ t.hub.out = Out.readData .pf w.toNat :: s.hub.out ∧ t.hub.shadow .pf = none ∧ t.hub.regs = s.hub.regs ∧ t.mem = s.mem) ∧
  -- SHADOW_HIGH_READ with no shadow answers the live word and sets STALE_HALF
  (∀ (off : Nat) (s : State),
    (Instr.shadowHighRead .pf off).wf = true →
    off % 4 = 0 →
    4 ≤ off →
    off < 0x2000000 →
    s.hub.sramErr off = 0 →
    s.hub.guarded off = false →
    isLowHalf off = false →
    isLowHalf (off - 4) = true →
    s.hub.shadow .pf = none →
    ∃ t, exec (.shadowHighRead .pf off) s = .next t ∧ t.hub.out = Out.readData .pf (s.hub.live off).toNat :: s.hub.out ∧ t.hub.get R.TIME_STAT_STALE_HALF = 1 ∧ t.mem = s.mem)

/-- Power domains: requests, admission, transitions, lowering and refusals; loss and return of REFCLK. Each clause
says where its command completes, and with what. What a definition named here takes from the log, not the spec, is the
model's choice: log entries 19, 23. -/
def Obligations.PowerDomainsFollowRequests : Prop :=
  -- REFCLK_LOSS sets REFLOST, and clears TRUSTED when the crew is enabled; hub time is as before
  (∀ (s : State),
    s.hub.pins.refclk = true →
    s.hub.pins.d0Reset = false →
    ∃ t, exec .refclkLoss s = .next t ∧ t.hub.pins.refclk = false ∧ t.hub.get R.TIME_STAT_REFLOST = 1 ∧
      t.hub.get R.TIME_STAT_TRUSTED = (if s.hub.on R.CREW_CTRL_EN then 0 else s.hub.get R.TIME_STAT_TRUSTED) ∧ t.hub.time = s.hub.time) ∧
  -- REFCLK_RETURN clears REFLOST
  (∀ (s : State),
    s.hub.pins.refclk = false →
    s.hub.pins.d0Reset = false →
    ∃ t, exec .refclkReturn s = .next t ∧ t.hub.pins.refclk = true ∧ t.hub.get R.TIME_STAT_REFLOST = 0) ∧
  -- DOMAIN_REQ_HOLD_ON of an OFF domain stores REQ 1, sets PENDING and waits for a hoist
  (∀ (req : Path) (n : Nat) (s : State),
    (Instr.domainReqHoldOn req n).wf = true →
    req.holdsBlocks = true →
    s.hub.domState n = 0 →
    nget s.hub.power.own n = 0 →
    nget s.hub.power.barred n = 0 →
    ¬ (56 ≤ n ∧ n < 60 ∧ s.hub.siteFit (n - 56) = false) →
    ∃ t, exec (.domainReqHoldOn req n) s = .next t ∧ t.hub.get (R.PWR_DOM_REQ n) = 1 ∧ t.hub.get (R.PWR_DOM_PENDING n) = 1 ∧
      nget t.hub.power.want n = 1 ∧ t.hub.domState n = 0) ∧
  -- DOMAIN_REQ_HUB stores REQ 0, drops a deferred hold-off, and latches the request of a domain in transition
  (∀ (req : Path) (n : Nat) (s : State),
    (Instr.domainReqHub req n).wf = true →
    req.holdsBlocks = true →
    ∃ t, exec (.domainReqHub req n) s = .next t ∧ t.hub.get (R.PWR_DOM_REQ n) = 0 ∧ nget t.hub.power.deferOff n = 0 ∧
      t.hub.domState n = s.hub.domState n ∧ (s.hub.domState n = 1 ∨ s.hub.domState n = 3 → nget t.hub.power.latch n = 3)) ∧
  -- DOMAIN_REQ_HOLD_OFF of an ON site or PHY domain sets PENDING and holds its NIs
  (∀ (req : Path) (n : Nat) (s : State),
    (Instr.domainReqHoldOff req n).wf = true →
    req.holdsBlocks = true →
    s.hub.domState n = 2 →
    nget s.hub.power.own n = 0 →
    s.hub.ready = true →
    (56 ≤ n ∧ n ≤ 68) →
    ∃ t, exec (.domainReqHoldOff req n) s = .next t ∧ t.hub.get (R.PWR_DOM_REQ n) = 2 ∧ t.hub.get (R.PWR_DOM_PENDING n) = 1 ∧
      nget t.hub.power.want n = 2 ∧ nget t.hub.power.heldNi n = 1 ∧ t.hub.domState n = 2) ∧
  -- DOMAIN_REQ_HOLD_OFF of D0, D1 or a stack domain is refused with REASON 1 or 4
  (∀ (req : Path) (n : Nat) (s : State),
    (Instr.domainReqHoldOff req n).wf = true →
    req.holdsBlocks = true →
    s.hub.domState n = 2 →
    nget s.hub.power.own n = 0 →
    s.hub.ready = true →
    (n ≤ 1 ∨ 50 ≤ n ∧ n < 56) →
    ∃ t, exec (.domainReqHoldOff req n) s = .next t ∧ t.hub.get (R.PWR_DOM_REFUSED n) = 1 ∧
      t.hub.get (R.PWR_DOM_REASON n) = (if n ≤ 1 then 1 else 4) ∧
      nget t.hub.power.want n = nget s.hub.power.want n ∧ nget t.hub.power.deferOff n = 0 ∧ t.hub.domState n = 2) ∧
  -- DOMAIN_ADMIT of a domain of the next wave hoists the whole wave, where the covenant allows its steps
  (∀ (n m : Nat) (s : State),
    (Instr.domainAdmit n).wf = true →
    nget s.hub.power.want n = 1 →
    s.hub.nextWave.contains n = true →
    s.hub.nextWave.contains m = true →
    s.hub.riseOk (waveMw s.hub.nextWave) (s.hub.swapOf (waveMw s.hub.nextWave)) 0 0 = true →
    ∃ t, exec (.domainAdmit n) s = .next t ∧ t.hub.domState m = 1 ∧ nget t.hub.power.want m = 0 ∧
      t.hub.power.rise = s.hub.power.rise + (waveMw s.hub.nextWave - s.hub.swapOf (waveMw s.hub.nextWave))) ∧
  -- DOMAIN_LOWER_IDLE starts the fall of a domain within STEP
  (∀ (n : Nat) (s : State),
    (Instr.domainLowerIdle n).wf = true →
    nget s.hub.power.want n = 2 →
    (s.hub.reefOn = false ∨ s.hub.power.fall + 100 * hoistStep n ≤ s.hub.stepMw) →
    ∃ t, exec (.domainLowerIdle n) s = .next t ∧ t.hub.domState n = 3 ∧ nget t.hub.power.want n = 0 ∧
      t.hub.power.fall = s.hub.power.fall + 100 * hoistStep n) ∧
  -- DOMAIN_LOWER_ABANDON frees the NIs and refuses with REASON 6
  (∀ (n : Nat) (s : State),
    (Instr.domainLowerAbandon n).wf = true →
    nget s.hub.power.want n = 2 →
    nget s.hub.power.latch n = 0 →
    ∃ t, exec (.domainLowerAbandon n) s = .next t ∧ nget t.hub.power.want n = 0 ∧ nget t.hub.power.heldNi n = 0 ∧
      t.hub.get (R.PWR_DOM_REFUSED n) = 1 ∧ t.hub.get (R.PWR_DOM_REASON n) = 6 ∧ t.hub.domState n = s.hub.domState n) ∧
  -- DOMAIN_TRANSITION_COMPLETE of a rising domain leaves it ON, not PENDING
  (∀ (n : Nat) (s : State),
    (Instr.domainTransitionComplete n).wf = true →
    (n < 60 ∨ 68 ≤ n) →
    s.hub.domState n = 1 →
    nget s.hub.power.latch n = 0 →
    ∃ t, exec (.domainTransitionComplete n) s = .next t ∧ t.hub.domState n = 2 ∧ t.hub.get (R.PWR_DOM_PENDING n) = 0 ∧ t.mem = s.mem) ∧
  -- DOMAIN_TRANSITION_COMPLETE of a falling domain leaves it OFF, not PENDING
  (∀ (n : Nat) (s : State),
    (Instr.domainTransitionComplete n).wf = true →
    (n < 60 ∨ 68 ≤ n) →
    s.hub.domState n = 3 →
    nget s.hub.power.latch n = 0 →
    ∃ t, exec (.domainTransitionComplete n) s = .next t ∧ t.hub.domState n = 0 ∧ t.hub.get (R.PWR_DOM_PENDING n) = 0 ∧ t.mem = s.mem) ∧
  -- DOMAIN_TRANSITION_COMPLETE of a falling quad takes its Ethernet port DOWN with REASON 7 and its first lane OFF
  (∀ (n p : Nat) (s : State),
    (Instr.domainTransitionComplete n).wf = true →
    60 ≤ n →
    n < 68 →
    s.hub.domState n = 3 →
    nget s.hub.power.latch n = 0 →
    p < 32 →
    s.hub.portState p = 2 →
    s.hub.portMode p = 0 →
    (s.hub.quadsOf p).contains (n - 60) = true →
    ∃ t, exec (.domainTransitionComplete n) s = .next t ∧ t.hub.portState p = 3 ∧ t.hub.get (R.SER_PORT_STAT_REASON p) = 7 ∧ t.hub.laneState (4 * (n - 60)) = 0) ∧
  -- DOMAIN_FAILED in S2 of a unit's domain bars it and lowers it within STEP
  (∀ (n : Nat) (s : State),
    (Instr.domainFailed n).wf = true →
    s.hub.booting = true →
    s.hub.stage = 2 →
    s.hub.domState n = 1 →
    2 ≤ n →
    n < 50 →
    ∃ t, exec (.domainFailed n) s = .next t ∧ t.hub.domState n = (if s.hub.reefOn = true ∧ s.hub.stepMw < s.hub.power.fall + 100 * hoistStep n then 1 else 3) ∧
      nget t.hub.power.barred n = 8 ∧ t.mem = s.mem)

/-- Reef and the covenant: limits written, droop, the tick, waves, hold-up, PMBus and the core rail. Each clause says
where its command completes, and with what. What a definition named here takes from the log, not the spec, is the
model's choice: log entries 4, 16, 19, 20, 58. -/
def Obligations.CovenantAndReefAnswers : Prop :=
  -- COV_SLEW_WRITE unlocked stores both slews clamped to 250-1,000
  (∀ (req : Path) (v : Word) (s : State),
    (Instr.covSlewWrite req v).wf = true →
    req.holdsBlocks = true →
    s.hub.unlocked = true →
    ∃ t, exec (.covSlewWrite req v) s = .next t ∧ t.hub.get R.PWR_COV_SLEW_UP = clampNat 250 1000 (bitsOf v 0 12) ∧
      t.hub.get R.PWR_COV_SLEW_DN = clampNat 250 1000 (bitsOf v 16 12)) ∧
  -- COV_STEP_WRITE unlocked stores STEP up to 60 and GUARD up to STEP
  (∀ (req : Path) (v : Word) (s : State),
    (Instr.covStepWrite req v).wf = true →
    req.holdsBlocks = true →
    s.hub.unlocked = true →
    ∃ t, exec (.covStepWrite req v) s = .next t ∧ t.hub.get R.PWR_COV_STEP = min 60 (bitsOf v 0 7) ∧
      t.hub.get R.PWR_COV_STEP_GUARD = min (min 60 (bitsOf v 0 7)) (bitsOf v 8 7)) ∧
  -- REEF_ENABLE at level 2 sets ENABLE
  (∀ (req : Path) (v : Word) (s : State),
    (Instr.reefEnable req v).wf = true →
    req.holdsBlocks = true →
    2 ≤ s.hub.level →
    ∃ t, exec (.reefEnable req v) s = .next t ∧ t.hub.get R.PWR_REEF_CTRL_ENABLE = 1) ∧
  -- REEF_DISABLE at level 2 clears ENABLE
  (∀ (req : Path) (v : Word) (s : State),
    (Instr.reefDisable req v).wf = true →
    req.holdsBlocks = true →
    2 ≤ s.hub.level →
    ∃ t, exec (.reefDisable req v) s = .next t ∧ t.hub.get R.PWR_REEF_CTRL_ENABLE = 0) ∧
  -- REEF_DISABLE below level 2 leaves ENABLE
  (∀ (req : Path) (v : Word) (s : State),
    (Instr.reefDisable req v).wf = true →
    req.holdsBlocks = true →
    s.hub.level < 2 →
    ∃ t, exec (.reefDisable req v) s = .next t ∧ t.hub.get R.PWR_REEF_CTRL_ENABLE = s.hub.get R.PWR_REEF_CTRL_ENABLE) ∧
  -- REEF_TICK stores the two drop exposures, saturated
  (∀ (pin hubAbove stackTraffic sensedDrop knownDrop : Nat) (s : State),
    (Instr.reefTick pin hubAbove stackTraffic sensedDrop knownDrop).wf = true →
    ∃ t, exec (.reefTick pin hubAbove stackTraffic sensedDrop knownDrop) s = .next t ∧
      t.hub.get R.PWR_EXPO_XTOT = satNat 8 (hubAbove + (stackTraffic + s.hub.sitesFastDrop)) ∧
      t.hub.get R.PWR_EXPO_XSENSE = satNat 8 (stackTraffic + s.hub.sitesFastDrop)) ∧
  -- DROOP_TRIP above the trip of an unstretched island in an ON domain stretches it and counts
  (∀ (island sagMv : Nat) (s : State),
    (Instr.droopTrip island sagMv).wf = true →
    s.hub.get R.PWR_DROOP_TRIP_MV < sagMv →
    s.hub.domOn (domainOfIsland island) = true →
    s.hub.on (R.PWR_ISL_STRETCHED island) = false →
    s.hub.get (R.PWR_ISL_STRETCH_COUNT island) + 1 < 2 ^ (R.PWR_ISL_STRETCH_COUNT island).width →
    ∃ t, exec (.droopTrip island sagMv) s = .next t ∧ t.hub.get (R.PWR_ISL_STRETCHED island) = 1 ∧
      t.hub.get (R.PWR_ISL_STRETCH_COUNT island) = s.hub.get (R.PWR_ISL_STRETCH_COUNT island) + 1) ∧
  -- DROOP_RELEASE 10 mV below the trip ends the stretch
  (∀ (island sagMv : Nat) (s : State),
    (Instr.droopRelease island sagMv).wf = true →
    sagMv + 10 ≤ s.hub.get R.PWR_DROOP_TRIP_MV →
    ∃ t, exec (.droopRelease island sagMv) s = .next t ∧ t.hub.get (R.PWR_ISL_STRETCHED island) = 0 ∧ t.hub.power = s.hub.power) ∧
  -- EMERGENCY_LOWER_WAVE lowers the next wave and takes its steps as the fall in progress
  (∀ (w : List Nat) (ws : List (List Nat)) (s : State),
    s.hub.boot.pend ≠ 0 →
    s.hub.boot.zeroSent = true →
    s.hub.power.fall = 0 →
    s.hub.power.waves = w :: ws →
    ∃ t, exec .emergencyLowerWave s = .next t ∧ t.hub.power.waves = ws ∧ t.mem = s.mem ∧ t.hub.power.fall = w.foldl (fun a n => a + 100 * hoistStep n) 0) ∧
  -- VHOLD_READY above 48 V sets READY, VHOLD and LG_ARMED
  (∀ (mv : Nat) (s : State),
    (Instr.vholdReady mv).wf = true →
    s.hub.power.charger = true →
    ∃ t, exec (.vholdReady mv) s = .next t ∧ t.hub.get R.PWR_HOLD_READY = b2n (decide (4800 < mv)) ∧ t.hub.get R.PWR_HOLD_VHOLD = mv ∧
      t.hub.get R.YEW_STAT_LG_ARMED = b2n (decide (4800 < mv)) ∧ t.hub.power = s.hub.power) ∧
  -- PMBUS_POLL answered by a listed regulator ends its run of misses
  (∀ (answers : List (List Nat)) (n : Nat) (s : State),
    (Instr.pmbusPoll answers).wf = true →
    n < 16 →
    s.hub.get (R.PWR_PMB_DEV_ADDR n) ≠ 0 →
    answers.getD n [] ≠ [] →
    s.hub.pinsOut = false →
    ∃ t, exec (.pmbusPoll answers) s = .next t ∧ nget t.hub.power.missed n = 0 ∧ nget t.hub.power.silent n = 0 ∧
      (n, answers.getD n []) ∈ t.hub.power.readings) ∧
  -- VOUT_COMMAND moves VDD_CORE by 5 mV within 650-750 mV and sends it to the core regulator
  (∀ (up : Bool) (n : Nat) (s : State),
    (Instr.voutCommand up).wf = true →
    s.hub.coreRegulator = some n →
    2 ≤ s.hub.stage →
    650 ≤ (if up then s.hub.power.vdd + 5 else s.hub.power.vdd - 5) →
    (if up then s.hub.power.vdd + 5 else s.hub.power.vdd - 5) ≤ 750 →
    s.hub.power.vddAt + 10000 ≤ s.hub.clock →
    nget s.hub.power.missed n = 0 →
    ∃ t, exec (.voutCommand up) s = .next t ∧ t.hub.power.vdd = (if up then s.hub.power.vdd + 5 else s.hub.power.vdd - 5) ∧
      t.hub.out = (s.hub.pmbus n 0x21 (leBytes 2 (linear16 (if up then s.hub.power.vdd + 5 else s.hub.power.vdd - 5)))).out ∧
      t.hub.regs = s.hub.regs)

/-- Resets and reset pins: the keyed requests, warm and hub reset, PWRGOOD, PERST_N and the profile register. Each
clause says where its command completes, and with what. What a definition named here takes from the log, not the spec,
is the model's choice: log entries 18, 21. -/
def Obligations.ResetsAndPinsAnswer : Prop :=
  -- GLB_RST_WARM with the key pends a warm reset
  (∀ (req : Path) (v : Word) (s : State),
    (Instr.glbRstWarm req v).wf = true →
    req.holdsBlocks = true →
    bitsOf v 16 16 = 0xA55A →
    s.hub.pins.d0Reset = false →
    s.hub.boot.pend = 0 →
    ∃ t, exec (.glbRstWarm req v) s = .next t ∧ t.hub.boot.pend = 1 ∧ t.hub.regs = s.hub.regs) ∧
  -- GLB_RST_HUB with the key pends a hub reset
  (∀ (req : Path) (v : Word) (s : State),
    (Instr.glbRstHub req v).wf = true →
    req.holdsBlocks = true →
    bitsOf v 16 16 = 0xA55A →
    s.hub.pins.d0Reset = false →
    s.hub.boot.pend = 0 →
    ∃ t, exec (.glbRstHub req v) s = .next t ∧ t.hub.boot.pend = 2 ∧ t.hub.regs = s.hub.regs) ∧
  -- GLB_RST_HUB without the key pends none
  (∀ (req : Path) (v : Word) (s : State),
    (Instr.glbRstHub req v).wf = true →
    req.holdsBlocks = true →
    bitsOf v 16 16 ≠ 0xA55A →
    ∃ t, exec (.glbRstHub req v) s = .next t ∧ t.hub.boot = s.hub.boot) ∧
  -- WARM_RESET empties rings, waits and sites, clears COLD and keeps the fail record
  (∀ (s : State),
    s.hub.mayReset 1 = true →
    ∃ t, exec .warmReset s = .next t ∧ t.hub.rings = [] ∧ t.hub.cleat.waits = [] ∧ t.hub.sites = [] ∧ t.hub.get R.BOOT_PROFILE_COLD = 0 ∧
      t.hub.boot.pend = 0 ∧ t.hub.fail = s.hub.fail) ∧
  -- HUB_RESET does the same
  (∀ (s : State),
    s.hub.mayReset 2 = true →
    ∃ t, exec .hubReset s = .next t ∧ t.hub.rings = [] ∧ t.hub.cleat.waits = [] ∧ t.hub.sites = [] ∧ t.hub.get R.BOOT_PROFILE_COLD = 0 ∧
      t.hub.boot.pend = 0 ∧ t.hub.fail = s.hub.fail) ∧
  -- PERST_N_ASSERT with PWRGOOD high takes the link down and pends a warm reset
  (∀ (s : State),
    s.hub.pins.pwrgood = true →
    s.hub.pins.d0Reset = false →
    s.hub.boot.pend = 0 →
    ∃ t, exec .perstNAssert s = .next t ∧ t.hub.pins.perstN = false ∧ t.hub.pcie.linkUp = false ∧ t.hub.pcie.detect = false ∧ t.hub.boot.pend = 1) ∧
  -- PERST_N_DEASSERT raises the pin and lets the link detect, out of D0 reset
  (∀ (s : State),
    ∃ t, exec .perstNDeassert s = .next t ∧ t.hub.pins.perstN = true ∧ t.hub.pcie.detect = !s.hub.pins.d0Reset ∧ t.hub.regs = s.hub.regs) ∧
  -- PWRGOOD_FALL starts the low filter
  (∀ (s : State),
    s.hub.pins.pwrgood = true →
    ∃ t, exec .pwrgoodFall s = .next t ∧ t.hub.pins.pwrgood = false ∧ t.hub.pins.lowFilter = !s.hub.pins.d0Reset ∧ t.hub.regs = s.hub.regs) ∧
  -- PWRGOOD_LOW_FILTER_EXPIRY takes the last gasp and stops the charger
  (∀ (s : State),
    s.hub.pins.lowFilter = true →
    ∃ t, exec .pwrgoodLowFilterExpiry s = .next t ∧ t.hub.pins.lowFilter = false ∧ t.hub.pins.lgN = false ∧ t.hub.power.charger = false) ∧
  -- PWRGOOD_RISE out of D0 reset samples the straps, with rings empty and hub time 0
  (∀ (siteFit mtSel smbAddr : Nat) (s : State),
    (Instr.pwrgoodRise siteFit mtSel smbAddr).wf = true →
    s.hub.pins.pwrgood = false →
    s.hub.pins.d0Reset = true →
    ∃ t, exec (.pwrgoodRise siteFit mtSel smbAddr) s = .next t ∧ t.hub.pins.pwrgood = true ∧ t.hub.pins.d0Reset = false ∧
      t.hub.pins.smbAddr = smbAddr ∧ t.hub.get R.GLB_STRAP_SITE_FIT = siteFit ∧ t.hub.rings = [] ∧ t.hub.time.now = 0) ∧
  -- PWRGOOD_RISE within the filter changes only the pins
  (∀ (siteFit mtSel smbAddr : Nat) (s : State),
    (Instr.pwrgoodRise siteFit mtSel smbAddr).wf = true →
    s.hub.pins.pwrgood = false →
    s.hub.pins.d0Reset = false →
    ∃ t, exec (.pwrgoodRise siteFit mtSel smbAddr) s = .next t ∧ t.hub = { s.hub with pins := { s.hub.pins with pwrgood := true, lowFilter := false } }) ∧
  -- BOOT_PROFILE_WRITE before S3 stores NEXT, CUR and LBIST
  (∀ (req : Path) (v : Word) (s : State),
    (Instr.bootProfileWrite req v).wf = true →
    req.holdsBlocks = true →
    s.hub.stage < 3 →
    bitsOf v 0 2 ≠ 3 →
    bitsOf v 0 2 ≠ 0 →
    ∃ t, exec (.bootProfileWrite req v) s = .next t ∧ t.hub.get R.BOOT_PROFILE_NEXT = bitsOf v 8 2 ∧ t.hub.get R.BOOT_PROFILE_CUR = bitsOf v 0 2 ∧
      t.hub.get R.BOOT_PROFILE_LBIST = bitsOf v 4 1) ∧
  -- BOOT_PROFILE_WRITE from S6 on stores NEXT only
  (∀ (req : Path) (v : Word) (s : State),
    (Instr.bootProfileWrite req v).wf = true →
    req.holdsBlocks = true →
    6 ≤ s.hub.stage →
    ∃ t, exec (.bootProfileWrite req v) s = .next t ∧ t.hub.get R.BOOT_PROFILE_NEXT = bitsOf v 8 2 ∧
      t.hub.get R.BOOT_PROFILE_CUR = s.hub.get R.BOOT_PROFILE_CUR ∧ t.hub.get R.BOOT_PROFILE_LBIST = s.hub.get R.BOOT_PROFILE_LBIST)

/-- Bring-up S1 to S5: image choice, domains, LBIST, stack training, discovery, and the S1 limit. Each clause says
where its command completes, and with what. What a definition named here takes from the log, not the spec, is the
model's choice: log entry 22. -/
def Obligations.EarlyStagesRun : Prop :=
  -- STAGE_S1 boots the first good image of an allowed version
  (∀ (images : List (Bool × Nat)) (k : Nat) (s : State),
    (Instr.stageS1 images).wf = true →
    s.hub.mayEnter 1 = true →
    (s.hub.yew.slots.filter fun k => (images.getD k (false, 0)).1).find? (fun k => decide (s.hub.yew.rollback ≤ (images.getD k (false, 0)).2)) = some k →
    ∃ t, exec (.stageS1 images) s = .next t ∧ t.hub.stage = 1 ∧ t.hub.boot.slot = k ∧ t.hub.boot.version = (images.getD k (false, 0)).2 ∧
      t.hub.boot.done = true) ∧
  -- STAGE_S1 with no good image ends HALTED with REASON 2
  (∀ (images : List (Bool × Nat)) (s : State),
    (Instr.stageS1 images).wf = true →
    s.hub.mayEnter 1 = true →
    (s.hub.yew.slots.filter fun k => (images.getD k (false, 0)).1) = [] →
    ∃ t, exec (.stageS1 images) s = .next t ∧ t.hub.get R.GLB_RDY_OUTCOME = 3 ∧ t.hub.get R.BOOT_FAIL_REASON = 2 ∧ t.hub.ready = s.hub.ready) ∧
  -- STAGE_S2 requests the domains it hoists
  (∀ (n : Nat) (s : State),
    s.hub.mayEnter 2 = true →
    n ∈ s.hub.s2Domains →
    s.hub.domState n = 0 →
    ∃ t, exec .stageS2 s = .next t ∧ t.hub.stage = 2 ∧ nget t.hub.power.want n = 1) ∧
  -- STAGE_S3 without LBIST runs no slice
  (∀ (s : State),
    s.hub.mayEnter 3 = true →
    s.hub.on R.BOOT_PROFILE_LBIST = false →
    ∃ t, exec .stageS3 s = .next t ∧ t.hub.stage = 3 ∧ t.hub.boot.lbNext = 48) ∧
  -- STAGE_S3 with LBIST starts at slice 0
  (∀ (s : State),
    s.hub.mayEnter 3 = true →
    s.hub.on R.BOOT_PROFILE_LBIST = true →
    s.hub.sliceSkipped 0 = false →
    ∃ t, exec .stageS3 s = .next t ∧ t.hub.stage = 3 ∧ t.hub.boot.lbNext = 0 ∧
      t.hub.boot.lbRise = min 38 (max 2 (s.hub.get R.PWR_COV_STEP - s.hub.get R.PWR_COV_STEP_GUARD))) ∧
  -- LBIST_SLICE_END in budget and good records RESULT 1 and the signature
  (∀ (us sig : Nat) (good : Bool) (k : Nat) (s : State),
    (Instr.lbistSliceEnd us sig good).wf = true →
    s.hub.stage = 3 →
    s.hub.boot.lbNext = k →
    k < 48 →
    s.hub.booting = true →
    s.hub.stepAdmitted 5 k = true →
    good = true →
    us ≤ s.hub.boot.lbBudget →
    ∃ t, exec (.lbistSliceEnd us sig good) s = .next t ∧ t.hub.get (R.TEST_LBIST_RESULT k) = 1 ∧ t.hub.get (R.TEST_LBIST_SIG_LO k) = sig % 2 ^ 32) ∧
  -- LBIST_SLICE_TIMEOUT records RESULT 3 and signature 0
  (∀ (k : Nat) (s : State),
    s.hub.stage = 3 →
    s.hub.boot.lbNext = k →
    k < 48 →
    s.hub.booting = true →
    s.hub.stepAdmitted 5 k = true →
    ∃ t, exec .lbistSliceTimeout s = .next t ∧ t.hub.get (R.TEST_LBIST_RESULT k) = 3 ∧ t.hub.get (R.TEST_LBIST_SIG_LO k) = 0) ∧
  -- STAGE_S4 with six stacks of one capacity records it
  (∀ (present cap36 : Nat) (s : State),
    (Instr.stageS4 present cap36).wf = true →
    s.hub.mayEnter 4 = true →
    present = 63 →
    (cap36 = 0 ∨ cap36 = 63) →
    ∃ t, exec (.stageS4 present cap36) s = .next t ∧ t.hub.stage = 4 ∧ t.hub.get R.GLB_POP_STACK_CAP = (if cap36 = 63 then 2 else 1)) ∧
  -- STACK_TRAINING_COMPLETE with code 1 records lanes repaired and the rate, no higher than RATE_MAX
  (∀ (stack code chan rate lanes raaimt raammt pprGood : Nat) (s : State),
    (Instr.stackTrainingComplete stack code chan rate lanes raaimt raammt pprGood).wf = true →
    s.hub.stage = 4 →
    s.hub.booting = true →
    s.hub.boot.done = false →
    code = 1 →
    s.hub.boot.trained = [] →
    ∃ t, exec (.stackTrainingComplete stack code chan rate lanes raaimt raammt pprGood) s = .next t ∧ t.hub.get (R.MEM_TRAIN_CODE stack) = 1 ∧
      t.hub.get (R.MEM_STAT_LANES_REP stack) = lanes ∧ t.hub.get (R.MEM_STAT_RATE stack) = min rate (max 1 (s.hub.get (R.MEM_CFG_RATE_MAX stack)))) ∧
  -- STACK_TRAINING_COMPLETE with another code ends HALTED
  (∀ (stack code chan rate lanes raaimt raammt pprGood : Nat) (s : State),
    (Instr.stackTrainingComplete stack code chan rate lanes raaimt raammt pprGood).wf = true →
    s.hub.stage = 4 →
    s.hub.booting = true →
    s.hub.boot.done = false →
    code ≠ 1 →
    ∃ t, exec (.stackTrainingComplete stack code chan rate lanes raaimt raammt pprGood) s = .next t ∧ t.hub.get (R.MEM_TRAIN_CODE stack) = code ∧
      t.hub.get R.GLB_RDY_OUTCOME = 3) ∧
  -- STAGE_S5 puts each fitted site in discovery
  (∀ (k : Nat) (s : State),
    s.hub.mayEnter 5 = true →
    k < 4 →
    s.hub.siteFit k = true →
    s.hub.siteOut k = false →
    ∃ t, exec .stageS5 s = .next t ∧ t.hub.stage = 5 ∧ t.hub.get (R.YDL_DISC_PHASE k) = 1 ∧ t.hub.get (R.YDL_STAT_STATE k) = 1) ∧
  -- STAGE_LIMIT_EXPIRY of S1 without hold-up ends HALTED with REASON 4
  (∀ (s : State),
    s.hub.booting = true →
    s.hub.stageDone = false →
    s.hub.pins.d0Reset = false →
    s.hub.boot.pend = 0 →
    s.hub.stage = 1 →
    s.hub.on R.PWR_HOLD_READY = false →
    ∃ t, exec .stageLimitExpiry s = .next t ∧ t.hub.get R.GLB_RDY_OUTCOME = 3 ∧ t.hub.get R.BOOT_FAIL_REASON = 4 ∧ t.hub.get R.BOOT_FAIL_STAGE = 1)

/-- Bring-up S6 to S8: memory test and zero fill, the first map epoch, and the waves of compute-site power. Each
clause says where its command completes, and with what. What a definition named here takes from the log, not the spec,
is the model's choice: log entries 1, 14, 19, 24, 25. -/
def Obligations.MemoryTestAndWavesRun : Prop :=
  -- STAGE_S6 with a test profile starts element 0 of 5 and leaves stored data
  (∀ (s : State),
    s.hub.mayEnter 6 = true →
    s.hub.get R.BOOT_PROFILE_CUR ≠ 0 →
    ∃ t, exec .stageS6 s = .next t ∧ t.hub.stage = 6 ∧ t.hub.boot.elem = 0 ∧ t.hub.boot.elems = 5 ∧ t.hub.boot.done = false ∧ t.mem = s.mem) ∧
  -- STAGE_S6 in Skip with no failed granule zero fills everything
  (∀ (s : State),
    s.hub.mayEnter 6 = true →
    s.hub.get R.BOOT_PROFILE_CUR = 0 →
    s.hub.fail.grans = [] →
    ∃ t, exec .stageS6 s = .next t ∧ t.hub.stage = 6 ∧ t.hub.boot.done = true ∧ t.mem = Mem.reset) ∧
  -- MEMORY_TEST_ELEMENT_END goes on to the next element
  (∀ (banks : List Nat) (rows : List (Nat × Bool)) (entries : List (Nat × Nat × Nat × Nat)) (s : State),
    (Instr.memoryTestElementEnd banks rows entries).wf = true →
    s.hub.testing6 = true →
    s.hub.power.entry = 0 →
    s.hub.get R.TEST_HEDGE_STAT_STATE ≠ 3 →
    s.hub.boot.elem + 1 < s.hub.boot.elems →
    ∃ t, exec (.memoryTestElementEnd banks rows entries) s = .next t ∧ t.hub.boot.elem = s.hub.boot.elem + 1 ∧ t.mem = s.mem) ∧
  -- MEMORY_TEST_ELEMENT_END of the last element zero fills
  (∀ (banks : List Nat) (rows : List (Nat × Bool)) (entries : List (Nat × Nat × Nat × Nat)) (s : State),
    (Instr.memoryTestElementEnd banks rows entries).wf = true →
    s.hub.testing6 = true →
    s.hub.power.entry = 0 →
    s.hub.boot.elems ≤ s.hub.boot.elem + 1 →
    s.hub.fail.grans = [] →
    rows = [] →
    s.hub.boot.newFails = [] →
    ∃ t, exec (.memoryTestElementEnd banks rows entries) s = .next t ∧ t.hub.boot.done = true ∧ t.mem = Mem.reset ∧ t.hub.fail.complete = true) ∧
  -- STAGE_S7 adopts epoch 1
  (∀ (s : State),
    s.hub.mayEnter 7 = true →
    ∃ t, exec .stageS7 s = .next t ∧ t.hub.stage = 7 ∧ t.hub.get R.MAP_EPOCH_CUR = 1) ∧
  -- STAGE_S8 with no site up starts no wave
  (∀ (s : State),
    s.hub.mayEnter 8 = true →
    (List.range 4).filter s.hub.siteUp = [] →
    ∃ t, exec .stageS8 s = .next t ∧ t.hub.stage = 8 ∧ t.hub.boot.waves = []) ∧
  -- WAVE_GRANT of a ready site grants the next cores and is remembered as the last wave
  (∀ (site : Nat) (s : State),
    (Instr.waveGrant site).wf = true →
    s.hub.stage = 8 →
    s.hub.booting = true →
    s.hub.siteUp site = true →
    s.hub.negFlag site 3 = true →
    (s.hub.wave site).busy = false →
    s.hub.nextCores site ≠ 0 →
    s.hub.waveTime site = true →
    (s.hub.stepAdmitted 2 site = true ∨ s.hub.riseOk (s.hub.waveRise site) (s.hub.swapOf (s.hub.waveRise site)) 0 0 = true) →
    ∃ t, exec (.waveGrant site) s = .next t ∧ (t.hub.wave site).busy = true ∧ (t.hub.wave site).granted = (s.hub.wave site).granted + s.hub.nextCores site ∧
      t.hub.boot.lastWave = some (site, s.hub.clock)) ∧
  -- WAVE_DONE ends the wave and records the cores up
  (∀ (site up : Nat) (s : State),
    (Instr.waveDone site up).wf = true →
    s.hub.stage = 8 →
    (s.hub.wave site).busy = true →
    s.hub.siteUp site = true →
    s.hub.get (R.YDL_CREDIT_OWED site 1) + 1 ≤ 256 →
    ∃ t, exec (.waveDone site up) s = .next t ∧ (t.hub.wave site).busy = false ∧ (t.hub.wave site).up = up) ∧
  -- WAVE_TIMEOUT drops the site
  (∀ (site : Nat) (s : State),
    (Instr.waveTimeout site).wf = true →
    s.hub.stage = 8 →
    s.hub.siteUp site = true →
    s.hub.siteOut site = false →
    (s.hub.wave site).busy = true →
    ∃ t, exec (.waveTimeout site) s = .next t ∧ t.hub.get (R.YDL_STAT_STATE site) = 4)

/-- Bring-up S9 to S11: the firmware image, known answers and READY. Each clause says where its command completes, and
with what. What a definition named here takes from the log, not the spec, is the model's choice: log entry 27. -/
def Obligations.FirmwareAndReadyRun : Prop :=
  -- BOOT_FW_GO before S9 is kept, with SRC and WAIT_S
  (∀ (req : Path) (v : Word) (image : List Byte) (s : State),
    (Instr.bootFwGo req v image).wf = true →
    req.holdsBlocks = true →
    s.hub.stage < 9 →
    s.hub.on R.BOOT_STAT_WAIT_HOST = false →
    s.hub.boot.fwAddr = true →
    s.hub.boot.fwLen = true →
    ∃ t, exec (.bootFwGo req v image) s = .next t ∧ t.hub.boot.goHeld = true ∧ t.hub.get R.BOOT_FW_CTRL_SRC = bitsOf v 0 1 ∧
      t.hub.get R.BOOT_FW_CTRL_WAIT_S = bitsOf v 8 8 ∧ t.mem = s.mem) ∧
  -- BOOT_FW_GO while S9 waits and the PF may not master the bus takes the image when it may
  (∀ (req : Path) (v : Word) (image : List Byte) (s : State),
    (Instr.bootFwGo req v image).wf = true →
    req.holdsBlocks = true →
    s.hub.on R.BOOT_STAT_WAIT_HOST = true →
    s.hub.boot.fwAddr = true →
    s.hub.boot.fwLen = true →
    s.hub.fnRuns 0 = false →
    ∃ t, exec (.bootFwGo req v image) s = .next t ∧ t.hub.boot.fwDue = true ∧ t.hub.boot.image = image.take (s.hub.get R.BOOT_FW_LEN)) ∧
  -- BOOT_FW_GO while S9 waits and the PF may master the bus fetches the image
  (∀ (req : Path) (v : Word) (image : List Byte) (s : State),
    (Instr.bootFwGo req v image).wf = true →
    req.holdsBlocks = true →
    s.hub.on R.BOOT_STAT_WAIT_HOST = true →
    s.hub.boot.fwAddr = true →
    s.hub.boot.fwLen = true →
    s.hub.fnRuns 0 = true →
    ∃ t, exec (.bootFwGo req v image) s = .next t ∧ t.hub.boot.imgDone = true ∧ t.hub.get R.BOOT_STAT_WAIT_HOST = 0 ∧ t.hub.boot.image = image.take (s.hub.get R.BOOT_FW_LEN)) ∧
  -- FW_WAIT_TIMEOUT drops every live site and ends the wait
  (∀ (s : State),
    (s.hub.on R.BOOT_STAT_WAIT_HOST = true ∨ s.hub.boot.fwDue = true) →
    ∃ t, exec .fwWaitTimeout s = .next t ∧ t.hub.get R.BOOT_STAT_WAIT_HOST = 0 ∧ t.hub.boot.imgDone = true ∧ t.hub.boot.fwDue = false ∧
      ∀ k, k < 4 → s.hub.siteUp k = true → s.hub.siteOut k = false → t.hub.get (R.YDL_STAT_STATE k) = 4) ∧
  -- STAGE_S9 with SRC 1 and no GO waits for the host
  (∀ (image : List Byte) (s : State),
    (Instr.stageS9 image).wf = true →
    s.hub.mayEnter 9 = true →
    s.hub.on R.BOOT_FW_CTRL_SRC = true →
    s.hub.boot.goHeld = false →
    ∃ t, exec (.stageS9 image) s = .next t ∧ t.hub.stage = 9 ∧ t.hub.get R.BOOT_STAT_WAIT_HOST = 1 ∧ t.mem = s.mem) ∧
  -- STAGE_S9 with SRC 0 takes the image of the xSPI device
  (∀ (image : List Byte) (s : State),
    (Instr.stageS9 image).wf = true →
    s.hub.mayEnter 9 = true →
    s.hub.on R.BOOT_FW_CTRL_SRC = false →
    ∃ t, exec (.stageS9 image) s = .next t ∧ t.hub.stage = 9 ∧ t.hub.boot.image = image ∧ t.hub.boot.imgDone = true ∧ t.hub.get R.BOOT_STAT_WAIT_HOST = 0) ∧
  -- KAR_DIGEST equal to the directory's digest ends that site's known-answer run
  (∀ (site : Nat) (digest : List Byte) (s : State),
    (Instr.karDigest site digest).wf = true →
    s.hub.stage = 10 →
    s.hub.boot.karSites.contains site = true →
    digest = (s.hub.boot.image.drop (128 + 128 * (nget s.hub.boot.entryOf site - 1))).take 48 →
    s.hub.siteUp site = true →
    s.hub.get (R.YDL_CREDIT_OWED site 1) + 1 ≤ 256 →
    ∃ t, exec (.karDigest site digest) s = .next t ∧ t.hub.boot.karSites = (s.hub.boot.karSites.filter fun k => k != site) ∧ t.mem = s.mem) ∧
  -- STAGE_S10 runs every unit's known answer and tells the live sites
  (∀ (s : State),
    s.hub.mayEnter 10 = true →
    s.hub.boot.fwBad = [] →
    ∃ t, exec .stageS10 s = .next t ∧ t.hub.stage = 10 ∧ t.hub.boot.karLeft = karUnits ∧ t.hub.boot.karSites = (List.range 4).filter s.hub.siteUp) ∧
  -- STAGE_S10 drops a site whose image stream failed
  (∀ (k : Nat) (s : State),
    s.hub.mayEnter 10 = true →
    s.hub.boot.fwBad = [k] →
    k < 4 →
    s.hub.siteUp k = true →
    s.hub.siteOut k = false →
    ∃ t, exec .stageS10 s = .next t ∧ t.hub.stage = 10 ∧ t.hub.get (R.YDL_STAT_STATE k) = 4 ∧ t.hub.boot.karLeft = karUnits) ∧
  -- KNOWN_ANSWER_COMPLETE with a good answer takes that unit off the list
  (∀ (ty p : Nat) (good : Bool) (s : State),
    (Instr.knownAnswerComplete ty p good).wf = true →
    s.hub.stage = 10 →
    s.hub.booting = true →
    s.hub.boot.karLeft.contains (ty, p) = true →
    good = true →
    s.hub.boot.karBad = false →
    ∃ t, exec (.knownAnswerComplete ty p good) s = .next t ∧ t.hub.boot.karLeft = (s.hub.boot.karLeft.filter fun e => e != (ty, p)) ∧ t.hub.boot.karBad = false) ∧
  -- KNOWN_ANSWER_TIMEOUT of a tile or engine that is not the last leaves it Down
  (∀ (ty p : Nat) (s : State),
    (Instr.knownAnswerTimeout ty p).wf = true →
    s.hub.stage = 10 →
    s.hub.booting = true →
    s.hub.boot.karLeft.contains (ty, p) = true →
    ty ≤ 1 →
    s.hub.unitState ty 0 p ≤ 1 →
    (s.hub.boot.karLeft.filter fun e => e != (ty, p)) ≠ [] →
    ∃ t, exec (.knownAnswerTimeout ty p) s = .next t ∧ t.hub.boot.karBad = true ∧ t.hub.unitState ty 0 p = 2) ∧
  -- READY_SET sets READY at stage 11 with an outcome and FATAL_N high, then plans power
  (∀ (meas : List Nat) (hubStatic stackStatic : Nat) (s : State),
    (Instr.readySet meas hubStatic stackStatic).wf = true →
    s.hub.mayEnter 11 = true →
    ∃ t, exec (.readySet meas hubStatic stackStatic) s = .next t ∧ t.hub.ready = true ∧ t.hub.stage = 11 ∧ t.hub.pins.fatalN = true ∧
      t.hub.get R.GLB_RDY_OUTCOME = (if s.hub.get R.BOOT_FAIL_REASON = 0 ∧ s.hub.get R.BOOT_MT_STAT_FAILS = 0 then 1 else 2)) ∧
  -- READINESS_PEND_SEND sends the pending readiness vector and clears PEND
  (∀ (s : State),
    s.hub.on R.GLB_RDY_PEND = true →
    nget s.hub.pcie.msixEn 0 = 1 →
    s.hub.vecMasked 0 (s.hub.get R.BOOT_IRQ_VEC % 264) = false →
    s.hub.fnRuns 0 = true →
    ∃ t, exec .readinessPendSend s = .next t ∧ t.hub.get R.GLB_RDY_PEND = 0 ∧ t.hub.out = Out.msix 0 (s.hub.get R.BOOT_IRQ_VEC % 264) :: s.hub.out)

/-- The map: lookups and commands to retire and readmit units. Each clause says where its command completes, and with
what. What a definition named here takes from the log, not the spec, is the model's choice: log entries 28, 30. -/
def Obligations.MapCommandsAnswer : Prop :=
  -- MAP_LOOKUP of a live logical unit answers its physical unit, VALID 1
  (∀ (req : Path) (v : Word) (l p site : Nat) (s : State),
    (Instr.mapLookup req v).wf = true →
    req.holdsBlocks = true →
    l = bitsOf v 0 11 →
    bitsOf v 12 3 < 4 →
    site = (if bitsOf v 12 3 = 3 then bitsOf v 16 2 else 0) →
    l < s.hub.logicalCount (bitsOf v 12 3) site →
    s.hub.physOf (bitsOf v 12 3) site l = some p →
    ∃ t, exec (.mapLookup req v) s = .next t ∧ t.hub.get R.MAP_LOOKUP_PHYS = p ∧ t.hub.get R.MAP_LOOKUP_VALID = 1 ∧ t.hub.map = s.hub.map) ∧
  -- MAP_LOOKUP beyond the count answers 0, VALID 0
  (∀ (req : Path) (v : Word) (s : State),
    (Instr.mapLookup req v).wf = true →
    req.holdsBlocks = true →
    bitsOf v 12 3 < 3 →
    s.hub.logicalCount (bitsOf v 12 3) 0 ≤ bitsOf v 0 11 →
    ∃ t, exec (.mapLookup req v) s = .next t ∧ t.hub.get R.MAP_LOOKUP_PHYS = 0 ∧ t.hub.get R.MAP_LOOKUP_VALID = 0) ∧
  -- MAP_CMD_RETIRE of a tile or engine with a spare queues the change and is BUSY
  (∀ (req : Path) (v : Word) (p q : Nat) (s : State),
    (Instr.mapCmdRetire req v).wf = true →
    req.holdsBlocks = true →
    s.hub.map.cmd = none →
    s.hub.ready = true →
    bitsOf v 4 3 ≤ 1 →
    bitsOf v 8 1 = 0 →
    bitsOf v 16 11 < s.hub.logicalCount (bitsOf v 4 3) 0 →
    s.hub.physOf (bitsOf v 4 3) 0 (bitsOf v 16 11) = some p →
    pickSpare (bitsOf v 4 3) (bitsOf v 16 11 / perGroup (bitsOf v 4 3)) (s.hub.spares (bitsOf v 4 3) 0) = some q →
    ∃ t, exec (.mapCmdRetire req v) s = .next t ∧ t.hub.map.cmd = some ({ join := false, type := bitsOf v 4 3, site := 0, phys := p, logical := bitsOf v 16 11, spare := q, abort := bitsOf v 7 1 == 1, discard := false, phase := 2 } : MapCmd) ∧
      t.hub.map.changes = s.hub.map.changes ++ [({ join := false, type := bitsOf v 4 3, site := 0, phys := p, logical := bitsOf v 16 11, spare := q, cause := 5, abort := bitsOf v 7 1 == 1, byCmd := true } : MapChange)] ∧ t.hub.get R.MAP_CMD_STAT_BUSY = 1) ∧
  -- MAP_CMD_RETIRE of a bank first copies, with no change queued yet
  (∀ (req : Path) (v : Word) (p q : Nat) (s : State),
    (Instr.mapCmdRetire req v).wf = true →
    req.holdsBlocks = true →
    s.hub.map.cmd = none →
    s.hub.ready = true →
    bitsOf v 4 3 = 2 →
    bitsOf v 8 1 = 0 →
    bitsOf v 9 1 = 0 →
    bitsOf v 16 11 < s.hub.logicalCount 2 0 →
    s.hub.physOf 2 0 (bitsOf v 16 11) = some p →
    pickSpare 2 (bitsOf v 16 11 / perGroup 2) (s.hub.spares 2 0) = some q →
    ∃ t, exec (.mapCmdRetire req v) s = .next t ∧ t.hub.map.cmd = some ({ join := false, type := 2, site := 0, phys := p, logical := bitsOf v 16 11, spare := q, abort := bitsOf v 7 1 == 1, discard := false, phase := 0 } : MapCmd) ∧
      t.hub.map.changes = s.hub.map.changes ∧ t.hub.get R.MAP_CMD_STAT_BUSY = 1) ∧
  -- MAP_CMD_RETIRE before READY ends with STATUS 5
  (∀ (req : Path) (v : Word) (s : State),
    (Instr.mapCmdRetire req v).wf = true →
    req.holdsBlocks = true →
    s.hub.map.cmd = none →
    s.hub.ready = false →
    ∃ t, exec (.mapCmdRetire req v) s = .next t ∧ t.hub.get R.MAP_CMD_STAT_STATUS = 5 ∧ t.hub.get R.MAP_CMD_STAT_BUSY = 0 ∧ t.hub.map = s.hub.map) ∧
  -- BANK_COPY_COMPLETE queues the bank's change
  (∀ (x : MapCmd) (s : State),
    s.hub.map.cmd = some x →
    x.join = false →
    x.type = 2 →
    x.phase = 0 →
    ∃ t, exec .bankCopyComplete s = .next t ∧ t.hub.map.cmd = some { x with phase := 2 } ∧ t.hub.map.changes = s.hub.map.changes ++ [x.change]) ∧
  -- MAP_CMD_READMIT of a Retired unit starts its quarantine and is BUSY
  (∀ (req : Path) (v : Word) (p : Nat) (s : State),
    (Instr.mapCmdReadmit req v).wf = true →
    req.holdsBlocks = true →
    s.hub.map.cmd = none →
    s.hub.ready = true →
    bitsOf v 4 3 ≤ 2 →
    p = bitsOf v 16 11 →
    p < unitCount (bitsOf v 4 3) →
    s.hub.unitState (bitsOf v 4 3) 0 p = 2 →
    s.hub.get (R.PWR_DOM_REQ (unitDomain (bitsOf v 4 3) 0 p)) ≠ 2 →
    nget s.hub.power.barred (unitDomain (bitsOf v 4 3) 0 p) = 0 →
    ∃ t, exec (.mapCmdReadmit req v) s = .next t ∧ t.hub.unitState (bitsOf v 4 3) 0 p = 3 ∧ t.hub.get R.MAP_CMD_STAT_BUSY = 1 ∧
      t.hub.map.cmd = some ({ join := true, type := bitsOf v 4 3, site := 0, phys := p, logical := 0x7FF, spare := 0x7FF, abort := false, discard := false, phase := 3 } : MapCmd))

/-- Map epochs and readmission: adoption, drain, quarantine and the test of a returning unit. Each clause says where
its command completes, and with what. What a definition named here takes from the log, not the spec, is the model's
choice: log entries 19, 30, 40. -/
def Obligations.MapEpochsAdopt : Prop :=
  -- MAP_EPOCH_ADOPT of one tile retirement raises the epoch, drains, retires the unit and makes the spare Live in its place
  (∀ (old : Nat) (x : MapChange) (s : State),
    (Instr.mapEpochAdopt old).wf = true →
    s.hub.map.changes = [x] →
    s.hub.on R.MAP_EPOCH_STAT_DRAIN = false →
    s.hub.on R.MAP_EPOCH_CUR = true →
    s.hub.get R.MAP_EPOCH_CUR + 1 < 2 ^ (R.MAP_EPOCH_CUR).width →
    x.join = false →
    x.type = 0 →
    x.abort = false →
    x.phys < 68 →
    x.spare < 68 →
    x.phys ≠ x.spare →
    x.logical < 64 →
    ∃ t, exec (.mapEpochAdopt old) s = .next t ∧ t.hub.get R.MAP_EPOCH_CUR = s.hub.get R.MAP_EPOCH_CUR + 1 ∧
      t.hub.get R.MAP_EPOCH_STAT_DRAIN = 1 ∧ t.hub.get R.MAP_EPOCH_STAT_OLD_TXN = satNat 16 (old + s.hub.dir.ncs.length) ∧ t.hub.map.changes = [] ∧
      t.hub.unitState 0 x.site x.phys = 2 ∧ t.hub.unitState 0 0 x.spare = 0 ∧ t.hub.unitLogical 0 0 x.spare = x.logical) ∧
  -- MAP_DRAIN_TIMEOUT against a ring faults and resets it
  (∀ (cls unit : Nat) (s : State),
    (Instr.mapDrainTimeout cls unit).wf = true →
    cls = 1 →
    s.hub.on R.MAP_EPOCH_STAT_DRAIN = true →
    (s.hub.ringState unit = 1 ∨ s.hub.ringState unit = 3) →
    ∃ t, exec (.mapDrainTimeout cls unit) s = .next t ∧ t.hub.ringState unit = 2 ∧ t.hub.get (R.RING_STAT_FAULTED unit) = 1) ∧
  -- MAP_EPOCH_DRAIN_END ends the drain and nothing of the map changes
  (∀ (s : State),
    s.hub.oldHeld = false →
    ∃ t, exec .mapEpochDrainEnd s = .next t ∧ t.hub.get R.MAP_EPOCH_STAT_DRAIN = 0 ∧ t.hub.get R.MAP_EPOCH_STAT_OLD_TXN = 0 ∧
      t.hub.map = { s.hub.map with left := none } ∧ t.mem = s.mem) ∧
  -- QUARANTINE_END of a unit whose domain is ON starts its test
  (∀ (c : MapCmd) (s : State),
    s.hub.readmitting 3 = some c →
    c.type ≤ 2 →
    c.phys < unitCount c.type →
    s.hub.domOn (unitDomain c.type c.site c.phys) = true →
    (s.hub.stepAdmitted 6 0 = true ∨ s.hub.riseOk (Config.testMw c.type) (s.hub.swapOf (Config.testMw c.type)) (Config.testMw c.type) 0 = true) →
    ∃ t, exec .quarantineEnd s = .next t ∧ t.hub.unitState c.type c.site c.phys = 4 ∧ t.hub.map.cmd = some { c with phase := 4 }) ∧
  -- READMISSION_TEST_END passed queues the join
  (∀ (pass : Bool) (c : MapCmd) (s : State),
    (Instr.readmissionTestEnd pass).wf = true →
    pass = true →
    s.hub.readmitting 4 = some c →
    c.type ≤ 2 →
    c.phys < unitCount c.type →
    ∃ t, exec (.readmissionTestEnd pass) s = .next t ∧ t.hub.unitState c.type c.site c.phys = 5 ∧ t.hub.map.cmd = some { c with phase := 2 } ∧
      t.hub.map.changes = s.hub.map.changes ++ [c.change]) ∧
  -- READMISSION_TEST_END failed retires the unit with cause 7, counts, and ends with STATUS 10
  (∀ (pass : Bool) (c : MapCmd) (s : State),
    (Instr.readmissionTestEnd pass).wf = true →
    pass = false →
    s.hub.readmitting 4 = some c →
    c.type ≤ 2 →
    c.phys < unitCount c.type →
    ∃ t, exec (.readmissionTestEnd pass) s = .next t ∧ t.hub.unitState c.type c.site c.phys = 2 ∧
      t.hub.get ⟨unitOff c.type c.site c.phys, 4, 4⟩ = 7 ∧
      t.hub.get ⟨unitOff c.type c.site c.phys, 12, 4⟩ = min 15 (s.hub.get ⟨unitOff c.type c.site c.phys, 12, 4⟩ + 1) ∧
      t.hub.map.cmd = none ∧ t.hub.get R.MAP_CMD_STAT_STATUS = 10) ∧
  -- READMISSION_TEST_TIMEOUT does the same
  (∀ (c : MapCmd) (s : State),
    s.hub.readmitting 4 = some c →
    c.type ≤ 2 →
    c.phys < unitCount c.type →
    ∃ t, exec .readmissionTestTimeout s = .next t ∧ t.hub.unitState c.type c.site c.phys = 2 ∧
      t.hub.get ⟨unitOff c.type c.site c.phys, 4, 4⟩ = 7 ∧
      t.hub.get ⟨unitOff c.type c.site c.phys, 12, 4⟩ = min 15 (s.hub.get ⟨unitOff c.type c.site c.phys, 12, 4⟩ + 1) ∧
      t.hub.map.cmd = none ∧ t.hub.get R.MAP_CMD_STAT_STATUS = 10)

/-- The PCIe function: link, configuration, errors, bus mastering, vectors and virtual functions. Each clause says
where its command completes, and with what. What a definition named here takes from the log, not the spec, is the
model's choice: log entries 13, 32, 33, 59. -/
def Obligations.HostLinkAnswers : Prop :=
  -- CONFIG_REQUEST for the ID answers it
  (∀ (fn : Nat) (s : State),
    (Instr.configRequest fn .readId).wf = true →
    s.hub.pcie.linkUp = true →
    ∃ t, exec (.configRequest fn .readId) s = .next t ∧ t.hub = s.hub.send (.completion fn 0 (leBytes 4 (configId fn))) ∧ t.mem = s.mem) ∧
  -- CONFIG_REQUEST for a field answers its value
  (∀ (fn : Nat) (f : CfgField) (s : State),
    (Instr.configRequest fn (.read f)).wf = true →
    s.hub.pcie.linkUp = true →
    ∃ t, exec (.configRequest fn (.read f)) s = .next t ∧ t.hub = s.hub.send (.completion fn 0 (leBytes 4 (s.hub.cfgRead fn f))) ∧ t.mem = s.mem) ∧
  -- CONFIG_REQUEST that writes a field stores it
  (∀ (fn : Nat) (f : CfgField) (v : Word) (s : State),
    (Instr.configRequest fn (.write f v)).wf = true →
    s.hub.pcie.linkUp = true →
    cfgWidth f ≠ 0 →
    ∃ t, exec (.configRequest fn (.write f v)) s = .next t ∧ t.hub.cfgHeld fn f = v.toNat % 2 ^ cfgWidth f ∧ Out.completion fn 0 [] ∈ t.hub.out ∧ t.hub.regs = s.hub.regs ∧ t.mem = s.mem) ∧
  -- CONFIG_REQUEST of MSI-X control sets enable and function mask
  (∀ (fn : Nat) (en msk : Bool) (s : State),
    (Instr.configRequest fn (.msix en msk)).wf = true →
    s.hub.pcie.linkUp = true →
    ∃ t, exec (.configRequest fn (.msix en msk)) s = .next t ∧ nget t.hub.pcie.msixEn fn = b2n en ∧ nget t.hub.pcie.fmask fn = b2n msk ∧ Out.completion fn 0 [] ∈ t.hub.out ∧ t.mem = s.mem) ∧
  -- PCIE_LINK_UP records rate, width and flit mode
  (∀ (rate width : Nat) (flit : Bool) (s : State),
    (Instr.pcieLinkUp rate width flit).wf = true →
    s.hub.pcie.detect = true →
    s.hub.pinsOut = false →
    s.hub.domOn 68 = true →
    ∃ t, exec (.pcieLinkUp rate width flit) s = .next t ∧ t.hub.pcie.linkUp = true ∧ t.hub.get R.GLB_PCIE_STAT_RATE = rate ∧ t.hub.get R.GLB_PCIE_STAT_WIDTH = width ∧
      t.hub.get R.GLB_PCIE_STAT_FLIT = b2n (flit || rate == 6) ∧ t.mem = s.mem) ∧
  -- MALFORMED_TLP sets its AER bit, Malformed or Receiver Overflow
  (∀ (fn : Nat) (overflow : Bool) (s : State),
    (Instr.malformedTlp ⟨fn, overflow⟩).wf = true →
    ∃ t, exec (.malformedTlp ⟨fn, overflow⟩) s = .next t ∧ bit (nget t.hub.pcie.aer fn) (if overflow then 6 else 5) = true ∧ t.hub.regs = s.hub.regs ∧ t.mem = s.mem) ∧
  -- POISONED_TLP_RECEIVED sets its AER bit, no register
  (∀ (fn : Nat) (s : State),
    (Instr.poisonedTlpReceived fn).wf = true →
    ∃ t, exec (.poisonedTlpReceived fn) s = .next t ∧ bit (nget t.hub.pcie.aer fn) 2 = true ∧ t.hub.regs = s.hub.regs ∧ t.mem = s.mem) ∧
  -- UNSUPPORTED_REQUEST sets its AER bit and answers UR unless posted
  (∀ (fn : Nat) (posted : Bool) (s : State),
    (Instr.unsupportedRequest fn posted).wf = true →
    ∃ t, exec (.unsupportedRequest fn posted) s = .next t ∧ bit (nget t.hub.pcie.aer fn) 1 = true ∧ t.hub.out = (if posted then s.hub.out else Out.completion fn 1 [] :: s.hub.out) ∧ t.hub.regs = s.hub.regs ∧ t.mem = s.mem) ∧
  -- VF_ENABLE_CHANGE stores VF Enable and NumVFs
  (∀ (enable : Bool) (num : Nat) (s : State),
    (Instr.vfEnableChange enable num).wf = true →
    ∃ t, exec (.vfEnableChange enable num) s = .next t ∧ t.hub.pcie.vfEn = enable ∧ t.hub.pcie.numVfs = num) ∧
  -- VF_WINDOW_WRITE with the VF's rings disabled stores the word's fields
  (∀ (req : Path) (k w : Nat) (v : Word) (s : State),
    (Instr.vfWindowWrite req k w v).wf = true →
    req.holdsBlocks = true →
    s.hub.vfIdle k = true →
    ∃ t, exec (.vfWindowWrite req k w v) s = .next t ∧ t.hub.reg (0x200 + 0x10 * k + 4 * w) = v &&& vfWinMask w) ∧
  -- BUS_MASTER_DISABLE stops the function and changes no register or ring
  (∀ (fn : Nat) (d3hot : Bool) (s : State),
    (Instr.busMasterDisable fn d3hot).wf = true →
    ∃ t, exec (.busMasterDisable fn d3hot) s = .next t ∧ t.hub.fnRuns fn = false ∧ t.hub.regs = s.hub.regs ∧ t.hub.out = s.hub.out ∧ t.hub.rings = s.hub.rings) ∧
  -- BUS_MASTER_ENABLE lets the function run
  (∀ (fn : Nat) (s : State),
    (Instr.busMasterEnable fn).wf = true →
    s.hub.boot.fwDue = false →
    ∃ t, exec (.busMasterEnable fn) s = .next t ∧ t.hub.fnRuns fn = true ∧ t.mem = s.mem) ∧
  -- VECTOR_UNMASK of a pending PF vector sends it and clears PEND
  (∀ (fn vec : Nat) (s : State),
    (Instr.vectorUnmask fn vec).wf = true →
    fn = 0 →
    s.hub.vecPending 0 vec = true →
    nget s.hub.pcie.msixEn 0 = 1 →
    nget s.hub.pcie.fmask 0 = 0 →
    s.hub.fnRuns 0 = true →
    ∃ t, exec (.vectorUnmask fn vec) s = .next t ∧ t.hub.get (R.MSIX_CTRL_MASK vec) = 0 ∧ t.hub.vecPending 0 vec = false ∧ t.hub.out = Out.msix 0 vec :: s.hub.out) ∧
  -- VECTOR_UNMASK of a VF's vector with nothing pending clears its mask and sends nothing
  (∀ (fn vec : Nat) (s : State),
    (Instr.vectorUnmask fn vec).wf = true →
    0 < fn →
    s.hub.vecPending fn vec = false →
    ∃ t, exec (.vectorUnmask fn vec) s = .next t ∧ bitsOf (Store.get vfTableReset t.hub.pcie.vfTable (32 * (fn - 1) + 4 * vec + 3)) 0 1 = 0 ∧ t.hub.out = s.hub.out ∧ t.hub.regs = s.hub.regs) ∧
  -- MODERATION_TIMER_EXPIRY with completions pending sends the ring's vector
  (∀ (n : Nat) (s : State),
    (Instr.moderationTimerExpiry n).wf = true →
    (s.hub.ring n).timer = true →
    0 < (s.hub.ring n).pend →
    s.hub.ringFn n = 0 →
    nget s.hub.pcie.msixEn 0 = 1 →
    s.hub.vecMasked 0 ((s.hub.ring n).vec % 264) = false →
    s.hub.fnRuns 0 = true →
    ∃ t, exec (.moderationTimerExpiry n) s = .next t ∧ (t.hub.ring n).timer = false ∧ (t.hub.ring n).pend = 0 ∧
      t.hub.out = Out.msix 0 ((s.hub.ring n).vec % 264) :: s.hub.out ∧ t.hub.regs = s.hub.regs)

/-- Host and non-caching access to stored data, and the coherent windows. Each clause says where its command
completes, and with what. What a definition named here takes from the log, not the spec, is the model's choice: log
entries 13, 33, 37. -/
def Obligations.HostDataAndWindows : Prop :=
  -- BAR4_READ of clean DRAM answers its bytes
  (∀ (off n a : Nat) (s : State),
    (Instr.bar4Read off n).wf = true →
    s.hub.ready = true →
    s.hub.bar4 off = .dram a →
    s.mem.dramErr = [] →
    ∃ t, exec (.bar4Read off n) s = .next t ∧ Out.completion 0 0 (s.mem.bytes 0 a n) ∈ t.hub.out ∧ t.mem = s.mem) ∧
  -- BAR4_READ of clean buffer answers its bytes
  (∀ (off n b : Nat) (s : State),
    (Instr.bar4Read off n).wf = true →
    s.hub.ready = true →
    s.hub.bar4 off = .buffer b →
    s.hub.inScratch b n = false →
    s.hub.rangeFree false b n = true →
    s.mem.bufErr = [] →
    ∃ t, exec (.bar4Read off n) s = .next t ∧ Out.completion 0 0 (s.mem.bytes 1 b n) ∈ t.hub.out ∧ t.mem = s.mem) ∧
  -- BAR4_READ of an offset that backs nothing answers zeros
  (∀ (off n : Nat) (s : State),
    (Instr.bar4Read off n).wf = true →
    s.hub.ready = true →
    s.hub.bar4 off = .nowhere →
    ∃ t, exec (.bar4Read off n) s = .next t ∧ t.hub = s.hub.send (.completion 0 0 (zeros n)) ∧ t.mem = s.mem) ∧
  -- BAR4_WRITE to clean DRAM stores exactly its bytes
  (∀ (off a : Nat) (data : List Byte) (s : State),
    (Instr.bar4Write off data).wf = true →
    s.hub.ready = true →
    s.hub.bar4 off = .dram a →
    s.mem.dramErr = [] →
    s.hub.on R.RAS_FLIP_CTRL_ARM = false →
    ∃ t, exec (.bar4Write off data) s = .next t ∧ t.mem.bytes 0 a data.length = data ∧
      ∀ sp x, ¬ (sp = 0 ∧ a ≤ x ∧ x < a + data.length) → t.mem.byte sp x = s.mem.byte sp x) ∧
  -- NON_CACHING_READ of clean buffer answers its bytes and leaves the directory
  (∀ (req off n : Nat) (s : State),
    (Instr.nonCachingRead req off n).wf = true →
    s.hub.dir.gather = [] →
    s.sameDecision (.nonCachingRead req off n) = false →
    req < 32 →
    off + n ≤ s.hub.bufSize →
    s.hub.rangeFree false off n = true →
    s.mem.bufErr = [] →
    ∃ t, exec (.nonCachingRead req off n) s = .next t ∧ t.hub.out = Out.completion req 0 (s.mem.bytes 1 off n) :: s.hub.out ∧ t.mem = s.mem ∧ t.hub.dir = s.hub.dir) ∧
  -- NON_CACHING_WRITE to clean buffer stores exactly its bytes
  (∀ (req off : Nat) (data : List Byte) (s : State),
    (Instr.nonCachingWrite req off data).wf = true →
    s.hub.dir.gather = [] →
    s.sameDecision (.nonCachingWrite req off data) = false →
    off + data.length ≤ s.hub.bufSize →
    s.hub.rangeFree true off data.length = true →
    s.mem.bufErr = [] →
    s.hub.on R.RAS_FLIP_CTRL_ARM = false →
    ∃ t, exec (.nonCachingWrite req off data) s = .next t ∧ t.mem.bytes 1 off data.length = data ∧
      ∀ sp x, ¬ (sp ≠ 0 ∧ off ≤ x ∧ x < off + data.length) → t.mem.byte sp x = s.mem.byte sp x) ∧
  -- WINDOW_ENABLE of a sound window puts it ENABLING and leaves ERR
  (∀ (req : Path) (w : Nat) (s : State),
    (Instr.windowEnable req w).wf = true →
    req.holdsBlocks = true →
    s.hub.get (R.BUF_WIN2_STATE w) = 0 →
    s.hub.winErr w = 0 →
    ∃ t, exec (.windowEnable req w) s = .next t ∧ t.hub.get (R.BUF_WIN2_STATE w) = 1 ∧ t.hub.get (R.BUF_WIN2_ERR w) = s.hub.get (R.BUF_WIN2_ERR w) ∧ t.mem = s.mem) ∧
  -- WINDOW_ENABLE of an unsound window leaves it OFF with its ERR code
  (∀ (req : Path) (w : Nat) (s : State),
    (Instr.windowEnable req w).wf = true →
    req.holdsBlocks = true →
    s.hub.get (R.BUF_WIN2_STATE w) = 0 →
    s.hub.winErr w ≠ 0 →
    ∃ t, exec (.windowEnable req w) s = .next t ∧ t.hub.get (R.BUF_WIN2_STATE w) = 0 ∧ t.hub.get (R.BUF_WIN2_ERR w) = s.hub.winErr w) ∧
  -- WINDOW_ENABLE_COMPLETE puts it ON
  (∀ (w : Nat) (s : State),
    (Instr.windowEnableComplete w).wf = true →
    s.hub.get (R.BUF_WIN2_STATE w) = 1 →
    ∃ t, exec (.windowEnableComplete w) s = .next t ∧ t.hub.get (R.BUF_WIN2_STATE w) = 2 ∧ t.mem = s.mem ∧ t.hub.sites = s.hub.sites) ∧
  -- WINDOW_DISABLE puts it DISABLING
  (∀ (req : Path) (w : Nat) (s : State),
    (Instr.windowDisable req w).wf = true →
    req.holdsBlocks = true →
    s.hub.get (R.BUF_WIN2_STATE w) = 2 →
    ∃ t, exec (.windowDisable req w) s = .next t ∧ t.hub.get (R.BUF_WIN2_STATE w) = 3) ∧
  -- WINDOW_DISABLE_COMPLETE of a clear window puts it OFF
  (∀ (w : Nat) (s : State),
    (Instr.windowDisableComplete w).wf = true →
    s.hub.get (R.BUF_WIN2_STATE w) = 3 →
    s.hub.winClear w = true →
    ∃ t, exec (.windowDisableComplete w) s = .next t ∧ t.hub.get (R.BUF_WIN2_STATE w) = 0 ∧ t.mem = s.mem) ∧
  -- DIR_QUERY of a shared line answers SHARED, its sharers and its slice
  (∀ (req : Path) (v : Word) (i : Nat) (s : State),
    (Instr.dirQuery req v).wf = true →
    req.holdsBlocks = true →
    s.hub.cohIndex (bitsOf v 6 23) = some i →
    s.hub.entry i < 32 →
    s.hub.entry i ≠ 0 →
    ∃ t, exec (.dirQuery req v) s = .next t ∧ t.hub.get R.BUF_DIR_RESULT_STATE = 1 ∧ t.hub.get R.BUF_DIR_RESULT_MASK = dirMask (s.hub.entry i) % 16 ∧
      t.hub.get R.BUF_DIR_RESULT_SLICE = dirSlice i % 16 ∧ t.mem = s.mem)

/-- Rings: ownership, enable, doorbells, release, reset and function-level reset. Each clause says where its command
completes, and with what. What a definition named here takes from the log, not the spec, is the model's choice: log
entries 31, 32. -/
def Obligations.RingsRun : Prop :=
  -- RING_OWNER_WRITE of an allowed owner stores function and local number
  (∀ (req : Path) (n : Nat) (v : Word) (s : State),
    (Instr.ringOwnerWrite req n v).wf = true →
    req.holdsBlocks = true →
    s.hub.ownerOk n (bitsOf v 0 5) (bitsOf v 8 6) = true →
    ∃ t, exec (.ringOwnerWrite req n v) s = .next t ∧ t.hub.ringFn n = bitsOf v 0 5 ∧ t.hub.get (R.RING_OWNER_LOCAL n) = bitsOf v 8 6) ∧
  -- RING_OWNER_WRITE while ENABLE is 1 leaves the owner
  (∀ (req : Path) (n : Nat) (v : Word) (s : State),
    (Instr.ringOwnerWrite req n v).wf = true →
    req.holdsBlocks = true →
    s.hub.get (R.RING_CTRL_ENABLE n) = 1 →
    ∃ t, exec (.ringOwnerWrite req n v) s = .next t ∧ t.hub.ringFn n = s.hub.ringFn n ∧ t.hub.rings = s.hub.rings) ∧
  -- RING_ENABLE of a sound OFF ring makes it ACTIVE with pointers 0 and PHASE 1
  (∀ (req : Path) (n : Nat) (s : State),
    (Instr.ringEnable req n).wf = true →
    req = .pf →
    s.hub.ringFn n = 0 →
    s.hub.ringState n = 0 →
    s.hub.sizesOk n = true →
    ∃ t, exec (.ringEnable req n) s = .next t ∧ t.hub.ringState n = 1 ∧ t.hub.get (R.RING_CTRL_ENABLE n) = 1 ∧ t.hub.get (R.RING_SQ_PTR_SQ_HEAD n) = 0 ∧
      t.hub.get (R.RING_SQ_PTR_SQ_TAIL n) = 0 ∧ t.hub.get (R.RING_CQ_PTR_CQ_TAIL n) = 0 ∧ t.hub.get (R.RING_CQ_PTR_PHASE n) = 1 ∧
      (t.hub.ring n).descs = []) ∧
  -- RING_ENABLE with a bad size puts it in ERROR, cause 1
  (∀ (req : Path) (n : Nat) (s : State),
    (Instr.ringEnable req n).wf = true →
    req = .pf →
    s.hub.ringFn n = 0 →
    s.hub.ringState n = 0 →
    s.hub.sizesOk n = false →
    ∃ t, exec (.ringEnable req n) s = .next t ∧ t.hub.ringState n = 3 ∧ t.hub.get (R.RING_STAT_CAUSE n) = 1) ∧
  -- SUBMISSION_DOORBELL of this generation stores the tail
  (∀ (req : Path) (page : Nat) (v : Word) (s : State),
    (Instr.submissionDoorbell req page v).wf = true →
    req = .pf →
    s.hub.ready = true →
    s.hub.ringFn page = 0 →
    bitsOf v 16 16 = s.hub.get (R.RING_STAT_GEN page) →
    s.hub.ringState page = 1 →
    bitsOf v 0 16 < s.hub.sqSize page →
    ∃ t, exec (.submissionDoorbell req page v) s = .next t ∧ t.hub.get (R.RING_SQ_PTR_SQ_TAIL page) = bitsOf v 0 16 ∧ t.hub.rings = s.hub.rings) ∧
  -- SUBMISSION_DOORBELL beyond the queue puts the ring in ERROR, cause 2
  (∀ (req : Path) (page : Nat) (v : Word) (s : State),
    (Instr.submissionDoorbell req page v).wf = true →
    req = .pf →
    s.hub.ready = true →
    s.hub.ringFn page = 0 →
    bitsOf v 16 16 = s.hub.get (R.RING_STAT_GEN page) →
    s.hub.ringState page = 1 →
    s.hub.sqSize page ≤ bitsOf v 0 16 →
    ∃ t, exec (.submissionDoorbell req page v) s = .next t ∧ t.hub.ringState page = 3 ∧ t.hub.get (R.RING_STAT_CAUSE page) = 2 ∧ t.hub.get (R.RING_SQ_PTR_SQ_TAIL page) = s.hub.get (R.RING_SQ_PTR_SQ_TAIL page)) ∧
  -- SUBMISSION_DOORBELL of another generation counts DB_STALE only
  (∀ (req : Path) (page : Nat) (v : Word) (s : State),
    (Instr.submissionDoorbell req page v).wf = true →
    req = .pf →
    s.hub.ready = true →
    s.hub.ringFn page = 0 →
    bitsOf v 16 16 ≠ s.hub.get (R.RING_STAT_GEN page) →
    s.hub.get (R.RING_DB_CNT_DB_STALE page) + 1 < 65536 →
    ∃ t, exec (.submissionDoorbell req page v) s = .next t ∧ t.hub.get (R.RING_SQ_PTR_SQ_TAIL page) = s.hub.get (R.RING_SQ_PTR_SQ_TAIL page) ∧
      t.hub.get (R.RING_DB_CNT_DB_STALE page) = s.hub.get (R.RING_DB_CNT_DB_STALE page) + 1) ∧
  -- COMPLETION_RELEASE moves the CQ head and frees the slots
  (∀ (req : Path) (page : Nat) (v : Word) (k : Nat) (s : State),
    (Instr.completionRelease req page v).wf = true →
    req = .pf →
    s.hub.ready = true →
    s.hub.ringFn page = 0 →
    bitsOf v 16 16 = s.hub.get (R.RING_STAT_GEN page) →
    s.hub.ringState page = 1 →
    bitsOf v 0 16 < s.hub.cqSize page →
    k = (bitsOf v 0 16 + s.hub.cqSize page - s.hub.cqHead page) % s.hub.cqSize page →
    k ≤ (s.hub.ring page).used →
    (s.hub.ring page).held = [] →
    ∃ t, exec (.completionRelease req page v) s = .next t ∧ t.hub.cqHead page = bitsOf v 0 16 ∧ (t.hub.ring page).used = (s.hub.ring page).used - k) ∧
  -- RING_RESET makes the ring RESETTING and drops descriptors not started
  (∀ (req : Path) (n : Nat) (s : State),
    (Instr.ringReset req n).wf = true →
    req = .pf →
    s.hub.ringFn n = 0 →
    (s.hub.ringState n = 1 ∨ s.hub.ringState n = 3) →
    ∃ t, exec (.ringReset req n) s = .next t ∧ t.hub.ringState n = 2 ∧ t.hub.get (R.RING_CTRL_ENABLE n) = 0 ∧
      ((t.hub.ring n).descs.all fun d => d.started) = true) ∧
  -- RING_RESET_COMPLETE makes it OFF with pointers 0 and the next generation
  (∀ (n : Nat) (s : State),
    (Instr.ringResetComplete n).wf = true →
    s.hub.ringState n = 2 →
    (s.hub.ring n).descs = [] →
    ∃ t, exec (.ringResetComplete n) s = .next t ∧ t.hub.ringState n = 0 ∧ t.hub.get (R.RING_SQ_PTR_SQ_HEAD n) = 0 ∧
      t.hub.get (R.RING_SQ_PTR_SQ_TAIL n) = 0 ∧ t.hub.get (R.RING_CQ_PTR_CQ_TAIL n) = 0 ∧ t.hub.get (R.RING_CQ_PTR_PHASE n) = 1 ∧ t.hub.cqHead n = 0 ∧
      t.hub.get (R.RING_STAT_GEN n) = (if (s.hub.ring n).zeroGen then 0 else (s.hub.get (R.RING_STAT_GEN n) + 1) % 65536)) ∧
  -- PF_FLR resets every PF ring, disables VFs, bus mastering and MSI-X
  (∀ (n : Nat) (s : State),
    n < 256 →
    s.hub.ringFn n = 0 →
    (s.hub.ringState n = 1 ∨ s.hub.ringState n = 3) →
    ∃ t, exec .pfFlr s = .next t ∧ t.hub.ringState n = 2 ∧ (t.hub.ring n).zeroGen = true ∧ t.hub.pcie.vfEn = false ∧ nget t.hub.pcie.bme 0 = 0 ∧
      nget t.hub.pcie.msixEn 0 = 0) ∧
  -- VF_FLR zeroes the generation of its OFF rings, its bus mastering, MSI-X and pending bits
  (∀ (k n : Nat) (s : State),
    (Instr.vfFlr k).wf = true →
    n < 256 →
    s.hub.ringFn n = k + 1 →
    s.hub.ringState n = 0 →
    ∃ t, exec (.vfFlr k) s = .next t ∧ t.hub.get (R.RING_STAT_GEN n) = 0 ∧ nget t.hub.pcie.bme (k + 1) = 0 ∧ nget t.hub.pcie.msixEn (k + 1) = 0 ∧
      nget t.hub.pcie.vfPba k = 0)

/-- Descriptors fetched, refused, timed out, failed or completed with a measured energy, each with its completion
entry. Each clause says where its command completes, and with what. What a definition named here takes from the log,
not the spec, is the model's choice: log entries 3, 31. -/
def Obligations.RingEntriesComplete : Prop :=
  -- DESCRIPTOR_FETCH of a sound entry queues it and moves the SQ head
  (∀ (n : Nat) (host : List Byte) (s : State),
    (Instr.descriptorFetch n host).wf = true →
    host.length = 64 →
    s.hub.ringState n = 1 →
    s.hub.ready = true →
    s.hub.fnRuns (s.hub.ringFn n) = true →
    s.hub.get (R.RING_SQ_PTR_SQ_TAIL n) ≠ s.hub.get (R.RING_SQ_PTR_SQ_HEAD n) →
    s.hub.get (R.RING_SQ_PTR_SQ_TAIL n) < s.hub.sqSize n →
    s.hub.get (R.RING_SQ_PTR_SQ_HEAD n) < s.hub.sqSize n →
    s.hub.descCheck (s.hub.ringFn n) host = 0 →
    ∃ t, exec (.descriptorFetch n host) s = .next t ∧
      t.hub.get (R.RING_SQ_PTR_SQ_HEAD n) = (s.hub.get (R.RING_SQ_PTR_SQ_HEAD n) + 1) % s.hub.sqSize n ∧
      (t.hub.ring n).descs.map (fun (d : Desc) => (d.id, d.slot, d.bytes)) =
        (s.hub.ring n).descs.map (fun (d : Desc) => (d.id, d.slot, d.bytes)) ++ [((s.hub.ring n).fetched, s.hub.get (R.RING_SQ_PTR_SQ_HEAD n), host)]) ∧
  -- DESCRIPTOR_FETCH of an unsound entry writes a completion with its status
  (∀ (n : Nat) (host : List Byte) (s : State),
    (Instr.descriptorFetch n host).wf = true →
    host.length = 64 →
    s.hub.ready = true →
    s.hub.fnRuns (s.hub.ringFn n) = true →
    s.hub.get (R.RING_SQ_PTR_SQ_TAIL n) ≠ s.hub.get (R.RING_SQ_PTR_SQ_HEAD n) →
    s.hub.get (R.RING_SQ_PTR_SQ_TAIL n) < s.hub.sqSize n →
    s.hub.get (R.RING_SQ_PTR_SQ_HEAD n) < s.hub.sqSize n →
    s.hub.descCheck (s.hub.ringFn n) host ≠ 0 →
    s.hub.ringState n = 1 →
    (s.hub.ring n).held = [] →
    s.hub.cplReady n = true →
    (s.hub.ring n).bound = none →
    ∃ t, exec (.descriptorFetch n host) s = .next t ∧ Out.hostWrite (s.hub.ringFn n) (s.hub.cqAddr n (s.hub.get (R.RING_CQ_PTR_CQ_TAIL n)))
        (Cpl.bytes { tag := dTag host, status := s.hub.descCheck (s.hub.ringFn n) host, eclass := 0, result := 0, slot := s.hub.get (R.RING_SQ_PTR_SQ_HEAD n) }
          (s.hub.get (R.RING_CQ_PTR_PHASE n)) ((s.hub.get (R.RING_SQ_PTR_SQ_HEAD n) + 1) % s.hub.sqSize n)) ∈ t.hub.out) ∧
  -- HOST_DMA_ERROR on a fetch puts the ring in ERROR, cause 4, with its AER bit
  (∀ (n id what : Nat) (poisoned : Bool) (s : State),
    (Instr.hostDmaError n id what poisoned).wf = true →
    what = 0 →
    s.hub.ringState n = 1 →
    ∃ t, exec (.hostDmaError n id what poisoned) s = .next t ∧ t.hub.ringState n = 3 ∧ t.hub.get (R.RING_STAT_CAUSE n) = 4 ∧
      bit (nget t.hub.pcie.aer (s.hub.ringFn n)) (if poisoned then 2 else 3) = true) ∧
  -- HOST_DMA_ERROR on a read of data ends the descriptor with STATUS 7
  (∀ (n id what : Nat) (poisoned : Bool) (d : Desc) (s : State),
    (Instr.hostDmaError n id what poisoned).wf = true →
    what = 1 →
    s.hub.desc n id = some d →
    d.started = true →
    d.debit = 0 →
    s.hub.ringState n = 1 →
    (s.hub.ring n).held = [] →
    s.hub.cplReady n = true →
    (s.hub.ring n).bound = none →
    ∃ t, exec (.hostDmaError n id what poisoned) s = .next t ∧ t.hub.desc n id = none ∧
      Out.hostWrite (s.hub.ringFn n) (s.hub.cqAddr n (s.hub.get (R.RING_CQ_PTR_CQ_TAIL n)))
        (Cpl.bytes { tag := dTag d.bytes, status := 7, eclass := 0, result := d.moved, slot := d.slot }
          (s.hub.get (R.RING_CQ_PTR_PHASE n)) (s.hub.get (R.RING_SQ_PTR_SQ_HEAD n))) ∈ t.hub.out) ∧
  -- HOST_DMA_ERROR on a completion write puts the ring in ERROR
  (∀ (n id what : Nat) (poisoned : Bool) (s : State),
    (Instr.hostDmaError n id what poisoned).wf = true →
    what = 2 →
    (s.hub.ringState n = 1 ∨ s.hub.ringState n = 3) →
    ∃ t, exec (.hostDmaError n id what poisoned) s = .next t ∧ t.hub.ringState n = 3 ∧ t.hub.get (R.RING_STAT_CAUSE n) = 5 ∧ t.hub.pcie.aer = s.hub.pcie.aer) ∧
  -- RING_HALT_ENTRY writes the halt entry with the cause
  (∀ (n : Nat) (s : State),
    (Instr.ringHaltEntry n).wf = true →
    s.hub.ringState n = 3 →
    (s.hub.ring n).haltDone = false →
    (s.hub.ring n).descs.any (·.started) = false →
    (s.hub.ring n).held = [] →
    s.hub.cplReady n = true →
    ∃ t, exec (.ringHaltEntry n) s = .next t ∧ (t.hub.ring n).haltDone = true ∧
      Out.hostWrite (s.hub.ringFn n) (s.hub.cqAddr n (s.hub.get (R.RING_CQ_PTR_CQ_TAIL n)))
        (Cpl.bytes { tag := 0xFFFFFFFF, status := 0x14, eclass := s.hub.free % 16, result := s.hub.get (R.RING_STAT_CAUSE n), slot := s.hub.drew.free % 65536 }
          (s.hub.get (R.RING_CQ_PTR_PHASE n)) (s.hub.get (R.RING_SQ_PTR_SQ_HEAD n))) ∈ t.hub.out) ∧
  -- DEADLINE_EXPIRY of an unstarted hard-deadline descriptor ends it with STATUS 0x0A
  (∀ (n id : Nat) (d : Desc) (s : State),
    (Instr.deadlineExpiry n id).wf = true →
    s.hub.desc n id = some d →
    dMode d.bytes = 2 →
    d.started = false →
    d.debit = 0 →
    s.hub.ringState n = 1 →
    (s.hub.ring n).held = [] →
    s.hub.cplReady n = true →
    (s.hub.ring n).bound = none →
    ∃ t, exec (.deadlineExpiry n id) s = .next t ∧ t.hub.desc n id = none ∧
      Out.hostWrite (s.hub.ringFn n) (s.hub.cqAddr n (s.hub.get (R.RING_CQ_PTR_CQ_TAIL n)))
        (Cpl.bytes { tag := dTag d.bytes, status := 0x0A, eclass := 0, result := 0, slot := d.slot }
          (s.hub.get (R.RING_CQ_PTR_PHASE n)) (s.hub.get (R.RING_SQ_PTR_SQ_HEAD n))) ∈ t.hub.out ∧ t.mem = s.mem) ∧
  -- CLEAT_WAIT_TIMEOUT of an unmet wait ends the descriptor with STATUS 9
  (∀ (n id : Nat) (d : Desc) (s : State),
    (Instr.cleatWaitTimeout n id).wf = true →
    s.hub.desc n id = some d →
    s.hub.waitHolds d = false →
    d.judged = true →
    s.hub.considers n d = true →
    s.hub.ringHold n = 0 →
    s.hub.strictPast d = false →
    d.debit = 0 →
    s.hub.ringState n = 1 →
    (s.hub.ring n).held = [] →
    s.hub.cplReady n = true →
    (s.hub.ring n).bound = none →
    ∃ t, exec (.cleatWaitTimeout n id) s = .next t ∧ t.hub.desc n id = none ∧
      Out.hostWrite (s.hub.ringFn n) (s.hub.cqAddr n (s.hub.get (R.RING_CQ_PTR_CQ_TAIL n)))
        (Cpl.bytes { tag := dTag d.bytes, status := 0x09, eclass := 0, result := 0, slot := d.slot }
          (s.hub.get (R.RING_CQ_PTR_PHASE n)) (s.hub.get (R.RING_SQ_PTR_SQ_HEAD n))) ∈ t.hub.out) ∧
  -- DESCRIPTOR_COMPLETE of an ended, debited descriptor settles the pool's balance and writes its completion
  (∀ (n id energy peak mean drop : Nat) (host : List Byte) (d : Desc) (s : State),
    (Instr.descriptorComplete n id energy peak mean drop host).wf = true →
    s.hub.desc n id = some d →
    d.started = true →
    d.ended = true →
    d.debit ≠ 0 →
    dPool d.bytes ≤ 4 →
    s.hub.ringState n = 1 →
    (s.hub.ring n).held = [] →
    s.hub.cplReady n = true →
    (s.hub.ring n).bound = none →
    ∃ t, exec (.descriptorComplete n id energy peak mean drop host) s = .next t ∧ t.hub.desc n id = none ∧ t.hub.get (R.RING_CQ_PTR_CQ_TAIL n) = (s.hub.get (R.RING_CQ_PTR_CQ_TAIL n) + 1) % s.hub.cqSize n ∧
      t.hub.get (R.DISP_POOL1_BALANCE (dPool d.bytes)) = unsigned 32 (s.hub.balance (dPool d.bytes) + d.debit - energy) ∧
      Out.hostWrite (s.hub.ringFn n) (s.hub.cqAddr n (s.hub.get (R.RING_CQ_PTR_CQ_TAIL n)))
        (Cpl.bytes { tag := dTag d.bytes, status := lateStatus d d.status, eclass := eclassOf energy, result := d.result, slot := d.slot }
          (s.hub.get (R.RING_CQ_PTR_PHASE n)) (s.hub.get (R.RING_SQ_PTR_SQ_HEAD n))) ∈ t.hub.out)

/-- Operations the dispatcher completes itself: NOP, cleats, time, hints, fences and boundaries. Each clause says
where its command completes, and with what. What a definition named here takes from the log, not the spec, is the
model's choice: log entries 31, 36, 51. -/
def Obligations.ImmediateOperationsComplete : Prop :=
  -- NOP writes a completion with result 0
  (∀ (n id : Nat) (d : Desc) (s : State),
    (Instr.nop n id).wf = true →
    s.hub.desc n id = some d →
    dOp d.bytes = 0x00 →
    s.hub.considers n d = true →
    s.hub.ringHold n = 0 →
    s.hub.verdict n d = .go →
    (s.hub.ring n).held = [] →
    s.hub.cplReady n = true →
    (s.hub.ring n).bound = none →
    ∃ t, exec (.nop n id) s = .next t ∧ t.hub.desc n id = none ∧ t.hub.get (R.RING_CQ_PTR_CQ_TAIL n) = (s.hub.get (R.RING_CQ_PTR_CQ_TAIL n) + 1) % s.hub.cqSize n ∧
      Out.hostWrite (s.hub.ringFn n) (s.hub.cqAddr n (s.hub.get (R.RING_CQ_PTR_CQ_TAIL n)))
        (Cpl.bytes { tag := dTag d.bytes, status := lateStatus d 0, eclass := 0, result := 0, slot := d.slot }
          (s.hub.get (R.RING_CQ_PTR_PHASE n)) (s.hub.get (R.RING_SQ_PTR_SQ_HEAD n))) ∈ t.hub.out) ∧
  -- CLEAT_SIGNAL applies the signal and answers the cleat's value
  (∀ (n id : Nat) (d : Desc) (s : State),
    (Instr.cleatSignal n id).wf = true →
    s.hub.desc n id = some d →
    dOp d.bytes = 0x11 →
    s.hub.considers n d = true →
    s.hub.ringHold n = 0 →
    s.hub.verdict n d = .go →
    (s.hub.ring n).held = [] →
    s.hub.cplReady n = true →
    (s.hub.ring n).bound = none →
    s.hub.signals (s.hub.ringFn n) d.bytes 0 = true →
    ∃ t, exec (.cleatSignal n id) s = .next t ∧ t.hub.desc n id = none ∧ t.hub.get (R.RING_CQ_PTR_CQ_TAIL n) = (s.hub.get (R.RING_CQ_PTR_CQ_TAIL n) + 1) % s.hub.cqSize n ∧
      Out.hostWrite (s.hub.ringFn n) (s.hub.cqAddr n (s.hub.get (R.RING_CQ_PTR_CQ_TAIL n)))
        (Cpl.bytes { tag := dTag d.bytes, status := lateStatus d 0, eclass := 0, result := s.hub.signalled d.bytes, slot := d.slot }
          (s.hub.get (R.RING_CQ_PTR_PHASE n)) (s.hub.get (R.RING_SQ_PTR_SQ_HEAD n))) ∈ t.hub.out ∧
      t.hub.get (R.CLT_VALUE (dScleat d.bytes)) = s.hub.signalled d.bytes) ∧
  -- CLEAT_WAIT of a condition that holds answers the cleat's value
  (∀ (n id : Nat) (d : Desc) (s : State),
    (Instr.cleatWait n id).wf = true →
    s.hub.desc n id = some d →
    dOp d.bytes = 0x10 →
    s.hub.considers n d = true →
    s.hub.ringHold n = 0 →
    s.hub.verdict n d = .go →
    (s.hub.ring n).held = [] →
    s.hub.cplReady n = true →
    (s.hub.ring n).bound = none →
    dFlag d.bytes 0 = true →
    d.waitOk = false →
    ∃ t, exec (.cleatWait n id) s = .next t ∧ t.hub.desc n id = none ∧ t.hub.get (R.RING_CQ_PTR_CQ_TAIL n) = (s.hub.get (R.RING_CQ_PTR_CQ_TAIL n) + 1) % s.hub.cqSize n ∧
      Out.hostWrite (s.hub.ringFn n) (s.hub.cqAddr n (s.hub.get (R.RING_CQ_PTR_CQ_TAIL n)))
        (Cpl.bytes { tag := dTag d.bytes, status := lateStatus d 0, eclass := 0, result := s.hub.get (R.CLT_VALUE (dWcleat d.bytes)), slot := d.slot }
          (s.hub.get (R.RING_CQ_PTR_PHASE n)) (s.hub.get (R.RING_SQ_PTR_SQ_HEAD n))) ∈ t.hub.out) ∧
  -- AT_TIME_REACHED of a time-only wait completes it
  (∀ (n id : Nat) (d : Desc) (s : State),
    (Instr.atTimeReached n id).wf = true →
    s.hub.desc n id = some d →
    dOp d.bytes = 0x10 →
    s.hub.considers n d = true →
    s.hub.ringHold n = 0 →
    s.hub.verdict n d = .go →
    (s.hub.ring n).held = [] →
    s.hub.cplReady n = true →
    (s.hub.ring n).bound = none →
    dFlag d.bytes 0 = false →
    dAtTime d.bytes ≠ 0 →
    ∃ t, exec (.atTimeReached n id) s = .next t ∧ t.hub.desc n id = none ∧ t.hub.get (R.RING_CQ_PTR_CQ_TAIL n) = (s.hub.get (R.RING_CQ_PTR_CQ_TAIL n) + 1) % s.hub.cqSize n ∧
      Out.hostWrite (s.hub.ringFn n) (s.hub.cqAddr n (s.hub.get (R.RING_CQ_PTR_CQ_TAIL n)))
        (Cpl.bytes { tag := dTag d.bytes, status := lateStatus d 0, eclass := 0, result := d.result, slot := d.slot }
          (s.hub.get (R.RING_CQ_PTR_PHASE n)) (s.hub.get (R.RING_SQ_PTR_SQ_HEAD n))) ∈ t.hub.out) ∧
  -- BUDGET_HINT completes and holds the hint
  (∀ (n id : Nat) (d : Desc) (s : State),
    (Instr.budgetHint n id).wf = true →
    s.hub.desc n id = some d →
    dOp d.bytes = 0x28 →
    s.hub.considers n d = true →
    s.hub.ringHold n = 0 →
    s.hub.verdict n d = .go →
    (s.hub.ring n).held = [] →
    s.hub.cplReady n = true →
    (s.hub.ring n).bound = none →
    ∃ t, exec (.budgetHint n id) s = .next t ∧ t.hub.desc n id = none ∧ t.hub.get (R.RING_CQ_PTR_CQ_TAIL n) = (s.hub.get (R.RING_CQ_PTR_CQ_TAIL n) + 1) % s.hub.cqSize n ∧
      Out.hostWrite (s.hub.ringFn n) (s.hub.cqAddr n (s.hub.get (R.RING_CQ_PTR_CQ_TAIL n)))
        (Cpl.bytes { tag := dTag d.bytes, status := lateStatus d 0, eclass := 0, result := 0, slot := d.slot }
          (s.hub.get (R.RING_CQ_PTR_PHASE n)) (s.hub.get (R.RING_SQ_PTR_SQ_HEAD n))) ∈ t.hub.out ∧
      (leAt d.bytes 28 1, leAt d.bytes 32 4, leAt d.bytes 36 4) ∈ (t.hub.ring n).hints) ∧
  -- HINT_LAPSE drops the pool's hints
  (∀ (n pool : Nat) (s : State),
    (Instr.hintLapse n pool).wf = true →
    ∃ t, exec (.hintLapse n pool) s = .next t ∧ (t.hub.ring n).hints = (s.hub.ring n).hints.filter (fun (x : Nat × Nat × Nat) => x.1 != pool) ∧ (t.hub.ring n).descs = (s.hub.ring n).descs) ∧
  -- FENCE completes once eligible
  (∀ (n id : Nat) (d : Desc) (s : State),
    (Instr.fence n id).wf = true →
    s.hub.desc n id = some d →
    dOp d.bytes = 0x12 →
    s.hub.considers n d = true →
    s.hub.ringHold n = 0 →
    s.hub.verdict n d = .go →
    (s.hub.ring n).held = [] →
    s.hub.cplReady n = true →
    (s.hub.ring n).bound = none →
    ∃ t, exec (.fence n id) s = .next t ∧ t.hub.desc n id = none ∧ t.hub.get (R.RING_CQ_PTR_CQ_TAIL n) = (s.hub.get (R.RING_CQ_PTR_CQ_TAIL n) + 1) % s.hub.cqSize n ∧
      Out.hostWrite (s.hub.ringFn n) (s.hub.cqAddr n (s.hub.get (R.RING_CQ_PTR_CQ_TAIL n)))
        (Cpl.bytes { tag := dTag d.bytes, status := lateStatus d 0, eclass := 0, result := 0, slot := d.slot }
          (s.hub.get (R.RING_CQ_PTR_PHASE n)) (s.hub.get (R.RING_SQ_PTR_SQ_HEAD n))) ∈ t.hub.out) ∧
  -- BOUNDARY with earlier work left opens the boundary with its batch
  (∀ (n id : Nat) (d : Desc) (s : State),
    (Instr.boundary n id).wf = true →
    s.hub.desc n id = some d →
    dOp d.bytes = 0x13 →
    s.hub.considers n d = true →
    s.hub.ringHold n = 0 →
    s.hub.verdict n d = .go →
    (s.hub.ring n).bound = none →
    ((s.hub.ring n).descs.any fun e => decide (e.group ≤ d.group) && e.id != id) = true →
    ∃ t, exec (.boundary n id) s = .next t ∧ t.hub.get (R.DISP_BND_OPEN n) = 1 ∧ t.hub.get (R.DISP_BND_BATCH n) = leAt d.bytes 28 2 ∧
      (t.hub.ring n).bound = some ({ id := id, fence := leAt d.bytes 30 1 % 4, regions := dRegions d.bytes, group := d.group } : Bound)) ∧
  -- CREDIT_HOLD_WARN writes a WARNING record with code 0x14
  (∀ (n id : Nat) (d : Desc) (s : State),
    (Instr.creditHoldWarn n id).wf = true →
    s.hub.desc n id = some d →
    d.inCredit = true →
    s.hub.yew.tokens ≠ 0 →
    ∃ t, exec (.creditHoldWarn n id) s = .next t ∧ t.hub.yew.seq = nextSeq s.hub.yew.seq ∧ t.hub.yew.hist = (0x14 :: s.hub.yew.hist).take 4 ∧ t.hub.rings = s.hub.rings ∧ t.mem = s.mem)

/-- COPY, FILL, GATHER and SCATTER store exactly the bytes named and end with the total. Each clause says where its
command completes, and with what. -/
def Obligations.MoverMovesBytes : Prop :=
  -- COPY's last piece stores the source's bytes at the destination
  (∀ (n id limit : Nat) (host : List Byte) (m a b : Nat) (d : Desc) (s : State),
    (Instr.copy n id limit host).wf = true →
    1 ≤ limit →
    s.hub.desc n id = some d →
    dOp d.bytes = 1 →
    d.started = true →
    d.ended = false →
    d.stop = false →
    d.snap = none →
    s.hub.itsTurn n d = true →
    d.overlaps = false →
    m = d.total - d.moved →
    0 < m →
    a = leAt d.bytes 28 8 + d.moved →
    addrSpace a = 0 →
    m ≤ toLineEnd a →
    b = dDest d.bytes + d.moved →
    addrSpace b = 0 →
    s.hub.on R.RAS_FLIP_CTRL_ARM = false →
    s.mem.dramErr = [] →
    ∃ t, exec (.copy n id limit host) s = .next t ∧ t.mem.bytes 0 (addrOff b) m = s.mem.bytes 0 (addrOff a) m ∧
      (t.hub.desc n id).map (fun (e : Desc) => (e.ended, e.status, e.moved, e.result)) = some (true, 0, d.total, d.total) ∧
      ∀ sp x, ¬ (sp = 0 ∧ addrOff b ≤ x ∧ x < addrOff b + m) → t.mem.byte sp x = s.mem.byte sp x) ∧
  -- FILL's last piece stores the pattern
  (∀ (n id limit : Nat) (m b : Nat) (d : Desc) (s : State),
    (Instr.fill n id limit).wf = true →
    1 ≤ limit →
    s.hub.desc n id = some d →
    dOp d.bytes = 2 →
    d.started = true →
    d.ended = false →
    d.stop = false →
    d.snap = none →
    s.hub.itsTurn n d = true →
    m = d.total - d.moved →
    0 < m →
    b = dDest d.bytes + d.moved →
    addrSpace b = 0 →
    m ≤ toLineEnd b →
    s.hub.on R.RAS_FLIP_CTRL_ARM = false →
    s.mem.dramErr = [] →
    ∃ t, exec (.fill n id limit) s = .next t ∧ t.mem.bytes 0 (addrOff b) m = fillBytes (leAt d.bytes 40 8) d.moved m ∧
      (t.hub.desc n id).map (fun (e : Desc) => (e.ended, e.status, e.moved, e.result)) = some (true, 0, d.total, d.total) ∧
      ∀ sp x, ¬ (sp = 0 ∧ addrOff b ≤ x ∧ x < addrOff b + m) → t.mem.byte sp x = s.mem.byte sp x) ∧
  -- GATHER's last piece stores the list's bytes at the destination
  (∀ (n id limit : Nat) (host : List Byte) (m a b : Nat) (d : Desc) (s : State),
    (Instr.gather n id limit host).wf = true →
    1 ≤ limit →
    s.hub.desc n id = some d →
    dOp d.bytes = 3 →
    d.started = true →
    d.ended = false →
    d.stop = false →
    d.snap = none →
    s.hub.itsTurn n d = true →
    m = d.total - d.moved →
    0 < m →
    (a, m) = inList d.list d.moved →
    addrSpace a = 0 →
    m ≤ toLineEnd a →
    b = dDest d.bytes + d.moved →
    addrSpace b = 0 →
    s.hub.on R.RAS_FLIP_CTRL_ARM = false →
    s.mem.dramErr = [] →
    ∃ t, exec (.gather n id limit host) s = .next t ∧ t.mem.bytes 0 (addrOff b) m = s.mem.bytes 0 (addrOff a) m ∧
      (t.hub.desc n id).map (fun (e : Desc) => (e.ended, e.status, e.moved, e.result)) = some (true, 0, d.total, d.total) ∧
      ∀ sp x, ¬ (sp = 0 ∧ addrOff b ≤ x ∧ x < addrOff b + m) → t.mem.byte sp x = s.mem.byte sp x) ∧
  -- SCATTER's last piece stores the source's bytes at the list's place
  (∀ (n id limit : Nat) (host : List Byte) (m a b : Nat) (d : Desc) (s : State),
    (Instr.scatter n id limit host).wf = true →
    1 ≤ limit →
    s.hub.desc n id = some d →
    dOp d.bytes = 4 →
    d.started = true →
    d.ended = false →
    d.stop = false →
    d.snap = none →
    s.hub.itsTurn n d = true →
    m = d.total - d.moved →
    0 < m →
    (b, m) = inList d.list d.moved →
    a = dDest d.bytes + d.moved →
    addrSpace a = 0 →
    m ≤ toLineEnd a →
    addrSpace b = 0 →
    s.hub.on R.RAS_FLIP_CTRL_ARM = false →
    s.mem.dramErr = [] →
    ∃ t, exec (.scatter n id limit host) s = .next t ∧ t.mem.bytes 0 (addrOff b) m = s.mem.bytes 0 (addrOff a) m ∧
      (t.hub.desc n id).map (fun (e : Desc) => (e.ended, e.status, e.moved, e.result)) = some (true, 0, d.total, d.total) ∧
      ∀ sp x, ¬ (sp = 0 ∧ addrOff b ≤ x ∧ x < addrOff b + m) → t.mem.byte sp x = s.mem.byte sp x)

/-- Stream and call descriptors, and the end of a call. Each clause says where its command completes, and with what.
-/
def Obligations.RingStreamsAndCalls : Prop :=
  -- STREAM_OPEN of a free stream opens it and sends STREAM_OPEN to the site
  (∀ (n id site k : Nat) (toSite : Bool) (d : Desc) (s : State),
    (Instr.streamOpen n id).wf = true →
    s.hub.desc n id = some d →
    dOp d.bytes = 0x08 →
    s.hub.considers n d = true →
    s.hub.ringHold n = 0 →
    s.hub.verdict n d = .go →
    site = leAt d.bytes 28 1 →
    toSite = (leAt d.bytes 29 1 == 0) →
    k = leAt d.bytes 32 2 →
    k < s.hub.negStreams site toSite →
    leAt d.bytes 30 1 < s.hub.negClasses site →
    (s.hub.siteS site).stream toSite k = none →
    s.hub.windowMeets (addrOff (leAt d.bytes 36 8)) (leAt d.bytes 44 4) = false →
    s.hub.siteUp site = true →
    (s.hub.siteS site).ctlq = [] →
    1 ≤ s.hub.get (R.YDL_CREDIT_HELD site 0) →
    ∃ t, exec (.streamOpen n id) s = .next t ∧ ((t.hub.siteS site).stream toSite k).map (fun (x : Stream) => (x.state, x.cls, x.len, x.got, x.ring, x.desc)) =
        some (0, leAt d.bytes 30 1, leAt d.bytes 44 4 / 64, 0, n, id) ∧
      (t.hub.out.any fun o => match o with | .control a m g _ _ => a == site && m == 0x40 && g == (s.hub.siteS site).tag | _ => false) = true) ∧
  -- STREAM_CLOSE marks the stream to close in the mode named
  (∀ (n id site k : Nat) (toSite : Bool) (d : Desc) (x : Stream) (s : State),
    (Instr.streamClose n id).wf = true →
    s.hub.desc n id = some d →
    dOp d.bytes = 0x09 →
    s.hub.considers n d = true →
    s.hub.ringHold n = 0 →
    s.hub.verdict n d = .go →
    site = leAt d.bytes 28 1 →
    toSite = (leAt d.bytes 29 1 == 0) →
    k = leAt d.bytes 32 2 →
    (s.hub.siteS site).stream toSite k = some x →
    x.state < 2 →
    ∃ t, exec (.streamClose n id) s = .next t ∧ ((t.hub.siteS site).stream toSite k).map (fun (y : Stream) => (y.state, y.closeRing, y.closeDesc)) =
        some (3 + leAt d.bytes 30 1, n, id)) ∧
  -- SITE_CALL sends CALL with its operands and deadline and remembers the call
  (∀ (n id site : Nat) (d : Desc) (s : State),
    (Instr.siteCall n id).wf = true →
    s.hub.desc n id = some d →
    dOp d.bytes = 0x0A →
    s.hub.considers n d = true →
    s.hub.ringHold n = 0 →
    s.hub.verdict n d = .go →
    site = leAt d.bytes 28 1 →
    s.hub.siteUp site = true →
    (s.hub.siteS site).ctlq = [] →
    1 ≤ s.hub.get (R.YDL_CREDIT_HELD site 0) →
    ∃ t, exec (.siteCall n id) s = .next t ∧ (t.hub.siteS site).calls = (s.hub.siteS site).calls ++ [({ tag := (s.hub.siteS site).tag, ring := n, desc := id, stopped := false } : Call)] ∧
      Out.control site 0x50 (s.hub.siteS site).tag (leBytes 4 (leAt d.bytes 32 4) ++ leBytes 8 (leAt d.bytes 36 8) ++ leBytes 4 (leAt d.bytes 44 4) ++
        leBytes 4 (s.hub.callDeadline d)) ([]) ∈ t.hub.out) ∧
  -- CALL_DONE ends the call with a completion of its outcome and energy class
  (∀ (site tag : Nat) (result : Word) (status energy n : Nat) (c : Call) (d : Desc) (s : State),
    (Instr.callDone site tag result status energy).wf = true →
    s.hub.siteUp site = true →
    s.hub.get (R.YDL_CREDIT_OWED site 1) + 1 ≤ hubGrant 1 →
    ((s.hub.siteS site).calls.find? fun c => c.tag == tag) = some c →
    c.stopped = false →
    n = c.ring →
    s.hub.desc n c.desc = some d →
    n < 256 →
    s.hub.ringState n = 1 →
    (s.hub.ring n).held = [] →
    s.hub.cplReady n = true →
    (s.hub.ring n).bound = none →
    ∃ t, exec (.callDone site tag result status energy) s = .next t ∧ t.hub.desc n c.desc = none ∧
      (t.hub.siteS site).calls = (s.hub.siteS site).calls.filter (fun (y : Call) => y.tag != tag) ∧
      Out.hostWrite (s.hub.ringFn n) (s.hub.cqAddr n (s.hub.get (R.RING_CQ_PTR_CQ_TAIL n)))
        (Cpl.bytes { tag := dTag d.bytes, status := lateStatus d (callOutcome status result.toNat).1, eclass := eclassOf (if s.hub.negFlag site 3 then energy else d.debit), result := (callOutcome status result.toNat).2, slot := d.slot }
          (s.hub.get (R.RING_CQ_PTR_PHASE n)) (s.hub.get (R.RING_SQ_PTR_SQ_HEAD n))) ∈ t.hub.out) ∧
  -- CALL_STOP_TIMEOUT ends a stopped call with STATUS 0x0A
  (∀ (site tag : Nat) (c : Call) (d : Desc) (s : State),
    (Instr.callStopTimeout site tag).wf = true →
    ((s.hub.siteS site).calls.find? fun c => c.tag == tag && c.stopped) = some c →
    s.hub.desc c.ring c.desc = some d →
    dOp d.bytes = 0x0A →
    c.ring < 256 →
    s.hub.ringState c.ring = 1 →
    (s.hub.ring c.ring).held = [] →
    s.hub.cplReady c.ring = true →
    (s.hub.ring c.ring).bound = none →
    ∃ t, exec (.callStopTimeout site tag) s = .next t ∧ (t.hub.siteS site).calls = (s.hub.siteS site).calls.filter (fun (c : Call) => c.tag != tag) ∧
      t.hub.desc c.ring c.desc = none ∧
      Out.hostWrite (s.hub.ringFn c.ring) (s.hub.cqAddr c.ring (s.hub.get (R.RING_CQ_PTR_CQ_TAIL c.ring)))
        (Cpl.bytes { tag := dTag d.bytes, status := 0x0A, eclass := eclassOf d.debit, result := 0, slot := d.slot }
          (s.hub.get (R.RING_CQ_PTR_PHASE c.ring)) (s.hub.get (R.RING_SQ_PTR_SQ_HEAD c.ring))) ∈ t.hub.out)

/-- Cleat ranges, watches and the registers of hub time. Each clause says where its command completes, and with what.
What a definition named here takes from the log, not the spec, is the model's choice: log entries 16, 17. -/
def Obligations.CleatsWatchesAndTime : Prop :=
  -- CLT_CLEAR zeroes each cleat in its range
  (∀ (req : Path) (v : Word) (n : Nat) (s : State),
    (Instr.cltClear req v).wf = true →
    req.holdsBlocks = true →
    1 ≤ bitsOf v 12 13 →
    bitsOf v 12 13 ≤ 4096 →
    bitsOf v 0 12 ≤ n →
    n < bitsOf v 0 12 + bitsOf v 12 13 →
    n < 4096 →
    ∃ t, exec (.cltClear req v) s = .next t ∧ t.hub.get (R.CLT_VALUE n) = 0) ∧
  -- WATCH_ARM of an unmet condition holds a wait
  (∀ (req : Path) (w : Nat) (v : Word) (s : State),
    (Instr.watchArm req w v).wf = true →
    req.holdsBlocks = true →
    s.hub.get (R.CLT_WATCH0_EN w) = 0 →
    cmpHolds (bitsOf v 12 4) (s.hub.get (R.CLT_VALUE (bitsOf v 0 12))) (s.hub.get (R.CLT_WATCH1_VALUE w)) = false →
    ∃ t, exec (.watchArm req w v) s = .next t ∧
      ({ who := .watch w, cleat := bitsOf v 0 12, cmp := bitsOf v 12 4, value := s.hub.get (R.CLT_WATCH1_VALUE w), time := 0 } : Wait) ∈ t.hub.cleat.waits) ∧
  -- WATCH_CANCEL ends the wait and EN, and keeps the cleat number
  (∀ (req : Path) (w : Nat) (v : Word) (s : State),
    (Instr.watchCancel req w v).wf = true →
    req.holdsBlocks = true →
    s.hub.get (R.CLT_WATCH0_EN w) ≠ 0 →
    ∃ t, exec (.watchCancel req w v) s = .next t ∧ t.hub.get (R.CLT_WATCH0_EN w) = 0 ∧
      t.hub.cleat.waits = (s.hub.cleat.waits.filter fun (x : Wait) => x.who != Waiter.watch w) ∧
      t.hub.get (R.CLT_WATCH0_CLEAT w) = s.hub.get (R.CLT_WATCH0_CLEAT w)) ∧
  -- WATCH_TIMEOUT ends the wait and EN and sets TIMEDOUT
  (∀ (w : Nat) (s : State),
    (Instr.watchTimeout w).wf = true →
    s.hub.get (R.CLT_WATCH0_EN w) ≠ 0 →
    s.hub.get (R.CLT_WATCH2_TMO w) ≠ 0 →
    ∃ t, exec (.watchTimeout w) s = .next t ∧ t.hub.get (R.CLT_WATCH0_EN w) = 0 ∧ t.hub.get (R.CLT_WATCH3_TIMEDOUT w) = 1 ∧
      t.hub.cleat.waits = (s.hub.cleat.waits.filter fun (x : Wait) => x.who != Waiter.watch w)) ∧
  -- TIME_EVT_SEL stores SEL and zeroes the counter
  (∀ (req : Path) (n : Nat) (v : Word) (s : State),
    (Instr.timeEvtSel req n v).wf = true →
    req.holdsBlocks = true →
    ∃ t, exec (.timeEvtSel req n v) s = .next t ∧ t.hub.get (R.TIME_EVT_SEL n) = bitsOf v 0 4 ∧
      t.hub.get (R.TIME_EVT_LO n) = 0 ∧ t.hub.get (R.TIME_EVT_HI n) = 0) ∧
  -- TIME_SET free-running sets hub time
  (∀ (req : Path) (v : Word) (s : State),
    (Instr.timeSet req v).wf = true →
    req.holdsBlocks = true →
    s.hub.get R.TIME_STAT_DISC = 0 →
    ∃ t, exec (.timeSet req v) s = .next t ∧ t.hub.time.now = (s.hub.get R.TIME_SET_LO + 2 ^ 32 * v.toNat) % 2 ^ 64) ∧
  -- TIME_ADJ free-running stores the clamped rate
  (∀ (req : Path) (v : Word) (s : State),
    (Instr.timeAdj req v).wf = true →
    req.holdsBlocks = true →
    s.hub.get R.TIME_STAT_DISC = 0 →
    ∃ t, exec (.timeAdj req v) s = .next t ∧ t.hub.get R.TIME_ADJ_PPB = unsigned 24 (clampPpb (signed 24 (bitsOf v 0 24))) ∧
      t.hub.time = s.hub.time) ∧
  -- TIME_SLEW free-running adds to the slew owed
  (∀ (req : Path) (v : Word) (s : State),
    (Instr.timeSlew req v).wf = true →
    req.holdsBlocks = true →
    s.hub.get R.TIME_STAT_DISC = 0 →
    ∃ t, exec (.timeSlew req v) s = .next t ∧ t.hub.time.slew = s.hub.time.slew + signed 32 v.toNat ∧ t.hub.time.now = s.hub.time.now ∧
      t.hub.regs = s.hub.regs)

/-- Cleat operations and time reads that sites send. Each clause says where its command completes, and with what. What
a definition named here takes from the log, not the spec, is the model's choice: log entry 36. -/
def Obligations.SitesReachCleatsAndTime : Prop :=
  -- SITE_CLT_ADD adds and answers the new value
  (∀ (site tag n : Nat) (v : Word) (s : State),
    (Instr.siteCltAdd site tag n v).wf = true →
    s.hub.siteUp site = true →
    s.hub.get (R.YDL_CREDIT_OWED site 0) + 1 ≤ hubGrant 0 →
    s.hub.siteCleat site n = true →
    n < 4096 →
    s.hub.cltWaits site s.hub.dir.ncNext = false →
    (s.hub.cleat.waits.all fun w => w.cleat != n) = true →
    (s.hub.siteS site).ctlq = [] →
    1 ≤ s.hub.get (R.YDL_CREDIT_HELD site 1) →
    ∃ t, exec (.siteCltAdd site tag n v) s = .next t ∧ t.hub.get (R.CLT_VALUE n) = (s.hub.get (R.CLT_VALUE n) + v.toNat) % 2 ^ 32 ∧
      Out.control site 0x31 tag ([0, 0, 0, 0] ++ leBytes 4 ((s.hub.get (R.CLT_VALUE n) + v.toNat) % 2 ^ 32)) ([]) ∈ t.hub.out) ∧
  -- SITE_CLT_SET stores and answers the value
  (∀ (site tag n : Nat) (v : Word) (s : State),
    (Instr.siteCltSet site tag n v).wf = true →
    s.hub.siteUp site = true →
    s.hub.get (R.YDL_CREDIT_OWED site 0) + 1 ≤ hubGrant 0 →
    s.hub.siteCleat site n = true →
    n < 4096 →
    s.hub.cltWaits site s.hub.dir.ncNext = false →
    (s.hub.cleat.waits.all fun w => w.cleat != n) = true →
    (s.hub.siteS site).ctlq = [] →
    1 ≤ s.hub.get (R.YDL_CREDIT_HELD site 1) →
    ∃ t, exec (.siteCltSet site tag n v) s = .next t ∧ t.hub.get (R.CLT_VALUE n) = v.toNat ∧
      Out.control site 0x31 tag ([0, 0, 0, 0] ++ leBytes 4 (v.toNat)) ([]) ∈ t.hub.out) ∧
  -- SITE_CLT_READ answers the value
  (∀ (site tag n : Nat) (s : State),
    (Instr.siteCltRead site tag n).wf = true →
    s.hub.siteUp site = true →
    s.hub.get (R.YDL_CREDIT_OWED site 0) + 1 ≤ hubGrant 0 →
    s.hub.siteCleat site n = true →
    n < 4096 →
    (s.hub.siteS site).ctlq = [] →
    1 ≤ s.hub.get (R.YDL_CREDIT_HELD site 1) →
    ∃ t, exec (.siteCltRead site tag n) s = .next t ∧ t.hub.get (R.CLT_VALUE n) = s.hub.get (R.CLT_VALUE n) ∧
      Out.control site 0x31 tag ([0, 0, 0, 0] ++ leBytes 4 (s.hub.get (R.CLT_VALUE n))) ([]) ∈ t.hub.out) ∧
  -- SITE_CLT_WAIT of an unmet condition is held
  (∀ (site tag cmp n : Nat) (v : Word) (tmo : Nat) (s : State),
    (Instr.siteCltWait site tag cmp n v tmo).wf = true →
    s.hub.siteUp site = true →
    s.hub.get (R.YDL_CREDIT_OWED site 0) + 1 ≤ hubGrant 0 →
    s.hub.siteCleat site n = true →
    n < 4096 →
    (s.hub.cleat.waits.all fun w => w.cleat != n) = true →
    s.hub.siteWaits site < 256 →
    cmpHolds cmp (s.hub.get (R.CLT_VALUE n)) v.toNat = false →
    ∃ t, exec (.siteCltWait site tag cmp n v tmo) s = .next t ∧ t.hub.cleat.waits = s.hub.cleat.waits ++ [({ who := .site site tag tmo, cleat := n, cmp := cmp, value := v.toNat, time := 0 } : Wait)] ∧ t.hub.get (R.CLT_VALUE n) = s.hub.get (R.CLT_VALUE n)) ∧
  -- SITE_CLT_WAIT of a met condition is answered at once
  (∀ (site tag cmp n : Nat) (v : Word) (tmo : Nat) (s : State),
    (Instr.siteCltWait site tag cmp n v tmo).wf = true →
    s.hub.siteUp site = true →
    s.hub.get (R.YDL_CREDIT_OWED site 0) + 1 ≤ hubGrant 0 →
    s.hub.siteCleat site n = true →
    n < 4096 →
    (s.hub.cleat.waits.all fun w => w.cleat != n) = true →
    s.hub.siteWaits site < 256 →
    cmpHolds cmp (s.hub.get (R.CLT_VALUE n)) v.toNat = true →
    (s.hub.siteS site).ctlq = [] →
    1 ≤ s.hub.get (R.YDL_CREDIT_HELD site 1) →
    ∃ t, exec (.siteCltWait site tag cmp n v tmo) s = .next t ∧ t.hub.cleat.waits = s.hub.cleat.waits ∧
      Out.control site 0x31 tag ([1, 0, 0, 0] ++ leBytes 4 (s.hub.get (R.CLT_VALUE n))) ([]) ∈ t.hub.out) ∧
  -- SITE_CLT_WAIT_TIMEOUT answers status 2
  (∀ (site tag : Nat) (w : Wait) (tmo : Nat) (s : State),
    (Instr.siteCltWaitTimeout site tag).wf = true →
    s.hub.cleat.waits = [w] →
    w.who = .site site tag tmo →
    tmo ≠ 0 →
    s.hub.siteUp site = true →
    (s.hub.siteS site).ctlq = [] →
    1 ≤ s.hub.get (R.YDL_CREDIT_HELD site 1) →
    ∃ t, exec (.siteCltWaitTimeout site tag) s = .next t ∧ t.hub.cleat.waits = [] ∧
      Out.control site 0x31 tag ([2, 0, 0, 0] ++ leBytes 4 (s.hub.get (R.CLT_VALUE w.cleat))) ([]) ∈ t.hub.out) ∧
  -- SITE_CLT_ADD of a cleat not the site's changes nothing, counts DENIED and answers status 3
  (∀ (site tag n : Nat) (v : Word) (s : State),
    (Instr.siteCltAdd site tag n v).wf = true →
    s.hub.siteUp site = true →
    s.hub.get (R.YDL_CREDIT_OWED site 0) + 1 ≤ hubGrant 0 →
    s.hub.siteCleat site n = false →
    (s.hub.siteS site).ctlq = [] →
    1 ≤ s.hub.get (R.YDL_CREDIT_HELD site 1) →
    s.hub.get R.CLT_STAT_DENIED + 1 < 2 ^ (R.CLT_STAT_DENIED).width →
    ∃ t, exec (.siteCltAdd site tag n v) s = .next t ∧ t.hub.get (R.CLT_VALUE n) = s.hub.get (R.CLT_VALUE n) ∧ t.hub.get R.CLT_STAT_DENIED = s.hub.get R.CLT_STAT_DENIED + 1 ∧
      Out.control site 0x31 tag ([3, 0, 0, 0] ++ leBytes 4 0) ([]) ∈ t.hub.out) ∧
  -- TIME_RD of the low half answers it and latches the high half
  (∀ (site tag half : Nat) (s : State),
    (Instr.timeRd site tag half).wf = true →
    s.hub.siteUp site = true →
    s.hub.get (R.YDL_CREDIT_OWED site 0) + 1 ≤ hubGrant 0 →
    half = 0 →
    (s.hub.siteS site).ctlq = [] →
    1 ≤ s.hub.get (R.YDL_CREDIT_HELD site 1) →
    ∃ t, exec (.timeRd site tag half) s = .next t ∧ t.hub.shadow (.site site) = some (0x130000, BitVec.ofNat 32 (s.hub.now / 2 ^ 32)) ∧
      Out.control site 0x33 tag ([0, 0, 0, 0] ++ leBytes 4 (s.hub.now % 2 ^ 32)) ([]) ∈ t.hub.out) ∧
  -- TIME_RD of the high half answers the latched word
  (∀ (site tag half : Nat) (w : Word) (s : State),
    (Instr.timeRd site tag half).wf = true →
    s.hub.siteUp site = true →
    s.hub.get (R.YDL_CREDIT_OWED site 0) + 1 ≤ hubGrant 0 →
    half = 1 →
    s.hub.shadow (.site site) = some (0x130000, w) →
    (s.hub.siteS site).ctlq = [] →
    1 ≤ s.hub.get (R.YDL_CREDIT_HELD site 1) →
    ∃ t, exec (.timeRd site tag half) s = .next t ∧ t.hub.shadow (.site site) = none ∧
      Out.control site 0x33 tag ([0, 0, 0, 0] ++ leBytes 4 w.toNat) ([]) ∈ t.hub.out)

/-- The buffer directory: grants, upgrades, write-backs, evictions and recalls. Each clause says where its command
completes, and with what. What a definition named here takes from the log, not the spec, is the model's choice: log
entry 37. -/
def Obligations.DirectoryGrantsLines : Prop :=
  -- RD_SHARED of an unowned line adds the sharer and grants the data
  (∀ (site tag l i : Nat) (addr : DWord) (s : State),
    (Instr.rdShared site tag addr).wf = true →
    s.hub.dir.gather = [] →
    s.sameDecision (.rdShared site tag addr) = false →
    s.hub.siteUp site = true →
    s.hub.get (R.YDL_CREDIT_OWED site 0) + 1 ≤ hubGrant 0 →
    l = addrOff addr.toNat / 64 →
    s.hub.caches site = true →
    s.hub.lineAddr addr.toNat = true →
    addrSpace addr.toNat = 1 →
    s.hub.cohIndex l = some i →
    s.hub.lineState l = 2 →
    nget s.hub.dir.errs (dirWord i) = 0 →
    s.hub.txn l = none →
    s.hub.entry i < 32 →
    s.mem.bufErr = [] →
    (s.hub.siteS site).ctlq = [] →
    2 ≤ s.hub.get (R.YDL_CREDIT_HELD site 1) →
    ∃ t, exec (.rdShared site tag addr) s = .next t ∧ t.hub.entry i = dirShared (maskOr (dirMask (s.hub.entry i)) (siteBit site)) ∧
      Out.control site 0x20 tag (lineBody l ++ [0]) (s.mem.bytes 1 (64 * l) 64) ∈ t.hub.out ∧ t.mem = s.mem) ∧
  -- RD_SHARED of a line owned elsewhere recalls it and waits
  (∀ (site tag l i o : Nat) (addr : DWord) (s : State),
    (Instr.rdShared site tag addr).wf = true →
    s.hub.dir.gather = [] →
    s.sameDecision (.rdShared site tag addr) = false →
    s.hub.siteUp site = true →
    s.hub.get (R.YDL_CREDIT_OWED site 0) + 1 ≤ hubGrant 0 →
    l = addrOff addr.toNat / 64 →
    s.hub.caches site = true →
    s.hub.lineAddr addr.toNat = true →
    addrSpace addr.toNat = 1 →
    s.hub.cohIndex l = some i →
    s.hub.lineState l = 2 →
    nget s.hub.dir.errs (dirWord i) = 0 →
    s.hub.txn l = none →
    o < 4 →
    o ≠ site →
    s.hub.entry i = dirOwned o →
    s.hub.siteUp o = true →
    (s.hub.siteS o).ctlq = [] →
    1 ≤ s.hub.get (R.YDL_CREDIT_HELD o 0) →
    ∃ t, exec (.rdShared site tag addr) s = .next t ∧ (t.hub.txn l).map (fun (x : DirTxn) => (x.req.kind, x.req.pos, x.await)) = some (0, site, siteBit o) ∧ t.hub.entry i = s.hub.entry i ∧
      Out.control o 0x22 (s.hub.siteS o).tag (lineBody l) ([]) ∈ t.hub.out ∧ t.mem = s.mem) ∧
  -- RD_OWN with no other holder makes the site owner and grants the data
  (∀ (site tag l i : Nat) (addr : DWord) (s : State),
    (Instr.rdOwn site tag addr).wf = true →
    s.hub.dir.gather = [] →
    s.sameDecision (.rdOwn site tag addr) = false →
    s.hub.siteUp site = true →
    s.hub.get (R.YDL_CREDIT_OWED site 0) + 1 ≤ hubGrant 0 →
    l = addrOff addr.toNat / 64 →
    s.hub.caches site = true →
    s.hub.lineAddr addr.toNat = true →
    addrSpace addr.toNat = 1 →
    s.hub.cohIndex l = some i →
    s.hub.lineState l = 2 →
    nget s.hub.dir.errs (dirWord i) = 0 →
    s.hub.txn l = none →
    s.hub.entry i < 32 →
    maskLess (dirMask (s.hub.entry i)) (siteBit site) = 0 →
    s.mem.bufErr = [] →
    (s.hub.siteS site).ctlq = [] →
    2 ≤ s.hub.get (R.YDL_CREDIT_HELD site 1) →
    ∃ t, exec (.rdOwn site tag addr) s = .next t ∧ t.hub.entry i = dirOwned site ∧
      Out.control site 0x21 tag (lineBody l ++ [0]) (s.mem.bytes 1 (64 * l) 64) ∈ t.hub.out ∧ t.mem = s.mem) ∧
  -- RD_OWN of a site that may not cache is answered with a NACK
  (∀ (site tag : Nat) (addr : DWord) (s : State),
    (Instr.rdOwn site tag addr).wf = true →
    s.hub.dir.gather = [] →
    s.sameDecision (.rdOwn site tag addr) = false →
    s.hub.siteUp site = true →
    s.hub.get (R.YDL_CREDIT_OWED site 0) + 1 ≤ hubGrant 0 →
    s.hub.caches site = false →
    (s.hub.siteS site).ctlq = [] →
    1 ≤ s.hub.get (R.YDL_CREDIT_HELD site 1) →
    ∃ t, exec (.rdOwn site tag addr) s = .next t ∧ Out.control site 0x25 tag (leBytes 8 addr.toNat) ([]) ∈ t.hub.out ∧ t.mem = s.mem ∧
      t.hub.dir.entries = s.hub.dir.entries ∧ t.hub.dir.txns = s.hub.dir.txns) ∧
  -- UPGRADE of the only sharer makes it owner, without data
  (∀ (site tag l i : Nat) (addr : DWord) (s : State),
    (Instr.upgrade site tag addr).wf = true →
    s.hub.dir.gather = [] →
    s.sameDecision (.upgrade site tag addr) = false →
    s.hub.siteUp site = true →
    s.hub.get (R.YDL_CREDIT_OWED site 0) + 1 ≤ hubGrant 0 →
    l = addrOff addr.toNat / 64 →
    s.hub.caches site = true →
    s.hub.lineAddr addr.toNat = true →
    addrSpace addr.toNat = 1 →
    s.hub.cohIndex l = some i →
    s.hub.lineState l = 2 →
    nget s.hub.dir.errs (dirWord i) = 0 →
    s.hub.txn l = none →
    s.hub.entry i = dirShared (siteBit site) →
    (s.hub.siteS site).ctlq = [] →
    1 ≤ s.hub.get (R.YDL_CREDIT_HELD site 1) →
    ∃ t, exec (.upgrade site tag addr) s = .next t ∧ t.hub.entry i = dirOwned site ∧
      Out.control site 0x21 tag (lineBody l ++ [0]) ([]) ∈ t.hub.out ∧ t.mem = s.mem) ∧
  -- EVICT_CLEAN by the owner frees the line
  (∀ (site tag l i : Nat) (addr : DWord) (s : State),
    (Instr.evictClean site tag addr).wf = true →
    s.hub.dir.gather = [] →
    s.sameDecision (.evictClean site tag addr) = false →
    s.hub.siteUp site = true →
    s.hub.get (R.YDL_CREDIT_OWED site 0) + 1 ≤ hubGrant 0 →
    l = addrOff addr.toNat / 64 →
    addrSpace addr.toNat = 1 →
    addrOff addr.toNat % 64 = 0 →
    s.hub.cohIndex l = some i →
    nget s.hub.dir.errs (dirWord i) = 0 →
    s.hub.entry i = dirOwned site →
    (s.hub.siteS site).ctlq = [] →
    1 ≤ s.hub.get (R.YDL_CREDIT_HELD site 1) →
    ∃ t, exec (.evictClean site tag addr) s = .next t ∧ t.hub.entry i = 0 ∧ t.mem = s.mem ∧ Out.control site 0x24 tag (leBytes 8 addr.toNat) ([]) ∈ t.hub.out) ∧
  -- WB_DIRTY by the owner stores exactly the line and frees it
  (∀ (site tag l i : Nat) (addr : DWord) (line : List Byte) (s : State),
    (Instr.wbDirty site tag addr line).wf = true →
    s.hub.dir.gather = [] →
    s.sameDecision (.wbDirty site tag addr line) = false →
    s.hub.siteUp site = true →
    s.hub.get (R.YDL_CREDIT_OWED site 0) + 2 ≤ hubGrant 0 →
    l = addrOff addr.toNat / 64 →
    addrSpace addr.toNat = 1 →
    addrOff addr.toNat % 64 = 0 →
    s.hub.cohIndex l = some i →
    nget s.hub.dir.errs (dirWord i) = 0 →
    s.hub.entry i = dirOwned site →
    (s.hub.siteS site).ctlq = [] →
    1 ≤ s.hub.get (R.YDL_CREDIT_HELD site 1) →
    ∃ t, exec (.wbDirty site tag addr line) s = .next t ∧ t.hub.entry i = 0 ∧ t.mem.bytes 1 (64 * l) 64 = line ∧
      (∀ sp x, ¬ (sp ≠ 0 ∧ 64 * l ≤ x ∧ x < 64 * l + 64) → t.mem.byte sp x = s.mem.byte sp x) ∧
      Out.control site 0x24 tag (leBytes 8 addr.toNat) ([]) ∈ t.hub.out) ∧
  -- RECALL_ACK, the last awaited, ends the recall with the entry the request gives
  (∀ (site tag l i : Nat) (addr : DWord) (x : DirTxn) (s : State),
    (Instr.recallAck site tag addr).wf = true →
    s.hub.siteUp site = true →
    s.hub.get (R.YDL_CREDIT_OWED site 1) + 1 ≤ hubGrant 1 →
    l = addrOff addr.toNat / 64 →
    s.hub.cohIndex l = some i →
    s.hub.txn l = some x →
    x.await = siteBit site →
    x.queue = [] →
    x.req.kind ≤ 2 →
    s.hub.lineState l ≠ 3 →
    ∃ t, exec (.recallAck site tag addr) s = .next t ∧ t.hub.txn l = none ∧ t.hub.entry i = entryAfter x.req.kind x.req.pos (s.hub.entry i)) ∧
  -- RECALL_DATA, the last awaited, stores the line and ends the recall with the entry the request gives
  (∀ (site tag l i : Nat) (addr : DWord) (line : List Byte) (x : DirTxn) (s : State),
    (Instr.recallData site tag addr line).wf = true →
    s.hub.siteUp site = true →
    s.hub.get (R.YDL_CREDIT_OWED site 1) + 2 ≤ hubGrant 1 →
    l = addrOff addr.toNat / 64 →
    s.hub.cohIndex l = some i →
    s.hub.txn l = some x →
    x.await = siteBit site →
    x.queue = [] →
    x.req.kind ≤ 2 →
    s.hub.lineState l ≠ 3 →
    s.hub.on R.RAS_FLIP_CTRL_ARM = false →
    ∃ t, exec (.recallData site tag addr line) s = .next t ∧ t.hub.txn l = none ∧ t.hub.entry i = entryAfter x.req.kind x.req.pos (s.hub.entry i) ∧
      t.mem.bytes 1 (64 * l) 64 = line) ∧
  -- RECALL_TIMEOUT drops the site with WHY 10
  (∀ (site line : Nat) (s : State),
    (Instr.recallTimeout site line).wf = true →
    s.hub.awaits site line = true →
    s.hub.siteOut site = false →
    ∃ t, exec (.recallTimeout site line) s = .next t ∧ t.hub.get (R.YDL_STAT_STATE site) = 4 ∧ t.hub.get (R.YDL_DISC_WHY site) = 10 ∧ (t.hub.siteS site).calls = [])

/-- Stacks in operation: temperature, refresh, command parity, scheduling and power-down. Each clause says where its
command completes, and with what. What a definition named here takes from the log, not the spec, is the model's
choice: log entries 7, 38, 51, 56. -/
def Obligations.MemoryChannelsRun : Prop :=
  -- STACK_TEMP_READ stores TEMP, HOT and TRIP
  (∀ (stack temp : Nat) (s : State),
    (Instr.stackTempRead stack true temp).wf = true →
    ∃ t, exec (.stackTempRead stack true temp) s = .next t ∧ t.hub.get (R.MEM_STAT_TEMP stack) = temp ∧ t.hub.get (R.MEM_STAT_HOT stack) = b2n (decide (85 ≤ temp)) ∧
      t.hub.get (R.MEM_STAT_TRIP stack) = b2n (decide (s.hub.get (R.MEM_THERM_TRIP_C stack) ≤ temp)) ∧ t.mem = s.mem) ∧
  -- STACK_TEMP_READ that fails sets HOT and records WARNING 0x23
  (∀ (stack temp : Nat) (s : State),
    (Instr.stackTempRead stack false temp).wf = true →
    s.hub.yew.tokens ≠ 0 →
    ∃ t, exec (.stackTempRead stack false temp) s = .next t ∧ t.hub.get (R.MEM_STAT_HOT stack) = 1 ∧ t.hub.yew.seq = nextSeq s.hub.yew.seq ∧ t.hub.yew.hist = (0x23 :: s.hub.yew.hist).take 4 ∧ t.mem = s.mem) ∧
  -- REFRESH that is due closes the row and lowers the count
  (∀ (stack q bank how k : Nat) (s : State),
    (Instr.refresh stack q bank how).wf = true →
    how = 0 →
    k = bankKey (32 * stack + q) bank →
    s.hub.memch.selfRef = false →
    nget s.hub.memch.pulled k = 0 →
    ∃ t, exec (.refresh stack q bank how) s = .next t ∧ nget t.hub.memch.rows k = 0 ∧ nget t.hub.memch.owed k = nget s.hub.memch.owed k ∧
      nget t.hub.memch.raa k = nget s.hub.memch.raa k - Config.raaPerRefresh ∧ t.hub.get (R.MEM_PC_PD stack q) = 0 ∧ t.mem = s.mem) ∧
  -- REFRESH postponed behind requests owes one more, up to the limit
  (∀ (stack q bank how k : Nat) (s : State),
    (Instr.refresh stack q bank how).wf = true →
    how = 1 →
    k = bankKey (32 * stack + q) bank →
    s.hub.memch.selfRef = false →
    nget s.hub.memch.pulled k = 0 →
    (s.hub.queue (32 * stack + q)).isEmpty = false →
    ∃ t, exec (.refresh stack q bank how) s = .next t ∧ nget t.hub.memch.owed k = nget s.hub.memch.owed k + (if nget s.hub.memch.owed k < Config.refreshLimit then 1 else 0) ∧
      (nget s.hub.memch.owed k < Config.refreshLimit → t.hub.memch.rows = s.hub.memch.rows ∧ t.hub.regs = s.hub.regs) ∧
      (Config.refreshLimit ≤ nget s.hub.memch.owed k → nget t.hub.memch.rows k = 0) ∧ t.mem = s.mem) ∧
  -- REFRESH beyond those due makes up what is owed
  (∀ (stack q bank how k : Nat) (s : State),
    (Instr.refresh stack q bank how).wf = true →
    how = 2 →
    k = bankKey (32 * stack + q) bank →
    s.hub.memch.selfRef = false →
    0 < nget s.hub.memch.owed k →
    ∃ t, exec (.refresh stack q bank how) s = .next t ∧ nget t.hub.memch.rows k = 0 ∧ nget t.hub.memch.owed k = nget s.hub.memch.owed k - 1 ∧
      nget t.hub.memch.pulled k = nget s.hub.memch.pulled k ∧ t.hub.get (R.MEM_PC_PD stack q) = 0 ∧ t.mem = s.mem) ∧
  -- REFRESH that was pulled in is not repeated
  (∀ (stack q bank how k : Nat) (s : State),
    (Instr.refresh stack q bank how).wf = true →
    how < 2 →
    k = bankKey (32 * stack + q) bank →
    s.hub.memch.selfRef = false →
    0 < nget s.hub.memch.pulled k →
    ∃ t, exec (.refresh stack q bank how) s = .next t ∧ nget t.hub.memch.pulled k = nget s.hub.memch.pulled k - 1 ∧ nget t.hub.memch.owed k = nget s.hub.memch.owed k ∧
      t.hub.memch.rows = s.hub.memch.rows ∧ t.hub.regs = s.hub.regs ∧ t.mem = s.mem) ∧
  -- CA_PARITY_ERROR reissues and counts CAPAR
  (∀ (stack : Nat) (s : State),
    (Instr.caParityError stack false).wf = true →
    s.hub.get (R.MEM_EVT_CAPAR stack) + 1 < 2 ^ (R.MEM_EVT_CAPAR stack).width →
    ∃ t, exec (.caParityError stack false) s = .next t ∧ nget t.hub.memch.parity stack = 1 ∧ t.hub.get (R.MEM_EVT_CAPAR stack) = s.hub.get (R.MEM_EVT_CAPAR stack) + 1 ∧ t.mem = s.mem) ∧
  -- CA_PARITY_ERROR after four reissues is FATAL
  (∀ (stack : Nat) (s : State),
    (Instr.caParityError stack true).wf = true →
    nget s.hub.memch.parity stack = 4 →
    s.hub.pins.d0Reset = false →
    s.hub.get (R.YEW_ESC_FATALS) + 1 < 2 ^ (R.YEW_ESC_FATALS).width →
    ∃ t, exec (.caParityError stack true) s = .next t ∧ t.hub.pins.fatalN = false ∧ t.hub.boot.pend = 2 ∧ t.hub.get R.YEW_ESC_FATALS = s.hub.get R.YEW_ESC_FATALS + 1 ∧ nget t.hub.memch.parity stack = 0 ∧ t.mem = s.mem) ∧
  -- SCHEDULE_COMMAND serves the chosen request and opens its row
  (∀ (stack q p k : Nat) (busy : List Nat) (h : Hub) (r : MemReq) (s : State),
    (Instr.scheduleCommand stack q busy).wf = true →
    p = 32 * stack + q →
    h = { s.hub with memch := { s.hub.memch with drain := nset s.hub.memch.drain p (b2n (s.hub.drainNow p)) } } →
    h.rfmBank p busy = none →
    h.choose p busy = some r →
    k = bankKey p (dramDecode r.addr).bank →
    ∃ t, exec (.scheduleCommand stack q busy) s = .next t ∧ t.hub.queue p = (s.hub.queue p).erase r ∧ nget t.hub.memch.rows k = (dramDecode r.addr).row + 1 ∧
      nget t.hub.memch.raa k = (if nget s.hub.memch.rows k = (dramDecode r.addr).row + 1 then nget s.hub.memch.raa k else nget s.hub.memch.raa k + 1) ∧
      t.hub.get (R.MEM_PC_PD stack q) = 0 ∧ t.mem = s.mem) ∧
  -- SCHEDULE_COMMAND refreshes an over-activated bank first and counts RFM
  (∀ (stack q p b : Nat) (busy : List Nat) (s : State),
    (Instr.scheduleCommand stack q busy).wf = true →
    p = 32 * stack + q →
    s.hub.rfmBank p busy = some b →
    s.hub.get (R.MEM_EVT_RFM stack) + 1 < 2 ^ (R.MEM_EVT_RFM stack).width →
    ∃ t, exec (.scheduleCommand stack q busy) s = .next t ∧ nget t.hub.memch.raa (bankKey p b) = nget s.hub.memch.raa (bankKey p b) - Config.raaPerRfm ∧
      t.hub.get (R.MEM_EVT_RFM stack) = s.hub.get (R.MEM_EVT_RFM stack) + 1 ∧ t.hub.queue p = s.hub.queue p ∧ t.mem = s.mem) ∧
  -- POWER_DOWN_ENTRY of an idle pseudo-channel sets PD
  (∀ (stack q : Nat) (s : State),
    (Instr.powerDownEntry stack q).wf = true →
    s.hub.on (R.MEM_CFG_PD_EN stack) = true →
    (s.hub.queue (32 * stack + q)).isEmpty = true →
    ∃ t, exec (.powerDownEntry stack q) s = .next t ∧ t.hub.get (R.MEM_PC_PD stack q) = 1 ∧ t.hub.memch = s.hub.memch ∧ t.mem = s.mem)

/-- Sheet's rates, floors and the telltales. Each clause says where its command completes, and with what. What a
definition named here takes from the log, not the spec, is the model's choice: log entry 38. -/
def Obligations.SheetAndTelltalesRun : Prop :=
  -- SHEET_UPDATE of a congested class not cut for 150 updates cuts its rate, not below FLOOR
  (∀ (c : Nat) (s : State),
    c < 7 →
    s.hub.sentCong c 200 = true →
    150 ≤ nget s.hub.memch.sinceCut c →
    s.hub.get (R.QOS_CLASS2_CUTS c) + 1 < 2 ^ (R.QOS_CLASS2_CUTS c).width →
    ∃ t, exec .sheetUpdate s = .next t ∧ t.hub.rateOf c = max (1000 * s.hub.get (R.QOS_CLASS0_FLOOR c)) (s.hub.rateOf c * (16 - s.hub.get R.QOS_SHEET_CTRL_CUT) / 16) ∧
      t.hub.get (R.QOS_CLASS2_CUTS c) = s.hub.get (R.QOS_CLASS2_CUTS c) + 1 ∧ nget t.hub.memch.sinceCut c = 0 ∧ t.mem = s.mem) ∧
  -- SHEET_UPDATE of an uncongested class raises its rate, not above CEIL
  (∀ (c : Nat) (s : State),
    c < 7 →
    s.hub.sentCong c 1000 = false →
    s.hub.sentCong c 200 = false →
    ∃ t, exec .sheetUpdate s = .next t ∧ t.hub.rateOf c = min (1000 * s.hub.ceilOf c) (s.hub.rateOf c + 50 * s.hub.get R.QOS_SHEET_CTRL_RISE) ∧
      t.hub.get (R.QOS_CLASS2_CUTS c) = s.hub.get (R.QOS_CLASS2_CUTS c) ∧ t.mem = s.mem) ∧
  -- FLOOR_WRITE within the limit stores CEIL and FLOOR
  (∀ (req : Path) (c : Nat) (v : Word) (s : State),
    (Instr.floorWrite req c v).wf = true →
    req.holdsBlocks = true →
    s.hub.unlocked = true →
    10 * s.hub.floorSum c (bitsOf v 16 16) ≤ floorLimit (s.hub.get (R.MEM_STAT_RATE 0)) →
    ∃ t, exec (.floorWrite req c v) s = .next t ∧ t.hub.get (R.QOS_CLASS0_CEIL c) = bitsOf v 0 16 ∧ t.hub.get (R.QOS_CLASS0_FLOOR c) = bitsOf v 16 16 ∧ t.mem = s.mem) ∧
  -- FLOOR_WRITE beyond the limit sets FLOOR_REF and leaves FLOOR
  (∀ (req : Path) (c : Nat) (v : Word) (s : State),
    (Instr.floorWrite req c v).wf = true →
    req.holdsBlocks = true →
    s.hub.unlocked = true →
    floorLimit (s.hub.get (R.MEM_STAT_RATE 0)) < 10 * s.hub.floorSum c (bitsOf v 16 16) →
    ∃ t, exec (.floorWrite req c v) s = .next t ∧ t.hub.get R.QOS_SHEET_STAT_FLOOR_REF = 1 ∧ t.hub.get (R.QOS_CLASS0_FLOOR c) = s.hub.get (R.QOS_CLASS0_FLOOR c) ∧ t.mem = s.mem) ∧
  -- TELLTALE_LEVEL_CHANGE of telltale 4 stores FILL and its level
  (∀ (m fill : Nat) (s : State),
    (Instr.telltaleLevelChange m fill).wf = true →
    m = 4 →
    ∃ t, exec (.telltaleLevelChange m fill) s = .next t ∧ t.hub.get (R.QOS_TT1_FILL m) = fill ∧
      t.hub.get (R.QOS_TT1_LEVEL m) = levelStep (s.hub.get (R.QOS_TT0_T1 m)) (s.hub.get (R.QOS_TT0_T2 m)) (s.hub.get (R.QOS_TT0_T3 m)) fill (s.hub.get (R.QOS_TT1_LEVEL m)) ∧ t.mem = s.mem) ∧
  -- TELLTALE_LEVEL_CHANGE of a quad shows the quad's fill
  (∀ (m fill : Nat) (s : State),
    (Instr.telltaleLevelChange m fill).wf = true →
    5 ≤ m →
    ∃ t, exec (.telltaleLevelChange m fill) s = .next t ∧ t.hub.get (R.QOS_TT1_FILL m) = s.hub.quadFill (m - 5) ∧ t.hub.get (R.SER_QUAD_FILL (m - 5)) = s.hub.quadFill (m - 5) ∧ t.mem = s.mem) ∧
  -- TELLTALE_THRESHOLD_WRITE stores its thresholds in rising order
  (∀ (req : Path) (m : Nat) (v : Word) (s : State),
    (Instr.telltaleThresholdWrite req m v).wf = true →
    req.holdsBlocks = true →
    4 ≤ m →
    ∃ t, exec (.telltaleThresholdWrite req m v) s = .next t ∧
      (t.hub.get (R.QOS_TT0_T1 m), t.hub.get (R.QOS_TT0_T2 m), t.hub.get (R.QOS_TT0_T3 m)) = sort3 (bitsOf v 0 7) (bitsOf v 8 7) (bitsOf v 16 7) ∧ t.mem = s.mem) ∧
  -- TELLTALE_WINDOW ends every urgency and clamp
  (∀ (s : State),
    ∃ t, exec .telltaleWindow s = .next t ∧ t.hub.memch.urgent = [] ∧ t.hub.memch.clamp = [] ∧ t.hub.regs = s.hub.regs ∧ t.mem = s.mem)

/-- Stored-data errors: scrubbing, the RAS ring, hourly counts, repair requests and the flip mask. Each clause says
where its command completes, and with what. What a definition named here takes from the log, not the spec, is the
model's choice: log entries 6, 51. -/
def Obligations.ErrorsAndScrubRun : Prop :=
  -- BUF_SCRUB_READ of a powered tile goes on by one word
  (∀ (n : Nat) (s : State),
    n = s.hub.ras.bufPos →
    s.hub.ready = true →
    s.hub.on R.RAS_SCRUB_BUF_MIN = true →
    n < 1600 * bankWords →
    s.hub.domOn (2 + tileOfBank (n / bankWords)) = true →
    ∃ t, exec .bufScrubRead s = .next t ∧ t.hub.ras.bufPos = n + 1 ∧ t.hub.dir = s.hub.dir) ∧
  -- DRAM_SCRUB_READ within a granule goes on by one sector
  (∀ (g : Nat) (s : State),
    s.hub.ready = true →
    s.hub.on R.RAS_SCRUB_DRAM_HOURS = true →
    g = s.hub.get R.RAS_SCRUB_DRAM_POS_GRANULE →
    g < s.hub.dramSize / 4096 →
    s.hub.skipped g = false →
    s.hub.ras.dramSec < 127 →
    ∃ t, exec .dramScrubRead s = .next t ∧ t.hub.ras.dramSec = s.hub.ras.dramSec + 1 ∧ t.hub.get R.RAS_SCRUB_DRAM_POS_GRANULE = g) ∧
  -- DRAM_SCRUB_READ of the last sector ends the pass
  (∀ (g : Nat) (s : State),
    s.hub.ready = true →
    s.hub.on R.RAS_SCRUB_DRAM_HOURS = true →
    g = s.hub.get R.RAS_SCRUB_DRAM_POS_GRANULE →
    g + 1 = s.hub.dramSize / 4096 →
    s.hub.skipped g = false →
    s.hub.ras.dramSec = 127 →
    s.hub.get R.RAS_SCRUB_DRAM_PASSES + 1 < 2 ^ (R.RAS_SCRUB_DRAM_PASSES).width →
    ∃ t, exec .dramScrubRead s = .next t ∧ t.hub.ras.dramSec = 0 ∧ t.hub.get R.RAS_SCRUB_DRAM_POS_GRANULE = 0 ∧
      t.hub.get R.RAS_SCRUB_DRAM_PASSES = s.hub.get R.RAS_SCRUB_DRAM_PASSES + 1) ∧
  -- RAS_CONS_WRITE within the entries moves CONS
  (∀ (req : Path) (v : Word) (c n : Nat) (s : State),
    (Instr.rasConsWrite req v).wf = true →
    req.holdsBlocks = true →
    c = s.hub.get R.RAS_LOG_PTR_CONS →
    n = bitsOf v 16 10 →
    (n + 1024 - c) % 1024 ≤ (s.hub.get R.RAS_LOG_PTR_PROD + 1024 - c) % 1024 →
    ∃ t, exec (.rasConsWrite req v) s = .next t ∧ t.hub.get R.RAS_LOG_PTR_CONS = n ∧ t.hub.get R.RAS_LOG_PTR_PROD = s.hub.get R.RAS_LOG_PTR_PROD) ∧
  -- RAS_CONS_WRITE beyond PROD leaves CONS
  (∀ (req : Path) (v : Word) (c n : Nat) (s : State),
    (Instr.rasConsWrite req v).wf = true →
    req.holdsBlocks = true →
    c = s.hub.get R.RAS_LOG_PTR_CONS →
    n = bitsOf v 16 10 →
    (s.hub.get R.RAS_LOG_PTR_PROD + 1024 - c) % 1024 < (n + 1024 - c) % 1024 →
    s.hub.rasFull = false →
    ∃ t, exec (.rasConsWrite req v) s = .next t ∧ t.hub.get R.RAS_LOG_PTR_CONS = c) ∧
  -- CE_HOURLY writes its record and starts the hour's counts again
  (∀ (s : State),
    s.hub.ready = true →
    s.hub.yew.tokens ≠ 0 →
    ∃ t, exec .ceHourly s = .next t ∧ t.hub.ras.ceHour = [] ∧ t.hub.yew.seq = nextSeq s.hub.yew.seq ∧ t.hub.yew.tokens + 1 = s.hub.yew.tokens ∧ t.mem = s.mem) ∧
  -- PPR_REQUEST of a good row is queued and answered
  (∀ (noResource : Bool) (a : Nat) (s : State),
    (Instr.pprRequest noResource).wf = true →
    s.hub.on R.MAST_STAT_BUSY = true →
    s.hub.mast.op = 0x20 →
    s.hub.mast.answer = none →
    s.hub.mast.mgmt = none →
    2 ≤ s.hub.stage →
    s.hub.ras.sram = [] →
    s.hub.mast.len = 16 →
    a = leAt s.hub.mastData 0 8 →
    a < s.hub.dramSize →
    leAt s.hub.mastData 8 1 = 0 →
    leAt s.hub.mastData 9 7 = 0 →
    s.hub.yew.region.ppr.any (sameRow a) = false →
    s.hub.yew.region.ppr.length < 16 →
    noResource = false →
    ∃ t, exec (.pprRequest noResource) s = .next t ∧ t.hub.mast.answer = some (0, 1, [0]) ∧ t.hub.yew.region.ppr = s.hub.yew.region.ppr ++ [a]) ∧
  -- FLIP_ARM where allowed arms the mask
  (∀ (req : Path) (v : Word) (s : State),
    (Instr.flipArm req v).wf = true →
    req.holdsBlocks = true →
    s.hub.mayArm req = true →
    ∃ t, exec (.flipArm req v) s = .next t ∧ t.hub.get R.RAS_FLIP_CTRL_ARM = 1 ∧ t.hub.get R.RAS_FLIP_CTRL_TARGET = bitsOf v 4 3 ∧
      t.hub.get R.RAS_FLIP_CTRL_MATCH_EN = bitsOf v 12 1 ∧ t.mem = s.mem) ∧
  -- FLIP_ARM elsewhere sets REFUSED
  (∀ (req : Path) (v : Word) (s : State),
    (Instr.flipArm req v).wf = true →
    req.holdsBlocks = true →
    s.hub.mayArm req = false →
    ∃ t, exec (.flipArm req v) s = .next t ∧ t.hub.get R.RAS_FLIP_CTRL_REFUSED = 1 ∧ t.hub.get R.RAS_FLIP_CTRL_ARM = s.hub.get R.RAS_FLIP_CTRL_ARM ∧ t.mem = s.mem) ∧
  -- FLIP_DISARM clears ARM
  (∀ (req : Path) (v : Word) (s : State),
    (Instr.flipDisarm req v).wf = true →
    req.holdsBlocks = true →
    ∃ t, exec (.flipDisarm req v) s = .next t ∧ t.hub.get R.RAS_FLIP_CTRL_ARM = 0 ∧ t.mem = s.mem)

/-- YDL modules: training, drift, flits, acknowledgements and replay. Each clause says where its command completes,
and with what. What a definition named here takes from the log, not the spec, is the model's choice: log entry 56. -/
def Obligations.YdlTrainsAndDelivers : Prop :=
  -- MODULE_TEST that fails marks the module bad
  (∀ (site module : Nat) (good : Bool) (s : State),
    (Instr.moduleTest site module good).wf = true →
    (s.hub.siteS site).step = 6 →
    good = false →
    ∃ t, exec (.moduleTest site module good) s = .next t ∧ bit (t.hub.siteS site).testBad module = true ∧ t.hub.regs = s.hub.regs) ∧
  -- TRAIN_STEP_LIMIT before either side ended takes the modules that passed
  (∀ (site pass : Nat) (eyes : List (Nat × Nat × Nat × Nat)) (s : State),
    (Instr.trainStepLimit site pass eyes).wf = true →
    s.hub.trains site = true →
    (s.hub.siteS site).hubPass = none →
    (s.hub.siteS site).diePass = none →
    1 ≤ (s.hub.siteS site).step →
    (s.hub.siteS site).step ≤ 6 →
    ∃ t, exec (.trainStepLimit site pass eyes) s = .next t ∧ (t.hub.siteS site).hubPass =
        some (modLess ((pass &&& (s.hub.siteS site).mask &&&
          ((List.range 34).filter fun q => eyePasses (s.hub.siteS site).step q eyes).foldl (fun m q => m + 2 ^ q) 0) % 2 ^ 34)
          (s.hub.siteS site).testBad) ∧ (t.hub.siteS site).step = (s.hub.siteS site).step) ∧
  -- DRIFT_UPDATE within 16 steps moves OFFSET and PEAK
  (∀ (site module : Nat) (up : Bool) (o : Int) (s : State),
    (Instr.driftUpdate site module up).wf = true →
    ([1, 2].contains (s.hub.get (R.YDL_MOD_STATE site module))) = true →
    o = stepsOf (s.hub.get (R.YDL_DRIFT_OFFSET site module)) + (if up then 1 else -1) →
    o.natAbs ≤ 16 →
    ∃ t, exec (.driftUpdate site module up) s = .next t ∧ stepsOf (t.hub.get (R.YDL_DRIFT_OFFSET site module)) = o ∧
      t.hub.get (R.YDL_DRIFT_PEAK site module) = max (s.hub.get (R.YDL_DRIFT_PEAK site module)) o.natAbs ∧ t.mem = s.mem) ∧
  -- DRIFT_UPDATE of a spare beyond 16 steps fails it
  (∀ (site module : Nat) (up : Bool) (o : Int) (s : State),
    (Instr.driftUpdate site module up).wf = true →
    s.hub.siteUp site = true →
    s.hub.get (R.YDL_MOD_STATE site module) = 2 →
    o = stepsOf (s.hub.get (R.YDL_DRIFT_OFFSET site module)) + (if up then 1 else -1) →
    16 < o.natAbs →
    ∃ t, exec (.driftUpdate site module up) s = .next t ∧ t.hub.get (R.YDL_MOD_STATE site module) = 4 ∧ t.hub.get (R.YDL_MOD_CAUSE site module) = 2 ∧
      (t.hub.siteS site).setTx = (s.hub.siteS site).setTx ∧ t.mem = s.mem) ∧
  -- FLIT_RECEIVE of an expected flit that is not next in order is held
  (∀ (site module v k seq : Nat) (payload : List Byte) (s : State),
    (Instr.flitReceive site module v k payload).wf = true →
    s.hub.siteUp site = true →
    (s.hub.siteS site).rxOn module = true →
    slotKind v = 0 →
    k % 4 = 1 ∨ k % 4 = 2 →
    seq = k / 4 % 64 →
    k / 256 = flitCrc seq (k % 4) payload →
    ((s.hub.siteS site).mod module).nak = false →
    seq = ((s.hub.siteS site).mod module).exp →
    (s.hub.siteS site).held = [] →
    (s.hub.siteS site).nextSfn module (s.hub.ownXr site) ≠ s.hub.ownXr site →
    ∃ t, exec (.flitReceive site module v k payload) s = .next t ∧ ((t.hub.siteS site).mod module).exp = (seq + 1) % 64 ∧
      (t.hub.siteS site).held.map (fun (f : RxFlit) => (f.sfn, f.module, f.type, f.payload)) =
        [((s.hub.siteS site).nextSfn module (s.hub.ownXr site), module, k % 4, payload)] ∧
      t.hub.ownXr site = s.hub.ownXr site ∧ t.mem = s.mem) ∧
  -- FLIT_RECEIVE of a run header next in order starts the run
  (∀ (site module v k seq r : Nat) (payload : List Byte) (s : State),
    (Instr.flitReceive site module v k payload).wf = true →
    s.hub.siteUp site = true →
    (s.hub.siteS site).rxOn module = true →
    slotKind v = 0 →
    k % 4 = 1 →
    seq = k / 4 % 64 →
    k / 256 = flitCrc seq 1 payload →
    ((s.hub.siteS site).mod module).nak = false →
    seq = ((s.hub.siteS site).mod module).exp →
    (s.hub.siteS site).held = [] →
    r = s.hub.ownXr site →
    (s.hub.siteS site).nextSfn module r = r →
    (s.hub.siteS site).change = none →
    (s.hub.siteS site).run = none →
    leAt payload 2 1 ≠ 0 →
    s.hub.get (R.YDL_CREDIT_OWED site (s.hub.runPool site (leAt payload 0 2))) + 1 ≤ hubGrant (s.hub.runPool site (leAt payload 0 2)) →
    s.hub.runPool site (leAt payload 0 2) < 6 →
    ∃ t, exec (.flitReceive site module v k payload) s = .next t ∧ t.hub.ownXr site = (r + 1) % 2 ^ 32 ∧
      ((t.hub.siteS site).mod module).dlv = seq + 1 ∧ (t.hub.siteS site).held = [] ∧
      (t.hub.siteS site).run = some (leAt payload 0 2, leAt payload 2 1, leAt payload 4 4) ∧ t.mem = s.mem) ∧
  -- FLIT_RECEIVE with a wrong CRC counts RX_ERR and asks for a resend
  (∀ (site module v k : Nat) (payload : List Byte) (s : State),
    (Instr.flitReceive site module v k payload).wf = true →
    s.hub.siteUp site = true →
    (s.hub.siteS site).rxOn module = true →
    slotKind v = 0 →
    k / 256 ≠ flitCrc (k / 4 % 64) (k % 4) payload →
    s.hub.get (R.YDL_MODCNT_RX_ERR site module) + 1 < 2 ^ (R.YDL_MODCNT_RX_ERR site module).width →
    ∃ t, exec (.flitReceive site module v k payload) s = .next t ∧
      t.hub.get (R.YDL_MODCNT_RX_ERR site module) = s.hub.get (R.YDL_MODCNT_RX_ERR site module) + 1 ∧
      ((t.hub.siteS site).mod module).exp = ((s.hub.siteS site).mod module).exp ∧ (t.hub.siteS site).held = (s.hub.siteS site).held ∧
      ((t.hub.siteS site).mod module).nak = true ∧ t.mem = s.mem) ∧
  -- REPLAY_START of the expected sequence arms the receiver
  (∀ (site module seq mset : Nat) (s : State),
    (Instr.replayStart site module seq mset).wf = true →
    s.hub.siteUp site = true →
    seq = ((s.hub.siteS site).mod module).exp →
    mset = s.hub.get (R.YDL_EVT_MSET_RX site) →
    ∃ t, exec (.replayStart site module seq mset) s = .next t ∧ ((t.hub.siteS site).mod module).armed = true ∧ t.hub.regs = s.hub.regs ∧ t.mem = s.mem) ∧
  -- ACK frees what it covers
  (∀ (site first mset j p : Nat) (entries : List (Nat × Nat)) (s : State),
    (Instr.ack site first mset entries).wf = true →
    s.hub.siteUp site = true →
    mset = s.hub.get (R.YDL_STAT_MSET_TX site) →
    (entries.all fun e => e.2 / 64 % 2 == 0) = true →
    (s.hub.siteS site).txq = [] →
    (s.hub.siteS site).setTx.Nodup →
    j < 16 →
    (s.hub.siteS site).setTx[first + j]? = some p →
    (entries.getD j (0, 0)).1 / 64 % 2 = 1 →
    ∃ t, exec (.ack site first mset entries) s = .next t ∧ ((t.hub.siteS site).mod p).txExp = (entries.getD j (0, 0)).2 % 64 ∧
      ((t.hub.siteS site).mod p).txBuf = freeTo ((entries.getD j (0, 0)).1 % 64) ((s.hub.siteS site).mod p).txBuf ∧ t.mem = s.mem) ∧
  -- ACK_INTERVAL sends what changed
  (∀ (site p : Nat) (s : State),
    (Instr.ackInterval site).wf = true →
    s.hub.siteUp site = true →
    (s.hub.siteS site).setRx.length ≤ 32 →
    p ∈ (s.hub.siteS site).setRx →
    ((s.hub.siteS site).mod p).changed = true →
    ∃ t, exec (.ackInterval site) s = .next t ∧ ((t.hub.siteS site).mod p).changed = false ∧ ((t.hub.siteS site).mod p).asked = false ∧
      ((t.hub.siteS site).mod p).exp = ((s.hub.siteS site).mod p).exp ∧
      flitOut site ((s.hub.siteS site).setTx.getD 0 34) 0 0 (padTo 64 (ackBody 0 (s.hub.get (R.YDL_EVT_MSET_RX site))
        (((s.hub.siteS site).setRx.take 16).map fun q => ((s.hub.siteS site).mod q).ackEntry))) ∈ t.hub.out) ∧
  -- REPLAY_TIMEOUT below eight runs resends and counts RUN
  (∀ (site module e n : Nat) (s : State),
    (Instr.replayTimeout site module).wf = true →
    s.hub.siteUp site = true →
    module ∈ (s.hub.siteS site).setTx →
    e = ((s.hub.siteS site).mod module).txExp →
    fromSeq e ((s.hub.siteS site).mod module).txBuf ≠ [] →
    n = s.hub.get (R.YDL_MOD_RUN site module) →
    n < 8 →
    ∃ t, exec (.replayTimeout site module) s = .next t ∧ t.hub.get (R.YDL_MOD_RUN site module) = n + 1 ∧
      flitOut site module e 0 (padTo 64 (replayBody (s.hub.get (R.YDL_STAT_MSET_TX site)))) ∈ t.hub.out ∧
      ((fromSeq e ((s.hub.siteS site).mod module).txBuf).all fun f => t.hub.out.contains (flitOut site module f.seq f.type f.payload)) = true)

/-- YDL module sets: drops, spares and agreed changes. Each clause says where its command completes, and with what.
What a definition named here takes from the log, not the spec, is the model's choice: log entries 30, 40. -/
def Obligations.YdlModuleSetsChange : Prop :=
  -- DROP_ACK of the module being dropped takes it out of both generations
  (∀ (site module mset xr : Nat) (d : DropX) (s : State),
    (Instr.dropAck site module mset xr).wf = true →
    s.hub.siteUp site = true →
    mset = s.hub.get (R.YDL_STAT_MSET_TX site) →
    (s.hub.siteS site).dropx = some d →
    d.module = module →
    ∃ t, exec (.dropAck site module mset xr) s = .next t ∧ (t.hub.siteS site).setTx = (s.hub.siteS site).dropSet module ∧
      t.hub.get (R.YDL_STAT_MSET_TX site) = (s.hub.get (R.YDL_STAT_MSET_TX site) + 1) % 256 ∧
      t.hub.get (R.YDL_EVT_MSET_RX site) = (s.hub.get (R.YDL_EVT_MSET_RX site) + 1) % 256 ∧
      t.hub.get (R.YDL_MOD_STATE site module) = 4 ∧ (t.hub.siteS site).dropx = none) ∧
  -- DROP_REQ of a live module above eight drops it with the cause given and is acknowledged
  (∀ (site module mset xr cause : Nat) (s : State),
    (Instr.dropReq site module mset xr cause).wf = true →
    s.hub.siteUp site = true →
    mset = s.hub.get (R.YDL_STAT_MSET_TX site) →
    module ∈ (s.hub.siteS site).setTx →
    (s.hub.siteS site).dropx = none →
    8 ≤ ((s.hub.siteS site).dropSet module).length →
    ∃ t, exec (.dropReq site module mset xr cause) s = .next t ∧ (t.hub.siteS site).setTx = (s.hub.siteS site).dropSet module ∧
      t.hub.get (R.YDL_STAT_MSET_TX site) = (s.hub.get (R.YDL_STAT_MSET_TX site) + 1) % 256 ∧
      t.hub.get (R.YDL_EVT_MSET_RX site) = (s.hub.get (R.YDL_EVT_MSET_RX site) + 1) % 256 ∧
      t.hub.get (R.YDL_MOD_STATE site module) = 4 ∧ t.hub.get (R.YDL_MOD_CAUSE site module) = cause ∧
      flitOut site (((s.hub.siteS site).setTx.filter fun q => q != module).getD 0 34) 0 0
        (padTo 64 (dropBody 4 module (s.hub.get (R.YDL_EVT_MSET_RX site)) (s.hub.ownXr site) cause)) ∈ t.hub.out) ∧
  -- DROP_REQ_REPEAT sends the request again on each other module
  (∀ (site q : Nat) (d : DropX) (s : State),
    (Instr.dropReqRepeat site).wf = true →
    (s.hub.siteS site).dropx = some d →
    q ∈ (s.hub.siteS site).setTx →
    q ≠ d.module →
    ∃ t, exec (.dropReqRepeat site) s = .next t ∧
      flitOut site q 0 0 (padTo 64 (dropBody 3 d.module (s.hub.get (R.YDL_EVT_MSET_RX site)) (s.hub.ownXr site) d.cause)) ∈ t.hub.out ∧ t.hub.regs = s.hub.regs) ∧
  -- DROP_REQ at eight modules drops the site with WHY 6
  (∀ (site module mset xr cause : Nat) (s : State),
    (Instr.dropReq site module mset xr cause).wf = true →
    s.hub.siteUp site = true →
    mset = s.hub.get (R.YDL_STAT_MSET_TX site) →
    module ∈ (s.hub.siteS site).setTx →
    (s.hub.siteS site).dropx = none →
    ((s.hub.siteS site).dropSet module).length < 8 →
    s.hub.siteOut site = false →
    ∃ t, exec (.dropReq site module mset xr cause) s = .next t ∧ t.hub.get (R.YDL_STAT_STATE site) = 4 ∧ t.hub.get (R.YDL_DISC_WHY site) = 6) ∧
  -- SPARE_PROPOSAL proposes the lowest spare, 4,096 flits ahead
  (∀ (site p : Nat) (s : State),
    (Instr.spareProposal site).wf = true →
    s.hub.canPropose site = true →
    s.hub.cmdRemoves site = false →
    (s.hub.siteS site).again = none →
    s.hub.on (R.YDL_CTRL_AUTO_SPARE site) = true →
    (s.hub.siteS site).setTx.length < 32 →
    0 < (s.hub.siteS site).spareDue →
    ((List.range 34).find? fun p => s.hub.get (R.YDL_MOD_STATE site p) == 2) = some p →
    ∃ t, exec (.spareProposal site) s = .next t ∧ t.hub.get (R.YDL_STAT_STATE site) = 3 ∧
      (t.hub.siteS site).change.map (fun (c : SetChange) => (c.remove, c.module, c.xh, c.xd)) =
        some (false, p, (s.hub.get (R.YDL_SFN_TX_SFN site) + 4096) % 2 ^ 32, none) ∧ (t.hub.siteS site).spareDue + 1 = (s.hub.siteS site).spareDue) ∧
  -- SET_ACCEPT of a join is remembered and queues the map's change
  (∀ (site xd : Nat) (c : SetChange) (s : State),
    (Instr.setAccept site xd).wf = true →
    s.hub.siteUp site = true →
    s.hub.get (R.YDL_CREDIT_OWED site 1) + 1 ≤ hubGrant 1 →
    (s.hub.siteS site).change = some c →
    c.xd = none →
    (s.hub.siteS site).dropx = none →
    c.remove = false →
    s.hub.cmdOf site c.module = false →
    ∃ t, exec (.setAccept site xd) s = .next t ∧ (t.hub.siteS site).change = some { c with xd := some xd } ∧
      t.hub.map.changes.length = s.hub.map.changes.length + 1 ∧
      (t.hub.map.changes.any fun x => x.join && x.type == 3 && x.site == site && x.phys == c.module) = true) ∧
  -- MSET_SWITCH at the transmit point applies the change to the transmit set
  (∀ (site xd : Nat) (tx : Bool) (c : SetChange) (s : State),
    (Instr.msetSwitch site tx).wf = true →
    tx = true →
    (s.hub.siteS site).change = some c →
    c.xd = some xd →
    (s.hub.siteS site).dropx = none →
    c.txDone = false →
    (s.hub.siteS site).txReached c (s.hub.get (R.YDL_SFN_TX_SFN site)) = true →
    ∃ t, exec (.msetSwitch site tx) s = .next t ∧ (t.hub.siteS site).setTx = c.apply (s.hub.siteS site).setTx ∧ (t.hub.siteS site).baseTx = c.xh ∧
      t.hub.get (R.YDL_STAT_MSET_TX site) = (s.hub.get (R.YDL_STAT_MSET_TX site) + 1) % 256) ∧
  -- MSET_SWITCH at the receive point applies it to the receive set
  (∀ (site xd : Nat) (tx : Bool) (c : SetChange) (s : State),
    (Instr.msetSwitch site tx).wf = true →
    tx = false →
    (s.hub.siteS site).change = some c →
    c.xd = some xd →
    (s.hub.siteS site).dropx = none →
    c.rxDone = false →
    s.hub.ownXr site = xd →
    ∃ t, exec (.msetSwitch site tx) s = .next t ∧ (t.hub.siteS site).setRx = c.apply (s.hub.siteS site).setRx ∧ (t.hub.siteS site).baseRx = xd ∧
      t.hub.get (R.YDL_EVT_MSET_RX site) = (s.hub.get (R.YDL_EVT_MSET_RX site) + 1) % 256)

/-- The site sideband, and loopback tests. Each clause says where its command completes, and with what. What a
definition named here takes from the log, not the spec, is the model's choice: log entries 40, 52. -/
def Obligations.SidebandAndLoopbackRun : Prop :=
  -- SIDEBAND_HELLO sends HELLO and awaits the answer
  (∀ (site : Nat) (s : State),
    (Instr.sidebandHello site).wf = true →
    s.hub.phase site = 1 →
    s.hub.on (R.YDL_SB_STAT_DEAD site) = false →
    ∃ t, exec (.sidebandHello site) s = .next t ∧ t.hub.out = Out.sideband site (sbBytes 1 [0x12]) :: s.hub.out ∧ (t.hub.siteS site).sbAwait = 2 ∧ t.hub.regs = s.hub.regs) ∧
  -- SIDEBAND_CRC_ERROR counts CRCERR
  (∀ (site : Nat) (s : State),
    (Instr.sidebandCrcError site).wf = true →
    s.hub.get (R.YDL_SB_STAT_CRCERR site) + 1 < 2 ^ (R.YDL_SB_STAT_CRCERR site).width →
    ∃ t, exec (.sidebandCrcError site) s = .next t ∧ t.hub.get (R.YDL_SB_STAT_CRCERR site) = s.hub.get (R.YDL_SB_STAT_CRCERR site) + 1 ∧ t.hub.sites = s.hub.sites ∧ t.hub.out = s.hub.out) ∧
  -- SIDEBAND_RESEND below three sends the frame again
  (∀ (site : Nat) (f : Nat × List Nat) (s : State),
    (Instr.sidebandResend site).wf = true →
    (s.hub.siteS site).sbFrame = some f →
    (s.hub.siteS site).sbResends < 3 →
    ∃ t, exec (.sidebandResend site) s = .next t ∧ t.hub.out = Out.sideband site (sbBytes f.1 f.2) :: s.hub.out ∧ (t.hub.siteS site).sbResends = (s.hub.siteS site).sbResends + 1 ∧ t.mem = s.mem) ∧
  -- SIDEBAND_RESEND after three at READY sets DEAD
  (∀ (site : Nat) (f : Nat × List Nat) (s : State),
    (Instr.sidebandResend site).wf = true →
    (s.hub.siteS site).sbFrame = some f →
    3 ≤ (s.hub.siteS site).sbResends →
    s.hub.ready = true →
    ∃ t, exec (.sidebandResend site) s = .next t ∧ t.hub.get (R.YDL_SB_STAT_DEAD site) = 1 ∧ (t.hub.siteS site).sbFrame = none ∧ t.mem = s.mem) ∧
  -- SIDEBAND_UNKNOWN_TYPE is answered with NAK and its reason
  (∀ (site type len : Nat) (s : State),
    (Instr.sidebandUnknownType site ⟨type, len⟩).wf = true →
    s.hub.on (R.YDL_SB_STAT_DEAD site) = false →
    ∃ t, exec (.sidebandUnknownType site ⟨type, len⟩) s = .next t ∧ t.hub.out =
        Out.sideband site (sbBytes 0x0E [type, if type = 0 ∨ 15 ≤ type then 1 else if dieLen type = 0 then 3 else 2]) :: s.hub.out ∧ t.hub.regs = s.hub.regs) ∧
  -- SIDEBAND_ANSWER_TIMEOUT drops the site with WHY 1 or 3
  (∀ (site type : Nat) (s : State),
    (Instr.sidebandAnswerTimeout site type).wf = true →
    type ≠ 0 →
    (s.hub.siteS site).sbAwait = type →
    s.hub.retrains site = none →
    s.hub.siteOut site = false →
    ∃ t, exec (.sidebandAnswerTimeout site type) s = .next t ∧ t.hub.get (R.YDL_STAT_STATE site) = 4 ∧ t.hub.get (R.YDL_DISC_WHY site) = (if type = 2 then 1 else 3)) ∧
  -- SIDEBAND_NAK of a management read ends it with result 5
  (∀ (site type why : Nat) (s : State),
    (Instr.sidebandNak site type why).wf = true →
    type = 0x0C →
    (s.hub.sbAnswered site).mast.mgmt = some site →
    ∃ t, exec (.sidebandNak site type why) s = .next t ∧ t.hub.mast.mgmt = none ∧ t.hub.mast.answer = some (5, 0, []) ∧ t.mem = s.mem) ∧
  -- MGMT_DATA answers the mailbox with the word
  (∀ (site addr : Nat) (v : Word) (s : State),
    (Instr.mgmtData site addr v).wf = true →
    s.hub.mast.mgmt = some site →
    addr = leAt s.hub.mastData 1 2 →
    (s.hub.siteS site).sbAwait = 0x0D →
    ∃ t, exec (.mgmtData site addr v) s = .next t ∧ t.hub.mast.mgmt = none ∧ t.hub.mast.answer = some (0, 4, leBytes 4 v.toNat) ∧
      t.hub.regs = s.hub.regs) ∧
  -- LOOPBACK_RUN on an eligible module starts
  (∀ (req : Path) (site : Nat) (v : Word) (s : State),
    (Instr.loopbackRun req site v).wf = true →
    req.holdsBlocks = true →
    1 ≤ s.hub.level →
    s.hub.domOn (siteDomain site) = true →
    bitsOf v 0 2 = 1 →
    (s.hub.siteS site).lbOn = false →
    (s.hub.siteS site).lbQuiet = false →
    s.hub.lbEligible site (bitsOf v 16 6) = true →
    ∃ t, exec (.loopbackRun req site v) s = .next t ∧ (t.hub.siteS site).lbOn = true ∧ (t.hub.siteS site).lbPad = false ∧ t.hub.get (R.YDL_LB_DONE site) = 0 ∧ t.hub.get (R.YDL_LB_MOD site) = bitsOf v 16 6 ∧
      (t.hub.siteS site).lbMod = bitsOf v 16 6 ∧ (s.hub.on R.TEST_YDL_WALK_EN = false →
        Out.pattern site 7 (2 ^ bitsOf v 16 6) (if bitsOf v 4 1 = 1 then 31 else 15) (laneSeeds true) ∈ t.hub.out)) ∧
  -- LOOPBACK_END sets DONE and adds the lane's errors
  (∀ (site l e : Nat) (fails : List Nat) (errs : List (Nat × Nat)) (s : State),
    (Instr.loopbackEnd site fails errs).wf = true →
    (s.hub.siteS site).lbOn = true →
    errs = [(l, e)] →
    l < 69 →
    ∃ t, exec (.loopbackEnd site fails errs) s = .next t ∧ t.hub.get (R.YDL_LB_DONE site) = 1 ∧ (t.hub.siteS site).lbOn = false ∧
      t.hub.get (R.YDL_LB_ERR site l) = satNat (R.YDL_LB_ERR site l).width (s.hub.get (R.YDL_LB_ERR site l) + e)) ∧
  -- QUIET_ACK starts the pad loopback
  (∀ (site module : Nat) (quiet : Bool) (s : State),
    (Instr.quietAck site module quiet).wf = true →
    (s.hub.siteS site).sbAwait = 0x0B →
    (s.hub.siteS site).lbQuiet = true →
    quiet = true →
    module = (s.hub.siteS site).lbMod →
    ∃ t, exec (.quietAck site module quiet) s = .next t ∧ (t.hub.siteS site).lbOn = true ∧ (t.hub.siteS site).lbPad = true ∧ (t.hub.siteS site).lbQuiet = false ∧ t.hub.get (R.YDL_LB_DONE site) = 0) ∧
  -- QUIET_ACK_TIMEOUT sets REFUSED
  (∀ (site : Nat) (s : State),
    (Instr.quietAckTimeout site).wf = true →
    (s.hub.siteS site).lbQuiet = true →
    ∃ t, exec (.quietAckTimeout site) s = .next t ∧ (t.hub.siteS site).lbQuiet = false ∧ t.hub.get (R.YDL_LB_REFUSED site) = 1 ∧ t.hub.out = s.hub.out)

/-- Discovery of a site, its power answers, its refused messages and its drop. Each clause says where its command
completes, and with what. What a definition named here takes from the log, not the spec, is the model's choice: log
entries 40, 41, 42. -/
def Obligations.SitesComeUpAndDrop : Prop :=
  -- HELLO_ACK sends the hub's IDENT
  (∀ (site : Nat) (s : State),
    (Instr.helloAck site).wf = true →
    s.hub.phase site = 1 →
    s.hub.on (R.YDL_SB_STAT_DEAD site) = false →
    ∃ t, exec (.helloAck site) s = .next t ∧ t.hub.phase site = 2 ∧ t.hub.out = Out.sideband site (sbBytes 3 ((s.hub.ident site).map fun (b : Byte) => b.toNat)) :: s.hub.out) ∧
  -- HELLO_ACK out of turn is answered with NAK 3
  (∀ (site : Nat) (s : State),
    (Instr.helloAck site).wf = true →
    s.hub.phase site ≠ 1 →
    s.hub.on (R.YDL_SB_STAT_DEAD site) = false →
    ∃ t, exec (.helloAck site) s = .next t ∧ t.hub.out = Out.sideband site (sbBytes 0x0E [2, 3]) :: s.hub.out ∧ t.hub.regs = s.hub.regs) ∧
  -- IDENT that is acceptable stores the negotiated capabilities and sends NEG
  (∀ (site neg : Nat) (payload : List Byte) (s : State),
    (Instr.ident site payload).wf = true →
    payload.length = 48 →
    s.hub.phase site = 2 →
    s.hub.identWhy site payload = 0 →
    s.hub.on (R.YDL_SB_STAT_DEAD site) = false →
    neg = negotiate (s.hub.hubCap site) (leAt payload 4 8) (negVersion (leAt payload 1 1)) →
    ∃ t, exec (.ident site payload) s = .next t ∧ t.hub.phase site = 3 ∧ t.hub.get (R.YDL_NEG_LO site) = neg % 2 ^ 32 ∧
      t.hub.get (R.YDL_DISC_VER site) = negVersion (leAt payload 1 1) % 256 ∧ t.hub.get (R.YDL_PEER_ID_CLASS site) = leAt payload 0 1 ∧
      Out.sideband site (sbBytes 4 ([negVersion (leAt payload 1 1), capField neg 32 4, site, 0] ++ (leBytes 8 neg).map fun (b : Byte) => b.toNat)) ∈ t.hub.out) ∧
  -- IDENT that is not drops the site with its WHY
  (∀ (site : Nat) (payload : List Byte) (s : State),
    (Instr.ident site payload).wf = true →
    payload.length = 48 →
    s.hub.phase site = 2 →
    s.hub.identWhy site payload ≠ 0 →
    s.hub.siteOut site = false →
    ∃ t, exec (.ident site payload) s = .next t ∧ t.hub.phase site = 6 ∧ t.hub.get (R.YDL_DISC_WHY site) = s.hub.identWhy site payload) ∧
  -- IDENT of another length is answered with NAK 2
  (∀ (site : Nat) (payload : List Byte) (s : State),
    (Instr.ident site payload).wf = true →
    payload.length ≠ 48 →
    s.hub.on (R.YDL_SB_STAT_DEAD site) = false →
    ∃ t, exec (.ident site payload) s = .next t ∧ t.hub.out = Out.sideband site (sbBytes 0x0E [3, 2]) :: s.hub.out ∧ t.hub.regs = s.hub.regs) ∧
  -- NEG_ACK accepted starts training
  (∀ (site : Nat) (accept : Bool) (s : State),
    (Instr.negAck site accept).wf = true →
    s.hub.phase site = 3 →
    accept = true →
    ∃ t, exec (.negAck site accept) s = .next t ∧ t.hub.phase site = 4 ∧ (t.hub.siteS site).step = 1 ∧
      (t.hub.siteS site).mask = modLess (2 ^ s.hub.negMods site - 1) (s.hub.siteS site).bad) ∧
  -- NEG_ACK refused drops the site with WHY 4
  (∀ (site : Nat) (accept : Bool) (s : State),
    (Instr.negAck site accept).wf = true →
    s.hub.phase site = 3 →
    accept = false →
    s.hub.siteOut site = false →
    ∃ t, exec (.negAck site accept) s = .next t ∧ t.hub.phase site = 6 ∧ t.hub.get (R.YDL_DISC_WHY site) = 4) ∧
  -- TRAIN_RES of the step in progress goes on with the modules both sides passed
  (∀ (site step pass a : Nat) (s : State),
    (Instr.trainRes site step pass).wf = true →
    s.hub.phase site = 4 →
    s.hub.retrains site = none →
    step = (s.hub.siteS site).step →
    step < 6 →
    (s.hub.siteS site).hubPass = some a →
    ∃ t, exec (.trainRes site step pass) s = .next t ∧ (t.hub.siteS site).step = step + 1 ∧ (t.hub.siteS site).mask = (a &&& pass &&& (s.hub.siteS site).mask) % 2 ^ 34 ∧
      t.hub.phase site = 4) ∧
  -- LINK_UP puts each ready site UP with its set, rank and credits
  (∀ (site : Nat) (s : State),
    s.hub.allReady = true →
    site < 4 →
    s.hub.linkReady site = true →
    ∃ t, exec .linkUp s = .next t ∧ t.hub.get (R.YDL_STAT_STATE site) = 2 ∧ t.hub.phase site = 5 ∧ t.hub.get (R.YDL_DISC_LDID site) = s.hub.rankOf site % 4 ∧
      (t.hub.siteS site).setTx = ((List.range 34).filter fun p => bit (s.hub.siteS site).trained p).take 32 ∧
      t.hub.get (R.YDL_CREDIT_HELD site 0) = (s.hub.siteS site).crReq % 65536 ∧ bit (t.hub.get R.GLB_POP_SITE_LIVE) site = true) ∧
  -- ALLOW_ACK stores the power and clears MISSED
  (∀ (site power energy : Nat) (s : State),
    (Instr.allowAck site power energy).wf = true →
    s.hub.siteUp site = true →
    s.hub.get (R.YDL_CREDIT_OWED site 1) + 1 ≤ hubGrant 1 →
    ∃ t, exec (.allowAck site power energy) s = .next t ∧ t.hub.get (R.YDL_POWER site) = power ∧ t.hub.get (R.YDL_POWER_MISSED site) = 0 ∧ (t.hub.siteS site).allowDue = false ∧
      (t.hub.siteS site).energy = (s.hub.siteS site).energy + energy) ∧
  -- ALLOW_ACK above the allowance in force by more than 5 % is counted once per epoch
  (∀ (site power energy : Nat) (s : State),
    (Instr.allowAck site power energy).wf = true →
    s.hub.siteUp site = true →
    s.hub.get (R.YDL_CREDIT_OWED site 1) + 1 ≤ hubGrant 1 →
    105 * s.hub.inForce site < 100 * power →
    (s.hub.siteS site).overSaid = false →
    s.hub.get (R.YDL_ALLOW_OVER site) + 1 < 256 →
    ∃ t, exec (.allowAck site power energy) s = .next t ∧ t.hub.get (R.YDL_ALLOW_OVER site) = s.hub.get (R.YDL_ALLOW_OVER site) + 1 ∧ (t.hub.siteS site).overSaid = true) ∧
  -- UNLISTED_MSG counts BADMSG and its flits
  (∀ (site : Nat) (rsp : Bool) (flits : Nat) (s : State),
    (Instr.unlistedMsg site rsp flits).wf = true →
    s.hub.siteUp site = true →
    s.hub.get (R.YDL_CREDIT_OWED site (b2n rsp)) + flits ≤ hubGrant (b2n rsp) →
    s.hub.get (R.YDL_CTL_BADMSG site) + 1 < 2 ^ (R.YDL_CTL_BADMSG site).width →
    ∃ t, exec (.unlistedMsg site rsp flits) s = .next t ∧ t.hub.get (R.YDL_CTL_BADMSG site) = s.hub.get (R.YDL_CTL_BADMSG site) + 1 ∧
      t.hub.get (R.YDL_CREDIT_OWED site (b2n rsp)) = s.hub.get (R.YDL_CREDIT_OWED site (b2n rsp)) + flits ∧ t.mem = s.mem) ∧
  -- UNLISTED_MSG beyond the grant drops the site with WHY 12
  (∀ (site : Nat) (rsp : Bool) (flits : Nat) (s : State),
    (Instr.unlistedMsg site rsp flits).wf = true →
    s.hub.siteUp site = true →
    s.hub.siteOut site = false →
    hubGrant (b2n rsp) < s.hub.get (R.YDL_CREDIT_OWED site (b2n rsp)) + flits →
    ∃ t, exec (.unlistedMsg site rsp flits) s = .next t ∧ t.hub.get (R.YDL_STAT_STATE site) = 4 ∧ t.hub.get (R.YDL_DISC_WHY site) = 12) ∧
  -- SITE_DROP drops the site with its WHY, with no call, stream, allowance or grant left
  (∀ (site why : Nat) (s : State),
    (Instr.siteDrop site why).wf = true →
    s.hub.siteOut site = false →
    ∃ t, exec (.siteDrop site why) s = .next t ∧ t.hub.get (R.YDL_STAT_STATE site) = 4 ∧ t.hub.get (R.YDL_DISC_PHASE site) = 6 ∧ t.hub.get (R.YDL_DISC_WHY site) = why ∧
      (t.hub.siteS site).calls = [] ∧ (t.hub.siteS site).streams = [] ∧ t.hub.get (R.YDL_TT_LEVEL site) = 0 ∧ t.hub.get (R.YDL_ALLOW site) = 0 ∧
      t.hub.get (R.DISP_POOL_GRANT (1 + site)) = 0)

/-- Reads and writes that sites send, and credits. Each clause says where its command completes, and with what. -/
def Obligations.SiteMessagesReachMemory : Prop :=
  -- RD of a clean DRAM line answers its bytes
  (∀ (site tag a : Nat) (addr : DWord) (s : State),
    (Instr.siteRd site tag addr).wf = true →
    s.hub.siteUp site = true →
    s.hub.get (R.YDL_CREDIT_OWED site 0) + 1 ≤ hubGrant 0 →
    s.hub.on R.MAP_EPOCH_CUR = true →
    s.hub.dir.gather = [] →
    s.sameDecision (.siteRd site tag addr) = false →
    a = addr.toNat →
    s.hub.lineAddr a = true →
    addrSpace a = 0 →
    s.mem.dramErr = [] →
    (s.hub.siteS site).ctlq = [] →
    2 ≤ s.hub.get (R.YDL_CREDIT_HELD site 1) →
    ∃ t, exec (.siteRd site tag addr) s = .next t ∧ Out.control site 0x12 tag ([0]) (s.mem.bytes 0 (addrOff a) 64) ∈ t.hub.out ∧ t.mem = s.mem ∧
      t.hub.get (R.YDL_CREDIT_OWED site 0) = s.hub.get (R.YDL_CREDIT_OWED site 0) + 1) ∧
  -- RD of a bad address answers status 2 with zeros
  (∀ (site tag a : Nat) (addr : DWord) (s : State),
    (Instr.siteRd site tag addr).wf = true →
    s.hub.siteUp site = true →
    s.hub.get (R.YDL_CREDIT_OWED site 0) + 1 ≤ hubGrant 0 →
    s.hub.on R.MAP_EPOCH_CUR = true →
    s.hub.dir.gather = [] →
    s.sameDecision (.siteRd site tag addr) = false →
    a = addr.toNat →
    s.hub.lineAddr a = false →
    (s.hub.siteS site).ctlq = [] →
    2 ≤ s.hub.get (R.YDL_CREDIT_HELD site 1) →
    ∃ t, exec (.siteRd site tag addr) s = .next t ∧ Out.control site 0x12 tag ([2]) (zeros 64) ∈ t.hub.out ∧ t.mem = s.mem) ∧
  -- WR to a clean DRAM line stores exactly the bytes the mask selects
  (∀ (site tag a : Nat) (addr mask : DWord) (line : List Byte) (s : State),
    (Instr.siteWr site tag addr mask line).wf = true →
    s.hub.siteUp site = true →
    s.hub.get (R.YDL_CREDIT_OWED site 0) + 2 ≤ hubGrant 0 →
    s.hub.on R.MAP_EPOCH_CUR = true →
    s.hub.dir.gather = [] →
    s.sameDecision (.siteWr site tag addr mask line) = false →
    a = addr.toNat →
    s.hub.lineAddr a = true →
    addrSpace a = 0 →
    s.mem.dramErr = [] →
    s.hub.on R.RAS_FLIP_CTRL_ARM = false →
    (s.hub.siteS site).ctlq = [] →
    1 ≤ s.hub.get (R.YDL_CREDIT_HELD site 1) →
    ∃ t, exec (.siteWr site tag addr mask line) s = .next t ∧ Out.control site 0x13 tag ([0]) ([]) ∈ t.hub.out ∧
      (∀ i, i < 64 → t.mem.byte 0 (addrOff a + i) = if bit mask.toNat i then line.getD i 0 else s.mem.byte 0 (addrOff a + i)) ∧
      ∀ sp x, ¬ (sp = 0 ∧ addrOff a ≤ x ∧ x < addrOff a + 64) → t.mem.byte sp x = s.mem.byte sp x) ∧
  -- CREDIT adds what it gives to each pool
  (∀ (site p : Nat) (give : List Nat) (s : State),
    (Instr.credit site give).wf = true →
    s.hub.siteUp site = true →
    (s.hub.siteS site).ctlq = [] →
    (s.hub.siteS site).streams = [] →
    p < 6 →
    ∃ t, exec (.credit site give) s = .next t ∧ t.hub.get (R.YDL_CREDIT_HELD site p) = satNat 16 (s.hub.get (R.YDL_CREDIT_HELD site p) + give.getD p 0) ∧ t.mem = s.mem) ∧
  -- CREDIT_RETURN returns all that is owed
  (∀ (site p : Nat) (s : State),
    (Instr.creditReturn site).wf = true →
    s.hub.siteUp site = true →
    (s.hub.siteS site).escape = true →
    p < 6 →
    s.hub.get (R.YDL_CREDIT_OWED site p) ≠ 0 →
    ∃ t, exec (.creditReturn site) s = .next t ∧ t.hub.get (R.YDL_CREDIT_OWED site p) = 0 ∧ (t.hub.siteS site).escape = false ∧
      Out.control site 1 0 (((List.range 6).map fun q => s.hub.get (R.YDL_CREDIT_OWED site q)).flatMap (leBytes 2)) ([]) ∈ t.hub.out)

/-- Streams with a site: opening, data and closing. Each clause says where its command completes, and with what. -/
def Obligations.SiteStreamsRun : Prop :=
  -- OPEN_ACK with status 0 opens the stream
  (∀ (site tag status : Nat) (x : Stream) (s : State),
    (Instr.openAck site tag status).wf = true →
    s.hub.siteUp site = true →
    s.hub.get (R.YDL_CREDIT_OWED site 1) + 1 ≤ hubGrant 1 →
    status = 0 →
    ((s.hub.siteS site).streams.find? fun t => t.tag == tag && t.state == 0) = some x →
    (s.hub.siteS site).stream x.toSite x.id = some x →
    s.hub.streamStop x = false →
    s.hub.get (R.YDL_CREDIT_HELD site (2 + x.cls)) < 2 →
    ∃ t, exec (.openAck site tag status) s = .next t ∧ ((t.hub.siteS site).stream x.toSite x.id).map (fun (y : Stream) => y.state) = some 1) ∧
  -- OPEN_ACK with another status ends the descriptor with STATUS 0x0D and that result
  (∀ (site tag status : Nat) (x : Stream) (d : Desc) (n : Nat) (s : State),
    (Instr.openAck site tag status).wf = true →
    s.hub.siteUp site = true →
    s.hub.get (R.YDL_CREDIT_OWED site 1) + 1 ≤ hubGrant 1 →
    status ≠ 0 →
    ((s.hub.siteS site).streams.find? fun t => t.tag == tag && t.state == 0) = some x →
    x.space ≠ 2 →
    n = x.ring →
    s.hub.desc n x.desc = some d →
    d.debit = 0 →
    n < 256 →
    s.hub.ringState n = 1 →
    (s.hub.ring n).held = [] →
    s.hub.cplReady n = true →
    (s.hub.ring n).bound = none →
    ∃ t, exec (.openAck site tag status) s = .next t ∧ (t.hub.siteS site).stream x.toSite x.id = none ∧ t.hub.desc n x.desc = none ∧
      Out.hostWrite (s.hub.ringFn n) (s.hub.cqAddr n (s.hub.get (R.RING_CQ_PTR_CQ_TAIL n)))
        (Cpl.bytes { tag := dTag d.bytes, status := 0x0D, eclass := 0, result := status, slot := d.slot }
          (s.hub.get (R.RING_CQ_PTR_PHASE n)) (s.hub.get (R.RING_SQ_PTR_SQ_HEAD n))) ∈ t.hub.out) ∧
  -- OPEN_ACK_TIMEOUT ends it with STATUS 0x0D and result 0xFFFFFFFF
  (∀ (site tag : Nat) (x : Stream) (d : Desc) (n : Nat) (s : State),
    (Instr.openAckTimeout site tag).wf = true →
    ((s.hub.siteS site).streams.find? fun t => t.tag == tag && t.state == 0) = some x →
    x.space ≠ 2 →
    n = x.ring →
    s.hub.desc n x.desc = some d →
    d.debit = 0 →
    n < 256 →
    s.hub.ringState n = 1 →
    (s.hub.ring n).held = [] →
    s.hub.cplReady n = true →
    (s.hub.ring n).bound = none →
    ∃ t, exec (.openAckTimeout site tag) s = .next t ∧ (t.hub.siteS site).stream x.toSite x.id = none ∧ t.hub.desc n x.desc = none ∧
      Out.hostWrite (s.hub.ringFn n) (s.hub.cqAddr n (s.hub.get (R.RING_CQ_PTR_CQ_TAIL n)))
        (Cpl.bytes { tag := dTag d.bytes, status := 0x0D, eclass := 0, result := 0xFFFFFFFF, slot := d.slot }
          (s.hub.get (R.RING_CQ_PTR_PHASE n)) (s.hub.get (R.RING_SQ_PTR_SQ_HEAD n))) ∈ t.hub.out) ∧
  -- DATA_RUN that is not the last stores exactly its bytes and moves the count
  (∀ (site id offset k : Nat) (data : List Byte) (x : Stream) (s : State),
    (Instr.dataRun site id offset data).wf = true →
    (s.hub.siteS site).stream false id = some x →
    s.hub.siteUp site = true →
    s.hub.get (R.YDL_CREDIT_OWED site (2 + x.cls)) + (1 + k) ≤ hubGrant (2 + x.cls) →
    data.length = 64 * k →
    offset = x.got →
    x.state = 1 →
    x.space = 1 →
    x.got + k < x.len →
    s.hub.streamStop x = false →
    s.mem.bufErr = [] →
    s.hub.on R.RAS_FLIP_CTRL_ARM = false →
    ∃ t, exec (.dataRun site id offset data) s = .next t ∧ t.mem.bytes 1 (x.addr + 64 * x.got) (64 * k) = data ∧
      ((t.hub.siteS site).stream false id).map (fun (y : Stream) => (y.state, y.got)) = some (1, x.got + k) ∧
      ∀ sp z, ¬ (sp ≠ 0 ∧ x.addr + 64 * x.got ≤ z ∧ z < x.addr + 64 * x.got + 64 * k) → t.mem.byte sp z = s.mem.byte sp z) ∧
  -- CLOSE_ACK of a closing stream ends it
  (∀ (site : Nat) (toSite : Bool) (id : Nat) (x : Stream) (s : State),
    (Instr.closeAck site toSite id).wf = true →
    s.hub.siteUp site = true →
    s.hub.get (R.YDL_CREDIT_OWED site 1) + 1 ≤ hubGrant 1 →
    (s.hub.siteS site).stream toSite id = some x →
    2 ≤ x.state →
    x.space ≠ 2 →
    ∃ t, exec (.closeAck site toSite id) s = .next t ∧ (t.hub.siteS site).stream toSite id = none ∧ t.mem = s.mem) ∧
  -- SITE_STREAM_CLOSE ends the stream and answers what was moved
  (∀ (site tag : Nat) (toSite : Bool) (mode id : Nat) (x : Stream) (s : State),
    (Instr.siteStreamClose site tag toSite mode id).wf = true →
    s.hub.siteUp site = true →
    s.hub.get (R.YDL_CREDIT_OWED site 0) + 1 ≤ hubGrant 0 →
    (s.hub.siteS site).stream toSite id = some x →
    x.state < 2 →
    x.space ≠ 2 →
    (s.hub.siteS site).ctlq = [] →
    1 ≤ s.hub.get (R.YDL_CREDIT_HELD site 1) →
    ∃ t, exec (.siteStreamClose site tag toSite mode id) s = .next t ∧ (t.hub.siteS site).stream toSite id = none ∧
      Out.control site 0x43 tag ([dirCode toSite, 0, 0, 0] ++ leBytes 2 id ++ leBytes 2 0 ++ leBytes 4 (if toSite then x.got else 0)) ([]) ∈ t.hub.out)

/-- Serial ports and lanes: enable, negotiation, training, loss. Each clause says where its command completes, and
with what. -/
def Obligations.PortsAndLanesTrain : Prop :=
  -- PORT_ENABLE of a sound port starts its training
  (∀ (req : Path) (p : Nat) (v : Word) (s : State),
    (Instr.portEnable req p v).wf = true →
    req.holdsBlocks = true →
    s.hub.on (R.SER_PORT_CFG_EN p) = false →
    (s.hub.setReg (R.SER_PORT_CFG_EN p).off ((v ||| 1) &&& portCfgMask)).portReason p = 0 →
    (s.hub.setReg (R.SER_PORT_CFG_EN p).off ((v ||| 1) &&& portCfgMask)).inUse p ≠ [] →
    ∃ t, exec (.portEnable req p v) s = .next t ∧ t.hub.portState p = 1 ∧ t.hub.get (R.SER_PORT_STAT_REASON p) = 0 ∧
      t.hub.reg (R.SER_PORT_CFG_EN p).off = (v ||| 1) &&& portCfgMask ∧ t.mem = s.mem) ∧
  -- PORT_ENABLE of an unsound port is REFUSED with the reason
  (∀ (req : Path) (p : Nat) (v : Word) (s : State),
    (Instr.portEnable req p v).wf = true →
    req.holdsBlocks = true →
    s.hub.on (R.SER_PORT_CFG_EN p) = false →
    (s.hub.setReg (R.SER_PORT_CFG_EN p).off ((v ||| 1) &&& portCfgMask)).portReason p ≠ 0 →
    ∃ t, exec (.portEnable req p v) s = .next t ∧ t.hub.portState p = 4 ∧ t.hub.get (R.SER_PORT_STAT_REASON p) = (s.hub.setReg (R.SER_PORT_CFG_EN p).off ((v ||| 1) &&& portCfgMask)).portReason p ∧ t.mem = s.mem) ∧
  -- PORT_DISABLE takes the port off and empties it
  (∀ (req : Path) (p : Nat) (s : State),
    (Instr.portDisable req p).wf = true →
    req.holdsBlocks = true →
    ∃ t, exec (.portDisable req p) s = .next t ∧ t.hub.portState p = 0 ∧ t.hub.reg (R.SER_PORT_CFG_EN p).off = 0 ∧ t.hub.port p = PortS.empty ∧ t.mem = s.mem) ∧
  -- LANE_SIGNAL_DETECT without negotiation starts adaptation
  (∀ (l p : Nat) (s : State),
    (Instr.laneSignalDetect l).wf = true →
    s.hub.lanePort l = some p →
    s.hub.laneState l = 2 →
    s.hub.pins.refclk = true →
    s.hub.portAn p = false →
    ∃ t, exec (.laneSignalDetect l) s = .next t ∧ t.hub.laneState l = 5 ∧ t.hub.get (R.SER_LANE_STAT_SIGNAL l) = 1 ∧ t.mem = s.mem) ∧
  -- LANE_SIGNAL_DETECT with it starts negotiation
  (∀ (l p : Nat) (s : State),
    (Instr.laneSignalDetect l).wf = true →
    s.hub.lanePort l = some p →
    s.hub.laneState l = 2 →
    s.hub.pins.refclk = true →
    s.hub.portAn p = true →
    (s.hub.inUse p).headD 32 = l →
    ∃ t, exec (.laneSignalDetect l) s = .next t ∧ t.hub.laneState l = 3 ∧ t.hub.get (R.SER_LANE_STAT_SIGNAL l) = 1 ∧ t.mem = s.mem) ∧
  -- AN_COMPLETE passed goes on to link training
  (∀ (p l : Nat) (s : State),
    (Instr.anComplete p true).wf = true →
    s.hub.portOn p = true →
    (s.hub.inUse p).headD 32 = l →
    l < 32 →
    s.hub.laneState l = 3 →
    ∃ t, exec (.anComplete p true) s = .next t ∧ t.hub.laneState l = 4 ∧ t.mem = s.mem) ∧
  -- AN_COMPLETE failed retries
  (∀ (p l : Nat) (s : State),
    (Instr.anComplete p false).wf = true →
    s.hub.portOn p = true →
    (s.hub.inUse p).headD 32 = l →
    l < 32 →
    s.hub.laneState l = 3 →
    s.hub.get (R.SER_LANE_STAT_RETRY l) + 1 < 2 ^ (R.SER_LANE_STAT_RETRY l).width →
    ∃ t, exec (.anComplete p false) s = .next t ∧ t.hub.laneState l = 2 ∧ t.hub.get (R.SER_LANE_STAT_RETRY l) = s.hub.get (R.SER_LANE_STAT_RETRY l) + 1 ∧ t.mem = s.mem) ∧
  -- AN_RETRY with a signal starts negotiation again
  (∀ (p l : Nat) (s : State),
    (Instr.anRetry p).wf = true →
    s.hub.portState p = 1 →
    s.hub.portAn p = true →
    (s.hub.inUse p).headD 32 = l →
    l < 32 →
    s.hub.laneState l = 2 →
    s.hub.on (R.SER_LANE_STAT_SIGNAL l) = true →
    ∃ t, exec (.anRetry p) s = .next t ∧ t.hub.laneState l = 3 ∧ t.mem = s.mem) ∧
  -- LINK_TRAINING_COMPLETE goes on to adaptation
  (∀ (l : Nat) (s : State),
    (Instr.linkTrainingComplete l).wf = true →
    s.hub.laneState l = 4 →
    ∃ t, exec (.linkTrainingComplete l) s = .next t ∧ t.hub.laneState l = 5 ∧ t.mem = s.mem) ∧
  -- ALIGN_LOCK of the last lane brings the port UP
  (∀ (l p : Nat) (s : State),
    (Instr.alignLock l).wf = true →
    s.hub.laneState l = 6 →
    s.hub.lanePort l = some p →
    s.hub.portState p = 1 →
    (s.hub.setLane l 7).portReady p = true →
    ∃ t, exec (.alignLock l) s = .next t ∧ t.hub.laneState l = 7 ∧ t.hub.portState p = 2 ∧ t.hub.get (R.SER_PORT_STAT_REASON p) = 0 ∧ t.mem = s.mem) ∧
  -- LANE_STEP_TIMEOUT retries with REASON 5
  (∀ (l p : Nat) (s : State),
    (Instr.laneStepTimeout l).wf = true →
    3 ≤ s.hub.laneState l →
    s.hub.laneState l ≤ 6 →
    s.hub.lanePort l = some p →
    s.hub.portState p = 1 →
    s.hub.get (R.SER_LANE_STAT_RETRY l) + 1 < 2 ^ (R.SER_LANE_STAT_RETRY l).width →
    ∃ t, exec (.laneStepTimeout l) s = .next t ∧ t.hub.laneState l = 2 ∧ t.hub.get (R.SER_LANE_STAT_RETRY l) = s.hub.get (R.SER_LANE_STAT_RETRY l) + 1 ∧ t.hub.get (R.SER_PORT_STAT_REASON p) = 5 ∧ t.mem = s.mem) ∧
  -- LANE_SIGNAL_LOSS takes an Ethernet or raw port DOWN with REASON 4
  (∀ (l p : Nat) (s : State),
    (Instr.laneSignalLoss l).wf = true →
    s.hub.laneState l = 7 →
    s.hub.lanePort l = some p →
    s.hub.portState p = 2 →
    s.hub.portMode p ≠ 1 →
    s.hub.get (R.SER_LANE_STAT_RETRY l) + 1 < 2 ^ (R.SER_LANE_STAT_RETRY l).width →
    ∃ t, exec (.laneSignalLoss l) s = .next t ∧ t.hub.laneState l = 2 ∧ t.hub.get (R.SER_LANE_STAT_SIGNAL l) = 0 ∧ t.hub.get (R.SER_LANE_STAT_RETRY l) = s.hub.get (R.SER_LANE_STAT_RETRY l) + 1 ∧
      t.hub.portState p = 3 ∧ t.hub.get (R.SER_PORT_STAT_REASON p) = 4) ∧
  -- SERIAL_REFCLK_TIMEOUT takes ports DOWN with REASON 6
  (∀ (p : Nat) (s : State),
    s.hub.pins.refclk = false →
    p < 32 →
    s.hub.portOn p = true →
    ∃ t, exec .serialRefclkTimeout s = .next t ∧ t.hub.portState p = 3 ∧ t.hub.get (R.SER_PORT_STAT_REASON p) = 6) ∧
  -- RX_LANES_LOSS on a crew port with lanes left narrows it
  (∀ (l fec p m : Nat) (s : State),
    (Instr.rxLanesLoss l fec).wf = true →
    s.hub.lanePort l = some p →
    s.hub.portState p = 2 →
    s.hub.portMode p = 1 →
    m = withBit (s.hub.port p).rxLanes (l - s.hub.get (R.SER_PORT_CFG_FIRST p)) false →
    m ≠ 0 →
    s.hub.get (R.SER_PORT_RXCNT1_FEC_UNCORR p) + fec < 2 ^ (R.SER_PORT_RXCNT1_FEC_UNCORR p).width →
    ∃ t, exec (.rxLanesLoss l fec) s = .next t ∧ (t.hub.port p).rxLanes = m ∧ (t.hub.port p).changed = true ∧ t.hub.portState p = 2 ∧
      t.hub.get (R.SER_PORT_RXCNT1_FEC_UNCORR p) = s.hub.get (R.SER_PORT_RXCNT1_FEC_UNCORR p) + fec ∧ t.mem = s.mem)

/-- Serial lanes in service: slips, adaptation, figure of merit, eye scans and PRBS. Each clause says where its
command completes, and with what. What a definition named here takes from the log, not the spec, is the model's
choice: log entries 3, 51, 56. -/
def Obligations.LanesTuneAndMeasure : Prop :=
  -- SLIP moves the raw alignment by one within the rate's period
  (∀ (req : Path) (l : Nat) (s : State),
    (Instr.slip req l).wf = true →
    req.holdsBlocks = true →
    s.hub.domOn (60 + l / 4) = true →
    s.hub.get (R.SER_QUAD_RATE (l / 4)) ≠ 0 →
    ∃ t, exec (.slip req l) s = .next t ∧ t.hub.get (R.SER_LANE_RAW_SLIPS l) = (s.hub.get (R.SER_LANE_RAW_SLIPS l) + 1) % (if s.hub.get (R.SER_QUAD_RATE (l / 4)) = 1 then 64 else 32) ∧ t.mem = s.mem) ∧
  -- ADAPT_RESTART puts the lane back in adaptation and its port in training
  (∀ (req : Path) (l p : Nat) (s : State),
    (Instr.adaptRestart req l).wf = true →
    req.holdsBlocks = true →
    s.hub.domOn (60 + l / 4) = true →
    s.hub.laneState l = 7 →
    s.hub.lanePort l = some p →
    s.hub.portState p = 2 →
    s.hub.portMode p ≠ 1 →
    ∃ t, exec (.adaptRestart req l) s = .next t ∧ t.hub.laneState l = 5 ∧ t.hub.portState p = 1 ∧ t.mem = s.mem) ∧
  -- ADAPT_SETTLED goes on to alignment and stores FOM
  (∀ (l snr8 : Nat) (s : State),
    (Instr.adaptSettled l snr8).wf = true →
    s.hub.laneState l = 5 →
    ∃ t, exec (.adaptSettled l snr8) s = .next t ∧ t.hub.laneState l = 6 ∧ t.hub.get (R.SER_LANE_STAT_FOM l) = min 255 snr8 ∧ t.mem = s.mem) ∧
  -- ADAPT_STEP without scan takes twelve equaliser words, free values (log entry 3)
  (∀ (l snr8 k : Nat) (s : State),
    (Instr.adaptStep l snr8).wf = true →
    s.hub.laneState l = 7 →
    s.hub.get (R.SER_LANE_ADAPT_MODE l) = 0 →
    (s.hub.lane l).scan = false →
    s.hub.get (R.SER_LANE_STAT_FOM l) ≤ min 255 snr8 →
    k < 12 →
    ∃ t, exec (.adaptStep l snr8) s = .next t ∧ t.hub.get (R.SER_LANE_EQ l k) = Config.free (s.hub.draws + k) % 2 ^ (R.SER_LANE_EQ l k).width ∧ t.hub.draws = s.hub.draws + 12 ∧ t.hub.laneState l = 7 ∧ t.mem = s.mem) ∧
  -- FOM_UPDATE stores FOM and clears LOW at FOM_MIN + 8
  (∀ (l snr8 : Nat) (s : State),
    (Instr.fomUpdate l snr8).wf = true →
    ∃ t, exec (.fomUpdate l snr8) s = .next t ∧ t.hub.get (R.SER_LANE_STAT_FOM l) = min 255 snr8 ∧
      t.hub.get (R.SER_LANE_ADAPT_LOW l) = (if s.hub.get (R.SER_LANE_ADAPT_FOM_MIN l) + 8 ≤ min 255 snr8 then 0 else s.hub.get (R.SER_LANE_ADAPT_LOW l)) ∧ t.mem = s.mem) ∧
  -- FOM_LOW below FOM_MIN sets LOW and records WARNING 0x35
  (∀ (l : Nat) (s : State),
    (Instr.fomLow l).wf = true →
    s.hub.get (R.SER_LANE_STAT_FOM l) < s.hub.get (R.SER_LANE_ADAPT_FOM_MIN l) →
    s.hub.on (R.SER_LANE_ADAPT_LOW l) = false →
    s.hub.yew.tokens ≠ 0 →
    ∃ t, exec (.fomLow l) s = .next t ∧ t.hub.get (R.SER_LANE_ADAPT_LOW l) = 1 ∧ t.hub.yew.seq = nextSeq s.hub.yew.seq ∧ t.hub.yew.hist = (0x35 :: s.hub.yew.hist).take 4 ∧ t.mem = s.mem) ∧
  -- EYE_SCAN_RUN on a lane in service starts, DWELL clamped
  (∀ (req : Path) (l : Nat) (v : Word) (s : State),
    (Instr.eyeScanRun req l v).wf = true →
    req.holdsBlocks = true →
    (s.hub.lane l).scan = false →
    s.hub.quadOn (l / 4) = true →
    (s.hub.laneState l = 7 ∨ s.hub.laneState l = 9) →
    ∃ t, exec (.eyeScanRun req l v) s = .next t ∧ (t.hub.lane l).scan = true ∧ t.hub.get (R.SER_LANE_SCAN_DONE l) = 0 ∧ t.hub.get (R.SER_LANE_SCAN_DWELL l) = clampNat 10 40 (bitsOf v 24 6) ∧
      t.hub.get (R.SER_LANE_SCAN_PHASE l) = bitsOf v 8 6 ∧ t.mem = s.mem) ∧
  -- EYE_SCAN_DONE stores the count, at most 2^DWELL
  (∀ (l count : Nat) (s : State),
    (Instr.eyeScanDone l count).wf = true →
    (s.hub.lane l).scan = true →
    ∃ t, exec (.eyeScanDone l count) s = .next t ∧ (t.hub.lane l).scan = false ∧ t.hub.get (R.SER_LANE_SCAN_DONE l) = 1 ∧
      t.hub.get (R.SER_LANE_SCAN1_COUNT l) = satNat 32 (min count (2 ^ s.hub.get (R.SER_LANE_SCAN_DWELL l))) ∧ t.mem = s.mem) ∧
  -- PRBS_CONFIG_WRITE at level 1 puts an idle lane in PRBS
  (∀ (req : Path) (l : Nat) (v : Word) (s : State),
    (Instr.prbsConfigWrite req l v).wf = true →
    req.holdsBlocks = true →
    1 ≤ s.hub.level →
    (s.hub.laneState l = 0 ∨ s.hub.laneState l = 1 ∨ s.hub.laneState l = 8 ∨ s.hub.laneState l = 9) →
    s.hub.quadOn (l / 4) = true →
    bitsOf v 0 1 = 1 →
    ∃ t, exec (.prbsConfigWrite req l v) s = .next t ∧ t.hub.laneState l = 9 ∧ t.hub.get (R.SER_LANE_PRBS_TXEN l) = 1 ∧ t.hub.get (R.SER_LANE_PRBS_PAT l) = bitsOf v 4 3 ∧ t.mem = s.mem)

/-- Ethernet ports: frames received and sent, pause. Each clause says where its command completes, and with what. -/
def Obligations.EthernetFramesMove : Prop :=
  -- FRAME_RECEIVE of a good frame holds it without its FCS
  (∀ (p back fixed lost : Nat) (data : List Byte) (s : State),
    (Instr.frameReceive p data back fixed lost).wf = true →
    s.hub.portState p = 2 →
    s.hub.portMode p = 0 →
    s.hub.get (R.SER_PORT_RXCNT1_FEC_UNCORR p) + lost < 2 ^ (R.SER_PORT_RXCNT1_FEC_UNCORR p).width →
    64 ≤ data.length →
    data.length ≤ 9216 →
    data.drop (data.length - 4) = fcs (data.take (data.length - 4)) →
    s.hub.rxRoom { data := data.take (data.length - 4), time := s.hub.now - back, src := 0xFF, dst := 0, hops := 0, msg := 0, offset := 0, last := true, quads := s.hub.rxQuads p } = true →
    (s.hub.port p).recvs = [] →
    ∃ t, exec (.frameReceive p data back fixed lost) s = .next t ∧ (t.hub.port p).rx = (s.hub.port p).rx ++
        [({ data := data.take (data.length - 4), time := s.hub.now - back, src := 0xFF, dst := 0, hops := 0, msg := 0, offset := 0, last := true, quads := s.hub.rxQuads p } : RxHeld)] ∧
      t.hub.get (R.SER_PORT_RXCNT1_FEC_UNCORR p) = s.hub.get (R.SER_PORT_RXCNT1_FEC_UNCORR p) + lost ∧ t.mem = s.mem) ∧
  -- FRAME_RECEIVE of a bad frame counts RX_BAD
  (∀ (p back fixed lost : Nat) (data : List Byte) (s : State),
    (Instr.frameReceive p data back fixed lost).wf = true →
    s.hub.portState p = 2 →
    s.hub.portMode p = 0 →
    s.hub.get (R.SER_PORT_RXCNT1_FEC_UNCORR p) + lost < 2 ^ (R.SER_PORT_RXCNT1_FEC_UNCORR p).width →
    data.length ≤ 9216 →
    (data.length < 64 ∨ data.drop (data.length - 4) ≠ fcs (data.take (data.length - 4))) →
    s.hub.get (R.SER_PORT_RXCNT_RX_BAD p) + 1 < 2 ^ (R.SER_PORT_RXCNT_RX_BAD p).width →
    (s.hub.port p).rx = [] →
    ∃ t, exec (.frameReceive p data back fixed lost) s = .next t ∧ (t.hub.port p).rx = [] ∧
      t.hub.get (R.SER_PORT_RXCNT_RX_BAD p) = s.hub.get (R.SER_PORT_RXCNT_RX_BAD p) + 1 ∧ t.mem = s.mem) ∧
  -- LANE_RECV stores exactly the held frame
  (∀ (n id p b : Nat) (f : RxHeld) (r : Recv) (d : Desc) (s : State),
    (Instr.laneRecv n id).wf = true →
    s.hub.running 0x21 n id = some d →
    p = leAt d.bytes 28 1 →
    s.hub.portMode p = 0 →
    p < 32 →
    (s.hub.port p).rx = [f] →
    (s.hub.port p).recvs = [r] →
    r.ring = n →
    r.desc = id →
    dLaneFlag d.bytes = false →
    f.data.length ≤ leAt d.bytes 40 4 →
    d.moved = 0 →
    b = leAt d.bytes 32 8 →
    addrSpace b = 0 →
    s.mem.dramErr = [] →
    s.hub.on R.RAS_FLIP_CTRL_ARM = false →
    ∃ t, exec (.laneRecv n id) s = .next t ∧ t.mem.bytes 0 (addrOff b) f.data.length = f.data ∧ (t.hub.port p).rx = [] ∧ (t.hub.port p).recvs = [] ∧
      (t.hub.desc n id).map (fun (e : Desc) => (e.ended, e.status, e.moved, e.result)) = some (true, 0, f.data.length, f.data.length) ∧
      ∀ sp x, ¬ (sp = 0 ∧ addrOff b ≤ x ∧ x < addrOff b + f.data.length) → t.mem.byte sp x = s.mem.byte sp x) ∧
  -- LANE_SEND sends the frame padded to 60 bytes with its FCS
  (∀ (n id limit p a m : Nat) (host f : List Byte) (d : Desc) (s : State),
    (Instr.laneSend n id limit host).wf = true →
    s.hub.running 0x20 n id = some d →
    p = leAt d.bytes 28 1 →
    s.hub.sending p = some (n, id) →
    s.hub.portMode p = 0 →
    (s.hub.port p).paused = false →
    d.moved = 0 →
    a = leAt d.bytes 32 8 →
    m = leAt d.bytes 40 4 →
    addrSpace a = 0 →
    s.mem.dramErr = [] →
    f = (if m < 60 then padTo 60 (s.mem.bytes 0 (addrOff a) m) else s.mem.bytes 0 (addrOff a) m) →
    ∃ t, exec (.laneSend n id limit host) s = .next t ∧ Out.frame p 0 [] (f ++ fcs f) ∈ t.hub.out ∧
      (t.hub.desc n id).map (fun (e : Desc) => (e.ended, e.status, e.moved, e.result)) = some (true, 0, m, m) ∧ t.mem = s.mem) ∧
  -- PAUSE on a port that honours it pauses or resumes
  (∀ (p quanta : Nat) (s : State),
    (Instr.pause p quanta).wf = true →
    s.hub.portState p = 2 →
    s.hub.portMode p = 0 →
    s.hub.on (R.SER_PORT_CFG_PAUSE p) = true →
    ∃ t, exec (.pause p quanta) s = .next t ∧ (t.hub.port p).paused = (quanta != 0) ∧ t.mem = s.mem) ∧
  -- PAUSE_QUANTA_EXPIRY resumes
  (∀ (p : Nat) (s : State),
    (Instr.pauseQuantaExpiry p).wf = true →
    ∃ t, exec (.pauseQuantaExpiry p) s = .next t ∧ (t.hub.port p).paused = false ∧ (t.hub.port p).rx = (s.hub.port p).rx ∧ t.mem = s.mem) ∧
  -- PAUSE_REPEAT above T2 sends PAUSE again
  (∀ (p : Nat) (s : State),
    (Instr.pauseRepeat p).wf = true →
    (s.hub.port p).pausing = true →
    s.hub.portState p = 2 →
    ((s.hub.quadsOf p).any fun q => decide (s.hub.get (R.QOS_TT0_T2 (5 + q)) ≤ s.hub.quadFill q)) = true →
    ∃ t, exec (.pauseRepeat p) s = .next t ∧ t.hub.out = Out.frame p 1 [0xFFFF] [] :: s.hub.out ∧ t.mem = s.mem)

/-- Crew ports: data, acknowledgement, resend, unknown frames. Each clause says where its command completes, and with
what. What a definition named here takes from the log, not the spec, is the model's choice: log entry 44. -/
def Obligations.CrewFramesMove : Prop :=
  -- CREW_DATA in order for this hub is held and moves the expected sequence on
  (∀ (p lane src dst hops seq msg offset : Nat) (last : Bool) (data : List Byte) (good : Bool) (back fixed lost : Nat) (s : State),
    (Instr.crewData p lane src dst hops seq msg offset last data good back ⟨fixed, lost⟩).wf = true →
    s.hub.crewUp p = true →
    s.hub.joined p = true →
    lane < s.hub.get (R.SER_PORT_CFG_WIDTH p) →
    good = true →
    seq = (s.hub.port p).rxExp →
    dst = s.hub.get R.CREW_CTRL_ID →
    offset = 0 →
    (s.hub.port p).rx = [] →
    (s.hub.port p).recvs = [] →
    ∃ t, exec (.crewData p lane src dst hops seq msg offset last data good back ⟨fixed, lost⟩) s = .next t ∧ (t.hub.port p).rxExp = (seq + 1) % 65536 ∧ (t.hub.port p).gap = false ∧
      (t.hub.port p).rx = [({ data := data, time := s.hub.now - back, src := src, dst := dst, hops := hops, msg := msg, offset := offset, last := last, quads := [(s.hub.get (R.SER_PORT_CFG_FIRST p) + lane) / 4] } : RxHeld)] ∧ t.mem = s.mem) ∧
  -- CREW_DATA beyond the expected sequence sends one NAK
  (∀ (p lane src dst hops seq msg offset : Nat) (last : Bool) (data : List Byte) (good : Bool) (back fixed lost : Nat) (s : State),
    (Instr.crewData p lane src dst hops seq msg offset last data good back ⟨fixed, lost⟩).wf = true →
    s.hub.crewUp p = true →
    s.hub.joined p = true →
    lane < s.hub.get (R.SER_PORT_CFG_WIDTH p) →
    good = true →
    newer (seq * 65536) ((s.hub.port p).rxExp * 65536) = true →
    (s.hub.port p).gap = false →
    ∃ t, exec (.crewData p lane src dst hops seq msg offset last data good back ⟨fixed, lost⟩) s = .next t ∧ (t.hub.port p).rxExp = (s.hub.port p).rxExp ∧ (t.hub.port p).rx = (s.hub.port p).rx ∧ (t.hub.port p).gap = true ∧
      Out.frame p 3 [] (crewFrame 3 (s.hub.get R.CREW_CTRL_ID) (s.hub.peerId p) 0 (s.hub.port p).rxExp (s.hub.port p).returned (s.hub.port p).rxLanes []) ∈ t.hub.out ∧ t.mem = s.mem) ∧
  -- CREW_DATA on a port not JOINED counts FWD_DROP
  (∀ (p lane src dst hops seq msg offset : Nat) (last : Bool) (data : List Byte) (good : Bool) (back fixed lost : Nat) (s : State),
    (Instr.crewData p lane src dst hops seq msg offset last data good back ⟨fixed, lost⟩).wf = true →
    s.hub.crewUp p = true →
    lane < s.hub.get (R.SER_PORT_CFG_WIDTH p) →
    s.hub.joined p = false →
    good = true →
    s.hub.get (R.SER_PORT_CREWCNT_FWD_DROP p) + 1 < 2 ^ (R.SER_PORT_CREWCNT_FWD_DROP p).width →
    ∃ t, exec (.crewData p lane src dst hops seq msg offset last data good back ⟨fixed, lost⟩) s = .next t ∧ t.hub.get (R.SER_PORT_CREWCNT_FWD_DROP p) = s.hub.get (R.SER_PORT_CREWCNT_FWD_DROP p) + 1 ∧ t.hub.ser = s.hub.ser ∧ t.mem = s.mem) ∧
  -- CREW_ACK frees what it covers and stores credit and lanes
  (∀ (p seq credit lanes : Nat) (s : State),
    (Instr.crewAck p seq credit lanes).wf = true →
    s.hub.crewUp p = true →
    s.hub.joined p = true →
    ∀ q, q < 32 → (s.hub.port q).rx = [] →
    ∃ t, exec (.crewAck p seq credit lanes) s = .next t ∧ (t.hub.port p).granted = credit ∧ (t.hub.port p).peerLanes = lanes ∧ (t.hub.port p).store = uncovered seq (s.hub.port p).store) ∧
  -- CREW_ACK_TIMER sends what changed
  (∀ (p : Nat) (s : State),
    (Instr.crewAckTimer p).wf = true →
    s.hub.crewUp p = true →
    s.hub.joined p = true →
    (s.hub.port p).changed = true →
    ∃ t, exec (.crewAckTimer p) s = .next t ∧ (t.hub.port p).changed = false ∧
      t.hub.out = Out.frame p 3 [] (crewFrame 2 (s.hub.get R.CREW_CTRL_ID) (s.hub.peerId p) 0 (((s.hub.port p).rxExp + 65535) % 65536) (s.hub.port p).returned (s.hub.port p).rxLanes []) :: s.hub.out ∧ t.mem = s.mem) ∧
  -- CREW_NAK below 15 resends counts RESENDS
  (∀ (p seq credit lanes : Nat) (s : State),
    (Instr.crewNak p seq credit lanes).wf = true →
    s.hub.crewUp p = true →
    s.hub.joined p = true →
    ((s.hub.port p).store.any fun x => x.seq == seq) = true →
    (s.hub.port p).resends < 15 →
    s.hub.get (R.SER_PORT_CREWCNT_RESENDS p) + 1 < 2 ^ (R.SER_PORT_CREWCNT_RESENDS p).width →
    ∃ t, exec (.crewNak p seq credit lanes) s = .next t ∧ t.hub.get (R.SER_PORT_CREWCNT_RESENDS p) = s.hub.get (R.SER_PORT_CREWCNT_RESENDS p) + 1 ∧
      (t.hub.port p).resendOf = seq ∧ (t.hub.port p).store = (s.hub.port p).store ∧ t.hub.portState p = 2 ∧ t.mem = s.mem) ∧
  -- CREW_NAK of one frame a 16th time takes the port DOWN with REASON 8
  (∀ (p seq credit lanes : Nat) (s : State),
    (Instr.crewNak p seq credit lanes).wf = true →
    s.hub.crewUp p = true →
    s.hub.joined p = true →
    ((s.hub.port p).store.any fun x => x.seq == seq) = true →
    (s.hub.port p).resends = 15 →
    (s.hub.port p).resendOf = seq →
    ∃ t, exec (.crewNak p seq credit lanes) s = .next t ∧ t.hub.portState p = 3 ∧ t.hub.get (R.SER_PORT_STAT_REASON p) = 8) ∧
  -- CREW_FRAME_UNKNOWN_TYPE counts RX_BAD
  (∀ (p type : Nat) (s : State),
    (Instr.crewFrameUnknownType p type).wf = true →
    s.hub.crewUp p = true →
    s.hub.get (R.SER_PORT_RXCNT_RX_BAD p) + 1 < 2 ^ (R.SER_PORT_RXCNT_RX_BAD p).width →
    ∃ t, exec (.crewFrameUnknownType p type) s = .next t ∧ t.hub.get (R.SER_PORT_RXCNT_RX_BAD p) = s.hub.get (R.SER_PORT_RXCNT_RX_BAD p) + 1 ∧ t.hub.ser = s.hub.ser ∧ t.mem = s.mem)

/-- The crew: HELLOs, the leader and musters. Each clause says where its command completes, and with what. -/
def Obligations.CrewMusters : Prop :=
  -- CREW_HELLO_TIMER sends HELLO on every crew port UP
  (∀ (p : Nat) (s : State),
    s.hub.crewOn = true →
    p < 32 →
    s.hub.crewUp p = true →
    ∃ t, exec .crewHelloTimer s = .next t ∧ Out.frame p 3 [] (crewFrame 0x10 (s.hub.get R.CREW_CTRL_ID) (s.hub.peerId p) 0 0 0 0 s.hub.helloBytes) ∈ t.hub.out ∧ t.hub.regs = s.hub.regs ∧ t.mem = s.mem) ∧
  -- CREW_HELLO stores the verdict, PEER_V and the digest
  (∀ (p v c : Nat) (payload : List Byte) (s : State),
    (Instr.crewHello p payload).wf = true →
    s.hub.crewOn = true →
    s.hub.crewUp p = true →
    s.hub.judgeHello payload = (v, c) →
    ∃ t, exec (.crewHello p payload) s = .next t ∧ t.hub.get (R.CREW_PORT_STATE p) = v ∧ t.hub.get (R.CREW_PORT_CAUSE p) = c ∧
      t.hub.get (R.SER_PORT_STAT_PEER_V p) = 1 ∧ t.hub.get (R.CREW_PEER_DIGEST p) = leAt payload 8 4 ∧ t.mem = s.mem) ∧
  -- CREW_HELLO judged JOINED stores the peer and its claim
  (∀ (p : Nat) (payload : List Byte) (s : State),
    (Instr.crewHello p payload).wf = true →
    s.hub.crewOn = true →
    s.hub.crewUp p = true →
    s.hub.judgeHello payload = (2, 0) →
    ∃ t, exec (.crewHello p payload) s = .next t ∧ t.hub.joined p = true ∧ t.hub.get (R.CREW_PORT_PEER p) = leAt payload 0 1 ∧
      ((t.hub.crewPort p).heard, (t.hub.crewPort p).leader, (t.hub.crewPort p).epoch, (t.hub.crewPort p).dist) = (true, leAt payload 20 1, leAt payload 16 4, leAt payload 21 1)) ∧
  -- CREW_PEER_TIMEOUT forgets the peer
  (∀ (p : Nat) (s : State),
    (Instr.crewPeerTimeout p).wf = true →
    s.hub.joined p = true →
    ∃ t, exec (.crewPeerTimeout p) s = .next t ∧ t.hub.get (R.CREW_PORT_STATE p) = 1 ∧ t.hub.get (R.SER_PORT_STAT_PEER_V p) = 0 ∧ t.hub.crewPort p = CrewPort.empty ∧ t.mem = s.mem) ∧
  -- CLAIM_HOLD_DOWN_END forgets that leader's hold-down
  (∀ (leader : Nat) (s : State),
    (Instr.claimHoldDownEnd leader).wf = true →
    ∃ t, exec (.claimHoldDownEnd leader) s = .next t ∧ t.hub.crew.down = s.hub.crew.down.filter (fun (x : Nat × Nat) => x.1 != leader) ∧ t.mem = s.mem) ∧
  -- SYNC_LOSS on a follower counts, clears TRUSTED, and holds the old claim down
  (∀ (s : State),
    s.hub.crewOn = true →
    s.hub.on R.CREW_STAT_IS_LEADER = false →
    s.hub.get (R.CREW_EVT_SYNC_LOST) + 1 < 2 ^ (R.CREW_EVT_SYNC_LOST).width →
    ∃ t, exec .syncLoss s = .next t ∧ t.hub.get R.CREW_EVT_SYNC_LOST = s.hub.get R.CREW_EVT_SYNC_LOST + 1 ∧ t.hub.get R.TIME_STAT_TRUSTED = 0 ∧
      t.hub.crew.ownEpoch = (s.hub.get R.CREW_EPOCH + 1) % 2 ^ 32 ∧ (s.hub.get R.CREW_STAT_LEADER, s.hub.get R.CREW_EPOCH) ∈ t.hub.crew.down ∧ t.mem = s.mem) ∧
  -- CREW_REMUSTER by a leader with no offer raises the epoch and musters
  (∀ (req : Path) (s : State),
    (Instr.crewRemuster req).wf = true →
    req.holdsBlocks = true →
    s.hub.crewOn = true →
    s.hub.on R.CREW_STAT_IS_LEADER = true →
    s.hub.offers = [] →
    s.hub.get (R.CREW_EVT_REMUSTERS) + 1 < 2 ^ (R.CREW_EVT_REMUSTERS).width →
    ∃ t, exec (.crewRemuster req) s = .next t ∧ t.hub.get R.CREW_EPOCH = (s.hub.get R.CREW_EPOCH + 1) % 2 ^ 32 ∧ t.hub.get R.CREW_STAT_STATE = 1 ∧
      t.hub.get R.CREW_EVT_REMUSTERS = s.hub.get R.CREW_EVT_REMUSTERS + 1 ∧ t.mem = s.mem) ∧
  -- CREW_REMUSTER with the crew off changes nothing
  (∀ (req : Path) (s : State),
    (Instr.crewRemuster req).wf = true →
    s.hub.crewOn = false →
    ∃ t, exec (.crewRemuster req) s = .next t ∧ t = s) ∧
  -- MUSTERED sets STATE 2, DISC, and TRUSTED on a leader with REFCLK
  (∀ (s : State),
    s.hub.crewOn = true →
    s.hub.get R.CREW_STAT_STATE = 1 →
    ∃ t, exec .mustered s = .next t ∧ t.hub.get R.CREW_STAT_STATE = 2 ∧ t.hub.get R.TIME_STAT_DISC = (if s.hub.on R.CREW_STAT_IS_LEADER then 2 else 1) ∧
      t.hub.get R.TIME_STAT_TRUSTED = (if s.hub.on R.CREW_STAT_IS_LEADER = true ∧ s.hub.on R.TIME_STAT_REFLOST = false then 1 else s.hub.get R.TIME_STAT_TRUSTED) ∧ t.mem = s.mem)

/-- The crew's IEEE 1588 messages. Each clause says where its command completes, and with what. What a definition
named here takes from the log, not the spec, is the model's choice: log entry 45. -/
def Obligations.CrewDisciplinesTime : Prop :=
  -- PDELAY_REQ is answered with its response and follow-up
  (∀ (p seq : Nat) (s : State),
    (Instr.pdelayReq p seq).wf = true →
    s.hub.joined p = true →
    ∃ t, exec (.pdelayReq p seq) s = .next t ∧ Out.frame p 4 [s.hub.get R.CREW_CTRL_ID, s.hub.peerId p, 3, seq, s.hub.stamp] [] ∈ t.hub.out ∧
      Out.frame p 4 [s.hub.get R.CREW_CTRL_ID, s.hub.peerId p, 0xA, seq, s.hub.drew.stamp] [] ∈ t.hub.out ∧ t.hub.regs = s.hub.regs ∧ t.mem = s.mem) ∧
  -- PDELAY_REQ_SEND sends the next request
  (∀ (p : Nat) (s : State),
    p < 32 →
    s.hub.joined p = true →
    ∃ t, exec .pdelayReqSend s = .next t ∧ Out.frame p 4 [s.hub.get R.CREW_CTRL_ID, s.hub.peerId p, 2, (((s.hub.crewPort p).pdSeq + 1) % 65536), 0] [] ∈ t.hub.out ∧
      (t.hub.crewPort p).pdSeq = ((s.hub.crewPort p).pdSeq + 1) % 65536 ∧ (t.hub.crewPort p).pdT2 = none ∧ t.hub.regs = s.hub.regs ∧ t.mem = s.mem) ∧
  -- PDELAY_RESP of the last request keeps its stamps
  (∀ (p seq t2 : Nat) (s : State),
    (Instr.pdelayResp p seq t2).wf = true →
    s.hub.joined p = true →
    (s.hub.crewPort p).pdSeq = seq →
    ∃ t, exec (.pdelayResp p seq t2) s = .next t ∧ (t.hub.crewPort p).pdT2 = some (t2, s.hub.stamp) ∧ t.hub.regs = s.hub.regs ∧ t.mem = s.mem) ∧
  -- PDELAY_RESP_FOLLOW_UP stores the link delay
  (∀ (p seq t3 t2 t4 : Nat) (s : State),
    (Instr.pdelayRespFollowUp p seq t3).wf = true →
    (s.hub.crewPort p).pdT2 = some (t2, t4) →
    s.hub.joined p = true →
    (s.hub.crewPort p).pdSeq = seq →
    ∃ t, exec (.pdelayRespFollowUp p seq t3) s = .next t ∧ (t.hub.crewPort p).delay = (((t4 : Int) - ((s.hub.crewPort p).pdT1 : Int)) - ((t3 : Int) - (t2 : Int))) * 500 ∧
      (t.hub.crewPort p).pdT2 = none ∧ t.hub.regs = s.hub.regs ∧ t.mem = s.mem) ∧
  -- SYNC on the up port is stamped
  (∀ (p seq : Nat) (s : State),
    (Instr.sync p seq).wf = true →
    s.hub.get (R.CREW_PORT_ROLE p) = 1 →
    ∃ t, exec (.sync p seq) s = .next t ∧ (t.hub.crewPort p).syncAt = some (seq, s.hub.stamp) ∧ t.hub.crew.fresh = true ∧ t.hub.regs = s.hub.regs ∧ t.mem = s.mem) ∧
  -- SYNC elsewhere counts BADTIME
  (∀ (p seq : Nat) (s : State),
    (Instr.sync p seq).wf = true →
    s.hub.get (R.CREW_PORT_ROLE p) ≠ 1 →
    s.hub.get (R.CREW_EVT_BADTIME) + 1 < 2 ^ (R.CREW_EVT_BADTIME).width →
    ∃ t, exec (.sync p seq) s = .next t ∧ t.hub.get R.CREW_EVT_BADTIME = s.hub.get R.CREW_EVT_BADTIME + 1 ∧ t.hub.crew = s.hub.crew ∧ t.mem = s.mem) ∧
  -- SYNC_SEND sends Sync and Follow_Up on each down port
  (∀ (p : Nat) (s : State),
    p < 32 →
    s.hub.get (R.CREW_PORT_ROLE p) = 2 →
    ∃ t, exec .syncSend s = .next t ∧ Out.frame p 4 [s.hub.get R.CREW_CTRL_ID, s.hub.peerId p, 0, s.hub.crew.syncSeq, 0] [] ∈ t.hub.out ∧
      t.hub.crew.syncSeq = (s.hub.crew.syncSeq + 1) % 65536 ∧ t.hub.regs = s.hub.regs ∧ t.mem = s.mem ∧
      ∃ x, Out.frame p 4 [s.hub.get R.CREW_CTRL_ID, s.hub.peerId p, 8, s.hub.crew.syncSeq, x] [] ∈ t.hub.out) ∧
  -- FOLLOW_UP of the stamped Sync stores the offset
  (∀ (p seq origin a : Nat) (corr off : Int) (s : State),
    (Instr.followUp p seq origin corr).wf = true →
    (s.hub.crewPort p).syncAt = some (seq, a) →
    s.hub.get (R.CREW_PORT_ROLE p) = 1 →
    off = s.hub.syncOffset p a origin corr / 1000 →
    ∃ t, exec (.followUp p seq origin corr) s = .next t ∧ (t.hub.crewPort p).syncAt = none ∧ t.hub.get R.CREW_OFFSET = sat32 off ∧ t.mem = s.mem) ∧
  -- FOLLOW_UP beyond 1,000 ns clears TRUSTED
  (∀ (p seq origin a : Nat) (corr off : Int) (s : State),
    (Instr.followUp p seq origin corr).wf = true →
    (s.hub.crewPort p).syncAt = some (seq, a) →
    s.hub.get (R.CREW_PORT_ROLE p) = 1 →
    off = s.hub.syncOffset p a origin corr / 1000 →
    1000 < off.natAbs →
    ∃ t, exec (.followUp p seq origin corr) s = .next t ∧ t.hub.get R.TIME_STAT_TRUSTED = 0) ∧
  -- FOLLOW_UP, the eighth within 250 ns, sets TRUSTED and slews the offset out
  (∀ (p seq origin a : Nat) (corr off : Int) (s : State),
    (Instr.followUp p seq origin corr).wf = true →
    (s.hub.crewPort p).syncAt = some (seq, a) →
    s.hub.get (R.CREW_PORT_ROLE p) = 1 →
    off = s.hub.syncOffset p a origin corr / 1000 →
    off.natAbs ≤ 250 →
    s.hub.crew.good = 7 →
    ∃ t, exec (.followUp p seq origin corr) s = .next t ∧ t.hub.get R.TIME_STAT_TRUSTED = 1 ∧ t.hub.crew.good = 8 ∧ t.hub.time.slew = -off)

/-- Spar: SETUP, PATCH and RUN. Each clause says where its command completes, and with what. What a definition named
here takes from the log, not the spec, is the model's choice: log entries 46, 47. -/
def Obligations.SolverRuns : Prop :=
  -- SOLVE_SETUP of a sound structure stores it in the context; only the store's range of DRAM may change
  (∀ (n id k m : Nat) (o : SparOp) (d : Desc) (b : List Byte) (l : List (List Byte)) (perm : List Nat) (x : SparCtx) (s : State),
    (Instr.solveSetup n id).wf = true →
    s.hub.desc n id = some d →
    dOp d.bytes = 0x18 →
    d.started = true →
    k = leAt d.bytes 28 1 →
    (s.hub.ctx k).queue = [o] →
    o.ring = n →
    o.desc = id →
    o.begun = true →
    o.op = 0x18 →
    (s.hub.ctx k).paused = false →
    s.hub.sparWaiting = [] →
    s.mem.dramErr = [] →
    s.hub.on R.RAS_FLIP_CTRL_ARM = false →
    d.snap = some b →
    m = leAt d.bytes 29 1 →
    ∀ e ∈ structArrays m b, e.2 = 0 ∨ addrSpace e.1 = 0 →
    addrSpace (leAt b 48 8) = 0 →
    l = (structArrays m b).map (fun (e : Nat × Nat) => if e.2 = 0 then [] else s.mem.bytes 0 (addrOff e.1) e.2) →
    perm = elems 4 ((l.getD 3 []).length / 4) (l.getD 3 []) →
    x = structCtx m b l (s.hub.ctx k) →
    structArraysOk b perm x = true →
    (symbolicOf m x.n x.m x.rowptr x.colidx x.aRow x.aCol perm).1 ≤ 2 ^ 30 →
    (sparBounds m x.width x.n x.m (sNnz b + sANnz b) x.restart (symbolicOf m x.n x.m x.rowptr x.colidx x.aRow x.aCol perm).1 (symbolicOf m x.n x.m x.rowptr x.colidx x.aRow x.aCol perm).2).1 ≤ (s.hub.get R.SPAR_SCRATCH_SIZE - 1) * 2 ^ 20 →
    (sparBounds m x.width x.n x.m (sNnz b + sANnz b) x.restart (symbolicOf m x.n x.m x.rowptr x.colidx x.aRow x.aCol perm).1 (symbolicOf m x.n x.m x.rowptr x.colidx x.aRow x.aCol perm).2).2 ≤ leAt b 56 8 →
    ∃ t, exec (.solveSetup n id) s = .next t ∧
      (t.hub.ctx k).method = m ∧ (t.hub.ctx k).n = x.n ∧ (t.hub.ctx k).m = x.m ∧ (t.hub.ctx k).rowptr = x.rowptr ∧ (t.hub.ctx k).colidx = x.colidx ∧
      (t.hub.ctx k).values = x.values ∧ (t.hub.ctx k).factor = none ∧ (t.hub.ctx k).queue = [] ∧
      (t.hub.desc n id).map (fun (e : Desc) => (e.ended, e.status)) = some (true, 0) ∧
      ∀ sp y, ¬ (sp = 0 ∧ addrOff (leAt b 48 8) ≤ y ∧ y < addrOff (leAt b 48 8) + leAt b 56 8) → t.mem.byte sp y = s.mem.byte sp y) ∧
  -- SOLVE_PATCH applies its entries and answers their count; only the store's range may change
  (∀ (n id k c : Nat) (o : SparOp) (d : Desc) (es : List PatchEntry) (x : SparCtx) (s : State),
    (Instr.solvePatch n id).wf = true →
    s.hub.desc n id = some d →
    dOp d.bytes = 0x19 →
    d.started = true →
    k = leAt d.bytes 28 1 →
    (s.hub.ctx k).queue = [o] →
    o.ring = n →
    o.desc = id →
    o.begun = true →
    o.op = 0x19 →
    (s.hub.ctx k).paused = false →
    s.hub.sparWaiting = [] →
    s.mem.dramErr = [] →
    s.hub.on R.RAS_FLIP_CTRL_ARM = false →
    (s.hub.ctx k).method ≠ 0 →
    c = leAt d.bytes 40 4 →
    addrSpace (leAt d.bytes 32 8) = 0 →
    addrSpace (s.hub.ctx k).store = 0 →
    es = patchEntries c (if c = 0 then [] else s.mem.bytes 0 (addrOff (leAt d.bytes 32 8)) (16 * c)) →
    (es.all fun e => ((s.hub.ctx k).place e).isSome) = true →
    x = es.foldl SparCtx.apply (s.hub.ctx k) →
    ∃ t, exec (.solvePatch n id) s = .next t ∧
      (t.hub.ctx k).values = x.values ∧ (t.hub.ctx k).aValues = x.aValues ∧ (t.hub.ctx k).qlu = x.qlu ∧ (t.hub.ctx k).factor = x.factor ∧
      (t.hub.desc n id).map (fun (e : Desc) => (e.ended, e.status, e.result)) = some (true, 0, c) ∧
      ∀ sp y, ¬ (sp = 0 ∧ addrOff ((s.hub.ctx k).store) ≤ y ∧ y < addrOff ((s.hub.ctx k).store) + (s.hub.ctx k).storeUse) → t.mem.byte sp y = s.mem.byte sp y) ∧
  -- SOLVE_RUN on a usable factor ends OK within REFINE iterations with status 0 in its record; only the output and the record may change
  (∀ (n id k : Nat) (o : SparOp) (d : Desc) (r : RunRec) (s : State),
    (Instr.solveRun n id).wf = true →
    s.hub.desc n id = some d →
    dOp d.bytes = 0x1A →
    d.started = true →
    k = leAt d.bytes 28 1 →
    (s.hub.ctx k).queue = [o] →
    o.ring = n →
    o.desc = id →
    o.begun = true →
    o.op = 0x1A →
    (s.hub.ctx k).paused = false →
    s.hub.sparWaiting = [] →
    s.mem.dramErr = [] →
    s.hub.on R.RAS_FLIP_CTRL_ARM = false →
    o.run = some r →
    isDirect (s.hub.ctx k).method = true →
    s.hub.factorServes (s.hub.ctx k) r = true →
    r.flag 2 = false →
    ∀ e ∈ (s.hub.ctx k).runRanges r, e.2 = 0 ∨ addrSpace e.1 = 0 →
    addrSpace (s.hub.ctx k).store = 0 →
    addrSpace r.result = 0 →
    ∃ t, exec (.solveRun n id) s = .next t ∧ t.hub.get (R.SPAR_CTX_ITERS k) ≤ r.refine ∧ (t.hub.ctx k).queue = [] ∧
      (t.hub.desc n id).map (fun (e : Desc) => (e.ended, e.status)) = some (true, 0) ∧ t.mem.bytes 0 (addrOff r.result) 4 = [0, 0, 0, 0] ∧
      ∀ sp y, ¬ (sp = 0 ∧ addrOff r.out ≤ y ∧ y < addrOff r.out + (s.hub.ctx k).outLen * (s.hub.ctx k).width) →
        ¬ (sp = 0 ∧ addrOff r.result ≤ y ∧ y < addrOff r.result + 64) → t.mem.byte sp y = s.mem.byte sp y)

/-- Trim epochs and the sensor converters. Each clause says where its command completes, and with what. What a
definition named here takes from the log, not the spec, is the model's choice: log entries 48, 49, 56. -/
def Obligations.TrimAndSensingRun : Prop :=
  -- TRIM_EPOCH_START applies the plan solved before and counts the epoch
  (∀ (meas : List Nat) (hubStatic stackStatic : Nat) (p : TrimPlan) (s : State),
    (Instr.trimEpochStart meas hubStatic stackStatic).wf = true →
    s.hub.ready = true →
    s.hub.trim.posted = false →
    s.hub.trim.next = some p →
    p.mode < 4 →
    s.hub.on R.SNS_THERM_TRIPPED = false →
    ∃ t, exec (.trimEpochStart meas hubStatic stackStatic) s = .next t ∧ t.hub.get R.TRIM_EPOCH = (s.hub.get R.TRIM_EPOCH + 1) % 2 ^ 32 ∧
      t.hub.trim.plan = p ∧ t.hub.trim.next = none ∧ t.hub.trim.posted = true ∧ t.hub.get R.TRIM_STAT_MODE = p.mode ∧
      t.hub.get R.TRIM_STATIC_HUB = hubStatic ∧ t.hub.get R.TRIM_STATIC_STACK = stackStatic) ∧
  -- TRIM_EPOCH_START with the solve not ended takes the fallback plan and counts it
  (∀ (meas : List Nat) (hubStatic stackStatic : Nat) (s : State),
    (Instr.trimEpochStart meas hubStatic stackStatic).wf = true →
    s.hub.ready = true →
    s.hub.trim.posted = true →
    s.hub.trim.plan.mode ≠ 3 →
    s.hub.get R.TRIM_STAT_RUN < s.hub.get R.TRIM_LIMIT_STATIC_N →
    s.hub.get R.MAP_COUNT_TILE ≠ 0 →
    s.hub.get (R.TRIM_EVT_FALLBACKS) + 1 < 2 ^ (R.TRIM_EVT_FALLBACKS).width →
    ∃ t, exec (.trimEpochStart meas hubStatic stackStatic) s = .next t ∧ t.hub.get R.TRIM_STAT_MODE = 2 ∧ t.hub.get R.TRIM_STAT_RUN = min 255 (s.hub.get R.TRIM_STAT_RUN + 1) ∧
      t.hub.get R.TRIM_EVT_FALLBACKS = s.hub.get R.TRIM_EVT_FALLBACKS + 1) ∧
  -- TRIM_SOLVE_COMPLETE that is acceptable gives the next plan, MODE 1, and records the solve
  (∀ (status iters us : Nat) (x : List Nat) (y : List Int) (s : State),
    (Instr.trimSolveComplete status iters us x y).wf = true →
    s.hub.trim.posted = true →
    s.hub.acceptable status (s.hub.trim.snap.qp.relres x y) = true →
    ∃ t, exec (.trimSolveComplete status iters us x y) s = .next t ∧ t.hub.trim.next.map (fun (p : TrimPlan) => p.mode) = some 1 ∧ t.hub.trim.posted = false ∧ t.hub.get R.TRIM_STAT_RUN = 0 ∧
      t.hub.get R.TRIM_STAT_LAST = status ∧
      t.hub.get R.TRIM_RELRES_LO + 2 ^ 32 * t.hub.get R.TRIM_RELRES_HI = s.hub.trim.snap.qp.relres x y % 2 ^ 64 ∧ t.hub.get R.TRIM_SOLVE_ITERS = iters ∧ t.hub.get R.TRIM_SOLVE_TIME_US = us) ∧
  -- TRIM_SOLVE_COMPLETE that is not gives the fallback plan
  (∀ (status iters us : Nat) (x : List Nat) (y : List Int) (s : State),
    (Instr.trimSolveComplete status iters us x y).wf = true →
    s.hub.trim.posted = true →
    s.hub.acceptable status (s.hub.trim.snap.qp.relres x y) = false →
    s.hub.trim.plan.mode ≠ 3 →
    s.hub.get R.TRIM_STAT_RUN < s.hub.get R.TRIM_LIMIT_STATIC_N →
    s.hub.get R.MAP_COUNT_TILE ≠ 0 →
    s.hub.get (R.TRIM_EVT_FALLBACKS) + 1 < 2 ^ (R.TRIM_EVT_FALLBACKS).width →
    ∃ t, exec (.trimSolveComplete status iters us x y) s = .next t ∧ t.hub.trim.next.map (fun (p : TrimPlan) => p.mode) = some 2 ∧
      t.hub.get R.TRIM_STAT_RUN = min 255 (s.hub.get R.TRIM_STAT_RUN + 1) ∧ t.hub.get R.TRIM_EVT_FALLBACKS = s.hub.get R.TRIM_EVT_FALLBACKS + 1) ∧
  -- SENSE_OUTPUT from the third on stores a VALID code and moves on
  (∀ (c code n : Nat) (l : List Nat) (s : State),
    (Instr.senseOutput c code).wf = true →
    2 ≤ c →
    (s.hub.conv c).seq = n :: l →
    2 ≤ (s.hub.conv c).outs →
    112 ≤ n →
    n < 220 →
    ∃ t, exec (.senseOutput c code) s = .next t ∧ t.hub.get (R.SNS_CH_CODE n) = code ∧ t.hub.get (R.SNS_CH_VALID n) = 1 ∧ t.hub.get (R.SNS_CH_SETTLING n) = 0 ∧ t.hub.get (R.SNS_CH_STALE n) = 0 ∧
      t.hub.conv c = (s.hub.conv c).advance ∧ t.mem = s.mem) ∧
  -- SENSE_OUTPUT of the first two is SETTLING
  (∀ (c code n : Nat) (l : List Nat) (s : State),
    (Instr.senseOutput c code).wf = true →
    2 ≤ c →
    (s.hub.conv c).seq = n :: l →
    (s.hub.conv c).outs < 2 →
    n < 220 →
    ∃ t, exec (.senseOutput c code) s = .next t ∧ t.hub.get (R.SNS_CH_CODE n) = 0 ∧ t.hub.get (R.SNS_CH_VALID n) = 0 ∧ t.hub.get (R.SNS_CH_SETTLING n) = 1 ∧
      (t.hub.conv c).outs = (s.hub.conv c).outs + 1 ∧ (t.hub.conv c).seq = n :: l ∧ t.mem = s.mem) ∧
  -- SENSE_OUTPUT at the trip sets TRIPPED
  (∀ (c code n : Nat) (l : List Nat) (s : State),
    (Instr.senseOutput c code).wf = true →
    2 ≤ c →
    (s.hub.conv c).seq = n :: l →
    2 ≤ (s.hub.conv c).outs →
    n < 112 →
    s.hub.on R.SNS_THERM_TRIPPED = false →
    16 * (s.hub.get R.SNS_THERM_TRIP_C + 64) ≤ code →
    ∃ t, exec (.senseOutput c code) s = .next t ∧ t.hub.get R.SNS_THERM_TRIPPED = 1 ∧ t.hub.get (R.SNS_CH_CODE n) = code) ∧
  -- SENSE_SYNC restarts the converters' settling
  (∀ (req : Path) (c : Nat) (s : State),
    (Instr.senseSync req).wf = true →
    req.holdsBlocks = true →
    c < 16 →
    ∃ t, exec (.senseSync req) s = .next t ∧ (t.hub.conv c).outs = 0 ∧ (t.hub.conv c).seq = (s.hub.conv c).seq ∧ t.hub.get (R.SNS_CH_VALID 218) = 0 ∧ t.hub.get (R.SNS_CH_VALID 219) = 0 ∧ t.mem = s.mem) ∧
  -- SENSE_TRIGGER of an idle converter starts its channel
  (∀ (req : Path) (c : Nat) (v : Word) (s : State),
    (Instr.senseTrigger req c v).wf = true →
    req.holdsBlocks = true →
    2 ≤ c →
    (s.hub.conv c).seq = [] →
    ∃ t, exec (.senseTrigger req c v) s = .next t ∧ (t.hub.conv c).seq = [bitsOf v 8 9] ∧ t.hub.get (R.SNS_CONV_BUSY c) = 1 ∧ t.hub.get (R.SNS_CONV_CHAN c) = bitsOf v 8 9 ∧ t.mem = s.mem) ∧
  -- SENSE_TRIGGER with one latched counts OVERRUN
  (∀ (req : Path) (c : Nat) (v : Word) (s : State),
    (Instr.senseTrigger req c v).wf = true →
    req.holdsBlocks = true →
    2 ≤ c →
    (s.hub.conv c).seq ≠ [] →
    (s.hub.conv c).latch.isSome = true →
    s.hub.get (R.SNS_CONV1_OVERRUN_COUNT c) + 1 < 2 ^ (R.SNS_CONV1_OVERRUN_COUNT c).width →
    ∃ t, exec (.senseTrigger req c v) s = .next t ∧ t.hub.conv c = s.hub.conv c ∧ t.hub.get (R.SNS_CONV1_OVERRUN_COUNT c) = s.hub.get (R.SNS_CONV1_OVERRUN_COUNT c) + 1 ∧ t.mem = s.mem) ∧
  -- THERMAL_TRIP_TIMEOUT 5 degrees above the trip is FATAL
  (∀ (s : State),
    s.hub.on R.SNS_THERM_TRIPPED = true →
    s.hub.anySensorAbove (s.hub.get R.SNS_THERM_TRIP_C + 5) = true →
    s.hub.pins.d0Reset = false →
    s.hub.get (R.YEW_ESC_FATALS) + 1 < 2 ^ (R.YEW_ESC_FATALS).width →
    ∃ t, exec .thermalTripTimeout s = .next t ∧ t.hub.pins.fatalN = false ∧ t.hub.pins.lgN = false ∧ t.hub.boot.pend = 2 ∧ t.hub.get R.YEW_ESC_FATALS = s.hub.get R.YEW_ESC_FATALS + 1 ∧ t.mem = s.mem)

/-- The TAP: identification, bypass, sampling, the hedge gate's words and the TEST block. Each clause says where its
command completes, and with what. What a definition named here takes from the log, not the spec, is the model's
choice: log entries 10, 15, 17. -/
def Obligations.TapReadsAndLoads : Prop :=
  -- IDCODE answers the code
  (∀ (s : State),
    ∃ t, exec .idcode s = .next t ∧ t.hub.get R.TEST_JTAG_STAT_IR = 1 ∧ Out.readData .tap (idcode Config.jep106) ∈ t.hub.out) ∧
  -- TRST_N_ASSERT selects IDCODE
  (∀ (s : State),
    ∃ t, exec .trstNAssert s = .next t ∧ t.hub.get R.TEST_JTAG_STAT_IR = 1) ∧
  -- BYPASS of an unlisted opcode selects 0xFF and counts DENIED
  (∀ (op : Nat) (s : State),
    (Instr.bypass op).wf = true →
    op ≠ 0xFF →
    s.hub.get (R.TEST_JTAG_STAT_DENIED) + 1 < 2 ^ (R.TEST_JTAG_STAT_DENIED).width →
    ∃ t, exec (.bypass op) s = .next t ∧ t.hub.get R.TEST_JTAG_STAT_IR = 0xFF ∧ t.hub.get R.TEST_JTAG_STAT_DENIED = s.hub.get R.TEST_JTAG_STAT_DENIED + 1) ∧
  -- BYPASS 0xFF counts nothing
  (∀ (s : State),
    ∃ t, exec (.bypass 0xFF) s = .next t ∧ t.hub.get R.TEST_JTAG_STAT_IR = 0xFF ∧ t.hub.get R.TEST_JTAG_STAT_DENIED = s.hub.get R.TEST_JTAG_STAT_DENIED) ∧
  -- SAMPLE captures and answers the pins
  (∀ (pins : Nat) (s : State),
    (Instr.sample pins).wf = true →
    ∃ t, exec (.sample pins) s = .next t ∧ t.hub.get R.TEST_JTAG_STAT_IR = 2 ∧ t.hub.test.boundary = pins ∧ Out.readData .tap pins ∈ t.hub.out) ∧
  -- PRELOAD at level 1 stores the boundary cells
  (∀ (v : Nat) (s : State),
    (Instr.preload v).wf = true →
    1 ≤ s.hub.level →
    ∃ t, exec (.preload v) s = .next t ∧ t.hub.get R.TEST_JTAG_STAT_IR = 3 ∧ t.hub.test.boundary = v) ∧
  -- HEDGE_CHAL answers the challenge
  (∀ (s : State),
    ∃ t, exec .hedgeChal s = .next t ∧ t.hub.get R.TEST_JTAG_STAT_IR = 0x11 ∧ Out.readData .tap (s.hub.wordsOf 8 R.TEST_HEDGE_CHAL) ∈ t.hub.out) ∧
  -- HEDGE_STAT answers the status
  (∀ (s : State),
    ∃ t, exec .hedgeStat s = .next t ∧ t.hub.get R.TEST_JTAG_STAT_IR = 0x15 ∧ Out.readData .tap (s.hub.reg 0xA00400).toNat ∈ t.hub.out) ∧
  -- HEDGE_RESP outside another path's attempt stores the response
  (∀ (words : List Word) (i : Nat) (s : State),
    (Instr.hedgeResp words).wf = true →
    words.length = 8 →
    i < 8 →
    (s.hub.attemptOpen = false ∨ s.hub.get R.TEST_HEDGE_STAT_PATH = 1) →
    ∃ t, exec (.hedgeResp words) s = .next t ∧ t.hub.get R.TEST_JTAG_STAT_IR = 0x12 ∧ t.hub.get (R.TEST_HEDGE_RESP i) = (words.getD i 0).toNat) ∧
  -- HEDGE_TOKEN likewise stores the token
  (∀ (words : List Word) (i : Nat) (s : State),
    (Instr.hedgeToken words).wf = true →
    words.length = 64 →
    i < 64 →
    (s.hub.attemptOpen = false ∨ s.hub.get R.TEST_HEDGE_STAT_PATH = 1) →
    ∃ t, exec (.hedgeToken words) s = .next t ∧ t.hub.get R.TEST_JTAG_STAT_IR = 0x13 ∧ t.hub.get (R.TEST_HEDGE_TOKEN i) = (words.getD i 0).toNat) ∧
  -- TEST_REG read at level 1 answers the word
  (∀ (off : Nat) (v : Word) (s : State),
    (Instr.testReg false off v).wf = true →
    1 ≤ s.hub.level →
    off ≠ (R.TEST_JTAG_STAT_IR).off →
    off < 0x2000000 →
    s.hub.sramErr off = 0 →
    s.hub.guarded off = false →
    isLowHalf off = false →
    (off < 4 ∨ isLowHalf (off - 4) = false) →
    ∃ t, exec (.testReg false off v) s = .next t ∧ t.hub.get R.TEST_JTAG_STAT_IR = 0x18 ∧ Out.readData .tap (s.hub.live off).toNat ∈ t.hub.out) ∧
  -- TEST_REG write at level 1 stores a response word
  (∀ (i : Nat) (v : Word) (s : State),
    (Instr.testReg true (0xA00430 + 4 * i) v).wf = true →
    i < 8 →
    1 ≤ s.hub.level →
    s.hub.attemptOpen = false →
    ∃ t, exec (.testReg true (0xA00430 + 4 * i) v) s = .next t ∧ t.hub.get R.TEST_JTAG_STAT_IR = 0x18 ∧ t.hub.get (R.TEST_HEDGE_RESP i) = v.toNat)

/-- The TAP: instructions that take the pins, scan, and the fail map. Each clause says where its command completes,
and with what. What a definition named here takes from the log, not the spec, is the model's choice: log entry 50. -/
def Obligations.TapDrivesPinsAndScan : Prop :=
  -- EXTEST at level 1 drives the boundary cells and takes the link down
  (∀ (s : State),
    1 ≤ s.hub.level →
    s.hub.pinsOut = false →
    ∃ t, exec .extest s = .next t ∧ t.hub.get R.TEST_JTAG_STAT_IR = 0 ∧ Out.pins 0 (s.hub.test.boundary) ∈ t.hub.out ∧ t.hub.pcie.linkUp = false) ∧
  -- CLAMP likewise
  (∀ (s : State),
    1 ≤ s.hub.level →
    s.hub.pinsOut = false →
    ∃ t, exec .clamp s = .next t ∧ t.hub.get R.TEST_JTAG_STAT_IR = 4 ∧ Out.pins 1 (s.hub.test.boundary) ∈ t.hub.out ∧ t.hub.pcie.linkUp = false) ∧
  -- HIGHZ likewise, without drive
  (∀ (s : State),
    1 ≤ s.hub.level →
    s.hub.pinsOut = false →
    ∃ t, exec .highz s = .next t ∧ t.hub.get R.TEST_JTAG_STAT_IR = 5 ∧ Out.pins 2 (0) ∈ t.hub.out ∧ t.hub.pcie.linkUp = false) ∧
  -- EXTEST_PULSE likewise
  (∀ (s : State),
    1 ≤ s.hub.level →
    s.hub.pinsOut = false →
    ∃ t, exec .extestPulse s = .next t ∧ t.hub.get R.TEST_JTAG_STAT_IR = 6 ∧ Out.pins 3 (s.hub.test.boundary) ∈ t.hub.out ∧ t.hub.pcie.linkUp = false) ∧
  -- EXTEST_TRAIN likewise
  (∀ (s : State),
    1 ≤ s.hub.level →
    s.hub.pinsOut = false →
    ∃ t, exec .extestTrain s = .next t ∧ t.hub.get R.TEST_JTAG_STAT_IR = 7 ∧ Out.pins 4 (s.hub.test.boundary) ∈ t.hub.out ∧ t.hub.pcie.linkUp = false) ∧
  -- EXTEST at level 0 selects 0xFF and counts DENIED
  (∀ (s : State),
    s.hub.level = 0 →
    s.hub.get (R.TEST_JTAG_STAT_DENIED) + 1 < 2 ^ (R.TEST_JTAG_STAT_DENIED).width →
    ∃ t, exec .extest s = .next t ∧ t.hub.get R.TEST_JTAG_STAT_IR = 0xFF ∧ t.hub.get R.TEST_JTAG_STAT_DENIED = s.hub.get R.TEST_JTAG_STAT_DENIED + 1 ∧ t.mem = s.mem) ∧
  -- SCAN_CAPTURE at level 2 ends operation and, with Reef on, starts the emergency lowering
  (∀ (s : State),
    2 ≤ s.hub.level →
    s.hub.test.scan = false →
    ∃ t, exec .scanCapture s = .next t ∧ t.hub.get R.TEST_JTAG_STAT_IR = 0x21 ∧ t.hub.test.scan = true ∧ t.hub.yew.dispStop = true ∧ t.hub.boot.pend = (if s.hub.reefOn then 3 else 0)) ∧
  -- SCAN_SHIFT likewise
  (∀ (op : Nat) (s : State),
    (Instr.scanShift op).wf = true →
    2 ≤ s.hub.level →
    s.hub.test.scan = false →
    ∃ t, exec (.scanShift op) s = .next t ∧ t.hub.get R.TEST_JTAG_STAT_IR = op ∧ t.hub.test.scan = true ∧ t.hub.yew.dispStop = true ∧ t.hub.boot.pend = (if s.hub.reefOn then 3 else 0)) ∧
  -- FMAP_INDEX at level 1 shows the entry's four words
  (∀ (req : Path) (v : Word) (j : Nat) (s : State),
    (Instr.fmapIndex req v).wf = true →
    (req.holdsBlocks = true ∨ req = .tap) →
    1 ≤ s.hub.level →
    j < 4 →
    ∃ t, exec (.fmapIndex req v) s = .next t ∧ t.hub.get R.TEST_FMAP_IDX_INDEX = bitsOf v 0 12 ∧ t.hub.get (R.TEST_FMAP_DATA j) = (s.hub.fail.fmap.getD (bitsOf v 0 12) []).getD j 0 % 2 ^ 32 ∧ t.mem = s.mem)

/-- The hedge gate: request, submission, verification, windows and the raise. Each clause says where its command
completes, and with what. What a definition named here takes from the log, not the spec, is the model's choice: log
entry 50. -/
def Obligations.HedgeGateRaises : Prop :=
  -- HEDGE_REQ in its window to a higher level opens an attempt on its path
  (∀ (req : Path) (v : Word) (s : State),
    (Instr.hedgeReq req v).wf = true →
    (req = .pf ∨ req = .tap) →
    s.hub.attemptOpen = false →
    s.hub.get R.TEST_HEDGE_STAT_FAILS < 3 →
    s.hub.level < bitsOf v 0 2 →
    s.hub.on R.TEST_HEDGE_STAT_WINDOW = true →
    ∃ t, exec (.hedgeReq req v) s = .next t ∧ t.hub.get R.TEST_HEDGE_STAT_STATE = 1 ∧ t.hub.get R.TEST_HEDGE_REQ_LEVEL = bitsOf v 0 2 ∧
      t.hub.get R.TEST_HEDGE_STAT_PATH = hedgePath req ∧ t.hub.get R.TEST_HEDGE_STAT_RESULT = 0 ∧ t.mem = s.mem) ∧
  -- HEDGE_REQ after three failures is refused with RESULT 7
  (∀ (req : Path) (v : Word) (s : State),
    (Instr.hedgeReq req v).wf = true →
    (req = .pf ∨ req = .tap) →
    s.hub.attemptOpen = false →
    3 ≤ s.hub.get R.TEST_HEDGE_STAT_FAILS →
    ∃ t, exec (.hedgeReq req v) s = .next t ∧ t.hub.get R.TEST_HEDGE_STAT_STATE = 5 ∧ t.hub.get R.TEST_HEDGE_STAT_RESULT = 7 ∧ t.hub.level = s.hub.level ∧ t.mem = s.mem) ∧
  -- HEDGE_REQ not above the level is refused with RESULT 6
  (∀ (req : Path) (v : Word) (s : State),
    (Instr.hedgeReq req v).wf = true →
    (req = .pf ∨ req = .tap) →
    s.hub.attemptOpen = false →
    s.hub.get R.TEST_HEDGE_STAT_FAILS < 3 →
    bitsOf v 0 2 ≤ s.hub.level →
    ∃ t, exec (.hedgeReq req v) s = .next t ∧ t.hub.get R.TEST_HEDGE_STAT_STATE = 5 ∧ t.hub.get R.TEST_HEDGE_STAT_RESULT = 6 ∧ t.hub.level = s.hub.level ∧ t.mem = s.mem) ∧
  -- HEDGE_REQ outside the window is refused with RESULT 2
  (∀ (req : Path) (v : Word) (s : State),
    (Instr.hedgeReq req v).wf = true →
    (req = .pf ∨ req = .tap) →
    s.hub.attemptOpen = false →
    s.hub.get R.TEST_HEDGE_STAT_FAILS < 3 →
    s.hub.level < bitsOf v 0 2 →
    s.hub.on R.TEST_HEDGE_STAT_WINDOW = false →
    ∃ t, exec (.hedgeReq req v) s = .next t ∧ t.hub.get R.TEST_HEDGE_STAT_STATE = 5 ∧ t.hub.get R.TEST_HEDGE_STAT_RESULT = 2 ∧ t.hub.level = s.hub.level ∧ t.mem = s.mem) ∧
  -- HEDGE_GO on the attempt's path takes the submission
  (∀ (req : Path) (v : Word) (s : State),
    (Instr.hedgeGo req v).wf = true →
    (req = .pf ∨ req = .tap) →
    bitsOf v 0 1 = 1 →
    s.hub.get R.TEST_HEDGE_STAT_STATE = 1 →
    s.hub.get R.TEST_HEDGE_STAT_PATH = hedgePath req →
    ∃ t, exec (.hedgeGo req v) s = .next t ∧ t.hub.get R.TEST_HEDGE_STAT_STATE = 2 ∧
      t.hub.test.sub = leBytes 32 (s.hub.wordsOf 8 R.TEST_HEDGE_RESP) ++ leBytes 256 (s.hub.wordsOf 64 R.TEST_HEDGE_TOKEN) ∧ t.mem = s.mem) ∧
  -- HEDGE_VERIFY_COMPLETE goes on or ends, and counts a bad response
  (∀ (s : State),
    s.hub.get R.TEST_HEDGE_STAT_STATE = 2 →
    ∃ t, exec .hedgeVerifyComplete s = .next t ∧
      t.hub.get R.TEST_HEDGE_STAT_STATE = (if s.hub.responseOk = true ∧ s.hub.tokenGood = true ∧ s.hub.tokenMatches = true then 3 else 5) ∧
      t.hub.get R.TEST_HEDGE_STAT_FAILS = (if s.hub.responseOk then s.hub.get R.TEST_HEDGE_STAT_FAILS else satNat (R.TEST_HEDGE_STAT_FAILS).width (s.hub.get R.TEST_HEDGE_STAT_FAILS + 1)) ∧
      t.hub.level = s.hub.level ∧ t.mem = s.mem) ∧
  -- HEDGE_RESPONSE_TIMEOUT ends the attempt with RESULT 2 or 8
  (∀ (s : State),
    s.hub.get R.TEST_HEDGE_STAT_STATE = 1 →
    ∃ t, exec .hedgeResponseTimeout s = .next t ∧ t.hub.get R.TEST_HEDGE_STAT_STATE = 5 ∧ (t.hub.get R.TEST_HEDGE_STAT_RESULT = 2 ∨ t.hub.get R.TEST_HEDGE_STAT_RESULT = 8) ∧ t.hub.level = s.hub.level ∧ t.mem = s.mem) ∧
  -- HEDGE_WINDOW_CLOSE clears WINDOW
  (∀ (s : State),
    ∃ t, exec .hedgeWindowClose s = .next t ∧ t.hub.get R.TEST_HEDGE_STAT_WINDOW = 0 ∧ t.hub.level = s.hub.level ∧ t.mem = s.mem) ∧
  -- ZEROISE_COMPLETE raises the level asked, with the buffer, rings and solver contexts empty and DRAM kept
  (∀ (s : State),
    s.hub.get R.TEST_HEDGE_STAT_STATE = 3 →
    s.hub.testing6 = false →
    ∃ t, exec .zeroiseComplete s = .next t ∧ t.hub.get R.TEST_HEDGE_STAT_STATE = 4 ∧ t.hub.get R.TEST_HEDGE_STAT_RESULT = 1 ∧ t.hub.level = s.hub.get R.TEST_HEDGE_REQ_LEVEL ∧
      t.mem.buf = [] ∧ t.mem.bufErr = [] ∧ t.mem.dram = s.mem.dram ∧ t.mem.dramErr = s.mem.dramErr ∧ t.hub.rings = [] ∧ t.hub.spar.ctxs = [])

/-- The Yew log: blocks, sectors, the bucket, the mirror, reading, last gasp. Each clause says where its command
completes, and with what. What a definition named here takes from the log, not the spec, is the model's choice: log
entry 51. -/
def Obligations.YewLogRuns : Prop :=
  -- YEW_FLUSH programs what is staged and moves the write point
  (∀ (s : State),
    s.hub.yew.staged ≠ [] →
    ∃ t, exec .yewFlush s = .next t ∧ t.hub.yew.staged = [] ∧ t.hub.yew.wp = s.hub.yew.wp + 1 ∧ t.hub.yew.seq = s.hub.yew.seq ∧ t.mem = s.mem) ∧
  -- YEW_FLUSH ahead of an erased sector leaves the block readable
  (∀ (s : State),
    s.hub.yew.staged ≠ [] →
    s.hub.yew.wp + 8 ≤ s.hub.yew.erasedTo →
    s.hub.yew.erasedTo ≤ s.hub.yew.wp + 6016 →
    s.hub.on R.RAS_FLIP_CTRL_ARM = false →
    ∃ t, exec .yewFlush s = .next t ∧ (t.hub.yew.blocks.find? (fun (e : Nat × YewBlk) => e.1 == s.hub.yew.wp)).map (fun (e : Nat × YewBlk) => (e.2.recs, e.2.err)) = some (s.hub.yew.staged, 0)) ∧
  -- SECTOR_ERASE erases one more sector and drops what it held
  (∀ (s : State),
    s.hub.yew.erasedTo < s.hub.yew.wp + 16 →
    ∃ t, exec .sectorErase s = .next t ∧ t.hub.yew.erasedTo = s.hub.yew.erasedTo + 8 ∧ t.hub.yew.blocks = Store.keep (fun (b : Nat) => decide (s.hub.yew.erasedTo + 8 ≤ b + 6016)) s.hub.yew.blocks ∧ t.mem = s.mem) ∧
  -- BUCKET_REFILL adds a token up to BURST
  (∀ (s : State),
    s.hub.yew.refused = 0 →
    ∃ t, exec .bucketRefill s = .next t ∧ t.hub.yew.tokens = min (s.hub.get R.YEW_CTRL_BURST) (s.hub.yew.tokens + 1) ∧ t.hub.yew.seq = s.hub.yew.seq ∧ t.hub.regs = s.hub.regs ∧ t.mem = s.mem) ∧
  -- BUCKET_REFILL after refused records writes one record
  (∀ (s : State),
    s.hub.yew.refused ≠ 0 →
    s.hub.get R.YEW_CTRL_BURST ≠ 0 →
    ∃ t, exec .bucketRefill s = .next t ∧ t.hub.yew.refused = 0 ∧ t.hub.yew.seq = nextSeq s.hub.yew.seq ∧ t.mem = s.mem) ∧
  -- MIRROR_COPY copies the oldest block
  (∀ (n : Nat) (rest : List Nat) (s : State),
    (Instr.mirrorCopy true).wf = true →
    s.hub.yew.unmirrored = n :: rest →
    s.hub.on R.YEW_CTRL_MIRROR_EN = true →
    s.hub.get R.YEW_XSPI_SIZE ≠ 0 →
    s.hub.yew.mirrorOff = false →
    s.hub.yew.lgInput = false →
    ∃ t, exec (.mirrorCopy true) s = .next t ∧ t.hub.yew.unmirrored = rest ∧ t.hub.yew.mirrorOff = false ∧ t.hub.yew.blocks = s.hub.yew.blocks ∧ t.mem = s.mem) ∧
  -- MIRROR_COPY that fails turns the mirror off with ERR
  (∀ (n : Nat) (rest : List Nat) (s : State),
    (Instr.mirrorCopy false).wf = true →
    s.hub.yew.unmirrored = n :: rest →
    s.hub.on R.YEW_CTRL_MIRROR_EN = true →
    s.hub.get R.YEW_XSPI_SIZE ≠ 0 →
    s.hub.yew.mirrorOff = false →
    s.hub.yew.lgInput = false →
    ∃ t, exec (.mirrorCopy false) s = .next t ∧ t.hub.yew.mirrorOff = true ∧ t.hub.get R.YEW_XSPI_STAT_ERR = 1 ∧ t.mem = s.mem) ∧
  -- YEW_RD_SEQ of a staged record shows it
  (∀ (req : Path) (v : Word) (i : Nat) (r : YewRec) (s : State),
    (Instr.yewRdSeq req v).wf = true →
    req.holdsBlocks = true →
    (s.hub.yew.staged.find? fun r => r.seq == v.toNat) = some r →
    i < 16 →
    ∃ t, exec (.yewRdSeq req v) s = .next t ∧ t.hub.get R.YEW_RD_STAT_FOUND = 1 ∧ t.hub.get R.YEW_RD_STAT_NOT_FOUND = 0 ∧ t.hub.get R.YEW_RD_STAT_CORR = 0 ∧
      t.hub.get (R.YEW_RD_DATA i) = leAt r.bytes (4 * i) 4 ∧ t.hub.yew = s.hub.yew ∧ t.mem = s.mem) ∧
  -- YEW_RD_SEQ of no record sets NOT_FOUND
  (∀ (req : Path) (v : Word) (s : State),
    (Instr.yewRdSeq req v).wf = true →
    req.holdsBlocks = true →
    (s.hub.yew.staged.find? fun r => r.seq == v.toNat) = none →
    s.hub.yew.findBlk v.toNat = none →
    ∃ t, exec (.yewRdSeq req v) s = .next t ∧ t.hub.get R.YEW_RD_STAT_FOUND = 0 ∧ t.hub.get R.YEW_RD_STAT_NOT_FOUND = 1 ∧ t.hub.yew = s.hub.yew ∧ t.mem = s.mem) ∧
  -- VIN_BELOW_WARN takes the last gasp: four records, dispatch stopped, charger off
  (∀ (s : State),
    s.hub.pins.vinLow = false →
    s.hub.pins.d0Reset = false →
    s.hub.on R.PWR_HOLD_READY = true →
    s.hub.yew.lgAt = none →
    ∃ t, exec .vinBelowWarn s = .next t ∧ t.hub.yew.dispStop = true ∧ t.hub.yew.lgInput = true ∧ t.hub.pins.lgN = false ∧ t.hub.pins.vinLow = true ∧ t.hub.power.charger = false ∧
      t.hub.yew.lgAt = some s.hub.clock ∧ t.hub.yew.seq = nextSeq (nextSeq (nextSeq (nextSeq s.hub.yew.seq))) ∧ t.mem = s.mem) ∧
  -- LG_RECOVER ends it with PWRGOOD high
  (∀ (s : State),
    s.hub.yew.lgInput = true →
    s.hub.pins.pwrgood = true →
    s.hub.pins.d0Reset = false →
    ∃ t, exec .lgRecover s = .next t ∧ t.hub.yew.lgInput = false ∧ t.hub.pins.vinLow = false ∧ t.hub.power.charger = true ∧
      t.hub.yew.dispStop = (s.hub.test.scan || s.hub.boot.fatalEnd) ∧ t.mem = s.mem) ∧
  -- D0_RESET after a last gasp empties registers, rings and staged records and keeps the log's blocks
  (∀ (siteFit mtSel smbAddr : Nat) (s : State),
    (Instr.d0Reset siteFit mtSel smbAddr).wf = true →
    s.hub.yew.lgInput = true →
    s.hub.pins.d0Reset = false →
    s.hub.pins.pwrgood = false →
    ∃ t, exec (.d0Reset siteFit mtSel smbAddr) s = .next t ∧ t.hub.pins.d0Reset = true ∧ t.hub.regs = [] ∧ t.hub.rings = [] ∧
      t.hub.yew.blocks = s.hub.yew.blocks ∧ t.hub.yew.staged = []) ∧
  -- D0_RESET with PWRGOOD high is a cold reset with the straps
  (∀ (siteFit mtSel smbAddr : Nat) (s : State),
    (Instr.d0Reset siteFit mtSel smbAddr).wf = true →
    s.hub.yew.lgInput = true →
    s.hub.pins.d0Reset = false →
    s.hub.pins.pwrgood = true →
    ∃ t, exec (.d0Reset siteFit mtSel smbAddr) s = .next t ∧ t.hub.pins.d0Reset = false ∧ t.hub.get R.GLB_STRAP_SITE_FIT = siteFit ∧ t.hub.get R.BOOT_PROFILE_COLD = 1 ∧
      t.hub.rings = [] ∧ t.hub.yew.blocks = s.hub.yew.blocks ∧ t.hub.yew.staged = [])

/-- The management controller's messages and the Masthead mailbox. Each clause says where its command completes, and
with what. What a definition named here takes from the log, not the spec, is the model's choice: log entries 10, 13,
52. -/
def Obligations.ManagementAndMailboxAnswer : Prop :=
  -- GET_ENDPOINT_ID answers the EID
  (∀ (s : State),
    s.hub.pins.d0Reset = false →
    ∃ t, exec .getEndpointId s = .next t ∧ t.hub = s.hub.send (.mctp 2 ([BitVec.ofNat 8 s.hub.yew.eid])) ∧ t.mem = s.mem) ∧
  -- SET_ENDPOINT_ID of 1-254 stores it
  (∀ (eid : Nat) (s : State),
    (Instr.setEndpointId eid).wf = true →
    s.hub.pins.d0Reset = false →
    eid ≠ 0 →
    eid ≠ 255 →
    ∃ t, exec (.setEndpointId eid) s = .next t ∧ t.hub.yew.eid = eid ∧ t.hub.out = Out.mctp 1 [BitVec.ofNat 8 eid] :: s.hub.out ∧ t.hub.regs = s.hub.regs ∧ t.mem = s.mem) ∧
  -- GET_MCTP_VERSION_SUPPORT answers the versions
  (∀ (s : State),
    s.hub.pins.d0Reset = false →
    ∃ t, exec .getMctpVersionSupport s = .next t ∧ t.hub = s.hub.send (.mctp 4 (Config.mctpVersions)) ∧ t.mem = s.mem) ∧
  -- GET_MESSAGE_TYPE_SUPPORT answers 0x7E
  (∀ (s : State),
    s.hub.pins.d0Reset = false →
    ∃ t, exec .getMessageTypeSupport s = .next t ∧ t.hub = s.hub.send (.mctp 5 ([0x7E])) ∧ t.mem = s.mem) ∧
  -- GET_VENDOR_DEFINED_MESSAGE_SUPPORT answers the vendor set
  (∀ (s : State),
    s.hub.pins.d0Reset = false →
    ∃ t, exec .getVendorDefinedMessageSupport s = .next t ∧ t.hub = s.hub.send (.mctp 6 (Config.mctpVendor)) ∧ t.mem = s.mem) ∧
  -- GET_INFO answers oldest and next SEQ, readiness, level and FATALs
  (∀ (s : State),
    s.hub.pins.d0Reset = false →
    ∃ t, exec .getInfo s = .next t ∧ t.hub = s.hub.send (.mctp 0x101 (leBytes 4 (s.hub.get R.YEW_OLDEST_SEQ) ++ leBytes 4 (s.hub.get R.YEW_SEQ) ++ leBytes 4 (s.hub.reg 0xC).toNat ++
        [BitVec.ofNat 8 (s.hub.get R.TEST_HEDGE_STAT_LEVEL)] ++ leBytes 2 (s.hub.get R.YEW_ESC_FATALS))) ∧ t.mem = s.mem) ∧
  -- READ of 1 to 8 records answers them
  (∀ (seq count : Nat) (s : State),
    (Instr.bmcRead seq count).wf = true →
    s.hub.pins.d0Reset = false →
    1 ≤ count →
    count ≤ 8 →
    ∃ t, exec (.bmcRead seq count) s = .next t ∧ Out.mctp 0x102 ((s.hub.readRecs count seq).1.flatMap YewRec.bytes) ∈ t.hub.out ∧ t.mem = s.mem) ∧
  -- STATE answers a piece of the state region
  (∀ (piece : Nat) (s : State),
    (Instr.bmcState piece).wf = true →
    s.hub.pins.d0Reset = false →
    ∃ t, exec (.bmcState piece) s = .next t ∧ t.hub = s.hub.send (.mctp 0x103 (((Config.regionImage s.hub.yew.region.version (s.hub.yew.region.retires.map (fun (x : Retire) => (x.type, x.site, x.phys, x.cause))) s.hub.yew.region.ppr).drop (248 * piece)).take 248)) ∧ t.mem = s.mem) ∧
  -- MAILBOX_COMPLETE shows the result, DONE, not BUSY
  (∀ (r len : Nat) (bytes : List Byte) (s : State),
    s.hub.on R.MAST_STAT_BUSY = true →
    s.hub.mastResult = some (r, len, bytes) →
    r < 2 ^ (R.MAST_STAT_RESULT).width →
    len < 2 ^ (R.MAST_STAT_RLEN).width →
    ∃ t, exec .mailboxComplete s = .next t ∧ t.hub.get R.MAST_STAT_BUSY = 0 ∧ t.hub.get R.MAST_STAT_DONE = 1 ∧
      t.hub.get R.MAST_STAT_RESULT = r ∧ t.hub.get R.MAST_STAT_RLEN = len) ∧
  -- GET_VERSION answers version, slot and rollback
  (∀ (s : State),
    s.hub.on R.MAST_STAT_BUSY = true →
    s.hub.mast.op = 0x01 →
    s.hub.mast.answer = none →
    s.hub.mast.mgmt = none →
    2 ≤ s.hub.stage →
    s.hub.ras.sram = [] →
    s.hub.mast.len = 0 →
    ∃ t, exec .getVersion s = .next t ∧ t.hub.mast.answer = some (0, 6, [BitVec.ofNat 8 (s.hub.boot.version / 2 ^ 24), BitVec.ofNat 8 (s.hub.boot.version / 2 ^ 16)] ++
        leBytes 2 s.hub.boot.version ++ [BitVec.ofNat 8 s.hub.boot.slot, BitVec.ofNat 8 s.hub.yew.rollback])) ∧
  -- IMAGE_STAGE within the slot stores its bytes
  (∀ (s : State),
    s.hub.on R.MAST_STAT_BUSY = true →
    s.hub.mast.op = 0x40 →
    s.hub.mast.answer = none →
    s.hub.mast.mgmt = none →
    2 ≤ s.hub.stage →
    s.hub.ras.sram = [] →
    5 ≤ s.hub.mast.len →
    s.hub.mast.len ≤ 252 →
    leAt s.hub.mastData 0 4 % 4 = 0 →
    leAt s.hub.mastData 0 4 + (s.hub.mast.len - 4) ≤ 0x80000 →
    ∃ t, exec .imageStage s = .next t ∧ t.hub.mast.answer = some (0, 0, []) ∧
      Store.get (fun _ => (0 : Byte)) t.hub.yew.imgBytes (leAt s.hub.mastData 0 4) = s.hub.mastData.getD 4 0) ∧
  -- PPR_LIST answers the queued repairs
  (∀ (s : State),
    s.hub.on R.MAST_STAT_BUSY = true →
    s.hub.mast.op = 0x21 →
    s.hub.mast.answer = none →
    s.hub.mast.mgmt = none →
    2 ≤ s.hub.stage →
    s.hub.ras.sram = [] →
    s.hub.mast.len = 0 →
    ∃ t, exec .pprList s = .next t ∧ t.hub.mast.answer = some (0, 1 + 8 * s.hub.yew.region.ppr.length,
        BitVec.ofNat 8 s.hub.yew.region.ppr.length :: s.hub.yew.region.ppr.flatMap (leBytes 8))) ∧
  -- SITE_MGMT_RD of an able site asks the site
  (∀ (s : State),
    s.hub.on R.MAST_STAT_BUSY = true →
    s.hub.mast.op = 0x30 →
    s.hub.mast.answer = none →
    s.hub.mast.mgmt = none →
    2 ≤ s.hub.stage →
    s.hub.ras.sram = [] →
    s.hub.mast.len = 3 →
    leAt s.hub.mastData 0 1 < 4 →
    s.hub.mgmtAble (leAt s.hub.mastData 0 1) = true →
    ∃ t, exec .siteMgmtRd s = .next t ∧ t.hub.mast.mgmt = some (leAt s.hub.mastData 0 1) ∧ t.hub.mast.answer = none) ∧
  -- YEW_MARK with a token answers the record's SEQ
  (∀ (s : State),
    s.hub.on R.MAST_STAT_BUSY = true →
    s.hub.mast.op = 0x10 →
    s.hub.mast.answer = none →
    s.hub.mast.mgmt = none →
    2 ≤ s.hub.stage →
    s.hub.ras.sram = [] →
    s.hub.mast.len = 40 →
    s.hub.yew.tokens ≠ 0 →
    ∃ t, exec .yewMark s = .next t ∧ t.hub.mast.answer = some (0, 4, leBytes 4 s.hub.yew.seq)) ∧
  -- YEW_READ of 1 to 3 records answers them
  (∀ (k : Nat) (s : State),
    s.hub.on R.MAST_STAT_BUSY = true →
    s.hub.mast.op = 0x11 →
    s.hub.mast.answer = none →
    s.hub.mast.mgmt = none →
    2 ≤ s.hub.stage →
    s.hub.ras.sram = [] →
    s.hub.mast.len = 5 →
    k = leAt s.hub.mastData 4 1 →
    1 ≤ k →
    k ≤ 3 →
    ∃ t, exec .yewRead s = .next t ∧ t.hub.mast.answer = some (0, (((s.hub.readRecs k (leAt s.hub.mastData 0 4)).1.flatMap YewRec.bytes)).length,
        (s.hub.readRecs k (leAt s.hub.mastData 0 4)).1.flatMap YewRec.bytes))

/-- Escalation: FATAL events and faulted rings. Each clause says where its command completes, and with what. What a
definition named here takes from the log, not the spec, is the model's choice: log entry 53. -/
def Obligations.FaultsEscalate : Prop :=
  -- FAULT_RESET_TIMEOUT of a pending unit is FATAL
  (∀ (cls unit : Nat) (s : State),
    (Instr.faultResetTimeout cls unit).wf = true →
    s.hub.faultPending cls unit = true →
    s.hub.pins.d0Reset = false →
    s.hub.get R.YEW_ESC_FATALS + 1 < 2 ^ (R.YEW_ESC_FATALS).width →
    ∃ t, exec (.faultResetTimeout cls unit) s = .next t ∧ t.hub.pins.fatalN = false ∧ t.hub.boot.pend = 2 ∧
      t.hub.get R.YEW_ESC_FATALS = s.hub.get R.YEW_ESC_FATALS + 1) ∧
  -- MASTHEAD_WATCHDOG is FATAL
  (∀ (s : State),
    s.hub.pins.d0Reset = false →
    s.hub.get R.YEW_ESC_FATALS + 1 < 2 ^ (R.YEW_ESC_FATALS).width →
    ∃ t, exec .mastheadWatchdog s = .next t ∧ t.hub.pins.fatalN = false ∧ t.hub.pins.lgN = false ∧ t.hub.boot.pend = 2 ∧
      t.hub.get R.YEW_ESC_FATALS = s.hub.get R.YEW_ESC_FATALS + 1 ∧ t.mem = s.mem) ∧
  -- LOCKSTEP_MISMATCH is FATAL
  (∀ (s : State),
    s.hub.pins.d0Reset = false →
    s.hub.get R.YEW_ESC_FATALS + 1 < 2 ^ (R.YEW_ESC_FATALS).width →
    ∃ t, exec .lockstepMismatch s = .next t ∧ t.hub.pins.fatalN = false ∧ t.hub.pins.lgN = false ∧ t.hub.boot.pend = 2 ∧
      t.hub.get R.YEW_ESC_FATALS = s.hub.get R.YEW_ESC_FATALS + 1 ∧ t.mem = s.mem) ∧
  -- WATCHDOG_EXPIRY of a ring faults and resets it
  (∀ (cls unit : Nat) (s : State),
    (Instr.watchdogExpiry cls unit).wf = true →
    cls = 1 →
    (s.hub.ringState unit = 1 ∨ s.hub.ringState unit = 3) →
    ∃ t, exec (.watchdogExpiry cls unit) s = .next t ∧ t.hub.ringState unit = 2 ∧ t.hub.get (R.RING_STAT_FAULTED unit) = 1 ∧
      t.hub.get (R.RING_CTRL_ENABLE unit) = 0) ∧
  -- WATCHDOG_EXPIRY of a unit not listed is FATAL
  (∀ (cls unit : Nat) (s : State),
    (Instr.watchdogExpiry cls unit).wf = true →
    faultListed cls = false →
    s.hub.pins.d0Reset = false →
    ∃ t, exec (.watchdogExpiry cls unit) s = .next t ∧ t.hub.pins.fatalN = false ∧ t.hub.pins.lgN = false ∧ t.hub.boot.pend = 2 ∧ t.mem = s.mem)

end
end

