-- ==== Sys2Proof/Laws/Bits.lean ====
section
/-!
SUPPORT. Laws of bit fields: a field reads back what was put into it, and fields that share no bit leave each other alone.
-/
namespace Sys2Proof.Machine

theorem bitsOf_lt (w : Word) (lo width : Nat) : bitsOf w lo width < 2 ^ width := Nat.mod_lt _ (by positivity)

/-- Bits of the number a field is replaced in, as a sum of three parts. -/
theorem split_field (n lo width : Nat) :
    n = n / 2 ^ (lo + width) * 2 ^ (lo + width) + n / 2 ^ lo % 2 ^ width * 2 ^ lo + n % 2 ^ lo := by
  have h1 := Nat.div_add_mod n (2 ^ lo)
  have h2 := Nat.div_add_mod (n / 2 ^ lo) (2 ^ width)
  rw [Nat.div_div_eq_div_mul, ← pow_add] at h2
  have : 2 ^ lo * (2 ^ width * (n / 2 ^ (lo + width)) + n / 2 ^ lo % 2 ^ width) + n % 2 ^ lo = n := by rw [h2]; exact h1
  rw [pow_add] at this ⊢
  nlinarith [this]

theorem toNat_setBits (w : Word) (lo width v : Nat) (h : lo + width ≤ 32) :
    (setBits w lo width v).toNat
      = w.toNat / 2 ^ (lo + width) * 2 ^ (lo + width) + v % 2 ^ width * 2 ^ lo + w.toNat % 2 ^ lo := by
  have hs := split_field w.toNat lo width
  have hw : w.toNat < 2 ^ 32 := w.isLt
  have hv : v % 2 ^ width < 2 ^ width := Nat.mod_lt _ (by positivity)
  have hr : w.toNat % 2 ^ lo < 2 ^ lo := Nat.mod_lt _ (by positivity)
  have he : w.toNat - bitsOf w lo width * 2 ^ lo + v % 2 ^ width * 2 ^ lo
      = w.toNat / 2 ^ (lo + width) * 2 ^ (lo + width) + v % 2 ^ width * 2 ^ lo + w.toNat % 2 ^ lo := by
    unfold bitsOf
    generalize w.toNat / 2 ^ lo % 2 ^ width * 2 ^ lo = f at *
    generalize w.toNat / 2 ^ (lo + width) * 2 ^ (lo + width) = g at *
    generalize v % 2 ^ width * 2 ^ lo = x at *
    omega
  have hq : w.toNat / 2 ^ (lo + width) < 2 ^ (32 - (lo + width)) := by
    rw [Nat.div_lt_iff_lt_mul (by positivity), ← pow_add]
    simpa [Nat.sub_add_cancel h] using hw
  have hlt : w.toNat / 2 ^ (lo + width) * 2 ^ (lo + width) + v % 2 ^ width * 2 ^ lo + w.toNat % 2 ^ lo < 2 ^ 32 := by
    have h1 : (w.toNat / 2 ^ (lo + width) + 1) * 2 ^ (lo + width) ≤ 2 ^ 32 := by
      calc _ ≤ 2 ^ (32 - (lo + width)) * 2 ^ (lo + width) := Nat.mul_le_mul_right _ hq
        _ = 2 ^ 32 := by rw [← pow_add, Nat.sub_add_cancel h]
    have h2 : (v % 2 ^ width + 1) * 2 ^ lo ≤ 2 ^ (lo + width) := by
      rw [pow_add, mul_comm (2 ^ lo)]; exact Nat.mul_le_mul_right _ hv
    nlinarith
  unfold setBits
  rw [he, BitVec.toNat_ofNat, Nat.mod_eq_of_lt hlt]

/-- A field reads back what was put into it, modulo its width. -/
theorem bitsOf_setBits_same (w : Word) (lo width v : Nat) (h : lo + width ≤ 32) :
    bitsOf (setBits w lo width v) lo width = v % 2 ^ width := by
  unfold bitsOf
  rw [toNat_setBits w lo width v h]
  have hr : w.toNat % 2 ^ lo < 2 ^ lo := Nat.mod_lt _ (by positivity)
  have hv : v % 2 ^ width < 2 ^ width := Nat.mod_lt _ (by positivity)
  have : w.toNat / 2 ^ (lo + width) * 2 ^ (lo + width) + v % 2 ^ width * 2 ^ lo + w.toNat % 2 ^ lo
      = w.toNat % 2 ^ lo + 2 ^ lo * (v % 2 ^ width + 2 ^ width * (w.toNat / 2 ^ (lo + width))) := by
    rw [pow_add]; ring
  rw [this, Nat.add_mul_div_left _ _ (by positivity), Nat.div_eq_of_lt hr, Nat.zero_add, Nat.add_mul_mod_self_left,
    Nat.mod_eq_of_lt hv]

/-- A field above the one written is untouched. -/
theorem bitsOf_setBits_above (w : Word) (lo width v a b : Nat) (h : lo + width ≤ 32) (ha : lo + width ≤ a) :
    bitsOf (setBits w lo width v) a b = bitsOf w a b := by
  unfold bitsOf
  rw [toNat_setBits w lo width v h]
  have hr : w.toNat % 2 ^ lo < 2 ^ lo := Nat.mod_lt _ (by positivity)
  have hv : v % 2 ^ width < 2 ^ width := Nat.mod_lt _ (by positivity)
  have hsmall : v % 2 ^ width * 2 ^ lo + w.toNat % 2 ^ lo < 2 ^ (lo + width) := by
    have : (v % 2 ^ width + 1) * 2 ^ lo ≤ 2 ^ (lo + width) := by
      rw [pow_add, mul_comm (2 ^ lo)]; exact Nat.mul_le_mul_right _ hv
    nlinarith
  obtain ⟨c, rfl⟩ : ∃ c, a = lo + width + c := ⟨a - (lo + width), by omega⟩
  congr 1
  rw [pow_add 2 (lo + width) c, ← Nat.div_div_eq_div_mul, ← Nat.div_div_eq_div_mul]
  congr 1
  rw [add_assoc, mul_comm, Nat.mul_add_div (by positivity), Nat.div_eq_of_lt hsmall, Nat.add_zero]

/-- A field below the one written is untouched. -/
theorem bitsOf_setBits_below (w : Word) (lo width v a b : Nat) (h : lo + width ≤ 32) (ha : a + b ≤ lo) :
    bitsOf (setBits w lo width v) a b = bitsOf w a b := by
  unfold bitsOf
  have hm : ∀ x y : Nat, x % 2 ^ lo = y % 2 ^ lo → x / 2 ^ a % 2 ^ b = y / 2 ^ a % 2 ^ b := by
    intro x y hxy
    have hd : (2 : Nat) ^ (a + b) ∣ 2 ^ lo := pow_dvd_pow 2 ha
    have hab : x % 2 ^ (a + b) = y % 2 ^ (a + b) := by
      rw [← Nat.mod_mod_of_dvd x hd, hxy, Nat.mod_mod_of_dvd y hd]
    rw [← Nat.mod_mul_right_div_self, ← Nat.mod_mul_right_div_self, ← pow_add, hab]
  apply hm
  rw [toNat_setBits w lo width v h]
  have : w.toNat / 2 ^ (lo + width) * 2 ^ (lo + width) + v % 2 ^ width * 2 ^ lo + w.toNat % 2 ^ lo
      = w.toNat % 2 ^ lo + 2 ^ lo * (v % 2 ^ width + 2 ^ width * (w.toNat / 2 ^ (lo + width))) := by
    rw [pow_add]; ring
  rw [this, Nat.add_mul_mod_self_left, Nat.mod_mod]

end Sys2Proof.Machine
end

