-- ==== Sys2Proof/Laws/Store.lean ====
section
/-!
SUPPORT. Laws of the sparse stores: read after write, other keys untouched, and the canonical form kept by every operation.
-/
namespace Sys2Proof.Machine

variable {α : Type}

theorem Store.get_nil (d : Nat → α) (k : Nat) : Store.get d [] k = d k := rfl

theorem Store.get_erase_same (d : Nat → α) (l : List (Nat × α)) (k : Nat) : Store.get d (Store.erase l k) k = d k := by
  induction l with
  | nil => rfl
  | cons e l ih =>
    by_cases h : e.1 = k
    · simp [Store.erase, h, ih]
    · simp [Store.erase, Store.get, h, ih]

theorem Store.get_erase_ne (d : Nat → α) (l : List (Nat × α)) {k j : Nat} (hj : j ≠ k) :
    Store.get d (Store.erase l k) j = Store.get d l j := by
  induction l with
  | nil => rfl
  | cons e l ih =>
    by_cases h : e.1 = k
    · have : e.1 ≠ j := fun x => hj (x.symm.trans h)
      simp [Store.erase, Store.get, h, ih]
      intro hk
      exact absurd hk.symm hj
    · by_cases h2 : e.1 = j
      · subst h2; simp [Store.erase, Store.get, h]
      · simp [Store.erase, Store.get, h, h2, ih]

theorem Store.get_insert_ne (d : Nat → α) (l : List (Nat × α)) {k j : Nat} (v : α) (hj : j ≠ k) :
    Store.get d (Store.insert l k v) j = Store.get d l j := by
  induction l with
  | nil => simp [Store.insert, Store.get, Ne.symm hj]
  | cons e l ih =>
    by_cases h : k < e.1
    · simp [Store.insert, Store.get, h, Ne.symm hj]
    · by_cases h2 : e.1 = j
      · subst h2; simp [Store.insert, Store.get, h]
      · simp [Store.insert, Store.get, h, h2, ih]

/-- No entry of the list has key `k`. -/
def Store.lacks (l : List (Nat × α)) (k : Nat) : Prop := ∀ e ∈ l, e.1 ≠ k

theorem Store.lacks_erase (l : List (Nat × α)) (k : Nat) : Store.lacks (Store.erase l k) k := by
  induction l with
  | nil => intro e he; cases he
  | cons e l ih =>
    intro x hx
    by_cases h : e.1 = k
    · exact ih x (by simpa [Store.erase, h] using hx)
    · rcases List.mem_cons.1 (by simpa [Store.erase, h] using hx : x ∈ e :: Store.erase l k) with rfl | hx
      · exact h
      · exact ih x hx

theorem Store.get_insert_same (d : Nat → α) (l : List (Nat × α)) (k : Nat) (v : α) (hl : Store.lacks l k) :
    Store.get d (Store.insert l k v) k = v := by
  induction l with
  | nil => simp [Store.insert, Store.get]
  | cons e l ih =>
    by_cases h : k < e.1
    · simp [Store.insert, Store.get, h]
    · have he := hl e (List.mem_cons_self ..)
      simp [Store.insert, Store.get, h, he, ih fun x hx => hl x (List.mem_cons_of_mem _ hx)]

/-- A store reads back what was written. -/
theorem Store.get_set_same [DecidableEq α] (d : Nat → α) (l : List (Nat × α)) (k : Nat) (v : α) :
    Store.get d (Store.set d l k v) k = v := by
  unfold Store.set
  split
  · next h => rw [Store.get_erase_same, h]
  · exact Store.get_insert_same d _ k v (Store.lacks_erase l k)

/-- A write leaves every other key alone. -/
theorem Store.get_set_ne [DecidableEq α] (d : Nat → α) (l : List (Nat × α)) {k j : Nat} (v : α) (hj : j ≠ k) :
    Store.get d (Store.set d l k v) j = Store.get d l j := by
  unfold Store.set
  split
  · exact Store.get_erase_ne d l hj
  · rw [Store.get_insert_ne d _ v hj, Store.get_erase_ne d l hj]

theorem Store.get_set [DecidableEq α] (d : Nat → α) (l : List (Nat × α)) (k j : Nat) (v : α) :
    Store.get d (Store.set d l k v) j = if j = k then v else Store.get d l j := by
  by_cases h : j = k
  · subst h; simp [Store.get_set_same]
  · simp [h, Store.get_set_ne d l v h]

@[simp] theorem nget_nset_same (l : NatStore) (k v : Nat) : nget (nset l k v) k = v := Store.get_set_same _ _ _ _

theorem nget_nset_ne (l : NatStore) {k j : Nat} (v : Nat) (hj : j ≠ k) : nget (nset l k v) j = nget l j :=
  Store.get_set_ne _ _ v hj

theorem nget_nset (l : NatStore) (k j v : Nat) : nget (nset l k v) j = if j = k then v else nget l j :=
  Store.get_set _ _ _ _ _

@[simp] theorem nget_nil (k : Nat) : nget [] k = 0 := rfl

/-! ## The canonical form -/

theorem Store.above_mono {l : List (Nat × α)} {a b : Nat} (h : Store.above b l = true) (hab : a ≤ b) :
    Store.above a l = true := by
  induction l with
  | nil => rfl
  | cons e l ih =>
    simp only [Store.above, Bool.and_eq_true, decide_eq_true_eq] at h ⊢
    exact ⟨by omega, ih h.2⟩

theorem Store.above_erase {l : List (Nat × α)} {b : Nat} (k : Nat) (h : Store.above b l = true) :
    Store.above b (Store.erase l k) = true := by
  induction l with
  | nil => rfl
  | cons e l ih =>
    simp only [Store.above, Bool.and_eq_true, decide_eq_true_eq] at h
    by_cases hk : e.1 = k
    · simp [Store.erase, hk, ih h.2]
    · simp [Store.erase, hk, Store.above, h.1, ih h.2]

theorem Store.above_insert {l : List (Nat × α)} {b k : Nat} (v : α) (hk : b < k) (h : Store.above b l = true) :
    Store.above b (Store.insert l k v) = true := by
  induction l with
  | nil => simp [Store.insert, Store.above, hk]
  | cons e l ih =>
    simp only [Store.above, Bool.and_eq_true, decide_eq_true_eq] at h
    by_cases hlt : k < e.1 <;> simp [Store.insert, hlt, Store.above, hk, h.1, h.2, ih h.2]

theorem Store.above_keep {l : List (Nat × α)} {b : Nat} (p : Nat → Bool) (h : Store.above b l = true) :
    Store.above b (Store.keep p l) = true := by
  induction l with
  | nil => rfl
  | cons e l ih =>
    simp only [Store.above, Bool.and_eq_true, decide_eq_true_eq] at h
    by_cases hp : p e.1 = true <;> simp [Store.keep, hp, Store.above, h.1, ih h.2]

theorem Store.wf_erase [DecidableEq α] {d : Nat → α} {l : List (Nat × α)} (k : Nat) (h : Store.wf d l = true) :
    Store.wf d (Store.erase l k) = true := by
  induction l with
  | nil => rfl
  | cons e l ih =>
    simp only [Store.wf, Bool.and_eq_true, decide_eq_true_eq] at h
    by_cases hk : e.1 = k
    · simp [Store.erase, hk, ih h.2]
    · simp [Store.erase, hk, Store.wf, Store.above_erase k h.1.1, h.1.2, ih h.2]

theorem Store.wf_insert [DecidableEq α] {d : Nat → α} {l : List (Nat × α)} (k : Nat) (v : α) (hv : v ≠ d k)
    (hl : Store.lacks l k) (h : Store.wf d l = true) : Store.wf d (Store.insert l k v) = true := by
  induction l with
  | nil => simp [Store.insert, Store.wf, Store.above, hv]
  | cons e l ih =>
    have he := hl e (List.mem_cons_self ..)
    have hl' : Store.lacks l k := fun x hx => hl x (List.mem_cons_of_mem _ hx)
    simp only [Store.wf, Bool.and_eq_true, decide_eq_true_eq] at h
    by_cases hlt : k < e.1
    · simp [Store.insert, hlt, Store.wf, Store.above, Store.above_mono h.1.1 hlt.le, h.1.1, h.1.2, h.2, hv]
    · have : e.1 < k := by omega
      simp [Store.insert, hlt, Store.wf, Store.above_insert v this h.1.1, h.1.2, ih hl' h.2]

/-- A write keeps the canonical form. -/
theorem Store.wf_set [DecidableEq α] {d : Nat → α} {l : List (Nat × α)} (k : Nat) (v : α) (h : Store.wf d l = true) :
    Store.wf d (Store.set d l k v) = true := by
  unfold Store.set
  split
  · exact Store.wf_erase k h
  · next hv => exact Store.wf_insert k v hv (Store.lacks_erase l k) (Store.wf_erase k h)

/-- Dropping keys keeps the canonical form. -/
theorem Store.wf_keep [DecidableEq α] {d : Nat → α} {l : List (Nat × α)} (p : Nat → Bool) (h : Store.wf d l = true) :
    Store.wf d (Store.keep p l) = true := by
  induction l with
  | nil => rfl
  | cons e l ih =>
    simp only [Store.wf, Bool.and_eq_true, decide_eq_true_eq] at h
    by_cases hp : p e.1 = true
    · simp [Store.keep, hp, Store.wf, Store.above_keep p h.1.1, h.1.2, ih h.2]
    · simp [Store.keep, hp, ih h.2]

/-- What `keep` leaves: kept keys read as before. -/
theorem Store.get_keep (d : Nat → α) (p : Nat → Bool) (l : List (Nat × α)) (k : Nat) :
    Store.get d (Store.keep p l) k = if p k then Store.get d l k else d k := by
  induction l with
  | nil => simp [Store.keep, Store.get]
  | cons e l ih =>
    by_cases hp : p e.1 = true
    · by_cases hk : e.1 = k
      · subst hk; simp [Store.keep, Store.get, hp]
      · simp [Store.keep, Store.get, hp, hk, ih]
    · by_cases hk : e.1 = k
      · subst hk; simp [Store.keep, hp, ih]
      · simp [Store.keep, Store.get, hp, hk, ih]

end Sys2Proof.Machine
end

