-- ==== Sys2Proof/Laws/Mem.lean ====
section
/-!
SUPPORT. Laws of the stored data: every operation over the DRAM and the buffer keeps the canonical form of `Mem.wf`, the state
after reset has it, and a byte reads back what was stored while every other byte reads as before.
-/
namespace Sys2Proof.Machine

theorem Mem.wf_iff (m : Mem) :
    m.wf = true ↔ Store.wf (fun _ => (0 : Byte)) m.dram = true ∧ Store.wf (fun _ => (0 : Byte)) m.buf = true
      ∧ Store.wf (fun _ => 0) m.dramErr = true ∧ Store.wf (fun _ => 0) m.bufErr = true := by
  simp [Mem.wf, and_assoc]

theorem Mem.wf_reset : Mem.reset.wf = true := by decide

theorem State.reset_mem_wf : State.reset.mem.wf = true := Mem.wf_reset

/-- Emptying the buffer keeps the canonical form. -/
theorem Mem.wf_emptyBuf {m : Mem} (h : m.wf = true) : ({ m with buf := [], bufErr := [] } : Mem).wf = true := by
  obtain ⟨a, -, c, -⟩ := (Mem.wf_iff m).1 h
  exact (Mem.wf_iff _).2 ⟨a, rfl, c, rfl⟩

theorem Mem.wf_setByte {m : Mem} (sp a : Nat) (b : Byte) (h : m.wf = true) : (m.setByte sp a b).wf = true := by
  obtain ⟨h1, h2, h3, h4⟩ := (Mem.wf_iff m).1 h
  unfold Mem.setByte
  split
  · exact (Mem.wf_iff _).2 ⟨Store.wf_set a b h1, h2, h3, h4⟩
  · exact (Mem.wf_iff _).2 ⟨h1, Store.wf_set a b h2, h3, h4⟩

theorem Mem.wf_setErr {m : Mem} (sp base e : Nat) (h : m.wf = true) : (m.setErr sp base e).wf = true := by
  obtain ⟨h1, h2, h3, h4⟩ := (Mem.wf_iff m).1 h
  unfold Mem.setErr
  split
  · exact (Mem.wf_iff _).2 ⟨h1, h2, Store.wf_set _ e h3, h4⟩
  · exact (Mem.wf_iff _).2 ⟨h1, h2, h3, Store.wf_set _ e h4⟩

theorem Mem.wf_foldl {α : Type} (f : Mem → α → Mem) (hf : ∀ m x, m.wf = true → (f m x).wf = true) (l : List α) (m : Mem)
    (h : m.wf = true) : (l.foldl f m).wf = true := by
  induction l generalizing m with
  | nil => exact h
  | cons x l ih => exact ih _ (hf m x h)

theorem Mem.wf_setBytes {m : Mem} (sp a : Nat) (bs : List Byte) (h : m.wf = true) : (m.setBytes sp a bs).wf = true :=
  Mem.wf_foldl _ (fun _ x hm => Mem.wf_setByte sp (a + x.2) x.1 hm) _ _ h

theorem Mem.wf_clear {m : Mem} (sp a n : Nat) (h : m.wf = true) : (m.clear sp a n).wf = true := by
  obtain ⟨h1, h2, h3, h4⟩ := (Mem.wf_iff m).1 h
  unfold Mem.clear
  dsimp only
  split
  · exact (Mem.wf_iff _).2 ⟨Store.wf_keep _ h1, h2, Store.wf_keep _ h3, h4⟩
  · exact (Mem.wf_iff _).2 ⟨h1, Store.wf_keep _ h2, h3, Store.wf_keep _ h4⟩

/-! ## Reading and writing one byte -/

/-- A byte reads back what was stored; every other byte of its space reads as before. -/
theorem Mem.byte_setByte (m : Mem) (sp a k : Nat) (b : Byte) :
    (m.setByte sp a b).byte sp k = if k = a then b else m.byte sp k := by
  by_cases h : sp = 0 <;> simp [Mem.setByte, Mem.byte, h, Store.get_set]

/-- Marking stored bits in error changes no stored byte. -/
@[simp] theorem Mem.byte_setErr (m : Mem) (sp base e s k : Nat) : (m.setErr sp base e).byte s k = m.byte s k := by
  unfold Mem.setErr
  split <;> rfl

/-- Storing into one space leaves the other's bytes. -/
theorem Mem.byte_setByte_other (m : Mem) (sp s a k : Nat) (b : Byte) (h : ¬ (sp = 0 ↔ s = 0)) :
    (m.setByte sp a b).byte s k = m.byte s k := by
  by_cases h1 : sp = 0 <;> by_cases h2 : s = 0 <;> simp_all [Mem.setByte, Mem.byte]

/-- Bytes outside the stored range read as before. -/
theorem Mem.byte_setBytes_outside (m : Mem) (sp a k : Nat) (bs : List Byte) (h : k < a ∨ a + bs.length ≤ k) :
    (m.setBytes sp a bs).byte sp k = m.byte sp k := by
  have key : ∀ (l : List (Byte × Nat)) (m : Mem), (∀ e ∈ l, k ≠ a + e.2) →
      (l.foldl (fun m' e => m'.setByte sp (a + e.2) e.1) m).byte sp k = m.byte sp k := by
    intro l
    induction l with
    | nil => intro m _; rfl
    | cons e l ih =>
      intro m hl
      rw [List.foldl_cons, ih _ fun x hx => hl x (List.mem_cons_of_mem _ hx), Mem.byte_setByte,
        if_neg (hl e (List.mem_cons_self ..))]
  refine key _ _ fun e he => ?_
  have := List.snd_lt_of_mem_zipIdx he
  omega

/-! ## Operations of the chip -/

theorem Chip.wf_each {α : Type} (l : List α) (f : α → Chip → Chip)
    (hf : ∀ x d, d.mem.wf = true → (f x d).mem.wf = true) (c : Chip) (h : c.mem.wf = true) :
    (Chip.each l f c).mem.wf = true := by
  unfold Chip.each
  induction l generalizing c with
  | nil => exact h
  | cons x l ih => exact ih _ (hf x c h)

/-- A read keeps the canonical form of what it rewrites. -/
theorem Chip.wf_readCw (req : Nat) (latent : Bool) (sp base : Nat) (c : Chip) (h : c.mem.wf = true) :
    (c.readCw req latent sp base).chip.mem.wf = true := by
  unfold Chip.readCw
  dsimp only
  split
  · exact h
  · exact Mem.wf_setErr _ _ _ h
  · exact h
  · split
    · exact h
    · exact Mem.wf_setBytes _ _ _ (Mem.wf_setErr _ _ _ h)

theorem Chip.wf_readCws (req sp : Nat) (k base : Nat) (c : Chip) (h : c.mem.wf = true) :
    (Chip.readCws req sp k base c).chip.mem.wf = true := by
  induction k generalizing base c with
  | zero => exact h
  | succ k ih =>
    unfold Chip.readCws
    dsimp only
    split
    · exact Chip.wf_readCw _ _ _ _ _ h
    · exact ih _ _ (Chip.wf_readCw _ _ _ _ _ h)

theorem Chip.wf_read (req sp a n : Nat) (c : Chip) (h : c.mem.wf = true) : (c.read req sp a n).chip.mem.wf = true := by
  unfold Chip.read
  split
  · exact h
  · exact Chip.wf_readCws req sp _ _ _ h

theorem Chip.wf_writeCw (req sp base at_ : Nat) (bs : List Byte) (c : Chip) (h : c.mem.wf = true) :
    (c.writeCw req sp base at_ bs).chip.mem.wf = true := by
  have hm := Mem.wf_setBytes sp (base + at_) bs h
  unfold Chip.writeCw
  dsimp only
  repeat' split
  all_goals first
    | exact Mem.wf_setErr _ _ _ hm
    | exact hm
    | exact Mem.wf_setErr _ _ _ (Mem.wf_setBytes _ _ _ (Mem.wf_setBytes _ _ _ h))

theorem Chip.wf_writeCws (req sp : Nat) (k a : Nat) (bs : List Byte) (c : Chip) (h : c.mem.wf = true) :
    (Chip.writeCws req sp k a bs c).chip.mem.wf = true := by
  induction k generalizing a bs c with
  | zero => exact h
  | succ k ih => exact ih _ _ _ (Chip.wf_writeCw _ _ _ _ _ _ h)

theorem Chip.wf_flipFire (req sp base : Nat) (c : Chip) (h : c.mem.wf = true) : (c.flipFire req sp base).mem.wf = true :=
  Mem.wf_setErr _ _ _ h

theorem Chip.wf_writeAs (m req sp a : Nat) (bs : List Byte) (c : Chip) (h : c.mem.wf = true) :
    (c.writeAs m req sp a bs).chip.mem.wf = true := by
  unfold Chip.writeAs
  dsimp only
  split
  · exact h
  · split
    · exact Chip.wf_writeCws req sp _ _ _ _ h
    · exact Chip.wf_flipFire _ _ _ _ (Chip.wf_writeCws req sp _ _ _ _ h)

theorem Chip.wf_write (req sp a : Nat) (bs : List Byte) (c : Chip) (h : c.mem.wf = true) :
    (c.write req sp a bs).chip.mem.wf = true := Chip.wf_writeAs _ _ _ _ _ _ h

theorem Chip.wf_poisonCw (req sp base : Nat) (c : Chip) (h : c.mem.wf = true) : (c.poisonCw req sp base).mem.wf = true :=
  Mem.wf_setErr _ _ _ h

theorem Chip.wf_poison (req sp a n : Nat) (c : Chip) (h : c.mem.wf = true) : (c.poison req sp a n).mem.wf = true :=
  Chip.wf_each _ (fun i d => d.poisonCw req sp (a + cwBytes sp * i)) (fun _ _ hd => Chip.wf_poisonCw _ _ _ _ hd) c h

theorem Chip.wf_zeroise (c : Chip) (h : c.mem.wf = true) : c.zeroise.mem.wf = true := Mem.wf_emptyBuf h

/-! ## What a command does to the stored data -/

/-- A command of the hub alone answers the stored data and the queue as they were. -/
theorem State.of_act_next {ok : Bool} {f : Hub → Hub} {s t : State} (h : s.act ok f = .next t) :
    ok = true ∧ t = { s with hub := f s.hub } := by
  unfold State.act at h
  split at h <;> simp_all

/-- A command of the hub and the stored data answers the queue as it was. -/
theorem State.of_actMem_next {ok : Bool} {f : Chip → Chip} {s t : State} (h : s.actMem ok f = .next t) :
    ok = true ∧ t = { s with hub := (f ⟨s.hub, s.mem⟩).hub, mem := (f ⟨s.hub, s.mem⟩).mem } := by
  unfold State.actMem at h
  split at h <;> simp_all

end Sys2Proof.Machine
end

