-- ==== Sys2Proof/Laws/Keeps.lean ====
section
/-!
SUPPORT. Every operation that answers a chip keeps the canonical form of the stored data.
-/
namespace Sys2Proof.Machine
set_option linter.unusedSimpArgs false
set_option linter.unusedVariables false
set_option linter.unusedTactic false
set_option linter.unreachableTactic false
set_option Elab.async false

theorem Chip.wf_mk (g : Hub) (m : Mem) (h : m.wf = true) : (Chip.mk g m).mem.wf = true := h

theorem Chip.wf_snd {α : Type} (a : α) (d : Chip) (h : d.mem.wf = true) : ((a, d) : α × Chip).2.mem.wf = true := h

theorem Chip.wf_thd {α β : Type} (a : α) (b : β) (d : Chip) (h : d.mem.wf = true) : ((a, b, d)
    : α × β × Chip).2.2.mem.wf = true := h

theorem Chip.wf_ite (p : Prop) [Decidable p] (a b : Chip) (ha : a.mem.wf = true) (hb : b.mem.wf = true) :
    (if p then a else b).mem.wf = true := by split <;> assumption

theorem Chip.wf_of_pair {α : Type} {x : α × Chip} {a : α} {d : Chip} (e : x = (a, d)) (hx : x.2.mem.wf = true) :
    d.mem.wf = true := by rw [e] at hx; exact hx

theorem Chip.wf_of_triple {α β : Type} {x : α × β × Chip} {a : α} {b : β} {d : Chip} (e : x = (a, b, d))
    (hx : x.2.2.mem.wf = true) : d.mem.wf = true := by rw [e] at hx; exact hx

/-- A bank's move keeps the canonical form. -/
theorem Mem.wf_moved {m : Mem} (l : Nat) (h : m.wf = true) : (m.moved l).wf = true := by
  unfold Mem.moved
  generalize m.badWords l = ws
  induction ws generalizing m with
  | nil => exact h
  | cons a ws ih =>
    rw [List.foldl_cons]
    split
    · exact ih (Mem.wf_setErr _ _ _ h)
    · exact ih h

theorem Chip.wf_grant (s msg tag l : Nat) (bare : Bool) (c : Chip) (h : c.mem.wf = true) :
    (Chip.grant s msg tag l bare c).mem.wf = true := by
  unfold Chip.grant
  try dsimp -proj only
  repeat' split
  all_goals simp -proj +contextual (maxDischargeDepth := 12) only [h, Chip.wf_mk, Chip.wf_snd, Chip.wf_thd, Chip.wf_ite,
      Chip.wf_read]

theorem Chip.wf_writePiecesAs (m req sp : Nat) (a0 : List (Nat × List Byte)) (c : Chip) (h : c.mem.wf = true) :
    (Chip.writePiecesAs m req sp a0 c).chip.mem.wf = true := by
  induction a0 generalizing c with
  | nil => (try unfold Chip.writePiecesAs); simp -proj only [h, Chip.wf_mk]
  | cons e l ih =>
    unfold Chip.writePiecesAs
    dsimp -proj only
    repeat' split
    all_goals simp -proj +contextual (maxDischargeDepth := 12) only [ih, h, Chip.wf_mk, Chip.wf_snd, Chip.wf_thd,
        Chip.wf_ite, Chip.wf_writeAs]

theorem Chip.wf_writePieces (req sp : Nat) (l : List (Nat × List Byte)) (c : Chip) (h : c.mem.wf = true) :
    (Chip.writePieces req sp l c).chip.mem.wf = true := by
  unfold Chip.writePieces
  try dsimp -proj only
  repeat' split
  all_goals simp -proj +contextual (maxDischargeDepth := 12) only [h, Chip.wf_mk, Chip.wf_snd, Chip.wf_thd, Chip.wf_ite,
      Chip.wf_writePiecesAs]

theorem Chip.wf_inEpoch (e l : Nat) (f : Chip → Chip) (c : Chip) (hf : ∀ (d : Chip),
    d.mem.wf = true → (f d).mem.wf = true) (h : c.mem.wf = true) :
    (Chip.inEpoch e l f c).mem.wf = true := by
  unfold Chip.inEpoch
  try dsimp -proj only
  repeat' split
  all_goals simp -proj +contextual (maxDischargeDepth := 12) only [h, hf, Chip.wf_mk, Chip.wf_snd, Chip.wf_thd,
      Chip.wf_ite]

theorem Chip.wf_ncPart (id l : Nat) (c : Chip) (h : c.mem.wf = true) :
    (Chip.ncPart id l c).mem.wf = true := by
  unfold Chip.ncPart
  split
  · exact h
  · refine Chip.wf_inEpoch _ _ _ _ (fun d hd => ?_) h
    dsimp -proj only
    split
    · exact Chip.wf_mk _ _ (Chip.wf_writePieces _ _ _ _ hd)
    · exact Chip.wf_mk _ _ (Chip.wf_read _ _ _ _ _ hd)

theorem Chip.wf_dirGrant (r : DirReq) (l i : Nat) (bare : Bool) (c : Chip) (h : c.mem.wf = true) :
    (Chip.dirGrant r l i bare c).mem.wf = true := by
  unfold Chip.dirGrant
  try dsimp -proj only
  repeat' split
  all_goals simp -proj +contextual (maxDischargeDepth := 12) only [h, Chip.wf_mk, Chip.wf_snd, Chip.wf_thd, Chip.wf_ite,
      Chip.wf_grant, Chip.wf_ncPart]

theorem Chip.wf_dirServe (l i : Nat) (r : DirReq) (c : Chip) (h : c.mem.wf = true) :
    (Chip.dirServe l i r c).mem.wf = true := by
  unfold Chip.dirServe
  try dsimp -proj only
  repeat' split
  all_goals simp -proj +contextual (maxDischargeDepth := 12) only [h, Chip.wf_mk, Chip.wf_snd, Chip.wf_thd, Chip.wf_ite,
      Chip.wf_dirGrant]

theorem Chip.wf_dirArrive (l i : Nat) (r : DirReq) (c : Chip) (h : c.mem.wf = true) :
    (Chip.dirArrive l i r c).mem.wf = true := by
  unfold Chip.dirArrive
  try dsimp -proj only
  repeat' split
  all_goals simp -proj +contextual (maxDischargeDepth := 12) only [h, Chip.wf_mk, Chip.wf_snd, Chip.wf_thd, Chip.wf_ite,
      Chip.wf_dirServe]

theorem Chip.wf_dirSettle (l i : Nat) (a0 : Nat) (a1 : Bool) (a2 : List DirReq) (c : Chip) (h : c.mem.wf = true) :
    (Chip.dirSettle l i a0 a1 a2 c).mem.wf = true := by
  induction a0 generalizing a1 a2 c with
  | zero => exact h
  | succ n ih =>
    unfold Chip.dirSettle
    dsimp -proj only
    split
    · exact h
    · have hs := fun g r => Chip.wf_dirServe l i r ⟨g, c.mem⟩ h
      exact Chip.wf_ite _ _ _ (Chip.wf_mk _ _ (hs _ _)) (ih _ _ _ (hs _ _))

theorem Chip.wf_dirFinish (t : DirTxn) (i : Nat) (c : Chip) (h : c.mem.wf = true) :
    (Chip.dirFinish t i c).mem.wf = true := by
  unfold Chip.dirFinish
  try dsimp -proj only
  repeat' split
  all_goals simp -proj +contextual (maxDischargeDepth := 12) only [h, Chip.wf_mk, Chip.wf_snd, Chip.wf_thd, Chip.wf_ite,
      Chip.wf_dirGrant]

theorem Chip.wf_dirEnd (t : DirTxn) (c : Chip) (h : c.mem.wf = true) :
    (Chip.dirEnd t c).mem.wf = true := by
  unfold Chip.dirEnd
  try dsimp -proj only
  repeat' split
  all_goals simp -proj +contextual (maxDischargeDepth := 12) only [h, Chip.wf_mk, Chip.wf_snd, Chip.wf_thd, Chip.wf_ite,
      Chip.wf_dirFinish, Chip.wf_dirSettle]

theorem Chip.wf_dirAnswered (s l : Nat) (c : Chip) (h : c.mem.wf = true) :
    (Chip.dirAnswered s l c).mem.wf = true := by
  unfold Chip.dirAnswered
  try dsimp -proj only
  repeat' split
  all_goals simp -proj +contextual (maxDischargeDepth := 12) only [h, Chip.wf_mk, Chip.wf_snd, Chip.wf_thd, Chip.wf_ite,
      Chip.wf_dirEnd]

theorem Chip.wf_dirRecover (i : Nat) (c : Chip) (h : c.mem.wf = true) :
    (Chip.dirRecover i c).mem.wf = true := by
  unfold Chip.dirRecover
  try dsimp -proj only
  repeat' split
  all_goals simp -proj +contextual (maxDischargeDepth := 12) only [h, Chip.wf_mk, Chip.wf_snd, Chip.wf_thd, Chip.wf_ite,
      Chip.wf_dirArrive]

theorem Chip.wf_dirCheck (req w : Nat) (c : Chip) (h : c.mem.wf = true) :
    (Chip.dirCheck req w c).mem.wf = true := by
  unfold Chip.dirCheck
  dsimp -proj only
  have hl : ∀ g : Hub, (Chip.each ((List.range 8).map fun j => dirIndex (w / 8192) (8 * (w % 8192) + j)) Chip.dirRecover
      ⟨g,
          c.mem⟩).mem.wf = true := fun g => Chip.wf_each _ _ (fun i d hd => Chip.wf_dirRecover i d (Chip.wf_mk _ _ hd)) _ (Chip.wf_mk _ _ h)
  split
  · exact Chip.wf_mk _ _ h
  · exact Chip.wf_mk _ _ h
  · exact hl _
  · split
    · exact hl _
    · exact Chip.wf_mk _ _ h

theorem Chip.wf_shown (c : Chip) (h : c.mem.wf = true) :
    (Chip.shown c).mem.wf = true := by
  unfold Chip.shown
  try dsimp -proj only
  repeat' split
  all_goals simp -proj +contextual (maxDischargeDepth := 12) only [h, Chip.wf_mk, Chip.wf_snd, Chip.wf_thd, Chip.wf_ite]

theorem Chip.wf_dirGather (req l i : Nat) (r : DirReq) (c : Chip) (h : c.mem.wf = true) :
    (Chip.dirGather req l i r c).mem.wf = true := by
  unfold Chip.dirGather
  try dsimp -proj only
  repeat' split
  all_goals simp -proj +contextual (maxDischargeDepth := 12) only [h, Chip.wf_mk, Chip.wf_snd, Chip.wf_thd, Chip.wf_ite,
      Chip.wf_dirCheck]

theorem Chip.wf_decided (more : Bool) (c : Chip) (h : c.mem.wf = true) :
    (Chip.decided more c).mem.wf = true := by
  unfold Chip.decided
  split
  · exact h
  · refine Chip.wf_shown _ (Chip.wf_each _ _ (fun l d hd => ?_) _ (Chip.wf_mk _ _ h))
    split
    · exact hd
    · exact Chip.wf_dirSettle _ _ _ _ _ _ hd

theorem Chip.wf_dirRequest (req l i : Nat) (r : DirReq) (c : Chip) (h : c.mem.wf = true) :
    (Chip.dirRequest req l i r c).mem.wf = true := by
  unfold Chip.dirRequest
  try dsimp -proj only
  repeat' split
  all_goals simp -proj +contextual (maxDischargeDepth := 12) only [h, Chip.wf_mk, Chip.wf_snd, Chip.wf_thd, Chip.wf_ite,
      Chip.wf_dirCheck, Chip.wf_dirArrive]

theorem Chip.wf_probe (req : Nat) (write : Bool) (off n : Nat) (c : Chip) (h : c.mem.wf = true) :
    (Chip.probe req write off n c).mem.wf = true := by
  unfold Chip.probe
  refine Chip.wf_each _ _ (fun l d hd => ?_) _ (Chip.wf_mk _ _ h)
  split
  · exact (Chip.wf_mk _ _ hd)
  · exact Chip.wf_ite _ _ _ hd (Chip.wf_dirRequest _ _ _ _ _ (Chip.wf_mk _ _ hd))

theorem Chip.wf_ncAccess (more : Bool) (a : NcAcc) (c : Chip) (h : c.mem.wf = true) :
    (Chip.ncAccess more a c).mem.wf = true := by
  unfold Chip.ncAccess
  split
  · split
    · exact Chip.wf_mk _ _ (Chip.wf_writePieces _ _ _ _ h)
    · exact Chip.wf_mk _ _ (Chip.wf_read _ _ _ _ _ h)
  · refine Chip.wf_decided _ _ (Chip.wf_each _ _ (fun l d hd => ?_) _ (Chip.wf_mk _ _ h))
    split
    · exact Chip.wf_ncPart _ _ _ hd
    · exact Chip.wf_dirGather _ _ _ _ _ hd

theorem Chip.wf_ncRead (more : Bool) (req ans tag off n : Nat) (c : Chip) (h : c.mem.wf = true) :
    (Chip.ncRead more req ans tag off n c).mem.wf = true := by
  unfold Chip.ncRead
  try dsimp -proj only
  repeat' split
  all_goals simp -proj +contextual (maxDischargeDepth := 12) only [h, Chip.wf_mk, Chip.wf_snd, Chip.wf_thd, Chip.wf_ite,
      Chip.wf_ncAccess]

theorem Chip.wf_ncWrite (more : Bool) (req ans tag off n : Nat) (pieces : List (Nat × List Byte)) (c : Chip)
    (h : c.mem.wf = true) :
    (Chip.ncWrite more req ans tag off n pieces c).mem.wf = true := by
  unfold Chip.ncWrite
  try dsimp -proj only
  repeat' split
  all_goals simp -proj +contextual (maxDischargeDepth := 12) only [h, Chip.wf_mk, Chip.wf_snd, Chip.wf_thd, Chip.wf_ite,
      Chip.wf_ncAccess]

theorem Chip.wf_winDisable (req : Path) (w : Nat) (c : Chip) (h : c.mem.wf = true) :
    (Chip.winDisable req w c).mem.wf = true := by
  unfold Chip.winDisable
  dsimp -proj only
  split
  · refine Chip.wf_shown _ (Chip.wf_each _ _ (fun i d hd => ?_) _ (Chip.wf_mk _ _ h))
    split
    · exact (Chip.wf_mk _ _ hd)
    · exact Chip.wf_dirRequest _ _ _ _ _ (Chip.wf_mk _ _ hd)
  · exact Chip.wf_mk _ _ h

theorem Chip.wf_pfWrite (req : Path) (f : Chip → Chip) (c : Chip) (hf : ∀ (d : Chip),
    d.mem.wf = true → (f d).mem.wf = true) (h : c.mem.wf = true) :
    (Chip.pfWrite req f c).mem.wf = true := by
  unfold Chip.pfWrite
  try dsimp -proj only
  repeat' split
  all_goals simp -proj +contextual (maxDischargeDepth := 12) only [h, hf, Chip.wf_mk, Chip.wf_snd, Chip.wf_thd,
      Chip.wf_ite]

theorem Chip.wf_dropLine (s i : Nat) (c : Chip) (h : c.mem.wf = true) :
    (Chip.dropLine s i c).mem.wf = true := by
  unfold Chip.dropLine
  try dsimp -proj only
  repeat' split
  all_goals simp -proj +contextual (maxDischargeDepth := 12) only [h, Chip.wf_mk, Chip.wf_snd, Chip.wf_thd, Chip.wf_ite,
      Chip.wf_poison]

theorem Chip.wf_dirDropSite (s : Nat) (c : Chip) (h : c.mem.wf = true) :
    (Chip.dirDropSite s c).mem.wf = true := by
  unfold Chip.dirDropSite
  exact Chip.wf_shown _ (Chip.wf_each _ _ (fun t d hd => Chip.wf_dirAnswered s t.line d (Chip.wf_mk _ _ hd)) _
    (Chip.wf_each _ _ (fun i d hd => Chip.wf_dropLine s i d (Chip.wf_mk _ _ hd)) _ (Chip.wf_mk _ _ h)))

theorem Chip.wf_scrubBuf (c : Chip) (h : c.mem.wf = true) :
    (Chip.scrubBuf c).mem.wf = true := by
  unfold Chip.scrubBuf
  try dsimp -proj only
  repeat' split
  all_goals simp -proj +contextual (maxDischargeDepth := 12) only [h, Chip.wf_mk, Chip.wf_snd, Chip.wf_thd, Chip.wf_ite,
      Chip.wf_readCw, Chip.wf_dirCheck, Chip.wf_shown]

theorem Chip.wf_siteDrop (s why : Nat) (c : Chip) (h : c.mem.wf = true) :
    (Chip.siteDrop s why c).mem.wf = true := by
  unfold Chip.siteDrop
  try dsimp -proj only
  repeat' split
  all_goals simp -proj +contextual (maxDischargeDepth := 12) only [h, Chip.wf_mk, Chip.wf_snd, Chip.wf_thd, Chip.wf_ite,
      Chip.wf_dirDropSite]

theorem Chip.wf_consume (s pool flits : Nat) (f : Chip → Chip) (c : Chip) (hf : ∀ (d : Chip),
    d.mem.wf = true → (f d).mem.wf = true) (h : c.mem.wf = true) :
    (Chip.consume s pool flits f c).mem.wf = true := by
  unfold Chip.consume
  try dsimp -proj only
  repeat' split
  all_goals simp -proj +contextual (maxDischargeDepth := 12) only [h, hf, Chip.wf_mk, Chip.wf_snd, Chip.wf_thd,
      Chip.wf_ite, Chip.wf_siteDrop]

theorem Chip.wf_readLines (req sp : Nat) (a0 : Nat) (a1 : Nat) (c : Chip) (h : c.mem.wf = true) :
    (Chip.readLines req sp a0 a1 c).2.2.mem.wf = true := by
  induction a0 generalizing a1 c with
  | zero => (try unfold Chip.readLines); simp -proj only [h, Chip.wf_mk]
  | succ k ih =>
    unfold Chip.readLines
    dsimp -proj only
    repeat' split
    all_goals simp -proj +contextual (maxDischargeDepth := 12) only [ih, h, Chip.wf_mk, Chip.wf_snd, Chip.wf_thd,
        Chip.wf_ite, Chip.wf_read]

theorem Chip.wf_pumpStream (s id : Nat) (a0 : Nat) (c : Chip) (h : c.mem.wf = true) :
    (Chip.pumpStream s id a0 c).mem.wf = true := by
  induction a0 generalizing c with
  | zero => (try unfold Chip.pumpStream); simp -proj only [h, Chip.wf_mk]
  | succ k ih =>
    unfold Chip.pumpStream
    dsimp -proj only
    repeat' split
    all_goals simp -proj +contextual (maxDischargeDepth := 12) only [ih, h, Chip.wf_mk, Chip.wf_snd, Chip.wf_thd,
        Chip.wf_ite, Chip.wf_readLines]

theorem Chip.wf_pumpStreams (s : Nat) (c : Chip) (h : c.mem.wf = true) :
    (Chip.pumpStreams s c).mem.wf = true := by
  unfold Chip.pumpStreams
  refine Chip.wf_each _ _ (fun t d hd => ?_) _ (Chip.wf_mk _ _ h)
  split
  · exact Chip.wf_pumpStream _ _ _ _ (Chip.wf_mk _ _ hd)
  · exact (Chip.wf_mk _ _ hd)

theorem Chip.wf_takeCredit (s : Nat) (give : List Nat) (c : Chip) (h : c.mem.wf = true) :
    (Chip.takeCredit s give c).mem.wf = true := by
  unfold Chip.takeCredit
  try dsimp -proj only
  repeat' split
  all_goals simp -proj +contextual (maxDischargeDepth := 12) only [h, Chip.wf_mk, Chip.wf_snd, Chip.wf_thd, Chip.wf_ite,
      Chip.wf_pumpStreams]

theorem Chip.wf_siteRead (more : Bool) (s tag a : Nat) (c : Chip) (h : c.mem.wf = true) :
    (Chip.siteRead more s tag a c).mem.wf = true := by
  unfold Chip.siteRead
  try dsimp -proj only
  repeat' split
  all_goals simp -proj +contextual (maxDischargeDepth := 12) only [h, Chip.wf_mk, Chip.wf_snd, Chip.wf_thd, Chip.wf_ite,
      Chip.wf_ncRead, Chip.wf_read]

theorem Chip.wf_siteWrite (more : Bool) (s tag a mask : Nat) (line : List Byte) (c : Chip) (h : c.mem.wf = true) :
    (Chip.siteWrite more s tag a mask line c).mem.wf = true := by
  unfold Chip.siteWrite
  try dsimp -proj only
  repeat' split
  all_goals simp -proj +contextual (maxDischargeDepth := 12) only [h, Chip.wf_mk, Chip.wf_snd, Chip.wf_thd, Chip.wf_ite,
      Chip.wf_ncWrite, Chip.wf_writePieces]

theorem Chip.wf_serveEarly (s : Nat) (c : Chip) (h : c.mem.wf = true) :
    (Chip.serveEarly s c).mem.wf = true := by
  unfold Chip.serveEarly
  refine Chip.wf_each _ _ (fun r d hd => ?_) _ (Chip.wf_mk _ _ h)
  split
  · exact Chip.wf_siteWrite _ _ _ _ _ _ _ hd
  · exact Chip.wf_siteRead _ _ _ _ _ hd

theorem Chip.wf_cacheable (kind s tag a : Nat) (c : Chip) (h : c.mem.wf = true) :
    (Chip.cacheable kind s tag a c).mem.wf = true := by
  unfold Chip.cacheable
  try dsimp -proj only
  repeat' split
  all_goals simp -proj +contextual (maxDischargeDepth := 12) only [h, Chip.wf_mk, Chip.wf_snd, Chip.wf_thd, Chip.wf_ite,
      Chip.wf_dirGather]

theorem Chip.wf_install (s l : Nat) (line : List Byte) (c : Chip) (h : c.mem.wf = true) :
    (Chip.install s l line c).mem.wf = true := by
  unfold Chip.install
  try dsimp -proj only
  repeat' split
  all_goals simp -proj +contextual (maxDischargeDepth := 12) only [h, Chip.wf_mk, Chip.wf_snd, Chip.wf_thd, Chip.wf_ite,
      Chip.wf_write]

theorem Chip.wf_writeback (s tag a : Nat) (line : List Byte) (c : Chip) (h : c.mem.wf = true) :
    (Chip.writeback s tag a line c).mem.wf = true := by
  unfold Chip.writeback
  dsimp -proj only
  split
  · exact Chip.wf_mk _ _ h
  · split
    · exact Chip.wf_mk _ _ h
    · split
      · exact Chip.wf_shown _ (Chip.wf_install _ _ _ _ (Chip.wf_dirCheck _ _ _ (Chip.wf_mk _ _ h)))
      · exact Chip.wf_shown _ (Chip.wf_dirCheck _ _ _ (Chip.wf_mk _ _ h))

theorem Chip.wf_recallAnswer (s a : Nat) (line : List Byte) (c : Chip) (h : c.mem.wf = true) :
    (Chip.recallAnswer s a line c).mem.wf = true := by
  unfold Chip.recallAnswer
  dsimp -proj only
  split
  · exact Chip.wf_shown _ (Chip.wf_dirAnswered _ _ _ (Chip.wf_install _ _ _ _ (Chip.wf_mk _ _ h)))
  · exact Chip.wf_mk _ _ h

theorem Chip.wf_openAck (s tag status : Nat) (c : Chip) (h : c.mem.wf = true) :
    (Chip.openAck s tag status c).mem.wf = true := by
  unfold Chip.openAck
  try dsimp -proj only
  repeat' split
  all_goals simp -proj +contextual (maxDischargeDepth := 12) only [h, Chip.wf_mk, Chip.wf_snd, Chip.wf_thd, Chip.wf_ite,
      Chip.wf_pumpStream]

theorem Chip.wf_takeRun (s id offset : Nat) (data : List Byte) (c : Chip) (h : c.mem.wf = true) :
    (Chip.takeRun s id offset data c).mem.wf = true := by
  unfold Chip.takeRun
  try dsimp -proj only
  repeat' split
  all_goals simp -proj +contextual (maxDischargeDepth := 12) only [h, Chip.wf_mk, Chip.wf_snd, Chip.wf_thd, Chip.wf_ite,
      Chip.wf_siteDrop, Chip.wf_writePieces]

theorem Chip.wf_sendAllow (s allow rise epoch : Nat) (c : Chip) (h : c.mem.wf = true) :
    (Chip.sendAllow s allow rise epoch c).mem.wf = true := by
  unfold Chip.sendAllow
  try dsimp -proj only
  repeat' split
  all_goals simp -proj +contextual (maxDischargeDepth := 12) only [h, Chip.wf_mk, Chip.wf_snd, Chip.wf_thd, Chip.wf_ite,
      Chip.wf_siteDrop]

theorem Chip.wf_moduleFail (s p cause : Nat) (c : Chip) (h : c.mem.wf = true) :
    (Chip.moduleFail s p cause c).mem.wf = true := by
  unfold Chip.moduleFail
  extract_lets g
  clear_value g
  split
  · exact h
  · split
    · exact Chip.wf_mk _ _ h
    · split
      · exact h
      · split
        · exact Chip.wf_siteDrop _ _ _ (Chip.wf_mk _ _ h)
        · exact Chip.wf_mk _ _ h

theorem Chip.wf_replay (s p e : Nat) (c : Chip) (h : c.mem.wf = true) :
    (Chip.replay s p e c).mem.wf = true := by
  unfold Chip.replay
  try dsimp -proj only
  repeat' split
  all_goals simp -proj +contextual (maxDischargeDepth := 12) only [h, Chip.wf_mk, Chip.wf_snd, Chip.wf_thd, Chip.wf_ite,
      Chip.wf_moduleFail, Chip.wf_each]

theorem Chip.wf_ackEntry (s p : Nat) (e : Nat × Nat) (c : Chip) (h : c.mem.wf = true) :
    (Chip.ackEntry s p e c).mem.wf = true := by
  unfold Chip.ackEntry
  try dsimp -proj only
  repeat' split
  all_goals simp -proj +contextual (maxDischargeDepth := 12) only [h, Chip.wf_mk, Chip.wf_snd, Chip.wf_thd, Chip.wf_ite,
      Chip.wf_replay]

theorem Chip.wf_takeAck (s first mset : Nat) (entries : List (Nat × Nat)) (c : Chip) (h : c.mem.wf = true) :
    (Chip.takeAck s first mset entries c).mem.wf = true := by
  unfold Chip.takeAck
  dsimp -proj only
  split
  · exact Chip.wf_mk _ _ h
  · refine Chip.wf_each _ _ (fun e d hd => ?_) _ (Chip.wf_mk _ _ h)
    split
    · exact Chip.wf_ackEntry _ _ _ _ (Chip.wf_mk _ _ hd)
    · exact (Chip.wf_mk _ _ hd)

theorem Chip.wf_freshDropReq (s p mset xr cause : Nat) (c : Chip) (h : c.mem.wf = true) :
    (Chip.freshDropReq s p mset xr cause c).mem.wf = true := by
  unfold Chip.freshDropReq
  try dsimp -proj only
  repeat' split
  all_goals simp -proj +contextual (maxDischargeDepth := 12) only [h, Chip.wf_mk, Chip.wf_snd, Chip.wf_thd, Chip.wf_ite,
      Chip.wf_siteDrop]

theorem Chip.wf_takeDropReq (s p mset xr cause : Nat) (c : Chip) (h : c.mem.wf = true) :
    (Chip.takeDropReq s p mset xr cause c).mem.wf = true := by
  unfold Chip.takeDropReq
  try dsimp -proj only
  repeat' split
  all_goals simp -proj +contextual (maxDischargeDepth := 12) only [h, Chip.wf_mk, Chip.wf_snd, Chip.wf_thd, Chip.wf_ite,
      Chip.wf_freshDropReq]

theorem Chip.wf_readList (req : Nat) (d : Desc) (host : List Byte) (c : Chip) (h : c.mem.wf = true) :
    (Chip.readList req d host c).2.mem.wf = true := by
  unfold Chip.readList
  try dsimp -proj only
  repeat' split
  all_goals simp -proj +contextual (maxDischargeDepth := 12) only [h, Chip.wf_mk, Chip.wf_snd, Chip.wf_thd, Chip.wf_ite,
      Chip.wf_probe, Chip.wf_shown, Chip.wf_read]

theorem Chip.wf_fetchList (n id : Nat) (host : List Byte) (c : Chip) (h : c.mem.wf = true) :
    (Chip.fetchList n id host c).2.mem.wf = true := by
  unfold Chip.fetchList
  dsimp -proj only
  split
  · exact Chip.wf_mk _ _ h
  · split
    · exact Chip.wf_mk _ _ h
    · split
      · rename_i e; have hw := Chip.wf_of_pair e (Chip.wf_readList _ _ _ _ (Chip.wf_mk _ _ h)); exact (Chip.wf_mk _ _ hw)
      · rename_i e; have hw := Chip.wf_of_pair e (Chip.wf_readList _ _ _ _ (Chip.wf_mk _ _ h)); exact (Chip.wf_mk _ _ hw)
      · rename_i e; have hw := Chip.wf_of_pair e (Chip.wf_readList _ _ _ _ (Chip.wf_mk _ _ h)); split <;> exact (Chip.wf_mk _ _ hw)

theorem Chip.wf_readPiece (req fn a n : Nat) (host : List Byte) (c : Chip) (h : c.mem.wf = true) :
    (Chip.readPiece req fn a n host c).2.mem.wf = true := by
  unfold Chip.readPiece
  try dsimp -proj only
  repeat' split
  all_goals simp -proj +contextual (maxDischargeDepth := 12) only [h, Chip.wf_mk, Chip.wf_snd, Chip.wf_thd, Chip.wf_ite,
      Chip.wf_probe, Chip.wf_shown, Chip.wf_read]

theorem Chip.wf_readSource (req : Nat) (a0 : Nat) (a1 : Nat) (a2 : Nat) (c : Chip) (h : c.mem.wf = true) :
    (Chip.readSource req a0 a1 a2 c).2.mem.wf = true := by
  induction a0 generalizing a1 a2 c with
  | zero => (try unfold Chip.readSource); simp -proj only [h, Chip.wf_mk]
  | succ k ih =>
    unfold Chip.readSource
    dsimp -proj only
    repeat' split
    all_goals simp -proj +contextual (maxDischargeDepth := 12) only [ih, h, Chip.wf_mk, Chip.wf_snd, Chip.wf_thd,
        Chip.wf_ite, Chip.wf_read]

theorem Chip.wf_writePiece (req fn a : Nat) (bs : List Byte) (c : Chip) (h : c.mem.wf = true) :
    (Chip.writePiece req fn a bs c).2.mem.wf = true := by
  unfold Chip.writePiece
  try dsimp -proj only
  repeat' split
  all_goals simp -proj +contextual (maxDischargeDepth := 12) only [h, Chip.wf_mk, Chip.wf_snd, Chip.wf_thd, Chip.wf_ite,
      Chip.wf_probe, Chip.wf_shown, Chip.wf_writePieces]

theorem Chip.wf_moveOne (n : Nat) (d : Desc) (k : Nat) (host : List Byte) (c : Chip) (h : c.mem.wf = true) :
    (Chip.moveOne n d k host c).2.2.mem.wf = true := by
  unfold Chip.moveOne
  extract_lets left fn req dst stopAt
  clear_value left fn req dst stopAt
  by_cases h0 : left = 0
  · rw [if_pos h0]; exact h
  rw [if_neg h0]
  by_cases h1 : d.stop = true ∧ k % 4096 = 0
  · rw [if_pos h1]; exact h
  rw [if_neg h1]
  by_cases h3 : d.overlaps = true ∧ d.snap = none
  · rw [if_pos h3]; exact h
  rw [if_neg h3]
  by_cases h2 : dOp d.bytes = 2
  · rw [if_pos h2]
    exact Chip.wf_writePiece _ _ _ _ _ h
  rw [if_neg h2]
  split
  · split
    · exact h
    · exact Chip.wf_writePiece _ _ _ _ _ h
  · split
    · rename_i e; exact Chip.wf_of_pair e (Chip.wf_readPiece _ _ _ _ _ _ h)
    · rename_i e; exact Chip.wf_of_pair e (Chip.wf_readPiece _ _ _ _ _ _ h)
    · rename_i e
      have hw := Chip.wf_of_pair e (Chip.wf_readPiece _ _ _ _ _ _ h)
      exact Chip.wf_writePiece _ _ _ _ _ hw

theorem Chip.wf_moves (n id : Nat) (a0 : Nat) (a1 : List Byte) (c : Chip) (h : c.mem.wf = true) :
    (Chip.moves n id a0 a1 c).mem.wf = true := by
  induction a0 generalizing a1 c with
  | zero => exact Chip.wf_mk _ _ h
  | succ k ih =>
    unfold Chip.moves
    dsimp -proj only
    split
    · exact Chip.wf_mk _ _ h
    · split
      · exact Chip.wf_mk _ _ h
      · split
        · rename_i e; have hw := Chip.wf_of_triple e (Chip.wf_moveOne _ _ _ _ _ (Chip.wf_mk _ _ h)); exact (Chip.wf_mk _ _ hw)
        · rename_i e; have hw := Chip.wf_of_triple e (Chip.wf_moveOne _ _ _ _ _ (Chip.wf_mk _ _ h)); exact (Chip.wf_mk _ _ hw)
        · rename_i e; have hw := Chip.wf_of_triple e (Chip.wf_moveOne _ _ _ _ _ (Chip.wf_mk _ _ h)); exact ih _ _ (Chip.wf_mk _ _ hw)

theorem Chip.wf_beginMove (n : Nat) (d : Desc) (c : Chip) (h : c.mem.wf = true) :
    (Chip.beginMove n d c).mem.wf = true := by
  unfold Chip.beginMove
  try dsimp -proj only
  repeat' split
  all_goals simp -proj +contextual (maxDischargeDepth := 12) only [h, Chip.wf_mk, Chip.wf_snd, Chip.wf_thd, Chip.wf_ite]

theorem Chip.wf_takeSnap (n id : Nat) (host : List Byte) (c : Chip) (h : c.mem.wf = true) :
    (Chip.takeSnap n id host c).2.mem.wf = true := by
  unfold Chip.takeSnap
  try dsimp -proj only
  repeat' split
  all_goals simp -proj +contextual (maxDischargeDepth := 12) only [h, Chip.wf_mk, Chip.wf_snd, Chip.wf_thd, Chip.wf_ite,
      Chip.wf_probe, Chip.wf_shown, Chip.wf_readSource]

theorem Chip.wf_goOn (n id k : Nat) (host : List Byte) (c : Chip) (h : c.mem.wf = true) :
    (Chip.goOn n id k host c).mem.wf = true := by
  unfold Chip.goOn
  try dsimp -proj only
  repeat' split
  all_goals simp -proj +contextual (maxDischargeDepth := 12) only [h, Chip.wf_mk, Chip.wf_snd, Chip.wf_thd, Chip.wf_ite,
      Chip.wf_takeSnap, Chip.wf_moves]

theorem Chip.wf_mover (op n id limit : Nat) (host : List Byte) (c : Chip) (h : c.mem.wf = true) :
    (Chip.mover op n id limit host c).mem.wf = true := by
  unfold Chip.mover
  split
  · exact h
  · split
    · exact h
    · dsimp -proj only
      have hf := Chip.wf_fetchList n id host c h
      split
      · exact Chip.wf_mk _ _ hf
      · refine Chip.wf_goOn _ _ _ _ _ (Chip.wf_ite _ _ _ (Chip.wf_mk _ _ hf)
          (Chip.wf_beginMove _ _ _ (Chip.wf_mk _ _ hf)))

theorem Chip.wf_laneRead (r a n : Nat) (host : List Byte) (c : Chip) (h : c.mem.wf = true) :
    (Chip.laneRead r a n host c).2.mem.wf = true := by
  unfold Chip.laneRead
  try dsimp -proj only
  repeat' split
  all_goals simp -proj +contextual (maxDischargeDepth := 12) only [h, Chip.wf_mk, Chip.wf_snd, Chip.wf_thd, Chip.wf_ite,
      Chip.wf_probe, Chip.wf_shown, Chip.wf_read]

theorem Chip.wf_drainTo (req sp : Nat) (a0 : List Nat) (a1 : Nat) (a2 : List Byte) (c : Chip) (h : c.mem.wf = true) :
    (Chip.drainTo req sp a0 a1 a2 c).chip.mem.wf = true := by
  induction a0 generalizing a1 a2 c with
  | nil => exact Chip.wf_writePieces _ _ _ _ h
  | cons q l ih =>
    cases l with
    | nil => exact Chip.wf_writePiecesAs _ _ _ _ _ h
    | cons r l => exact ih _ _ _ (Chip.wf_writePiecesAs _ _ _ _ _ h)

theorem Chip.wf_laneWrite (quads : List Nat) (r a : Nat) (bs : List Byte) (c : Chip) (h : c.mem.wf = true) :
    (Chip.laneWrite quads r a bs c).2.mem.wf = true := by
  unfold Chip.laneWrite
  try dsimp -proj only
  repeat' split
  all_goals simp -proj +contextual (maxDischargeDepth := 12) only [h, Chip.wf_mk, Chip.wf_snd, Chip.wf_thd, Chip.wf_ite,
      Chip.wf_probe, Chip.wf_shown, Chip.wf_drainTo]

theorem Chip.wf_ethDrain (p : Nat) (a0 : Nat) (c : Chip) (h : c.mem.wf = true) :
    (Chip.ethDrain p a0 c).mem.wf = true := by
  induction a0 generalizing c with
  | zero => exact Chip.wf_mk _ _ h
  | succ k ih =>
    unfold Chip.ethDrain
    dsimp -proj only
    split
    · split
      · exact ih _ (Chip.wf_mk _ _ h)
      · split
        · exact ih _ (Chip.wf_mk _ _ h)
        · split
          · rename_i e; have hw := Chip.wf_of_pair e (Chip.wf_laneWrite _ _ _ _ _ (Chip.wf_mk _ _ h)); exact (Chip.wf_mk _ _ hw)
          · rename_i e; have hw := Chip.wf_of_pair e (Chip.wf_laneWrite _ _ _ _ _ (Chip.wf_mk _ _ h)); exact ih _ (Chip.wf_mk _ _ hw)
          · rename_i e; have hw := Chip.wf_of_pair e (Chip.wf_laneWrite _ _ _ _ _ (Chip.wf_mk _ _ h)); exact ih _ (Chip.wf_mk _ _ hw)
    · exact Chip.wf_mk _ _ h

theorem Chip.wf_rawDrain (p : Nat) (a0 : Nat) (c : Chip) (h : c.mem.wf = true) :
    (Chip.rawDrain p a0 c).mem.wf = true := by
  induction a0 generalizing c with
  | zero => exact h
  | succ k ih =>
    unfold Chip.rawDrain
    split
    · split
      · exact ih _ (Chip.wf_mk _ _ h)
      · extract_lets time
        clear_value time
        split
        · rename_i e; exact Chip.wf_of_pair e (Chip.wf_laneWrite _ _ _ _ _ h)
        · rename_i e; exact ih _ (Chip.wf_mk _ _ (Chip.wf_of_pair e (Chip.wf_laneWrite _ _ _ _ _ h)))
        · rename_i e
          have hw := Chip.wf_of_pair e (Chip.wf_laneWrite _ _ _ _ _ h)
          extract_lets g1 g2 q
          split
          · exact ih _ (Chip.wf_mk _ _ hw)
          · have hq : q.2.mem.wf = true := by
              unfold q
              split
              · exact Chip.wf_laneWrite _ _ _ _ _ (Chip.wf_mk _ _ hw)
              · exact Chip.wf_snd _ _ (Chip.wf_mk _ _ hw)
            exact Chip.wf_mk _ _ hq
    · exact h

theorem Chip.wf_crewEnd (quads : List Nat) (r : Recv) (d : Desc) (src len : Nat) (trunc : Bool) (c : Chip)
    (h : c.mem.wf = true) :
    (Chip.crewEnd quads r d src len trunc c).mem.wf = true := by
  unfold Chip.crewEnd
  try dsimp -proj only
  repeat' split
  all_goals simp -proj +contextual (maxDischargeDepth := 12) only [h, Chip.wf_mk, Chip.wf_snd, Chip.wf_thd, Chip.wf_ite,
      Chip.wf_laneWrite]

theorem Chip.wf_crewDeliver (p : Nat) (f : RxHeld) (c : Chip) (h : c.mem.wf = true) :
    (Chip.crewDeliver p f c).2.mem.wf = true := by
  unfold Chip.crewDeliver
  extract_lets g
  clear_value g
  have hl := fun q r a bs => Chip.wf_laneWrite q r a bs ⟨g, c.mem⟩ h
  dsimp -proj only
  split
  · exact Chip.wf_mk _ _ h
  · split
    · exact Chip.wf_mk _ _ h
    · split
      · rename_i e
        have hw := Chip.wf_of_pair e (hl _ _ _ _)
        exact Chip.wf_snd _ _ hw
      · rename_i e
        have hw := Chip.wf_of_pair e (hl _ _ _ _)
        exact Chip.wf_mk _ _ hw
      · rename_i e; have hw := Chip.wf_of_pair e (hl _ _ _ _)
        split
        · exact Chip.wf_mk _ _ hw
        · split
          · exact Chip.wf_crewEnd _ _ _ _ _ _ _ (Chip.wf_mk _ _ hw)
          · exact Chip.wf_mk _ _ hw

theorem Chip.wf_crewDrain (p : Nat) (a0 : List RxHeld) (a1 : List Nat) (c : Chip) (h : c.mem.wf = true) :
    (Chip.crewDrain p a0 a1 c).mem.wf = true := by
  induction a0 generalizing a1 c with
  | nil => (try unfold Chip.crewDrain); simp -proj only [h, Chip.wf_mk]
  | cons e l ih =>
    unfold Chip.crewDrain
    dsimp -proj only
    repeat' split
    all_goals simp -proj +contextual (maxDischargeDepth := 12) only [ih, h, Chip.wf_mk, Chip.wf_snd, Chip.wf_thd,
        Chip.wf_ite, Chip.wf_crewDeliver]

theorem Chip.wf_portDrain (p : Nat) (c : Chip) (h : c.mem.wf = true) :
    (Chip.portDrain p c).mem.wf = true := by
  unfold Chip.portDrain
  try dsimp -proj only
  repeat' split
  all_goals simp -proj +contextual (maxDischargeDepth := 12) only [h, Chip.wf_mk, Chip.wf_snd, Chip.wf_thd, Chip.wf_ite,
      Chip.wf_ethDrain, Chip.wf_rawDrain, Chip.wf_crewDrain]

theorem Chip.wf_crewDrainAll (c : Chip) (h : c.mem.wf = true) :
    (Chip.crewDrainAll c).mem.wf = true := by
  unfold Chip.crewDrainAll
  refine Chip.wf_each _ _ (fun p d hd => ?_) _ (Chip.wf_mk _ _ h)
  split
  · exact Chip.wf_portDrain _ _ (Chip.wf_mk _ _ hd)
  · exact (Chip.wf_mk _ _ hd)

theorem Chip.wf_crewSend (n id p : Nat) (a0 : Nat) (a1 : List Byte) (c : Chip) (h : c.mem.wf = true) :
    (Chip.crewSend n id p a0 a1 c).mem.wf = true := by
  induction a0 generalizing a1 c with
  | zero => exact Chip.wf_mk _ _ h
  | succ k ih =>
    unfold Chip.crewSend
    dsimp -proj only
    split
    · exact Chip.wf_mk _ _ h
    · split
      · exact Chip.wf_mk _ _ h
      · split
        · rename_i e; have hw := Chip.wf_of_pair e (Chip.wf_laneRead _ _ _ _ _ (Chip.wf_mk _ _ h)); exact (Chip.wf_mk _ _ hw)
        · rename_i e; have hw := Chip.wf_of_pair e (Chip.wf_laneRead _ _ _ _ _ (Chip.wf_mk _ _ h)); exact (Chip.wf_mk _ _ hw)
        · rename_i e; have hw := Chip.wf_of_pair e (Chip.wf_laneRead _ _ _ _ _ (Chip.wf_mk _ _ h)); exact ih _ _ (Chip.wf_mk _ _ hw)

theorem Chip.wf_sendGo (n : Nat) (d : Desc) (limit : Nat) (host : List Byte) (c : Chip) (h : c.mem.wf = true) :
    (Chip.sendGo n d limit host c).mem.wf = true := by
  unfold Chip.sendGo
  dsimp -proj only
  split
  · exact Chip.wf_mk _ _ h
  · split
    · exact Chip.wf_crewSend _ _ _ _ _ _ (Chip.wf_mk _ _ h)
    · split
      · exact Chip.wf_mk _ _ h
      · split
        · rename_i e; have hw := Chip.wf_of_pair e (Chip.wf_laneRead _ _ _ _ _ (Chip.wf_mk _ _ h)); exact (Chip.wf_mk _ _ hw)
        · rename_i e; have hw := Chip.wf_of_pair e (Chip.wf_laneRead _ _ _ _ _ (Chip.wf_mk _ _ h)); exact (Chip.wf_mk _ _ hw)
        · rename_i e; have hw := Chip.wf_of_pair e (Chip.wf_laneRead _ _ _ _ _ (Chip.wf_mk _ _ h))
          split <;> exact (Chip.wf_mk _ _ hw)

theorem Chip.wf_sparProbe (k : Nat) (write : Bool) (l : List (Nat × Nat)) (c : Chip) (h : c.mem.wf = true) :
    (Chip.sparProbe k write l c).mem.wf = true := by
  unfold Chip.sparProbe
  exact Chip.wf_shown _ (Chip.wf_each _ _ (fun e d hd => Chip.wf_probe _ _ _ _ _ (Chip.wf_mk _ _ hd)) _ (Chip.wf_mk _ _ h))

theorem Chip.wf_sparRead (k : Nat) (e : Nat × Nat) (c : Chip) (h : c.mem.wf = true) :
    (Chip.sparRead k e c).2.mem.wf = true := by
  unfold Chip.sparRead
  try dsimp -proj only
  repeat' split
  all_goals simp -proj +contextual (maxDischargeDepth := 12) only [h, Chip.wf_mk, Chip.wf_snd, Chip.wf_thd, Chip.wf_ite,
      Chip.wf_read]

theorem Chip.wf_sparReads (k : Nat) (a0 : List (Nat × Nat)) (c : Chip) (h : c.mem.wf = true) :
    (Chip.sparReads k a0 c).2.mem.wf = true := by
  induction a0 generalizing c with
  | nil => (try unfold Chip.sparReads); simp -proj only [h, Chip.wf_mk]
  | cons e l ih =>
    unfold Chip.sparReads
    dsimp -proj only
    repeat' split
    all_goals simp -proj +contextual (maxDischargeDepth := 12) only [ih, h, Chip.wf_mk, Chip.wf_snd, Chip.wf_thd,
        Chip.wf_ite, Chip.wf_sparRead]

theorem Chip.wf_sparWrite (k a : Nat) (bs : List Byte) (c : Chip) (h : c.mem.wf = true) :
    (Chip.sparWrite k a bs c).chip.mem.wf = true := by
  unfold Chip.sparWrite
  split
  · exact Chip.wf_ncWrite _ _ _ _ _ _ _ _ h
  · exact Chip.wf_writePieces _ _ _ _ h

theorem Chip.wf_runOver (k : Nat) (o : SparOp) (e : RunEnd) (out : Option (List Byte)) (extra : Nat) (c : Chip)
    (h : c.mem.wf = true) :
    (Chip.runOver k o e out extra c).mem.wf = true := by
  unfold Chip.runOver
  split
  · exact Chip.wf_mk _ _ h
  · extract_lets w e1 w2 e2 c2 h1 h2
    have hc1 : w.chip.mem.wf = true := by
      unfold w
      split
      · exact h
      · exact Chip.wf_sparWrite _ _ _ _ h
    clear_value h2
    exact Chip.wf_mk _ _ (Chip.wf_sparWrite _ _ _ _ hc1)

theorem Chip.wf_storeLost (k : Nat) (o : SparOp) (c : Chip) (h : c.mem.wf = true) :
    (Chip.storeLost k o c).mem.wf = true := by
  unfold Chip.storeLost
  try dsimp -proj only
  repeat' split
  all_goals simp -proj +contextual (maxDischargeDepth := 12) only [h, Chip.wf_mk, Chip.wf_snd, Chip.wf_thd, Chip.wf_ite]

theorem Chip.wf_setupBegin (k : Nat) (o : SparOp) (d : Desc) (c : Chip) (h : c.mem.wf = true) :
    (Chip.setupBegin k o d c).mem.wf = true := by
  unfold Chip.setupBegin
  dsimp -proj only
  split
  · exact Chip.wf_sparProbe _ _ _ _ (Chip.wf_mk _ _ h)
  · split
    · rename_i e; have hw := Chip.wf_of_pair e (Chip.wf_sparRead _ _ _ (Chip.wf_mk _ _ h)); exact (Chip.wf_mk _ _ hw)
    · rename_i e; have hw := Chip.wf_of_pair e (Chip.wf_sparRead _ _ _ (Chip.wf_mk _ _ h)); split <;> exact (Chip.wf_mk _ _ hw)

theorem Chip.wf_setupEnd (k : Nat) (o : SparOp) (m : Nat) (b : List Byte) (c : Chip) (h : c.mem.wf = true) :
    (Chip.setupEnd k o m b c).mem.wf = true := by
  unfold Chip.setupEnd
  dsimp -proj only
  split
  · exact Chip.wf_sparProbe _ _ _ _ h
  · split
    · exact Chip.wf_sparProbe _ _ _ _ h
    · split
      · rename_i e; exact Chip.wf_mk _ _ (Chip.wf_of_pair e (Chip.wf_sparReads _ _ _ h))
      · rename_i e
        have hw := Chip.wf_of_pair e (Chip.wf_sparReads _ _ _ h)
        split
        · exact Chip.wf_mk _ _ hw
        · split
          · exact Chip.wf_mk _ _ hw
          · split
            · exact Chip.wf_mk _ _ hw
            · exact Chip.wf_ite _ _ _ (Chip.wf_storeLost _ _ _ (Chip.wf_sparWrite _ _ _ _ (Chip.wf_mk _ _ hw)))
                (Chip.wf_mk _ _ (Chip.wf_sparWrite _ _ _ _ (Chip.wf_mk _ _ hw)))

theorem Chip.wf_patchGo (k : Nat) (o : SparOp) (d : Desc) (c : Chip) (h : c.mem.wf = true) :
    (Chip.patchGo k o d c).mem.wf = true := by
  unfold Chip.patchGo
  dsimp -proj only
  split
  · exact Chip.wf_mk _ _ h
  · split
    · exact Chip.wf_sparProbe _ _ _ _ h
    · split
      · rename_i e; exact Chip.wf_mk _ _ (Chip.wf_of_pair e (Chip.wf_sparRead _ _ _ h))
      · rename_i e
        have hw := Chip.wf_of_pair e (Chip.wf_sparRead _ _ _ h)
        split
        · exact Chip.wf_mk _ _ hw
        · split
          · exact Chip.wf_sparProbe _ _ _ _ hw
          · exact Chip.wf_ite _ _ _ (Chip.wf_storeLost _ _ _ (Chip.wf_sparWrite _ _ _ _ (Chip.wf_mk _ _ hw)))
              (Chip.wf_mk _ _ (Chip.wf_sparWrite _ _ _ _ (Chip.wf_mk _ _ hw)))

theorem Chip.wf_runSolve (k : Nat) (o : SparOp) (r : RunRec) (rhs : List Byte) (c : Chip) (h : c.mem.wf = true) :
    (Chip.runSolve k o r rhs c).mem.wf = true := by
  unfold Chip.runSolve
  try dsimp -proj only
  repeat' split
  all_goals simp -proj +contextual (maxDischargeDepth := 12) only [h, Chip.wf_mk, Chip.wf_snd, Chip.wf_thd, Chip.wf_ite,
      Chip.wf_runOver]

theorem Chip.wf_runFinish (k : Nat) (o : SparOp) (r : RunRec) (c : Chip) (h : c.mem.wf = true) :
    (Chip.runFinish k o r c).mem.wf = true := by
  unfold Chip.runFinish
  dsimp -proj only
  split
  · exact Chip.wf_sparProbe _ _ _ _ (Chip.wf_mk _ _ h)
  · split
    · exact Chip.wf_sparProbe _ _ _ _ (Chip.wf_mk _ _ h)
    · have hb := Chip.wf_sparRead k ((c.hub.ctx k).store, (c.hub.ctx k).storeUse) _
        (Chip.wf_sparReads k (((c.hub.ctx k).runRanges r).take 2) c (Chip.wf_mk _ _ h))
      split
      · exact Chip.wf_runSolve _ _ _ _ _ (Chip.wf_mk _ _ hb)
      · exact Chip.wf_runOver _ _ _ _ _ _ (Chip.wf_mk _ _ hb)
      · split <;> exact Chip.wf_runOver _ _ _ _ _ _ (Chip.wf_mk _ _ hb)

theorem Chip.wf_runCut (k : Nat) (o : SparOp) (r : RunRec) (status : Nat) (c : Chip) (h : c.mem.wf = true) :
    (Chip.runCut k o r status c).mem.wf = true := by
  unfold Chip.runCut
  try dsimp -proj only
  repeat' split
  all_goals simp -proj +contextual (maxDischargeDepth := 12) only [h, Chip.wf_mk, Chip.wf_snd, Chip.wf_thd, Chip.wf_ite,
      Chip.wf_runOver]

theorem Chip.wf_runBest (k : Nat) (o : SparOp) (r : RunRec) (c : Chip) (h : c.mem.wf = true) :
    (Chip.runBest k o r c).mem.wf = true := by
  unfold Chip.runBest
  try dsimp -proj only
  repeat' split
  all_goals simp -proj +contextual (maxDischargeDepth := 12) only [h, Chip.wf_mk, Chip.wf_snd, Chip.wf_thd, Chip.wf_ite,
      Chip.wf_runOver]

theorem Chip.wf_runBegin (k : Nat) (o : SparOp) (d : Desc) (r : RunRec) (c : Chip) (h : c.mem.wf = true) :
    (Chip.runBegin k o d r c).mem.wf = true := by
  unfold Chip.runBegin
  try dsimp -proj only
  repeat' split
  all_goals simp -proj +contextual (maxDischargeDepth := 12) only [h, Chip.wf_mk, Chip.wf_snd, Chip.wf_thd, Chip.wf_ite,
      Chip.wf_runOver]

theorem Chip.wf_opBegin (k : Nat) (o : SparOp) (c : Chip) (h : c.mem.wf = true) :
    (Chip.opBegin k o c).mem.wf = true := by
  unfold Chip.opBegin
  try dsimp -proj only
  repeat' split
  all_goals simp -proj +contextual (maxDischargeDepth := 12) only [h, Chip.wf_mk, Chip.wf_snd, Chip.wf_thd, Chip.wf_ite,
      Chip.wf_setupBegin, Chip.wf_patchGo, Chip.wf_runBegin]

theorem Chip.wf_sparServe (a0 : Nat) (c : Chip) (h : c.mem.wf = true) :
    (Chip.sparServe a0 c).mem.wf = true := by
  induction a0 generalizing c with
  | zero => exact Chip.wf_mk _ _ h
  | succ n ih =>
    unfold Chip.sparServe
    split
    · exact Chip.wf_mk _ _ h
    · split
      · exact Chip.wf_mk _ _ h
      · exact ih _ (Chip.wf_opBegin _ _ _ (Chip.wf_mk _ _ h))

theorem Chip.wf_sparGo (c : Chip) (h : c.mem.wf = true) :
    (Chip.sparGo c).mem.wf = true := by
  unfold Chip.sparGo
  try dsimp -proj only
  repeat' split
  all_goals simp -proj +contextual (maxDischargeDepth := 12) only [h, Chip.wf_mk, Chip.wf_snd, Chip.wf_thd, Chip.wf_ite,
      Chip.wf_sparServe]

theorem Chip.wf_supersede (k : Nat) (new : SparOp) (c : Chip) (h : c.mem.wf = true) :
    (Chip.supersede k new c).mem.wf = true := by
  unfold Chip.supersede
  dsimp -proj only
  split
  · exact Chip.wf_mk _ _ h
  · split
    · exact Chip.wf_mk _ _ h
    · refine Chip.wf_each _ _ (fun p d hd => ?_) _ (Chip.wf_mk _ _ h)
      split
      · exact (Chip.wf_mk _ _ hd)
      · split
        · exact Chip.wf_runCut _ _ _ _ _ (Chip.wf_mk _ _ hd)
        · exact Chip.wf_runOver _ _ _ _ _ _ (Chip.wf_mk _ _ hd)

theorem Chip.wf_sparEnter (n : Nat) (d : Desc) (run : Option RunRec) (c : Chip) (h : c.mem.wf = true) :
    (Chip.sparEnter n d run c).mem.wf = true := by
  unfold Chip.sparEnter
  try dsimp -proj only
  repeat' split
  all_goals simp -proj +contextual (maxDischargeDepth := 12) only [h, Chip.wf_mk, Chip.wf_snd, Chip.wf_thd, Chip.wf_ite,
      Chip.wf_supersede, Chip.wf_sparGo]

theorem Chip.wf_fetchRun (n : Nat) (d : Desc) (c : Chip) (h : c.mem.wf = true) :
    (Chip.fetchRun n d c).2.mem.wf = true := by
  unfold Chip.fetchRun
  dsimp -proj only
  split
  · exact Chip.wf_sparProbe _ _ _ _ (Chip.wf_mk _ _ h)
  · split
    · rename_i e; have hw := Chip.wf_of_pair e (Chip.wf_sparRead _ _ _ (Chip.wf_mk _ _ h)); exact (Chip.wf_mk _ _ hw)
    · rename_i e; have hw := Chip.wf_of_pair e (Chip.wf_sparRead _ _ _ (Chip.wf_mk _ _ h)); split <;> exact (Chip.wf_mk _ _ hw)

theorem Chip.wf_sparStep (n id k : Nat) (c : Chip) (h : c.mem.wf = true) :
    (Chip.sparStep n id k c).mem.wf = true := by
  unfold Chip.sparStep
  try dsimp -proj only
  repeat' split
  all_goals simp -proj +contextual (maxDischargeDepth := 12) only [h, Chip.wf_mk, Chip.wf_snd, Chip.wf_thd, Chip.wf_ite,
      Chip.wf_setupBegin, Chip.wf_setupEnd, Chip.wf_patchGo, Chip.wf_runFinish]

theorem Chip.wf_solver (op n id : Nat) (c : Chip) (h : c.mem.wf = true) :
    (Chip.solver op n id c).mem.wf = true := by
  unfold Chip.solver
  dsimp -proj only
  generalize hg : c.hub.consider op n id = g
  clear hg
  split
  · exact Chip.wf_mk _ _ h
  · split
    · exact Chip.wf_mk _ _ h
    · split
      · exact Chip.wf_sparGo _ (Chip.wf_sparStep _ _ _ _ (Chip.wf_mk _ _ h))
      · split
        · exact Chip.wf_mk _ _ h
        · split
          · split
            · rename_i e; have hw := Chip.wf_of_pair e (Chip.wf_fetchRun _ _ _ (Chip.wf_mk _ _ h)); exact (Chip.wf_mk _ _ hw)
            · rename_i e; have hw := Chip.wf_of_pair e (Chip.wf_fetchRun _ _ _ (Chip.wf_mk _ _ h))
              split
              · exact (Chip.wf_mk _ _ hw)
              · exact Chip.wf_sparEnter _ _ _ _ (Chip.wf_mk _ _ hw)
          · split
            · exact Chip.wf_mk _ _ h
            · exact Chip.wf_sparEnter _ _ _ _ (Chip.wf_mk _ _ h)

theorem Chip.wf_sparDeadline (n id : Nat) (strict : Bool) (c : Chip) (h : c.mem.wf = true) :
    (Chip.sparDeadline n id strict c).mem.wf = true := by
  unfold Chip.sparDeadline
  try dsimp -proj only
  repeat' split
  all_goals simp -proj +contextual (maxDischargeDepth := 12) only [h, Chip.wf_mk, Chip.wf_snd, Chip.wf_thd, Chip.wf_ite,
      Chip.wf_sparGo, Chip.wf_runCut, Chip.wf_runBest, Chip.wf_runOver]

theorem Chip.wf_sparDropRing (n : Nat) (c : Chip) (h : c.mem.wf = true) :
    (Chip.sparDropRing n c).mem.wf = true := by
  unfold Chip.sparDropRing
  try dsimp -proj only
  repeat' split
  all_goals simp -proj +contextual (maxDischargeDepth := 12) only [h, Chip.wf_mk, Chip.wf_snd, Chip.wf_thd, Chip.wf_ite,
      Chip.wf_sparGo]

theorem Chip.wf_sparFault (k status : Nat) (c : Chip) (h : c.mem.wf = true) :
    (Chip.sparFault k status c).mem.wf = true := by
  unfold Chip.sparFault
  try dsimp -proj only
  repeat' split
  all_goals simp -proj +contextual (maxDischargeDepth := 12) only [h, Chip.wf_mk, Chip.wf_snd, Chip.wf_thd, Chip.wf_ite,
      Chip.wf_sparGo, Chip.wf_runOver]

theorem Chip.wf_trimDone (c : Chip) (h : c.mem.wf = true) :
    (Chip.trimDone c).mem.wf = true := by
  unfold Chip.trimDone
  try dsimp -proj only
  repeat' split
  all_goals simp -proj +contextual (maxDischargeDepth := 12) only [h, Chip.wf_mk, Chip.wf_snd, Chip.wf_thd, Chip.wf_ite,
      Chip.wf_sparGo]

theorem Chip.wf_allowSite (old : TrimPlan) (s : Nat) (c : Chip) (h : c.mem.wf = true) :
    (Chip.allowSite old s c).mem.wf = true := by
  unfold Chip.allowSite
  try dsimp -proj only
  repeat' split
  all_goals simp -proj +contextual (maxDischargeDepth := 12) only [h, Chip.wf_mk, Chip.wf_snd, Chip.wf_thd, Chip.wf_ite,
      Chip.wf_sendAllow]

theorem Chip.wf_allowAll (old : TrimPlan) (c : Chip) (h : c.mem.wf = true) :
    (Chip.allowAll old c).mem.wf = true := by
  unfold Chip.allowAll
  exact Chip.wf_each _ _ (fun s d hd => Chip.wf_allowSite _ _ _ (Chip.wf_mk _ _ hd)) _ (Chip.wf_mk _ _ h)

theorem Chip.wf_endSolve (c : Chip) (h : c.mem.wf = true) :
    (Chip.endSolve c).mem.wf = true := by
  unfold Chip.endSolve
  try dsimp -proj only
  repeat' split
  all_goals simp -proj +contextual (maxDischargeDepth := 12) only [h, Chip.wf_mk, Chip.wf_snd, Chip.wf_thd, Chip.wf_ite,
      Chip.wf_trimDone]

theorem Chip.wf_thermalTrip (n : Nat) (c : Chip) (h : c.mem.wf = true) :
    (Chip.thermalTrip n c).mem.wf = true := by
  unfold Chip.thermalTrip
  refine Chip.wf_each _ _ (fun s d hd => ?_) _ (Chip.wf_mk _ _ h)
  split
  · exact Chip.wf_sendAllow _ _ _ _ _ (Chip.wf_mk _ _ hd)
  · exact (Chip.wf_mk _ _ hd)

theorem Chip.wf_validOutput (n code : Nat) (c : Chip) (h : c.mem.wf = true) :
    (Chip.validOutput n code c).mem.wf = true := by
  unfold Chip.validOutput
  try dsimp -proj only
  repeat' split
  all_goals simp -proj +contextual (maxDischargeDepth := 12) only [h, Chip.wf_mk, Chip.wf_snd, Chip.wf_thd, Chip.wf_ite,
      Chip.wf_thermalTrip]

theorem Chip.wf_output (n code outs : Nat) (c : Chip) (h : c.mem.wf = true) :
    (Chip.output n code outs c).mem.wf = true := by
  unfold Chip.output
  try dsimp -proj only
  repeat' split
  all_goals simp -proj +contextual (maxDischargeDepth := 12) only [h, Chip.wf_mk, Chip.wf_snd, Chip.wf_thd, Chip.wf_ite,
      Chip.wf_validOutput]

theorem Chip.wf_senseOutput (cv code : Nat) (c : Chip) (h : c.mem.wf = true) :
    (Chip.senseOutput cv code c).mem.wf = true := by
  unfold Chip.senseOutput
  try dsimp -proj only
  repeat' split
  all_goals simp -proj +contextual (maxDischargeDepth := 12) only [h, Chip.wf_mk, Chip.wf_snd, Chip.wf_thd, Chip.wf_ite,
      Chip.wf_output]

theorem Chip.wf_runEpoch (old : TrimPlan) (meas : List Nat) (hubStatic stackStatic : Nat) (c : Chip)
    (h : c.mem.wf = true) :
    (Chip.runEpoch old meas hubStatic stackStatic c).mem.wf = true := by
  rw [Chip.runEpoch]
  exact Chip.wf_allowAll _ _ (Chip.wf_mk _ _ h)

theorem Chip.wf_trimReady (meas : List Nat) (hubStatic stackStatic : Nat) (c : Chip) (h : c.mem.wf = true) :
    (Chip.trimReady meas hubStatic stackStatic c).mem.wf = true := by
  rw [Chip.trimReady]
  exact Chip.wf_runEpoch _ _ _ _ _ (Chip.wf_mk _ _ h)

theorem Chip.wf_takeNext (c : Chip) (h : c.mem.wf = true) :
    (Chip.takeNext c).mem.wf = true := by
  unfold Chip.takeNext
  try dsimp -proj only
  repeat' split
  all_goals simp -proj +contextual (maxDischargeDepth := 12) only [h, Chip.wf_mk, Chip.wf_snd, Chip.wf_thd, Chip.wf_ite,
      Chip.wf_endSolve]

theorem Chip.wf_epochStart (meas : List Nat) (hubStatic stackStatic : Nat) (c : Chip) (h : c.mem.wf = true) :
    (Chip.epochStart meas hubStatic stackStatic c).mem.wf = true := by
  unfold Chip.epochStart
  try dsimp -proj only
  repeat' split
  all_goals simp -proj +contextual (maxDischargeDepth := 12) only [h, Chip.wf_mk, Chip.wf_snd, Chip.wf_thd, Chip.wf_ite,
      Chip.wf_runEpoch, Chip.wf_takeNext]

theorem Chip.wf_copyWord (a : Nat) (c : Chip) (h : c.mem.wf = true) :
    (Chip.copyWord a c).mem.wf = true := by
  unfold Chip.copyWord
  try dsimp -proj only
  repeat' split
  all_goals simp -proj +contextual (maxDischargeDepth := 12) only [h, Chip.wf_mk, Chip.wf_snd, Chip.wf_thd, Chip.wf_ite,
      Chip.wf_readCw]

theorem Chip.wf_copyBank (l : Nat) (c : Chip) (h : c.mem.wf = true) :
    (Chip.copyBank l c).mem.wf = true := by
  unfold Chip.copyBank
  exact Chip.wf_each _ _ (fun a d hd => Chip.wf_copyWord a d hd) _ h

theorem Chip.wf_tileStop (c : Chip) (h : c.mem.wf = true) :
    (Chip.tileStop c).mem.wf = true := by
  unfold Chip.tileStop
  try dsimp -proj only
  repeat' split
  all_goals simp -proj +contextual (maxDischargeDepth := 12) only [h, Chip.wf_mk, Chip.wf_snd, Chip.wf_thd, Chip.wf_ite,
      Chip.wf_endSolve, Chip.wf_sparFault]

theorem Chip.wf_leave (x : MapChange) (c : Chip) (h : c.mem.wf = true) :
    (Chip.leave x c).mem.wf = true := by
  unfold Chip.leave
  extract_lets g live g1 g2
  clear_value g1 g2 live g
  split
  · exact Chip.wf_mk _ _ h
  · split
    · split
      · exact Chip.wf_tileStop _ (Chip.wf_mk _ _ h)
      · exact Chip.wf_mk _ _ h
    · split
      · split
        · split
          · exact Mem.wf_clear _ _ _ h
          · exact Mem.wf_moved _ h
        · exact Mem.wf_moved _ h
      · split <;> exact Chip.wf_mk _ _ h

theorem Chip.wf_join (x : MapChange) (c : Chip) (h : c.mem.wf = true) :
    (Chip.join x c).mem.wf = true := by
  unfold Chip.join
  try dsimp -proj only
  repeat' split
  all_goals simp -proj +contextual (maxDischargeDepth := 12) only [h, Chip.wf_mk, Chip.wf_snd, Chip.wf_thd, Chip.wf_ite]

theorem Chip.wf_applyChange (x : MapChange) (c : Chip) (h : c.mem.wf = true) :
    (Chip.applyChange x c).mem.wf = true := by
  unfold Chip.applyChange
  try dsimp -proj only
  repeat' split
  all_goals simp -proj +contextual (maxDischargeDepth := 12) only [h, Chip.wf_mk, Chip.wf_snd, Chip.wf_thd, Chip.wf_ite,
      Chip.wf_join, Chip.wf_leave]

theorem Chip.wf_adoptEpoch (old : Nat) (c : Chip) (h : c.mem.wf = true) :
    (Chip.adoptEpoch old c).mem.wf = true := by
  unfold Chip.adoptEpoch
  extract_lets g l
  split
  · exact h
  · exact Chip.wf_mk _ _ (Chip.wf_each _ _ (fun x d hd => Chip.wf_applyChange x d hd) _ (Chip.wf_mk _ _ h))

theorem Chip.wf_scrubDram (c : Chip) (h : c.mem.wf = true) :
    (Chip.scrubDram c).mem.wf = true := by
  unfold Chip.scrubDram
  try dsimp -proj only
  repeat' split
  all_goals simp -proj +contextual (maxDischargeDepth := 12) only [h, Chip.wf_mk, Chip.wf_snd, Chip.wf_thd, Chip.wf_ite,
      Chip.wf_readCw]

theorem Chip.wf_trainNext (s : Nat) (c : Chip) (h : c.mem.wf = true) :
    (Chip.trainNext s c).mem.wf = true := by
  unfold Chip.trainNext
  try dsimp -proj only
  repeat' split
  all_goals simp -proj +contextual (maxDischargeDepth := 12) only [h, Chip.wf_mk, Chip.wf_snd, Chip.wf_thd, Chip.wf_ite,
      Chip.wf_siteDrop]

theorem Chip.wf_sbDead (s : Nat) (c : Chip) (h : c.mem.wf = true) :
    (Chip.sbDead s c).mem.wf = true := by
  unfold Chip.sbDead
  extract_lets g
  clear_value g
  split
  · exact Chip.wf_mk _ _ h
  · exact Chip.wf_siteDrop _ _ _ (Chip.wf_mk _ _ h)

theorem Chip.wf_bar4Read (off n : Nat) (c : Chip) (h : c.mem.wf = true) :
    (Chip.bar4Read off n c).mem.wf = true := by
  unfold Chip.bar4Read
  try dsimp -proj only
  repeat' split
  all_goals simp -proj +contextual (maxDischargeDepth := 12) only [h, Chip.wf_mk, Chip.wf_snd, Chip.wf_thd, Chip.wf_ite,
      Chip.wf_ncRead, Chip.wf_read]

theorem Chip.wf_bar4Write (off : Nat) (bs : List Byte) (c : Chip) (h : c.mem.wf = true) :
    (Chip.bar4Write off bs c).mem.wf = true := by
  unfold Chip.bar4Write
  try dsimp -proj only
  repeat' split
  all_goals simp -proj +contextual (maxDischargeDepth := 12) only [h, Chip.wf_mk, Chip.wf_snd, Chip.wf_thd, Chip.wf_ite,
      Chip.wf_ncWrite, Chip.wf_write]

theorem Chip.wf_emergencyWave (c : Chip) (h : c.mem.wf = true) :
    (Chip.emergencyWave c).mem.wf = true := by
  unfold Chip.emergencyWave
  split
  · exact h
  · extract_lets c1 g1 l mw
    have h1 : c1.mem.wf = true := by
      unfold c1
      split
      · exact h
      · exact Chip.wf_each _ _ (fun s d hd => Chip.wf_sendAllow _ _ _ _ _ hd) _ h
    clear_value mw l g1 c1
    split <;> exact Chip.wf_mk _ _ h1

theorem Chip.wf_zeroFill (tested : Bool) (c : Chip) (h : c.mem.wf = true) :
    (Chip.zeroFill tested c).mem.wf = true := by
  rw [Chip.zeroFill]
  exact Chip.wf_mk _ _ (Chip.wf_each _ _ (fun g d hd => Chip.wf_poison _ _ _ _ _ hd) _ (Chip.wf_mk _ _ Mem.wf_reset))

theorem Chip.wf_zeroised (c : Chip) (h : c.mem.wf = true) :
    (Chip.zeroised c).mem.wf = true := by
  unfold Chip.zeroised
  try dsimp -proj only
  repeat' split
  all_goals simp -proj +contextual (maxDischargeDepth := 12) only [h, Chip.wf_mk, Chip.wf_snd, Chip.wf_thd, Chip.wf_ite,
      Chip.wf_zeroise]

theorem Chip.wf_cltMessage (s tag : Nat) (b : List Byte) (c : Chip) (h : c.mem.wf = true) :
    (Chip.cltMessage s tag b c).mem.wf = true := by
  unfold Chip.cltMessage
  try dsimp -proj only
  repeat' split
  all_goals simp -proj +contextual (maxDischargeDepth := 12) only [h, Chip.wf_mk, Chip.wf_snd, Chip.wf_thd, Chip.wf_ite]

theorem Chip.wf_siteMessage (wave digest : Nat → List Byte → Chip → Chip) (s : Nat) (b line : List Byte) (c : Chip)
    (hwave : ∀ x0 x1 (d : Chip), d.mem.wf = true → (wave x0 x1 d).mem.wf = true) (hdigest : ∀ x0 x1 (d : Chip),
    d.mem.wf = true → (digest x0 x1 d).mem.wf = true) (h : c.mem.wf = true) :
    (Chip.siteMessage wave digest s b line c).mem.wf = true := by
  unfold Chip.siteMessage
  dsimp -proj only
  repeat' split
  all_goals first
    | with_reducible exact Chip.wf_takeCredit _ _ _ h
    | (with_reducible refine Chip.wf_decided _ _ ?_
       refine Chip.wf_consume _ _ _ _ _ (fun d hd => ?_) h
       first
        | with_reducible exact Chip.wf_cacheable _ _ _ _ _ hd
        | with_reducible exact Chip.wf_writeback _ _ _ _ _ hd)
    | (refine Chip.wf_consume _ _ _ _ _ (fun d hd => ?_) h
       first
        | with_reducible exact Chip.wf_siteRead _ _ _ _ _ hd
        | with_reducible exact Chip.wf_siteWrite _ _ _ _ _ _ _ hd
        | with_reducible exact Chip.wf_recallAnswer _ _ _ _ hd
        | with_reducible exact Chip.wf_cltMessage _ _ _ _ hd
        | with_reducible exact Chip.wf_openAck _ _ _ _ hd
        | with_reducible exact hwave _ _ _ hd
        | with_reducible exact hdigest _ _ _ hd
        | with_reducible exact Chip.wf_mk _ _ hd)

theorem Chip.wf_deliverControl (wave digest : Nat → List Byte → Chip → Chip) (s : Nat) (b : List Byte) (c : Chip)
    (hwave : ∀ x0 x1 (d : Chip), d.mem.wf = true → (wave x0 x1 d).mem.wf = true) (hdigest : ∀ x0 x1 (d : Chip),
    d.mem.wf = true → (digest x0 x1 d).mem.wf = true) (h : c.mem.wf = true) :
    (Chip.deliverControl wave digest s b c).mem.wf = true := by
  unfold Chip.deliverControl
  split
  · exact Chip.wf_siteMessage _ _ _ _ _ _ hwave hdigest (Chip.wf_mk _ _ h)
  · split
    · exact Chip.wf_mk _ _ h
    · exact Chip.wf_siteMessage _ _ _ _ _ _ hwave hdigest h

theorem Chip.wf_deliverData (s : Nat) (b : List Byte) (c : Chip) (h : c.mem.wf = true) :
    (Chip.deliverData s b c).mem.wf = true := by
  unfold Chip.deliverData
  split
  · exact Chip.wf_consume _ _ _ _ _ (fun d hd => Chip.wf_takeRun _ _ _ _ _ hd) (Chip.wf_mk _ _ h)
  · exact Chip.wf_consume _ _ _ _ _ (fun d hd => hd) (Chip.wf_mk _ _ h)

theorem Chip.wf_deliver (wave digest : Nat → List Byte → Chip → Chip) (s : Nat) (a0 : Nat) (c : Chip)
    (hwave : ∀ x0 x1 (d : Chip), d.mem.wf = true → (wave x0 x1 d).mem.wf = true) (hdigest : ∀ x0 x1 (d : Chip),
    d.mem.wf = true → (digest x0 x1 d).mem.wf = true) (h : c.mem.wf = true) :
    (Chip.deliver wave digest s a0 c).mem.wf = true := by
  induction a0 generalizing c with
  | zero => exact h
  | succ k ih =>
    unfold Chip.deliver
    split
    · exact h
    · rename_i f g e
      extract_lets c1 c2
      have h1 : c1.mem.wf = true := Chip.wf_mk _ _ h
      clear_value c1
      refine ih _ (Chip.wf_ite _ _ _ ?_ ?_)
      · exact Chip.wf_deliverControl _ _ _ _ _ hwave hdigest h1
      · exact Chip.wf_deliverData _ _ _ h1

theorem Chip.wf_handleLink (s p seq : Nat) (b : List Byte) (c : Chip) (h : c.mem.wf = true) :
    (Chip.handleLink s p seq b c).mem.wf = true := by
  unfold Chip.handleLink
  try dsimp -proj only
  repeat' split
  all_goals simp -proj +contextual (maxDischargeDepth := 12) only [h, Chip.wf_mk, Chip.wf_snd, Chip.wf_thd, Chip.wf_ite,
      Chip.wf_takeAck, Chip.wf_takeDropReq]

theorem Chip.wf_receiveFlit (wave digest : Nat → List Byte → Chip → Chip) (s p v k : Nat) (payload : List Byte)
    (c : Chip) (hwave : ∀ x0 x1 (d : Chip), d.mem.wf = true → (wave x0 x1 d).mem.wf = true)
    (hdigest : ∀ x0 x1 (d : Chip), d.mem.wf = true → (digest x0 x1 d).mem.wf = true) (h : c.mem.wf = true) :
    (Chip.receiveFlit wave digest s p v k payload c).mem.wf = true := by
  unfold Chip.receiveFlit
  split
  · exact h
  · extract_lets g type seq m
    clear_value m g
    split
    · exact Chip.wf_mk _ _ h
    · split
      · exact Chip.wf_mk _ _ h
      · split
        · exact Chip.wf_handleLink _ _ _ _ _ (Chip.wf_mk _ _ h)
        · split
          · exact Chip.wf_mk _ _ h
          · exact Chip.wf_deliver _ _ _ _ _ hwave hdigest (Chip.wf_mk _ _ h)

theorem Chip.wf_zeroAndDrop (s why : Nat) (c : Chip) (h : c.mem.wf = true) :
    (Chip.zeroAndDrop s why c).mem.wf = true := by
  unfold Chip.zeroAndDrop
  try dsimp -proj only
  repeat' split
  all_goals simp -proj +contextual (maxDischargeDepth := 12) only [h, Chip.wf_mk, Chip.wf_snd, Chip.wf_thd, Chip.wf_ite,
      Chip.wf_sendAllow, Chip.wf_siteDrop]

theorem Chip.wf_fwDrop (reason s : Nat) (c : Chip) (h : c.mem.wf = true) :
    (Chip.fwDrop reason s c).mem.wf = true := by
  unfold Chip.fwDrop
  try dsimp -proj only
  repeat' split
  all_goals simp -proj +contextual (maxDischargeDepth := 12) only [h, Chip.wf_mk, Chip.wf_snd, Chip.wf_thd, Chip.wf_ite,
      Chip.wf_siteDrop]

theorem Chip.wf_fwChoose (s : Nat) (c : Chip) (h : c.mem.wf = true) :
    (Chip.fwChoose s c).mem.wf = true := by
  unfold Chip.fwChoose
  try dsimp -proj only
  repeat' split
  all_goals simp -proj +contextual (maxDischargeDepth := 12) only [h, Chip.wf_mk, Chip.wf_snd, Chip.wf_thd, Chip.wf_ite,
      Chip.wf_each, Chip.wf_fwDrop]

theorem Chip.wf_fwGo (c : Chip) (h : c.mem.wf = true) :
    (Chip.fwGo c).mem.wf = true := by
  rw [Chip.fwGo]
  exact Chip.wf_mk _ _ (Chip.wf_each _ _ (fun s d hd => Chip.wf_fwChoose s d hd) _ (Chip.wf_mk _ _ h))

theorem Chip.wf_fwFetch (c : Chip) (h : c.mem.wf = true) :
    (Chip.fwFetch c).mem.wf = true := by
  unfold Chip.fwFetch
  try dsimp -proj only
  repeat' split
  all_goals simp -proj +contextual (maxDischargeDepth := 12) only [h, Chip.wf_mk, Chip.wf_snd, Chip.wf_thd, Chip.wf_ite,
      Chip.wf_fwGo]

theorem Chip.wf_beginS9 (image : List Byte) (c : Chip) (h : c.mem.wf = true) :
    (Chip.beginS9 image c).mem.wf = true := by
  unfold Chip.beginS9
  try dsimp -proj only
  repeat' split
  all_goals simp -proj +contextual (maxDischargeDepth := 12) only [h, Chip.wf_mk, Chip.wf_snd, Chip.wf_thd, Chip.wf_ite,
      Chip.wf_fwFetch, Chip.wf_fwGo]

theorem Chip.wf_fwCtrlWrite (v : Word) (image : List Byte) (c : Chip) (h : c.mem.wf = true) :
    (Chip.fwCtrlWrite v image c).mem.wf = true := by
  unfold Chip.fwCtrlWrite
  try dsimp -proj only
  repeat' split
  all_goals simp -proj +contextual (maxDischargeDepth := 12) only [h, Chip.wf_mk, Chip.wf_snd, Chip.wf_thd, Chip.wf_ite,
      Chip.wf_fwFetch]

theorem Chip.wf_beginS10 (c : Chip) (h : c.mem.wf = true) :
    (Chip.beginS10 c).mem.wf = true := by
  rw [Chip.beginS10]
  exact Chip.wf_mk _ _ (Chip.wf_each _ _ (fun s d hd => Chip.wf_fwDrop _ _ _ hd) _ h)

theorem Chip.wf_karDigest (s : Nat) (digest : List Byte) (c : Chip) (h : c.mem.wf = true) :
    (Chip.karDigest s digest c).mem.wf = true := by
  unfold Chip.karDigest
  try dsimp -proj only
  repeat' split
  all_goals simp -proj +contextual (maxDischargeDepth := 12) only [h, Chip.wf_mk, Chip.wf_snd, Chip.wf_thd, Chip.wf_ite,
      Chip.wf_zeroAndDrop]

theorem Chip.wf_readySet (meas : List Nat) (hubStatic stackStatic : Nat) (c : Chip) (h : c.mem.wf = true) :
    (Chip.readySet meas hubStatic stackStatic c).mem.wf = true := by
  rw [Chip.readySet]
  exact Chip.wf_trimReady _ _ _ _ (Chip.wf_mk _ _ h)

theorem Chip.wf_stageLimit (c : Chip) (h : c.mem.wf = true) :
    (Chip.stageLimit c).mem.wf = true := by
  unfold Chip.stageLimit
  extract_lets g
  split
  · exact h
  · split
    · exact h
    · split
      · exact Chip.wf_mk _ _ h
      · split
        · exact Chip.wf_each _ _ (fun s d hd => Chip.wf_siteDrop _ _ _ hd) _ h
        · split
          · exact Chip.wf_each _ _ (fun s d hd => Chip.wf_zeroAndDrop _ _ _ hd) _ h
          · exact Chip.wf_mk _ _ h

theorem Chip.wf_resetRing (n : Nat) (zeroGen : Bool) (c : Chip) (h : c.mem.wf = true) :
    (Chip.resetRing n zeroGen c).mem.wf = true := by
  unfold Chip.resetRing
  try dsimp -proj only
  repeat' split
  all_goals simp -proj +contextual (maxDischargeDepth := 12) only [h, Chip.wf_mk, Chip.wf_snd, Chip.wf_thd, Chip.wf_ite,
      Chip.wf_sparDropRing, Chip.wf_each]

theorem Chip.wf_startReset (n : Nat) (zeroGen : Bool) (c : Chip) (h : c.mem.wf = true) :
    (Chip.startReset n zeroGen c).mem.wf = true := by
  unfold Chip.startReset
  try dsimp -proj only
  repeat' split
  all_goals simp -proj +contextual (maxDischargeDepth := 12) only [h, Chip.wf_mk, Chip.wf_snd, Chip.wf_thd, Chip.wf_ite,
      Chip.wf_resetRing]

theorem Chip.wf_disableRing (req : Path) (n : Nat) (c : Chip) (h : c.mem.wf = true) :
    (Chip.disableRing req n c).mem.wf = true := by
  unfold Chip.disableRing
  try dsimp -proj only
  repeat' split
  all_goals simp -proj +contextual (maxDischargeDepth := 12) only [h, Chip.wf_mk, Chip.wf_snd, Chip.wf_thd, Chip.wf_ite,
      Chip.wf_startReset]

theorem Chip.wf_resetRingsOf (fn : Nat) (c : Chip) (h : c.mem.wf = true) :
    (Chip.resetRingsOf fn c).mem.wf = true := by
  unfold Chip.resetRingsOf
  refine Chip.wf_each _ _ (fun n d hd => ?_) _ h
  split
  · exact hd
  · split
    · exact Chip.wf_mk _ _ hd
    · exact Chip.wf_startReset _ _ _ hd

theorem Chip.wf_resetFn (fn : Nat) (c : Chip) (h : c.mem.wf = true) :
    (Chip.resetFn fn c).mem.wf = true := by
  unfold Chip.resetFn
  try dsimp -proj only
  repeat' split
  all_goals simp -proj +contextual (maxDischargeDepth := 12) only [h, Chip.wf_mk, Chip.wf_snd, Chip.wf_thd, Chip.wf_ite,
      Chip.wf_resetRingsOf]

theorem Chip.wf_setVfs (en : Bool) (num : Nat) (c : Chip) (h : c.mem.wf = true) :
    (Chip.setVfs en num c).mem.wf = true := by
  rw [Chip.setVfs]
  exact Chip.wf_mk _ _ (Chip.wf_each _ _ (fun k d hd => Chip.wf_resetFn _ _ hd) _ h)

theorem Chip.wf_stopDesc (n : Nat) (d : Desc) (c : Chip) (h : c.mem.wf = true) :
    (Chip.stopDesc n d c).mem.wf = true := by
  unfold Chip.stopDesc
  try dsimp -proj only
  repeat' split
  all_goals simp -proj +contextual (maxDischargeDepth := 12) only [h, Chip.wf_mk, Chip.wf_snd, Chip.wf_thd, Chip.wf_ite,
      Chip.wf_sparDeadline]

theorem Chip.wf_deadline (n id : Nat) (c : Chip) (h : c.mem.wf = true) :
    (Chip.deadline n id c).mem.wf = true := by
  unfold Chip.deadline
  try dsimp -proj only
  repeat' split
  all_goals simp -proj +contextual (maxDischargeDepth := 12) only [h, Chip.wf_mk, Chip.wf_snd, Chip.wf_thd, Chip.wf_ite,
      Chip.wf_sparDeadline, Chip.wf_stopDesc]

theorem Chip.wf_bootWrite (p : Path) (off : Nat) (v : Word) (c : Chip) (h : c.mem.wf = true) :
    (Chip.bootWrite p off v c).mem.wf = true := by
  unfold Chip.bootWrite
  try dsimp -proj only
  repeat' split
  all_goals simp -proj +contextual (maxDischargeDepth := 12) only [h, Chip.wf_mk, Chip.wf_snd, Chip.wf_thd, Chip.wf_ite,
      Chip.wf_fwCtrlWrite]

theorem Chip.wf_ringRegWrite (p : Path) (n r : Nat) (v : Word) (c : Chip) (h : c.mem.wf = true) :
    (Chip.ringRegWrite p n r v c).mem.wf = true := by
  unfold Chip.ringRegWrite
  try dsimp -proj only
  repeat' split
  all_goals simp -proj +contextual (maxDischargeDepth := 12) only [h, Chip.wf_mk, Chip.wf_snd, Chip.wf_thd, Chip.wf_ite,
      Chip.wf_startReset]

theorem Chip.wf_ringBlockWrite (p : Path) (off : Nat) (v : Word) (c : Chip) (h : c.mem.wf = true) :
    (Chip.ringBlockWrite p off v c).mem.wf = true := by
  unfold Chip.ringBlockWrite
  try dsimp -proj only
  repeat' split
  all_goals simp -proj +contextual (maxDischargeDepth := 12) only [h, Chip.wf_mk, Chip.wf_snd, Chip.wf_thd, Chip.wf_ite,
      Chip.wf_ringRegWrite]

theorem Chip.wf_winWrite (p : Path) (w off : Nat) (v : Word) (c : Chip) (h : c.mem.wf = true) :
    (Chip.winWrite p w off v c).mem.wf = true := by
  unfold Chip.winWrite
  try dsimp -proj only
  repeat' split
  all_goals simp -proj +contextual (maxDischargeDepth := 12) only [h, Chip.wf_mk, Chip.wf_snd, Chip.wf_thd, Chip.wf_ite,
      Chip.wf_winDisable]

theorem Chip.wf_bufWrite (p : Path) (off : Nat) (v : Word) (c : Chip) (h : c.mem.wf = true) :
    (Chip.bufWrite p off v c).mem.wf = true := by
  unfold Chip.bufWrite
  try dsimp -proj only
  repeat' split
  all_goals simp -proj +contextual (maxDischargeDepth := 12) only [h, Chip.wf_mk, Chip.wf_snd, Chip.wf_thd, Chip.wf_ite,
      Chip.wf_winWrite]

theorem Chip.wf_writeReg (p : Path) (off : Nat) (v : Word) (c : Chip) (h : c.mem.wf = true) :
    (Chip.writeReg p off v c).mem.wf = true := by
  unfold Chip.writeReg
  split
  · exact Chip.wf_mk _ _ h
  · have hg : (Chip.mk (c.hub.sramMerge p.req off) c.mem).mem.wf = true := h
    split
    · exact Chip.wf_bootWrite _ _ _ _ hg
    · split
      · exact Chip.wf_ringBlockWrite _ _ _ _ hg
      · split
        · exact Chip.wf_bufWrite _ _ _ _ hg
        · exact Chip.wf_mk _ _ hg

theorem Chip.wf_writeAt (p : Path) (off : Nat) (v : Word) (c : Chip) (h : c.mem.wf = true) :
    (Chip.writeAt p off v c).mem.wf = true := by
  unfold Chip.writeAt
  split
  · split
    · exact h
    · exact Chip.wf_writeReg _ _ _ _ h
  · exact Chip.wf_mk _ _ h
  · split
    · exact Chip.wf_mk _ _ h
    · exact h
  · exact Chip.wf_mk _ _ h
  · exact h

theorem Chip.wf_writeAccess (p : Path) (off bits : Nat) (v : DWord) (c : Chip) (h : c.mem.wf = true) :
    (Chip.writeAccess p off bits v c).mem.wf = true := by
  unfold Chip.writeAccess
  try dsimp -proj only
  repeat' split
  all_goals simp -proj +contextual (maxDischargeDepth := 12) only [h, Chip.wf_mk, Chip.wf_snd, Chip.wf_thd, Chip.wf_ite,
      Chip.wf_writeAt]

theorem Chip.wf_faultRing (n : Nat) (c : Chip) (h : c.mem.wf = true) :
    (Chip.faultRing n c).mem.wf = true := by
  unfold Chip.faultRing
  try dsimp -proj only
  repeat' split
  all_goals simp -proj +contextual (maxDischargeDepth := 12) only [h, Chip.wf_mk, Chip.wf_snd, Chip.wf_thd, Chip.wf_ite,
      Chip.wf_startReset]

theorem Chip.wf_faultEngine (l : Nat) (c : Chip) (h : c.mem.wf = true) :
    (Chip.faultEngine l c).mem.wf = true := by
  unfold Chip.faultEngine
  try dsimp -proj only
  repeat' split
  all_goals simp -proj +contextual (maxDischargeDepth := 12) only [h, Chip.wf_mk, Chip.wf_snd, Chip.wf_thd, Chip.wf_ite]

theorem Chip.wf_faultContext (k : Nat) (c : Chip) (h : c.mem.wf = true) :
    (Chip.faultContext k c).mem.wf = true := by
  unfold Chip.faultContext
  try dsimp -proj only
  repeat' split
  all_goals simp -proj +contextual (maxDischargeDepth := 12) only [h, Chip.wf_mk, Chip.wf_snd, Chip.wf_thd, Chip.wf_ite,
      Chip.wf_endSolve, Chip.wf_sparFault]

theorem Chip.wf_faultReset (cls unit : Nat) (c : Chip) (h : c.mem.wf = true) :
    (Chip.faultReset cls unit c).mem.wf = true := by
  unfold Chip.faultReset
  try dsimp -proj only
  repeat' split
  all_goals simp -proj +contextual (maxDischargeDepth := 12) only [h, Chip.wf_mk, Chip.wf_snd, Chip.wf_thd, Chip.wf_ite,
      Chip.wf_faultRing, Chip.wf_faultEngine, Chip.wf_faultContext, Chip.wf_siteDrop]

theorem Chip.wf_fault (code cls unit : Nat) (c : Chip) (h : c.mem.wf = true) :
    (Chip.fault code cls unit c).mem.wf = true := by
  unfold Chip.fault
  try dsimp -proj only
  repeat' split
  all_goals simp -proj +contextual (maxDischargeDepth := 12) only [h, Chip.wf_mk, Chip.wf_snd, Chip.wf_thd, Chip.wf_ite,
      Chip.wf_faultReset]

end Sys2Proof.Machine
end

