-- ==== Sys2Proof/Laws/State.lean ====
section
/-!
SUPPORT. What every update of the hub's record leaves alone: one lemma per field and update, true by definition, so that no
proof unfolds a record update.
-/
namespace Sys2Proof.Machine

/-! ## setReg -/

@[simp] theorem Hub.setReg_clock (h : Hub) (off : Nat) (w : Word) : (h.setReg off w).clock = h.clock := (rfl)
@[simp] theorem Hub.setReg_draws (h : Hub) (off : Nat) (w : Word) : (h.setReg off w).draws = h.draws := (rfl)
@[simp] theorem Hub.setReg_out (h : Hub) (off : Nat) (w : Word) : (h.setReg off w).out = h.out := (rfl)
@[simp] theorem Hub.setReg_pins (h : Hub) (off : Nat) (w : Word) : (h.setReg off w).pins = h.pins := (rfl)
@[simp] theorem Hub.setReg_power (h : Hub) (off : Nat) (w : Word) : (h.setReg off w).power = h.power := (rfl)
@[simp] theorem Hub.setReg_boot (h : Hub) (off : Nat) (w : Word) : (h.setReg off w).boot = h.boot := (rfl)
@[simp] theorem Hub.setReg_fail (h : Hub) (off : Nat) (w : Word) : (h.setReg off w).fail = h.fail := (rfl)
@[simp] theorem Hub.setReg_ras (h : Hub) (off : Nat) (w : Word) : (h.setReg off w).ras = h.ras := (rfl)
@[simp] theorem Hub.setReg_yew (h : Hub) (off : Nat) (w : Word) : (h.setReg off w).yew = h.yew := (rfl)
@[simp] theorem Hub.setReg_pcie (h : Hub) (off : Nat) (w : Word) : (h.setReg off w).pcie = h.pcie := (rfl)
@[simp] theorem Hub.setReg_rings (h : Hub) (off : Nat) (w : Word) : (h.setReg off w).rings = h.rings := (rfl)
@[simp] theorem Hub.setReg_disp (h : Hub) (off : Nat) (w : Word) : (h.setReg off w).disp = h.disp := (rfl)
@[simp] theorem Hub.setReg_cleat (h : Hub) (off : Nat) (w : Word) : (h.setReg off w).cleat = h.cleat := (rfl)
@[simp] theorem Hub.setReg_time (h : Hub) (off : Nat) (w : Word) : (h.setReg off w).time = h.time := (rfl)
@[simp] theorem Hub.setReg_memch (h : Hub) (off : Nat) (w : Word) : (h.setReg off w).memch = h.memch := (rfl)
@[simp] theorem Hub.setReg_sites (h : Hub) (off : Nat) (w : Word) : (h.setReg off w).sites = h.sites := (rfl)
@[simp] theorem Hub.setReg_dir (h : Hub) (off : Nat) (w : Word) : (h.setReg off w).dir = h.dir := (rfl)
@[simp] theorem Hub.setReg_map (h : Hub) (off : Nat) (w : Word) : (h.setReg off w).map = h.map := (rfl)
@[simp] theorem Hub.setReg_mast (h : Hub) (off : Nat) (w : Word) : (h.setReg off w).mast = h.mast := (rfl)
@[simp] theorem Hub.setReg_ser (h : Hub) (off : Nat) (w : Word) : (h.setReg off w).ser = h.ser := (rfl)
@[simp] theorem Hub.setReg_crew (h : Hub) (off : Nat) (w : Word) : (h.setReg off w).crew = h.crew := (rfl)
@[simp] theorem Hub.setReg_spar (h : Hub) (off : Nat) (w : Word) : (h.setReg off w).spar = h.spar := (rfl)
@[simp] theorem Hub.setReg_trim (h : Hub) (off : Nat) (w : Word) : (h.setReg off w).trim = h.trim := (rfl)
@[simp] theorem Hub.setReg_sns (h : Hub) (off : Nat) (w : Word) : (h.setReg off w).sns = h.sns := (rfl)
@[simp] theorem Hub.setReg_test (h : Hub) (off : Nat) (w : Word) : (h.setReg off w).test = h.test := (rfl)

/-! ## put -/

@[simp] theorem Hub.put_clock (h : Hub) (f : RF) (v : Nat) : (h.put f v).clock = h.clock := (rfl)
@[simp] theorem Hub.put_draws (h : Hub) (f : RF) (v : Nat) : (h.put f v).draws = h.draws := (rfl)
@[simp] theorem Hub.put_out (h : Hub) (f : RF) (v : Nat) : (h.put f v).out = h.out := (rfl)
@[simp] theorem Hub.put_pins (h : Hub) (f : RF) (v : Nat) : (h.put f v).pins = h.pins := (rfl)
@[simp] theorem Hub.put_power (h : Hub) (f : RF) (v : Nat) : (h.put f v).power = h.power := (rfl)
@[simp] theorem Hub.put_boot (h : Hub) (f : RF) (v : Nat) : (h.put f v).boot = h.boot := (rfl)
@[simp] theorem Hub.put_fail (h : Hub) (f : RF) (v : Nat) : (h.put f v).fail = h.fail := (rfl)
@[simp] theorem Hub.put_ras (h : Hub) (f : RF) (v : Nat) : (h.put f v).ras = h.ras := (rfl)
@[simp] theorem Hub.put_yew (h : Hub) (f : RF) (v : Nat) : (h.put f v).yew = h.yew := (rfl)
@[simp] theorem Hub.put_pcie (h : Hub) (f : RF) (v : Nat) : (h.put f v).pcie = h.pcie := (rfl)
@[simp] theorem Hub.put_rings (h : Hub) (f : RF) (v : Nat) : (h.put f v).rings = h.rings := (rfl)
@[simp] theorem Hub.put_disp (h : Hub) (f : RF) (v : Nat) : (h.put f v).disp = h.disp := (rfl)
@[simp] theorem Hub.put_cleat (h : Hub) (f : RF) (v : Nat) : (h.put f v).cleat = h.cleat := (rfl)
@[simp] theorem Hub.put_time (h : Hub) (f : RF) (v : Nat) : (h.put f v).time = h.time := (rfl)
@[simp] theorem Hub.put_memch (h : Hub) (f : RF) (v : Nat) : (h.put f v).memch = h.memch := (rfl)
@[simp] theorem Hub.put_sites (h : Hub) (f : RF) (v : Nat) : (h.put f v).sites = h.sites := (rfl)
@[simp] theorem Hub.put_dir (h : Hub) (f : RF) (v : Nat) : (h.put f v).dir = h.dir := (rfl)
@[simp] theorem Hub.put_map (h : Hub) (f : RF) (v : Nat) : (h.put f v).map = h.map := (rfl)
@[simp] theorem Hub.put_mast (h : Hub) (f : RF) (v : Nat) : (h.put f v).mast = h.mast := (rfl)
@[simp] theorem Hub.put_ser (h : Hub) (f : RF) (v : Nat) : (h.put f v).ser = h.ser := (rfl)
@[simp] theorem Hub.put_crew (h : Hub) (f : RF) (v : Nat) : (h.put f v).crew = h.crew := (rfl)
@[simp] theorem Hub.put_spar (h : Hub) (f : RF) (v : Nat) : (h.put f v).spar = h.spar := (rfl)
@[simp] theorem Hub.put_trim (h : Hub) (f : RF) (v : Nat) : (h.put f v).trim = h.trim := (rfl)
@[simp] theorem Hub.put_sns (h : Hub) (f : RF) (v : Nat) : (h.put f v).sns = h.sns := (rfl)
@[simp] theorem Hub.put_test (h : Hub) (f : RF) (v : Nat) : (h.put f v).test = h.test := (rfl)

/-! ## drew -/

@[simp] theorem Hub.drew_regs (h : Hub) : (h.drew).regs = h.regs := (rfl)
@[simp] theorem Hub.drew_clock (h : Hub) : (h.drew).clock = h.clock := (rfl)
@[simp] theorem Hub.drew_out (h : Hub) : (h.drew).out = h.out := (rfl)
@[simp] theorem Hub.drew_pins (h : Hub) : (h.drew).pins = h.pins := (rfl)
@[simp] theorem Hub.drew_power (h : Hub) : (h.drew).power = h.power := (rfl)
@[simp] theorem Hub.drew_boot (h : Hub) : (h.drew).boot = h.boot := (rfl)
@[simp] theorem Hub.drew_fail (h : Hub) : (h.drew).fail = h.fail := (rfl)
@[simp] theorem Hub.drew_ras (h : Hub) : (h.drew).ras = h.ras := (rfl)
@[simp] theorem Hub.drew_yew (h : Hub) : (h.drew).yew = h.yew := (rfl)
@[simp] theorem Hub.drew_pcie (h : Hub) : (h.drew).pcie = h.pcie := (rfl)
@[simp] theorem Hub.drew_rings (h : Hub) : (h.drew).rings = h.rings := (rfl)
@[simp] theorem Hub.drew_disp (h : Hub) : (h.drew).disp = h.disp := (rfl)
@[simp] theorem Hub.drew_cleat (h : Hub) : (h.drew).cleat = h.cleat := (rfl)
@[simp] theorem Hub.drew_time (h : Hub) : (h.drew).time = h.time := (rfl)
@[simp] theorem Hub.drew_memch (h : Hub) : (h.drew).memch = h.memch := (rfl)
@[simp] theorem Hub.drew_sites (h : Hub) : (h.drew).sites = h.sites := (rfl)
@[simp] theorem Hub.drew_dir (h : Hub) : (h.drew).dir = h.dir := (rfl)
@[simp] theorem Hub.drew_map (h : Hub) : (h.drew).map = h.map := (rfl)
@[simp] theorem Hub.drew_mast (h : Hub) : (h.drew).mast = h.mast := (rfl)
@[simp] theorem Hub.drew_ser (h : Hub) : (h.drew).ser = h.ser := (rfl)
@[simp] theorem Hub.drew_crew (h : Hub) : (h.drew).crew = h.crew := (rfl)
@[simp] theorem Hub.drew_spar (h : Hub) : (h.drew).spar = h.spar := (rfl)
@[simp] theorem Hub.drew_trim (h : Hub) : (h.drew).trim = h.trim := (rfl)
@[simp] theorem Hub.drew_sns (h : Hub) : (h.drew).sns = h.sns := (rfl)
@[simp] theorem Hub.drew_test (h : Hub) : (h.drew).test = h.test := (rfl)

/-! ## send -/

@[simp] theorem Hub.send_regs (h : Hub) (o : Out) : (h.send o).regs = h.regs := (rfl)
@[simp] theorem Hub.send_clock (h : Hub) (o : Out) : (h.send o).clock = h.clock := (rfl)
@[simp] theorem Hub.send_draws (h : Hub) (o : Out) : (h.send o).draws = h.draws := (rfl)
@[simp] theorem Hub.send_pins (h : Hub) (o : Out) : (h.send o).pins = h.pins := (rfl)
@[simp] theorem Hub.send_power (h : Hub) (o : Out) : (h.send o).power = h.power := (rfl)
@[simp] theorem Hub.send_boot (h : Hub) (o : Out) : (h.send o).boot = h.boot := (rfl)
@[simp] theorem Hub.send_fail (h : Hub) (o : Out) : (h.send o).fail = h.fail := (rfl)
@[simp] theorem Hub.send_ras (h : Hub) (o : Out) : (h.send o).ras = h.ras := (rfl)
@[simp] theorem Hub.send_yew (h : Hub) (o : Out) : (h.send o).yew = h.yew := (rfl)
@[simp] theorem Hub.send_pcie (h : Hub) (o : Out) : (h.send o).pcie = h.pcie := (rfl)
@[simp] theorem Hub.send_rings (h : Hub) (o : Out) : (h.send o).rings = h.rings := (rfl)
@[simp] theorem Hub.send_disp (h : Hub) (o : Out) : (h.send o).disp = h.disp := (rfl)
@[simp] theorem Hub.send_cleat (h : Hub) (o : Out) : (h.send o).cleat = h.cleat := (rfl)
@[simp] theorem Hub.send_time (h : Hub) (o : Out) : (h.send o).time = h.time := (rfl)
@[simp] theorem Hub.send_memch (h : Hub) (o : Out) : (h.send o).memch = h.memch := (rfl)
@[simp] theorem Hub.send_sites (h : Hub) (o : Out) : (h.send o).sites = h.sites := (rfl)
@[simp] theorem Hub.send_dir (h : Hub) (o : Out) : (h.send o).dir = h.dir := (rfl)
@[simp] theorem Hub.send_map (h : Hub) (o : Out) : (h.send o).map = h.map := (rfl)
@[simp] theorem Hub.send_mast (h : Hub) (o : Out) : (h.send o).mast = h.mast := (rfl)
@[simp] theorem Hub.send_ser (h : Hub) (o : Out) : (h.send o).ser = h.ser := (rfl)
@[simp] theorem Hub.send_crew (h : Hub) (o : Out) : (h.send o).crew = h.crew := (rfl)
@[simp] theorem Hub.send_spar (h : Hub) (o : Out) : (h.send o).spar = h.spar := (rfl)
@[simp] theorem Hub.send_trim (h : Hub) (o : Out) : (h.send o).trim = h.trim := (rfl)
@[simp] theorem Hub.send_sns (h : Hub) (o : Out) : (h.send o).sns = h.sns := (rfl)
@[simp] theorem Hub.send_test (h : Hub) (o : Out) : (h.send o).test = h.test := (rfl)

/-! ## putFree -/

@[simp] theorem Hub.putFree_clock (h : Hub) (f : RF) : (h.putFree f).clock = h.clock := (rfl)
@[simp] theorem Hub.putFree_out (h : Hub) (f : RF) : (h.putFree f).out = h.out := (rfl)
@[simp] theorem Hub.putFree_pins (h : Hub) (f : RF) : (h.putFree f).pins = h.pins := (rfl)
@[simp] theorem Hub.putFree_power (h : Hub) (f : RF) : (h.putFree f).power = h.power := (rfl)
@[simp] theorem Hub.putFree_boot (h : Hub) (f : RF) : (h.putFree f).boot = h.boot := (rfl)
@[simp] theorem Hub.putFree_fail (h : Hub) (f : RF) : (h.putFree f).fail = h.fail := (rfl)
@[simp] theorem Hub.putFree_ras (h : Hub) (f : RF) : (h.putFree f).ras = h.ras := (rfl)
@[simp] theorem Hub.putFree_yew (h : Hub) (f : RF) : (h.putFree f).yew = h.yew := (rfl)
@[simp] theorem Hub.putFree_pcie (h : Hub) (f : RF) : (h.putFree f).pcie = h.pcie := (rfl)
@[simp] theorem Hub.putFree_rings (h : Hub) (f : RF) : (h.putFree f).rings = h.rings := (rfl)
@[simp] theorem Hub.putFree_disp (h : Hub) (f : RF) : (h.putFree f).disp = h.disp := (rfl)
@[simp] theorem Hub.putFree_cleat (h : Hub) (f : RF) : (h.putFree f).cleat = h.cleat := (rfl)
@[simp] theorem Hub.putFree_time (h : Hub) (f : RF) : (h.putFree f).time = h.time := (rfl)
@[simp] theorem Hub.putFree_memch (h : Hub) (f : RF) : (h.putFree f).memch = h.memch := (rfl)
@[simp] theorem Hub.putFree_sites (h : Hub) (f : RF) : (h.putFree f).sites = h.sites := (rfl)
@[simp] theorem Hub.putFree_dir (h : Hub) (f : RF) : (h.putFree f).dir = h.dir := (rfl)
@[simp] theorem Hub.putFree_map (h : Hub) (f : RF) : (h.putFree f).map = h.map := (rfl)
@[simp] theorem Hub.putFree_mast (h : Hub) (f : RF) : (h.putFree f).mast = h.mast := (rfl)
@[simp] theorem Hub.putFree_ser (h : Hub) (f : RF) : (h.putFree f).ser = h.ser := (rfl)
@[simp] theorem Hub.putFree_crew (h : Hub) (f : RF) : (h.putFree f).crew = h.crew := (rfl)
@[simp] theorem Hub.putFree_spar (h : Hub) (f : RF) : (h.putFree f).spar = h.spar := (rfl)
@[simp] theorem Hub.putFree_trim (h : Hub) (f : RF) : (h.putFree f).trim = h.trim := (rfl)
@[simp] theorem Hub.putFree_sns (h : Hub) (f : RF) : (h.putFree f).sns = h.sns := (rfl)
@[simp] theorem Hub.putFree_test (h : Hub) (f : RF) : (h.putFree f).test = h.test := (rfl)

/-! ## setRing -/

@[simp] theorem Hub.setRing_regs (h : Hub) (n : Nat) (r : RingS) : (h.setRing n r).regs = h.regs := (rfl)
@[simp] theorem Hub.setRing_clock (h : Hub) (n : Nat) (r : RingS) : (h.setRing n r).clock = h.clock := (rfl)
@[simp] theorem Hub.setRing_draws (h : Hub) (n : Nat) (r : RingS) : (h.setRing n r).draws = h.draws := (rfl)
@[simp] theorem Hub.setRing_out (h : Hub) (n : Nat) (r : RingS) : (h.setRing n r).out = h.out := (rfl)
@[simp] theorem Hub.setRing_pins (h : Hub) (n : Nat) (r : RingS) : (h.setRing n r).pins = h.pins := (rfl)
@[simp] theorem Hub.setRing_power (h : Hub) (n : Nat) (r : RingS) : (h.setRing n r).power = h.power := (rfl)
@[simp] theorem Hub.setRing_boot (h : Hub) (n : Nat) (r : RingS) : (h.setRing n r).boot = h.boot := (rfl)
@[simp] theorem Hub.setRing_fail (h : Hub) (n : Nat) (r : RingS) : (h.setRing n r).fail = h.fail := (rfl)
@[simp] theorem Hub.setRing_ras (h : Hub) (n : Nat) (r : RingS) : (h.setRing n r).ras = h.ras := (rfl)
@[simp] theorem Hub.setRing_yew (h : Hub) (n : Nat) (r : RingS) : (h.setRing n r).yew = h.yew := (rfl)
@[simp] theorem Hub.setRing_pcie (h : Hub) (n : Nat) (r : RingS) : (h.setRing n r).pcie = h.pcie := (rfl)
@[simp] theorem Hub.setRing_disp (h : Hub) (n : Nat) (r : RingS) : (h.setRing n r).disp = h.disp := (rfl)
@[simp] theorem Hub.setRing_cleat (h : Hub) (n : Nat) (r : RingS) : (h.setRing n r).cleat = h.cleat := (rfl)
@[simp] theorem Hub.setRing_time (h : Hub) (n : Nat) (r : RingS) : (h.setRing n r).time = h.time := (rfl)
@[simp] theorem Hub.setRing_memch (h : Hub) (n : Nat) (r : RingS) : (h.setRing n r).memch = h.memch := (rfl)
@[simp] theorem Hub.setRing_sites (h : Hub) (n : Nat) (r : RingS) : (h.setRing n r).sites = h.sites := (rfl)
@[simp] theorem Hub.setRing_dir (h : Hub) (n : Nat) (r : RingS) : (h.setRing n r).dir = h.dir := (rfl)
@[simp] theorem Hub.setRing_map (h : Hub) (n : Nat) (r : RingS) : (h.setRing n r).map = h.map := (rfl)
@[simp] theorem Hub.setRing_mast (h : Hub) (n : Nat) (r : RingS) : (h.setRing n r).mast = h.mast := (rfl)
@[simp] theorem Hub.setRing_ser (h : Hub) (n : Nat) (r : RingS) : (h.setRing n r).ser = h.ser := (rfl)
@[simp] theorem Hub.setRing_crew (h : Hub) (n : Nat) (r : RingS) : (h.setRing n r).crew = h.crew := (rfl)
@[simp] theorem Hub.setRing_spar (h : Hub) (n : Nat) (r : RingS) : (h.setRing n r).spar = h.spar := (rfl)
@[simp] theorem Hub.setRing_trim (h : Hub) (n : Nat) (r : RingS) : (h.setRing n r).trim = h.trim := (rfl)
@[simp] theorem Hub.setRing_sns (h : Hub) (n : Nat) (r : RingS) : (h.setRing n r).sns = h.sns := (rfl)
@[simp] theorem Hub.setRing_test (h : Hub) (n : Nat) (r : RingS) : (h.setRing n r).test = h.test := (rfl)

/-! ## onDesc -/

@[simp] theorem Hub.onDesc_regs (h : Hub) (n id : Nat) (f : Desc → Desc) : (h.onDesc n id f).regs = h.regs := (rfl)
@[simp] theorem Hub.onDesc_clock (h : Hub) (n id : Nat) (f : Desc → Desc) : (h.onDesc n id f).clock = h.clock := (rfl)
@[simp] theorem Hub.onDesc_draws (h : Hub) (n id : Nat) (f : Desc → Desc) : (h.onDesc n id f).draws = h.draws := (rfl)
@[simp] theorem Hub.onDesc_out (h : Hub) (n id : Nat) (f : Desc → Desc) : (h.onDesc n id f).out = h.out := (rfl)
@[simp] theorem Hub.onDesc_pins (h : Hub) (n id : Nat) (f : Desc → Desc) : (h.onDesc n id f).pins = h.pins := (rfl)
@[simp] theorem Hub.onDesc_power (h : Hub) (n id : Nat) (f : Desc → Desc) : (h.onDesc n id f).power = h.power := (rfl)
@[simp] theorem Hub.onDesc_boot (h : Hub) (n id : Nat) (f : Desc → Desc) : (h.onDesc n id f).boot = h.boot := (rfl)
@[simp] theorem Hub.onDesc_fail (h : Hub) (n id : Nat) (f : Desc → Desc) : (h.onDesc n id f).fail = h.fail := (rfl)
@[simp] theorem Hub.onDesc_ras (h : Hub) (n id : Nat) (f : Desc → Desc) : (h.onDesc n id f).ras = h.ras := (rfl)
@[simp] theorem Hub.onDesc_yew (h : Hub) (n id : Nat) (f : Desc → Desc) : (h.onDesc n id f).yew = h.yew := (rfl)
@[simp] theorem Hub.onDesc_pcie (h : Hub) (n id : Nat) (f : Desc → Desc) : (h.onDesc n id f).pcie = h.pcie := (rfl)
@[simp] theorem Hub.onDesc_disp (h : Hub) (n id : Nat) (f : Desc → Desc) : (h.onDesc n id f).disp = h.disp := (rfl)
@[simp] theorem Hub.onDesc_cleat (h : Hub) (n id : Nat) (f : Desc → Desc) : (h.onDesc n id f).cleat = h.cleat := (rfl)
@[simp] theorem Hub.onDesc_time (h : Hub) (n id : Nat) (f : Desc → Desc) : (h.onDesc n id f).time = h.time := (rfl)
@[simp] theorem Hub.onDesc_memch (h : Hub) (n id : Nat) (f : Desc → Desc) : (h.onDesc n id f).memch = h.memch := (rfl)
@[simp] theorem Hub.onDesc_sites (h : Hub) (n id : Nat) (f : Desc → Desc) : (h.onDesc n id f).sites = h.sites := (rfl)
@[simp] theorem Hub.onDesc_dir (h : Hub) (n id : Nat) (f : Desc → Desc) : (h.onDesc n id f).dir = h.dir := (rfl)
@[simp] theorem Hub.onDesc_map (h : Hub) (n id : Nat) (f : Desc → Desc) : (h.onDesc n id f).map = h.map := (rfl)
@[simp] theorem Hub.onDesc_mast (h : Hub) (n id : Nat) (f : Desc → Desc) : (h.onDesc n id f).mast = h.mast := (rfl)
@[simp] theorem Hub.onDesc_ser (h : Hub) (n id : Nat) (f : Desc → Desc) : (h.onDesc n id f).ser = h.ser := (rfl)
@[simp] theorem Hub.onDesc_crew (h : Hub) (n id : Nat) (f : Desc → Desc) : (h.onDesc n id f).crew = h.crew := (rfl)
@[simp] theorem Hub.onDesc_spar (h : Hub) (n id : Nat) (f : Desc → Desc) : (h.onDesc n id f).spar = h.spar := (rfl)
@[simp] theorem Hub.onDesc_trim (h : Hub) (n id : Nat) (f : Desc → Desc) : (h.onDesc n id f).trim = h.trim := (rfl)
@[simp] theorem Hub.onDesc_sns (h : Hub) (n id : Nat) (f : Desc → Desc) : (h.onDesc n id f).sns = h.sns := (rfl)
@[simp] theorem Hub.onDesc_test (h : Hub) (n id : Nat) (f : Desc → Desc) : (h.onDesc n id f).test = h.test := (rfl)

/-! ## onSite -/

@[simp] theorem Hub.onSite_regs (h : Hub) (k : Nat) (f : SiteS → SiteS) : (h.onSite k f).regs = h.regs := (rfl)
@[simp] theorem Hub.onSite_clock (h : Hub) (k : Nat) (f : SiteS → SiteS) : (h.onSite k f).clock = h.clock := (rfl)
@[simp] theorem Hub.onSite_draws (h : Hub) (k : Nat) (f : SiteS → SiteS) : (h.onSite k f).draws = h.draws := (rfl)
@[simp] theorem Hub.onSite_out (h : Hub) (k : Nat) (f : SiteS → SiteS) : (h.onSite k f).out = h.out := (rfl)
@[simp] theorem Hub.onSite_pins (h : Hub) (k : Nat) (f : SiteS → SiteS) : (h.onSite k f).pins = h.pins := (rfl)
@[simp] theorem Hub.onSite_power (h : Hub) (k : Nat) (f : SiteS → SiteS) : (h.onSite k f).power = h.power := (rfl)
@[simp] theorem Hub.onSite_boot (h : Hub) (k : Nat) (f : SiteS → SiteS) : (h.onSite k f).boot = h.boot := (rfl)
@[simp] theorem Hub.onSite_fail (h : Hub) (k : Nat) (f : SiteS → SiteS) : (h.onSite k f).fail = h.fail := (rfl)
@[simp] theorem Hub.onSite_ras (h : Hub) (k : Nat) (f : SiteS → SiteS) : (h.onSite k f).ras = h.ras := (rfl)
@[simp] theorem Hub.onSite_yew (h : Hub) (k : Nat) (f : SiteS → SiteS) : (h.onSite k f).yew = h.yew := (rfl)
@[simp] theorem Hub.onSite_pcie (h : Hub) (k : Nat) (f : SiteS → SiteS) : (h.onSite k f).pcie = h.pcie := (rfl)
@[simp] theorem Hub.onSite_rings (h : Hub) (k : Nat) (f : SiteS → SiteS) : (h.onSite k f).rings = h.rings := (rfl)
@[simp] theorem Hub.onSite_disp (h : Hub) (k : Nat) (f : SiteS → SiteS) : (h.onSite k f).disp = h.disp := (rfl)
@[simp] theorem Hub.onSite_cleat (h : Hub) (k : Nat) (f : SiteS → SiteS) : (h.onSite k f).cleat = h.cleat := (rfl)
@[simp] theorem Hub.onSite_time (h : Hub) (k : Nat) (f : SiteS → SiteS) : (h.onSite k f).time = h.time := (rfl)
@[simp] theorem Hub.onSite_memch (h : Hub) (k : Nat) (f : SiteS → SiteS) : (h.onSite k f).memch = h.memch := (rfl)
@[simp] theorem Hub.onSite_dir (h : Hub) (k : Nat) (f : SiteS → SiteS) : (h.onSite k f).dir = h.dir := (rfl)
@[simp] theorem Hub.onSite_map (h : Hub) (k : Nat) (f : SiteS → SiteS) : (h.onSite k f).map = h.map := (rfl)
@[simp] theorem Hub.onSite_mast (h : Hub) (k : Nat) (f : SiteS → SiteS) : (h.onSite k f).mast = h.mast := (rfl)
@[simp] theorem Hub.onSite_ser (h : Hub) (k : Nat) (f : SiteS → SiteS) : (h.onSite k f).ser = h.ser := (rfl)
@[simp] theorem Hub.onSite_crew (h : Hub) (k : Nat) (f : SiteS → SiteS) : (h.onSite k f).crew = h.crew := (rfl)
@[simp] theorem Hub.onSite_spar (h : Hub) (k : Nat) (f : SiteS → SiteS) : (h.onSite k f).spar = h.spar := (rfl)
@[simp] theorem Hub.onSite_trim (h : Hub) (k : Nat) (f : SiteS → SiteS) : (h.onSite k f).trim = h.trim := (rfl)
@[simp] theorem Hub.onSite_sns (h : Hub) (k : Nat) (f : SiteS → SiteS) : (h.onSite k f).sns = h.sns := (rfl)
@[simp] theorem Hub.onSite_test (h : Hub) (k : Nat) (f : SiteS → SiteS) : (h.onSite k f).test = h.test := (rfl)

/-! ## add64 -/

@[simp] theorem Hub.add64_clock (h : Hub) (lo hi n : Nat) : (h.add64 lo hi n).clock = h.clock := (rfl)
@[simp] theorem Hub.add64_draws (h : Hub) (lo hi n : Nat) : (h.add64 lo hi n).draws = h.draws := (rfl)
@[simp] theorem Hub.add64_out (h : Hub) (lo hi n : Nat) : (h.add64 lo hi n).out = h.out := (rfl)
@[simp] theorem Hub.add64_pins (h : Hub) (lo hi n : Nat) : (h.add64 lo hi n).pins = h.pins := (rfl)
@[simp] theorem Hub.add64_power (h : Hub) (lo hi n : Nat) : (h.add64 lo hi n).power = h.power := (rfl)
@[simp] theorem Hub.add64_boot (h : Hub) (lo hi n : Nat) : (h.add64 lo hi n).boot = h.boot := (rfl)
@[simp] theorem Hub.add64_fail (h : Hub) (lo hi n : Nat) : (h.add64 lo hi n).fail = h.fail := (rfl)
@[simp] theorem Hub.add64_ras (h : Hub) (lo hi n : Nat) : (h.add64 lo hi n).ras = h.ras := (rfl)
@[simp] theorem Hub.add64_yew (h : Hub) (lo hi n : Nat) : (h.add64 lo hi n).yew = h.yew := (rfl)
@[simp] theorem Hub.add64_pcie (h : Hub) (lo hi n : Nat) : (h.add64 lo hi n).pcie = h.pcie := (rfl)
@[simp] theorem Hub.add64_rings (h : Hub) (lo hi n : Nat) : (h.add64 lo hi n).rings = h.rings := (rfl)
@[simp] theorem Hub.add64_disp (h : Hub) (lo hi n : Nat) : (h.add64 lo hi n).disp = h.disp := (rfl)
@[simp] theorem Hub.add64_cleat (h : Hub) (lo hi n : Nat) : (h.add64 lo hi n).cleat = h.cleat := (rfl)
@[simp] theorem Hub.add64_time (h : Hub) (lo hi n : Nat) : (h.add64 lo hi n).time = h.time := (rfl)
@[simp] theorem Hub.add64_memch (h : Hub) (lo hi n : Nat) : (h.add64 lo hi n).memch = h.memch := (rfl)
@[simp] theorem Hub.add64_sites (h : Hub) (lo hi n : Nat) : (h.add64 lo hi n).sites = h.sites := (rfl)
@[simp] theorem Hub.add64_dir (h : Hub) (lo hi n : Nat) : (h.add64 lo hi n).dir = h.dir := (rfl)
@[simp] theorem Hub.add64_map (h : Hub) (lo hi n : Nat) : (h.add64 lo hi n).map = h.map := (rfl)
@[simp] theorem Hub.add64_mast (h : Hub) (lo hi n : Nat) : (h.add64 lo hi n).mast = h.mast := (rfl)
@[simp] theorem Hub.add64_ser (h : Hub) (lo hi n : Nat) : (h.add64 lo hi n).ser = h.ser := (rfl)
@[simp] theorem Hub.add64_crew (h : Hub) (lo hi n : Nat) : (h.add64 lo hi n).crew = h.crew := (rfl)
@[simp] theorem Hub.add64_spar (h : Hub) (lo hi n : Nat) : (h.add64 lo hi n).spar = h.spar := (rfl)
@[simp] theorem Hub.add64_trim (h : Hub) (lo hi n : Nat) : (h.add64 lo hi n).trim = h.trim := (rfl)
@[simp] theorem Hub.add64_sns (h : Hub) (lo hi n : Nat) : (h.add64 lo hi n).sns = h.sns := (rfl)
@[simp] theorem Hub.add64_test (h : Hub) (lo hi n : Nat) : (h.add64 lo hi n).test = h.test := (rfl)

/-! ## The hub's operations on its own counters -/

@[simp] theorem Hub.drew_draws (h : Hub) : h.drew.draws = h.draws + 1 := (rfl)
@[simp] theorem Hub.send_out (h : Hub) (o : Out) : (h.send o).out = o :: h.out := (rfl)
theorem Hub.drew_reg (h : Hub) (a : Nat) : (h.drew).reg a = h.reg a := (rfl)
theorem Hub.drew_get (h : Hub) (g : RF) : (h.drew).get g = h.get g := (rfl)
theorem Hub.send_reg (h : Hub) (o : Out) (a : Nat) : (h.send o).reg a = h.reg a := (rfl)
theorem Hub.send_get (h : Hub) (o : Out) (g : RF) : (h.send o).get g = h.get g := (rfl)
theorem Hub.setRing_reg (h : Hub) (n : Nat) (r : RingS) (a : Nat) : (h.setRing n r).reg a = h.reg a := (rfl)
theorem Hub.setRing_get (h : Hub) (n : Nat) (r : RingS) (g : RF) : (h.setRing n r).get g = h.get g := (rfl)
theorem Hub.onDesc_reg (h : Hub) (n id : Nat) (f : Desc → Desc) (a : Nat) : (h.onDesc n id f).reg a = h.reg a := (rfl)
theorem Hub.onDesc_get (h : Hub) (n id : Nat) (f : Desc → Desc) (g : RF) : (h.onDesc n id f).get g = h.get g := (rfl)
theorem Hub.onSite_reg (h : Hub) (k : Nat) (f : SiteS → SiteS) (a : Nat) : (h.onSite k f).reg a = h.reg a := (rfl)
theorem Hub.onSite_get (h : Hub) (k : Nat) (f : SiteS → SiteS) (g : RF) : (h.onSite k f).get g = h.get g := (rfl)

/-- A register reads the same in every hub with the same registers. -/
theorem Hub.reg_congr {h g : Hub} (e : g.regs = h.regs) (a : Nat) : g.reg a = h.reg a := by unfold Hub.reg; rw [e]

/-- A field reads the same in every hub with the same registers. -/
theorem Hub.get_congr {h g : Hub} (e : g.regs = h.regs) (f : RF) : g.get f = h.get f := by
  unfold Hub.get; rw [Hub.reg_congr e]

/-! ## How a meaning answers -/

/-- A command with operands that name things that exist answers a next state: `f` of the hub. -/
theorem State.act_next {ok : Bool} (hk : ok = true) (f : Hub → Hub) (s : State) :
    State.act ok f s = .next { s with hub := f s.hub } := by simp [State.act, hk]

/-- The same for a command that may touch stored data. -/
theorem State.actMem_next {ok : Bool} (hk : ok = true) (f : Chip → Chip) (s : State) :
    State.actMem ok f s = .next { s with hub := (f ⟨s.hub, s.mem⟩).hub, mem := (f ⟨s.hub, s.mem⟩).mem } := by
  simp [State.actMem, hk]

/-- A command that names something that does not exist stops. -/
theorem State.act_fault {ok : Bool} (hk : ok = false) (f : Hub → Hub) (s : State) :
    State.act ok f s = .fault .noSuchUnit := by simp [State.act, hk]

theorem State.actMem_fault {ok : Bool} (hk : ok = false) (f : Chip → Chip) (s : State) :
    State.actMem ok f s = .fault .noSuchUnit := by simp [State.actMem, hk]

/-- What `act` answers is the next state and nothing else: the stored data and the queue are as before. -/
theorem State.act_inv {ok : Bool} {f : Hub → Hub} {s t : State} (h : State.act ok f s = .next t) :
    ok = true ∧ t = { s with hub := f s.hub } := by
  cases ok <;> simp [State.act] at h
  exact ⟨rfl, h.symm⟩

theorem State.actMem_inv {ok : Bool} {f : Chip → Chip} {s t : State} (h : State.actMem ok f s = .next t) :
    ok = true ∧ t.hub = (f ⟨s.hub, s.mem⟩).hub ∧ t.mem = (f ⟨s.hub, s.mem⟩).mem ∧ t.pending = s.pending := by
  cases ok <;> simp [State.actMem] at h
  subst h; exact ⟨rfl, rfl, rfl, rfl⟩

end Sys2Proof.Machine
end

