-- ==== Sys2Proof/Laws/Regs.lean ====
section
/-!
SUPPORT. Laws of the register file: a field reads back what was put into it; other words, and other fields of the same word,
are untouched.
-/
namespace Sys2Proof.Machine

theorem Hub.reg_setReg_same (h : Hub) (a : Nat) (w : Word) : (h.setReg a w).reg a = w :=
  Store.get_set_same _ _ _ _

theorem Hub.reg_setReg_ne (h : Hub) {a b : Nat} (w : Word) (hb : b ≠ a) : (h.setReg a w).reg b = h.reg b :=
  Store.get_set_ne _ _ w hb

theorem Hub.reg_put_ne (h : Hub) (f : RF) (v : Nat) {b : Nat} (hb : b ≠ f.off) : (h.put f v).reg b = h.reg b :=
  Hub.reg_setReg_ne h _ hb

theorem Hub.get_setReg_ne (h : Hub) {a : Nat} (g : RF) (w : Word) (hb : g.off ≠ a) : (h.setReg a w).get g = h.get g := by
  unfold Hub.get; rw [Hub.reg_setReg_ne h w hb]

/-- A field of a word that was stored whole. -/
theorem Hub.get_setReg_same (h : Hub) (g : RF) (w : Word) : (h.setReg g.off w).get g = bitsOf w g.lo g.width := by
  simp [Hub.get, Hub.reg_setReg_same]

/-- A field reads back what was put into it, modulo its width. -/
theorem Hub.get_put_same (h : Hub) (f : RF) (v : Nat) (hf : f.lo + f.width ≤ 32) : (h.put f v).get f = v % 2 ^ f.width := by
  simp [Hub.get, Hub.put, Hub.reg_setReg_same, bitsOf_setBits_same _ _ _ _ hf]

/-- A field of another word is untouched. -/
theorem Hub.get_put_ne (h : Hub) (f g : RF) (v : Nat) (hg : g.off ≠ f.off) : (h.put f v).get g = h.get g :=
  Hub.get_setReg_ne h g _ hg

/-- Another field of the same word is untouched. -/
theorem Hub.get_put_apart (h : Hub) (f g : RF) (v : Nat) (hf : f.lo + f.width ≤ 32)
    (hg : f.lo + f.width ≤ g.lo ∨ g.lo + g.width ≤ f.lo) : (h.put f v).get g = h.get g := by
  by_cases ho : g.off = f.off
  · unfold Hub.get Hub.put
    rw [ho, Hub.reg_setReg_same]
    rcases hg with hg | hg
    · exact bitsOf_setBits_above _ _ _ _ _ _ hf hg
    · exact bitsOf_setBits_below _ _ _ _ _ _ hf hg
  · exact Hub.get_put_ne h f g v ho

theorem Hub.get_lt (h : Hub) (f : RF) : h.get f < 2 ^ f.width := bitsOf_lt _ _ _

theorem Hub.on_eq (h : Hub) (f : RF) : h.on f = (h.get f != 0) := rfl

/-- `putFree` writes its field only. -/
theorem Hub.get_putFree_ne (h : Hub) (f g : RF) (hg : g.off ≠ f.off) : (h.putFree f).get g = h.get g :=
  Hub.get_put_ne h f g _ hg

/-- A counter's step, below its end. -/
theorem Hub.bump_eq (h : Hub) (f : RF) (n : Nat) (hn : h.get f + n < 2 ^ f.width) : h.bump f n = h.put f (h.get f + n) := by
  simp [Hub.bump, hn]

theorem Hub.get_bump_same (h : Hub) (f : RF) (n : Nat) (hf : f.lo + f.width ≤ 32) (hn : h.get f + n < 2 ^ f.width) :
    (h.bump f n).get f = h.get f + n := by
  rw [Hub.bump_eq h f n hn, Hub.get_put_same h f _ hf, Nat.mod_eq_of_lt hn]

theorem Hub.get_bump_ne (h : Hub) (f g : RF) (n : Nat) (hg : g.off ≠ f.off) : (h.bump f n).get g = h.get g := by
  unfold Hub.bump
  split
  · exact Hub.get_put_ne h f g _ hg
  · exact Hub.get_putFree_ne h f g hg

theorem Hub.get_add64_ne (h : Hub) (lo hi n : Nat) (g : RF) (h1 : g.off ≠ lo) (h2 : g.off ≠ hi) :
    (h.add64 lo hi n).get g = h.get g := by
  unfold Hub.add64
  rw [Hub.get_setReg_ne _ g _ h2, Hub.get_setReg_ne _ g _ h1]

/-! ## Runs of an operation -/

/-- A reflexive and transitive relation that every step keeps is kept by the whole run. -/
theorem Hub.upto_rel {Rel : Hub → Hub → Prop} (refl : ∀ h, Rel h h) (trans : ∀ a b c, Rel a b → Rel b c → Rel a c)
    {n : Nat} {f : Nat → Hub → Hub} (step : ∀ k, k < n → ∀ h, Rel h (f k h)) (h : Hub) : Rel h (h.upto n f) := by
  unfold Hub.upto
  have key : ∀ (l : List Nat), (∀ k ∈ l, k < n) → ∀ g, Rel g (l.foldl (fun g k => f k g) g) := by
    intro l
    induction l with
    | nil => intro _ g; exact refl g
    | cons a l ih =>
      intro hl g
      exact trans _ _ _ (step a (hl a (List.mem_cons_self ..)) g) (ih (fun k hk => hl k (List.mem_cons_of_mem _ hk)) _)
  exact key _ (fun k hk => List.mem_range.1 hk) h

theorem Hub.each_rel {α : Type} {Rel : Hub → Hub → Prop} (refl : ∀ h, Rel h h)
    (trans : ∀ a b c, Rel a b → Rel b c → Rel a c) {l : List α} {f : α → Hub → Hub}
    (step : ∀ a, a ∈ l → ∀ h, Rel h (f a h)) (h : Hub) : Rel h (h.each l f) := by
  unfold Hub.each
  induction l generalizing h with
  | nil => exact refl h
  | cons a l ih =>
    exact trans _ _ _ (step a (List.mem_cons_self ..) h) (ih (fun b hb => step b (List.mem_cons_of_mem _ hb)) _)

end Sys2Proof.Machine
end

