-- ==== Sys2Proof/Laws/Log.lean ====
section
/-!
SUPPORT. What logging, counting and signalling can do, said once: a `Quiet` operation writes registers of a stated set, the
RAS and Yew logs, the model's own record of what was sent and of free values, and nothing else.
-/
namespace Sys2Proof.Machine

theorem Hub.Quiet.refl (W : Nat → Prop) (h : Hub) : Hub.Quiet W h h :=
  { reg := fun _ _ => rfl, sent := ⟨[], rfl⟩, clock := rfl, pins := rfl, power := rfl, boot := rfl, fail := rfl, pcie := rfl, rings := rfl, disp := rfl, cleat := rfl, time := rfl, memch := rfl, sites := rfl, dir := rfl, map := rfl, mast := rfl, ser := rfl, crew := rfl, spar := rfl, trim := rfl, sns := rfl, test := rfl }

theorem Hub.Quiet.trans {W : Nat → Prop} {a b c : Hub} (x : Hub.Quiet W a b) (y : Hub.Quiet W b c) : Hub.Quiet W a c :=
  { reg := fun k hk => (y.reg k hk).trans (x.reg k hk)
    sent := by
      obtain ⟨l, hl⟩ := x.sent
      obtain ⟨m, hm⟩ := y.sent
      exact ⟨m ++ l, by rw [hm, hl, List.append_assoc]⟩
    clock := y.clock.trans x.clock
    pins := y.pins.trans x.pins
    power := y.power.trans x.power
    boot := y.boot.trans x.boot
    fail := y.fail.trans x.fail
    pcie := y.pcie.trans x.pcie
    rings := y.rings.trans x.rings
    disp := y.disp.trans x.disp
    cleat := y.cleat.trans x.cleat
    time := y.time.trans x.time
    memch := y.memch.trans x.memch
    sites := y.sites.trans x.sites
    dir := y.dir.trans x.dir
    map := y.map.trans x.map
    mast := y.mast.trans x.mast
    ser := y.ser.trans x.ser
    crew := y.crew.trans x.crew
    spar := y.spar.trans x.spar
    trim := y.trim.trans x.trim
    sns := y.sns.trans x.sns
    test := y.test.trans x.test
  }

theorem Hub.Quiet.mono {W V : Nat → Prop} {a b : Hub} (x : Hub.Quiet W a b) (hv : ∀ k, W k → V k) : Hub.Quiet V a b :=
  { x with reg := fun k hk => x.reg k fun hw => hk (hv k hw) }

theorem Hub.Quiet.get {W : Nat → Prop} {a b : Hub} (x : Hub.Quiet W a b) (f : RF) (hf : ¬ W f.off) : b.get f = a.get f := by
  unfold Hub.get; rw [x.reg f.off hf]

theorem Hub.Quiet.on {W : Nat → Prop} {a b : Hub} (x : Hub.Quiet W a b) (f : RF) (hf : ¬ W f.off) : b.on f = a.on f := by
  unfold Hub.on; rw [x.get f hf]

theorem Hub.quiet_setReg {W : Nat → Prop} (h : Hub) {a : Nat} (w : Word) (ha : W a) : Hub.Quiet W h (h.setReg a w) :=
  { Hub.Quiet.refl W h with reg := fun _ hk => Hub.reg_setReg_ne h w fun e => hk (e ▸ ha) }

theorem Hub.quiet_put {W : Nat → Prop} (h : Hub) {f : RF} (v : Nat) (hf : W f.off) : Hub.Quiet W h (h.put f v) :=
  Hub.quiet_setReg h _ hf

theorem Hub.quiet_drew (W : Nat → Prop) (h : Hub) : Hub.Quiet W h h.drew := { Hub.Quiet.refl W h with reg := fun _ _ => rfl }

theorem Hub.quiet_send (W : Nat → Prop) (h : Hub) (o : Out) : Hub.Quiet W h (h.send o) :=
  { Hub.Quiet.refl W h with reg := fun _ _ => rfl, sent := ⟨[o], rfl⟩ }

theorem Hub.quiet_putFree {W : Nat → Prop} (h : Hub) {f : RF} (hf : W f.off) : Hub.Quiet W h (h.putFree f) :=
  (Hub.quiet_put h _ hf).trans (Hub.quiet_drew W _)

theorem Hub.quiet_bump {W : Nat → Prop} (h : Hub) {f : RF} (n : Nat) (hf : W f.off) : Hub.Quiet W h (h.bump f n) := by
  unfold Hub.bump
  split
  · exact Hub.quiet_put h _ hf
  · exact Hub.quiet_putFree h hf

theorem Hub.quiet_add64 {W : Nat → Prop} (h : Hub) {lo hi : Nat} (n : Nat) (h1 : W lo) (h2 : W hi) :
    Hub.Quiet W h (h.add64 lo hi n) :=
  (Hub.quiet_setReg h _ h1).trans (Hub.quiet_setReg _ _ h2)

theorem Hub.quiet_ras (W : Nat → Prop) (h : Hub) (r : RasS) : Hub.Quiet W h { h with ras := r } :=
  { Hub.Quiet.refl W h with reg := fun _ _ => rfl }

theorem Hub.quiet_yew (W : Nat → Prop) (h : Hub) (y : YewS) : Hub.Quiet W h { h with yew := y } :=
  { Hub.Quiet.refl W h with reg := fun _ _ => rfl }

theorem Hub.quiet_upto {W : Nat → Prop} {n : Nat} {f : Nat → Hub → Hub} (step : ∀ k, k < n → ∀ h, Hub.Quiet W h (f k h))
    (h : Hub) : Hub.Quiet W h (h.upto n f) :=
  Hub.upto_rel (Hub.Quiet.refl W) (fun _ _ _ => Hub.Quiet.trans) step h

theorem Hub.quiet_each {α : Type} {W : Nat → Prop} {l : List α} {f : α → Hub → Hub}
    (step : ∀ a, a ∈ l → ∀ h, Hub.Quiet W h (f a h)) (h : Hub) : Hub.Quiet W h (h.each l f) :=
  Hub.each_rel (Hub.Quiet.refl W) (fun _ _ _ => Hub.Quiet.trans) step h

/-! ## MSI-X, counters and logs -/

/-- Sending one of the PF's vectors: a message, or its pending bit. -/
theorem Hub.quiet_sendVector (h : Hub) {vec : Nat} (hv : vec < 2048) : Hub.Quiet logReg h (h.sendVector 0 vec) := by
  unfold Hub.sendVector
  split
  · exact Hub.Quiet.refl _ h
  · split
    · exact Hub.quiet_put h _ (by unfold logReg; simp only; omega)
    · exact Hub.quiet_send _ h _

theorem Hub.quiet_countEvents (h : Hub) (code n : Nat) : Hub.Quiet evtReg h (h.countEvents code n) := by
  refine Hub.quiet_upto (fun k hk g => ?_) h
  split
  · exact Hub.quiet_add64 g n (by unfold evtReg; simp only; omega) (by unfold evtReg; simp only; omega)
  · exact Hub.Quiet.refl _ g

theorem Hub.quiet_countEvent (h : Hub) (code : Nat) : Hub.Quiet evtReg h (h.countEvent code) := Hub.quiet_countEvents h code 1

theorem Hub.quiet_rasIrq (h : Hub) (sev : Nat) : Hub.Quiet logReg h (h.rasIrq sev) := by
  unfold Hub.rasIrq
  simp only []
  split <;> split
  all_goals first
    | exact (Hub.quiet_sendVector h (Nat.lt_trans (Nat.mod_lt _ (by decide)) (by decide))).trans (Hub.quiet_ras _ _ _)
    | exact Hub.Quiet.refl _ h

theorem Hub.quiet_rasCountNewest (h : Hub) : Hub.Quiet logReg h h.rasCountNewest := by
  unfold Hub.rasCountNewest
  refine Hub.quiet_put h _ ?_
  have := Nat.mod_lt (h.get R.RAS_LOG_PTR_PROD + 1023) (show 0 < 1024 by decide)
  unfold logReg; simp only; omega

theorem Hub.quiet_rasPush (h : Hub) (e : RasEntry) : Hub.Quiet logReg h (h.rasPush e) := by
  have hk : h.get R.RAS_LOG_PTR_PROD < 1024 := Hub.get_lt h R.RAS_LOG_PTR_PROD
  unfold Hub.rasPush
  refine Hub.Quiet.trans ?_ (Hub.quiet_rasIrq _ _)
  have hl : logReg (R.RAS_LOG_PTR_PROD).off := by unfold logReg; simp
  have hl2 : logReg (R.RAS_LOG_STAT_LOST).off := by unfold logReg; simp
  have hl3 : logReg (R.RAS_LOG_PTR_CONS).off := by unfold logReg; simp
  have h1 : ∀ g : Hub, Hub.Quiet logReg g (g.upto 8 fun j g =>
      g.put (R.RAS_LOG_WORD (h.get R.RAS_LOG_PTR_PROD) j) ((e.words h.now (h.ras.seq + 1)).getD j 0)) := fun g =>
    Hub.quiet_upto (fun j hj g => Hub.quiet_put g _ (by unfold logReg; simp only; omega)) g
  simp only []
  split
  · exact ((((h1 h).trans (Hub.quiet_ras _ _ _)).trans (Hub.quiet_put _ _ hl)).trans (Hub.quiet_put _ _ hl3)).trans
      (Hub.quiet_bump _ _ hl2)
  · exact ((h1 h).trans (Hub.quiet_ras _ _ _)).trans (Hub.quiet_put _ _ hl)

theorem Hub.quiet_rasWrite (h : Hub) (e : RasEntry) : Hub.Quiet logReg h (h.rasWrite e) := by
  unfold Hub.rasWrite
  split
  · exact Hub.quiet_rasCountNewest h
  · exact Hub.quiet_rasPush h e

theorem Hub.quiet_programBlock (recs : List YewRec) (h : Hub) : Hub.Quiet logReg h (h.programBlock recs) := by
  unfold Hub.programBlock
  have hs : logReg (R.YEW_XSPI_STAT_LAG).off := by unfold logReg; simp
  have ho : logReg (R.YEW_OLDEST_SEQ).off := by unfold logReg; simp
  have ha : logReg (R.RAS_FLIP_CTRL_ARM).off := by unfold logReg; simp
  have hf : logReg (R.RAS_FLIP_CTRL_FIRED).off := by unfold logReg; simp
  have oldest : ∀ g : Hub, Hub.Quiet logReg g (match g.yew.blocks with
      | [] => g
      | e :: _ => match e.2.recs with
        | [] => g
        | r :: _ => g.put R.YEW_OLDEST_SEQ r.seq) := by
    intro g
    split
    · exact Hub.Quiet.refl _ g
    · split
      · exact Hub.Quiet.refl _ g
      · exact Hub.quiet_put g _ ho
  simp only []
  split
  · exact (((((Hub.quiet_yew _ h _).trans (Hub.quiet_put _ _ hs)).trans (oldest _)).trans (Hub.quiet_put _ _ ha)).trans
      (Hub.quiet_put _ _ hf)).trans (Hub.quiet_rasWrite _ _)
  · exact ((Hub.quiet_yew _ h _).trans (Hub.quiet_put _ _ hs)).trans (oldest _)

theorem Hub.quiet_flushStaged (h : Hub) : Hub.Quiet logReg h h.flushStaged := by
  unfold Hub.flushStaged
  split
  · exact Hub.Quiet.refl _ h
  · exact (Hub.quiet_yew _ h _).trans (Hub.quiet_programBlock _ _)

theorem Hub.quiet_yewStage (type sev flags : Nat) (p : List Byte) (h : Hub) : Hub.Quiet logReg h (h.yewStage type sev flags p) :=
  (Hub.quiet_yew _ h _).trans (Hub.quiet_put _ _ (by unfold logReg; simp))

theorem Hub.quiet_yewRecordWith (flags type sev : Nat) (b : Bool) (p : List Byte) (h : Hub) :
    Hub.Quiet logReg h (h.yewRecordWith flags type sev b p) := by
  unfold Hub.yewRecordWith
  have hs : logReg (R.YEW_STAT_SUPPRESSED).off := by unfold logReg; simp
  split
  · exact (Hub.quiet_yew _ h _).trans (Hub.quiet_bump _ _ hs)
  · have staged : ∀ g : Hub, Hub.Quiet logReg g (if 8 ≤ (g.yewStage type sev flags p).yew.staged.length ∨ sev = 3
        then (g.yewStage type sev flags p).flushStaged else g.yewStage type sev flags p) := by
      intro g
      split
      · exact (Hub.quiet_yewStage _ _ _ _ g).trans (Hub.quiet_flushStaged _)
      · exact Hub.quiet_yewStage _ _ _ _ g
    cases b
    · exact (Hub.quiet_yew _ h _).trans (staged _)
    · exact staged h

theorem Hub.quiet_yewRecord (type sev : Nat) (b : Bool) (p : List Byte) (h : Hub) :
    Hub.Quiet logReg h (h.yewRecord type sev b p) := Hub.quiet_yewRecordWith _ _ _ _ _ h

theorem Hub.quiet_escNote (code : Nat) (h : Hub) : Hub.Quiet logReg h (h.escNote code) := Hub.quiet_yew _ h _

/-- A WARNING writes the Yew log and nothing else. -/
theorem Hub.quiet_warn (code cls detail unit : Nat) (h : Hub) : Hub.Quiet logReg h (h.warn code cls detail unit) :=
  (Hub.quiet_escNote code h).trans (Hub.quiet_yewRecord _ _ _ _ _)

theorem Hub.quiet_faultRecord (code cls unit : Nat) (h : Hub) : Hub.Quiet logReg h (h.faultRecord code cls unit) :=
  ((Hub.quiet_bump h _ (by unfold logReg; simp)).trans (Hub.quiet_escNote code _)).trans (Hub.quiet_yewRecord _ _ _ _ _)

theorem Hub.quiet_rasLogWith (b : Bool) (e : RasEntry) (h : Hub) : Hub.Quiet logReg h (h.rasLogWith b e) := by
  have w : Hub.Quiet logReg h (if e.sev = 1 then (h.rasWrite e).warn 0x20 (if e.unit = 1 then 7 else 0) e.kind
      (if e.unit = 1 then e.inst else 0xFFFF) else h.rasWrite e) := by
    split
    · exact (Hub.quiet_rasWrite h e).trans (Hub.quiet_warn _ _ _ _ _)
    · exact Hub.quiet_rasWrite h e
  unfold Hub.rasLogWith
  simp only []
  split
  · exact w.trans (Hub.quiet_yewRecord _ _ _ _ _)
  · exact w

theorem Hub.quiet_rasLog (e : RasEntry) (h : Hub) : Hub.Quiet logReg h (h.rasLog e) := Hub.quiet_rasLogWith _ e h

/-- An ignored access is logged, and nothing else happens. -/
theorem Hub.quiet_logAccess (kind : Nat) (req : Path) (off v : Nat) (h : Hub) :
    Hub.Quiet logReg h (h.logAccess kind req off v) := Hub.quiet_rasLog _ h

theorem Hub.quiet_notice (what detail : Nat) (h : Hub) : Hub.Quiet logReg h (h.notice what detail) := Hub.quiet_rasLog _ h

end Sys2Proof.Machine
end

