-- ==== Sys2Proof/Laws/Norm.lean ====
section
/-!
SUPPORT. The normal form in which proofs compare registers: every read of the hub's registers is a read of its list, so that
an update of another part of the hub vanishes, and every write is a write of that list.
-/
namespace Sys2Proof.Machine

/-- The word at `off` in a list of registers. -/
def rword (l : List (Nat × Word)) (off : Nat) : Word := Store.get resetWord l off

/-- A field in a list of registers. -/
def rget (l : List (Nat × Word)) (f : RF) : Nat := bitsOf (rword l f.off) f.lo f.width

/-- A list of registers with one word written. -/
def rset (l : List (Nat × Word)) (off : Nat) (w : Word) : List (Nat × Word) := Store.set resetWord l off w

/-- A list of registers with one field written. -/
def rput (l : List (Nat × Word)) (f : RF) (v : Nat) : List (Nat × Word) := rset l f.off (setBits (rword l f.off) f.lo f.width v)

@[simp] theorem Hub.reg_eq (h : Hub) (off : Nat) : h.reg off = rword h.regs off := (rfl)
@[simp] theorem Hub.get_eq (h : Hub) (f : RF) : h.get f = rget h.regs f := (rfl)
@[simp] theorem Hub.setReg_regs (h : Hub) (off : Nat) (w : Word) : (h.setReg off w).regs = rset h.regs off w := (rfl)
@[simp] theorem Hub.put_regs (h : Hub) (f : RF) (v : Nat) : (h.put f v).regs = rput h.regs f v := (rfl)
@[simp] theorem Hub.on_norm (h : Hub) (f : RF) : h.on f = (rget h.regs f != 0) := (rfl)
@[simp] theorem Hub.putFree_regs (h : Hub) (f : RF) : (h.putFree f).regs = rput h.regs f h.free := (rfl)

@[simp] theorem rword_rset_same (l : List (Nat × Word)) (a : Nat) (w : Word) : rword (rset l a w) a = w :=
  Store.get_set_same _ _ _ _

@[simp] theorem rword_rset_ne (l : List (Nat × Word)) (a b : Nat) (w : Word) (h : b ≠ a) :
    rword (rset l a w) b = rword l b := Store.get_set_ne _ _ w h

@[simp] theorem rword_rput_ne (l : List (Nat × Word)) (f : RF) (b v : Nat) (h : b ≠ f.off) :
    rword (rput l f v) b = rword l b := rword_rset_ne _ _ _ _ h

/-- A field reads back what was put into it, modulo its width. -/
@[simp] theorem rget_rput_same (l : List (Nat × Word)) (f : RF) (v : Nat) (hf : f.lo + f.width ≤ 32) :
    rget (rput l f v) f = v % 2 ^ f.width := by
  simp [rget, rput, bitsOf_setBits_same _ _ _ _ hf]

/-- A field of another word is untouched. -/
@[simp] theorem rget_rput_ne (l : List (Nat × Word)) (f g : RF) (v : Nat) (h : g.off ≠ f.off) :
    rget (rput l f v) g = rget l g := by
  simp [rget, rput, h]

/-- Another field of the same word is untouched. -/
@[simp] theorem rget_rput_apart (l : List (Nat × Word)) (f g : RF) (v : Nat) (hf : f.lo + f.width ≤ 32)
    (hg : f.lo + f.width ≤ g.lo ∨ g.lo + g.width ≤ f.lo) : rget (rput l f v) g = rget l g := by
  by_cases ho : g.off = f.off
  · simp only [rget, rput, ho, rword_rset_same]
    rcases hg with hg | hg
    · exact bitsOf_setBits_above _ _ _ _ _ _ hf hg
    · exact bitsOf_setBits_below _ _ _ _ _ _ hf hg
  · exact rget_rput_ne l f g v ho

@[simp] theorem rget_rset_ne (l : List (Nat × Word)) (a : Nat) (g : RF) (w : Word) (h : g.off ≠ a) :
    rget (rset l a w) g = rget l g := by simp [rget, h]

@[simp] theorem rget_rset_same (l : List (Nat × Word)) (g : RF) (w : Word) :
    rget (rset l g.off w) g = bitsOf w g.lo g.width := by simp [rget]

@[simp] theorem rget_rset_eq (l : List (Nat × Word)) (a : Nat) (g : RF) (w : Word) (h : g.off = a) :
    rget (rset l a w) g = bitsOf w g.lo g.width := by subst h; simp

theorem rget_lt (l : List (Nat × Word)) (f : RF) : rget l f < 2 ^ f.width := bitsOf_lt _ _ _

@[simp] theorem rget_mod (l : List (Nat × Word)) (f : RF) : rget l f % 2 ^ f.width = rget l f := Nat.mod_eq_of_lt (rget_lt l f)

/-- A field that is taken from a word fits where it is stored. -/
theorem bitsOf_lt_of (w : Word) (lo n : Nat) {k : Nat} (h : 2 ^ n ≤ k) : bitsOf w lo n < k := lt_of_lt_of_le (bitsOf_lt w lo n) h

theorem bitsOf_mod (w : Word) (lo n : Nat) {k : Nat} (h : 2 ^ n ≤ k) : bitsOf w lo n % k = bitsOf w lo n :=
  Nat.mod_eq_of_lt (bitsOf_lt_of w lo n h)

@[simp] theorem bitsOf_zero (lo n : Nat) : bitsOf 0#32 lo n = 0 := by simp [bitsOf]

/-! ## Logs and counters in normal form -/

theorem not_logReg {a : Nat} (h : a < 0xC000 ∨ (0xC100 ≤ a ∧ a < 0x500004) ∨ (0x510000 ≤ a ∧ a < 0xB00004) ∨ 0xB00028 ≤ a) :
    ¬ logReg a := by unfold logReg; omega

theorem not_evtReg {a : Nat} (h : a < 0x130200 ∨ 0x130280 ≤ a) : ¬ evtReg a := by unfold evtReg; omega

theorem Hub.Quiet.rget {W : Nat → Prop} {a b : Hub} (x : Hub.Quiet W a b) (f : RF) (hf : ¬ W f.off) :
    Machine.rget b.regs f = Machine.rget a.regs f := x.get f hf

@[simp] theorem Hub.warn_clock (h : Hub) (code cls detail unit : Nat) : (h.warn code cls detail unit).clock = h.clock := (Hub.quiet_warn code cls detail unit h).clock
@[simp] theorem Hub.warn_pins (h : Hub) (code cls detail unit : Nat) : (h.warn code cls detail unit).pins = h.pins := (Hub.quiet_warn code cls detail unit h).pins
@[simp] theorem Hub.warn_power (h : Hub) (code cls detail unit : Nat) : (h.warn code cls detail unit).power = h.power := (Hub.quiet_warn code cls detail unit h).power
@[simp] theorem Hub.warn_boot (h : Hub) (code cls detail unit : Nat) : (h.warn code cls detail unit).boot = h.boot := (Hub.quiet_warn code cls detail unit h).boot
@[simp] theorem Hub.warn_fail (h : Hub) (code cls detail unit : Nat) : (h.warn code cls detail unit).fail = h.fail := (Hub.quiet_warn code cls detail unit h).fail
@[simp] theorem Hub.warn_pcie (h : Hub) (code cls detail unit : Nat) : (h.warn code cls detail unit).pcie = h.pcie := (Hub.quiet_warn code cls detail unit h).pcie
@[simp] theorem Hub.warn_rings (h : Hub) (code cls detail unit : Nat) : (h.warn code cls detail unit).rings = h.rings := (Hub.quiet_warn code cls detail unit h).rings
@[simp] theorem Hub.warn_disp (h : Hub) (code cls detail unit : Nat) : (h.warn code cls detail unit).disp = h.disp := (Hub.quiet_warn code cls detail unit h).disp
@[simp] theorem Hub.warn_cleat (h : Hub) (code cls detail unit : Nat) : (h.warn code cls detail unit).cleat = h.cleat := (Hub.quiet_warn code cls detail unit h).cleat
@[simp] theorem Hub.warn_time (h : Hub) (code cls detail unit : Nat) : (h.warn code cls detail unit).time = h.time := (Hub.quiet_warn code cls detail unit h).time
@[simp] theorem Hub.warn_memch (h : Hub) (code cls detail unit : Nat) : (h.warn code cls detail unit).memch = h.memch := (Hub.quiet_warn code cls detail unit h).memch
@[simp] theorem Hub.warn_sites (h : Hub) (code cls detail unit : Nat) : (h.warn code cls detail unit).sites = h.sites := (Hub.quiet_warn code cls detail unit h).sites
@[simp] theorem Hub.warn_dir (h : Hub) (code cls detail unit : Nat) : (h.warn code cls detail unit).dir = h.dir := (Hub.quiet_warn code cls detail unit h).dir
@[simp] theorem Hub.warn_map (h : Hub) (code cls detail unit : Nat) : (h.warn code cls detail unit).map = h.map := (Hub.quiet_warn code cls detail unit h).map
@[simp] theorem Hub.warn_mast (h : Hub) (code cls detail unit : Nat) : (h.warn code cls detail unit).mast = h.mast := (Hub.quiet_warn code cls detail unit h).mast
@[simp] theorem Hub.warn_ser (h : Hub) (code cls detail unit : Nat) : (h.warn code cls detail unit).ser = h.ser := (Hub.quiet_warn code cls detail unit h).ser
@[simp] theorem Hub.warn_crew (h : Hub) (code cls detail unit : Nat) : (h.warn code cls detail unit).crew = h.crew := (Hub.quiet_warn code cls detail unit h).crew
@[simp] theorem Hub.warn_spar (h : Hub) (code cls detail unit : Nat) : (h.warn code cls detail unit).spar = h.spar := (Hub.quiet_warn code cls detail unit h).spar
@[simp] theorem Hub.warn_trim (h : Hub) (code cls detail unit : Nat) : (h.warn code cls detail unit).trim = h.trim := (Hub.quiet_warn code cls detail unit h).trim
@[simp] theorem Hub.warn_sns (h : Hub) (code cls detail unit : Nat) : (h.warn code cls detail unit).sns = h.sns := (Hub.quiet_warn code cls detail unit h).sns
@[simp] theorem Hub.warn_test (h : Hub) (code cls detail unit : Nat) : (h.warn code cls detail unit).test = h.test := (Hub.quiet_warn code cls detail unit h).test
@[simp] theorem Hub.warn_rget (h : Hub) (code cls detail unit : Nat) (f : RF)
    (hf : f.off < 0xC000 ∨ (0xC100 ≤ f.off ∧ f.off < 0x500004) ∨ (0x510000 ≤ f.off ∧ f.off < 0xB00004) ∨ 0xB00028 ≤ f.off) :
    rget (h.warn code cls detail unit).regs f = rget h.regs f := (Hub.quiet_warn code cls detail unit h).rget f (not_logReg hf)

@[simp] theorem Hub.rasLog_clock (h : Hub) (e : RasEntry) : (h.rasLog e).clock = h.clock := (Hub.quiet_rasLog e h).clock
@[simp] theorem Hub.rasLog_pins (h : Hub) (e : RasEntry) : (h.rasLog e).pins = h.pins := (Hub.quiet_rasLog e h).pins
@[simp] theorem Hub.rasLog_power (h : Hub) (e : RasEntry) : (h.rasLog e).power = h.power := (Hub.quiet_rasLog e h).power
@[simp] theorem Hub.rasLog_boot (h : Hub) (e : RasEntry) : (h.rasLog e).boot = h.boot := (Hub.quiet_rasLog e h).boot
@[simp] theorem Hub.rasLog_fail (h : Hub) (e : RasEntry) : (h.rasLog e).fail = h.fail := (Hub.quiet_rasLog e h).fail
@[simp] theorem Hub.rasLog_pcie (h : Hub) (e : RasEntry) : (h.rasLog e).pcie = h.pcie := (Hub.quiet_rasLog e h).pcie
@[simp] theorem Hub.rasLog_rings (h : Hub) (e : RasEntry) : (h.rasLog e).rings = h.rings := (Hub.quiet_rasLog e h).rings
@[simp] theorem Hub.rasLog_disp (h : Hub) (e : RasEntry) : (h.rasLog e).disp = h.disp := (Hub.quiet_rasLog e h).disp
@[simp] theorem Hub.rasLog_cleat (h : Hub) (e : RasEntry) : (h.rasLog e).cleat = h.cleat := (Hub.quiet_rasLog e h).cleat
@[simp] theorem Hub.rasLog_time (h : Hub) (e : RasEntry) : (h.rasLog e).time = h.time := (Hub.quiet_rasLog e h).time
@[simp] theorem Hub.rasLog_memch (h : Hub) (e : RasEntry) : (h.rasLog e).memch = h.memch := (Hub.quiet_rasLog e h).memch
@[simp] theorem Hub.rasLog_sites (h : Hub) (e : RasEntry) : (h.rasLog e).sites = h.sites := (Hub.quiet_rasLog e h).sites
@[simp] theorem Hub.rasLog_dir (h : Hub) (e : RasEntry) : (h.rasLog e).dir = h.dir := (Hub.quiet_rasLog e h).dir
@[simp] theorem Hub.rasLog_map (h : Hub) (e : RasEntry) : (h.rasLog e).map = h.map := (Hub.quiet_rasLog e h).map
@[simp] theorem Hub.rasLog_mast (h : Hub) (e : RasEntry) : (h.rasLog e).mast = h.mast := (Hub.quiet_rasLog e h).mast
@[simp] theorem Hub.rasLog_ser (h : Hub) (e : RasEntry) : (h.rasLog e).ser = h.ser := (Hub.quiet_rasLog e h).ser
@[simp] theorem Hub.rasLog_crew (h : Hub) (e : RasEntry) : (h.rasLog e).crew = h.crew := (Hub.quiet_rasLog e h).crew
@[simp] theorem Hub.rasLog_spar (h : Hub) (e : RasEntry) : (h.rasLog e).spar = h.spar := (Hub.quiet_rasLog e h).spar
@[simp] theorem Hub.rasLog_trim (h : Hub) (e : RasEntry) : (h.rasLog e).trim = h.trim := (Hub.quiet_rasLog e h).trim
@[simp] theorem Hub.rasLog_sns (h : Hub) (e : RasEntry) : (h.rasLog e).sns = h.sns := (Hub.quiet_rasLog e h).sns
@[simp] theorem Hub.rasLog_test (h : Hub) (e : RasEntry) : (h.rasLog e).test = h.test := (Hub.quiet_rasLog e h).test
@[simp] theorem Hub.rasLog_rget (h : Hub) (e : RasEntry) (f : RF)
    (hf : f.off < 0xC000 ∨ (0xC100 ≤ f.off ∧ f.off < 0x500004) ∨ (0x510000 ≤ f.off ∧ f.off < 0xB00004) ∨ 0xB00028 ≤ f.off) :
    rget (h.rasLog e).regs f = rget h.regs f := (Hub.quiet_rasLog e h).rget f (not_logReg hf)

@[simp] theorem Hub.logAccess_clock (h : Hub) (kind : Nat) (req : Path) (off v : Nat) : (h.logAccess kind req off v).clock = h.clock := (Hub.quiet_logAccess kind req off v h).clock
@[simp] theorem Hub.logAccess_pins (h : Hub) (kind : Nat) (req : Path) (off v : Nat) : (h.logAccess kind req off v).pins = h.pins := (Hub.quiet_logAccess kind req off v h).pins
@[simp] theorem Hub.logAccess_power (h : Hub) (kind : Nat) (req : Path) (off v : Nat) : (h.logAccess kind req off v).power = h.power := (Hub.quiet_logAccess kind req off v h).power
@[simp] theorem Hub.logAccess_boot (h : Hub) (kind : Nat) (req : Path) (off v : Nat) : (h.logAccess kind req off v).boot = h.boot := (Hub.quiet_logAccess kind req off v h).boot
@[simp] theorem Hub.logAccess_fail (h : Hub) (kind : Nat) (req : Path) (off v : Nat) : (h.logAccess kind req off v).fail = h.fail := (Hub.quiet_logAccess kind req off v h).fail
@[simp] theorem Hub.logAccess_pcie (h : Hub) (kind : Nat) (req : Path) (off v : Nat) : (h.logAccess kind req off v).pcie = h.pcie := (Hub.quiet_logAccess kind req off v h).pcie
@[simp] theorem Hub.logAccess_rings (h : Hub) (kind : Nat) (req : Path) (off v : Nat) : (h.logAccess kind req off v).rings = h.rings := (Hub.quiet_logAccess kind req off v h).rings
@[simp] theorem Hub.logAccess_disp (h : Hub) (kind : Nat) (req : Path) (off v : Nat) : (h.logAccess kind req off v).disp = h.disp := (Hub.quiet_logAccess kind req off v h).disp
@[simp] theorem Hub.logAccess_cleat (h : Hub) (kind : Nat) (req : Path) (off v : Nat) : (h.logAccess kind req off v).cleat = h.cleat := (Hub.quiet_logAccess kind req off v h).cleat
@[simp] theorem Hub.logAccess_time (h : Hub) (kind : Nat) (req : Path) (off v : Nat) : (h.logAccess kind req off v).time = h.time := (Hub.quiet_logAccess kind req off v h).time
@[simp] theorem Hub.logAccess_memch (h : Hub) (kind : Nat) (req : Path) (off v : Nat) : (h.logAccess kind req off v).memch = h.memch := (Hub.quiet_logAccess kind req off v h).memch
@[simp] theorem Hub.logAccess_sites (h : Hub) (kind : Nat) (req : Path) (off v : Nat) : (h.logAccess kind req off v).sites = h.sites := (Hub.quiet_logAccess kind req off v h).sites
@[simp] theorem Hub.logAccess_dir (h : Hub) (kind : Nat) (req : Path) (off v : Nat) : (h.logAccess kind req off v).dir = h.dir := (Hub.quiet_logAccess kind req off v h).dir
@[simp] theorem Hub.logAccess_map (h : Hub) (kind : Nat) (req : Path) (off v : Nat) : (h.logAccess kind req off v).map = h.map := (Hub.quiet_logAccess kind req off v h).map
@[simp] theorem Hub.logAccess_mast (h : Hub) (kind : Nat) (req : Path) (off v : Nat) : (h.logAccess kind req off v).mast = h.mast := (Hub.quiet_logAccess kind req off v h).mast
@[simp] theorem Hub.logAccess_ser (h : Hub) (kind : Nat) (req : Path) (off v : Nat) : (h.logAccess kind req off v).ser = h.ser := (Hub.quiet_logAccess kind req off v h).ser
@[simp] theorem Hub.logAccess_crew (h : Hub) (kind : Nat) (req : Path) (off v : Nat) : (h.logAccess kind req off v).crew = h.crew := (Hub.quiet_logAccess kind req off v h).crew
@[simp] theorem Hub.logAccess_spar (h : Hub) (kind : Nat) (req : Path) (off v : Nat) : (h.logAccess kind req off v).spar = h.spar := (Hub.quiet_logAccess kind req off v h).spar
@[simp] theorem Hub.logAccess_trim (h : Hub) (kind : Nat) (req : Path) (off v : Nat) : (h.logAccess kind req off v).trim = h.trim := (Hub.quiet_logAccess kind req off v h).trim
@[simp] theorem Hub.logAccess_sns (h : Hub) (kind : Nat) (req : Path) (off v : Nat) : (h.logAccess kind req off v).sns = h.sns := (Hub.quiet_logAccess kind req off v h).sns
@[simp] theorem Hub.logAccess_test (h : Hub) (kind : Nat) (req : Path) (off v : Nat) : (h.logAccess kind req off v).test = h.test := (Hub.quiet_logAccess kind req off v h).test
@[simp] theorem Hub.logAccess_rget (h : Hub) (kind : Nat) (req : Path) (off v : Nat) (f : RF)
    (hf : f.off < 0xC000 ∨ (0xC100 ≤ f.off ∧ f.off < 0x500004) ∨ (0x510000 ≤ f.off ∧ f.off < 0xB00004) ∨ 0xB00028 ≤ f.off) :
    rget (h.logAccess kind req off v).regs f = rget h.regs f := (Hub.quiet_logAccess kind req off v h).rget f (not_logReg hf)

@[simp] theorem Hub.notice_clock (h : Hub) (what detail : Nat) : (h.notice what detail).clock = h.clock := (Hub.quiet_notice what detail h).clock
@[simp] theorem Hub.notice_pins (h : Hub) (what detail : Nat) : (h.notice what detail).pins = h.pins := (Hub.quiet_notice what detail h).pins
@[simp] theorem Hub.notice_power (h : Hub) (what detail : Nat) : (h.notice what detail).power = h.power := (Hub.quiet_notice what detail h).power
@[simp] theorem Hub.notice_boot (h : Hub) (what detail : Nat) : (h.notice what detail).boot = h.boot := (Hub.quiet_notice what detail h).boot
@[simp] theorem Hub.notice_fail (h : Hub) (what detail : Nat) : (h.notice what detail).fail = h.fail := (Hub.quiet_notice what detail h).fail
@[simp] theorem Hub.notice_pcie (h : Hub) (what detail : Nat) : (h.notice what detail).pcie = h.pcie := (Hub.quiet_notice what detail h).pcie
@[simp] theorem Hub.notice_rings (h : Hub) (what detail : Nat) : (h.notice what detail).rings = h.rings := (Hub.quiet_notice what detail h).rings
@[simp] theorem Hub.notice_disp (h : Hub) (what detail : Nat) : (h.notice what detail).disp = h.disp := (Hub.quiet_notice what detail h).disp
@[simp] theorem Hub.notice_cleat (h : Hub) (what detail : Nat) : (h.notice what detail).cleat = h.cleat := (Hub.quiet_notice what detail h).cleat
@[simp] theorem Hub.notice_time (h : Hub) (what detail : Nat) : (h.notice what detail).time = h.time := (Hub.quiet_notice what detail h).time
@[simp] theorem Hub.notice_memch (h : Hub) (what detail : Nat) : (h.notice what detail).memch = h.memch := (Hub.quiet_notice what detail h).memch
@[simp] theorem Hub.notice_sites (h : Hub) (what detail : Nat) : (h.notice what detail).sites = h.sites := (Hub.quiet_notice what detail h).sites
@[simp] theorem Hub.notice_dir (h : Hub) (what detail : Nat) : (h.notice what detail).dir = h.dir := (Hub.quiet_notice what detail h).dir
@[simp] theorem Hub.notice_map (h : Hub) (what detail : Nat) : (h.notice what detail).map = h.map := (Hub.quiet_notice what detail h).map
@[simp] theorem Hub.notice_mast (h : Hub) (what detail : Nat) : (h.notice what detail).mast = h.mast := (Hub.quiet_notice what detail h).mast
@[simp] theorem Hub.notice_ser (h : Hub) (what detail : Nat) : (h.notice what detail).ser = h.ser := (Hub.quiet_notice what detail h).ser
@[simp] theorem Hub.notice_crew (h : Hub) (what detail : Nat) : (h.notice what detail).crew = h.crew := (Hub.quiet_notice what detail h).crew
@[simp] theorem Hub.notice_spar (h : Hub) (what detail : Nat) : (h.notice what detail).spar = h.spar := (Hub.quiet_notice what detail h).spar
@[simp] theorem Hub.notice_trim (h : Hub) (what detail : Nat) : (h.notice what detail).trim = h.trim := (Hub.quiet_notice what detail h).trim
@[simp] theorem Hub.notice_sns (h : Hub) (what detail : Nat) : (h.notice what detail).sns = h.sns := (Hub.quiet_notice what detail h).sns
@[simp] theorem Hub.notice_test (h : Hub) (what detail : Nat) : (h.notice what detail).test = h.test := (Hub.quiet_notice what detail h).test
@[simp] theorem Hub.notice_rget (h : Hub) (what detail : Nat) (f : RF)
    (hf : f.off < 0xC000 ∨ (0xC100 ≤ f.off ∧ f.off < 0x500004) ∨ (0x510000 ≤ f.off ∧ f.off < 0xB00004) ∨ 0xB00028 ≤ f.off) :
    rget (h.notice what detail).regs f = rget h.regs f := (Hub.quiet_notice what detail h).rget f (not_logReg hf)

@[simp] theorem Hub.faultRecord_clock (h : Hub) (code cls unit : Nat) : (h.faultRecord code cls unit).clock = h.clock := (Hub.quiet_faultRecord code cls unit h).clock
@[simp] theorem Hub.faultRecord_pins (h : Hub) (code cls unit : Nat) : (h.faultRecord code cls unit).pins = h.pins := (Hub.quiet_faultRecord code cls unit h).pins
@[simp] theorem Hub.faultRecord_power (h : Hub) (code cls unit : Nat) : (h.faultRecord code cls unit).power = h.power := (Hub.quiet_faultRecord code cls unit h).power
@[simp] theorem Hub.faultRecord_boot (h : Hub) (code cls unit : Nat) : (h.faultRecord code cls unit).boot = h.boot := (Hub.quiet_faultRecord code cls unit h).boot
@[simp] theorem Hub.faultRecord_fail (h : Hub) (code cls unit : Nat) : (h.faultRecord code cls unit).fail = h.fail := (Hub.quiet_faultRecord code cls unit h).fail
@[simp] theorem Hub.faultRecord_pcie (h : Hub) (code cls unit : Nat) : (h.faultRecord code cls unit).pcie = h.pcie := (Hub.quiet_faultRecord code cls unit h).pcie
@[simp] theorem Hub.faultRecord_rings (h : Hub) (code cls unit : Nat) : (h.faultRecord code cls unit).rings = h.rings := (Hub.quiet_faultRecord code cls unit h).rings
@[simp] theorem Hub.faultRecord_disp (h : Hub) (code cls unit : Nat) : (h.faultRecord code cls unit).disp = h.disp := (Hub.quiet_faultRecord code cls unit h).disp
@[simp] theorem Hub.faultRecord_cleat (h : Hub) (code cls unit : Nat) : (h.faultRecord code cls unit).cleat = h.cleat := (Hub.quiet_faultRecord code cls unit h).cleat
@[simp] theorem Hub.faultRecord_time (h : Hub) (code cls unit : Nat) : (h.faultRecord code cls unit).time = h.time := (Hub.quiet_faultRecord code cls unit h).time
@[simp] theorem Hub.faultRecord_memch (h : Hub) (code cls unit : Nat) : (h.faultRecord code cls unit).memch = h.memch := (Hub.quiet_faultRecord code cls unit h).memch
@[simp] theorem Hub.faultRecord_sites (h : Hub) (code cls unit : Nat) : (h.faultRecord code cls unit).sites = h.sites := (Hub.quiet_faultRecord code cls unit h).sites
@[simp] theorem Hub.faultRecord_dir (h : Hub) (code cls unit : Nat) : (h.faultRecord code cls unit).dir = h.dir := (Hub.quiet_faultRecord code cls unit h).dir
@[simp] theorem Hub.faultRecord_map (h : Hub) (code cls unit : Nat) : (h.faultRecord code cls unit).map = h.map := (Hub.quiet_faultRecord code cls unit h).map
@[simp] theorem Hub.faultRecord_mast (h : Hub) (code cls unit : Nat) : (h.faultRecord code cls unit).mast = h.mast := (Hub.quiet_faultRecord code cls unit h).mast
@[simp] theorem Hub.faultRecord_ser (h : Hub) (code cls unit : Nat) : (h.faultRecord code cls unit).ser = h.ser := (Hub.quiet_faultRecord code cls unit h).ser
@[simp] theorem Hub.faultRecord_crew (h : Hub) (code cls unit : Nat) : (h.faultRecord code cls unit).crew = h.crew := (Hub.quiet_faultRecord code cls unit h).crew
@[simp] theorem Hub.faultRecord_spar (h : Hub) (code cls unit : Nat) : (h.faultRecord code cls unit).spar = h.spar := (Hub.quiet_faultRecord code cls unit h).spar
@[simp] theorem Hub.faultRecord_trim (h : Hub) (code cls unit : Nat) : (h.faultRecord code cls unit).trim = h.trim := (Hub.quiet_faultRecord code cls unit h).trim
@[simp] theorem Hub.faultRecord_sns (h : Hub) (code cls unit : Nat) : (h.faultRecord code cls unit).sns = h.sns := (Hub.quiet_faultRecord code cls unit h).sns
@[simp] theorem Hub.faultRecord_test (h : Hub) (code cls unit : Nat) : (h.faultRecord code cls unit).test = h.test := (Hub.quiet_faultRecord code cls unit h).test
@[simp] theorem Hub.faultRecord_rget (h : Hub) (code cls unit : Nat) (f : RF)
    (hf : f.off < 0xC000 ∨ (0xC100 ≤ f.off ∧ f.off < 0x500004) ∨ (0x510000 ≤ f.off ∧ f.off < 0xB00004) ∨ 0xB00028 ≤ f.off) :
    rget (h.faultRecord code cls unit).regs f = rget h.regs f := (Hub.quiet_faultRecord code cls unit h).rget f (not_logReg hf)

@[simp] theorem Hub.yewRecord_clock (h : Hub) (type sev : Nat) (b : Bool) (p : List Byte) : (h.yewRecord type sev b p).clock = h.clock := (Hub.quiet_yewRecord type sev b p h).clock
@[simp] theorem Hub.yewRecord_pins (h : Hub) (type sev : Nat) (b : Bool) (p : List Byte) : (h.yewRecord type sev b p).pins = h.pins := (Hub.quiet_yewRecord type sev b p h).pins
@[simp] theorem Hub.yewRecord_power (h : Hub) (type sev : Nat) (b : Bool) (p : List Byte) : (h.yewRecord type sev b p).power = h.power := (Hub.quiet_yewRecord type sev b p h).power
@[simp] theorem Hub.yewRecord_boot (h : Hub) (type sev : Nat) (b : Bool) (p : List Byte) : (h.yewRecord type sev b p).boot = h.boot := (Hub.quiet_yewRecord type sev b p h).boot
@[simp] theorem Hub.yewRecord_fail (h : Hub) (type sev : Nat) (b : Bool) (p : List Byte) : (h.yewRecord type sev b p).fail = h.fail := (Hub.quiet_yewRecord type sev b p h).fail
@[simp] theorem Hub.yewRecord_pcie (h : Hub) (type sev : Nat) (b : Bool) (p : List Byte) : (h.yewRecord type sev b p).pcie = h.pcie := (Hub.quiet_yewRecord type sev b p h).pcie
@[simp] theorem Hub.yewRecord_rings (h : Hub) (type sev : Nat) (b : Bool) (p : List Byte) : (h.yewRecord type sev b p).rings = h.rings := (Hub.quiet_yewRecord type sev b p h).rings
@[simp] theorem Hub.yewRecord_disp (h : Hub) (type sev : Nat) (b : Bool) (p : List Byte) : (h.yewRecord type sev b p).disp = h.disp := (Hub.quiet_yewRecord type sev b p h).disp
@[simp] theorem Hub.yewRecord_cleat (h : Hub) (type sev : Nat) (b : Bool) (p : List Byte) : (h.yewRecord type sev b p).cleat = h.cleat := (Hub.quiet_yewRecord type sev b p h).cleat
@[simp] theorem Hub.yewRecord_time (h : Hub) (type sev : Nat) (b : Bool) (p : List Byte) : (h.yewRecord type sev b p).time = h.time := (Hub.quiet_yewRecord type sev b p h).time
@[simp] theorem Hub.yewRecord_memch (h : Hub) (type sev : Nat) (b : Bool) (p : List Byte) : (h.yewRecord type sev b p).memch = h.memch := (Hub.quiet_yewRecord type sev b p h).memch
@[simp] theorem Hub.yewRecord_sites (h : Hub) (type sev : Nat) (b : Bool) (p : List Byte) : (h.yewRecord type sev b p).sites = h.sites := (Hub.quiet_yewRecord type sev b p h).sites
@[simp] theorem Hub.yewRecord_dir (h : Hub) (type sev : Nat) (b : Bool) (p : List Byte) : (h.yewRecord type sev b p).dir = h.dir := (Hub.quiet_yewRecord type sev b p h).dir
@[simp] theorem Hub.yewRecord_map (h : Hub) (type sev : Nat) (b : Bool) (p : List Byte) : (h.yewRecord type sev b p).map = h.map := (Hub.quiet_yewRecord type sev b p h).map
@[simp] theorem Hub.yewRecord_mast (h : Hub) (type sev : Nat) (b : Bool) (p : List Byte) : (h.yewRecord type sev b p).mast = h.mast := (Hub.quiet_yewRecord type sev b p h).mast
@[simp] theorem Hub.yewRecord_ser (h : Hub) (type sev : Nat) (b : Bool) (p : List Byte) : (h.yewRecord type sev b p).ser = h.ser := (Hub.quiet_yewRecord type sev b p h).ser
@[simp] theorem Hub.yewRecord_crew (h : Hub) (type sev : Nat) (b : Bool) (p : List Byte) : (h.yewRecord type sev b p).crew = h.crew := (Hub.quiet_yewRecord type sev b p h).crew
@[simp] theorem Hub.yewRecord_spar (h : Hub) (type sev : Nat) (b : Bool) (p : List Byte) : (h.yewRecord type sev b p).spar = h.spar := (Hub.quiet_yewRecord type sev b p h).spar
@[simp] theorem Hub.yewRecord_trim (h : Hub) (type sev : Nat) (b : Bool) (p : List Byte) : (h.yewRecord type sev b p).trim = h.trim := (Hub.quiet_yewRecord type sev b p h).trim
@[simp] theorem Hub.yewRecord_sns (h : Hub) (type sev : Nat) (b : Bool) (p : List Byte) : (h.yewRecord type sev b p).sns = h.sns := (Hub.quiet_yewRecord type sev b p h).sns
@[simp] theorem Hub.yewRecord_test (h : Hub) (type sev : Nat) (b : Bool) (p : List Byte) : (h.yewRecord type sev b p).test = h.test := (Hub.quiet_yewRecord type sev b p h).test
@[simp] theorem Hub.yewRecord_rget (h : Hub) (type sev : Nat) (b : Bool) (p : List Byte) (f : RF)
    (hf : f.off < 0xC000 ∨ (0xC100 ≤ f.off ∧ f.off < 0x500004) ∨ (0x510000 ≤ f.off ∧ f.off < 0xB00004) ∨ 0xB00028 ≤ f.off) :
    rget (h.yewRecord type sev b p).regs f = rget h.regs f := (Hub.quiet_yewRecord type sev b p h).rget f (not_logReg hf)

@[simp] theorem Hub.flushStaged_clock (h : Hub) : (h.flushStaged).clock = h.clock := (Hub.quiet_flushStaged h).clock
@[simp] theorem Hub.flushStaged_pins (h : Hub) : (h.flushStaged).pins = h.pins := (Hub.quiet_flushStaged h).pins
@[simp] theorem Hub.flushStaged_power (h : Hub) : (h.flushStaged).power = h.power := (Hub.quiet_flushStaged h).power
@[simp] theorem Hub.flushStaged_boot (h : Hub) : (h.flushStaged).boot = h.boot := (Hub.quiet_flushStaged h).boot
@[simp] theorem Hub.flushStaged_fail (h : Hub) : (h.flushStaged).fail = h.fail := (Hub.quiet_flushStaged h).fail
@[simp] theorem Hub.flushStaged_pcie (h : Hub) : (h.flushStaged).pcie = h.pcie := (Hub.quiet_flushStaged h).pcie
@[simp] theorem Hub.flushStaged_rings (h : Hub) : (h.flushStaged).rings = h.rings := (Hub.quiet_flushStaged h).rings
@[simp] theorem Hub.flushStaged_disp (h : Hub) : (h.flushStaged).disp = h.disp := (Hub.quiet_flushStaged h).disp
@[simp] theorem Hub.flushStaged_cleat (h : Hub) : (h.flushStaged).cleat = h.cleat := (Hub.quiet_flushStaged h).cleat
@[simp] theorem Hub.flushStaged_time (h : Hub) : (h.flushStaged).time = h.time := (Hub.quiet_flushStaged h).time
@[simp] theorem Hub.flushStaged_memch (h : Hub) : (h.flushStaged).memch = h.memch := (Hub.quiet_flushStaged h).memch
@[simp] theorem Hub.flushStaged_sites (h : Hub) : (h.flushStaged).sites = h.sites := (Hub.quiet_flushStaged h).sites
@[simp] theorem Hub.flushStaged_dir (h : Hub) : (h.flushStaged).dir = h.dir := (Hub.quiet_flushStaged h).dir
@[simp] theorem Hub.flushStaged_map (h : Hub) : (h.flushStaged).map = h.map := (Hub.quiet_flushStaged h).map
@[simp] theorem Hub.flushStaged_mast (h : Hub) : (h.flushStaged).mast = h.mast := (Hub.quiet_flushStaged h).mast
@[simp] theorem Hub.flushStaged_ser (h : Hub) : (h.flushStaged).ser = h.ser := (Hub.quiet_flushStaged h).ser
@[simp] theorem Hub.flushStaged_crew (h : Hub) : (h.flushStaged).crew = h.crew := (Hub.quiet_flushStaged h).crew
@[simp] theorem Hub.flushStaged_spar (h : Hub) : (h.flushStaged).spar = h.spar := (Hub.quiet_flushStaged h).spar
@[simp] theorem Hub.flushStaged_trim (h : Hub) : (h.flushStaged).trim = h.trim := (Hub.quiet_flushStaged h).trim
@[simp] theorem Hub.flushStaged_sns (h : Hub) : (h.flushStaged).sns = h.sns := (Hub.quiet_flushStaged h).sns
@[simp] theorem Hub.flushStaged_test (h : Hub) : (h.flushStaged).test = h.test := (Hub.quiet_flushStaged h).test
@[simp] theorem Hub.flushStaged_rget (h : Hub) (f : RF)
    (hf : f.off < 0xC000 ∨ (0xC100 ≤ f.off ∧ f.off < 0x500004) ∨ (0x510000 ≤ f.off ∧ f.off < 0xB00004) ∨ 0xB00028 ≤ f.off) :
    rget (h.flushStaged).regs f = rget h.regs f := (Hub.quiet_flushStaged h).rget f (not_logReg hf)

@[simp] theorem Hub.countEvents_clock (h : Hub) (code n : Nat) : (h.countEvents code n).clock = h.clock := (Hub.quiet_countEvents h code n).clock
@[simp] theorem Hub.countEvents_pins (h : Hub) (code n : Nat) : (h.countEvents code n).pins = h.pins := (Hub.quiet_countEvents h code n).pins
@[simp] theorem Hub.countEvents_power (h : Hub) (code n : Nat) : (h.countEvents code n).power = h.power := (Hub.quiet_countEvents h code n).power
@[simp] theorem Hub.countEvents_boot (h : Hub) (code n : Nat) : (h.countEvents code n).boot = h.boot := (Hub.quiet_countEvents h code n).boot
@[simp] theorem Hub.countEvents_fail (h : Hub) (code n : Nat) : (h.countEvents code n).fail = h.fail := (Hub.quiet_countEvents h code n).fail
@[simp] theorem Hub.countEvents_pcie (h : Hub) (code n : Nat) : (h.countEvents code n).pcie = h.pcie := (Hub.quiet_countEvents h code n).pcie
@[simp] theorem Hub.countEvents_rings (h : Hub) (code n : Nat) : (h.countEvents code n).rings = h.rings := (Hub.quiet_countEvents h code n).rings
@[simp] theorem Hub.countEvents_disp (h : Hub) (code n : Nat) : (h.countEvents code n).disp = h.disp := (Hub.quiet_countEvents h code n).disp
@[simp] theorem Hub.countEvents_cleat (h : Hub) (code n : Nat) : (h.countEvents code n).cleat = h.cleat := (Hub.quiet_countEvents h code n).cleat
@[simp] theorem Hub.countEvents_time (h : Hub) (code n : Nat) : (h.countEvents code n).time = h.time := (Hub.quiet_countEvents h code n).time
@[simp] theorem Hub.countEvents_memch (h : Hub) (code n : Nat) : (h.countEvents code n).memch = h.memch := (Hub.quiet_countEvents h code n).memch
@[simp] theorem Hub.countEvents_sites (h : Hub) (code n : Nat) : (h.countEvents code n).sites = h.sites := (Hub.quiet_countEvents h code n).sites
@[simp] theorem Hub.countEvents_dir (h : Hub) (code n : Nat) : (h.countEvents code n).dir = h.dir := (Hub.quiet_countEvents h code n).dir
@[simp] theorem Hub.countEvents_map (h : Hub) (code n : Nat) : (h.countEvents code n).map = h.map := (Hub.quiet_countEvents h code n).map
@[simp] theorem Hub.countEvents_mast (h : Hub) (code n : Nat) : (h.countEvents code n).mast = h.mast := (Hub.quiet_countEvents h code n).mast
@[simp] theorem Hub.countEvents_ser (h : Hub) (code n : Nat) : (h.countEvents code n).ser = h.ser := (Hub.quiet_countEvents h code n).ser
@[simp] theorem Hub.countEvents_crew (h : Hub) (code n : Nat) : (h.countEvents code n).crew = h.crew := (Hub.quiet_countEvents h code n).crew
@[simp] theorem Hub.countEvents_spar (h : Hub) (code n : Nat) : (h.countEvents code n).spar = h.spar := (Hub.quiet_countEvents h code n).spar
@[simp] theorem Hub.countEvents_trim (h : Hub) (code n : Nat) : (h.countEvents code n).trim = h.trim := (Hub.quiet_countEvents h code n).trim
@[simp] theorem Hub.countEvents_sns (h : Hub) (code n : Nat) : (h.countEvents code n).sns = h.sns := (Hub.quiet_countEvents h code n).sns
@[simp] theorem Hub.countEvents_test (h : Hub) (code n : Nat) : (h.countEvents code n).test = h.test := (Hub.quiet_countEvents h code n).test
@[simp] theorem Hub.countEvents_rget (h : Hub) (code n : Nat) (f : RF)
    (hf : f.off < 0x130200 ∨ 0x130280 ≤ f.off) :
    rget (h.countEvents code n).regs f = rget h.regs f := (Hub.quiet_countEvents h code n).rget f (not_evtReg hf)

@[simp] theorem Hub.countEvent_clock (h : Hub) (code : Nat) : (h.countEvent code).clock = h.clock := (Hub.quiet_countEvent h code).clock
@[simp] theorem Hub.countEvent_pins (h : Hub) (code : Nat) : (h.countEvent code).pins = h.pins := (Hub.quiet_countEvent h code).pins
@[simp] theorem Hub.countEvent_power (h : Hub) (code : Nat) : (h.countEvent code).power = h.power := (Hub.quiet_countEvent h code).power
@[simp] theorem Hub.countEvent_boot (h : Hub) (code : Nat) : (h.countEvent code).boot = h.boot := (Hub.quiet_countEvent h code).boot
@[simp] theorem Hub.countEvent_fail (h : Hub) (code : Nat) : (h.countEvent code).fail = h.fail := (Hub.quiet_countEvent h code).fail
@[simp] theorem Hub.countEvent_pcie (h : Hub) (code : Nat) : (h.countEvent code).pcie = h.pcie := (Hub.quiet_countEvent h code).pcie
@[simp] theorem Hub.countEvent_rings (h : Hub) (code : Nat) : (h.countEvent code).rings = h.rings := (Hub.quiet_countEvent h code).rings
@[simp] theorem Hub.countEvent_disp (h : Hub) (code : Nat) : (h.countEvent code).disp = h.disp := (Hub.quiet_countEvent h code).disp
@[simp] theorem Hub.countEvent_cleat (h : Hub) (code : Nat) : (h.countEvent code).cleat = h.cleat := (Hub.quiet_countEvent h code).cleat
@[simp] theorem Hub.countEvent_time (h : Hub) (code : Nat) : (h.countEvent code).time = h.time := (Hub.quiet_countEvent h code).time
@[simp] theorem Hub.countEvent_memch (h : Hub) (code : Nat) : (h.countEvent code).memch = h.memch := (Hub.quiet_countEvent h code).memch
@[simp] theorem Hub.countEvent_sites (h : Hub) (code : Nat) : (h.countEvent code).sites = h.sites := (Hub.quiet_countEvent h code).sites
@[simp] theorem Hub.countEvent_dir (h : Hub) (code : Nat) : (h.countEvent code).dir = h.dir := (Hub.quiet_countEvent h code).dir
@[simp] theorem Hub.countEvent_map (h : Hub) (code : Nat) : (h.countEvent code).map = h.map := (Hub.quiet_countEvent h code).map
@[simp] theorem Hub.countEvent_mast (h : Hub) (code : Nat) : (h.countEvent code).mast = h.mast := (Hub.quiet_countEvent h code).mast
@[simp] theorem Hub.countEvent_ser (h : Hub) (code : Nat) : (h.countEvent code).ser = h.ser := (Hub.quiet_countEvent h code).ser
@[simp] theorem Hub.countEvent_crew (h : Hub) (code : Nat) : (h.countEvent code).crew = h.crew := (Hub.quiet_countEvent h code).crew
@[simp] theorem Hub.countEvent_spar (h : Hub) (code : Nat) : (h.countEvent code).spar = h.spar := (Hub.quiet_countEvent h code).spar
@[simp] theorem Hub.countEvent_trim (h : Hub) (code : Nat) : (h.countEvent code).trim = h.trim := (Hub.quiet_countEvent h code).trim
@[simp] theorem Hub.countEvent_sns (h : Hub) (code : Nat) : (h.countEvent code).sns = h.sns := (Hub.quiet_countEvent h code).sns
@[simp] theorem Hub.countEvent_test (h : Hub) (code : Nat) : (h.countEvent code).test = h.test := (Hub.quiet_countEvent h code).test
@[simp] theorem Hub.countEvent_rget (h : Hub) (code : Nat) (f : RF)
    (hf : f.off < 0x130200 ∨ 0x130280 ≤ f.off) :
    rget (h.countEvent code).regs f = rget h.regs f := (Hub.quiet_countEvent h code).rget f (not_evtReg hf)

@[simp] theorem Hub.bump_clock (h : Hub) (f : RF) (n : Nat) : (h.bump f n).clock = h.clock := by unfold Hub.bump; split <;> rfl
@[simp] theorem Hub.bump_out (h : Hub) (f : RF) (n : Nat) : (h.bump f n).out = h.out := by unfold Hub.bump; split <;> rfl
@[simp] theorem Hub.bump_pins (h : Hub) (f : RF) (n : Nat) : (h.bump f n).pins = h.pins := by unfold Hub.bump; split <;> rfl
@[simp] theorem Hub.bump_power (h : Hub) (f : RF) (n : Nat) : (h.bump f n).power = h.power := by unfold Hub.bump; split <;> rfl
@[simp] theorem Hub.bump_boot (h : Hub) (f : RF) (n : Nat) : (h.bump f n).boot = h.boot := by unfold Hub.bump; split <;> rfl
@[simp] theorem Hub.bump_fail (h : Hub) (f : RF) (n : Nat) : (h.bump f n).fail = h.fail := by unfold Hub.bump; split <;> rfl
@[simp] theorem Hub.bump_ras (h : Hub) (f : RF) (n : Nat) : (h.bump f n).ras = h.ras := by unfold Hub.bump; split <;> rfl
@[simp] theorem Hub.bump_yew (h : Hub) (f : RF) (n : Nat) : (h.bump f n).yew = h.yew := by unfold Hub.bump; split <;> rfl
@[simp] theorem Hub.bump_pcie (h : Hub) (f : RF) (n : Nat) : (h.bump f n).pcie = h.pcie := by unfold Hub.bump; split <;> rfl
@[simp] theorem Hub.bump_rings (h : Hub) (f : RF) (n : Nat) : (h.bump f n).rings = h.rings := by unfold Hub.bump; split <;> rfl
@[simp] theorem Hub.bump_disp (h : Hub) (f : RF) (n : Nat) : (h.bump f n).disp = h.disp := by unfold Hub.bump; split <;> rfl
@[simp] theorem Hub.bump_cleat (h : Hub) (f : RF) (n : Nat) : (h.bump f n).cleat = h.cleat := by unfold Hub.bump; split <;> rfl
@[simp] theorem Hub.bump_time (h : Hub) (f : RF) (n : Nat) : (h.bump f n).time = h.time := by unfold Hub.bump; split <;> rfl
@[simp] theorem Hub.bump_memch (h : Hub) (f : RF) (n : Nat) : (h.bump f n).memch = h.memch := by unfold Hub.bump; split <;> rfl
@[simp] theorem Hub.bump_sites (h : Hub) (f : RF) (n : Nat) : (h.bump f n).sites = h.sites := by unfold Hub.bump; split <;> rfl
@[simp] theorem Hub.bump_dir (h : Hub) (f : RF) (n : Nat) : (h.bump f n).dir = h.dir := by unfold Hub.bump; split <;> rfl
@[simp] theorem Hub.bump_map (h : Hub) (f : RF) (n : Nat) : (h.bump f n).map = h.map := by unfold Hub.bump; split <;> rfl
@[simp] theorem Hub.bump_mast (h : Hub) (f : RF) (n : Nat) : (h.bump f n).mast = h.mast := by unfold Hub.bump; split <;> rfl
@[simp] theorem Hub.bump_ser (h : Hub) (f : RF) (n : Nat) : (h.bump f n).ser = h.ser := by unfold Hub.bump; split <;> rfl
@[simp] theorem Hub.bump_crew (h : Hub) (f : RF) (n : Nat) : (h.bump f n).crew = h.crew := by unfold Hub.bump; split <;> rfl
@[simp] theorem Hub.bump_spar (h : Hub) (f : RF) (n : Nat) : (h.bump f n).spar = h.spar := by unfold Hub.bump; split <;> rfl
@[simp] theorem Hub.bump_trim (h : Hub) (f : RF) (n : Nat) : (h.bump f n).trim = h.trim := by unfold Hub.bump; split <;> rfl
@[simp] theorem Hub.bump_sns (h : Hub) (f : RF) (n : Nat) : (h.bump f n).sns = h.sns := by unfold Hub.bump; split <;> rfl
@[simp] theorem Hub.bump_test (h : Hub) (f : RF) (n : Nat) : (h.bump f n).test = h.test := by unfold Hub.bump; split <;> rfl

/-- A counter's step, below its end. -/
theorem Hub.bump_rget_same (h : Hub) (f : RF) (n : Nat) (hf : f.lo + f.width ≤ 32) (hn : rget h.regs f + n < 2 ^ f.width) :
    rget (h.bump f n).regs f = rget h.regs f + n := Hub.get_bump_same h f n hf hn

@[simp] theorem Hub.bump_rget_ne (h : Hub) (f g : RF) (n : Nat) (hg : g.off ≠ f.off) :
    rget (h.bump f n).regs g = rget h.regs g := Hub.get_bump_ne h f g n hg

@[simp] theorem Hub.bump_rget_apart (h : Hub) (f g : RF) (n : Nat) (hf : f.lo + f.width ≤ 32)
    (hg : f.lo + f.width ≤ g.lo ∨ g.lo + g.width ≤ f.lo) : rget (h.bump f n).regs g = rget h.regs g := by
  unfold Hub.bump; split <;> simp [hf, hg]

end Sys2Proof.Machine
end

