-- ==== Sys2Proof/Laws/Wide.lean ====
section
/-!
SUPPORT. What judging cleat waits and sending control messages to sites can do, said once: registers of a stated set, the
rings, the cleats' waits, the sites' links, the logs and what was sent may change, and nothing else.
-/
namespace Sys2Proof.Machine

/-- `g` is `h` but for registers whose offset is in `W`, rings, waits, sites, logs, what was sent, and free values. -/
structure Hub.Wide (W : Nat → Prop) (h g : Hub) : Prop where
  reg : ∀ a, ¬ W a → rword g.regs a = rword h.regs a
  clock : g.clock = h.clock
  pins : g.pins = h.pins
  power : g.power = h.power
  boot : g.boot = h.boot
  fail : g.fail = h.fail
  pcie : g.pcie = h.pcie
  disp : g.disp = h.disp
  time : g.time = h.time
  memch : g.memch = h.memch
  dir : g.dir = h.dir
  map : g.map = h.map
  mast : g.mast = h.mast
  ser : g.ser = h.ser
  crew : g.crew = h.crew
  spar : g.spar = h.spar
  trim : g.trim = h.trim
  sns : g.sns = h.sns
  test : g.test = h.test

theorem Hub.Wide.refl (W : Nat → Prop) (h : Hub) : Hub.Wide W h h :=
  { reg := fun _ _ => rfl, clock := rfl, pins := rfl, power := rfl, boot := rfl, fail := rfl, pcie := rfl, disp := rfl, time := rfl, memch := rfl, dir := rfl, map := rfl, mast := rfl, ser := rfl, crew := rfl, spar := rfl, trim := rfl, sns := rfl, test := rfl }

theorem Hub.Wide.trans {W : Nat → Prop} {a b c : Hub} (x : Hub.Wide W a b) (y : Hub.Wide W b c) : Hub.Wide W a c :=
  { reg := fun k hk => (y.reg k hk).trans (x.reg k hk)
    clock := y.clock.trans x.clock
    pins := y.pins.trans x.pins
    power := y.power.trans x.power
    boot := y.boot.trans x.boot
    fail := y.fail.trans x.fail
    pcie := y.pcie.trans x.pcie
    disp := y.disp.trans x.disp
    time := y.time.trans x.time
    memch := y.memch.trans x.memch
    dir := y.dir.trans x.dir
    map := y.map.trans x.map
    mast := y.mast.trans x.mast
    ser := y.ser.trans x.ser
    crew := y.crew.trans x.crew
    spar := y.spar.trans x.spar
    trim := y.trim.trans x.trim
    sns := y.sns.trans x.sns
    test := y.test.trans x.test
  }

theorem Hub.Quiet.wide {W V : Nat → Prop} {a b : Hub} (x : Hub.Quiet W a b) (hv : ∀ k, W k → V k) : Hub.Wide V a b :=
  { reg := fun k hk => x.reg k fun hw => hk (hv k hw)
    clock := x.clock
    pins := x.pins
    power := x.power
    boot := x.boot
    fail := x.fail
    pcie := x.pcie
    disp := x.disp
    time := x.time
    memch := x.memch
    dir := x.dir
    map := x.map
    mast := x.mast
    ser := x.ser
    crew := x.crew
    spar := x.spar
    trim := x.trim
    sns := x.sns
    test := x.test
  }

theorem Hub.Wide.mono {W V : Nat → Prop} {a b : Hub} (x : Hub.Wide W a b) (hv : ∀ k, W k → V k) : Hub.Wide V a b :=
  { x with reg := fun k hk => x.reg k fun hw => hk (hv k hw) }

theorem Hub.Wide.rget {W : Nat → Prop} {a b : Hub} (x : Hub.Wide W a b) (f : RF) (hf : ¬ W f.off) :
    Machine.rget b.regs f = Machine.rget a.regs f := by unfold Machine.rget; rw [x.reg f.off hf]

theorem Hub.wide_put {W : Nat → Prop} (h : Hub) {f : RF} (v : Nat) (hf : W f.off) : Hub.Wide W h (h.put f v) :=
  (Hub.quiet_put h v hf).wide fun _ x => x

theorem Hub.wide_send (W : Nat → Prop) (h : Hub) (o : Out) : Hub.Wide W h (h.send o) := (Hub.quiet_send W h o).wide fun _ x => x

theorem Hub.wide_onSite (W : Nat → Prop) (k : Nat) (f : SiteS → SiteS) (h : Hub) : Hub.Wide W h (h.onSite k f) :=
  { Hub.Wide.refl W h with reg := fun _ _ => rfl }

theorem Hub.wide_setRing (W : Nat → Prop) (h : Hub) (n : Nat) (r : RingS) : Hub.Wide W h (h.setRing n r) :=
  { Hub.Wide.refl W h with reg := fun _ _ => rfl }

theorem Hub.wide_onDesc (W : Nat → Prop) (n id : Nat) (f : Desc → Desc) (h : Hub) : Hub.Wide W h (h.onDesc n id f) :=
  Hub.wide_setRing W h n _

theorem Hub.wide_cleat (W : Nat → Prop) (h : Hub) (c : CleatS) : Hub.Wide W h { h with cleat := c } :=
  { Hub.Wide.refl W h with reg := fun _ _ => rfl }

theorem Hub.wide_each {α : Type} {W : Nat → Prop} {l : List α} {f : α → Hub → Hub}
    (step : ∀ a, a ∈ l → ∀ h, Hub.Wide W h (f a h)) (h : Hub) : Hub.Wide W h (h.each l f) :=
  Hub.each_rel (Hub.Wide.refl W) (fun _ _ _ => Hub.Wide.trans) step h

theorem Hub.wide_upto {W : Nat → Prop} {n : Nat} {f : Nat → Hub → Hub} (step : ∀ k, k < n → ∀ h, Hub.Wide W h (f k h))
    (h : Hub) : Hub.Wide W h (h.upto n f) :=
  Hub.upto_rel (Hub.Wide.refl W) (fun _ _ _ => Hub.Wide.trans) step h

/-! ## Control messages to a site -/

/-- The registers a message to a site writes: its SFN and its credits. -/
def linkReg (a : Nat) : Prop := 0x600000 ≤ a

theorem Hub.wide_pumpList (s : Nat) (l : List TxFlit) (h : Hub) : Hub.Wide linkReg h (h.pumpList s l) := by
  induction l generalizing h with
  | nil => exact Hub.wide_onSite _ s _ h
  | cons f l ih =>
    unfold Hub.pumpList
    split
    · exact Hub.wide_onSite _ s _ h
    · rename_i p g x _
      exact (((Hub.wide_onSite linkReg s (fun _ => x) h).trans (Hub.wide_put _ _ (by unfold linkReg; simp only; omega))).trans
        (Hub.wide_send _ _ _)).trans (ih _)

theorem Hub.wide_pump (s : Nat) (h : Hub) : Hub.Wide linkReg h (h.pump s) := Hub.wide_pumpList s _ h

theorem Hub.wide_txFlit (s type : Nat) (p : List Byte) (h : Hub) : Hub.Wide linkReg h (h.txFlit s type p) :=
  (Hub.wide_onSite _ s _ _).trans (Hub.wide_pump s _)

theorem Hub.wide_emitCtl (s : Nat) (m : CtlMsg) (h : Hub) : Hub.Wide linkReg h (h.emitCtl s m) := by
  unfold Hub.emitCtl
  have x := (Hub.wide_send linkReg h (.control s m.msg m.tag m.body m.data)).trans (Hub.wide_txFlit s 2 m.header _)
  split
  · exact x
  · exact x.trans (Hub.wide_txFlit s 2 m.data _)

theorem Hub.wide_passCtl (s : Nat) (m : CtlMsg) (h : Hub) : Hub.Wide linkReg h (h.passCtl s m) :=
  (Hub.wide_put h _ (by unfold linkReg; simp only; omega)).trans (Hub.wide_emitCtl s m _)

theorem Hub.wide_releaseCtl (s : Nat) (l : List CtlMsg) (h : Hub) : Hub.Wide linkReg h (h.releaseCtl s l) := by
  unfold Hub.releaseCtl
  refine (Hub.wide_onSite linkReg s (fun x => { x with ctlq := [] }) h).trans
    (Hub.wide_each (f := fun m h => if h.ctlReady s m && !(h.siteS s).ctlq.any (fun w => w.rsp == m.rsp) then h.passCtl s m
      else h.onSite s fun x => { x with ctlq := x.ctlq ++ [m] }) (l := l) (fun m _ g => ?_) _)
  split
  · exact Hub.wide_passCtl s m g
  · exact Hub.wide_onSite _ s _ g

/-- A control message to a site changes that site's link and what was sent. -/
theorem Hub.wide_sendCtl (s : Nat) (m : CtlMsg) (h : Hub) : Hub.Wide linkReg h (h.sendCtl s m) := by
  unfold Hub.sendCtl
  split
  · exact Hub.wide_releaseCtl s _ h
  · exact Hub.Wide.refl _ h

theorem Hub.wide_cltAns (s tag result value : Nat) (h : Hub) : Hub.Wide linkReg h (h.cltAns s tag result value) :=
  Hub.wide_sendCtl s _ h

/-! ## Cleats -/

/-- The registers that judging waits may write: MSI-X's pending bits, and those from CLT_STAT on. -/
def judgeReg (a : Nat) : Prop := (0xC000 ≤ a ∧ a < 0xC100) ∨ 0x128000 ≤ a

theorem judgeReg_of_log {a : Nat} (h : logReg a) : judgeReg a := by unfold logReg at h; unfold judgeReg; omega

theorem judgeReg_of_link {a : Nat} (h : linkReg a) : judgeReg a := by unfold linkReg at h; unfold judgeReg; omega

theorem judgeReg_of_evt {a : Nat} (h : evtReg a) : judgeReg a := by unfold evtReg at h; unfold judgeReg; omega

theorem Hub.wide_watchEnd (w : Nat) (fired : Bool) (v : Nat) (h : Hub) : Hub.Wide judgeReg h (h.watchEnd w fired v) := by
  unfold Hub.watchEnd
  have first : Hub.Wide judgeReg h (if fired = true then h.put (R.CLT_WATCH3_FIRED w) 1 else h.put (R.CLT_WATCH3_TIMEDOUT w) 1) := by
    split <;> exact Hub.wide_put h _ (.inr (by simp only; omega))
  exact ((first.trans (Hub.wide_put _ _ (.inr (by simp only; omega)))).trans (Hub.wide_cleat _ _ _)).trans
    ((Hub.quiet_sendVector _ (Nat.lt_trans (Nat.mod_lt _ (by decide)) (by decide))).wide fun _ => judgeReg_of_log)

theorem Hub.wide_waitDone (v : Nat) (w : Wait) (h : Hub) : Hub.Wide judgeReg h (h.waitDone v w) := by
  unfold Hub.waitDone
  split
  · exact Hub.wide_onDesc _ _ _ _ h
  · exact (Hub.wide_cltAns _ _ _ _ h).mono fun _ => judgeReg_of_link
  · exact Hub.wide_watchEnd _ _ _ h
  · exact Hub.Wide.refl _ h

theorem Hub.wide_showWaiters (h : Hub) : Hub.Wide judgeReg h h.showWaiters := Hub.wide_put h _ (.inr (by simp only; omega))

theorem Hub.wide_judge (n : Nat) (h : Hub) : Hub.Wide judgeReg h (h.judge n) :=
  ((Hub.wide_cleat _ h _).trans (Hub.wide_each (fun w _ g => Hub.wide_waitDone _ w g) _)).trans (Hub.wide_showWaiters _)

/-- SET writes the cleat, and its waits are judged. -/
theorem Hub.wide_cleatSet (n v : Nat) (h : Hub) : Hub.Wide judgeReg (h.put (R.CLT_VALUE n) v) (h.cleatSet n v) :=
  ((Hub.quiet_countEvent _ _).wide fun _ => judgeReg_of_evt).trans (Hub.wide_judge n _)

theorem not_judgeReg {a : Nat} (h : a < 0xC000 ∨ (0xC100 ≤ a ∧ a < 0x128000)) : ¬ judgeReg a := by unfold judgeReg; omega

@[simp] theorem Hub.cleatSet_rget (n v : Nat) (h : Hub) (f : RF) (hf : f.off < 0xC000 ∨ (0xC100 ≤ f.off ∧ f.off < 0x128000)) :
    rget (h.cleatSet n v).regs f = rget (h.put (R.CLT_VALUE n) v).regs f := (Hub.wide_cleatSet n v h).rget f (not_judgeReg hf)

@[simp] theorem Hub.judge_rget (n : Nat) (h : Hub) (f : RF) (hf : f.off < 0xC000 ∨ (0xC100 ≤ f.off ∧ f.off < 0x128000)) :
    rget (h.judge n).regs f = rget h.regs f := (Hub.wide_judge n h).rget f (not_judgeReg hf)

@[simp] theorem Hub.judge_clock (h : Hub) (n : Nat) : (h.judge n).clock = h.clock := (Hub.wide_judge n h).clock
@[simp] theorem Hub.judge_pins (h : Hub) (n : Nat) : (h.judge n).pins = h.pins := (Hub.wide_judge n h).pins
@[simp] theorem Hub.judge_power (h : Hub) (n : Nat) : (h.judge n).power = h.power := (Hub.wide_judge n h).power
@[simp] theorem Hub.judge_boot (h : Hub) (n : Nat) : (h.judge n).boot = h.boot := (Hub.wide_judge n h).boot
@[simp] theorem Hub.judge_fail (h : Hub) (n : Nat) : (h.judge n).fail = h.fail := (Hub.wide_judge n h).fail
@[simp] theorem Hub.judge_pcie (h : Hub) (n : Nat) : (h.judge n).pcie = h.pcie := (Hub.wide_judge n h).pcie
@[simp] theorem Hub.judge_disp (h : Hub) (n : Nat) : (h.judge n).disp = h.disp := (Hub.wide_judge n h).disp
@[simp] theorem Hub.judge_time (h : Hub) (n : Nat) : (h.judge n).time = h.time := (Hub.wide_judge n h).time
@[simp] theorem Hub.judge_memch (h : Hub) (n : Nat) : (h.judge n).memch = h.memch := (Hub.wide_judge n h).memch
@[simp] theorem Hub.judge_dir (h : Hub) (n : Nat) : (h.judge n).dir = h.dir := (Hub.wide_judge n h).dir
@[simp] theorem Hub.judge_map (h : Hub) (n : Nat) : (h.judge n).map = h.map := (Hub.wide_judge n h).map
@[simp] theorem Hub.judge_mast (h : Hub) (n : Nat) : (h.judge n).mast = h.mast := (Hub.wide_judge n h).mast
@[simp] theorem Hub.judge_ser (h : Hub) (n : Nat) : (h.judge n).ser = h.ser := (Hub.wide_judge n h).ser
@[simp] theorem Hub.judge_crew (h : Hub) (n : Nat) : (h.judge n).crew = h.crew := (Hub.wide_judge n h).crew
@[simp] theorem Hub.judge_spar (h : Hub) (n : Nat) : (h.judge n).spar = h.spar := (Hub.wide_judge n h).spar
@[simp] theorem Hub.judge_trim (h : Hub) (n : Nat) : (h.judge n).trim = h.trim := (Hub.wide_judge n h).trim
@[simp] theorem Hub.judge_sns (h : Hub) (n : Nat) : (h.judge n).sns = h.sns := (Hub.wide_judge n h).sns
@[simp] theorem Hub.judge_test (h : Hub) (n : Nat) : (h.judge n).test = h.test := (Hub.wide_judge n h).test

@[simp] theorem Hub.cleatSet_clock (h : Hub) (n v : Nat) : (h.cleatSet n v).clock = h.clock := (Hub.wide_cleatSet n v h).clock
@[simp] theorem Hub.cleatSet_pins (h : Hub) (n v : Nat) : (h.cleatSet n v).pins = h.pins := (Hub.wide_cleatSet n v h).pins
@[simp] theorem Hub.cleatSet_power (h : Hub) (n v : Nat) : (h.cleatSet n v).power = h.power := (Hub.wide_cleatSet n v h).power
@[simp] theorem Hub.cleatSet_boot (h : Hub) (n v : Nat) : (h.cleatSet n v).boot = h.boot := (Hub.wide_cleatSet n v h).boot
@[simp] theorem Hub.cleatSet_fail (h : Hub) (n v : Nat) : (h.cleatSet n v).fail = h.fail := (Hub.wide_cleatSet n v h).fail
@[simp] theorem Hub.cleatSet_pcie (h : Hub) (n v : Nat) : (h.cleatSet n v).pcie = h.pcie := (Hub.wide_cleatSet n v h).pcie
@[simp] theorem Hub.cleatSet_disp (h : Hub) (n v : Nat) : (h.cleatSet n v).disp = h.disp := (Hub.wide_cleatSet n v h).disp
@[simp] theorem Hub.cleatSet_time (h : Hub) (n v : Nat) : (h.cleatSet n v).time = h.time := (Hub.wide_cleatSet n v h).time
@[simp] theorem Hub.cleatSet_memch (h : Hub) (n v : Nat) : (h.cleatSet n v).memch = h.memch := (Hub.wide_cleatSet n v h).memch
@[simp] theorem Hub.cleatSet_dir (h : Hub) (n v : Nat) : (h.cleatSet n v).dir = h.dir := (Hub.wide_cleatSet n v h).dir
@[simp] theorem Hub.cleatSet_map (h : Hub) (n v : Nat) : (h.cleatSet n v).map = h.map := (Hub.wide_cleatSet n v h).map
@[simp] theorem Hub.cleatSet_mast (h : Hub) (n v : Nat) : (h.cleatSet n v).mast = h.mast := (Hub.wide_cleatSet n v h).mast
@[simp] theorem Hub.cleatSet_ser (h : Hub) (n v : Nat) : (h.cleatSet n v).ser = h.ser := (Hub.wide_cleatSet n v h).ser
@[simp] theorem Hub.cleatSet_crew (h : Hub) (n v : Nat) : (h.cleatSet n v).crew = h.crew := (Hub.wide_cleatSet n v h).crew
@[simp] theorem Hub.cleatSet_spar (h : Hub) (n v : Nat) : (h.cleatSet n v).spar = h.spar := (Hub.wide_cleatSet n v h).spar
@[simp] theorem Hub.cleatSet_trim (h : Hub) (n v : Nat) : (h.cleatSet n v).trim = h.trim := (Hub.wide_cleatSet n v h).trim
@[simp] theorem Hub.cleatSet_sns (h : Hub) (n v : Nat) : (h.cleatSet n v).sns = h.sns := (Hub.wide_cleatSet n v h).sns
@[simp] theorem Hub.cleatSet_test (h : Hub) (n v : Nat) : (h.cleatSet n v).test = h.test := (Hub.wide_cleatSet n v h).test

@[simp] theorem Hub.sendCtl_clock (h : Hub) (s : Nat) (m : CtlMsg) : (h.sendCtl s m).clock = h.clock := (Hub.wide_sendCtl s m h).clock
@[simp] theorem Hub.sendCtl_pins (h : Hub) (s : Nat) (m : CtlMsg) : (h.sendCtl s m).pins = h.pins := (Hub.wide_sendCtl s m h).pins
@[simp] theorem Hub.sendCtl_power (h : Hub) (s : Nat) (m : CtlMsg) : (h.sendCtl s m).power = h.power := (Hub.wide_sendCtl s m h).power
@[simp] theorem Hub.sendCtl_boot (h : Hub) (s : Nat) (m : CtlMsg) : (h.sendCtl s m).boot = h.boot := (Hub.wide_sendCtl s m h).boot
@[simp] theorem Hub.sendCtl_fail (h : Hub) (s : Nat) (m : CtlMsg) : (h.sendCtl s m).fail = h.fail := (Hub.wide_sendCtl s m h).fail
@[simp] theorem Hub.sendCtl_pcie (h : Hub) (s : Nat) (m : CtlMsg) : (h.sendCtl s m).pcie = h.pcie := (Hub.wide_sendCtl s m h).pcie
@[simp] theorem Hub.sendCtl_disp (h : Hub) (s : Nat) (m : CtlMsg) : (h.sendCtl s m).disp = h.disp := (Hub.wide_sendCtl s m h).disp
@[simp] theorem Hub.sendCtl_time (h : Hub) (s : Nat) (m : CtlMsg) : (h.sendCtl s m).time = h.time := (Hub.wide_sendCtl s m h).time
@[simp] theorem Hub.sendCtl_memch (h : Hub) (s : Nat) (m : CtlMsg) : (h.sendCtl s m).memch = h.memch := (Hub.wide_sendCtl s m h).memch
@[simp] theorem Hub.sendCtl_dir (h : Hub) (s : Nat) (m : CtlMsg) : (h.sendCtl s m).dir = h.dir := (Hub.wide_sendCtl s m h).dir
@[simp] theorem Hub.sendCtl_map (h : Hub) (s : Nat) (m : CtlMsg) : (h.sendCtl s m).map = h.map := (Hub.wide_sendCtl s m h).map
@[simp] theorem Hub.sendCtl_mast (h : Hub) (s : Nat) (m : CtlMsg) : (h.sendCtl s m).mast = h.mast := (Hub.wide_sendCtl s m h).mast
@[simp] theorem Hub.sendCtl_ser (h : Hub) (s : Nat) (m : CtlMsg) : (h.sendCtl s m).ser = h.ser := (Hub.wide_sendCtl s m h).ser
@[simp] theorem Hub.sendCtl_crew (h : Hub) (s : Nat) (m : CtlMsg) : (h.sendCtl s m).crew = h.crew := (Hub.wide_sendCtl s m h).crew
@[simp] theorem Hub.sendCtl_spar (h : Hub) (s : Nat) (m : CtlMsg) : (h.sendCtl s m).spar = h.spar := (Hub.wide_sendCtl s m h).spar
@[simp] theorem Hub.sendCtl_trim (h : Hub) (s : Nat) (m : CtlMsg) : (h.sendCtl s m).trim = h.trim := (Hub.wide_sendCtl s m h).trim
@[simp] theorem Hub.sendCtl_sns (h : Hub) (s : Nat) (m : CtlMsg) : (h.sendCtl s m).sns = h.sns := (Hub.wide_sendCtl s m h).sns
@[simp] theorem Hub.sendCtl_test (h : Hub) (s : Nat) (m : CtlMsg) : (h.sendCtl s m).test = h.test := (Hub.wide_sendCtl s m h).test

@[simp] theorem Hub.sendCtl_rget (h : Hub) (s : Nat) (m : CtlMsg) (f : RF) (hf : f.off < 0x600000) :
    rget (h.sendCtl s m).regs f = rget h.regs f := (Hub.wide_sendCtl s m h).rget f (by unfold linkReg; omega)

end Sys2Proof.Machine
end

