-- ==== Sys2Proof/Tests/Slice0.lean ====
section
/-!
SUPPORT. Tests: worked examples of the spec, ill-formed commands, and for every statement with hypotheses a state and operands
that meet them.
-/
namespace Sys2Proof
open Machine
set_option linter.unusedVariables false
set_option Elab.async false

/-- The hub after reset with the fields of `l` stored in turn. -/
def hubOf (l : List (RF × Nat)) : Hub := l.foldl (fun h e => h.put e.1 e.2) Hub.reset

/-- The machine after reset with this hub. -/
def stOf (h : Hub) : State := { State.reset with hub := h }

/-- 64 descriptor bytes: those listed, by place, and zeros. -/
def descBytes (l : List (Nat × Nat)) : List Byte := (List.range 64).map fun i => BitVec.ofNat 8 (nget l i)

/-- A descriptor just fetched. -/
def descOf (id : Nat) (bytes : List Byte) : Desc :=
  { id := id, slot := id, bytes := bytes, at_ := 0, group := 0, started := false, waitOk := false,
    judged := false, timedOut := false, late := false, stop := false, epochs := 0, inCredit := false, debit := 0, ovl := false,
    moved := 0, drained := false, list := [], listRead := false, snap := none, ended := false, status := 0, result := 0, unit := 0 }

/-- A ready hub whose ring 3 is ACTIVE and holds these descriptors, with fields stored besides. -/
def ringHub (ds : List Desc) (l : List (RF × Nat)) : Hub :=
  { hubOf ([(R.GLB_RDY_READY, 1), (R.RING_STAT_STATE 3, 1), (R.RING_SIZE_SQ_LOG2 3, 4), (R.RING_SIZE_CQ_LOG2 3, 4)] ++ l) with
    pcie := { PcieS.reset with bme := [(0, 1)] }
    rings := [(3, { RingS.empty with descs := ds, fetched := 9 })] }

/-! ## Worked examples of the spec -/

/-- Spec/09, locating a DRAM address. -/
theorem test_dram_decode_example : dramDecode 0x1234567A40 =
    { stack := 3, q := 18, channel := 9, pc := 0, bank := 2, bankGroup := 2, bankInGroup := 0, sid := 0,
      row := 8285, byteInRow := 576 } := by decide

/-- Spec/09, the same address through BAR4. -/
theorem test_bar4_example : (hubOf [(R.GLB_BAR4_DRAM_BASE, 0x48), (R.GLB_POP_STACK_CAP, 2)]).bar4 0x74567A40 = .dram 0x1234567A40 := by
  decide

/-- Spec/05, the completion entry of a PF ring. -/
theorem test_completion_example : Cpl.bytes { tag := 0x101, status := 0, eclass := 6, result := 0x200000, slot := 0 } 1 3 =
    leBytes 8 0x0061000000000101 ++ leBytes 8 0x0000000300200000 := by decide

/-- The hub register at `off` after a command that answers a next state. -/
def regAfter (o : Host.Outcome State Fault Refusal) (off : Nat) : Option Word :=
  match o with
  | .next t => some (t.hub.reg off)
  | _ => none

/-- Spec/05, enabling ring 5. -/
theorem test_ring_enable_example :
    regAfter (execRingEnable .pf 5 (stOf (hubOf [(R.RING_SIZE_SQ_LOG2 5, 8), (R.RING_SIZE_CQ_LOG2 5, 8)]))) 0x100524 = some 1 := by
  decide +kernel

/-- Spec/00, locking the configuration. -/
theorem test_lock_example : regAfter (execLock .pf 1 State.reset) 0x10 = some 1 := by decide

/-- Spec/10, arming the flip mask. -/
theorem test_flip_arm_example :
    regAfter (execFlipArm .pf 0x1311 (stOf (hubOf [(R.GLB_RDY_READY, 1), (R.RAS_CAP_INJECT, 1)]))) 0x500044 = some 0x1311 := by
  decide +kernel

/-! ## Ill-formed commands are refused: one for every check of WellFormed -/

theorem test_ill_formed_1 :
    (Instr.registerWrite (.vf 31) (10 ^ 24) (10 ^ 24) 0).wf = false ∧
    (Instr.rcFieldRead (.vf 31) (10 ^ 24) (10 ^ 24)).wf = false ∧
    (Instr.levelProtectedRead (.vf 31) (10 ^ 24)).wf = false ∧
    (Instr.unalignedAccess (.vf 31) true (10 ^ 24) (10 ^ 24) 0).wf = false ∧
    (Instr.shadowLowRead (.vf 31) (10 ^ 24)).wf = false ∧
    (Instr.shadowHighRead (.vf 31) (10 ^ 24)).wf = false ∧
    (Instr.lock (.vf 31) 0).wf = false ∧
    (Instr.glbRstWarm (.vf 31) 0).wf = false ∧
    (Instr.glbRstHub (.vf 31) 0).wf = false ∧
    (Instr.pwrgoodRise (10 ^ 24) (10 ^ 24) (10 ^ 24)).wf = false ∧
    (Instr.d0Reset (10 ^ 24) (10 ^ 24) (10 ^ 24)).wf = false ∧
    (Instr.watchdogExpiry (10 ^ 24) (10 ^ 24)).wf = false ∧
    (Instr.faultResetTimeout (10 ^ 24) (10 ^ 24)).wf = false ∧
    (Instr.domainReqHoldOn (.vf 31) (10 ^ 24)).wf = false ∧
    (Instr.domainReqHoldOff (.vf 31) (10 ^ 24)).wf = false ∧
    (Instr.domainReqHub (.vf 31) (10 ^ 24)).wf = false ∧
    (Instr.domainAdmit (10 ^ 24)).wf = false ∧
    (Instr.domainTransitionComplete (10 ^ 24)).wf = false ∧
    (Instr.domainLowerIdle (10 ^ 24)).wf = false ∧
    (Instr.domainLowerAbandon (10 ^ 24)).wf = false ∧
    (Instr.droopTrip (10 ^ 24) (10 ^ 24)).wf = false ∧
    (Instr.droopRelease (10 ^ 24) (10 ^ 24)).wf = false ∧
    (Instr.reefTick (10 ^ 24) (10 ^ 24) (10 ^ 24) (10 ^ 24) (10 ^ 24)).wf = false ∧
    (Instr.reefEnable (.vf 31) 0).wf = false ∧
    (Instr.reefDisable (.vf 31) 0).wf = false ∧
    (Instr.covSlewWrite (.vf 31) 0).wf = false ∧
    (Instr.covStepWrite (.vf 31) 0).wf = false ∧
    (Instr.pmbusPoll [[10 ^ 24]]).wf = false ∧
    (Instr.vholdReady (10 ^ 24)).wf = false ∧
    (Instr.stageS1 [(true, 10 ^ 24)]).wf = false ∧
    (Instr.stageS4 (10 ^ 24) (10 ^ 24)).wf = false ∧
    (Instr.readySet [] (10 ^ 24) (10 ^ 24)).wf = false := by decide

theorem test_ill_formed_2 :
    (Instr.bootProfileWrite (.vf 31) 0).wf = false ∧
    (Instr.lbistSliceEnd (10 ^ 24) (10 ^ 24) true).wf = false ∧
    (Instr.stackTrainingComplete (10 ^ 24) (10 ^ 24) (10 ^ 24) (10 ^ 24) (10 ^ 24) (10 ^ 24) (10 ^ 24) (10 ^ 24)).wf = false ∧
    (Instr.memoryTestElementEnd [1600] [] []).wf = false ∧
    (Instr.waveGrant (10 ^ 24)).wf = false ∧
    (Instr.waveDone (10 ^ 24) (10 ^ 24)).wf = false ∧
    (Instr.waveTimeout (10 ^ 24)).wf = false ∧
    (Instr.bootFwGo (.vf 31) 0 []).wf = false ∧
    (Instr.knownAnswerComplete (10 ^ 24) (10 ^ 24) true).wf = false ∧
    (Instr.knownAnswerTimeout (10 ^ 24) (10 ^ 24)).wf = false ∧
    (Instr.karDigest (10 ^ 24) []).wf = false ∧
    (Instr.mapCmdRetire (.vf 31) 0).wf = false ∧
    (Instr.mapCmdReadmit (.vf 31) 0).wf = false ∧
    (Instr.mapDrainTimeout (10 ^ 24) (10 ^ 24)).wf = false ∧
    (Instr.mapLookup (.vf 31) 0).wf = false ∧
    (Instr.configRequest 32 .readId).wf = false ∧
    (Instr.pcieLinkUp (10 ^ 24) (10 ^ 24) true).wf = false ∧
    (Instr.bar4Read (10 ^ 24) (10 ^ 24)).wf = false ∧
    (Instr.bar4Write (10 ^ 24) []).wf = false ∧
    (Instr.hostDmaError (10 ^ 24) (10 ^ 24) (10 ^ 24) true).wf = false ∧
    (Instr.vfFlr (10 ^ 24)).wf = false ∧
    (Instr.vfEnableChange true (10 ^ 24)).wf = false ∧
    (Instr.vfWindowWrite (.vf 31) (10 ^ 24) (10 ^ 24) 0).wf = false ∧
    (Instr.ringOwnerWrite (.vf 31) (10 ^ 24) 0).wf = false ∧
    (Instr.ringEnable (.vf 31) (10 ^ 24)).wf = false ∧
    (Instr.ringReset (.vf 31) (10 ^ 24)).wf = false ∧
    (Instr.ringResetComplete (10 ^ 24)).wf = false ∧
    (Instr.submissionDoorbell (.vf 31) (10 ^ 24) 0).wf = false ∧
    (Instr.completionRelease (.vf 31) (10 ^ 24) 0).wf = false ∧
    (Instr.ringHaltEntry (10 ^ 24)).wf = false ∧
    (Instr.descriptorFetch (10 ^ 24) []).wf = false ∧
    (Instr.descriptorComplete (10 ^ 24) (10 ^ 24) (10 ^ 24) (10 ^ 24) (10 ^ 24) (10 ^ 24) []).wf = false := by decide

theorem test_ill_formed_3 :
    (Instr.moderationTimerExpiry (10 ^ 24)).wf = false ∧
    (Instr.vectorUnmask (10 ^ 24) (10 ^ 24)).wf = false ∧
    (Instr.busMasterDisable (10 ^ 24) true).wf = false ∧
    (Instr.busMasterEnable (10 ^ 24)).wf = false ∧
    (Instr.nop (10 ^ 24) (10 ^ 24)).wf = false ∧
    (Instr.copy (10 ^ 24) (10 ^ 24) (10 ^ 24) []).wf = false ∧
    (Instr.fill (10 ^ 24) (10 ^ 24) (10 ^ 24)).wf = false ∧
    (Instr.gather (10 ^ 24) (10 ^ 24) (10 ^ 24) []).wf = false ∧
    (Instr.scatter (10 ^ 24) (10 ^ 24) (10 ^ 24) []).wf = false ∧
    (Instr.streamOpen (10 ^ 24) (10 ^ 24)).wf = false ∧
    (Instr.streamClose (10 ^ 24) (10 ^ 24)).wf = false ∧
    (Instr.siteCall (10 ^ 24) (10 ^ 24)).wf = false ∧
    (Instr.cleatWait (10 ^ 24) (10 ^ 24)).wf = false ∧
    (Instr.cleatSignal (10 ^ 24) (10 ^ 24)).wf = false ∧
    (Instr.fence (10 ^ 24) (10 ^ 24)).wf = false ∧
    (Instr.boundary (10 ^ 24) (10 ^ 24)).wf = false ∧
    (Instr.solveSetup (10 ^ 24) (10 ^ 24)).wf = false ∧
    (Instr.solvePatch (10 ^ 24) (10 ^ 24)).wf = false ∧
    (Instr.solveRun (10 ^ 24) (10 ^ 24)).wf = false ∧
    (Instr.laneSend (10 ^ 24) (10 ^ 24) (10 ^ 24) []).wf = false ∧
    (Instr.laneRecv (10 ^ 24) (10 ^ 24)).wf = false ∧
    (Instr.budgetHint (10 ^ 24) (10 ^ 24)).wf = false ∧
    (Instr.hintLapse (10 ^ 24) (10 ^ 24)).wf = false ∧
    (Instr.deadlineExpiry (10 ^ 24) (10 ^ 24)).wf = false ∧
    (Instr.callStopTimeout (10 ^ 24) (10 ^ 24)).wf = false ∧
    (Instr.cleatWaitTimeout (10 ^ 24) (10 ^ 24)).wf = false ∧
    (Instr.creditHoldWarn (10 ^ 24) (10 ^ 24)).wf = false ∧
    (Instr.cltSet (.vf 31) (10 ^ 24) 0).wf = false ∧
    (Instr.cltAdd (.vf 31) (10 ^ 24) 0).wf = false ∧
    (Instr.cltClear (.vf 31) 0).wf = false ∧
    (Instr.watchArm (.vf 31) (10 ^ 24) 0).wf = false ∧
    (Instr.watchCancel (.vf 31) (10 ^ 24) 0).wf = false := by decide

theorem test_ill_formed_4 :
    (Instr.watchTimeout (10 ^ 24)).wf = false ∧
    (Instr.timeSet (.vf 31) 0).wf = false ∧
    (Instr.timeSlew (.vf 31) 0).wf = false ∧
    (Instr.timeAdj (.vf 31) 0).wf = false ∧
    (Instr.timeEvtSel (.vf 31) (10 ^ 24) 0).wf = false ∧
    (Instr.windowEnable (.vf 31) (10 ^ 24)).wf = false ∧
    (Instr.windowEnableComplete (10 ^ 24)).wf = false ∧
    (Instr.windowDisable (.vf 31) (10 ^ 24)).wf = false ∧
    (Instr.windowDisableComplete (10 ^ 24)).wf = false ∧
    (Instr.rdShared (10 ^ 24) (10 ^ 24) 0).wf = false ∧
    (Instr.rdOwn (10 ^ 24) (10 ^ 24) 0).wf = false ∧
    (Instr.upgrade (10 ^ 24) (10 ^ 24) 0).wf = false ∧
    (Instr.wbDirty (10 ^ 24) (10 ^ 24) 0 []).wf = false ∧
    (Instr.evictClean (10 ^ 24) (10 ^ 24) 0).wf = false ∧
    (Instr.recallAck (10 ^ 24) (10 ^ 24) 0).wf = false ∧
    (Instr.recallData (10 ^ 24) (10 ^ 24) 0 []).wf = false ∧
    (Instr.nonCachingRead (10 ^ 24) (10 ^ 24) (10 ^ 24)).wf = false ∧
    (Instr.nonCachingWrite (10 ^ 24) (10 ^ 24) []).wf = false ∧
    (Instr.recallTimeout (10 ^ 24) (10 ^ 24)).wf = false ∧
    (Instr.dirQuery (.vf 31) 0).wf = false ∧
    (Instr.refresh (10 ^ 24) (10 ^ 24) (10 ^ 24) (10 ^ 24)).wf = false ∧
    (Instr.scheduleCommand (10 ^ 24) (10 ^ 24) []).wf = false ∧
    (Instr.caParityError (10 ^ 24) true).wf = false ∧
    (Instr.stackTempRead (10 ^ 24) true (10 ^ 24)).wf = false ∧
    (Instr.powerDownEntry (10 ^ 24) (10 ^ 24)).wf = false ∧
    (Instr.floorWrite (.vf 31) (10 ^ 24) 0).wf = false ∧
    (Instr.telltaleThresholdWrite (.vf 31) (10 ^ 24) 0).wf = false ∧
    (Instr.telltaleLevelChange (10 ^ 24) (10 ^ 24)).wf = false ∧
    (Instr.rasConsWrite (.vf 31) 0).wf = false ∧
    (Instr.flipArm (.vf 31) 0).wf = false ∧
    (Instr.flipDisarm (.vf 31) 0).wf = false ∧
    (Instr.flitReceive (10 ^ 24) (10 ^ 24) (10 ^ 24) (10 ^ 24) []).wf = false := by decide

theorem test_ill_formed_5 :
    (Instr.ack (10 ^ 24) (10 ^ 24) (10 ^ 24) []).wf = false ∧
    (Instr.ackInterval (10 ^ 24)).wf = false ∧
    (Instr.replayStart (10 ^ 24) (10 ^ 24) (10 ^ 24) (10 ^ 24)).wf = false ∧
    (Instr.replayTimeout (10 ^ 24) (10 ^ 24)).wf = false ∧
    (Instr.driftUpdate (10 ^ 24) (10 ^ 24) true).wf = false ∧
    (Instr.moduleTest (10 ^ 24) (10 ^ 24) true).wf = false ∧
    (Instr.dropReq (10 ^ 24) (10 ^ 24) (10 ^ 24) (10 ^ 24) (10 ^ 24)).wf = false ∧
    (Instr.dropAck (10 ^ 24) (10 ^ 24) (10 ^ 24) (10 ^ 24)).wf = false ∧
    (Instr.dropReqRepeat (10 ^ 24)).wf = false ∧
    (Instr.spareProposal (10 ^ 24)).wf = false ∧
    (Instr.setAccept (10 ^ 24) (10 ^ 24)).wf = false ∧
    (Instr.msetSwitch (10 ^ 24) true).wf = false ∧
    (Instr.sidebandHello (10 ^ 24)).wf = false ∧
    (Instr.helloAck (10 ^ 24)).wf = false ∧
    (Instr.ident (10 ^ 24) []).wf = false ∧
    (Instr.negAck (10 ^ 24) true).wf = false ∧
    (Instr.trainRes (10 ^ 24) (10 ^ 24) (10 ^ 24)).wf = false ∧
    (Instr.trainStepLimit (10 ^ 24) (10 ^ 24) []).wf = false ∧
    (Instr.quietAck (10 ^ 24) (10 ^ 24) true).wf = false ∧
    (Instr.mgmtData (10 ^ 24) (10 ^ 24) 0).wf = false ∧
    (Instr.sidebandNak (10 ^ 24) (10 ^ 24) (10 ^ 24)).wf = false ∧
    (Instr.sidebandResend (10 ^ 24)).wf = false ∧
    (Instr.sidebandAnswerTimeout (10 ^ 24) (10 ^ 24)).wf = false ∧
    (Instr.dataRun (10 ^ 24) (10 ^ 24) (10 ^ 24) []).wf = false ∧
    (Instr.credit (10 ^ 24) []).wf = false ∧
    (Instr.creditReturn (10 ^ 24)).wf = false ∧
    (Instr.siteRd (10 ^ 24) (10 ^ 24) 0).wf = false ∧
    (Instr.siteWr (10 ^ 24) (10 ^ 24) 0 0 []).wf = false ∧
    (Instr.siteCltAdd (10 ^ 24) (10 ^ 24) (10 ^ 24) 0).wf = false ∧
    (Instr.siteCltSet (10 ^ 24) (10 ^ 24) (10 ^ 24) 0).wf = false ∧
    (Instr.siteCltWait (10 ^ 24) (10 ^ 24) (10 ^ 24) (10 ^ 24) 0 (10 ^ 24)).wf = false ∧
    (Instr.siteCltRead (10 ^ 24) (10 ^ 24) (10 ^ 24)).wf = false := by decide

theorem test_ill_formed_6 :
    (Instr.siteCltWaitTimeout (10 ^ 24) (10 ^ 24)).wf = false ∧
    (Instr.timeRd (10 ^ 24) (10 ^ 24) (10 ^ 24)).wf = false ∧
    (Instr.openAck (10 ^ 24) (10 ^ 24) (10 ^ 24)).wf = false ∧
    (Instr.openAckTimeout (10 ^ 24) (10 ^ 24)).wf = false ∧
    (Instr.siteStreamClose (10 ^ 24) (10 ^ 24) true (10 ^ 24) (10 ^ 24)).wf = false ∧
    (Instr.closeAck (10 ^ 24) true (10 ^ 24)).wf = false ∧
    (Instr.callDone (10 ^ 24) (10 ^ 24) 0 (10 ^ 24) (10 ^ 24)).wf = false ∧
    (Instr.allowAck (10 ^ 24) (10 ^ 24) (10 ^ 24)).wf = false ∧
    (Instr.siteDrop (10 ^ 24) (10 ^ 24)).wf = false ∧
    (Instr.loopbackRun (.vf 31) (10 ^ 24) 0).wf = false ∧
    (Instr.loopbackEnd (10 ^ 24) [] []).wf = false ∧
    (Instr.portEnable (.vf 31) (10 ^ 24) 0).wf = false ∧
    (Instr.portDisable (.vf 31) (10 ^ 24)).wf = false ∧
    (Instr.laneSignalDetect (10 ^ 24)).wf = false ∧
    (Instr.anComplete (10 ^ 24) true).wf = false ∧
    (Instr.anRetry (10 ^ 24)).wf = false ∧
    (Instr.linkTrainingComplete (10 ^ 24)).wf = false ∧
    (Instr.adaptSettled (10 ^ 24) (10 ^ 24)).wf = false ∧
    (Instr.alignLock (10 ^ 24)).wf = false ∧
    (Instr.laneStepTimeout (10 ^ 24)).wf = false ∧
    (Instr.laneSignalLoss (10 ^ 24)).wf = false ∧
    (Instr.adaptStep (10 ^ 24) (10 ^ 24)).wf = false ∧
    (Instr.fomUpdate (10 ^ 24) (10 ^ 24)).wf = false ∧
    (Instr.fomLow (10 ^ 24)).wf = false ∧
    (Instr.adaptRestart (.vf 31) (10 ^ 24)).wf = false ∧
    (Instr.eyeScanRun (.vf 31) (10 ^ 24) 0).wf = false ∧
    (Instr.eyeScanDone (10 ^ 24) (10 ^ 24)).wf = false ∧
    (Instr.prbsConfigWrite (.vf 31) (10 ^ 24) 0).wf = false ∧
    (Instr.slip (.vf 31) (10 ^ 24)).wf = false ∧
    (Instr.frameReceive (10 ^ 24) [] (10 ^ 24) (10 ^ 24) (10 ^ 24)).wf = false ∧
    (Instr.pause (10 ^ 24) (10 ^ 24)).wf = false ∧
    (Instr.pauseRepeat (10 ^ 24)).wf = false := by decide

theorem test_ill_formed_7 :
    (Instr.crewData (10 ^ 24) (10 ^ 24) (10 ^ 24) (10 ^ 24) (10 ^ 24) (10 ^ 24) (10 ^ 24) (10 ^ 24) true [] true (10 ^ 24) ⟨0, 0⟩).wf = false ∧
    (Instr.crewAck (10 ^ 24) (10 ^ 24) (10 ^ 24) (10 ^ 24)).wf = false ∧
    (Instr.crewNak (10 ^ 24) (10 ^ 24) (10 ^ 24) (10 ^ 24)).wf = false ∧
    (Instr.crewAckTimer (10 ^ 24)).wf = false ∧
    (Instr.crewHello (10 ^ 24) []).wf = false ∧
    (Instr.crewPeerTimeout (10 ^ 24)).wf = false ∧
    (Instr.claimHoldDownEnd (10 ^ 24)).wf = false ∧
    (Instr.crewRemuster (.vf 31)).wf = false ∧
    (Instr.sync (10 ^ 24) (10 ^ 24)).wf = false ∧
    (Instr.followUp (10 ^ 24) (10 ^ 24) (10 ^ 24) 0).wf = false ∧
    (Instr.pdelayReq (10 ^ 24) (10 ^ 24)).wf = false ∧
    (Instr.pdelayResp (10 ^ 24) (10 ^ 24) (10 ^ 24)).wf = false ∧
    (Instr.pdelayRespFollowUp (10 ^ 24) (10 ^ 24) (10 ^ 24)).wf = false ∧
    (Instr.trimEpochStart [] (10 ^ 24) (10 ^ 24)).wf = false ∧
    (Instr.trimSolveComplete (10 ^ 24) (10 ^ 24) (10 ^ 24) [] []).wf = false ∧
    (Instr.senseOutput (10 ^ 24) (10 ^ 24)).wf = false ∧
    (Instr.senseTrigger (.vf 31) (10 ^ 24) 0).wf = false ∧
    (Instr.senseSync (.vf 31)).wf = false ∧
    (Instr.hedgeReq (.vf 31) 0).wf = false ∧
    (Instr.hedgeResp [0]).wf = false ∧
    (Instr.hedgeToken [0]).wf = false ∧
    (Instr.hedgeGo (.vf 31) 0).wf = false ∧
    (Instr.testReg true (10 ^ 24) 0).wf = false ∧
    (Instr.scanShift (10 ^ 24)).wf = false ∧
    (Instr.bypass (10 ^ 24)).wf = false ∧
    (Instr.fmapIndex (.vf 31) 0).wf = false ∧
    (Instr.yewRdSeq (.vf 31) 0).wf = false ∧
    (Instr.setEndpointId (10 ^ 24)).wf = false ∧
    (Instr.bmcRead (10 ^ 24) (10 ^ 24)).wf = false ∧
    (Instr.bmcState (10 ^ 24)).wf = false ∧
    (Instr.atTimeReached (10 ^ 24) (10 ^ 24)).wf = false ∧
    (Instr.domainFailed (10 ^ 24)).wf = false := by decide

theorem test_ill_formed_8 :
    (Instr.sidebandCrcError (10 ^ 24)).wf = false ∧
    (Instr.sidebandUnknownType (10 ^ 24) ⟨256, 0⟩).wf = false ∧
    (Instr.unlistedMsg (10 ^ 24) true (10 ^ 24)).wf = false ∧
    (Instr.crewFrameUnknownType (10 ^ 24) (10 ^ 24)).wf = false ∧
    (Instr.rxLanesLoss (10 ^ 24) (10 ^ 24)).wf = false ∧
    (Instr.quietAckTimeout (10 ^ 24)).wf = false ∧
    (Instr.pauseQuantaExpiry (10 ^ 24)).wf = false ∧
    (Instr.unsupportedRequest (10 ^ 24) true).wf = false ∧
    (Instr.poisonedTlpReceived (10 ^ 24)).wf = false ∧
    (Instr.malformedTlp ⟨32, false⟩).wf = false := by decide

/-- A well-formed command is admitted. -/
theorem test_well_formed : (Instr.cltSet .pf 4095 0).wf = true ∧ Instr.telltaleWindow.wf = true := by decide

/-! ## States and operands that meet the statements' hypotheses -/

theorem wit_idle_step : ∃ s : State, s.pending = [] :=
  ⟨State.reset, rfl⟩

theorem wit_reset_units : (5 : Nat) < 4096 ∧ (7 : Nat) < 256 :=
  by decide

theorem wit_step_inv : ∃ s t : State, s.Inv ∧ step s = .next t :=
  ⟨State.reset, _, ⟨by decide, fun c h => (List.not_mem_nil h).elim⟩, rfl⟩

theorem wit_wf_command : (Instr.cltSet .pf 4095 0).wf = true ∧ (Instr.cltSet .pf 4096 0).wf = false :=
  by decide

theorem wit_path_without : (Instr.lock (.vf 30) 1).blockPath = some (.vf 30) ∧ (Path.vf 30).holdsBlocks = false ∧ (Instr.lock (.vf 30) 1).wf = true :=
  by decide

theorem wit_no_data : (Instr.telltaleWindow).usesData = false ∧ ∃ s t : State, exec .telltaleWindow s = .next t :=
  ⟨rfl, State.reset, _, rfl⟩

theorem witframe_of_hub_register_commands :
    (∃ t, exec (.lock .pf 0) State.reset = .next t) ∧
    (∃ t, exec (.droopTrip 0 0) State.reset = .next t) ∧
    (∃ t, exec (.droopRelease 0 0) State.reset = .next t) ∧
    (∃ t, exec (.reefEnable .pf 0) State.reset = .next t) ∧
    (∃ t, exec (.reefDisable .pf 0) State.reset = .next t) ∧
    (∃ t, exec (.covSlewWrite .pf 0) State.reset = .next t) ∧
    (∃ t, exec (.covStepWrite .pf 0) State.reset = .next t) ∧
    (∃ t, exec (.vholdReady 0) State.reset = .next t) ∧
    (∃ t, exec (.bootProfileWrite .pf 0) State.reset = .next t) ∧
    (∃ t, exec (.mapLookup .pf 0) State.reset = .next t) ∧
    (∃ t, exec (.vfWindowWrite .pf 0 0 0) State.reset = .next t) ∧
    (∃ t, exec (.ringOwnerWrite .pf 0 0) State.reset = .next t) ∧
    (∃ t, exec (.submissionDoorbell .pf 0 0) State.reset = .next t) ∧
    (∃ t, exec (.creditHoldWarn 0 0) State.reset = .next t) ∧
    (∃ t, exec (.timeAdj .pf 0) State.reset = .next t) ∧
    (∃ t, exec (.timeEvtSel .pf 0 0) State.reset = .next t) ∧
    (∃ t, exec (.windowEnable .pf 0) State.reset = .next t) :=
  ⟨⟨_, rfl⟩, ⟨_, rfl⟩, ⟨_, rfl⟩, ⟨_, rfl⟩, ⟨_, rfl⟩, ⟨_, rfl⟩, ⟨_, rfl⟩, ⟨_, rfl⟩, ⟨_, rfl⟩, ⟨_, rfl⟩, ⟨_, rfl⟩, ⟨_, rfl⟩, ⟨_, rfl⟩, ⟨_, rfl⟩, ⟨_, rfl⟩, ⟨_, rfl⟩, ⟨_, rfl⟩⟩

theorem witframe_of_unit_register_commands :
    (∃ t, exec (.stackTempRead 0 true 0) State.reset = .next t) ∧
    (∃ t, exec (.powerDownEntry 0 0) State.reset = .next t) ∧
    (∃ t, exec (.floorWrite .pf 0 0) State.reset = .next t) ∧
    (∃ t, exec (.telltaleThresholdWrite .pf 0 0) State.reset = .next t) ∧
    (∃ t, exec (.rasConsWrite .pf 0) State.reset = .next t) ∧
    (∃ t, exec (.flipArm .pf 0) State.reset = .next t) ∧
    (∃ t, exec (.flipDisarm .pf 0) State.reset = .next t) ∧
    (∃ t, exec .ceHourly State.reset = .next t) ∧
    (∃ t, exec (.sidebandCrcError 0) State.reset = .next t) ∧
    (∃ t, exec (.dropReqRepeat 0) State.reset = .next t) ∧
    (∃ t, exec (.adaptStep 0 0) State.reset = .next t) ∧
    (∃ t, exec (.fomUpdate 0 0) State.reset = .next t) ∧
    (∃ t, exec (.fomLow 0) State.reset = .next t) ∧
    (∃ t, exec .crewHelloTimer State.reset = .next t) ∧
    (∃ t, exec (.pdelayReq 0 0) State.reset = .next t) ∧
    (∃ t, exec (.crewFrameUnknownType 0 0x30) State.reset = .next t) ∧
    (∃ t, exec .hedgeVerifyComplete State.reset = .next t) ∧
    (∃ t, exec .hedgeResponseTimeout State.reset = .next t) ∧
    (∃ t, exec .hedgeWindowClose State.reset = .next t) ∧
    (∃ t, exec (.fmapIndex .pf 0) State.reset = .next t) ∧
    (∃ t, exec .yewFlush State.reset = .next t) ∧
    (∃ t, exec .sectorErase State.reset = .next t) ∧
    (∃ t, exec .bucketRefill State.reset = .next t) ∧
    (∃ t, exec (.mirrorCopy true) State.reset = .next t) ∧
    (∃ t, exec (.yewRdSeq .pf 0) State.reset = .next t) ∧
    (∃ t, exec (.setEndpointId 0) State.reset = .next t) ∧
    (∃ t, exec .getEndpointId State.reset = .next t) ∧
    (∃ t, exec .getMctpVersionSupport State.reset = .next t) ∧
    (∃ t, exec .getMessageTypeSupport State.reset = .next t) ∧
    (∃ t, exec .getVendorDefinedMessageSupport State.reset = .next t) ∧
    (∃ t, exec .getInfo State.reset = .next t) ∧
    (∃ t, exec (.bmcRead 0 1) State.reset = .next t) ∧
    (∃ t, exec (.bmcState 0) State.reset = .next t) :=
  ⟨⟨_, rfl⟩, ⟨_, rfl⟩, ⟨_, rfl⟩, ⟨_, rfl⟩, ⟨_, rfl⟩, ⟨_, rfl⟩, ⟨_, rfl⟩, ⟨_, rfl⟩, ⟨_, rfl⟩, ⟨_, rfl⟩, ⟨_, rfl⟩, ⟨_, rfl⟩, ⟨_, rfl⟩, ⟨_, rfl⟩, ⟨_, rfl⟩, ⟨_, rfl⟩, ⟨_, rfl⟩, ⟨_, rfl⟩, ⟨_, rfl⟩, ⟨_, rfl⟩, ⟨_, rfl⟩, ⟨_, rfl⟩, ⟨_, rfl⟩, ⟨_, rfl⟩, ⟨_, rfl⟩, ⟨_, rfl⟩, ⟨_, rfl⟩, ⟨_, rfl⟩, ⟨_, rfl⟩, ⟨_, rfl⟩, ⟨_, rfl⟩, ⟨_, rfl⟩, ⟨_, rfl⟩⟩

theorem witframe_of_power_and_pin_commands :
    (∃ t, exec (.glbRstWarm .pf 0) State.reset = .next t) ∧
    (∃ t, exec (.glbRstHub .pf 0) State.reset = .next t) ∧
    (∃ t, exec .refclkLoss State.reset = .next t) ∧
    (∃ t, exec (.domainReqHoldOn .pf 0) State.reset = .next t) ∧
    (∃ t, exec (.domainReqHoldOff .pf 0) State.reset = .next t) ∧
    (∃ t, exec (.domainReqHub .pf 0) State.reset = .next t) ∧
    (∃ t, exec (.domainAdmit 0) State.reset = .next t) ∧
    (∃ t, exec (.domainLowerIdle 0) State.reset = .next t) ∧
    (∃ t, exec (.domainLowerAbandon 0) State.reset = .next t) ∧
    (∃ t, exec (.reefTick 0 0 0 0 0) State.reset = .next t) ∧
    (∃ t, exec (.pmbusPoll []) State.reset = .next t) ∧
    (∃ t, exec (.voutCommand true) State.reset = .next t) ∧
    (∃ t, exec .pwrgoodFall State.reset = .next t) ∧
    (∃ t, exec .perstNDeassert State.reset = .next t) ∧
    (∃ t, exec .lgRecover State.reset = .next t) ∧
    (∃ t, exec .mapEpochDrainEnd State.reset = .next t) ∧
    (∃ t, exec (.slip .pf 0) State.reset = .next t) ∧
    (∃ t, exec .pwrgoodLowFilterExpiry State.reset = .next t) ∧
    (∃ t, exec .vinBelowWarn State.reset = .next t) ∧
    (∃ t, exec .lockstepMismatch State.reset = .next t) ∧
    (∃ t, exec .mastheadWatchdog State.reset = .next t) ∧
    (∃ t, exec (.faultResetTimeout 1 0) State.reset = .next t) ∧
    (∃ t, exec .thermalTripTimeout State.reset = .next t) :=
  ⟨⟨_, rfl⟩, ⟨_, rfl⟩, ⟨_, rfl⟩, ⟨_, rfl⟩, ⟨_, rfl⟩, ⟨_, rfl⟩, ⟨_, rfl⟩, ⟨_, rfl⟩, ⟨_, rfl⟩, ⟨_, rfl⟩, ⟨_, rfl⟩, ⟨_, rfl⟩, ⟨_, rfl⟩, ⟨_, rfl⟩, ⟨_, rfl⟩, ⟨_, rfl⟩, ⟨_, rfl⟩, ⟨_, rfl⟩, ⟨_, rfl⟩, ⟨_, rfl⟩, ⟨_, rfl⟩, ⟨_, rfl⟩, ⟨_, rfl⟩⟩

theorem witframe_of_ring_link_and_channel_commands :
    (∃ t, exec (.refresh 0 0 0 0) State.reset = .next t) ∧
    (∃ t, exec (.scheduleCommand 0 0 []) State.reset = .next t) ∧
    (∃ t, exec .sheetUpdate State.reset = .next t) ∧
    (∃ t, exec .telltaleWindow State.reset = .next t) ∧
    (∃ t, exec (.windowEnableComplete 0) State.reset = .next t) ∧
    (∃ t, exec (.windowDisableComplete 0) State.reset = .next t) ∧
    (∃ t, exec (.dirQuery .pf 0) State.reset = .next t) ∧
    (∃ t, exec (.watchCancel .pf 0 0) State.reset = .next t) ∧
    (∃ t, exec (.watchTimeout 0) State.reset = .next t) ∧
    (∃ t, exec (.ringEnable .pf 0) State.reset = .next t) ∧
    (∃ t, exec (.ringResetComplete 0) State.reset = .next t) ∧
    (∃ t, exec (.hintLapse 0 0) State.reset = .next t) ∧
    (∃ t, exec (.completionRelease .pf 0 0) State.reset = .next t) ∧
    (∃ t, exec (.ringHaltEntry 0) State.reset = .next t) ∧
    (∃ t, exec (.moderationTimerExpiry 0) State.reset = .next t) ∧
    (∃ t, exec .readinessPendSend State.reset = .next t) ∧
    (∃ t, exec (.configRequest 0 .readId) State.reset = .next t) ∧
    (∃ t, exec (.pcieLinkUp 1 1 true) State.reset = .next t) ∧
    (∃ t, exec (.busMasterDisable 0 true) State.reset = .next t) ∧
    (∃ t, exec (.unsupportedRequest 0 true) State.reset = .next t) ∧
    (∃ t, exec (.poisonedTlpReceived 0) State.reset = .next t) ∧
    (∃ t, exec (.malformedTlp ⟨0, true⟩) State.reset = .next t) ∧
    (∃ t, exec (.timeSet .pf 0) State.reset = .next t) ∧
    (∃ t, exec (.timeSlew .pf 0) State.reset = .next t) ∧
    (∃ t, exec (.senseTrigger .pf 2 0) State.reset = .next t) ∧
    (∃ t, exec (.senseSync .pf) State.reset = .next t) ∧
    (∃ t, exec .mailboxComplete State.reset = .next t) ∧
    (∃ t, exec .getVersion State.reset = .next t) ∧
    (∃ t, exec .yewMark State.reset = .next t) ∧
    (∃ t, exec .yewRead State.reset = .next t) ∧
    (∃ t, exec (.pprRequest true) State.reset = .next t) ∧
    (∃ t, exec .pprList State.reset = .next t) ∧
    (∃ t, exec .imageStage State.reset = .next t) :=
  ⟨⟨_, rfl⟩, ⟨_, rfl⟩, ⟨_, rfl⟩, ⟨_, rfl⟩, ⟨_, rfl⟩, ⟨_, rfl⟩, ⟨_, rfl⟩, ⟨_, rfl⟩, ⟨_, rfl⟩, ⟨_, rfl⟩, ⟨_, rfl⟩, ⟨_, rfl⟩, ⟨_, rfl⟩, ⟨_, rfl⟩, ⟨_, rfl⟩, ⟨_, rfl⟩, ⟨_, rfl⟩, ⟨_, rfl⟩, ⟨_, rfl⟩, ⟨_, rfl⟩, ⟨_, rfl⟩, ⟨_, rfl⟩, ⟨_, rfl⟩, ⟨_, rfl⟩, ⟨_, rfl⟩, ⟨_, rfl⟩, ⟨_, rfl⟩, ⟨_, rfl⟩, ⟨_, rfl⟩, ⟨_, rfl⟩, ⟨_, rfl⟩, ⟨_, rfl⟩, ⟨_, rfl⟩⟩

theorem witframe_of_serial_and_crew_commands :
    (∃ t, exec (.telltaleLevelChange 4 0) State.reset = .next t) ∧
    (∃ t, exec (.laneSignalDetect 0) State.reset = .next t) ∧
    (∃ t, exec (.anComplete 0 true) State.reset = .next t) ∧
    (∃ t, exec (.anRetry 0) State.reset = .next t) ∧
    (∃ t, exec (.linkTrainingComplete 0) State.reset = .next t) ∧
    (∃ t, exec (.adaptSettled 0 0) State.reset = .next t) ∧
    (∃ t, exec (.laneStepTimeout 0) State.reset = .next t) ∧
    (∃ t, exec (.eyeScanRun .pf 0 0) State.reset = .next t) ∧
    (∃ t, exec (.eyeScanDone 0 0) State.reset = .next t) ∧
    (∃ t, exec (.prbsConfigWrite .pf 0 0) State.reset = .next t) ∧
    (∃ t, exec (.pause 0 0) State.reset = .next t) ∧
    (∃ t, exec (.pauseQuantaExpiry 0) State.reset = .next t) ∧
    (∃ t, exec (.pauseRepeat 0) State.reset = .next t) ∧
    (∃ t, exec (.crewAckTimer 0) State.reset = .next t) ∧
    (∃ t, exec .syncSend State.reset = .next t) ∧
    (∃ t, exec .pdelayReqSend State.reset = .next t) ∧
    (∃ t, exec (.sync 0 0) State.reset = .next t) ∧
    (∃ t, exec (.pdelayResp 0 0 0) State.reset = .next t) ∧
    (∃ t, exec (.pdelayRespFollowUp 0 0 0) State.reset = .next t) ∧
    (∃ t, exec (.crewHello 0 (List.replicate 48 0)) State.reset = .next t) ∧
    (∃ t, exec (.crewPeerTimeout 0) State.reset = .next t) ∧
    (∃ t, exec (.claimHoldDownEnd 0) State.reset = .next t) ∧
    (∃ t, exec .syncLoss State.reset = .next t) ∧
    (∃ t, exec (.crewRemuster .pf) State.reset = .next t) ∧
    (∃ t, exec .mustered State.reset = .next t) ∧
    (∃ t, exec (.followUp 0 0 0 0) State.reset = .next t) ∧
    (∃ t, exec (.alignLock 0) State.reset = .next t) :=
  ⟨⟨_, rfl⟩, ⟨_, rfl⟩, ⟨_, rfl⟩, ⟨_, rfl⟩, ⟨_, rfl⟩, ⟨_, rfl⟩, ⟨_, rfl⟩, ⟨_, rfl⟩, ⟨_, rfl⟩, ⟨_, rfl⟩, ⟨_, rfl⟩, ⟨_, rfl⟩, ⟨_, rfl⟩, ⟨_, rfl⟩, ⟨_, rfl⟩, ⟨_, rfl⟩, ⟨_, rfl⟩, ⟨_, rfl⟩, ⟨_, rfl⟩, ⟨_, rfl⟩, ⟨_, rfl⟩, ⟨_, rfl⟩, ⟨_, rfl⟩, ⟨_, rfl⟩, ⟨_, rfl⟩, ⟨_, rfl⟩, ⟨_, rfl⟩⟩

theorem witframe_of_site_link_commands :
    (∃ t, exec (.ackInterval 0) State.reset = .next t) ∧
    (∃ t, exec (.replayStart 0 0 0 0) State.reset = .next t) ∧
    (∃ t, exec (.moduleTest 0 0 true) State.reset = .next t) ∧
    (∃ t, exec (.spareProposal 0) State.reset = .next t) ∧
    (∃ t, exec (.msetSwitch 0 true) State.reset = .next t) ∧
    (∃ t, exec (.sidebandHello 0) State.reset = .next t) ∧
    (∃ t, exec (.sidebandUnknownType 0 ⟨0x7F, 0⟩) State.reset = .next t) ∧
    (∃ t, exec (.helloAck 0) State.reset = .next t) ∧
    (∃ t, exec .linkUp State.reset = .next t) ∧
    (∃ t, exec (.creditReturn 0) State.reset = .next t) ∧
    (∃ t, exec (.loopbackRun .pf 0 0) State.reset = .next t) ∧
    (∃ t, exec (.loopbackEnd 0 [] []) State.reset = .next t) ∧
    (∃ t, exec (.quietAck 0 0 true) State.reset = .next t) ∧
    (∃ t, exec (.quietAckTimeout 0) State.reset = .next t) ∧
    (∃ t, exec (.mgmtData 0 0 0) State.reset = .next t) ∧
    (∃ t, exec .siteMgmtRd State.reset = .next t) ∧
    (∃ t, exec (.dropAck 0 0 0 0) State.reset = .next t) ∧
    (∃ t, exec (.siteCltWaitTimeout 0 0) State.reset = .next t) :=
  ⟨⟨_, rfl⟩, ⟨_, rfl⟩, ⟨_, rfl⟩, ⟨_, rfl⟩, ⟨_, rfl⟩, ⟨_, rfl⟩, ⟨_, rfl⟩, ⟨_, rfl⟩, ⟨_, rfl⟩, ⟨_, rfl⟩, ⟨_, rfl⟩, ⟨_, rfl⟩, ⟨_, rfl⟩, ⟨_, rfl⟩, ⟨_, rfl⟩, ⟨_, rfl⟩, ⟨_, rfl⟩, ⟨_, rfl⟩⟩

theorem wit_lock_locked : ∃ s : State, (Instr.lock .pf 0).wf = true ∧ s.hub.get R.GLB_CTRL_LOCK = 1 ∧ bitsOf (0 : Word) 0 1 = 0 :=
  ⟨stOf (hubOf [(R.GLB_CTRL_LOCK, 1)]), by decide⟩

theorem wit_lock_write : ∃ s : State, (Instr.registerWrite .masthead (R.GLB_CTRL_LOCK).off 64 0).wf = true ∧ Path.masthead.holdsBlocks = true ∧ s.hub.get R.GLB_CTRL_LOCK = 1 ∧ (0 : DWord).toNat % 2 = 0 :=
  ⟨stOf (hubOf [(R.GLB_CTRL_LOCK, 1)]), by decide⟩

theorem wit_lock_unlocked : ∃ s : State, (Instr.lock .pf 1).wf = true ∧ Path.pf.holdsBlocks = true ∧ bitsOf (1 : Word) 0 1 = 1 ∧ s.hub.unlocked = true :=
  ⟨State.reset, by decide⟩

theorem wit_unaligned : (Instr.unalignedAccess .pf false 2 32 0).wf = true ∧ (Instr.unalignedAccess .pf true 0x14 64 0).wf = true ∧ 2 % (32 / 8) ≠ 0 ∧ 0x14 % (64 / 8) ≠ 0 :=
  by decide

theorem wit_vfWindow_idle : ∃ s : State, (Instr.vfWindowWrite .pf 30 3 0).wf = true ∧ Path.pf.holdsBlocks = true ∧ s.hub.vfIdle 30 = true :=
  ⟨State.reset, by decide +kernel⟩

theorem wit_vfWindow_busy : ∃ s : State, (Instr.vfWindowWrite .pf 2 0 0).wf = true ∧ Path.pf.holdsBlocks = true ∧ s.hub.vfIdle 2 = false :=
  ⟨stOf (hubOf [(R.RING_OWNER_FN 0, 3), (R.RING_CTRL_ENABLE 0, 1)]), by decide +kernel⟩

theorem wit_vfWindow_flr : (Instr.vfFlr 30).wf = true ∧ 3 < 4 :=
  by decide

theorem wit_cleat_writes : (Instr.cltSet .pf 4095 1).wf = true ∧ (Instr.cltAdd .masthead 0 1).wf = true ∧ Path.pf.holdsBlocks = true ∧ Path.masthead.holdsBlocks = true ∧ (4095 : Nat) < 4096 ∧ Hub.reset.sramErr (R.CLT_VALUE 4095).off = 0 :=
  by decide

-- RegisterAccessAnswers
theorem wit_registerWrite :
    ∃ (v : DWord) (w : Word) (s : State), ((Instr.registerWrite .pf (R.GLB_GPIO_OUT).off 32 v).wf = true) ∧ (w = BitVec.ofNat 32 v.toNat) :=
    ⟨0xA5D01230, 0xA5D01230, State.reset, by decide⟩

theorem wit_registerWrite_cleat :
    ∃ (n : Nat) (v : DWord) (w : Word) (s : State), ((Instr.registerWrite .pf (0x120000 + 8 * n) 32 v).wf = true) ∧ (n < 4096) ∧ (s.hub.sramErr (0x120000 + 8 * n) = 0) ∧ (w = BitVec.ofNat 32 v.toNat) :=
    ⟨4095, 7, 7, State.reset, by decide⟩

theorem wit_registerWrite_guarded :
    ∃ (off : Nat) (v : DWord) (w : Word) (s : State), ((Instr.registerWrite .pf off 32 v).wf = true) ∧ (off % 4 = 0) ∧ (off < 0x2000000) ∧ (s.hub.guarded off = true) :=
    ⟨0xA00600, 7, 7, State.reset, by decide⟩

theorem wit_registerWrite_unassigned :
    ∃ (off : Nat) (v : DWord) (w : Word) (s : State), ((Instr.registerWrite .pf off 32 v).wf = true) ∧ (off % 4 = 0) ∧ (0xC00008 ≤ off) ∧ (off < 0x2000000) ∧ (findReg off = none) ∧ (s.hub.sramErr off = 0) :=
    ⟨0xD00000, 7, 7, State.reset, by decide⟩

theorem wit_rcFieldRead :
    ∃ (off : Nat) (s : State), ((Instr.rcFieldRead .pf off 32).wf = true) ∧ (off % 4 = 0) ∧ (off < 0x2000000) ∧ (s.hub.sramErr off = 0) ∧ (s.hub.guarded off = false) ∧ (isLowHalf off = false) ∧ ((off < 4 ∨ isLowHalf (off - 4) = false)) ∧ (off ≠ 0x20) ∧ (inStride off 0x201000 4 48 0 = false) :=
    ⟨(R.TRIM_EVT_FALLBACKS).off, stOf (hubOf [(R.TRIM_EVT_FALLBACKS, 5), (R.TRIM_EVT_PROJ, 6)]), by decide⟩

theorem wit_levelProtectedRead :
    ∃ (off : Nat) (s : State), ((Instr.levelProtectedRead .pf off).wf = true) ∧ (off % 4 = 0) ∧ (off < 0x2000000) ∧ (s.hub.guarded off = true) :=
    ⟨0xA00600, State.reset, by decide⟩

theorem wit_levelProtectedRead_open :
    ∃ (off : Nat) (s : State), ((Instr.levelProtectedRead .pf off).wf = true) ∧ (off % 4 = 0) ∧ (off < 0x2000000) ∧ (s.hub.sramErr off = 0) ∧ (s.hub.guarded off = false) ∧ (isLowHalf off = false) ∧ ((off < 4 ∨ isLowHalf (off - 4) = false)) ∧ (off ≠ 0x20) ∧ (inStride off 0x201000 4 48 0 = false) :=
    ⟨0xA00600, stOf (hubOf [(R.TEST_HEDGE_STAT_LEVEL, 1), (R.TEST_FMAP_IDX_INDEX, 3)]), by decide⟩

theorem wit_shadowLowRead :
    ∃ (off : Nat) (s : State), ((Instr.shadowLowRead .pf off).wf = true) ∧ (off % 4 = 0) ∧ (off < 0x2000000) ∧ (s.hub.sramErr off = 0) ∧ (s.hub.guarded off = false) ∧ (isLowHalf off = true) :=
    ⟨0x130000, stOf { Hub.reset with time := { Hub.reset.time with now := 2 ^ 33 + 5 } }, by decide⟩

theorem wit_shadowHighRead :
    ∃ (off : Nat) (w : Word) (s : State), ((Instr.shadowHighRead .pf off).wf = true) ∧ (off % 4 = 0) ∧ (4 ≤ off) ∧ (off < 0x2000000) ∧ (s.hub.sramErr off = 0) ∧ (s.hub.guarded off = false) ∧ (isLowHalf off = false) ∧ (isLowHalf (off - 4) = true) ∧ (s.hub.shadow .pf = some (off - 4, w)) :=
    ⟨0x130004, 7, stOf { Hub.reset with time := { Hub.reset.time with now := 2 ^ 34, shadows := [(.pf, 0x130000, 7)] } }, by decide⟩

theorem wit_shadowHighRead_stale :
    ∃ (off : Nat) (s : State), ((Instr.shadowHighRead .pf off).wf = true) ∧ (off % 4 = 0) ∧ (4 ≤ off) ∧ (off < 0x2000000) ∧ (s.hub.sramErr off = 0) ∧ (s.hub.guarded off = false) ∧ (isLowHalf off = false) ∧ (isLowHalf (off - 4) = true) ∧ (s.hub.shadow .pf = none) :=
    ⟨0x130004, stOf { Hub.reset with time := { Hub.reset.time with now := 2 ^ 34 } }, by decide⟩

-- PowerDomainsFollowRequests
theorem wit_refclkLoss :
    ∃ (s : State), (s.hub.pins.refclk = true) ∧ (s.hub.pins.d0Reset = false) :=
    ⟨stOf { hubOf [(R.CREW_CTRL_EN, 1), (R.TIME_STAT_TRUSTED, 1)] with pins := { Pins.reset with d0Reset := false, refclk := true } }, by decide⟩

theorem wit_refclkReturn :
    ∃ (s : State), (s.hub.pins.refclk = false) ∧ (s.hub.pins.d0Reset = false) :=
    ⟨stOf { hubOf [(R.TIME_STAT_REFLOST, 1)] with pins := { Pins.reset with d0Reset := false, refclk := false } }, by decide⟩

theorem wit_domainReqHoldOn :
    ∃ (req : Path) (n : Nat) (s : State), ((Instr.domainReqHoldOn req n).wf = true) ∧ (req.holdsBlocks = true) ∧ (s.hub.domState n = 0) ∧ (nget s.hub.power.own n = 0) ∧ (nget s.hub.power.barred n = 0) ∧ (¬ (56 ≤ n ∧ n < 60 ∧ s.hub.siteFit (n - 56) = false)) :=
    ⟨Path.pf, 2, State.reset, by decide⟩

theorem wit_domainReqHub :
    ∃ (req : Path) (n : Nat) (s : State), ((Instr.domainReqHub req n).wf = true) ∧ (req.holdsBlocks = true) :=
    ⟨Path.pf, 2, State.reset, by decide⟩

theorem wit_domainReqHoldOff :
    ∃ (req : Path) (n : Nat) (s : State), ((Instr.domainReqHoldOff req n).wf = true) ∧ (req.holdsBlocks = true) ∧ (s.hub.domState n = 2) ∧ (nget s.hub.power.own n = 0) ∧ (s.hub.ready = true) ∧ ((56 ≤ n ∧ n ≤ 68)) :=
    ⟨Path.pf, 60, stOf (hubOf [(R.GLB_RDY_READY, 1), (R.PWR_DOM_STATE 60, 2)]), by decide⟩

theorem wit_domainReqHoldOff_refused :
    ∃ (req : Path) (n : Nat) (s : State), ((Instr.domainReqHoldOff req n).wf = true) ∧ (req.holdsBlocks = true) ∧ (s.hub.domState n = 2) ∧ (nget s.hub.power.own n = 0) ∧ (s.hub.ready = true) ∧ ((n ≤ 1 ∨ 50 ≤ n ∧ n < 56)) :=
    ⟨Path.pf, 50, stOf (hubOf [(R.GLB_RDY_READY, 1), (R.PWR_DOM_STATE 50, 2)]), by decide⟩

theorem wit_domainAdmit :
    ∃ (n m : Nat) (s : State), ((Instr.domainAdmit n).wf = true) ∧ (nget s.hub.power.want n = 1) ∧ (s.hub.nextWave.contains n = true) ∧ (s.hub.nextWave.contains m = true) ∧ (s.hub.riseOk (waveMw s.hub.nextWave) (s.hub.swapOf (waveMw s.hub.nextWave)) 0 0 = true) :=
    ⟨2, 3, stOf { hubOf [(R.SNS_CH_VALID 218, 1), (R.SNS_CH_VALID 219, 1)] with power := { PowerS.reset with want := [(2, 1), (3, 1)] } }, by decide⟩

theorem wit_domainLowerIdle :
    ∃ (n : Nat) (s : State), ((Instr.domainLowerIdle n).wf = true) ∧ (nget s.hub.power.want n = 2) ∧ ((s.hub.reefOn = false ∨ s.hub.power.fall + 100 * hoistStep n ≤ s.hub.stepMw)) :=
    ⟨2, stOf { Hub.reset with power := { PowerS.reset with want := [(2, 2)] } }, by decide⟩

theorem wit_domainLowerAbandon :
    ∃ (n : Nat) (s : State), ((Instr.domainLowerAbandon n).wf = true) ∧ (nget s.hub.power.want n = 2) ∧ (nget s.hub.power.latch n = 0) :=
    ⟨2, stOf { Hub.reset with power := { PowerS.reset with want := [(2, 2)] } }, by decide⟩

theorem wit_domainTransitionComplete :
    ∃ (n : Nat) (s : State), ((Instr.domainTransitionComplete n).wf = true) ∧ ((n < 60 ∨ 68 ≤ n)) ∧ (s.hub.domState n = 1) ∧ (nget s.hub.power.latch n = 0) :=
    ⟨72, stOf { hubOf [(R.PWR_DOM_STATE 72, 1), (R.PWR_DOM_PENDING 72, 1)] with clock := 0 }, by decide⟩

theorem wit_domainTransitionComplete_off :
    ∃ (n : Nat) (s : State), ((Instr.domainTransitionComplete n).wf = true) ∧ ((n < 60 ∨ 68 ≤ n)) ∧ (s.hub.domState n = 3) ∧ (nget s.hub.power.latch n = 0) :=
    ⟨3, stOf { hubOf [(R.PWR_DOM_STATE 3, 3)] with clock := 0 }, by decide⟩

theorem wit_domainTransitionComplete_quad :
    ∃ (n p : Nat) (s : State), ((Instr.domainTransitionComplete n).wf = true) ∧ (60 ≤ n) ∧ (n < 68) ∧ (s.hub.domState n = 3) ∧ (nget s.hub.power.latch n = 0) ∧ (p < 32) ∧ (s.hub.portState p = 2) ∧ (s.hub.portMode p = 0) ∧ ((s.hub.quadsOf p).contains (n - 60) = true) :=
    ⟨61, 2, stOf { hubOf [(R.SER_PORT_CFG_EN 2, 1), (R.SER_PORT_CFG_FIRST 2, 4), (R.SER_PORT_CFG_WIDTH 2, 1), (R.SER_PORT_CFG_MODE 2, 0), (R.SER_PORT_CFG_RATE 2, 2), (R.SER_PORT_STAT_STATE 2, 2), (R.PWR_DOM_STATE 61, 3), (R.SER_LANE_STAT_STATE 4, 7)] with clock := 0 }, by decide⟩

theorem wit_domainFailed :
    ∃ (n : Nat) (s : State), ((Instr.domainFailed n).wf = true) ∧ (s.hub.booting = true) ∧ (s.hub.stage = 2) ∧ (s.hub.domState n = 1) ∧ (2 ≤ n) ∧ (n < 50) :=
    ⟨9, stOf { hubOf [(R.GLB_RDY_STAGE, 2), (R.PWR_DOM_STATE 9, 1)] with pins := { Pins.reset with pwrgood := true, d0Reset := false } }, by decide⟩

-- CovenantAndReefAnswers
theorem wit_covSlewWrite :
    ∃ (req : Path) (v : Word) (s : State), ((Instr.covSlewWrite req v).wf = true) ∧ (req.holdsBlocks = true) ∧ (s.hub.unlocked = true) :=
    ⟨Path.pf, 0x07D00064, State.reset, by decide⟩

theorem wit_covStepWrite :
    ∃ (req : Path) (v : Word) (s : State), ((Instr.covStepWrite req v).wf = true) ∧ (req.holdsBlocks = true) ∧ (s.hub.unlocked = true) :=
    ⟨Path.pf, 0x00002864, State.reset, by decide⟩

theorem wit_reefEnable :
    ∃ (req : Path) (v : Word) (s : State), ((Instr.reefEnable req v).wf = true) ∧ (req.holdsBlocks = true) ∧ (2 ≤ s.hub.level) :=
    ⟨Path.pf, 0x280000, stOf (hubOf [(R.TEST_HEDGE_STAT_LEVEL, 2)]), by decide⟩

theorem wit_reefDisable :
    ∃ (req : Path) (v : Word) (s : State), ((Instr.reefDisable req v).wf = true) ∧ (req.holdsBlocks = true) ∧ (2 ≤ s.hub.level) :=
    ⟨Path.pf, 0x280000, stOf (hubOf [(R.TEST_HEDGE_STAT_LEVEL, 2), (R.PWR_REEF_CTRL_ENABLE, 1)]), by decide⟩

theorem wit_reefDisable_refused :
    ∃ (req : Path) (v : Word) (s : State), ((Instr.reefDisable req v).wf = true) ∧ (req.holdsBlocks = true) ∧ (s.hub.level < 2) :=
    ⟨Path.pf, 0x280000, stOf (hubOf [(R.PWR_REEF_CTRL_ENABLE, 1)]), by decide⟩

theorem wit_reefTick :
    ∃ (pin hubAbove stackTraffic sensedDrop knownDrop : Nat) (s : State), ((Instr.reefTick pin hubAbove stackTraffic sensedDrop knownDrop).wf = true) :=
    ⟨1000, 20, 10, 0, 0, stOf (hubOf [(R.SNS_CH_VALID 218, 1), (R.SNS_CH_VALID 219, 1)]), by decide⟩

theorem wit_droopTrip :
    ∃ (island sagMv : Nat) (s : State), ((Instr.droopTrip island sagMv).wf = true) ∧ (s.hub.get R.PWR_DROOP_TRIP_MV < sagMv) ∧ (s.hub.domOn (domainOfIsland island) = true) ∧ (s.hub.on (R.PWR_ISL_STRETCHED island) = false) ∧ (s.hub.get (R.PWR_ISL_STRETCH_COUNT island) + 1 < 2 ^ (R.PWR_ISL_STRETCH_COUNT island).width) :=
    ⟨2, 40, stOf (hubOf [(R.PWR_DOM_STATE 4, 2)]), by decide⟩

theorem wit_droopRelease :
    ∃ (island sagMv : Nat) (s : State), ((Instr.droopRelease island sagMv).wf = true) ∧ (sagMv + 10 ≤ s.hub.get R.PWR_DROOP_TRIP_MV) :=
    ⟨95, 5, stOf (hubOf [(R.PWR_ISL_STRETCHED 95, 1)]), by decide⟩

theorem wit_emergencyLowerWave :
    ∃ (w : List Nat) (ws : List (List Nat)) (s : State), (s.hub.boot.pend ≠ 0) ∧ (s.hub.boot.zeroSent = true) ∧ (s.hub.power.fall = 0) ∧ (s.hub.power.waves = w :: ws) :=
    ⟨[3, 2], [], stOf { hubOf [(R.PWR_DOM_STATE 2, 2), (R.PWR_DOM_STATE 3, 2)] with boot := { BootS.reset with pend := 1, zeroSent := true }, power := { PowerS.reset with waves := [[3, 2]] } }, by decide⟩

theorem wit_vholdReady :
    ∃ (mv : Nat) (s : State), ((Instr.vholdReady mv).wf = true) ∧ (s.hub.power.charger = true) :=
    ⟨4801, stOf { Hub.reset with power := { PowerS.reset with charger := true } }, by decide⟩

theorem wit_pmbusPoll :
    ∃ (answers : List (List Nat)) (n : Nat) (s : State), ((Instr.pmbusPoll answers).wf = true) ∧ (n < 16) ∧ (s.hub.get (R.PWR_PMB_DEV_ADDR n) ≠ 0) ∧ (answers.getD n [] ≠ []) ∧ (s.hub.pinsOut = false) :=
    ⟨List.replicate 16 [0, 1], 15, stOf { hubOf [(R.PWR_PMB_DEV_ADDR 15, 0x20), (R.TEST_JTAG_STAT_IR, 1)] with power := { PowerS.reset with missed := [(15, 2)] } }, by decide⟩

/-- Regulator 0 feeds the core rail. -/
def voutState : State :=
  stOf { hubOf [(R.GLB_RDY_STAGE, 2), (R.PWR_PMB_DEV_ADDR 0, 0x20), (R.PWR_PMB_DEV_RAIL 0, Config.railCore)] with
    clock := 10000, power := { PowerS.reset with vdd := 700 } }

theorem wit_voutCommand_regulator : voutState.hub.coreRegulator = some 0 := by
  have e : List.range 16 = 0 :: List.range' 1 15 := by decide
  unfold Hub.coreRegulator
  rw [e, List.find?_cons_of_pos]
  simp [voutState, stOf, hubOf]

theorem wit_voutCommand :
    ∃ (up : Bool) (n : Nat) (s : State), (Instr.voutCommand up).wf = true ∧ s.hub.coreRegulator = some n ∧ 2 ≤ s.hub.stage ∧
      650 ≤ (if up then s.hub.power.vdd + 5 else s.hub.power.vdd - 5) ∧
      (if up then s.hub.power.vdd + 5 else s.hub.power.vdd - 5) ≤ 750 ∧ s.hub.power.vddAt + 10000 ≤ s.hub.clock ∧
      nget s.hub.power.missed n = 0 :=
  ⟨true, 0, voutState, rfl, wit_voutCommand_regulator, by simp [voutState, stOf, hubOf, Hub.stage], by decide, by decide,
    by decide, by decide⟩

-- ResetsAndPinsAnswer
theorem wit_glbRstWarm :
    ∃ (req : Path) (v : Word) (s : State), ((Instr.glbRstWarm req v).wf = true) ∧ (req.holdsBlocks = true) ∧ (bitsOf v 16 16 = 0xA55A) ∧ (s.hub.pins.d0Reset = false) ∧ (s.hub.boot.pend = 0) :=
    ⟨Path.pf, 0xA55A0001, stOf { Hub.reset with pins := { Pins.reset with pwrgood := true, d0Reset := false } }, by decide⟩

theorem wit_glbRstHub :
    ∃ (req : Path) (v : Word) (s : State), ((Instr.glbRstHub req v).wf = true) ∧ (req.holdsBlocks = true) ∧ (bitsOf v 16 16 = 0xA55A) ∧ (s.hub.pins.d0Reset = false) ∧ (s.hub.boot.pend = 0) :=
    ⟨Path.pf, 0xA55A0002, stOf { Hub.reset with pins := { Pins.reset with pwrgood := true, d0Reset := false } }, by decide⟩

theorem wit_glbRst_nokey :
    ∃ (req : Path) (v : Word) (s : State), ((Instr.glbRstHub req v).wf = true) ∧ (req.holdsBlocks = true) ∧ (bitsOf v 16 16 ≠ 0xA55A) :=
    ⟨Path.pf, 2, stOf { Hub.reset with pins := { Pins.reset with pwrgood := true, d0Reset := false } }, by decide⟩

theorem wit_warmReset :
    ∃ (s : State), (s.hub.mayReset 1 = true) :=
    ⟨stOf { Hub.reset with pins := { Pins.reset with pwrgood := true, d0Reset := false }, boot := { BootS.reset with pend := 1 } }, by decide⟩

theorem wit_hubReset :
    ∃ (s : State), (s.hub.mayReset 2 = true) :=
    ⟨stOf { Hub.reset with pins := { Pins.reset with pwrgood := true, d0Reset := false }, boot := { BootS.reset with pend := 2 } }, by decide⟩

theorem wit_perstNAssert :
    ∃ (s : State), (s.hub.pins.pwrgood = true) ∧ (s.hub.pins.d0Reset = false) ∧ (s.hub.boot.pend = 0) :=
    ⟨stOf { Hub.reset with pins := { Pins.reset with pwrgood := true, d0Reset := false } }, by decide⟩

theorem wit_pwrgoodFall :
    ∃ (s : State), (s.hub.pins.pwrgood = true) :=
    ⟨stOf { Hub.reset with pins := { Pins.reset with pwrgood := true, d0Reset := false } }, by decide⟩

theorem wit_pwrgoodLowFilterExpiry :
    ∃ (s : State), (s.hub.pins.lowFilter = true) :=
    ⟨stOf { Hub.reset with pins := { Pins.reset with d0Reset := false, lowFilter := true } }, by decide⟩

theorem wit_pwrgoodRise :
    ∃ (siteFit mtSel smbAddr : Nat) (s : State), ((Instr.pwrgoodRise siteFit mtSel smbAddr).wf = true) ∧ (s.hub.pins.pwrgood = false) ∧ (s.hub.pins.d0Reset = true) :=
    ⟨15, 2, 2, State.reset, by decide⟩

theorem wit_pwrgoodRise_filtered :
    ∃ (siteFit mtSel smbAddr : Nat) (s : State), ((Instr.pwrgoodRise siteFit mtSel smbAddr).wf = true) ∧ (s.hub.pins.pwrgood = false) ∧ (s.hub.pins.d0Reset = false) :=
    ⟨15, 2, 2, stOf { Hub.reset with pins := { Pins.reset with d0Reset := false, lowFilter := true } }, by decide⟩

theorem wit_bootProfileWrite :
    ∃ (req : Path) (v : Word) (s : State), ((Instr.bootProfileWrite req v).wf = true) ∧ (req.holdsBlocks = true) ∧ (s.hub.stage < 3) ∧ (bitsOf v 0 2 ≠ 3) ∧ (bitsOf v 0 2 ≠ 0) :=
    ⟨Path.pf, 0x112, State.reset, by decide⟩

theorem wit_bootProfileWrite_late :
    ∃ (req : Path) (v : Word) (s : State), ((Instr.bootProfileWrite req v).wf = true) ∧ (req.holdsBlocks = true) ∧ (6 ≤ s.hub.stage) :=
    ⟨Path.pf, 0x012, stOf (hubOf [(R.GLB_RDY_STAGE, 6), (R.BOOT_PROFILE_CUR, 2)]), by decide⟩

-- EarlyStagesRun
theorem wit_stageS1 :
    ∃ (images : List (Bool × Nat)) (k : Nat) (s : State), ((Instr.stageS1 images).wf = true) ∧ (s.hub.mayEnter 1 = true) ∧ ((s.hub.yew.slots.filter fun k => (images.getD k (false, 0)).1).find? (fun k => decide (s.hub.yew.rollback ≤ (images.getD k (false, 0)).2)) = some k) :=
    ⟨[(false, 0), (true, 7)], 1, stOf { hubOf [(R.GLB_RDY_STAGE, 0), (R.PWR_DOM_STATE 1, 2), (R.PWR_DOM_STATE 68, 2)] with pins := { Pins.reset with pwrgood := true, d0Reset := false }, boot := { BootS.reset with done := true } }, by decide⟩

theorem wit_stageS1_none :
    ∃ (images : List (Bool × Nat)) (s : State), ((Instr.stageS1 images).wf = true) ∧ (s.hub.mayEnter 1 = true) ∧ ((s.hub.yew.slots.filter fun k => (images.getD k (false, 0)).1) = []) :=
    ⟨[(false, 0), (false, 7)], stOf { hubOf [(R.GLB_RDY_STAGE, 0), (R.PWR_DOM_STATE 1, 2), (R.PWR_DOM_STATE 68, 2)] with pins := { Pins.reset with pwrgood := true, d0Reset := false }, boot := { BootS.reset with done := true } }, by decide⟩

theorem wit_stageS2 :
    ∃ (n : Nat) (s : State), (s.hub.mayEnter 2 = true) ∧ (n ∈ s.hub.s2Domains) ∧ (s.hub.domState n = 0) :=
    ⟨73, stOf { hubOf [(R.GLB_RDY_STAGE, 1), (R.PWR_HOLD_READY, 1)] with pins := { Pins.reset with pwrgood := true, d0Reset := false }, boot := { BootS.reset with done := true } }, by decide⟩

theorem wit_stageS3 :
    ∃ (s : State), (s.hub.mayEnter 3 = true) ∧ (s.hub.on R.BOOT_PROFILE_LBIST = false) :=
    ⟨stOf { hubOf [(R.GLB_RDY_STAGE, 2), (R.BOOT_PROFILE_LBIST, 0), (R.PWR_DOM_STATE 0, 2), (R.PWR_DOM_STATE 1, 2), (R.PWR_DOM_STATE 2, 2), (R.PWR_DOM_STATE 3, 2), (R.PWR_DOM_STATE 4, 2), (R.PWR_DOM_STATE 5, 2), (R.PWR_DOM_STATE 6, 2), (R.PWR_DOM_STATE 7, 2), (R.PWR_DOM_STATE 8, 2), (R.PWR_DOM_STATE 9, 2), (R.PWR_DOM_STATE 10, 2), (R.PWR_DOM_STATE 11, 2), (R.PWR_DOM_STATE 12, 2), (R.PWR_DOM_STATE 13, 2), (R.PWR_DOM_STATE 14, 2), (R.PWR_DOM_STATE 15, 2), (R.PWR_DOM_STATE 16, 2), (R.PWR_DOM_STATE 17, 2), (R.PWR_DOM_STATE 18, 2), (R.PWR_DOM_STATE 19, 2), (R.PWR_DOM_STATE 20, 2), (R.PWR_DOM_STATE 21, 2), (R.PWR_DOM_STATE 22, 2), (R.PWR_DOM_STATE 23, 2), (R.PWR_DOM_STATE 24, 2), (R.PWR_DOM_STATE 25, 2), (R.PWR_DOM_STATE 26, 2), (R.PWR_DOM_STATE 27, 2), (R.PWR_DOM_STATE 28, 2), (R.PWR_DOM_STATE 29, 2), (R.PWR_DOM_STATE 30, 2), (R.PWR_DOM_STATE 31, 2), (R.PWR_DOM_STATE 32, 2), (R.PWR_DOM_STATE 33, 2), (R.PWR_DOM_STATE 34, 2), (R.PWR_DOM_STATE 35, 2), (R.PWR_DOM_STATE 36, 2), (R.PWR_DOM_STATE 37, 2), (R.PWR_DOM_STATE 38, 2), (R.PWR_DOM_STATE 39, 2), (R.PWR_DOM_STATE 40, 2), (R.PWR_DOM_STATE 41, 2), (R.PWR_DOM_STATE 42, 2), (R.PWR_DOM_STATE 43, 2), (R.PWR_DOM_STATE 44, 2), (R.PWR_DOM_STATE 45, 2), (R.PWR_DOM_STATE 46, 2), (R.PWR_DOM_STATE 47, 2), (R.PWR_DOM_STATE 48, 2), (R.PWR_DOM_STATE 49, 2), (R.PWR_DOM_STATE 50, 2), (R.PWR_DOM_STATE 51, 2), (R.PWR_DOM_STATE 52, 2), (R.PWR_DOM_STATE 53, 2), (R.PWR_DOM_STATE 54, 2), (R.PWR_DOM_STATE 55, 2), (R.PWR_DOM_STATE 56, 2), (R.PWR_DOM_STATE 57, 2), (R.PWR_DOM_STATE 58, 2), (R.PWR_DOM_STATE 59, 2), (R.PWR_DOM_STATE 60, 2), (R.PWR_DOM_STATE 61, 2), (R.PWR_DOM_STATE 62, 2), (R.PWR_DOM_STATE 63, 2), (R.PWR_DOM_STATE 64, 2), (R.PWR_DOM_STATE 65, 2), (R.PWR_DOM_STATE 66, 2), (R.PWR_DOM_STATE 67, 2), (R.PWR_DOM_STATE 68, 2), (R.PWR_DOM_STATE 69, 2), (R.PWR_DOM_STATE 70, 2), (R.PWR_DOM_STATE 71, 2), (R.PWR_DOM_STATE 72, 2), (R.PWR_DOM_STATE 73, 2)] with pins := { Pins.reset with pwrgood := true, d0Reset := false }, boot := { BootS.reset with done := true } }, by decide +kernel⟩

theorem wit_stageS3_lbist :
    ∃ (s : State), (s.hub.mayEnter 3 = true) ∧ (s.hub.on R.BOOT_PROFILE_LBIST = true) ∧ (s.hub.sliceSkipped 0 = false) :=
    ⟨stOf { hubOf [(R.GLB_RDY_STAGE, 2), (R.PWR_DOM_STATE 0, 2), (R.PWR_DOM_STATE 1, 2), (R.PWR_DOM_STATE 2, 2), (R.PWR_DOM_STATE 3, 2), (R.PWR_DOM_STATE 4, 2), (R.PWR_DOM_STATE 5, 2), (R.PWR_DOM_STATE 6, 2), (R.PWR_DOM_STATE 7, 2), (R.PWR_DOM_STATE 8, 2), (R.PWR_DOM_STATE 9, 2), (R.PWR_DOM_STATE 10, 2), (R.PWR_DOM_STATE 11, 2), (R.PWR_DOM_STATE 12, 2), (R.PWR_DOM_STATE 13, 2), (R.PWR_DOM_STATE 14, 2), (R.PWR_DOM_STATE 15, 2), (R.PWR_DOM_STATE 16, 2), (R.PWR_DOM_STATE 17, 2), (R.PWR_DOM_STATE 18, 2), (R.PWR_DOM_STATE 19, 2), (R.PWR_DOM_STATE 20, 2), (R.PWR_DOM_STATE 21, 2), (R.PWR_DOM_STATE 22, 2), (R.PWR_DOM_STATE 23, 2), (R.PWR_DOM_STATE 24, 2), (R.PWR_DOM_STATE 25, 2), (R.PWR_DOM_STATE 26, 2), (R.PWR_DOM_STATE 27, 2), (R.PWR_DOM_STATE 28, 2), (R.PWR_DOM_STATE 29, 2), (R.PWR_DOM_STATE 30, 2), (R.PWR_DOM_STATE 31, 2), (R.PWR_DOM_STATE 32, 2), (R.PWR_DOM_STATE 33, 2), (R.PWR_DOM_STATE 34, 2), (R.PWR_DOM_STATE 35, 2), (R.PWR_DOM_STATE 36, 2), (R.PWR_DOM_STATE 37, 2), (R.PWR_DOM_STATE 38, 2), (R.PWR_DOM_STATE 39, 2), (R.PWR_DOM_STATE 40, 2), (R.PWR_DOM_STATE 41, 2), (R.PWR_DOM_STATE 42, 2), (R.PWR_DOM_STATE 43, 2), (R.PWR_DOM_STATE 44, 2), (R.PWR_DOM_STATE 45, 2), (R.PWR_DOM_STATE 46, 2), (R.PWR_DOM_STATE 47, 2), (R.PWR_DOM_STATE 48, 2), (R.PWR_DOM_STATE 49, 2), (R.PWR_DOM_STATE 50, 2), (R.PWR_DOM_STATE 51, 2), (R.PWR_DOM_STATE 52, 2), (R.PWR_DOM_STATE 53, 2), (R.PWR_DOM_STATE 54, 2), (R.PWR_DOM_STATE 55, 2), (R.PWR_DOM_STATE 56, 2), (R.PWR_DOM_STATE 57, 2), (R.PWR_DOM_STATE 58, 2), (R.PWR_DOM_STATE 59, 2), (R.PWR_DOM_STATE 60, 2), (R.PWR_DOM_STATE 61, 2), (R.PWR_DOM_STATE 62, 2), (R.PWR_DOM_STATE 63, 2), (R.PWR_DOM_STATE 64, 2), (R.PWR_DOM_STATE 65, 2), (R.PWR_DOM_STATE 66, 2), (R.PWR_DOM_STATE 67, 2), (R.PWR_DOM_STATE 68, 2), (R.PWR_DOM_STATE 69, 2), (R.PWR_DOM_STATE 70, 2), (R.PWR_DOM_STATE 71, 2), (R.PWR_DOM_STATE 72, 2), (R.PWR_DOM_STATE 73, 2)] with pins := { Pins.reset with pwrgood := true, d0Reset := false }, boot := { BootS.reset with done := true } }, by decide +kernel⟩

theorem wit_lbistSliceEnd :
    ∃ (us sig : Nat) (good : Bool) (k : Nat) (s : State), ((Instr.lbistSliceEnd us sig good).wf = true) ∧ (s.hub.stage = 3) ∧ (s.hub.boot.lbNext = k) ∧ (k < 48) ∧ (s.hub.booting = true) ∧ (s.hub.stepAdmitted 5 k = true) ∧ (good = true) ∧ (us ≤ s.hub.boot.lbBudget) :=
    ⟨1200, 0x123456789A, true, 47, stOf { hubOf [(R.GLB_RDY_STAGE, 3)] with boot := { BootS.reset with lbNext := 47 }, power := { PowerS.reset with steps := [{ kind := 5, unit := 47, mw := 38000, expo := 38000, sense := 0, adm := true }] } }, by decide⟩

theorem wit_lbistSliceTimeout :
    ∃ (k : Nat) (s : State), (s.hub.stage = 3) ∧ (s.hub.boot.lbNext = k) ∧ (k < 48) ∧ (s.hub.booting = true) ∧ (s.hub.stepAdmitted 5 k = true) :=
    ⟨47, stOf { hubOf [(R.GLB_RDY_STAGE, 3)] with boot := { BootS.reset with lbNext := 47 }, power := { PowerS.reset with steps := [{ kind := 5, unit := 47, mw := 38000, expo := 38000, sense := 0, adm := true }] } }, by decide⟩

theorem wit_stageS4 :
    ∃ (present cap36 : Nat) (s : State), ((Instr.stageS4 present cap36).wf = true) ∧ (s.hub.mayEnter 4 = true) ∧ (present = 63) ∧ ((cap36 = 0 ∨ cap36 = 63)) :=
    ⟨63, 63, stOf { hubOf [(R.GLB_RDY_STAGE, 3)] with pins := { Pins.reset with pwrgood := true, d0Reset := false }, boot := { BootS.reset with done := true, lbNext := 48 } }, by decide⟩

theorem wit_stackTrainingComplete :
    ∃ (stack code chan rate lanes raaimt raammt pprGood : Nat) (s : State), ((Instr.stackTrainingComplete stack code chan rate lanes raaimt raammt pprGood).wf = true) ∧ (s.hub.stage = 4) ∧ (s.hub.booting = true) ∧ (s.hub.boot.done = false) ∧ (code = 1) ∧ (s.hub.boot.trained = []) :=
    ⟨5, 1, 0, 6, 2, 64, 128, 0, stOf (hubOf [(R.GLB_RDY_STAGE, 4)]), by decide⟩

theorem wit_stackTrainingComplete_fail :
    ∃ (stack code chan rate lanes raaimt raammt pprGood : Nat) (s : State), ((Instr.stackTrainingComplete stack code chan rate lanes raaimt raammt pprGood).wf = true) ∧ (s.hub.stage = 4) ∧ (s.hub.booting = true) ∧ (s.hub.boot.done = false) ∧ (code ≠ 1) :=
    ⟨5, 4, 0, 6, 2, 64, 128, 0, stOf (hubOf [(R.GLB_RDY_STAGE, 4)]), by decide⟩

theorem wit_stageS5 :
    ∃ (k : Nat) (s : State), (s.hub.mayEnter 5 = true) ∧ (k < 4) ∧ (s.hub.siteFit k = true) ∧ (s.hub.siteOut k = false) :=
    ⟨3, stOf { hubOf [(R.GLB_RDY_STAGE, 4), (R.GLB_STRAP_SITE_FIT, 8)] with pins := { Pins.reset with pwrgood := true, d0Reset := false }, boot := { BootS.reset with done := true } }, by decide⟩

theorem wit_stageLimitExpiry :
    ∃ (s : State), (s.hub.booting = true) ∧ (s.hub.stageDone = false) ∧ (s.hub.pins.d0Reset = false) ∧ (s.hub.boot.pend = 0) ∧ (s.hub.stage = 1) ∧ (s.hub.on R.PWR_HOLD_READY = false) :=
    ⟨stOf { hubOf [(R.GLB_RDY_STAGE, 1)] with pins := { Pins.reset with pwrgood := true, d0Reset := false }, boot := { BootS.reset with done := true } }, by decide⟩

-- MemoryTestAndWavesRun
theorem wit_stageS6 :
    ∃ (s : State), (s.hub.mayEnter 6 = true) ∧ (s.hub.get R.BOOT_PROFILE_CUR ≠ 0) :=
    ⟨stOf { hubOf [(R.GLB_RDY_STAGE, 5), (R.BOOT_PROFILE_CUR, 1)] with pins := { Pins.reset with pwrgood := true, d0Reset := false }, boot := { BootS.reset with done := true } }, by decide⟩

theorem wit_stageS6_skip :
    ∃ (s : State), (s.hub.mayEnter 6 = true) ∧ (s.hub.get R.BOOT_PROFILE_CUR = 0) ∧ (s.hub.fail.grans = []) :=
    ⟨stOf { hubOf [(R.GLB_RDY_STAGE, 5), (R.BOOT_PROFILE_CUR, 0)] with pins := { Pins.reset with pwrgood := true, d0Reset := false }, boot := { BootS.reset with done := true } }, by decide⟩

theorem wit_memoryTestElementEnd :
    ∃ (banks : List Nat) (rows : List (Nat × Bool)) (entries : List (Nat × Nat × Nat × Nat)) (s : State), ((Instr.memoryTestElementEnd banks rows entries).wf = true) ∧ (s.hub.testing6 = true) ∧ (s.hub.power.entry = 0) ∧ (s.hub.get R.TEST_HEDGE_STAT_STATE ≠ 3) ∧ (s.hub.boot.elem + 1 < s.hub.boot.elems) :=
    ⟨[], [], [], stOf { hubOf [(R.GLB_RDY_STAGE, 6)] with boot := { BootS.reset with elems := 5 } }, by decide⟩

theorem wit_memoryTestElementEnd_last :
    ∃ (banks : List Nat) (rows : List (Nat × Bool)) (entries : List (Nat × Nat × Nat × Nat)) (s : State), ((Instr.memoryTestElementEnd banks rows entries).wf = true) ∧ (s.hub.testing6 = true) ∧ (s.hub.power.entry = 0) ∧ (s.hub.boot.elems ≤ s.hub.boot.elem + 1) ∧ (s.hub.fail.grans = []) ∧ (rows = []) ∧ (s.hub.boot.newFails = []) :=
    ⟨[], [], [], stOf { hubOf [(R.GLB_RDY_STAGE, 6)] with boot := { BootS.reset with elem := 4, elems := 5 } }, by decide⟩

theorem wit_stageS7 :
    ∃ (s : State), (s.hub.mayEnter 7 = true) :=
    ⟨stOf { hubOf [(R.GLB_RDY_STAGE, 6)] with pins := { Pins.reset with pwrgood := true, d0Reset := false }, boot := { BootS.reset with done := true } }, by decide⟩

theorem wit_stageS8 :
    ∃ (s : State), (s.hub.mayEnter 8 = true) ∧ ((List.range 4).filter s.hub.siteUp = []) :=
    ⟨stOf { hubOf [(R.GLB_RDY_STAGE, 7)] with pins := { Pins.reset with pwrgood := true, d0Reset := false }, boot := { BootS.reset with done := true } }, by decide⟩

theorem wit_waveGrant :
    ∃ (site : Nat) (s : State), ((Instr.waveGrant site).wf = true) ∧ (s.hub.stage = 8) ∧ (s.hub.booting = true) ∧ (s.hub.siteUp site = true) ∧ (s.hub.negFlag site 3 = true) ∧ ((s.hub.wave site).busy = false) ∧ (s.hub.nextCores site ≠ 0) ∧ (s.hub.waveTime site = true) ∧ ((s.hub.stepAdmitted 2 site = true ∨ s.hub.riseOk (s.hub.waveRise site) (s.hub.swapOf (s.hub.waveRise site)) 0 0 = true)) :=
    ⟨2, stOf { hubOf [(R.GLB_RDY_STAGE, 8), (R.YDL_STAT_STATE 2, 2), (R.YDL_NEG_LO 2, 8), (R.YDL_PEER_CORES 2, 1000), (R.YDL_PEER_PWR_WW 2, 100), (R.YDL_CREDIT_HELD 2 0, 20)] with power := { PowerS.reset with steps := [{ kind := 2, unit := 2, mw := 0, expo := 0, sense := 0, adm := true }] } }, by decide⟩

theorem wit_waveDone :
    ∃ (site up : Nat) (s : State), ((Instr.waveDone site up).wf = true) ∧ (s.hub.stage = 8) ∧ ((s.hub.wave site).busy = true) ∧ (s.hub.siteUp site = true) ∧ (s.hub.get (R.YDL_CREDIT_OWED site 1) + 1 ≤ 256) :=
    ⟨2, 100, stOf { hubOf [(R.GLB_RDY_STAGE, 8), (R.YDL_STAT_STATE 2, 2)] with boot := { BootS.reset with waves := [(2, { granted := 100, up := 0, busy := true, lastAt := 0 })] } }, by decide⟩

theorem wit_waveTimeout :
    ∃ (site : Nat) (s : State), ((Instr.waveTimeout site).wf = true) ∧ (s.hub.stage = 8) ∧ (s.hub.siteUp site = true) ∧ (s.hub.siteOut site = false) ∧ ((s.hub.wave site).busy = true) :=
    ⟨2, stOf { hubOf [(R.GLB_RDY_STAGE, 8), (R.YDL_STAT_STATE 2, 2)] with boot := { BootS.reset with waves := [(2, { granted := 100, up := 0, busy := true, lastAt := 0 })] } }, by decide⟩

-- FirmwareAndReadyRun
theorem wit_bootFwGo :
    ∃ (req : Path) (v : Word) (image : List Byte) (s : State), ((Instr.bootFwGo req v image).wf = true) ∧ (req.holdsBlocks = true) ∧ (s.hub.stage < 9) ∧ (s.hub.on R.BOOT_STAT_WAIT_HOST = false) ∧ (s.hub.boot.fwAddr = true) ∧ (s.hub.boot.fwLen = true) :=
    ⟨Path.pf, 0x1E11, [], stOf { Hub.reset with boot := { BootS.reset with fwAddr := true, fwLen := true } }, by decide⟩

theorem wit_bootFwGo_s9 :
    ∃ (req : Path) (v : Word) (image : List Byte) (s : State), ((Instr.bootFwGo req v image).wf = true) ∧ (req.holdsBlocks = true) ∧ (s.hub.on R.BOOT_STAT_WAIT_HOST = true) ∧ (s.hub.boot.fwAddr = true) ∧ (s.hub.boot.fwLen = true) ∧ (s.hub.fnRuns 0 = false) :=
    ⟨Path.pf, 0x1E11, [1], stOf { hubOf [(R.BOOT_STAT_WAIT_HOST, 1), (R.BOOT_FW_LEN, 0x40)] with boot := { BootS.reset with fwAddr := true, fwLen := true } }, by decide⟩

theorem wit_bootFwGo_fetch :
    ∃ (req : Path) (v : Word) (image : List Byte) (s : State), ((Instr.bootFwGo req v image).wf = true) ∧ (req.holdsBlocks = true) ∧ (s.hub.on R.BOOT_STAT_WAIT_HOST = true) ∧ (s.hub.boot.fwAddr = true) ∧ (s.hub.boot.fwLen = true) ∧ (s.hub.fnRuns 0 = true) :=
    ⟨Path.pf, 0x1E11, [1], stOf { hubOf [(R.BOOT_STAT_WAIT_HOST, 1), (R.BOOT_FW_LEN, 0x40)] with boot := { BootS.reset with fwAddr := true, fwLen := true }, pcie := { PcieS.reset with bme := [(0, 1)] } }, by decide⟩

theorem wit_fwWaitTimeout :
    ∃ (s : State), ((s.hub.on R.BOOT_STAT_WAIT_HOST = true ∨ s.hub.boot.fwDue = true)) :=
    ⟨stOf (hubOf [(R.BOOT_STAT_WAIT_HOST, 1), (R.YDL_STAT_STATE 1, 2)]), by decide⟩

theorem wit_stageS9 :
    ∃ (image : List Byte) (s : State), ((Instr.stageS9 image).wf = true) ∧ (s.hub.mayEnter 9 = true) ∧ (s.hub.on R.BOOT_FW_CTRL_SRC = true) ∧ (s.hub.boot.goHeld = false) :=
    ⟨[0x4B], stOf { hubOf [(R.GLB_RDY_STAGE, 8), (R.BOOT_FW_CTRL_SRC, 1)] with pins := { Pins.reset with pwrgood := true, d0Reset := false }, boot := { BootS.reset with done := true } }, by decide⟩

theorem wit_stageS9_xspi :
    ∃ (image : List Byte) (s : State), ((Instr.stageS9 image).wf = true) ∧ (s.hub.mayEnter 9 = true) ∧ (s.hub.on R.BOOT_FW_CTRL_SRC = false) :=
    ⟨[0x4B], stOf { hubOf [(R.GLB_RDY_STAGE, 8), (R.BOOT_FW_CTRL_SRC, 0)] with pins := { Pins.reset with pwrgood := true, d0Reset := false }, boot := { BootS.reset with done := true } }, by decide⟩

theorem wit_karDigest :
    ∃ (site : Nat) (digest : List Byte) (s : State), ((Instr.karDigest site digest).wf = true) ∧ (s.hub.stage = 10) ∧ (s.hub.boot.karSites.contains site = true) ∧ (digest = (s.hub.boot.image.drop (128 + 128 * (nget s.hub.boot.entryOf site - 1))).take 48) ∧ (s.hub.siteUp site = true) ∧ (s.hub.get (R.YDL_CREDIT_OWED site 1) + 1 ≤ 256) :=
    ⟨1, List.replicate 48 0, stOf { hubOf [(R.GLB_RDY_STAGE, 10), (R.YDL_STAT_STATE 1, 2)] with boot := { BootS.reset with karSites := [1, 2], image := List.replicate 200 0 } }, by decide⟩

theorem wit_stageS10 :
    ∃ (s : State), (s.hub.mayEnter 10 = true) ∧ (s.hub.boot.fwBad = []) :=
    ⟨stOf { hubOf [(R.GLB_RDY_STAGE, 9), (R.YDL_STAT_STATE 2, 2)] with pins := { Pins.reset with pwrgood := true, d0Reset := false }, boot := { BootS.reset with done := true, imgDone := true } }, by decide⟩

theorem wit_stageS10_failed :
    ∃ (k : Nat) (s : State), (s.hub.mayEnter 10 = true) ∧ (s.hub.boot.fwBad = [k]) ∧ (k < 4) ∧ (s.hub.siteUp k = true) ∧ (s.hub.siteOut k = false) :=
    ⟨3, stOf { hubOf [(R.GLB_RDY_STAGE, 9), (R.YDL_STAT_STATE 3, 2)] with pins := { Pins.reset with pwrgood := true, d0Reset := false }, boot := { BootS.reset with done := true, imgDone := true, fwBad := [3] } }, by decide⟩

theorem wit_knownAnswerComplete :
    ∃ (ty p : Nat) (good : Bool) (s : State), ((Instr.knownAnswerComplete ty p good).wf = true) ∧ (s.hub.stage = 10) ∧ (s.hub.booting = true) ∧ (s.hub.boot.karLeft.contains (ty, p) = true) ∧ (good = true) ∧ (s.hub.boot.karBad = false) :=
    ⟨0, 5, true, stOf { hubOf [(R.GLB_RDY_STAGE, 10)] with boot := { BootS.reset with karLeft := [(0, 5), (1, 2)] } }, by decide⟩

theorem wit_knownAnswerTimeout :
    ∃ (ty p : Nat) (s : State), ((Instr.knownAnswerTimeout ty p).wf = true) ∧ (s.hub.stage = 10) ∧ (s.hub.booting = true) ∧ (s.hub.boot.karLeft.contains (ty, p) = true) ∧ (ty ≤ 1) ∧ (s.hub.unitState ty 0 p ≤ 1) ∧ ((s.hub.boot.karLeft.filter fun e => e != (ty, p)) ≠ []) :=
    ⟨0, 5, stOf { hubOf [(R.GLB_RDY_STAGE, 10)] with boot := { BootS.reset with karLeft := [(0, 5), (0, 1)] } }, by decide⟩

theorem wit_readySet :
    ∃ (meas : List Nat) (hubStatic stackStatic : Nat) (s : State), ((Instr.readySet meas hubStatic stackStatic).wf = true) ∧ (s.hub.mayEnter 11 = true) :=
    ⟨List.replicate 36 100, 10, 10, stOf { hubOf [(R.GLB_RDY_STAGE, 10)] with pins := { Pins.reset with pwrgood := true, d0Reset := false }, boot := { BootS.reset with done := true } }, by decide⟩

theorem wit_readinessPendSend :
    ∃ (s : State), (s.hub.on R.GLB_RDY_PEND = true) ∧ (nget s.hub.pcie.msixEn 0 = 1) ∧ (s.hub.vecMasked 0 (s.hub.get R.BOOT_IRQ_VEC % 264) = false) ∧ (s.hub.fnRuns 0 = true) :=
    ⟨stOf { hubOf [(R.GLB_RDY_PEND, 1), (R.MSIX_CTRL_MASK 2, 0), (R.BOOT_IRQ_VEC, 2)] with pcie := { PcieS.reset with msixEn := [(0, 1)], bme := [(0, 1)] } }, by decide⟩

-- MapCommandsAnswer
theorem wit_mapLookup :
    ∃ (req : Path) (v : Word) (l p site : Nat) (s : State), ((Instr.mapLookup req v).wf = true) ∧ (req.holdsBlocks = true) ∧ (l = bitsOf v 0 11) ∧ (bitsOf v 12 3 < 4) ∧ (site = (if bitsOf v 12 3 = 3 then bitsOf v 16 2 else 0)) ∧ (l < s.hub.logicalCount (bitsOf v 12 3) site) ∧ (s.hub.physOf (bitsOf v 12 3) site l = some p) :=
    ⟨Path.pf, 0, 0, 5, 0, stOf (hubOf [(R.MAP_COUNT_ENG, 1), (⟨0x51014, 16, 11⟩, 0), (⟨0x51014, 0, 3⟩, 0), (⟨0x51000, 0, 3⟩, 2), (⟨0x51004, 0, 3⟩, 2), (⟨0x51008, 0, 3⟩, 2), (⟨0x5100C, 0, 3⟩, 2), (⟨0x51010, 0, 3⟩, 2)]), by decide⟩

theorem wit_mapLookup_none :
    ∃ (req : Path) (v : Word) (s : State), ((Instr.mapLookup req v).wf = true) ∧ (req.holdsBlocks = true) ∧ (bitsOf v 12 3 < 3) ∧ (s.hub.logicalCount (bitsOf v 12 3) 0 ≤ bitsOf v 0 11) :=
    ⟨Path.pf, 0x1010, stOf (hubOf [(R.MAP_LOOKUP_VALID, 1), (R.MAP_COUNT_TILE, 16)]), by decide⟩

theorem wit_mapCmdRetire :
    ∃ (req : Path) (v : Word) (p q : Nat) (s : State), ((Instr.mapCmdRetire req v).wf = true) ∧ (req.holdsBlocks = true) ∧ (s.hub.map.cmd = none) ∧ (s.hub.ready = true) ∧ (bitsOf v 4 3 ≤ 1) ∧ (bitsOf v 8 1 = 0) ∧ (bitsOf v 16 11 < s.hub.logicalCount (bitsOf v 4 3) 0) ∧ (s.hub.physOf (bitsOf v 4 3) 0 (bitsOf v 16 11) = some p) ∧ (pickSpare (bitsOf v 4 3) (bitsOf v 16 11 / perGroup (bitsOf v 4 3)) (s.hub.spares (bitsOf v 4 3) 0) = some q) :=
    ⟨Path.pf, 0x00010001, 1, 2, stOf (hubOf [(R.GLB_RDY_READY, 1), (R.MAP_COUNT_ENG, 2), (⟨0x51000, 16, 11⟩, 0), (⟨0x51000, 0, 3⟩, 0), (⟨0x51004, 0, 3⟩, 0), (⟨0x51004, 16, 11⟩, 1), (⟨0x51008, 0, 3⟩, 1)]), by decide⟩

theorem wit_mapCmdRetire_bank :
    ∃ (req : Path) (v : Word) (p q : Nat) (s : State), ((Instr.mapCmdRetire req v).wf = true) ∧ (req.holdsBlocks = true) ∧ (s.hub.map.cmd = none) ∧ (s.hub.ready = true) ∧ (bitsOf v 4 3 = 2) ∧ (bitsOf v 8 1 = 0) ∧ (bitsOf v 9 1 = 0) ∧ (bitsOf v 16 11 < s.hub.logicalCount 2 0) ∧ (s.hub.physOf 2 0 (bitsOf v 16 11) = some p) ∧ (pickSpare 2 (bitsOf v 16 11 / perGroup 2) (s.hub.spares 2 0) = some q) :=
    ⟨Path.pf, 0x00000021, 0, 1, stOf (hubOf [(R.GLB_RDY_READY, 1), (R.MAP_COUNT_BANK, 16), (⟨0x52000, 16, 11⟩, 0), (⟨0x52000, 0, 3⟩, 0), (⟨0x52004, 0, 3⟩, 1)]), by decide +kernel⟩

theorem wit_mapCmdRetire_early :
    ∃ (req : Path) (v : Word) (s : State), ((Instr.mapCmdRetire req v).wf = true) ∧ (req.holdsBlocks = true) ∧ (s.hub.map.cmd = none) ∧ (s.hub.ready = false) :=
    ⟨Path.pf, 0x00010001, State.reset, by decide⟩

theorem wit_bankCopyComplete :
    ∃ (x : MapCmd) (s : State), (s.hub.map.cmd = some x) ∧ (x.join = false) ∧ (x.type = 2) ∧ (x.phase = 0) :=
    ⟨{ join := false, type := 2, site := 0, phys := 3, logical := 4, spare := 7, abort := false, discard := false, phase := 0 }, stOf { Hub.reset with map := { Hub.reset.map with cmd := some { join := false, type := 2, site := 0, phys := 3, logical := 4, spare := 7, abort := false, discard := false, phase := 0 } } }, by decide⟩

theorem wit_mapCmdReadmit :
    ∃ (req : Path) (v : Word) (p : Nat) (s : State), ((Instr.mapCmdReadmit req v).wf = true) ∧ (req.holdsBlocks = true) ∧ (s.hub.map.cmd = none) ∧ (s.hub.ready = true) ∧ (bitsOf v 4 3 ≤ 2) ∧ (p = bitsOf v 16 11) ∧ (p < unitCount (bitsOf v 4 3)) ∧ (s.hub.unitState (bitsOf v 4 3) 0 p = 2) ∧ (s.hub.get (R.PWR_DOM_REQ (unitDomain (bitsOf v 4 3) 0 p)) ≠ 2) ∧ (nget s.hub.power.barred (unitDomain (bitsOf v 4 3) 0 p) = 0) :=
    ⟨Path.pf, 0x00110012, 17, stOf (hubOf [(R.GLB_RDY_READY, 1), (⟨0x51244, 0, 3⟩, 2)]), by decide⟩

-- MapEpochsAdopt
theorem wit_mapEpochAdopt :
    ∃ (old : Nat) (x : MapChange) (s : State), ((Instr.mapEpochAdopt old).wf = true) ∧ (s.hub.map.changes = [x]) ∧ (s.hub.on R.MAP_EPOCH_STAT_DRAIN = false) ∧ (s.hub.on R.MAP_EPOCH_CUR = true) ∧ (s.hub.get R.MAP_EPOCH_CUR + 1 < 2 ^ (R.MAP_EPOCH_CUR).width) ∧ (x.join = false) ∧ (x.type = 0) ∧ (x.abort = false) ∧ (x.phys < 68) ∧ (x.spare < 68) ∧ (x.phys ≠ x.spare) ∧ (x.logical < 64) :=
    ⟨9, { join := false, type := 0, site := 0, phys := 3, logical := 9, spare := 5, cause := 5, abort := false, byCmd := true }, stOf { hubOf [(R.MAP_EPOCH_CUR, 1)] with map := { Hub.reset.map with changes := [{ join := false, type := 0, site := 0, phys := 3, logical := 9, spare := 5, cause := 5, abort := false, byCmd := true }] } }, by decide⟩

theorem wit_mapDrainTimeout :
    ∃ (cls unit : Nat) (s : State), ((Instr.mapDrainTimeout cls unit).wf = true) ∧ (cls = 1) ∧ (s.hub.on R.MAP_EPOCH_STAT_DRAIN = true) ∧ ((s.hub.ringState unit = 1 ∨ s.hub.ringState unit = 3)) :=
    ⟨1, 7, stOf (hubOf [(R.MAP_EPOCH_STAT_DRAIN, 1), (R.RING_STAT_STATE 7, 1), (R.RING_CTRL_ENABLE 7, 1)]), by decide⟩

theorem wit_mapEpochDrainEnd :
    ∃ (s : State), (s.hub.oldHeld = false) :=
    ⟨stOf (hubOf [(R.MAP_EPOCH_CUR, 2), (R.MAP_EPOCH_STAT_DRAIN, 1)]), by decide⟩

theorem wit_quarantineEnd :
    ∃ (c : MapCmd) (s : State), (s.hub.readmitting 3 = some c) ∧ (c.type ≤ 2) ∧ (c.phys < unitCount c.type) ∧ (s.hub.domOn (unitDomain c.type c.site c.phys) = true) ∧ ((s.hub.stepAdmitted 6 0 = true ∨ s.hub.riseOk (Config.testMw c.type) (s.hub.swapOf (Config.testMw c.type)) (Config.testMw c.type) 0 = true)) :=
    ⟨{ join := true, type := 0, site := 0, phys := 3, logical := 0x7FF, spare := 0x7FF, abort := false, discard := false, phase := 3 }, stOf { hubOf [(R.PWR_DOM_STATE 73, 2)] with map := { Hub.reset.map with cmd := some { join := true, type := 0, site := 0, phys := 3, logical := 0x7FF, spare := 0x7FF, abort := false, discard := false, phase := 3 } }, power := { PowerS.reset with steps := [{ kind := 6, unit := 0, mw := 9, expo := 9, sense := 0, adm := true }] } }, by decide⟩

theorem wit_readmissionTestEnd :
    ∃ (pass : Bool) (c : MapCmd) (s : State), ((Instr.readmissionTestEnd pass).wf = true) ∧ (pass = true) ∧ (s.hub.readmitting 4 = some c) ∧ (c.type ≤ 2) ∧ (c.phys < unitCount c.type) :=
    ⟨true, { join := true, type := 0, site := 0, phys := 3, logical := 0x7FF, spare := 0x7FF, abort := false, discard := false, phase := 4 }, stOf { hubOf [] with map := { Hub.reset.map with cmd := some { join := true, type := 0, site := 0, phys := 3, logical := 0x7FF, spare := 0x7FF, abort := false, discard := false, phase := 4 } } }, by decide⟩

theorem wit_readmissionTestEnd_fail :
    ∃ (pass : Bool) (c : MapCmd) (s : State), ((Instr.readmissionTestEnd pass).wf = true) ∧ (pass = false) ∧ (s.hub.readmitting 4 = some c) ∧ (c.type ≤ 2) ∧ (c.phys < unitCount c.type) :=
    ⟨false, { join := true, type := 2, site := 0, phys := 3, logical := 0x7FF, spare := 0x7FF, abort := false, discard := false, phase := 4 }, stOf { hubOf [] with map := { Hub.reset.map with cmd := some { join := true, type := 2, site := 0, phys := 3, logical := 0x7FF, spare := 0x7FF, abort := false, discard := false, phase := 4 } } }, by decide⟩

theorem wit_readmissionTestTimeout :
    ∃ (c : MapCmd) (s : State), (s.hub.readmitting 4 = some c) ∧ (c.type ≤ 2) ∧ (c.phys < unitCount c.type) :=
    ⟨{ join := true, type := 1, site := 0, phys := 3, logical := 0x7FF, spare := 0x7FF, abort := false, discard := false, phase := 4 }, stOf { hubOf [] with map := { Hub.reset.map with cmd := some { join := true, type := 1, site := 0, phys := 3, logical := 0x7FF, spare := 0x7FF, abort := false, discard := false, phase := 4 } } }, by decide⟩

-- HostLinkAnswers
theorem wit_configRequest :
    ∃ (fn : Nat) (s : State), ((Instr.configRequest fn .readId).wf = true) ∧ (s.hub.pcie.linkUp = true) :=
    ⟨31, stOf { hubOf [] with pcie := { Hub.reset.pcie with linkUp := true } }, by decide⟩

theorem wit_configRequest_read :
    ∃ (fn : Nat) (f : CfgField) (s : State), ((Instr.configRequest fn (.read f)).wf = true) ∧ (s.hub.pcie.linkUp = true) :=
    ⟨0, .totalVfs, stOf { hubOf [] with pcie := { Hub.reset.pcie with linkUp := true } }, by decide⟩

theorem wit_configRequest_write :
    ∃ (fn : Nat) (f : CfgField) (v : Word) (s : State), ((Instr.configRequest fn (.write f v)).wf = true) ∧ (s.hub.pcie.linkUp = true) ∧ (cfgWidth f ≠ 0) :=
    ⟨31, .mps, 2, stOf { hubOf [] with pcie := { Hub.reset.pcie with linkUp := true } }, by decide⟩

theorem wit_configRequest_msix :
    ∃ (fn : Nat) (en msk : Bool) (s : State), ((Instr.configRequest fn (.msix en msk)).wf = true) ∧ (s.hub.pcie.linkUp = true) :=
    ⟨0, true, true, stOf { hubOf [] with pcie := { Hub.reset.pcie with linkUp := true } }, by decide⟩

theorem wit_pcieLinkUp :
    ∃ (rate width : Nat) (flit : Bool) (s : State), ((Instr.pcieLinkUp rate width flit).wf = true) ∧ (s.hub.pcie.detect = true) ∧ (s.hub.pinsOut = false) ∧ (s.hub.domOn 68 = true) :=
    ⟨6, 16, false, stOf { hubOf [(R.PWR_DOM_STATE 68, 2), (R.TEST_JTAG_STAT_IR, 1)] with pcie := { Hub.reset.pcie with linkUp := true, detect := true } }, by decide⟩

theorem wit_malformedTlp :
    ∃ (fn : Nat) (overflow : Bool) (s : State), ((Instr.malformedTlp ⟨fn, overflow⟩).wf = true) :=
    ⟨31, true, State.reset, by decide⟩

theorem wit_poisonedTlpReceived :
    ∃ (fn : Nat) (s : State), ((Instr.poisonedTlpReceived fn).wf = true) :=
    ⟨31, State.reset, by decide⟩

theorem wit_unsupportedRequest :
    ∃ (fn : Nat) (posted : Bool) (s : State), ((Instr.unsupportedRequest fn posted).wf = true) :=
    ⟨31, false, State.reset, by decide⟩

theorem wit_vfEnableChange :
    ∃ (enable : Bool) (num : Nat) (s : State), ((Instr.vfEnableChange enable num).wf = true) :=
    ⟨true, 31, State.reset, by decide⟩

theorem wit_vfWindowWrite :
    ∃ (req : Path) (k w : Nat) (v : Word) (s : State), ((Instr.vfWindowWrite req k w v).wf = true) ∧ (req.holdsBlocks = true) ∧ (s.hub.vfIdle k = true) :=
    ⟨Path.pf, 30, 1, 0x00100020, State.reset, by decide +kernel⟩

theorem wit_busMasterDisable :
    ∃ (fn : Nat) (d3hot : Bool) (s : State), ((Instr.busMasterDisable fn d3hot).wf = true) :=
    ⟨4, true, stOf { Hub.reset with pcie := { PcieS.reset with bme := [(4, 1)] } }, by decide⟩

theorem wit_busMasterEnable :
    ∃ (fn : Nat) (s : State), ((Instr.busMasterEnable fn).wf = true) ∧ (s.hub.boot.fwDue = false) :=
    ⟨31, stOf { Hub.reset with pcie := { PcieS.reset with d3 := [(31, 1)] } }, by decide⟩

theorem wit_vectorUnmask :
    ∃ (fn vec : Nat) (s : State), ((Instr.vectorUnmask fn vec).wf = true) ∧ (fn = 0) ∧ (s.hub.vecPending 0 vec = true) ∧ (nget s.hub.pcie.msixEn 0 = 1) ∧ (nget s.hub.pcie.fmask 0 = 0) ∧ (s.hub.fnRuns 0 = true) :=
    ⟨0, 263, stOf { hubOf [(R.MSIX_PBA_PEND 8, 0x80)] with pcie := { PcieS.reset with bme := [(0, 1)], msixEn := [(0, 1)] } }, by decide⟩

theorem wit_vectorUnmask_vf :
    ∃ (fn vec : Nat) (s : State), ((Instr.vectorUnmask fn vec).wf = true) ∧ (0 < fn) ∧ (s.hub.vecPending fn vec = false) :=
    ⟨31, 7, State.reset, by decide⟩

theorem wit_moderationTimerExpiry :
    ∃ (n : Nat) (s : State), ((Instr.moderationTimerExpiry n).wf = true) ∧ ((s.hub.ring n).timer = true) ∧ (0 < (s.hub.ring n).pend) ∧ (s.hub.ringFn n = 0) ∧ (nget s.hub.pcie.msixEn 0 = 1) ∧ (s.hub.vecMasked 0 ((s.hub.ring n).vec % 264) = false) ∧ (s.hub.fnRuns 0 = true) :=
    ⟨3, stOf { hubOf [(R.MSIX_CTRL_MASK 2, 0)] with pcie := { PcieS.reset with bme := [(0, 1)], msixEn := [(0, 1)] }, rings := [(3, { RingS.empty with timer := true, pend := 4, vec := 2 })] }, by decide⟩

-- HostDataAndWindows
theorem wit_bar4Read :
    ∃ (off n a : Nat) (s : State), ((Instr.bar4Read off n).wf = true) ∧ (s.hub.ready = true) ∧ (s.hub.bar4 off = .dram a) ∧ (s.mem.dramErr = []) :=
    ⟨0x40000010, 8, 0x10, { stOf (hubOf [(R.GLB_RDY_READY, 1), (R.GLB_POP_STACK_CAP, 1)]) with mem := { Mem.reset with dram := [(0x13, 7)] } }, by decide⟩

theorem wit_bar4Read_buffer :
    ∃ (off n b : Nat) (s : State), ((Instr.bar4Read off n).wf = true) ∧ (s.hub.ready = true) ∧ (s.hub.bar4 off = .buffer b) ∧ (s.hub.inScratch b n = false) ∧ (s.hub.rangeFree false b n = true) ∧ (s.mem.bufErr = []) :=
    ⟨0x12, 8, 0x12, { stOf (hubOf [(R.GLB_RDY_READY, 1), (R.GLB_POP_STACK_CAP, 1), (R.MAP_COUNT_BANK, 48)]) with mem := { Mem.reset with buf := [(0x13, 7)] } }, by decide⟩

theorem wit_bar4Read_nowhere :
    ∃ (off n : Nat) (s : State), ((Instr.bar4Read off n).wf = true) ∧ (s.hub.ready = true) ∧ (s.hub.bar4 off = .nowhere) :=
    ⟨0x30000000, 8, stOf (hubOf [(R.GLB_RDY_READY, 1), (R.GLB_POP_STACK_CAP, 1)]), by decide⟩

theorem wit_bar4Write :
    ∃ (off a : Nat) (data : List Byte) (s : State), ((Instr.bar4Write off data).wf = true) ∧ (s.hub.ready = true) ∧ (s.hub.bar4 off = .dram a) ∧ (s.mem.dramErr = []) ∧ (s.hub.on R.RAS_FLIP_CTRL_ARM = false) :=
    ⟨0x4000001F, 0x1F, [1, 2, 3], stOf (hubOf [(R.GLB_RDY_READY, 1), (R.GLB_POP_STACK_CAP, 1)]), by decide⟩

theorem wit_nonCachingRead :
    ∃ (req off n : Nat) (s : State), ((Instr.nonCachingRead req off n).wf = true) ∧ (s.hub.dir.gather = []) ∧ (s.sameDecision (.nonCachingRead req off n) = false) ∧ (req < 32) ∧ (off + n ≤ s.hub.bufSize) ∧ (s.hub.rangeFree false off n = true) ∧ (s.mem.bufErr = []) :=
    ⟨0, 61, 8, { stOf (hubOf [(R.MAP_COUNT_BANK, 16)]) with mem := { Mem.reset with buf := [(62, 1)] } }, by decide⟩

theorem wit_nonCachingWrite :
    ∃ (req off : Nat) (data : List Byte) (s : State), ((Instr.nonCachingWrite req off data).wf = true) ∧ (s.hub.dir.gather = []) ∧ (s.sameDecision (.nonCachingWrite req off data) = false) ∧ (off + data.length ≤ s.hub.bufSize) ∧ (s.hub.rangeFree true off data.length = true) ∧ (s.mem.bufErr = []) ∧ (s.hub.on R.RAS_FLIP_CTRL_ARM = false) :=
    ⟨0, 61, [1, 2, 3, 4, 5], { stOf (hubOf [(R.MAP_COUNT_BANK, 16)]) with mem := { Mem.reset with buf := [(62, 1)] } }, by decide⟩

theorem wit_windowEnable :
    ∃ (req : Path) (w : Nat) (s : State), ((Instr.windowEnable req w).wf = true) ∧ (req.holdsBlocks = true) ∧ (s.hub.get (R.BUF_WIN2_STATE w) = 0) ∧ (s.hub.winErr w = 0) :=
    ⟨Path.pf, 7, stOf (hubOf [(R.MAP_COUNT_BANK, 16), (R.BUF_WIN0_BASE 7, 1), (R.BUF_WIN0_SIZE 7, 1), (R.SPAR_SCRATCH_BASE, 3)]), by decide⟩

theorem wit_windowEnable_bad :
    ∃ (req : Path) (w : Nat) (s : State), ((Instr.windowEnable req w).wf = true) ∧ (req.holdsBlocks = true) ∧ (s.hub.get (R.BUF_WIN2_STATE w) = 0) ∧ (s.hub.winErr w ≠ 0) :=
    ⟨Path.pf, 7, stOf (hubOf [(R.BUF_WIN0_SIZE 7, 1)]), by decide⟩

theorem wit_windowEnableComplete :
    ∃ (w : Nat) (s : State), ((Instr.windowEnableComplete w).wf = true) ∧ (s.hub.get (R.BUF_WIN2_STATE w) = 1) :=
    ⟨7, stOf (hubOf [(R.BUF_WIN2_STATE 7, 1), (R.BUF_WIN0_BASE 7, 1), (R.BUF_WIN0_SIZE 7, 2)]), by decide⟩

theorem wit_windowDisable :
    ∃ (req : Path) (w : Nat) (s : State), ((Instr.windowDisable req w).wf = true) ∧ (req.holdsBlocks = true) ∧ (s.hub.get (R.BUF_WIN2_STATE w) = 2) :=
    ⟨Path.pf, 7, stOf (hubOf [(R.BUF_WIN2_STATE 7, 2), (R.BUF_WIN0_BASE 7, 1), (R.BUF_WIN0_SIZE 7, 2)]), by decide⟩

theorem wit_windowDisableComplete :
    ∃ (w : Nat) (s : State), ((Instr.windowDisableComplete w).wf = true) ∧ (s.hub.get (R.BUF_WIN2_STATE w) = 3) ∧ (s.hub.winClear w = true) :=
    ⟨7, stOf (hubOf [(R.BUF_WIN2_STATE 7, 3), (R.BUF_WIN0_BASE 7, 1), (R.BUF_WIN0_SIZE 7, 2)]), by decide⟩

theorem wit_dirQuery :
    ∃ (req : Path) (v : Word) (i : Nat) (s : State), ((Instr.dirQuery req v).wf = true) ∧ (req.holdsBlocks = true) ∧ (s.hub.cohIndex (bitsOf v 6 23) = some i) ∧ (s.hub.entry i < 32) ∧ (s.hub.entry i ≠ 0) :=
    ⟨Path.pf, BitVec.ofNat 32 (64 * 16389), 32773, stOf { hubOf [(R.YDL_STAT_STATE 1, 2), (R.YDL_CREDIT_HELD 1 0, 20), (R.YDL_CREDIT_HELD 1 1, 20), (R.BUF_STAT_SITE_COH, 15), (R.MAP_COUNT_BANK, 16), (R.BUF_WIN0_BASE 0, 1), (R.BUF_WIN0_SIZE 0, 1), (R.BUF_WIN2_STATE 0, 2)] with clock := 0, dir := { Hub.reset.dir with chunks := [(2, 2)], entries := [(32773, 24)] } }, by decide⟩

-- RingsRun
theorem wit_ringOwnerWrite :
    ∃ (req : Path) (n : Nat) (v : Word) (s : State), ((Instr.ringOwnerWrite req n v).wf = true) ∧ (req.holdsBlocks = true) ∧ (s.hub.ownerOk n (bitsOf v 0 5) (bitsOf v 8 6) = true) :=
    ⟨Path.pf, 9, 0x0502, State.reset, by decide +kernel⟩

theorem wit_ringOwnerWrite_refused :
    ∃ (req : Path) (n : Nat) (v : Word) (s : State), ((Instr.ringOwnerWrite req n v).wf = true) ∧ (req.holdsBlocks = true) ∧ (s.hub.get (R.RING_CTRL_ENABLE n) = 1) :=
    ⟨Path.pf, 9, 0x0502, stOf (hubOf [(R.RING_CTRL_ENABLE 9, 1)]), by decide⟩

theorem wit_ringEnable :
    ∃ (req : Path) (n : Nat) (s : State), ((Instr.ringEnable req n).wf = true) ∧ (req = .pf) ∧ (s.hub.ringFn n = 0) ∧ (s.hub.ringState n = 0) ∧ (s.hub.sizesOk n = true) :=
    ⟨Path.pf, 3, stOf (hubOf [(R.RING_SIZE_SQ_LOG2 3, 4), (R.RING_SIZE_CQ_LOG2 3, 16)]), by decide⟩

theorem wit_ringEnable_size :
    ∃ (req : Path) (n : Nat) (s : State), ((Instr.ringEnable req n).wf = true) ∧ (req = .pf) ∧ (s.hub.ringFn n = 0) ∧ (s.hub.ringState n = 0) ∧ (s.hub.sizesOk n = false) :=
    ⟨Path.pf, 3, stOf (hubOf [(R.RING_SIZE_SQ_LOG2 3, 3), (R.RING_SIZE_CQ_LOG2 3, 16)]), by decide⟩

theorem wit_submissionDoorbell :
    ∃ (req : Path) (page : Nat) (v : Word) (s : State), ((Instr.submissionDoorbell req page v).wf = true) ∧ (req = .pf) ∧ (s.hub.ready = true) ∧ (s.hub.ringFn page = 0) ∧ (bitsOf v 16 16 = s.hub.get (R.RING_STAT_GEN page)) ∧ (s.hub.ringState page = 1) ∧ (bitsOf v 0 16 < s.hub.sqSize page) :=
    ⟨Path.pf, 3, 0x0002000F, stOf (hubOf [(R.GLB_RDY_READY, 1), (R.RING_STAT_GEN 3, 2), (R.RING_STAT_STATE 3, 1), (R.RING_SIZE_SQ_LOG2 3, 4)]), by decide⟩

theorem wit_submissionDoorbell_range :
    ∃ (req : Path) (page : Nat) (v : Word) (s : State), ((Instr.submissionDoorbell req page v).wf = true) ∧ (req = .pf) ∧ (s.hub.ready = true) ∧ (s.hub.ringFn page = 0) ∧ (bitsOf v 16 16 = s.hub.get (R.RING_STAT_GEN page)) ∧ (s.hub.ringState page = 1) ∧ (s.hub.sqSize page ≤ bitsOf v 0 16) :=
    ⟨Path.pf, 3, 0x00020010, stOf (hubOf [(R.GLB_RDY_READY, 1), (R.RING_STAT_GEN 3, 2), (R.RING_STAT_STATE 3, 1), (R.RING_SIZE_SQ_LOG2 3, 4)]), by decide⟩

theorem wit_submissionDoorbell_stale :
    ∃ (req : Path) (page : Nat) (v : Word) (s : State), ((Instr.submissionDoorbell req page v).wf = true) ∧ (req = .pf) ∧ (s.hub.ready = true) ∧ (s.hub.ringFn page = 0) ∧ (bitsOf v 16 16 ≠ s.hub.get (R.RING_STAT_GEN page)) ∧ (s.hub.get (R.RING_DB_CNT_DB_STALE page) + 1 < 65536) :=
    ⟨Path.pf, 3, 0x00020010, stOf (hubOf [(R.GLB_RDY_READY, 1), (R.RING_STAT_GEN 3, 1), (R.RING_STAT_STATE 3, 1), (R.RING_SIZE_SQ_LOG2 3, 4)]), by decide⟩

theorem wit_completionRelease :
    ∃ (req : Path) (page : Nat) (v : Word) (k : Nat) (s : State), ((Instr.completionRelease req page v).wf = true) ∧ (req = .pf) ∧ (s.hub.ready = true) ∧ (s.hub.ringFn page = 0) ∧ (bitsOf v 16 16 = s.hub.get (R.RING_STAT_GEN page)) ∧ (s.hub.ringState page = 1) ∧ (bitsOf v 0 16 < s.hub.cqSize page) ∧ (k = (bitsOf v 0 16 + s.hub.cqSize page - s.hub.cqHead page) % s.hub.cqSize page) ∧ (k ≤ (s.hub.ring page).used) ∧ ((s.hub.ring page).held = []) :=
    ⟨Path.pf, 3, 0x0002000F, 15, stOf { hubOf [(R.GLB_RDY_READY, 1), (R.RING_STAT_GEN 3, 2), (R.RING_STAT_STATE 3, 1), (R.RING_SIZE_CQ_LOG2 3, 4)] with rings := [(3, { RingS.empty with used := 16 })] }, by decide⟩

theorem wit_ringReset :
    ∃ (req : Path) (n : Nat) (s : State), ((Instr.ringReset req n).wf = true) ∧ (req = .pf) ∧ (s.hub.ringFn n = 0) ∧ ((s.hub.ringState n = 1 ∨ s.hub.ringState n = 3)) :=
    ⟨Path.pf, 255, stOf (hubOf [(R.RING_STAT_STATE 255, 1), (R.RING_CTRL_ENABLE 255, 1)]), by decide⟩

theorem wit_ringResetComplete :
    ∃ (n : Nat) (s : State), ((Instr.ringResetComplete n).wf = true) ∧ (s.hub.ringState n = 2) ∧ ((s.hub.ring n).descs = []) :=
    ⟨200, stOf (hubOf [(R.RING_STAT_STATE 200, 2), (R.RING_STAT_GEN 200, 0xFFFF)]), by decide⟩

theorem wit_pfFlr :
    ∃ (n : Nat) (s : State), (n < 256) ∧ (s.hub.ringFn n = 0) ∧ ((s.hub.ringState n = 1 ∨ s.hub.ringState n = 3)) :=
    ⟨255, stOf { hubOf [(R.RING_STAT_STATE 255, 1), (R.RING_CTRL_ENABLE 255, 1)] with pcie := { PcieS.reset with vfEn := true, bme := [(0, 1)] } }, by decide⟩

theorem wit_vfFlr :
    ∃ (k n : Nat) (s : State), ((Instr.vfFlr k).wf = true) ∧ (n < 256) ∧ (s.hub.ringFn n = k + 1) ∧ (s.hub.ringState n = 0) :=
    ⟨30, 5, stOf (hubOf [(R.RING_OWNER_FN 5, 31), (R.RING_STAT_GEN 5, 3)]), by decide⟩

-- RingEntriesComplete
theorem wit_descriptorFetch :
    ∃ (n : Nat) (host : List Byte) (s : State), ((Instr.descriptorFetch n host).wf = true) ∧ (host.length = 64) ∧ (s.hub.ringState n = 1) ∧ (s.hub.ready = true) ∧ (s.hub.fnRuns (s.hub.ringFn n) = true) ∧ (s.hub.get (R.RING_SQ_PTR_SQ_TAIL n) ≠ s.hub.get (R.RING_SQ_PTR_SQ_HEAD n)) ∧ (s.hub.get (R.RING_SQ_PTR_SQ_TAIL n) < s.hub.sqSize n) ∧ (s.hub.get (R.RING_SQ_PTR_SQ_HEAD n) < s.hub.sqSize n) ∧ (s.hub.descCheck (s.hub.ringFn n) host = 0) :=
    ⟨3, descBytes [(4, 7)], stOf (ringHub [] [(R.RING_SQ_PTR_SQ_HEAD 3, 15), (R.RING_SQ_PTR_SQ_TAIL 3, 0)]), by decide +kernel⟩

theorem wit_descriptorFetch_bad :
    ∃ (n : Nat) (host : List Byte) (s : State), ((Instr.descriptorFetch n host).wf = true) ∧ (host.length = 64) ∧ (s.hub.ready = true) ∧ (s.hub.fnRuns (s.hub.ringFn n) = true) ∧ (s.hub.get (R.RING_SQ_PTR_SQ_TAIL n) ≠ s.hub.get (R.RING_SQ_PTR_SQ_HEAD n)) ∧ (s.hub.get (R.RING_SQ_PTR_SQ_TAIL n) < s.hub.sqSize n) ∧ (s.hub.get (R.RING_SQ_PTR_SQ_HEAD n) < s.hub.sqSize n) ∧ (s.hub.descCheck (s.hub.ringFn n) host ≠ 0) ∧ (s.hub.ringState n = 1) ∧ ((s.hub.ring n).held = []) ∧ (s.hub.cplReady n = true) ∧ ((s.hub.ring n).bound = none) :=
    ⟨3, descBytes [(0, 5), (4, 7)], stOf (ringHub [] [(R.RING_SQ_PTR_SQ_HEAD 3, 15), (R.RING_SQ_PTR_SQ_TAIL 3, 0)]), by decide +kernel⟩

theorem wit_hostDmaError :
    ∃ (n id what : Nat) (poisoned : Bool) (s : State), ((Instr.hostDmaError n id what poisoned).wf = true) ∧ (what = 0) ∧ (s.hub.ringState n = 1) :=
    ⟨3, 0, 0, true, stOf (ringHub [] []), by decide⟩

theorem wit_hostDmaError_read :
    ∃ (n id what : Nat) (poisoned : Bool) (d : Desc) (s : State), ((Instr.hostDmaError n id what poisoned).wf = true) ∧ (what = 1) ∧ (s.hub.desc n id = some d) ∧ (d.started = true) ∧ (d.debit = 0) ∧ (s.hub.ringState n = 1) ∧ ((s.hub.ring n).held = []) ∧ (s.hub.cplReady n = true) ∧ ((s.hub.ring n).bound = none) :=
    ⟨3, 5, 1, false, { descOf 5 (descBytes [(0, 1), (4, 7)]) with started := true, moved := 128 }, stOf (ringHub [{ descOf 5 (descBytes [(0, 1), (4, 7)]) with started := true, moved := 128 }] []), by decide +kernel⟩

theorem wit_hostDmaError_write :
    ∃ (n id what : Nat) (poisoned : Bool) (s : State), ((Instr.hostDmaError n id what poisoned).wf = true) ∧ (what = 2) ∧ ((s.hub.ringState n = 1 ∨ s.hub.ringState n = 3)) :=
    ⟨3, 0, 2, true, stOf (ringHub [] []), by decide⟩

theorem wit_ringHaltEntry :
    ∃ (n : Nat) (s : State), ((Instr.ringHaltEntry n).wf = true) ∧ (s.hub.ringState n = 3) ∧ ((s.hub.ring n).haltDone = false) ∧ ((s.hub.ring n).descs.any (·.started) = false) ∧ ((s.hub.ring n).held = []) ∧ (s.hub.cplReady n = true) :=
    ⟨3, stOf { hubOf [(R.RING_STAT_STATE 3, 3), (R.RING_STAT_CAUSE 3, 2), (R.RING_SIZE_CQ_LOG2 3, 4)] with pcie := { PcieS.reset with bme := [(0, 1)] } }, by decide⟩

theorem wit_deadlineExpiry :
    ∃ (n id : Nat) (d : Desc) (s : State), ((Instr.deadlineExpiry n id).wf = true) ∧ (s.hub.desc n id = some d) ∧ (dMode d.bytes = 2) ∧ (d.started = false) ∧ (d.debit = 0) ∧ (s.hub.ringState n = 1) ∧ ((s.hub.ring n).held = []) ∧ (s.hub.cplReady n = true) ∧ ((s.hub.ring n).bound = none) :=
    ⟨3, 5, descOf 5 (descBytes [(4, 7), (8, 1), (11, 2)]), stOf (ringHub [descOf 5 (descBytes [(4, 7), (8, 1), (11, 2)])] []), by decide +kernel⟩

theorem wit_cleatWaitTimeout :
    ∃ (n id : Nat) (d : Desc) (s : State), ((Instr.cleatWaitTimeout n id).wf = true) ∧ (s.hub.desc n id = some d) ∧ (s.hub.waitHolds d = false) ∧ (d.judged = true) ∧ (s.hub.considers n d = true) ∧ (s.hub.ringHold n = 0) ∧ (s.hub.strictPast d = false) ∧ (d.debit = 0) ∧ (s.hub.ringState n = 1) ∧ ((s.hub.ring n).held = []) ∧ (s.hub.cplReady n = true) ∧ ((s.hub.ring n).bound = none) :=
    ⟨3, 5, { descOf 5 (descBytes [(0, 0), (1, 1), (12, 9), (16, 4)]) with judged := true }, stOf (ringHub [{ descOf 5 (descBytes [(0, 0), (1, 1), (12, 9), (16, 4)]) with judged := true }] []), by decide +kernel⟩

theorem wit_descriptorComplete :
    ∃ (n id energy peak mean drop : Nat) (host : List Byte) (d : Desc) (s : State), ((Instr.descriptorComplete n id energy peak mean drop host).wf = true) ∧ (s.hub.desc n id = some d) ∧ (d.started = true) ∧ (d.ended = true) ∧ (d.debit ≠ 0) ∧ (dPool d.bytes ≤ 4) ∧ (s.hub.ringState n = 1) ∧ ((s.hub.ring n).held = []) ∧ (s.hub.cplReady n = true) ∧ ((s.hub.ring n).bound = none) :=
    ⟨3, 5, 20, 10, 10, 0, [], { descOf 5 (descBytes [(0, 1), (2, 5), (4, 7)]) with started := true, ended := true, status := 0, result := 64, debit := 32 }, stOf (ringHub [{ descOf 5 (descBytes [(0, 1), (2, 5), (4, 7)]) with started := true, ended := true, status := 0, result := 64, debit := 32 }] [(R.DISP_RING_INFLIGHT 3, 1)]), by decide +kernel⟩

-- ImmediateOperationsComplete
theorem wit_nop :
    ∃ (n id : Nat) (d : Desc) (s : State), ((Instr.nop n id).wf = true) ∧ (s.hub.desc n id = some d) ∧ (dOp d.bytes = 0x00) ∧ (s.hub.considers n d = true) ∧ (s.hub.ringHold n = 0) ∧ (s.hub.verdict n d = .go) ∧ ((s.hub.ring n).held = []) ∧ (s.hub.cplReady n = true) ∧ ((s.hub.ring n).bound = none) :=
    ⟨3, 5, { descOf 5 (descBytes [(4, 7)]) with started := false }, stOf { ringHub [{ descOf 5 (descBytes [(4, 7)]) with started := false }] [] with draws := 0 }, by decide +kernel⟩

theorem wit_cleatSignal :
    ∃ (n id : Nat) (d : Desc) (s : State), ((Instr.cleatSignal n id).wf = true) ∧ (s.hub.desc n id = some d) ∧ (dOp d.bytes = 0x11) ∧ (s.hub.considers n d = true) ∧ (s.hub.ringHold n = 0) ∧ (s.hub.verdict n d = .go) ∧ ((s.hub.ring n).held = []) ∧ (s.hub.cplReady n = true) ∧ ((s.hub.ring n).bound = none) ∧ (s.hub.signals (s.hub.ringFn n) d.bytes 0 = true) :=
    ⟨3, 5, { descOf 5 (descBytes [(0, 0x11), (1, 2), (20, 9), (24, 4)]) with started := false }, stOf { ringHub [{ descOf 5 (descBytes [(0, 0x11), (1, 2), (20, 9), (24, 4)]) with started := false }] [(R.CLT_VALUE 9, 0xFFFFFFFE)] with draws := 0 }, by decide +kernel⟩

theorem wit_cleatWait :
    ∃ (n id : Nat) (d : Desc) (s : State), ((Instr.cleatWait n id).wf = true) ∧ (s.hub.desc n id = some d) ∧ (dOp d.bytes = 0x10) ∧ (s.hub.considers n d = true) ∧ (s.hub.ringHold n = 0) ∧ (s.hub.verdict n d = .go) ∧ ((s.hub.ring n).held = []) ∧ (s.hub.cplReady n = true) ∧ ((s.hub.ring n).bound = none) ∧ (dFlag d.bytes 0 = true) ∧ (d.waitOk = false) :=
    ⟨3, 5, { descOf 5 (descBytes [(0, 0x10), (1, 1), (12, 9), (16, 4)]) with started := false }, stOf { ringHub [{ descOf 5 (descBytes [(0, 0x10), (1, 1), (12, 9), (16, 4)]) with started := false }] [(R.CLT_VALUE 9, 6)] with draws := 0 }, by decide +kernel⟩

theorem wit_atTimeReached :
    ∃ (n id : Nat) (d : Desc) (s : State), ((Instr.atTimeReached n id).wf = true) ∧ (s.hub.desc n id = some d) ∧ (dOp d.bytes = 0x10) ∧ (s.hub.considers n d = true) ∧ (s.hub.ringHold n = 0) ∧ (s.hub.verdict n d = .go) ∧ ((s.hub.ring n).held = []) ∧ (s.hub.cplReady n = true) ∧ ((s.hub.ring n).bound = none) ∧ (dFlag d.bytes 0 = false) ∧ (dAtTime d.bytes ≠ 0) :=
    ⟨3, 5, { descOf 5 (descBytes [(0, 0x10), (29, 1)]) with started := false }, stOf { ringHub [{ descOf 5 (descBytes [(0, 0x10), (29, 1)]) with started := false }] [(R.TIME_STAT_TRUSTED, 1)] with draws := 0, time := { Hub.reset.time with now := 256 } }, by decide +kernel⟩

theorem wit_budgetHint :
    ∃ (n id : Nat) (d : Desc) (s : State), ((Instr.budgetHint n id).wf = true) ∧ (s.hub.desc n id = some d) ∧ (dOp d.bytes = 0x28) ∧ (s.hub.considers n d = true) ∧ (s.hub.ringHold n = 0) ∧ (s.hub.verdict n d = .go) ∧ ((s.hub.ring n).held = []) ∧ (s.hub.cplReady n = true) ∧ ((s.hub.ring n).bound = none) :=
    ⟨3, 5, { descOf 5 (descBytes [(0, 0x28), (28, 2), (33, 1), (37, 1)]) with started := false }, stOf { ringHub [{ descOf 5 (descBytes [(0, 0x28), (28, 2), (33, 1), (37, 1)]) with started := false }] [] with draws := 0 }, by decide +kernel⟩

theorem wit_hintLapse :
    ∃ (n pool : Nat) (s : State), ((Instr.hintLapse n pool).wf = true) :=
    ⟨255, 4, State.reset, by decide⟩

theorem wit_fence :
    ∃ (n id : Nat) (d : Desc) (s : State), ((Instr.fence n id).wf = true) ∧ (s.hub.desc n id = some d) ∧ (dOp d.bytes = 0x12) ∧ (s.hub.considers n d = true) ∧ (s.hub.ringHold n = 0) ∧ (s.hub.verdict n d = .go) ∧ ((s.hub.ring n).held = []) ∧ (s.hub.cplReady n = true) ∧ ((s.hub.ring n).bound = none) :=
    ⟨3, 5, { descOf 5 (descBytes [(0, 0x12), (4, 7)]) with started := false }, stOf { ringHub [{ descOf 5 (descBytes [(0, 0x12), (4, 7)]) with started := false }] [] with draws := 0 }, by decide +kernel⟩

theorem wit_boundary :
    ∃ (n id : Nat) (d : Desc) (s : State), ((Instr.boundary n id).wf = true) ∧ (s.hub.desc n id = some d) ∧ (dOp d.bytes = 0x13) ∧ (s.hub.considers n d = true) ∧ (s.hub.ringHold n = 0) ∧ (s.hub.verdict n d = .go) ∧ ((s.hub.ring n).bound = none) ∧ (((s.hub.ring n).descs.any fun e => decide (e.group ≤ d.group) && e.id != id) = true) :=
    ⟨3, 5, descOf 5 (descBytes [(0, 0x13), (28, 4), (30, 1)]), stOf (ringHub [{ descOf 4 (descBytes [(0, 1)]) with started := true }, descOf 5 (descBytes [(0, 0x13), (28, 4), (30, 1)])] []), by decide +kernel⟩

theorem wit_creditHoldWarn :
    ∃ (n id : Nat) (d : Desc) (s : State), ((Instr.creditHoldWarn n id).wf = true) ∧ (s.hub.desc n id = some d) ∧ (d.inCredit = true) ∧ (s.hub.yew.tokens ≠ 0) :=
    ⟨3, 5, { descOf 5 (descBytes [(0, 1)]) with inCredit := true }, stOf (ringHub [{ descOf 5 (descBytes [(0, 1)]) with inCredit := true }] []), by decide⟩

-- MoverMovesBytes
theorem wit_copy :
    ∃ (n id limit : Nat) (host : List Byte) (m a b : Nat) (d : Desc) (s : State), ((Instr.copy n id limit host).wf = true) ∧ (1 ≤ limit) ∧ (s.hub.desc n id = some d) ∧ (dOp d.bytes = 1) ∧ (d.started = true) ∧ (d.ended = false) ∧ (d.stop = false) ∧ (d.snap = none) ∧ (s.hub.itsTurn n d = true) ∧ (d.overlaps = false) ∧ (m = d.total - d.moved) ∧ (0 < m) ∧ (a = leAt d.bytes 28 8 + d.moved) ∧ (addrSpace a = 0) ∧ (m ≤ toLineEnd a) ∧ (b = dDest d.bytes + d.moved) ∧ (addrSpace b = 0) ∧ (s.hub.on R.RAS_FLIP_CTRL_ARM = false) ∧ (s.mem.dramErr = []) :=
    ⟨3, 5, 2, [], 8, (leAt (descBytes [(0, 1), (28, 4), (29, 0x10), (37, 0x30), (44, 72)]) 28 8 + 64), leAt (descBytes [(0, 1), (28, 4), (29, 0x10), (37, 0x30), (44, 72)]) 36 8 + 64, { descOf 5 (descBytes [(0, 1), (28, 4), (29, 0x10), (37, 0x30), (44, 72)]) with started := true, moved := 64 }, { stOf (ringHub [{ descOf 5 (descBytes [(0, 1), (28, 4), (29, 0x10), (37, 0x30), (44, 72)]) with started := true, moved := 64 }] [(R.GLB_POP_STACK_CAP, 1)]) with mem := { Mem.reset with dram := [(0x1044, 0xAB), (0x1047, 1), (0x2000, 7), (0x2007, 8)] } }, by decide +kernel⟩

theorem wit_fill :
    ∃ (n id limit : Nat) (m b : Nat) (d : Desc) (s : State), ((Instr.fill n id limit).wf = true) ∧ (1 ≤ limit) ∧ (s.hub.desc n id = some d) ∧ (dOp d.bytes = 2) ∧ (d.started = true) ∧ (d.ended = false) ∧ (d.stop = false) ∧ (d.snap = none) ∧ (s.hub.itsTurn n d = true) ∧ (m = d.total - d.moved) ∧ (0 < m) ∧ (b = dDest d.bytes + d.moved) ∧ (addrSpace b = 0) ∧ (m ≤ toLineEnd b) ∧ (s.hub.on R.RAS_FLIP_CTRL_ARM = false) ∧ (s.mem.dramErr = []) :=
    ⟨3, 5, 2, 8, leAt (descBytes [(0, 2), (29, 0x10), (36, 72), (40, 0x11), (41, 0x22), (47, 0x88)]) 28 8 + 64, { descOf 5 (descBytes [(0, 2), (29, 0x10), (36, 72), (40, 0x11), (41, 0x22), (47, 0x88)]) with started := true, moved := 64 }, { stOf (ringHub [{ descOf 5 (descBytes [(0, 2), (29, 0x10), (36, 72), (40, 0x11), (41, 0x22), (47, 0x88)]) with started := true, moved := 64 }] [(R.GLB_POP_STACK_CAP, 1)]) with mem := Mem.reset }, by decide +kernel⟩

theorem wit_gather :
    ∃ (n id limit : Nat) (host : List Byte) (m a b : Nat) (d : Desc) (s : State), ((Instr.gather n id limit host).wf = true) ∧ (1 ≤ limit) ∧ (s.hub.desc n id = some d) ∧ (dOp d.bytes = 3) ∧ (d.started = true) ∧ (d.ended = false) ∧ (d.stop = false) ∧ (d.snap = none) ∧ (s.hub.itsTurn n d = true) ∧ (m = d.total - d.moved) ∧ (0 < m) ∧ ((a, m) = inList d.list d.moved) ∧ (addrSpace a = 0) ∧ (m ≤ toLineEnd a) ∧ (b = dDest d.bytes + d.moved) ∧ (addrSpace b = 0) ∧ (s.hub.on R.RAS_FLIP_CTRL_ARM = false) ∧ (s.mem.dramErr = []) :=
    ⟨3, 5, 2, [], 8, 0x2000, leAt (descBytes [(0, 3), (36, 2), (41, 0x30)]) 40 8 + 64, { descOf 5 (descBytes [(0, 3), (36, 2), (41, 0x30)]) with started := true, moved := 64, listRead := true, list := [(0x1000, 64), (0x2000, 8)] }, { stOf (ringHub [{ descOf 5 (descBytes [(0, 3), (36, 2), (41, 0x30)]) with started := true, moved := 64, listRead := true, list := [(0x1000, 64), (0x2000, 8)] }] [(R.GLB_POP_STACK_CAP, 1)]) with mem := { Mem.reset with dram := [(0x1044, 0xAB), (0x1047, 1), (0x2000, 7), (0x2007, 8)] } }, by decide +kernel⟩

theorem wit_scatter :
    ∃ (n id limit : Nat) (host : List Byte) (m a b : Nat) (d : Desc) (s : State), ((Instr.scatter n id limit host).wf = true) ∧ (1 ≤ limit) ∧ (s.hub.desc n id = some d) ∧ (dOp d.bytes = 4) ∧ (d.started = true) ∧ (d.ended = false) ∧ (d.stop = false) ∧ (d.snap = none) ∧ (s.hub.itsTurn n d = true) ∧ (m = d.total - d.moved) ∧ (0 < m) ∧ ((b, m) = inList d.list d.moved) ∧ (a = dDest d.bytes + d.moved) ∧ (addrSpace a = 0) ∧ (m ≤ toLineEnd a) ∧ (addrSpace b = 0) ∧ (s.hub.on R.RAS_FLIP_CTRL_ARM = false) ∧ (s.mem.dramErr = []) :=
    ⟨3, 5, 2, [], 8, (leAt (descBytes [(0, 4), (36, 2), (40, 4), (41, 0x10)]) 40 8 + 64), 0x2000, { descOf 5 (descBytes [(0, 4), (36, 2), (40, 4), (41, 0x10)]) with started := true, moved := 64, listRead := true, list := [(0x1000, 64), (0x2000, 8)] }, { stOf (ringHub [{ descOf 5 (descBytes [(0, 4), (36, 2), (40, 4), (41, 0x10)]) with started := true, moved := 64, listRead := true, list := [(0x1000, 64), (0x2000, 8)] }] [(R.GLB_POP_STACK_CAP, 1)]) with mem := { Mem.reset with dram := [(0x1044, 0xAB), (0x1047, 1), (0x2000, 7), (0x2007, 8)] } }, by decide +kernel⟩

-- RingStreamsAndCalls
theorem wit_streamOpen :
    ∃ (n id site k : Nat) (toSite : Bool) (d : Desc) (s : State), ((Instr.streamOpen n id).wf = true) ∧ (s.hub.desc n id = some d) ∧ (dOp d.bytes = 0x08) ∧ (s.hub.considers n d = true) ∧ (s.hub.ringHold n = 0) ∧ (s.hub.verdict n d = .go) ∧ (site = leAt d.bytes 28 1) ∧ (toSite = (leAt d.bytes 29 1 == 0)) ∧ (k = leAt d.bytes 32 2) ∧ (k < s.hub.negStreams site toSite) ∧ (leAt d.bytes 30 1 < s.hub.negClasses site) ∧ ((s.hub.siteS site).stream toSite k = none) ∧ (s.hub.windowMeets (addrOff (leAt d.bytes 36 8)) (leAt d.bytes 44 4) = false) ∧ (s.hub.siteUp site = true) ∧ ((s.hub.siteS site).ctlq = []) ∧ (1 ≤ s.hub.get (R.YDL_CREDIT_HELD site 0)) :=
    ⟨3, 5, 2, 3, false, descOf 5 (descBytes [(0, 8), (28, 2), (29, 1), (30, 1), (32, 3), (37, 0x10), (43, 0x10), (45, 1), (48, 1)]), stOf (ringHub [descOf 5 (descBytes [(0, 8), (28, 2), (29, 1), (30, 1), (32, 3), (37, 0x10), (43, 0x10), (45, 1), (48, 1)])] [(R.YDL_STAT_STATE 2, 2), (R.YDL_CREDIT_HELD 2 0, 20), (R.YDL_NEG_LO 2, 0x04040300), (R.GLB_POP_SITE_LIVE, 4), (R.PWR_DOM_STATE 73, 2), (R.PWR_DOM_STATE 58, 2), (R.MAP_COUNT_ENG, 4), (R.DISP_POOL1_BALANCE 0, 99)]), by decide +kernel⟩

theorem wit_streamClose :
    ∃ (n id site k : Nat) (toSite : Bool) (d : Desc) (x : Stream) (s : State), ((Instr.streamClose n id).wf = true) ∧ (s.hub.desc n id = some d) ∧ (dOp d.bytes = 0x09) ∧ (s.hub.considers n d = true) ∧ (s.hub.ringHold n = 0) ∧ (s.hub.verdict n d = .go) ∧ (site = leAt d.bytes 28 1) ∧ (toSite = (leAt d.bytes 29 1 == 0)) ∧ (k = leAt d.bytes 32 2) ∧ ((s.hub.siteS site).stream toSite k = some x) ∧ (x.state < 2) :=
    ⟨3, 6, 2, 3, false, descOf 6 (descBytes [(0, 9), (28, 2), (29, 1), (30, 1), (32, 3)]), { toSite := false, id := 3, tag := 9, cls := 1, len := 4, got := 0, sent := 0, state := 1, bcast := false, space := 1, addr := 0x1000, engine := 2, ring := 3, desc := 5, closeRing := 256, closeDesc := 0 }, stOf ((ringHub [descOf 6 (descBytes [(0, 9), (28, 2), (29, 1), (30, 1), (32, 3)])] [(R.YDL_STAT_STATE 2, 2), (R.YDL_CREDIT_HELD 2 0, 20), (R.YDL_CREDIT_HELD 2 1, 20), (R.YDL_NEG_LO 2, 0x04040300), (R.GLB_POP_SITE_LIVE, 4), (R.PWR_DOM_STATE 73, 2), (R.PWR_DOM_STATE 58, 2), (R.MAP_COUNT_ENG, 4), (R.DISP_POOL1_BALANCE 0, 99)]).onSite 2 fun x => { x with streams := [{ toSite := false, id := 3, tag := 9, cls := 1, len := 4, got := 0, sent := 0, state := 1, bcast := false, space := 1, addr := 0x1000, engine := 2, ring := 3, desc := 5, closeRing := 256, closeDesc := 0 }] }), by decide +kernel⟩

theorem wit_siteCall :
    ∃ (n id site : Nat) (d : Desc) (s : State), ((Instr.siteCall n id).wf = true) ∧ (s.hub.desc n id = some d) ∧ (dOp d.bytes = 0x0A) ∧ (s.hub.considers n d = true) ∧ (s.hub.ringHold n = 0) ∧ (s.hub.verdict n d = .go) ∧ (site = leAt d.bytes 28 1) ∧ (s.hub.siteUp site = true) ∧ ((s.hub.siteS site).ctlq = []) ∧ (1 ≤ s.hub.get (R.YDL_CREDIT_HELD site 0)) :=
    ⟨3, 5, 2, descOf 5 (descBytes [(0, 0x0A), (28, 2), (32, 7), (2, 3)]), stOf (ringHub [descOf 5 (descBytes [(0, 0x0A), (28, 2), (32, 7), (2, 3)])] [(R.YDL_STAT_STATE 2, 2), (R.YDL_CREDIT_HELD 2 0, 20), (R.YDL_NEG_LO 2, 0x04040300), (R.GLB_POP_SITE_LIVE, 4), (R.PWR_DOM_STATE 73, 2), (R.PWR_DOM_STATE 58, 2), (R.MAP_COUNT_ENG, 4), (R.DISP_POOL1_BALANCE 0, 99), (R.DISP_POOL1_BALANCE 3, 99)]), by decide +kernel⟩

theorem wit_callDone :
    ∃ (site tag : Nat) (result : Word) (status energy n : Nat) (c : Call) (d : Desc) (s : State), ((Instr.callDone site tag result status energy).wf = true) ∧ (s.hub.siteUp site = true) ∧ (s.hub.get (R.YDL_CREDIT_OWED site 1) + 1 ≤ hubGrant 1) ∧ (((s.hub.siteS site).calls.find? fun c => c.tag == tag) = some c) ∧ (c.stopped = false) ∧ (n = c.ring) ∧ (s.hub.desc n c.desc = some d) ∧ (n < 256) ∧ (s.hub.ringState n = 1) ∧ ((s.hub.ring n).held = []) ∧ (s.hub.cplReady n = true) ∧ ((s.hub.ring n).bound = none) :=
    ⟨2, 77, 5, 0, 9, 3, { tag := 77, ring := 3, desc := 5, stopped := false }, { descOf 5 (descBytes [(0, 0x0A), (28, 2), (4, 7), (2, 3)]) with started := true, debit := 8 }, stOf ((ringHub [{ descOf 5 (descBytes [(0, 0x0A), (28, 2), (4, 7), (2, 3)]) with started := true, debit := 8 }] [(R.YDL_STAT_STATE 2, 2)]).onSite 2 fun x => { x with calls := [{ tag := 77, ring := 3, desc := 5, stopped := false }] }), by decide +kernel⟩

theorem wit_callStopTimeout :
    ∃ (site tag : Nat) (c : Call) (d : Desc) (s : State), ((Instr.callStopTimeout site tag).wf = true) ∧ (((s.hub.siteS site).calls.find? fun c => c.tag == tag && c.stopped) = some c) ∧ (s.hub.desc c.ring c.desc = some d) ∧ (dOp d.bytes = 0x0A) ∧ (c.ring < 256) ∧ (s.hub.ringState c.ring = 1) ∧ ((s.hub.ring c.ring).held = []) ∧ (s.hub.cplReady c.ring = true) ∧ ((s.hub.ring c.ring).bound = none) :=
    ⟨2, 77, { tag := 77, ring := 3, desc := 5, stopped := true }, { descOf 5 (descBytes [(0, 0x0A), (2, 3)]) with started := true, debit := 8 }, stOf ((ringHub [{ descOf 5 (descBytes [(0, 0x0A), (2, 3)]) with started := true, debit := 8 }] []).onSite 2 fun x => { x with calls := [{ tag := 77, ring := 3, desc := 5, stopped := true }] }), by decide +kernel⟩

-- CleatsWatchesAndTime
theorem wit_cltClear :
    ∃ (req : Path) (v : Word) (n : Nat) (s : State), ((Instr.cltClear req v).wf = true) ∧ (req.holdsBlocks = true) ∧ (1 ≤ bitsOf v 12 13) ∧ (bitsOf v 12 13 ≤ 4096) ∧ (bitsOf v 0 12 ≤ n) ∧ (n < bitsOf v 0 12 + bitsOf v 12 13) ∧ (n < 4096) :=
    ⟨Path.pf, 0x00002FFE, 4095, stOf (hubOf [(R.CLT_VALUE 4095, 3)]), by decide⟩

theorem wit_watchArm :
    ∃ (req : Path) (w : Nat) (v : Word) (s : State), ((Instr.watchArm req w v).wf = true) ∧ (req.holdsBlocks = true) ∧ (s.hub.get (R.CLT_WATCH0_EN w) = 0) ∧ (cmpHolds (bitsOf v 12 4) (s.hub.get (R.CLT_VALUE (bitsOf v 0 12))) (s.hub.get (R.CLT_WATCH1_VALUE w)) = false) :=
    ⟨Path.pf, 63, 0x00001005, stOf (hubOf [(R.CLT_WATCH1_VALUE 63, 9)]), by decide⟩

theorem wit_watchCancel :
    ∃ (req : Path) (w : Nat) (v : Word) (s : State), ((Instr.watchCancel req w v).wf = true) ∧ (req.holdsBlocks = true) ∧ (s.hub.get (R.CLT_WATCH0_EN w) ≠ 0) :=
    ⟨Path.pf, 63, 0, stOf { hubOf [(R.CLT_WATCH0_EN 63, 1)] with cleat := { waits := [{ who := .watch 63, cleat := 3, cmp := 1, value := 9, time := 0 }], seen := [] } }, by decide⟩

theorem wit_watchTimeout :
    ∃ (w : Nat) (s : State), ((Instr.watchTimeout w).wf = true) ∧ (s.hub.get (R.CLT_WATCH0_EN w) ≠ 0) ∧ (s.hub.get (R.CLT_WATCH2_TMO w) ≠ 0) :=
    ⟨63, stOf { hubOf [(R.CLT_WATCH0_EN 63, 1), (R.CLT_WATCH2_TMO 63, 5)] with cleat := { waits := [{ who := .watch 63, cleat := 3, cmp := 1, value := 9, time := 0 }], seen := [] } }, by decide⟩

theorem wit_timeEvtSel :
    ∃ (req : Path) (n : Nat) (v : Word) (s : State), ((Instr.timeEvtSel req n v).wf = true) ∧ (req.holdsBlocks = true) :=
    ⟨Path.pf, 15, 3, stOf (hubOf [(R.TIME_EVT_LO 15, 9)]), by decide⟩

theorem wit_timeSet :
    ∃ (req : Path) (v : Word) (s : State), ((Instr.timeSet req v).wf = true) ∧ (req.holdsBlocks = true) ∧ (s.hub.get R.TIME_STAT_DISC = 0) :=
    ⟨Path.pf, 3, stOf (hubOf [(R.TIME_SET_LO, 5)]), by decide⟩

theorem wit_timeAdj :
    ∃ (req : Path) (v : Word) (s : State), ((Instr.timeAdj req v).wf = true) ∧ (req.holdsBlocks = true) ∧ (s.hub.get R.TIME_STAT_DISC = 0) :=
    ⟨Path.pf, 0x7FFFFF, State.reset, by decide⟩

theorem wit_timeSlew :
    ∃ (req : Path) (v : Word) (s : State), ((Instr.timeSlew req v).wf = true) ∧ (req.holdsBlocks = true) ∧ (s.hub.get R.TIME_STAT_DISC = 0) :=
    ⟨Path.pf, 0xFFFFFFF0, State.reset, by decide⟩

-- SitesReachCleatsAndTime
theorem wit_siteCltAdd :
    ∃ (site tag n : Nat) (v : Word) (s : State), ((Instr.siteCltAdd site tag n v).wf = true) ∧ (s.hub.siteUp site = true) ∧ (s.hub.get (R.YDL_CREDIT_OWED site 0) + 1 ≤ hubGrant 0) ∧ (s.hub.siteCleat site n = true) ∧ (n < 4096) ∧ (s.hub.cltWaits site s.hub.dir.ncNext = false) ∧ ((s.hub.cleat.waits.all fun w => w.cleat != n) = true) ∧ ((s.hub.siteS site).ctlq = []) ∧ (1 ≤ s.hub.get (R.YDL_CREDIT_HELD site 1)) :=
    ⟨2, 9, 120, 5, stOf { hubOf [(R.YDL_STAT_STATE 2, 2), (R.YDL_CREDIT_HELD 2 0, 20), (R.YDL_CREDIT_HELD 2 1, 20), (R.YDL_NEG_LO 2, 2), (R.CLT_SITE_WIN_BASE 2, 100), (R.CLT_SITE_WIN_COUNT 2, 50), (R.CLT_VALUE 120, 0xFFFFFFFF)] with clock := 0 }, by decide⟩

theorem wit_siteCltSet :
    ∃ (site tag n : Nat) (v : Word) (s : State), ((Instr.siteCltSet site tag n v).wf = true) ∧ (s.hub.siteUp site = true) ∧ (s.hub.get (R.YDL_CREDIT_OWED site 0) + 1 ≤ hubGrant 0) ∧ (s.hub.siteCleat site n = true) ∧ (n < 4096) ∧ (s.hub.cltWaits site s.hub.dir.ncNext = false) ∧ ((s.hub.cleat.waits.all fun w => w.cleat != n) = true) ∧ ((s.hub.siteS site).ctlq = []) ∧ (1 ≤ s.hub.get (R.YDL_CREDIT_HELD site 1)) :=
    ⟨2, 9, 120, 5, stOf { hubOf [(R.YDL_STAT_STATE 2, 2), (R.YDL_CREDIT_HELD 2 0, 20), (R.YDL_CREDIT_HELD 2 1, 20), (R.YDL_NEG_LO 2, 2), (R.CLT_SITE_WIN_BASE 2, 100), (R.CLT_SITE_WIN_COUNT 2, 50), (R.CLT_VALUE 120, 0xFFFFFFFF)] with clock := 0 }, by decide⟩

theorem wit_siteCltRead :
    ∃ (site tag n : Nat) (s : State), ((Instr.siteCltRead site tag n).wf = true) ∧ (s.hub.siteUp site = true) ∧ (s.hub.get (R.YDL_CREDIT_OWED site 0) + 1 ≤ hubGrant 0) ∧ (s.hub.siteCleat site n = true) ∧ (n < 4096) ∧ ((s.hub.siteS site).ctlq = []) ∧ (1 ≤ s.hub.get (R.YDL_CREDIT_HELD site 1)) :=
    ⟨2, 9, 120, stOf { hubOf [(R.YDL_STAT_STATE 2, 2), (R.YDL_CREDIT_HELD 2 0, 20), (R.YDL_CREDIT_HELD 2 1, 20), (R.YDL_NEG_LO 2, 2), (R.CLT_SITE_WIN_BASE 2, 100), (R.CLT_SITE_WIN_COUNT 2, 50), (R.CLT_VALUE 120, 0xFFFFFFFF)] with clock := 0 }, by decide⟩

theorem wit_siteCltWait :
    ∃ (site tag cmp n : Nat) (v : Word) (tmo : Nat) (s : State), ((Instr.siteCltWait site tag cmp n v tmo).wf = true) ∧ (s.hub.siteUp site = true) ∧ (s.hub.get (R.YDL_CREDIT_OWED site 0) + 1 ≤ hubGrant 0) ∧ (s.hub.siteCleat site n = true) ∧ (n < 4096) ∧ ((s.hub.cleat.waits.all fun w => w.cleat != n) = true) ∧ (s.hub.siteWaits site < 256) ∧ (cmpHolds cmp (s.hub.get (R.CLT_VALUE n)) v.toNat = false) :=
    ⟨2, 9, 1, 120, 5, 100, stOf { hubOf [(R.YDL_STAT_STATE 2, 2), (R.YDL_CREDIT_HELD 2 0, 20), (R.YDL_CREDIT_HELD 2 1, 20), (R.YDL_NEG_LO 2, 2), (R.CLT_SITE_WIN_BASE 2, 100), (R.CLT_SITE_WIN_COUNT 2, 50), (R.CLT_VALUE 120, 0xFFFFFFFF)] with clock := 0 }, by decide⟩

theorem wit_siteCltWait_met :
    ∃ (site tag cmp n : Nat) (v : Word) (tmo : Nat) (s : State), ((Instr.siteCltWait site tag cmp n v tmo).wf = true) ∧ (s.hub.siteUp site = true) ∧ (s.hub.get (R.YDL_CREDIT_OWED site 0) + 1 ≤ hubGrant 0) ∧ (s.hub.siteCleat site n = true) ∧ (n < 4096) ∧ ((s.hub.cleat.waits.all fun w => w.cleat != n) = true) ∧ (s.hub.siteWaits site < 256) ∧ (cmpHolds cmp (s.hub.get (R.CLT_VALUE n)) v.toNat = true) ∧ ((s.hub.siteS site).ctlq = []) ∧ (1 ≤ s.hub.get (R.YDL_CREDIT_HELD site 1)) :=
    ⟨2, 9, 0, 120, 0xFFFFFFFE, 100, stOf { hubOf [(R.YDL_STAT_STATE 2, 2), (R.YDL_CREDIT_HELD 2 0, 20), (R.YDL_CREDIT_HELD 2 1, 20), (R.YDL_NEG_LO 2, 2), (R.CLT_SITE_WIN_BASE 2, 100), (R.CLT_SITE_WIN_COUNT 2, 50), (R.CLT_VALUE 120, 0xFFFFFFFF)] with clock := 0 }, by decide⟩

theorem wit_siteCltWaitTimeout :
    ∃ (site tag : Nat) (w : Wait) (tmo : Nat) (s : State), ((Instr.siteCltWaitTimeout site tag).wf = true) ∧ (s.hub.cleat.waits = [w]) ∧ (w.who = .site site tag tmo) ∧ (tmo ≠ 0) ∧ (s.hub.siteUp site = true) ∧ ((s.hub.siteS site).ctlq = []) ∧ (1 ≤ s.hub.get (R.YDL_CREDIT_HELD site 1)) :=
    ⟨2, 9, { who := .site 2 9 100, cleat := 120, cmp := 1, value := 5, time := 0 }, 100, stOf { hubOf [(R.YDL_STAT_STATE 2, 2), (R.YDL_CREDIT_HELD 2 0, 20), (R.YDL_CREDIT_HELD 2 1, 20), (R.YDL_NEG_LO 2, 2), (R.CLT_SITE_WIN_BASE 2, 100), (R.CLT_SITE_WIN_COUNT 2, 50), (R.CLT_VALUE 120, 0xFFFFFFFF)] with clock := 0, cleat := { Hub.reset.cleat with waits := [{ who := .site 2 9 100, cleat := 120, cmp := 1, value := 5, time := 0 }] } }, by decide⟩

theorem wit_siteClt_denied :
    ∃ (site tag n : Nat) (v : Word) (s : State), ((Instr.siteCltAdd site tag n v).wf = true) ∧ (s.hub.siteUp site = true) ∧ (s.hub.get (R.YDL_CREDIT_OWED site 0) + 1 ≤ hubGrant 0) ∧ (s.hub.siteCleat site n = false) ∧ ((s.hub.siteS site).ctlq = []) ∧ (1 ≤ s.hub.get (R.YDL_CREDIT_HELD site 1)) ∧ (s.hub.get R.CLT_STAT_DENIED + 1 < 2 ^ (R.CLT_STAT_DENIED).width) :=
    ⟨2, 9, 99, 5, stOf { hubOf [(R.YDL_STAT_STATE 2, 2), (R.YDL_CREDIT_HELD 2 0, 20), (R.YDL_CREDIT_HELD 2 1, 20), (R.YDL_NEG_LO 2, 2), (R.CLT_SITE_WIN_BASE 2, 100), (R.CLT_SITE_WIN_COUNT 2, 50), (R.CLT_VALUE 120, 0xFFFFFFFF)] with clock := 0 }, by decide⟩

theorem wit_timeRd :
    ∃ (site tag half : Nat) (s : State), ((Instr.timeRd site tag half).wf = true) ∧ (s.hub.siteUp site = true) ∧ (s.hub.get (R.YDL_CREDIT_OWED site 0) + 1 ≤ hubGrant 0) ∧ (half = 0) ∧ ((s.hub.siteS site).ctlq = []) ∧ (1 ≤ s.hub.get (R.YDL_CREDIT_HELD site 1)) :=
    ⟨2, 9, 0, stOf { hubOf [(R.YDL_STAT_STATE 2, 2), (R.YDL_CREDIT_HELD 2 0, 20), (R.YDL_CREDIT_HELD 2 1, 20)] with clock := 0, time := { Hub.reset.time with now := 2 ^ 33 + 5 } }, by decide⟩

theorem wit_timeRd_high :
    ∃ (site tag half : Nat) (w : Word) (s : State), ((Instr.timeRd site tag half).wf = true) ∧ (s.hub.siteUp site = true) ∧ (s.hub.get (R.YDL_CREDIT_OWED site 0) + 1 ≤ hubGrant 0) ∧ (half = 1) ∧ (s.hub.shadow (.site site) = some (0x130000, w)) ∧ ((s.hub.siteS site).ctlq = []) ∧ (1 ≤ s.hub.get (R.YDL_CREDIT_HELD site 1)) :=
    ⟨2, 9, 1, 77, stOf { hubOf [(R.YDL_STAT_STATE 2, 2), (R.YDL_CREDIT_HELD 2 0, 20), (R.YDL_CREDIT_HELD 2 1, 20)] with clock := 0, time := { Hub.reset.time with now := 5, shadows := [(.site 2, 0x130000, 77)] } }, by decide⟩

-- DirectoryGrantsLines
theorem wit_rdShared :
    ∃ (site tag l i : Nat) (addr : DWord) (s : State), ((Instr.rdShared site tag addr).wf = true) ∧ (s.hub.dir.gather = []) ∧ (s.sameDecision (.rdShared site tag addr) = false) ∧ (s.hub.siteUp site = true) ∧ (s.hub.get (R.YDL_CREDIT_OWED site 0) + 1 ≤ hubGrant 0) ∧ (l = addrOff addr.toNat / 64) ∧ (s.hub.caches site = true) ∧ (s.hub.lineAddr addr.toNat = true) ∧ (addrSpace addr.toNat = 1) ∧ (s.hub.cohIndex l = some i) ∧ (s.hub.lineState l = 2) ∧ (nget s.hub.dir.errs (dirWord i) = 0) ∧ (s.hub.txn l = none) ∧ (s.hub.entry i < 32) ∧ (s.mem.bufErr = []) ∧ ((s.hub.siteS site).ctlq = []) ∧ (2 ≤ s.hub.get (R.YDL_CREDIT_HELD site 1)) :=
    ⟨1, 9, 16389, 32773, BitVec.ofNat 64 (2 ^ 60 + 64 * 16389), { stOf { hubOf [(R.YDL_STAT_STATE 1, 2), (R.YDL_CREDIT_HELD 1 0, 20), (R.YDL_CREDIT_HELD 1 1, 20), (R.BUF_STAT_SITE_COH, 15), (R.MAP_COUNT_BANK, 16), (R.BUF_WIN0_BASE 0, 1), (R.BUF_WIN0_SIZE 0, 1), (R.BUF_WIN2_STATE 0, 2)] with clock := 0, dir := { Hub.reset.dir with chunks := [(2, 2)], entries := [(32773, 24)] } } with mem := { Mem.reset with buf := [(64 * 16389 + 1, 7)] } }, by decide⟩

theorem wit_rdShared_recall :
    ∃ (site tag l i o : Nat) (addr : DWord) (s : State), ((Instr.rdShared site tag addr).wf = true) ∧ (s.hub.dir.gather = []) ∧ (s.sameDecision (.rdShared site tag addr) = false) ∧ (s.hub.siteUp site = true) ∧ (s.hub.get (R.YDL_CREDIT_OWED site 0) + 1 ≤ hubGrant 0) ∧ (l = addrOff addr.toNat / 64) ∧ (s.hub.caches site = true) ∧ (s.hub.lineAddr addr.toNat = true) ∧ (addrSpace addr.toNat = 1) ∧ (s.hub.cohIndex l = some i) ∧ (s.hub.lineState l = 2) ∧ (nget s.hub.dir.errs (dirWord i) = 0) ∧ (s.hub.txn l = none) ∧ (o < 4) ∧ (o ≠ site) ∧ (s.hub.entry i = dirOwned o) ∧ (s.hub.siteUp o = true) ∧ ((s.hub.siteS o).ctlq = []) ∧ (1 ≤ s.hub.get (R.YDL_CREDIT_HELD o 0)) :=
    ⟨1, 9, 16389, 32773, 3, BitVec.ofNat 64 (2 ^ 60 + 64 * 16389), stOf { hubOf [(R.YDL_STAT_STATE 1, 2), (R.YDL_CREDIT_HELD 1 0, 20), (R.YDL_CREDIT_HELD 1 1, 20), (R.BUF_STAT_SITE_COH, 15), (R.MAP_COUNT_BANK, 16), (R.BUF_WIN0_BASE 0, 1), (R.BUF_WIN0_SIZE 0, 1), (R.BUF_WIN2_STATE 0, 2), (R.YDL_STAT_STATE 3, 2), (R.YDL_CREDIT_HELD 3 0, 20)] with clock := 0, dir := { Hub.reset.dir with chunks := [(2, 2)], entries := [(32773, 35)] } }, by decide⟩

theorem wit_rdOwn :
    ∃ (site tag l i : Nat) (addr : DWord) (s : State), ((Instr.rdOwn site tag addr).wf = true) ∧ (s.hub.dir.gather = []) ∧ (s.sameDecision (.rdOwn site tag addr) = false) ∧ (s.hub.siteUp site = true) ∧ (s.hub.get (R.YDL_CREDIT_OWED site 0) + 1 ≤ hubGrant 0) ∧ (l = addrOff addr.toNat / 64) ∧ (s.hub.caches site = true) ∧ (s.hub.lineAddr addr.toNat = true) ∧ (addrSpace addr.toNat = 1) ∧ (s.hub.cohIndex l = some i) ∧ (s.hub.lineState l = 2) ∧ (nget s.hub.dir.errs (dirWord i) = 0) ∧ (s.hub.txn l = none) ∧ (s.hub.entry i < 32) ∧ (maskLess (dirMask (s.hub.entry i)) (siteBit site) = 0) ∧ (s.mem.bufErr = []) ∧ ((s.hub.siteS site).ctlq = []) ∧ (2 ≤ s.hub.get (R.YDL_CREDIT_HELD site 1)) :=
    ⟨1, 9, 16389, 32773, BitVec.ofNat 64 (2 ^ 60 + 64 * 16389), { stOf { hubOf [(R.YDL_STAT_STATE 1, 2), (R.YDL_CREDIT_HELD 1 0, 20), (R.YDL_CREDIT_HELD 1 1, 20), (R.BUF_STAT_SITE_COH, 15), (R.MAP_COUNT_BANK, 16), (R.BUF_WIN0_BASE 0, 1), (R.BUF_WIN0_SIZE 0, 1), (R.BUF_WIN2_STATE 0, 2)] with clock := 0, dir := { Hub.reset.dir with chunks := [(2, 2)], entries := [] } } with mem := { Mem.reset with buf := [(64 * 16389 + 1, 7)] } }, by decide⟩

theorem wit_rdOwn_outside :
    ∃ (site tag : Nat) (addr : DWord) (s : State), ((Instr.rdOwn site tag addr).wf = true) ∧ (s.hub.dir.gather = []) ∧ (s.sameDecision (.rdOwn site tag addr) = false) ∧ (s.hub.siteUp site = true) ∧ (s.hub.get (R.YDL_CREDIT_OWED site 0) + 1 ≤ hubGrant 0) ∧ (s.hub.caches site = false) ∧ ((s.hub.siteS site).ctlq = []) ∧ (1 ≤ s.hub.get (R.YDL_CREDIT_HELD site 1)) :=
    ⟨1, 9, 64, stOf { hubOf [(R.YDL_STAT_STATE 1, 2), (R.YDL_CREDIT_HELD 1 0, 20), (R.YDL_CREDIT_HELD 1 1, 20)] with clock := 0 }, by decide⟩

theorem wit_upgrade :
    ∃ (site tag l i : Nat) (addr : DWord) (s : State), ((Instr.upgrade site tag addr).wf = true) ∧ (s.hub.dir.gather = []) ∧ (s.sameDecision (.upgrade site tag addr) = false) ∧ (s.hub.siteUp site = true) ∧ (s.hub.get (R.YDL_CREDIT_OWED site 0) + 1 ≤ hubGrant 0) ∧ (l = addrOff addr.toNat / 64) ∧ (s.hub.caches site = true) ∧ (s.hub.lineAddr addr.toNat = true) ∧ (addrSpace addr.toNat = 1) ∧ (s.hub.cohIndex l = some i) ∧ (s.hub.lineState l = 2) ∧ (nget s.hub.dir.errs (dirWord i) = 0) ∧ (s.hub.txn l = none) ∧ (s.hub.entry i = dirShared (siteBit site)) ∧ ((s.hub.siteS site).ctlq = []) ∧ (1 ≤ s.hub.get (R.YDL_CREDIT_HELD site 1)) :=
    ⟨1, 9, 16389, 32773, BitVec.ofNat 64 (2 ^ 60 + 64 * 16389), { stOf { hubOf [(R.YDL_STAT_STATE 1, 2), (R.YDL_CREDIT_HELD 1 0, 20), (R.YDL_CREDIT_HELD 1 1, 20), (R.BUF_STAT_SITE_COH, 15), (R.MAP_COUNT_BANK, 16), (R.BUF_WIN0_BASE 0, 1), (R.BUF_WIN0_SIZE 0, 1), (R.BUF_WIN2_STATE 0, 2)] with clock := 0, dir := { Hub.reset.dir with chunks := [(2, 2)], entries := [(32773, 18)] } } with mem := { Mem.reset with buf := [(64 * 16389 + 1, 7)] } }, by decide⟩

theorem wit_evictClean :
    ∃ (site tag l i : Nat) (addr : DWord) (s : State), ((Instr.evictClean site tag addr).wf = true) ∧ (s.hub.dir.gather = []) ∧ (s.sameDecision (.evictClean site tag addr) = false) ∧ (s.hub.siteUp site = true) ∧ (s.hub.get (R.YDL_CREDIT_OWED site 0) + 1 ≤ hubGrant 0) ∧ (l = addrOff addr.toNat / 64) ∧ (addrSpace addr.toNat = 1) ∧ (addrOff addr.toNat % 64 = 0) ∧ (s.hub.cohIndex l = some i) ∧ (nget s.hub.dir.errs (dirWord i) = 0) ∧ (s.hub.entry i = dirOwned site) ∧ ((s.hub.siteS site).ctlq = []) ∧ (1 ≤ s.hub.get (R.YDL_CREDIT_HELD site 1)) :=
    ⟨1, 9, 16389, 32773, BitVec.ofNat 64 (2 ^ 60 + 64 * 16389), stOf { hubOf [(R.YDL_STAT_STATE 1, 2), (R.YDL_CREDIT_HELD 1 0, 20), (R.YDL_CREDIT_HELD 1 1, 20), (R.BUF_STAT_SITE_COH, 15), (R.MAP_COUNT_BANK, 16), (R.BUF_WIN0_BASE 0, 1), (R.BUF_WIN0_SIZE 0, 1), (R.BUF_WIN2_STATE 0, 2)] with clock := 0, dir := { Hub.reset.dir with chunks := [(2, 2)], entries := [(32773, 33)] } }, by decide⟩

theorem wit_wbDirty :
    ∃ (site tag l i : Nat) (addr : DWord) (line : List Byte) (s : State), ((Instr.wbDirty site tag addr line).wf = true) ∧ (s.hub.dir.gather = []) ∧ (s.sameDecision (.wbDirty site tag addr line) = false) ∧ (s.hub.siteUp site = true) ∧ (s.hub.get (R.YDL_CREDIT_OWED site 0) + 2 ≤ hubGrant 0) ∧ (l = addrOff addr.toNat / 64) ∧ (addrSpace addr.toNat = 1) ∧ (addrOff addr.toNat % 64 = 0) ∧ (s.hub.cohIndex l = some i) ∧ (nget s.hub.dir.errs (dirWord i) = 0) ∧ (s.hub.entry i = dirOwned site) ∧ ((s.hub.siteS site).ctlq = []) ∧ (1 ≤ s.hub.get (R.YDL_CREDIT_HELD site 1)) :=
    ⟨1, 9, 16389, 32773, BitVec.ofNat 64 (2 ^ 60 + 64 * 16389), List.replicate 64 3, { stOf { hubOf [(R.YDL_STAT_STATE 1, 2), (R.YDL_CREDIT_HELD 1 0, 20), (R.YDL_CREDIT_HELD 1 1, 20), (R.BUF_STAT_SITE_COH, 15), (R.MAP_COUNT_BANK, 16), (R.BUF_WIN0_BASE 0, 1), (R.BUF_WIN0_SIZE 0, 1), (R.BUF_WIN2_STATE 0, 2)] with clock := 0, dir := { Hub.reset.dir with chunks := [(2, 2)], entries := [(32773, 33)] } } with mem := { Mem.reset with buf := [(64 * 16389 + 1, 7)] } }, by decide⟩

theorem wit_recallAck :
    ∃ (site tag l i : Nat) (addr : DWord) (x : DirTxn) (s : State), ((Instr.recallAck site tag addr).wf = true) ∧ (s.hub.siteUp site = true) ∧ (s.hub.get (R.YDL_CREDIT_OWED site 1) + 1 ≤ hubGrant 1) ∧ (l = addrOff addr.toNat / 64) ∧ (s.hub.cohIndex l = some i) ∧ (s.hub.txn l = some x) ∧ (x.await = siteBit site) ∧ (x.queue = []) ∧ (x.req.kind ≤ 2) ∧ (s.hub.lineState l ≠ 3) :=
    ⟨1, 9, 16389, 32773, BitVec.ofNat 64 (2 ^ 60 + 64 * 16389), { line := 16389, req := { pos := 2, kind := 1, tag := 4, nc := 0 }, await := 2, bare := false, queue := [] }, stOf { hubOf [(R.YDL_STAT_STATE 1, 2), (R.YDL_CREDIT_HELD 1 0, 20), (R.YDL_CREDIT_HELD 1 1, 20), (R.BUF_STAT_SITE_COH, 15), (R.MAP_COUNT_BANK, 16), (R.BUF_WIN0_BASE 0, 1), (R.BUF_WIN0_SIZE 0, 1), (R.BUF_WIN2_STATE 0, 2)] with clock := 0, dir := { Hub.reset.dir with chunks := [(2, 2)], entries := [(32773, 18)], txns := [{ line := 16389, req := { pos := 2, kind := 1, tag := 4, nc := 0 }, await := 2, bare := false, queue := [] }] } }, by decide⟩

theorem wit_recallData :
    ∃ (site tag l i : Nat) (addr : DWord) (line : List Byte) (x : DirTxn) (s : State), ((Instr.recallData site tag addr line).wf = true) ∧ (s.hub.siteUp site = true) ∧ (s.hub.get (R.YDL_CREDIT_OWED site 1) + 2 ≤ hubGrant 1) ∧ (l = addrOff addr.toNat / 64) ∧ (s.hub.cohIndex l = some i) ∧ (s.hub.txn l = some x) ∧ (x.await = siteBit site) ∧ (x.queue = []) ∧ (x.req.kind ≤ 2) ∧ (s.hub.lineState l ≠ 3) ∧ (s.hub.on R.RAS_FLIP_CTRL_ARM = false) :=
    ⟨1, 9, 16389, 32773, BitVec.ofNat 64 (2 ^ 60 + 64 * 16389), List.replicate 64 5, { line := 16389, req := { pos := 2, kind := 1, tag := 4, nc := 0 }, await := 2, bare := false, queue := [] }, stOf { hubOf [(R.YDL_STAT_STATE 1, 2), (R.YDL_CREDIT_HELD 1 0, 20), (R.YDL_CREDIT_HELD 1 1, 20), (R.BUF_STAT_SITE_COH, 15), (R.MAP_COUNT_BANK, 16), (R.BUF_WIN0_BASE 0, 1), (R.BUF_WIN0_SIZE 0, 1), (R.BUF_WIN2_STATE 0, 2)] with clock := 0, dir := { Hub.reset.dir with chunks := [(2, 2)], entries := [(32773, 33)], txns := [{ line := 16389, req := { pos := 2, kind := 1, tag := 4, nc := 0 }, await := 2, bare := false, queue := [] }] } }, by decide⟩

theorem wit_recallTimeout :
    ∃ (site line : Nat) (s : State), ((Instr.recallTimeout site line).wf = true) ∧ (s.hub.awaits site line = true) ∧ (s.hub.siteOut site = false) :=
    ⟨1, 16389, stOf { hubOf [(R.YDL_STAT_STATE 1, 2), (R.YDL_CREDIT_HELD 1 0, 20), (R.YDL_CREDIT_HELD 1 1, 20), (R.BUF_STAT_SITE_COH, 15), (R.MAP_COUNT_BANK, 16), (R.BUF_WIN0_BASE 0, 1), (R.BUF_WIN0_SIZE 0, 1), (R.BUF_WIN2_STATE 0, 2)] with clock := 0, dir := { Hub.reset.dir with chunks := [(2, 2)], entries := [(32773, 33)], txns := [{ line := 16389, req := { pos := 2, kind := 1, tag := 4, nc := 0 }, await := 2, bare := false, queue := [] }] } }, by decide⟩

-- MemoryChannelsRun
theorem wit_stackTempRead :
    ∃ (stack temp : Nat) (s : State), ((Instr.stackTempRead stack true temp).wf = true) :=
    ⟨5, 85, State.reset, by decide⟩

theorem wit_stackTempRead_failed :
    ∃ (stack temp : Nat) (s : State), ((Instr.stackTempRead stack false temp).wf = true) ∧ (s.hub.yew.tokens ≠ 0) :=
    ⟨5, 0, State.reset, by decide⟩

theorem wit_refresh :
    ∃ (stack q bank how k : Nat) (s : State), ((Instr.refresh stack q bank how).wf = true) ∧ (how = 0) ∧ (k = bankKey (32 * stack + q) bank) ∧ (s.hub.memch.selfRef = false) ∧ (nget s.hub.memch.pulled k = 0) :=
    ⟨5, 31, 47, 0, bankKey 191 47, stOf { hubOf [(R.MEM_PC_PD 5 31, 1)] with memch := { Hub.reset.memch with rows := [(bankKey 191 47, 9)], owed := [(bankKey 191 47, 2)] } }, by decide⟩

theorem wit_refresh_postponed :
    ∃ (stack q bank how k : Nat) (s : State), ((Instr.refresh stack q bank how).wf = true) ∧ (how = 1) ∧ (k = bankKey (32 * stack + q) bank) ∧ (s.hub.memch.selfRef = false) ∧ (nget s.hub.memch.pulled k = 0) ∧ ((s.hub.queue (32 * stack + q)).isEmpty = false) :=
    ⟨0, 1, 3, 1, bankKey 1 3, stOf { hubOf [] with memch := { Hub.reset.memch with queues := [(1, [{ write := false, addr := 0, size := 64, cls := 4, tag := 2, master := 4, scrub := false, at_ := 0 }])] } }, by decide⟩

theorem wit_refresh_made_up :
    ∃ (stack q bank how k : Nat) (s : State), ((Instr.refresh stack q bank how).wf = true) ∧ (how = 2) ∧ (k = bankKey (32 * stack + q) bank) ∧ (s.hub.memch.selfRef = false) ∧ (0 < nget s.hub.memch.owed k) :=
    ⟨5, 31, 47, 2, bankKey 191 47, stOf { hubOf [(R.MEM_PC_PD 5 31, 1)] with memch := { Hub.reset.memch with rows := [(bankKey 191 47, 9)], owed := [(bankKey 191 47, 2)] } }, by decide⟩

theorem wit_refresh_pulled :
    ∃ (stack q bank how k : Nat) (s : State), ((Instr.refresh stack q bank how).wf = true) ∧ (how < 2) ∧ (k = bankKey (32 * stack + q) bank) ∧ (s.hub.memch.selfRef = false) ∧ (0 < nget s.hub.memch.pulled k) :=
    ⟨0, 1, 3, 1, bankKey 1 3, stOf { hubOf [] with memch := { Hub.reset.memch with pulled := [(bankKey 1 3, 2)] } }, by decide⟩

theorem wit_caParityError :
    ∃ (stack : Nat) (s : State), ((Instr.caParityError stack false).wf = true) ∧ (s.hub.get (R.MEM_EVT_CAPAR stack) + 1 < 2 ^ (R.MEM_EVT_CAPAR stack).width) :=
    ⟨5, stOf { hubOf [] with memch := { Hub.reset.memch with parity := [(5, 3)] } }, by decide⟩

theorem wit_caParityError_fatal :
    ∃ (stack : Nat) (s : State), ((Instr.caParityError stack true).wf = true) ∧ (nget s.hub.memch.parity stack = 4) ∧ (s.hub.pins.d0Reset = false) ∧ (s.hub.get (R.YEW_ESC_FATALS) + 1 < 2 ^ (R.YEW_ESC_FATALS).width) :=
    ⟨5, stOf { hubOf [] with memch := { Hub.reset.memch with parity := [(5, 4)] }, pins := { Pins.reset with pwrgood := true, d0Reset := false } }, by decide⟩

theorem wit_scheduleCommand :
    ∃ (stack q p k : Nat) (busy : List Nat) (h : Hub) (r : MemReq) (s : State), ((Instr.scheduleCommand stack q busy).wf = true) ∧ (p = 32 * stack + q) ∧ (h = { s.hub with memch := { s.hub.memch with drain := nset s.hub.memch.drain p (b2n (s.hub.drainNow p)) } }) ∧ (h.rfmBank p busy = none) ∧ (h.choose p busy = some r) ∧ (k = bankKey p (dramDecode r.addr).bank) :=
    ⟨0, 0, 0, bankKey 0 (dramDecode 0).bank, [], { hubOf [(R.MEM_SCHED_WR_HI 0, 24)] with memch := { Hub.reset.memch with queues := [(0, [{ write := false, addr := 0, size := 64, cls := 4, tag := 2, master := 4, scrub := false, at_ := 0 }])], drain := nset [] 0 (b2n false) } }, { write := false, addr := 0, size := 64, cls := 4, tag := 2, master := 4, scrub := false, at_ := 0 }, stOf { hubOf [(R.MEM_SCHED_WR_HI 0, 24)] with memch := { Hub.reset.memch with queues := [(0, [{ write := false, addr := 0, size := 64, cls := 4, tag := 2, master := 4, scrub := false, at_ := 0 }])] } }, by decide⟩

theorem wit_scheduleCommand_rfm :
    ∃ (stack q p b : Nat) (busy : List Nat) (s : State), ((Instr.scheduleCommand stack q busy).wf = true) ∧ (p = 32 * stack + q) ∧ (s.hub.rfmBank p busy = some b) ∧ (s.hub.get (R.MEM_EVT_RFM stack) + 1 < 2 ^ (R.MEM_EVT_RFM stack).width) :=
    ⟨1, 2, 34, 5, [], stOf { hubOf [] with memch := { Hub.reset.memch with raaimt := [(1, 20)], raa := [(bankKey 34 5, 20)] } }, by decide⟩

theorem wit_powerDownEntry :
    ∃ (stack q : Nat) (s : State), ((Instr.powerDownEntry stack q).wf = true) ∧ (s.hub.on (R.MEM_CFG_PD_EN stack) = true) ∧ ((s.hub.queue (32 * stack + q)).isEmpty = true) :=
    ⟨5, 31, stOf (hubOf [(R.MEM_CFG_PD_EN 5, 1)]), by decide⟩

-- SheetAndTelltalesRun
theorem wit_sheetUpdate :
    ∃ (c : Nat) (s : State), (c < 7) ∧ (s.hub.sentCong c 200 = true) ∧ (150 ≤ nget s.hub.memch.sinceCut c) ∧ (s.hub.get (R.QOS_CLASS2_CUTS c) + 1 < 2 ^ (R.QOS_CLASS2_CUTS c).width) :=
    ⟨6, stOf { hubOf [(R.QOS_CLASS0_FLOOR 6, 10), (R.QOS_CLASS0_CEIL 6, 100), (R.QOS_SHEET_CTRL_CUT, 4)] with memch := { Hub.reset.memch with congAt := [(6, 1)], sinceCut := [(6, 150)] }, clock := 200 }, by decide⟩

theorem wit_sheetUpdate_rise :
    ∃ (c : Nat) (s : State), (c < 7) ∧ (s.hub.sentCong c 1000 = false) ∧ (s.hub.sentCong c 200 = false) :=
    ⟨6, stOf { hubOf [(R.QOS_CLASS0_FLOOR 6, 10), (R.QOS_CLASS0_CEIL 6, 100), (R.QOS_SHEET_CTRL_RISE, 4)] with memch := { Hub.reset.memch with rate := [(6, 50001)] } }, by decide⟩

theorem wit_floorWrite :
    ∃ (req : Path) (c : Nat) (v : Word) (s : State), ((Instr.floorWrite req c v).wf = true) ∧ (req.holdsBlocks = true) ∧ (s.hub.unlocked = true) ∧ (10 * s.hub.floorSum c (bitsOf v 16 16) ≤ floorLimit (s.hub.get (R.MEM_STAT_RATE 0))) :=
    ⟨Path.pf, 6, 0x00640190, State.reset, by decide⟩

theorem wit_floorWrite_refused :
    ∃ (req : Path) (c : Nat) (v : Word) (s : State), ((Instr.floorWrite req c v).wf = true) ∧ (req.holdsBlocks = true) ∧ (s.hub.unlocked = true) ∧ (floorLimit (s.hub.get (R.MEM_STAT_RATE 0)) < 10 * s.hub.floorSum c (bitsOf v 16 16)) :=
    ⟨Path.pf, 6, 0xFFFF0190, State.reset, by decide⟩

theorem wit_telltaleLevelChange :
    ∃ (m fill : Nat) (s : State), ((Instr.telltaleLevelChange m fill).wf = true) ∧ (m = 4) :=
    ⟨4, 85, State.reset, by decide⟩

theorem wit_telltaleLevelChange_quad :
    ∃ (m fill : Nat) (s : State), ((Instr.telltaleLevelChange m fill).wf = true) ∧ (5 ≤ m) :=
    ⟨12, 85, State.reset, by decide⟩

theorem wit_telltaleThresholdWrite :
    ∃ (req : Path) (m : Nat) (v : Word) (s : State), ((Instr.telltaleThresholdWrite req m v).wf = true) ∧ (req.holdsBlocks = true) ∧ (4 ≤ m) :=
    ⟨Path.pf, 12, 0x0014285A, State.reset, by decide⟩

-- ErrorsAndScrubRun
theorem wit_bufScrubRead :
    ∃ (n : Nat) (s : State), (n = s.hub.ras.bufPos) ∧ (s.hub.ready = true) ∧ (s.hub.on R.RAS_SCRUB_BUF_MIN = true) ∧ (n < 1600 * bankWords) ∧ (s.hub.domOn (2 + tileOfBank (n / bankWords)) = true) :=
    ⟨5, stOf { hubOf [(R.GLB_RDY_READY, 1), (R.RAS_SCRUB_BUF_MIN, 9), (R.PWR_DOM_STATE 2, 2)] with ras := { RasS.reset with bufPos := 5 } }, by decide⟩

theorem wit_dramScrubRead :
    ∃ (g : Nat) (s : State), (s.hub.ready = true) ∧ (s.hub.on R.RAS_SCRUB_DRAM_HOURS = true) ∧ (g = s.hub.get R.RAS_SCRUB_DRAM_POS_GRANULE) ∧ (g < s.hub.dramSize / 4096) ∧ (s.hub.skipped g = false) ∧ (s.hub.ras.dramSec < 127) :=
    ⟨3, stOf (hubOf [(R.GLB_RDY_READY, 1), (R.RAS_SCRUB_DRAM_HOURS, 24), (R.GLB_POP_STACK_CAP, 2), (R.RAS_SCRUB_DRAM_POS_GRANULE, 3)]), by decide +kernel⟩

theorem wit_dramScrubRead_pass :
    ∃ (g : Nat) (s : State), (s.hub.ready = true) ∧ (s.hub.on R.RAS_SCRUB_DRAM_HOURS = true) ∧ (g = s.hub.get R.RAS_SCRUB_DRAM_POS_GRANULE) ∧ (g + 1 = s.hub.dramSize / 4096) ∧ (s.hub.skipped g = false) ∧ (s.hub.ras.dramSec = 127) ∧ (s.hub.get R.RAS_SCRUB_DRAM_PASSES + 1 < 2 ^ (R.RAS_SCRUB_DRAM_PASSES).width) :=
    ⟨(hubOf [(R.GLB_POP_STACK_CAP, 1)]).dramSize / 4096 - 1, stOf { hubOf [(R.GLB_RDY_READY, 1), (R.RAS_SCRUB_DRAM_HOURS, 24), (R.GLB_POP_STACK_CAP, 1), (R.RAS_SCRUB_DRAM_POS_GRANULE, (hubOf [(R.GLB_POP_STACK_CAP, 1)]).dramSize / 4096 - 1)] with ras := { RasS.reset with dramSec := 127 } }, by decide +kernel⟩

theorem wit_rasConsWrite :
    ∃ (req : Path) (v : Word) (c n : Nat) (s : State), ((Instr.rasConsWrite req v).wf = true) ∧ (req.holdsBlocks = true) ∧ (c = s.hub.get R.RAS_LOG_PTR_CONS) ∧ (n = bitsOf v 16 10) ∧ ((n + 1024 - c) % 1024 ≤ (s.hub.get R.RAS_LOG_PTR_PROD + 1024 - c) % 1024) :=
    ⟨Path.pf, 0x00050000, 1020, 5, stOf (hubOf [(R.RAS_LOG_PTR_CONS, 1020), (R.RAS_LOG_PTR_PROD, 6)]), by decide⟩

theorem wit_rasConsWrite_beyond :
    ∃ (req : Path) (v : Word) (c n : Nat) (s : State), ((Instr.rasConsWrite req v).wf = true) ∧ (req.holdsBlocks = true) ∧ (c = s.hub.get R.RAS_LOG_PTR_CONS) ∧ (n = bitsOf v 16 10) ∧ ((s.hub.get R.RAS_LOG_PTR_PROD + 1024 - c) % 1024 < (n + 1024 - c) % 1024) ∧ (s.hub.rasFull = false) :=
    ⟨Path.pf, 0x00070000, 1020, 7, stOf (hubOf [(R.RAS_LOG_PTR_CONS, 1020), (R.RAS_LOG_PTR_PROD, 6)]), by decide⟩

theorem wit_ceHourly :
    ∃ (s : State), (s.hub.ready = true) ∧ (s.hub.yew.tokens ≠ 0) :=
    ⟨stOf { hubOf [(R.GLB_RDY_READY, 1)] with ras := { RasS.reset with ceHour := [(0, 5)] } }, by decide⟩

theorem wit_pprRequest :
    ∃ (noResource : Bool) (a : Nat) (s : State), ((Instr.pprRequest noResource).wf = true) ∧ (s.hub.on R.MAST_STAT_BUSY = true) ∧ (s.hub.mast.op = 0x20) ∧ (s.hub.mast.answer = none) ∧ (s.hub.mast.mgmt = none) ∧ (2 ≤ s.hub.stage) ∧ (s.hub.ras.sram = []) ∧ (s.hub.mast.len = 16) ∧ (a = leAt s.hub.mastData 0 8) ∧ (a < s.hub.dramSize) ∧ (leAt s.hub.mastData 8 1 = 0) ∧ (leAt s.hub.mastData 9 7 = 0) ∧ (s.hub.yew.region.ppr.any (sameRow a) = false) ∧ (s.hub.yew.region.ppr.length < 16) ∧ (noResource = false) :=
    ⟨false, 0x12345, stOf { hubOf [(R.MAST_STAT_BUSY, 1), (R.GLB_RDY_STAGE, 11), (R.MAST_DATA 0, 0x12345), (R.GLB_POP_STACK_CAP, 2)] with mast := { op := 0x20, len := 16, answer := none, mgmt := none } }, by decide⟩

theorem wit_flipArm :
    ∃ (req : Path) (v : Word) (s : State), ((Instr.flipArm req v).wf = true) ∧ (req.holdsBlocks = true) ∧ (s.hub.mayArm req = true) :=
    ⟨Path.pf, 0x1021, stOf (hubOf [(R.TEST_HEDGE_STAT_LEVEL, 1)]), by decide⟩

theorem wit_flipArm_refused :
    ∃ (req : Path) (v : Word) (s : State), ((Instr.flipArm req v).wf = true) ∧ (req.holdsBlocks = true) ∧ (s.hub.mayArm req = false) :=
    ⟨Path.pf, 0x1021, State.reset, by decide⟩

theorem wit_flipDisarm :
    ∃ (req : Path) (v : Word) (s : State), ((Instr.flipDisarm req v).wf = true) ∧ (req.holdsBlocks = true) :=
    ⟨Path.masthead, 0x1020, stOf (hubOf [(R.RAS_FLIP_CTRL_ARM, 1)]), by decide⟩

-- YdlTrainsAndDelivers
theorem wit_moduleTest :
    ∃ (site module : Nat) (good : Bool) (s : State), ((Instr.moduleTest site module good).wf = true) ∧ ((s.hub.siteS site).step = 6) ∧ (good = false) :=
    ⟨2, 33, false, stOf (Hub.reset.onSite 2 fun x => { x with step := 6 }), by decide⟩

theorem wit_trainStepLimit :
    ∃ (site pass : Nat) (eyes : List (Nat × Nat × Nat × Nat)) (s : State), ((Instr.trainStepLimit site pass eyes).wf = true) ∧ (s.hub.trains site = true) ∧ ((s.hub.siteS site).hubPass = none) ∧ ((s.hub.siteS site).diePass = none) ∧ (1 ≤ (s.hub.siteS site).step) ∧ ((s.hub.siteS site).step ≤ 6) :=
    ⟨3, 0x3FFF, [(1, 20, 0, 0), (2, 19, 40, 0)], stOf ((hubOf [(R.YDL_DISC_PHASE 3, 4)]).onSite 3 fun x => { x with step := 2, mask := 0x3FFFFFFFF }), by decide +kernel⟩

theorem wit_driftUpdate :
    ∃ (site module : Nat) (up : Bool) (o : Int) (s : State), ((Instr.driftUpdate site module up).wf = true) ∧ (([1, 2].contains (s.hub.get (R.YDL_MOD_STATE site module))) = true) ∧ (o = stepsOf (s.hub.get (R.YDL_DRIFT_OFFSET site module)) + (if up then 1 else -1)) ∧ (o.natAbs ≤ 16) :=
    ⟨2, 33, false, -1, stOf (hubOf [(R.YDL_MOD_STATE 2 33, 2)]), by decide⟩

theorem wit_driftUpdate_spare :
    ∃ (site module : Nat) (up : Bool) (o : Int) (s : State), ((Instr.driftUpdate site module up).wf = true) ∧ (s.hub.siteUp site = true) ∧ (s.hub.get (R.YDL_MOD_STATE site module) = 2) ∧ (o = stepsOf (s.hub.get (R.YDL_DRIFT_OFFSET site module)) + (if up then 1 else -1)) ∧ (16 < o.natAbs) :=
    ⟨2, 33, true, 17, stOf (hubOf [(R.YDL_MOD_STATE 2 33, 2), (R.YDL_STAT_STATE 2, 2), (R.YDL_DRIFT_OFFSET 2 33, 16)]), by decide +kernel⟩

theorem wit_flitReceive :
    ∃ (site module v k seq : Nat) (payload : List Byte) (s : State), ((Instr.flitReceive site module v k payload).wf = true) ∧ (s.hub.siteUp site = true) ∧ ((s.hub.siteS site).rxOn module = true) ∧ (slotKind v = 0) ∧ (k % 4 = 1 ∨ k % 4 = 2) ∧ (seq = k / 4 % 64) ∧ (k / 256 = flitCrc seq (k % 4) payload) ∧ (((s.hub.siteS site).mod module).nak = false) ∧ (seq = ((s.hub.siteS site).mod module).exp) ∧ ((s.hub.siteS site).held = []) ∧ ((s.hub.siteS site).nextSfn module (s.hub.ownXr site) ≠ s.hub.ownXr site) :=
    ⟨2, 1, 0xC3, 1 + 4 * 5 + 256 * flitCrc 5 1 (descBytes [(0, 3), (2, 2)]), 5, (descBytes [(0, 3), (2, 2)]), stOf (({ hubOf [(R.YDL_STAT_STATE 2, 2)] with clock := 0 } : Hub).onSite 2 fun x => { x with setTx := [0, 1, 2, 3, 4, 5, 6, 7, 8, 9], setRx := [0, 1, 2, 3, 4, 5, 6, 7, 8, 9], mods := [(1, { ModLink.empty with exp := 5 })] }), by decide +kernel⟩

theorem wit_flitReceive_deliver :
    ∃ (site module v k seq r : Nat) (payload : List Byte) (s : State), ((Instr.flitReceive site module v k payload).wf = true) ∧ (s.hub.siteUp site = true) ∧ ((s.hub.siteS site).rxOn module = true) ∧ (slotKind v = 0) ∧ (k % 4 = 1) ∧ (seq = k / 4 % 64) ∧ (k / 256 = flitCrc seq 1 payload) ∧ (((s.hub.siteS site).mod module).nak = false) ∧ (seq = ((s.hub.siteS site).mod module).exp) ∧ ((s.hub.siteS site).held = []) ∧ (r = s.hub.ownXr site) ∧ ((s.hub.siteS site).nextSfn module r = r) ∧ ((s.hub.siteS site).change = none) ∧ ((s.hub.siteS site).run = none) ∧ (leAt payload 2 1 ≠ 0) ∧ (s.hub.get (R.YDL_CREDIT_OWED site (s.hub.runPool site (leAt payload 0 2))) + 1 ≤ hubGrant (s.hub.runPool site (leAt payload 0 2))) ∧ (s.hub.runPool site (leAt payload 0 2) < 6) :=
    ⟨2, 0, 0xC3, 1 + 4 * 0 + 256 * flitCrc 0 1 (descBytes [(0, 3), (2, 2)]), 0, 0, (descBytes [(0, 3), (2, 2)]), stOf (({ hubOf [(R.YDL_STAT_STATE 2, 2)] with clock := 0 } : Hub).onSite 2 fun x => { x with setTx := [0, 1, 2, 3, 4, 5, 6, 7, 8, 9], setRx := [0, 1, 2, 3, 4, 5, 6, 7, 8, 9] }), by decide +kernel⟩

theorem wit_flitReceive_bad :
    ∃ (site module v k : Nat) (payload : List Byte) (s : State), ((Instr.flitReceive site module v k payload).wf = true) ∧ (s.hub.siteUp site = true) ∧ ((s.hub.siteS site).rxOn module = true) ∧ (slotKind v = 0) ∧ (k / 256 ≠ flitCrc (k / 4 % 64) (k % 4) payload) ∧ (s.hub.get (R.YDL_MODCNT_RX_ERR site module) + 1 < 2 ^ (R.YDL_MODCNT_RX_ERR site module).width) :=
    ⟨2, 1, 0xC3, 5, (descBytes [(0, 3), (2, 2)]), stOf (({ hubOf [(R.YDL_STAT_STATE 2, 2)] with clock := 0 } : Hub).onSite 2 fun x => { x with setTx := [0, 1, 2, 3, 4, 5, 6, 7, 8, 9], setRx := [0, 1, 2, 3, 4, 5, 6, 7, 8, 9], mods := [(1, { ModLink.empty with exp := 5 })] }), by decide +kernel⟩

theorem wit_replayStart :
    ∃ (site module seq mset : Nat) (s : State), ((Instr.replayStart site module seq mset).wf = true) ∧ (s.hub.siteUp site = true) ∧ (seq = ((s.hub.siteS site).mod module).exp) ∧ (mset = s.hub.get (R.YDL_EVT_MSET_RX site)) :=
    ⟨2, 1, 5, 0, stOf (({ hubOf [(R.YDL_STAT_STATE 2, 2)] with clock := 0 } : Hub).onSite 2 fun x => { x with setTx := [0, 1, 2, 3, 4, 5, 6, 7, 8, 9], setRx := [0, 1, 2, 3, 4, 5, 6, 7, 8, 9], mods := [(1, { ModLink.empty with exp := 5 })] }), by decide⟩

theorem wit_ack :
    ∃ (site first mset j p : Nat) (entries : List (Nat × Nat)) (s : State), ((Instr.ack site first mset entries).wf = true) ∧ (s.hub.siteUp site = true) ∧ (mset = s.hub.get (R.YDL_STAT_MSET_TX site)) ∧ ((entries.all fun e => e.2 / 64 % 2 == 0) = true) ∧ ((s.hub.siteS site).txq = []) ∧ ((s.hub.siteS site).setTx.Nodup) ∧ (j < 16) ∧ ((s.hub.siteS site).setTx[first + j]? = some p) ∧ ((entries.getD j (0, 0)).1 / 64 % 2 = 1) :=
    ⟨2, 0, 0, 1, 1, (0, 0) :: (64 + 3, 4) :: List.replicate 14 (0, 0), stOf (({ hubOf [(R.YDL_STAT_STATE 2, 2)] with clock := 0 } : Hub).onSite 2 fun x => { x with setTx := [0, 1, 2, 3, 4, 5, 6, 7, 8, 9], setRx := [0, 1, 2, 3, 4, 5, 6, 7, 8, 9], mods := [(1, { ModLink.empty with txSeq := 5, txBuf := [{ sfn := 0, seq := 3, type := 1, payload := [] }, { sfn := 10, seq := 4, type := 1, payload := [] }] })] }), by decide +kernel⟩

theorem wit_ackInterval :
    ∃ (site p : Nat) (s : State), ((Instr.ackInterval site).wf = true) ∧ (s.hub.siteUp site = true) ∧ ((s.hub.siteS site).setRx.length ≤ 32) ∧ (p ∈ (s.hub.siteS site).setRx) ∧ (((s.hub.siteS site).mod p).changed = true) :=
    ⟨2, 1, stOf (({ hubOf [(R.YDL_STAT_STATE 2, 2)] with clock := 0 } : Hub).onSite 2 fun x => { x with setTx := [0, 1, 2, 3, 4, 5, 6, 7, 8, 9], setRx := [0, 1, 2, 3, 4, 5, 6, 7, 8, 9], mods := [(1, { ModLink.empty with exp := 5, changed := true, asked := true })] }), by decide +kernel⟩

theorem wit_replayTimeout :
    ∃ (site module e n : Nat) (s : State), ((Instr.replayTimeout site module).wf = true) ∧ (s.hub.siteUp site = true) ∧ (module ∈ (s.hub.siteS site).setTx) ∧ (e = ((s.hub.siteS site).mod module).txExp) ∧ (fromSeq e ((s.hub.siteS site).mod module).txBuf ≠ []) ∧ (n = s.hub.get (R.YDL_MOD_RUN site module)) ∧ (n < 8) :=
    ⟨2, 1, 3, 0, stOf (({ hubOf [(R.YDL_STAT_STATE 2, 2)] with clock := 0 } : Hub).onSite 2 fun x => { x with setTx := [0, 1, 2, 3, 4, 5, 6, 7, 8, 9], setRx := [0, 1, 2, 3, 4, 5, 6, 7, 8, 9], mods := [(1, { ModLink.empty with txSeq := 5, txExp := 3, txBuf := [{ sfn := 0, seq := 3, type := 1, payload := [] }] })] }), by decide +kernel⟩

-- YdlModuleSetsChange
theorem wit_dropAck :
    ∃ (site module mset xr : Nat) (d : DropX) (s : State), ((Instr.dropAck site module mset xr).wf = true) ∧ (s.hub.siteUp site = true) ∧ (mset = s.hub.get (R.YDL_STAT_MSET_TX site)) ∧ ((s.hub.siteS site).dropx = some d) ∧ (d.module = module) :=
    ⟨2, 1, 0, 77, { module := 1, cause := 2 }, stOf (({ hubOf [(R.YDL_STAT_STATE 2, 2)] with clock := 0 } : Hub).onSite 2 fun x => { x with setTx := [0, 1, 2, 3, 4, 5, 6, 7, 8, 9], setRx := [0, 1, 2, 3, 4, 5, 6, 7, 8, 9], mods := [(1, { ModLink.empty with txSeq := 5, txExp := 3, txBuf := [{ sfn := 0, seq := 3, type := 1, payload := [] }] })], dropx := some { module := 1, cause := 2 } }), by decide +kernel⟩

theorem wit_dropReq :
    ∃ (site module mset xr cause : Nat) (s : State), ((Instr.dropReq site module mset xr cause).wf = true) ∧ (s.hub.siteUp site = true) ∧ (mset = s.hub.get (R.YDL_STAT_MSET_TX site)) ∧ (module ∈ (s.hub.siteS site).setTx) ∧ ((s.hub.siteS site).dropx = none) ∧ (8 ≤ ((s.hub.siteS site).dropSet module).length) :=
    ⟨2, 1, 0, 77, 1, stOf (({ hubOf [(R.YDL_STAT_STATE 2, 2)] with clock := 0 } : Hub).onSite 2 fun x => { x with setTx := [0, 1, 2, 3, 4, 5, 6, 7, 8, 9], setRx := [0, 1, 2, 3, 4, 5, 6, 7, 8, 9], mods := [(1, { ModLink.empty with txSeq := 5, txExp := 3, txBuf := [{ sfn := 0, seq := 3, type := 1, payload := [] }] })] }), by decide +kernel⟩

theorem wit_dropReqRepeat :
    ∃ (site q : Nat) (d : DropX) (s : State), ((Instr.dropReqRepeat site).wf = true) ∧ ((s.hub.siteS site).dropx = some d) ∧ (q ∈ (s.hub.siteS site).setTx) ∧ (q ≠ d.module) :=
    ⟨2, 7, { module := 1, cause := 2 }, stOf (({ hubOf [(R.YDL_STAT_STATE 2, 2)] with clock := 0 } : Hub).onSite 2 fun x => { x with setTx := [0, 1, 2, 3, 4, 5, 6, 7, 8, 9], setRx := [0, 1, 2, 3, 4, 5, 6, 7, 8, 9], dropx := some { module := 1, cause := 2 } }), by decide +kernel⟩

theorem wit_dropReq_last :
    ∃ (site module mset xr cause : Nat) (s : State), ((Instr.dropReq site module mset xr cause).wf = true) ∧ (s.hub.siteUp site = true) ∧ (mset = s.hub.get (R.YDL_STAT_MSET_TX site)) ∧ (module ∈ (s.hub.siteS site).setTx) ∧ ((s.hub.siteS site).dropx = none) ∧ (((s.hub.siteS site).dropSet module).length < 8) ∧ (s.hub.siteOut site = false) :=
    ⟨2, 1, 0, 77, 1, stOf ((hubOf [(R.YDL_STAT_STATE 2, 2)]).onSite 2 fun x => { x with setTx := [0, 1, 2, 3, 4, 5, 6, 7], setRx := [0, 1, 2, 3, 4, 5, 6, 7] }), by decide +kernel⟩

theorem wit_spareProposal :
    ∃ (site p : Nat) (s : State), ((Instr.spareProposal site).wf = true) ∧ (s.hub.canPropose site = true) ∧ (s.hub.cmdRemoves site = false) ∧ ((s.hub.siteS site).again = none) ∧ (s.hub.on (R.YDL_CTRL_AUTO_SPARE site) = true) ∧ ((s.hub.siteS site).setTx.length < 32) ∧ (0 < (s.hub.siteS site).spareDue) ∧ (((List.range 34).find? fun p => s.hub.get (R.YDL_MOD_STATE site p) == 2) = some p) :=
    ⟨2, 33, stOf (({ hubOf [(R.YDL_STAT_STATE 2, 2), (R.YDL_CTRL_AUTO_SPARE 2, 1), (R.YDL_MOD_STATE 2 33, 2)] with clock := 0 } : Hub).onSite 2 fun x => { x with setTx := [0, 1, 2, 3, 4, 5, 6, 7, 8, 9], setRx := [0, 1, 2, 3, 4, 5, 6, 7, 8, 9], spareDue := 1 }), by decide +kernel⟩

theorem wit_setAccept :
    ∃ (site xd : Nat) (c : SetChange) (s : State), ((Instr.setAccept site xd).wf = true) ∧ (s.hub.siteUp site = true) ∧ (s.hub.get (R.YDL_CREDIT_OWED site 1) + 1 ≤ hubGrant 1) ∧ ((s.hub.siteS site).change = some c) ∧ (c.xd = none) ∧ ((s.hub.siteS site).dropx = none) ∧ (c.remove = false) ∧ (s.hub.cmdOf site c.module = false) :=
    ⟨2, 9, { remove := false, module := 33, xh := 0, xd := none, txDone := false, rxDone := false }, stOf (({ hubOf [(R.YDL_STAT_STATE 2, 3)] with clock := 0 } : Hub).onSite 2 fun x => { x with setTx := [0, 1, 2, 3, 4, 5, 6, 7, 8, 9], setRx := [0, 1, 2, 3, 4, 5, 6, 7, 8, 9], change := some { remove := false, module := 33, xh := 0, xd := none, txDone := false, rxDone := false } }), by decide⟩

theorem wit_msetSwitch :
    ∃ (site xd : Nat) (tx : Bool) (c : SetChange) (s : State), ((Instr.msetSwitch site tx).wf = true) ∧ (tx = true) ∧ ((s.hub.siteS site).change = some c) ∧ (c.xd = some xd) ∧ ((s.hub.siteS site).dropx = none) ∧ (c.txDone = false) ∧ ((s.hub.siteS site).txReached c (s.hub.get (R.YDL_SFN_TX_SFN site)) = true) :=
    ⟨2, 5, true, { remove := false, module := 33, xh := 0, xd := some 5, txDone := false, rxDone := false }, stOf (({ hubOf [(R.YDL_STAT_STATE 2, 3)] with clock := 0 } : Hub).onSite 2 fun x => { x with setTx := [0, 1, 2, 3, 4, 5, 6, 7, 8, 9], setRx := [0, 1, 2, 3, 4, 5, 6, 7, 8, 9], change := some { remove := false, module := 33, xh := 0, xd := (some 5), txDone := false, rxDone := false } }), by decide +kernel⟩

theorem wit_msetSwitch_rx :
    ∃ (site xd : Nat) (tx : Bool) (c : SetChange) (s : State), ((Instr.msetSwitch site tx).wf = true) ∧ (tx = false) ∧ ((s.hub.siteS site).change = some c) ∧ (c.xd = some xd) ∧ ((s.hub.siteS site).dropx = none) ∧ (c.rxDone = false) ∧ (s.hub.ownXr site = xd) :=
    ⟨2, 0, false, { remove := false, module := 33, xh := 0, xd := some 0, txDone := false, rxDone := false }, stOf (({ hubOf [(R.YDL_STAT_STATE 2, 3)] with clock := 0 } : Hub).onSite 2 fun x => { x with setTx := [0, 1, 2, 3, 4, 5, 6, 7, 8, 9], setRx := [0, 1, 2, 3, 4, 5, 6, 7, 8, 9], change := some { remove := false, module := 33, xh := 0, xd := (some 0), txDone := false, rxDone := false } }), by decide +kernel⟩

-- SidebandAndLoopbackRun
theorem wit_sidebandHello :
    ∃ (site : Nat) (s : State), ((Instr.sidebandHello site).wf = true) ∧ (s.hub.phase site = 1) ∧ (s.hub.on (R.YDL_SB_STAT_DEAD site) = false) :=
    ⟨3, stOf (hubOf [(R.YDL_DISC_PHASE 3, 1)]), by decide⟩

theorem wit_sidebandCrcError :
    ∃ (site : Nat) (s : State), ((Instr.sidebandCrcError site).wf = true) ∧ (s.hub.get (R.YDL_SB_STAT_CRCERR site) + 1 < 2 ^ (R.YDL_SB_STAT_CRCERR site).width) :=
    ⟨3, State.reset, by decide⟩

theorem wit_sidebandResend :
    ∃ (site : Nat) (f : Nat × List Nat) (s : State), ((Instr.sidebandResend site).wf = true) ∧ ((s.hub.siteS site).sbFrame = some f) ∧ ((s.hub.siteS site).sbResends < 3) :=
    ⟨3, (6, [1, 2]), stOf (Hub.reset.onSite 3 fun x => { x with sbFrame := some (6, [1, 2]) }), by decide⟩

theorem wit_sidebandResend_dead :
    ∃ (site : Nat) (f : Nat × List Nat) (s : State), ((Instr.sidebandResend site).wf = true) ∧ ((s.hub.siteS site).sbFrame = some f) ∧ (3 ≤ (s.hub.siteS site).sbResends) ∧ (s.hub.ready = true) :=
    ⟨3, (6, [1, 2]), stOf ((hubOf [(R.GLB_RDY_READY, 1)]).onSite 3 fun x => { x with sbFrame := some (6, [1, 2]), sbResends := 3 }), by decide⟩

theorem wit_sidebandUnknownType :
    ∃ (site type len : Nat) (s : State), ((Instr.sidebandUnknownType site ⟨type, len⟩).wf = true) ∧ (s.hub.on (R.YDL_SB_STAT_DEAD site) = false) :=
    ⟨3, 0x77, 4, State.reset, by decide⟩

theorem wit_sidebandAnswerTimeout :
    ∃ (site type : Nat) (s : State), ((Instr.sidebandAnswerTimeout site type).wf = true) ∧ (type ≠ 0) ∧ ((s.hub.siteS site).sbAwait = type) ∧ (s.hub.retrains site = none) ∧ (s.hub.siteOut site = false) :=
    ⟨3, 5, stOf (Hub.reset.onSite 3 fun x => { x with sbAwait := 5 }), by decide +kernel⟩

theorem wit_sidebandNak :
    ∃ (site type why : Nat) (s : State), ((Instr.sidebandNak site type why).wf = true) ∧ (type = 0x0C) ∧ ((s.hub.sbAnswered site).mast.mgmt = some site) :=
    ⟨1, 0x0C, 2, stOf { Hub.reset with mast := { op := 0x30, len := 3, answer := none, mgmt := some 1 } }, by decide⟩

theorem wit_mgmtData :
    ∃ (site addr : Nat) (v : Word) (s : State), ((Instr.mgmtData site addr v).wf = true) ∧ (s.hub.mast.mgmt = some site) ∧ (addr = leAt s.hub.mastData 1 2) ∧ ((s.hub.siteS site).sbAwait = 0x0D) :=
    ⟨1, 0x10, 77, stOf ({ hubOf [(R.MAST_DATA 0, 0x1001)] with mast := { op := 0x30, len := 3, answer := none, mgmt := some 1 } }.onSite 1 fun x => { x with sbAwait := 0x0D }), by decide⟩

theorem wit_loopbackRun :
    ∃ (req : Path) (site : Nat) (v : Word) (s : State), ((Instr.loopbackRun req site v).wf = true) ∧ (req.holdsBlocks = true) ∧ (1 ≤ s.hub.level) ∧ (s.hub.domOn (siteDomain site) = true) ∧ (bitsOf v 0 2 = 1) ∧ ((s.hub.siteS site).lbOn = false) ∧ ((s.hub.siteS site).lbQuiet = false) ∧ (s.hub.lbEligible site (bitsOf v 16 6) = true) :=
    ⟨Path.pf, 3, 0x01210001, stOf (hubOf [(R.TEST_HEDGE_STAT_LEVEL, 1), (R.PWR_DOM_STATE 59, 2)]), by decide +kernel⟩

theorem wit_loopbackEnd :
    ∃ (site l e : Nat) (fails : List Nat) (errs : List (Nat × Nat)) (s : State), ((Instr.loopbackEnd site fails errs).wf = true) ∧ ((s.hub.siteS site).lbOn = true) ∧ (errs = [(l, e)]) ∧ (l < 69) :=
    ⟨3, 68, 9, [3], [(68, 9)], stOf (Hub.reset.onSite 3 fun x => { x with lbOn := true }), by decide +kernel⟩

theorem wit_quietAck :
    ∃ (site module : Nat) (quiet : Bool) (s : State), ((Instr.quietAck site module quiet).wf = true) ∧ ((s.hub.siteS site).sbAwait = 0x0B) ∧ ((s.hub.siteS site).lbQuiet = true) ∧ (quiet = true) ∧ (module = (s.hub.siteS site).lbMod) :=
    ⟨3, 5, true, stOf (Hub.reset.onSite 3 fun x => { x with lbMod := 5, lbQuiet := true, sbAwait := 0x0B }), by decide⟩

theorem wit_quietAckTimeout :
    ∃ (site : Nat) (s : State), ((Instr.quietAckTimeout site).wf = true) ∧ ((s.hub.siteS site).lbQuiet = true) :=
    ⟨3, stOf (Hub.reset.onSite 3 fun x => { x with lbQuiet := true }), by decide⟩

-- SitesComeUpAndDrop
theorem wit_helloAck :
    ∃ (site : Nat) (s : State), ((Instr.helloAck site).wf = true) ∧ (s.hub.phase site = 1) ∧ (s.hub.on (R.YDL_SB_STAT_DEAD site) = false) :=
    ⟨3, stOf (hubOf [(R.YDL_DISC_PHASE 3, 1)]), by decide⟩

theorem wit_helloAck_state :
    ∃ (site : Nat) (s : State), ((Instr.helloAck site).wf = true) ∧ (s.hub.phase site ≠ 1) ∧ (s.hub.on (R.YDL_SB_STAT_DEAD site) = false) :=
    ⟨3, stOf (hubOf [(R.YDL_DISC_PHASE 3, 5)]), by decide⟩

theorem wit_ident :
    ∃ (site neg : Nat) (payload : List Byte) (s : State), ((Instr.ident site payload).wf = true) ∧ (payload.length = 48) ∧ (s.hub.phase site = 2) ∧ (s.hub.identWhy site payload = 0) ∧ (s.hub.on (R.YDL_SB_STAT_DEAD site) = false) ∧ (neg = negotiate (s.hub.hubCap site) (leAt payload 4 8) (negVersion (leAt payload 1 1))) :=
    ⟨3, negotiate ((hubOf []).hubCap 3) (leAt (padTo 48 ([0x20, 0x11, 1, 0, 0x1F, 2, 4, 4, 0x82, 1] ++ List.replicate 16 0 ++ [0, 1, 100, 0, 5, 3, 0, 1, 64, 0, 64, 0, 0, 8])) 4 8) (negVersion 0x11), padTo 48 ([0x20, 0x11, 1, 0, 0x1F, 2, 4, 4, 0x82, 1] ++ List.replicate 16 0 ++ [0, 1, 100, 0, 5, 3, 0, 1, 64, 0, 64, 0, 0, 8]), stOf (hubOf [(R.YDL_DISC_PHASE 3, 2)]), by decide +kernel⟩

theorem wit_ident_bad :
    ∃ (site : Nat) (payload : List Byte) (s : State), ((Instr.ident site payload).wf = true) ∧ (payload.length = 48) ∧ (s.hub.phase site = 2) ∧ (s.hub.identWhy site payload ≠ 0) ∧ (s.hub.siteOut site = false) :=
    ⟨3, padTo 48 [0x20, 0x21], stOf (hubOf [(R.YDL_DISC_PHASE 3, 2)]), by decide +kernel⟩

theorem wit_ident_length :
    ∃ (site : Nat) (payload : List Byte) (s : State), ((Instr.ident site payload).wf = true) ∧ (payload.length ≠ 48) ∧ (s.hub.on (R.YDL_SB_STAT_DEAD site) = false) :=
    ⟨3, [0x20], stOf (hubOf [(R.YDL_DISC_PHASE 3, 2)]), by decide⟩

theorem wit_negAck :
    ∃ (site : Nat) (accept : Bool) (s : State), ((Instr.negAck site accept).wf = true) ∧ (s.hub.phase site = 3) ∧ (accept = true) :=
    ⟨3, true, stOf (hubOf [(R.YDL_DISC_PHASE 3, 3), (R.YDL_NEG_HI 3, 0x220)]), by decide +kernel⟩

theorem wit_negAck_refused :
    ∃ (site : Nat) (accept : Bool) (s : State), ((Instr.negAck site accept).wf = true) ∧ (s.hub.phase site = 3) ∧ (accept = false) ∧ (s.hub.siteOut site = false) :=
    ⟨3, false, stOf (hubOf [(R.YDL_DISC_PHASE 3, 3)]), by decide +kernel⟩

theorem wit_trainRes :
    ∃ (site step pass a : Nat) (s : State), ((Instr.trainRes site step pass).wf = true) ∧ (s.hub.phase site = 4) ∧ (s.hub.retrains site = none) ∧ (step = (s.hub.siteS site).step) ∧ (step < 6) ∧ ((s.hub.siteS site).hubPass = some a) :=
    ⟨3, 2, 0x3FFF, 0x1FFFF, stOf ((hubOf [(R.YDL_DISC_PHASE 3, 4)]).onSite 3 fun x => { x with step := 2, mask := 0x3FFFFFFFF, hubPass := some 0x1FFFF }), by decide +kernel⟩

theorem wit_linkUp :
    ∃ (site : Nat) (s : State), (s.hub.allReady = true) ∧ (site < 4) ∧ (s.hub.linkReady site = true) :=
    ⟨3, stOf ((hubOf [(R.GLB_STRAP_SITE_FIT, 8), (R.YDL_DISC_PHASE 3, 4)]).onSite 3 fun x => { x with step := 7, trained := 0x1FF, crReq := 64 }), by decide +kernel⟩

theorem wit_allowAck :
    ∃ (site power energy : Nat) (s : State), ((Instr.allowAck site power energy).wf = true) ∧ (s.hub.siteUp site = true) ∧ (s.hub.get (R.YDL_CREDIT_OWED site 1) + 1 ≤ hubGrant 1) :=
    ⟨2, 400, 100, stOf { hubOf [(R.YDL_STAT_STATE 2, 2), (R.YDL_CREDIT_HELD 2 0, 20), (R.YDL_CREDIT_HELD 2 1, 20), (R.YDL_POWER_MISSED 2, 2)] with clock := 0 }, by decide⟩

theorem wit_allowAck_over :
    ∃ (site power energy : Nat) (s : State), ((Instr.allowAck site power energy).wf = true) ∧ (s.hub.siteUp site = true) ∧ (s.hub.get (R.YDL_CREDIT_OWED site 1) + 1 ≤ hubGrant 1) ∧ (105 * s.hub.inForce site < 100 * power) ∧ ((s.hub.siteS site).overSaid = false) ∧ (s.hub.get (R.YDL_ALLOW_OVER site) + 1 < 256) :=
    ⟨2, 400, 100, stOf { hubOf [(R.YDL_STAT_STATE 2, 2), (R.YDL_CREDIT_HELD 2 0, 20), (R.YDL_CREDIT_HELD 2 1, 20), (R.YDL_ALLOW 2, 300)] with clock := 0 }, by decide⟩

theorem wit_unlistedMsg :
    ∃ (site : Nat) (rsp : Bool) (flits : Nat) (s : State), ((Instr.unlistedMsg site rsp flits).wf = true) ∧ (s.hub.siteUp site = true) ∧ (s.hub.get (R.YDL_CREDIT_OWED site (b2n rsp)) + flits ≤ hubGrant (b2n rsp)) ∧ (s.hub.get (R.YDL_CTL_BADMSG site) + 1 < 2 ^ (R.YDL_CTL_BADMSG site).width) :=
    ⟨2, true, 2, stOf { hubOf [(R.YDL_STAT_STATE 2, 2), (R.YDL_CREDIT_HELD 2 0, 20), (R.YDL_CREDIT_HELD 2 1, 20)] with clock := 0 }, by decide⟩

theorem wit_message_overrun :
    ∃ (site : Nat) (rsp : Bool) (flits : Nat) (s : State), ((Instr.unlistedMsg site rsp flits).wf = true) ∧ (s.hub.siteUp site = true) ∧ (s.hub.siteOut site = false) ∧ (hubGrant (b2n rsp) < s.hub.get (R.YDL_CREDIT_OWED site (b2n rsp)) + flits) :=
    ⟨2, false, 1, stOf { hubOf [(R.YDL_STAT_STATE 2, 2), (R.YDL_CREDIT_HELD 2 0, 20), (R.YDL_CREDIT_HELD 2 1, 20), (R.YDL_CREDIT_OWED 2 0, 256)] with clock := 0 }, by decide⟩

theorem wit_siteDrop :
    ∃ (site why : Nat) (s : State), ((Instr.siteDrop site why).wf = true) ∧ (s.hub.siteOut site = false) :=
    ⟨2, 12, stOf ((ringHub [{ descOf 5 (descBytes [(0, 8), (28, 2), (29, 1), (32, 3)]) with started := true, debit := 0 }] [(R.YDL_STAT_STATE 2, 2), (R.YDL_CREDIT_HELD 2 0, 20), (R.YDL_CREDIT_HELD 2 1, 20)]).onSite 2 fun x => { x with streams := [{ toSite := false, id := 3, tag := 9, cls := 1, len := 4, got := 0, sent := 0, state := 1, bcast := false, space := 1, addr := 0x1000, engine := 2, ring := 3, desc := 5, closeRing := 256, closeDesc := 0 }] }), by decide +kernel⟩

-- SiteMessagesReachMemory
theorem wit_siteRd :
    ∃ (site tag a : Nat) (addr : DWord) (s : State), ((Instr.siteRd site tag addr).wf = true) ∧ (s.hub.siteUp site = true) ∧ (s.hub.get (R.YDL_CREDIT_OWED site 0) + 1 ≤ hubGrant 0) ∧ (s.hub.on R.MAP_EPOCH_CUR = true) ∧ (s.hub.dir.gather = []) ∧ (s.sameDecision (.siteRd site tag addr) = false) ∧ (a = addr.toNat) ∧ (s.hub.lineAddr a = true) ∧ (addrSpace a = 0) ∧ (s.mem.dramErr = []) ∧ ((s.hub.siteS site).ctlq = []) ∧ (2 ≤ s.hub.get (R.YDL_CREDIT_HELD site 1)) :=
    ⟨1, 9, 0x40, 0x40, { stOf { hubOf [(R.YDL_STAT_STATE 1, 2), (R.YDL_CREDIT_HELD 1 0, 20), (R.YDL_CREDIT_HELD 1 1, 20), (R.GLB_POP_STACK_CAP, 1), (R.MAP_EPOCH_CUR, 1)] with clock := 0 } with mem := { Mem.reset with dram := [(0x41, 7)] } }, by decide⟩

theorem wit_siteRd_bad :
    ∃ (site tag a : Nat) (addr : DWord) (s : State), ((Instr.siteRd site tag addr).wf = true) ∧ (s.hub.siteUp site = true) ∧ (s.hub.get (R.YDL_CREDIT_OWED site 0) + 1 ≤ hubGrant 0) ∧ (s.hub.on R.MAP_EPOCH_CUR = true) ∧ (s.hub.dir.gather = []) ∧ (s.sameDecision (.siteRd site tag addr) = false) ∧ (a = addr.toNat) ∧ (s.hub.lineAddr a = false) ∧ ((s.hub.siteS site).ctlq = []) ∧ (2 ≤ s.hub.get (R.YDL_CREDIT_HELD site 1)) :=
    ⟨1, 9, 0x41, 0x41, stOf { hubOf [(R.YDL_STAT_STATE 1, 2), (R.YDL_CREDIT_HELD 1 0, 20), (R.YDL_CREDIT_HELD 1 1, 20), (R.GLB_POP_STACK_CAP, 1), (R.MAP_EPOCH_CUR, 1)] with clock := 0 }, by decide⟩

theorem wit_siteWr :
    ∃ (site tag a : Nat) (addr mask : DWord) (line : List Byte) (s : State), ((Instr.siteWr site tag addr mask line).wf = true) ∧ (s.hub.siteUp site = true) ∧ (s.hub.get (R.YDL_CREDIT_OWED site 0) + 2 ≤ hubGrant 0) ∧ (s.hub.on R.MAP_EPOCH_CUR = true) ∧ (s.hub.dir.gather = []) ∧ (s.sameDecision (.siteWr site tag addr mask line) = false) ∧ (a = addr.toNat) ∧ (s.hub.lineAddr a = true) ∧ (addrSpace a = 0) ∧ (s.mem.dramErr = []) ∧ (s.hub.on R.RAS_FLIP_CTRL_ARM = false) ∧ ((s.hub.siteS site).ctlq = []) ∧ (1 ≤ s.hub.get (R.YDL_CREDIT_HELD site 1)) :=
    ⟨1, 9, 0x40, 0x40, 0x5, List.replicate 64 0xAA, { stOf { hubOf [(R.YDL_STAT_STATE 1, 2), (R.YDL_CREDIT_HELD 1 0, 20), (R.YDL_CREDIT_HELD 1 1, 20), (R.GLB_POP_STACK_CAP, 1), (R.MAP_EPOCH_CUR, 1)] with clock := 0 } with mem := { Mem.reset with dram := [(0x41, 7)] } }, by decide⟩

theorem wit_credit :
    ∃ (site p : Nat) (give : List Nat) (s : State), ((Instr.credit site give).wf = true) ∧ (s.hub.siteUp site = true) ∧ ((s.hub.siteS site).ctlq = []) ∧ ((s.hub.siteS site).streams = []) ∧ (p < 6) :=
    ⟨3, 5, [1, 2, 0, 0, 0, 65535], stOf { hubOf [(R.YDL_STAT_STATE 3, 2), (R.YDL_CREDIT_HELD 3 0, 20), (R.YDL_CREDIT_HELD 3 1, 20), (R.YDL_CREDIT_HELD 3 5, 9)] with clock := 0 }, by decide⟩

theorem wit_creditReturn :
    ∃ (site p : Nat) (s : State), ((Instr.creditReturn site).wf = true) ∧ (s.hub.siteUp site = true) ∧ ((s.hub.siteS site).escape = true) ∧ (p < 6) ∧ (s.hub.get (R.YDL_CREDIT_OWED site p) ≠ 0) :=
    ⟨1, 0, stOf (({ hubOf [(R.YDL_STAT_STATE 1, 2), (R.YDL_CREDIT_OWED 1 0, 7)] with clock := 0 } : Hub).onSite 1 fun x => { x with escape := true }), by decide⟩

-- SiteStreamsRun
theorem wit_openAck :
    ∃ (site tag status : Nat) (x : Stream) (s : State), ((Instr.openAck site tag status).wf = true) ∧ (s.hub.siteUp site = true) ∧ (s.hub.get (R.YDL_CREDIT_OWED site 1) + 1 ≤ hubGrant 1) ∧ (status = 0) ∧ (((s.hub.siteS site).streams.find? fun t => t.tag == tag && t.state == 0) = some x) ∧ ((s.hub.siteS site).stream x.toSite x.id = some x) ∧ (s.hub.streamStop x = false) ∧ (s.hub.get (R.YDL_CREDIT_HELD site (2 + x.cls)) < 2) :=
    ⟨2, 9, 0, { toSite := false, id := 3, tag := 9, cls := 1, len := 4, got := 0, sent := 0, state := 0, bcast := false, space := 1, addr := 0x1000, engine := 2, ring := 3, desc := 5, closeRing := 256, closeDesc := 0 }, stOf ((ringHub [{ descOf 5 (descBytes [(0, 8), (28, 2), (29, 1), (32, 3)]) with started := true, debit := 0 }] [(R.YDL_STAT_STATE 2, 2), (R.YDL_CREDIT_HELD 2 0, 20), (R.YDL_CREDIT_HELD 2 1, 20)]).onSite 2 fun x => { x with streams := [{ toSite := false, id := 3, tag := 9, cls := 1, len := 4, got := 0, sent := 0, state := 0, bcast := false, space := 1, addr := 0x1000, engine := 2, ring := 3, desc := 5, closeRing := 256, closeDesc := 0 }] }), by decide⟩

theorem wit_openAck_refused :
    ∃ (site tag status : Nat) (x : Stream) (d : Desc) (n : Nat) (s : State), ((Instr.openAck site tag status).wf = true) ∧ (s.hub.siteUp site = true) ∧ (s.hub.get (R.YDL_CREDIT_OWED site 1) + 1 ≤ hubGrant 1) ∧ (status ≠ 0) ∧ (((s.hub.siteS site).streams.find? fun t => t.tag == tag && t.state == 0) = some x) ∧ (x.space ≠ 2) ∧ (n = x.ring) ∧ (s.hub.desc n x.desc = some d) ∧ (d.debit = 0) ∧ (n < 256) ∧ (s.hub.ringState n = 1) ∧ ((s.hub.ring n).held = []) ∧ (s.hub.cplReady n = true) ∧ ((s.hub.ring n).bound = none) :=
    ⟨2, 9, 7, { toSite := false, id := 3, tag := 9, cls := 1, len := 4, got := 0, sent := 0, state := 0, bcast := false, space := 1, addr := 0x1000, engine := 2, ring := 3, desc := 5, closeRing := 256, closeDesc := 0 }, { descOf 5 (descBytes [(0, 8), (28, 2), (29, 1), (32, 3)]) with started := true, debit := 0 }, 3, stOf ((ringHub [{ descOf 5 (descBytes [(0, 8), (28, 2), (29, 1), (32, 3)]) with started := true, debit := 0 }] [(R.YDL_STAT_STATE 2, 2), (R.YDL_CREDIT_HELD 2 0, 20), (R.YDL_CREDIT_HELD 2 1, 20)]).onSite 2 fun x => { x with streams := [{ toSite := false, id := 3, tag := 9, cls := 1, len := 4, got := 0, sent := 0, state := 0, bcast := false, space := 1, addr := 0x1000, engine := 2, ring := 3, desc := 5, closeRing := 256, closeDesc := 0 }] }), by decide +kernel⟩

theorem wit_openAckTimeout :
    ∃ (site tag : Nat) (x : Stream) (d : Desc) (n : Nat) (s : State), ((Instr.openAckTimeout site tag).wf = true) ∧ (((s.hub.siteS site).streams.find? fun t => t.tag == tag && t.state == 0) = some x) ∧ (x.space ≠ 2) ∧ (n = x.ring) ∧ (s.hub.desc n x.desc = some d) ∧ (d.debit = 0) ∧ (n < 256) ∧ (s.hub.ringState n = 1) ∧ ((s.hub.ring n).held = []) ∧ (s.hub.cplReady n = true) ∧ ((s.hub.ring n).bound = none) :=
    ⟨2, 9, { toSite := false, id := 3, tag := 9, cls := 1, len := 4, got := 0, sent := 0, state := 0, bcast := false, space := 1, addr := 0x1000, engine := 2, ring := 3, desc := 5, closeRing := 256, closeDesc := 0 }, { descOf 5 (descBytes [(0, 8), (28, 2), (29, 1), (32, 3)]) with started := true, debit := 0 }, 3, stOf ((ringHub [{ descOf 5 (descBytes [(0, 8), (28, 2), (29, 1), (32, 3)]) with started := true, debit := 0 }] [(R.YDL_STAT_STATE 2, 2), (R.YDL_CREDIT_HELD 2 0, 20), (R.YDL_CREDIT_HELD 2 1, 20)]).onSite 2 fun x => { x with streams := [{ toSite := false, id := 3, tag := 9, cls := 1, len := 4, got := 0, sent := 0, state := 0, bcast := false, space := 1, addr := 0x1000, engine := 2, ring := 3, desc := 5, closeRing := 256, closeDesc := 0 }] }), by decide +kernel⟩

theorem wit_dataRun :
    ∃ (site id offset k : Nat) (data : List Byte) (x : Stream) (s : State), ((Instr.dataRun site id offset data).wf = true) ∧ ((s.hub.siteS site).stream false id = some x) ∧ (s.hub.siteUp site = true) ∧ (s.hub.get (R.YDL_CREDIT_OWED site (2 + x.cls)) + (1 + k) ≤ hubGrant (2 + x.cls)) ∧ (data.length = 64 * k) ∧ (offset = x.got) ∧ (x.state = 1) ∧ (x.space = 1) ∧ (x.got + k < x.len) ∧ (s.hub.streamStop x = false) ∧ (s.mem.bufErr = []) ∧ (s.hub.on R.RAS_FLIP_CTRL_ARM = false) :=
    ⟨2, 3, 0, 2, List.replicate 128 7, { toSite := false, id := 3, tag := 9, cls := 1, len := 4, got := 0, sent := 0, state := 1, bcast := false, space := 1, addr := 0x1000, engine := 2, ring := 3, desc := 5, closeRing := 256, closeDesc := 0 }, stOf ((ringHub [{ descOf 5 (descBytes [(0, 8), (28, 2), (29, 1), (32, 3)]) with started := true, debit := 0 }] [(R.YDL_STAT_STATE 2, 2), (R.YDL_CREDIT_HELD 2 0, 20), (R.YDL_CREDIT_HELD 2 1, 20)]).onSite 2 fun x => { x with streams := [{ toSite := false, id := 3, tag := 9, cls := 1, len := 4, got := 0, sent := 0, state := 1, bcast := false, space := 1, addr := 0x1000, engine := 2, ring := 3, desc := 5, closeRing := 256, closeDesc := 0 }] }), by decide +kernel⟩

theorem wit_closeAck :
    ∃ (site : Nat) (toSite : Bool) (id : Nat) (x : Stream) (s : State), ((Instr.closeAck site toSite id).wf = true) ∧ (s.hub.siteUp site = true) ∧ (s.hub.get (R.YDL_CREDIT_OWED site 1) + 1 ≤ hubGrant 1) ∧ ((s.hub.siteS site).stream toSite id = some x) ∧ (2 ≤ x.state) ∧ (x.space ≠ 2) :=
    ⟨2, false, 3, { toSite := false, id := 3, tag := 9, cls := 1, len := 4, got := 0, sent := 0, state := 3, bcast := false, space := 1, addr := 0x1000, engine := 2, ring := 3, desc := 5, closeRing := 256, closeDesc := 0 }, stOf ((ringHub [{ descOf 5 (descBytes [(0, 8), (28, 2), (29, 1), (32, 3)]) with started := true, debit := 0 }] [(R.YDL_STAT_STATE 2, 2), (R.YDL_CREDIT_HELD 2 0, 20), (R.YDL_CREDIT_HELD 2 1, 20)]).onSite 2 fun x => { x with streams := [{ toSite := false, id := 3, tag := 9, cls := 1, len := 4, got := 0, sent := 0, state := 3, bcast := false, space := 1, addr := 0x1000, engine := 2, ring := 3, desc := 5, closeRing := 256, closeDesc := 0 }] }), by decide +kernel⟩

theorem wit_siteStreamClose :
    ∃ (site tag : Nat) (toSite : Bool) (mode id : Nat) (x : Stream) (s : State), ((Instr.siteStreamClose site tag toSite mode id).wf = true) ∧ (s.hub.siteUp site = true) ∧ (s.hub.get (R.YDL_CREDIT_OWED site 0) + 1 ≤ hubGrant 0) ∧ ((s.hub.siteS site).stream toSite id = some x) ∧ (x.state < 2) ∧ (x.space ≠ 2) ∧ ((s.hub.siteS site).ctlq = []) ∧ (1 ≤ s.hub.get (R.YDL_CREDIT_HELD site 1)) :=
    ⟨2, 9, false, 0, 3, { toSite := false, id := 3, tag := 9, cls := 1, len := 4, got := 0, sent := 0, state := 1, bcast := false, space := 1, addr := 0x1000, engine := 2, ring := 3, desc := 5, closeRing := 256, closeDesc := 0 }, stOf ((ringHub [{ descOf 5 (descBytes [(0, 8), (28, 2), (29, 1), (32, 3)]) with started := true, debit := 0 }] [(R.YDL_STAT_STATE 2, 2), (R.YDL_CREDIT_HELD 2 0, 20), (R.YDL_CREDIT_HELD 2 1, 20)]).onSite 2 fun x => { x with streams := [{ toSite := false, id := 3, tag := 9, cls := 1, len := 4, got := 0, sent := 0, state := 1, bcast := false, space := 1, addr := 0x1000, engine := 2, ring := 3, desc := 5, closeRing := 256, closeDesc := 0 }] }), by decide +kernel⟩

-- PortsAndLanesTrain
theorem wit_portEnable :
    ∃ (req : Path) (p : Nat) (v : Word) (s : State), ((Instr.portEnable req p v).wf = true) ∧ (req.holdsBlocks = true) ∧ (s.hub.on (R.SER_PORT_CFG_EN p) = false) ∧ ((s.hub.setReg (R.SER_PORT_CFG_EN p).off ((v ||| 1) &&& portCfgMask)).portReason p = 0) ∧ ((s.hub.setReg (R.SER_PORT_CFG_EN p).off ((v ||| 1) &&& portCfgMask)).inUse p ≠ []) :=
    ⟨Path.pf, 2, 0x00010421, stOf { hubOf [(R.PWR_DOM_STATE 61, 2)] with clock := 0 }, by decide⟩

theorem wit_portEnable_refused :
    ∃ (req : Path) (p : Nat) (v : Word) (s : State), ((Instr.portEnable req p v).wf = true) ∧ (req.holdsBlocks = true) ∧ (s.hub.on (R.SER_PORT_CFG_EN p) = false) ∧ ((s.hub.setReg (R.SER_PORT_CFG_EN p).off ((v ||| 1) &&& portCfgMask)).portReason p ≠ 0) :=
    ⟨Path.pf, 2, 0x00010421, stOf { hubOf [(R.PWR_DOM_STATE 61, 2), (R.SER_PORT_CFG_EN 3, 1), (R.SER_PORT_CFG_FIRST 3, 4), (R.SER_PORT_CFG_WIDTH 3, 1), (R.SER_PORT_CFG_MODE 3, 0), (R.SER_PORT_CFG_RATE 3, 2), (R.SER_PORT_STAT_STATE 3, 2), (R.PWR_DOM_STATE 61, 2)] with clock := 0 }, by decide⟩

theorem wit_portDisable :
    ∃ (req : Path) (p : Nat) (s : State), ((Instr.portDisable req p).wf = true) ∧ (req.holdsBlocks = true) :=
    ⟨Path.pf, 2, stOf { hubOf [(R.SER_PORT_CFG_EN 2, 1), (R.SER_PORT_CFG_FIRST 2, 4), (R.SER_PORT_CFG_WIDTH 2, 1), (R.SER_PORT_CFG_MODE 2, 0), (R.SER_PORT_CFG_RATE 2, 2), (R.SER_PORT_STAT_STATE 2, 2), (R.PWR_DOM_STATE 61, 2)] with clock := 0 }, by decide⟩

theorem wit_laneSignalDetect :
    ∃ (l p : Nat) (s : State), ((Instr.laneSignalDetect l).wf = true) ∧ (s.hub.lanePort l = some p) ∧ (s.hub.laneState l = 2) ∧ (s.hub.pins.refclk = true) ∧ (s.hub.portAn p = false) :=
    ⟨4, 2, stOf { hubOf [(R.SER_PORT_CFG_EN 2, 1), (R.SER_PORT_CFG_FIRST 2, 4), (R.SER_PORT_CFG_WIDTH 2, 1), (R.SER_PORT_CFG_MODE 2, 2), (R.SER_PORT_CFG_RATE 2, 2), (R.SER_PORT_STAT_STATE 2, 1), (R.PWR_DOM_STATE 61, 2), (R.SER_LANE_STAT_STATE 4, 2)] with clock := 0, pins := { Pins.reset with refclk := true } }, by decide⟩

theorem wit_laneSignalDetect_an :
    ∃ (l p : Nat) (s : State), ((Instr.laneSignalDetect l).wf = true) ∧ (s.hub.lanePort l = some p) ∧ (s.hub.laneState l = 2) ∧ (s.hub.pins.refclk = true) ∧ (s.hub.portAn p = true) ∧ ((s.hub.inUse p).headD 32 = l) :=
    ⟨4, 2, stOf { hubOf [(R.SER_PORT_CFG_EN 2, 1), (R.SER_PORT_CFG_FIRST 2, 4), (R.SER_PORT_CFG_WIDTH 2, 1), (R.SER_PORT_CFG_MODE 2, 0), (R.SER_PORT_CFG_RATE 2, 2), (R.SER_PORT_STAT_STATE 2, 1), (R.PWR_DOM_STATE 61, 2), (R.SER_PORT_CFG_AN 2, 1), (R.SER_LANE_STAT_STATE 4, 2)] with clock := 0, pins := { Pins.reset with refclk := true } }, by decide⟩

theorem wit_anComplete :
    ∃ (p l : Nat) (s : State), ((Instr.anComplete p true).wf = true) ∧ (s.hub.portOn p = true) ∧ ((s.hub.inUse p).headD 32 = l) ∧ (l < 32) ∧ (s.hub.laneState l = 3) :=
    ⟨2, 4, stOf { hubOf [(R.SER_PORT_CFG_EN 2, 1), (R.SER_PORT_CFG_FIRST 2, 4), (R.SER_PORT_CFG_WIDTH 2, 1), (R.SER_PORT_CFG_MODE 2, 0), (R.SER_PORT_CFG_RATE 2, 2), (R.SER_PORT_STAT_STATE 2, 1), (R.PWR_DOM_STATE 61, 2), (R.SER_PORT_CFG_AN 2, 1), (R.SER_LANE_STAT_STATE 4, 3)] with clock := 0 }, by decide⟩

theorem wit_anComplete_fails :
    ∃ (p l : Nat) (s : State), ((Instr.anComplete p false).wf = true) ∧ (s.hub.portOn p = true) ∧ ((s.hub.inUse p).headD 32 = l) ∧ (l < 32) ∧ (s.hub.laneState l = 3) ∧ (s.hub.get (R.SER_LANE_STAT_RETRY l) + 1 < 2 ^ (R.SER_LANE_STAT_RETRY l).width) :=
    ⟨2, 4, stOf { hubOf [(R.SER_PORT_CFG_EN 2, 1), (R.SER_PORT_CFG_FIRST 2, 4), (R.SER_PORT_CFG_WIDTH 2, 1), (R.SER_PORT_CFG_MODE 2, 0), (R.SER_PORT_CFG_RATE 2, 2), (R.SER_PORT_STAT_STATE 2, 1), (R.PWR_DOM_STATE 61, 2), (R.SER_PORT_CFG_AN 2, 1), (R.SER_LANE_STAT_STATE 4, 3)] with clock := 0 }, by decide⟩

theorem wit_anRetry :
    ∃ (p l : Nat) (s : State), ((Instr.anRetry p).wf = true) ∧ (s.hub.portState p = 1) ∧ (s.hub.portAn p = true) ∧ ((s.hub.inUse p).headD 32 = l) ∧ (l < 32) ∧ (s.hub.laneState l = 2) ∧ (s.hub.on (R.SER_LANE_STAT_SIGNAL l) = true) :=
    ⟨2, 4, stOf { hubOf [(R.SER_PORT_CFG_EN 2, 1), (R.SER_PORT_CFG_FIRST 2, 4), (R.SER_PORT_CFG_WIDTH 2, 1), (R.SER_PORT_CFG_MODE 2, 0), (R.SER_PORT_CFG_RATE 2, 2), (R.SER_PORT_STAT_STATE 2, 1), (R.PWR_DOM_STATE 61, 2), (R.SER_PORT_CFG_AN 2, 1), (R.SER_LANE_STAT_STATE 4, 2), (R.SER_LANE_STAT_SIGNAL 4, 1)] with clock := 0 }, by decide⟩

theorem wit_linkTrainingComplete :
    ∃ (l : Nat) (s : State), ((Instr.linkTrainingComplete l).wf = true) ∧ (s.hub.laneState l = 4) :=
    ⟨31, stOf { hubOf [(R.SER_LANE_STAT_STATE 31, 4)] with clock := 0 }, by decide⟩

theorem wit_alignLock :
    ∃ (l p : Nat) (s : State), ((Instr.alignLock l).wf = true) ∧ (s.hub.laneState l = 6) ∧ (s.hub.lanePort l = some p) ∧ (s.hub.portState p = 1) ∧ ((s.hub.setLane l 7).portReady p = true) :=
    ⟨4, 2, stOf { hubOf [(R.SER_PORT_CFG_EN 2, 1), (R.SER_PORT_CFG_FIRST 2, 4), (R.SER_PORT_CFG_WIDTH 2, 1), (R.SER_PORT_CFG_MODE 2, 0), (R.SER_PORT_CFG_RATE 2, 2), (R.SER_PORT_STAT_STATE 2, 1), (R.PWR_DOM_STATE 61, 2), (R.SER_LANE_STAT_STATE 4, 6), (⟨unitOff 4 0 4, 0, 3⟩, 0)] with clock := 0 }, by decide⟩

theorem wit_laneStepTimeout :
    ∃ (l p : Nat) (s : State), ((Instr.laneStepTimeout l).wf = true) ∧ (3 ≤ s.hub.laneState l) ∧ (s.hub.laneState l ≤ 6) ∧ (s.hub.lanePort l = some p) ∧ (s.hub.portState p = 1) ∧ (s.hub.get (R.SER_LANE_STAT_RETRY l) + 1 < 2 ^ (R.SER_LANE_STAT_RETRY l).width) :=
    ⟨4, 2, stOf { hubOf [(R.SER_PORT_CFG_EN 2, 1), (R.SER_PORT_CFG_FIRST 2, 4), (R.SER_PORT_CFG_WIDTH 2, 1), (R.SER_PORT_CFG_MODE 2, 0), (R.SER_PORT_CFG_RATE 2, 2), (R.SER_PORT_STAT_STATE 2, 1), (R.PWR_DOM_STATE 61, 2), (R.SER_LANE_STAT_STATE 4, 6)] with clock := 0 }, by decide⟩

theorem wit_laneSignalLoss :
    ∃ (l p : Nat) (s : State), ((Instr.laneSignalLoss l).wf = true) ∧ (s.hub.laneState l = 7) ∧ (s.hub.lanePort l = some p) ∧ (s.hub.portState p = 2) ∧ (s.hub.portMode p ≠ 1) ∧ (s.hub.get (R.SER_LANE_STAT_RETRY l) + 1 < 2 ^ (R.SER_LANE_STAT_RETRY l).width) :=
    ⟨4, 2, stOf { hubOf [(R.SER_PORT_CFG_EN 2, 1), (R.SER_PORT_CFG_FIRST 2, 4), (R.SER_PORT_CFG_WIDTH 2, 1), (R.SER_PORT_CFG_MODE 2, 0), (R.SER_PORT_CFG_RATE 2, 2), (R.SER_PORT_STAT_STATE 2, 2), (R.PWR_DOM_STATE 61, 2), (R.SER_LANE_STAT_STATE 4, 7), (R.SER_LANE_STAT_SIGNAL 4, 1)] with clock := 0 }, by decide⟩

theorem wit_serialRefclkTimeout :
    ∃ (p : Nat) (s : State), (s.hub.pins.refclk = false) ∧ (p < 32) ∧ (s.hub.portOn p = true) :=
    ⟨2, stOf { hubOf [(R.SER_PORT_CFG_EN 2, 1), (R.SER_PORT_CFG_FIRST 2, 4), (R.SER_PORT_CFG_WIDTH 2, 1), (R.SER_PORT_CFG_MODE 2, 0), (R.SER_PORT_CFG_RATE 2, 2), (R.SER_PORT_STAT_STATE 2, 2), (R.PWR_DOM_STATE 61, 2)] with clock := 0, pins := { Pins.reset with refclk := false } }, by decide⟩

theorem wit_rxLanesLoss :
    ∃ (l fec p m : Nat) (s : State), ((Instr.rxLanesLoss l fec).wf = true) ∧ (s.hub.lanePort l = some p) ∧ (s.hub.portState p = 2) ∧ (s.hub.portMode p = 1) ∧ (m = withBit (s.hub.port p).rxLanes (l - s.hub.get (R.SER_PORT_CFG_FIRST p)) false) ∧ (m ≠ 0) ∧ (s.hub.get (R.SER_PORT_RXCNT1_FEC_UNCORR p) + fec < 2 ^ (R.SER_PORT_RXCNT1_FEC_UNCORR p).width) :=
    ⟨5, 3, 2, 1, stOf (({ hubOf [(R.SER_PORT_CFG_EN 2, 1), (R.SER_PORT_CFG_FIRST 2, 4), (R.SER_PORT_CFG_WIDTH 2, 2), (R.SER_PORT_CFG_MODE 2, 1), (R.SER_PORT_CFG_RATE 2, 2), (R.SER_PORT_STAT_STATE 2, 2), (R.PWR_DOM_STATE 61, 2)] with clock := 0 } : Hub).onPort 2 fun x => { x with rxLanes := 3 }), by decide⟩

-- LanesTuneAndMeasure
theorem wit_slip :
    ∃ (req : Path) (l : Nat) (s : State), ((Instr.slip req l).wf = true) ∧ (req.holdsBlocks = true) ∧ (s.hub.domOn (60 + l / 4) = true) ∧ (s.hub.get (R.SER_QUAD_RATE (l / 4)) ≠ 0) :=
    ⟨Path.pf, 4, stOf { hubOf [(R.PWR_DOM_STATE 61, 2), (R.SER_QUAD_RATE 1, 1), (R.SER_LANE_RAW_SLIPS 4, 63)] with clock := 0 }, by decide⟩

theorem wit_adaptRestart :
    ∃ (req : Path) (l p : Nat) (s : State), ((Instr.adaptRestart req l).wf = true) ∧ (req.holdsBlocks = true) ∧ (s.hub.domOn (60 + l / 4) = true) ∧ (s.hub.laneState l = 7) ∧ (s.hub.lanePort l = some p) ∧ (s.hub.portState p = 2) ∧ (s.hub.portMode p ≠ 1) :=
    ⟨Path.pf, 4, 2, stOf { hubOf [(R.SER_PORT_CFG_EN 2, 1), (R.SER_PORT_CFG_FIRST 2, 4), (R.SER_PORT_CFG_WIDTH 2, 1), (R.SER_PORT_CFG_MODE 2, 0), (R.SER_PORT_CFG_RATE 2, 2), (R.SER_PORT_STAT_STATE 2, 2), (R.PWR_DOM_STATE 61, 2), (R.SER_LANE_STAT_STATE 4, 7)] with clock := 0 }, by decide⟩

theorem wit_adaptSettled :
    ∃ (l snr8 : Nat) (s : State), ((Instr.adaptSettled l snr8).wf = true) ∧ (s.hub.laneState l = 5) :=
    ⟨31, 300, stOf { hubOf [(R.SER_LANE_STAT_STATE 31, 5)] with clock := 0 }, by decide⟩

theorem wit_adaptStep :
    ∃ (l snr8 k : Nat) (s : State), ((Instr.adaptStep l snr8).wf = true) ∧ (s.hub.laneState l = 7) ∧ (s.hub.get (R.SER_LANE_ADAPT_MODE l) = 0) ∧ ((s.hub.lane l).scan = false) ∧ (s.hub.get (R.SER_LANE_STAT_FOM l) ≤ min 255 snr8) ∧ (k < 12) :=
    ⟨4, 200, 11, stOf { hubOf [(R.SER_LANE_STAT_STATE 4, 7), (R.SER_LANE_STAT_FOM 4, 200)] with clock := 0 }, by decide⟩

theorem wit_fomUpdate :
    ∃ (l snr8 : Nat) (s : State), ((Instr.fomUpdate l snr8).wf = true) :=
    ⟨4, 200, stOf { hubOf [(R.SER_LANE_ADAPT_LOW 4, 1), (R.SER_LANE_ADAPT_FOM_MIN 4, 192)] with clock := 0 }, by decide⟩

theorem wit_fomLow :
    ∃ (l : Nat) (s : State), ((Instr.fomLow l).wf = true) ∧ (s.hub.get (R.SER_LANE_STAT_FOM l) < s.hub.get (R.SER_LANE_ADAPT_FOM_MIN l)) ∧ (s.hub.on (R.SER_LANE_ADAPT_LOW l) = false) ∧ (s.hub.yew.tokens ≠ 0) :=
    ⟨4, stOf { hubOf [(R.SER_LANE_ADAPT_FOM_MIN 4, 192)] with clock := 0 }, by decide⟩

theorem wit_eyeScanRun :
    ∃ (req : Path) (l : Nat) (v : Word) (s : State), ((Instr.eyeScanRun req l v).wf = true) ∧ (req.holdsBlocks = true) ∧ ((s.hub.lane l).scan = false) ∧ (s.hub.quadOn (l / 4) = true) ∧ ((s.hub.laneState l = 7 ∨ s.hub.laneState l = 9)) :=
    ⟨Path.pf, 4, 0x08050301, stOf { hubOf [(R.PWR_DOM_STATE 61, 2), (R.SER_LANE_STAT_STATE 4, 7), (R.SER_LANE_SCAN_DONE 4, 1)] with clock := 0 }, by decide⟩

theorem wit_eyeScanDone :
    ∃ (l count : Nat) (s : State), ((Instr.eyeScanDone l count).wf = true) ∧ ((s.hub.lane l).scan = true) :=
    ⟨4, 5000, stOf (({ hubOf [(R.SER_LANE_SCAN_DWELL 4, 10)] with clock := 0 } : Hub).onLane 4 fun x => { x with scan := true }), by decide⟩

theorem wit_prbsConfigWrite :
    ∃ (req : Path) (l : Nat) (v : Word) (s : State), ((Instr.prbsConfigWrite req l v).wf = true) ∧ (req.holdsBlocks = true) ∧ (1 ≤ s.hub.level) ∧ ((s.hub.laneState l = 0 ∨ s.hub.laneState l = 1 ∨ s.hub.laneState l = 8 ∨ s.hub.laneState l = 9)) ∧ (s.hub.quadOn (l / 4) = true) ∧ (bitsOf v 0 1 = 1) :=
    ⟨Path.pf, 4, 0x33, stOf { hubOf [(R.PWR_DOM_STATE 61, 2), (R.SER_LANE_STAT_STATE 4, 8), (R.TEST_HEDGE_STAT_LEVEL, 1)] with clock := 0 }, by decide⟩

-- EthernetFramesMove
theorem wit_frameReceive :
    ∃ (p back fixed lost : Nat) (data : List Byte) (s : State), ((Instr.frameReceive p data back fixed lost).wf = true) ∧ (s.hub.portState p = 2) ∧ (s.hub.portMode p = 0) ∧ (s.hub.get (R.SER_PORT_RXCNT1_FEC_UNCORR p) + lost < 2 ^ (R.SER_PORT_RXCNT1_FEC_UNCORR p).width) ∧ (64 ≤ data.length) ∧ (data.length ≤ 9216) ∧ (data.drop (data.length - 4) = fcs (data.take (data.length - 4))) ∧ (s.hub.rxRoom { data := data.take (data.length - 4), time := s.hub.now - back, src := 0xFF, dst := 0, hops := 0, msg := 0, offset := 0, last := true, quads := s.hub.rxQuads p } = true) ∧ ((s.hub.port p).recvs = []) :=
    ⟨2, 10, 1, 2, List.replicate 60 7 ++ fcs (List.replicate 60 7), stOf { hubOf [(R.SER_PORT_CFG_EN 2, 1), (R.SER_PORT_CFG_FIRST 2, 4), (R.SER_PORT_CFG_WIDTH 2, 1), (R.SER_PORT_CFG_MODE 2, 0), (R.SER_PORT_CFG_RATE 2, 2), (R.SER_PORT_STAT_STATE 2, 2), (R.PWR_DOM_STATE 61, 2)] with clock := 0 }, by decide +kernel⟩

theorem wit_frameReceive_bad :
    ∃ (p back fixed lost : Nat) (data : List Byte) (s : State), ((Instr.frameReceive p data back fixed lost).wf = true) ∧ (s.hub.portState p = 2) ∧ (s.hub.portMode p = 0) ∧ (s.hub.get (R.SER_PORT_RXCNT1_FEC_UNCORR p) + lost < 2 ^ (R.SER_PORT_RXCNT1_FEC_UNCORR p).width) ∧ (data.length ≤ 9216) ∧ ((data.length < 64 ∨ data.drop (data.length - 4) ≠ fcs (data.take (data.length - 4)))) ∧ (s.hub.get (R.SER_PORT_RXCNT_RX_BAD p) + 1 < 2 ^ (R.SER_PORT_RXCNT_RX_BAD p).width) ∧ ((s.hub.port p).rx = []) :=
    ⟨2, 10, 1, 2, List.replicate 64 7, stOf { hubOf [(R.SER_PORT_CFG_EN 2, 1), (R.SER_PORT_CFG_FIRST 2, 4), (R.SER_PORT_CFG_WIDTH 2, 1), (R.SER_PORT_CFG_MODE 2, 0), (R.SER_PORT_CFG_RATE 2, 2), (R.SER_PORT_STAT_STATE 2, 2), (R.PWR_DOM_STATE 61, 2)] with clock := 0 }, by decide +kernel⟩

theorem wit_laneRecv :
    ∃ (n id p b : Nat) (f : RxHeld) (r : Recv) (d : Desc) (s : State), ((Instr.laneRecv n id).wf = true) ∧ (s.hub.running 0x21 n id = some d) ∧ (p = leAt d.bytes 28 1) ∧ (s.hub.portMode p = 0) ∧ (p < 32) ∧ ((s.hub.port p).rx = [f]) ∧ ((s.hub.port p).recvs = [r]) ∧ (r.ring = n) ∧ (r.desc = id) ∧ (dLaneFlag d.bytes = false) ∧ (f.data.length ≤ leAt d.bytes 40 4) ∧ (d.moved = 0) ∧ (b = leAt d.bytes 32 8) ∧ (addrSpace b = 0) ∧ (s.mem.dramErr = []) ∧ (s.hub.on R.RAS_FLIP_CTRL_ARM = false) :=
    ⟨3, 5, 2, 0x1000, { data := [5, 6, 7], time := 1, src := 0xFF, dst := 0, hops := 0, msg := 0, offset := 0, last := true, quads := [1] }, { ring := 3, desc := 5, bound := none, time := 0, trunc := false }, { descOf 5 (descBytes [(0, 0x21), (28, 2), (33, 0x10), (40, 64)]) with started := true }, { stOf ((ringHub [{ descOf 5 (descBytes [(0, 0x21), (28, 2), (33, 0x10), (40, 64)]) with started := true }] [(R.SER_PORT_CFG_EN 2, 1), (R.SER_PORT_CFG_FIRST 2, 4), (R.SER_PORT_CFG_WIDTH 2, 1), (R.SER_PORT_CFG_MODE 2, 0), (R.SER_PORT_CFG_RATE 2, 2), (R.SER_PORT_STAT_STATE 2, 2), (R.PWR_DOM_STATE 61, 2), (R.GLB_POP_STACK_CAP, 1)]).onPort 2 fun x => { x with rx := [{ data := [5, 6, 7], time := 1, src := 0xFF, dst := 0, hops := 0, msg := 0, offset := 0, last := true, quads := [1] }], recvs := [{ ring := 3, desc := 5, bound := none, time := 0, trunc := false }] }) with mem := Mem.reset }, by decide +kernel⟩

theorem wit_laneSend :
    ∃ (n id limit p a m : Nat) (host f : List Byte) (d : Desc) (s : State), ((Instr.laneSend n id limit host).wf = true) ∧ (s.hub.running 0x20 n id = some d) ∧ (p = leAt d.bytes 28 1) ∧ (s.hub.sending p = some (n, id)) ∧ (s.hub.portMode p = 0) ∧ ((s.hub.port p).paused = false) ∧ (d.moved = 0) ∧ (a = leAt d.bytes 32 8) ∧ (m = leAt d.bytes 40 4) ∧ (addrSpace a = 0) ∧ (s.mem.dramErr = []) ∧ (f = (if m < 60 then padTo 60 (s.mem.bytes 0 (addrOff a) m) else s.mem.bytes 0 (addrOff a) m)) :=
    ⟨3, 5, 9, 2, 0x1000, 20, [], padTo 60 (0 :: 7 :: List.replicate 18 0), { descOf 5 (descBytes [(0, 0x20), (28, 2), (33, 0x10), (40, 20)]) with started := true }, { stOf ((ringHub [{ descOf 5 (descBytes [(0, 0x20), (28, 2), (33, 0x10), (40, 20)]) with started := true }] [(R.SER_PORT_CFG_EN 2, 1), (R.SER_PORT_CFG_FIRST 2, 4), (R.SER_PORT_CFG_WIDTH 2, 1), (R.SER_PORT_CFG_MODE 2, 0), (R.SER_PORT_CFG_RATE 2, 2), (R.SER_PORT_STAT_STATE 2, 2), (R.PWR_DOM_STATE 61, 2), (R.GLB_POP_STACK_CAP, 1)]).onPort 2 fun x => { x with sends := [(3, 5)] }) with mem := { Mem.reset with dram := [(0x1001, 7)] } }, by decide +kernel⟩

theorem wit_pause :
    ∃ (p quanta : Nat) (s : State), ((Instr.pause p quanta).wf = true) ∧ (s.hub.portState p = 2) ∧ (s.hub.portMode p = 0) ∧ (s.hub.on (R.SER_PORT_CFG_PAUSE p) = true) :=
    ⟨2, 5, stOf { hubOf [(R.SER_PORT_CFG_EN 2, 1), (R.SER_PORT_CFG_FIRST 2, 4), (R.SER_PORT_CFG_WIDTH 2, 1), (R.SER_PORT_CFG_MODE 2, 0), (R.SER_PORT_CFG_RATE 2, 2), (R.SER_PORT_STAT_STATE 2, 2), (R.PWR_DOM_STATE 61, 2), (R.SER_PORT_CFG_PAUSE 2, 1)] with clock := 0 }, by decide⟩

theorem wit_pauseQuantaExpiry :
    ∃ (p : Nat) (s : State), ((Instr.pauseQuantaExpiry p).wf = true) :=
    ⟨31, State.reset, by decide⟩

theorem wit_pauseRepeat :
    ∃ (p : Nat) (s : State), ((Instr.pauseRepeat p).wf = true) ∧ ((s.hub.port p).pausing = true) ∧ (s.hub.portState p = 2) ∧ (((s.hub.quadsOf p).any fun q => decide (s.hub.get (R.QOS_TT0_T2 (5 + q)) ≤ s.hub.quadFill q)) = true) :=
    ⟨2, stOf (({ hubOf [(R.SER_PORT_CFG_EN 2, 1), (R.SER_PORT_CFG_FIRST 2, 4), (R.SER_PORT_CFG_WIDTH 2, 1), (R.SER_PORT_CFG_MODE 2, 0), (R.SER_PORT_CFG_RATE 2, 2), (R.SER_PORT_STAT_STATE 2, 2), (R.PWR_DOM_STATE 61, 2), (R.SER_PORT_CFG_PAUSE 2, 1), (R.QOS_TT0_T2 6, 0)] with clock := 0 } : Hub).onPort 2 fun x => { x with pausing := true }), by decide⟩

-- CrewFramesMove
theorem wit_crewData :
    ∃ (p lane src dst hops seq msg offset : Nat) (last : Bool) (data : List Byte) (good : Bool) (back fixed lost : Nat) (s : State), ((Instr.crewData p lane src dst hops seq msg offset last data good back ⟨fixed, lost⟩).wf = true) ∧ (s.hub.crewUp p = true) ∧ (s.hub.joined p = true) ∧ (lane < s.hub.get (R.SER_PORT_CFG_WIDTH p)) ∧ (good = true) ∧ (seq = (s.hub.port p).rxExp) ∧ (dst = s.hub.get R.CREW_CTRL_ID) ∧ (offset = 0) ∧ ((s.hub.port p).rx = []) ∧ ((s.hub.port p).recvs = []) :=
    ⟨2, 1, 5, 9, 3, 65535, 77, 0, true, [1, 2, 3], true, 4, 1, 2, stOf (({ hubOf [(R.SER_PORT_CFG_EN 2, 1), (R.SER_PORT_CFG_FIRST 2, 4), (R.SER_PORT_CFG_WIDTH 2, 2), (R.SER_PORT_CFG_MODE 2, 1), (R.SER_PORT_CFG_RATE 2, 2), (R.SER_PORT_STAT_STATE 2, 2), (R.PWR_DOM_STATE 61, 2), (R.CREW_PORT_STATE 2, 2), (R.CREW_CTRL_ID, 9)] with clock := 0 } : Hub).onPort 2 fun x => { x with rxExp := 65535, gap := true }), by decide⟩

theorem wit_crewData_gap :
    ∃ (p lane src dst hops seq msg offset : Nat) (last : Bool) (data : List Byte) (good : Bool) (back fixed lost : Nat) (s : State), ((Instr.crewData p lane src dst hops seq msg offset last data good back ⟨fixed, lost⟩).wf = true) ∧ (s.hub.crewUp p = true) ∧ (s.hub.joined p = true) ∧ (lane < s.hub.get (R.SER_PORT_CFG_WIDTH p)) ∧ (good = true) ∧ (newer (seq * 65536) ((s.hub.port p).rxExp * 65536) = true) ∧ ((s.hub.port p).gap = false) :=
    ⟨2, 1, 5, 9, 3, 65535, 77, 0, true, [1, 2, 3], true, 4, 1, 2, stOf (({ hubOf [(R.SER_PORT_CFG_EN 2, 1), (R.SER_PORT_CFG_FIRST 2, 4), (R.SER_PORT_CFG_WIDTH 2, 2), (R.SER_PORT_CFG_MODE 2, 1), (R.SER_PORT_CFG_RATE 2, 2), (R.SER_PORT_STAT_STATE 2, 2), (R.PWR_DOM_STATE 61, 2), (R.CREW_PORT_STATE 2, 2), (R.CREW_CTRL_ID, 9)] with clock := 0 } : Hub).onPort 2 fun x => { x with rxExp := 65533 }), by decide⟩

theorem wit_crewData_held :
    ∃ (p lane src dst hops seq msg offset : Nat) (last : Bool) (data : List Byte) (good : Bool) (back fixed lost : Nat) (s : State), ((Instr.crewData p lane src dst hops seq msg offset last data good back ⟨fixed, lost⟩).wf = true) ∧ (s.hub.crewUp p = true) ∧ (lane < s.hub.get (R.SER_PORT_CFG_WIDTH p)) ∧ (s.hub.joined p = false) ∧ (good = true) ∧ (s.hub.get (R.SER_PORT_CREWCNT_FWD_DROP p) + 1 < 2 ^ (R.SER_PORT_CREWCNT_FWD_DROP p).width) :=
    ⟨2, 1, 5, 9, 3, 65535, 77, 0, true, [1, 2, 3], true, 4, 1, 2, stOf (({ hubOf [(R.SER_PORT_CFG_EN 2, 1), (R.SER_PORT_CFG_FIRST 2, 4), (R.SER_PORT_CFG_WIDTH 2, 2), (R.SER_PORT_CFG_MODE 2, 1), (R.SER_PORT_CFG_RATE 2, 2), (R.SER_PORT_STAT_STATE 2, 2), (R.PWR_DOM_STATE 61, 2), (R.CREW_PORT_STATE 2, 3), (R.CREW_CTRL_ID, 9)] with clock := 0 } : Hub).onPort 2 fun x => { x with rxExp := 65535 }), by decide⟩

theorem wit_crewAck :
    ∃ (p seq credit lanes : Nat) (s : State), ((Instr.crewAck p seq credit lanes).wf = true) ∧ (s.hub.crewUp p = true) ∧ (s.hub.joined p = true) ∧ (∀ q, q < 32 → (s.hub.port q).rx = []) :=
    ⟨2, 65535, 8, 3, stOf (({ hubOf [(R.SER_PORT_CFG_EN 2, 1), (R.SER_PORT_CFG_FIRST 2, 4), (R.SER_PORT_CFG_WIDTH 2, 2), (R.SER_PORT_CFG_MODE 2, 1), (R.SER_PORT_CFG_RATE 2, 2), (R.SER_PORT_STAT_STATE 2, 2), (R.PWR_DOM_STATE 61, 2), (R.CREW_PORT_STATE 2, 2), (R.CREW_CTRL_ID, 9)] with clock := 0 } : Hub).onPort 2 fun x => { x with store := [{ seq := 65535, frame := { data := [1], time := 0, src := 9, dst := 5, hops := 3, msg := 0, offset := 0, last := true, quads := [] }, owner := none }, { seq := 0, frame := { data := [1], time := 0, src := 9, dst := 5, hops := 3, msg := 0, offset := 0, last := true, quads := [] }, owner := none }] }), by decide⟩

theorem wit_crewAckTimer :
    ∃ (p : Nat) (s : State), ((Instr.crewAckTimer p).wf = true) ∧ (s.hub.crewUp p = true) ∧ (s.hub.joined p = true) ∧ ((s.hub.port p).changed = true) :=
    ⟨2, stOf (({ hubOf [(R.SER_PORT_CFG_EN 2, 1), (R.SER_PORT_CFG_FIRST 2, 4), (R.SER_PORT_CFG_WIDTH 2, 2), (R.SER_PORT_CFG_MODE 2, 1), (R.SER_PORT_CFG_RATE 2, 2), (R.SER_PORT_STAT_STATE 2, 2), (R.PWR_DOM_STATE 61, 2), (R.CREW_PORT_STATE 2, 2), (R.CREW_CTRL_ID, 9)] with clock := 0 } : Hub).onPort 2 fun x => { x with changed := true, rxExp := 0, returned := 5 }), by decide⟩

theorem wit_crewNak :
    ∃ (p seq credit lanes : Nat) (s : State), ((Instr.crewNak p seq credit lanes).wf = true) ∧ (s.hub.crewUp p = true) ∧ (s.hub.joined p = true) ∧ (((s.hub.port p).store.any fun x => x.seq == seq) = true) ∧ ((s.hub.port p).resends < 15) ∧ (s.hub.get (R.SER_PORT_CREWCNT_RESENDS p) + 1 < 2 ^ (R.SER_PORT_CREWCNT_RESENDS p).width) :=
    ⟨2, 65535, 8, 3, stOf (({ hubOf [(R.SER_PORT_CFG_EN 2, 1), (R.SER_PORT_CFG_FIRST 2, 4), (R.SER_PORT_CFG_WIDTH 2, 2), (R.SER_PORT_CFG_MODE 2, 1), (R.SER_PORT_CFG_RATE 2, 2), (R.SER_PORT_STAT_STATE 2, 2), (R.PWR_DOM_STATE 61, 2), (R.CREW_PORT_STATE 2, 2), (R.CREW_CTRL_ID, 9)] with clock := 0 } : Hub).onPort 2 fun x => { x with store := [{ seq := 65535, frame := { data := [1], time := 0, src := 9, dst := 5, hops := 3, msg := 0, offset := 0, last := true, quads := [] }, owner := none }, { seq := 0, frame := { data := [1], time := 0, src := 9, dst := 5, hops := 3, msg := 0, offset := 0, last := true, quads := [] }, owner := none }] }), by decide⟩

theorem wit_crewNak_last :
    ∃ (p seq credit lanes : Nat) (s : State), ((Instr.crewNak p seq credit lanes).wf = true) ∧ (s.hub.crewUp p = true) ∧ (s.hub.joined p = true) ∧ (((s.hub.port p).store.any fun x => x.seq == seq) = true) ∧ ((s.hub.port p).resends = 15) ∧ ((s.hub.port p).resendOf = seq) :=
    ⟨2, 65535, 8, 3, stOf (({ hubOf [(R.SER_PORT_CFG_EN 2, 1), (R.SER_PORT_CFG_FIRST 2, 4), (R.SER_PORT_CFG_WIDTH 2, 2), (R.SER_PORT_CFG_MODE 2, 1), (R.SER_PORT_CFG_RATE 2, 2), (R.SER_PORT_STAT_STATE 2, 2), (R.PWR_DOM_STATE 61, 2), (R.CREW_PORT_STATE 2, 2), (R.CREW_CTRL_ID, 9)] with clock := 0 } : Hub).onPort 2 fun x => { x with resends := 15, resendOf := 65535, store := [{ seq := 65535, frame := { data := [1], time := 0, src := 9, dst := 5, hops := 3, msg := 0, offset := 0, last := true, quads := [] }, owner := none }, { seq := 0, frame := { data := [1], time := 0, src := 9, dst := 5, hops := 3, msg := 0, offset := 0, last := true, quads := [] }, owner := none }] }), by decide⟩

theorem wit_crewFrameUnknownType :
    ∃ (p type : Nat) (s : State), ((Instr.crewFrameUnknownType p type).wf = true) ∧ (s.hub.crewUp p = true) ∧ (s.hub.get (R.SER_PORT_RXCNT_RX_BAD p) + 1 < 2 ^ (R.SER_PORT_RXCNT_RX_BAD p).width) :=
    ⟨2, 9, stOf (({ hubOf [(R.SER_PORT_CFG_EN 2, 1), (R.SER_PORT_CFG_FIRST 2, 4), (R.SER_PORT_CFG_WIDTH 2, 2), (R.SER_PORT_CFG_MODE 2, 1), (R.SER_PORT_CFG_RATE 2, 2), (R.SER_PORT_STAT_STATE 2, 2), (R.PWR_DOM_STATE 61, 2), (R.CREW_PORT_STATE 2, 2), (R.CREW_CTRL_ID, 9)] with clock := 0 } : Hub).onPort 2 fun x => { x with rxExp := 0 }), by decide⟩

-- CrewMusters
theorem wit_crewHelloTimer :
    ∃ (p : Nat) (s : State), (s.hub.crewOn = true) ∧ (p < 32) ∧ (s.hub.crewUp p = true) :=
    ⟨2, stOf { hubOf [(R.CREW_CTRL_EN, 1), (R.CREW_CTRL_ID, 9), (R.SER_PORT_STAT_STATE 2, 2), (R.SER_PORT_CFG_MODE 2, 1), (R.CREW_PORT_STATE 2, 2), (R.CREW_STAT_IS_LEADER, 1), (R.CREW_STAT_LEADER, 9), (R.CREW_STAT_STATE, 2)] with clock := 0 }, by decide⟩

theorem wit_crewHello :
    ∃ (p v c : Nat) (payload : List Byte) (s : State), ((Instr.crewHello p payload).wf = true) ∧ (s.hub.crewOn = true) ∧ (s.hub.crewUp p = true) ∧ (s.hub.judgeHello payload = (v, c)) :=
    ⟨2, (stOf (hubOf [(R.CREW_CTRL_ID, 9)])).hub.judgeHello ((5 :: 0 :: 0 :: 0 :: List.replicate 28 0) ++ (77 :: List.replicate 15 0)) |>.1, (stOf (hubOf [(R.CREW_CTRL_ID, 9)])).hub.judgeHello ((5 :: 0 :: 0 :: 0 :: List.replicate 28 0) ++ (77 :: List.replicate 15 0)) |>.2, (5 :: 0 :: 0 :: 0 :: List.replicate 28 0) ++ (77 :: List.replicate 15 0), stOf { hubOf [(R.CREW_CTRL_EN, 1), (R.CREW_CTRL_ID, 9), (R.SER_PORT_STAT_STATE 2, 2), (R.SER_PORT_CFG_MODE 2, 1), (R.CREW_PORT_STATE 2, 2), (R.CREW_STAT_IS_LEADER, 1), (R.CREW_STAT_LEADER, 9), (R.CREW_STAT_STATE, 2)] with clock := 0 }, by decide +kernel⟩

theorem wit_crewHello_joined :
    ∃ (p : Nat) (payload : List Byte) (s : State), ((Instr.crewHello p payload).wf = true) ∧ (s.hub.crewOn = true) ∧ (s.hub.crewUp p = true) ∧ (s.hub.judgeHello payload = (2, 0)) :=
    ⟨2, (5 :: 0 :: 0 :: 0 :: List.replicate 28 0) ++ (77 :: List.replicate 15 0), stOf { hubOf [(R.CREW_CTRL_EN, 1), (R.CREW_CTRL_ID, 9), (R.SER_PORT_STAT_STATE 2, 2), (R.SER_PORT_CFG_MODE 2, 1), (R.CREW_PORT_STATE 2, 2), (R.CREW_STAT_IS_LEADER, 1), (R.CREW_STAT_LEADER, 9), (R.CREW_STAT_STATE, 2), (R.CREW_DIGEST, 0)] with clock := 0 }, by decide +kernel⟩

theorem wit_crewPeerTimeout :
    ∃ (p : Nat) (s : State), ((Instr.crewPeerTimeout p).wf = true) ∧ (s.hub.joined p = true) :=
    ⟨2, stOf { hubOf [(R.CREW_CTRL_EN, 1), (R.CREW_CTRL_ID, 9), (R.SER_PORT_STAT_STATE 2, 2), (R.SER_PORT_CFG_MODE 2, 1), (R.CREW_PORT_STATE 2, 2), (R.CREW_STAT_IS_LEADER, 1), (R.CREW_STAT_LEADER, 9), (R.CREW_STAT_STATE, 2)] with clock := 0 }, by decide⟩

theorem wit_claimHoldDownEnd :
    ∃ (leader : Nat) (s : State), ((Instr.claimHoldDownEnd leader).wf = true) :=
    ⟨4, stOf { hubOf [(R.CREW_CTRL_EN, 1), (R.CREW_CTRL_ID, 9), (R.SER_PORT_STAT_STATE 2, 2), (R.SER_PORT_CFG_MODE 2, 1), (R.CREW_PORT_STATE 2, 2), (R.CREW_STAT_IS_LEADER, 1), (R.CREW_STAT_LEADER, 9), (R.CREW_STAT_STATE, 2)] with clock := 0, crew := { Hub.reset.crew with down := [(4, 1), (5, 2)] } }, by decide⟩

theorem wit_syncLoss :
    ∃ (s : State), (s.hub.crewOn = true) ∧ (s.hub.on R.CREW_STAT_IS_LEADER = false) ∧ (s.hub.get (R.CREW_EVT_SYNC_LOST) + 1 < 2 ^ (R.CREW_EVT_SYNC_LOST).width) :=
    ⟨stOf { hubOf [(R.CREW_CTRL_EN, 1), (R.CREW_CTRL_ID, 9), (R.SER_PORT_STAT_STATE 2, 2), (R.SER_PORT_CFG_MODE 2, 1), (R.CREW_PORT_STATE 2, 2), (R.CREW_STAT_IS_LEADER, 0), (R.CREW_STAT_LEADER, 4), (R.CREW_STAT_STATE, 2), (R.CREW_EPOCH, 0xFFFFFFFF), (R.TIME_STAT_TRUSTED, 1)] with clock := 0 }, by decide⟩

theorem wit_crewRemuster :
    ∃ (req : Path) (s : State), ((Instr.crewRemuster req).wf = true) ∧ (req.holdsBlocks = true) ∧ (s.hub.crewOn = true) ∧ (s.hub.on R.CREW_STAT_IS_LEADER = true) ∧ (s.hub.offers = []) ∧ (s.hub.get (R.CREW_EVT_REMUSTERS) + 1 < 2 ^ (R.CREW_EVT_REMUSTERS).width) :=
    ⟨Path.pf, stOf { hubOf [(R.CREW_CTRL_EN, 1), (R.CREW_CTRL_ID, 9), (R.SER_PORT_STAT_STATE 2, 2), (R.SER_PORT_CFG_MODE 2, 1), (R.CREW_PORT_STATE 2, 2), (R.CREW_STAT_IS_LEADER, 1), (R.CREW_STAT_LEADER, 9), (R.CREW_STAT_STATE, 2), (R.CREW_EPOCH, 0xFFFFFFFF)] with clock := 0 }, by decide⟩

theorem wit_crewRemuster_off :
    ∃ (req : Path) (s : State), ((Instr.crewRemuster req).wf = true) ∧ (s.hub.crewOn = false) :=
    ⟨Path.pf, State.reset, by decide⟩

theorem wit_mustered :
    ∃ (s : State), (s.hub.crewOn = true) ∧ (s.hub.get R.CREW_STAT_STATE = 1) :=
    ⟨stOf { hubOf [(R.CREW_CTRL_EN, 1), (R.CREW_CTRL_ID, 9), (R.SER_PORT_STAT_STATE 2, 2), (R.SER_PORT_CFG_MODE 2, 1), (R.CREW_PORT_STATE 2, 2), (R.CREW_STAT_IS_LEADER, 1), (R.CREW_STAT_LEADER, 9), (R.CREW_STAT_STATE, 1), (R.TIME_STAT_TRUSTED, 0), (R.TIME_STAT_REFLOST, 0)] with clock := 0 }, by decide⟩

-- CrewDisciplinesTime
theorem wit_pdelayReq :
    ∃ (p seq : Nat) (s : State), ((Instr.pdelayReq p seq).wf = true) ∧ (s.hub.joined p = true) :=
    ⟨2, 9, stOf { hubOf [(R.CREW_CTRL_EN, 1), (R.CREW_CTRL_ID, 9), (R.SER_PORT_STAT_STATE 2, 2), (R.SER_PORT_CFG_MODE 2, 1), (R.CREW_PORT_STATE 2, 2), (R.CREW_STAT_IS_LEADER, 1), (R.CREW_STAT_LEADER, 9), (R.CREW_STAT_STATE, 2)] with clock := 0 }, by decide⟩

theorem wit_pdelayReqSend :
    ∃ (p : Nat) (s : State), (p < 32) ∧ (s.hub.joined p = true) :=
    ⟨2, stOf (({ hubOf [(R.CREW_CTRL_EN, 1), (R.CREW_CTRL_ID, 9), (R.SER_PORT_STAT_STATE 2, 2), (R.SER_PORT_CFG_MODE 2, 1), (R.CREW_PORT_STATE 2, 2), (R.CREW_STAT_IS_LEADER, 1), (R.CREW_STAT_LEADER, 9), (R.CREW_STAT_STATE, 2)] with clock := 0 } : Hub).onCrewPort 2 fun x => { x with pdSeq := 65535 }), by decide⟩

theorem wit_pdelayResp :
    ∃ (p seq t2 : Nat) (s : State), ((Instr.pdelayResp p seq t2).wf = true) ∧ (s.hub.joined p = true) ∧ ((s.hub.crewPort p).pdSeq = seq) :=
    ⟨2, 9, 800, stOf (({ hubOf [(R.CREW_CTRL_EN, 1), (R.CREW_CTRL_ID, 9), (R.SER_PORT_STAT_STATE 2, 2), (R.SER_PORT_CFG_MODE 2, 1), (R.CREW_PORT_STATE 2, 2), (R.CREW_STAT_IS_LEADER, 1), (R.CREW_STAT_LEADER, 9), (R.CREW_STAT_STATE, 2)] with clock := 0 } : Hub).onCrewPort 2 fun x => { x with pdSeq := 9 }), by decide⟩

theorem wit_pdelayRespFollowUp :
    ∃ (p seq t3 t2 t4 : Nat) (s : State), ((Instr.pdelayRespFollowUp p seq t3).wf = true) ∧ ((s.hub.crewPort p).pdT2 = some (t2, t4)) ∧ (s.hub.joined p = true) ∧ ((s.hub.crewPort p).pdSeq = seq) :=
    ⟨2, 9, 900, 800, 1300, stOf (({ hubOf [(R.CREW_CTRL_EN, 1), (R.CREW_CTRL_ID, 9), (R.SER_PORT_STAT_STATE 2, 2), (R.SER_PORT_CFG_MODE 2, 1), (R.CREW_PORT_STATE 2, 2), (R.CREW_STAT_IS_LEADER, 1), (R.CREW_STAT_LEADER, 9), (R.CREW_STAT_STATE, 2)] with clock := 0 } : Hub).onCrewPort 2 fun x => { x with pdSeq := 9, pdT1 := 1000, pdT2 := some (800, 1300) }), by decide⟩

theorem wit_sync :
    ∃ (p seq : Nat) (s : State), ((Instr.sync p seq).wf = true) ∧ (s.hub.get (R.CREW_PORT_ROLE p) = 1) :=
    ⟨2, 7, stOf { hubOf [(R.CREW_CTRL_EN, 1), (R.CREW_CTRL_ID, 9), (R.SER_PORT_STAT_STATE 2, 2), (R.SER_PORT_CFG_MODE 2, 1), (R.CREW_PORT_STATE 2, 2), (R.CREW_STAT_IS_LEADER, 1), (R.CREW_STAT_LEADER, 9), (R.CREW_STAT_STATE, 2), (R.CREW_PORT_ROLE 2, 1)] with clock := 0 }, by decide⟩

theorem wit_sync_bad :
    ∃ (p seq : Nat) (s : State), ((Instr.sync p seq).wf = true) ∧ (s.hub.get (R.CREW_PORT_ROLE p) ≠ 1) ∧ (s.hub.get (R.CREW_EVT_BADTIME) + 1 < 2 ^ (R.CREW_EVT_BADTIME).width) :=
    ⟨2, 7, stOf { hubOf [(R.CREW_CTRL_EN, 1), (R.CREW_CTRL_ID, 9), (R.SER_PORT_STAT_STATE 2, 2), (R.SER_PORT_CFG_MODE 2, 1), (R.CREW_PORT_STATE 2, 2), (R.CREW_STAT_IS_LEADER, 1), (R.CREW_STAT_LEADER, 9), (R.CREW_STAT_STATE, 2)] with clock := 0 }, by decide⟩

theorem wit_syncSend :
    ∃ (p : Nat) (s : State), (p < 32) ∧ (s.hub.get (R.CREW_PORT_ROLE p) = 2) :=
    ⟨2, stOf { hubOf [(R.CREW_CTRL_EN, 1), (R.CREW_CTRL_ID, 9), (R.SER_PORT_STAT_STATE 2, 2), (R.SER_PORT_CFG_MODE 2, 1), (R.CREW_PORT_STATE 2, 2), (R.CREW_STAT_IS_LEADER, 1), (R.CREW_STAT_LEADER, 9), (R.CREW_STAT_STATE, 2), (R.CREW_PORT_ROLE 2, 2)] with clock := 0, crew := { Hub.reset.crew with syncSeq := 65535 } }, by decide⟩

theorem wit_followUp :
    ∃ (p seq origin a : Nat) (corr off : Int) (s : State), ((Instr.followUp p seq origin corr).wf = true) ∧ ((s.hub.crewPort p).syncAt = some (seq, a)) ∧ (s.hub.get (R.CREW_PORT_ROLE p) = 1) ∧ (off = s.hub.syncOffset p a origin corr / 1000) :=
    ⟨2, 7, 1000, 1500, 100000, 400, stOf (({ hubOf [(R.CREW_CTRL_EN, 1), (R.CREW_CTRL_ID, 9), (R.SER_PORT_STAT_STATE 2, 2), (R.SER_PORT_CFG_MODE 2, 1), (R.CREW_PORT_STATE 2, 2), (R.CREW_STAT_IS_LEADER, 1), (R.CREW_STAT_LEADER, 9), (R.CREW_STAT_STATE, 2), (R.CREW_PORT_ROLE 2, 1)] with clock := 0 } : Hub).onCrewPort 2 fun x => { x with syncAt := some (7, 1500) }), by decide⟩

theorem wit_followUp_far :
    ∃ (p seq origin a : Nat) (corr off : Int) (s : State), ((Instr.followUp p seq origin corr).wf = true) ∧ ((s.hub.crewPort p).syncAt = some (seq, a)) ∧ (s.hub.get (R.CREW_PORT_ROLE p) = 1) ∧ (off = s.hub.syncOffset p a origin corr / 1000) ∧ (1000 < off.natAbs) :=
    ⟨2, 7, 1000, 5500, 100000, 4400, stOf (({ hubOf [(R.CREW_CTRL_EN, 1), (R.CREW_CTRL_ID, 9), (R.SER_PORT_STAT_STATE 2, 2), (R.SER_PORT_CFG_MODE 2, 1), (R.CREW_PORT_STATE 2, 2), (R.CREW_STAT_IS_LEADER, 1), (R.CREW_STAT_LEADER, 9), (R.CREW_STAT_STATE, 2), (R.CREW_PORT_ROLE 2, 1), (R.TIME_STAT_TRUSTED, 1)] with clock := 0 } : Hub).onCrewPort 2 fun x => { x with syncAt := some (7, 5500) }), by decide⟩

theorem wit_followUp_trusted :
    ∃ (p seq origin a : Nat) (corr off : Int) (s : State), ((Instr.followUp p seq origin corr).wf = true) ∧ ((s.hub.crewPort p).syncAt = some (seq, a)) ∧ (s.hub.get (R.CREW_PORT_ROLE p) = 1) ∧ (off = s.hub.syncOffset p a origin corr / 1000) ∧ (off.natAbs ≤ 250) ∧ (s.hub.crew.good = 7) :=
    ⟨2, 7, 1000, 1300, 100000, 200, stOf (({ hubOf [(R.CREW_CTRL_EN, 1), (R.CREW_CTRL_ID, 9), (R.SER_PORT_STAT_STATE 2, 2), (R.SER_PORT_CFG_MODE 2, 1), (R.CREW_PORT_STATE 2, 2), (R.CREW_STAT_IS_LEADER, 1), (R.CREW_STAT_LEADER, 9), (R.CREW_STAT_STATE, 2), (R.CREW_PORT_ROLE 2, 1)] with clock := 0, crew := { Hub.reset.crew with good := 7 } } : Hub).onCrewPort 2 fun x => { x with syncAt := some (7, 1300) }), by decide⟩

-- SolverRuns
theorem wit_solveSetup :
    ∃ (n id k m : Nat) (o : SparOp) (d : Desc) (b : List Byte) (l : List (List Byte)) (perm : List Nat) (x : SparCtx) (s : State), ((Instr.solveSetup n id).wf = true) ∧ (s.hub.desc n id = some d) ∧ (dOp d.bytes = 0x18) ∧ (d.started = true) ∧ (k = leAt d.bytes 28 1) ∧ ((s.hub.ctx k).queue = [o]) ∧ (o.ring = n) ∧ (o.desc = id) ∧ (o.begun = true) ∧ (o.op = 0x18) ∧ ((s.hub.ctx k).paused = false) ∧ (s.hub.sparWaiting = []) ∧ (s.mem.dramErr = []) ∧ (s.hub.on R.RAS_FLIP_CTRL_ARM = false) ∧ (d.snap = some b) ∧ (m = leAt d.bytes 29 1) ∧ (∀ e ∈ structArrays m b, e.2 = 0 ∨ addrSpace e.1 = 0) ∧ (addrSpace (leAt b 48 8) = 0) ∧ (l = (structArrays m b).map (fun (e : Nat × Nat) => if e.2 = 0 then [] else s.mem.bytes 0 (addrOff e.1) e.2)) ∧ (perm = elems 4 ((l.getD 3 []).length / 4) (l.getD 3 [])) ∧ (x = structCtx m b l (s.hub.ctx k)) ∧ (structArraysOk b perm x = true) ∧ ((symbolicOf m x.n x.m x.rowptr x.colidx x.aRow x.aCol perm).1 ≤ 2 ^ 30) ∧ ((sparBounds m x.width x.n x.m (sNnz b + sANnz b) x.restart (symbolicOf m x.n x.m x.rowptr x.colidx x.aRow x.aCol perm).1 (symbolicOf m x.n x.m x.rowptr x.colidx x.aRow x.aCol perm).2).1 ≤ (s.hub.get R.SPAR_SCRATCH_SIZE - 1) * 2 ^ 20) ∧ ((sparBounds m x.width x.n x.m (sNnz b + sANnz b) x.restart (symbolicOf m x.n x.m x.rowptr x.colidx x.aRow x.aCol perm).1 (symbolicOf m x.n x.m x.rowptr x.colidx x.aRow x.aCol perm).2).2 ≤ leAt b 56 8) :=
    ⟨3, 5, 2, 1, { ring := 3, desc := 5, op := 0x18, prio := 0, seq := 0, begun := true, warm := false, run := none }, { descOf 5 (descBytes [(0, 0x18), (28, 2), (29, 1)]) with started := true, snap := some ((List.range 128).map fun i => BitVec.ofNat 8 (nget [(0, 1), (33, 0x10), (50, 2), (58, 2)] i)) }, ((List.range 128).map fun i => BitVec.ofNat 8 (nget [(0, 1), (33, 0x10), (50, 2), (58, 2)] i)), [[], [], [0, 0, 0, 0, 0, 0, 8, 0x40], [], [], [], [], []], [], structCtx 1 ((List.range 128).map fun i => BitVec.ofNat 8 (nget [(0, 1), (33, 0x10), (50, 2), (58, 2)] i)) [[], [], [0, 0, 0, 0, 0, 0, 8, 0x40], [], [], [], [], []] { SparCtx.empty with queue := [{ ring := 3, desc := 5, op := 0x18, prio := 0, seq := 0, begun := true, warm := false, run := none }] }, { stOf ((ringHub [{ descOf 5 (descBytes [(0, 0x18), (28, 2), (29, 1)]) with started := true, snap := some ((List.range 128).map fun i => BitVec.ofNat 8 (nget [(0, 1), (33, 0x10), (50, 2), (58, 2)] i)) }] [(R.GLB_POP_STACK_CAP, 1), (R.SPAR_SCRATCH_SIZE, 8)]).setCtx 2 { SparCtx.empty with queue := [{ ring := 3, desc := 5, op := 0x18, prio := 0, seq := 0, begun := true, warm := false, run := none }] }) with mem := { Mem.reset with dram := [(0x1006, 8), (0x1007, 0x40)] } }, by decide +kernel⟩

theorem wit_solvePatch :
    ∃ (n id k c : Nat) (o : SparOp) (d : Desc) (es : List PatchEntry) (x : SparCtx) (s : State), ((Instr.solvePatch n id).wf = true) ∧ (s.hub.desc n id = some d) ∧ (dOp d.bytes = 0x19) ∧ (d.started = true) ∧ (k = leAt d.bytes 28 1) ∧ ((s.hub.ctx k).queue = [o]) ∧ (o.ring = n) ∧ (o.desc = id) ∧ (o.begun = true) ∧ (o.op = 0x19) ∧ ((s.hub.ctx k).paused = false) ∧ (s.hub.sparWaiting = []) ∧ (s.mem.dramErr = []) ∧ (s.hub.on R.RAS_FLIP_CTRL_ARM = false) ∧ ((s.hub.ctx k).method ≠ 0) ∧ (c = leAt d.bytes 40 4) ∧ (addrSpace (leAt d.bytes 32 8) = 0) ∧ (addrSpace (s.hub.ctx k).store = 0) ∧ (es = patchEntries c (if c = 0 then [] else s.mem.bytes 0 (addrOff (leAt d.bytes 32 8)) (16 * c))) ∧ ((es.all fun e => ((s.hub.ctx k).place e).isSome) = true) ∧ (x = es.foldl SparCtx.apply (s.hub.ctx k)) :=
    ⟨3, 5, 2, 1, { ring := 3, desc := 5, op := 0x19, prio := 0, seq := 0, begun := true, warm := false, run := none }, { descOf 5 (descBytes [(0, 0x19), (28, 2), (33, 0x10), (40, 1)]) with started := true }, [{ target := 0, row := 1, col := 0, value := 0x77 }], SparCtx.apply { SparCtx.empty with method := 1, n := 2, values := [1, 2, 3, 4], store := 0x20000, storeUse := 8, factor := some (1, 1, 0, 0), queue := [{ ring := 3, desc := 5, op := 0x19, prio := 0, seq := 0, begun := true, warm := false, run := none }] } { target := 0, row := 1, col := 0, value := 0x77 }, { stOf ((ringHub [{ descOf 5 (descBytes [(0, 0x19), (28, 2), (33, 0x10), (40, 1)]) with started := true }] [(R.GLB_POP_STACK_CAP, 1), (R.SPAR_SCRATCH_SIZE, 8)]).setCtx 2 { SparCtx.empty with method := 1, n := 2, values := [1, 2, 3, 4], store := 0x20000, storeUse := 8, factor := some (1, 1, 0, 0), queue := [{ ring := 3, desc := 5, op := 0x19, prio := 0, seq := 0, begun := true, warm := false, run := none }] }) with mem := { Mem.reset with dram := [(0x1000, 1), (0x1008, 0x77)] } }, by decide +kernel⟩

theorem wit_solveRun :
    ∃ (n id k : Nat) (o : SparOp) (d : Desc) (r : RunRec) (s : State), ((Instr.solveRun n id).wf = true) ∧ (s.hub.desc n id = some d) ∧ (dOp d.bytes = 0x1A) ∧ (d.started = true) ∧ (k = leAt d.bytes 28 1) ∧ ((s.hub.ctx k).queue = [o]) ∧ (o.ring = n) ∧ (o.desc = id) ∧ (o.begun = true) ∧ (o.op = 0x1A) ∧ ((s.hub.ctx k).paused = false) ∧ (s.hub.sparWaiting = []) ∧ (s.mem.dramErr = []) ∧ (s.hub.on R.RAS_FLIP_CTRL_ARM = false) ∧ (o.run = some r) ∧ (isDirect (s.hub.ctx k).method = true) ∧ (s.hub.factorServes (s.hub.ctx k) r = true) ∧ (r.flag 2 = false) ∧ (∀ e ∈ (s.hub.ctx k).runRanges r, e.2 = 0 ∨ addrSpace e.1 = 0) ∧ (addrSpace (s.hub.ctx k).store = 0) ∧ (addrSpace r.result = 0) :=
    ⟨3, 5, 2, { ring := 3, desc := 5, op := 0x1A, prio := 0, seq := 0, begun := true, warm := false, run := some { rhs := 0x3000, x0 := 0, result := 0x4000, tol := 0, maxit := 0, tiles := 1, flags := 0x30, tau := 1, delta := 1, rho := 0, sigma := 0, alpha := 0, out := 0x5000 } }, { descOf 5 (descBytes [(0, 0x1A), (28, 2)]) with started := true }, { rhs := 0x3000, x0 := 0, result := 0x4000, tol := 0, maxit := 0, tiles := 1, flags := 0x30, tau := 1, delta := 1, rho := 0, sigma := 0, alpha := 0, out := 0x5000 }, { stOf ((ringHub [{ descOf 5 (descBytes [(0, 0x1A), (28, 2)]) with started := true }] [(R.GLB_POP_STACK_CAP, 1), (R.SPAR_SCRATCH_SIZE, 8)]).setCtx 2 { SparCtx.empty with method := 1, n := 2, values := [1, 2, 3, 4], store := 0x20000, storeUse := 8, factor := some (1, 1, 0, 0), queue := [{ ring := 3, desc := 5, op := 0x1A, prio := 0, seq := 0, begun := true, warm := false, run := some { rhs := 0x3000, x0 := 0, result := 0x4000, tol := 0, maxit := 0, tiles := 1, flags := 0x30, tau := 1, delta := 1, rho := 0, sigma := 0, alpha := 0, out := 0x5000 } }] }) with mem := { Mem.reset with dram := [(0x3000, 1), (0x3008, 0x77)] } }, by decide +kernel⟩

-- TrimAndSensingRun
theorem wit_trimEpochStart :
    ∃ (meas : List Nat) (hubStatic stackStatic : Nat) (p : TrimPlan) (s : State), ((Instr.trimEpochStart meas hubStatic stackStatic).wf = true) ∧ (s.hub.ready = true) ∧ (s.hub.trim.posted = false) ∧ (s.hub.trim.next = some p) ∧ (p.mode < 4) ∧ (s.hub.on R.SNS_THERM_TRIPPED = false) :=
    ⟨List.replicate 36 9, 100, 50, { mode := 1, x := (List.replicate 41 2000000) ++ List.replicate 7 0, rmax := 4 }, stOf { hubOf [(R.GLB_RDY_READY, 1), (R.TRIM_EPOCH, 0xFFFFFFFF)] with trim := { Hub.reset.trim with next := some { mode := 1, x := (List.replicate 41 2000000) ++ List.replicate 7 0, rmax := 4 }, posted := false } }, by decide⟩

theorem wit_trimEpochStart_late :
    ∃ (meas : List Nat) (hubStatic stackStatic : Nat) (s : State), ((Instr.trimEpochStart meas hubStatic stackStatic).wf = true) ∧ (s.hub.ready = true) ∧ (s.hub.trim.posted = true) ∧ (s.hub.trim.plan.mode ≠ 3) ∧ (s.hub.get R.TRIM_STAT_RUN < s.hub.get R.TRIM_LIMIT_STATIC_N) ∧ (s.hub.get R.MAP_COUNT_TILE ≠ 0) ∧ (s.hub.get (R.TRIM_EVT_FALLBACKS) + 1 < 2 ^ (R.TRIM_EVT_FALLBACKS).width) :=
    ⟨List.replicate 36 9, 100, 50, stOf { hubOf [(R.GLB_RDY_READY, 1), (R.MAP_COUNT_TILE, 16), (R.TRIM_LIMIT_STATIC_N, 8), (R.TRIM_STAT_RUN, 7)] with trim := { Hub.reset.trim with posted := true } }, by decide⟩

theorem wit_trimSolveComplete :
    ∃ (status iters us : Nat) (x : List Nat) (y : List Int) (s : State), ((Instr.trimSolveComplete status iters us x y).wf = true) ∧ (s.hub.trim.posted = true) ∧ (s.hub.acceptable status (s.hub.trim.snap.qp.relres x y) = true) :=
    ⟨0x44, 9, 70, List.replicate 48 1000000, List.replicate 59 0, stOf { hubOf [(R.TRIM_CTRL_RES_EXP, 20), (R.TRIM_STAT_RUN, 2)] with trim := { Hub.reset.trim with posted := true } }, by decide +kernel⟩

theorem wit_trimSolveComplete_rejected :
    ∃ (status iters us : Nat) (x : List Nat) (y : List Int) (s : State), ((Instr.trimSolveComplete status iters us x y).wf = true) ∧ (s.hub.trim.posted = true) ∧ (s.hub.acceptable status (s.hub.trim.snap.qp.relres x y) = false) ∧ (s.hub.trim.plan.mode ≠ 3) ∧ (s.hub.get R.TRIM_STAT_RUN < s.hub.get R.TRIM_LIMIT_STATIC_N) ∧ (s.hub.get R.MAP_COUNT_TILE ≠ 0) ∧ (s.hub.get (R.TRIM_EVT_FALLBACKS) + 1 < 2 ^ (R.TRIM_EVT_FALLBACKS).width) :=
    ⟨0x47, 9, 70, [], [], stOf { hubOf [(R.MAP_COUNT_TILE, 16), (R.TRIM_LIMIT_STATIC_N, 8)] with trim := { Hub.reset.trim with posted := true } }, by decide⟩

theorem wit_senseOutput :
    ∃ (c code n : Nat) (l : List Nat) (s : State), ((Instr.senseOutput c code).wf = true) ∧ (2 ≤ c) ∧ ((s.hub.conv c).seq = n :: l) ∧ (2 ≤ (s.hub.conv c).outs) ∧ (112 ≤ n) ∧ (n < 220) :=
    ⟨3, 1777, 130, [131], stOf ((hubOf [(R.SNS_THERM_TRIP_C, 105)]).setConv 3 { seq := [130, 131], outs := 2, latch := none }), by decide⟩

theorem wit_senseOutput_settling :
    ∃ (c code n : Nat) (l : List Nat) (s : State), ((Instr.senseOutput c code).wf = true) ∧ (2 ≤ c) ∧ ((s.hub.conv c).seq = n :: l) ∧ ((s.hub.conv c).outs < 2) ∧ (n < 220) :=
    ⟨3, 1777, 130, [], stOf ((hubOf [(R.SNS_THERM_TRIP_C, 105)]).setConv 3 { seq := [130], outs := 1, latch := none }), by decide⟩

theorem wit_senseOutput_trip :
    ∃ (c code n : Nat) (l : List Nat) (s : State), ((Instr.senseOutput c code).wf = true) ∧ (2 ≤ c) ∧ ((s.hub.conv c).seq = n :: l) ∧ (2 ≤ (s.hub.conv c).outs) ∧ (n < 112) ∧ (s.hub.on R.SNS_THERM_TRIPPED = false) ∧ (16 * (s.hub.get R.SNS_THERM_TRIP_C + 64) ≤ code) :=
    ⟨3, 2704, 7, [], stOf ((hubOf [(R.SNS_THERM_TRIP_C, 105)]).setConv 3 { seq := [7], outs := 2, latch := none }), by decide⟩

theorem wit_senseSync :
    ∃ (req : Path) (c : Nat) (s : State), ((Instr.senseSync req).wf = true) ∧ (req.holdsBlocks = true) ∧ (c < 16) :=
    ⟨Path.masthead, 3, stOf ((hubOf [(R.SNS_THERM_TRIP_C, 105)]).setConv 3 { seq := [130], outs := 1, latch := none }), by decide⟩

theorem wit_senseTrigger :
    ∃ (req : Path) (c : Nat) (v : Word) (s : State), ((Instr.senseTrigger req c v).wf = true) ∧ (req.holdsBlocks = true) ∧ (2 ≤ c) ∧ ((s.hub.conv c).seq = []) :=
    ⟨Path.pf, 15, 0x8201, State.reset, by decide⟩

theorem wit_senseTrigger_overrun :
    ∃ (req : Path) (c : Nat) (v : Word) (s : State), ((Instr.senseTrigger req c v).wf = true) ∧ (req.holdsBlocks = true) ∧ (2 ≤ c) ∧ ((s.hub.conv c).seq ≠ []) ∧ ((s.hub.conv c).latch.isSome = true) ∧ (s.hub.get (R.SNS_CONV1_OVERRUN_COUNT c) + 1 < 2 ^ (R.SNS_CONV1_OVERRUN_COUNT c).width) :=
    ⟨Path.pf, 3, 0x8201, stOf ((hubOf [(R.SNS_THERM_TRIP_C, 105)]).setConv 3 { seq := [130], outs := 1, latch := some [131] }), by decide⟩

theorem wit_thermalTripTimeout :
    ∃ (s : State), (s.hub.on R.SNS_THERM_TRIPPED = true) ∧ (s.hub.anySensorAbove (s.hub.get R.SNS_THERM_TRIP_C + 5) = true) ∧ (s.hub.pins.d0Reset = false) ∧ (s.hub.get (R.YEW_ESC_FATALS) + 1 < 2 ^ (R.YEW_ESC_FATALS).width) :=
    ⟨stOf { hubOf [(R.SNS_THERM_TRIPPED, 1), (R.SNS_THERM_TRIP_C, 105), (R.SNS_CH_HELD 40, 2784)] with pins := { Pins.reset with pwrgood := true, d0Reset := false } }, by decide⟩

-- TapReadsAndLoads
theorem wit_bypass :
    ∃ (op : Nat) (s : State), ((Instr.bypass op).wf = true) ∧ (op ≠ 0xFF) ∧ (s.hub.get (R.TEST_JTAG_STAT_DENIED) + 1 < 2 ^ (R.TEST_JTAG_STAT_DENIED).width) :=
    ⟨0x40, State.reset, by decide⟩

theorem wit_sample :
    ∃ (pins : Nat) (s : State), ((Instr.sample pins).wf = true) :=
    ⟨5, State.reset, by decide⟩

theorem wit_preload :
    ∃ (v : Nat) (s : State), ((Instr.preload v).wf = true) ∧ (1 ≤ s.hub.level) :=
    ⟨5, stOf (hubOf [(R.TEST_HEDGE_STAT_LEVEL, 1)]), by decide⟩

theorem wit_hedgeResp :
    ∃ (words : List Word) (i : Nat) (s : State), ((Instr.hedgeResp words).wf = true) ∧ (words.length = 8) ∧ (i < 8) ∧ ((s.hub.attemptOpen = false ∨ s.hub.get R.TEST_HEDGE_STAT_PATH = 1)) :=
    ⟨List.replicate 8 0x89ABCDEF, 7, State.reset, by decide⟩

theorem wit_hedgeToken :
    ∃ (words : List Word) (i : Nat) (s : State), ((Instr.hedgeToken words).wf = true) ∧ (words.length = 64) ∧ (i < 64) ∧ ((s.hub.attemptOpen = false ∨ s.hub.get R.TEST_HEDGE_STAT_PATH = 1)) :=
    ⟨List.replicate 64 0x89ABCDEF, 63, State.reset, by decide⟩

theorem wit_testReg :
    ∃ (off : Nat) (v : Word) (s : State), ((Instr.testReg false off v).wf = true) ∧ (1 ≤ s.hub.level) ∧ (off ≠ (R.TEST_JTAG_STAT_IR).off) ∧ (off < 0x2000000) ∧ (s.hub.sramErr off = 0) ∧ (s.hub.guarded off = false) ∧ (isLowHalf off = false) ∧ ((off < 4 ∨ isLowHalf (off - 4) = false)) :=
    ⟨0xA00600, 0, stOf (hubOf [(R.TEST_HEDGE_STAT_LEVEL, 1), (R.TEST_FMAP_IDX_INDEX, 3)]), by decide⟩

theorem wit_testReg_write :
    ∃ (i : Nat) (v : Word) (s : State), ((Instr.testReg true (0xA00430 + 4 * i) v).wf = true) ∧ (i < 8) ∧ (1 ≤ s.hub.level) ∧ (s.hub.attemptOpen = false) :=
    ⟨7, 0x89ABCDEF, stOf (hubOf [(R.TEST_HEDGE_STAT_LEVEL, 1)]), by decide⟩

-- TapDrivesPinsAndScan
theorem wit_extest :
    ∃ (s : State), (1 ≤ s.hub.level) ∧ (s.hub.pinsOut = false) :=
    ⟨stOf { hubOf [(R.TEST_HEDGE_STAT_LEVEL, 1), (R.TEST_JTAG_STAT_IR, 1)] with test := { Hub.reset.test with boundary := 9 } }, by decide⟩

theorem wit_clamp :
    ∃ (s : State), (1 ≤ s.hub.level) ∧ (s.hub.pinsOut = false) :=
    ⟨stOf { hubOf [(R.TEST_HEDGE_STAT_LEVEL, 1), (R.TEST_JTAG_STAT_IR, 1)] with test := { Hub.reset.test with boundary := 9 } }, by decide⟩

theorem wit_highz :
    ∃ (s : State), (1 ≤ s.hub.level) ∧ (s.hub.pinsOut = false) :=
    ⟨stOf { hubOf [(R.TEST_HEDGE_STAT_LEVEL, 1), (R.TEST_JTAG_STAT_IR, 1)] with test := { Hub.reset.test with boundary := 9 } }, by decide⟩

theorem wit_extestPulse :
    ∃ (s : State), (1 ≤ s.hub.level) ∧ (s.hub.pinsOut = false) :=
    ⟨stOf { hubOf [(R.TEST_HEDGE_STAT_LEVEL, 1), (R.TEST_JTAG_STAT_IR, 1)] with test := { Hub.reset.test with boundary := 9 } }, by decide⟩

theorem wit_extestTrain :
    ∃ (s : State), (1 ≤ s.hub.level) ∧ (s.hub.pinsOut = false) :=
    ⟨stOf { hubOf [(R.TEST_HEDGE_STAT_LEVEL, 1), (R.TEST_JTAG_STAT_IR, 1)] with test := { Hub.reset.test with boundary := 9 } }, by decide⟩

theorem wit_extest_denied :
    ∃ (s : State), (s.hub.level = 0) ∧ (s.hub.get (R.TEST_JTAG_STAT_DENIED) + 1 < 2 ^ (R.TEST_JTAG_STAT_DENIED).width) :=
    ⟨State.reset, by decide⟩

theorem wit_scanCapture :
    ∃ (s : State), (2 ≤ s.hub.level) ∧ (s.hub.test.scan = false) :=
    ⟨stOf (hubOf [(R.TEST_HEDGE_STAT_LEVEL, 2)]), by decide⟩

theorem wit_scanShift :
    ∃ (op : Nat) (s : State), ((Instr.scanShift op).wf = true) ∧ (2 ≤ s.hub.level) ∧ (s.hub.test.scan = false) :=
    ⟨0x2F, stOf (hubOf [(R.TEST_HEDGE_STAT_LEVEL, 2)]), by decide⟩

theorem wit_fmapIndex :
    ∃ (req : Path) (v : Word) (j : Nat) (s : State), ((Instr.fmapIndex req v).wf = true) ∧ ((req.holdsBlocks = true ∨ req = .tap)) ∧ (1 ≤ s.hub.level) ∧ (j < 4) :=
    ⟨Path.tap, 1, 3, stOf { hubOf [(R.TEST_HEDGE_STAT_LEVEL, 1)] with fail := { Hub.reset.fail with fmap := [[], [1, 2, 3, 4]] } }, by decide⟩

-- HedgeGateRaises
theorem wit_hedgeReq :
    ∃ (req : Path) (v : Word) (s : State), ((Instr.hedgeReq req v).wf = true) ∧ ((req = .pf ∨ req = .tap)) ∧ (s.hub.attemptOpen = false) ∧ (s.hub.get R.TEST_HEDGE_STAT_FAILS < 3) ∧ (s.hub.level < bitsOf v 0 2) ∧ (s.hub.on R.TEST_HEDGE_STAT_WINDOW = true) :=
    ⟨Path.tap, 2, stOf (hubOf [(R.TEST_HEDGE_STAT_LEVEL, 1), (R.TEST_HEDGE_STAT_WINDOW, 1)]), by decide⟩

theorem wit_hedgeReq_locked :
    ∃ (req : Path) (v : Word) (s : State), ((Instr.hedgeReq req v).wf = true) ∧ ((req = .pf ∨ req = .tap)) ∧ (s.hub.attemptOpen = false) ∧ (3 ≤ s.hub.get R.TEST_HEDGE_STAT_FAILS) :=
    ⟨Path.pf, 2, stOf (hubOf [(R.TEST_HEDGE_STAT_FAILS, 3)]), by decide⟩

theorem wit_hedgeReq_notHigher :
    ∃ (req : Path) (v : Word) (s : State), ((Instr.hedgeReq req v).wf = true) ∧ ((req = .pf ∨ req = .tap)) ∧ (s.hub.attemptOpen = false) ∧ (s.hub.get R.TEST_HEDGE_STAT_FAILS < 3) ∧ (bitsOf v 0 2 ≤ s.hub.level) :=
    ⟨Path.pf, 2, stOf (hubOf [(R.TEST_HEDGE_STAT_LEVEL, 2)]), by decide⟩

theorem wit_hedgeReq_window :
    ∃ (req : Path) (v : Word) (s : State), ((Instr.hedgeReq req v).wf = true) ∧ ((req = .pf ∨ req = .tap)) ∧ (s.hub.attemptOpen = false) ∧ (s.hub.get R.TEST_HEDGE_STAT_FAILS < 3) ∧ (s.hub.level < bitsOf v 0 2) ∧ (s.hub.on R.TEST_HEDGE_STAT_WINDOW = false) :=
    ⟨Path.pf, 2, stOf (hubOf [(R.TEST_HEDGE_STAT_LEVEL, 1), (R.TEST_HEDGE_STAT_WINDOW, 0)]), by decide⟩

theorem wit_hedgeGo :
    ∃ (req : Path) (v : Word) (s : State), ((Instr.hedgeGo req v).wf = true) ∧ ((req = .pf ∨ req = .tap)) ∧ (bitsOf v 0 1 = 1) ∧ (s.hub.get R.TEST_HEDGE_STAT_STATE = 1) ∧ (s.hub.get R.TEST_HEDGE_STAT_PATH = hedgePath req) :=
    ⟨Path.pf, 1, stOf (hubOf [(R.TEST_HEDGE_STAT_STATE, 1), (R.TEST_HEDGE_RESP 0, 5)]), by decide⟩

theorem wit_hedgeVerifyComplete :
    ∃ (s : State), (s.hub.get R.TEST_HEDGE_STAT_STATE = 2) :=
    ⟨stOf (hubOf [(R.TEST_HEDGE_STAT_STATE, 2), (R.TEST_HEDGE_REQ_LEVEL, 1)]), by decide⟩

theorem wit_hedgeResponseTimeout :
    ∃ (s : State), (s.hub.get R.TEST_HEDGE_STAT_STATE = 1) :=
    ⟨stOf (hubOf [(R.TEST_HEDGE_STAT_STATE, 1)]), by decide⟩

theorem wit_zeroiseComplete :
    ∃ (s : State), (s.hub.get R.TEST_HEDGE_STAT_STATE = 3) ∧ (s.hub.testing6 = false) :=
    ⟨{ stOf (hubOf [(R.TEST_HEDGE_STAT_STATE, 3), (R.TEST_HEDGE_REQ_LEVEL, 2)]) with mem := { Mem.reset with dram := [(5, 1)], buf := [(6, 2)] } }, by decide⟩

-- YewLogRuns
theorem wit_yewFlush :
    ∃ (s : State), (s.hub.yew.staged ≠ []) :=
    ⟨stOf { hubOf [] with pins := { Pins.reset with pwrgood := true, d0Reset := false }, yew := { Hub.reset.yew with staged := [{ type := 0x20, sev := 1, flags := 0, seq := 7, time := 0, cold := 0, stage := 0, payload := List.replicate 40 0 }] } }, by decide⟩

theorem wit_yewFlush_array :
    ∃ (s : State), (s.hub.yew.staged ≠ []) ∧ (s.hub.yew.wp + 8 ≤ s.hub.yew.erasedTo) ∧ (s.hub.yew.erasedTo ≤ s.hub.yew.wp + 6016) ∧ (s.hub.on R.RAS_FLIP_CTRL_ARM = false) :=
    ⟨stOf { hubOf [] with pins := { Pins.reset with pwrgood := true, d0Reset := false }, yew := { Hub.reset.yew with staged := [{ type := 0x20, sev := 1, flags := 0, seq := 7, time := 0, cold := 0, stage := 0, payload := List.replicate 40 0 }], wp := 5, erasedTo := 16 } }, by decide⟩

theorem wit_sectorErase :
    ∃ (s : State), (s.hub.yew.erasedTo < s.hub.yew.wp + 16) :=
    ⟨stOf { hubOf [] with pins := { Pins.reset with pwrgood := true, d0Reset := false }, yew := { Hub.reset.yew with erasedTo := 16, wp := 1 } }, by decide⟩

theorem wit_bucketRefill :
    ∃ (s : State), (s.hub.yew.refused = 0) :=
    ⟨stOf { hubOf [] with pins := { Pins.reset with pwrgood := true, d0Reset := false }, yew := { Hub.reset.yew with tokens := 3 } }, by decide⟩

theorem wit_bucketRefill_suppressed :
    ∃ (s : State), (s.hub.yew.refused ≠ 0) ∧ (s.hub.get R.YEW_CTRL_BURST ≠ 0) :=
    ⟨stOf { hubOf [] with pins := { Pins.reset with pwrgood := true, d0Reset := false }, yew := { Hub.reset.yew with tokens := 0, refused := 9 } }, by decide⟩

theorem wit_mirrorCopy :
    ∃ (n : Nat) (rest : List Nat) (s : State), ((Instr.mirrorCopy true).wf = true) ∧ (s.hub.yew.unmirrored = n :: rest) ∧ (s.hub.on R.YEW_CTRL_MIRROR_EN = true) ∧ (s.hub.get R.YEW_XSPI_SIZE ≠ 0) ∧ (s.hub.yew.mirrorOff = false) ∧ (s.hub.yew.lgInput = false) :=
    ⟨5, [6], stOf { hubOf [(R.YEW_CTRL_MIRROR_EN, 1), (R.YEW_XSPI_SIZE, 1)] with pins := { Pins.reset with pwrgood := true, d0Reset := false }, yew := { Hub.reset.yew with unmirrored := [5, 6] } }, by decide⟩

theorem wit_mirrorCopy_fails :
    ∃ (n : Nat) (rest : List Nat) (s : State), ((Instr.mirrorCopy false).wf = true) ∧ (s.hub.yew.unmirrored = n :: rest) ∧ (s.hub.on R.YEW_CTRL_MIRROR_EN = true) ∧ (s.hub.get R.YEW_XSPI_SIZE ≠ 0) ∧ (s.hub.yew.mirrorOff = false) ∧ (s.hub.yew.lgInput = false) :=
    ⟨5, [6], stOf { hubOf [(R.YEW_CTRL_MIRROR_EN, 1), (R.YEW_XSPI_SIZE, 1)] with pins := { Pins.reset with pwrgood := true, d0Reset := false }, yew := { Hub.reset.yew with unmirrored := [5, 6] } }, by decide⟩

theorem wit_yewRdSeq :
    ∃ (req : Path) (v : Word) (i : Nat) (r : YewRec) (s : State), ((Instr.yewRdSeq req v).wf = true) ∧ (req.holdsBlocks = true) ∧ ((s.hub.yew.staged.find? fun r => r.seq == v.toNat) = some r) ∧ (i < 16) :=
    ⟨Path.pf, 7, 15, { type := 0x20, sev := 1, flags := 0, seq := 7, time := 0, cold := 0, stage := 0, payload := List.replicate 40 0 }, stOf { hubOf [] with pins := { Pins.reset with pwrgood := true, d0Reset := false }, yew := { Hub.reset.yew with staged := [{ type := 0x20, sev := 1, flags := 0, seq := 7, time := 0, cold := 0, stage := 0, payload := List.replicate 40 0 }] } }, by decide +kernel⟩

theorem wit_yewRdSeq_absent :
    ∃ (req : Path) (v : Word) (s : State), ((Instr.yewRdSeq req v).wf = true) ∧ (req.holdsBlocks = true) ∧ ((s.hub.yew.staged.find? fun r => r.seq == v.toNat) = none) ∧ (s.hub.yew.findBlk v.toNat = none) :=
    ⟨Path.pf, 8, stOf { hubOf [] with pins := { Pins.reset with pwrgood := true, d0Reset := false }, yew := { Hub.reset.yew with staged := [{ type := 0x20, sev := 1, flags := 0, seq := 7, time := 0, cold := 0, stage := 0, payload := List.replicate 40 0 }] } }, by decide⟩

theorem wit_vinBelowWarn :
    ∃ (s : State), (s.hub.pins.vinLow = false) ∧ (s.hub.pins.d0Reset = false) ∧ (s.hub.on R.PWR_HOLD_READY = true) ∧ (s.hub.yew.lgAt = none) :=
    ⟨stOf { hubOf [(R.PWR_HOLD_READY, 1)] with pins := { Pins.reset with pwrgood := true, d0Reset := false }, yew := { Hub.reset.yew with seq := 0xFFFFFFFD } }, by decide⟩

theorem wit_lgRecover :
    ∃ (s : State), (s.hub.yew.lgInput = true) ∧ (s.hub.pins.pwrgood = true) ∧ (s.hub.pins.d0Reset = false) :=
    ⟨stOf { hubOf [] with pins := { Pins.reset with pwrgood := true, d0Reset := false }, yew := { Hub.reset.yew with lgInput := true, dispStop := true } }, by decide⟩

theorem wit_d0Reset :
    ∃ (siteFit mtSel smbAddr : Nat) (s : State), ((Instr.d0Reset siteFit mtSel smbAddr).wf = true) ∧ (s.hub.yew.lgInput = true) ∧ (s.hub.pins.d0Reset = false) ∧ (s.hub.pins.pwrgood = false) :=
    ⟨15, 2, 2, stOf { Hub.reset with pins := { Pins.reset with d0Reset := false }, yew := { YewS.reset with lgInput := true } }, by decide⟩

theorem wit_d0Reset_high :
    ∃ (siteFit mtSel smbAddr : Nat) (s : State), ((Instr.d0Reset siteFit mtSel smbAddr).wf = true) ∧ (s.hub.yew.lgInput = true) ∧ (s.hub.pins.d0Reset = false) ∧ (s.hub.pins.pwrgood = true) :=
    ⟨15, 2, 2, stOf { Hub.reset with pins := { Pins.reset with pwrgood := true, d0Reset := false }, yew := { YewS.reset with lgInput := true } }, by decide⟩

-- ManagementAndMailboxAnswer
theorem wit_getEndpointId :
    ∃ (s : State), (s.hub.pins.d0Reset = false) :=
    ⟨stOf { hubOf [] with pins := { Pins.reset with pwrgood := true, d0Reset := false }, yew := { Hub.reset.yew with eid := 9 } }, by decide⟩

theorem wit_setEndpointId :
    ∃ (eid : Nat) (s : State), ((Instr.setEndpointId eid).wf = true) ∧ (s.hub.pins.d0Reset = false) ∧ (eid ≠ 0) ∧ (eid ≠ 255) :=
    ⟨9, stOf { hubOf [] with pins := { Pins.reset with pwrgood := true, d0Reset := false }, yew := { Hub.reset.yew with eid := 0 } }, by decide⟩

theorem wit_getMctpVersionSupport :
    ∃ (s : State), (s.hub.pins.d0Reset = false) :=
    ⟨stOf { hubOf [] with pins := { Pins.reset with pwrgood := true, d0Reset := false }, yew := { Hub.reset.yew with eid := 9 } }, by decide⟩

theorem wit_getMessageTypeSupport :
    ∃ (s : State), (s.hub.pins.d0Reset = false) :=
    ⟨stOf { hubOf [] with pins := { Pins.reset with pwrgood := true, d0Reset := false }, yew := { Hub.reset.yew with eid := 9 } }, by decide⟩

theorem wit_getVendorDefinedMessageSupport :
    ∃ (s : State), (s.hub.pins.d0Reset = false) :=
    ⟨stOf { hubOf [] with pins := { Pins.reset with pwrgood := true, d0Reset := false }, yew := { Hub.reset.yew with eid := 9 } }, by decide⟩

theorem wit_getInfo :
    ∃ (s : State), (s.hub.pins.d0Reset = false) :=
    ⟨stOf { hubOf [] with pins := { Pins.reset with pwrgood := true, d0Reset := false }, yew := { Hub.reset.yew with eid := 9 } }, by decide⟩

theorem wit_bmcRead :
    ∃ (seq count : Nat) (s : State), ((Instr.bmcRead seq count).wf = true) ∧ (s.hub.pins.d0Reset = false) ∧ (1 ≤ count) ∧ (count ≤ 8) :=
    ⟨7, 2, stOf { hubOf [] with pins := { Pins.reset with pwrgood := true, d0Reset := false }, yew := { Hub.reset.yew with staged := [{ type := 0x20, sev := 1, flags := 0, seq := 7, time := 0, cold := 0, stage := 0, payload := List.replicate 40 0 }] } }, by decide⟩

theorem wit_bmcState :
    ∃ (piece : Nat) (s : State), ((Instr.bmcState piece).wf = true) ∧ (s.hub.pins.d0Reset = false) :=
    ⟨132, stOf { hubOf [] with pins := { Pins.reset with pwrgood := true, d0Reset := false }, yew := { Hub.reset.yew with eid := 9 } }, by decide⟩

theorem wit_mailboxComplete :
    ∃ (r len : Nat) (bytes : List Byte) (s : State), (s.hub.on R.MAST_STAT_BUSY = true) ∧ (s.hub.mastResult = some (r, len, bytes)) ∧ (r < 2 ^ (R.MAST_STAT_RESULT).width) ∧ (len < 2 ^ (R.MAST_STAT_RLEN).width) :=
    ⟨1, 0, [], stOf (hubOf [(R.MAST_STAT_BUSY, 1), (R.GLB_RDY_STAGE, 1)]), by decide⟩

theorem wit_getVersion :
    ∃ (s : State), (s.hub.on R.MAST_STAT_BUSY = true) ∧ (s.hub.mast.op = 0x01) ∧ (s.hub.mast.answer = none) ∧ (s.hub.mast.mgmt = none) ∧ (2 ≤ s.hub.stage) ∧ (s.hub.ras.sram = []) ∧ (s.hub.mast.len = 0) :=
    ⟨stOf { hubOf [(R.MAST_STAT_BUSY, 1), (R.GLB_RDY_STAGE, 11)] with mast := { op := 0x01, len := 0, answer := none, mgmt := none } }, by decide⟩

theorem wit_imageStage :
    ∃ (s : State), (s.hub.on R.MAST_STAT_BUSY = true) ∧ (s.hub.mast.op = 0x40) ∧ (s.hub.mast.answer = none) ∧ (s.hub.mast.mgmt = none) ∧ (2 ≤ s.hub.stage) ∧ (s.hub.ras.sram = []) ∧ (5 ≤ s.hub.mast.len) ∧ (s.hub.mast.len ≤ 252) ∧ (leAt s.hub.mastData 0 4 % 4 = 0) ∧ (leAt s.hub.mastData 0 4 + (s.hub.mast.len - 4) ≤ 0x80000) :=
    ⟨stOf { hubOf [(R.MAST_STAT_BUSY, 1), (R.GLB_RDY_STAGE, 11), (R.MAST_DATA 0, 8), (R.MAST_DATA 1, 0x55AA1234)] with mast := { op := 0x40, len := 8, answer := none, mgmt := none } }, by decide⟩

theorem wit_pprList :
    ∃ (s : State), (s.hub.on R.MAST_STAT_BUSY = true) ∧ (s.hub.mast.op = 0x21) ∧ (s.hub.mast.answer = none) ∧ (s.hub.mast.mgmt = none) ∧ (2 ≤ s.hub.stage) ∧ (s.hub.ras.sram = []) ∧ (s.hub.mast.len = 0) :=
    ⟨stOf { hubOf [(R.MAST_STAT_BUSY, 1), (R.GLB_RDY_STAGE, 11)] with mast := { op := 0x21, len := 0, answer := none, mgmt := none } }, by decide⟩

theorem wit_siteMgmtRd :
    ∃ (s : State), (s.hub.on R.MAST_STAT_BUSY = true) ∧ (s.hub.mast.op = 0x30) ∧ (s.hub.mast.answer = none) ∧ (s.hub.mast.mgmt = none) ∧ (2 ≤ s.hub.stage) ∧ (s.hub.ras.sram = []) ∧ (s.hub.mast.len = 3) ∧ (leAt s.hub.mastData 0 1 < 4) ∧ (s.hub.mgmtAble (leAt s.hub.mastData 0 1) = true) :=
    ⟨stOf { hubOf [(R.MAST_STAT_BUSY, 1), (R.GLB_RDY_STAGE, 11), (R.GLB_POP_SITE_LIVE, 1)] with mast := { op := 0x30, len := 3, answer := none, mgmt := none } }, by decide⟩

theorem wit_yewMark :
    ∃ (s : State), (s.hub.on R.MAST_STAT_BUSY = true) ∧ (s.hub.mast.op = 0x10) ∧ (s.hub.mast.answer = none) ∧ (s.hub.mast.mgmt = none) ∧ (2 ≤ s.hub.stage) ∧ (s.hub.ras.sram = []) ∧ (s.hub.mast.len = 40) ∧ (s.hub.yew.tokens ≠ 0) :=
    ⟨stOf { hubOf [(R.MAST_STAT_BUSY, 1), (R.GLB_RDY_STAGE, 11)] with mast := { op := 0x10, len := 40, answer := none, mgmt := none } }, by decide⟩

theorem wit_yewRead :
    ∃ (k : Nat) (s : State), (s.hub.on R.MAST_STAT_BUSY = true) ∧ (s.hub.mast.op = 0x11) ∧ (s.hub.mast.answer = none) ∧ (s.hub.mast.mgmt = none) ∧ (2 ≤ s.hub.stage) ∧ (s.hub.ras.sram = []) ∧ (s.hub.mast.len = 5) ∧ (k = leAt s.hub.mastData 4 1) ∧ (1 ≤ k) ∧ (k ≤ 3) :=
    ⟨2, stOf { hubOf [(R.MAST_STAT_BUSY, 1), (R.GLB_RDY_STAGE, 11), (R.MAST_DATA 1, 2)] with mast := { op := 0x11, len := 5, answer := none, mgmt := none } }, by decide⟩

-- FaultsEscalate
theorem wit_faultResetTimeout :
    ∃ (cls unit : Nat) (s : State), ((Instr.faultResetTimeout cls unit).wf = true) ∧ (s.hub.faultPending cls unit = true) ∧ (s.hub.pins.d0Reset = false) ∧ (s.hub.get R.YEW_ESC_FATALS + 1 < 2 ^ (R.YEW_ESC_FATALS).width) :=
    ⟨1, 7, stOf { hubOf [(R.RING_STAT_STATE 7, 2), (R.RING_STAT_FAULTED 7, 1)] with pins := { Pins.reset with pwrgood := true, d0Reset := false } }, by decide⟩

theorem wit_mastheadWatchdog :
    ∃ (s : State), (s.hub.pins.d0Reset = false) ∧ (s.hub.get R.YEW_ESC_FATALS + 1 < 2 ^ (R.YEW_ESC_FATALS).width) :=
    ⟨stOf { hubOf [] with pins := { Pins.reset with pwrgood := true, d0Reset := false } }, by decide⟩

theorem wit_lockstepMismatch :
    ∃ (s : State), (s.hub.pins.d0Reset = false) ∧ (s.hub.get R.YEW_ESC_FATALS + 1 < 2 ^ (R.YEW_ESC_FATALS).width) :=
    ⟨stOf { hubOf [] with pins := { Pins.reset with pwrgood := true, d0Reset := false } }, by decide⟩

theorem wit_watchdogExpiry :
    ∃ (cls unit : Nat) (s : State), ((Instr.watchdogExpiry cls unit).wf = true) ∧ (cls = 1) ∧ ((s.hub.ringState unit = 1 ∨ s.hub.ringState unit = 3)) :=
    ⟨1, 7, stOf (hubOf [(R.RING_STAT_STATE 7, 1), (R.RING_CTRL_ENABLE 7, 1)]), by decide⟩

theorem wit_watchdogExpiry_shared :
    ∃ (cls unit : Nat) (s : State), ((Instr.watchdogExpiry cls unit).wf = true) ∧ (faultListed cls = false) ∧ (s.hub.pins.d0Reset = false) :=
    ⟨7, 0, stOf { hubOf [] with pins := { Pins.reset with pwrgood := true, d0Reset := false } }, by decide⟩

end Sys2Proof
end

section
/-!
SUPPORT. Writes of the GLB block by a path that holds it (R14, R16, R29): how an access reaches a register of the block, what a
write of GLB_CTRL and of its neighbour GLB_RST does to LOCK, and the statement that no write of GLB_CTRL returns LOCK to 0.
-/
namespace Sys2Proof

theorem Path.holdsBlocks_iff (p : Path) : p.holdsBlocks = true ↔ p = .pf ∨ p = .masthead := by
  simp [Path.holdsBlocks]

end Sys2Proof

namespace Sys2Proof.Machine

/-! ## From an access to the GLB block -/

/-- The register found at an offset is one of the list searched. -/
theorem findIn_mem {off : Nat} {e : RegSpec × Nat × Nat} :
    ∀ {rs : List RegSpec}, findIn rs off = some e → e.1 ∈ rs
  | [], h => nomatch h
  | r :: rs, h => by
    rw [findIn] at h
    split at h
    · exact Option.some.inj h ▸ List.mem_cons_self
    · exact List.mem_cons_of_mem _ (findIn_mem h)

/-- No register of the GLB block has a hedge-gate level. -/
theorem regsGLB_level : ∀ r ∈ regsGLB, r.level = 0 := by decide

theorem Hub.guarded_of_glb (h : Hub) {off : Nat} (ho : off < 0x10000) : h.guarded off = false := by
  unfold Hub.guarded
  split
  · rfl
  · next r i j hr =>
    have hmem : r ∈ regsGLB := findIn_mem (by simpa only [findReg, regsOf, ho, if_true] using hr)
    simp [regsGLB_level r hmem]

/-- A register that lies in no protected SRAM has no word to correct. -/
theorem Hub.sramMerge_of_unprotected (h : Hub) (req : Nat) {off : Nat} (ho : sramOf off = 0) : h.sramMerge req off = h := by
  simp [Hub.sramMerge, Hub.sramErr, errClass, ho]

theorem sramOf_of_glb {off : Nat} (ho : off < 0x10000) : sramOf off = 0 := by
  unfold sramOf
  iterate 3 rw [if_neg (by omega)]

/-- A write of a register of the GLB block is the block's own write. -/
theorem Chip.writeReg_of_glb (p : Path) {off : Nat} (v : Word) (c : Chip) (ho : off < 0x10000) :
    c.writeReg p off v = ⟨c.hub.glbWrite p off v, c.mem⟩ := by
  unfold Chip.writeReg
  rw [Hub.guarded_of_glb _ ho, Hub.sramMerge_of_unprotected _ _ (sramOf_of_glb ho), if_neg (by decide), if_neg (by omega),
    if_neg (by omega), if_neg (by omega), Hub.blockWrite, if_pos ho]

/-- The PF and Masthead reach every register of BAR0 at its own offset. -/
theorem Hub.place_of_holdsBlocks (h : Hub) {p : Path} {off : Nat} (hp : p.holdsBlocks = true) (ho : off < 0x2000000) :
    h.place p off = .reg off := by
  obtain rfl | rfl := p.holdsBlocks_iff.1 hp
  · exact if_pos ho
  · exact if_pos ho

theorem Chip.writeAt_of_holdsBlocks {p : Path} {off : Nat} (v : Word) (c : Chip) (hp : p.holdsBlocks = true)
    (ho : off < 0x2000000) : c.writeAt p off v = c.writeReg p off v := by
  unfold Chip.writeAt
  rw [Hub.place_of_holdsBlocks c.hub hp ho]
  obtain rfl | rfl := p.holdsBlocks_iff.1 hp
  · rfl
  · rfl

/-- A path that holds the blocks writes a word of the GLB block by the block's own write. -/
theorem Chip.writeAt_glb {p : Path} {off : Nat} (v : Word) (c : Chip) (hp : p.holdsBlocks = true) (ho : off < 0x10000) :
    c.writeAt p off v = ⟨c.hub.glbWrite p off v, c.mem⟩ := by
  rw [Chip.writeAt_of_holdsBlocks v c hp (by omega), Chip.writeReg_of_glb p v c ho]

/-! ## What writes do to LOCK -/

theorem Hub.get_lock_logAccess (kind : Nat) (req : Path) (off v : Nat) (h : Hub) :
    (h.logAccess kind req off v).get R.GLB_CTRL_LOCK = h.get R.GLB_CTRL_LOCK :=
  (Hub.quiet_logAccess kind req off v h).get _ (not_logReg (.inl (by decide)))

theorem Hub.unlocked_iff (h : Hub) : h.unlocked = true ↔ h.get R.GLB_CTRL_LOCK = 0 := by
  simp [Hub.unlocked]

/-- After a write of GLB_CTRL, LOCK is the larger of what it was and the bit written (R16). -/
theorem Hub.get_lock_lockWrite (p : Path) (v : Word) (h : Hub) :
    (h.lockWrite p v).get R.GLB_CTRL_LOCK = max (h.get R.GLB_CTRL_LOCK) (bitsOf v 0 1) := by
  have hl : h.get R.GLB_CTRL_LOCK < 2 := Hub.get_lt h R.GLB_CTRL_LOCK
  have hb : bitsOf v 0 1 < 2 := bitsOf_lt v 0 1
  have hu := h.unlocked_iff
  unfold Hub.lockWrite
  split
  case isTrue locked =>
    rw [Hub.get_lock_logAccess]
    have : h.get R.GLB_CTRL_LOCK ≠ 0 := fun e => by simp [hu.2 e] at locked
    omega
  case isFalse unlocked =>
    have : h.get R.GLB_CTRL_LOCK = 0 := hu.1 (by simpa using unlocked)
    split
    · have : (h.put R.GLB_CTRL_LOCK 1).get R.GLB_CTRL_LOCK = 1 := Hub.get_put_same h _ 1 (by decide)
      omega
    · omega

/-- A write of GLB_RST pends a reset, which comes later; the registers it writes are the log's. -/
theorem Hub.get_lock_rstWrite (p : Path) (v : Word) (h : Hub) :
    (h.rstWrite p v).get R.GLB_CTRL_LOCK = h.get R.GLB_CTRL_LOCK := by
  have ask (kind : Nat) : (h.askReset kind).get R.GLB_CTRL_LOCK = h.get R.GLB_CTRL_LOCK := by
    unfold Hub.askReset
    split <;> rfl
  unfold Hub.rstWrite
  split
  · exact Hub.get_lock_logAccess _ _ _ _ h
  · split
    · exact ask 1
    · split
      · exact ask 2
      · rfl

theorem Hub.get_lock_pfWrite (p : Path) (v : Word) (h : Hub) :
    (h.pfWrite p (Hub.lockWrite p v)).get R.GLB_CTRL_LOCK
      = if p.holdsBlocks then max (h.get R.GLB_CTRL_LOCK) (bitsOf v 0 1) else h.get R.GLB_CTRL_LOCK := by
  unfold Hub.pfWrite
  split
  · exact Hub.get_lock_lockWrite p v h
  · rfl

/-- After an access of any size at GLB_CTRL by a path that holds it, LOCK is the larger of what it was and the bit written; a
narrow access leaves it (R29), and the upper half of a 64-bit one falls on GLB_RST. -/
theorem Chip.get_lock_writeAccess {p : Path} (bits : Nat) (v : DWord) (c : Chip) (hp : p.holdsBlocks = true) :
    (c.writeAccess p (R.GLB_CTRL_LOCK).off bits v).hub.get R.GLB_CTRL_LOCK
      = if 32 ≤ bits ∧ (R.GLB_CTRL_LOCK).off % (bits / 8) = 0
        then max (c.hub.get R.GLB_CTRL_LOCK) (v.toNat % 2) else c.hub.get R.GLB_CTRL_LOCK := by
  have hbit : bitsOf (BitVec.ofNat 32 v.toNat) 0 1 = v.toNat % 2 := by
    simp only [bitsOf, BitVec.toNat_ofNat]
    omega
  have ctrl : (c.writeAt p 0x10 (BitVec.ofNat 32 v.toNat)).hub.get R.GLB_CTRL_LOCK
      = max (c.hub.get R.GLB_CTRL_LOCK) (v.toNat % 2) := by
    rw [Chip.writeAt_glb _ _ hp (by decide), ← hbit]
    exact Hub.get_lock_lockWrite p _ c.hub
  unfold Chip.writeAccess
  split
  case isTrue narrow =>
    have : ¬ (32 ≤ bits ∧ (R.GLB_CTRL_LOCK).off % (bits / 8) = 0) := by omega
    rw [if_neg this]
    exact Hub.get_lock_logAccess _ _ _ _ c.hub
  case isFalse whole =>
    have : 32 ≤ bits ∧ (R.GLB_CTRL_LOCK).off % (bits / 8) = 0 := by omega
    rw [if_pos this]
    split
    · rw [Chip.writeAt_glb _ _ hp (by decide)]
      exact (Hub.get_lock_rstWrite p _ _).trans ctrl
    · exact ctrl

/-- What the rule asks of LOCK (R16), of a bit that is `a` before a write of `b` and `t` after it. -/
theorem bit_rises_only_of_max {q : Prop} [Decidable q] {a b t : Nat} (hb : b < 2) (ht : t = if q then max a b else a) :
    (a = 1 → t = 1) ∧ (b = 0 → t = a) := by
  split at ht <;> omega

/-! ## The statement -/

/-- Settles O15: a write of GLB_CTRL leaves in LOCK the larger of what it held and the bit written, or leaves LOCK alone. -/
theorem lockNeverReturnsToZero : Obligations.LockNeverReturnsToZero := by
  unfold Obligations.LockNeverReturnsToZero
  refine ⟨fun req v s hwf => ?_, fun req bits v s hwf hp => ?_, fun req v s hwf hp hv _ => ?_⟩
  · exact ⟨_, State.act_next hwf _ s, bit_rises_only_of_max (bitsOf_lt v 0 1) (Hub.get_lock_pfWrite req v s.hub)⟩
  · exact ⟨_, State.actMem_next hwf _ s,
      bit_rises_only_of_max (Nat.mod_lt _ (by decide)) (Chip.get_lock_writeAccess bits v ⟨s.hub, s.mem⟩ hp)⟩
  · have hl := Hub.get_lock_pfWrite req v s.hub
    rw [if_pos hp, hv] at hl
    refine ⟨_, State.act_next hwf _ s, Bool.eq_false_iff.2 fun hu => ?_, rfl⟩
    have : max (s.hub.get R.GLB_CTRL_LOCK) 1 = 0 := hl.symm.trans ((Hub.unlocked_iff _).1 hu)
    omega

end Sys2Proof.Machine
end

section
/-!
SUPPORT. Accesses that are not naturally aligned (R29): what a read answers and what a write leaves, for every path and size.
-/
namespace Sys2Proof.Machine

/-- A read that was delivered and took no stale half answers its value, to a site as to every other path (R12, R167). -/
theorem RegRead.answer_of (p : Path) (bits v : Nat) (w : Word) (h : Hub) :
    (RegRead.of w h).answer p bits v = h.send (.readData p v) := by
  cases p with
  | site k => simp [RegRead.answer, RegRead.of, b2n]
  | pf | vf | masthead | tap => rfl

/-- An unaligned read reaches no register: the access is logged, and the answer is 0. -/
theorem Hub.readAnswer_of_unaligned (p : Path) {off bits : Nat} (h : Hub) (hu : off % (bits / 8) ≠ 0) :
    h.readAnswer p off bits = (h.logAccess 0x11 p off 0).send (.readData p 0) := by
  rw [Hub.readAnswer, if_pos hu, RegRead.answer_of]

/-- An unaligned write reaches no register: the access is logged with the low word of the value. -/
theorem Chip.writeAccess_of_unaligned (p : Path) {off bits : Nat} (v : DWord) (c : Chip) (hu : off % (bits / 8) ≠ 0) :
    c.writeAccess p off bits v = ⟨c.hub.logAccess 0x11 p off (BitVec.ofNat 32 v.toNat).toNat, c.mem⟩ :=
  if_pos (.inl hu)

/-- UNALIGNED_ACCESS of a read is the read itself, whatever value it carries. -/
theorem exec_unalignedAccess_read {req : Path} {off bits : Nat} {v : DWord}
    (hwf : (Instr.unalignedAccess req false off bits v).wf = true) (s : State) :
    exec (.unalignedAccess req false off bits v) s = .next { s with hub := s.hub.readAnswer req off bits } :=
  State.actMem_next hwf (fun c => ⟨c.hub.readAnswer req off bits, c.mem⟩) s

/-- UNALIGNED_ACCESS of a write is the write itself. -/
theorem exec_unalignedAccess_write {req : Path} {off bits : Nat} {v : DWord}
    (hwf : (Instr.unalignedAccess req true off bits v).wf = true) (s : State) :
    exec (.unalignedAccess req true off bits v) s
      = .next { s with
          hub := (Chip.writeAccess req off bits v ⟨s.hub, s.mem⟩).hub
          mem := (Chip.writeAccess req off bits v ⟨s.hub, s.mem⟩).mem } :=
  State.actMem_next hwf (Chip.writeAccess req off bits v) s

/-- Settles O16: neither a read nor a write that is unaligned gets past the log to a register. -/
theorem unalignedAccessIsLoggedOnly : Obligations.UnalignedAccessIsLoggedOnly := by
  unfold Obligations.UnalignedAccessIsLoggedOnly
  refine ⟨fun req off bits v s hwf hu => ?read, fun req off bits v s hwf hu => ?write⟩
  case read => exact ⟨_, exec_unalignedAccess_read hwf s, Hub.readAnswer_of_unaligned req s.hub hu, rfl⟩
  case write =>
    have hw := Chip.writeAccess_of_unaligned req v ⟨s.hub, s.mem⟩ hu
    exact ⟨_, exec_unalignedAccess_write hwf s, congrArg Chip.hub hw, congrArg Chip.mem hw⟩

end Sys2Proof.Machine
end

section
/-!
SUPPORT. The registers below the MSI-X table (R107, R123): the GLB block, with the windows GLB_VF_WIN_k, and the blocks after it
up to 0x8000. Each lemma says of one operation that every such word reads as before. First the operations that many others share:
the register file, logs and counters, messages to sites, cleats, a ring's completions and the end of its descriptors.
-/
namespace Sys2Proof.Machine

/-- The words below the MSI-X table in a list of registers; 0 for an offset from the table on. -/
def lowWords (l : List (Nat × Word)) (a : Nat) : Word := if a < 0x8000 then rword l a else 0

/-! ## The register file and runs of an operation -/

/-- A register of an indexed family lies above the low words where the family begins above them. -/
@[simp] theorem high_add (m k : Nat) (hm : 0x8000 ≤ m) : 0x8000 ≤ m + k := Nat.le_add_right_of_le hm

/-- The same for a family with two indices. -/
@[simp] theorem high_add_add (m j k : Nat) (hm : 0x8000 ≤ m) : 0x8000 ≤ m + j + k := high_add _ k (high_add m j hm)

theorem rword_eq_of_lowWords {l m : List (Nat × Word)} {a : Nat} (h : lowWords l = lowWords m) (ha : a < 0x8000) :
    rword l a = rword m a := by
  simpa [lowWords, ha] using congrFun h a

@[simp] theorem lowWords_rset (l : List (Nat × Word)) (a : Nat) (w : Word) (ha : 0x8000 ≤ a) :
    lowWords (rset l a w) = lowWords l := by
  funext b
  unfold lowWords
  split
  · rw [rword_rset_ne _ _ _ _ (by omega)]
  · rfl

@[simp] theorem lowWords_rput (l : List (Nat × Word)) (f : RF) (v : Nat) (hf : 0x8000 ≤ f.off) :
    lowWords (rput l f v) = lowWords l := lowWords_rset l f.off _ hf

/-- An operation that writes only registers of `W` leaves the low words, where all of `W` lies above them. -/
theorem lowWords_eq_of_frame {W : Nat → Prop} {l m : List (Nat × Word)} (hr : ∀ a, ¬ W a → rword m a = rword l a)
    (hW : ∀ a, W a → 0x8000 ≤ a) : lowWords m = lowWords l := by
  funext a
  unfold lowWords
  split
  · next ha => exact hr a fun hw => absurd (hW a hw) (by omega)
  · rfl

theorem Hub.Quiet.lowWords {W : Nat → Prop} {h g : Hub} (x : Hub.Quiet W h g) (hW : ∀ a, W a → 0x8000 ≤ a) :
    Machine.lowWords g.regs = Machine.lowWords h.regs := lowWords_eq_of_frame x.reg hW

theorem Hub.Wide.lowWords {W : Nat → Prop} {h g : Hub} (x : Hub.Wide W h g) (hW : ∀ a, W a → 0x8000 ≤ a) :
    Machine.lowWords g.regs = Machine.lowWords h.regs := lowWords_eq_of_frame x.reg hW

@[simp] theorem Hub.bump_lowWords (h : Hub) (f : RF) (n : Nat) (hf : 0x8000 ≤ f.off) :
    lowWords (h.bump f n).regs = lowWords h.regs := by
  unfold Hub.bump
  split <;> simp [hf]

@[simp] theorem Hub.add64_lowWords (h : Hub) (lo hi n : Nat) (h1 : 0x8000 ≤ lo) (h2 : 0x8000 ≤ hi) :
    lowWords (h.add64 lo hi n).regs = lowWords h.regs := by
  simp [Hub.add64, h1, h2]

/-- The low words of a choice between two hubs, for a choice inside an expression. -/
theorem Hub.ite_lowWords (p : Prop) [Decidable p] (g h : Hub) :
    lowWords (if p then g else h).regs = if p then lowWords g.regs else lowWords h.regs := by
  split <;> rfl

theorem Chip.ite_lowWords (p : Prop) [Decidable p] (c d : Chip) :
    lowWords (if p then c else d).hub.regs = if p then lowWords c.hub.regs else lowWords d.hub.regs := by
  split <;> rfl

theorem Hub.upto_lowWords {n : Nat} {f : Nat → Hub → Hub} (h : Hub)
    (step : ∀ k g, lowWords (f k g).regs = lowWords g.regs) : lowWords (h.upto n f).regs = lowWords h.regs :=
  Hub.upto_rel (Rel := fun g g' => lowWords g'.regs = lowWords g.regs) (fun _ => rfl) (fun _ _ _ x y => y.trans x)
    (fun k _ g => step k g) h

theorem Hub.each_lowWords {α : Type} {l : List α} {f : α → Hub → Hub} (h : Hub)
    (step : ∀ a g, lowWords (f a g).regs = lowWords g.regs) : lowWords (h.each l f).regs = lowWords h.regs :=
  Hub.each_rel (Rel := fun g g' => lowWords g'.regs = lowWords g.regs) (fun _ => rfl) (fun _ _ _ x y => y.trans x)
    (fun a _ g => step a g) h

theorem Chip.each_lowWords {α : Type} {l : List α} {f : α → Chip → Chip} (c : Chip)
    (step : ∀ a d, lowWords (f a d).hub.regs = lowWords d.hub.regs) :
    lowWords (Chip.each l f c).hub.regs = lowWords c.hub.regs := by
  unfold Chip.each
  induction l generalizing c with
  | nil => rfl
  | cons a l ih => exact (ih _).trans (step a c)

/-! ## Logs, counters, vectors and messages to sites -/

theorem logReg_high {a : Nat} (h : logReg a) : 0x8000 ≤ a := by unfold logReg at h; omega

theorem evtReg_high {a : Nat} (h : evtReg a) : 0x8000 ≤ a := by unfold evtReg at h; omega

theorem linkReg_high {a : Nat} (h : linkReg a) : 0x8000 ≤ a := by unfold linkReg at h; omega

theorem judgeReg_high {a : Nat} (h : judgeReg a) : 0x8000 ≤ a := by unfold judgeReg at h; omega

@[simp] theorem Hub.logAccess_lowWords (kind : Nat) (req : Path) (off v : Nat) (h : Hub) :
    lowWords (h.logAccess kind req off v).regs = lowWords h.regs :=
  (Hub.quiet_logAccess kind req off v h).lowWords fun _ => logReg_high

@[simp] theorem Hub.rasLog_lowWords (e : RasEntry) (h : Hub) : lowWords (h.rasLog e).regs = lowWords h.regs :=
  (Hub.quiet_rasLog e h).lowWords fun _ => logReg_high

@[simp] theorem Hub.rasLogWith_lowWords (b : Bool) (e : RasEntry) (h : Hub) :
    lowWords (h.rasLogWith b e).regs = lowWords h.regs := (Hub.quiet_rasLogWith b e h).lowWords fun _ => logReg_high

@[simp] theorem Hub.warn_lowWords (code cls detail unit : Nat) (h : Hub) :
    lowWords (h.warn code cls detail unit).regs = lowWords h.regs :=
  (Hub.quiet_warn code cls detail unit h).lowWords fun _ => logReg_high

@[simp] theorem Hub.countEvents_lowWords (code n : Nat) (h : Hub) :
    lowWords (h.countEvents code n).regs = lowWords h.regs := (Hub.quiet_countEvents h code n).lowWords fun _ => evtReg_high

@[simp] theorem Hub.countEvent_lowWords (code : Nat) (h : Hub) : lowWords (h.countEvent code).regs = lowWords h.regs :=
  Hub.countEvents_lowWords code 1 h

@[simp] theorem Hub.setPending_lowWords (fn vec : Nat) (b : Bool) (h : Hub) :
    lowWords (h.setPending fn vec b).regs = lowWords h.regs := by
  unfold Hub.setPending
  split
  · simp
  · rfl

@[simp] theorem Hub.sendVector_lowWords (fn vec : Nat) (h : Hub) :
    lowWords (h.sendVector fn vec).regs = lowWords h.regs := by
  unfold Hub.sendVector
  split
  · rfl
  · split <;> simp

@[simp] theorem Hub.sendCtl_lowWords (s : Nat) (m : CtlMsg) (h : Hub) : lowWords (h.sendCtl s m).regs = lowWords h.regs :=
  (Hub.wide_sendCtl s m h).lowWords fun _ => linkReg_high

@[simp] theorem Hub.cltAns_lowWords (s tag result value : Nat) (h : Hub) :
    lowWords (h.cltAns s tag result value).regs = lowWords h.regs := Hub.sendCtl_lowWords s _ h

@[simp] theorem Hub.sendReq_lowWords (s msg : Nat) (body : List Byte) (h : Hub) :
    lowWords (h.sendReq s msg body).regs = lowWords h.regs := Hub.sendCtl_lowWords s _ _

/-! ## Cleats -/

@[simp] theorem Hub.cleatSet_lowWords (n v : Nat) (h : Hub) : lowWords (h.cleatSet n v).regs = lowWords h.regs := by
  rw [(Hub.wide_cleatSet n v h).lowWords fun _ => judgeReg_high]
  simp

@[simp] theorem Hub.cleatAdd_lowWords (n v : Nat) (h : Hub) : lowWords (h.cleatAdd n v).regs = lowWords h.regs :=
  Hub.cleatSet_lowWords n _ h

@[simp] theorem Hub.dropWaits_lowWords (p : Wait → Bool) (h : Hub) : lowWords (h.dropWaits p).regs = lowWords h.regs := by
  simp [Hub.dropWaits, Hub.showWaiters]

/-! ## A ring's completions (R117 to R121) -/

@[simp] theorem Hub.moderate_lowWords (n status : Nat) (h : Hub) : lowWords (h.moderate n status).regs = lowWords h.regs := by
  have fire (g : Hub) : lowWords (g.fire n).regs = lowWords g.regs := Hub.sendVector_lowWords _ _ _
  unfold Hub.moderate
  split
  · rfl
  · dsimp only
    split
    · exact fire _
    · split <;> rfl

@[simp] theorem Hub.writeCpl_lowWords (n : Nat) (c : Cpl) (h : Hub) : lowWords (h.writeCpl n c).regs = lowWords h.regs := by
  simp [Hub.writeCpl, Hub.setUsed]

@[simp] theorem Hub.pushCpl_lowWords (n : Nat) (c : Cpl) (h : Hub) : lowWords (h.pushCpl n c).regs = lowWords h.regs := by
  unfold Hub.pushCpl
  split
  · split <;> simp
  · rfl

/-! ## The end of a descriptor (R140, R143, R146, R151) -/

@[simp] theorem Hub.showPools_lowWords (h : Hub) : lowWords h.showPools.regs = lowWords h.regs :=
  Hub.upto_lowWords h fun _ _ => by simp

@[simp] theorem Hub.showTail_lowWords (n : Nat) (h : Hub) : lowWords (h.showTail n).regs = lowWords h.regs := by
  unfold Hub.showTail
  dsimp only
  split <;> simp

@[simp] theorem Hub.signal_lowWords (b : List Byte) (h : Hub) : lowWords (h.signal b).regs = lowWords h.regs := by
  unfold Hub.signal
  split <;> simp

@[simp] theorem Hub.settle_lowWords (d : Desc) (energy : Nat) (h : Hub) :
    lowWords (h.settle d energy).regs = lowWords h.regs := by
  unfold Hub.settle
  split
  · rfl
  · simp [Hub.countEnergy, Hub.setBalance]

@[simp] theorem Hub.endDesc_lowWords (n : Nat) (d : Desc) (status result energy : Nat) (h : Hub) :
    lowWords (h.endDesc n d status result energy).regs = lowWords h.regs := by
  unfold Hub.endDesc
  split <;> simp [Hub.ite_lowWords]

@[simp] theorem Hub.closeBound_lowWords (n : Nat) (h : Hub) : lowWords (h.closeBound n).regs = lowWords h.regs := by
  unfold Hub.closeBound
  dsimp only
  split
  · rfl
  · split
    · rfl
    · split <;> simp

@[simp] theorem Hub.finish_lowWords (n : Nat) (d : Desc) (status result energy : Nat) (h : Hub) :
    lowWords (h.finish n d status result energy).regs = lowWords h.regs := by
  simp [Hub.finish]

@[simp] theorem Hub.freePeak_lowWords (b : List Byte) (h : Hub) : lowWords (h.freePeak b).regs = lowWords h.regs := by
  unfold Hub.freePeak Hub.judgePeak
  split <;> simp

@[simp] theorem Hub.finishId_lowWords (n id status result : Nat) (h : Hub) :
    lowWords (h.finishId n id status result).regs = lowWords h.regs := by
  unfold Hub.finishId
  split
  · rfl
  · split
    · simp
    · split <;> simp

end Sys2Proof.Machine
end

section
/-!
SUPPORT. The registers below the MSI-X table under the accesses of stored data (R102, R171, R203 to R232) and under the directory
(R174 to R185): reads, writes and recalls write none of them.
-/
namespace Sys2Proof.Machine

/-! ## Reads and writes of stored data -/

@[simp] theorem Hub.countBytes_lowWords (write : Bool) (sp base : Nat) (h : Hub) :
    lowWords (h.countBytes write sp base).regs = lowWords h.regs := by
  unfold Hub.countBytes
  split
  · dsimp only
    split <;> simp
  · rfl

@[simp] theorem Hub.track_lowWords (limit unit addr : Nat) (h : Hub) :
    lowWords (h.track limit unit addr).2.2.regs = lowWords h.regs := by
  unfold Hub.track
  dsimp only
  split
  · simp
  · split
    · simp
    · split <;> simp

@[simp] theorem Hub.countCe_lowWords (sp base : Nat) (h : Hub) : lowWords (h.countCe sp base).regs = lowWords h.regs := by
  unfold Hub.countCe
  split <;> simp

@[simp] theorem Hub.logCe_lowWords (req sp base detail : Nat) (h : Hub) :
    lowWords (h.logCe req sp base detail).regs = lowWords h.regs := by
  simp [Hub.logCe]

@[simp] theorem Hub.logUe_lowWords (req sp base : Nat) (latent : Bool) (h : Hub) :
    lowWords (h.logUe req sp base latent).regs = lowWords h.regs := by
  unfold Hub.logUe
  split
  · simp
  · split <;> simp

@[simp] theorem Hub.logPoison_lowWords (req sp base : Nat) (h : Hub) :
    lowWords (h.logPoison req sp base).regs = lowWords h.regs := by
  simp [Hub.logPoison]

@[simp] theorem Hub.setQueue_lowWords (p : Nat) (l : List MemReq) (h : Hub) :
    lowWords (h.setQueue p l).regs = lowWords h.regs := by
  simp [Hub.setQueue]

@[simp] theorem Hub.enter_lowWords (q : MemReq) (h : Hub) : lowWords (h.enter q).regs = lowWords h.regs := by
  unfold Hub.enter
  rw [Hub.setQueue_lowWords, Hub.ite_lowWords, ite_self]

@[simp] theorem Hub.request_lowWords (q : MemReq) (h : Hub) : lowWords (h.request q).regs = lowWords h.regs := by
  unfold Hub.request
  split
  · simp
  · split
    · simp [Hub.payEnter]
    · rfl

@[simp] theorem Hub.enqueue_lowWords (write : Bool) (req m sp a n : Nat) (h : Hub) :
    lowWords (h.enqueue write req m sp a n).regs = lowWords h.regs := by
  unfold Hub.enqueue
  split
  · exact Hub.upto_lowWords h fun _ g => Hub.request_lowWords _ g
  · rfl

@[simp] theorem Chip.readCw_lowWords (req : Nat) (latent : Bool) (sp base : Nat) (c : Chip) :
    lowWords (c.readCw req latent sp base).chip.hub.regs = lowWords c.hub.regs := by
  unfold Chip.readCw
  dsimp only
  split
  · simp
  · simp
  · simp
  · split <;> simp

@[simp] theorem Chip.readCws_lowWords (req sp k base : Nat) (c : Chip) :
    lowWords (Chip.readCws req sp k base c).chip.hub.regs = lowWords c.hub.regs := by
  induction k generalizing base c with
  | zero => rfl
  | succ k ih =>
    unfold Chip.readCws
    dsimp only
    split <;> simp [ih]

@[simp] theorem Chip.read_lowWords (req sp a n : Nat) (c : Chip) :
    lowWords (c.read req sp a n).chip.hub.regs = lowWords c.hub.regs := by
  unfold Chip.read
  split
  · rfl
  · simp

@[simp] theorem Chip.writeCw_lowWords (req sp base at_ : Nat) (bs : List Byte) (c : Chip) :
    lowWords (c.writeCw req sp base at_ bs).chip.hub.regs = lowWords c.hub.regs := by
  unfold Chip.writeCw
  dsimp only
  split
  · simp
  · split
    · simp
    · simp
    · simp
    · split <;> simp

@[simp] theorem Chip.writeCws_lowWords (req sp k a : Nat) (bs : List Byte) (c : Chip) :
    lowWords (Chip.writeCws req sp k a bs c).chip.hub.regs = lowWords c.hub.regs := by
  induction k generalizing a bs c with
  | zero => rfl
  | succ k ih =>
    unfold Chip.writeCws
    simp [ih]

@[simp] theorem Chip.flipFire_lowWords (req sp base : Nat) (c : Chip) :
    lowWords (c.flipFire req sp base).hub.regs = lowWords c.hub.regs :=
  (Hub.rasLog_lowWords _ _).trans (by simp)

@[simp] theorem Chip.writeAs_lowWords (m req sp a : Nat) (bs : List Byte) (c : Chip) :
    lowWords (c.writeAs m req sp a bs).chip.hub.regs = lowWords c.hub.regs := by
  unfold Chip.writeAs
  split
  · rfl
  · dsimp only
    split <;> simp

@[simp] theorem Chip.writePiecesAs_lowWords (m req sp : Nat) (l : List (Nat × List Byte)) (c : Chip) :
    lowWords (c.writePiecesAs m req sp l).chip.hub.regs = lowWords c.hub.regs := by
  induction l generalizing c with
  | nil => rfl
  | cons p ps ih =>
    unfold Chip.writePiecesAs
    simp [ih]

@[simp] theorem Chip.writePieces_lowWords (req sp : Nat) (l : List (Nat × List Byte)) (c : Chip) :
    lowWords (c.writePieces req sp l).chip.hub.regs = lowWords c.hub.regs := Chip.writePiecesAs_lowWords _ _ _ _ _

/-! ## The directory's own state -/

@[simp] theorem Hub.setEntry_lowWords (i e : Nat) (h : Hub) : lowWords (h.setEntry i e).regs = lowWords h.regs := by
  simp [Hub.setEntry, Hub.onDir]

@[simp] theorem Hub.setTxn_lowWords (t : DirTxn) (h : Hub) : lowWords (h.setTxn t).regs = lowWords h.regs := by
  simp [Hub.setTxn, Hub.showWalk, Hub.onDir]

@[simp] theorem Hub.queueBehind_lowWords (l : Nat) (q : List DirReq) (h : Hub) :
    lowWords (h.queueBehind l q).regs = lowWords h.regs := by
  unfold Hub.queueBehind
  split
  · split <;> simp
  · rfl

@[simp] theorem Hub.recall_lowWords (l mask : Nat) (inv : Bool) (h : Hub) :
    lowWords (h.recall l mask inv).regs = lowWords h.regs := by
  refine Hub.upto_lowWords h fun s g => ?_
  split <;> simp

@[simp] theorem Hub.dropOwn_lowWords (r : DirReq) (i : Nat) (h : Hub) :
    lowWords (h.dropOwn r i).regs = lowWords h.regs := by
  unfold Hub.dropOwn
  split <;> simp

@[simp] theorem Hub.showQuery_lowWords (h : Hub) : lowWords h.showQuery.regs = lowWords h.regs := by
  unfold Hub.showQuery
  split
  · rfl
  · dsimp only
    split <;> simp

@[simp] theorem Hub.cltApply_lowWords (x : CltHeld) (h : Hub) : lowWords (h.cltApply x).regs = lowWords h.regs := by
  unfold Hub.cltApply Hub.cltOp Hub.cltDone
  split
  · dsimp only
    split <;> simp
  · simp

@[simp] theorem Chip.shown_lowWords (c : Chip) : lowWords c.shown.hub.regs = lowWords c.hub.regs := by
  have release : lowWords c.hub.cltRelease.regs = lowWords c.hub.regs := by
    unfold Hub.cltRelease
    dsimp only
    split
    · exact Hub.each_lowWords _ fun x g => Hub.cltApply_lowWords x g
    · rfl
  exact (Hub.showQuery_lowWords _).trans release

/-! ## Serving a request -/

@[simp] theorem Chip.grant_lowWords (s msg tag l : Nat) (bare : Bool) (c : Chip) :
    lowWords (c.grant s msg tag l bare).hub.regs = lowWords c.hub.regs := by
  unfold Chip.grant
  split <;> simp

@[simp] theorem Hub.ncAnswer_lowWords (a : NcAcc) (data : List Byte) (h : Hub) :
    lowWords (h.ncAnswer a data).regs = lowWords h.regs := by
  unfold Hub.ncAnswer
  split
  · split
    · rfl
    · split <;> rfl
  · dsimp only
    split <;> simp
  · rfl

@[simp] theorem Hub.ncDone_lowWords (id : Nat) (h : Hub) : lowWords (h.ncDone id).regs = lowWords h.regs := by
  unfold Hub.ncDone
  split
  · rfl
  · split
    · exact Hub.ncAnswer_lowWords _ _ _
    · rfl

theorem Chip.inEpoch_lowWords (e l : Nat) {f : Chip → Chip} (c : Chip)
    (hf : ∀ d, lowWords (f d).hub.regs = lowWords d.hub.regs) :
    lowWords (Chip.inEpoch e l f c).hub.regs = lowWords c.hub.regs := by
  unfold Chip.inEpoch
  split
  · exact hf c
  · exact hf _

@[simp] theorem Chip.ncPart_lowWords (id l : Nat) (c : Chip) :
    lowWords (c.ncPart id l).hub.regs = lowWords c.hub.regs := by
  unfold Chip.ncPart
  split
  · rfl
  · refine Chip.inEpoch_lowWords _ _ c fun d => ?_
    dsimp only
    split
    · exact (Hub.ncDone_lowWords _ _).trans (Chip.writePieces_lowWords _ _ _ d)
    · exact (Hub.ncDone_lowWords _ _).trans (Chip.read_lowWords _ _ _ _ d)

@[simp] theorem Chip.dirGrant_lowWords (r : DirReq) (l i : Nat) (bare : Bool) (c : Chip) :
    lowWords (c.dirGrant r l i bare).hub.regs = lowWords c.hub.regs := by
  unfold Chip.dirGrant
  dsimp only
  split
  · simp
  · simp
  · simp
  · split <;> simp
  · split <;> simp
  · simp

@[simp] theorem Chip.dirServe_lowWords (l i : Nat) (r : DirReq) (c : Chip) :
    lowWords (c.dirServe l i r).hub.regs = lowWords c.hub.regs := by
  unfold Chip.dirServe
  split
  · simp [Hub.notCoherent]
  · dsimp only
    split <;> simp

@[simp] theorem Chip.dirArrive_lowWords (l i : Nat) (r : DirReq) (c : Chip) :
    lowWords (c.dirArrive l i r).hub.regs = lowWords c.hub.regs := by
  unfold Chip.dirArrive
  split <;> simp

@[simp] theorem Chip.dirRecover_lowWords (i : Nat) (c : Chip) : lowWords (c.dirRecover i).hub.regs = lowWords c.hub.regs := by
  unfold Chip.dirRecover
  split <;> simp

@[simp] theorem Chip.dirCheck_lowWords (req w : Nat) (c : Chip) :
    lowWords (c.dirCheck req w).hub.regs = lowWords c.hub.regs := by
  have recover (k : Nat) (m : Mem) (h : Hub) : lowWords (Chip.each ((List.range 8).map fun j => dirIndex k (8 * (w % 8192) + j))
      Chip.dirRecover ⟨h, m⟩).hub.regs = lowWords h.regs :=
    Chip.each_lowWords _ Chip.dirRecover_lowWords
  unfold Chip.dirCheck
  dsimp only
  split
  · rfl
  · simp [Hub.onDir]
  · simp [recover, Hub.onDir]
  · split
    · simp [recover, Hub.onDir]
    · rw [Hub.each_lowWords _ fun _ _ => by simp]
      simp [Hub.onDir]

/-! ## Requests of the hub itself -/

@[simp] theorem Chip.dirSettle_lowWords (l i n : Nat) (clash : Bool) (q : List DirReq) (c : Chip) :
    lowWords (Chip.dirSettle l i n clash q c).hub.regs = lowWords c.hub.regs := by
  induction n generalizing clash q c with
  | zero => rfl
  | succ n ih =>
    unfold Chip.dirSettle
    dsimp only
    split
    · rfl
    · split <;> split <;> simp [ih]

@[simp] theorem Chip.dirGather_lowWords (req l i : Nat) (r : DirReq) (c : Chip) :
    lowWords (c.dirGather req l i r).hub.regs = lowWords c.hub.regs := by
  unfold Chip.dirGather
  dsimp only
  split <;> simp [Hub.onDir]

@[simp] theorem Chip.decided_lowWords (more : Bool) (c : Chip) : lowWords (c.decided more).hub.regs = lowWords c.hub.regs := by
  unfold Chip.decided
  split
  · rfl
  · rw [Chip.shown_lowWords, Chip.each_lowWords]
    · rfl
    · intro l d
      split <;> simp

@[simp] theorem Chip.probe_lowWords (req : Nat) (write : Bool) (off n : Nat) (c : Chip) :
    lowWords (c.probe req write off n).hub.regs = lowWords c.hub.regs := by
  refine Chip.each_lowWords c fun l d => ?_
  split
  · rfl
  · rw [Chip.ite_lowWords]
    simp [Chip.dirRequest]

@[simp] theorem Chip.ncAccess_lowWords (more : Bool) (a : NcAcc) (c : Chip) :
    lowWords (c.ncAccess more a).hub.regs = lowWords c.hub.regs := by
  unfold Chip.ncAccess
  split
  · split <;> simp
  · dsimp only
    rw [Chip.decided_lowWords, Chip.each_lowWords]
    · rfl
    · intro l d
      split <;> simp

end Sys2Proof.Machine
end

section
/-!
SUPPORT. The registers below the MSI-X table under Spar's queue (R327 to R343), under streams that close, and under a reset of a
ring or of a function (R125, R126): none of them is written.
-/
namespace Sys2Proof.Machine

/-! ## Contexts of Spar -/

@[simp] theorem Hub.setCtx_lowWords (k : Nat) (x : SparCtx) (h : Hub) : lowWords (h.setCtx k x).regs = lowWords h.regs := by
  simp [Hub.setCtx, Hub.showSpar]

@[simp] theorem Hub.onCtx_lowWords (k : Nat) (f : SparCtx → SparCtx) (h : Hub) :
    lowWords (h.onCtx k f).regs = lowWords h.regs := Hub.setCtx_lowWords k _ h

@[simp] theorem Hub.popOp_lowWords (k : Nat) (h : Hub) : lowWords (h.popOp k).regs = lowWords h.regs :=
  Hub.onCtx_lowWords k _ h

@[simp] theorem Hub.endOp_lowWords (k : Nat) (o : SparOp) (status result : Nat) (h : Hub) :
    lowWords (h.endOp k o status result).regs = lowWords h.regs := Hub.popOp_lowWords k h

@[simp] theorem Hub.spreadTiles_lowWords (n : Nat) (h : Hub) : lowWords (h.spreadTiles n).regs = lowWords h.regs := by
  induction n generalizing h with
  | zero => rfl
  | succ n ih =>
    unfold Hub.spreadTiles
    split
    · rfl
    · dsimp only
      split
      · rfl
      · simp [ih]

@[simp] theorem Hub.factorDone_lowWords (k : Nat) (r : RunRec) (h : Hub) :
    lowWords (h.factorDone k r).regs = lowWords h.regs := by
  simp [Hub.factorDone, Hub.draw]

@[simp] theorem Hub.runStop_lowWords (k : Nat) (r : RunRec) (h : Hub) :
    lowWords (h.runStop k r).2.regs = lowWords h.regs := by
  unfold Hub.runStop
  dsimp only [Hub.draw]
  rw [apply_ite Prod.snd, Hub.ite_lowWords]
  simp [Hub.ite_lowWords]

/-! ## Operations that begin -/

@[simp] theorem Chip.sparProbe_lowWords (k : Nat) (write : Bool) (l : List (Nat × Nat)) (c : Chip) :
    lowWords (c.sparProbe k write l).hub.regs = lowWords c.hub.regs :=
  (Chip.shown_lowWords _).trans (Chip.each_lowWords c fun _ d => Chip.probe_lowWords _ _ _ _ d)

@[simp] theorem Chip.sparRead_lowWords (k : Nat) (e : Nat × Nat) (c : Chip) :
    lowWords (c.sparRead k e).2.hub.regs = lowWords c.hub.regs := by
  unfold Chip.sparRead
  split <;> simp

theorem Chip.lowWords_of_sparRead {k : Nat} {e : Nat × Nat} {b : Option (List Byte)} {c d : Chip}
    (hr : c.sparRead k e = (b, d)) : lowWords d.hub.regs = lowWords c.hub.regs := by
  rw [← Chip.sparRead_lowWords k e c, hr]

@[simp] theorem Chip.sparWrite_lowWords (k a : Nat) (bs : List Byte) (c : Chip) :
    lowWords (c.sparWrite k a bs).chip.hub.regs = lowWords c.hub.regs := by
  unfold Chip.sparWrite
  split
  · exact Chip.ncAccess_lowWords _ _ c
  · simp

@[simp] theorem Chip.runOver_lowWords (k : Nat) (o : SparOp) (e : RunEnd) (out : Option (List Byte)) (extra : Nat) (c : Chip) :
    lowWords (c.runOver k o e out extra).hub.regs = lowWords c.hub.regs := by
  unfold Chip.runOver
  split
  · simp
  · dsimp only
    split <;> simp

@[simp] theorem Chip.storeLost_lowWords (k : Nat) (o : SparOp) (c : Chip) :
    lowWords (c.storeLost k o).hub.regs = lowWords c.hub.regs := by
  simp [Chip.storeLost]

@[simp] theorem Chip.setupBegin_lowWords (k : Nat) (o : SparOp) (d : Desc) (c : Chip) :
    lowWords (c.setupBegin k o d).hub.regs = lowWords c.hub.regs := by
  unfold Chip.setupBegin
  dsimp only
  split
  · simp
  · split
    · next hr => simp [Chip.lowWords_of_sparRead hr]
    · next hr => split <;> simp [Chip.lowWords_of_sparRead hr]

@[simp] theorem Chip.patchGo_lowWords (k : Nat) (o : SparOp) (d : Desc) (c : Chip) :
    lowWords (c.patchGo k o d).hub.regs = lowWords c.hub.regs := by
  unfold Chip.patchGo
  dsimp only
  split
  · simp
  · split
    · simp
    · split
      · next hr => simp [Chip.lowWords_of_sparRead hr]
      · next hr =>
        have read := Chip.lowWords_of_sparRead hr
        split
        · simp [read]
        · split
          · simp [read]
          · split <;> simp [read]

@[simp] theorem Chip.runBegin_lowWords (k : Nat) (o : SparOp) (d : Desc) (r : RunRec) (c : Chip) :
    lowWords (c.runBegin k o d r).hub.regs = lowWords c.hub.regs := by
  unfold Chip.runBegin
  dsimp only
  split
  · simp
  · split
    · simp
    · split <;> simp

@[simp] theorem Chip.opBegin_lowWords (k : Nat) (o : SparOp) (c : Chip) :
    lowWords (c.opBegin k o).hub.regs = lowWords c.hub.regs := by
  unfold Chip.opBegin
  dsimp only
  split
  · simp
  · split
    · simp
    · split
      · simp
      · split <;> simp

@[simp] theorem Chip.sparServe_lowWords (n : Nat) (c : Chip) : lowWords (c.sparServe n).hub.regs = lowWords c.hub.regs := by
  induction n generalizing c with
  | zero => exact Hub.spreadTiles_lowWords _ _
  | succ n ih =>
    unfold Chip.sparServe
    split
    · simp
    · split <;> simp [ih]

/-- Stopping a ring's solver operations leaves the low words. -/
@[simp] theorem Chip.sparDropRing_lowWords (n : Nat) (c : Chip) : lowWords (c.sparDropRing n).hub.regs = lowWords c.hub.regs := by
  unfold Chip.sparDropRing Chip.sparGo
  rw [Chip.sparServe_lowWords]
  refine Hub.upto_lowWords c.hub fun k g => ?_
  split
  · rfl
  · rw [Hub.ite_lowWords, Hub.onCtx_lowWords, ite_self]
    split
    · split
      · simp
      · split <;> simp
    · rfl

/-! ## Streams that close -/

@[simp] theorem Hub.endOpen_lowWords (s : Nat) (t : Stream) (status : Nat) (h : Hub) :
    lowWords (h.endOpen s t status).regs = lowWords h.regs := Hub.finishId_lowWords _ _ _ _ _

@[simp] theorem Hub.sendClose_lowWords (s : Nat) (t : Stream) (mode err : Nat) (h : Hub) :
    lowWords (h.sendClose s t mode err).regs = lowWords h.regs := Hub.sendReq_lowWords _ _ _ _

@[simp] theorem Hub.stopAtBoundary_lowWords (n id : Nat) (h : Hub) :
    lowWords (h.stopAtBoundary n id).regs = lowWords h.regs :=
  Hub.upto_lowWords h fun _ g => Hub.each_lowWords g fun _ _ => by simp

/-! ## Ring reset and function-level reset (R125, R126) -/

@[simp] theorem Hub.unlinkRing_lowWords (n : Nat) (h : Hub) : lowWords (h.unlinkRing n).regs = lowWords h.regs :=
  Hub.upto_lowWords h fun _ _ => rfl

@[simp] theorem Hub.laneForget_lowWords (n id : Nat) (h : Hub) : lowWords (h.laneForget n id).regs = lowWords h.regs := by
  refine Hub.upto_lowWords h fun p g => ?_
  split <;> rfl

@[simp] theorem Chip.resetRing_lowWords (n : Nat) (zeroGen : Bool) (c : Chip) :
    lowWords (c.resetRing n zeroGen).hub.regs = lowWords c.hub.regs := by
  unfold Chip.resetRing
  dsimp only
  rw [Hub.showPools_lowWords, Hub.showTail_lowWords, Hub.each_lowWords _ fun d g => by simp,
    Hub.each_lowWords _ fun d g => by simp, Chip.sparDropRing_lowWords]
  simp

@[simp] theorem Chip.startReset_lowWords (n : Nat) (zeroGen : Bool) (c : Chip) :
    lowWords (c.startReset n zeroGen).hub.regs = lowWords c.hub.regs := by
  unfold Chip.startReset
  split
  · simp
  · split <;> rfl

@[simp] theorem Chip.resetRingsOf_lowWords (fn : Nat) (c : Chip) :
    lowWords (c.resetRingsOf fn).hub.regs = lowWords c.hub.regs := by
  refine Chip.each_lowWords c fun n d => ?_
  split
  · rfl
  · split <;> simp

@[simp] theorem Hub.clearFn_lowWords (fn : Nat) (h : Hub) : lowWords (h.clearFn fn).regs = lowWords h.regs := by
  unfold Hub.clearFn
  dsimp only
  split
  · rw [Hub.upto_lowWords _ fun _ _ => by simp, Hub.upto_lowWords _ fun _ _ => by simp]
  · rfl

/-- A function-level reset leaves every register below the MSI-X table. -/
theorem Chip.resetFn_lowWords (fn : Nat) (c : Chip) : lowWords (c.resetFn fn).hub.regs = lowWords c.hub.regs :=
  (Hub.clearFn_lowWords fn _).trans (Chip.resetRingsOf_lowWords fn c)

end Sys2Proof.Machine
end

section
/-!
The statement on the VF windows (R107): what a write of a word of GLB_VF_WIN_k does while every ring of VF k is disabled and at
other times, and that a reset of the VF keeps the four words.
-/
namespace Sys2Proof.Machine

/-- The words of GLB_VF_WIN_k lie below the MSI-X table. -/
theorem vfWin_low {k w : Nat} (hk : k < 31) (hw : w < 4) : 0x200 + 0x10 * k + 4 * w < 0x8000 := by omega

/-- By a path that holds the block the command is the write of the window's word. -/
theorem exec_vfWindowWrite {req : Path} {k w : Nat} {v : Word} (s : State) (hwf : (Instr.vfWindowWrite req k w v).wf = true)
    (hp : req.holdsBlocks = true) :
    exec (.vfWindowWrite req k w v) s = .next { s with hub := s.hub.vfWinWrite req k w v } := by
  have run : exec (.vfWindowWrite req k w v) s = .next { s with hub := s.hub.pfWrite req (Hub.vfWinWrite req k w v) } :=
    State.act_next hwf _ s
  rw [run, Hub.pfWrite, if_pos hp]

theorem Hub.vfWinWrite_of_idle (req : Path) {k : Nat} (w : Nat) (v : Word) {h : Hub} (hi : h.vfIdle k = true) :
    h.vfWinWrite req k w v = h.setReg (0x200 + 0x10 * k + 4 * w) (v &&& vfWinMask w) := if_pos hi

theorem Hub.vfWinWrite_of_busy (req : Path) {k : Nat} (w : Nat) (v : Word) {h : Hub} (hi : h.vfIdle k = false) :
    h.vfWinWrite req k w v = h.logAccess 0x13 req (0x200 + 0x10 * k + 4 * w) v.toNat := if_neg (by simp [hi])

/-- Settles O17: an accepted write is the word's store, an ignored one is its record in the log, and a function-level reset
writes no register below the MSI-X table. -/
theorem vfWindowWrittenOnlyWhileIdle : Obligations.VfWindowWrittenOnlyWhileIdle := by
  unfold Obligations.VfWindowWrittenOnlyWhileIdle
  refine ⟨fun req k w v s hwf hp hidle => ?_, fun req k w v s hwf hp hbusy => ?_, fun k w s hwf hw => ?_⟩
  · refine ⟨_, exec_vfWindowWrite s hwf hp, ?_⟩
    rw [Hub.vfWinWrite_of_idle req w v hidle]
    exact Hub.reg_setReg_same _ _ _
  · obtain ⟨⟨-, hk⟩, hw⟩ : (req.wf = true ∧ k < 31) ∧ w < 4 := by simpa [Instr.wf, Ok.vfWindowWrite] using hwf
    have logged := Hub.vfWinWrite_of_busy req w v hbusy
    refine ⟨_, exec_vfWindowWrite s hwf hp, ?_, logged⟩
    rw [logged]
    exact rword_eq_of_lowWords (Hub.logAccess_lowWords _ _ _ _ _) (vfWin_low hk hw)
  · have hk : k < 31 := by simpa [Instr.wf, Ok.vfFlr] using hwf
    have kept := Chip.resetFn_lowWords (k + 1) ⟨s.hub, s.mem⟩
    exact ⟨_, State.actMem_next hwf _ s, rword_eq_of_lowWords kept (vfWin_low hk hw)⟩

end Sys2Proof.Machine
end

section
/-!
The statement on cleats (R161): what a write of CLT_n.VALUE and of CLT_n.ADD leaves in the cleat, and what a PF read of
CLT_n.VALUE answers.
-/
namespace Sys2Proof.Machine

/-- The cleats' values fill the first 32 KiB of the CLT block (R27). -/
theorem cltValue_off {n : Nat} (hn : n < 4096) : 0x120000 ≤ (R.CLT_VALUE n).off ∧ (R.CLT_VALUE n).off < 0x128000 := by
  simp only
  omega

/-! ## Writing a cleat -/

/-- Judging the waits writes no cleat, so the value set stays. -/
theorem Hub.get_cleatSet_same {n : Nat} (v : Nat) (h : Hub) (hn : n < 4096) :
    (h.cleatSet n v).get (R.CLT_VALUE n) = v % 2 ^ 32 := by
  obtain ⟨lo, hi⟩ := cltValue_off hn
  exact (Hub.cleatSet_rget n v h _ (by omega)).trans (Hub.get_put_same h _ v (Nat.le_refl 32))

/-- A block write by a path that holds the block answers with the operation of the hub. -/
theorem State.act_pfWrite_next {ok : Bool} {req : Path} (hk : ok = true) (hp : req.holdsBlocks = true) (f : Hub → Hub)
    (s : State) : s.act ok (Hub.pfWrite req f) = .next { s with hub := f s.hub } := by
  rw [State.act_next hk, Hub.pfWrite, if_pos hp]

theorem exec_cltSet {req : Path} {n : Nat} {v : Word} (s : State) (hwf : (Instr.cltSet req n v).wf = true)
    (hp : req.holdsBlocks = true) : exec (.cltSet req n v) s = .next { s with hub := s.hub.cleatSet n v.toNat } :=
  State.act_pfWrite_next hwf hp (Hub.cleatSet n v.toNat) s

theorem exec_cltAdd {req : Path} {n : Nat} {v : Word} (s : State) (hwf : (Instr.cltAdd req n v).wf = true)
    (hp : req.holdsBlocks = true) : exec (.cltAdd req n v) s = .next { s with hub := s.hub.cleatAdd n v.toNat } :=
  State.act_pfWrite_next hwf hp (Hub.cleatAdd n v.toNat) s

/-! ## Reading a cleat -/

/-- The row of CLT_n.VALUE in the register table of the CLT block. -/
def cltValueSpec : RegSpec := regsCLT[0]

theorem findReg_cltValue {n : Nat} (hn : n < 4096) : findReg (R.CLT_VALUE n).off = some (cltValueSpec, n, 0) := by
  have block : regsOf (0x120000 + 8 * n) = regsCLT := by
    unfold regsOf
    iterate 8 rw [if_neg (by omega)]
    exact if_pos (by omega)
  have row : cltValueSpec.at? (0x120000 + 8 * n) = some (n, 0) := by
    simp [RegSpec.at?, cltValueSpec, regsCLT, hn]
    omega
  rw [findReg, block]
  change findIn (cltValueSpec :: regsCLT.tail) _ = _
  rw [findIn, row]

/-- No hedge-gate level protects a cleat's value (R14). -/
theorem Hub.guarded_cltValue {n : Nat} (h : Hub) (hn : n < 4096) : h.guarded (R.CLT_VALUE n).off = false := by
  rw [Hub.guarded, findReg_cltValue hn]
  rfl

/-- CLT_n.VALUE has no write-only bit, so a read shows the whole word. -/
theorem maskOf_wo_cltValue {n : Nat} (hn : n < 4096) : maskOf (R.CLT_VALUE n).off (fun f => f.acc == .wo) = 0 := by
  rw [maskOf, findReg_cltValue hn]
  rfl

theorem inStride_eq_false_of_lt {off base : Nat} (stride n at_ : Nat) (ho : off < base) :
    inStride off base stride n at_ = false := by
  simp [inStride, Nat.not_le.2 ho]

/-- Between the RING and the TIME blocks no register is half of a 64-bit one (R167). -/
theorem isLowHalf_eq_false {off : Nat} (h₁ : 0x110000 ≤ off) (h₂ : off < 0x130000) : isLowHalf off = false := by
  simp [isLowHalf, inStride]
  omega

/-- A cleat's register shows the value it holds. -/
theorem Hub.live_cltValue {n : Nat} (h : Hub) (hn : n < 4096) : h.live (R.CLT_VALUE n).off = h.reg (R.CLT_VALUE n).off := by
  obtain ⟨lo, hi⟩ := cltValue_off hn
  unfold Hub.live
  rw [if_neg (by omega), if_neg (by omega), if_neg (by omega),
    inStride_eq_false_of_lt _ _ _ (by omega), maskOf_wo_cltValue hn, if_neg (by simp)]
  exact BitVec.and_allOnes

/-- A read of a cleat whose stored word has no error is an ordinary read of its register. -/
theorem Hub.readChecked_cltValue {n : Nat} (p : Path) (h : Hub) (hn : n < 4096) (he : h.sramErr (R.CLT_VALUE n).off = 0) :
    h.readChecked p (R.CLT_VALUE n).off = .of (h.reg (R.CLT_VALUE n).off) (h.clearRc (R.CLT_VALUE n).off) := by
  obtain ⟨lo, hi⟩ := cltValue_off hn
  have low : isLowHalf (R.CLT_VALUE n).off = false := isLowHalf_eq_false (by omega) (by omega)
  have high : isLowHalf ((R.CLT_VALUE n).off - 4) = false := isLowHalf_eq_false (by omega) (by omega)
  rw [Hub.readChecked, if_pos (.inr he), Hub.readReg, Hub.guarded_cltValue h hn, if_neg (by decide), low, if_neg (by decide),
    high, if_neg (by simp), if_neg (by omega), inStride_eq_false_of_lt _ _ _ (by omega),
    if_neg (by simp), Hub.live_cltValue h hn]

/-- A read of a cleat's whole word answers its value. -/
theorem Hub.readAnswer_cltValue {n : Nat} (h : Hub) (hn : n < 4096) (he : h.sramErr (R.CLT_VALUE n).off = 0) :
    h.readAnswer .pf (R.CLT_VALUE n).off 32
      = (h.clearRc (R.CLT_VALUE n).off).send (.readData .pf (h.get (R.CLT_VALUE n))) := by
  obtain ⟨-, hi⟩ := cltValue_off hn
  have aligned : (R.CLT_VALUE n).off / 4 * 4 = (R.CLT_VALUE n).off := by simp only; omega
  have word : (R.CLT_VALUE n).off % 4 = 0 := by simp only; omega
  have reached : h.readAt .pf (R.CLT_VALUE n).off = h.readChecked .pf (R.CLT_VALUE n).off := by
    rw [Hub.readAt, Hub.place_of_holdsBlocks h rfl (by omega)]
  rw [Hub.readAnswer, if_neg (by simp [word]), if_neg (by decide), aligned, reached, Hub.readChecked_cltValue .pf h hn he, word]
  exact RegRead.answer_of .pf 32 _ _ _

/-- Settles O18: SET stores the value, ADD is the SET of the sum, and a read answers the word stored. -/
theorem cleatWritesSetAndAdd : Obligations.CleatWritesSetAndAdd := by
  unfold Obligations.CleatWritesSetAndAdd
  refine ⟨fun req n v s hwf hp => ?set, fun req n v s hwf hp => ?add, fun n s hn he => ?read⟩
  case set =>
    obtain ⟨-, hn⟩ : req.wf = true ∧ n < 4096 := by simpa [Instr.wf, Ok.cltSet] using hwf
    exact ⟨_, exec_cltSet s hwf hp, (Hub.get_cleatSet_same _ s.hub hn).trans (Nat.mod_eq_of_lt v.isLt)⟩
  case add =>
    obtain ⟨-, hn⟩ : req.wf = true ∧ n < 4096 := by simpa [Instr.wf, Ok.cltAdd] using hwf
    exact ⟨_, exec_cltAdd s hwf hp, (Hub.get_cleatSet_same _ s.hub hn).trans (Nat.mod_mod _ _)⟩
  case read =>
    have hwf : (Instr.rcFieldRead .pf (R.CLT_VALUE n).off 32).wf = true := by
      simp [Instr.wf, Ok.rcFieldRead, Path.wf, offOk, sizeOk]
      omega
    exact ⟨_, State.act_next hwf _ s, congrArg Hub.out (Hub.readAnswer_cltValue s.hub hn he)⟩

end Sys2Proof.Machine
end

section
/-!
How a command runs: every command's meaning is given to `State.act` or `State.actMem` with its own well-formedness. From this
follow the statements about all commands: the step, the fault of an ill-formed command, and what may touch stored data.
-/
namespace Sys2Proof.Machine
set_option Elab.async false

/-! ## The shape of a command's meaning -/

/-- A command that is not given the stored data runs by `State.act`. -/
theorem exec_eq_act (i : Instr) (s : State) (hi : i.usesData = false) : ∃ f, exec i s = s.act i.wf f := by
  cases i
  all_goals simp only [Instr.usesData, reduceCtorEq] at hi
  all_goals unfold exec
  all_goals exact ⟨_, rfl⟩

/-- A command that is given the stored data runs by `State.actMem`. -/
theorem exec_eq_actMem (i : Instr) (s : State) (hi : i.usesData = true) : ∃ f, exec i s = s.actMem i.wf f := by
  cases i
  all_goals simp only [Instr.usesData, reduceCtorEq] at hi
  all_goals unfold exec
  all_goals exact ⟨_, rfl⟩

/-- What is not given the stored data leaves it, and the queue. -/
theorem exec_next_of_not_usesData {i : Instr} {s t : State} (hi : i.usesData = false) (h : exec i s = .next t) :
    t.mem = s.mem ∧ t.pending = s.pending := by
  obtain ⟨f, hf⟩ := exec_eq_act i s hi
  obtain ⟨-, rfl⟩ := State.act_inv (hf ▸ h)
  exact ⟨rfl, rfl⟩

/-- No command touches the queue behind it. -/
theorem exec_next_pending {i : Instr} {s t : State} (h : exec i s = .next t) : t.pending = s.pending := by
  cases hi : i.usesData with
  | false => exact (exec_next_of_not_usesData hi h).2
  | true =>
    obtain ⟨f, hf⟩ := exec_eq_actMem i s hi
    obtain ⟨-, -, -, hp⟩ := State.actMem_inv (hf ▸ h)
    exact hp

/-! ## The step, and reset -/

/-- Settles O1: the step takes the queue's front apart, and nothing else. -/
theorem stepRunsTheFrontCommand : Obligations.StepRunsTheFrontCommand := by
  unfold Obligations.StepRunsTheFrontCommand
  exact fun _ _ _ => rfl

theorem Hub.tickSlew_frame (h : Hub) : h.tickSlew.2 = { h with time := h.tickSlew.2.time } := by
  unfold Hub.tickSlew
  split
  · rfl
  · dsimp only
    split <;> rfl

/-- An edge of REFCLK moves the clock by 10 ns and leaves every part of the hub but time and the free values taken. -/
theorem Hub.tick_frame (h : Hub) :
    h.tick = { h with clock := h.clock + 10, time := h.tick.time, draws := h.tick.draws } := by
  unfold Hub.tick
  dsimp only
  rw [Hub.tickSlew_frame]
  split <;> rfl

/-- Settles O2: on an empty queue the step is one edge of REFCLK. -/
theorem idleStepPassesOneClockEdge : Obligations.IdleStepPassesOneClockEdge := by
  unfold Obligations.IdleStepPassesOneClockEdge
  intro s hq
  have run : step s = .next s.idle := by rw [step, hq]
  refine ⟨_, run, ?_, ?_, rfl, ?_, ?_, hq⟩
  all_goals rw [State.idle, Hub.tick_frame]

theorem rget_reset_cltValue {n : Nat} (hn : n < 4096) : rget [] (R.CLT_VALUE n) = 0 := by
  rw [rget, rword, Store.get_nil, resetWord, findReg_cltValue hn]
  simp [cltValueSpec, regsCLT]

/-- A ring's state and enable are 0 at reset. -/
theorem rget_reset_ring : ∀ n < 256, rget [] (R.RING_STAT_STATE n) = 0 ∧ rget [] (R.RING_CTRL_ENABLE n) = 0 := by
  decide +kernel

/-- Settles O3: the fixed registers by evaluation, the cleats and the rings by their rows of the register table. -/
theorem resetLeavesTheStatedValues : Obligations.ResetLeavesTheStatedValues := by
  unfold Obligations.ResetLeavesTheStatedValues
  exact ⟨by decide, by decide, by decide, by decide, by decide, by decide, by decide, by decide, by decide,
    fun n => rget_reset_cltValue, rget_reset_ring, rfl⟩

/-- Settles O4: nothing is stored and nothing waits after reset. -/
theorem resetMeetsTheInvariant : Obligations.ResetMeetsTheInvariant :=
  ⟨State.reset_mem_wf, fun _ hc => absurd hc (List.not_mem_nil)⟩

/-! ## Well-formed and ill-formed commands -/

/-- Settles O6: both ways a command runs answer a next state when it is well formed, and fault when it is not (log entry 12). -/
theorem everyWellFormedCommandCompletes : Obligations.EveryWellFormedCommandCompletes := by
  unfold Obligations.EveryWellFormedCommandCompletes
  intro i s
  cases hi : i.usesData with
  | false =>
    obtain ⟨f, hf⟩ := exec_eq_act i s hi
    exact ⟨fun hwf => ⟨_, hf.trans (State.act_next hwf f s), rfl⟩, fun hwf => hf.trans (State.act_fault hwf f s)⟩
  | true =>
    obtain ⟨f, hf⟩ := exec_eq_actMem i s hi
    exact ⟨fun hwf => ⟨_, hf.trans (State.actMem_next hwf f s), rfl⟩, fun hwf => hf.trans (State.actMem_fault hwf f s)⟩

/-- Settles O8: a command that is not given the stored data answers it as it was. -/
theorem commandsWithoutDataLeaveMemory : Obligations.CommandsWithoutDataLeaveMemory := by
  unfold Obligations.CommandsWithoutDataLeaveMemory
  intro i s t hi h
  obtain ⟨hm, hp⟩ := exec_next_of_not_usesData hi h
  exact ⟨hm, fun _ _ => by rw [hm], hp⟩

/-! ## Writes by paths that hold no register block (log entry 15) -/

/-- A write of a block by a path that does not hold it answers the state as it was. -/
theorem State.act_pfWrite_of_not_holds {ok : Bool} {req : Path} (hk : ok = true) (hp : req.holdsBlocks = false)
    (f : Hub → Hub) (s : State) : s.act ok (Hub.pfWrite req f) = .next s := by
  rw [State.act_next hk, Hub.pfWrite, if_neg (by simp [hp])]

theorem State.actMem_pfWrite_of_not_holds {ok : Bool} {req : Path} (hk : ok = true) (hp : req.holdsBlocks = false)
    (f : Chip → Chip) (s : State) : s.actMem ok (Chip.pfWrite req f) = .next s := by
  rw [State.actMem_next hk, Chip.pfWrite, if_neg (by simp [hp])]

/-- Settles O7: each of these commands is a block write, on the hub or, for two of them, on the hub with its stored data. -/
theorem pathsWithoutBlocksHaveNoEffect : Obligations.PathsWithoutBlocksHaveNoEffect := by
  unfold Obligations.PathsWithoutBlocksHaveNoEffect
  intro i r s hi hp hwf
  cases i
  all_goals simp only [Instr.blockPath, Option.some.injEq, reduceCtorEq] at hi
  all_goals subst hi
  all_goals unfold exec
  case bootFwGo => exact State.actMem_pfWrite_of_not_holds hwf hp _ s
  case windowDisable => exact State.actMem_pfWrite_of_not_holds hwf hp _ s
  all_goals exact State.act_pfWrite_of_not_holds hwf hp _ s

/-! ## The invariant -/

/-- A command whose meaning keeps the canonical form of the stored data answers a state that has it. -/
theorem State.actMem_keeps_wf {ok : Bool} {f : Chip → Chip} {s t : State} (h : s.actMem ok f = .next t)
    (hf : ∀ c : Chip, c.mem.wf = true → (f c).mem.wf = true) (hm : s.mem.wf = true) : t.mem.wf = true := by
  obtain ⟨-, -, ht, -⟩ := State.actMem_inv h
  exact ht ▸ hf _ hm

/-- DESCRIPTOR_COMPLETE may move a mover's last bytes before it ends the descriptor. -/
theorem execDescriptorComplete_keeps_wf {n id energy peak mean drop : Nat} {host : List Byte} {s t : State}
    (h : execDescriptorComplete n id energy peak mean drop host s = .next t) (hm : s.mem.wf = true) : t.mem.wf = true := by
  refine State.actMem_keeps_wf h (fun c hc => ?_) hm
  have moved : (match c.hub.desc n id with
      | none => c
      | some d => if isMover (dOp d.bytes) ∧ d.started ∧ ¬ d.ended then c.goOn n id (d.total + 1) host else c).mem.wf = true := by
    split
    · exact hc
    · exact Chip.wf_ite _ _ _ (Chip.wf_goOn _ _ _ _ c hc) hc
  dsimp only at moved ⊢
  split
  · exact moved
  · exact Chip.wf_ite _ _ _ (Chip.wf_mk _ _ moved) moved

/-- Every command that is given the stored data keeps its canonical form. -/
theorem exec_next_keeps_wf_of_usesData {i : Instr} {s t : State} (hi : i.usesData = true) (h : exec i s = .next t)
    (hm : s.mem.wf = true) : t.mem.wf = true := by
  cases i
  all_goals simp only [Instr.usesData, reduceCtorEq] at hi
  all_goals unfold exec at h
  case registerWrite => exact State.actMem_keeps_wf h (fun c hc => Chip.wf_writeAccess _ _ _ _ c hc) hm
  case unalignedAccess =>
    exact State.actMem_keeps_wf h (fun c hc => Chip.wf_ite _ _ _ (Chip.wf_writeAccess _ _ _ _ c hc) (Chip.wf_mk _ _ hc)) hm
  case emergencyLowerWave => exact State.actMem_keeps_wf h Chip.wf_emergencyWave hm
  case watchdogExpiry => exact State.actMem_keeps_wf h (fun c hc => Chip.wf_fault _ _ _ c hc) hm
  case stageS6 =>
    exact State.actMem_keeps_wf h (fun c hc => Chip.wf_ite _ _ _ (Chip.wf_ite _ _ _ (Chip.wf_zeroFill _ _ (Chip.wf_mk _ _ hc))
      (Chip.wf_mk _ _ hc)) (hc)) hm
  case stageS7 =>
    exact State.actMem_keeps_wf h (fun c hc => Chip.wf_each _ _ (fun s d hd => Chip.wf_serveEarly s d hd) _
      (Chip.wf_mk _ _ hc)) hm
  case stageS9 =>
    exact State.actMem_keeps_wf h (fun c hc => Chip.wf_ite _ _ _ (Chip.wf_beginS9 _ _ (Chip.wf_mk _ _ hc)) (hc)) hm
  case stageS10 => exact State.actMem_keeps_wf h (fun c hc => Chip.wf_ite _ _ _ (Chip.wf_beginS10 c hc) (hc)) hm
  case readySet => exact State.actMem_keeps_wf h (fun c hc => Chip.wf_ite _ _ _ (Chip.wf_readySet _ _ _ c hc) (hc)) hm
  case stageLimitExpiry => exact State.actMem_keeps_wf h Chip.wf_stageLimit hm
  case memoryTestElementEnd =>
    exact State.actMem_keeps_wf h (fun c hc => Chip.wf_ite _ _ _ (hc) (Chip.wf_ite _ _ _ (Chip.wf_zeroFill _ _
      (Chip.wf_mk _ _ hc)) (Chip.wf_ite _ _ _ (Chip.wf_mk _ _ hc) (Chip.wf_mk _ _ hc)))) hm
  case waveDone => exact State.actMem_keeps_wf h (fun c hc => Chip.wf_consume _ _ _ _ c (fun d hd => Chip.wf_mk _ _ hd) hc) hm
  case waveTimeout => exact State.actMem_keeps_wf h (fun c hc => Chip.wf_ite _ _ _ (Chip.wf_zeroAndDrop _ _ c hc) (hc)) hm
  case bootFwGo =>
    exact State.actMem_keeps_wf h (fun c hc => Chip.wf_pfWrite _ _ c (fun d hd => Chip.wf_fwCtrlWrite _ _ d hd) hc) hm
  case fwWaitTimeout =>
    exact State.actMem_keeps_wf h (fun c hc => Chip.wf_ite _ _ _ (Chip.wf_each _ _ (fun s d hd => Chip.wf_fwDrop _ s d hd) _
      (Chip.wf_mk _ _ hc)) (hc)) hm
  case karDigest =>
    exact State.actMem_keeps_wf h (fun c hc => Chip.wf_consume _ _ _ _ c (fun d hd => Chip.wf_karDigest _ _ d hd) hc) hm
  case bankCopyComplete =>
    refine State.actMem_keeps_wf h (fun c hc => ?_) hm
    dsimp only
    split
    · exact Chip.wf_ite _ _ _ (Chip.wf_mk _ _ (Chip.wf_copyBank _ c hc)) hc
    · exact hc
  case mapEpochAdopt => exact State.actMem_keeps_wf h (fun c hc => Chip.wf_adoptEpoch _ c hc) hm
  case mapDrainTimeout => exact State.actMem_keeps_wf h (fun c hc => Chip.wf_ite _ _ _ (Chip.wf_fault _ _ _ c hc) (hc)) hm
  case bar4Read => exact State.actMem_keeps_wf h (fun c hc => Chip.wf_bar4Read _ _ c hc) hm
  case bar4Write => exact State.actMem_keeps_wf h (fun c hc => Chip.wf_bar4Write _ _ c hc) hm
  case pfFlr => exact State.actMem_keeps_wf h (fun c hc => Chip.wf_setVfs _ _ _ (Chip.wf_resetFn _ c hc)) hm
  case vfFlr => exact State.actMem_keeps_wf h (fun c hc => Chip.wf_resetFn _ c hc) hm
  case vfEnableChange => exact State.actMem_keeps_wf h (fun c hc => Chip.wf_setVfs _ _ c hc) hm
  case ringReset => exact State.actMem_keeps_wf h (fun c hc => Chip.wf_disableRing _ _ c hc) hm
  case descriptorComplete => exact execDescriptorComplete_keeps_wf h hm
  case busMasterEnable =>
    exact State.actMem_keeps_wf h (fun c hc => Chip.wf_ite _ _ _ (Chip.wf_fwGo _ (Chip.wf_mk _ _ hc)) (Chip.wf_mk _ _ hc)) hm
  case copy => exact State.actMem_keeps_wf h (fun c hc => Chip.wf_mover _ _ _ _ _ c hc) hm
  case fill => exact State.actMem_keeps_wf h (fun c hc => Chip.wf_mover _ _ _ _ _ c hc) hm
  case gather => exact State.actMem_keeps_wf h (fun c hc => Chip.wf_mover _ _ _ _ _ c hc) hm
  case scatter => exact State.actMem_keeps_wf h (fun c hc => Chip.wf_mover _ _ _ _ _ c hc) hm
  case solveSetup => exact State.actMem_keeps_wf h (fun c hc => Chip.wf_solver _ _ _ c hc) hm
  case solvePatch => exact State.actMem_keeps_wf h (fun c hc => Chip.wf_solver _ _ _ c hc) hm
  case solveRun => exact State.actMem_keeps_wf h (fun c hc => Chip.wf_solver _ _ _ c hc) hm
  case laneSend =>
    refine State.actMem_keeps_wf h (fun c hc => ?_) hm
    dsimp only
    split
    · exact Chip.wf_mk _ _ hc
    · split
      · exact Chip.wf_mk _ _ hc
      · exact Chip.wf_sendGo _ _ _ _ _ (Chip.wf_mk _ _ hc)
  case laneRecv =>
    refine State.actMem_keeps_wf h (fun c hc => ?_) hm
    dsimp only
    split
    · exact Chip.wf_mk _ _ hc
    · exact Chip.wf_ite _ _ _ (Chip.wf_portDrain _ _ (Chip.wf_mk _ _ hc)) (Chip.wf_portDrain _ _ (Chip.wf_mk _ _ hc))
  case deadlineExpiry => exact State.actMem_keeps_wf h (fun c hc => Chip.wf_deadline _ _ c hc) hm
  case windowDisable =>
    exact State.actMem_keeps_wf h (fun c hc => Chip.wf_pfWrite _ _ c (fun d hd => Chip.wf_winDisable _ _ d hd) hc) hm
  case rdShared =>
    exact State.actMem_keeps_wf h (fun c hc => Chip.wf_decided _ _ (Chip.wf_consume _ _ _ _ c
      (fun d hd => Chip.wf_cacheable _ _ _ _ d hd) hc)) hm
  case rdOwn =>
    exact State.actMem_keeps_wf h (fun c hc => Chip.wf_decided _ _ (Chip.wf_consume _ _ _ _ c
      (fun d hd => Chip.wf_cacheable _ _ _ _ d hd) hc)) hm
  case upgrade =>
    exact State.actMem_keeps_wf h (fun c hc => Chip.wf_decided _ _ (Chip.wf_consume _ _ _ _ c
      (fun d hd => Chip.wf_cacheable _ _ _ _ d hd) hc)) hm
  case wbDirty =>
    exact State.actMem_keeps_wf h (fun c hc => Chip.wf_decided _ _ (Chip.wf_consume _ _ _ _ c
      (fun d hd => Chip.wf_writeback _ _ _ _ d hd) hc)) hm
  case evictClean =>
    exact State.actMem_keeps_wf h (fun c hc => Chip.wf_decided _ _ (Chip.wf_consume _ _ _ _ c
      (fun d hd => Chip.wf_writeback _ _ _ _ d hd) hc)) hm
  case recallAck =>
    exact State.actMem_keeps_wf h (fun c hc => Chip.wf_consume _ _ _ _ c (fun d hd => Chip.wf_recallAnswer _ _ _ d hd) hc) hm
  case recallData =>
    exact State.actMem_keeps_wf h (fun c hc => Chip.wf_consume _ _ _ _ c (fun d hd => Chip.wf_recallAnswer _ _ _ d hd) hc) hm
  case nonCachingRead =>
    exact State.actMem_keeps_wf h (fun c hc => Chip.wf_ite _ _ _ (Chip.wf_ncRead _ _ _ _ _ _ c hc) (Chip.wf_decided _ c hc)) hm
  case nonCachingWrite =>
    exact State.actMem_keeps_wf h (fun c hc => Chip.wf_ite _ _ _ (Chip.wf_ncWrite _ _ _ _ _ _ _ c hc) (Chip.wf_decided _ c hc)) hm
  case recallTimeout =>
    exact State.actMem_keeps_wf h (fun c hc => Chip.wf_ite _ _ _ (Chip.wf_siteDrop _ _ _ (Chip.wf_mk _ _ hc)) (hc)) hm
  case dramScrubRead => exact State.actMem_keeps_wf h Chip.wf_scrubDram hm
  case bufScrubRead => exact State.actMem_keeps_wf h Chip.wf_scrubBuf hm
  case flitReceive =>
    exact State.actMem_keeps_wf h (fun c hc => Chip.wf_receiveFlit _ _ _ _ _ _ _ c (fun _ _ d hd => Chip.wf_mk _ _ hd)
      (fun _ _ d hd => Chip.wf_karDigest _ _ d hd) hc) hm
  case ack => exact State.actMem_keeps_wf h (fun c hc => Chip.wf_takeAck _ _ _ _ c hc) hm
  case replayTimeout => exact State.actMem_keeps_wf h (fun c hc => Chip.wf_ite _ _ _ (Chip.wf_replay _ _ _ c hc) (hc)) hm
  case driftUpdate =>
    exact State.actMem_keeps_wf h (fun c hc => Chip.wf_ite _ _ _ (hc) (Chip.wf_ite _ _ _ (Chip.wf_moduleFail _ _ _ c hc)
      (Chip.wf_mk _ _ hc))) hm
  case dropReq => exact State.actMem_keeps_wf h (fun c hc => Chip.wf_takeDropReq _ _ _ _ _ c hc) hm
  case setAccept => exact State.actMem_keeps_wf h (fun c hc => Chip.wf_consume _ _ _ _ c (fun d hd => Chip.wf_mk _ _ hd) hc) hm
  case ident =>
    exact State.actMem_keeps_wf h (fun c hc => Chip.wf_ite _ _ _ (Chip.wf_mk _ _ hc) (Chip.wf_ite _ _ _ (Chip.wf_mk _ _ hc)
      (Chip.wf_ite _ _ _ (Chip.wf_siteDrop _ _ _ (Chip.wf_mk _ _ hc)) (Chip.wf_mk _ _ hc)))) hm
  case negAck =>
    exact State.actMem_keeps_wf h (fun c hc => Chip.wf_ite _ _ _ (Chip.wf_mk _ _ hc) (Chip.wf_ite _ _ _ (Chip.wf_mk _ _ hc)
      (Chip.wf_siteDrop _ _ _ (Chip.wf_mk _ _ hc)))) hm
  case trainRes =>
    exact State.actMem_keeps_wf h (fun c hc => Chip.wf_ite _ _ _ (Chip.wf_mk _ _ hc) (Chip.wf_trainNext _ _
      (Chip.wf_mk _ _ hc))) hm
  case trainStepLimit =>
    exact State.actMem_keeps_wf h (fun c hc => Chip.wf_ite _ _ _ (hc) (Chip.wf_trainNext _ _ (Chip.wf_mk _ _ hc))) hm
  case sidebandNak =>
    exact State.actMem_keeps_wf h (fun c hc => Chip.wf_ite _ _ _ (Chip.wf_ite _ _ _ (Chip.wf_mk _ _ hc) (Chip.wf_mk _ _ hc))
      (Chip.wf_ite _ _ _ (Chip.wf_ite _ _ _ (Chip.wf_mk _ _ hc) (Chip.wf_mk _ _ hc)) (Chip.wf_ite _ _ _
      (Chip.wf_siteDrop _ _ _ (Chip.wf_mk _ _ hc)) (Chip.wf_mk _ _ hc)))) hm
  case sidebandResend =>
    refine State.actMem_keeps_wf h (fun c hc => ?_) hm
    dsimp only
    split
    · exact hc
    · exact Chip.wf_ite _ _ _ (Chip.wf_sbDead _ c hc) (Chip.wf_mk _ _ hc)
  case sidebandAnswerTimeout =>
    refine State.actMem_keeps_wf h (fun c hc => ?_) hm
    split
    · exact hc
    · split
      · exact Chip.wf_ite _ _ _ (Chip.wf_mk _ _ hc) (Chip.wf_siteDrop _ _ c hc)
      · exact Chip.wf_siteDrop _ _ c hc
  case dataRun =>
    exact State.actMem_keeps_wf h (fun c hc => Chip.wf_consume _ _ _ _ c (fun d hd => Chip.wf_takeRun _ _ _ _ d hd) hc) hm
  case credit => exact State.actMem_keeps_wf h (fun c hc => Chip.wf_takeCredit _ _ c hc) hm
  case siteRd =>
    exact State.actMem_keeps_wf h (fun c hc => Chip.wf_decided _ _ (Chip.wf_consume _ _ _ _ c
      (fun d hd => Chip.wf_siteRead _ _ _ _ d hd) hc)) hm
  case siteWr =>
    exact State.actMem_keeps_wf h (fun c hc => Chip.wf_decided _ _ (Chip.wf_consume _ _ _ _ c
      (fun d hd => Chip.wf_siteWrite _ _ _ _ _ _ d hd) hc)) hm
  case siteCltAdd => exact State.actMem_keeps_wf h (fun c hc => Chip.wf_consume _ _ _ _ c (fun d hd => Chip.wf_mk _ _ hd) hc) hm
  case siteCltSet => exact State.actMem_keeps_wf h (fun c hc => Chip.wf_consume _ _ _ _ c (fun d hd => Chip.wf_mk _ _ hd) hc) hm
  case siteCltWait =>
    exact State.actMem_keeps_wf h (fun c hc => Chip.wf_consume _ _ _ _ c (fun d hd => Chip.wf_mk _ _ hd) hc) hm
  case siteCltRead =>
    exact State.actMem_keeps_wf h (fun c hc => Chip.wf_consume _ _ _ _ c (fun d hd => Chip.wf_mk _ _ hd) hc) hm
  case timeRd => exact State.actMem_keeps_wf h (fun c hc => Chip.wf_consume _ _ _ _ c (fun d hd => Chip.wf_mk _ _ hd) hc) hm
  case openAck =>
    exact State.actMem_keeps_wf h (fun c hc => Chip.wf_consume _ _ _ _ c (fun d hd => Chip.wf_openAck _ _ _ d hd) hc) hm
  case siteStreamClose =>
    exact State.actMem_keeps_wf h (fun c hc => Chip.wf_consume _ _ _ _ c (fun d hd => Chip.wf_mk _ _ hd) hc) hm
  case closeAck => exact State.actMem_keeps_wf h (fun c hc => Chip.wf_consume _ _ _ _ c (fun d hd => Chip.wf_mk _ _ hd) hc) hm
  case callDone => exact State.actMem_keeps_wf h (fun c hc => Chip.wf_consume _ _ _ _ c (fun d hd => Chip.wf_mk _ _ hd) hc) hm
  case allowAck => exact State.actMem_keeps_wf h (fun c hc => Chip.wf_consume _ _ _ _ c (fun d hd => Chip.wf_mk _ _ hd) hc) hm
  case siteDrop => exact State.actMem_keeps_wf h (fun c hc => Chip.wf_siteDrop _ _ c hc) hm
  case frameReceive =>
    exact State.actMem_keeps_wf h (fun c hc => Chip.wf_ite _ _ _ (Chip.wf_portDrain _ _ (Chip.wf_mk _ _ hc)) (hc)) hm
  case crewData =>
    refine State.actMem_keeps_wf h (fun c hc => ?_) hm
    dsimp only
    refine Chip.wf_ite _ _ _ hc (Chip.wf_ite _ _ _ (Chip.wf_mk _ _ hc) (Chip.wf_ite _ _ _ (Chip.wf_mk _ _ hc) ?_))
    exact Chip.wf_ite _ _ _ (Chip.wf_mk _ _ (Chip.wf_portDrain _ _ (Chip.wf_mk _ _ hc)))
      (Chip.wf_ite _ _ _ (Chip.wf_mk _ _ hc) (Chip.wf_mk _ _ hc))
  case crewAck =>
    exact State.actMem_keeps_wf h (fun c hc => Chip.wf_ite _ _ _ (Chip.wf_crewDrainAll _ (Chip.wf_mk _ _ hc)) (hc)) hm
  case trimEpochStart => exact State.actMem_keeps_wf h (fun c hc => Chip.wf_epochStart _ _ _ c hc) hm
  case trimSolveComplete =>
    exact State.actMem_keeps_wf h (fun c hc => Chip.wf_ite _ _ _ (Chip.wf_endSolve _ (Chip.wf_mk _ _ hc)) (hc)) hm
  case senseOutput => exact State.actMem_keeps_wf h (fun c hc => Chip.wf_senseOutput _ _ c hc) hm
  case zeroiseComplete => exact State.actMem_keeps_wf h Chip.wf_zeroised hm
  case unlistedMsg =>
    exact State.actMem_keeps_wf h (fun c hc => Chip.wf_consume _ _ _ _ c (fun d hd => Chip.wf_mk _ _ hd) hc) hm

/-- Every command keeps the canonical form of the stored data. -/
theorem exec_next_keeps_wf {i : Instr} {s t : State} (h : exec i s = .next t) (hm : s.mem.wf = true) : t.mem.wf = true := by
  cases hi : i.usesData with
  | false => exact (exec_next_of_not_usesData hi h).1 ▸ hm
  | true => exact exec_next_keeps_wf_of_usesData hi h hm

/-- Settles O5: the idle step touches neither the stored data nor the queue, and a command keeps the form of the one and leaves
the rest of the other. -/
theorem everyStepKeepsTheInvariant : Obligations.EveryStepKeepsTheInvariant := by
  unfold Obligations.EveryStepKeepsTheInvariant
  intro s t ⟨hm, hq⟩ h
  unfold step at h
  split at h
  · obtain rfl := Host.Outcome.next.inj h
    exact ⟨hm, hq⟩
  · next c rest hp =>
    refine ⟨exec_next_keeps_wf h hm, fun d hd => hq d ?_⟩
    rw [exec_next_pending h] at hd
    rw [hp]
    exact List.mem_cons_of_mem c hd

end Sys2Proof.Machine
end

section
/-!
What an operation of the hub can alter, said once per operation: registers of a stated set, named parts of the hub, the logs,
what was sent and the free values taken. `Hub.Quiet` is the case with no named part; the frames of the statements are
read off these facts.
-/
namespace Sys2Proof.Machine

/-- The parts of the hub beside its registers, its logs and the model's own records. -/
inductive Part where
  | clock | pins | power | boot | fail | pcie | rings | disp | cleat | time | memch | sites | dir | map | mast | ser | crew | spar | trim | sns | test
deriving DecidableEq

/-- The registers a frame leaves open: those in `W`, the logs' and the event counters'. -/
abbrev framed (W : Nat → Prop) (a : Nat) : Prop := logReg a ∨ evtReg a ∨ W a

/-- The registers that the domains' and islands' movement and the soak show. -/
abbrev powerReg (a : Nat) : Prop :=
  (0x10010 ≤ a ∧ a < 0x10018) ∨ a = (R.PWR_COV_VIOL_COUNT).off ∨ (0x10400 ≤ a ∧ a < 0x10C00)

/-- `g` is `h` but for registers whose offset is in `W`, the parts in `P`, the logs and event counters, what was sent, and free
values taken. -/
structure Hub.Alters (P : List Part) (W : Nat → Prop) (h g : Hub) : Prop where
  reg : ∀ a, ¬ framed W a → g.reg a = h.reg a
  sent : ∃ l, g.out = l ++ h.out
  clock : Part.clock ∉ P → g.clock = h.clock
  pins : Part.pins ∉ P → g.pins = h.pins
  power : Part.power ∉ P → g.power = h.power
  boot : Part.boot ∉ P → g.boot = h.boot
  fail : Part.fail ∉ P → g.fail = h.fail
  pcie : Part.pcie ∉ P → g.pcie = h.pcie
  rings : Part.rings ∉ P → g.rings = h.rings
  disp : Part.disp ∉ P → g.disp = h.disp
  cleat : Part.cleat ∉ P → g.cleat = h.cleat
  time : Part.time ∉ P → g.time = h.time
  memch : Part.memch ∉ P → g.memch = h.memch
  sites : Part.sites ∉ P → g.sites = h.sites
  dir : Part.dir ∉ P → g.dir = h.dir
  map : Part.map ∉ P → g.map = h.map
  mast : Part.mast ∉ P → g.mast = h.mast
  ser : Part.ser ∉ P → g.ser = h.ser
  crew : Part.crew ∉ P → g.crew = h.crew
  spar : Part.spar ∉ P → g.spar = h.spar
  trim : Part.trim ∉ P → g.trim = h.trim
  sns : Part.sns ∉ P → g.sns = h.sns
  test : Part.test ∉ P → g.test = h.test

/-- `h` with the parts in `P` taken over from `g`. -/
def Hub.take (P : List Part) (h g : Hub) : Hub :=
  { h with
    clock := if Part.clock ∈ P then g.clock else h.clock
    pins := if Part.pins ∈ P then g.pins else h.pins
    power := if Part.power ∈ P then g.power else h.power
    boot := if Part.boot ∈ P then g.boot else h.boot
    fail := if Part.fail ∈ P then g.fail else h.fail
    pcie := if Part.pcie ∈ P then g.pcie else h.pcie
    rings := if Part.rings ∈ P then g.rings else h.rings
    disp := if Part.disp ∈ P then g.disp else h.disp
    cleat := if Part.cleat ∈ P then g.cleat else h.cleat
    time := if Part.time ∈ P then g.time else h.time
    memch := if Part.memch ∈ P then g.memch else h.memch
    sites := if Part.sites ∈ P then g.sites else h.sites
    dir := if Part.dir ∈ P then g.dir else h.dir
    map := if Part.map ∈ P then g.map else h.map
    mast := if Part.mast ∈ P then g.mast else h.mast
    ser := if Part.ser ∈ P then g.ser else h.ser
    crew := if Part.crew ∈ P then g.crew else h.crew
    spar := if Part.spar ∈ P then g.spar else h.spar
    trim := if Part.trim ∈ P then g.trim else h.trim
    sns := if Part.sns ∈ P then g.sns else h.sns
    test := if Part.test ∈ P then g.test else h.test }

namespace Hub.Alters

variable {P Q : List Part} {W V : Nat → Prop} {h g k : Hub}

theorem self (P : List Part) (W : Nat → Prop) (h : Hub) : Hub.Alters P W h h where
  reg _ _ := rfl
  sent := ⟨[], rfl⟩
  clock _ := rfl
  pins _ := rfl
  power _ := rfl
  boot _ := rfl
  fail _ := rfl
  pcie _ := rfl
  rings _ := rfl
  disp _ := rfl
  cleat _ := rfl
  time _ := rfl
  memch _ := rfl
  sites _ := rfl
  dir _ := rfl
  map _ := rfl
  mast _ := rfl
  ser _ := rfl
  crew _ := rfl
  spar _ := rfl
  trim _ := rfl
  sns _ := rfl
  test _ := rfl

theorem trans (x : Hub.Alters P W h g) (y : Hub.Alters P W g k) : Hub.Alters P W h k where
  reg a ha := (y.reg a ha).trans (x.reg a ha)
  sent := by
    obtain ⟨l, hl⟩ := x.sent
    obtain ⟨m, hm⟩ := y.sent
    exact ⟨m ++ l, by rw [hm, hl, List.append_assoc]⟩
  clock n := (y.clock n).trans (x.clock n)
  pins n := (y.pins n).trans (x.pins n)
  power n := (y.power n).trans (x.power n)
  boot n := (y.boot n).trans (x.boot n)
  fail n := (y.fail n).trans (x.fail n)
  pcie n := (y.pcie n).trans (x.pcie n)
  rings n := (y.rings n).trans (x.rings n)
  disp n := (y.disp n).trans (x.disp n)
  cleat n := (y.cleat n).trans (x.cleat n)
  time n := (y.time n).trans (x.time n)
  memch n := (y.memch n).trans (x.memch n)
  sites n := (y.sites n).trans (x.sites n)
  dir n := (y.dir n).trans (x.dir n)
  map n := (y.map n).trans (x.map n)
  mast n := (y.mast n).trans (x.mast n)
  ser n := (y.ser n).trans (x.ser n)
  crew n := (y.crew n).trans (x.crew n)
  spar n := (y.spar n).trans (x.spar n)
  trim n := (y.trim n).trans (x.trim n)
  sns n := (y.sns n).trans (x.sns n)
  test n := (y.test n).trans (x.test n)

theorem mono (x : Hub.Alters Q V h g) (hP : Q ⊆ P) (hW : ∀ a, V a → framed W a) : Hub.Alters P W h g where
  reg a ha := x.reg a fun hv => ha (hv.elim .inl fun hv => hv.elim (.inr ∘ .inl) (hW a))
  sent := x.sent
  clock n := x.clock fun m => n (hP m)
  pins n := x.pins fun m => n (hP m)
  power n := x.power fun m => n (hP m)
  boot n := x.boot fun m => n (hP m)
  fail n := x.fail fun m => n (hP m)
  pcie n := x.pcie fun m => n (hP m)
  rings n := x.rings fun m => n (hP m)
  disp n := x.disp fun m => n (hP m)
  cleat n := x.cleat fun m => n (hP m)
  time n := x.time fun m => n (hP m)
  memch n := x.memch fun m => n (hP m)
  sites n := x.sites fun m => n (hP m)
  dir n := x.dir fun m => n (hP m)
  map n := x.map fun m => n (hP m)
  mast n := x.mast fun m => n (hP m)
  ser n := x.ser fun m => n (hP m)
  crew n := x.crew fun m => n (hP m)
  spar n := x.spar fun m => n (hP m)
  trim n := x.trim fun m => n (hP m)
  sns n := x.sns fun m => n (hP m)
  test n := x.test fun m => n (hP m)

/-- What a quiet operation alters is in every frame that holds its registers. -/
theorem of_quiet (x : Hub.Quiet V h g) (hW : ∀ a, V a → framed W a) : Hub.Alters P W h g where
  reg a ha := x.reg a fun hv => ha (hW a hv)
  sent := x.sent
  clock _ := x.clock
  pins _ := x.pins
  power _ := x.power
  boot _ := x.boot
  fail _ := x.fail
  pcie _ := x.pcie
  rings _ := x.rings
  disp _ := x.disp
  cleat _ := x.cleat
  time _ := x.time
  memch _ := x.memch
  sites _ := x.sites
  dir _ := x.dir
  map _ := x.map
  mast _ := x.mast
  ser _ := x.ser
  crew _ := x.crew
  spar _ := x.spar
  trim _ := x.trim
  sns _ := x.sns
  test _ := x.test

/-- The frame of a statement: the parts altered are taken over, and the rest is quiet. -/
theorem quiet (x : Hub.Alters P W h g) : Hub.Quiet (framed W) (h.take P g) g where
  reg := x.reg
  sent := x.sent
  clock := by dsimp only [Hub.take]; split <;> [rfl; exact x.clock ‹_›]
  pins := by dsimp only [Hub.take]; split <;> [rfl; exact x.pins ‹_›]
  power := by dsimp only [Hub.take]; split <;> [rfl; exact x.power ‹_›]
  boot := by dsimp only [Hub.take]; split <;> [rfl; exact x.boot ‹_›]
  fail := by dsimp only [Hub.take]; split <;> [rfl; exact x.fail ‹_›]
  pcie := by dsimp only [Hub.take]; split <;> [rfl; exact x.pcie ‹_›]
  rings := by dsimp only [Hub.take]; split <;> [rfl; exact x.rings ‹_›]
  disp := by dsimp only [Hub.take]; split <;> [rfl; exact x.disp ‹_›]
  cleat := by dsimp only [Hub.take]; split <;> [rfl; exact x.cleat ‹_›]
  time := by dsimp only [Hub.take]; split <;> [rfl; exact x.time ‹_›]
  memch := by dsimp only [Hub.take]; split <;> [rfl; exact x.memch ‹_›]
  sites := by dsimp only [Hub.take]; split <;> [rfl; exact x.sites ‹_›]
  dir := by dsimp only [Hub.take]; split <;> [rfl; exact x.dir ‹_›]
  map := by dsimp only [Hub.take]; split <;> [rfl; exact x.map ‹_›]
  mast := by dsimp only [Hub.take]; split <;> [rfl; exact x.mast ‹_›]
  ser := by dsimp only [Hub.take]; split <;> [rfl; exact x.ser ‹_›]
  crew := by dsimp only [Hub.take]; split <;> [rfl; exact x.crew ‹_›]
  spar := by dsimp only [Hub.take]; split <;> [rfl; exact x.spar ‹_›]
  trim := by dsimp only [Hub.take]; split <;> [rfl; exact x.trim ‹_›]
  sns := by dsimp only [Hub.take]; split <;> [rfl; exact x.sns ‹_›]
  test := by dsimp only [Hub.take]; split <;> [rfl; exact x.test ‹_›]

/-- A register field outside the set reads as before. -/
theorem rget (x : Hub.Alters P W h g) (f : RF) (hf : ¬ framed W f.off) : Machine.rget g.regs f = Machine.rget h.regs f := by
  unfold Machine.rget
  rw [show rword g.regs f.off = rword h.regs f.off from x.reg f.off hf]

theorem get (x : Hub.Alters P W h g) (f : RF) (hf : ¬ framed W f.off) : g.get f = h.get f := x.rget f hf

/-! ### One more operation -/

/-- One more operation whose frame lies within this one. -/
theorem andThen (x : Hub.Alters P W h g) (y : Hub.Alters Q V g k) (hP : Q ⊆ P := by simp)
    (hW : ∀ a, V a → framed W a := by intro a ha; simp [framed, those, within, logReg, evtReg, powerReg] at ha ⊢ <;> omega) :
    Hub.Alters P W h k :=
  x.trans (y.mono hP hW)

theorem andQuiet (x : Hub.Alters P W h g) (y : Hub.Quiet V g k) (hW : ∀ a, V a → framed W a) : Hub.Alters P W h k :=
  x.trans (of_quiet y hW)

theorem setReg (x : Hub.Alters P W h g) {a : Nat} (w : Word) (ha : framed W a := by simp [framed, those, within, logReg, evtReg, powerReg] <;> omega) : Hub.Alters P W h (g.setReg a w) :=
  x.andQuiet (Hub.quiet_setReg g w ha) fun _ hw => hw

theorem put (x : Hub.Alters P W h g) {f : RF} (v : Nat) (hf : framed W f.off := by simp [framed, those, within, logReg, evtReg, powerReg] <;> omega) : Hub.Alters P W h (g.put f v) :=
  x.setReg _ hf

theorem putFree (x : Hub.Alters P W h g) {f : RF} (hf : framed W f.off := by simp [framed, those, within, logReg, evtReg, powerReg] <;> omega) : Hub.Alters P W h (g.putFree f) :=
  x.andQuiet (Hub.quiet_putFree g hf) fun _ hw => hw

theorem bump (x : Hub.Alters P W h g) {f : RF} (n : Nat) (hf : framed W f.off := by simp [framed, those, within, logReg, evtReg, powerReg] <;> omega) : Hub.Alters P W h (g.bump f n) :=
  x.andQuiet (Hub.quiet_bump g n hf) fun _ hw => hw

theorem bumpSat (x : Hub.Alters P W h g) {f : RF} (n : Nat) (hf : framed W f.off := by simp [framed, those, within, logReg, evtReg, powerReg] <;> omega) : Hub.Alters P W h (g.bumpSat f n) :=
  x.put _ hf

theorem add64 (x : Hub.Alters P W h g) {lo hi : Nat} (n : Nat) (hl : framed W lo := by simp [framed, those, within, logReg, evtReg, powerReg] <;> omega)
    (hh : framed W hi := by simp [framed, those, within, logReg, evtReg, powerReg] <;> omega) :
    Hub.Alters P W h (g.add64 lo hi n) :=
  x.andQuiet (Hub.quiet_add64 g n hl hh) fun _ hw => hw

theorem send (x : Hub.Alters P W h g) (o : Out) : Hub.Alters P W h (g.send o) :=
  x.andQuiet (Hub.quiet_send (framed W) g o) fun _ hw => hw

theorem drew (x : Hub.Alters P W h g) : Hub.Alters P W h g.drew :=
  x.andQuiet (Hub.quiet_drew (framed W) g) fun _ hw => hw

theorem set_ras (x : Hub.Alters P W h g) (r : RasS) : Hub.Alters P W h { g with ras := r } :=
  x.andQuiet (Hub.quiet_ras (framed W) g r) fun _ hw => hw

theorem set_yew (x : Hub.Alters P W h g) (y : YewS) : Hub.Alters P W h { g with yew := y } :=
  x.andQuiet (Hub.quiet_yew (framed W) g y) fun _ hw => hw

/-- A record in the logs lies within every frame. -/
theorem andLog (x : Hub.Alters P W h g) (y : Hub.Quiet logReg g k) : Hub.Alters P W h k := x.andQuiet y fun _ => .inl

theorem logAccess (x : Hub.Alters P W h g) (kind : Nat) (req : Path) (off v : Nat) : Hub.Alters P W h (g.logAccess kind req off v) :=
  x.andLog (Hub.quiet_logAccess kind req off v g)

theorem notice (x : Hub.Alters P W h g) (what detail : Nat) : Hub.Alters P W h (g.notice what detail) :=
  x.andLog (Hub.quiet_notice what detail g)

theorem warn (x : Hub.Alters P W h g) (code cls detail unit : Nat) : Hub.Alters P W h (g.warn code cls detail unit) :=
  x.andLog (Hub.quiet_warn code cls detail unit g)

theorem faultRecord (x : Hub.Alters P W h g) (code cls unit : Nat) : Hub.Alters P W h (g.faultRecord code cls unit) :=
  x.andLog (Hub.quiet_faultRecord code cls unit g)

theorem rasLog (x : Hub.Alters P W h g) (e : RasEntry) : Hub.Alters P W h (g.rasLog e) :=
  x.andLog (Hub.quiet_rasLog e g)

theorem rasLogWith (x : Hub.Alters P W h g) (b : Bool) (e : RasEntry) : Hub.Alters P W h (g.rasLogWith b e) :=
  x.andLog (Hub.quiet_rasLogWith b e g)

theorem rasWrite (x : Hub.Alters P W h g) (e : RasEntry) : Hub.Alters P W h (g.rasWrite e) :=
  x.andLog (Hub.quiet_rasWrite g e)

theorem yewRecord (x : Hub.Alters P W h g) (type sev : Nat) (b : Bool) (p : List Byte) : Hub.Alters P W h (g.yewRecord type sev b p) :=
  x.andLog (Hub.quiet_yewRecord type sev b p g)

theorem yewRecordWith (x : Hub.Alters P W h g) (flags type sev : Nat) (b : Bool) (p : List Byte) : Hub.Alters P W h (g.yewRecordWith flags type sev b p) :=
  x.andLog (Hub.quiet_yewRecordWith flags type sev b p g)

theorem yewStage (x : Hub.Alters P W h g) (type sev flags : Nat) (p : List Byte) : Hub.Alters P W h (g.yewStage type sev flags p) :=
  x.andLog (Hub.quiet_yewStage type sev flags p g)

theorem escNote (x : Hub.Alters P W h g) (code : Nat) : Hub.Alters P W h (g.escNote code) :=
  x.andLog (Hub.quiet_escNote code g)

theorem programBlock (x : Hub.Alters P W h g) (recs : List YewRec) : Hub.Alters P W h (g.programBlock recs) :=
  x.andLog (Hub.quiet_programBlock recs g)

theorem flushStaged (x : Hub.Alters P W h g) : Hub.Alters P W h g.flushStaged := x.andLog (Hub.quiet_flushStaged g)

theorem sendVector (x : Hub.Alters P W h g) {vec : Nat} (hv : vec < 2048 := by omega) : Hub.Alters P W h (g.sendVector 0 vec) :=
  x.andLog (Hub.quiet_sendVector g hv)

theorem sendVector_mod (x : Hub.Alters P W h g) (v : Nat) : Hub.Alters P W h (g.sendVector 0 (v % 264)) :=
  x.sendVector (Nat.lt_trans (Nat.mod_lt _ (by decide)) (by decide))

theorem countEvents (x : Hub.Alters P W h g) (code n : Nat) : Hub.Alters P W h (g.countEvents code n) :=
  x.andQuiet (Hub.quiet_countEvents g code n) fun _ hv => .inr (.inl hv)

theorem countEvent (x : Hub.Alters P W h g) (code : Nat) : Hub.Alters P W h (g.countEvent code) := x.countEvents code 1

theorem set_pins (x : Hub.Alters P W h g) (y : Pins) (hp : Part.pins ∈ P := by simp) : Hub.Alters P W h { g with pins := y } :=
  x.trans { self P W g with reg := fun _ _ => rfl, pins := fun n => absurd hp n }

theorem set_power (x : Hub.Alters P W h g) (y : PowerS) (hp : Part.power ∈ P := by simp) : Hub.Alters P W h { g with power := y } :=
  x.trans { self P W g with reg := fun _ _ => rfl, power := fun n => absurd hp n }

theorem set_boot (x : Hub.Alters P W h g) (y : BootS) (hp : Part.boot ∈ P := by simp) : Hub.Alters P W h { g with boot := y } :=
  x.trans { self P W g with reg := fun _ _ => rfl, boot := fun n => absurd hp n }

theorem set_fail (x : Hub.Alters P W h g) (y : FailRecord) (hp : Part.fail ∈ P := by simp) : Hub.Alters P W h { g with fail := y } :=
  x.trans { self P W g with reg := fun _ _ => rfl, fail := fun n => absurd hp n }

theorem set_pcie (x : Hub.Alters P W h g) (y : PcieS) (hp : Part.pcie ∈ P := by simp) : Hub.Alters P W h { g with pcie := y } :=
  x.trans { self P W g with reg := fun _ _ => rfl, pcie := fun n => absurd hp n }

theorem set_rings (x : Hub.Alters P W h g) (y : List (Nat × RingS)) (hp : Part.rings ∈ P := by simp) : Hub.Alters P W h { g with rings := y } :=
  x.trans { self P W g with reg := fun _ _ => rfl, rings := fun n => absurd hp n }

theorem set_disp (x : Hub.Alters P W h g) (y : DispS) (hp : Part.disp ∈ P := by simp) : Hub.Alters P W h { g with disp := y } :=
  x.trans { self P W g with reg := fun _ _ => rfl, disp := fun n => absurd hp n }

theorem set_cleat (x : Hub.Alters P W h g) (y : CleatS) (hp : Part.cleat ∈ P := by simp) : Hub.Alters P W h { g with cleat := y } :=
  x.trans { self P W g with reg := fun _ _ => rfl, cleat := fun n => absurd hp n }

theorem set_time (x : Hub.Alters P W h g) (y : TimeS) (hp : Part.time ∈ P := by simp) : Hub.Alters P W h { g with time := y } :=
  x.trans { self P W g with reg := fun _ _ => rfl, time := fun n => absurd hp n }

theorem set_memch (x : Hub.Alters P W h g) (y : MemChS) (hp : Part.memch ∈ P := by simp) : Hub.Alters P W h { g with memch := y } :=
  x.trans { self P W g with reg := fun _ _ => rfl, memch := fun n => absurd hp n }

theorem set_sites (x : Hub.Alters P W h g) (y : List (Nat × SiteS)) (hp : Part.sites ∈ P := by simp) : Hub.Alters P W h { g with sites := y } :=
  x.trans { self P W g with reg := fun _ _ => rfl, sites := fun n => absurd hp n }

theorem set_dir (x : Hub.Alters P W h g) (y : DirS) (hp : Part.dir ∈ P := by simp) : Hub.Alters P W h { g with dir := y } :=
  x.trans { self P W g with reg := fun _ _ => rfl, dir := fun n => absurd hp n }

theorem set_map (x : Hub.Alters P W h g) (y : MapS) (hp : Part.map ∈ P := by simp) : Hub.Alters P W h { g with map := y } :=
  x.trans { self P W g with reg := fun _ _ => rfl, map := fun n => absurd hp n }

theorem set_mast (x : Hub.Alters P W h g) (y : MastS) (hp : Part.mast ∈ P := by simp) : Hub.Alters P W h { g with mast := y } :=
  x.trans { self P W g with reg := fun _ _ => rfl, mast := fun n => absurd hp n }

theorem set_ser (x : Hub.Alters P W h g) (y : SerS) (hp : Part.ser ∈ P := by simp) : Hub.Alters P W h { g with ser := y } :=
  x.trans { self P W g with reg := fun _ _ => rfl, ser := fun n => absurd hp n }

theorem set_crew (x : Hub.Alters P W h g) (y : CrewS) (hp : Part.crew ∈ P := by simp) : Hub.Alters P W h { g with crew := y } :=
  x.trans { self P W g with reg := fun _ _ => rfl, crew := fun n => absurd hp n }

theorem set_spar (x : Hub.Alters P W h g) (y : SparS) (hp : Part.spar ∈ P := by simp) : Hub.Alters P W h { g with spar := y } :=
  x.trans { self P W g with reg := fun _ _ => rfl, spar := fun n => absurd hp n }

theorem set_trim (x : Hub.Alters P W h g) (y : TrimS) (hp : Part.trim ∈ P := by simp) : Hub.Alters P W h { g with trim := y } :=
  x.trans { self P W g with reg := fun _ _ => rfl, trim := fun n => absurd hp n }

theorem set_sns (x : Hub.Alters P W h g) (y : SnsS) (hp : Part.sns ∈ P := by simp) : Hub.Alters P W h { g with sns := y } :=
  x.trans { self P W g with reg := fun _ _ => rfl, sns := fun n => absurd hp n }

theorem set_test (x : Hub.Alters P W h g) (y : TestS) (hp : Part.test ∈ P := by simp) : Hub.Alters P W h { g with test := y } :=
  x.trans { self P W g with reg := fun _ _ => rfl, test := fun n => absurd hp n }

theorem set_pins_power_yew (x : Hub.Alters P W h g) (pins' : Pins) (power' : PowerS) (yew' : YewS)
    (hpins : Part.pins ∈ P := by simp) (hpower : Part.power ∈ P := by simp) :
    Hub.Alters P W h { g with pins := pins', power := power', yew := yew' } :=
  x.trans { self P W g with reg := fun _ _ => rfl, pins := fun n => absurd hpins n, power := fun n => absurd hpower n }

theorem set_pins_boot (x : Hub.Alters P W h g) (pins' : Pins) (boot' : BootS)
    (hpins : Part.pins ∈ P := by simp) (hboot : Part.boot ∈ P := by simp) :
    Hub.Alters P W h { g with pins := pins', boot := boot' } :=
  x.trans { self P W g with reg := fun _ _ => rfl, pins := fun n => absurd hpins n, boot := fun n => absurd hboot n }

theorem set_pins_pcie (x : Hub.Alters P W h g) (pins' : Pins) (pcie' : PcieS)
    (hpins : Part.pins ∈ P := by simp) (hpcie : Part.pcie ∈ P := by simp) :
    Hub.Alters P W h { g with pins := pins', pcie := pcie' } :=
  x.trans { self P W g with reg := fun _ _ => rfl, pins := fun n => absurd hpins n, pcie := fun n => absurd hpcie n }

theorem set_sites_mast (x : Hub.Alters P W h g) (sites' : List (Nat × SiteS)) (mast' : MastS)
    (hsites : Part.sites ∈ P := by simp) (hmast : Part.mast ∈ P := by simp) :
    Hub.Alters P W h { g with sites := sites', mast := mast' } :=
  x.trans { self P W g with reg := fun _ _ => rfl, sites := fun n => absurd hsites n, mast := fun n => absurd hmast n }

theorem set_yew_mast (x : Hub.Alters P W h g) (yew' : YewS) (mast' : MastS)
    (hmast : Part.mast ∈ P := by simp) :
    Hub.Alters P W h { g with yew := yew', mast := mast' } :=
  x.trans { self P W g with reg := fun _ _ => rfl, mast := fun n => absurd hmast n }

theorem branch {c : Prop} {_ : Decidable c} (x : Hub.Alters P W h g) (y : Hub.Alters P W h k) :
    Hub.Alters P W h (if c then g else k) := by
  split <;> assumption

theorem branchIf {c : Prop} {_ : Decidable c} (x : c → Hub.Alters P W h g) (y : ¬ c → Hub.Alters P W h k) :
    Hub.Alters P W h (if c then g else k) := by
  split
  · exact x ‹_›
  · exact y ‹_›

theorem each {α : Type} (x : Hub.Alters P W h g) (l : List α) {f : α → Hub → Hub}
    (step : ∀ a, a ∈ l → ∀ g, Hub.Alters P W g (f a g)) : Hub.Alters P W h (g.each l f) :=
  x.trans (Hub.each_rel (self P W) (fun _ _ _ => trans) step g)

theorem foldl {α : Type} (x : Hub.Alters P W h g) (l : List α) {f : Hub → α → Hub}
    (step : ∀ g a, a ∈ l → Hub.Alters P W g (f g a)) : Hub.Alters P W h (l.foldl f g) :=
  x.each l fun a ha g => step g a ha

theorem upto (x : Hub.Alters P W h g) (n : Nat) {f : Nat → Hub → Hub}
    (step : ∀ k, k < n → ∀ g, Hub.Alters P W g (f k g)) : Hub.Alters P W h (g.upto n f) :=
  x.trans (Hub.upto_rel (self P W) (fun _ _ _ => trans) step g)

theorem when (x : Hub.Alters P W h g) (c : Bool) {f : Hub → Hub} (y : Hub.Alters P W g (f g)) :
    Hub.Alters P W h (g.when c f) := by
  unfold Hub.when
  split
  · exact x.trans y
  · exact x

theorem pfWrite (req : Path) {f : Hub → Hub} (y : Hub.Alters P W h (f h)) : Hub.Alters P W h (h.pfWrite req f) := by
  unfold Hub.pfWrite
  split
  · exact y
  · exact self P W h

end Hub.Alters

/-- A command of the hub leaves what its operation does not alter. -/
theorem leaves_of_alters {i : Instr} {W : Nat → Prop} {keep : Hub → Hub → Hub} (P : List Part) {f : Hub → Hub}
    (run : ∀ s, exec i s = s.act i.wf f) (hk : ∀ h g, keep h g = h.take P g)
    (frame : i.wf = true → ∀ h, Hub.Alters P W h (f h)) : Leaves i W keep := by
  intro s t h
  obtain ⟨hwf, rfl⟩ := State.act_inv (run s ▸ h)
  exact ⟨hk s.hub _ ▸ (frame hwf s.hub).quiet, rfl, rfl⟩

end Sys2Proof.Machine
end

section
namespace Sys2Proof.Machine

set_option Elab.async false
open Hub.Alters

/-! ### Shared operations -/

theorem dramMix_lt (r : Nat) : dramMix r < 64 := Nat.mod_lt _ (by decide)

theorem dramPc_lt (addr : Nat) : dramPc addr < 192 := by
  have hx : (addr / 4096 % 192 % 64) ^^^ dramMix (addr / 4096 / 192) < 2 ^ 6 :=
    Nat.xor_lt_two_pow (Nat.mod_lt _ (by decide)) (dramMix_lt _)
  unfold dramPc
  dsimp only
  omega

theorem mem_of_mem_takeWave {lim n : Nat} {l : List Nat} : ∀ {sum : Nat}, n ∈ takeWave lim sum l → n ∈ l := by
  induction l with
  | nil => simp [takeWave]
  | cons m l ih =>
    intro sum hn
    unfold takeWave at hn
    split at hn
    · rcases List.mem_cons.mp hn with rfl | hn
      · exact List.mem_cons_self
      · exact List.mem_cons_of_mem _ (ih hn)
    · cases hn

theorem Hub.lt_of_mem_nextWave {h : Hub} {n : Nat} (hn : n ∈ h.nextWave) : n < 74 :=
  List.mem_range.mp (List.mem_filter.mp (mem_of_mem_takeWave hn)).1

/-- A vector of the ring's function: the host's table holds 264 of them, and a VF's pending bits are no registers. -/
theorem Hub.Alters.sendVector_of {P : List Part} {W : Nat → Prop} {h g : Hub} (x : Hub.Alters P W h g) (fn v : Nat)
    (hp : Part.pcie ∈ P := by simp) : Hub.Alters P W h (g.sendVector fn (v % vectorsOf fn)) := by
  by_cases hf : fn = 0
  · subst hf
    exact x.sendVector_mod v
  · unfold Hub.sendVector Hub.setPending
    rw [if_neg hf]
    exact branch x (branch (x.set_pcie _ hp) (x.send _))

theorem Hub.alters_lgSet (cause sev : Nat) (h : Hub) :
    Hub.Alters [] (those []) h (h.lgSet cause sev) := by
  unfold Hub.lgSet
  exact ((((self ..).set_yew _).put _).programBlock _).flushStaged

theorem Hub.alters_showHold (mv : Nat) (h : Hub) :
    Hub.Alters [] (those [R.PWR_HOLD_READY]) h (h.showHold mv) := by
  unfold Hub.showHold
  exact (((self ..).put _).put _).put _

/-- Only a gasp for the input or by hand discharges the hold-up capacitors. -/
theorem Hub.alters_lastGasp {W : Nat → Prop} (cause : Nat) (h : Hub) (hW : cause < 3 → framed W (R.PWR_HOLD_READY).off) :
    Hub.Alters [.pins, .power] W h (h.lastGasp cause) := by
  have stopped (y : YewS) (p : Pins) (c : PowerS) :
      Hub.Alters [.pins, .power] W h { h with yew := y, pins := p, power := c } :=
    (self ..).set_pins_power_yew ..
  have noted (skip : Prop) {_ : Decidable skip} {k : Hub} (x : Hub.Alters [.pins, .power] W h k) (a b : Nat) :
      Hub.Alters [.pins, .power] W h (if skip then k else k.lgSet a b) :=
    branch x (x.andThen (Hub.alters_lgSet ..))
  unfold Hub.lastGasp Hub.discharge
  dsimp only
  refine branchIf (fun hc => ?_) fun _ => noted _ (stopped ..) ..
  refine ((noted _ (stopped ..) ..).andThen (Hub.alters_showHold ..) (by simp) fun a ha => ?_).drew
  obtain rfl : a = (R.PWR_HOLD_READY).off := by simpa [those] using ha
  exact hW (by simpa using hc)

theorem Hub.alters_logNva (n wrong : Nat) (h : Hub) :
    Hub.Alters [] (those []) h (h.logNva n wrong) := by
  unfold Hub.logNva
  exact branch (self ..) (branch ((self ..).rasLog _) (((self ..).bump _).rasLog _))

theorem Hub.alters_readRec (seq : Nat) (h : Hub) : Hub.Alters [] (those []) h (h.readRec seq).2.2 := by
  unfold Hub.readRec
  split
  · exact self ..
  · split
    · exact self ..
    · dsimp only
      split_ifs
      · exact (self ..).andThen (Hub.alters_logNva ..)
      · exact (self ..).andThen (Hub.alters_logNva ..)
      · exact (self ..).drew
      · exact (self ..).drew.andThen (Hub.alters_logNva ..)

theorem Hub.alters_takeRise (mw : Nat) (h : Hub) :
    Hub.Alters [.power] powerReg h (h.takeRise mw) := by
  unfold Hub.takeRise
  exact (self ..).set_power _

theorem Hub.alters_askOn (n : Nat) (h : Hub) (_hb : n < 74 := by omega) :
    Hub.Alters [.power] powerReg h (h.askOn n) := by
  unfold Hub.askOn Hub.setWant Hub.showPending Hub.holdNi
  exact branch (((self ..).set_power _).put _) ((((self ..).set_power _).put _).set_power _)

theorem Hub.alters_askOff (n : Nat) (h : Hub) (_hb : n < 74 := by omega) :
    Hub.Alters [.power] powerReg h (h.askOff n) := by
  unfold Hub.askOff Hub.setWant Hub.showPending Hub.holdNi
  exact branch ((((self ..).set_power _).set_power _).put _) (((self ..).set_power _).put _)

theorem Hub.alters_reqOn (n : Nat) (h : Hub) (_hb : n < 74 := by omega) :
    Hub.Alters [.power] powerReg h (h.reqOn n) := by
  unfold Hub.reqOn Hub.latchDom Hub.refuseDom
  exact branch ((self ..).set_power _) (branch (((self ..).put _).put _) (branch (((self ..).put _).put _) ((self ..).andThen
    (Hub.alters_askOn ..))))

theorem Hub.alters_reqOff (n : Nat) (h : Hub) (_hb : n < 74 := by omega) :
    Hub.Alters [.power] powerReg h (h.reqOff n) := by
  unfold Hub.reqOff Hub.latchDom Hub.defer Hub.showPending Hub.refuseDom
  exact branch ((self ..).set_power _) (branch (((self ..).set_power _).put _) (branch (((self ..).put _).put _)
    ((self ..).andThen (Hub.alters_askOff ..))))

theorem Hub.alters_reqHub (n : Nat) (h : Hub) (_hb : n < 74 := by omega) :
    Hub.Alters [.power] powerReg h (h.reqHub n) := by
  unfold Hub.reqHub Hub.latchDom
  exact branch ((self ..).set_power _) (self ..)

theorem Hub.alters_takeReq (n v : Nat) (h : Hub) (_hb : n < 74 := by omega) :
    Hub.Alters [.power] powerReg h (h.takeReq n v) := by
  unfold Hub.takeReq
  exact branch ((self ..).andThen (Hub.alters_reqOn ..)) (branch ((self ..).andThen (Hub.alters_reqOff ..)) ((self ..).andThen
    (Hub.alters_reqHub ..)))

theorem Hub.alters_applyLatched (n : Nat) (h : Hub) (_hb : n < 74 := by omega) :
    Hub.Alters [.power] powerReg h (h.applyLatched n) := by
  unfold Hub.applyLatched Hub.latchDom
  exact branch ((self ..).andThen (Hub.alters_askOff ..)) (branch (self ..) (((self ..).set_power _).andThen
    (Hub.alters_takeReq ..)))

theorem Hub.alters_takeStep (mw swap : Nat) (h : Hub) :
    Hub.Alters [.power] powerReg h (h.takeStep mw swap) := by
  unfold Hub.takeStep Hub.swapSoak Hub.setSegs
  exact (branch (self ..) (((self ..).put _).put _)).andThen (Hub.alters_takeRise ..)

theorem Hub.alters_startHoist (n : Nat) (h : Hub) (_hb : n < 74 := by omega) :
    Hub.Alters [.power] powerReg h (h.startHoist n) := by
  unfold Hub.startHoist Hub.setDom Hub.showPending Hub.setWant
  exact ((((self ..).set_power _).put _).put _).put _

theorem Hub.alters_hoistWave {l : List Nat} (hl : ∀ n ∈ l, n < 74) (h : Hub) :
    Hub.Alters [.power] powerReg h (h.hoistWave l) := by
  unfold Hub.hoistWave
  exact (((self ..).andThen (Hub.alters_takeStep ..)).set_power _).each _ fun n hn _ => Hub.alters_startHoist n _ (hl n hn)

theorem Hub.alters_admitDomain (n : Nat) (h : Hub) (_hb : n < 74 := by omega) :
    Hub.Alters [.power] powerReg h (h.admitDomain n) := by
  unfold Hub.admitDomain Hub.setDom Hub.showPending Hub.setWant
  exact branch (branch (Hub.alters_hoistWave (fun _ => Hub.lt_of_mem_nextWave) _) (self ..))
    (branch (branch ((((((self ..).set_power _).set_power _).put _).put _).put _) (self ..)) (self ..))

theorem Hub.alters_engageSoak (d : Nat) (h : Hub) :
    Hub.Alters [.power] powerReg h (h.engageSoak d) := by
  unfold Hub.engageSoak Hub.setSegs
  exact branch (self ..) ((branch (self ..) (((((self ..).put _).put _).bump _).countEvent _)).set_power _)

theorem Hub.alters_excursion (d : Nat) (h : Hub) :
    Hub.Alters [.power] powerReg h (h.excursion d) := by
  unfold Hub.excursion Hub.powerRecord Hub.setSegs
  exact (((((((self ..).put _).put _).bump _).put _).set_power _).warn _ _ _ _).yewRecord _ _ _ _

theorem Hub.alters_judgeFall (d : Nat) (h : Hub) :
    Hub.Alters [.power] powerReg h (h.judgeFall d) := by
  unfold Hub.judgeFall
  exact branch ((self ..).andThen (Hub.alters_excursion ..)) (self ..)

theorem Hub.alters_judgeStep (st : ReefStep) (h : Hub) :
    Hub.Alters [.power] powerReg h (h.judgeStep st) := by
  unfold Hub.judgeStep
  exact (branch ((self ..).andThen (Hub.alters_takeStep ..)) (self ..)).set_power _

theorem Hub.alters_knownFall (d : Nat) (h : Hub) :
    Hub.Alters [.power] powerReg h (h.knownFall d) := by
  unfold Hub.knownFall
  exact branch (self ..) (((self ..).andThen (Hub.alters_engageSoak ..)).andThen (Hub.alters_judgeFall ..))

theorem Hub.alters_sensedDrop (d : Nat) (h : Hub) :
    Hub.Alters [.power] powerReg h (h.sensedDrop d) := by
  unfold Hub.sensedDrop
  exact branch (self ..) ((((self ..).set_power _).andThen (Hub.alters_engageSoak ..)).andThen (Hub.alters_judgeFall ..))

theorem Hub.alters_releaseSoak (h : Hub) :
    Hub.Alters [.power] powerReg h (h.releaseSoak) := by
  unfold Hub.releaseSoak Hub.setSegs
  exact branch (self ..) (branch ((((self ..).put _).put _).set_power _) ((self ..).set_power _))

theorem Hub.alters_admitGroup (h : Hub) : Hub.Alters [.power] powerReg h h.admitGroup := by
  unfold Hub.admitGroup Hub.tryStep
  refine branch (self ..) ?_
  split <;> rename_i e
  · obtain ⟨-, rfl⟩ := by simpa using e
    exact (Hub.alters_takeStep ..).set_power _
  · exact self ..

theorem Hub.alters_admitAll (h : Hub) : Hub.Alters [.power] powerReg h h.admitAll := by
  unfold Hub.admitAll Hub.judgeSteps
  exact ((((self ..).upto _ fun n hn _ => Hub.alters_admitDomain n _ hn).set_power _).each _
    fun _ _ _ => Hub.alters_judgeStep ..).trans (Hub.alters_admitGroup _)

theorem Hub.alters_preramp (h : Hub) :
    Hub.Alters [.power] powerReg h (h.preramp) := by
  unfold Hub.preramp Hub.setSegs
  exact branch (((((self ..).put _).put _).andThen (Hub.alters_takeRise ..)).set_power _) (self ..)

theorem Hub.alters_slewTick (h : Hub) :
    Hub.Alters [.power] powerReg h (h.slewTick) := by
  unfold Hub.slewTick
  exact (self ..).set_power _

theorem Hub.alters_measureRise (p : Nat) (h : Hub) :
    Hub.Alters [.power] powerReg h (h.measureRise p) := by
  unfold Hub.measureRise
  exact branch (((self ..).set_power _).andThen (Hub.alters_excursion ..)) ((self ..).set_power _)

theorem Hub.alters_confirmDrop (p l : Nat) (h : Hub) :
    Hub.Alters [.power] powerReg h (h.confirmDrop p l) := by
  unfold Hub.confirmDrop
  exact branch ((self ..).set_power _) (self ..)

theorem Hub.alters_takeDrops (d s : Nat) (h : Hub) :
    Hub.Alters [.power] powerReg h (h.takeDrops d s) := by
  unfold Hub.takeDrops
  exact branch ((self ..).andThen (Hub.alters_knownFall ..)) (((self ..).andThen (Hub.alters_engageSoak ..)).andThen
    (Hub.alters_sensedDrop ..))

theorem Hub.alters_stopElement (h : Hub) :
    Hub.Alters [.power] powerReg h (h.stopElement) := by
  unfold Hub.stopElement
  exact branch (((self ..).set_power _).andThen (Hub.alters_knownFall ..)) (self ..)

theorem Hub.alters_admitOrRelease (h : Hub) :
    Hub.Alters [.power] powerReg h (h.admitOrRelease) := by
  unfold Hub.admitOrRelease
  exact branch ((self ..).andThen (Hub.alters_admitAll ..)) (((self ..).andThen (Hub.alters_releaseSoak ..)).andThen
    (Hub.alters_admitAll ..))

theorem Hub.alters_rampIsland (m k : Nat) (h : Hub) (_hb : k < 96 := by omega) :
    Hub.Alters [.power] powerReg h (h.rampIsland m k) := by
  unfold Hub.rampIsland
  exact branch ((self ..).put _) (self ..)

theorem Hub.alters_tickIsland (k : Nat) (h : Hub) (_hb : k < 96 := by omega) :
    Hub.Alters [.power] powerReg h (h.tickIsland k) := by
  unfold Hub.tickIsland
  exact branch (((self ..).put _).andThen (Hub.alters_rampIsland ..)) (self ..)

theorem Hub.alters_showDisc (h : Hub) :
    Hub.Alters [] (within 0x130000 0x140000) h (h.showDisc) := by
  unfold Hub.showDisc
  exact branch ((self ..).put _) (self ..)

theorem Hub.alters_remuster (b : Bool) (h : Hub) :
    Hub.Alters [.crew] (fun a => within 0x800000 0x900000 a ∨ within 0x130000 0x140000 a) h (h.remuster b) := by
  unfold Hub.remuster
  exact branch (((((self ..).put _).bump _).set_crew _).put _) ((((self ..).put _).bump _).set_crew _)

theorem Hub.alters_showRoles (h : Hub) :
    Hub.Alters [] (within 0x800000 0x900000) h (h.showRoles) := by
  unfold Hub.showRoles
  exact (self ..).upto _ fun _ _ _ => (self ..).put _

theorem Hub.alters_showMismatch (h : Hub) :
    Hub.Alters [] (within 0x800000 0x900000) h (h.showMismatch) := by
  unfold Hub.showMismatch
  exact branch (self ..) ((self ..).put _)

theorem Hub.alters_holdClaim (c : Claim) (h : Hub) :
    Hub.Alters [.crew] (fun a => within 0x800000 0x900000 a ∨ within 0x130000 0x140000 a) h (h.holdClaim c) := by
  unfold Hub.holdClaim
  exact ((branch (((((((branch ((self ..).andThen (Hub.alters_remuster ..))
    (self ..)).put _).put _).put _).put _).put _).set_crew _) ((((((branch ((self ..).andThen (Hub.alters_remuster ..))
    (self ..)).put _).put _).put _).put _).put _)).andThen (Hub.alters_showDisc ..)).andThen (Hub.alters_showRoles ..)

theorem Hub.alters_chooseClaim (h : Hub) :
    Hub.Alters [.crew] (fun a => within 0x800000 0x900000 a ∨ within 0x130000 0x140000 a) h (h.chooseClaim) := by
  unfold Hub.chooseClaim Hub.answerOwn
  exact branch ((branch ((self ..).each _ fun _ _ _ => branch ((self ..).set_crew _) (self ..)) (self ..)).andThen
    (Hub.alters_holdClaim ..)) (self ..)

theorem Hub.alters_loseLeader (h : Hub) :
    Hub.Alters [.crew] (fun a => within 0x800000 0x900000 a ∨ within 0x130000 0x140000 a) h (h.loseLeader) := by
  unfold Hub.loseLeader
  exact branch (self ..) (((((self ..).bump _).put _).set_crew _).andThen (Hub.alters_chooseClaim ..))

theorem Hub.alters_setCrewPort (p st cause : Nat) (h : Hub) (_hb : p < 32 := by omega) :
    Hub.Alters [.crew] (fun a => within 0x800000 0x900000 a ∨ within 0x130000 0x140000 a) h (h.setCrewPort p st cause) := by
  unfold Hub.setCrewPort
  exact branch (((((self ..).put _).put _).andThen (Hub.alters_showMismatch ..)).andThen (Hub.alters_loseLeader ..))
    ((((((self ..).put _).put _).andThen (Hub.alters_showMismatch ..)).andThen (Hub.alters_chooseClaim ..)).andThen
    (Hub.alters_showRoles ..))

theorem Hub.alters_setLane (l st : Nat) (h : Hub) (_hb : l < 128 := by omega) :
    Hub.Alters [.ser] (within 0x700000 0x800000) h (h.setLane l st) := by
  unfold Hub.setLane Hub.onLane
  exact branch ((((((self ..).put _).set_ser _).put _).put _).putFree) ((self ..).put _)

theorem Hub.alters_setUsed (n u : Nat) (h : Hub) (_hb : n < 256 := by omega) :
    Hub.Alters [.rings] (within 0x100000 0x110000) h (h.setUsed n u) := by
  unfold Hub.setUsed Hub.setRing
  exact ((self ..).set_rings _).put _

theorem Hub.alters_enter (q : MemReq) (h : Hub) : Hub.Alters [.memch] (within 0x300000 0x400000) h (h.enter q) := by
  have hp := dramPc_lt q.addr
  unfold Hub.enter Hub.setQueue
  exact (((branch ((self ..).set_memch _) (self ..)).set_memch _).put _).put _

theorem Hub.alters_payEnter (q : MemReq) (h : Hub) :
    Hub.Alters [.memch] (within 0x300000 0x400000) h (h.payEnter q) := by
  unfold Hub.payEnter
  exact ((self ..).set_memch _).andThen (Hub.alters_enter ..)

theorem Hub.alters_sbSend (s type : Nat) (l : List Nat) (h : Hub) :
    Hub.Alters [.sites] (those []) h (h.sbSend s type l) := by
  unfold Hub.sbSend Hub.onSite
  exact branch (self ..) (((self ..).set_sites _).send _)

theorem Hub.alters_badTime (h : Hub) :
    Hub.Alters [] (those [R.CREW_EVT_BADTIME]) h (h.badTime) := by
  unfold Hub.badTime
  exact (self ..).bump _

theorem Hub.alters_sramCe (req off d : Nat) (h : Hub) :
    Hub.Alters [] (those []) h (h.sramCe req off d) := by
  unfold Hub.sramCe Hub.sramClean
  exact ((self ..).set_ras _).rasLog _

theorem Hub.alters_sramUe (req off : Nat) (h : Hub) : Hub.Alters [] (those []) h (h.sramUe req off) := by
  unfold Hub.sramUe Hub.sramClean
  refine branchIf (fun h2 => ?_) fun _ => (self ..).rasLog _
  have ho : 0x508000 ≤ off ∧ off < 0x510000 := by
    unfold sramOf at h2
    split_ifs at h2 <;> omega
  exact ((self ..).upto _ fun _ _ _ => ((self ..).setReg _).set_ras _).rasLog _

theorem Hub.alters_readRecs (k seq : Nat) (h : Hub) : Hub.Alters [] (those []) h (h.readRecs k seq).2 := by
  induction k generalizing seq h with
  | zero => exact self ..
  | succ k ih =>
    have one := Hub.alters_readRec seq h
    unfold Hub.readRecs
    split <;> rename_i e <;> rw [e] at one
    · exact one
    · exact one.trans (ih ..)

/-- The block's own words only have a check code to clear or a free value to take. -/
theorem Hub.alters_sramCheck (req off : Nat) (h : Hub) (_hb : 0xC00100 ≤ off := by omega) :
    Hub.Alters [] (within 0xC00100 0xC00200) h (h.sramCheck req off).2 := by
  by_cases ho : off < 0xC00200
  · unfold Hub.sramCheck
    dsimp only
    split
    · exact self ..
    · exact (self ..).andThen (Hub.alters_sramCe ..)
    · exact (self ..).andThen (Hub.alters_sramUe ..)
    · split
      · exact (self ..).drew.andThen (Hub.alters_sramUe ..)
      · exact ((((self ..).drew.setReg _).setReg _).drew).andThen (Hub.alters_sramCe ..)
  · have e : h.sramErr off = 0 := by
      rw [Hub.sramErr, if_pos (by unfold sramOf; split_ifs <;> omega)]
    unfold Hub.sramCheck
    rw [e]
    exact self ..

theorem Hub.alters_mastRead (h : Hub) : Hub.Alters [] (within 0xC00100 0xC00200) h h.mastRead.2 := by
  unfold Hub.mastRead
  refine List.foldlRecOn (motive := fun (r : Bool × Hub) => Hub.Alters [] (within 0xC00100 0xC00200) h r.2) _ _ (self ..) fun
    (r : Bool × Hub) x i _ => ?_
  exact x.trans (Hub.alters_sramCheck _ _ _ (by simp))

theorem Hub.alters_fatal (code cls unit : Nat) (h : Hub) :
    Hub.Alters [.boot, .pins, .power] (those [R.YEW_ESC_FATALS]) h (h.fatal code cls unit) := by
  have ended {k : Hub} (x : Hub.Alters [.boot, .pins, .power] (those [R.YEW_ESC_FATALS]) h k) (c : Prop) {_ : Decidable c} :
      Hub.Alters [.boot, .pins, .power] (those [R.YEW_ESC_FATALS]) h (if c then k else k.flushStaged) :=
    branch x x.flushStaged
  have gasp (k : Hub) : Hub.Alters [.boot, .pins, .power] (those [R.YEW_ESC_FATALS]) k
      (Hub.lastGasp 3 { k with pins := { k.pins with fatalN := false }, boot := { k.boot with pend := 2, fatalEnd := true } }) :=
    ((self ..).set_pins_boot _ _).andThen (Hub.alters_lastGasp (W := those []) 3 _ fun lt => absurd lt (by decide))
  unfold Hub.fatal
  refine branch (self ..) (ended ?_ _)
  exact ((((self ..).bump _).escNote _).yewStage _ _ _ _).trans (gasp _)

theorem Hub.alters_mastAnswer (r : Nat) (b : List Byte) (h : Hub) :
    Hub.Alters [.mast] (those []) h (h.mastAnswer r b) := by
  unfold Hub.mastAnswer
  exact (self ..).set_mast _

theorem Hub.alters_pumpList (s : Nat) (l : List TxFlit) (h : Hub) (hb : s < 4 := by omega) :
    Hub.Alters [.sites] (within 0x600000 0x700000) h (h.pumpList s l) := by
  induction l generalizing h with
  | nil => exact (self ..).set_sites _
  | cons f fs ih =>
    unfold Hub.pumpList
    split
    · exact (self ..).set_sites _
    · exact ((((self ..).set_sites _).put _).send _).trans (ih _)

theorem Hub.alters_pump (s : Nat) (h : Hub) (_hb : s < 4 := by omega) :
    Hub.Alters [.sites] (within 0x600000 0x700000) h (h.pump s) := by
  unfold Hub.pump
  exact (self ..).andThen (Hub.alters_pumpList ..)

theorem Hub.alters_txFlit (s type : Nat) (b : List Byte) (h : Hub) (_hb : s < 4 := by omega) :
    Hub.Alters [.sites] (within 0x600000 0x700000) h (h.txFlit s type b) := by
  unfold Hub.txFlit Hub.onSite
  exact ((self ..).set_sites _).andThen (Hub.alters_pump ..)

theorem Hub.alters_emitCtl (s : Nat) (m : CtlMsg) (h : Hub) (_hb : s < 4 := by omega) :
    Hub.Alters [.sites] (within 0x600000 0x700000) h (h.emitCtl s m) := by
  unfold Hub.emitCtl
  exact branch (((self ..).send _).andThen (Hub.alters_txFlit ..)) ((((self ..).send _).andThen
    (Hub.alters_txFlit ..)).andThen (Hub.alters_txFlit ..))

theorem Hub.alters_passCtl (s : Nat) (m : CtlMsg) (h : Hub) (_hb : s < 4 := by omega) :
    Hub.Alters [.sites] (within 0x600000 0x700000) h (h.passCtl s m) := by
  have hp : m.pool < 2 := by unfold CtlMsg.pool b2n; split <;> omega
  unfold Hub.passCtl
  exact ((self ..).put _).andThen (Hub.alters_emitCtl ..)

theorem Hub.alters_sendCtl (s : Nat) (m : CtlMsg) (h : Hub) (_hb : s < 4 := by omega) :
    Hub.Alters [.sites] (within 0x600000 0x700000) h (h.sendCtl s m) := by
  unfold Hub.sendCtl Hub.releaseCtl Hub.onSite
  exact branch (((self ..).set_sites _).foldl _ fun _ _ _ => branch ((self ..).andThen (Hub.alters_passCtl ..))
    ((self ..).set_sites _)) (self ..)

theorem Hub.alters_moderate (n status : Nat) (h : Hub) (_hb : n < 256 := by omega) :
    Hub.Alters [.rings, .pcie] (within 0x100000 0x110000) h (h.moderate n status) := by
  unfold Hub.moderate Hub.fire Hub.setRing
  exact branch (self ..) (branch ((((self ..).set_rings _).set_rings _).sendVector_of _ _)
    (branch (((self ..).set_rings _).set_rings _) ((self ..).set_rings _)))

theorem Hub.alters_writeCpl (n : Nat) (c : Cpl) (h : Hub) (_hb : n < 256 := by omega) :
    Hub.Alters [.rings, .pcie] (within 0x100000 0x110000) h (h.writeCpl n c) := by
  unfold Hub.writeCpl
  exact (((((((self ..).send _).put _).put _).andThen (Hub.alters_setUsed ..)).add64 _).countEvent _).andThen
    (Hub.alters_moderate ..)

theorem Hub.alters_mastDo {P : List Part} {W : Nat → Prop} {op : Nat} {len : Nat → Bool} {f : Hub → Hub} (h : Hub)
    (hf : ∀ k, Hub.Alters P W k (f k))
    (hP : [Part.boot, Part.mast, Part.pins, Part.power] ⊆ P := by simp)
    (hW : ∀ a, those [R.YEW_ESC_FATALS] a ∨ within 0xC00100 0xC00200 a → W a := by exact fun _ h => h) :
    Hub.Alters P W h (h.mastDo op len f) := by
  simp only [List.cons_subset, List.nil_subset, and_true] at hP
  obtain ⟨hb, hm, hi, hp⟩ := hP
  have read : Hub.Alters P W h h.mastRead.2 :=
    (Hub.alters_mastRead h).mono (by simp) fun a ha => .inr (.inr (hW a (.inr ha)))
  unfold Hub.mastDo Hub.mastAnswer
  refine branch (branch ?_ (branch (read.trans (hf _)) (read.set_mast _ hm))) (self ..)
  exact read.andThen (Hub.alters_fatal ..) (by simp [hb, hi, hp]) fun a ha => .inr (.inr (hW a (.inl ha)))

theorem Hub.alters_congest (p : Nat) (h : Hub) (_hb : p < 192 := by omega) :
    Hub.Alters [] (within 0x300000 0x400000) h (h.congest p) := by
  unfold Hub.congest
  exact (self ..).put _

theorem Hub.alters_sheetClassStep (c : Nat) (h : Hub) (_hb : c < 7 := by omega) :
    Hub.Alters [.memch] (within 0x400000 0x500000) h (h.sheetClassStep c) := by
  unfold Hub.sheetClassStep Hub.setRate
  exact branch ((((((self ..).set_memch _).put _).put _).bump _).countEvent _) (branch ((((self ..).set_memch _).put _).put _)
    ((((self ..).set_memch _).put _).put _))

theorem Hub.alters_releaseWaiting (c : Nat) (l : List MemReq) (h : Hub) :
    Hub.Alters [.memch] (within 0x300000 0x400000) h (h.releaseWaiting c l) := by
  induction l generalizing h with
  | nil => exact (self ..).set_memch _
  | cons q l ih =>
    unfold Hub.releaseWaiting
    exact branch ((Hub.alters_payEnter ..).trans (ih _)) ((self ..).set_memch _)

theorem Hub.alters_sheetRefill (c : Nat) (h : Hub) :
    Hub.Alters [.memch] (within 0x300000 0x400000) h (h.sheetRefill c) := by
  unfold Hub.sheetRefill
  exact ((self ..).set_memch _).andThen (Hub.alters_releaseWaiting ..)

theorem Hub.alters_flushList (n : Nat) (l : List Cpl) (h : Hub) (hb : n < 256 := by omega) :
    Hub.Alters [.rings, .pcie] (within 0x100000 0x110000) h (h.flushList n l) := by
  induction l generalizing h with
  | nil => exact (self ..).set_rings _
  | cons c cs ih =>
    unfold Hub.flushList
    exact branch ((Hub.alters_writeCpl ..).trans (ih _)) ((self ..).set_rings _)

theorem Hub.alters_pushCpl (n : Nat) (c : Cpl) (h : Hub) (_hb : n < 256 := by omega) :
    Hub.Alters [.rings, .pcie] (within 0x100000 0x110000) h (h.pushCpl n c) := by
  unfold Hub.pushCpl Hub.setRing
  exact branch (branch ((self ..).andThen (Hub.alters_writeCpl ..)) ((self ..).set_rings _)) (self ..)

theorem Hub.alters_releaseSlots (n q : Nat) (h : Hub) (_hb : n < 256 := by omega) :
    Hub.Alters [.rings, .pcie] (within 0x100000 0x110000) h (h.releaseSlots n q) := by
  unfold Hub.releaseSlots Hub.ringError Hub.flushHeld Hub.setCqHead
  exact branch (((self ..).put _).put _) (((((self ..).put _).put _).andThen (Hub.alters_setUsed ..)).andThen
    (Hub.alters_flushList ..))

theorem Hub.alters_ringEnable (req : Path) (n : Nat) (h : Hub) (_hb : n < 256 := by omega) :
    Hub.Alters [.rings] (fun a => within 0x100000 0x110000 a ∨ within 0x110000 0x120000 a) h (h.ringEnable req n) := by
  unfold Hub.ringEnable Hub.setRing Hub.clearRing Hub.setCqHead Hub.ringError
  exact branch ((self ..).logAccess _ _ _ _) (branch (branch
    ((((((((((((((self ..).put _).put _).put _).put _).put _).put _).put _).put _).put _).put _).set_rings _).put _).put _)
    ((((((((((((((self ..).put _).put _).put _).put _).put _).put _).put _).put _).put _).put _).set_rings _).put _).put _))
    (self ..))

theorem Hub.alters_endReset (n : Nat) (h : Hub) (_hb : n < 256 := by omega) :
    Hub.Alters [.rings] (fun a => within 0x100000 0x110000 a ∨ within 0x110000 0x120000 a) h (h.endReset n) := by
  unfold Hub.endReset Hub.setRing Hub.clearRing Hub.setCqHead
  exact (((((((((((((((((self ..).put _).put _).put _).put _).put _).put _).put _).put _).put _).set_rings _).put _).put _).put
    _).put _).put _).put _).put _

theorem Hub.alters_countUrgent (m n : Nat) (h : Hub) :
    Hub.Alters [.memch] (within 0x400000 0x500000) h (h.countUrgent m n) := by
  unfold Hub.countUrgent
  refine branchIf (fun _ => self ..) fun hm => ?_
  exact branch ((((((self ..).bump _).countEvent _).set_memch _).set_memch _).bump _)
    ((((self ..).bump _).countEvent _).set_memch _)

theorem Hub.alters_issue (p : Nat) (r : MemReq) (h : Hub) (_hb : p < 192 := by omega) :
    Hub.Alters [.memch] (fun a => within 0x300000 0x400000 a ∨ within 0x400000 0x500000 a) h (h.issue p r) := by
  unfold Hub.issue Hub.setQueue
  exact branch (((branch ((((self ..).set_memch _).put _).put _)
    (((((self ..).set_memch _).put _).put _).set_memch _)).put _).andThen (Hub.alters_countUrgent ..)) ((branch
    ((((self ..).set_memch _).put _).put _) (((((self ..).set_memch _).put _).put _).set_memch _)).put _)

theorem Hub.alters_laneRetry (l : Nat) (h : Hub) (_hb : l < 128 := by omega) :
    Hub.Alters [.ser] (within 0x700000 0x800000) h (h.laneRetry l) := by
  unfold Hub.laneRetry
  exact ((self ..).bump _).andThen (Hub.alters_setLane ..)

theorem Hub.alters_fillLevel (m n : Nat) (h : Hub) (_h0 : 4 ≤ m := by omega) (_h1 : m < 13 := by omega) :
    Hub.Alters [.memch] (within 0x400000 0x500000) h (h.fillLevel m n) := by
  have level (k : Hub) (l : Nat) : Hub.Alters [.memch] (within 0x400000 0x500000) k (k.setLevel m l) := by
    unfold Hub.setLevel
    dsimp only
    rw [if_neg (show ¬ m < 4 by omega)]
    exact (branch (self ..) ((self ..).set_memch _)).put _
  unfold Hub.fillLevel
  exact (((self ..).put _).trans (level ..)).put _

theorem Hub.alters_showFill (q : Nat) (h : Hub) (_hb : q < 8 := by omega) :
    Hub.Alters [.memch] (fun a => within 0x400000 0x500000 a ∨ within 0x700000 0x800000 a) h (h.showFill q) := by
  unfold Hub.showFill
  exact ((self ..).put _).andThen (Hub.alters_fillLevel ..)

theorem Hub.alters_sendPause (p q : Nat) (h : Hub) :
    Hub.Alters [.ser] (those []) h (h.sendPause p q) := by
  unfold Hub.sendPause
  exact (self ..).send _

theorem Hub.alters_pauseCheck (p : Nat) (h : Hub) :
    Hub.Alters [.ser] (those []) h (h.pauseCheck p) := by
  unfold Hub.pauseCheck Hub.onPort
  exact branch (branch (branch (self ..) (((self ..).set_ser _).andThen (Hub.alters_sendPause ..))) (branch
    (((self ..).set_ser _).andThen (Hub.alters_sendPause ..)) (self ..))) (self ..)

theorem Hub.alters_eqFree (l : Nat) (h : Hub) (_hb : l < 32 := by omega) :
    Hub.Alters [] (within 0x700000 0x800000) h (h.eqFree l) := by
  unfold Hub.eqFree
  exact (self ..).upto _ fun _ _ _ => (self ..).putFree

theorem Hub.alters_scanWrite (req : Path) (l : Nat) (v : Word) (h : Hub) (_hb : l < 32 := by omega) :
    Hub.Alters [.ser] (within 0x700000 0x800000) h (h.scanWrite req l v) := by
  unfold Hub.scanWrite Hub.onLane
  exact branch ((self ..).logAccess _ _ _ _) (by
    extract_lets h h1 h2
    have ah2 : Hub.Alters [.ser] (within 0x700000 0x800000) _ h2 := branch ((branch
      (((((((self ..).put _).put _).put _).put _).put _).drew) ((((((self ..).put _).put _).put _).put _).put _)).put _)
      (branch (((((((self ..).put _).put _).put _).put _).put _).drew) ((((((self ..).put _).put _).put _).put _).put _))
    exact branch ah2 (branch (ah2.logAccess _ _ _ _) (branch ((ah2.set_ser _).put _) (ah2.put _))))

theorem Hub.alters_checkPrbs (l : Nat) (h : Hub) (_hb : l < 32 := by omega) :
    Hub.Alters [] (within 0x700000 0x800000) h (h.checkPrbs l) := by
  unfold Hub.checkPrbs
  exact branch (self ..) (branch (((self ..).putFree).putFree) ((self ..).put _))

theorem Hub.alters_restLane (l : Nat) (h : Hub) (_hb : l < 128 := by omega) :
    Hub.Alters [.ser] (within 0x700000 0x800000) h (h.restLane l) := by
  unfold Hub.restLane
  exact (self ..).andThen (Hub.alters_setLane ..)

theorem Hub.alters_prbsWrite (req : Path) (l : Nat) (v : Word) (h : Hub) (_hb : l < 32 := by omega) :
    Hub.Alters [.ser] (within 0x700000 0x800000) h (h.prbsWrite req l v) := by
  unfold Hub.prbsWrite
  exact branch ((self ..).logAccess _ _ _ _) (branch (branch ((((((self ..).put _).put _).put _).put _).andThen
    (Hub.alters_checkPrbs ..)) (branch (((((((self ..).put _).put _).put _).put _).andThen (Hub.alters_checkPrbs ..)).andThen
    (Hub.alters_setLane ..)) (((((((self ..).put _).put _).put _).put _).andThen (Hub.alters_checkPrbs ..)).andThen
    (Hub.alters_restLane ..)))) ((self ..).logAccess _ _ _ _))

/-- The crew's interrupt is a vector of the PF. -/
theorem Hub.Alters.crewIrq {P : List Part} {W : Nat → Prop} {h : Hub} {f : Hub → Hub} (y : Hub.Alters P W h (f h)) :
    Hub.Alters P W h (h.crewIrq f) := by
  unfold Hub.crewIrq
  exact branch (y.sendVector_mod _) y

theorem Hub.lanePort_lt {h : Hub} {l p : Nat} (e : h.lanePort l = some p) : p < 32 :=
  List.mem_range.mp (List.mem_of_find?_eq_some e)

theorem mem_lanesOf {l first width : Nat} : l ∈ lanesOf first width ↔ first ≤ l ∧ l < first + width := by
  simp only [lanesOf, List.mem_map, List.mem_range]
  exact ⟨by rintro ⟨i, hi, rfl⟩; omega, fun hl => ⟨l - first, by omega, by omega⟩⟩

/-- The lanes in use are among those a port is configured with: five bits of first lane and four of width. -/
theorem Hub.lt_of_mem_inUse {h : Hub} {p l : Nat} (hl : l ∈ h.inUse p) : l < 64 := by
  have hf : h.get (R.SER_PORT_CFG_FIRST p) < 2 ^ 5 := Hub.get_lt h _
  have hw : h.get (R.SER_PORT_CFG_WIDTH p) < 2 ^ 4 := Hub.get_lt h _
  unfold Hub.inUse at hl
  dsimp only at hl
  split at hl
  · cases hg : List.find? _ _ with
    | none => rw [hg] at hl; cases hl
    | some g =>
      rw [hg] at hl
      obtain ⟨w, -, hw'⟩ := List.mem_flatMap.mp (List.mem_of_find?_eq_some hg)
      obtain ⟨i, hi, rfl⟩ := List.mem_map.mp hw'
      have hlt := (mem_lanesOf.mp hl).2
      have hi' : (i + 1) * w ≤ h.get (R.SER_PORT_CFG_WIDTH p) :=
        (Nat.mul_le_mul_right w (List.mem_range.mp hi)).trans (Nat.div_mul_le_self _ w)
      rw [Nat.add_mul] at hi'
      omega
  · have := mem_lanesOf.mp (List.mem_filter.mp hl).1
    omega

theorem Hub.alters_crewWait (p : Nat) (h : Hub) (_hb : p < 32 := by omega) :
    Hub.Alters [.crew] (fun a => within 0x800000 0x900000 a ∨ within 0x700000 0x800000 a ∨ within 0x130000 0x140000 a) h
      (h.crewWait p) := by
  unfold Hub.crewWait Hub.onCrewPort
  exact Hub.Alters.crewIrq ((((self ..).set_crew _).andThen (Hub.alters_setCrewPort ..)).put _)

theorem Hub.alters_helloAlarm (p st c : Nat) (b : List Byte) (h : Hub) :
    Hub.Alters [] (within 0x800000 0x900000) h (h.helloAlarm p st c b) := by
  unfold Hub.helloAlarm
  exact branch (self ..) (branch (self ..) (branch ((self ..).notice _ _) (branch ((branch
    ((((self ..).warn _ _ _ _).put _).bump _) ((self ..).warn _ _ _ _)).yewRecord _ _ _ _) (branch
    ((((self ..).warn _ _ _ _).put _).bump _) ((self ..).warn _ _ _ _)))))

theorem Hub.alters_takeHello (p : Nat) (b : List Byte) (h : Hub) (_hb : p < 32 := by omega) :
    Hub.Alters [.crew] (fun a => within 0x800000 0x900000 a ∨ within 0x700000 0x800000 a ∨ within 0x130000 0x140000 a) h
      (h.takeHello p b) := by
  unfold Hub.takeHello Hub.onCrewPort
  exact (((((((((self ..).andThen (Hub.alters_helloAlarm ..)).set_crew _).put _).put _).put _).put _).put _).put _).andThen
    (Hub.alters_setCrewPort ..)

theorem Hub.alters_portUp (p : Nat) (h : Hub) (_hb : p < 32 := by omega) :
    Hub.Alters [.crew, .ser] (fun a => within 0x800000 0x900000 a ∨ within 0x700000 0x800000 a ∨ within 0x130000 0x140000 a) h
      (h.portUp p) := by
  unfold Hub.portUp Hub.showWidth Hub.onPort
  exact (branch (((((self ..).put _).put _).set_ser _).andThen (Hub.alters_crewWait ..)) (((self ..).put _).put _)).put _

theorem Hub.alters_portSettle (p l : Nat) (h : Hub) (_hb : p < 32 := by omega) :
    Hub.Alters [.crew, .ser] (fun a => within 0x800000 0x900000 a ∨ within 0x700000 0x800000 a ∨ within 0x130000 0x140000 a) h
      (h.portSettle p l) := by
  unfold Hub.portSettle Hub.onPort
  exact branch ((self ..).andThen (Hub.alters_portUp ..)) (branch ((self ..).set_ser _) (self ..))

end Sys2Proof.Machine
end

section
/-!
### The frame of the hub's register commands
-/
namespace Sys2Proof.Machine

set_option Elab.async false
open Hub.Alters

theorem lock_leaves :
    ∀ (req : Path) (v : Word), Leaves (.lock req v) (those [R.GLB_CTRL_LOCK]) := by
  refine fun req v => leaves_of_alters [] (fun s => by unfold exec; rfl) (fun _ _ => rfl) fun hwf k => ?_
  unfold Hub.lockWrite
  exact pfWrite _ (branch ((self ..).logAccess _ _ _ _) (branch ((self ..).put _) (self ..)))

theorem droopTrip_leaves :
    ∀ (i sag : Nat), Leaves (.droopTrip i sag) (those [R.PWR_ISL_STRETCHED i, R.PWR_ISL_STRETCH_COUNT i]) := by
  refine fun i sag => leaves_of_alters [] (fun s => by unfold exec; rfl) (fun _ _ => rfl) fun hwf k => ?_
  exact branch ((((self ..).put _).bump _).countEvent _) (self ..)

theorem droopRelease_leaves :
    ∀ (i sag : Nat), Leaves (.droopRelease i sag) (those [R.PWR_ISL_STRETCHED i]) := by
  refine fun i sag => leaves_of_alters [] (fun s => by unfold exec; rfl) (fun _ _ => rfl) fun hwf k => ?_
  exact branch ((self ..).put _) (self ..)

theorem reefEnable_leaves :
    ∀ (req : Path) (v : Word), Leaves (.reefEnable req v) (those [R.PWR_REEF_CTRL_ENABLE]) := by
  refine fun req v => leaves_of_alters [] (fun s => by unfold exec; rfl) (fun _ _ => rfl) fun hwf k => ?_
  unfold Hub.reefCtrlWrite Hub.writeLocked
  exact pfWrite _ (branch ((branch ((self ..).put _) ((self ..).logAccess _ _ _ _)).put _) ((branch ((self ..).put _)
    ((self ..).logAccess _ _ _ _)).logAccess _ _ _ _))

theorem reefDisable_leaves :
    ∀ (req : Path) (v : Word), Leaves (.reefDisable req v) (those [R.PWR_REEF_CTRL_ENABLE]) := by
  refine fun req v => leaves_of_alters [] (fun s => by unfold exec; rfl) (fun _ _ => rfl) fun hwf k => ?_
  unfold Hub.reefCtrlWrite Hub.writeLocked
  exact pfWrite _ (branch ((branch ((self ..).put _) ((self ..).logAccess _ _ _ _)).put _) ((branch ((self ..).put _)
    ((self ..).logAccess _ _ _ _)).logAccess _ _ _ _))

theorem covSlewWrite_leaves :
    ∀ (req : Path) (v : Word), Leaves (.covSlewWrite req v) (those [R.PWR_COV_SLEW_UP]) := by
  refine fun req v => leaves_of_alters [] (fun s => by unfold exec; rfl) (fun _ _ => rfl) fun hwf k => ?_
  unfold Hub.covSlewWrite Hub.writeLocked
  exact pfWrite _ (branch (branch (((self ..).put _).put _) ((((self ..).put _).put _).notice _ _)) ((self ..).logAccess _ _ _ _))

theorem covStepWrite_leaves :
    ∀ (req : Path) (v : Word), Leaves (.covStepWrite req v) (those [R.PWR_COV_STEP]) := by
  refine fun req v => leaves_of_alters [] (fun s => by unfold exec; rfl) (fun _ _ => rfl) fun hwf k => ?_
  unfold Hub.covStepWrite Hub.writeLocked
  exact pfWrite _ (branch (branch (((self ..).put _).put _) ((((self ..).put _).put _).notice _ _)) ((self ..).logAccess _ _ _ _))

theorem vholdReady_leaves :
    ∀ (mv : Nat), Leaves (.vholdReady mv) (those [R.PWR_HOLD_READY, R.YEW_STAT_LG_ARMED]) := by
  refine fun mv => leaves_of_alters [] (fun s => by unfold exec; rfl) (fun _ _ => rfl) fun hwf k => ?_
  unfold Hub.showHold
  exact branch ((((self ..).put _).put _).put _) (self ..)

theorem bootProfileWrite_leaves :
    ∀ (req : Path) (v : Word), Leaves (.bootProfileWrite req v) (those [R.BOOT_PROFILE_NEXT]) := by
  refine fun req v => leaves_of_alters [] (fun s => by unfold exec; rfl) (fun _ _ => rfl) fun hwf k => ?_
  unfold Hub.profileWrite
  exact pfWrite _ (by
    extract_lets h curOpen lbOpen bad h1 h2
    have ah1 : Hub.Alters [] (those [R.BOOT_PROFILE_NEXT]) _ h1 := branch ((((self ..).put _).put _).drew) ((self ..).put _)
    have ah2 : Hub.Alters [] (those [R.BOOT_PROFILE_NEXT]) _ h2 := branch (ah1.put _) ah1
    exact branch (ah2.logAccess _ _ _ _) ah2)

theorem mapLookup_leaves :
    ∀ (req : Path) (v : Word), Leaves (.mapLookup req v) (those [R.MAP_LOOKUP_PHYS]) := by
  refine fun req v => leaves_of_alters [] (fun s => by unfold exec; rfl) (fun _ _ => rfl) fun hwf k => ?_
  unfold Hub.lookup Hub.showLookup
  exact pfWrite _ (by
    extract_lets t l s phys
    exact by
      split
      · exact (((((self ..).put _).put _).put _).put _).put _
      · exact (((((self ..).put _).put _).put _).put _).put _)

theorem vfWindowWrite_leaves :
    ∀ (req : Path) (n w : Nat) (v : Word), Leaves (.vfWindowWrite req n w v) (fun a => a = 0x200 + 0x10 * n + 4 * w) := by
  refine fun req n w v => leaves_of_alters [] (fun s => by unfold exec; rfl) (fun _ _ => rfl) fun hwf k => ?_
  unfold Hub.vfWinWrite
  exact pfWrite _ (branch ((self ..).setReg _) ((self ..).logAccess _ _ _ _))

theorem ringOwnerWrite_leaves :
    ∀ (req : Path) (n : Nat) (v : Word), Leaves (.ringOwnerWrite req n v) (those [R.RING_OWNER_FN n]) := by
  refine fun req n v => leaves_of_alters [] (fun s => by unfold exec; rfl) (fun _ _ => rfl) fun hwf k => ?_
  unfold Hub.ownerWrite
  exact pfWrite _ (branch (((self ..).put _).put _) ((self ..).logAccess _ _ _ _))

theorem Hub.localRing_lt {h : Hub} {k r n : Nat} (e : h.localRing k r = some n) : n < 256 := by
  unfold Hub.localRing at e
  split at e
  · cases e
  · exact List.mem_range.mp (List.mem_of_find?_eq_some e)

/-- A doorbell alters what its action does, and the counters of the ring it names. -/
theorem Hub.alters_doorbell {P : List Part} {W : Nat → Prop} {f : Nat → Nat → Hub → Hub}
    (hW : ∀ n, n < 256 → W (R.RING_DB_CNT_DB_DROP n).off) (hf : ∀ n, n < 256 → ∀ i h, Hub.Alters P W h (f n i h))
    (req : Path) {page : Nat} (hp : page < 256) (off : Nat) (v : Word) (h : Hub) :
    Hub.Alters P W h (h.doorbell req page off v f) := by
  have named (n : Nat) (hn : n < 256) : Hub.Alters P W h
      (if req = .pf ∧ h.ringFn n ≠ 0 then h.dropDoorbell (R.RING_DB_CNT_DB_DROP n)
      else if bitsOf v 16 16 ≠ h.get (R.RING_STAT_GEN n) then h.dropDoorbell (R.RING_DB_CNT_DB_STALE n)
      else if h.ringState n ≠ 1 then h.dropDoorbell (R.RING_DB_CNT_DB_DROP n)
      else f n (bitsOf v 0 16) h) :=
    have drop (f : RF) (e : f.off = (R.RING_DB_CNT_DB_DROP n).off) : Hub.Alters P W h (h.dropDoorbell f) :=
      ((self ..).bump 1 (e ▸ .inr (.inr (hW n hn)))).countEvent 14
    branch (drop _ rfl) (branch (drop _ rfl) (branch (drop _ rfl) (hf n hn _ h)))
  unfold Hub.doorbell
  refine branch ((self ..).logAccess _ _ _ _) ?_
  cases req with
  | pf => exact named page hp
  | vf k =>
    cases e : h.localRing k page with
    | none => simpa only [e] using self ..
    | some n => simpa only [e] using named n (Hub.localRing_lt e)
  | site _ | tap | masthead => exact self ..

theorem submissionDoorbell_leaves :
    ∀ (req : Path) (page : Nat) (v : Word), Leaves (.submissionDoorbell req page v) (within 0x100000 0x110000) := by
  refine fun req page v => leaves_of_alters [] (fun s => by unfold exec; rfl) (fun _ _ => rfl) fun hwf k => ?_
  simp [Instr.wf, Ok.submissionDoorbell] at hwf
  refine Hub.alters_doorbell (fun n hn => ?_) (fun n hn i h => ?_) req hwf.2 0 v k
  · simp; omega
  · unfold Hub.postEntries Hub.ringError
    exact branch (((self ..).put _).put _) ((self ..).put _)

theorem creditHoldWarn_leaves :
    ∀ (n id : Nat), Leaves (.creditHoldWarn n id) (those []) := by
  refine fun n id => leaves_of_alters [] (fun s => by unfold exec; rfl) (fun _ _ => rfl) fun hwf k => ?_
  split
  · exact self ..
  · exact branch ((self ..).warn _ _ _ _) (self ..)

theorem timeAdj_leaves :
    ∀ (req : Path) (v : Word), Leaves (.timeAdj req v) (those [R.TIME_ADJ_PPB]) := by
  refine fun req v => leaves_of_alters [] (fun s => by unfold exec; rfl) (fun _ _ => rfl) fun hwf k => ?_
  unfold Hub.timeAdjWrite Hub.ifFreeRunning
  exact pfWrite _ (branch ((self ..).logAccess _ _ _ _) ((self ..).put _))

theorem timeEvtSel_leaves :
    ∀ (req : Path) (n : Nat) (v : Word), Leaves (.timeEvtSel req n v) (those [R.TIME_EVT_SEL n]) := by
  refine fun req n v => leaves_of_alters [] (fun s => by unfold exec; rfl) (fun _ _ => rfl) fun hwf k => ?_
  simp [Instr.wf, Ok.timeEvtSel] at hwf
  unfold Hub.evtSelWrite
  exact pfWrite _ ((((self ..).put _).setReg _).setReg _)

theorem windowEnable_leaves :
    ∀ (req : Path) (w : Nat), Leaves (.windowEnable req w) (within 0x200000 0x300000) := by
  refine fun req w => leaves_of_alters [] (fun s => by unfold exec; rfl) (fun _ _ => rfl) fun hwf k => ?_
  simp [Instr.wf, Ok.windowEnable] at hwf
  unfold Hub.winEnable Hub.setWin
  exact pfWrite _ (branch (branch (((self ..).put _).put _) ((self ..).put _)) ((self ..).logAccess _ _ _ _))

/-- Settles O9: each command's frame is read off what its operation alters. -/
theorem frameOfHubRegisterCommands : Obligations.FrameOfHubRegisterCommands := by
  unfold Obligations.FrameOfHubRegisterCommands
  exact ⟨lock_leaves, droopTrip_leaves, droopRelease_leaves, reefEnable_leaves, reefDisable_leaves, covSlewWrite_leaves,
    covStepWrite_leaves, vholdReady_leaves, bootProfileWrite_leaves, mapLookup_leaves, vfWindowWrite_leaves,
    ringOwnerWrite_leaves, submissionDoorbell_leaves, creditHoldWarn_leaves, timeAdj_leaves, timeEvtSel_leaves,
    windowEnable_leaves⟩

end Sys2Proof.Machine
end

section
/-!
### The frame of the units' register commands
-/
namespace Sys2Proof.Machine

set_option Elab.async false
open Hub.Alters

theorem stackTempRead_leaves :
    ∀ (n temp : Nat) (ok : Bool), Leaves (.stackTempRead n ok temp) (those [R.MEM_STAT_TEMP n]) := by
  refine fun n temp ok => leaves_of_alters [] (fun s => by unfold exec; rfl) (fun _ _ => rfl) fun hwf k => ?_
  exact branch (branch (((((self ..).put _).put _).put _).warn _ _ _ _) ((((self ..).put _).put _).put _))
    (((self ..).put _).warn _ _ _ _)

theorem powerDownEntry_leaves :
    ∀ (n q : Nat), Leaves (.powerDownEntry n q) (those [R.MEM_PC_PD n q]) := by
  refine fun n q => leaves_of_alters [] (fun s => by unfold exec; rfl) (fun _ _ => rfl) fun hwf k => ?_
  exact branch ((self ..).put _) (self ..)

theorem floorWrite_leaves :
    ∀ (req : Path) (c : Nat) (v : Word), Leaves (.floorWrite req c v) (those
      [R.QOS_CLASS0_CEIL c, R.QOS_SHEET_STAT_FLOOR_REF]) := by
  refine fun req c v => leaves_of_alters [] (fun s => by unfold exec; rfl) (fun _ _ => rfl) fun hwf k => ?_
  unfold Hub.floorWrite
  exact pfWrite _ (branch (((self ..).put _).logAccess _ _ _ _) (branch (((self ..).put _).notice _ _) (((self ..).put _).put _)))

theorem telltaleThresholdWrite_leaves :
    ∀ (req : Path) (m : Nat) (v : Word), Leaves (.telltaleThresholdWrite req m v) (those [R.QOS_TT0_T1 m]) := by
  refine fun req m v => leaves_of_alters [] (fun s => by unfold exec; rfl) (fun _ _ => rfl) fun hwf k => ?_
  unfold Hub.thresholdWrite
  exact pfWrite _ (branch (self ..) (branch (((((self ..).put _).put _).put _).notice _ _) ((((self ..).put _).put _).put _)))

theorem rasConsWrite_leaves :
    ∀ (req : Path) (v : Word), Leaves (.rasConsWrite req v) (those []) := by
  refine fun req v => leaves_of_alters [] (fun s => by unfold exec; rfl) (fun _ _ => rfl) fun hwf k => ?_
  unfold Hub.consWrite
  exact pfWrite _ (branch ((self ..).put _) ((self ..).logAccess _ _ _ _))

theorem flipArm_leaves :
    ∀ (req : Path) (v : Word), Leaves (.flipArm req v) (those []) := by
  refine fun req v => leaves_of_alters [] (fun s => by unfold exec; rfl) (fun _ _ => rfl) fun hwf k => ?_
  unfold Hub.flipArm Hub.flipFields
  exact pfWrite _ (branch ((branch ((branch (((((self ..).put _).put _).put _).put _)
    ((((self ..).put _).put _).put _)).put _) (branch (((((self ..).put _).put _).put _).put _)
    ((((self ..).put _).put _).put _))).put _) (((self ..).put _).logAccess _ _ _ _))

theorem flipDisarm_leaves :
    ∀ (req : Path) (v : Word), Leaves (.flipDisarm req v) (those []) := by
  refine fun req v => leaves_of_alters [] (fun s => by unfold exec; rfl) (fun _ _ => rfl) fun hwf k => ?_
  unfold Hub.flipDisarm Hub.flipFields
  exact pfWrite _ ((branch ((branch (((((self ..).put _).put _).put _).put _) ((((self ..).put _).put _).put _)).put _)
    (branch (((((self ..).put _).put _).put _).put _) ((((self ..).put _).put _).put _))).put _)

theorem ceHourly_leaves :
    Leaves .ceHourly (those []) := by
  refine leaves_of_alters [] (fun s => by unfold exec; rfl) (fun _ _ => rfl) fun hwf k => ?_
  exact branch (((self ..).yewRecord _ _ _ _).set_ras _) (self ..)

theorem sidebandCrcError_leaves :
    ∀ (n : Nat), Leaves (.sidebandCrcError n) (those [R.YDL_SB_STAT_CRCERR n]) := by
  refine fun n => leaves_of_alters [] (fun s => by unfold exec; rfl) (fun _ _ => rfl) fun hwf k => ?_
  exact (self ..).bump _

theorem dropReqRepeat_leaves :
    ∀ (n : Nat), Leaves (.dropReqRepeat n) (those []) := by
  refine fun n => leaves_of_alters [] (fun s => by unfold exec; rfl) (fun _ _ => rfl) fun hwf k => ?_
  unfold Hub.sendDropReq Hub.linkOut
  split
  · exact self ..
  · exact (self ..).each _ fun _ _ _ => (self ..).send _

theorem adaptStep_leaves :
    ∀ (l snr8 : Nat), Leaves (.adaptStep l snr8) (within (R.SER_LANE_EQ l 0).off (R.SER_LANE_EQ l 12).off) := by
  refine fun l snr8 => leaves_of_alters [] (fun s => by unfold exec; rfl) (fun _ _ => rfl) fun hwf k => ?_
  unfold Hub.eqFree
  exact branch ((self ..).upto _ fun _ _ _ => (self ..).putFree) (self ..)

theorem fomUpdate_leaves :
    ∀ (l snr8 : Nat), Leaves (.fomUpdate l snr8) (those [R.SER_LANE_STAT_FOM l, R.SER_LANE_ADAPT_LOW l]) := by
  refine fun l snr8 => leaves_of_alters [] (fun s => by unfold exec; rfl) (fun _ _ => rfl) fun hwf k => ?_
  unfold Hub.showFom
  exact branch (((self ..).put _).put _) ((self ..).put _)

theorem fomLow_leaves :
    ∀ (l : Nat), Leaves (.fomLow l) (those [R.SER_LANE_ADAPT_LOW l]) := by
  refine fun l => leaves_of_alters [] (fun s => by unfold exec; rfl) (fun _ _ => rfl) fun hwf k => ?_
  exact branch (((self ..).put _).warn _ _ _ _) (self ..)

theorem crewHelloTimer_leaves :
    Leaves .crewHelloTimer (those []) := by
  refine leaves_of_alters [] (fun s => by unfold exec; rfl) (fun _ _ => rfl) fun hwf k => ?_
  unfold Hub.sendFrame
  exact branch ((self ..).upto _ fun _ _ _ => branch ((self ..).send _) (self ..)) (self ..)

theorem pdelayReq_leaves :
    ∀ (p n : Nat), Leaves (.pdelayReq p n) (those [R.CREW_EVT_BADTIME]) := by
  refine fun p n => leaves_of_alters [] (fun s => by unfold exec; rfl) (fun _ _ => rfl) fun hwf k => ?_
  unfold Hub.sendTime
  exact branch (((((self ..).send _).drew).send _).drew) ((self ..).andThen (Hub.alters_badTime ..))

theorem crewFrameUnknownType_leaves :
    ∀ (p n : Nat), Leaves (.crewFrameUnknownType p n) (those [R.SER_PORT_RXCNT_RX_BAD p]) := by
  refine fun p n => leaves_of_alters [] (fun s => by unfold exec; rfl) (fun _ _ => rfl) fun hwf k => ?_
  exact branch ((self ..).bump _) (self ..)

theorem hedgeVerifyComplete_leaves :
    Leaves .hedgeVerifyComplete (those [R.TEST_HEDGE_STAT_STATE]) := by
  refine leaves_of_alters [] (fun s => by unfold exec; rfl) (fun _ _ => rfl) fun hwf k => ?_
  unfold Hub.hedgeVerify Hub.hedgeRefuse Hub.hedgeRecord
  exact branch (self ..) (branch (((((self ..).bumpSat _).put _).put _).yewRecord _ _ _ _) (branch
    ((((self ..).put _).put _).yewRecord _ _ _ _) (branch ((((self ..).put _).put _).yewRecord _ _ _ _) ((self ..).put _))))

theorem hedgeResponseTimeout_leaves :
    Leaves .hedgeResponseTimeout (those [R.TEST_HEDGE_STAT_STATE]) := by
  refine leaves_of_alters [] (fun s => by unfold exec; rfl) (fun _ _ => rfl) fun hwf k => ?_
  unfold Hub.hedgeRefuse Hub.hedgeRecord
  exact branch (((((self ..).drew).put _).put _).yewRecord _ _ _ _) (self ..)

theorem hedgeWindowClose_leaves :
    Leaves .hedgeWindowClose (those [R.TEST_HEDGE_STAT_STATE]) := by
  refine leaves_of_alters [] (fun s => by unfold exec; rfl) (fun _ _ => rfl) fun hwf k => ?_
  exact (self ..).put _

theorem fmapIndex_leaves :
    ∀ (req : Path) (v : Word), Leaves (.fmapIndex req v) (fun a => those [R.TEST_FMAP_IDX_INDEX] a ∨ within
      (R.TEST_FMAP_DATA 0).off (R.TEST_FMAP_DATA 4).off a) := by
  refine fun req v => leaves_of_alters [] (fun s => by unfold exec; rfl) (fun _ _ => rfl) fun hwf k => ?_
  unfold Hub.fmapWrite Hub.fmapSelect
  exact branch (branch ((self ..).logAccess _ _ _ _) (((self ..).put _).upto _ fun _ _ _ => (self ..).put _)) (self ..)

theorem yewFlush_leaves :
    Leaves .yewFlush (those []) := by
  refine leaves_of_alters [] (fun s => by unfold exec; rfl) (fun _ _ => rfl) fun hwf k => ?_
  exact (self ..).flushStaged

theorem sectorErase_leaves :
    Leaves .sectorErase (those []) := by
  refine leaves_of_alters [] (fun s => by unfold exec; rfl) (fun _ _ => rfl) fun hwf k => ?_
  unfold Hub.eraseSector Hub.showOldest
  exact branch (by
    dsimp only
    split
    · exact ((self ..).set_yew _).put _
    · exact (self ..).set_yew _) (self ..)

theorem bucketRefill_leaves :
    Leaves .bucketRefill (those []) := by
  refine leaves_of_alters [] (fun s => by unfold exec; rfl) (fun _ _ => rfl) fun hwf k => ?_
  unfold Hub.refill
  exact branch ((self ..).set_yew _) (((self ..).set_yew _).yewRecord _ _ _ _)

theorem mirrorCopy_leaves :
    ∀ (ok : Bool), Leaves (.mirrorCopy ok) (those []) := by
  refine fun ok => leaves_of_alters [] (fun s => by unfold exec; rfl) (fun _ _ => rfl) fun hwf k => ?_
  unfold Hub.mirrorCopy
  split
  · exact self ..
  · exact branch (self ..) (branch ((((self ..).set_yew _).put _).warn _ _ _ _) (((self ..).set_yew _).put _))

theorem yewRdSeq_leaves :
    ∀ (req : Path) (v : Word), Leaves (.yewRdSeq req v) (fun a => those [R.YEW_RD_SEQ, R.YEW_RD_STAT_FOUND] a ∨ within
      (R.YEW_RD_DATA 0).off (R.YEW_RD_DATA 16).off a) := by
  refine fun req v => leaves_of_alters [] (fun s => by unfold exec; rfl) (fun _ _ => rfl) fun hwf k => ?_
  unfold Hub.rdSeq
  exact pfWrite _ (by
    dsimp only
    split
    · exact (((((self ..).put _).andThen (Hub.alters_readRec ..)).put _).put _).put _
    · exact ((((((self ..).put _).andThen (Hub.alters_readRec ..)).put _).put _).put _).upto _ fun _ _ _ => (self ..).put _)

theorem setEndpointId_leaves :
    ∀ (n : Nat), Leaves (.setEndpointId n) (those []) := by
  refine fun n => leaves_of_alters [] (fun s => by unfold exec; rfl) (fun _ _ => rfl) fun hwf k => ?_
  unfold Hub.mctp
  exact branch (branch (self ..) ((self ..).set_yew _)) ((branch (self ..) ((self ..).set_yew _)).send _)

theorem getEndpointId_leaves :
    Leaves .getEndpointId (those []) := by
  refine leaves_of_alters [] (fun s => by unfold exec; rfl) (fun _ _ => rfl) fun hwf k => ?_
  unfold Hub.mctp
  exact branch (self ..) ((self ..).send _)

theorem getMctpVersionSupport_leaves :
    Leaves .getMctpVersionSupport (those []) := by
  refine leaves_of_alters [] (fun s => by unfold exec; rfl) (fun _ _ => rfl) fun hwf k => ?_
  unfold Hub.mctp
  exact branch (self ..) ((self ..).send _)

theorem getMessageTypeSupport_leaves :
    Leaves .getMessageTypeSupport (those []) := by
  refine leaves_of_alters [] (fun s => by unfold exec; rfl) (fun _ _ => rfl) fun hwf k => ?_
  unfold Hub.mctp
  exact branch (self ..) ((self ..).send _)

theorem getVendorDefinedMessageSupport_leaves :
    Leaves .getVendorDefinedMessageSupport (those []) := by
  refine leaves_of_alters [] (fun s => by unfold exec; rfl) (fun _ _ => rfl) fun hwf k => ?_
  unfold Hub.mctp
  exact branch (self ..) ((self ..).send _)

theorem getInfo_leaves :
    Leaves .getInfo (those []) := by
  refine leaves_of_alters [] (fun s => by unfold exec; rfl) (fun _ _ => rfl) fun hwf k => ?_
  unfold Hub.mctp
  exact branch (self ..) ((self ..).send _)

theorem bmcRead_leaves :
    ∀ (n count : Nat), Leaves (.bmcRead n count) (those []) := by
  refine fun n count => leaves_of_alters [] (fun s => by unfold exec; rfl) (fun _ _ => rfl) fun hwf k => ?_
  unfold Hub.mctp
  exact branch (self ..) (branch ((self ..).andThen (Hub.alters_readRecs ..)) (((self ..).andThen
    (Hub.alters_readRecs ..)).send _))

theorem bmcState_leaves :
    ∀ (n : Nat), Leaves (.bmcState n) (those []) := by
  refine fun n => leaves_of_alters [] (fun s => by unfold exec; rfl) (fun _ _ => rfl) fun hwf k => ?_
  unfold Hub.mctp
  exact branch (self ..) ((self ..).send _)

/-- Settles O10: each command's frame is read off what its operation alters. -/
theorem frameOfUnitRegisterCommands : Obligations.FrameOfUnitRegisterCommands := by
  unfold Obligations.FrameOfUnitRegisterCommands
  exact ⟨stackTempRead_leaves, powerDownEntry_leaves, floorWrite_leaves, telltaleThresholdWrite_leaves, rasConsWrite_leaves,
    flipArm_leaves, flipDisarm_leaves, ceHourly_leaves, sidebandCrcError_leaves, dropReqRepeat_leaves, adaptStep_leaves,
    fomUpdate_leaves, fomLow_leaves, crewHelloTimer_leaves, pdelayReq_leaves, crewFrameUnknownType_leaves,
    hedgeVerifyComplete_leaves, hedgeResponseTimeout_leaves, hedgeWindowClose_leaves, fmapIndex_leaves, yewFlush_leaves,
    sectorErase_leaves, bucketRefill_leaves, mirrorCopy_leaves, yewRdSeq_leaves, setEndpointId_leaves, getEndpointId_leaves,
    getMctpVersionSupport_leaves, getMessageTypeSupport_leaves, getVendorDefinedMessageSupport_leaves, getInfo_leaves,
    bmcRead_leaves, bmcState_leaves⟩

end Sys2Proof.Machine
end

section
/-!
### The frame of the power and pin commands
-/
namespace Sys2Proof.Machine

set_option Elab.async false
open Hub.Alters

theorem glbRstWarm_leaves :
    ∀ (req : Path) (v : Word), Leaves (.glbRstWarm req v) (those []) (fun h g => { h with boot := g.boot }) := by
  refine fun req v => leaves_of_alters [.boot] (fun s => by unfold exec; rfl) (fun _ _ => rfl) fun hwf k => ?_
  unfold Hub.rstWrite Hub.askReset Hub.onBoot
  exact pfWrite _ (branch ((self ..).logAccess _ _ _ _) (branch (branch (self ..) ((self ..).set_boot _)) (branch (branch
    (self ..) ((self ..).set_boot _)) (self ..))))

theorem glbRstHub_leaves :
    ∀ (req : Path) (v : Word), Leaves (.glbRstHub req v) (those []) (fun h g => { h with boot := g.boot }) := by
  refine fun req v => leaves_of_alters [.boot] (fun s => by unfold exec; rfl) (fun _ _ => rfl) fun hwf k => ?_
  unfold Hub.rstWrite Hub.askReset Hub.onBoot
  exact pfWrite _ (branch ((self ..).logAccess _ _ _ _) (branch (branch (self ..) ((self ..).set_boot _)) (branch (branch
    (self ..) ((self ..).set_boot _)) (self ..))))

theorem refclkLoss_leaves :
    Leaves .refclkLoss (those [R.TIME_STAT_REFLOST]) (fun h g => { h with pins := g.pins }) := by
  refine leaves_of_alters [.pins] (fun s => by unfold exec; rfl) (fun _ _ => rfl) fun hwf k => ?_
  unfold Hub.crewIrq
  exact branch ((self ..).set_pins _) ((branch (branch (((((self ..).set_pins _).put _).put _).sendVector)
    ((((self ..).set_pins _).put _).put _)) (((self ..).set_pins _).put _)).warn _ _ _ _)

theorem domainReqHoldOn_leaves :
    ∀ (req : Path) (n : Nat), Leaves (.domainReqHoldOn req n) (within 0x10000 0x20000)
      (fun h g => { h with power := g.power }) := by
  refine fun req n => leaves_of_alters [.power] (fun s => by unfold exec; rfl) (fun _ _ => rfl) fun hwf k => ?_
  simp [Instr.wf, Ok.domainReqHoldOn] at hwf
  unfold Hub.domReq Hub.defer Hub.showPending
  exact pfWrite _ (((((self ..).put _).set_power _).put _).andThen (Hub.alters_takeReq ..))

theorem domainReqHoldOff_leaves :
    ∀ (req : Path) (n : Nat), Leaves (.domainReqHoldOff req n) (within 0x10000 0x20000)
      (fun h g => { h with power := g.power }) := by
  refine fun req n => leaves_of_alters [.power] (fun s => by unfold exec; rfl) (fun _ _ => rfl) fun hwf k => ?_
  simp [Instr.wf, Ok.domainReqHoldOff] at hwf
  unfold Hub.domReq Hub.defer Hub.showPending
  exact pfWrite _ (((((self ..).put _).set_power _).put _).andThen (Hub.alters_takeReq ..))

theorem domainReqHub_leaves :
    ∀ (req : Path) (n : Nat), Leaves (.domainReqHub req n) (within 0x10000 0x20000) (fun h g => { h with power := g.power }) := by
  refine fun req n => leaves_of_alters [.power] (fun s => by unfold exec; rfl) (fun _ _ => rfl) fun hwf k => ?_
  simp [Instr.wf, Ok.domainReqHub] at hwf
  unfold Hub.domReq Hub.defer Hub.showPending
  exact pfWrite _ (((((self ..).put _).set_power _).put _).andThen (Hub.alters_takeReq ..))

theorem domainAdmit_leaves :
    ∀ (n : Nat), Leaves (.domainAdmit n) (within 0x10000 0x20000) (fun h g => { h with power := g.power }) := by
  refine fun n => leaves_of_alters [.power] (fun s => by unfold exec; rfl) (fun _ _ => rfl) fun hwf k => ?_
  simp [Instr.wf, Ok.domainAdmit] at hwf
  exact (self ..).andThen (Hub.alters_admitDomain ..)

theorem domainLowerIdle_leaves :
    ∀ (n : Nat), Leaves (.domainLowerIdle n) (within 0x10000 0x20000) (fun h g => { h with power := g.power }) := by
  refine fun n => leaves_of_alters [.power] (fun s => by unfold exec; rfl) (fun _ _ => rfl) fun hwf k => ?_
  simp [Instr.wf, Ok.domainLowerIdle] at hwf
  unfold Hub.setWant Hub.showPending
  exact branch ((((self ..).set_power _).put _).andThen (Hub.alters_admitDomain ..)) (self ..)

theorem domainLowerAbandon_leaves :
    ∀ (n : Nat), Leaves (.domainLowerAbandon n) (within 0x10000 0x20000) (fun h g => { h with power := g.power }) := by
  refine fun n => leaves_of_alters [.power] (fun s => by unfold exec; rfl) (fun _ _ => rfl) fun hwf k => ?_
  simp [Instr.wf, Ok.domainLowerAbandon] at hwf
  unfold Hub.refuseDom Hub.setOwn Hub.holdNi Hub.setWant Hub.showPending
  exact branch ((((((((self ..).set_power _).put _).set_power _).set_power _).put _).put _).andThen
    (Hub.alters_applyLatched ..)) (self ..)

theorem reefTick_leaves :
    ∀ (pin hub stack drop known : Nat), Leaves (.reefTick pin hub stack drop known) (within 0x10000 0x20000)
      (fun h g => { h with power := g.power }) := by
  refine fun pin hub stack drop known => leaves_of_alters [.power] (fun s => by unfold exec; rfl) (fun _ _ => rfl) fun hwf k => ?_
  unfold Hub.reefTick
  extract_lets last p h h1 xs h2 h3
  have ah1 : Hub.Alters [.power] (within 0x10000 0x20000) _ h1 := branch ((((self ..).andThen
    (Hub.alters_slewTick ..)).put _).andThen (Hub.alters_measureRise ..)) ((self ..).andThen (Hub.alters_slewTick ..))
  exact (((branch (((((ah1.put _).put _).andThen (Hub.alters_confirmDrop ..)).andThen (Hub.alters_takeDrops ..)).andThen
    (Hub.alters_stopElement ..)) ((ah1.put _).put _)).andThen (Hub.alters_admitOrRelease ..)).andThen
    (Hub.alters_preramp ..)).upto _ fun _ _ _ => (self ..).andThen (Hub.alters_tickIsland ..)

theorem pmbusPoll_leaves :
    ∀ (answers : List (List Nat)), Leaves (.pmbusPoll answers) (within 0x10000 0x20000)
      (fun h g => { h with power := g.power }) := by
  refine fun answers => leaves_of_alters [.power] (fun s => by unfold exec; rfl) (fun _ _ => rfl) fun hwf k => ?_
  unfold Hub.pollRegulator Hub.clearFaults Hub.pmbus
  exact (self ..).upto _ fun _ _ _ => branch (self ..) (branch (branch ((((self ..).each _ fun _ _ _ =>
    (self ..).send _).set_power _).put _) (((((self ..).each _ fun _ _ _ => (self ..).send _).set_power _).put _).send _))
    (branch ((((((self ..).each _ fun _ _ _ => (self ..).send _).set_power _).put _).set_power _).warn _ _ _ _)
    ((((self ..).each _ fun _ _ _ => (self ..).send _).set_power _).put _)))

theorem voutCommand_leaves :
    ∀ (up : Bool), Leaves (.voutCommand up) (those []) (fun h g => { h with power := g.power }) := by
  refine fun up => leaves_of_alters [.power] (fun s => by unfold exec; rfl) (fun _ _ => rfl) fun hwf k => ?_
  unfold Hub.voutStep Hub.pmbus
  dsimp only
  split
  · exact self ..
  · exact branch (((self ..).set_power _).send _) (self ..)

theorem pwrgoodFall_leaves :
    Leaves .pwrgoodFall (those []) (fun h g => { h with boot := g.boot, pins := g.pins }) := by
  refine leaves_of_alters [.boot, .pins] (fun s => by unfold exec; rfl) (fun _ _ => rfl) fun hwf k => ?_
  unfold Hub.onBoot
  exact branch (branch ((self ..).set_pins_boot _ _) ((self ..).set_pins _)) (self ..)

theorem perstNDeassert_leaves :
    Leaves .perstNDeassert (those []) (fun h g => { h with pcie := g.pcie, pins := g.pins }) := by
  refine leaves_of_alters [.pcie, .pins] (fun s => by unfold exec; rfl) (fun _ _ => rfl) fun hwf k => ?_
  exact (self ..).set_pins_pcie _ _

theorem lgRecover_leaves :
    Leaves .lgRecover (those []) (fun h g => { h with pins := g.pins, power := g.power }) := by
  refine leaves_of_alters [.pins, .power] (fun s => by unfold exec; rfl) (fun _ _ => rfl) fun hwf k => ?_
  exact branch (((self ..).set_pins_power_yew _ _ _).warn _ _ _ _) (self ..)

theorem mapEpochDrainEnd_leaves :
    Leaves .mapEpochDrainEnd (those [R.MAP_EPOCH_STAT_DRAIN]) (fun h g => { h with map := g.map }) := by
  refine leaves_of_alters [.map] (fun s => by unfold exec; rfl) (fun _ _ => rfl) fun hwf k => ?_
  unfold Hub.showQueued Hub.onMap
  exact branch (self ..) (((((self ..).set_map _).put _).put _).put _)

theorem slip_leaves :
    ∀ (req : Path) (l : Nat), Leaves (.slip req l) (those [R.SER_LANE_RAW_SLIPS l]) (fun h g => { h with ser := g.ser }) := by
  refine fun req l => leaves_of_alters [.ser] (fun s => by unfold exec; rfl) (fun _ _ => rfl) fun hwf k => ?_
  unfold Hub.ifPowered Hub.slip Hub.onLane
  exact pfWrite _ (by
    split
    · exact branch (((self ..).set_ser _).put _) (branch (((self ..).set_ser _).putFree) (((self ..).set_ser _).put _))
    · exact branch (branch (((self ..).set_ser _).put _) (branch (((self ..).set_ser _).putFree)
      (((self ..).set_ser _).put _))) ((self ..).logAccess _ _ _ _))

theorem pwrgoodLowFilterExpiry_leaves :
    Leaves .pwrgoodLowFilterExpiry (those [R.PWR_HOLD_READY]) (fun h g => { h with pins := g.pins, power := g.power }) := by
  refine leaves_of_alters [.pins, .power] (fun s => by unfold exec; rfl) (fun _ _ => rfl) fun hwf k => ?_
  exact branch (((self ..).set_pins _).andThen (Hub.alters_lastGasp (W := those [R.PWR_HOLD_READY]) _ _ fun _ => by simp
    [framed, those])) (self ..)

theorem vinBelowWarn_leaves :
    Leaves .vinBelowWarn (those [R.PWR_HOLD_READY]) (fun h g => { h with pins := g.pins, power := g.power }) := by
  refine leaves_of_alters [.pins, .power] (fun s => by unfold exec; rfl) (fun _ _ => rfl) fun hwf k => ?_
  exact branch (self ..) (((self ..).set_pins _).andThen (Hub.alters_lastGasp (W := those [R.PWR_HOLD_READY]) _ _ fun _ =>
    by simp [framed, those]))

theorem lockstepMismatch_leaves :
    Leaves .lockstepMismatch (those [R.YEW_ESC_FATALS])
      (fun h g => { h with boot := g.boot, pins := g.pins, power := g.power }) := by
  refine leaves_of_alters [.boot, .pins, .power] (fun s => by unfold exec; rfl) (fun _ _ => rfl) fun hwf k => ?_
  exact (self ..).andThen (Hub.alters_fatal ..)

theorem mastheadWatchdog_leaves :
    Leaves .mastheadWatchdog (those [R.YEW_ESC_FATALS])
      (fun h g => { h with boot := g.boot, pins := g.pins, power := g.power }) := by
  refine leaves_of_alters [.boot, .pins, .power] (fun s => by unfold exec; rfl) (fun _ _ => rfl) fun hwf k => ?_
  exact (self ..).andThen (Hub.alters_fatal ..)

theorem faultResetTimeout_leaves :
    ∀ (cls n : Nat), Leaves (.faultResetTimeout cls n) (those [R.YEW_ESC_FATALS])
      (fun h g => { h with boot := g.boot, pins := g.pins, power := g.power }) := by
  refine fun cls n => leaves_of_alters [.boot, .pins, .power] (fun s => by unfold exec; rfl) (fun _ _ => rfl) fun hwf k => ?_
  exact branch ((self ..).andThen (Hub.alters_fatal ..)) (self ..)

theorem thermalTripTimeout_leaves :
    Leaves .thermalTripTimeout (those [R.YEW_ESC_FATALS])
      (fun h g => { h with boot := g.boot, pins := g.pins, power := g.power }) := by
  refine leaves_of_alters [.boot, .pins, .power] (fun s => by unfold exec; rfl) (fun _ _ => rfl) fun hwf k => ?_
  exact branch ((self ..).andThen (Hub.alters_fatal ..)) (self ..)

/-- Settles O11: each command's frame is read off what its operation alters. -/
theorem frameOfPowerAndPinCommands : Obligations.FrameOfPowerAndPinCommands := by
  unfold Obligations.FrameOfPowerAndPinCommands
  exact ⟨glbRstWarm_leaves, glbRstHub_leaves, refclkLoss_leaves, domainReqHoldOn_leaves, domainReqHoldOff_leaves,
    domainReqHub_leaves, domainAdmit_leaves, domainLowerIdle_leaves, domainLowerAbandon_leaves, reefTick_leaves,
    pmbusPoll_leaves, voutCommand_leaves, pwrgoodFall_leaves, perstNDeassert_leaves, lgRecover_leaves,
    mapEpochDrainEnd_leaves, slip_leaves, pwrgoodLowFilterExpiry_leaves, vinBelowWarn_leaves, lockstepMismatch_leaves,
    mastheadWatchdog_leaves, faultResetTimeout_leaves, thermalTripTimeout_leaves⟩

end Sys2Proof.Machine
end

section
/-!
### The frame of the ring, link and channel commands
-/
namespace Sys2Proof.Machine

set_option Elab.async false
open Hub.Alters

theorem refresh_leaves :
    ∀ (n q bank how : Nat), Leaves (.refresh n q bank how) (those [R.MEM_PC_PD n q])
      (fun h g => { h with memch := g.memch }) := by
  refine fun n q bank how => leaves_of_alters [.memch] (fun s => by unfold exec; rfl) (fun _ _ => rfl) fun hwf k => ?_
  unfold Hub.refreshExtra Hub.refreshBank Hub.setRefresh Hub.refreshDue
  exact branch (self ..) (branch (branch ((((self ..).set_memch _).set_memch _).put _) (branch
    ((((self ..).set_memch _).set_memch _).put _) (self ..))) (branch ((self ..).set_memch _) (branch ((self ..).set_memch _)
    (((self ..).set_memch _).put _))))

theorem scheduleCommand_leaves :
    ∀ (n q : Nat) (busy : List Nat), Leaves (.scheduleCommand n q busy)
      (fun a => within 0x300000 0x400000 a ∨ within 0x400000 0x500000 a) (fun h g => { h with memch := g.memch }) := by
  refine fun n q busy => leaves_of_alters [.memch] (fun s => by unfold exec; rfl) (fun _ _ => rfl) fun hwf k => ?_
  simp [Instr.wf, Ok.scheduleCommand] at hwf
  unfold Hub.schedule Hub.setRaa
  dsimp only
  split
  · exact ((self ..).set_memch _).bump _
  · exact by
      split
      · exact (self ..).set_memch _
      · exact ((self ..).set_memch _).andThen (Hub.alters_issue ..)

theorem sheetUpdate_leaves :
    Leaves .sheetUpdate (fun a => within 0x300000 0x400000 a ∨ within 0x400000 0x500000 a)
      (fun h g => { h with memch := g.memch }) := by
  refine leaves_of_alters [.memch] (fun s => by unfold exec; rfl) (fun _ _ => rfl) fun hwf k => ?_
  exact (((((self ..).upto _ fun _ _ _ => (self ..).andThen (Hub.alters_congest ..)).put _).put _).upto _ fun _ _ _ =>
    (self ..).andThen (Hub.alters_sheetClassStep ..)).upto _ fun _ _ _ => (self ..).andThen (Hub.alters_sheetRefill ..)

theorem telltaleWindow_leaves :
    Leaves .telltaleWindow (those []) (fun h g => { h with memch := g.memch }) := by
  refine leaves_of_alters [.memch] (fun s => by unfold exec; rfl) (fun _ _ => rfl) fun hwf k => ?_
  exact (self ..).set_memch _

theorem windowEnableComplete_leaves :
    ∀ (w : Nat), Leaves (.windowEnableComplete w) (within 0x200000 0x300000) (fun h g => { h with dir := g.dir }) := by
  refine fun w => leaves_of_alters [.dir] (fun s => by unfold exec; rfl) (fun _ _ => rfl) fun hwf k => ?_
  simp [Instr.wf, Ok.windowEnableComplete] at hwf
  unfold Hub.winOn Hub.showQuery Hub.setWin Hub.onDir
  exact branch (branch ((((self ..).each _ fun _ _ _ => (self ..).set_dir _).put _).put _) (by
    dsimp only
    split
    · exact (((((self ..).each _ fun _ _ _ => (self ..).set_dir _).put _).put _).setReg _).put _
    · exact (((((((((self ..).each _ fun _ _ _ =>
      (self ..).set_dir _).put _).put _).put _).put _).put _).put _).put _).put _)) (self ..)

theorem windowDisableComplete_leaves :
    ∀ (w : Nat), Leaves (.windowDisableComplete w) (within 0x200000 0x300000) (fun h g => { h with dir := g.dir }) := by
  refine fun w => leaves_of_alters [.dir] (fun s => by unfold exec; rfl) (fun _ _ => rfl) fun hwf k => ?_
  simp [Instr.wf, Ok.windowDisableComplete] at hwf
  unfold Hub.winOff Hub.showQuery Hub.setWin Hub.onDir
  exact branch (branch ((((self ..).set_dir _).put _).put _) (by
    dsimp only
    split
    · exact (((((self ..).set_dir _).put _).put _).setReg _).put _
    · exact (((((((((self ..).set_dir _).put _).put _).put _).put _).put _).put _).put _).put _)) (self ..)

theorem dirQuery_leaves :
    ∀ (req : Path) (v : Word), Leaves (.dirQuery req v) (within 0x200000 0x300000) (fun h g => { h with dir := g.dir }) := by
  refine fun req v => leaves_of_alters [.dir] (fun s => by unfold exec; rfl) (fun _ _ => rfl) fun hwf k => ?_
  unfold Hub.dirQuery Hub.showQuery Hub.onDir
  exact pfWrite _ (branch (((self ..).put _).set_dir _) (by
    dsimp only
    split
    · exact ((((self ..).put _).set_dir _).setReg _).put _
    · exact ((((((((self ..).put _).set_dir _).put _).put _).put _).put _).put _).put _))

theorem watchCancel_leaves :
    ∀ (req : Path) (w : Nat) (v : Word), Leaves (.watchCancel req w v) (within 0x120000 0x130000)
      (fun h g => { h with cleat := g.cleat }) := by
  refine fun req w v => leaves_of_alters [.cleat] (fun s => by unfold exec; rfl) (fun _ _ => rfl) fun hwf k => ?_
  simp [Instr.wf, Ok.watchCancel] at hwf
  unfold Hub.watchCancel Hub.dropWaits Hub.showWaiters
  exact pfWrite _ (branch ((((self ..).set_cleat _).put _).put _) (((self ..).put _).put _))

theorem Hub.alters_watchEnd (w : Nat) (fired : Bool) (v : Nat) (h : Hub) (_hb : w < 64 := by omega) :
    Hub.Alters [.cleat] (within 0x120000 0x130000) h (h.watchEnd w fired v) := by
  unfold Hub.watchEnd
  refine Hub.Alters.sendVector_mod ?_ _
  exact ((branch ((self ..).put _) ((self ..).put _)).put _).set_cleat _

theorem watchTimeout_leaves :
    ∀ (w : Nat), Leaves (.watchTimeout w) (within 0x120000 0x130000) (fun h g => { h with cleat := g.cleat }) := by
  refine fun w => leaves_of_alters [.cleat] (fun s => by unfold exec; rfl) (fun _ _ => rfl) fun hwf k => ?_
  simp [Instr.wf, Ok.watchTimeout] at hwf
  unfold Hub.dropWaits Hub.showWaiters
  exact branch ((((self ..).set_cleat _).put _).countEvent _ |>.andThen (Hub.alters_watchEnd ..)) (self ..)

/-- A register command of a ring alters what it does to the ring it names. -/
theorem Hub.alters_ringWrite {P : List Part} {W : Nat → Prop} {f : Nat → Hub → Hub}
    (hf : ∀ n, n < 256 → ∀ k, Hub.Alters P W k (f n k)) (req : Path) {n : Nat} (hn : n < 256) (off : Nat) (v : Word) (h : Hub) :
    Hub.Alters P W h (h.ringWrite req n off v f) := by
  unfold Hub.ringWrite
  cases req with
  | pf => exact branch (hf n hn h) ((self ..).logAccess _ _ _ _)
  | vf k =>
    cases e : h.localRing k n with
    | none => simpa only [e] using self ..
    | some m => simpa only [e] using hf m (Hub.localRing_lt e) h
  | site _ | tap | masthead => exact self ..

theorem ringEnable_leaves :
    ∀ (req : Path) (n : Nat), Leaves (.ringEnable req n) (fun a => within 0x100000 0x110000 a ∨ within 0x110000 0x120000 a)
      (fun h g => { h with rings := g.rings }) := by
  refine fun req n => leaves_of_alters [.rings] (fun s => by unfold exec; rfl) (fun _ _ => rfl) fun hwf k => ?_
  simp [Instr.wf, Ok.ringEnable] at hwf
  exact Hub.alters_ringWrite (fun n hn k => Hub.alters_ringEnable req n k hn) req hwf.2 ..

theorem ringResetComplete_leaves :
    ∀ (n : Nat), Leaves (.ringResetComplete n) (fun a => within 0x100000 0x110000 a ∨ within 0x110000 0x120000 a)
      (fun h g => { h with rings := g.rings }) := by
  refine fun n => leaves_of_alters [.rings] (fun s => by unfold exec; rfl) (fun _ _ => rfl) fun hwf k => ?_
  simp [Instr.wf, Ok.ringResetComplete] at hwf
  exact branch ((self ..).andThen (Hub.alters_endReset ..)) (self ..)

theorem hintLapse_leaves :
    ∀ (n pool : Nat), Leaves (.hintLapse n pool) (within 0x110000 0x120000) (fun h g => { h with rings := g.rings }) := by
  refine fun n pool => leaves_of_alters [.rings] (fun s => by unfold exec; rfl) (fun _ _ => rfl) fun hwf k => ?_
  unfold Hub.dropHint Hub.showPools Hub.setRing
  exact ((self ..).set_rings _).upto _ fun _ _ _ => ((self ..).put _).put _

theorem completionRelease_leaves :
    ∀ (req : Path) (page : Nat) (v : Word), Leaves (.completionRelease req page v) (within 0x100000 0x110000)
      (fun h g => { h with pcie := g.pcie, rings := g.rings }) := by
  refine fun req page v => leaves_of_alters [.pcie, .rings] (fun s => by unfold exec; rfl) (fun _ _ => rfl) fun hwf k => ?_
  simp [Instr.wf, Ok.completionRelease] at hwf
  exact Hub.alters_doorbell (fun n hn => by simp; omega)
    (fun n hn i h => (self ..).andThen (Hub.alters_releaseSlots ..)) req hwf.2 4 v k

theorem ringHaltEntry_leaves :
    ∀ (n : Nat), Leaves (.ringHaltEntry n) (within 0x100000 0x110000)
      (fun h g => { h with pcie := g.pcie, rings := g.rings }) := by
  refine fun n => leaves_of_alters [.pcie, .rings] (fun s => by unfold exec; rfl) (fun _ _ => rfl) fun hwf k => ?_
  simp [Instr.wf, Ok.ringHaltEntry] at hwf
  unfold Hub.setRing
  exact branch (((((self ..).drew).drew).set_rings _).andThen (Hub.alters_pushCpl ..)) (self ..)

theorem moderationTimerExpiry_leaves :
    ∀ (n : Nat), Leaves (.moderationTimerExpiry n) (those []) (fun h g => { h with pcie := g.pcie, rings := g.rings }) := by
  refine fun n => leaves_of_alters [.pcie, .rings] (fun s => by unfold exec; rfl) (fun _ _ => rfl) fun hwf k => ?_
  dsimp only
  unfold Hub.fire Hub.setRing
  exact branch (branch ((((self ..).set_rings _).set_rings _).sendVector_of _ _) ((self ..).set_rings _)) (self ..)

theorem readinessPendSend_leaves :
    Leaves .readinessPendSend (those [R.GLB_RDY_PEND]) (fun h g => { h with pcie := g.pcie }) := by
  refine leaves_of_alters [.pcie] (fun s => by unfold exec; rfl) (fun _ _ => rfl) fun hwf k => ?_
  exact branch (((self ..).put _).sendVector) (self ..)

theorem configRequest_leaves :
    ∀ (fn : Nat) (q : CfgReq), Leaves (.configRequest fn q) (those []) (fun h g => { h with pcie := g.pcie }) := by
  refine fun fn q => leaves_of_alters [.pcie] (fun s => by unfold exec; rfl) (fun _ _ => rfl) fun hwf k => ?_
  have hfn : vectorsOf fn ≤ 264 := by unfold vectorsOf; split <;> omega
  unfold Hub.cfgWrite Hub.msixControl Hub.sendPending Hub.setPending
  exact branch (self ..) (by
    split
    · exact (self ..).send _
    · exact (self ..).send _
    · exact ((self ..).drew).send _
    · exact (branch (self ..) ((self ..).set_pcie _)).send _
    · exact (((self ..).set_pcie _).upto _ fun v hv _ => branch ((branch ((self ..).put _) ((self ..).set_pcie _)).send _)
      (self ..)).send _
    · exact (self ..).send _)

theorem pcieLinkUp_leaves :
    ∀ (rate width : Nat) (flit : Bool), Leaves (.pcieLinkUp rate width flit) (those [R.GLB_PCIE_STAT_RATE])
      (fun h g => { h with pcie := g.pcie }) := by
  refine fun rate width flit => leaves_of_alters [.pcie] (fun s => by unfold exec; rfl) (fun _ _ => rfl) fun hwf k => ?_
  exact branch (self ..) (branch ((((((self ..).set_pcie _).put _).put _).put _).warn _ _ _ _)
    (((((self ..).set_pcie _).put _).put _).put _))

theorem busMasterDisable_leaves :
    ∀ (fn : Nat) (d3 : Bool), Leaves (.busMasterDisable fn d3) (those []) (fun h g => { h with pcie := g.pcie }) := by
  refine fun fn d3 => leaves_of_alters [.pcie] (fun s => by unfold exec; rfl) (fun _ _ => rfl) fun hwf k => ?_
  exact branch ((self ..).set_pcie _) ((self ..).set_pcie _)

theorem unsupportedRequest_leaves :
    ∀ (fn : Nat) (posted : Bool), Leaves (.unsupportedRequest fn posted) (those []) (fun h g => { h with pcie := g.pcie }) := by
  refine fun fn posted => leaves_of_alters [.pcie] (fun s => by unfold exec; rfl) (fun _ _ => rfl) fun hwf k => ?_
  unfold Hub.aer
  exact branch ((self ..).set_pcie _) (((self ..).set_pcie _).send _)

theorem poisonedTlpReceived_leaves :
    ∀ (fn : Nat), Leaves (.poisonedTlpReceived fn) (those []) (fun h g => { h with pcie := g.pcie }) := by
  refine fun fn => leaves_of_alters [.pcie] (fun s => by unfold exec; rfl) (fun _ _ => rfl) fun hwf k => ?_
  unfold Hub.aer
  exact (self ..).set_pcie _

theorem malformedTlp_leaves :
    ∀ (tlp : BadTlp), Leaves (.malformedTlp tlp) (those []) (fun h g => { h with pcie := g.pcie }) := by
  refine fun tlp => leaves_of_alters [.pcie] (fun s => by unfold exec; rfl) (fun _ _ => rfl) fun hwf k => ?_
  unfold Hub.aer
  exact (self ..).set_pcie _

theorem timeSet_leaves :
    ∀ (req : Path) (v : Word), Leaves (.timeSet req v) (those [R.TIME_STEPS_COUNT]) (fun h g => { h with time := g.time }) := by
  refine fun req v => leaves_of_alters [.time] (fun s => by unfold exec; rfl) (fun _ _ => rfl) fun hwf k => ?_
  unfold Hub.timeSetWrite Hub.ifFreeRunning Hub.stepTime
  exact pfWrite _ (branch ((self ..).logAccess _ _ _ _) ((((self ..).set_time _).bump _).notice _ _))

theorem timeSlew_leaves :
    ∀ (req : Path) (v : Word), Leaves (.timeSlew req v) (those []) (fun h g => { h with time := g.time }) := by
  refine fun req v => leaves_of_alters [.time] (fun s => by unfold exec; rfl) (fun _ _ => rfl) fun hwf k => ?_
  unfold Hub.timeSlewWrite Hub.ifFreeRunning Hub.slewTime
  exact pfWrite _ (branch ((self ..).logAccess _ _ _ _) ((self ..).set_time _))

theorem senseTrigger_leaves :
    ∀ (req : Path) (c : Nat) (v : Word), Leaves (.senseTrigger req c v) (within 0x30000 0x40000)
      (fun h g => { h with sns := g.sns }) := by
  refine fun req c v => leaves_of_alters [.sns] (fun s => by unfold exec; rfl) (fun _ _ => rfl) fun hwf k => ?_
  simp [Instr.wf, Ok.senseTrigger] at hwf
  unfold Hub.convWrite Hub.trigger Hub.setConv
  exact pfWrite _ (branch ((self ..).put _) (branch (((self ..).put _).logAccess _ _ _ _) (branch ((self ..).put _) (branch
    (((((self ..).put _).set_sns _).put _).put _) (branch (((((self ..).put _).set_sns _).put _).put _)
    (((self ..).put _).bump _))))))

theorem senseSync_leaves :
    ∀ (req : Path), Leaves (.senseSync req) (within 0x30000 0x40000) (fun h g => { h with sns := g.sns }) := by
  refine fun req => leaves_of_alters [.sns] (fun s => by unfold exec; rfl) (fun _ _ => rfl) fun hwf k => ?_
  unfold Hub.senseSync Hub.setConv
  exact pfWrite _ ((((self ..).upto _ fun _ _ _ => (((self ..).set_sns _).put _).put _).put _).put _)

theorem mailboxComplete_leaves :
    Leaves .mailboxComplete (within 0xC00000 0xD00000) (fun h g => { h with pcie := g.pcie }) := by
  refine leaves_of_alters [.pcie] (fun s => by unfold exec; rfl) (fun _ _ => rfl) fun hwf k => ?_
  exact branch (self ..) (by
    split
    · exact self ..
    · exact branch (((((((self ..).put _).put _).put _).put _).upto _ fun _ _ _ => branch ((self ..).put _)
      (self ..)).sendVector) ((((((self ..).put _).put _).put _).put _).upto _ fun _ _ _ => branch ((self ..).put _) (self ..)))

theorem getVersion_leaves :
    Leaves .getVersion (fun a => those [R.YEW_ESC_FATALS] a ∨ within 0xC00100 0xC00200 a)
      (fun h g => { h with boot := g.boot, mast := g.mast, pins := g.pins, power := g.power }) := by
  refine leaves_of_alters [.boot, .mast, .pins, .power] (fun s => by unfold exec; rfl) (fun _ _ => rfl) fun hwf k => ?_
  exact Hub.alters_mastDo _ fun _ => (self ..).andThen (Hub.alters_mastAnswer ..)

theorem yewMark_leaves :
    Leaves .yewMark (fun a => those [R.YEW_ESC_FATALS] a ∨ within 0xC00100 0xC00200 a)
      (fun h g => { h with boot := g.boot, mast := g.mast, pins := g.pins, power := g.power }) := by
  refine leaves_of_alters [.boot, .mast, .pins, .power] (fun s => by unfold exec; rfl) (fun _ _ => rfl) fun hwf k => ?_
  exact Hub.alters_mastDo _ fun _ => branch (((self ..).yewRecord _ _ _ _).andThen (Hub.alters_mastAnswer ..))
    (((self ..).yewRecord _ _ _ _).andThen (Hub.alters_mastAnswer ..))

theorem yewRead_leaves :
    Leaves .yewRead (fun a => those [R.YEW_ESC_FATALS] a ∨ within 0xC00100 0xC00200 a)
      (fun h g => { h with boot := g.boot, mast := g.mast, pins := g.pins, power := g.power }) := by
  refine leaves_of_alters [.boot, .mast, .pins, .power] (fun s => by unfold exec; rfl) (fun _ _ => rfl) fun hwf k => ?_
  exact Hub.alters_mastDo _ fun _ => branch ((self ..).andThen (Hub.alters_mastAnswer ..)) (((self ..).andThen
    (Hub.alters_readRecs ..)).andThen (Hub.alters_mastAnswer ..))

theorem pprRequest_leaves :
    ∀ (bad : Bool), Leaves (.pprRequest bad) (fun a => those [R.YEW_ESC_FATALS] a ∨ within 0xC00100 0xC00200 a)
      (fun h g => { h with boot := g.boot, mast := g.mast, pins := g.pins, power := g.power }) := by
  refine fun bad => leaves_of_alters [.boot, .mast, .pins, .power] (fun s => by unfold exec; rfl) (fun _ _ => rfl) fun hwf k => ?_
  unfold Hub.pprRequest Hub.pprRecord Hub.writeRegion
  exact Hub.alters_mastDo _ fun _ => branch ((self ..).andThen (Hub.alters_mastAnswer ..)) (branch ((self ..).andThen
    (Hub.alters_mastAnswer ..)) (branch (branch ((((self ..).set_yew _).yewRecord _ _ _ _).andThen (Hub.alters_mastAnswer ..))
    ((self ..).andThen (Hub.alters_mastAnswer ..))) (branch ((self ..).andThen (Hub.alters_mastAnswer ..)) (branch
    ((self ..).andThen (Hub.alters_mastAnswer ..)) (branch ((self ..).andThen (Hub.alters_mastAnswer ..))
    ((((self ..).set_yew _).yewRecord _ _ _ _).andThen (Hub.alters_mastAnswer ..)))))))

theorem pprList_leaves :
    Leaves .pprList (fun a => those [R.YEW_ESC_FATALS] a ∨ within 0xC00100 0xC00200 a)
      (fun h g => { h with boot := g.boot, mast := g.mast, pins := g.pins, power := g.power }) := by
  refine leaves_of_alters [.boot, .mast, .pins, .power] (fun s => by unfold exec; rfl) (fun _ _ => rfl) fun hwf k => ?_
  exact Hub.alters_mastDo _ fun _ => (self ..).andThen (Hub.alters_mastAnswer ..)

theorem imageStage_leaves :
    Leaves .imageStage (fun a => those [R.YEW_ESC_FATALS] a ∨ within 0xC00100 0xC00200 a)
      (fun h g => { h with boot := g.boot, mast := g.mast, pins := g.pins, power := g.power }) := by
  refine leaves_of_alters [.boot, .mast, .pins, .power] (fun s => by unfold exec; rfl) (fun _ _ => rfl) fun hwf k => ?_
  exact Hub.alters_mastDo _ fun _ => branch ((self ..).andThen (Hub.alters_mastAnswer ..)) (((self ..).set_yew _).andThen
    (Hub.alters_mastAnswer ..))

/-- Settles O12: each command's frame is read off what its operation alters. -/
theorem frameOfRingLinkAndChannelCommands : Obligations.FrameOfRingLinkAndChannelCommands := by
  unfold Obligations.FrameOfRingLinkAndChannelCommands
  exact ⟨refresh_leaves, scheduleCommand_leaves, sheetUpdate_leaves, telltaleWindow_leaves, windowEnableComplete_leaves,
    windowDisableComplete_leaves, dirQuery_leaves, watchCancel_leaves, watchTimeout_leaves, ringEnable_leaves,
    ringResetComplete_leaves, hintLapse_leaves, completionRelease_leaves, ringHaltEntry_leaves, moderationTimerExpiry_leaves,
    readinessPendSend_leaves, configRequest_leaves, pcieLinkUp_leaves, busMasterDisable_leaves, unsupportedRequest_leaves,
    poisonedTlpReceived_leaves, malformedTlp_leaves, timeSet_leaves, timeSlew_leaves, senseTrigger_leaves, senseSync_leaves,
    mailboxComplete_leaves, getVersion_leaves, yewMark_leaves, yewRead_leaves, pprRequest_leaves, pprList_leaves,
    imageStage_leaves⟩

end Sys2Proof.Machine
end

section
/-!
### The frame of the serial and crew commands
-/
namespace Sys2Proof.Machine

set_option Elab.async false
open Hub.Alters

theorem telltaleLevelChange_leaves :
    ∀ (m fill : Nat), Leaves (.telltaleLevelChange m fill) (fun a => within 0x400000 0x500000 a ∨ within 0x700000 0x800000 a)
      (fun h g => { h with memch := g.memch, ser := g.ser }) := by
  refine fun m fill => leaves_of_alters [.memch, .ser] (fun s => by unfold exec; rfl) (fun _ _ => rfl) fun hwf k => ?_
  simp [Instr.wf, Ok.telltaleLevelChange] at hwf
  exact branch ((self ..).andThen (Hub.alters_fillLevel ..)) (((self ..).andThen (Hub.alters_showFill ..)).upto _
    fun _ _ _ => branch ((self ..).andThen (Hub.alters_pauseCheck ..)) (self ..))

theorem laneSignalDetect_leaves :
    ∀ (l : Nat), Leaves (.laneSignalDetect l) (within 0x700000 0x800000) (fun h g => { h with ser := g.ser }) := by
  refine fun l => leaves_of_alters [.ser] (fun s => by unfold exec; rfl) (fun _ _ => rfl) fun hwf k => ?_
  simp [Instr.wf, Ok.laneSignalDetect] at hwf
  split
  · exact self ..
  · have hp := Hub.lanePort_lt ‹_›
    exact branch (branch (branch ((branch ((((self ..).put _).put _).put _) ((self ..).put _)).andThen
      (Hub.alters_setLane ..)) (branch ((branch ((((self ..).put _).put _).put _) ((self ..).put _)).andThen
      (Hub.alters_setLane ..)) (branch ((((self ..).put _).put _).put _) ((self ..).put _)))) ((branch
      ((((self ..).put _).put _).put _) ((self ..).put _)).andThen (Hub.alters_setLane ..))) (self ..)

theorem anComplete_leaves :
    ∀ (p : Nat) (ok : Bool), Leaves (.anComplete p ok) (within 0x700000 0x800000) (fun h g => { h with ser := g.ser }) := by
  refine fun p ok => leaves_of_alters [.ser] (fun s => by unfold exec; rfl) (fun _ _ => rfl) fun hwf k => ?_
  refine branchIf (fun ⟨_, hf, _⟩ => branch ?_ ((self ..).andThen (Hub.alters_laneRetry ..))) fun _ => self ..
  exact (self ..).each _ fun l hl _ => have hl := Hub.lt_of_mem_inUse hl
    branch ((self ..).andThen (Hub.alters_setLane ..)) (self ..)

theorem anRetry_leaves :
    ∀ (p : Nat), Leaves (.anRetry p) (within 0x700000 0x800000) (fun h g => { h with ser := g.ser }) := by
  refine fun p => leaves_of_alters [.ser] (fun s => by unfold exec; rfl) (fun _ _ => rfl) fun hwf k => ?_
  exact branchIf (fun ⟨_, _, hf, _⟩ => (self ..).andThen (Hub.alters_setLane ..)) fun _ => self ..

theorem linkTrainingComplete_leaves :
    ∀ (l : Nat), Leaves (.linkTrainingComplete l) (within 0x700000 0x800000) (fun h g => { h with ser := g.ser }) := by
  refine fun l => leaves_of_alters [.ser] (fun s => by unfold exec; rfl) (fun _ _ => rfl) fun hwf k => ?_
  simp [Instr.wf, Ok.linkTrainingComplete] at hwf
  exact branch ((self ..).andThen (Hub.alters_setLane ..)) (self ..)

theorem adaptSettled_leaves :
    ∀ (l snr8 : Nat), Leaves (.adaptSettled l snr8) (within 0x700000 0x800000) (fun h g => { h with ser := g.ser }) := by
  refine fun l snr8 => leaves_of_alters [.ser] (fun s => by unfold exec; rfl) (fun _ _ => rfl) fun hwf k => ?_
  simp [Instr.wf, Ok.adaptSettled] at hwf
  unfold Hub.showFom
  exact branch ((((self ..).andThen (Hub.alters_eqFree ..)).put _).andThen (Hub.alters_setLane ..)) (self ..)

theorem laneStepTimeout_leaves :
    ∀ (l : Nat), Leaves (.laneStepTimeout l) (within 0x700000 0x800000) (fun h g => { h with ser := g.ser }) := by
  refine fun l => leaves_of_alters [.ser] (fun s => by unfold exec; rfl) (fun _ _ => rfl) fun hwf k => ?_
  simp [Instr.wf, Ok.laneStepTimeout] at hwf
  exact branch (by
    dsimp only
    split
    · exact (self ..).andThen (Hub.alters_laneRetry ..)
    · have hp := Hub.lanePort_lt ‹_›
      exact branch (((self ..).andThen (Hub.alters_laneRetry ..)).put _) ((self ..).andThen (Hub.alters_laneRetry ..))) (self ..)

theorem eyeScanRun_leaves :
    ∀ (req : Path) (l : Nat) (v : Word), Leaves (.eyeScanRun req l v) (within 0x700000 0x800000)
      (fun h g => { h with ser := g.ser }) := by
  refine fun req l v => leaves_of_alters [.ser] (fun s => by unfold exec; rfl) (fun _ _ => rfl) fun hwf k => ?_
  simp [Instr.wf, Ok.eyeScanRun] at hwf
  exact pfWrite _ ((self ..).andThen (Hub.alters_scanWrite ..))

theorem eyeScanDone_leaves :
    ∀ (l n : Nat), Leaves (.eyeScanDone l n) (within 0x700000 0x800000) (fun h g => { h with ser := g.ser }) := by
  refine fun l n => leaves_of_alters [.ser] (fun s => by unfold exec; rfl) (fun _ _ => rfl) fun hwf k => ?_
  simp [Instr.wf, Ok.eyeScanDone] at hwf
  unfold Hub.onLane
  exact branch ((((self ..).set_ser _).put _).put _) (self ..)

theorem prbsConfigWrite_leaves :
    ∀ (req : Path) (l : Nat) (v : Word), Leaves (.prbsConfigWrite req l v) (within 0x700000 0x800000)
      (fun h g => { h with ser := g.ser }) := by
  refine fun req l v => leaves_of_alters [.ser] (fun s => by unfold exec; rfl) (fun _ _ => rfl) fun hwf k => ?_
  simp [Instr.wf, Ok.prbsConfigWrite] at hwf
  exact pfWrite _ ((self ..).andThen (Hub.alters_prbsWrite ..))

theorem pause_leaves :
    ∀ (p n : Nat), Leaves (.pause p n) (within 0x700000 0x800000) (fun h g => { h with ser := g.ser }) := by
  refine fun p n => leaves_of_alters [.ser] (fun s => by unfold exec; rfl) (fun _ _ => rfl) fun hwf k => ?_
  unfold Hub.onPort
  exact branch ((self ..).set_ser _) (self ..)

theorem pauseQuantaExpiry_leaves :
    ∀ (p : Nat), Leaves (.pauseQuantaExpiry p) (those []) (fun h g => { h with ser := g.ser }) := by
  refine fun p => leaves_of_alters [.ser] (fun s => by unfold exec; rfl) (fun _ _ => rfl) fun hwf k => ?_
  unfold Hub.onPort
  exact (self ..).set_ser _

theorem pauseRepeat_leaves :
    ∀ (p : Nat), Leaves (.pauseRepeat p) (those []) (fun h g => { h with ser := g.ser }) := by
  refine fun p => leaves_of_alters [.ser] (fun s => by unfold exec; rfl) (fun _ _ => rfl) fun hwf k => ?_
  exact branch (((self ..).andThen (Hub.alters_pauseCheck ..)).andThen (Hub.alters_sendPause ..)) ((self ..).andThen
    (Hub.alters_pauseCheck ..))

theorem crewAckTimer_leaves :
    ∀ (p : Nat), Leaves (.crewAckTimer p) (those []) (fun h g => { h with ser := g.ser }) := by
  refine fun p => leaves_of_alters [.ser] (fun s => by unfold exec; rfl) (fun _ _ => rfl) fun hwf k => ?_
  unfold Hub.crewAck Hub.crewReply Hub.sendFrame Hub.onPort
  exact branch (((self ..).set_ser _).send _) (self ..)

theorem syncSend_leaves :
    Leaves .syncSend (those []) (fun h g => { h with crew := g.crew }) := by
  refine leaves_of_alters [.crew] (fun s => by unfold exec; rfl) (fun _ _ => rfl) fun hwf k => ?_
  unfold Hub.sendTime
  exact ((self ..).set_crew _).upto _ fun _ _ _ => branch ((((self ..).send _).send _).drew) (self ..)

theorem pdelayReqSend_leaves :
    Leaves .pdelayReqSend (those []) (fun h g => { h with crew := g.crew }) := by
  refine leaves_of_alters [.crew] (fun s => by unfold exec; rfl) (fun _ _ => rfl) fun hwf k => ?_
  unfold Hub.sendTime Hub.onCrewPort
  exact (self ..).upto _ fun _ _ _ => branch ((((self ..).set_crew _).drew).send _) (self ..)

theorem sync_leaves :
    ∀ (p n : Nat), Leaves (.sync p n) (those [R.CREW_EVT_BADTIME]) (fun h g => { h with crew := g.crew }) := by
  refine fun p n => leaves_of_alters [.crew] (fun s => by unfold exec; rfl) (fun _ _ => rfl) fun hwf k => ?_
  unfold Hub.onCrewPort
  exact branch ((((self ..).set_crew _).set_crew _).drew) ((self ..).andThen (Hub.alters_badTime ..))

theorem pdelayResp_leaves :
    ∀ (p n t2 : Nat), Leaves (.pdelayResp p n t2) (those [R.CREW_EVT_BADTIME]) (fun h g => { h with crew := g.crew }) := by
  refine fun p n t2 => leaves_of_alters [.crew] (fun s => by unfold exec; rfl) (fun _ _ => rfl) fun hwf k => ?_
  unfold Hub.onCrewPort
  exact branch (((self ..).set_crew _).drew) ((self ..).andThen (Hub.alters_badTime ..))

theorem pdelayRespFollowUp_leaves :
    ∀ (p n t3 : Nat), Leaves (.pdelayRespFollowUp p n t3) (those [R.CREW_EVT_BADTIME])
      (fun h g => { h with crew := g.crew }) := by
  refine fun p n t3 => leaves_of_alters [.crew] (fun s => by unfold exec; rfl) (fun _ _ => rfl) fun hwf k => ?_
  unfold Hub.onCrewPort
  dsimp only
  split
  · exact (self ..).andThen (Hub.alters_badTime ..)
  · exact branch ((self ..).set_crew _) ((self ..).andThen (Hub.alters_badTime ..))

theorem crewHello_leaves :
    ∀ (p : Nat) (b : List Byte), Leaves (.crewHello p b)
      (fun a => within 0x800000 0x900000 a ∨ within 0x700000 0x800000 a ∨ within 0x130000 0x140000 a)
      (fun h g => { h with crew := g.crew, pcie := g.pcie }) := by
  refine fun p b => leaves_of_alters [.crew, .pcie] (fun s => by unfold exec; rfl) (fun _ _ => rfl) fun hwf k => ?_
  simp [Instr.wf, Ok.crewHello] at hwf
  exact branch (Hub.Alters.crewIrq ((self ..).andThen (Hub.alters_takeHello ..))) (self ..)

theorem crewPeerTimeout_leaves :
    ∀ (p : Nat), Leaves (.crewPeerTimeout p)
      (fun a => within 0x800000 0x900000 a ∨ within 0x700000 0x800000 a ∨ within 0x130000 0x140000 a)
      (fun h g => { h with crew := g.crew, pcie := g.pcie }) := by
  refine fun p => leaves_of_alters [.crew, .pcie] (fun s => by unfold exec; rfl) (fun _ _ => rfl) fun hwf k => ?_
  simp [Instr.wf, Ok.crewPeerTimeout] at hwf
  exact branch ((self ..).andThen (Hub.alters_crewWait ..)) (self ..)

theorem claimHoldDownEnd_leaves :
    ∀ (n : Nat), Leaves (.claimHoldDownEnd n) (fun a => within 0x800000 0x900000 a ∨ within 0x130000 0x140000 a)
      (fun h g => { h with crew := g.crew, pcie := g.pcie }) := by
  refine fun n => leaves_of_alters [.crew, .pcie] (fun s => by unfold exec; rfl) (fun _ _ => rfl) fun hwf k => ?_
  exact ((self ..).set_crew _).trans (Hub.Alters.crewIrq ((self ..).andThen (Hub.alters_chooseClaim ..)))

theorem syncLoss_leaves :
    Leaves .syncLoss (fun a => within 0x800000 0x900000 a ∨ within 0x130000 0x140000 a)
      (fun h g => { h with crew := g.crew, pcie := g.pcie }) := by
  refine leaves_of_alters [.crew, .pcie] (fun s => by unfold exec; rfl) (fun _ _ => rfl) fun hwf k => ?_
  exact branch (Hub.Alters.crewIrq ((self ..).andThen (Hub.alters_loseLeader ..))) (self ..)

theorem crewRemuster_leaves :
    ∀ (req : Path), Leaves (.crewRemuster req) (fun a => within 0x800000 0x900000 a ∨ within 0x130000 0x140000 a)
      (fun h g => { h with crew := g.crew, pcie := g.pcie }) := by
  refine fun req => leaves_of_alters [.crew, .pcie] (fun s => by unfold exec; rfl) (fun _ _ => rfl) fun hwf k => ?_
  unfold Hub.askRemuster Hub.onCrewPort
  exact pfWrite _ (branch (Hub.Alters.crewIrq (branch (((self ..).set_crew _).andThen (Hub.alters_chooseClaim ..))
    (((self ..).set_crew _).andThen (Hub.alters_chooseClaim ..)))) (self ..))

theorem mustered_leaves :
    Leaves .mustered (fun a => within 0x800000 0x900000 a ∨ within 0x130000 0x140000 a)
      (fun h g => { h with crew := g.crew, pcie := g.pcie }) := by
  refine leaves_of_alters [.crew, .pcie] (fun s => by unfold exec; rfl) (fun _ _ => rfl) fun hwf k => ?_
  unfold Hub.leaderTrusts
  exact branch (Hub.Alters.crewIrq (branch (((((self ..).put _).set_crew _).andThen (Hub.alters_showDisc ..)).put _)
    ((((self ..).put _).set_crew _).andThen (Hub.alters_showDisc ..)))) (self ..)

theorem Hub.alters_judgeOffset (off : Int) (h : Hub) :
    Hub.Alters [.crew, .time] (fun a => within 0x800000 0x900000 a ∨ within 0x130000 0x140000 a) h (h.judgeOffset off) := by
  have trusts (k : Hub) (c : Prop) {_ : Decidable c} (v : Nat) :
      Hub.Alters [.crew, .time] (fun a => within 0x800000 0x900000 a ∨ within 0x130000 0x140000 a) k
        (if c then k.put R.TIME_STAT_TRUSTED v else k) :=
    branch ((self ..).put _) (self ..)
  have moved (k : Hub) (c : Prop) {_ : Decidable c} (t : Nat) :
      Hub.Alters [.crew, .time] (fun a => within 0x800000 0x900000 a ∨ within 0x130000 0x140000 a) k
        (if c then k.stepTime t else k.servo off) :=
    branch ((((self ..).set_time _).bump _).notice _ _) ((((self ..).put _).drew).set_time _)
  have mustered (k : Hub) (c : Prop) {_ : Decidable c} (y : CrewS) :
      Hub.Alters [.crew, .time] (fun a => within 0x800000 0x900000 a ∨ within 0x130000 0x140000 a) k
        (if c then k.remuster false else { k with crew := y }) :=
    branch ((self ..).andThen (Hub.alters_remuster ..)) ((self ..).set_crew _)
  unfold Hub.judgeOffset
  refine Hub.Alters.trans ?_ (trusts ..)
  refine Hub.Alters.set_crew ?_ _
  refine Hub.Alters.trans ?_ (mustered ..)
  refine Hub.Alters.trans ?_ (moved ..)
  exact ((self ..).put _).trans (trusts ..)

theorem followUp_leaves :
    ∀ (p n o : Nat) (c : Int), Leaves (.followUp p n o c) (fun a => within 0x800000 0x900000 a ∨ within 0x130000 0x140000 a)
      (fun h g => { h with crew := g.crew, pcie := g.pcie, time := g.time }) := by
  refine fun p n o c => leaves_of_alters [.crew, .pcie, .time] (fun s => by unfold exec; rfl) (fun _ _ => rfl) fun hwf k => ?_
  unfold Hub.onCrewPort
  split
  · exact (self ..).andThen (Hub.alters_badTime ..)
  · refine branch ?_ ((self ..).andThen (Hub.alters_badTime ..))
    exact ((self ..).set_crew _).trans (Hub.Alters.crewIrq ((self ..).andThen (Hub.alters_judgeOffset ..)))

theorem alignLock_leaves :
    ∀ (l : Nat), Leaves (.alignLock l)
      (fun a => within 0x800000 0x900000 a ∨ within 0x700000 0x800000 a ∨ within 0x130000 0x140000 a)
      (fun h g => { h with crew := g.crew, pcie := g.pcie, ser := g.ser }) := by
  refine fun l => leaves_of_alters [.crew, .pcie, .ser] (fun s => by unfold exec; rfl) (fun _ _ => rfl) fun hwf k => ?_
  simp [Instr.wf, Ok.alignLock] at hwf
  exact branch (by
    dsimp only
    split
    · exact (self ..).andThen (Hub.alters_setLane ..)
    · have hp := Hub.lanePort_lt ‹_›
      exact ((self ..).andThen (Hub.alters_setLane ..)).andThen (Hub.alters_portSettle ..)) (self ..)

/-- Settles O13: each command's frame is read off what its operation alters. -/
theorem frameOfSerialAndCrewCommands : Obligations.FrameOfSerialAndCrewCommands := by
  unfold Obligations.FrameOfSerialAndCrewCommands
  exact ⟨telltaleLevelChange_leaves, laneSignalDetect_leaves, anComplete_leaves, anRetry_leaves, linkTrainingComplete_leaves,
    adaptSettled_leaves, laneStepTimeout_leaves, eyeScanRun_leaves, eyeScanDone_leaves, prbsConfigWrite_leaves, pause_leaves,
    pauseQuantaExpiry_leaves, pauseRepeat_leaves, crewAckTimer_leaves, syncSend_leaves, pdelayReqSend_leaves, sync_leaves,
    pdelayResp_leaves, pdelayRespFollowUp_leaves, crewHello_leaves, crewPeerTimeout_leaves, claimHoldDownEnd_leaves,
    syncLoss_leaves, crewRemuster_leaves, mustered_leaves, followUp_leaves, alignLock_leaves⟩

end Sys2Proof.Machine
end

section
/-!
### The frame of the site links' commands

LINK_UP of a site that negotiated coherence sets its bit of BUF_STAT.SITE_COH (offset 0x200004), a register the statement's clause
leaves out.
-/
namespace Sys2Proof.Machine

set_option Elab.async false

/-- Site 3 is the one fitted; its training passed one module, and it negotiated coherence. -/
def coherentSiteReady : State :=
  stOf ((hubOf [(R.GLB_STRAP_SITE_FIT, 8), (R.YDL_DISC_PHASE 3, 4), (R.YDL_NEG_LO 3, 1)]).onSite 3 fun x =>
    { x with step := 7, trained := 1 })

theorem linkUp_sets_siteCoh :
    ∃ t, exec .linkUp coherentSiteReady = .next t ∧ t.hub.reg 0x200004 ≠ coherentSiteReady.hub.reg 0x200004 := by
  refine ⟨_, (by unfold exec; exact State.act_next rfl _ _), ?_⟩
  decide +kernel

/-- Refutes O14: LINK_UP of a coherent site sets its bit of BUF_STAT.SITE_COH, which the clause does not name. -/
theorem not_frameOfSiteLinkCommands : ¬ Obligations.FrameOfSiteLinkCommands := by
  unfold Obligations.FrameOfSiteLinkCommands
  rintro ⟨-, -, -, -, -, -, -, -, linkUp, -⟩
  obtain ⟨t, run, moved⟩ := linkUp_sets_siteCoh
  obtain ⟨frame, -, -⟩ := linkUp _ t run
  refine moved (frame.reg _ ?_)
  simp [logReg, evtReg, within]

end Sys2Proof.Machine
end

section
/-! ### Reading registers and parts after a choice, a counter or a run of steps -/
namespace Sys2Proof.Machine

set_option Elab.async false

@[simp] theorem Hub.ite_regs {c : Prop} {_ : Decidable c} (h g : Hub) :
    (if c then h else g).regs = if c then h.regs else g.regs := apply_ite Hub.regs ..

@[simp] theorem rget_ite {c : Prop} {_ : Decidable c} (l m : List (Nat × Word)) (f : RF) :
    rget (if c then l else m) f = if c then rget l f else rget m f := apply_ite (rget · f) ..

@[simp] theorem Hub.rget_bump_one (h : Hub) (f : RF) (hf : f.lo + f.width ≤ 32) (hn : rget h.regs f + 1 < 2 ^ f.width) :
    rget (h.bump f 1).regs f = rget h.regs f + 1 := Hub.bump_rget_same h f 1 hf hn

@[simp] theorem Hub.countEvents_out (h : Hub) (code n : Nat) : (h.countEvents code n).out = h.out :=
  Hub.upto_rel (Rel := fun a b => b.out = a.out) (fun _ => rfl) (fun _ _ _ x y => y.trans x)
    (fun k _ g => by split <;> simp [Hub.add64]) h

@[simp] theorem Hub.countEvent_out (h : Hub) (code : Nat) : (h.countEvent code).out = h.out := h.countEvents_out code 1

theorem b2n_lt_two (b : Bool) : b2n b < 2 := by cases b <;> decide

@[simp] theorem b2n_mod_two (b : Bool) : b2n b % 2 = b2n b := Nat.mod_eq_of_lt (b2n_lt_two b)

@[simp] theorem bitsOf_mod_of_le (w : Word) (lo n m : Nat) (hm : 2 ^ n ≤ m) : bitsOf w lo n % m = bitsOf w lo n :=
  Nat.mod_eq_of_lt ((bitsOf_lt w lo n).trans_le hm)

@[simp] theorem rget_mod_of_le (l : List (Nat × Word)) (f : RF) (m : Nat) (hm : 2 ^ f.width ≤ m) : rget l f % m = rget l f :=
  Nat.mod_eq_of_lt ((bitsOf_lt ..).trans_le hm)

/-- Of a run of steps, one and what the others keep. -/
theorem Hub.upto_around {Rel : Hub → Hub → Prop} (refl : ∀ h, Rel h h) (trans : ∀ a b c, Rel a b → Rel b c → Rel a c)
    {n k : Nat} {f : Nat → Hub → Hub} (hk : k < n) (others : ∀ j, j < n → j ≠ k → ∀ g, Rel g (f j g)) (h : Hub) :
    ∃ g, Rel h g ∧ Rel (f k g) (h.upto n f) := by
  obtain ⟨m, rfl⟩ : ∃ m, n = k + (1 + m) := ⟨n - k - 1, by omega⟩
  have e : h.upto (k + (1 + m)) f = (f k (h.upto k f)).upto m fun j => f (k + (1 + j)) := by
    simp [Hub.upto, List.range_add, List.foldl_map, Function.comp_def]
  refine ⟨h.upto k f, Hub.upto_rel refl trans (fun j hj => others j (by omega) (by omega)) h, ?_⟩
  rw [e]
  exact Hub.upto_rel refl trans (fun j hj => others _ (by omega) (by omega)) _

end Sys2Proof.Machine
end

section
/-!
### Descriptors of rings that do not exist

A port's running sends and a site's calls name their descriptor by ring and number, and no statement keeps such a ring number among
the 256 rings. Where the work of a ring beyond them ends, its count of descriptors in flight is lowered by one, at the offset where
that ring's DISP_RING_INFLIGHT would stand: some other block's register. The refutations below use such a state.
-/
namespace Sys2Proof.Machine

set_option Elab.async false

/-- The ring whose DISP_RING_INFLIGHT would stand at offset `off`. -/
def ringOver (off : Nat) : Nat := (off - (R.DISP_RING_INFLIGHT 0).off) / 4

/-- That ring holds one descriptor, started. -/
def Hub.withStray (h : Hub) (off : Nat) : Hub :=
  { h with rings := [(ringOver off, { RingS.empty with descs := [{ descOf 0 [] with started := true }] })] }

/-- Its descriptor is a send that runs on port `p`. -/
def Hub.withStraySend (h : Hub) (p off : Nat) : Hub :=
  (h.withStray off).onPort p fun x => { x with sends := [(ringOver off, 0)] }

/-- Its descriptor is a call that runs on site `s`. -/
def Hub.withStrayCall (h : Hub) (s off : Nat) : Hub :=
  (h.withStray off).onSite s fun x => { x with calls := [{ tag := 0, ring := ringOver off, desc := 0, stopped := false }] }

end Sys2Proof.Machine
end

section
/-!
### Reef and the covenant
-/
namespace Sys2Proof.Machine

set_option Elab.async false
open Hub.Alters

theorem covSlewWrite_clamps :
    ∀ (req : Path) (v : Word) (s : State),
    (Instr.covSlewWrite req v).wf = true →
    req.holdsBlocks = true →
    s.hub.unlocked = true →
    ∃ t, exec (.covSlewWrite req v) s = .next t ∧ t.hub.get R.PWR_COV_SLEW_UP = clampNat 250 1000 (bitsOf v 0 12) ∧
      t.hub.get R.PWR_COV_SLEW_DN = clampNat 250 1000 (bitsOf v 16 12) := by
  intro req v s hwf hp hu
  refine ⟨_, (by unfold exec; exact State.act_next hwf _ _), ?_⟩
  have hup : clampNat 250 1000 (bitsOf v 0 12) < 2 ^ 12 := by unfold clampNat; omega
  have hdn : clampNat 250 1000 (bitsOf v 16 12) < 2 ^ 12 := by unfold clampNat; omega
  simp only [Hub.covSlewWrite, Hub.pfWrite, Hub.writeLocked, hp, hu, if_true]
  have := Nat.mod_eq_of_lt hup
  have := Nat.mod_eq_of_lt hdn
  split <;> simp_all

theorem covStepWrite_limits :
    ∀ (req : Path) (v : Word) (s : State),
    (Instr.covStepWrite req v).wf = true →
    req.holdsBlocks = true →
    s.hub.unlocked = true →
    ∃ t, exec (.covStepWrite req v) s = .next t ∧ t.hub.get R.PWR_COV_STEP = min 60 (bitsOf v 0 7) ∧
      t.hub.get R.PWR_COV_STEP_GUARD = min (min 60 (bitsOf v 0 7)) (bitsOf v 8 7) := by
  intro req v s hwf hp hu
  refine ⟨_, (by unfold exec; exact State.act_next hwf _ _), ?_⟩
  have hs : min 60 (bitsOf v 0 7) < 2 ^ 7 := by omega
  have hg : min (min 60 (bitsOf v 0 7)) (bitsOf v 8 7) < 2 ^ 7 := by omega
  simp only [Hub.covStepWrite, Hub.pfWrite, Hub.writeLocked, hp, hu, if_true]
  split <;> simp [-Nat.min_assoc]

theorem Hub.reefCtrlWrite_enable (req : Path) (v : Word) (h : Hub) (hl : 2 ≤ h.level) :
    (h.reefCtrlWrite req v).get R.PWR_REEF_CTRL_ENABLE = bitsOf v 0 1 := by
  simp only [Hub.reefCtrlWrite, Hub.writeLocked, hl, if_true]
  split <;> simp

theorem reefEnable_sets :
    ∀ (req : Path) (v : Word) (s : State),
    (Instr.reefEnable req v).wf = true →
    req.holdsBlocks = true →
    2 ≤ s.hub.level →
    ∃ t, exec (.reefEnable req v) s = .next t ∧ t.hub.get R.PWR_REEF_CTRL_ENABLE = 1 := by
  intro req v s hwf hp hl
  refine ⟨_, (by unfold exec; exact State.act_next hwf _ _), ?_⟩
  have odd : bitsOf (v ||| 1) 0 1 = 1 := by
    simp [bitsOf, Nat.or_mod_two_eq_one]
  rw [Hub.pfWrite, if_pos hp, Hub.reefCtrlWrite_enable _ _ _ hl, odd]

theorem reefDisable_clears :
    ∀ (req : Path) (v : Word) (s : State),
    (Instr.reefDisable req v).wf = true →
    req.holdsBlocks = true →
    2 ≤ s.hub.level →
    ∃ t, exec (.reefDisable req v) s = .next t ∧ t.hub.get R.PWR_REEF_CTRL_ENABLE = 0 := by
  intro req v s hwf hp hl
  refine ⟨_, (by unfold exec; exact State.act_next hwf _ _), ?_⟩
  have even : bitsOf (v &&& ~~~ 1) 0 1 = 0 := by
    have := Nat.and_mod_two_pow (a := v.toNat) (b := 4294967294) (n := 1)
    simpa [bitsOf] using this
  rw [Hub.pfWrite, if_pos hp, Hub.reefCtrlWrite_enable _ _ _ hl, even]

theorem reefDisable_below_level_two :
    ∀ (req : Path) (v : Word) (s : State),
    (Instr.reefDisable req v).wf = true →
    req.holdsBlocks = true →
    s.hub.level < 2 →
    ∃ t, exec (.reefDisable req v) s = .next t ∧ t.hub.get R.PWR_REEF_CTRL_ENABLE = s.hub.get R.PWR_REEF_CTRL_ENABLE := by
  intro req v s hwf hp hl
  refine ⟨_, (by unfold exec; exact State.act_next hwf _ _), ?_⟩
  simp only [Hub.pfWrite, Hub.reefCtrlWrite, Hub.writeLocked, hp, Nat.not_le.mpr hl, if_true, if_false]
  split <;> simp

/-- Power movement leaves what the sites' fast drop is read from. -/
theorem Hub.Alters.sitesFastDrop {P : List Part} {h g : Hub} (x : Hub.Alters P powerReg h g) :
    g.sitesFastDrop = h.sitesFastDrop := by
  unfold Hub.sitesFastDrop
  refine List.foldl_ext _ _ 0 fun a s hs => ?_
  have hs := List.mem_range.mp hs
  unfold Hub.siteFastDrop Hub.siteLive
  rw [x.get R.GLB_POP_SITE_LIVE (by simp [framed, logReg, evtReg, powerReg]),
    x.get (R.PWR_SITE_FIXCAP_CAP s) (by simp [framed, logReg, evtReg, powerReg]; omega),
    x.get (R.YDL_PEER_PWR_FASTDROP s) (by simp [framed, logReg, evtReg, powerReg]; omega),
    x.get (R.PWR_SITE_FIXCAP_FASTDROP s) (by simp [framed, logReg, evtReg, powerReg]; omega)]

/-- The tick shows the two exposures, and what follows moves domains, islands and the soak. -/
theorem Hub.reefTick_shows (pin hubAbove stack sensed known : Nat) (h : Hub) :
    ∃ k : Hub, k.sitesFastDrop = h.sitesFastDrop ∧
      Hub.Alters [.power] powerReg
        ((k.put R.PWR_EXPO_XSENSE (satNat 8 (stack + k.sitesFastDrop))).put R.PWR_EXPO_XTOT
          (satNat 8 (hubAbove + (stack + k.sitesFastDrop))))
        (h.reefTick pin hubAbove stack sensed known) := by
  have measured (c : Prop) {_ : Decidable c} (p : Nat) : Hub.Alters [.power] powerReg h
      (if c then (h.slewTick.put R.PWR_IN_STAT_PIN p).measureRise p else h.slewTick) :=
    branch (((Hub.alters_slewTick h).put _).trans (Hub.alters_measureRise ..)) (Hub.alters_slewTick h)
  have moved (k : Hub) (c : Prop) {_ : Decidable c} (p q : Nat) : Hub.Alters [.power] powerReg k
      (if c then ((k.confirmDrop p q).takeDrops known sensed).stopElement else k) :=
    branch (((Hub.alters_confirmDrop ..).trans (Hub.alters_takeDrops ..)).trans (Hub.alters_stopElement ..)) (self ..)
  refine ⟨if h.slewTick.inputSeen then (h.slewTick.put R.PWR_IN_STAT_PIN (h.estimate pin)).measureRise (h.estimate pin)
    else h.slewTick, (measured _ _).sitesFastDrop, ?_⟩
  unfold Hub.reefTick
  exact (((moved ..).trans (Hub.alters_admitOrRelease ..)).trans (Hub.alters_preramp ..)).upto _
    fun k hk _ => Hub.alters_tickIsland k _ hk

theorem reefTick_shows_exposures :
    ∀ (pin hubAbove stackTraffic sensedDrop knownDrop : Nat) (s : State),
    (Instr.reefTick pin hubAbove stackTraffic sensedDrop knownDrop).wf = true →
    ∃ t, exec (.reefTick pin hubAbove stackTraffic sensedDrop knownDrop) s = .next t ∧
      t.hub.get R.PWR_EXPO_XTOT = satNat 8 (hubAbove + (stackTraffic + s.hub.sitesFastDrop)) ∧
      t.hub.get R.PWR_EXPO_XSENSE = satNat 8 (stackTraffic + s.hub.sitesFastDrop) := by
  intro pin hubAbove stack sensed known s hwf
  refine ⟨_, (by unfold exec; exact State.act_next hwf _ _), ?_⟩
  obtain ⟨k, e, x⟩ := Hub.reefTick_shows pin hubAbove stack sensed known s.hub
  have ht := x.get R.PWR_EXPO_XTOT (by simp [framed, logReg, evtReg, powerReg])
  have hs := x.get R.PWR_EXPO_XSENSE (by simp [framed, logReg, evtReg, powerReg])
  rw [ht, hs, ← e]
  simp [satNat]

theorem droopTrip_stretches :
    ∀ (island sagMv : Nat) (s : State),
    (Instr.droopTrip island sagMv).wf = true →
    s.hub.get R.PWR_DROOP_TRIP_MV < sagMv →
    s.hub.domOn (domainOfIsland island) = true →
    s.hub.on (R.PWR_ISL_STRETCHED island) = false →
    s.hub.get (R.PWR_ISL_STRETCH_COUNT island) + 1 < 2 ^ (R.PWR_ISL_STRETCH_COUNT island).width →
    ∃ t, exec (.droopTrip island sagMv) s = .next t ∧ t.hub.get (R.PWR_ISL_STRETCHED island) = 1 ∧
      t.hub.get (R.PWR_ISL_STRETCH_COUNT island) = s.hub.get (R.PWR_ISL_STRETCH_COUNT island) + 1 := by
  intro island sagMv s hwf ht hd hn hc
  refine ⟨_, (by unfold exec; exact State.act_next hwf _ _), ?_⟩
  simp [Instr.wf, Ok.droopTrip] at hwf
  rw [if_pos ⟨ht, hd, by simpa using hn⟩]
  simp only [Hub.get_eq] at hc ⊢
  rw [Hub.countEvent_rget _ _ _ (by simp; omega), Hub.countEvent_rget _ _ _ (by simp; omega), Hub.bump_rget_ne _ _ _ _ (by simp),
    Hub.bump_rget_same _ _ _ (by simp) ?_]
  · simp
  · simpa using hc

theorem droopRelease_ends_stretch :
    ∀ (island sagMv : Nat) (s : State),
    (Instr.droopRelease island sagMv).wf = true →
    sagMv + 10 ≤ s.hub.get R.PWR_DROOP_TRIP_MV →
    ∃ t, exec (.droopRelease island sagMv) s = .next t ∧ t.hub.get (R.PWR_ISL_STRETCHED island) = 0
      ∧ t.hub.power = s.hub.power := by
  intro island sagMv s hwf hr
  refine ⟨_, (by unfold exec; exact State.act_next hwf _ _), ?_⟩
  rw [if_pos hr]
  simp

theorem Hub.each_downOne_waves (l : List Nat) (h : Hub) :
    (h.each l Hub.downOne).power.waves = h.power.waves ∧ (h.each l Hub.downOne).power.fall = h.power.fall :=
  Hub.each_rel (Rel := fun a b => b.power.waves = a.power.waves ∧ b.power.fall = a.power.fall) (fun _ => ⟨rfl, rfl⟩)
    (fun _ _ _ x y => ⟨y.1.trans x.1, y.2.trans x.2⟩)
    (fun n _ g => by unfold Hub.downOne; split_ifs <;> simp [Hub.setDom, Hub.setWant, Hub.setOwn, Hub.showPending]) h

theorem emergencyLowerWave_lowers :
    ∀ (w : List Nat) (ws : List (List Nat)) (s : State),
    s.hub.boot.pend ≠ 0 →
    s.hub.boot.zeroSent = true →
    s.hub.power.fall = 0 →
    s.hub.power.waves = w :: ws →
    ∃ t, exec .emergencyLowerWave s = .next t ∧ t.hub.power.waves = ws ∧ t.mem = s.mem ∧ t.hub.power.fall = w.foldl
      (fun a n => a + 100 * hoistStep n) 0 := by
  intro w ws s hp hz hf hw
  refine ⟨_, (by unfold exec; exact State.actMem_next rfl _ _), ?_⟩
  have next : (s.hub.onBoot fun b => { b with zeroSent := true, perst := false }).nextDown = w := by
    simp [Hub.nextDown, Hub.onBoot, hw]
  obtain ⟨waves, fall⟩ := Hub.each_downOne_waves w (s.hub.onBoot fun b => { b with zeroSent := true, perst := false })
  simp only [Chip.emergencyWave, hp, hz, if_true, if_false, next]
  rw [if_pos (.inl (by simpa [Hub.onBoot] using hf))]
  refine ⟨?_, rfl, ?_⟩
  · dsimp only
    rw [waves]
    simp [Hub.onBoot, hw]
  · dsimp only
    rw [fall]
    simp [Hub.onBoot, hf, waveMw]

theorem vholdReady_shows :
    ∀ (mv : Nat) (s : State),
    (Instr.vholdReady mv).wf = true →
    s.hub.power.charger = true →
    ∃ t, exec (.vholdReady mv) s = .next t ∧ t.hub.get R.PWR_HOLD_READY = b2n (decide (4800 < mv))
      ∧ t.hub.get R.PWR_HOLD_VHOLD = mv ∧
      t.hub.get R.YEW_STAT_LG_ARMED = b2n (decide (4800 < mv)) ∧ t.hub.power = s.hub.power := by
  intro mv s hwf hc
  refine ⟨_, (by unfold exec; exact State.act_next hwf _ _), ?_⟩
  simp [Instr.wf, Ok.vholdReady] at hwf
  simp_all [Hub.showHold]

/-- What a poll of other regulators leaves of regulator `n`: its address, and that it has answered. -/
def Hub.Answered (n : Nat) (w : List Nat) (h : Hub) : Prop :=
  nget h.power.missed n = 0 ∧ nget h.power.silent n = 0 ∧ (n, w) ∈ h.power.readings

def Hub.Polls (n : Nat) (w : List Nat) (h g : Hub) : Prop :=
  g.get (R.PWR_PMB_DEV_ADDR n) = h.get (R.PWR_PMB_DEV_ADDR n) ∧ (h.Answered n w → g.Answered n w)

theorem Store.mem_insert {α : Type} (l : List (Nat × α)) (k : Nat) (v : α) (e : Nat × α) :
    e ∈ Store.insert l k v ↔ e = (k, v) ∨ e ∈ l := by
  induction l with
  | nil => simp [Store.insert]
  | cons a l ih =>
    unfold Store.insert
    split
    · simp
    · simp only [List.mem_cons, ih]
      tauto

theorem Store.mem_erase_of_ne {α : Type} {l : List (Nat × α)} {k : Nat} {e : Nat × α} (he : e.1 ≠ k) (hl : e ∈ l) :
    e ∈ Store.erase l k := by
  induction l with
  | nil => cases hl
  | cons a l ih =>
    unfold Store.erase
    rcases List.mem_cons.mp hl with rfl | hl
    · rw [if_neg he]
      exact List.mem_cons_self
    · split
      · exact ih hl
      · exact List.mem_cons_of_mem _ (ih hl)

theorem Hub.each_pmbus (n : Nat) (l : List Nat) (h : Hub) : ∃ o, h.each l (fun c g => g.pmbus n c []) = { h with out := o } := by
  induction l generalizing h with
  | nil => exact ⟨h.out, rfl⟩
  | cons c l ih => obtain ⟨o, e⟩ := ih (h.pmbus n c []); exact ⟨o, e⟩

theorem Hub.pollRegulator_others (h : Hub) (answers : List (List Nat)) {j n : Nat} {w : List Nat} (hn : n < 16) (hj : j ≠ n) :
    Hub.Polls n w h (h.pollRegulator answers j) := by
  unfold Hub.pollRegulator Hub.clearFaults
  obtain ⟨o, e⟩ := Hub.each_pmbus j pollCmds h
  simp only [e]
  refine ⟨?_, fun ⟨hm, hs, hr⟩ => ?_⟩
  · have ho : 0x11010 + 4 * n ≠ 0x11050 := by omega
    have hw (k : Hub) (a b c d : Nat) : rget (k.warn a b c d).regs (R.PWR_PMB_DEV_ADDR n) = rget k.regs (R.PWR_PMB_DEV_ADDR n) :=
      Hub.warn_rget _ _ _ _ _ _ (by simp; omega)
    split_ifs <;> simp [Hub.pmbus, ho, hw]
  · unfold Hub.Answered
    split_ifs <;> simp [Hub.pmbus, nget_nset_ne, hj.symm, hm, hs, hr, Store.mem_insert, Store.mem_erase_of_ne]

theorem Hub.pollRegulator_answered (h : Hub) {answers : List (List Nat)} {n : Nat} (ha : h.get (R.PWR_PMB_DEV_ADDR n) ≠ 0)
    (hw : answers.getD n [] ≠ []) : (h.pollRegulator answers n).Answered n (answers.getD n []) := by
  unfold Hub.pollRegulator Hub.clearFaults
  obtain ⟨o, e⟩ := Hub.each_pmbus n pollCmds h
  simp only [e, if_neg ha, ne_eq, hw, not_false_eq_true, if_true]
  unfold Hub.Answered
  split <;> simp [Hub.pmbus, Store.mem_insert]

theorem pmbusPoll_answered :
    ∀ (answers : List (List Nat)) (n : Nat) (s : State),
    (Instr.pmbusPoll answers).wf = true →
    n < 16 →
    s.hub.get (R.PWR_PMB_DEV_ADDR n) ≠ 0 →
    answers.getD n [] ≠ [] →
    s.hub.pinsOut = false →
    ∃ t, exec (.pmbusPoll answers) s = .next t ∧ nget t.hub.power.missed n = 0 ∧ nget t.hub.power.silent n = 0 ∧
      (n, answers.getD n []) ∈ t.hub.power.readings := by
  intro answers n s hwf hn ha hw hp
  refine ⟨_, (by unfold exec; exact State.act_next hwf _ _), ?_⟩
  rw [if_neg (by simp [hp])]
  obtain ⟨g, ⟨dev, -⟩, -, kept⟩ := Hub.upto_around (Rel := Hub.Polls n (answers.getD n [])) (fun _ => ⟨rfl, fun h => h⟩)
    (fun _ _ _ x y => ⟨y.1.trans x.1, fun h => y.2 (x.2 h)⟩) hn (fun j _ hj g => Hub.pollRegulator_others g answers hn hj) s.hub
  exact kept (Hub.pollRegulator_answered g (by rw [dev]; exact ha) hw)

theorem voutCommand_moves :
    ∀ (up : Bool) (n : Nat) (s : State),
    (Instr.voutCommand up).wf = true →
    s.hub.coreRegulator = some n →
    2 ≤ s.hub.stage →
    650 ≤ (if up then s.hub.power.vdd + 5 else s.hub.power.vdd - 5) →
    (if up then s.hub.power.vdd + 5 else s.hub.power.vdd - 5) ≤ 750 →
    s.hub.power.vddAt + 10000 ≤ s.hub.clock →
    nget s.hub.power.missed n = 0 →
    ∃ t, exec (.voutCommand up) s = .next t ∧ t.hub.power.vdd = (if up then s.hub.power.vdd + 5 else s.hub.power.vdd - 5) ∧
      t.hub.out = (s.hub.pmbus n 0x21 (leBytes 2 (linear16 (if up then s.hub.power.vdd + 5 else s.hub.power.vdd - 5)))).out ∧
      t.hub.regs = s.hub.regs := by
  intro up n s hwf hc hs hl hu ht hm
  refine ⟨_, (by unfold exec; exact State.act_next hwf _ _), ?_⟩
  simp_all [Hub.voutStep, Hub.pmbus]

/-- Settles O21: one lemma per command's clause. -/
theorem covenantAndReefAnswers : Obligations.CovenantAndReefAnswers := by
  unfold Obligations.CovenantAndReefAnswers
  exact ⟨covSlewWrite_clamps, covStepWrite_limits, reefEnable_sets, reefDisable_clears, reefDisable_below_level_two,
    reefTick_shows_exposures, droopTrip_stretches, droopRelease_ends_stretch, emergencyLowerWave_lowers, vholdReady_shows,
    pmbusPoll_answered, voutCommand_moves⟩

end Sys2Proof.Machine
end

section
/-!
### Serial lanes in service

The word of the in-flight count lies over LANE_STAT of lane 4.
-/
namespace Sys2Proof.Machine

set_option Elab.async false

/-- Port 2 is up on lane 4, and its one running send belongs to a ring that does not exist. -/
def laneUnderStraySend : State :=
  stOf ((hubOf [(R.SER_PORT_CFG_EN 2, 1), (R.SER_PORT_CFG_FIRST 2, 4), (R.SER_PORT_CFG_WIDTH 2, 1), (R.SER_PORT_CFG_RATE 2, 2),
    (R.SER_PORT_STAT_STATE 2, 2), (R.PWR_DOM_STATE 61, 2), (R.SER_LANE_STAT_STATE 4, 7)]).withStraySend 2
    (R.SER_LANE_STAT_STATE 4).off)

theorem adaptRestart_of_stray_send :
    ∃ t, exec (.adaptRestart .pf 4) laneUnderStraySend = .next t ∧ t.hub.laneState 4 ≠ 5 := by
  refine ⟨_, (by unfold exec; exact State.act_next rfl _ _), ?_⟩
  decide +kernel

/-- Refutes O48: ADAPT_RESTART takes the port down and so ends its running send, whose count of descriptors in flight lies
over the lane's own state. -/
theorem not_lanesTuneAndMeasure : ¬ Obligations.LanesTuneAndMeasure := by
  unfold Obligations.LanesTuneAndMeasure
  rintro ⟨-, clause, -⟩
  obtain ⟨t, run, bad⟩ := adaptRestart_of_stray_send
  obtain ⟨u, run', good, -⟩ := clause .pf 4 2 laneUnderStraySend (by decide +kernel) (by decide +kernel) (by decide +kernel)
    (by decide +kernel) (by decide +kernel) (by decide +kernel) (by decide +kernel)
  obtain rfl : t = u := Host.Outcome.next.inj (run.symm.trans run')
  exact bad good

end Sys2Proof.Machine
end

section
/-!
### Power domains

The word of the in-flight count lies over PORT_STAT of port 2.
-/
namespace Sys2Proof.Machine

set_option Elab.async false

/-- Quad 1 falls; port 2 is up on its first lane, and the port's one running send belongs to a ring that does not exist. -/
def quadUnderStraySend : State :=
  stOf ((hubOf [(R.SER_PORT_CFG_EN 2, 1), (R.SER_PORT_CFG_FIRST 2, 4), (R.SER_PORT_CFG_WIDTH 2, 1), (R.SER_PORT_CFG_RATE 2, 2),
    (R.SER_PORT_STAT_STATE 2, 2), (R.PWR_DOM_STATE 61, 3), (R.SER_LANE_STAT_STATE 4, 7)]).withStraySend 2
    (R.SER_PORT_STAT_STATE 2).off)

theorem domainTransitionComplete_of_stray_send :
    ∃ t, exec (.domainTransitionComplete 61) quadUnderStraySend = .next t ∧ t.hub.portState 2 ≠ 3 := by
  refine ⟨_, (by unfold exec; exact State.act_next rfl _ _), ?_⟩
  decide +kernel

/-- Refutes O20: a falling quad takes its port down and so ends the port's running send, whose count of descriptors in flight
lies over the port's own state. -/
theorem not_powerDomainsFollowRequests : ¬ Obligations.PowerDomainsFollowRequests := by
  unfold Obligations.PowerDomainsFollowRequests
  rintro ⟨-, -, -, -, -, -, -, -, -, -, -, clause, -⟩
  obtain ⟨t, run, bad⟩ := domainTransitionComplete_of_stray_send
  obtain ⟨u, run', good, -⟩ := clause 61 2 quadUnderStraySend (by decide +kernel) (by decide +kernel) (by decide +kernel)
    (by decide +kernel) (by decide +kernel) (by decide +kernel) (by decide +kernel) (by decide +kernel) (by decide +kernel)
  obtain rfl : t = u := Host.Outcome.next.inj (run.symm.trans run')
  exact bad good

end Sys2Proof.Machine
end

section
/-!
### Waves of compute-site power

The word of the in-flight count lies over the site's own YDL_STAT.
-/
namespace Sys2Proof.Machine

set_option Elab.async false

/-- Site 2 is up with a wave under way, and its one call belongs to a ring that does not exist. -/
def waveUnderStrayCall : State :=
  stOf ({ hubOf [(R.GLB_RDY_STAGE, 8), (R.YDL_STAT_STATE 2, 2)] with
    boot := { BootS.reset with waves := [(2, { granted := 100, up := 0, busy := true, lastAt := 0 })] } }.withStrayCall 2
    (R.YDL_STAT_STATE 2).off)

theorem waveTimeout_of_stray_call :
    ∃ t, exec (.waveTimeout 2) waveUnderStrayCall = .next t ∧ t.hub.get (R.YDL_STAT_STATE 2) ≠ 4 := by
  refine ⟨_, (by unfold exec; exact State.actMem_next rfl _ _), ?_⟩
  decide +kernel

/-- Refutes O24: dropping a site ends its calls after its state is shown as dropped, and the stray call's count of descriptors in
flight lies over that state. -/
theorem not_memoryTestAndWavesRun : ¬ Obligations.MemoryTestAndWavesRun := by
  unfold Obligations.MemoryTestAndWavesRun
  rintro ⟨-, -, -, -, -, -, -, -, clause⟩
  obtain ⟨t, run, bad⟩ := waveTimeout_of_stray_call
  obtain ⟨u, run', good⟩ := clause 2 waveUnderStrayCall (by decide +kernel) (by decide +kernel) (by decide +kernel)
    (by decide +kernel) (by decide +kernel)
  obtain rfl : t = u := Host.Outcome.next.inj (run.symm.trans run')
  exact bad good

end Sys2Proof.Machine
end

section
/-!
### Firmware of the sites

The word of the in-flight count lies over the site's own YDL_STAT.
-/
namespace Sys2Proof.Machine

set_option Elab.async false

/-- Site 1 is up while S9 waits for the host, and its one call belongs to a ring that does not exist. -/
def fwWaitUnderStrayCall : State :=
  stOf ((hubOf [(R.BOOT_STAT_WAIT_HOST, 1), (R.YDL_STAT_STATE 1, 2)]).withStrayCall 1 (R.YDL_STAT_STATE 1).off)

theorem fwWaitTimeout_of_stray_call :
    ∃ t, exec (.fwWaitTimeout) fwWaitUnderStrayCall = .next t ∧ t.hub.get (R.YDL_STAT_STATE 1) ≠ 4 := by
  refine ⟨_, (by unfold exec; exact State.actMem_next rfl _ _), ?_⟩
  decide +kernel

/-- Refutes O25: dropping a site ends its calls after its state is shown as dropped, and the stray call's count of descriptors in
flight lies over that state. -/
theorem not_firmwareAndReadyRun : ¬ Obligations.FirmwareAndReadyRun := by
  unfold Obligations.FirmwareAndReadyRun
  rintro ⟨-, -, -, clause, -⟩
  obtain ⟨t, run, bad⟩ := fwWaitTimeout_of_stray_call
  obtain ⟨u, run', -, -, -, good⟩ := clause fwWaitUnderStrayCall (by decide +kernel)
  obtain rfl : t = u := Host.Outcome.next.inj (run.symm.trans run')
  exact bad (good 1 (by decide) (by decide +kernel) (by decide +kernel))

end Sys2Proof.Machine
end

section
/-!
### Host reads of the buffer

BAR4_READ's clause for the buffer does not ask that no decision of the directory is under way, as the non-caching clauses do. A
  read
that joins such a decision takes its turn behind the sites' requests for the same line (R185).
-/
namespace Sys2Proof.Machine

set_option Elab.async false

/-- Line 16389 is coherent and unowned, and site 1's RD_OWN of it stands in the decision under way. -/
def readBehindRdOwn : State :=
  stOf { hubOf [(R.GLB_RDY_READY, 1), (R.YDL_STAT_STATE 1, 2), (R.YDL_CREDIT_HELD 1 0, 20), (R.YDL_CREDIT_HELD 1 1, 20),
    (R.BUF_STAT_SITE_COH, 15), (R.MAP_COUNT_BANK, 16), (R.BUF_WIN0_BASE 0, 1), (R.BUF_WIN0_SIZE 0, 1),
      (R.BUF_WIN2_STATE 0, 2)] with
    dir := { Hub.reset.dir with chunks := [(2, 2)], gather := [(16389, { pos := 1, kind := 1, tag := 9, nc := 0 })] } }

theorem bar4Read_behind_rdOwn :
    ∃ t, exec (.bar4Read (64 * 16389) 8) readBehindRdOwn = .next t ∧ Out.completion 0 0 (readBehindRdOwn.mem.bytes 1
      (64 * 16389) 8) ∉ t.hub.out := by
  refine ⟨_, (by unfold exec; exact State.actMem_next rfl _ _), ?_⟩
  decide +kernel

/-- Refutes O29: the site's RD_OWN in the decision under way is served first, so the host's read waits for the line's recall and
is not answered yet. -/
theorem not_hostDataAndWindows : ¬ Obligations.HostDataAndWindows := by
  unfold Obligations.HostDataAndWindows
  rintro ⟨-, clause, -⟩
  obtain ⟨t, run, bad⟩ := bar4Read_behind_rdOwn
  obtain ⟨u, run', good, -⟩ := clause (64 * 16389) 8 (64 * 16389) readBehindRdOwn (by decide +kernel) (by decide +kernel)
    (by decide +kernel) (by decide +kernel) (by decide +kernel) (by decide +kernel)
  obtain rfl : t = u := Host.Outcome.next.inj (run.symm.trans run')
  exact bad good

end Sys2Proof.Machine
end

section
/-!
### Sites' cleat operations

A site's cleat number has 16 bits, and the clause of a denied operation does not bound it by the 4,096 cleats. CLT_VALUE of cleat
4,096 would stand at offset 0x128000: the word of CLT_STAT, which holds the DENIED count itself.
-/
namespace Sys2Proof.Machine

set_option Elab.async false

/-- Site 2 is up with credit, and no cleat is its own. -/
def siteWithoutCleats : State :=
  stOf (hubOf [(R.YDL_STAT_STATE 2, 2), (R.YDL_CREDIT_HELD 2 0, 20), (R.YDL_CREDIT_HELD 2 1, 20)])

theorem siteCltAdd_denied_changes_cltStat :
    ∃ t, exec (.siteCltAdd 2 9 4096 5) siteWithoutCleats = .next t ∧ t.hub.get (R.CLT_VALUE 4096) ≠ siteWithoutCleats.hub.get
      (R.CLT_VALUE 4096) := by
  refine ⟨_, (by unfold exec; exact State.actMem_next rfl _ _), ?_⟩
  decide +kernel

/-- Refutes O36: counting a denied operation on cleat 4,096 changes the word that cleat's value would have. -/
theorem not_sitesReachCleatsAndTime : ¬ Obligations.SitesReachCleatsAndTime := by
  unfold Obligations.SitesReachCleatsAndTime
  rintro ⟨-, -, -, -, -, -, clause, -⟩
  obtain ⟨t, run, bad⟩ := siteCltAdd_denied_changes_cltStat
  obtain ⟨u, run', good, -⟩ := clause 2 9 4096 5 siteWithoutCleats (by decide +kernel) (by decide +kernel) (by decide +kernel)
    (by decide +kernel) (by decide +kernel) (by decide +kernel) (by decide +kernel)
  obtain rfl : t = u := Host.Outcome.next.inj (run.symm.trans run')
  exact bad good

end Sys2Proof.Machine
end

section
/-!
### Recalls of the buffer directory

The word of the in-flight count lies over the site's own YDL_STAT.
-/
namespace Sys2Proof.Machine

set_option Elab.async false

/-- A recall of line 16389 awaits site 1, whose one call belongs to a ring that does not exist. -/
def recallUnderStrayCall : State :=
  stOf ({ hubOf [(R.YDL_STAT_STATE 1, 2), (R.BUF_STAT_SITE_COH, 15), (R.MAP_COUNT_BANK, 16), (R.BUF_WIN0_BASE 0, 1),
      (R.BUF_WIN0_SIZE 0, 1), (R.BUF_WIN2_STATE 0, 2)] with
    dir := { Hub.reset.dir with
      chunks := [(2, 2)]
      entries := [(32773, 33)]
      txns := [{ line := 16389, req := { pos := 2, kind := 1, tag := 4, nc := 0 }, await := 2, bare := false, queue :=
        [] }] } }.withStrayCall 1
    (R.YDL_STAT_STATE 1).off)

theorem recallTimeout_of_stray_call :
    ∃ t, exec (.recallTimeout 1 16389) recallUnderStrayCall = .next t ∧ t.hub.get (R.YDL_STAT_STATE 1) ≠ 4 := by
  refine ⟨_, (by unfold exec; exact State.actMem_next rfl _ _), ?_⟩
  decide +kernel

/-- Refutes O37: dropping a site ends its calls after its state is shown as dropped, and the stray call's count of descriptors in
flight lies over that state. -/
theorem not_directoryGrantsLines : ¬ Obligations.DirectoryGrantsLines := by
  unfold Obligations.DirectoryGrantsLines
  rintro ⟨-, -, -, -, -, -, -, -, -, clause⟩
  obtain ⟨t, run, bad⟩ := recallTimeout_of_stray_call
  obtain ⟨u, run', good, -⟩ := clause 1 16389 recallUnderStrayCall (by decide +kernel) (by decide +kernel) (by decide +kernel)
  obtain rfl : t = u := Host.Outcome.next.inj (run.symm.trans run')
  exact bad good

end Sys2Proof.Machine
end

section
/-!
### The last modules of a site's link

The word of the in-flight count lies over the site's own YDL_STAT.
-/
namespace Sys2Proof.Machine

set_option Elab.async false

/-- Site 2 is up on eight modules, and its one call belongs to a ring that does not exist. -/
def eightModulesUnderStrayCall : State :=
  stOf (((hubOf [(R.YDL_STAT_STATE 2, 2)]).withStrayCall 2 (R.YDL_STAT_STATE 2).off).onSite 2 fun x =>
    { x with setTx := List.range 8, setRx := List.range 8 })

theorem dropReq_of_stray_call :
    ∃ t, exec (.dropReq 2 1 0 77 1) eightModulesUnderStrayCall = .next t ∧ t.hub.get (R.YDL_STAT_STATE 2) ≠ 4 := by
  refine ⟨_, (by unfold exec; exact State.actMem_next rfl _ _), ?_⟩
  decide +kernel

/-- Refutes O42: dropping a site ends its calls after its state is shown as dropped, and the stray call's count of descriptors in
flight lies over that state. -/
theorem not_ydlModuleSetsChange : ¬ Obligations.YdlModuleSetsChange := by
  unfold Obligations.YdlModuleSetsChange
  rintro ⟨-, -, -, clause, -⟩
  obtain ⟨t, run, bad⟩ := dropReq_of_stray_call
  obtain ⟨u, run', good, -⟩ := clause 2 1 0 77 1 eightModulesUnderStrayCall (by decide +kernel) (by decide +kernel)
    (by decide +kernel) (by decide +kernel) (by decide +kernel) (by decide +kernel) (by decide +kernel)
  obtain rfl : t = u := Host.Outcome.next.inj (run.symm.trans run')
  exact bad good

end Sys2Proof.Machine
end

section
/-!
### Sideband answers that do not come

The word of the in-flight count lies over the site's own YDL_STAT.
-/
namespace Sys2Proof.Machine

set_option Elab.async false

/-- Site 3 owes an answer on its sideband, and its one call belongs to a ring that does not exist. -/
def sidebandUnderStrayCall : State :=
  stOf ((Hub.reset.withStrayCall 3 (R.YDL_STAT_STATE 3).off).onSite 3 fun x => { x with sbAwait := 5 })

theorem sidebandAnswerTimeout_of_stray_call :
    ∃ t, exec (.sidebandAnswerTimeout 3 5) sidebandUnderStrayCall = .next t ∧ t.hub.get (R.YDL_STAT_STATE 3) ≠ 4 := by
  refine ⟨_, (by unfold exec; exact State.actMem_next rfl _ _), ?_⟩
  decide +kernel

/-- Refutes O43: dropping a site ends its calls after its state is shown as dropped, and the stray call's count of descriptors in
flight lies over that state. -/
theorem not_sidebandAndLoopbackRun : ¬ Obligations.SidebandAndLoopbackRun := by
  unfold Obligations.SidebandAndLoopbackRun
  rintro ⟨-, -, -, -, -, clause, -⟩
  obtain ⟨t, run, bad⟩ := sidebandAnswerTimeout_of_stray_call
  obtain ⟨u, run', good, -⟩ := clause 3 5 sidebandUnderStrayCall (by decide +kernel) (by decide +kernel) (by decide +kernel)
    (by decide +kernel) (by decide +kernel)
  obtain rfl : t = u := Host.Outcome.next.inj (run.symm.trans run')
  exact bad good

end Sys2Proof.Machine
end

section
/-!
### A site's drop

The word of the in-flight count lies over the site's own YDL_STAT.
-/
namespace Sys2Proof.Machine

set_option Elab.async false

/-- Site 2 is up, and its one call belongs to a ring that does not exist. -/
def siteUnderStrayCall : State := stOf ((hubOf [(R.YDL_STAT_STATE 2, 2)]).withStrayCall 2 (R.YDL_STAT_STATE 2).off)

theorem siteDrop_of_stray_call :
    ∃ t, exec (.siteDrop 2 12) siteUnderStrayCall = .next t ∧ t.hub.get (R.YDL_STAT_STATE 2) ≠ 4 := by
  refine ⟨_, (by unfold exec; exact State.actMem_next rfl _ _), ?_⟩
  decide +kernel

/-- Refutes O44: a drop ends the site's calls after its state is shown as dropped, and the stray call's count of descriptors in
flight lies over that state. -/
theorem not_sitesComeUpAndDrop : ¬ Obligations.SitesComeUpAndDrop := by
  unfold Obligations.SitesComeUpAndDrop
  rintro ⟨-, -, -, -, -, -, -, -, -, -, -, -, -, clause⟩
  obtain ⟨t, run, bad⟩ := siteDrop_of_stray_call
  obtain ⟨u, run', good, -⟩ := clause 2 12 siteUnderStrayCall (by decide +kernel) (by decide +kernel)
  obtain rfl : t = u := Host.Outcome.next.inj (run.symm.trans run')
  exact bad good

end Sys2Proof.Machine
end

section
/-!
### A lane's loss of signal

The word of the in-flight count lies over the port's own SER_PORT_STAT.
-/
namespace Sys2Proof.Machine

set_option Elab.async false

/-- Port 2, Ethernet, up on lane 4; its one send belongs to a ring that does not exist. -/
def portUnderStraySend : State :=
  stOf ((hubOf [(R.SER_PORT_CFG_EN 2, 1), (R.SER_PORT_CFG_FIRST 2, 4), (R.SER_PORT_CFG_WIDTH 2, 1),
    (R.SER_PORT_CFG_RATE 2, 2), (R.SER_PORT_STAT_STATE 2, 2), (R.PWR_DOM_STATE 61, 2), (R.SER_LANE_STAT_STATE 4, 7),
    (R.SER_LANE_STAT_SIGNAL 4, 1)]).withStraySend 2 (R.SER_PORT_STAT_STATE 2).off)

theorem laneSignalLoss_of_stray_send :
    ∃ t, exec (.laneSignalLoss 4) portUnderStraySend = .next t ∧ t.hub.portState 2 ≠ 3 := by
  refine ⟨_, (by unfold exec; exact State.act_next rfl _ _), ?_⟩
  decide +kernel

/-- Refutes O47: a port going down ends its sends after its state is shown, and the stray send's count of descriptors in
flight lies over that state. -/
theorem not_portsAndLanesTrain : ¬ Obligations.PortsAndLanesTrain := by
  unfold Obligations.PortsAndLanesTrain
  rintro ⟨-, -, -, -, -, -, -, -, -, -, -, clause, -⟩
  obtain ⟨t, run, bad⟩ := laneSignalLoss_of_stray_send
  obtain ⟨u, run', -, -, -, good, -⟩ := clause 4 2 portUnderStraySend (by decide +kernel) (by decide +kernel)
    (by decide +kernel) (by decide +kernel) (by decide +kernel) (by decide +kernel)
  obtain rfl : t = u := Host.Outcome.next.inj (run.symm.trans run')
  exact bad good

end Sys2Proof.Machine
end

section
/-!
### Pins taken by the TAP

DISP_BND of a ring that does not exist lies over TEST_JTAG_STAT: its BND_OPEN is the fifth bit of IR.
-/
namespace Sys2Proof.Machine

set_option Elab.async false

/-- The ring whose DISP_BND would stand over TEST_JTAG_STAT. -/
def ringOverJtag : Nat := (R.TEST_JTAG_STAT_IR.off - (R.DISP_BND_OPEN 0).off) / 16

/-- At level 1 port 31 is up; its one send belongs to a ring that does not exist and has a BOUNDARY open with one more descriptor. -/
def extestOverStrayBoundary : State :=
  stOf (({ hubOf [(R.TEST_HEDGE_STAT_LEVEL, 1), (R.TEST_JTAG_STAT_IR, 1), (R.SER_PORT_STAT_STATE 31, 2)] with
    rings := [(ringOverJtag, { RingS.empty with
      descs := [{ descOf 0 [] with started := true }, descOf 1 []]
      bound := some { id := 2, fence := 0, regions := [], group := 0 } })] } : Hub).onPort 31 fun x =>
        { x with sends := [(ringOverJtag, 0)] })

/-- Its hub with EXTEST selected and the link down, before any port is taken down. -/
def extestWithoutLink : Hub :=
  let h := extestOverStrayBoundary.hub.put R.TEST_JTAG_STAT_IR 0
  { h with pcie := { h.pcie with linkUp := false } }

theorem Hub.upto_eq_self {n : Nat} {f : Nat → Hub → Hub} {h : Hub} (same : ∀ k < n, f k h = h) : h.upto n f = h := by
  induction n with
  | zero => rfl
  | succ n ih =>
    have before : h.upto n f = h := ih fun k hk => same k (by omega)
    calc h.upto (n + 1) f = f n (h.upto n f) := by simp [Hub.upto, List.range_succ]
      _ = h := by rw [before, same n (by omega)]

/-- Port 31 is the only port on, so it alone is taken down; its REASON is a free value. -/
theorem extest_takes_port_down :
    extestOverStrayBoundary.hub.setIr 0 = extestWithoutLink.drew.portLeave 31 3 (extestWithoutLink.free % 16) := by
  have taken : extestOverStrayBoundary.hub.setIr 0 = (extestOverStrayBoundary.hub.put R.TEST_JTAG_STAT_IR 0).removePins := by
    unfold Hub.setIr
    exact if_pos (by decide +kernel)
  have off : ∀ k < 31, extestWithoutLink.portOn k = false := by decide +kernel
  have on : extestWithoutLink.portOn 31 = true := by decide +kernel
  have below : extestWithoutLink.upto 31 (fun p g => if g.portOn p then g.drew.portLeave p 3 (g.free % 16) else g) =
      extestWithoutLink := Hub.upto_eq_self fun k hk => by simp [off k hk]
  calc extestOverStrayBoundary.hub.setIr 0
      = extestWithoutLink.upto (31 + 1) (fun p g => if g.portOn p then g.drew.portLeave p 3 (g.free % 16) else g) := taken
    _ = extestWithoutLink.drew.portLeave 31 3 (extestWithoutLink.free % 16) := by
      unfold Hub.upto at below ⊢
      rw [List.range_succ, List.foldl_append, below]
      simp [on]

theorem extest_of_stray_boundary :
    ∃ t, exec (.extest) extestOverStrayBoundary = .next t ∧ t.hub.get R.TEST_JTAG_STAT_IR ≠ 0 := by
  refine ⟨_, (by unfold exec; exact State.act_next rfl _ _), ?_⟩
  have any : ∀ r < 16, (extestWithoutLink.drew.portLeave 31 3 r).get R.TEST_JTAG_STAT_IR = 16 := by decide +kernel
  have level : 1 ≤ extestOverStrayBoundary.hub.level := by decide +kernel
  simp only [Hub.tapLoad, if_pos level, extest_takes_port_down]
  have sent (h : Hub) (o : Out) : (h.send o).get R.TEST_JTAG_STAT_IR = h.get R.TEST_JTAG_STAT_IR := rfl
  rw [sent, any _ (Nat.mod_lt _ (by decide))]
  decide

/-- Refutes O56: EXTEST takes every port down after it has stored its opcode; the send that ends there shows its ring's open BOUNDARY,
and that register lies over IR. -/
theorem not_tapDrivesPinsAndScan : ¬ Obligations.TapDrivesPinsAndScan := by
  unfold Obligations.TapDrivesPinsAndScan
  rintro ⟨clause, -⟩
  obtain ⟨t, run, bad⟩ := extest_of_stray_boundary
  obtain ⟨u, run', good, -⟩ := clause extestOverStrayBoundary (by decide +kernel) (by decide +kernel)
  obtain rfl : t = u := Host.Outcome.next.inj (run.symm.trans run')
  exact bad good

end Sys2Proof.Machine
end

section
/-!
### A cold reset with bad fuses

A cold reset begins stage S0, and a sense of the fuses that fails its CRC halts it with a record staged in the Yew log.
-/
namespace Sys2Proof.Machine

set_option Elab.async false

/-- The hub after a last gasp, PWRGOOD high, its fuses not passing their CRC. -/
def badFusesAfterLastGasp : State :=
  stOf { Hub.reset with
    pins := { Pins.reset with pwrgood := true, d0Reset := false }
    yew := { YewS.reset with lgInput := true }
    map := { Hub.reset.map with fuse := { Hub.reset.map.fuse with crcOk := false } } }

theorem d0Reset_of_bad_fuses :
    ∃ t, exec (.d0Reset 15 2 2) badFusesAfterLastGasp = .next t ∧ t.hub.yew.staged ≠ [] := by
  refine ⟨_, (by unfold exec; exact State.act_next rfl _ _), ?_⟩
  decide +kernel

/-- Refutes O58: a cold reset whose fuses fail their CRC halts in S0 and stages a record of it, so the staged records are not
empty. -/
theorem not_yewLogRuns : ¬ Obligations.YewLogRuns := by
  unfold Obligations.YewLogRuns
  rintro ⟨-, -, -, -, -, -, -, -, -, -, -, -, clause⟩
  obtain ⟨t, run, bad⟩ := d0Reset_of_bad_fuses
  obtain ⟨u, run', -, -, -, -, -, good⟩ := clause 15 2 2 badFusesAfterLastGasp (by decide +kernel) (by decide +kernel)
    (by decide +kernel) (by decide +kernel)
  obtain rfl : t = u := Host.Outcome.next.inj (run.symm.trans run')
  exact bad good

end Sys2Proof.Machine
end

section
/-!
### The Yew log's counters

What a record written to the Yew log does to its sequence number and to the history of escalations. Programming a block and the RAS
log leave both.
-/
namespace Sys2Proof.Machine

set_option Elab.async false

theorem nextSeq_ne (q : Nat) : nextSeq q ≠ q := by unfold nextSeq; split <;> omega

/-- `g` is `h` but for the RAS log, its vector and what was sent: the Yew log and its registers are the same. -/
structure Hub.SameYew (h g : Hub) : Prop where
  yew : g.yew = h.yew
  reg : ∀ a, 0xB00000 ≤ a → g.reg a = h.reg a

namespace Hub.SameYew

theorem refl (h : Hub) : Hub.SameYew h h := ⟨rfl, fun _ _ => rfl⟩

theorem trans {h g k : Hub} (x : Hub.SameYew h g) (y : Hub.SameYew g k) : Hub.SameYew h k :=
  ⟨y.yew.trans x.yew, fun a ha => (y.reg a ha).trans (x.reg a ha)⟩

theorem put {h g : Hub} (x : Hub.SameYew h g) (f : RF) (v : Nat) (hf : f.off < 0xB00000) : Hub.SameYew h (g.put f v) :=
  x.trans ⟨rfl, fun a ha => Hub.reg_put_ne g f v (by omega)⟩

theorem bump {h g : Hub} (x : Hub.SameYew h g) (f : RF) (n : Nat) (hf : f.off < 0xB00000) : Hub.SameYew h (g.bump f n) := by
  unfold Hub.bump
  split
  · exact x.put f _ hf
  · exact (x.put f _ hf).trans ⟨rfl, fun _ _ => rfl⟩

theorem sendVector {h g : Hub} (x : Hub.SameYew h g) (v : Nat) : Hub.SameYew h (g.sendVector 0 (v % 264)) := by
  unfold Hub.sendVector
  split
  · exact x
  · split
    · unfold Hub.setPending
      rw [if_pos rfl]
      exact x.put _ _ (by simp only; omega)
    · exact x.trans ⟨rfl, fun _ _ => rfl⟩

theorem rasIrq {h g : Hub} (x : Hub.SameYew h g) (sev : Nat) : Hub.SameYew h (g.rasIrq sev) := by
  unfold Hub.rasIrq
  extract_lets
  split
  · exact (x.sendVector _).trans ⟨rfl, fun _ _ => rfl⟩
  · exact x

theorem rasPush (h : Hub) (e : RasEntry) : Hub.SameYew h (h.rasPush e) := by
  have words (k : Nat) (hk : k < 1024) (ws : List Nat) : Hub.SameYew h (h.upto 8 fun j g => g.put (R.RAS_LOG_WORD k j) (ws.getD j 0)) :=
    Hub.upto_rel refl (fun _ _ _ => trans) (fun j hj g => (refl g).put _ _ (by simp only; omega)) h
  have prod : h.get R.RAS_LOG_PTR_PROD < 1024 := bitsOf_lt_of _ 0 10 (by decide)
  have counted {g : Hub} (x : Hub.SameYew h g) (c : Prop) [Decidable c] : Hub.SameYew h
      (if c then (g.put R.RAS_LOG_PTR_CONS ((g.get R.RAS_LOG_PTR_CONS + 1) % 1024)).bump R.RAS_LOG_STAT_LOST 1 else g) := by
    split
    · exact (x.put _ _ (by simp)).bump _ _ (by simp)
    · exact x
  unfold Hub.rasPush
  extract_lets k full ws g w r g1 g2 g3
  have filled : Hub.SameYew h g := words k prod ws
  clear_value g
  have kept : Hub.SameYew h g1 := filled.trans ⟨rfl, fun _ _ => rfl⟩
  exact (counted (kept.put _ _ (by simp)) _).rasIrq _

theorem rasWrite (h : Hub) (e : RasEntry) : Hub.SameYew h (h.rasWrite e) := by
  unfold Hub.rasWrite Hub.rasCountNewest
  split
  · exact (refl h).put _ _ (by simp only; omega)
  · exact Hub.SameYew.rasPush h e

end Hub.SameYew

/-- `g` is `h` but for the blocks of the Yew log and what points to them: the sequence number, the history of escalations and
the word that counts them are the same. -/
structure Hub.SameSeq (h g : Hub) : Prop where
  seq : g.yew.seq = h.yew.seq
  hist : g.yew.hist = h.yew.hist
  esc : g.reg 0xB00014 = h.reg 0xB00014

theorem Hub.SameSeq.trans {h g k : Hub} (x : Hub.SameSeq h g) (y : Hub.SameSeq g k) : Hub.SameSeq h k :=
  ⟨y.seq.trans x.seq, y.hist.trans x.hist, y.esc.trans x.esc⟩

theorem Hub.SameSeq.put {h g : Hub} (x : Hub.SameSeq h g) (f : RF) (v : Nat) (hf : f.off ≠ 0xB00014) :
    Hub.SameSeq h (g.put f v) :=
  x.trans ⟨rfl, rfl, Hub.reg_put_ne g f v hf.symm⟩

theorem Hub.SameSeq.programBlock (recs : List YewRec) (h : Hub) : Hub.SameSeq h (h.programBlock recs) := by
  have oldest {g : Hub} (x : Hub.SameSeq h g) : Hub.SameSeq h (match g.yew.blocks with
      | [] => g
      | e :: _ => match e.2.recs with
        | [] => g
        | r :: _ => g.put R.YEW_OLDEST_SEQ r.seq) := by
    split
    · exact x
    · split
      · exact x
      · exact x.put _ _ (by simp)
  have ras {g : Hub} (x : Hub.SameSeq h g) (e : RasEntry) : Hub.SameSeq h (g.rasWrite e) := by
    have y := Hub.SameYew.rasWrite g e
    exact x.trans ⟨congrArg YewS.seq y.yew, congrArg YewS.hist y.yew, y.reg _ (by decide)⟩
  unfold Hub.programBlock
  extract_lets n fires err y et mirrored g g1 g2
  have filled : Hub.SameSeq h g := ⟨rfl, rfl, rfl⟩
  clear_value g
  have lagged : Hub.SameSeq h g1 := filled.put _ _ (by simp)
  clear_value g1
  have kept : Hub.SameSeq h g2 := oldest lagged
  clear_value g2
  split
  · exact ras ((kept.put _ _ (by simp)).put _ _ (by simp)) _
  · exact kept

theorem Hub.SameSeq.flushStaged (h : Hub) : Hub.SameSeq h h.flushStaged := by
  have emptied : Hub.SameSeq h { h with yew := { h.yew with staged := [] } } := ⟨rfl, rfl, rfl⟩
  unfold Hub.flushStaged
  split
  · exact ⟨rfl, rfl, rfl⟩
  · exact emptied.trans (Hub.SameSeq.programBlock ..)

theorem Hub.lgSet_esc (cause sev : Nat) (h : Hub) : (h.lgSet cause sev).reg 0xB00014 = h.reg 0xB00014 := by
  unfold Hub.lgSet
  have first (y : YewS) (q : Nat) : ({ h with yew := y }.put R.YEW_SEQ q).reg 0xB00014 = h.reg 0xB00014 :=
    Hub.reg_put_ne _ _ _ (by simp)
  exact ((Hub.SameSeq.flushStaged _).esc.trans (Hub.SameSeq.programBlock _ _).esc).trans (first ..)

/-- A record with a token to take, or with none needed, is staged under the next sequence number. -/
theorem Hub.yewRecord_seq (type sev : Nat) (bypass : Bool) (p : List Byte) (h : Hub) (token : bypass = true ∨ h.yew.tokens ≠ 0) :
    (h.yewRecord type sev bypass p).yew.seq = nextSeq h.yew.seq ∧ (h.yewRecord type sev bypass p).yew.hist = h.yew.hist := by
  have staged (g : Hub) : (if 8 ≤ (g.yewStage type sev 0 p).yew.staged.length ∨ sev = 3 then (g.yewStage type sev 0 p).flushStaged
      else g.yewStage type sev 0 p).yew.seq = nextSeq g.yew.seq ∧ (if 8 ≤ (g.yewStage type sev 0 p).yew.staged.length ∨ sev = 3
      then (g.yewStage type sev 0 p).flushStaged else g.yewStage type sev 0 p).yew.hist = g.yew.hist := by
    split
    · exact ⟨(Hub.SameSeq.flushStaged (g.yewStage type sev 0 p)).seq, (Hub.SameSeq.flushStaged (g.yewStage type sev 0 p)).hist⟩
    · exact ⟨rfl, rfl⟩
  unfold Hub.yewRecord Hub.yewRecordWith
  cases bypass with
  | true => exact staged h
  | false =>
    rw [if_neg (by simpa using token)]
    exact staged _

theorem Hub.warn_seq (code cls detail unit : Nat) (h : Hub) (token : h.yew.tokens ≠ 0) :
    (h.warn code cls detail unit).yew.seq = nextSeq h.yew.seq ∧
      (h.warn code cls detail unit).yew.hist = (code :: h.yew.hist).take 4 :=
  Hub.yewRecord_seq 0x50 1 false _ (h.escNote code) (.inr token)

theorem Hub.get_of_reg {h g : Hub} {f : RF} (e : g.reg f.off = h.reg f.off) : g.get f = h.get f := by
  unfold Hub.get
  rw [e]

/-- What the last gasp of a FATAL event leaves: the pins but LG_N, and what ends the boot. -/
theorem Hub.lastGasp_of_fatal (h : Hub) : (h.lastGasp 3).pins = { h.pins with lgN := false } ∧ (h.lastGasp 3).boot = h.boot ∧
    (h.lastGasp 3).get R.YEW_ESC_FATALS = h.get R.YEW_ESC_FATALS := by
  have gasp (c : Prop) [Decidable c] (g : Hub) (pins : g.pins = { h.pins with lgN := false }) (boot : g.boot = h.boot)
      (regs : g.regs = h.regs) : (if c then g else g.lgSet 3 3).pins = { h.pins with lgN := false } ∧
      (if c then g else g.lgSet 3 3).boot = h.boot ∧
      (if c then g else g.lgSet 3 3).get R.YEW_ESC_FATALS = h.get R.YEW_ESC_FATALS := by
    split
    · exact ⟨pins, boot, by simp [regs]⟩
    · refine ⟨((Hub.alters_lgSet ..).pins (by simp)).trans pins, ((Hub.alters_lgSet ..).boot (by simp)).trans boot,
        Hub.get_of_reg ((Hub.lgSet_esc 3 3 g).trans (by simp [Hub.reg, regs]))⟩
  unfold Hub.lastGasp
  extract_lets recent input skip y p w g g1
  rw [if_neg (by simp [input])]
  exact gasp _ g rfl rfl rfl

/-- A FATAL event out of D0 reset: FATAL_N and LG_N fall, a cold end is pending, and it is counted. -/
theorem Hub.fatal_ends (code cls unit : Nat) (h : Hub) (up : h.pins.d0Reset = false) :
    (h.fatal code cls unit).pins.fatalN = false ∧ (h.fatal code cls unit).pins.lgN = false ∧
      (h.fatal code cls unit).boot.pend = 2 ∧
      (h.fatal code cls unit).get R.YEW_ESC_FATALS = (h.bump R.YEW_ESC_FATALS 1).get R.YEW_ESC_FATALS := by
  unfold Hub.fatal
  rw [if_neg (by simp [up])]
  extract_lets h1 h2 p b h3 h4
  obtain ⟨pins, boot, fatals⟩ := Hub.lastGasp_of_fatal h3
  have kept : h4.pins.fatalN = false ∧ h4.pins.lgN = false ∧ h4.boot.pend = 2 ∧
      h4.get R.YEW_ESC_FATALS = (h.bump R.YEW_ESC_FATALS 1).get R.YEW_ESC_FATALS := by
    refine ⟨?_, ?_, ?_, fatals.trans ?_⟩
    · rw [show h4 = h3.lastGasp 3 from rfl, pins]
    · rw [show h4 = h3.lastGasp 3 from rfl, pins]
    · rw [show h4 = h3.lastGasp 3 from rfl, boot]
    · exact Hub.get_put_ne _ _ _ _ (by simp)
  clear_value h4
  split
  · exact kept
  · obtain ⟨fatalN, lgN, pend, count⟩ := kept
    exact ⟨by rw [Hub.flushStaged_pins, fatalN], by rw [Hub.flushStaged_pins, lgN], by rw [Hub.flushStaged_boot, pend],
      (Hub.get_of_reg (Hub.SameSeq.flushStaged h4).esc).trans count⟩

end Sys2Proof.Machine
end

section
namespace Sys2Proof.Machine

set_option Elab.async false
open Hub.Alters

/-- A read of the mailbox's words where no word of the SRAMs is in error finds none and changes nothing. -/
theorem Hub.mastRead_of_clean (h : Hub) (clean : h.ras.sram = []) : h.mastRead = (true, h) := by
  have err (off : Nat) : h.sramErr off = 0 := by
    unfold Hub.sramErr
    split
    · rfl
    · rw [clean]; rfl
  have each (l : List Nat) : l.foldl (fun r i =>
      let q := Hub.sramCheck 0x3000 ((R.MAST_DATA 0).off + 8 * i) r.2
      (r.1 && q.1, q.2)) (true, h) = (true, h) := by
    induction l with
    | nil => rfl
    | cons i l ih =>
      have one (off : Nat) : h.sramCheck 0x3000 off = (true, h) := by
        unfold Hub.sramCheck
        rw [err]; rfl
      rw [List.foldl_cons]
      simpa only [one, Bool.and_self] using ih
  exact each _

/-- A mailbox command carried out on a clean mailbox, its length as it wants it. -/
theorem Hub.mastDo_of_clean {op : Nat} {len : Nat → Bool} {f : Hub → Hub} {h : Hub} (busy : h.on R.MAST_STAT_BUSY = true)
    (hop : h.mast.op = op) (unanswered : h.mast.answer = none) (idle : h.mast.mgmt = none) (up : 2 ≤ h.stage)
    (clean : h.ras.sram = []) (hlen : len h.mast.len = true) : h.mastDo op len f = f h := by
  unfold Hub.mastDo
  rw [if_pos ⟨busy, hop, unanswered, idle, up⟩]
  simp [Hub.mastRead_of_clean h clean, hlen]

theorem length_leBytes (n v : Nat) : (leBytes n v).length = n := by
  induction n generalizing v with
  | zero => rfl
  | succ n ih => simp [leBytes, ih]

theorem getEndpointId_answersTheEid :
    ∀ (s : State),
    s.hub.pins.d0Reset = false →
    ∃ t, exec .getEndpointId s = .next t ∧ t.hub = s.hub.send (.mctp 2 ([BitVec.ofNat 8 s.hub.yew.eid])) ∧ t.mem = s.mem := by
  intro s h1
  refine ⟨_, (by unfold exec; exact State.act_next rfl _ _), ?_⟩
  simp_all [Hub.mctp]

theorem setEndpointId_of1254Stores :
    ∀ (eid : Nat) (s : State),
    (Instr.setEndpointId eid).wf = true →
    s.hub.pins.d0Reset = false →
    eid ≠ 0 →
    eid ≠ 255 →
    ∃ t, exec (.setEndpointId eid) s = .next t ∧ t.hub.yew.eid = eid ∧ t.hub.out = Out.mctp 1
      [BitVec.ofNat 8 eid] :: s.hub.out ∧ t.hub.regs = s.hub.regs ∧ t.mem = s.mem := by
  intro eid s hwf h1 h2 h3
  refine ⟨_, (by unfold exec; exact State.act_next hwf _ _), ?_⟩
  simp [Instr.wf, Ok.setEndpointId] at hwf
  simp_all [Hub.mctp]

theorem getMctpVersionSupport_answersTheVersions :
    ∀ (s : State),
    s.hub.pins.d0Reset = false →
    ∃ t, exec .getMctpVersionSupport s = .next t ∧ t.hub = s.hub.send (.mctp 4 (Config.mctpVersions)) ∧ t.mem = s.mem := by
  intro s h1
  refine ⟨_, (by unfold exec; exact State.act_next rfl _ _), ?_⟩
  simp_all [Hub.mctp]

theorem getMessageTypeSupport_answers0x7e :
    ∀ (s : State),
    s.hub.pins.d0Reset = false →
    ∃ t, exec .getMessageTypeSupport s = .next t ∧ t.hub = s.hub.send (.mctp 5 ([0x7E])) ∧ t.mem = s.mem := by
  intro s h1
  refine ⟨_, (by unfold exec; exact State.act_next rfl _ _), ?_⟩
  simp_all [Hub.mctp]

theorem getVendorDefinedMessageSupport_answersTheVendor :
    ∀ (s : State),
    s.hub.pins.d0Reset = false →
    ∃ t, exec .getVendorDefinedMessageSupport s = .next t ∧ t.hub = s.hub.send (.mctp 6 (Config.mctpVendor)) ∧ t.mem = s.mem := by
  intro s h1
  refine ⟨_, (by unfold exec; exact State.act_next rfl _ _), ?_⟩
  simp_all [Hub.mctp]

theorem getInfo_answersOldestAnd :
    ∀ (s : State),
    s.hub.pins.d0Reset = false →
    ∃ t, exec .getInfo s = .next t ∧ t.hub = s.hub.send (.mctp 0x101 (leBytes 4 (s.hub.get R.YEW_OLDEST_SEQ) ++ leBytes 4
      (s.hub.get R.YEW_SEQ) ++ leBytes 4 (s.hub.reg 0xC).toNat ++
        [BitVec.ofNat 8 (s.hub.get R.TEST_HEDGE_STAT_LEVEL)] ++ leBytes 2 (s.hub.get R.YEW_ESC_FATALS))) ∧ t.mem = s.mem := by
  intro s h1
  refine ⟨_, (by unfold exec; exact State.act_next rfl _ _), ?_⟩
  simp_all [Hub.mctp]

theorem bmcRead_of1To :
    ∀ (seq count : Nat) (s : State),
    (Instr.bmcRead seq count).wf = true →
    s.hub.pins.d0Reset = false →
    1 ≤ count →
    count ≤ 8 →
    ∃ t, exec (.bmcRead seq count) s = .next t ∧ Out.mctp 0x102
      ((s.hub.readRecs count seq).1.flatMap YewRec.bytes) ∈ t.hub.out ∧ t.mem = s.mem := by
  intro seq count s hwf h1 h2 h3
  refine ⟨_, (by unfold exec; exact State.act_next hwf _ _), ?_⟩
  have up : (s.hub.readRecs count seq).2.pins.d0Reset = false := by
    rw [(Hub.alters_readRecs count seq s.hub).pins (by simp)]; exact h1
  simp [h1, h3, Hub.mctp, up]

theorem bmcState_answersAPiece :
    ∀ (piece : Nat) (s : State),
    (Instr.bmcState piece).wf = true →
    s.hub.pins.d0Reset = false →
    ∃ t, exec (.bmcState piece) s = .next t ∧ t.hub = s.hub.send (.mctp 0x103 (((Config.regionImage s.hub.yew.region.version
      (s.hub.yew.region.retires.map (fun (x : Retire) => (x.type, x.site, x.phys, x.cause))) s.hub.yew.region.ppr).drop
      (248 * piece)).take 248)) ∧ t.mem = s.mem := by
  intro piece s hwf h1
  refine ⟨_, (by unfold exec; exact State.act_next hwf _ _), ?_⟩
  simp [Instr.wf, Ok.bmcState] at hwf
  simp_all [Hub.mctp]

theorem mailboxComplete_showsTheResult :
    ∀ (r len : Nat) (bytes : List Byte) (s : State),
    s.hub.on R.MAST_STAT_BUSY = true →
    s.hub.mastResult = some (r, len, bytes) →
    r < 2 ^ (R.MAST_STAT_RESULT).width →
    len < 2 ^ (R.MAST_STAT_RLEN).width →
    ∃ t, exec .mailboxComplete s = .next t ∧ t.hub.get R.MAST_STAT_BUSY = 0 ∧ t.hub.get R.MAST_STAT_DONE = 1 ∧
      t.hub.get R.MAST_STAT_RESULT = r ∧ t.hub.get R.MAST_STAT_RLEN = len := by
  intro r len bytes s h1 h2 h3 h4
  refine ⟨_, (by unfold exec; exact State.act_next rfl _ _), ?_⟩
  dsimp only
  rw [if_neg (by simpa using h1), h2]
  dsimp only
  generalize shown : (((s.hub.put R.MAST_STAT_BUSY 0).put R.MAST_STAT_DONE 1).put R.MAST_STAT_RESULT r).put
    R.MAST_STAT_RLEN len = k
  have data (g : Hub) : Hub.Alters [.pcie] (within 0xC00100 0xC00200) g (g.upto 64 fun i g =>
      if 4 * i < bytes.length then g.put (R.MAST_DATA i) (leAt bytes (4 * i) 4) else g) :=
    (self ..).upto _ fun _ _ _ => branch ((self ..).put _) (self ..)
  have stat (g : Hub) (kept : Hub.Alters [.pcie] (within 0xC00100 0xC00200) k g) : g.get R.MAST_STAT_BUSY = 0 ∧
      g.get R.MAST_STAT_DONE = 1 ∧ g.get R.MAST_STAT_RESULT = r ∧ g.get R.MAST_STAT_RLEN = len := by
    rw [kept.get R.MAST_STAT_BUSY (by simp [framed, logReg, evtReg]),
      kept.get R.MAST_STAT_DONE (by simp [framed, logReg, evtReg]),
      kept.get R.MAST_STAT_RESULT (by simp [framed, logReg, evtReg]),
      kept.get R.MAST_STAT_RLEN (by simp [framed, logReg, evtReg]), ← shown]
    simp at h3 h4
    simp [Nat.mod_eq_of_lt h3, Nat.mod_eq_of_lt h4]
  split
  · exact stat _ (data k).sendVector
  · exact stat _ (data k)

theorem getVersion_answersVersionSlot :
    ∀ (s : State),
    s.hub.on R.MAST_STAT_BUSY = true →
    s.hub.mast.op = 0x01 →
    s.hub.mast.answer = none →
    s.hub.mast.mgmt = none →
    2 ≤ s.hub.stage →
    s.hub.ras.sram = [] →
    s.hub.mast.len = 0 →
    ∃ t, exec .getVersion s = .next t ∧ t.hub.mast.answer = some (0, 6, [BitVec.ofNat 8
      (s.hub.boot.version / 2 ^ 24), BitVec.ofNat 8 (s.hub.boot.version / 2 ^ 16)] ++
        leBytes 2 s.hub.boot.version ++ [BitVec.ofNat 8 s.hub.boot.slot, BitVec.ofNat 8 s.hub.yew.rollback]) := by
  intro s h1 h2 h3 h4 h5 h6 h7
  refine ⟨_, (by unfold exec; exact State.act_next rfl _ _), ?_⟩
  rw [Hub.mastDo_of_clean h1 h2 h3 h4 h5 h6 (by simpa using h7)]
  simp [Hub.mastAnswer, length_leBytes]

/-- Stores the bytes of a list from an offset on. -/
def storeFrom (off : Nat) (l : List (Nat × Byte)) (bs : List (Byte × Nat)) : List (Nat × Byte) :=
  bs.foldl (fun l e => Store.set (fun _ => (0 : Byte)) l (off + e.2) e.1) l

theorem get_storeFrom_before (off k j : Nat) (l : List (Nat × Byte)) (bs : List Byte) (hk : k < j) :
    Store.get (fun _ => (0 : Byte)) (storeFrom off l (bs.zipIdx j)) (off + k) = Store.get (fun _ => (0 : Byte)) l (off + k) := by
  induction bs generalizing l j with
  | nil => rfl
  | cons b bs ih =>
    rw [List.zipIdx_cons]
    exact (ih (j + 1) _ (by omega)).trans (Store.get_set_ne _ _ _ (by simp; omega))

theorem get_storeFrom_head (off : Nat) (l : List (Nat × Byte)) (b : Byte) (bs : List Byte) :
    Store.get (fun _ => (0 : Byte)) (storeFrom off l ((b :: bs).zipIdx 0)) off = b := by
  rw [List.zipIdx_cons]
  exact (get_storeFrom_before off 0 1 _ bs (by omega)).trans (Store.get_set_same _ _ _ _)

theorem length_mastData (h : Hub) : h.mastData.length = 256 := by
  simp [Hub.mastData, length_leBytes]

/-- The first byte that IMAGE_STAGE stores. -/
theorem mastData_stage (h : Hub) {n : Nat} (hn : 1 ≤ n) :
    ∃ bs, (h.mastData.drop 4).take n = h.mastData.getD 4 0 :: bs := by
  have long := length_mastData h
  obtain ⟨m, rfl⟩ : ∃ m, n = m + 1 := ⟨n - 1, by omega⟩
  refine ⟨(h.mastData.drop 5).take m, ?_⟩
  rw [List.drop_eq_getElem_cons (by omega), List.take_succ_cons, List.getD_eq_getElem _ _ (by omega)]

theorem imageStage_withinTheSlot :
    ∀ (s : State),
    s.hub.on R.MAST_STAT_BUSY = true →
    s.hub.mast.op = 0x40 →
    s.hub.mast.answer = none →
    s.hub.mast.mgmt = none →
    2 ≤ s.hub.stage →
    s.hub.ras.sram = [] →
    5 ≤ s.hub.mast.len →
    s.hub.mast.len ≤ 252 →
    leAt s.hub.mastData 0 4 % 4 = 0 →
    leAt s.hub.mastData 0 4 + (s.hub.mast.len - 4) ≤ 0x80000 →
    ∃ t, exec .imageStage s = .next t ∧ t.hub.mast.answer = some (0, 0, []) ∧
      Store.get (fun _ => (0 : Byte)) t.hub.yew.imgBytes (leAt s.hub.mastData 0 4) = s.hub.mastData.getD 4 0 := by
  intro s h1 h2 h3 h4 h5 h6 h7 h8 h9 h10
  refine ⟨_, (by unfold exec; exact State.act_next rfl _ _), ?_⟩
  rw [Hub.mastDo_of_clean h1 h2 h3 h4 h5 h6 (by simp [h7, h8])]
  dsimp only
  rw [if_neg (by omega)]
  obtain ⟨bs, first⟩ := mastData_stage s.hub (n := s.hub.mast.len - 4) (by omega)
  exact ⟨rfl, by rw [first]; exact get_storeFrom_head ..⟩

theorem pprList_answersTheQueued :
    ∀ (s : State),
    s.hub.on R.MAST_STAT_BUSY = true →
    s.hub.mast.op = 0x21 →
    s.hub.mast.answer = none →
    s.hub.mast.mgmt = none →
    2 ≤ s.hub.stage →
    s.hub.ras.sram = [] →
    s.hub.mast.len = 0 →
    ∃ t, exec .pprList s = .next t ∧ t.hub.mast.answer = some (0, 1 + 8 * s.hub.yew.region.ppr.length,
        BitVec.ofNat 8 s.hub.yew.region.ppr.length :: s.hub.yew.region.ppr.flatMap (leBytes 8)) := by
  intro s h1 h2 h3 h4 h5 h6 h7
  refine ⟨_, (by unfold exec; exact State.act_next rfl _ _), ?_⟩
  rw [Hub.mastDo_of_clean h1 h2 h3 h4 h5 h6 (by simpa using h7)]
  simp [Hub.mastAnswer, length_leBytes, Nat.add_comm, Nat.mul_comm]

theorem siteMgmtRd_ofAnAble :
    ∀ (s : State),
    s.hub.on R.MAST_STAT_BUSY = true →
    s.hub.mast.op = 0x30 →
    s.hub.mast.answer = none →
    s.hub.mast.mgmt = none →
    2 ≤ s.hub.stage →
    s.hub.ras.sram = [] →
    s.hub.mast.len = 3 →
    leAt s.hub.mastData 0 1 < 4 →
    s.hub.mgmtAble (leAt s.hub.mastData 0 1) = true →
    ∃ t, exec .siteMgmtRd s = .next t ∧ t.hub.mast.mgmt = some (leAt s.hub.mastData 0 1) ∧ t.hub.mast.answer = none := by
  intro s h1 h2 h3 h4 h5 h6 h7 h8 h9
  refine ⟨_, (by unfold exec; exact State.act_next rfl _ _), ?_⟩
  rw [Hub.mastDo_of_clean h1 h2 h3 h4 h5 h6 (by simpa using h7)]
  dsimp only
  rw [if_neg (by omega), if_neg (by simp [h9]), (Hub.alters_sbSend ..).mast (by simp)]
  exact ⟨rfl, h3⟩

theorem yewMark_withAToken :
    ∀ (s : State),
    s.hub.on R.MAST_STAT_BUSY = true →
    s.hub.mast.op = 0x10 →
    s.hub.mast.answer = none →
    s.hub.mast.mgmt = none →
    2 ≤ s.hub.stage →
    s.hub.ras.sram = [] →
    s.hub.mast.len = 40 →
    s.hub.yew.tokens ≠ 0 →
    ∃ t, exec .yewMark s = .next t ∧ t.hub.mast.answer = some (0, 4, leBytes 4 s.hub.yew.seq) := by
  intro s h1 h2 h3 h4 h5 h6 h7 h8
  refine ⟨_, (by unfold exec; exact State.act_next rfl _ _), ?_⟩
  rw [Hub.mastDo_of_clean h1 h2 h3 h4 h5 h6 (by simpa using h7)]
  have marked := (Hub.yewRecord_seq 0x80 0 false (s.hub.mastData.take 40) s.hub (.inr h8)).1
  simp [marked, nextSeq_ne, Hub.mastAnswer, length_leBytes]

theorem yewRead_of1To :
    ∀ (k : Nat) (s : State),
    s.hub.on R.MAST_STAT_BUSY = true →
    s.hub.mast.op = 0x11 →
    s.hub.mast.answer = none →
    s.hub.mast.mgmt = none →
    2 ≤ s.hub.stage →
    s.hub.ras.sram = [] →
    s.hub.mast.len = 5 →
    k = leAt s.hub.mastData 4 1 →
    1 ≤ k →
    k ≤ 3 →
    ∃ t, exec .yewRead s = .next t ∧ t.hub.mast.answer = some (0, (((s.hub.readRecs k
      (leAt s.hub.mastData 0 4)).1.flatMap YewRec.bytes)).length,
        (s.hub.readRecs k (leAt s.hub.mastData 0 4)).1.flatMap YewRec.bytes) := by
  intro k s h1 h2 h3 h4 h5 h6 h7 h8 h9 h10
  refine ⟨_, (by unfold exec; exact State.act_next rfl _ _), ?_⟩
  rw [Hub.mastDo_of_clean h1 h2 h3 h4 h5 h6 (by simpa using h7)]
  subst h8
  simp [Nat.pos_iff_ne_zero.1 h9, Nat.not_lt.2 h10, Hub.mastAnswer]

/-- Settles O59: one lemma per clause. -/
theorem managementAndMailboxAnswer : Obligations.ManagementAndMailboxAnswer := by
  unfold Obligations.ManagementAndMailboxAnswer
  exact ⟨getEndpointId_answersTheEid, setEndpointId_of1254Stores, getMctpVersionSupport_answersTheVersions,
    getMessageTypeSupport_answers0x7e, getVendorDefinedMessageSupport_answersTheVendor, getInfo_answersOldestAnd,
    bmcRead_of1To, bmcState_answersAPiece, mailboxComplete_showsTheResult, getVersion_answersVersionSlot,
    imageStage_withinTheSlot, pprList_answersTheQueued, siteMgmtRd_ofAnAble, yewMark_withAToken, yewRead_of1To⟩

end Sys2Proof.Machine
end

section
/-!
### The crew's time messages
-/
namespace Sys2Proof.Machine

set_option Elab.async false
open Hub.Alters

theorem Hub.crewPort_onCrewPort_same (p : Nat) (f : CrewPort → CrewPort) (h : Hub) :
    (h.onCrewPort p f).crewPort p = f (h.crewPort p) := Store.get_set_same ..

/-- `g` is `h` with messages sent and other crew ports than `p` changed. -/
structure Hub.CrewSent (p : Nat) (h g : Hub) : Prop where
  regs : g.regs = h.regs
  sent : ∀ o ∈ h.out, o ∈ g.out
  port : g.crewPort p = h.crewPort p
  seq : g.crew.syncSeq = h.crew.syncSeq

theorem Hub.CrewSent.refl (p : Nat) (h : Hub) : Hub.CrewSent p h h := ⟨rfl, fun _ x => x, rfl, rfl⟩

theorem Hub.CrewSent.trans {p : Nat} (a b c : Hub) (x : Hub.CrewSent p a b) (y : Hub.CrewSent p b c) : Hub.CrewSent p a c :=
  ⟨y.regs.trans x.regs, fun o ho => y.sent o (x.sent o ho), y.port.trans x.port, y.seq.trans x.seq⟩

theorem Hub.get_of_regs {h g : Hub} (e : g.regs = h.regs) (f : RF) : g.get f = h.get f := by simp [e]

theorem Hub.peerId_of_regs {h g : Hub} (e : g.regs = h.regs) (p : Nat) : g.peerId p = h.peerId p := by
  unfold Hub.peerId Hub.on
  simp only [Hub.get_of_regs e]

/-- A change of the crew's own state sends at most a vector. -/
theorem Hub.alters_crewIrq (f : Hub → Hub) (h : Hub) : Hub.Alters [.pcie] (those []) (f h) (h.crewIrq f) := by
  unfold Hub.crewIrq
  exact branch (self ..).sendVector (self ..)

/-- An offset within 10 µs is slewed out; TRUSTED falls beyond 1 µs and rises with the eighth Sync within 250 ns. -/
theorem Hub.judgeOffset_of_slew (off : Int) (h : Hub) (small : off.natAbs ≤ 250) :
    (h.judgeOffset off).get R.TIME_STAT_TRUSTED = (if h.crew.good + 1 < 8 then h.get R.TIME_STAT_TRUSTED else 1) ∧
      (h.judgeOffset off).crew.good = min 8 (h.crew.good + 1) ∧ (h.judgeOffset off).time.slew = -off := by
  have near : ¬ 10000 < off.natAbs := by omega
  have trusted : ¬ 1000 < off.natAbs := by omega
  have eighth : min 8 (h.crew.good + 1) = 8 ↔ ¬ h.crew.good + 1 < 8 := by omega
  unfold Hub.judgeOffset
  simp only [near, trusted, small, decide_false, Bool.and_false, Bool.false_and, Bool.false_eq_true, if_false, if_true]
  split <;> simp_all [Hub.servo]

/-- Stepping hub time or slewing it leaves TRUSTED, CREW_OFFSET and the crew's state. -/
theorem Hub.moveTime_leaves (c : Prop) [Decidable c] (t : Nat) (off : Int) (h : Hub) :
    (if c then h.stepTime t else h.servo off).get R.TIME_STAT_TRUSTED = h.get R.TIME_STAT_TRUSTED ∧
      (if c then h.stepTime t else h.servo off).get R.CREW_OFFSET = h.get R.CREW_OFFSET ∧
      (if c then h.stepTime t else h.servo off).crew = h.crew := by
  split <;> simp [Hub.stepTime, Hub.servo]

/-- So does a muster under the same leader, but for the state of its disciplining. -/
theorem Hub.remuster_leaves (c : Prop) [Decidable c] (h : Hub) :
    (if c then h.remuster false else { h with crew := { h.crew with first := false } }).get R.TIME_STAT_TRUSTED =
        h.get R.TIME_STAT_TRUSTED ∧
      (if c then h.remuster false else { h with crew := { h.crew with first := false } }).get R.CREW_OFFSET =
        h.get R.CREW_OFFSET ∧
      (if c then h.remuster false else { h with crew := { h.crew with first := false } }).crew.ports = h.crew.ports := by
  split <;> simp [Hub.remuster]

theorem Hub.judgeOffset_distrusts (off : Int) (h : Hub) (far : 1000 < off.natAbs) :
    (h.judgeOffset off).get R.TIME_STAT_TRUSTED = 0 := by
  unfold Hub.judgeOffset
  extract_lets h1 big stepping h2 good h3 h4 h5
  have distrusted : h2.get R.TIME_STAT_TRUSTED = 0 := by
    dsimp only [h2]
    rw [if_pos far]
    simp
  have few : ¬ good = 8 := by
    dsimp only [good]
    rw [if_neg (show ¬ off.natAbs ≤ 250 by omega)]
    split <;> omega
  rw [if_neg few]
  exact ((Hub.remuster_leaves _ h3).1.trans (Hub.moveTime_leaves _ _ off h2).1).trans distrusted

theorem Hub.judgeOffset_leaves (off : Int) (h : Hub) :
    (h.judgeOffset off).get R.CREW_OFFSET = sat32 off ∧ (h.judgeOffset off).crew.ports = h.crew.ports := by
  unfold Hub.judgeOffset
  extract_lets h1 big stepping h2 good h3 h4 h5
  have stored : h2.get R.CREW_OFFSET = sat32 off ∧ h2.crew = h.crew := by
    have narrow : sat32 off < 4294967296 := by unfold sat32 unsigned; omega
    dsimp only [h2]
    split <;> simp [h1, narrow]
  obtain ⟨_, offset, crew⟩ := Hub.moveTime_leaves (stepping = true) ((h2.now : Int) - off + 2 ^ 64).toNat off h2
  have kept : h5.get R.CREW_OFFSET = sat32 off ∧ h5.crew.ports = h.crew.ports :=
    ⟨((Hub.remuster_leaves _ h3).2.1.trans offset).trans stored.1,
      ((Hub.remuster_leaves _ h3).2.2.trans (congrArg CrewS.ports crew)).trans (congrArg CrewS.ports stored.2)⟩
  clear_value h5
  split
  · simpa using kept
  · exact kept

theorem pdelayReq_isAnsweredWith :
    ∀ (p seq : Nat) (s : State),
    (Instr.pdelayReq p seq).wf = true →
    s.hub.joined p = true →
    ∃ t, exec (.pdelayReq p seq) s = .next t ∧ Out.frame p 4 [s.hub.get R.CREW_CTRL_ID, s.hub.peerId p, 3, seq, s.hub.stamp]
      [] ∈ t.hub.out ∧
      Out.frame p 4 [s.hub.get R.CREW_CTRL_ID, s.hub.peerId p, 0xA, seq, s.hub.drew.stamp] [] ∈ t.hub.out
        ∧ t.hub.regs = s.hub.regs ∧ t.mem = s.mem := by
  intro p seq s hwf h1
  refine ⟨_, (by unfold exec; exact State.act_next hwf _ _), ?_⟩
  dsimp only
  rw [if_pos h1]
  exact ⟨List.mem_cons_of_mem _ (List.mem_cons_self ..), List.mem_cons_self .., rfl, rfl⟩

theorem pdelayReqSend_sendsTheNext :
    ∀ (p : Nat) (s : State),
    p < 32 →
    s.hub.joined p = true →
    ∃ t, exec .pdelayReqSend s = .next t ∧ Out.frame p 4 [s.hub.get R.CREW_CTRL_ID, s.hub.peerId p, 2,
      (((s.hub.crewPort p).pdSeq + 1) % 65536), 0] [] ∈ t.hub.out ∧
      (t.hub.crewPort p).pdSeq = ((s.hub.crewPort p).pdSeq + 1) % 65536 ∧ (t.hub.crewPort p).pdT2 = none
        ∧ t.hub.regs = s.hub.regs ∧ t.mem = s.mem := by
  intro p s h1 h2
  refine ⟨_, (by unfold exec; exact State.act_next rfl _ _), ?_⟩
  have others (j : Nat) (_ : j < 32) (hj : j ≠ p) (g : Hub) : Hub.CrewSent p g (if g.joined j then
      let q := ((g.crewPort j).pdSeq + 1) % 2 ^ 16
      ((g.onCrewPort j fun x => { x with pdSeq := q, pdT1 := g.stamp, pdT2 := none }).drew).sendTime j 2 q 0 else g) := by
    split
    · exact ⟨rfl, fun o ho => List.mem_cons_of_mem _ ho, Store.get_set_ne _ _ _ hj.symm, rfl⟩
    · exact Hub.CrewSent.refl p g
  obtain ⟨g, before, after⟩ := Hub.upto_around (Hub.CrewSent.refl p) Hub.CrewSent.trans h1 others s.hub
  have joined : g.joined p = true := by unfold Hub.joined; rw [Hub.get_of_regs before.regs]; exact h2
  rw [if_pos joined] at after
  have own : Out.frame p 4 [s.hub.get R.CREW_CTRL_ID, s.hub.peerId p, 2, (((s.hub.crewPort p).pdSeq + 1) % 65536), 0] [] =
      Out.frame p 4 [g.get R.CREW_CTRL_ID, g.peerId p, 2, (((g.crewPort p).pdSeq + 1) % 65536), 0] [] := by
    rw [Hub.get_of_regs before.regs, Hub.peerId_of_regs before.regs, before.port]
  rw [own, after.port, ← before.port]
  exact ⟨after.sent _ (List.mem_cons_self ..), congrArg CrewPort.pdSeq (Store.get_set_same ..),
    congrArg CrewPort.pdT2 (Store.get_set_same ..), after.regs.trans before.regs, rfl⟩

theorem pdelayResp_ofTheLast :
    ∀ (p seq t2 : Nat) (s : State),
    (Instr.pdelayResp p seq t2).wf = true →
    s.hub.joined p = true →
    (s.hub.crewPort p).pdSeq = seq →
    ∃ t, exec (.pdelayResp p seq t2) s = .next t ∧ (t.hub.crewPort p).pdT2 = some (t2, s.hub.stamp) ∧ t.hub.regs = s.hub.regs
      ∧ t.mem = s.mem := by
  intro p seq t2 s hwf h1 h2
  refine ⟨_, (by unfold exec; exact State.act_next hwf _ _), ?_⟩
  dsimp only
  rw [if_pos ⟨h1, h2⟩]
  exact ⟨congrArg CrewPort.pdT2 (Store.get_set_same ..), rfl, rfl⟩

theorem pdelayRespFollowUp_storesTheLink :
    ∀ (p seq t3 t2 t4 : Nat) (s : State),
    (Instr.pdelayRespFollowUp p seq t3).wf = true →
    (s.hub.crewPort p).pdT2 = some (t2, t4) →
    s.hub.joined p = true →
    (s.hub.crewPort p).pdSeq = seq →
    ∃ t, exec (.pdelayRespFollowUp p seq t3) s = .next t ∧ (t.hub.crewPort p).delay = (((t4 : Int) - ((s.hub.crewPort p).pdT1
      : Int)) - ((t3 : Int) - (t2 : Int))) * 500 ∧
      (t.hub.crewPort p).pdT2 = none ∧ t.hub.regs = s.hub.regs ∧ t.mem = s.mem := by
  intro p seq t3 t2 t4 s hwf h1 h2 h3
  refine ⟨_, (by unfold exec; exact State.act_next hwf _ _), ?_⟩
  dsimp only
  rw [h1]
  dsimp only
  rw [if_pos ⟨h2, h3⟩, Hub.crewPort_onCrewPort_same]
  exact ⟨rfl, rfl, rfl, rfl⟩

theorem sync_onTheUp :
    ∀ (p seq : Nat) (s : State),
    (Instr.sync p seq).wf = true →
    s.hub.get (R.CREW_PORT_ROLE p) = 1 →
    ∃ t, exec (.sync p seq) s = .next t ∧ (t.hub.crewPort p).syncAt = some (seq, s.hub.stamp) ∧ t.hub.crew.fresh = true
      ∧ t.hub.regs = s.hub.regs ∧ t.mem = s.mem := by
  intro p seq s hwf h1
  refine ⟨_, (by unfold exec; exact State.act_next hwf _ _), ?_⟩
  dsimp only
  rw [if_pos h1]
  exact ⟨congrArg CrewPort.syncAt (Store.get_set_same ..), rfl, rfl, rfl⟩

theorem sync_elsewhereCountsBadtime :
    ∀ (p seq : Nat) (s : State),
    (Instr.sync p seq).wf = true →
    s.hub.get (R.CREW_PORT_ROLE p) ≠ 1 →
    s.hub.get (R.CREW_EVT_BADTIME) + 1 < 2 ^ (R.CREW_EVT_BADTIME).width →
    ∃ t, exec (.sync p seq) s = .next t ∧ t.hub.get R.CREW_EVT_BADTIME = s.hub.get R.CREW_EVT_BADTIME + 1
      ∧ t.hub.crew = s.hub.crew ∧ t.mem = s.mem := by
  intro p seq s hwf h1 h2
  refine ⟨_, (by unfold exec; exact State.act_next hwf _ _), ?_⟩
  simp [Instr.wf, Ok.sync] at hwf
  simp_all [Hub.badTime]

theorem syncSend_sendsSyncAnd :
    ∀ (p : Nat) (s : State),
    p < 32 →
    s.hub.get (R.CREW_PORT_ROLE p) = 2 →
    ∃ t, exec .syncSend s = .next t ∧ Out.frame p 4 [s.hub.get R.CREW_CTRL_ID, s.hub.peerId p, 0, s.hub.crew.syncSeq, 0]
      [] ∈ t.hub.out ∧
      t.hub.crew.syncSeq = (s.hub.crew.syncSeq + 1) % 65536 ∧ t.hub.regs = s.hub.regs ∧ t.mem = s.mem ∧
      ∃ x, Out.frame p 4 [s.hub.get R.CREW_CTRL_ID, s.hub.peerId p, 8, s.hub.crew.syncSeq, x] [] ∈ t.hub.out := by
  intro p s h1 h2
  refine ⟨_, (by unfold exec; exact State.act_next rfl _ _), ?_⟩
  dsimp only
  have others (j : Nat) (_ : j < 32) (_ : j ≠ p) (g : Hub) : Hub.CrewSent p g (if g.get (R.CREW_PORT_ROLE j) = 2 then
      ((g.sendTime j 0 s.hub.crew.syncSeq 0).sendTime j 8 s.hub.crew.syncSeq g.stamp).drew else g) := by
    split
    · exact ⟨rfl, fun o ho => List.mem_cons_of_mem _ (List.mem_cons_of_mem _ ho), rfl, rfl⟩
    · exact Hub.CrewSent.refl p g
  obtain ⟨g, before, after⟩ := Hub.upto_around (Hub.CrewSent.refl p) Hub.CrewSent.trans h1 others
    { s.hub with crew := { s.hub.crew with syncSeq := (s.hub.crew.syncSeq + 1) % 2 ^ 16 } }
  have regs : g.regs = s.hub.regs := before.regs
  rw [if_pos ((Hub.get_of_regs regs _).trans h2)] at after
  have sync : Out.frame p 4 [s.hub.get R.CREW_CTRL_ID, s.hub.peerId p, 0, s.hub.crew.syncSeq, 0] [] =
      Out.frame p 4 [g.get R.CREW_CTRL_ID, g.peerId p, 0, s.hub.crew.syncSeq, 0] [] := by
    rw [Hub.get_of_regs regs, Hub.peerId_of_regs regs]
  have follow : Out.frame p 4 [s.hub.get R.CREW_CTRL_ID, s.hub.peerId p, 8, s.hub.crew.syncSeq, g.stamp] [] =
      Out.frame p 4 [g.get R.CREW_CTRL_ID, g.peerId p, 8, s.hub.crew.syncSeq, g.stamp] [] := by
    rw [Hub.get_of_regs regs, Hub.peerId_of_regs regs]
  refine ⟨?_, after.seq.trans before.seq, after.regs.trans regs, rfl, g.stamp, ?_⟩
  · rw [sync]
    exact after.sent _ (List.mem_cons_of_mem _ (List.mem_cons_self ..))
  · rw [follow]
    exact after.sent _ (List.mem_cons_self ..)

theorem followUp_ofTheStamped :
    ∀ (p seq origin a : Nat) (corr off : Int) (s : State),
    (Instr.followUp p seq origin corr).wf = true →
    (s.hub.crewPort p).syncAt = some (seq, a) →
    s.hub.get (R.CREW_PORT_ROLE p) = 1 →
    off = s.hub.syncOffset p a origin corr / 1000 →
    ∃ t, exec (.followUp p seq origin corr) s = .next t ∧ (t.hub.crewPort p).syncAt = none
      ∧ t.hub.get R.CREW_OFFSET = sat32 off ∧ t.mem = s.mem := by
  intro p seq origin a corr off s hwf h1 h2 h3
  refine ⟨_, (by unfold exec; exact State.act_next hwf _ _), ?_⟩
  dsimp only
  rw [h1]
  dsimp only
  rw [if_pos ⟨rfl, h2⟩, ← h3]
  generalize taken : s.hub.onCrewPort p (fun x => { x with syncAt := none }) = k
  have judged := Hub.judgeOffset_leaves off k
  have told := Hub.alters_crewIrq (Hub.judgeOffset off) k
  refine ⟨?_, (told.get _ (by simp [framed, logReg, evtReg])).trans judged.1, rfl⟩
  unfold Hub.crewPort
  rw [told.crew (by simp), judged.2, ← taken]
  exact congrArg CrewPort.syncAt (Hub.crewPort_onCrewPort_same p _ s.hub)

theorem followUp_beyond1000Ns :
    ∀ (p seq origin a : Nat) (corr off : Int) (s : State),
    (Instr.followUp p seq origin corr).wf = true →
    (s.hub.crewPort p).syncAt = some (seq, a) →
    s.hub.get (R.CREW_PORT_ROLE p) = 1 →
    off = s.hub.syncOffset p a origin corr / 1000 →
    1000 < off.natAbs →
    ∃ t, exec (.followUp p seq origin corr) s = .next t ∧ t.hub.get R.TIME_STAT_TRUSTED = 0 := by
  intro p seq origin a corr off s hwf h1 h2 h3 h4
  refine ⟨_, (by unfold exec; exact State.act_next hwf _ _), ?_⟩
  dsimp only
  rw [h1]
  dsimp only
  rw [if_pos ⟨rfl, h2⟩, ← h3, (Hub.alters_crewIrq ..).get _ (by simp [framed, logReg, evtReg]),
    Hub.judgeOffset_distrusts off _ h4]

theorem followUp_theEighthWithin :
    ∀ (p seq origin a : Nat) (corr off : Int) (s : State),
    (Instr.followUp p seq origin corr).wf = true →
    (s.hub.crewPort p).syncAt = some (seq, a) →
    s.hub.get (R.CREW_PORT_ROLE p) = 1 →
    off = s.hub.syncOffset p a origin corr / 1000 →
    off.natAbs ≤ 250 →
    s.hub.crew.good = 7 →
    ∃ t, exec (.followUp p seq origin corr) s = .next t ∧ t.hub.get R.TIME_STAT_TRUSTED = 1 ∧ t.hub.crew.good = 8
      ∧ t.hub.time.slew = -off := by
  intro p seq origin a corr off s hwf h1 h2 h3 h4 h5
  refine ⟨_, (by unfold exec; exact State.act_next hwf _ _), ?_⟩
  dsimp only
  rw [h1]
  dsimp only
  rw [if_pos ⟨rfl, h2⟩, ← h3]
  generalize taken : s.hub.onCrewPort p (fun x => { x with syncAt := none }) = k
  have good : k.crew.good = 7 := by rw [← taken]; exact h5
  obtain ⟨trusted, counted, slewed⟩ := Hub.judgeOffset_of_slew off k h4
  have told := Hub.alters_crewIrq (Hub.judgeOffset off) k
  rw [told.get _ (by simp [framed, logReg, evtReg]), told.crew (by simp), told.time (by simp), trusted, counted, slewed, good]
  exact ⟨rfl, rfl, rfl⟩

/-- Settles O52: one lemma per clause. -/
theorem crewDisciplinesTime : Obligations.CrewDisciplinesTime := by
  unfold Obligations.CrewDisciplinesTime
  exact ⟨pdelayReq_isAnsweredWith, pdelayReqSend_sendsTheNext, pdelayResp_ofTheLast, pdelayRespFollowUp_storesTheLink,
    sync_onTheUp, sync_elsewhereCountsBadtime, syncSend_sendsSyncAnd, followUp_ofTheStamped, followUp_beyond1000Ns,
    followUp_theEighthWithin⟩

end Sys2Proof.Machine
end

section
/-!
### Messages to any site

Where the number of a site is not known to be one of the four, a message to it may write any register from the site links' block on;
the parts of the hub it changes are the same.
-/
namespace Sys2Proof.Machine

set_option Elab.async false
open Hub.Alters

theorem Hub.alters_pumpList_any (s : Nat) (l : List TxFlit) (h : Hub) :
    Hub.Alters [.sites] (fun a => 0x600000 ≤ a) h (h.pumpList s l) := by
  induction l generalizing h with
  | nil => exact (self ..).set_sites _
  | cons f fs ih =>
    unfold Hub.pumpList
    split
    · exact (self ..).set_sites _
    · exact ((((self ..).set_sites _).put _).send _).trans (ih _)

theorem Hub.alters_txFlit_any (s type : Nat) (b : List Byte) (h : Hub) :
    Hub.Alters [.sites] (fun a => 0x600000 ≤ a) h (h.txFlit s type b) := by
  unfold Hub.txFlit Hub.onSite Hub.pump
  exact ((self ..).set_sites _).andThen (Hub.alters_pumpList_any ..)

theorem Hub.alters_emitCtl_any (s : Nat) (m : CtlMsg) (h : Hub) : Hub.Alters [.sites] (fun a => 0x600000 ≤ a) h (h.emitCtl s m) := by
  unfold Hub.emitCtl
  exact branch (((self ..).send _).andThen (Hub.alters_txFlit_any ..)) ((((self ..).send _).andThen
    (Hub.alters_txFlit_any ..)).andThen (Hub.alters_txFlit_any ..))

theorem Hub.alters_passCtl_any (s : Nat) (m : CtlMsg) (h : Hub) : Hub.Alters [.sites] (fun a => 0x600000 ≤ a) h (h.passCtl s m) := by
  unfold Hub.passCtl
  exact ((self ..).put _).andThen (Hub.alters_emitCtl_any ..)

theorem Hub.alters_sendCtl_any (s : Nat) (m : CtlMsg) (h : Hub) : Hub.Alters [.sites] (fun a => 0x600000 ≤ a) h (h.sendCtl s m) := by
  unfold Hub.sendCtl Hub.releaseCtl Hub.onSite
  exact branch (((self ..).set_sites _).foldl _ fun _ _ _ => branch ((self ..).andThen (Hub.alters_passCtl_any ..))
    ((self ..).set_sites _)) (self ..)

/-- An answer to a site's cleat operation. -/
theorem Hub.alters_cltAns_any (s tag result value : Nat) (h : Hub) :
    Hub.Alters [.sites] (fun a => 0x600000 ≤ a) h (h.cltAns s tag result value) := Hub.alters_sendCtl_any ..

end Sys2Proof.Machine
end

section
/-!
### Cleats, watches and hub time
-/
namespace Sys2Proof.Machine

set_option Elab.async false
open Hub.Alters

theorem Hub.waitDone_waits (v : Nat) (w : Wait) (h : Hub) : (Hub.waitDone v w h).cleat.waits = h.cleat.waits := by
  unfold Hub.waitDone
  split
  · rfl
  · rw [(Hub.alters_cltAns_any ..).cleat (by simp)]
  · unfold Hub.watchEnd
    rw [((Hub.Alters.self [.pcie] (those []) _).sendVector).cleat (by simp)]
    split <;> simp only [Hub.put_cleat]
  · rfl

/-- A judgement of a cleat ends the waits on it that hold and no others. -/
theorem Hub.judge_waits (n : Nat) (h : Hub) : (h.judge n).cleat.waits =
    h.cleat.waits.filter fun w => !(w.cleat == n && h.satisfies (h.get (R.CLT_VALUE n)) w) := by
  unfold Hub.judge
  exact Hub.each_rel (Rel := fun a b => b.cleat.waits = a.cleat.waits) (fun _ => rfl) (fun _ _ _ x y => y.trans x)
    (fun w _ g => Hub.waitDone_waits _ w g) _

theorem cltClear_zeroesEachCleat :
    ∀ (req : Path) (v : Word) (n : Nat) (s : State),
    (Instr.cltClear req v).wf = true →
    req.holdsBlocks = true →
    1 ≤ bitsOf v 12 13 →
    bitsOf v 12 13 ≤ 4096 →
    bitsOf v 0 12 ≤ n →
    n < bitsOf v 0 12 + bitsOf v 12 13 →
    n < 4096 →
    ∃ t, exec (.cltClear req v) s = .next t ∧ t.hub.get (R.CLT_VALUE n) = 0 := by
  intro req v n s hwf h1 h2 h3 h4 h5 h6
  refine ⟨_, (by unfold exec; exact State.act_pfWrite_next hwf h1 _ _), ?_⟩
  dsimp only
  unfold Hub.cltClear
  rw [if_pos ⟨h2, h3⟩]
  unfold Hub.clearCleats
  have others (j : Nat) (_ : j < min (bitsOf v 12 13) (4096 - bitsOf v 0 12)) (hj : j ≠ n - bitsOf v 0 12) (g : Hub) :
      (g.cleatSet (bitsOf v 0 12 + j) 0).get (R.CLT_VALUE n) = g.get (R.CLT_VALUE n) := by
    have apart : (R.CLT_VALUE n).off ≠ (R.CLT_VALUE (bitsOf v 0 12 + j)).off := by simp; omega
    exact (Hub.cleatSet_rget _ 0 g _ (by simp; omega)).trans (Hub.get_put_ne _ _ _ _ apart)
  obtain ⟨g, -, after⟩ := Hub.upto_around (Rel := fun a b => b.get (R.CLT_VALUE n) = a.get (R.CLT_VALUE n)) (fun _ => rfl)
    (fun _ _ _ x y => y.trans x) (show n - bitsOf v 0 12 < _ by omega) others s.hub
  rw [after, Nat.add_sub_cancel' h4]
  exact Hub.get_cleatSet_same 0 g h6

theorem watchArm_ofAnUnmet :
    ∀ (req : Path) (w : Nat) (v : Word) (s : State),
    (Instr.watchArm req w v).wf = true →
    req.holdsBlocks = true →
    s.hub.get (R.CLT_WATCH0_EN w) = 0 →
    cmpHolds (bitsOf v 12 4) (s.hub.get (R.CLT_VALUE (bitsOf v 0 12))) (s.hub.get (R.CLT_WATCH1_VALUE w)) = false →
    ∃ t, exec (.watchArm req w v) s = .next t ∧
      ({ who := .watch w, cleat := bitsOf v 0 12, cmp := bitsOf v 12 4, value := s.hub.get (R.CLT_WATCH1_VALUE w),
         time := 0 } : Wait) ∈ t.hub.cleat.waits := by
  intro req w v s hwf h1 h2 h3
  refine ⟨_, (by unfold exec; exact State.act_pfWrite_next hwf h1 _ _), ?_⟩
  have hw : w < 64 := by simp [Instr.wf, Ok.watchArm] at hwf; exact hwf.2
  have field (lo n : Nat) (hb : lo + n ≤ 31) : bitsOf (v ||| 0x80000000) lo n = bitsOf v lo n := by
    refine Nat.eq_of_testBit_eq fun i => ?_
    by_cases hi : i < n
    · have low : (2147483648 : Nat).testBit (lo + i) = false := by
        rw [show (2147483648 : Nat) = 2 ^ 31 from rfl, Nat.testBit_two_pow]
        exact decide_eq_false (by omega)
      simp [bitsOf, Nat.testBit_mod_two_pow, Nat.testBit_div_two_pow, Nat.add_comm i, low]
    · simp [bitsOf, Nat.testBit_mod_two_pow, hi]
  dsimp only
  unfold Hub.watchArm
  rw [if_neg (by simpa using h2), field 0 12 (by omega), field 12 4 (by omega)]
  dsimp only
  unfold Hub.cleatWait
  have hc := bitsOf_lt v 0 12
  generalize armed : ((s.hub.put (R.CLT_WATCH0_CLEAT w) (bitsOf v 0 12)).put (R.CLT_WATCH0_CMP w) (bitsOf v 12 4)).put
      (R.CLT_WATCH0_EN w) 1 = k
  have value : rget k.regs (R.CLT_WATCH1_VALUE w) = rget s.hub.regs (R.CLT_WATCH1_VALUE w) := by
    subst armed
    exact ((Hub.get_put_ne _ _ _ _ (by simp)).trans (Hub.get_put_ne _ _ _ _ (by simp))).trans (Hub.get_put_ne _ _ _ _ (by simp))
  have cleat : rget k.regs (R.CLT_VALUE (bitsOf v 0 12)) = rget s.hub.regs (R.CLT_VALUE (bitsOf v 0 12)) := by
    subst armed
    exact ((Hub.get_put_ne _ _ _ _ (by simp; omega)).trans (Hub.get_put_ne _ _ _ _ (by simp; omega))).trans
      (Hub.get_put_ne _ _ _ _ (by simp; omega))
  simp only [Hub.get_eq] at h3
  rw [Hub.judge_waits]
  refine List.mem_filter.2 ⟨by simp [value], ?_⟩
  simp [Hub.satisfies, value]
  rw [Hub.countEvent_rget _ _ _ (by simp; omega)]
  left
  exact (congrArg (cmpHolds _ · _) cleat).trans h3

theorem watchCancel_endsTheWait :
    ∀ (req : Path) (w : Nat) (v : Word) (s : State),
    (Instr.watchCancel req w v).wf = true →
    req.holdsBlocks = true →
    s.hub.get (R.CLT_WATCH0_EN w) ≠ 0 →
    ∃ t, exec (.watchCancel req w v) s = .next t ∧ t.hub.get (R.CLT_WATCH0_EN w) = 0 ∧
      t.hub.cleat.waits = (s.hub.cleat.waits.filter fun (x : Wait) => x.who != Waiter.watch w) ∧
      t.hub.get (R.CLT_WATCH0_CLEAT w) = s.hub.get (R.CLT_WATCH0_CLEAT w) := by
  intro req w v s hwf h1 h2
  refine ⟨_, (by unfold exec; exact State.act_pfWrite_next hwf h1 _ _), ?_⟩
  simp [Instr.wf, Ok.watchCancel] at hwf
  have on : s.hub.on (R.CLT_WATCH0_EN w) = true := by simpa using h2
  unfold Hub.watchCancel
  rw [if_pos on]
  refine ⟨Hub.get_put_same _ _ _ (by simp), ?_, ?_⟩
  · simp [Hub.dropWaits, Hub.showWaiters, Wait.ofWatch, bne]
  · rw [Hub.get_put_apart _ _ _ _ (by simp) (by simp)]
    exact Hub.get_put_ne _ _ _ _ (by simp; omega)

theorem watchTimeout_endsTheWait :
    ∀ (w : Nat) (s : State),
    (Instr.watchTimeout w).wf = true →
    s.hub.get (R.CLT_WATCH0_EN w) ≠ 0 →
    s.hub.get (R.CLT_WATCH2_TMO w) ≠ 0 →
    ∃ t, exec (.watchTimeout w) s = .next t ∧ t.hub.get (R.CLT_WATCH0_EN w) = 0 ∧ t.hub.get (R.CLT_WATCH3_TIMEDOUT w) = 1 ∧
      t.hub.cleat.waits = (s.hub.cleat.waits.filter fun (x : Wait) => x.who != Waiter.watch w) := by
  intro w s hwf h1 h2
  refine ⟨_, (by unfold exec; exact State.act_next hwf _ _), ?_⟩
  simp [Instr.wf, Ok.watchTimeout] at hwf
  have on : s.hub.on (R.CLT_WATCH0_EN w) = true := by simpa using h1
  have limited : s.hub.on (R.CLT_WATCH2_TMO w) = true := by simpa using h2
  dsimp only
  rw [if_pos ⟨on, limited⟩]
  unfold Hub.watchEnd
  dsimp only
  rw [if_neg (by simp)]
  have told (g : Hub) (v : Nat) : Hub.Alters [.pcie] (those []) g (g.sendVector 0 (v % 264)) := (self ..).sendVector
  rw [(told ..).get _ (by simp [framed, logReg, evtReg, those]; omega),
    (told ..).get _ (by simp [framed, logReg, evtReg, those]; omega), (told ..).cleat (by simp)]
  refine ⟨?_, ?_, ?_⟩
  · simp
  · simp
  · simp [Hub.dropWaits, Hub.showWaiters, Wait.ofWatch, bne]

theorem timeEvtSel_storesSelAnd :
    ∀ (req : Path) (n : Nat) (v : Word) (s : State),
    (Instr.timeEvtSel req n v).wf = true →
    req.holdsBlocks = true →
    ∃ t, exec (.timeEvtSel req n v) s = .next t ∧ t.hub.get (R.TIME_EVT_SEL n) = bitsOf v 0 4 ∧
      t.hub.get (R.TIME_EVT_LO n) = 0 ∧ t.hub.get (R.TIME_EVT_HI n) = 0 := by
  intro req n v s hwf h1
  refine ⟨_, (by unfold exec; exact State.act_pfWrite_next hwf h1 _ _), ?_⟩
  have hn : n < 16 := by simp [Instr.wf, Ok.timeEvtSel] at hwf; exact hwf.2
  refine ⟨?_, ?_, ?_⟩
  · rw [Hub.evtSelWrite, Hub.get_setReg_ne _ _ _ (by simp; omega), Hub.get_setReg_ne _ _ _ (by simp; omega),
      Hub.get_put_same _ _ _ (by simp)]
    exact bitsOf_mod_of_le v 0 4 _ (by simp)
  · rw [Hub.evtSelWrite, Hub.get_setReg_ne _ _ _ (by simp)]
    simp
  · simp [Hub.evtSelWrite]

theorem timeSet_freerunningSetsHub :
    ∀ (req : Path) (v : Word) (s : State),
    (Instr.timeSet req v).wf = true →
    req.holdsBlocks = true →
    s.hub.get R.TIME_STAT_DISC = 0 →
    ∃ t, exec (.timeSet req v) s = .next t ∧ t.hub.time.now = (s.hub.get R.TIME_SET_LO + 2 ^ 32 * v.toNat) % 2 ^ 64 := by
  intro req v s hwf h1 h2
  refine ⟨_, (by unfold exec; exact State.act_pfWrite_next hwf h1 _ _), ?_⟩
  simp_all [Hub.timeSetWrite, Hub.ifFreeRunning, Hub.stepTime]

theorem timeAdj_freerunningStoresThe :
    ∀ (req : Path) (v : Word) (s : State),
    (Instr.timeAdj req v).wf = true →
    req.holdsBlocks = true →
    s.hub.get R.TIME_STAT_DISC = 0 →
    ∃ t, exec (.timeAdj req v) s = .next t ∧ t.hub.get R.TIME_ADJ_PPB = unsigned 24 (clampPpb (signed 24 (bitsOf v 0 24))) ∧
      t.hub.time = s.hub.time := by
  intro req v s hwf h1 h2
  refine ⟨_, (by unfold exec; exact State.act_pfWrite_next hwf h1 _ _), ?_⟩
  have narrow : unsigned 24 (clampPpb (signed 24 (bitsOf v 0 24))) < 16777216 := by unfold unsigned; omega
  simp_all [Hub.timeAdjWrite, Hub.ifFreeRunning]

theorem timeSlew_freerunningAddsTo :
    ∀ (req : Path) (v : Word) (s : State),
    (Instr.timeSlew req v).wf = true →
    req.holdsBlocks = true →
    s.hub.get R.TIME_STAT_DISC = 0 →
    ∃ t, exec (.timeSlew req v) s = .next t ∧ t.hub.time.slew = s.hub.time.slew + signed 32 v.toNat
      ∧ t.hub.time.now = s.hub.time.now ∧
      t.hub.regs = s.hub.regs := by
  intro req v s hwf h1 h2
  refine ⟨_, (by unfold exec; exact State.act_pfWrite_next hwf h1 _ _), ?_⟩
  simp_all [Hub.timeSlewWrite, Hub.ifFreeRunning, Hub.slewTime]

/-- Settles O35: one lemma per clause. -/
theorem cleatsWatchesAndTime : Obligations.CleatsWatchesAndTime := by
  unfold Obligations.CleatsWatchesAndTime
  exact ⟨cltClear_zeroesEachCleat, watchArm_ofAnUnmet, watchCancel_endsTheWait, watchTimeout_endsTheWait,
    timeEvtSel_storesSelAnd, timeSet_freerunningSetsHub, timeAdj_freerunningStoresThe, timeSlew_freerunningAddsTo⟩

end Sys2Proof.Machine
end

section
/-!
### Stacks in operation
-/
namespace Sys2Proof.Machine

set_option Elab.async false
open Hub.Alters

theorem Hub.memch_refreshBank (stack q k : Nat) (h : Hub) : (h.refreshBank stack q k).memch =
    { h.memch with rows := nset h.memch.rows k 0, raa := nset h.memch.raa k (nget h.memch.raa k - Config.raaPerRefresh) } := rfl

theorem Hub.pd_refreshBank (stack q k : Nat) (h : Hub) : (h.refreshBank stack q k).get (R.MEM_PC_PD stack q) = 0 := by
  unfold Hub.refreshBank
  exact Hub.get_put_same _ _ _ (by simp)

/-- A refresh that is due and was not pulled in: postponed behind requests up to the limit, or made. -/
theorem Hub.refreshDue_of_notPulled (stack q k : Nat) (postpone : Bool) (h : Hub) (none : nget h.memch.pulled k = 0) :
    h.refreshDue stack q k postpone =
      if postpone ∧ ¬ (h.queue (32 * stack + q)).isEmpty ∧ nget h.memch.owed k < Config.refreshLimit then
        h.setRefresh k (nget h.memch.owed k + 1) 0
      else h.refreshBank stack q k := by
  unfold Hub.refreshDue
  simp only [none, Nat.lt_irrefl, if_false]

theorem Hub.queue_setQueue (p : Nat) (l : List MemReq) (h : Hub) : (h.setQueue p l).queue p = l := Store.get_set_same ..

/-- Counting an urgent request leaves the queues and the rows. -/
theorem Hub.countUrgent_leaves (m n : Nat) (h : Hub) : (h.countUrgent m n).memch.queues = h.memch.queues ∧
    (h.countUrgent m n).memch.rows = h.memch.rows ∧ (h.countUrgent m n).memch.raa = h.memch.raa := by
  unfold Hub.countUrgent
  split
  · exact ⟨rfl, rfl, rfl⟩
  · have counted : ((h.bump (R.QOS_TT3_URGENT m) 1).countEvent 7).memch = h.memch := by simp
    generalize (h.bump (R.QOS_TT3_URGENT m) 1).countEvent 7 = g at *
    simp only []
    split <;> simp [counted]

/-- A request served leaves its queue, and its row is open. -/
theorem Hub.issue_serves (p : Nat) (r : MemReq) (h : Hub) (hp : p < 192) : (h.issue p r).queue p = (h.queue p).erase r ∧
    nget (h.issue p r).memch.rows (bankKey p (dramDecode r.addr).bank) = (dramDecode r.addr).row + 1 ∧
    nget (h.issue p r).memch.raa (bankKey p (dramDecode r.addr).bank) =
      (if nget h.memch.rows (bankKey p (dramDecode r.addr).bank) = (dramDecode r.addr).row + 1 then
        nget h.memch.raa (bankKey p (dramDecode r.addr).bank) else nget h.memch.raa (bankKey p (dramDecode r.addr).bank) + 1) ∧
    (h.issue p r).get (R.MEM_PC_PD (p / 32) (p % 32)) = 0 := by
  unfold Hub.issue
  extract_lets d k hit g m g1 g2
  have left : g.queue p = (h.queue p).erase r ∧ g.memch.rows = h.memch.rows ∧ g.memch.raa = h.memch.raa :=
    ⟨Hub.queue_setQueue .., rfl, rfl⟩
  clear_value g
  have opened : g1.queue p = (h.queue p).erase r ∧ nget g1.memch.rows k = d.row + 1 ∧
      nget g1.memch.raa k = if nget h.memch.rows k = d.row + 1 then nget h.memch.raa k else nget h.memch.raa k + 1 := by
    obtain ⟨queue, rows, raa⟩ := left
    by_cases h0 : nget h.memch.rows k = d.row + 1
    · simp [g1, hit, h0, queue, rows, raa]
    · refine ⟨?_, ?_, ?_⟩ <;> simp [g1, hit, h0, m, raa]
      exact queue
  clear_value g1
  have down : g2.get (R.MEM_PC_PD (p / 32) (p % 32)) = 0 ∧ g2.memch = g1.memch ∧ g2.queue p = g1.queue p := by
    exact ⟨Hub.get_put_same g1 _ 0 (by simp), Hub.put_memch .., by simp only [g2, Hub.queue, Hub.put_memch]⟩
  clear_value g2
  obtain ⟨queue, rows, raa⟩ := opened
  obtain ⟨pd, memch, queue'⟩ := down
  split
  · obtain ⟨queues, rows', raa'⟩ := Hub.countUrgent_leaves r.master r.size g2
    refine ⟨?_, ?_, ?_, ?_⟩
    · unfold Hub.queue
      rw [queues]
      exact queue'.trans queue
    · rw [rows', memch, rows]
    · rw [raa', memch, raa]
    · exact ((Hub.alters_countUrgent ..).get _ (by simp [framed, logReg, evtReg, within]; omega)).trans pd
  · exact ⟨queue'.trans queue, by rw [memch, rows], by rw [memch, raa], pd⟩

theorem stackTempRead_storesTempHot :
    ∀ (stack temp : Nat) (s : State),
    (Instr.stackTempRead stack true temp).wf = true →
    ∃ t, exec (.stackTempRead stack true temp) s = .next t ∧ t.hub.get (R.MEM_STAT_TEMP stack) = temp ∧ t.hub.get
      (R.MEM_STAT_HOT stack) = b2n (decide (85 ≤ temp)) ∧
      t.hub.get (R.MEM_STAT_TRIP stack) = b2n (decide (s.hub.get (R.MEM_THERM_TRIP_C stack) ≤ temp)) ∧ t.mem = s.mem := by
  intro stack temp s hwf
  refine ⟨_, (by unfold exec; exact State.act_next hwf _ _), ?_⟩
  obtain ⟨hs, ht⟩ : stack < 6 ∧ temp < 256 := by simpa [Instr.wf, Ok.stackTempRead] using hwf
  dsimp only
  rw [if_pos rfl]
  generalize stored : ((s.hub.put (R.MEM_STAT_TEMP stack) temp).put (R.MEM_STAT_HOT stack) (b2n (decide (85 ≤ temp)))).put
    (R.MEM_STAT_TRIP stack) (b2n (decide (s.hub.get (R.MEM_THERM_TRIP_C stack) ≤ temp))) = k
  have shown : k.get (R.MEM_STAT_TEMP stack) = temp ∧ k.get (R.MEM_STAT_HOT stack) = b2n (decide (85 ≤ temp)) ∧
      k.get (R.MEM_STAT_TRIP stack) = b2n (decide (s.hub.get (R.MEM_THERM_TRIP_C stack) ≤ temp)) := by
    subst stored
    simp [ht]
  split
  · have kept (f : RF) (hf : f.off = (R.MEM_STAT_TEMP stack).off) : (k.warn 0x22 7 temp stack).get f = k.get f :=
      Hub.warn_rget _ _ _ _ _ _ (by rw [hf]; simp; omega)
    obtain ⟨temp, hot, trip⟩ := shown
    exact ⟨(kept _ rfl).trans temp, (kept (R.MEM_STAT_HOT stack) rfl).trans hot,
      (kept (R.MEM_STAT_TRIP stack) rfl).trans trip, rfl⟩
  · exact ⟨shown.1, shown.2.1, shown.2.2, rfl⟩

theorem stackTempRead_thatFailsSets :
    ∀ (stack temp : Nat) (s : State),
    (Instr.stackTempRead stack false temp).wf = true →
    s.hub.yew.tokens ≠ 0 →
    ∃ t, exec (.stackTempRead stack false temp) s = .next t ∧ t.hub.get (R.MEM_STAT_HOT stack) = 1
      ∧ t.hub.yew.seq = nextSeq s.hub.yew.seq ∧ t.hub.yew.hist = (0x23 :: s.hub.yew.hist).take 4 ∧ t.mem = s.mem := by
  intro stack temp s hwf h1
  refine ⟨_, (by unfold exec; exact State.act_next hwf _ _), ?_⟩
  have hs : stack < 6 := by simp [Instr.wf, Ok.stackTempRead] at hwf; exact hwf.1
  dsimp only
  rw [if_neg (by simp)]
  obtain ⟨seq, hist⟩ := Hub.warn_seq 0x23 7 0 stack (s.hub.put (R.MEM_STAT_HOT stack) 1) (by rw [Hub.put_yew]; exact h1)
  rw [Hub.put_yew] at seq hist
  refine ⟨?_, seq, hist, rfl⟩
  rw [Hub.get_eq, Hub.warn_rget _ _ _ _ _ _ (by simp; omega)]
  simp

theorem refresh_thatIsDue :
    ∀ (stack q bank how k : Nat) (s : State),
    (Instr.refresh stack q bank how).wf = true →
    how = 0 →
    k = bankKey (32 * stack + q) bank →
    s.hub.memch.selfRef = false →
    nget s.hub.memch.pulled k = 0 →
    ∃ t, exec (.refresh stack q bank how) s = .next t ∧ nget t.hub.memch.rows k = 0
      ∧ nget t.hub.memch.owed k = nget s.hub.memch.owed k ∧
      nget t.hub.memch.raa k = nget s.hub.memch.raa k - Config.raaPerRefresh ∧ t.hub.get (R.MEM_PC_PD stack q) = 0
        ∧ t.mem = s.mem := by
  intro stack q bank how k s hwf h1 h2 h3 h4
  refine ⟨_, (by unfold exec; exact State.act_next hwf _ _), ?_⟩
  subst h1 h2
  dsimp only
  rw [if_neg (by simp [h3]), if_neg (by decide), Hub.refreshDue_of_notPulled _ _ _ _ _ h4, if_neg (by simp)]
  exact ⟨by simp [Hub.refreshBank], rfl, by simp [Hub.refreshBank], Hub.pd_refreshBank .., rfl⟩

theorem refresh_postponedBehindRequests :
    ∀ (stack q bank how k : Nat) (s : State),
    (Instr.refresh stack q bank how).wf = true →
    how = 1 →
    k = bankKey (32 * stack + q) bank →
    s.hub.memch.selfRef = false →
    nget s.hub.memch.pulled k = 0 →
    (s.hub.queue (32 * stack + q)).isEmpty = false →
    ∃ t, exec (.refresh stack q bank how) s = .next t ∧ nget t.hub.memch.owed k = nget s.hub.memch.owed k +
      (if nget s.hub.memch.owed k < Config.refreshLimit then 1 else 0) ∧
      (nget s.hub.memch.owed k < Config.refreshLimit → t.hub.memch.rows = s.hub.memch.rows ∧ t.hub.regs = s.hub.regs) ∧
      (Config.refreshLimit ≤ nget s.hub.memch.owed k → nget t.hub.memch.rows k = 0) ∧ t.mem = s.mem := by
  intro stack q bank how k s hwf h1 h2 h3 h4 h5
  refine ⟨_, (by unfold exec; exact State.act_next hwf _ _), ?_⟩
  subst h1 h2
  dsimp only
  rw [if_neg (by simp [h3]), if_neg (by decide), Hub.refreshDue_of_notPulled _ _ _ _ _ h4]
  by_cases room : nget s.hub.memch.owed (bankKey (32 * stack + q) bank) < Config.refreshLimit
  · rw [if_pos (by simp [h5, room]), if_pos room]
    exact ⟨by simp [Hub.setRefresh], fun _ => ⟨rfl, rfl⟩, fun full => absurd room (Nat.not_lt.2 full), rfl⟩
  · rw [if_neg (by simp [room]), if_neg room]
    exact ⟨rfl, fun r => absurd r room, fun _ => by simp [Hub.refreshBank], rfl⟩

theorem refresh_beyondThoseDue :
    ∀ (stack q bank how k : Nat) (s : State),
    (Instr.refresh stack q bank how).wf = true →
    how = 2 →
    k = bankKey (32 * stack + q) bank →
    s.hub.memch.selfRef = false →
    0 < nget s.hub.memch.owed k →
    ∃ t, exec (.refresh stack q bank how) s = .next t ∧ nget t.hub.memch.rows k = 0
      ∧ nget t.hub.memch.owed k = nget s.hub.memch.owed k - 1 ∧
      nget t.hub.memch.pulled k = nget s.hub.memch.pulled k ∧ t.hub.get (R.MEM_PC_PD stack q) = 0 ∧ t.mem = s.mem := by
  intro stack q bank how k s hwf h1 h2 h3 h4
  refine ⟨_, (by unfold exec; exact State.act_next hwf _ _), ?_⟩
  subst h1 h2
  dsimp only
  rw [if_neg (by simp [h3]), if_pos rfl, Hub.refreshExtra, if_pos h4]
  exact ⟨by simp [Hub.refreshBank], by simp [Hub.refreshBank, Hub.setRefresh], by simp
    [Hub.refreshBank, Hub.setRefresh], Hub.pd_refreshBank .., rfl⟩

theorem refresh_thatWasPulled :
    ∀ (stack q bank how k : Nat) (s : State),
    (Instr.refresh stack q bank how).wf = true →
    how < 2 →
    k = bankKey (32 * stack + q) bank →
    s.hub.memch.selfRef = false →
    0 < nget s.hub.memch.pulled k →
    ∃ t, exec (.refresh stack q bank how) s = .next t ∧ nget t.hub.memch.pulled k = nget s.hub.memch.pulled k - 1
      ∧ nget t.hub.memch.owed k = nget s.hub.memch.owed k ∧
      t.hub.memch.rows = s.hub.memch.rows ∧ t.hub.regs = s.hub.regs ∧ t.mem = s.mem := by
  intro stack q bank how k s hwf h1 h2 h3 h4
  refine ⟨_, (by unfold exec; exact State.act_next hwf _ _), ?_⟩
  subst h2
  dsimp only
  rw [if_neg (by simp [h3]), if_neg (by omega), Hub.refreshDue, if_pos h4]
  exact ⟨by simp [Hub.setRefresh], by simp [Hub.setRefresh], rfl, rfl, rfl⟩

theorem caParityError_reissuesAndCounts :
    ∀ (stack : Nat) (s : State),
    (Instr.caParityError stack false).wf = true →
    s.hub.get (R.MEM_EVT_CAPAR stack) + 1 < 2 ^ (R.MEM_EVT_CAPAR stack).width →
    ∃ t, exec (.caParityError stack false) s = .next t ∧ nget t.hub.memch.parity stack = 1 ∧ t.hub.get
      (R.MEM_EVT_CAPAR stack) = s.hub.get (R.MEM_EVT_CAPAR stack) + 1 ∧ t.mem = s.mem := by
  intro stack s hwf h1
  refine ⟨_, (by unfold exec; exact State.act_next hwf _ _), ?_⟩
  dsimp only
  rw [if_neg (by simp), if_neg (by simp)]
  exact ⟨by simp, Hub.bump_rget_same _ _ _ (by simp) h1, rfl⟩

theorem caParityError_afterFourReissues :
    ∀ (stack : Nat) (s : State),
    (Instr.caParityError stack true).wf = true →
    nget s.hub.memch.parity stack = 4 →
    s.hub.pins.d0Reset = false →
    s.hub.get (R.YEW_ESC_FATALS) + 1 < 2 ^ (R.YEW_ESC_FATALS).width →
    ∃ t, exec (.caParityError stack true) s = .next t ∧ t.hub.pins.fatalN = false ∧ t.hub.boot.pend = 2
      ∧ t.hub.get R.YEW_ESC_FATALS = s.hub.get R.YEW_ESC_FATALS + 1 ∧ nget t.hub.memch.parity stack = 0 ∧ t.mem = s.mem := by
  intro stack s hwf h1 h2 h3
  refine ⟨_, (by unfold exec; exact State.act_next hwf _ _), ?_⟩
  dsimp only
  rw [if_pos rfl, if_pos (by omega)]
  obtain ⟨fatalN, -, pend, count⟩ := Hub.fatal_ends 3 7 stack
    { s.hub with memch := { s.hub.memch with parity := nset s.hub.memch.parity stack 0 } } h2
  refine ⟨fatalN, pend, count.trans (Hub.bump_rget_same _ _ _ (by simp) h3), ?_, rfl⟩
  rw [(Hub.alters_fatal ..).memch (by simp)]
  simp

theorem scheduleCommand_servesTheChosen :
    ∀ (stack q p k : Nat) (busy : List Nat) (h : Hub) (r : MemReq) (s : State),
    (Instr.scheduleCommand stack q busy).wf = true →
    p = 32 * stack + q →
    h = { s.hub with memch := { s.hub.memch with drain := nset s.hub.memch.drain p (b2n (s.hub.drainNow p)) } } →
    h.rfmBank p busy = none →
    h.choose p busy = some r →
    k = bankKey p (dramDecode r.addr).bank →
    ∃ t, exec (.scheduleCommand stack q busy) s = .next t ∧ t.hub.queue p = (s.hub.queue p).erase r
      ∧ nget t.hub.memch.rows k = (dramDecode r.addr).row + 1 ∧
      nget t.hub.memch.raa k = (if nget s.hub.memch.rows k =
        (dramDecode r.addr).row + 1 then nget s.hub.memch.raa k else nget s.hub.memch.raa k + 1) ∧
      t.hub.get (R.MEM_PC_PD stack q) = 0 ∧ t.mem = s.mem := by
  intro stack q p k busy h r s hwf h1 h2 h3 h4 h5
  refine ⟨_, (by unfold exec; exact State.act_next hwf _ _), ?_⟩
  obtain ⟨hs, hq⟩ : stack < 6 ∧ q < 32 := by simp [Instr.wf, Ok.scheduleCommand] at hwf; omega
  dsimp only
  rw [← h1, Hub.schedule]
  dsimp only
  rw [← h2, h3]
  dsimp only
  rw [h4]
  dsimp only
  have same : s.hub.memch.rows = h.memch.rows ∧ s.hub.memch.raa = h.memch.raa ∧ s.hub.queue p = h.queue p :=
    by subst h2; exact ⟨rfl, rfl, rfl⟩
  have unit : p / 32 = stack ∧ p % 32 = q := by omega
  obtain ⟨queue, rows, raa, pd⟩ := Hub.issue_serves p r h (by omega)
  rw [unit.1, unit.2] at pd
  rw [same.1, same.2.1, same.2.2, h5]
  exact ⟨queue, rows, raa, pd, rfl⟩

theorem scheduleCommand_refreshesAnOveractivated :
    ∀ (stack q p b : Nat) (busy : List Nat) (s : State),
    (Instr.scheduleCommand stack q busy).wf = true →
    p = 32 * stack + q →
    s.hub.rfmBank p busy = some b →
    s.hub.get (R.MEM_EVT_RFM stack) + 1 < 2 ^ (R.MEM_EVT_RFM stack).width →
    ∃ t, exec (.scheduleCommand stack q busy) s = .next t ∧ nget t.hub.memch.raa (bankKey p b) = nget s.hub.memch.raa
      (bankKey p b) - Config.raaPerRfm ∧
      t.hub.get (R.MEM_EVT_RFM stack) = s.hub.get (R.MEM_EVT_RFM stack) + 1 ∧ t.hub.queue p = s.hub.queue p ∧ t.mem = s.mem := by
  intro stack q p b busy s hwf h1 h2 h3
  refine ⟨_, (by unfold exec; exact State.act_next hwf _ _), ?_⟩
  have unit : p / 32 = stack := by simp [Instr.wf, Ok.scheduleCommand] at hwf; omega
  dsimp only
  rw [← h1, Hub.schedule]
  dsimp only
  have found : Hub.rfmBank { s.hub with memch := { s.hub.memch with drain := nset s.hub.memch.drain p (b2n (s.hub.drainNow p)) } }
    p busy = some b := h2
  rw [found]
  dsimp only
  rw [unit]
  exact ⟨by simp [Hub.setRaa], Hub.bump_rget_same _ _ _ (by simp) h3, by simp [Hub.queue, Hub.setRaa], rfl⟩

theorem powerDownEntry_ofAnIdle :
    ∀ (stack q : Nat) (s : State),
    (Instr.powerDownEntry stack q).wf = true →
    s.hub.on (R.MEM_CFG_PD_EN stack) = true →
    (s.hub.queue (32 * stack + q)).isEmpty = true →
    ∃ t, exec (.powerDownEntry stack q) s = .next t ∧ t.hub.get (R.MEM_PC_PD stack q) = 1 ∧ t.hub.memch = s.hub.memch
      ∧ t.mem = s.mem := by
  intro stack q s hwf h1 h2
  refine ⟨_, (by unfold exec; exact State.act_next hwf _ _), ?_⟩
  dsimp only
  rw [if_pos ⟨h1, h2⟩]
  exact ⟨by simp, Hub.put_memch .., rfl⟩

/-- Settles O38: one lemma per clause. -/
theorem memoryChannelsRun : Obligations.MemoryChannelsRun := by
  unfold Obligations.MemoryChannelsRun
  exact ⟨stackTempRead_storesTempHot, stackTempRead_thatFailsSets, refresh_thatIsDue, refresh_postponedBehindRequests,
    refresh_beyondThoseDue, refresh_thatWasPulled, caParityError_reissuesAndCounts, caParityError_afterFourReissues,
    scheduleCommand_servesTheChosen, scheduleCommand_refreshesAnOveractivated, powerDownEntry_ofAnIdle⟩

end Sys2Proof.Machine
end

section
/-!
### Musters of the crew
-/
namespace Sys2Proof.Machine

set_option Elab.async false
open Hub.Alters

/-- Two fields have no bit in common. -/
def RF.apart (f g : RF) : Prop := g.off ≠ f.off ∨ f.lo + f.width ≤ g.lo ∨ g.lo + g.width ≤ f.lo

theorem Hub.get_put_of_apart {f g : RF} (x : f.apart g) (hf : f.lo + f.width ≤ 32) (h : Hub) (v : Nat) :
    (h.put f v).get g = h.get g := by
  rcases x with off | bits
  · exact Hub.get_put_ne h f g v off
  · exact Hub.get_put_apart h f g v hf bits

theorem Hub.get_bump_of_apart {f g : RF} (x : f.apart g) (hf : f.lo + f.width ≤ 32) (h : Hub) (n : Nat) :
    (h.bump f n).get g = h.get g := by
  unfold Hub.bump
  split
  · exact Hub.get_put_of_apart x hf h _
  · exact Hub.get_put_of_apart x hf h _

/-- The fields that taking a claim may write. -/
def claimFields : List RF :=
  [R.CREW_STAT_STATE, R.CREW_EVT_REMUSTERS, R.TIME_STAT_TRUSTED, R.CREW_STAT_LEADER, R.CREW_STAT_IS_LEADER, R.CREW_STAT_DIST,
    R.CREW_STAT_UPPORT, R.CREW_EPOCH, R.TIME_STAT_DISC] ++ (List.range 32).map R.CREW_PORT_ROLE

/-- `g` is `h` with a claim taken: fields apart from the claim's, the ports' records and the hold-downs are as before, and TRUSTED
does not rise. -/
structure Hub.Claimed (h g : Hub) : Prop where
  get : ∀ f : RF, (∀ k ∈ claimFields, k.apart f) → g.get f = h.get f
  ports : g.crew.ports = h.crew.ports
  down : g.crew.down = h.crew.down
  trusted : h.get R.TIME_STAT_TRUSTED = 0 → g.get R.TIME_STAT_TRUSTED = 0

namespace Hub.Claimed

theorem refl (h : Hub) : Hub.Claimed h h := ⟨fun _ _ => rfl, rfl, rfl, id⟩

theorem trans {a b c : Hub} (x : Hub.Claimed a b) (y : Hub.Claimed b c) : Hub.Claimed a c :=
  ⟨fun f hf => (y.get f hf).trans (x.get f hf), y.ports.trans x.ports, y.down.trans x.down, fun t => y.trusted (x.trusted t)⟩

theorem put {h g : Hub} (x : Hub.Claimed h g) (k : RF) (v : Nat) (hk : k ∈ claimFields) (hf : k.lo + k.width ≤ 32)
    (ht : k.apart R.TIME_STAT_TRUSTED) : Hub.Claimed h (g.put k v) :=
  x.trans ⟨fun _ hf' => Hub.get_put_of_apart (hf' k hk) hf g v, rfl, rfl, fun t => (Hub.get_put_of_apart ht hf g v).trans t⟩

theorem crew {h g : Hub} (x : Hub.Claimed h g) (c : CrewS) (ports : c.ports = g.crew.ports) (down : c.down = g.crew.down) :
    Hub.Claimed h { g with crew := c } := x.trans ⟨fun _ _ => rfl, ports, down, id⟩

theorem showRoles (h : Hub) : Hub.Claimed h h.showRoles :=
  Hub.upto_rel refl (fun _ _ _ => trans) (fun p hp g => (refl g).put _ _
    (List.mem_append_right _ (List.mem_map.2 ⟨p, List.mem_range.2 hp, rfl⟩)) (by simp) (.inl (by simp; omega))) h

theorem showDisc (h : Hub) : Hub.Claimed h h.showDisc := by
  unfold Hub.showDisc
  split
  · exact (refl h).put _ _ (by simp [claimFields]) (by simp) (.inr (.inr (by simp)))
  · exact refl h

theorem remuster (b : Bool) (h : Hub) : Hub.Claimed h (h.remuster b) := by
  have begun : Hub.Claimed h ((h.put R.CREW_STAT_STATE 1).bump R.CREW_EVT_REMUSTERS 1) := by
    refine ((refl h).put R.CREW_STAT_STATE 1 (by simp [claimFields]) (by simp) (.inl (by simp))).trans
      ⟨fun f hf => ?_, ?_, ?_, fun t => ?_⟩
    · exact Hub.get_bump_of_apart (hf _ (by simp [claimFields])) (by simp) _ _
    · rw [Hub.bump_crew]
    · rw [Hub.bump_crew]
    · exact (Hub.get_bump_of_apart (.inl (by simp)) (by simp) _ _).trans t
  unfold Hub.remuster
  simp only []
  split
  · exact (begun.crew _ rfl rfl).trans ⟨fun f hf => Hub.get_put_of_apart (hf _ (by simp [claimFields])) (by simp) _ _, rfl, rfl,
      fun _ => Hub.get_put_same _ _ _ (by simp)⟩
  · exact begun.crew _ rfl rfl

theorem holdClaim (c : Claim) (h : Hub) : Hub.Claimed h (h.holdClaim c) := by
  have stale {g : Hub} (x : Hub.Claimed h g) (d : Bool) :
      Hub.Claimed h (if d then { g with crew := { g.crew with fresh := false } } else g) := by
    split
    · exact x.crew _ rfl rfl
    · exact x
  have stored {g : Hub} (x : Hub.Claimed h g) : Hub.Claimed h (((((g.put R.CREW_STAT_LEADER c.leader).put R.CREW_STAT_IS_LEADER
      (if c.port = 32 then 1 else 0)).put R.CREW_STAT_DIST c.dist).put R.CREW_STAT_UPPORT (if c.port = 32 then 0 else c.port)).put
        R.CREW_EPOCH c.epoch) :=
    ((((x.put R.CREW_STAT_LEADER _ (by simp [claimFields]) (by simp) (.inl (by simp))).put R.CREW_STAT_IS_LEADER _
      (by simp [claimFields]) (by simp) (.inl (by simp))).put R.CREW_STAT_DIST _ (by simp [claimFields]) (by simp)
      (.inl (by simp))).put R.CREW_STAT_UPPORT _ (by simp [claimFields]) (by simp) (.inl (by simp))).put R.CREW_EPOCH _
      (by simp [claimFields]) (by simp) (.inl (by simp))
  unfold Hub.holdClaim
  extract_lets own changed newLeader moved g g1 g2 c' g3
  have first : Hub.Claimed h g := by
    dsimp only [g]
    split
    · exact remuster _ h
    · exact refl h
  clear_value g
  have third : Hub.Claimed h g3 := stale (stored first) _
  clear_value g3
  exact (third.trans (showDisc _)).trans (showRoles _)

theorem chooseClaim (h : Hub) : Hub.Claimed h h.chooseClaim := by
  have answered : Hub.Claimed h h.answerOwn := by
    unfold Hub.answerOwn
    split
    · refine Hub.each_rel refl (fun _ _ _ => trans) (fun c _ g => ?_) h
      split
      · exact (refl g).crew _ rfl rfl
      · exact refl g
    · exact refl h
  unfold Hub.chooseClaim
  split
  · exact answered.trans (holdClaim _ _)
  · exact refl h

end Hub.Claimed

/-- The fields that a change of a port's part in the crew may write beside the port's own. -/
def roleFields : List RF := R.CREW_EVT_SYNC_LOST :: R.CREW_STAT_MISMATCH :: claimFields

theorem apart_roles {f : RF} (word : f.off ≠ 0x800014 ∧ f.off ≠ 0x800018 ∧ f.off ≠ 0x800020 ∧ f.off ≠ 0x130008)
    (role : f.lo + f.width ≤ 24 ∨ f.off < 0x800100 ∨ 0x800180 ≤ f.off) : ∀ k ∈ roleFields, k.apart f := by
  obtain ⟨stat, epoch, evt, time⟩ := word
  intro k hk
  simp only [roleFields, claimFields, List.mem_cons, List.cons_append, List.nil_append, List.mem_map, List.mem_range] at hk
  rcases hk with rfl | rfl | rfl | rfl | rfl | rfl | rfl | rfl | rfl | rfl | rfl | ⟨p, hp, rfl⟩
  · exact .inl evt
  · exact .inl stat
  · exact .inl stat
  · exact .inl evt
  · exact .inl time
  · exact .inl stat
  · exact .inl stat
  · exact .inl stat
  · exact .inl stat
  · exact .inl epoch
  · exact .inl time
  · rcases role with bits | off
    · exact .inr (.inr bits)
    · exact .inl (by simp; omega)

theorem Hub.loseLeader_leaves (h : Hub) : h.loseLeader.crew.ports = h.crew.ports ∧
    ∀ f : RF, (∀ k ∈ roleFields, k.apart f) → h.loseLeader.get f = h.get f := by
  unfold Hub.loseLeader
  split
  · exact ⟨rfl, fun _ _ => rfl⟩
  · refine ⟨(Hub.Claimed.chooseClaim _).ports.trans (by simp), fun f hf =>
      ((Hub.Claimed.chooseClaim _).get f fun k hk => hf k (by simp [roleFields, hk])).trans ?_⟩
    exact (Hub.get_put_of_apart (hf R.TIME_STAT_TRUSTED (by simp [roleFields, claimFields])) (by simp) _ _).trans
      (Hub.get_bump_of_apart (hf R.CREW_EVT_SYNC_LOST (by simp [roleFields])) (by simp) _ _)

/-- What a change of a port's part in the crew leaves: the ports' records and the fields of other words. -/
theorem Hub.setCrewPort_leaves (p st cause : Nat) (h : Hub) : (h.setCrewPort p st cause).crew.ports = h.crew.ports ∧
    ∀ f : RF, (∀ k ∈ roleFields, k.apart f) →
      (h.setCrewPort p st cause).get f = ((h.put (R.CREW_PORT_STATE p) st).put (R.CREW_PORT_CAUSE p) cause).get f := by
  unfold Hub.setCrewPort
  extract_lets up g
  have shown : g.crew.ports = h.crew.ports ∧ ∀ f : RF, (∀ k ∈ roleFields, k.apart f) →
      g.get f = ((h.put (R.CREW_PORT_STATE p) st).put (R.CREW_PORT_CAUSE p) cause).get f := by
    dsimp only [g]
    unfold Hub.showMismatch
    split
    · exact ⟨by simp only [Hub.put_crew], fun _ _ => rfl⟩
    · exact ⟨by simp only [Hub.put_crew], fun f hf => Hub.get_put_of_apart (hf R.CREW_STAT_MISMATCH (by simp [roleFields]))
      (by simp) _ _⟩
  clear_value g
  split
  · have lost := Hub.loseLeader_leaves g
    exact ⟨lost.1.trans shown.1, fun f hf => (lost.2 f hf).trans (shown.2 f hf)⟩
  · have claimed := (Hub.Claimed.chooseClaim g).trans (Hub.Claimed.showRoles _)
    exact ⟨claimed.ports.trans shown.1, fun f hf => (claimed.get f fun k hk => hf k (by simp [roleFields, hk])).trans
      (shown.2 f hf)⟩

theorem Hub.crewIrq_get (f : Hub → Hub) (h : Hub) (k : RF) (hk : ¬ framed (those []) k.off) : (h.crewIrq f).get k = (f h).get k :=
  (Hub.alters_crewIrq f h).get k hk

theorem Hub.showRoles_get (h : Hub) (f : RF) (hf : f.off < 0x800100) : h.showRoles.get f = h.get f :=
  Hub.upto_rel (Rel := fun a b => b.get f = a.get f) (fun _ => rfl) (fun _ _ _ x y => y.trans x)
    (fun p _ g => Hub.get_put_ne g _ f _ (by simp; omega)) h

theorem Hub.showDisc_get (h : Hub) (f : RF) (hf : f.off ≠ 0x130008) : h.showDisc.get f = h.get f := by
  unfold Hub.showDisc
  split
  · exact Hub.get_put_ne _ _ _ _ hf
  · rfl

theorem Hub.holdClaim_ownEpoch (c : Claim) (h : Hub) : (h.holdClaim c).crew.ownEpoch = h.crew.ownEpoch := by
  unfold Hub.holdClaim
  extract_lets own changed newLeader moved g g1 g2 c' g3
  have first : g.crew.ownEpoch = h.crew.ownEpoch := by
    dsimp only [g]
    split
    · unfold Hub.remuster
      simp only []
      split <;> simp
    · rfl
  clear_value g
  have second : g2.crew = g.crew := by simp only [g2, g1, Hub.put_crew]
  have third : g3.crew.ownEpoch = g2.crew.ownEpoch := by
    dsimp only [g3, c']
    split <;> rfl
  clear_value g2 g3
  rw [(Hub.alters_showRoles ..).crew (by simp), (Hub.alters_showDisc ..).crew (by simp), third, second, first]

/-- A claim that is not the one held: its epoch is stored and a muster begins. -/
theorem Hub.holdClaim_musters (c : Claim) (h : Hub) (new : h.get R.CREW_EPOCH ≠ c.epoch)
    (room : h.get R.CREW_EVT_REMUSTERS + 1 < 2 ^ (R.CREW_EVT_REMUSTERS).width) :
    (h.holdClaim c).get R.CREW_EPOCH = c.epoch % 2 ^ 32 ∧ (h.holdClaim c).get R.CREW_STAT_STATE = 1 ∧
      (h.holdClaim c).get R.CREW_EVT_REMUSTERS = h.get R.CREW_EVT_REMUSTERS + 1 := by
  unfold Hub.holdClaim
  extract_lets own changed newLeader moved g g1 g2 c' g3
  have begun : g.get R.CREW_STAT_STATE = 1 ∧ g.get R.CREW_EVT_REMUSTERS = h.get R.CREW_EVT_REMUSTERS + 1 := by
    dsimp only [g]
    rw [if_pos (.inr new)]
    unfold Hub.remuster
    simp only [Hub.get_eq] at room
    simp only []
    split <;> simp_all
  clear_value g
  have stored : g3.get R.CREW_EPOCH = c.epoch % 2 ^ 32 ∧ g3.get R.CREW_STAT_STATE = 1 ∧
      g3.get R.CREW_EVT_REMUSTERS = h.get R.CREW_EVT_REMUSTERS + 1 := by
    simp only [Hub.get_eq] at begun ⊢
    dsimp only [g3, g2, g1]
    split <;> simp [begun]
  clear_value g3
  rw [Hub.showRoles_get _ _ (by simp), Hub.showRoles_get _ _ (by simp), Hub.showRoles_get _ _ (by simp),
    Hub.showDisc_get _ _ (by simp), Hub.showDisc_get _ _ (by simp), Hub.showDisc_get _ _ (by simp)]
  exact stored

/-- A follower takes the best claim without answering claims to its own leadership. -/
theorem Hub.chooseClaim_ownEpoch (h : Hub) (follower : h.on R.CREW_STAT_IS_LEADER = false) :
    h.chooseClaim.crew.ownEpoch = h.crew.ownEpoch := by
  unfold Hub.chooseClaim Hub.answerOwn
  rw [follower]
  simp only [Bool.false_eq_true, if_false]
  split
  · exact Hub.holdClaim_ownEpoch ..
  · rfl

/-- A leader without an offer holds its own claim. -/
theorem Hub.chooseClaim_of_noOffer (h : Hub) (on : h.crewOn = true) (none : h.offers = []) :
    h.chooseClaim = h.holdClaim h.ownClaim := by
  have silent : h.answerOwn = h := by
    unfold Hub.answerOwn
    rw [none]
    split <;> rfl
  have best : h.bestClaim = h.ownClaim := by
    unfold Hub.bestClaim
    rw [none]
    rfl
  unfold Hub.chooseClaim
  rw [if_pos on]
  simp only [silent, best]

theorem Hub.judgeHello_lt (h : Hub) (b : List Byte) : (h.judgeHello b).1 < 8 ∧ (h.judgeHello b).2 < 16 := by
  unfold Hub.judgeHello
  repeat' split
  all_goals decide

theorem leAt_lt (b : List Byte) (i n : Nat) : leAt b i n < 256 ^ n := by
  have bound (l : List Byte) : ofLe l < 256 ^ l.length := by
    induction l with
    | nil => simp [ofLe]
    | cons x l ih =>
      have hx := x.isLt
      simp only [ofLe, List.length_cons, Nat.pow_succ]
      omega
  exact (bound _).trans_le (Nat.pow_le_pow_right (by decide) (by simp))

/-- What a HELLO on a port stores. -/
theorem Hub.takeHello_stores (p : Nat) (b : List Byte) (h : Hub) (hp : p < 32) :
    (h.takeHello p b).get (R.CREW_PORT_STATE p) = (h.judgeHello b).1 ∧
      (h.takeHello p b).get (R.CREW_PORT_CAUSE p) = (h.judgeHello b).2 ∧
      (h.takeHello p b).get (R.SER_PORT_STAT_PEER_V p) = 1 ∧ (h.takeHello p b).get (R.CREW_PEER_DIGEST p) = leAt b 8 4 ∧
      (h.takeHello p b).get (R.CREW_PORT_PEER p) = leAt b 0 1 % 64 ∧
      (h.takeHello p b).crewPort p = { h.crewPort p with
        heard := true, leader := leAt b 20 1, epoch := leAt b 16 4, dist := leAt b 21 1 } := by
  obtain ⟨hv, hc⟩ := Hub.judgeHello_lt h b
  have digest := leAt_lt b 8 4
  unfold Hub.takeHello
  extract_lets v k0 k1 k2 k3
  obtain ⟨ports, kept⟩ := Hub.setCrewPort_leaves p v.1 v.2 k3
  have heard : k3.crewPort p = { h.crewPort p with
      heard := true, leader := leAt b 20 1, epoch := leAt b 16 4, dist := leAt b 21 1 } := by
    have first : k0.crewPort p = h.crewPort p := by
      unfold Hub.crewPort
      rw [(Hub.alters_helloAlarm ..).crew (by simp)]
    rw [← first]
    simp only [k3, k2, Hub.crewPort, Hub.put_crew]
    exact Hub.crewPort_onCrewPort_same p _ k0
  have stored : k3.get (R.SER_PORT_STAT_PEER_V p) = 1 ∧ k3.get (R.CREW_PEER_DIGEST p) = leAt b 8 4 ∧
      k3.get (R.CREW_PORT_PEER p) = leAt b 0 1 % 64 := by
    clear_value k1
    refine ⟨by simp [k3, k2], ?_, by simp [k3, k2]⟩
    have kept3 (g : Hub) : ((((g.put (R.CREW_PORT_PEER p) (leAt b 0 1)).put (R.SER_PORT_STAT_PEER p) (leAt b 0 1)).put
        (R.SER_PORT_STAT_PEER_V p) 1)).get (R.CREW_PEER_DIGEST p) = g.get (R.CREW_PEER_DIGEST p) := by
      rw [Hub.get_put_ne _ _ _ _ (by simp; omega), Hub.get_put_ne _ _ _ _ (by simp; omega), Hub.get_put_ne _ _ _ _ (by simp)]
    simp only [k3, k2]
    rw [Hub.get_put_ne _ _ _ _ (by simp), Hub.get_put_ne _ _ _ _ (by simp), kept3, Hub.get_put_same _ _ _ (by simp)]
    exact Nat.mod_eq_of_lt digest
  clear_value k3
  rw [kept _ (apart_roles (by simp; omega) (by simp)), kept _ (apart_roles (by simp; omega) (by simp)),
    kept _ (apart_roles (by simp; omega) (by simp; omega)), kept _ (apart_roles (by simp; omega) (by simp; omega)),
    kept _ (apart_roles (by simp; omega) (by simp))]
  refine ⟨?_, ?_, ?_, ?_, ?_, ?_⟩
  · simp [Nat.mod_eq_of_lt (show v.1 < 8 from hv), v]
  · simp [Nat.mod_eq_of_lt (show v.2 < 16 from hc), v]
  · rw [Hub.get_put_ne _ _ _ _ (by simp; omega), Hub.get_put_ne _ _ _ _ (by simp; omega), stored.1]
  · rw [Hub.get_put_ne _ _ _ _ (by simp), Hub.get_put_ne _ _ _ _ (by simp), stored.2.1]
  · rw [Hub.get_put_apart _ _ _ _ (by simp) (by simp), Hub.get_put_apart _ _ _ _ (by simp) (by simp), stored.2.2]
  · unfold Hub.crewPort
    rw [ports]
    exact heard

/-- `g` is `h` with messages sent. -/
structure Hub.SentMore (h g : Hub) : Prop where
  same : g = { h with out := g.out }
  sent : ∀ o ∈ h.out, o ∈ g.out

theorem Hub.SentMore.refl (h : Hub) : Hub.SentMore h h := ⟨rfl, fun _ x => x⟩

theorem Hub.SentMore.trans (a b c : Hub) (x : Hub.SentMore a b) (y : Hub.SentMore b c) : Hub.SentMore a c :=
  ⟨by rw [y.same, x.same], fun o ho => y.sent o (x.sent o ho)⟩

theorem crewHelloTimer_sendsHelloOn :
    ∀ (p : Nat) (s : State),
    s.hub.crewOn = true →
    p < 32 →
    s.hub.crewUp p = true →
    ∃ t, exec .crewHelloTimer s = .next t ∧ Out.frame p 3 [] (crewFrame 0x10 (s.hub.get R.CREW_CTRL_ID)
      (s.hub.peerId p) 0 0 0 0 s.hub.helloBytes) ∈ t.hub.out ∧ t.hub.regs = s.hub.regs ∧ t.mem = s.mem := by
  intro p s h1 h2 h3
  refine ⟨_, (by unfold exec; exact State.act_next rfl _ _), ?_⟩
  dsimp only
  rw [if_pos h1]
  have others (j : Nat) (_ : j < 32) (_ : j ≠ p) (g : Hub) : Hub.SentMore g
      (if g.crewUp j then g.sendFrame j 0x10 (g.peerId j) 0 0 0 g.helloBytes else g) := by
    split
    · exact ⟨rfl, fun o ho => List.mem_cons_of_mem _ ho⟩
    · exact Hub.SentMore.refl g
  obtain ⟨g, before, after⟩ := Hub.upto_around Hub.SentMore.refl Hub.SentMore.trans h2 others s.hub
  have same := before.same
  have up : g.crewUp p = true := by rw [same]; exact h3
  rw [if_pos up] at after
  refine ⟨after.sent _ ?_, ?_, rfl⟩
  · have frame : crewFrame 0x10 (s.hub.get R.CREW_CTRL_ID) (s.hub.peerId p) 0 0 0 0 s.hub.helloBytes =
        crewFrame 0x10 (g.get R.CREW_CTRL_ID) (g.peerId p) 0 0 0 0 g.helloBytes := by rw [same]; rfl
    rw [frame]
    exact List.mem_cons_self ..
  · rw [after.same]
    show g.regs = s.hub.regs
    rw [same]

theorem crewHello_storesTheVerdict :
    ∀ (p v c : Nat) (payload : List Byte) (s : State),
    (Instr.crewHello p payload).wf = true →
    s.hub.crewOn = true →
    s.hub.crewUp p = true →
    s.hub.judgeHello payload = (v, c) →
    ∃ t, exec (.crewHello p payload) s = .next t ∧ t.hub.get (R.CREW_PORT_STATE p) = v ∧ t.hub.get (R.CREW_PORT_CAUSE p) = c ∧
      t.hub.get (R.SER_PORT_STAT_PEER_V p) = 1 ∧ t.hub.get (R.CREW_PEER_DIGEST p) = leAt payload 8 4 ∧ t.mem = s.mem := by
  intro p v c payload s hwf h1 h2 h3
  refine ⟨_, (by unfold exec; exact State.act_next hwf _ _), ?_⟩
  have hp : p < 32 := by simp [Instr.wf, Ok.crewHello] at hwf; omega
  dsimp only
  rw [if_pos ⟨h1, h2⟩, Hub.crewIrq_get _ _ _ (by simp [framed, logReg, evtReg, those]; omega),
    Hub.crewIrq_get _ _ _ (by simp [framed, logReg, evtReg, those]; omega),
    Hub.crewIrq_get _ _ _ (by simp [framed, logReg, evtReg, those]; omega),
    Hub.crewIrq_get _ _ _ (by simp [framed, logReg, evtReg, those]; omega)]
  obtain ⟨state, cause, known, digest, -, -⟩ := Hub.takeHello_stores p payload s.hub hp
  rw [h3] at state cause
  exact ⟨state, cause, known, digest, rfl⟩

theorem crewHello_judgedJoinedStores :
    ∀ (p : Nat) (payload : List Byte) (s : State),
    (Instr.crewHello p payload).wf = true →
    s.hub.crewOn = true →
    s.hub.crewUp p = true →
    s.hub.judgeHello payload = (2, 0) →
    ∃ t, exec (.crewHello p payload) s = .next t ∧ t.hub.joined p = true ∧ t.hub.get (R.CREW_PORT_PEER p) = leAt payload 0 1 ∧
      ((t.hub.crewPort p).heard, (t.hub.crewPort p).leader, (t.hub.crewPort p).epoch, (t.hub.crewPort p).dist) =
        (true, leAt payload 20 1, leAt payload 16 4, leAt payload 21 1) := by
  intro p payload s hwf h1 h2 h3
  refine ⟨_, (by unfold exec; exact State.act_next hwf _ _), ?_⟩
  have hp : p < 32 := by simp [Instr.wf, Ok.crewHello] at hwf; omega
  have named : leAt payload 0 1 ≤ 63 := by
    unfold Hub.judgeHello at h3
    by_contra far
    rw [if_pos (show 63 < leAt payload 0 1 by omega)] at h3
    split at h3 <;> simp at h3
  dsimp only
  obtain ⟨state, -, -, -, peer, heard⟩ := Hub.takeHello_stores p payload s.hub hp
  rw [h3] at state
  have told := Hub.alters_crewIrq (Hub.takeHello p payload) s.hub
  have port : ((s.hub.crewIrq (Hub.takeHello p payload)).crewPort p) = (s.hub.takeHello p payload).crewPort p := by
    unfold Hub.crewPort
    rw [told.crew (by simp)]
  rw [if_pos ⟨h1, h2⟩, Hub.joined, told.get _ (by simp [framed, logReg, evtReg, those]; omega), state,
    told.get _ (by simp [framed, logReg, evtReg, those]; omega), peer, port, heard]
  exact ⟨rfl, Nat.mod_eq_of_lt (by omega), rfl⟩

theorem crewPeerTimeout_forgetsThePeer :
    ∀ (p : Nat) (s : State),
    (Instr.crewPeerTimeout p).wf = true →
    s.hub.joined p = true →
    ∃ t, exec (.crewPeerTimeout p) s = .next t ∧ t.hub.get (R.CREW_PORT_STATE p) = 1 ∧ t.hub.get
      (R.SER_PORT_STAT_PEER_V p) = 0 ∧ t.hub.crewPort p = CrewPort.empty ∧ t.mem = s.mem := by
  intro p s hwf h1
  refine ⟨_, (by unfold exec; exact State.act_next hwf _ _), ?_⟩
  have hp : p < 32 := by simpa [Instr.wf, Ok.crewPeerTimeout] using hwf
  dsimp only
  rw [if_pos h1, Hub.crewWait]
  obtain ⟨ports, kept⟩ := Hub.setCrewPort_leaves p 1 0 (s.hub.onCrewPort p fun _ => CrewPort.empty)
  refine ⟨?_, ?_, ?_, rfl⟩
  · rw [Hub.crewIrq_get _ _ _ (by simp [framed, logReg, evtReg, those]; omega), Hub.get_put_ne _ _ _ _ (by simp; omega),
      kept _ (apart_roles (by simp; omega) (by simp))]
    simp
  · rw [Hub.crewIrq_get _ _ _ (by simp [framed, logReg, evtReg, those]; omega), Hub.get_put_same _ _ _ (by simp)]
    simp
  · unfold Hub.crewPort
    rw [(Hub.alters_crewIrq ..).crew (by simp), Hub.put_crew, ports]
    exact Hub.crewPort_onCrewPort_same p (fun _ => CrewPort.empty) s.hub

theorem claimHoldDownEnd_forgets :
    ∀ (leader : Nat) (s : State),
    (Instr.claimHoldDownEnd leader).wf = true →
    ∃ t, exec (.claimHoldDownEnd leader) s = .next t ∧ t.hub.crew.down = s.hub.crew.down.filter (fun (x
      : Nat × Nat) => x.1 != leader) ∧ t.mem = s.mem := by
  intro leader s hwf
  refine ⟨_, (by unfold exec; exact State.act_next hwf _ _), ?_⟩
  refine ⟨?_, rfl⟩
  dsimp only
  rw [(Hub.alters_crewIrq ..).crew (by simp), (Hub.Claimed.chooseClaim _).down]

theorem syncLoss_onAFollower :
    ∀ (s : State),
    s.hub.crewOn = true →
    s.hub.on R.CREW_STAT_IS_LEADER = false →
    s.hub.get (R.CREW_EVT_SYNC_LOST) + 1 < 2 ^ (R.CREW_EVT_SYNC_LOST).width →
    ∃ t, exec .syncLoss s = .next t ∧ t.hub.get R.CREW_EVT_SYNC_LOST = s.hub.get R.CREW_EVT_SYNC_LOST + 1
      ∧ t.hub.get R.TIME_STAT_TRUSTED = 0 ∧
      t.hub.crew.ownEpoch = (s.hub.get R.CREW_EPOCH + 1) % 2 ^ 32 ∧
        (s.hub.get R.CREW_STAT_LEADER, s.hub.get R.CREW_EPOCH) ∈ t.hub.crew.down ∧ t.mem = s.mem := by
  intro s h1 h2 h3
  refine ⟨_, (by unfold exec; exact State.act_next rfl _ _), ?_⟩
  dsimp only
  rw [if_pos h1, Hub.crewIrq_get _ _ _ (by simp [framed, logReg, evtReg, those]),
    Hub.crewIrq_get _ _ _ (by simp [framed, logReg, evtReg, those]), (Hub.alters_crewIrq ..).crew (by simp), Hub.loseLeader,
    if_neg (by rw [h2]; decide)]
  extract_lets l e g c
  have counted : g.get R.CREW_EVT_SYNC_LOST = s.hub.get R.CREW_EVT_SYNC_LOST + 1 := by
    exact (Hub.get_put_ne _ _ _ _ (by simp)).trans (Hub.bump_rget_same _ _ _ (by simp) h3)
  have follower : g.on R.CREW_STAT_IS_LEADER = false := by
    simpa [g] using h2
  have distrusted : g.get R.TIME_STAT_TRUSTED = 0 := by simp [g]
  refine ⟨?_, (Hub.Claimed.chooseClaim _).trusted distrusted, ?_, ?_, rfl⟩
  · refine ((Hub.Claimed.chooseClaim _).get _ fun k hk => ?_).trans counted
    simp only [claimFields, List.mem_cons, List.cons_append, List.nil_append, List.mem_map, List.mem_range] at hk
    rcases hk with rfl | rfl | rfl | rfl | rfl | rfl | rfl | rfl | rfl | ⟨q, hq, rfl⟩
    all_goals simp [RF.apart]
  · exact Hub.chooseClaim_ownEpoch _ follower
  · rw [(Hub.Claimed.chooseClaim _).down]
    exact List.mem_cons_self ..

theorem crewRemuster_byALeader :
    ∀ (req : Path) (s : State),
    (Instr.crewRemuster req).wf = true →
    req.holdsBlocks = true →
    s.hub.crewOn = true →
    s.hub.on R.CREW_STAT_IS_LEADER = true →
    s.hub.offers = [] →
    s.hub.get (R.CREW_EVT_REMUSTERS) + 1 < 2 ^ (R.CREW_EVT_REMUSTERS).width →
    ∃ t, exec (.crewRemuster req) s = .next t ∧ t.hub.get R.CREW_EPOCH = (s.hub.get R.CREW_EPOCH + 1) % 2 ^ 32
      ∧ t.hub.get R.CREW_STAT_STATE = 1 ∧
      t.hub.get R.CREW_EVT_REMUSTERS = s.hub.get R.CREW_EVT_REMUSTERS + 1 ∧ t.mem = s.mem := by
  intro req s hwf h1 h2 h3 h4 h5
  refine ⟨_, (by unfold exec; exact State.act_pfWrite_next hwf h1 _ _), ?_⟩
  dsimp only
  have narrow : s.hub.get R.CREW_EPOCH < 2 ^ 32 := bitsOf_lt ..
  generalize raised : ({ s.hub with crew := { s.hub.crew with ownEpoch := (s.hub.get R.CREW_EPOCH + 1) % 2 ^ 32 } } : Hub) = k
  have same : k.regs = s.hub.regs ∧ k.offers = s.hub.offers ∧ k.ownClaim.epoch = (s.hub.get R.CREW_EPOCH + 1) % 2 ^ 32 := by
    subst raised
    exact ⟨rfl, rfl, rfl⟩
  obtain ⟨regs, offers, own⟩ := same
  have chosen : k.chooseClaim = k.holdClaim k.ownClaim :=
    Hub.chooseClaim_of_noOffer k (by subst raised; exact h2) (offers.trans h4)
  obtain ⟨epoch, state, count⟩ := Hub.holdClaim_musters k.ownClaim k (by rw [own, Hub.get_of_regs regs]; omega)
    (by rw [Hub.get_of_regs regs]; exact h5)
  rw [Hub.askRemuster, if_pos h2, Hub.crewIrq_get _ _ _ (by simp [framed, logReg, evtReg, those]),
    Hub.crewIrq_get _ _ _ (by simp [framed, logReg, evtReg, those]),
    Hub.crewIrq_get _ _ _ (by simp [framed, logReg, evtReg, those]), if_pos h3, raised, chosen]
  refine ⟨epoch.trans ?_, state, count.trans (by rw [Hub.get_of_regs regs]), rfl⟩
  rw [own, Nat.mod_mod]

theorem crewRemuster_off :
    ∀ (req : Path) (s : State),
    (Instr.crewRemuster req).wf = true →
    s.hub.crewOn = false →
    ∃ t, exec (.crewRemuster req) s = .next t ∧ t = s := by
  intro req s hwf h1
  refine ⟨_, (by unfold exec; exact State.act_next hwf _ _), ?_⟩
  simp [Hub.pfWrite, Hub.askRemuster, h1]

theorem mustered_setsState :
    ∀ (s : State),
    s.hub.crewOn = true →
    s.hub.get R.CREW_STAT_STATE = 1 →
    ∃ t, exec .mustered s = .next t ∧ t.hub.get R.CREW_STAT_STATE = 2 ∧ t.hub.get R.TIME_STAT_DISC =
      (if s.hub.on R.CREW_STAT_IS_LEADER then 2 else 1) ∧
      t.hub.get R.TIME_STAT_TRUSTED = (if s.hub.on R.CREW_STAT_IS_LEADER = true
        ∧ s.hub.on R.TIME_STAT_REFLOST = false then 1 else s.hub.get R.TIME_STAT_TRUSTED) ∧ t.mem = s.mem := by
  intro s h1 h2
  refine ⟨_, (by unfold exec; exact State.act_next rfl _ _), ?_⟩
  dsimp only
  rw [if_pos ⟨h1, h2⟩, Hub.crewIrq_get _ _ _ (by simp [framed, logReg, evtReg, those]),
    Hub.crewIrq_get _ _ _ (by simp [framed, logReg, evtReg, those]),
    Hub.crewIrq_get _ _ _ (by simp [framed, logReg, evtReg, those])]
  have on : s.hub.get R.CREW_CTRL_EN ≠ 0 := by simpa [Hub.crewOn] using h1
  cases lead : s.hub.on R.CREW_STAT_IS_LEADER <;> cases lost : s.hub.on R.TIME_STAT_REFLOST <;>
    simp_all [Hub.showDisc, Hub.leaderTrusts, Hub.crewOn]

/-- Settles O51: one lemma per clause. -/
theorem crewMusters : Obligations.CrewMusters := by
  unfold Obligations.CrewMusters
  exact ⟨crewHelloTimer_sendsHelloOn, crewHello_storesTheVerdict, crewHello_judgedJoinedStores,
    crewPeerTimeout_forgetsThePeer, claimHoldDownEnd_forgets, syncLoss_onAFollower, crewRemuster_byALeader, crewRemuster_off,
    mustered_setsState⟩

end Sys2Proof.Machine
end

section
/-!
### Pins given back

What the end of a TAP instruction alters: no register of the test block but the instruction register.
-/
namespace Sys2Proof.Machine

open Hub.Alters

/-- The registers that giving the pins back can alter: of domains, lanes, ports and the crew. -/
abbrev pinReg (a : Nat) : Prop :=
  powerReg a ∨ within 0x700000 0x800000 a ∨ within 0x800000 0x900000 a ∨ within 0x130000 0x140000 a

/-- The registers of the domains, the lanes and the serial quads. -/
abbrev laneReg (a : Nat) : Prop := powerReg a ∨ within 0x700000 0x781000 a

theorem quadsOfLanes_lt {l : List Nat} {q : Nat} (hq : q ∈ quadsOfLanes l) : q < 8 :=
  List.mem_range.mp (List.mem_filter.mp hq).1

theorem Hub.portLanes_lt {h : Hub} {p l : Nat} (hl : l ∈ h.portLanes p) : l < 64 := by
  have first : h.get (R.SER_PORT_CFG_FIRST p) < 2 ^ 5 := Hub.get_lt h _
  have width : h.get (R.SER_PORT_CFG_WIDTH p) < 2 ^ 4 := Hub.get_lt h _
  have := (mem_lanesOf.mp hl).2
  omega

theorem Hub.alters_demandDom (n : Nat) (h : Hub) (_hb : n < 74 := by omega) :
    Hub.Alters [.power] powerReg h (h.demandDom n) := by
  unfold Hub.demandDom
  exact branch (Hub.alters_askOn n h) (self ..)

theorem Hub.alters_showQuad (q : Nat) (h : Hub) (_hb : q < 8 := by omega) :
    Hub.Alters [] laneReg h (h.showQuad q) := by
  unfold Hub.showQuad
  split
  · exact ((self ..).put _).put _
  · exact branch (((self ..).put _).put _) (((self ..).put _).put _)

theorem Hub.alters_showLanePort (l p : Nat) (h : Hub) (_hb : l < 64 := by omega) :
    Hub.Alters [] laneReg h (h.showLanePort l p) := by
  unfold Hub.showLanePort
  exact branch ((self ..).put _) (self ..)

theorem Hub.restLane_alters_lanes (l : Nat) (h : Hub) (_hb : l < 64 := by omega) :
    Hub.Alters [.ser] laneReg h (h.restLane l) := by
  unfold Hub.restLane Hub.setLane Hub.onLane
  exact branch ((((((self ..).put _).set_ser _).put _).put _).putFree) ((self ..).put _)

theorem Hub.crewWait_keeps_portState (p : Nat) (h : Hub) (hp : p < 32) :
    (h.crewWait p).get (R.SER_PORT_STAT_STATE p) = h.get (R.SER_PORT_STAT_STATE p) := by
  unfold Hub.crewWait
  rw [Hub.crewIrq_get _ _ _ (by simp [framed, logReg, evtReg, those]; omega), Hub.get_put_apart _ _ _ _ (by simp) (by simp)]
  exact (Hub.alters_setCrewPort p 1 0 _).get _ (by simp [framed, logReg, evtReg, within]; omega)

/-- A port that is not up has no work that its fall could end. -/
theorem Hub.alters_portLeave_idle (p st reason : Nat) (h : Hub) (hp : p < 32) (down : h.portState p ≠ 2) :
    Hub.Alters [.crew] pinReg h (h.portLeave p st reason) := by
  unfold Hub.portLeave
  extract_lets was g g1
  have low : Hub.Alters [.crew] pinReg h g := (((self ..).put _).put _).put _
  have idle : g1 = g := if_neg (by simp [was, down])
  rw [idle]
  exact branch (low.andThen (Hub.alters_crewWait p g)) low

theorem Hub.alters_portEnable (p : Nat) (h : Hub) (hp : p < 32) :
    Hub.Alters [.power, .ser, .crew] pinReg h (h.portEnable p) := by
  unfold Hub.portEnable
  extract_lets r h1 h2 h3 h4 h5
  have started : Hub.Alters [.power, .ser, .crew] pinReg h h2 := (((self ..).set_ser _).put _).put _
  have lanes : Hub.Alters [.power, .ser, .crew] laneReg h2 h4 := by
    refine ((self ..).each _ fun q hq g => ?_).each _ fun l hl g => ?_
    · have := quadsOfLanes_lt hq
      exact ((self ..).andThen (Hub.alters_demandDom ..) (hW := fun _ x => .inr (.inr (.inl x)))).trans
        ((Hub.alters_showQuad ..).mono (by simp) fun _ x => .inr (.inr x))
    · have := Hub.portLanes_lt hl
      exact ((self ..).andThen (Hub.alters_showLanePort ..) (hW := fun _ x => .inr (.inr x))).andThen
        (Hub.restLane_alters_lanes ..) (hW := fun _ x => .inr (.inr x))
  have after : Hub.Alters [.power, .ser, .crew] pinReg h h5 :=
    (started.andThen lanes).trans (branch ((self ..).andThen (Hub.alters_crewWait ..)) (self ..))
  have training : h5.portState p = 1 := by
    have first : h4.get (R.SER_PORT_STAT_STATE p) = 1 := by
      rw [lanes.get _ (by simp [framed, logReg, evtReg, within]; omega)]
      simp only [h2]
      rw [Hub.get_put_apart _ _ _ _ (by simp) (by simp), Hub.get_put_same _ _ _ (by simp)]
      rfl
    unfold Hub.portState
    simp only [h5]
    split
    · rw [Hub.crewWait_keeps_portState _ _ hp, first]
    · exact first
  exact branch (((self ..).put _).put _)
    (branch (after.andThen (Hub.alters_portLeave_idle p 3 3 h5 hp (by rw [training]; decide))) after)

theorem Hub.alters_returnPins (h : Hub) : Hub.Alters [.power, .ser, .crew] pinReg h h.returnPins := by
  unfold Hub.returnPins
  exact (self ..).upto _ fun p hp g => branch (Hub.alters_portEnable p g hp) (self ..)

/-- The opcodes that leave the pins to operation. -/
abbrev leavesPins (op : Nat) : Prop := op % 256 ∉ [0, 4, 5, 6, 7]

/-- The instruction register takes the opcode, and pins that were taken are given back. -/
theorem Hub.setIr_leaves (op : Nat) (h : Hub) (free : leavesPins op) :
    (h.setIr op).get R.TEST_JTAG_STAT_IR = op % 256 ∧
      Hub.Alters [.power, .ser, .crew] pinReg (h.put R.TEST_JTAG_STAT_IR op) (h.setIr op) := by
  unfold Hub.setIr
  extract_lets was g
  have stored : g.get R.TEST_JTAG_STAT_IR = op % 256 := Hub.get_put_same _ _ _ (by simp)
  have out : g.pinsOut = false := by
    unfold Hub.pinsOut
    rw [stored]
    simpa [leavesPins] using free
  rw [if_neg (by simp [out])]
  split
  · exact ⟨((Hub.alters_returnPins g).get _ (by simp [framed, logReg, evtReg, within])).trans stored, Hub.alters_returnPins g⟩
  · exact ⟨stored, self ..⟩

/-- A register field of the test block but the instruction register's word reads as before. -/
theorem Hub.setIr_get (op : Nat) (h : Hub) (free : leavesPins op) (f : RF) (hf : within 0xA00000 0xB00000 f.off)
    (apart : RF.apart R.TEST_JTAG_STAT_IR f) : (h.setIr op).get f = h.get f := by
  rw [(Hub.setIr_leaves op h free).2.get f (by simp [framed, logReg, evtReg, within] at hf ⊢; omega)]
  exact Hub.get_put_of_apart apart (by simp) _ _

/-- A word of the test block but the instruction register's reads as before. -/
theorem Hub.setIr_reg (op : Nat) (h : Hub) (free : leavesPins op) {a : Nat} (ha : within 0xA00000 0xB00000 a)
    (other : a ≠ R.TEST_JTAG_STAT_IR.off) : (h.setIr op).reg a = h.reg a := by
  rw [(Hub.setIr_leaves op h free).2.reg a (by simp [framed, logReg, evtReg, within] at ha ⊢; omega)]
  exact Hub.reg_put_ne _ _ _ other
end Sys2Proof.Machine
end

section
/-!
### What the TAP reads and loads
-/
namespace Sys2Proof.Machine

set_option Elab.async false
open Hub.Alters

/-- What a load at an open level does: the instruction register takes the opcode and the load follows. -/
theorem Hub.tapLoad_open (op lvl : Nat) (f : Hub → Hub) (h : Hub) (hl : lvl ≤ h.level) : h.tapLoad op lvl f = f (h.setIr op) :=
  if_pos hl

theorem Hub.get_send (h : Hub) (o : Out) (f : RF) : (h.send o).get f = h.get f := rfl

theorem Hub.setIr_ir (op : Nat) (h : Hub) (free : leavesPins op) : (h.setIr op).get R.TEST_JTAG_STAT_IR = op % 256 :=
  (Hub.setIr_leaves op h free).1

theorem Hub.setIr_level (op : Nat) (h : Hub) (free : leavesPins op) : (h.setIr op).level = h.level :=
  Hub.setIr_get op h free R.TEST_HEDGE_STAT_LEVEL (by simp [within]) (.inl (by simp))

theorem Hub.wordsOf_congr {g h : Hub} {n : Nat} {f : Nat → RF} (same : ∀ i < n, g.get (f i) = h.get (f i)) :
    g.wordsOf n f = h.wordsOf n f := by
  unfold Hub.wordsOf
  exact List.foldl_ext _ _ _ fun a i hi => by rw [same i (List.mem_range.mp hi)]

/-- No attempt is open, or it is the TAP's own. -/
def Hub.TapMaySubmit (h : Hub) : Prop := h.attemptOpen = false ∨ h.get R.TEST_HEDGE_STAT_PATH = 1

theorem Hub.tapMaySubmit_of_reg {g h : Hub} (same : g.reg 0xA00400 = h.reg 0xA00400) (may : h.TapMaySubmit) : g.TapMaySubmit := by
  have field (f : RF) (hf : f.off = 0xA00400) : g.get f = h.get f := by
    unfold Hub.get
    rw [hf, same]
  unfold Hub.TapMaySubmit Hub.attemptOpen at *
  rw [field R.TEST_HEDGE_STAT_STATE rfl, field R.TEST_HEDGE_STAT_PATH rfl]
  exact may

theorem Hub.hedgeWord_tap (f : RF) (v : Word) (h : Hub) (may : h.TapMaySubmit) : h.hedgeWord .tap f v = h.put f v.toNat := by
  unfold Hub.hedgeWord
  rw [if_neg (by simp), if_neg]
  rintro ⟨opened, path⟩
  obtain shut | own := may
  · rw [shut] at opened
    exact absurd opened (by decide)
  · exact path own

/-- A load at an open level acts on a hub whose instruction register holds the opcode. -/
theorem Hub.tapLoad_loads (op lvl : Nat) (f : Hub → Hub) (h : Hub) (hl : lvl ≤ h.level) (free : leavesPins op) :
    ∃ g, h.tapLoad op lvl f = f g ∧ g.get R.TEST_JTAG_STAT_IR = op % 256 :=
  ⟨_, Hub.tapLoad_open op lvl f h hl, Hub.setIr_ir op h free⟩

/-- A submission of words fills the fields named, one by one. -/
theorem Hub.hedgeWords_stores (f : Nat → RF) (whole : ∀ i, (f i).lo = 0 ∧ (f i).width = 32)
    (apart : ∀ i j, i ≠ j → (f i).off ≠ (f j).off) (stat : ∀ i, (f i).off ≠ 0xA00400) :
    ∀ (words : List Word) (k : Nat) (h : Hub), h.TapMaySubmit →
      (∀ a, (∀ j, k ≤ j → j < k + words.length → (f j).off ≠ a) →
        (h.each (words.zipIdx k) fun e g => g.hedgeWord .tap (f e.2) e.1).reg a = h.reg a) ∧
      ∀ i, i < words.length →
        (h.each (words.zipIdx k) fun e g => g.hedgeWord .tap (f e.2) e.1).get (f (k + i)) = (words.getD i 0).toNat := by
  intro words
  induction words with
  | nil => exact fun k h _ => ⟨fun _ _ => rfl, fun i hi => absurd hi (Nat.not_lt_zero i)⟩
  | cons w ws ih =>
    intro k h may
    have step : (h.each ((w :: ws).zipIdx k) fun e g => g.hedgeWord .tap (f e.2) e.1) =
        ((h.put (f k) w.toNat).each (ws.zipIdx (k + 1)) fun e g => g.hedgeWord .tap (f e.2) e.1) := by
      rw [List.zipIdx_cons, ← Hub.hedgeWord_tap _ _ _ may]
      rfl
    obtain ⟨kept, stored⟩ := ih (k + 1) (h.put (f k) w.toNat)
      (Hub.tapMaySubmit_of_reg (Hub.reg_put_ne _ _ _ (stat k).symm) may)
    rw [step]
    refine ⟨fun a ha => ?_, fun i hi => ?_⟩
    · rw [kept a fun j hj hl => ha j (by omega) (by simp; omega)]
      exact Hub.reg_put_ne _ _ _ (ha k (Nat.le_refl k) (by simp)).symm
    · cases i with
      | zero =>
        have first : ∀ j, k + 1 ≤ j → j < k + 1 + ws.length → (f j).off ≠ (f k).off := fun j hj _ => apart j k (by omega)
        have word : (h.put (f k) w.toNat).get (f k) = w.toNat := by
          rw [Hub.get_put_same _ _ _ (by simp [whole k]), (whole k).2, Nat.mod_eq_of_lt w.isLt]
        simp only [Nat.add_zero]
        refine Eq.trans ?_ word
        unfold Hub.get
        rw [kept _ fun j hj hl => first j hj hl]
      | succ i =>
        have next : k + (i + 1) = k + 1 + i := by omega
        rw [next, stored i (by simpa using hi)]
        rfl

/-- A submission through the TAP leaves its opcode selected and the words stored. -/
theorem Hub.tapSubmit_stores (op n i : Nat) (f : Nat → RF) (whole : ∀ i, (f i).lo = 0 ∧ (f i).width = 32)
    (apart : ∀ i j, i ≠ j → (f i).off ≠ (f j).off) (stat : ∀ i, (f i).off ≠ 0xA00400)
    (clear : ∀ j, j < n → (f j).off ≠ R.TEST_JTAG_STAT_IR.off) (words : List Word) (h : Hub) (free : leavesPins op)
    (hn : words.length = n) (hi : i < n) (may : h.TapMaySubmit) :
    ((h.setIr op).hedgeWords f words).get R.TEST_JTAG_STAT_IR = op % 256 ∧
      ((h.setIr op).hedgeWords f words).get (f i) = (words.getD i 0).toNat := by
  have ir := Hub.setIr_ir op h free
  have may' : (h.setIr op).TapMaySubmit := Hub.tapMaySubmit_of_reg (Hub.setIr_reg op h free (by simp [within]) (by simp)) may
  obtain ⟨kept, stored⟩ := Hub.hedgeWords_stores f whole apart stat words 0 (h.setIr op) may'
  unfold Hub.hedgeWords
  refine ⟨?_, ?_⟩
  · unfold Hub.get at ir ⊢
    rw [kept _ fun j _ hj => clear j (by omega)]
    exact ir
  · have word := stored i (by omega)
    rw [Nat.zero_add] at word
    exact word

/-- A TAP read of a plain word of the test block answers the live word and clears the word's RC fields. -/
theorem Hub.tapRead_plain (off : Nat) (g : Hub) (low : 0xA00000 ≤ off) (high : off < 0xB00000) (word : off % 4 = 0)
    (shown : g.guarded off = false) (whole : isLowHalf off = false) (first : off < 4 ∨ isLowHalf (off - 4) = false) :
    g.readAnswer .tap off 32 = (g.clearRc off).send (.readData .tap (g.live off).toNat) := by
  have aligned : off / 4 * 4 = off := by omega
  have clean : g.sramErr off = 0 := by
    unfold Hub.sramErr
    rw [if_pos (by unfold sramOf; rw [if_neg (by omega), if_neg (by omega), if_neg (by omega)])]
  have elsewhere : inStride off 0x201000 4 48 0 = false := by
    unfold inStride
    simp
    omega
  have after : ¬ (4 ≤ off ∧ isLowHalf (off - 4) = true) := by
    rintro ⟨far, half⟩
    rcases first with near | other
    · omega
    · rw [other] at half
      exact absurd half (by decide)
  have placed : g.place .tap off = .reg off := if_pos ⟨low, high⟩
  have read : g.readAt .tap off = .of (g.live off) (g.clearRc off) := by
    unfold Hub.readAt
    rw [placed]
    dsimp only
    unfold Hub.readChecked Hub.readReg
    rw [if_pos (.inr clean), if_neg (by rw [shown]; decide), if_neg (by rw [whole]; decide), if_neg after, if_neg (by omega),
      if_neg (by rw [elsewhere]; simp)]
  unfold Hub.readAnswer
  rw [if_neg (by omega), if_neg (by decide)]
  dsimp only
  rw [aligned, read]
  have value : (g.live off).toNat / 2 ^ (8 * (off % 4)) % 2 ^ 32 = (g.live off).toNat := by
    rw [word, Nat.mul_zero, Nat.pow_zero, Nat.div_one, Nat.mod_eq_of_lt (g.live off).isLt]
  show (g.clearRc off).send (.readData .tap ((g.live off).toNat / 2 ^ (8 * (off % 4)) % 2 ^ 32)) = _
  rw [value]

/-- A word of the test block is read live as it is stored, without its write-only fields. -/
theorem Hub.live_test (off : Nat) (g : Hub) (low : 0xA00000 ≤ off) :
    g.live off = g.reg off &&& ~~~ maskOf off fun f => f.acc == .wo := by
  have elsewhere : inStride off 0x129000 16 64 4 = false := by
    unfold inStride
    simp
    omega
  unfold Hub.live
  rw [if_neg (by omega), if_neg (by omega), if_neg (by omega), elsewhere]
  rfl

/-- At level 1 the response words are open to the TAP. -/
theorem Hub.responseWord_open (g : Hub) (i : Nat) (hi : i < 8) (level : 1 ≤ g.level) : g.guarded (0xA00430 + 4 * i) = false := by
  have levels : ∀ i < 8, ((findReg (0xA00430 + 4 * i)).map fun x => decide (x.1.level ≤ 1)).getD true = true := by decide +kernel
  have here := levels i hi
  unfold Hub.guarded
  split
  · rfl
  · next r _ _ found =>
    rw [found] at here
    have : r.level ≤ 1 := by simpa using here
    simp
    omega

theorem idcode_answersTheCode :
    ∀ (s : State),
    ∃ t, exec .idcode s = .next t ∧ t.hub.get R.TEST_JTAG_STAT_IR = 1 ∧ Out.readData .tap (idcode Config.jep106) ∈ t.hub.out := by
  intro s
  refine ⟨_, (by unfold exec; exact State.act_next rfl _ _), ?_⟩
  have ir := Hub.setIr_ir 1 s.hub (by decide)
  dsimp only
  rw [Hub.tapLoad_open _ _ _ _ (Nat.zero_le _)]
  generalize s.hub.setIr 1 = g at ir ⊢
  exact ⟨(Hub.get_send ..).trans ir, List.mem_cons_self⟩

theorem trstNAssert_selectsIdcode :
    ∀ (s : State),
    ∃ t, exec .trstNAssert s = .next t ∧ t.hub.get R.TEST_JTAG_STAT_IR = 1 := by
  intro s
  refine ⟨_, (by unfold exec; exact State.act_next rfl _ _), ?_⟩
  have ir := Hub.setIr_ir 1 s.hub (by decide)
  dsimp only
  generalize s.hub.setIr 1 = g at ir ⊢
  exact ir

theorem bypass_ofAnUnlisted :
    ∀ (op : Nat) (s : State),
    (Instr.bypass op).wf = true →
    op ≠ 0xFF →
    s.hub.get (R.TEST_JTAG_STAT_DENIED) + 1 < 2 ^ (R.TEST_JTAG_STAT_DENIED).width →
    ∃ t, exec (.bypass op) s = .next t ∧ t.hub.get R.TEST_JTAG_STAT_IR = 0xFF
      ∧ t.hub.get R.TEST_JTAG_STAT_DENIED = s.hub.get R.TEST_JTAG_STAT_DENIED + 1 := by
  intro op s hwf h1 h2
  refine ⟨_, (by unfold exec; exact State.act_next hwf _ _), ?_⟩
  have denied := Hub.setIr_get 0xFF s.hub (by decide) R.TEST_JTAG_STAT_DENIED (by simp [within]) (.inr (by simp))
  have ir := Hub.setIr_ir 0xFF s.hub (by decide)
  dsimp only
  rw [if_neg h1, Hub.denied]
  generalize s.hub.setIr 0xFF = g at ir denied ⊢
  have room : g.get R.TEST_JTAG_STAT_DENIED + 1 < 2 ^ (R.TEST_JTAG_STAT_DENIED).width := by
    rw [denied]
    exact h2
  have counted := Hub.bump_rget_same g _ _ (by simp) room
  rw [← Hub.get_eq, ← Hub.get_eq, denied] at counted
  exact ⟨(Hub.get_bump_of_apart (.inr (by simp)) (by simp) _ _).trans ir, counted⟩

theorem bypass_0xffCountsNothing :
    ∀ (s : State),
    ∃ t, exec (.bypass 0xFF) s = .next t ∧ t.hub.get R.TEST_JTAG_STAT_IR = 0xFF
      ∧ t.hub.get R.TEST_JTAG_STAT_DENIED = s.hub.get R.TEST_JTAG_STAT_DENIED := by
  intro s
  refine ⟨_, (by unfold exec; exact State.act_next rfl _ _), ?_⟩
  have denied := Hub.setIr_get 0xFF s.hub (by decide) R.TEST_JTAG_STAT_DENIED (by simp [within]) (.inr (by simp))
  have ir := Hub.setIr_ir 0xFF s.hub (by decide)
  dsimp only
  rw [if_pos rfl]
  generalize s.hub.setIr 0xFF = g at ir denied ⊢
  exact ⟨ir, denied⟩

theorem sample_capturesAndAnswers :
    ∀ (pins : Nat) (s : State),
    (Instr.sample pins).wf = true →
    ∃ t, exec (.sample pins) s = .next t ∧ t.hub.get R.TEST_JTAG_STAT_IR = 2 ∧ t.hub.test.boundary = pins
      ∧ Out.readData .tap pins ∈ t.hub.out := by
  intro pins s hwf
  refine ⟨_, (by unfold exec; exact State.act_next hwf _ _), ?_⟩
  obtain ⟨g, loaded, ir⟩ := Hub.tapLoad_loads 2 _ _ s.hub (Nat.zero_le _) (by decide)
  dsimp only
  rw [loaded]
  exact ⟨(Hub.get_congr (h := g) rfl _).trans ir, rfl, List.mem_cons_self⟩

theorem preload_atLevel1 :
    ∀ (v : Nat) (s : State),
    (Instr.preload v).wf = true →
    1 ≤ s.hub.level →
    ∃ t, exec (.preload v) s = .next t ∧ t.hub.get R.TEST_JTAG_STAT_IR = 3 ∧ t.hub.test.boundary = v := by
  intro v s hwf h1
  refine ⟨_, (by unfold exec; exact State.act_next hwf _ _), ?_⟩
  obtain ⟨g, loaded, ir⟩ := Hub.tapLoad_loads 3 _ _ s.hub h1 (by decide)
  dsimp only
  rw [loaded]
  exact ⟨(Hub.get_congr (h := g) rfl _).trans ir, rfl⟩

theorem hedgeChal_answersTheChallenge :
    ∀ (s : State),
    ∃ t, exec .hedgeChal s = .next t ∧ t.hub.get R.TEST_JTAG_STAT_IR = 0x11 ∧ Out.readData .tap
      (s.hub.wordsOf 8 R.TEST_HEDGE_CHAL) ∈ t.hub.out := by
  intro s
  refine ⟨_, (by unfold exec; exact State.act_next rfl _ _), ?_⟩
  have ir := Hub.setIr_ir 0x11 s.hub (by decide)
  have words : (s.hub.setIr 0x11).wordsOf 8 R.TEST_HEDGE_CHAL = s.hub.wordsOf 8 R.TEST_HEDGE_CHAL :=
    Hub.wordsOf_congr fun i hi => Hub.setIr_get 0x11 s.hub (by decide) _ (by simp [within]; omega) (.inl (by simp; omega))
  dsimp only
  rw [Hub.tapLoad_open _ _ _ _ (Nat.zero_le _)]
  generalize s.hub.setIr 0x11 = g at ir words ⊢
  refine ⟨(Hub.get_send ..).trans ir, ?_⟩
  rw [words]
  exact List.mem_cons_self

theorem hedgeStat_answersTheStatus :
    ∀ (s : State),
    ∃ t, exec .hedgeStat s = .next t ∧ t.hub.get R.TEST_JTAG_STAT_IR = 0x15 ∧ Out.readData .tap
      (s.hub.reg 0xA00400).toNat ∈ t.hub.out := by
  intro s
  refine ⟨_, (by unfold exec; exact State.act_next rfl _ _), ?_⟩
  have ir := Hub.setIr_ir 0x15 s.hub (by decide)
  have word : (s.hub.setIr 0x15).reg 0xA00400 = s.hub.reg 0xA00400 :=
    Hub.setIr_reg 0x15 s.hub (by decide) (by simp [within]) (by simp)
  dsimp only
  rw [Hub.tapLoad_open _ _ _ _ (Nat.zero_le _)]
  generalize s.hub.setIr 0x15 = g at ir word ⊢
  refine ⟨(Hub.get_send ..).trans ir, ?_⟩
  rw [word]
  exact List.mem_cons_self

theorem hedgeResp_outsideAnotherPaths :
    ∀ (words : List Word) (i : Nat) (s : State),
    (Instr.hedgeResp words).wf = true →
    words.length = 8 →
    i < 8 →
    (s.hub.attemptOpen = false ∨ s.hub.get R.TEST_HEDGE_STAT_PATH = 1) →
    ∃ t, exec (.hedgeResp words) s = .next t ∧ t.hub.get R.TEST_JTAG_STAT_IR = 0x12 ∧ t.hub.get (R.TEST_HEDGE_RESP i) =
      (words.getD i 0).toNat := by
  intro words i s hwf h1 h2 h3
  refine ⟨_, (by unfold exec; exact State.act_next hwf _ _), ?_⟩
  dsimp only
  rw [Hub.tapLoad_open _ _ _ _ (Nat.zero_le _)]
  exact Hub.tapSubmit_stores 0x12 8 i R.TEST_HEDGE_RESP (fun _ => ⟨rfl, rfl⟩) (by intro i j; simp) (by intro i; simp; omega)
    (by intro j hj; simp; omega) words s.hub (by decide) h1 h2 h3

theorem hedgeToken_likewiseStoresThe :
    ∀ (words : List Word) (i : Nat) (s : State),
    (Instr.hedgeToken words).wf = true →
    words.length = 64 →
    i < 64 →
    (s.hub.attemptOpen = false ∨ s.hub.get R.TEST_HEDGE_STAT_PATH = 1) →
    ∃ t, exec (.hedgeToken words) s = .next t ∧ t.hub.get R.TEST_JTAG_STAT_IR = 0x13 ∧ t.hub.get (R.TEST_HEDGE_TOKEN i) =
      (words.getD i 0).toNat := by
  intro words i s hwf h1 h2 h3
  refine ⟨_, (by unfold exec; exact State.act_next hwf _ _), ?_⟩
  dsimp only
  rw [Hub.tapLoad_open _ _ _ _ (Nat.zero_le _)]
  exact Hub.tapSubmit_stores 0x13 64 i R.TEST_HEDGE_TOKEN (fun _ => ⟨rfl, rfl⟩) (by intro i j; simp) (by intro i; simp; omega)
    (by intro j hj; simp; omega) words s.hub (by decide) h1 h2 h3

theorem testReg_readAtLevel :
    ∀ (off : Nat) (v : Word) (s : State),
    (Instr.testReg false off v).wf = true →
    1 ≤ s.hub.level →
    off ≠ (R.TEST_JTAG_STAT_IR).off →
    off < 0x2000000 →
    s.hub.sramErr off = 0 →
    s.hub.guarded off = false →
    isLowHalf off = false →
    (off < 4 ∨ isLowHalf (off - 4) = false) →
    ∃ t, exec (.testReg false off v) s = .next t ∧ t.hub.get R.TEST_JTAG_STAT_IR = 0x18 ∧ Out.readData .tap
      (s.hub.live off).toNat ∈ t.hub.out := by
  intro off v s hwf h1 h2 h3 h4 h5 h6 h7
  refine ⟨_, (by unfold exec; exact State.act_next hwf _ _), ?_⟩
  obtain ⟨low, high, word⟩ : 0xA00000 ≤ off ∧ off < 0xB00000 ∧ off % 4 = 0 := by
    simpa [Instr.wf, Ok.testReg, and_assoc] using hwf
  have ir := Hub.setIr_ir 0x18 s.hub (by decide)
  have same := Hub.setIr_reg 0x18 s.hub (by decide) ⟨low, high⟩ h2
  have level := Hub.setIr_level 0x18 s.hub (by decide)
  dsimp only
  rw [Hub.tapLoad_open _ _ _ _ h1]
  generalize s.hub.setIr 0x18 = g at ir same level ⊢
  have shown : g.guarded off = false := by
    unfold Hub.guarded at h5 ⊢
    rw [level]
    exact h5
  have live : s.hub.live off = g.live off := by rw [Hub.live_test off _ low, Hub.live_test off _ low, same]
  rw [if_neg (by decide), Hub.tapRead_plain off g low high word shown h6 h7, live]
  exact ⟨(Hub.get_send ..).trans ((Hub.get_setReg_ne _ _ _ (Ne.symm h2)).trans ir), List.mem_cons_self⟩

theorem testReg_writeAtLevel :
    ∀ (i : Nat) (v : Word) (s : State),
    (Instr.testReg true (0xA00430 + 4 * i) v).wf = true →
    i < 8 →
    1 ≤ s.hub.level →
    s.hub.attemptOpen = false →
    ∃ t, exec (.testReg true (0xA00430 + 4 * i) v) s = .next t ∧ t.hub.get R.TEST_JTAG_STAT_IR = 0x18 ∧ t.hub.get
      (R.TEST_HEDGE_RESP i) = v.toNat := by
  intro i v s hwf h1 h2 h3
  refine ⟨_, (by unfold exec; exact State.act_next hwf _ _), ?_⟩
  have ir := Hub.setIr_ir 0x18 s.hub (by decide)
  have stat : (s.hub.setIr 0x18).reg 0xA00400 = s.hub.reg 0xA00400 :=
    Hub.setIr_reg 0x18 s.hub (by decide) (by simp [within]) (by simp)
  have level := Hub.setIr_level 0x18 s.hub (by decide)
  dsimp only
  rw [Hub.tapLoad_open _ _ _ _ h2]
  generalize s.hub.setIr 0x18 = g at ir stat level ⊢
  have may : g.TapMaySubmit := Hub.tapMaySubmit_of_reg stat (.inl h3)
  have written : g.testWrite .tap (0xA00430 + 4 * i) v = g.put (R.TEST_HEDGE_RESP i) v.toNat := by
    have unit : unitOf (0xA00430 + 4 * i) 0xA00430 4 = i := by unfold unitOf; omega
    unfold Hub.testWrite
    rw [if_neg (by omega), if_pos (by unfold inStride; simp; omega), unit]
    exact Hub.hedgeWord_tap _ _ _ may
  rw [if_pos rfl, if_neg (by rw [Hub.responseWord_open g i h1 (by omega)]; decide), written]
  refine ⟨(Hub.get_put_ne _ _ _ _ (by simp; omega)).trans ir, ?_⟩
  rw [Hub.get_put_same _ _ _ (by simp)]
  exact Nat.mod_eq_of_lt v.isLt

/-- Settles O55: one lemma per clause; an opcode that leaves the pins to operation alters no register of the test block but the
instruction register's word. -/
theorem tapReadsAndLoads : Obligations.TapReadsAndLoads := by
  unfold Obligations.TapReadsAndLoads
  exact ⟨idcode_answersTheCode, trstNAssert_selectsIdcode, bypass_ofAnUnlisted, bypass_0xffCountsNothing,
    sample_capturesAndAnswers, preload_atLevel1, hedgeChal_answersTheChallenge, hedgeStat_answersTheStatus,
    hedgeResp_outsideAnotherPaths, hedgeToken_likewiseStoresThe, testReg_readAtLevel, testReg_writeAtLevel⟩

end Sys2Proof.Machine
end

section
/-!
### The hedge gate
-/
namespace Sys2Proof.Machine

set_option Elab.async false
open Hub.Alters

/-- The hub at which a request takes effect: the TAP first selects its opcode. -/
def Hub.asked (req : Path) (op : Nat) (h : Hub) : Hub := if req = .tap then h.setIr op else h

theorem Hub.asked_leaves (req : Path) (op : Nat) (h : Hub) (free : leavesPins op) :
    (∀ f : RF, within 0xA00000 0xB00000 f.off → f.off ≠ R.TEST_JTAG_STAT_IR.off → (h.asked req op).get f = h.get f) := by
  intro f hf other
  unfold Hub.asked
  split
  · exact Hub.setIr_get op h free f hf (.inl other)
  · rfl

theorem Hub.get_hedgeRecord (result : Nat) (h : Hub) (f : RF) (hf : within 0xA00000 0xB00000 f.off) :
    (h.hedgeRecord result).get f = h.get f := by
  unfold Hub.hedgeRecord
  refine ((Hub.Alters.self [] (those []) h).yewRecord _ _ _ _).get f ?_
  simp [framed, logReg, evtReg, within, those] at hf ⊢
  omega

/-- A refusal ends in STATE 5 with its RESULT, and keeps every other field of the test block. -/
theorem Hub.hedgeRefuse_stores (result : Nat) (h : Hub) (fits : result < 256) :
    (h.hedgeRefuse result).get R.TEST_HEDGE_STAT_STATE = 5 ∧ (h.hedgeRefuse result).get R.TEST_HEDGE_STAT_RESULT = result ∧
      ∀ f : RF, within 0xA00000 0xB00000 f.off → RF.apart R.TEST_HEDGE_STAT_STATE f → RF.apart R.TEST_HEDGE_STAT_RESULT f →
        (h.hedgeRefuse result).get f = h.get f := by
  unfold Hub.hedgeRefuse
  refine ⟨?_, ?_, fun f hf state res => ?_⟩
  · rw [Hub.get_hedgeRecord _ _ _ (by simp [within]), Hub.get_put_of_apart (.inr (by simp)) (by simp), Hub.get_put_same _ _ _
    (by simp)]
    rfl
  · rw [Hub.get_hedgeRecord _ _ _ (by simp [within]), Hub.get_put_same _ _ _ (by simp)]
    exact Nat.mod_eq_of_lt fits
  · rw [Hub.get_hedgeRecord _ _ _ hf, Hub.get_put_of_apart res (by simp), Hub.get_put_of_apart state (by simp)]

theorem Hub.hedgeRefuse_level (result : Nat) (h : Hub) (fits : result < 256) : (h.hedgeRefuse result).level = h.level := by
  unfold Hub.level
  exact (Hub.hedgeRefuse_stores result h fits).2.2 _ (by simp [within]) (.inr (by simp)) (.inr (by simp))

/-- The hub with no submission. -/
def Hub.clearSub (h : Hub) : Hub := { h with test := { h.test with sub := [] } }

theorem Hub.get_clearSub (h : Hub) (f : RF) : h.clearSub.get f = h.get f := rfl

/-- The hub of a request before it is judged: level and path asked are shown, and no submission stands. -/
def Hub.asking (path n : Nat) (h : Hub) : Hub :=
  ((h.put R.TEST_HEDGE_REQ_LEVEL n).put R.TEST_HEDGE_STAT_PATH path).clearSub

theorem Hub.asking_get (path n : Nat) (h : Hub) (f : RF) (level : RF.apart R.TEST_HEDGE_REQ_LEVEL f)
    (pathField : RF.apart R.TEST_HEDGE_STAT_PATH f) : (h.asking path n).get f = h.get f := by
  unfold Hub.asking
  rw [Hub.get_clearSub, Hub.get_put_of_apart pathField (by simp), Hub.get_put_of_apart level (by simp)]

theorem Hub.hedgeReq_asks (req : Path) (v : Word) (h : Hub) (path : req = .pf ∨ req = .tap) (shut : h.attemptOpen = false) :
    h.hedgeReq req v = h.hedgeAsk (hedgePath req) (bitsOf v 0 2) := by
  unfold Hub.hedgeReq
  rw [if_neg (by rintro ⟨a, b⟩; exact path.elim a b), if_neg (by rw [shut]; decide)]

/-- What the hedge gate reads of the hub is as it was when the request arrived. -/
structure Hub.SameGate (h g : Hub) : Prop where
  open_ : g.attemptOpen = h.attemptOpen
  fails : g.get R.TEST_HEDGE_STAT_FAILS = h.get R.TEST_HEDGE_STAT_FAILS
  window : g.on R.TEST_HEDGE_STAT_WINDOW = h.on R.TEST_HEDGE_STAT_WINDOW
  level : g.level = h.level
  state : g.get R.TEST_HEDGE_STAT_STATE = h.get R.TEST_HEDGE_STAT_STATE
  path : g.get R.TEST_HEDGE_STAT_PATH = h.get R.TEST_HEDGE_STAT_PATH

theorem Hub.sameGate_of_get {h g : Hub}
    (same : ∀ f : RF, f.off = 0xA00400 → g.get f = h.get f) : Hub.SameGate h g := by
  refine ⟨?_, same _ rfl, ?_, same _ rfl, same _ rfl, same _ rfl⟩
  · unfold Hub.attemptOpen
    rw [same R.TEST_HEDGE_STAT_STATE rfl]
  · unfold Hub.on
    rw [same R.TEST_HEDGE_STAT_WINDOW rfl]

theorem Hub.asked_sameGate (req : Path) (op : Nat) (h : Hub) (free : leavesPins op) : Hub.SameGate h (h.asked req op) :=
  Hub.sameGate_of_get fun f hf => Hub.asked_leaves req op h free f (by simp [hf, within]) (by simp [hf])

theorem Hub.asking_level (path n : Nat) (h : Hub) : (h.asking path n).level = h.level := by
  unfold Hub.level
  exact Hub.asking_get _ _ _ _ (.inl (by simp)) (.inr (by simp))

/-- How a request is judged, by what the gate shows. -/
theorem Hub.hedgeAsk_eq (path n : Nat) (h : Hub) : h.hedgeAsk path n =
    if 3 ≤ h.get R.TEST_HEDGE_STAT_FAILS then (h.asking path n).hedgeRefuse 7
    else if n ≤ h.level then (h.asking path n).hedgeRefuse 6
    else if !h.on R.TEST_HEDGE_STAT_WINDOW then (h.asking path n).hedgeRefuse 2
    else (((h.asking path n).put R.TEST_HEDGE_STAT_STATE 1).put R.TEST_HEDGE_STAT_RESULT 0).drawChallenge := by
  have fails : (h.asking path n).get R.TEST_HEDGE_STAT_FAILS = h.get R.TEST_HEDGE_STAT_FAILS :=
    Hub.asking_get _ _ _ _ (.inl (by simp)) (.inr (by simp))
  have window : (h.asking path n).on R.TEST_HEDGE_STAT_WINDOW = h.on R.TEST_HEDGE_STAT_WINDOW := by
    unfold Hub.on
    rw [Hub.asking_get _ _ _ _ (.inl (by simp)) (.inr (by simp))]
  rw [← fails, ← Hub.asking_level path n h, ← window]
  rfl

/-- A request is judged by what the gate shows when it arrives. -/
theorem Hub.asked_hedgeReq_eq (req : Path) (v : Word) (h : Hub) (path : req = .pf ∨ req = .tap) (shut : h.attemptOpen = false) :
    ∃ g : Hub, g.level = h.level ∧ (h.asked req 0x10).hedgeReq req v =
      if 3 ≤ h.get R.TEST_HEDGE_STAT_FAILS then (g.asking (hedgePath req) (bitsOf v 0 2)).hedgeRefuse 7
      else if bitsOf v 0 2 ≤ h.level then (g.asking (hedgePath req) (bitsOf v 0 2)).hedgeRefuse 6
      else if !h.on R.TEST_HEDGE_STAT_WINDOW then (g.asking (hedgePath req) (bitsOf v 0 2)).hedgeRefuse 2
      else (((g.asking (hedgePath req)
        (bitsOf v 0 2)).put R.TEST_HEDGE_STAT_STATE 1).put R.TEST_HEDGE_STAT_RESULT 0).drawChallenge := by
  have same := Hub.asked_sameGate req 0x10 h (by decide)
  generalize h.asked req 0x10 = g at same
  refine ⟨g, same.level, ?_⟩
  rw [Hub.hedgeReq_asks _ _ _ path (same.open_.trans shut), Hub.hedgeAsk_eq, same.fails, same.level, same.window]

/-- A refused request ends in STATE 5 with its RESULT at the level that stood. -/
theorem Hub.refused_shows (result path n : Nat) (g h : Hub) (level : g.level = h.level) (fits : result < 256) :
    ((g.asking path n).hedgeRefuse result).get R.TEST_HEDGE_STAT_STATE = 5 ∧
      ((g.asking path n).hedgeRefuse result).get R.TEST_HEDGE_STAT_RESULT = result ∧
      ((g.asking path n).hedgeRefuse result).level = h.level := by
  obtain ⟨state, res, -⟩ := Hub.hedgeRefuse_stores result (g.asking path n) fits
  exact ⟨state, res, (Hub.hedgeRefuse_level _ _ fits).trans ((Hub.asking_level path n g).trans level)⟩

theorem Hub.get_drawChallenge (h : Hub) (f : RF) (hf : within 0xA00000 0xB00000 f.off) (other
  : f.off < 0xA00410 ∨ 0xA00430 ≤ f.off) :
    h.drawChallenge.get f = h.get f := by
  have words : Hub.Alters [] (within 0xA00410 0xA00430) h h.drawChallenge := by
    unfold Hub.drawChallenge
    exact (self ..).upto _ fun _ _ _ => (self ..).putFree
  exact words.get f (by simp [framed, logReg, evtReg, within] at hf ⊢; omega)

theorem hedgeReq_inItsWindow :
    ∀ (req : Path) (v : Word) (s : State),
    (Instr.hedgeReq req v).wf = true →
    (req = .pf ∨ req = .tap) →
    s.hub.attemptOpen = false →
    s.hub.get R.TEST_HEDGE_STAT_FAILS < 3 →
    s.hub.level < bitsOf v 0 2 →
    s.hub.on R.TEST_HEDGE_STAT_WINDOW = true →
    ∃ t, exec (.hedgeReq req v) s = .next t ∧ t.hub.get R.TEST_HEDGE_STAT_STATE = 1
      ∧ t.hub.get R.TEST_HEDGE_REQ_LEVEL = bitsOf v 0 2 ∧
      t.hub.get R.TEST_HEDGE_STAT_PATH = hedgePath req ∧ t.hub.get R.TEST_HEDGE_STAT_RESULT = 0 ∧ t.mem = s.mem := by
  intro req v s hwf h1 h2 h3 h4 h5
  refine ⟨_, (by unfold exec; exact State.act_next hwf _ _), ?_⟩
  obtain ⟨g, -, judged⟩ := Hub.asked_hedgeReq_eq req v s.hub h1 h2
  have path : hedgePath req < 2 := by rcases h1 with rfl | rfl <;> decide
  rw [if_neg (by omega), if_neg (by omega), if_neg (by rw [h5]; decide)] at judged
  dsimp only
  rw [← Hub.asked, judged]
  refine ⟨?_, ?_, ?_, ?_, rfl⟩
  · rw [Hub.get_drawChallenge _ _ (by simp [within]) (by simp), Hub.get_put_of_apart (.inr (by simp)) (by simp),
      Hub.get_put_same _ _ _ (by simp)]
    rfl
  · rw [Hub.get_drawChallenge _ _ (by simp [within]) (by simp), Hub.get_put_ne _ _ _ _ (by simp), Hub.get_put_ne _ _ _ _
    (by simp),
      Hub.asking, Hub.get_clearSub, Hub.get_put_ne _ _ _ _ (by simp), Hub.get_put_same _ _ _ (by simp)]
    exact Nat.mod_eq_of_lt (Nat.mod_lt _ (by decide))
  · rw [Hub.get_drawChallenge _ _ (by simp [within]) (by simp), Hub.get_put_of_apart (.inr (by simp)) (by simp),
      Hub.get_put_of_apart (.inr (by simp)) (by simp), Hub.asking, Hub.get_clearSub, Hub.get_put_same _ _ _ (by simp)]
    exact Nat.mod_eq_of_lt path
  · rw [Hub.get_drawChallenge _ _ (by simp [within]) (by simp), Hub.get_put_same _ _ _ (by simp)]
    rfl

theorem hedgeReq_afterThreeFailures :
    ∀ (req : Path) (v : Word) (s : State),
    (Instr.hedgeReq req v).wf = true →
    (req = .pf ∨ req = .tap) →
    s.hub.attemptOpen = false →
    3 ≤ s.hub.get R.TEST_HEDGE_STAT_FAILS →
    ∃ t, exec (.hedgeReq req v) s = .next t ∧ t.hub.get R.TEST_HEDGE_STAT_STATE = 5 ∧ t.hub.get R.TEST_HEDGE_STAT_RESULT = 7
      ∧ t.hub.level = s.hub.level ∧ t.mem = s.mem := by
  intro req v s hwf h1 h2 h3
  refine ⟨_, (by unfold exec; exact State.act_next hwf _ _), ?_⟩
  obtain ⟨g, level, judged⟩ := Hub.asked_hedgeReq_eq req v s.hub h1 h2
  rw [if_pos h3] at judged
  obtain ⟨state, result, kept⟩ := Hub.refused_shows 7 (hedgePath req) (bitsOf v 0 2) g s.hub level (by decide)
  dsimp only
  rw [← Hub.asked, judged]
  exact ⟨state, result, kept, rfl⟩

theorem hedgeReq_notAboveThe :
    ∀ (req : Path) (v : Word) (s : State),
    (Instr.hedgeReq req v).wf = true →
    (req = .pf ∨ req = .tap) →
    s.hub.attemptOpen = false →
    s.hub.get R.TEST_HEDGE_STAT_FAILS < 3 →
    bitsOf v 0 2 ≤ s.hub.level →
    ∃ t, exec (.hedgeReq req v) s = .next t ∧ t.hub.get R.TEST_HEDGE_STAT_STATE = 5 ∧ t.hub.get R.TEST_HEDGE_STAT_RESULT = 6
      ∧ t.hub.level = s.hub.level ∧ t.mem = s.mem := by
  intro req v s hwf h1 h2 h3 h4
  refine ⟨_, (by unfold exec; exact State.act_next hwf _ _), ?_⟩
  obtain ⟨g, level, judged⟩ := Hub.asked_hedgeReq_eq req v s.hub h1 h2
  rw [if_neg (by omega), if_pos h4] at judged
  obtain ⟨state, result, kept⟩ := Hub.refused_shows 6 (hedgePath req) (bitsOf v 0 2) g s.hub level (by decide)
  dsimp only
  rw [← Hub.asked, judged]
  exact ⟨state, result, kept, rfl⟩

theorem hedgeReq_outsideTheWindow :
    ∀ (req : Path) (v : Word) (s : State),
    (Instr.hedgeReq req v).wf = true →
    (req = .pf ∨ req = .tap) →
    s.hub.attemptOpen = false →
    s.hub.get R.TEST_HEDGE_STAT_FAILS < 3 →
    s.hub.level < bitsOf v 0 2 →
    s.hub.on R.TEST_HEDGE_STAT_WINDOW = false →
    ∃ t, exec (.hedgeReq req v) s = .next t ∧ t.hub.get R.TEST_HEDGE_STAT_STATE = 5 ∧ t.hub.get R.TEST_HEDGE_STAT_RESULT = 2
      ∧ t.hub.level = s.hub.level ∧ t.mem = s.mem := by
  intro req v s hwf h1 h2 h3 h4 h5
  refine ⟨_, (by unfold exec; exact State.act_next hwf _ _), ?_⟩
  obtain ⟨g, level, judged⟩ := Hub.asked_hedgeReq_eq req v s.hub h1 h2
  rw [if_neg (by omega), if_neg (by omega), if_pos (by rw [h5]; decide)] at judged
  obtain ⟨state, result, kept⟩ := Hub.refused_shows 2 (hedgePath req) (bitsOf v 0 2) g s.hub level (by decide)
  dsimp only
  rw [← Hub.asked, judged]
  exact ⟨state, result, kept, rfl⟩

theorem hedgeGo_onTheAttempts :
    ∀ (req : Path) (v : Word) (s : State),
    (Instr.hedgeGo req v).wf = true →
    (req = .pf ∨ req = .tap) →
    bitsOf v 0 1 = 1 →
    s.hub.get R.TEST_HEDGE_STAT_STATE = 1 →
    s.hub.get R.TEST_HEDGE_STAT_PATH = hedgePath req →
    ∃ t, exec (.hedgeGo req v) s = .next t ∧ t.hub.get R.TEST_HEDGE_STAT_STATE = 2 ∧
      t.hub.test.sub = leBytes 32 (s.hub.wordsOf 8 R.TEST_HEDGE_RESP) ++ leBytes 256 (s.hub.wordsOf 64 R.TEST_HEDGE_TOKEN)
        ∧ t.mem = s.mem := by
  intro req v s hwf h1 h2 h3 h4
  refine ⟨_, (by unfold exec; exact State.act_next hwf _ _), ?_⟩
  have same := Hub.asked_sameGate req 0x14 s.hub (by decide)
  have kept := Hub.asked_leaves req 0x14 s.hub (by decide)
  have resp : (s.hub.asked req 0x14).wordsOf 8 R.TEST_HEDGE_RESP = s.hub.wordsOf 8 R.TEST_HEDGE_RESP :=
    Hub.wordsOf_congr fun i hi => kept _ (by simp [within]; omega) (by simp; omega)
  have token : (s.hub.asked req 0x14).wordsOf 64 R.TEST_HEDGE_TOKEN = s.hub.wordsOf 64 R.TEST_HEDGE_TOKEN :=
    Hub.wordsOf_congr fun i hi => kept _ (by simp [within]; omega) (by simp; omega)
  dsimp only
  rw [← Hub.asked]
  generalize s.hub.asked req 0x14 = g at same resp token ⊢
  have taken : g.hedgeGo req v = { g with test := { g.test with
      sub := leBytes 32 (s.hub.wordsOf 8 R.TEST_HEDGE_RESP) ++ leBytes 256 (s.hub.wordsOf 64 R.TEST_HEDGE_TOKEN) } }.put
        R.TEST_HEDGE_STAT_STATE 2 := by
    unfold Hub.hedgeGo
    rw [if_neg, if_neg, resp, token]
    · rw [same.state, same.path, h3, h4]
      simp
    · rintro (⟨a, b⟩ | zero)
      · exact h1.elim a b
      · omega
  rw [taken]
  exact ⟨Hub.get_put_same _ _ _ (by simp), rfl, rfl⟩

theorem hedgeVerifyComplete_goesOnOr :
    ∀ (s : State),
    s.hub.get R.TEST_HEDGE_STAT_STATE = 2 →
    ∃ t, exec .hedgeVerifyComplete s = .next t ∧
      t.hub.get R.TEST_HEDGE_STAT_STATE = (if s.hub.responseOk = true ∧ s.hub.tokenGood = true
        ∧ s.hub.tokenMatches = true then 3 else 5) ∧
      t.hub.get R.TEST_HEDGE_STAT_FAILS = (if s.hub.responseOk then s.hub.get R.TEST_HEDGE_STAT_FAILS else satNat
        (R.TEST_HEDGE_STAT_FAILS).width (s.hub.get R.TEST_HEDGE_STAT_FAILS + 1)) ∧
      t.hub.level = s.hub.level ∧ t.mem = s.mem := by
  intro s h1
  refine ⟨_, (by unfold exec; exact State.act_next rfl _ _), ?_⟩
  dsimp only
  have refused (r : Nat) (fits : r < 256) : (s.hub.hedgeRefuse r).get R.TEST_HEDGE_STAT_STATE = 5 ∧
      (s.hub.hedgeRefuse r).get R.TEST_HEDGE_STAT_FAILS = s.hub.get R.TEST_HEDGE_STAT_FAILS ∧
      (s.hub.hedgeRefuse r).level = s.hub.level := by
    obtain ⟨state, -, kept⟩ := Hub.hedgeRefuse_stores r s.hub fits
    exact ⟨state, kept _ (by simp [within]) (.inr (by simp)) (.inr (by simp)), Hub.hedgeRefuse_level r _ fits⟩
  unfold Hub.hedgeVerify
  rw [if_neg (by rw [h1]; decide)]
  by_cases response : s.hub.responseOk = true
  · rw [if_neg (by simp [response]), if_pos response]
    by_cases good : s.hub.tokenGood = true
    · rw [if_neg (by simp [good])]
      by_cases matched : s.hub.tokenMatches = true
      · rw [if_neg (by simp [matched]), if_pos ⟨response, good, matched⟩]
        refine ⟨Hub.get_put_same _ _ _ (by simp), Hub.get_put_of_apart (.inr (by simp)) (by simp) _ _, ?_, rfl⟩
        unfold Hub.level
        exact Hub.get_put_of_apart (.inr (by simp)) (by simp) _ _
      · rw [if_pos (by simp [matched]), if_neg (fun all => matched all.2.2)]
        obtain ⟨state, fails, level⟩ := refused 5 (by decide)
        exact ⟨state, fails, level, rfl⟩
    · rw [if_pos (by simp [good]), if_neg (fun all => good all.2.1)]
      obtain ⟨state, fails, level⟩ := refused 4 (by decide)
      exact ⟨state, fails, level, rfl⟩
  · rw [if_pos (by simp [response]), if_neg (fun all => response all.1), if_neg response]
    obtain ⟨state, -, kept⟩ := Hub.hedgeRefuse_stores 3 (s.hub.bumpSat R.TEST_HEDGE_STAT_FAILS 1) (by decide)
    refine ⟨state, ?_, ?_, rfl⟩
    · rw [kept _ (by simp [within]) (.inr (by simp)) (.inr (by simp)), Hub.bumpSat, Hub.get_put_same _ _ _ (by simp)]
      exact Nat.mod_eq_of_lt (by unfold satNat; simp)
    · rw [Hub.hedgeRefuse_level _ _ (by decide), Hub.level, Hub.bumpSat, Hub.get_put_of_apart (.inr (by simp)) (by simp)]
      rfl

theorem hedgeResponseTimeout_endsTheAttempt :
    ∀ (s : State),
    s.hub.get R.TEST_HEDGE_STAT_STATE = 1 →
    ∃ t, exec .hedgeResponseTimeout s = .next t ∧ t.hub.get R.TEST_HEDGE_STAT_STATE = 5 ∧
      (t.hub.get R.TEST_HEDGE_STAT_RESULT = 2 ∨ t.hub.get R.TEST_HEDGE_STAT_RESULT = 8) ∧ t.hub.level = s.hub.level
      ∧ t.mem = s.mem := by
  intro s h1
  refine ⟨_, (by unfold exec; exact State.act_next rfl _ _), ?_⟩
  dsimp only
  rw [if_pos h1]
  obtain ⟨state, result, -⟩ := Hub.hedgeRefuse_stores (2 + 6 * (s.hub.free % 2)) s.hub.drew (by omega)
  refine ⟨state, ?_, Hub.hedgeRefuse_level _ _ (by omega), rfl⟩
  rw [result]
  omega

theorem hedgeWindowClose_clearsWindow :
    ∀ (s : State),
    ∃ t, exec .hedgeWindowClose s = .next t ∧ t.hub.get R.TEST_HEDGE_STAT_WINDOW = 0 ∧ t.hub.level = s.hub.level
      ∧ t.mem = s.mem := by
  intro s
  refine ⟨_, (by unfold exec; exact State.act_next rfl _ _), ?_⟩
  exact ⟨Hub.get_put_same _ _ _ (by simp), Hub.get_put_of_apart (.inr (by simp)) (by simp) _ _, rfl⟩

/-- Zeroising leaves every register outside the operand words of chapter 06's block 0x120000. -/
theorem Chip.get_zeroise (c : Chip) (f : RF) (hf : f.off < 0x120000 ∨ 0x128000 ≤ f.off) : c.zeroise.hub.get f = c.hub.get f := by
  have word : c.zeroise.hub.reg f.off = c.hub.reg f.off := by
    refine (Store.get_keep ..).trans (if_pos ?_)
    simp
    omega
  unfold Hub.get
  rw [word]

theorem Hub.alters_selfRefresh (h : Hub) : Hub.Alters [.memch] (those []) h h.selfRefresh := by
  unfold Hub.selfRefresh
  exact (self ..).set_memch _

theorem Hub.alters_wakeStacks (h : Hub) : Hub.Alters [.memch] (those []) h h.wakeStacks := by
  unfold Hub.wakeStacks
  exact (self ..).set_memch _

/-- What follows the raise alters no register of the test block, no ring and no solver context. -/
theorem Hub.alters_enterElement (h : Hub) : Hub.Alters [.power, .boot, .memch] powerReg h h.enterElement := by
  unfold Hub.enterElement
  extract_lets mw g
  have woken : Hub.Alters [.power, .boot, .memch] powerReg h g :=
    branch ((self ..).andThen (Hub.alters_selfRefresh h)) ((self ..).andThen (Hub.alters_wakeStacks h))
  exact (((woken.set_power _).set_boot _).drew).trans ((Hub.alters_admitGroup _).mono (by simp) fun _ x => .inr (.inr x))

theorem zeroiseComplete_raisesTheLevel :
    ∀ (s : State),
    s.hub.get R.TEST_HEDGE_STAT_STATE = 3 →
    s.hub.testing6 = false →
    ∃ t, exec .zeroiseComplete s = .next t ∧ t.hub.get R.TEST_HEDGE_STAT_STATE = 4 ∧ t.hub.get R.TEST_HEDGE_STAT_RESULT = 1
      ∧ t.hub.level = s.hub.get R.TEST_HEDGE_REQ_LEVEL ∧
      t.mem.buf = [] ∧ t.mem.bufErr = [] ∧ t.mem.dram = s.mem.dram ∧ t.mem.dramErr = s.mem.dramErr ∧ t.hub.rings = []
        ∧ t.hub.spar.ctxs = [] := by
  intro s h1 h2
  refine ⟨_, (by unfold exec; exact State.actMem_next rfl _ _), ?_⟩
  have asked : (⟨s.hub, s.mem⟩ : Chip).zeroise.hub.hedgeN = s.hub.get R.TEST_HEDGE_REQ_LEVEL :=
    Chip.get_zeroise ⟨s.hub, s.mem⟩ _ (by simp)
  dsimp only
  unfold Chip.zeroised
  rw [if_neg (by simp only [h1, h2]; decide)]
  extract_lets c h g
  have dram : c.mem.buf = [] ∧ c.mem.bufErr = [] ∧ c.mem.dram = s.mem.dram ∧ c.mem.dramErr = s.mem.dramErr := ⟨rfl, rfl, rfl, rfl⟩
  have rings : c.hub.rings = [] ∧ c.hub.spar.ctxs = [] := ⟨rfl, rfl⟩
  obtain ⟨buf, bufErr, dram, dramErr⟩ := dram
  obtain ⟨rings, ctxs⟩ := rings
  have level : s.hub.get R.TEST_HEDGE_REQ_LEVEL < 2 ^ 2 := Hub.get_lt s.hub _
  change c.hub.hedgeN = _ at asked
  clear_value c
  have raised : h.get R.TEST_HEDGE_STAT_STATE = 4 ∧ h.get R.TEST_HEDGE_STAT_RESULT = 1 ∧
      h.get R.TEST_HEDGE_STAT_LEVEL = s.hub.get R.TEST_HEDGE_REQ_LEVEL := by
    simp only [h]
    refine ⟨?_, Hub.get_put_same _ _ _ (by simp), ?_⟩
    · rw [Hub.get_put_of_apart (.inr (by simp)) (by simp)]
      exact Hub.get_put_same _ _ _ (by simp)
    · rw [Hub.get_put_of_apart (.inr (by simp)) (by simp), Hub.get_put_of_apart (.inr (by simp)) (by simp),
        Hub.get_put_same _ _ _ (by simp), asked]
      exact Nat.mod_eq_of_lt level
  have recorded (f : RF) (hf : within 0xA00000 0xB00000 f.off) : g.get f = h.get f := Hub.get_hedgeRecord 1 h f hf
  have kept : Hub.Alters [] (those []) h g := (self ..).yewRecord _ _ _ _
  have empty : g.rings = [] ∧ g.spar.ctxs = [] := by
    rw [kept.rings (by simp), kept.spar (by simp)]
    exact ⟨rings, ctxs⟩
  clear_value g
  obtain ⟨state, result, lvl⟩ := raised
  rw [← recorded _ (by simp [within])] at state result lvl
  split
  · have entered := Hub.alters_enterElement (g.onBoot fun b => { b with hold := false })
    refine ⟨(entered.get _ (by simp [framed, logReg, evtReg])).trans state,
      (entered.get _ (by simp [framed, logReg, evtReg])).trans result,
      (entered.get R.TEST_HEDGE_STAT_LEVEL (by simp [framed, logReg, evtReg])).trans lvl, buf, bufErr, dram, dramErr, ?_, ?_⟩
    · exact (entered.rings (by simp)).trans empty.1
    · exact (congrArg SparS.ctxs (entered.spar (by simp))).trans empty.2
  · exact ⟨state, result, lvl, buf, bufErr, dram, dramErr, empty⟩

/-- Settles O57: one lemma per clause; a refusal stores STATE 5 and its RESULT, and its record alters the logs only. -/
theorem hedgeGateRaises : Obligations.HedgeGateRaises := by
  unfold Obligations.HedgeGateRaises
  exact ⟨hedgeReq_inItsWindow, hedgeReq_afterThreeFailures, hedgeReq_notAboveThe, hedgeReq_outsideTheWindow,
    hedgeGo_onTheAttempts, hedgeVerifyComplete_goesOnOr, hedgeResponseTimeout_endsTheAttempt, hedgeWindowClose_clearsWindow,
    zeroiseComplete_raisesTheLevel⟩

end Sys2Proof.Machine
end

section
/-!
### Resets and their pins
-/
namespace Sys2Proof.Machine

set_option Elab.async false
open Hub.Alters

/-- The registers that a halt of the bring-up writes: the domains and the boot records. -/
abbrev haltReg (a : Nat) : Prop := powerReg a ∨ within 0x40100 0x40140 a ∨ a ∈ [0xC, 0x40000, 0x40004]

/-- The registers that the start of S0 writes: the fuses' copies from 0x50000 on, the domains, and the boot records of a halt. -/
abbrev startReg (a : Nat) : Prop := 0x50000 ≤ a ∨ haltReg a

theorem Hub.alters_senseFuses (h : Hub) : Hub.Alters [] startReg h h.senseFuses := by
  unfold Hub.senseFuses
  exact ((self ..).put _).each _ fun _ _ _ => (((self ..).put _).put _).put _

theorem Hub.alters_setDom (n v : Nat) (h : Hub) (_hb : n < 74 := by omega) : Hub.Alters [] powerReg h (h.setDom n v) := by
  unfold Hub.setDom Hub.showPending
  exact ((self ..).put _).put _

theorem Hub.Alters.set_power_boot {P : List Part} {W : Nat → Prop} {h g : Hub} (x : Hub.Alters P W h g) (power' : PowerS)
    (boot' : BootS) (hpower : Part.power ∈ P := by simp) (hboot : Part.boot ∈ P := by simp) :
    Hub.Alters P W h { g with power := power', boot := boot' } :=
  x.trans { self P W g with reg := fun _ _ => rfl, power := fun n => absurd hpower n, boot := fun n => absurd hboot n }

theorem Hub.alters_s0Hoist (h : Hub) : Hub.Alters [.power, .boot] powerReg h h.s0Hoist := by
  unfold Hub.s0Hoist
  extract_lets g
  have raised : Hub.Alters [.power, .boot] powerReg h g :=
    ((self ..).andThen (Hub.alters_takeRise ..) (hW := fun _ x => .inr (.inr x))).each _ fun n hn k =>
      (Hub.alters_setDom n 1 k (by simp at hn; omega)).mono (by simp) fun _ x => .inr (.inr x)
  exact branch (raised.set_power_boot ..) (self ..)

theorem Hub.alters_setWant (n w : Nat) (h : Hub) (_hb : n < 74 := by omega) : Hub.Alters [.power] powerReg h (h.setWant n w) := by
  unfold Hub.setWant Hub.showPending
  exact ((self ..).set_power _).put _

theorem Hub.alters_setOwn (n v : Nat) (h : Hub) : Hub.Alters [.power] powerReg h (h.setOwn n v) := by
  unfold Hub.setOwn
  exact (self ..).set_power _

theorem Hub.alters_lowerOwn (n : Nat) (h : Hub) (hb : n < 74) : Hub.Alters [.power] powerReg h (h.lowerOwn n) := by
  unfold Hub.lowerOwn
  exact branch (Hub.alters_setWant n 0 h)
    (branch ((Hub.alters_setOwn n 1 h).trans (Hub.alters_askOff n _)) (Hub.alters_setOwn n 1 h))

theorem Hub.alters_readinessIrq (h : Hub) : Hub.Alters [] haltReg h h.readinessIrq := by
  unfold Hub.readinessIrq
  exact branch ((self ..).put _ (.inr (.inr (by simp [haltReg])))) ((self ..).sendVector_mod _)

theorem Hub.alters_noteFail (reason unit : Nat) (h : Hub) : Hub.Alters [] haltReg h (h.noteFail reason unit) := by
  unfold Hub.noteFail
  exact (((self ..).put _ (.inr (.inr (by simp [haltReg])))).put _ (.inr (.inr (by simp [haltReg])))).put _
    (.inr (.inr (by simp [haltReg])))

theorem Hub.alters_closeStage (h : Hub) : Hub.Alters [] haltReg h h.closeStage := by
  have stage : h.stage < 16 := Hub.get_lt h _
  unfold Hub.closeStage
  exact (self ..).put _ (.inr (.inr (by simp [haltReg, within]; omega)))

theorem Hub.alters_bootHalt (reason unit : Nat) (h : Hub) : Hub.Alters [.power] haltReg h (h.bootHalt reason unit) := by
  unfold Hub.bootHalt
  extract_lets g g1 g2
  have noted : Hub.Alters [.power] haltReg h g :=
    ((((Hub.alters_noteFail reason unit h).trans (Hub.alters_closeStage _)).put _ (.inr (.inr (by simp [haltReg])))).put _
      (.inr (.inr (by simp [haltReg])))).mono (by simp) fun _ x => .inr (.inr x)
  have lowered : Hub.Alters [.power] haltReg h g1 := noted.upto _ fun n hn k =>
    branch (self ..) ((Hub.alters_lowerOwn n k hn).mono (by simp) fun _ x => .inr (.inr (.inl x)))
  have recorded : Hub.Alters [.power] haltReg h g2 := branch (lowered.yewRecord _ _ _ _) (lowered.yewRecord _ _ _ _)
  exact branch (recorded.trans ((Hub.alters_readinessIrq g2).mono (by simp) fun _ x => .inr (.inr x))) (self ..)

/-- The start of S0 alters domains, the boot part and the registers it starts; what waits for a reset is left. -/
theorem Hub.alters_beginS0 (h : Hub) : Hub.Alters [.power, .boot] startReg h h.beginS0 ∧ h.beginS0.boot.pend = h.boot.pend := by
  unfold Hub.beginS0
  extract_lets g
  have sensed : Hub.Alters [.boot] startReg h (h.onBoot fun b => { b with begun := h.clock }).senseFuses := by
    refine Hub.Alters.trans ?_ ((Hub.alters_senseFuses _).mono (by simp) fun _ x => .inr (.inr x))
    unfold Hub.onBoot
    exact (self ..).set_boot _
  have hoisted : Hub.Alters [.power, .boot] startReg h g :=
    (sensed.mono (by simp) fun _ x => .inr (.inr x)).trans
      ((Hub.alters_s0Hoist _).mono (by simp) fun _ x => .inr (.inr (.inr (.inl x))))
  have pend : g.boot.pend = h.boot.pend := by
    have first := (Hub.alters_senseFuses (h.onBoot fun b => { b with begun := h.clock })).boot (by simp)
    have raised (k : Hub) : k.s0Hoist.boot.pend = k.boot.pend := by
      unfold Hub.s0Hoist
      split
      · have moved : Hub.Alters [.power] powerReg k (Hub.each [1, 68] (fun n g => g.setDom n 1) (k.takeRise 11000)) :=
          ((self ..).andThen (Hub.alters_takeRise ..) (hW := fun _ x => .inr (.inr x))).each _ fun n hn k =>
            (Hub.alters_setDom n 1 k (by simp at hn; omega)).mono (by simp) fun _ x => .inr (.inr x)
        exact (congrArg BootS.pend (moved.boot (by simp)) :)
      · rfl
    exact (raised _).trans (congrArg BootS.pend first :)
  refine ⟨branch hoisted (hoisted.trans ((Hub.alters_bootHalt ..).mono (by simp) fun _ x => .inr (.inr (.inr x)))), ?_⟩
  split
  · exact pend
  · exact (congrArg BootS.pend ((Hub.alters_bootHalt ..).boot (by simp))).trans pend

/-- What a reset of the hub leaves: no ring, wait or site, COLD 0, nothing pending, and the fail record. -/
theorem Hub.reboot_leaves (h : Hub) : h.reboot.rings = [] ∧ h.reboot.cleat.waits = [] ∧ h.reboot.sites = [] ∧
    h.reboot.get R.BOOT_PROFILE_COLD = 0 ∧ h.reboot.boot.pend = 0 ∧ h.reboot.fail = h.fail := by
  have abandoned : h.hedgeAbandon.fail = h.fail := by
    unfold Hub.hedgeAbandon
    split
    · unfold Hub.hedgeRefuse Hub.hedgeRecord
      exact ((((self [] (fun _ => True) h).put _ (.inr (.inr trivial))).put _ (.inr (.inr trivial))).yewRecord _ _ _ _).fail
        (by simp)
    · rfl
  unfold Hub.reboot
  extract_lets g
  have fresh : g.rings = [] ∧ g.cleat.waits = [] ∧ g.sites = [] ∧ g.boot.pend = 0 ∧ g.fail = h.hedgeAbandon.fail :=
    ⟨rfl, rfl, rfl, rfl, rfl⟩
  clear_value g
  obtain ⟨rings, waits, sites, pend, fail⟩ := fresh
  have profile : ((g.put R.BOOT_PROFILE_COLD 0).put R.BOOT_PROFILE_CUR g.nextProfile).get R.BOOT_PROFILE_COLD = 0 := by
    rw [Hub.get_put_apart _ _ _ _ (by simp) (by simp)]
    exact Hub.get_put_same _ _ _ (by simp)
  obtain ⟨begun, kept⟩ := Hub.alters_beginS0 ((g.put R.BOOT_PROFILE_COLD 0).put R.BOOT_PROFILE_CUR g.nextProfile)
  refine ⟨(begun.rings (by simp)).trans rings, ?_, (begun.sites (by simp)).trans sites, ?_, kept.trans pend,
    (begun.fail (by simp)).trans (fail.trans abandoned)⟩
  · exact (congrArg CleatS.waits (begun.cleat (by simp))).trans waits
  · exact (begun.get _ (by simp [framed, logReg, evtReg, startReg, haltReg, within])).trans profile

theorem glbRstWarm_withTheKey :
    ∀ (req : Path) (v : Word) (s : State),
    (Instr.glbRstWarm req v).wf = true →
    req.holdsBlocks = true →
    bitsOf v 16 16 = 0xA55A →
    s.hub.pins.d0Reset = false →
    s.hub.boot.pend = 0 →
    ∃ t, exec (.glbRstWarm req v) s = .next t ∧ t.hub.boot.pend = 1 ∧ t.hub.regs = s.hub.regs := by
  intro req v s hwf h1 h2 h3 h4
  refine ⟨_, (by unfold exec; exact State.act_pfWrite_next hwf h1 _ _), ?_⟩
  have key : bitsOf (setBits v 0 2 1) 16 16 = 0xA55A := (bitsOf_setBits_above _ _ _ _ _ _ (by decide) (by decide)).trans h2
  have kind : bitsOf (setBits v 0 2 1) 0 2 = 1 := bitsOf_setBits_same _ _ _ _ (by decide)
  simp [Hub.rstWrite, key, kind, Hub.askReset, h3, Hub.onBoot, h4]

theorem glbRstHub_withTheKey :
    ∀ (req : Path) (v : Word) (s : State),
    (Instr.glbRstHub req v).wf = true →
    req.holdsBlocks = true →
    bitsOf v 16 16 = 0xA55A →
    s.hub.pins.d0Reset = false →
    s.hub.boot.pend = 0 →
    ∃ t, exec (.glbRstHub req v) s = .next t ∧ t.hub.boot.pend = 2 ∧ t.hub.regs = s.hub.regs := by
  intro req v s hwf h1 h2 h3 h4
  refine ⟨_, (by unfold exec; exact State.act_pfWrite_next hwf h1 _ _), ?_⟩
  have key : bitsOf (setBits v 0 2 2) 16 16 = 0xA55A := (bitsOf_setBits_above _ _ _ _ _ _ (by decide) (by decide)).trans h2
  have kind : bitsOf (setBits v 0 2 2) 0 2 = 2 := bitsOf_setBits_same _ _ _ _ (by decide)
  simp [Hub.rstWrite, key, kind, Hub.askReset, h3, Hub.onBoot, h4]

theorem glbRstHub_withoutTheKey :
    ∀ (req : Path) (v : Word) (s : State),
    (Instr.glbRstHub req v).wf = true →
    req.holdsBlocks = true →
    bitsOf v 16 16 ≠ 0xA55A →
    ∃ t, exec (.glbRstHub req v) s = .next t ∧ t.hub.boot = s.hub.boot := by
  intro req v s hwf h1 h2
  refine ⟨_, (by unfold exec; exact State.act_pfWrite_next hwf h1 _ _), ?_⟩
  have key : bitsOf (setBits v 0 2 2) 16 16 ≠ 0xA55A := (bitsOf_setBits_above _ _ _ _ _ _ (by decide) (by decide)).trans_ne h2
  dsimp only
  rw [Hub.rstWrite, if_pos key]
  exact ((self [] (those []) s.hub).logAccess _ _ _ _).boot (by simp)

theorem warmReset_emptiesRingsWaits :
    ∀ (s : State),
    s.hub.mayReset 1 = true →
    ∃ t, exec .warmReset s = .next t ∧ t.hub.rings = [] ∧ t.hub.cleat.waits = [] ∧ t.hub.sites = []
      ∧ t.hub.get R.BOOT_PROFILE_COLD = 0 ∧
      t.hub.boot.pend = 0 ∧ t.hub.fail = s.hub.fail := by
  intro s h1
  refine ⟨_, (by unfold exec; exact State.act_next rfl _ _), ?_⟩
  dsimp only
  rw [if_pos h1]
  exact Hub.reboot_leaves s.hub

theorem hubReset_doesTheSame :
    ∀ (s : State),
    s.hub.mayReset 2 = true →
    ∃ t, exec .hubReset s = .next t ∧ t.hub.rings = [] ∧ t.hub.cleat.waits = [] ∧ t.hub.sites = []
      ∧ t.hub.get R.BOOT_PROFILE_COLD = 0 ∧
      t.hub.boot.pend = 0 ∧ t.hub.fail = s.hub.fail := by
  intro s h1
  refine ⟨_, (by unfold exec; exact State.act_next rfl _ _), ?_⟩
  dsimp only
  rw [if_pos h1]
  exact Hub.reboot_leaves s.hub

theorem perstNAssert_withPwrgoodHigh :
    ∀ (s : State),
    s.hub.pins.pwrgood = true →
    s.hub.pins.d0Reset = false →
    s.hub.boot.pend = 0 →
    ∃ t, exec .perstNAssert s = .next t ∧ t.hub.pins.perstN = false ∧ t.hub.pcie.linkUp = false ∧ t.hub.pcie.detect = false
      ∧ t.hub.boot.pend = 1 := by
  intro s h1 h2 h3
  refine ⟨_, (by unfold exec; exact State.act_next rfl _ _), ?_⟩
  simp_all [Hub.askReset, Hub.onBoot]

theorem perstNDeassert_raisesThePin :
    ∀ (s : State),
    ∃ t, exec .perstNDeassert s = .next t ∧ t.hub.pins.perstN = true ∧ t.hub.pcie.detect = !s.hub.pins.d0Reset
      ∧ t.hub.regs = s.hub.regs := by
  intro s
  refine ⟨_, (by unfold exec; exact State.act_next rfl _ _), ?_⟩
  exact ⟨rfl, rfl, rfl⟩

theorem pwrgoodFall_startsTheLow :
    ∀ (s : State),
    s.hub.pins.pwrgood = true →
    ∃ t, exec .pwrgoodFall s = .next t ∧ t.hub.pins.pwrgood = false ∧ t.hub.pins.lowFilter = !s.hub.pins.d0Reset
      ∧ t.hub.regs = s.hub.regs := by
  intro s h1
  refine ⟨_, (by unfold exec; exact State.act_next rfl _ _), ?_⟩
  dsimp only
  rw [if_pos h1]
  split
  · exact ⟨rfl, rfl, rfl⟩
  · exact ⟨rfl, rfl, rfl⟩

/-- A last gasp for the input pulls LG_N and stops the charger. -/
theorem Hub.lastGasp_input (cause : Nat) (h : Hub) (input : cause < 3) :
    (h.lastGasp cause).pins = { h.pins with lgN := false } ∧ (h.lastGasp cause).power = { h.power with charger := false } := by
  have noted (skip : Prop) {_ : Decidable skip} (k : Hub) (a b : Nat) :
      Hub.Alters [] (those [R.PWR_HOLD_READY]) k (if skip then k else k.lgSet a b).discharge := by
    unfold Hub.discharge
    exact (((branch (self ..) ((self ..).andThen (Hub.alters_lgSet ..)) : Hub.Alters [] (those [R.PWR_HOLD_READY]) k _)).trans
      (Hub.alters_showHold ..)).drew
  unfold Hub.lastGasp
  dsimp only
  rw [if_pos (by simpa using input)]
  refine ⟨((noted _ _ _ _).pins (by simp)).trans rfl, ((noted _ _ _ _).power (by simp)).trans ?_⟩
  simp [input]

theorem pwrgoodLowFilterExpiry_takesTheLast :
    ∀ (s : State),
    s.hub.pins.lowFilter = true →
    ∃ t, exec .pwrgoodLowFilterExpiry s = .next t ∧ t.hub.pins.lowFilter = false ∧ t.hub.pins.lgN = false
      ∧ t.hub.power.charger = false := by
  intro s h1
  refine ⟨_, (by unfold exec; exact State.act_next rfl _ _), ?_⟩
  dsimp only
  rw [if_pos h1]
  obtain ⟨pins, power⟩ := Hub.lastGasp_input 2 { s.hub with pins := { s.hub.pins with lowFilter := false } } (by decide)
  rw [pins, power]
  exact ⟨rfl, rfl, rfl⟩

/-- What a cold reset leaves: the pins as sampled, no ring, and hub time 0. -/
theorem Hub.coldReset_leaves (siteFit mtSel smbAddr : Nat) (h : Hub) (fit : siteFit < 16) :
    (h.coldReset siteFit mtSel smbAddr).pins.pwrgood = true ∧ (h.coldReset siteFit mtSel smbAddr).pins.d0Reset = false ∧
      (h.coldReset siteFit mtSel smbAddr).pins.smbAddr = smbAddr ∧
      (h.coldReset siteFit mtSel smbAddr).get R.GLB_STRAP_SITE_FIT = siteFit ∧
      (h.coldReset siteFit mtSel smbAddr).rings = [] ∧ (h.coldReset siteFit mtSel smbAddr).time.now = 0 := by
  have sampled (k : Hub) (mt re p : Nat) : (((((k.put R.GLB_STRAP_SITE_FIT siteFit).put R.BOOT_STRAP_MT_SEL mt).put
      R.TIME_STAT_REFLOST re).put R.BOOT_PROFILE_COLD 1).put R.BOOT_PROFILE_CUR p).get R.GLB_STRAP_SITE_FIT = siteFit := by
    rw [Hub.get_put_ne _ _ _ _ (by simp), Hub.get_put_ne _ _ _ _ (by simp), Hub.get_put_ne _ _ _ _ (by simp),
      Hub.get_put_ne _ _ _ _ (by simp), Hub.get_put_same _ _ _ (by simp)]
    exact Nat.mod_eq_of_lt fit
  have begun (k : Hub) := (Hub.alters_beginS0 k).1
  unfold Hub.coldReset
  dsimp only
  refine ⟨?_, ?_, ?_, ?_, ?_, ?_⟩
  · exact (congrArg Pins.pwrgood ((begun _).pins (by simp))).trans rfl
  · exact (congrArg Pins.d0Reset ((begun _).pins (by simp))).trans rfl
  · exact (congrArg Pins.smbAddr ((begun _).pins (by simp))).trans rfl
  · exact ((begun _).get _ (by simp [framed, logReg, evtReg, startReg, haltReg, within])).trans (sampled ..)
  · exact ((begun _).rings (by simp)).trans rfl
  · exact (congrArg TimeS.now ((begun _).time (by simp))).trans rfl

theorem pwrgoodRise_outOfD0 :
    ∀ (siteFit mtSel smbAddr : Nat) (s : State),
    (Instr.pwrgoodRise siteFit mtSel smbAddr).wf = true →
    s.hub.pins.pwrgood = false →
    s.hub.pins.d0Reset = true →
    ∃ t, exec (.pwrgoodRise siteFit mtSel smbAddr) s = .next t ∧ t.hub.pins.pwrgood = true ∧ t.hub.pins.d0Reset = false ∧
      t.hub.pins.smbAddr = smbAddr ∧ t.hub.get R.GLB_STRAP_SITE_FIT = siteFit ∧ t.hub.rings = [] ∧ t.hub.time.now = 0 := by
  intro siteFit mtSel smbAddr s hwf h1 h2
  refine ⟨_, (by unfold exec; exact State.act_next hwf _ _), ?_⟩
  dsimp only
  rw [if_neg (by rw [h1]; decide), if_pos h2]
  obtain ⟨fit, -, -⟩ : siteFit < 16 ∧ mtSel < 4 ∧ smbAddr < 4 := by simpa [Instr.wf, Ok.pwrgoodRise, and_assoc] using hwf
  obtain ⟨good, d0, smb, straps, rings, now⟩ := Hub.coldReset_leaves siteFit mtSel smbAddr s.hub fit
  exact ⟨good, d0, smb, straps, rings, now⟩

theorem pwrgoodRise_withinTheFilter :
    ∀ (siteFit mtSel smbAddr : Nat) (s : State),
    (Instr.pwrgoodRise siteFit mtSel smbAddr).wf = true →
    s.hub.pins.pwrgood = false →
    s.hub.pins.d0Reset = false →
    ∃ t, exec (.pwrgoodRise siteFit mtSel smbAddr) s = .next t
      ∧ t.hub = { s.hub with pins := { s.hub.pins with pwrgood := true, lowFilter := false } } := by
  intro siteFit mtSel smbAddr s hwf h1 h2
  refine ⟨_, (by unfold exec; exact State.act_next hwf _ _), ?_⟩
  dsimp only
  rw [if_neg (by rw [h1]; decide), if_neg (by rw [h2]; decide)]

/-- A reject of a register write alters no register of the boot block. -/
theorem Hub.get_logAccess (kind : Nat) (req : Path) (off v : Nat) (h : Hub) (f : RF) (hf : ¬ framed (those []) f.off) :
    (h.logAccess kind req off v).get f = h.get f :=
  ((self [] (those []) h).logAccess kind req off v).get f hf

/-- What a write of BOOT_PROFILE stores: NEXT at once, CUR before stage 6 and LBIST before stage 3. -/
theorem Hub.profileWrite_stores (req : Path) (v : Word) (h : Hub) :
    (h.profileWrite req v).get R.BOOT_PROFILE_NEXT = bitsOf v 8 2 ∧
      (h.profileWrite req v).get R.BOOT_PROFILE_CUR = (if h.stage < 6 then
        (h.put R.BOOT_PROFILE_NEXT (bitsOf v 8 2)).curValue (bitsOf v 0 2) % 4 else h.get R.BOOT_PROFILE_CUR) ∧
      (h.profileWrite req v).get R.BOOT_PROFILE_LBIST = (if h.stage < 3 then bitsOf v 4 1 else h.get R.BOOT_PROFILE_LBIST) := by
  have refused (b : Bool) (k : Hub) (f : RF) (hf : ¬ framed (those []) f.off) :
      (if b then k.logAccess 0x13 req 0x40008 v.toNat else k).get f = k.get f := by
    split
    · exact Hub.get_logAccess _ _ _ _ _ _ hf
    · rfl
  unfold Hub.profileWrite
  extract_lets g cur lb bad g1 g2
  have stage : g.stage = h.stage := Hub.get_put_ne _ _ _ _ (by simp)
  have drew (k : Hub) (f : RF) : k.drew.get f = k.get f := rfl
  refine ⟨?_, ?_, ?_⟩
  · have next : g.get R.BOOT_PROFILE_NEXT = bitsOf v 8 2 := by
      simp only [g]
      rw [Hub.get_put_same _ _ _ (by simp)]
      exact bitsOf_mod_of_le _ _ _ _ (by decide)
    have kept1 : g1.get R.BOOT_PROFILE_NEXT = g.get R.BOOT_PROFILE_NEXT := by
      simp only [g1]
      split
      · exact (drew _ _).trans (Hub.get_put_apart _ _ _ _ (by simp) (by simp))
      · rfl
    have kept2 : g2.get R.BOOT_PROFILE_NEXT = g1.get R.BOOT_PROFILE_NEXT := by
      simp only [g2]
      split
      · exact Hub.get_put_apart _ _ _ _ (by simp) (by simp)
      · rfl
    rw [refused _ _ _ (by simp [framed, logReg, evtReg, those]), kept2, kept1, next]
  · have stored : g1.get R.BOOT_PROFILE_CUR = (if h.stage < 6 then
        g.curValue (bitsOf v 0 2) % 4 else h.get R.BOOT_PROFILE_CUR) := by
      simp only [g1, cur, stage, decide_eq_true_eq]
      split
      · rw [drew, Hub.get_put_same _ _ _ (by simp)]
        rfl
      · exact Hub.get_put_apart _ _ _ _ (by simp) (by simp)
    have kept2 : g2.get R.BOOT_PROFILE_CUR = g1.get R.BOOT_PROFILE_CUR := by
      simp only [g2]
      split
      · exact Hub.get_put_apart _ _ _ _ (by simp) (by simp)
      · rfl
    rw [refused _ _ _ (by simp [framed, logReg, evtReg, those]), kept2, stored]
  · have kept1 : g1.get R.BOOT_PROFILE_LBIST = h.get R.BOOT_PROFILE_LBIST := by
      have first : g.get R.BOOT_PROFILE_LBIST = h.get R.BOOT_PROFILE_LBIST := Hub.get_put_apart _ _ _ _ (by simp) (by simp)
      simp only [g1]
      split
      · exact (drew _ _).trans ((Hub.get_put_apart _ _ _ _ (by simp) (by simp)).trans first)
      · exact first
    have stored : g2.get R.BOOT_PROFILE_LBIST = (if h.stage < 3 then bitsOf v 4 1 else h.get R.BOOT_PROFILE_LBIST) := by
      simp only [g2, lb, stage, decide_eq_true_eq]
      split
      · rw [Hub.get_put_same _ _ _ (by simp)]
        exact bitsOf_mod_of_le _ _ _ _ (by decide)
      · exact kept1
    rw [refused _ _ _ (by simp [framed, logReg, evtReg, those]), stored]

theorem bootProfileWrite_beforeS3Stores :
    ∀ (req : Path) (v : Word) (s : State),
    (Instr.bootProfileWrite req v).wf = true →
    req.holdsBlocks = true →
    s.hub.stage < 3 →
    bitsOf v 0 2 ≠ 3 →
    bitsOf v 0 2 ≠ 0 →
    ∃ t, exec (.bootProfileWrite req v) s = .next t ∧ t.hub.get R.BOOT_PROFILE_NEXT = bitsOf v 8 2
      ∧ t.hub.get R.BOOT_PROFILE_CUR = bitsOf v 0 2 ∧
      t.hub.get R.BOOT_PROFILE_LBIST = bitsOf v 4 1 := by
  intro req v s hwf h1 h2 h3 h4
  refine ⟨_, (by unfold exec; exact State.act_pfWrite_next hwf h1 _ _), ?_⟩
  obtain ⟨next, cur, lb⟩ := Hub.profileWrite_stores req v s.hub
  rw [if_pos (by omega), Hub.curValue, if_neg h3, if_neg (fun x => h4 x.1)] at cur
  rw [if_pos h2] at lb
  exact ⟨next, cur.trans (bitsOf_mod_of_le _ _ _ _ (by decide)), lb⟩

theorem bootProfileWrite_fromS6On :
    ∀ (req : Path) (v : Word) (s : State),
    (Instr.bootProfileWrite req v).wf = true →
    req.holdsBlocks = true →
    6 ≤ s.hub.stage →
    ∃ t, exec (.bootProfileWrite req v) s = .next t ∧ t.hub.get R.BOOT_PROFILE_NEXT = bitsOf v 8 2 ∧
      t.hub.get R.BOOT_PROFILE_CUR = s.hub.get R.BOOT_PROFILE_CUR
        ∧ t.hub.get R.BOOT_PROFILE_LBIST = s.hub.get R.BOOT_PROFILE_LBIST := by
  intro req v s hwf h1 h2
  refine ⟨_, (by unfold exec; exact State.act_pfWrite_next hwf h1 _ _), ?_⟩
  obtain ⟨next, cur, lb⟩ := Hub.profileWrite_stores req v s.hub
  rw [if_neg (by omega)] at cur lb
  exact ⟨next, cur, lb⟩

/-- Settles O22: one lemma per clause; what follows the pins in a reset, the start of S0, alters domains, boot records and
the map's registers only. -/
theorem resetsAndPinsAnswer : Obligations.ResetsAndPinsAnswer := by
  unfold Obligations.ResetsAndPinsAnswer
  exact ⟨glbRstWarm_withTheKey, glbRstHub_withTheKey, glbRstHub_withoutTheKey, warmReset_emptiesRingsWaits,
    hubReset_doesTheSame, perstNAssert_withPwrgoodHigh, perstNDeassert_raisesThePin, pwrgoodFall_startsTheLow,
    pwrgoodLowFilterExpiry_takesTheLast, pwrgoodRise_outOfD0, pwrgoodRise_withinTheFilter, bootProfileWrite_beforeS3Stores,
    bootProfileWrite_fromS6On⟩

end Sys2Proof.Machine
end

section
/-!
### What an access to a BAR0 register does
-/
namespace Sys2Proof.Machine

set_option Elab.async false
open Hub.Alters

/-- A naturally aligned read of a whole word by a path that holds it is the register's read. -/
theorem Hub.readAnswer_word {p : Path} {off : Nat} (h : Hub) (held : h.place p off = .reg off) (word : off % 4 = 0)
    (open_ : h.guarded off = true ∨ h.sramErr off = 0) (pf : p = .pf) (sound : (h.readReg p off).failed = false) :
    h.readAnswer p off 32 = (h.readReg p off).hub.send (.readData p (h.readReg p off).word.toNat) := by
  have aligned : off / 4 * 4 = off := by omega
  have read : h.readAt p off = h.readReg p off := by
    unfold Hub.readAt Hub.readChecked
    rw [held]
    exact if_pos open_
  have value (w : Word) : w.toNat / 2 ^ (8 * (off % 4)) % 2 ^ 32 = w.toNat := by
    rw [word, Nat.mul_zero, Nat.pow_zero, Nat.div_one, Nat.mod_eq_of_lt w.isLt]
  unfold Hub.readAnswer
  rw [if_neg (by omega), if_neg (by decide)]
  dsimp only
  rw [aligned, read, value]
  unfold RegRead.answer
  rw [if_neg (by rw [sound]; decide), pf]

/-- A read of a plain register answers its live word and clears its RC fields. -/
theorem Hub.readReg_plain (p : Path) {off : Nat} (h : Hub) (shown : h.guarded off = false) (whole : isLowHalf off = false)
    (first : off < 4 ∨ isLowHalf (off - 4) = false) (gpio : off ≠ 0x20) (pool : inStride off 0x201000 4 48 0 = false) :
    h.readReg p off = .of (h.live off) (h.clearRc off) := by
  have after : ¬ (4 ≤ off ∧ isLowHalf (off - 4) = true) := by
    rintro ⟨far, half⟩
    rcases first with near | other
    · omega
    · rw [other] at half
      exact absurd half (by decide)
  unfold Hub.readReg
  rw [if_neg (by rw [shown]; decide), if_neg (by rw [whole]; decide), if_neg after, if_neg gpio, if_neg (by rw [pool]; simp)]

/-- What the PF reads of a plain register, and what the read leaves. -/
theorem Hub.pfRead_plain {off : Nat} (h : Hub) (word : off % 4 = 0) (bar0 : off < 0x2000000) (clean : h.sramErr off = 0)
    (shown : h.guarded off = false) (whole : isLowHalf off = false) (first : off < 4 ∨ isLowHalf (off - 4) = false)
    (gpio : off ≠ 0x20) (pool : inStride off 0x201000 4 48 0 = false) :
    (h.readAnswer .pf off 32).out = Out.readData .pf (h.live off).toNat :: h.out ∧
      (h.readAnswer .pf off 32).reg off = h.reg off &&& ~~~ maskOf off (fun f => f.acc == .rc) ∧
      ∀ o, o ≠ off → (h.readAnswer .pf off 32).reg o = h.reg o := by
  have plain := Hub.readReg_plain .pf h shown whole first gpio pool
  rw [Hub.readAnswer_word h (Hub.place_of_holdsBlocks h rfl bar0) word (.inr clean) rfl (by rw [plain]; rfl), plain]
  exact ⟨rfl, Hub.reg_setReg_same _ _ _, fun o ho => Hub.reg_setReg_ne _ _ ho⟩

/-- A whole-word write of a register of BAR0 by the PF is the block's write. -/
theorem Chip.pfWrite_word {off : Nat} (v : DWord) (c : Chip) (word : off % 4 = 0) (bar0 : off < 0x2000000) :
    c.writeAccess .pf off 32 v = c.writeReg .pf off (BitVec.ofNat 32 v.toNat) := by
  unfold Chip.writeAccess
  dsimp only
  rw [if_neg (by omega), if_neg (by decide), Chip.writeAt_of_holdsBlocks _ _ rfl bar0]

theorem Hub.sramMerge_of_clean (h : Hub) (req : Nat) {off : Nat} (clean : h.sramErr off = 0) : h.sramMerge req off = h := by
  simp [Hub.sramMerge, clean, errClass]

/-- The row of GLB_GPIO_OUT in the register table. -/
def gpioOutSpec : RegSpec := regsGLB[13]

theorem findReg_gpioOut : findReg 0x24 = some (gpioOutSpec, 0, 0) := rfl

/-- A write of GLB_GPIO_OUT stores both of its fields. -/
theorem Hub.gpioWrite_stores (p : Path) (w : Word) (h : Hub) :
    (h.plainWrite p 0x24 w).get R.GLB_GPIO_OUT = bitsOf w 4 12 ∧
      (h.plainWrite p 0x24 w).get R.GLB_GPIO_OUT_OE = bitsOf w 20 12 := by
  have plain : (gpioOutSpec.fields.any fun f => f.acc == .rwl) = false := by decide
  have written : h.plainWrite p 0x24 w =
      h.setReg 0x24 (setBits (setBits (h.reg 0x24) 4 12 (bitsOf w 4 12)) 20 12 (bitsOf w 20 12)) := by
    unfold Hub.plainWrite
    rw [findReg_gpioOut]
    dsimp only
    rw [plain, Bool.and_false, if_neg (by decide)]
    rfl
  have word : (h.plainWrite p 0x24 w).reg 0x24 =
      setBits (setBits (h.reg 0x24) 4 12 (bitsOf w 4 12)) 20 12 (bitsOf w 20 12) := by
    rw [written, Hub.reg_setReg_same]
  have out : bitsOf ((h.plainWrite p 0x24 w).reg 0x24) 4 12 = bitsOf w 4 12 := by
    rw [word, bitsOf_setBits_below _ _ _ _ _ _ (by decide) (by decide), bitsOf_setBits_same _ _ _ _ (by decide)]
    exact bitsOf_mod_of_le _ _ _ _ (by decide)
  have oe : bitsOf ((h.plainWrite p 0x24 w).reg 0x24) 20 12 = bitsOf w 20 12 := by
    rw [word, bitsOf_setBits_same _ _ _ _ (by decide)]
    exact bitsOf_mod_of_le _ _ _ _ (by decide)
  exact ⟨out, oe⟩

theorem registerWrite_ofGlbgpioStores :
    ∀ (v : DWord) (w : Word) (s : State),
    (Instr.registerWrite .pf (R.GLB_GPIO_OUT).off 32 v).wf = true →
    w = BitVec.ofNat 32 v.toNat →
    ∃ t, exec (.registerWrite .pf (R.GLB_GPIO_OUT).off 32 v) s = .next t ∧ t.hub.get R.GLB_GPIO_OUT = bitsOf w 4 12
      ∧ t.hub.get R.GLB_GPIO_OUT_OE = bitsOf w 20 12 ∧ t.mem = s.mem := by
  intro v w s hwf h1
  refine ⟨_, (by unfold exec; exact State.actMem_next hwf _ _), ?_⟩
  have glb (u : Word) : s.hub.glbWrite .pf 0x24 u = s.hub.plainWrite .pf 0x24 u := by
    unfold Hub.glbWrite
    rw [if_neg (by decide), if_neg (by decide), if_neg (by decide), if_neg (by decide)]
  dsimp only
  rw [Chip.pfWrite_word v _ (by decide) (by decide), Chip.writeReg_of_glb _ _ _ (by decide), h1]
  obtain ⟨out, oe⟩ := Hub.gpioWrite_stores .pf (BitVec.ofNat 32 v.toNat) s.hub
  dsimp only
  rw [glb]
  exact ⟨out, oe, rfl⟩

theorem registerWrite_ofCltnvalueStores :
    ∀ (n : Nat) (v : DWord) (w : Word) (s : State),
    (Instr.registerWrite .pf (0x120000 + 8 * n) 32 v).wf = true →
    n < 4096 →
    s.hub.sramErr (0x120000 + 8 * n) = 0 →
    w = BitVec.ofNat 32 v.toNat →
    ∃ t, exec (.registerWrite .pf (0x120000 + 8 * n) 32 v) s = .next t ∧ t.hub.get (R.CLT_VALUE n) = w.toNat ∧ t.mem = s.mem := by
  intro n v w s hwf h1 h2 h3
  refine ⟨_, (by unfold exec; exact State.actMem_next hwf _ _), ?_⟩
  have clt (u : Word) (h : Hub) : h.blockWrite .pf (0x120000 + 8 * n) u = h.cleatSet n u.toNat := by
    have unit : unitOf (0x120000 + 8 * n) 0x120000 8 = n := by unfold unitOf; omega
    unfold Hub.blockWrite
    iterate 6 rw [if_neg (by omega)]
    rw [if_pos (by omega), Hub.cltWrite, if_pos (by simp [inStride]; omega), unit]
  dsimp only
  rw [Chip.pfWrite_word v _ (by omega) (by omega), Chip.writeReg, if_neg (by rw [Hub.guarded_cltValue s.hub h1]; decide),
    Hub.sramMerge_of_clean s.hub _ h2]
  dsimp only
  rw [if_neg (by omega), if_neg (by omega), if_neg (by omega), clt, h3]
  exact ⟨(Hub.get_cleatSet_same _ s.hub h1).trans (Nat.mod_eq_of_lt (BitVec.isLt _)), rfl⟩

theorem registerWrite_toARegister :
    ∀ (off : Nat) (v : DWord) (w : Word) (s : State),
    (Instr.registerWrite .pf off 32 v).wf = true →
    off % 4 = 0 →
    off < 0x2000000 →
    s.hub.guarded off = true →
    ∃ t, exec (.registerWrite .pf off 32 v) s = .next t ∧ t.hub = s.hub.logAccess 0x10 .pf off
      (BitVec.ofNat 32 v.toNat).toNat ∧ t.mem = s.mem := by
  intro off v _ s hwf h1 h2 h3
  refine ⟨_, (by unfold exec; exact State.actMem_next hwf _ _), ?_⟩
  dsimp only
  rw [Chip.pfWrite_word v _ h1 h2, Chip.writeReg, if_pos h3]
  exact ⟨rfl, rfl⟩

theorem registerWrite_toAnUnassigned :
    ∀ (off : Nat) (v : DWord) (w : Word) (s : State),
    (Instr.registerWrite .pf off 32 v).wf = true →
    off % 4 = 0 →
    0xC00008 ≤ off →
    off < 0x2000000 →
    findReg off = none →
    s.hub.sramErr off = 0 →
    ∃ t, exec (.registerWrite .pf off 32 v) s = .next t ∧ t = s := by
  intro off v _ s hwf h1 h2 h3 h4 h5
  refine ⟨_, (by unfold exec; exact State.actMem_next hwf _ _), ?_⟩
  have open_ : s.hub.guarded off = false := by
    unfold Hub.guarded
    rw [h4]
  have nothing (u : Word) (h : Hub) : h.blockWrite .pf off u = h := by
    unfold Hub.blockWrite
    iterate 16 rw [if_neg (by omega)]
    rw [Hub.yewWrite, if_neg (by omega), if_neg (by omega), Hub.plainWrite, h4]
  rw [Chip.pfWrite_word v _ h1 h3, Chip.writeReg, if_neg (by rw [open_]; decide), Hub.sramMerge_of_clean s.hub _ h5]
  rw [if_neg (by omega), if_neg (by omega), if_neg (by omega), nothing]

theorem rcFieldRead_answersTheRegisters :
    ∀ (off : Nat) (s : State),
    (Instr.rcFieldRead .pf off 32).wf = true →
    off % 4 = 0 →
    off < 0x2000000 →
    s.hub.sramErr off = 0 →
    s.hub.guarded off = false →
    isLowHalf off = false →
    (off < 4 ∨ isLowHalf (off - 4) = false) →
    off ≠ 0x20 →
    inStride off 0x201000 4 48 0 = false →
    ∃ t, exec (.rcFieldRead .pf off 32) s = .next t ∧ t.hub.out = Out.readData .pf (s.hub.live off).toNat :: s.hub.out ∧
      t.hub.reg off = s.hub.reg off &&& ~~~ maskOf off (fun (f : FieldSpec) => f.acc == Acc.rc) ∧
        (∀ o, o ≠ off → t.hub.reg o = s.hub.reg o) ∧ t.mem = s.mem := by
  intro off s hwf h1 h2 h3 h4 h5 h6 h7 h8
  refine ⟨_, (by unfold exec; exact State.act_next hwf _ _), ?_⟩
  obtain ⟨sent, cleared, kept⟩ := Hub.pfRead_plain s.hub h1 h2 h3 h4 h5 h6 h7 h8
  exact ⟨sent, cleared, kept, rfl⟩

theorem levelProtectedRead_ofARegister :
    ∀ (off : Nat) (s : State),
    (Instr.levelProtectedRead .pf off).wf = true →
    off % 4 = 0 →
    off < 0x2000000 →
    s.hub.guarded off = true →
    ∃ t, exec (.levelProtectedRead .pf off) s = .next t ∧ t.hub = (s.hub.logAccess 0x10 .pf off 0).send (.readData .pf 0)
      ∧ t.mem = s.mem := by
  intro off s hwf h1 h2 h3
  refine ⟨_, (by unfold exec; exact State.act_next hwf _ _), ?_⟩
  have hidden : s.hub.readReg .pf off = .of 0 (s.hub.logAccess 0x10 .pf off 0) := if_pos h3
  dsimp only
  rw [Hub.readAnswer_word s.hub (Hub.place_of_holdsBlocks s.hub rfl h2) h1 (.inl h3) rfl (by rw [hidden]; rfl), hidden]
  exact ⟨rfl, rfl⟩

theorem levelProtectedRead_atALevel :
    ∀ (off : Nat) (s : State),
    (Instr.levelProtectedRead .pf off).wf = true →
    off % 4 = 0 →
    off < 0x2000000 →
    s.hub.sramErr off = 0 →
    s.hub.guarded off = false →
    isLowHalf off = false →
    (off < 4 ∨ isLowHalf (off - 4) = false) →
    off ≠ 0x20 →
    inStride off 0x201000 4 48 0 = false →
    ∃ t, exec (.levelProtectedRead .pf off) s = .next t ∧ t.hub.out = Out.readData .pf (s.hub.live off).toNat :: s.hub.out ∧
      t.hub.reg off = s.hub.reg off &&& ~~~ maskOf off (fun (f : FieldSpec) => f.acc == Acc.rc) ∧
        (∀ o, o ≠ off → t.hub.reg o = s.hub.reg o) ∧ t.mem = s.mem := by
  intro off s hwf h1 h2 h3 h4 h5 h6 h7 h8
  refine ⟨_, (by unfold exec; exact State.act_next hwf _ _), ?_⟩
  obtain ⟨sent, cleared, kept⟩ := Hub.pfRead_plain s.hub h1 h2 h3 h4 h5 h6 h7 h8
  exact ⟨sent, cleared, kept, rfl⟩

theorem shadowLowRead_answersTheLow :
    ∀ (off : Nat) (s : State),
    (Instr.shadowLowRead .pf off).wf = true →
    off % 4 = 0 →
    off < 0x2000000 →
    s.hub.sramErr off = 0 →
    s.hub.guarded off = false →
    isLowHalf off = true →
    ∃ t, exec (.shadowLowRead .pf off) s = .next t ∧ t.hub.out = Out.readData .pf (s.hub.live off).toNat :: s.hub.out
      ∧ t.hub.shadow .pf = some (off, s.hub.live (off + 4)) ∧ t.hub.regs = s.hub.regs ∧ t.mem = s.mem := by
  intro off s hwf h1 h2 h3 h4 h5
  refine ⟨_, (by unfold exec; exact State.act_next hwf _ _), ?_⟩
  have half : s.hub.readReg .pf off = .of (s.hub.live off) (s.hub.latchShadow .pf off (s.hub.live (off + 4))) := by
    unfold Hub.readReg
    rw [if_neg (by rw [h4]; decide), if_pos h5]
  dsimp only
  rw [Hub.readAnswer_word s.hub (Hub.place_of_holdsBlocks s.hub rfl h2) h1 (.inr h3) rfl (by rw [half]; rfl), half]
  exact ⟨rfl, rfl, rfl, rfl⟩

/-- A read of the upper half of a 64-bit register goes through the path's shadow. -/
theorem Hub.readReg_highHalf (p : Path) {off : Nat} (h : Hub) (shown : h.guarded off = false) (whole : isLowHalf off = false)
    (far : 4 ≤ off) (half : isLowHalf (off - 4) = true) :
    h.readReg p off = .mk (h.takeShadow p (off - 4) (h.live off)).1 (h.takeShadow p (off - 4) (h.live off)).2.1 false
      (h.takeShadow p (off - 4) (h.live off)).2.2 := by
  unfold Hub.readReg
  rw [if_neg (by rw [shown]; decide), if_neg (by rw [whole]; decide), if_pos ⟨far, half⟩]

theorem shadowHighRead_answersTheLatched :
    ∀ (off : Nat) (w : Word) (s : State),
    (Instr.shadowHighRead .pf off).wf = true →
    off % 4 = 0 →
    4 ≤ off →
    off < 0x2000000 →
    s.hub.sramErr off = 0 →
    s.hub.guarded off = false →
    isLowHalf off = false →
    isLowHalf (off - 4) = true →
    s.hub.shadow .pf = some (off - 4, w) →
    ∃ t, exec (.shadowHighRead .pf off) s = .next t ∧ t.hub.out = Out.readData .pf w.toNat :: s.hub.out
      ∧ t.hub.shadow .pf = none ∧ t.hub.regs = s.hub.regs ∧ t.mem = s.mem := by
  intro off w s hwf h1 h2 h3 h4 h5 h6 h7 h8
  refine ⟨_, (by unfold exec; exact State.act_next hwf _ _), ?_⟩
  have taken : s.hub.takeShadow .pf (off - 4) (s.hub.live off) = (w, false, s.hub.dropShadow .pf) := by
    unfold Hub.takeShadow
    rw [h8]
    exact if_pos rfl
  have high := Hub.readReg_highHalf .pf s.hub h5 h6 h2 h7
  rw [taken] at high
  have none_ : (s.hub.dropShadow .pf).shadow .pf = none := by
    simp [Hub.shadow, Hub.dropShadow]
  dsimp only
  rw [Hub.readAnswer_word s.hub (Hub.place_of_holdsBlocks s.hub rfl h3) h1 (.inr h4) rfl (by rw [high]), high]
  exact ⟨rfl, none_, rfl, rfl⟩

theorem shadowHighRead_withNoShadow :
    ∀ (off : Nat) (s : State),
    (Instr.shadowHighRead .pf off).wf = true →
    off % 4 = 0 →
    4 ≤ off →
    off < 0x2000000 →
    s.hub.sramErr off = 0 →
    s.hub.guarded off = false →
    isLowHalf off = false →
    isLowHalf (off - 4) = true →
    s.hub.shadow .pf = none →
    ∃ t, exec (.shadowHighRead .pf off) s = .next t ∧ t.hub.out = Out.readData .pf (s.hub.live off).toNat :: s.hub.out
      ∧ t.hub.get R.TIME_STAT_STALE_HALF = 1 ∧ t.mem = s.mem := by
  intro off s hwf h1 h2 h3 h4 h5 h6 h7 h8
  refine ⟨_, (by unfold exec; exact State.act_next hwf _ _), ?_⟩
  have taken : s.hub.takeShadow .pf (off - 4) (s.hub.live off) = (s.hub.live off, true, s.hub.setStale .pf) := by
    unfold Hub.takeShadow
    rw [h8]
  have high := Hub.readReg_highHalf .pf s.hub h5 h6 h2 h7
  rw [taken] at high
  dsimp only
  rw [Hub.readAnswer_word s.hub (Hub.place_of_holdsBlocks s.hub rfl h3) h1 (.inr h4) rfl (by rw [high]), high]
  exact ⟨rfl, Hub.get_put_same _ _ _ (by simp), rfl⟩

/-- Settles O19: one lemma per clause; a whole-word read is the register's own read, and a whole-word write the block's own. -/
theorem registerAccessAnswers : Obligations.RegisterAccessAnswers := by
  unfold Obligations.RegisterAccessAnswers
  exact ⟨registerWrite_ofGlbgpioStores, registerWrite_ofCltnvalueStores, registerWrite_toARegister,
    registerWrite_toAnUnassigned, rcFieldRead_answersTheRegisters, levelProtectedRead_ofARegister,
    levelProtectedRead_atALevel, shadowLowRead_answersTheLow, shadowHighRead_answersTheLatched, shadowHighRead_withNoShadow⟩

end Sys2Proof.Machine
end

section
/-!
### The PCIe function and its vectors
-/
namespace Sys2Proof.Machine

set_option Elab.async false
open Hub.Alters

theorem bit_withBit (v k : Nat) (b : Bool) : bit (withBit v k b) k = b := by
  unfold bit withBit
  have split : v = v % 2 ^ k + 2 ^ k * (v / 2 ^ k % 2) + 2 ^ k * (2 * (v / 2 ^ k / 2)) := by
    have low := Nat.mod_add_div v (2 ^ k)
    have high := Nat.mod_add_div (v / 2 ^ k) 2
    calc v = v % 2 ^ k + 2 ^ k * (v / 2 ^ k) := low.symm
      _ = v % 2 ^ k + 2 ^ k * (v / 2 ^ k % 2 + 2 * (v / 2 ^ k / 2)) := by rw [high]
      _ = _ := by ring
  have cleared : v - v / 2 ^ k % 2 * 2 ^ k + b2n b * 2 ^ k = v % 2 ^ k + 2 ^ k * (b2n b + 2 * (v / 2 ^ k / 2)) := by
    have whole : v - v / 2 ^ k % 2 * 2 ^ k = v % 2 ^ k + 2 ^ k * (2 * (v / 2 ^ k / 2)) := by
      have swap := Nat.mul_comm (v / 2 ^ k % 2) (2 ^ k)
      omega
    rw [whole]
    ring
  rw [cleared, Nat.add_mul_div_left _ _ (Nat.two_pow_pos k), Nat.div_eq_of_lt (Nat.mod_lt _ (Nat.two_pow_pos k)), Nat.zero_add,
    Nat.add_mul_mod_self_left]
  cases b <;> rfl

theorem withBit_false_le (v k : Nat) : withBit v k false ≤ v := by
  unfold withBit
  simp [b2n]

theorem Hub.aer_marks (fn kind : Nat) (h : Hub) : bit (nget (h.aer fn kind).pcie.aer fn) kind = true := by
  unfold Hub.aer
  dsimp only
  rw [nget_nset_same, bit_withBit]

/-- Which functions run, which vectors are enabled, and the boot part are as before. -/
structure Hub.SameRuns (h g : Hub) : Prop where
  bme : g.pcie.bme = h.pcie.bme
  d3 : g.pcie.d3 = h.pcie.d3
  msixEn : g.pcie.msixEn = h.pcie.msixEn
  fmask : g.pcie.fmask = h.pcie.fmask
  boot : g.boot = h.boot

theorem Hub.SameRuns.refl (h : Hub) : Hub.SameRuns h h := ⟨rfl, rfl, rfl, rfl, rfl⟩

theorem Hub.SameRuns.trans {a b c : Hub} (x : Hub.SameRuns a b) (y : Hub.SameRuns b c) : Hub.SameRuns a c :=
  ⟨y.bme.trans x.bme, y.d3.trans x.d3, y.msixEn.trans x.msixEn, y.fmask.trans x.fmask, y.boot.trans x.boot⟩

theorem Hub.SameRuns.of_alters {P : List Part} {W : Nat → Prop} {h g : Hub} (x : Hub.Alters P W h g)
    (hp : Part.pcie ∉ P) (hb : Part.boot ∉ P) : Hub.SameRuns h g := by
  have pcie := x.pcie hp
  exact ⟨congrArg PcieS.bme pcie, congrArg PcieS.d3 pcie, congrArg PcieS.msixEn pcie, congrArg PcieS.fmask pcie, x.boot hb⟩

theorem Hub.sameRuns_setPending (fn vec : Nat) (b : Bool) (h : Hub) : Hub.SameRuns h (h.setPending fn vec b) := by
  unfold Hub.setPending
  split <;> exact ⟨rfl, rfl, rfl, rfl, rfl⟩

theorem Hub.sameRuns_sendVector (fn vec : Nat) (h : Hub) : Hub.SameRuns h (h.sendVector fn vec) := by
  unfold Hub.sendVector
  split
  · exact .refl h
  · split
    · exact Hub.sameRuns_setPending ..
    · exact ⟨rfl, rfl, rfl, rfl, rfl⟩

theorem Hub.sameRuns_sendPending (fn vec : Nat) (h : Hub) : Hub.SameRuns h (h.sendPending fn vec) := by
  unfold Hub.sendPending
  split
  · exact (Hub.sameRuns_setPending fn vec false h).trans ⟨rfl, rfl, rfl, rfl, rfl⟩
  · exact .refl h

theorem Hub.ring_setRing_same (n : Nat) (r : RingS) (h : Hub) : (h.setRing n r).ring n = r := Store.get_set_same _ _ _ _

theorem Hub.sameRuns_setRing (n : Nat) (r : RingS) (h : Hub) : Hub.SameRuns h (h.setRing n r) := ⟨rfl, rfl, rfl, rfl, rfl⟩

theorem Hub.sameRuns_fire (n : Nat) (h : Hub) : Hub.SameRuns h (h.fire n) := by
  unfold Hub.fire
  exact (Hub.sameRuns_setRing n _ h).trans (Hub.sameRuns_sendVector ..)

theorem Hub.sameRuns_moderate (n status : Nat) (h : Hub) : Hub.SameRuns h (h.moderate n status) := by
  unfold Hub.moderate
  extract_lets
  split
  · exact .refl h
  · split
    · exact (Hub.sameRuns_setRing n _ h).trans (Hub.sameRuns_fire ..)
    · split <;> exact ⟨rfl, rfl, rfl, rfl, rfl⟩

theorem Hub.sameRuns_writeCpl (n : Nat) (c : Cpl) (h : Hub) : Hub.SameRuns h (h.writeCpl n c) := by
  unfold Hub.writeCpl
  extract_lets t ph h1 t1 h2 h3
  have counted : Hub.SameRuns h3 (h3.countEvent 2) := .of_alters (P := []) (W := those []) ((self ..).countEvent 2) (by simp)
    (by simp)
  have used (k : Hub) (u : Nat) : Hub.Alters [.rings] (fun _ => True) k (k.setUsed n u) := by
    unfold Hub.setUsed Hub.setRing
    exact ((self ..).set_rings _).put _ (.inr (.inr trivial))
  have stored : Hub.Alters [.rings] (fun _ => True) h h3 :=
    (((((self ..).send _).put _ (.inr (.inr trivial))).put _ (.inr (.inr trivial))).trans (used ..)).add64 _
      (.inr (.inr trivial)) (.inr (.inr trivial))
  exact (Hub.SameRuns.of_alters stored (by simp) (by simp)).trans (counted.trans (Hub.sameRuns_moderate ..))

theorem Hub.sameRuns_flushList (n : Nat) (l : List Cpl) (h : Hub) : Hub.SameRuns h (Hub.flushList n l h) := by
  induction l generalizing h with
  | nil => exact ⟨rfl, rfl, rfl, rfl, rfl⟩
  | cons c cs ih =>
    unfold Hub.flushList
    split
    · exact (Hub.sameRuns_writeCpl n c h).trans (ih _)
    · exact ⟨rfl, rfl, rfl, rfl, rfl⟩

theorem Hub.sameRuns_upto (n : Nat) (f : Nat → Hub → Hub) (step : ∀ k g, Hub.SameRuns g (f k g)) (h : Hub) :
    Hub.SameRuns h (h.upto n f) :=
  Hub.upto_rel .refl (fun _ _ _ => .trans) (fun k _ g => step k g) h

/-- A vector that waits, enabled and unmasked, of a function that runs, is sent. -/
theorem Hub.sendPending_sends (vec : Nat) (h : Hub) (waits : h.vecPending 0 vec = true) (enabled : nget h.pcie.msixEn 0 ≠ 0)
    (clear : h.vecMasked 0 vec = false) (runs : h.fnRuns 0 = true) :
    h.sendPending 0 vec = (h.setPending 0 vec false).send (.msix 0 vec) := by
  unfold Hub.sendPending
  rw [if_pos ⟨waits, enabled, by rw [clear]; decide, runs⟩]

theorem configRequest_forTheId :
    ∀ (fn : Nat) (s : State),
    (Instr.configRequest fn .readId).wf = true →
    s.hub.pcie.linkUp = true →
    ∃ t, exec (.configRequest fn .readId) s = .next t ∧ t.hub = s.hub.send (.completion fn 0 (leBytes 4 (configId fn)))
      ∧ t.mem = s.mem := by
  intro fn s hwf h1
  refine ⟨_, (by unfold exec; exact State.act_next hwf _ _), ?_⟩
  dsimp only
  rw [if_neg (by rw [h1]; decide)]
  exact ⟨rfl, rfl⟩

theorem configRequest_forAField :
    ∀ (fn : Nat) (f : CfgField) (s : State),
    (Instr.configRequest fn (.read f)).wf = true →
    s.hub.pcie.linkUp = true →
    ∃ t, exec (.configRequest fn (.read f)) s = .next t ∧ t.hub = s.hub.send (.completion fn 0 (leBytes 4
      (s.hub.cfgRead fn f))) ∧ t.mem = s.mem := by
  intro fn f s hwf h1
  refine ⟨_, (by unfold exec; exact State.act_next hwf _ _), ?_⟩
  dsimp only
  rw [if_neg (by rw [h1]; decide)]
  exact ⟨rfl, rfl⟩

theorem configRequest_thatWritesA :
    ∀ (fn : Nat) (f : CfgField) (v : Word) (s : State),
    (Instr.configRequest fn (.write f v)).wf = true →
    s.hub.pcie.linkUp = true →
    cfgWidth f ≠ 0 →
    ∃ t, exec (.configRequest fn (.write f v)) s = .next t ∧ t.hub.cfgHeld fn f = v.toNat % 2 ^ cfgWidth f
      ∧ Out.completion fn 0 [] ∈ t.hub.out ∧ t.hub.regs = s.hub.regs ∧ t.mem = s.mem := by
  intro fn f v s hwf h1 h2
  refine ⟨_, (by unfold exec; exact State.act_next hwf _ _), ?_⟩
  dsimp only
  rw [if_neg (by rw [h1]; decide), Hub.cfgWrite, if_neg h2]
  refine ⟨?_, List.mem_cons_self, rfl, rfl⟩
  have stored : nget (nset s.hub.pcie.cfg (64 * fn + cfgCode f) (1 + v.toNat % 2 ^ cfgWidth f)) (64 * fn + cfgCode f) =
      1 + v.toNat % 2 ^ cfgWidth f := nget_nset_same _ _ _
  unfold Hub.cfgHeld
  dsimp only [Hub.send]
  rw [stored, if_pos (by omega)]
  omega

theorem configRequest_ofMsixControl :
    ∀ (fn : Nat) (en msk : Bool) (s : State),
    (Instr.configRequest fn (.msix en msk)).wf = true →
    s.hub.pcie.linkUp = true →
    ∃ t, exec (.configRequest fn (.msix en msk)) s = .next t ∧ nget t.hub.pcie.msixEn fn = b2n en
      ∧ nget t.hub.pcie.fmask fn = b2n msk ∧ Out.completion fn 0 [] ∈ t.hub.out ∧ t.mem = s.mem := by
  intro fn en msk s hwf h1
  refine ⟨_, (by unfold exec; exact State.act_next hwf _ _), ?_⟩
  dsimp only
  rw [if_neg (by rw [h1]; decide), Hub.msixControl]
  have same := Hub.sameRuns_upto (vectorsOf fn) (Hub.sendPending fn) (Hub.sameRuns_sendPending fn) { s.hub with
    pcie := { s.hub.pcie with msixEn := nset s.hub.pcie.msixEn fn (b2n en), fmask := nset s.hub.pcie.fmask fn (b2n msk) } }
  refine ⟨?_, ?_, List.mem_cons_self, rfl⟩
  · exact (congrArg (nget · fn) same.msixEn).trans (nget_nset_same _ _ _)
  · exact (congrArg (nget · fn) same.fmask).trans (nget_nset_same _ _ _)

theorem pcieLinkUp_recordsRateWidth :
    ∀ (rate width : Nat) (flit : Bool) (s : State),
    (Instr.pcieLinkUp rate width flit).wf = true →
    s.hub.pcie.detect = true →
    s.hub.pinsOut = false →
    s.hub.domOn 68 = true →
    ∃ t, exec (.pcieLinkUp rate width flit) s = .next t ∧ t.hub.pcie.linkUp = true ∧ t.hub.get R.GLB_PCIE_STAT_RATE = rate
      ∧ t.hub.get R.GLB_PCIE_STAT_WIDTH = width ∧
      t.hub.get R.GLB_PCIE_STAT_FLIT = b2n (flit || rate == 6) ∧ t.mem = s.mem := by
  intro rate width flit s hwf h1 h2 h3
  refine ⟨_, (by unfold exec; exact State.act_next hwf _ _), ?_⟩
  obtain ⟨rateOk, widthOk⟩ : (1 ≤ rate ∧ rate ≤ 6) ∧ (width = 1 ∨ width = 2 ∨ width = 4 ∨ width = 8 ∨ width = 16) := by
    simpa [Instr.wf, Ok.pcieLinkUp] using hwf
  dsimp only
  rw [if_neg (by simp [h1, h2, h3])]
  have shown (k : Hub) : (((k.put R.GLB_PCIE_STAT_RATE rate).put R.GLB_PCIE_STAT_WIDTH width).put R.GLB_PCIE_STAT_FLIT
      (b2n (flit || rate == 6))).get R.GLB_PCIE_STAT_RATE = rate ∧
    (((k.put R.GLB_PCIE_STAT_RATE rate).put R.GLB_PCIE_STAT_WIDTH width).put R.GLB_PCIE_STAT_FLIT
      (b2n (flit || rate == 6))).get R.GLB_PCIE_STAT_WIDTH = width ∧
    (((k.put R.GLB_PCIE_STAT_RATE rate).put R.GLB_PCIE_STAT_WIDTH width).put R.GLB_PCIE_STAT_FLIT
      (b2n (flit || rate == 6))).get R.GLB_PCIE_STAT_FLIT = b2n (flit || rate == 6) := by
    refine ⟨?_, ?_, ?_⟩
    · rw [Hub.get_put_apart _ _ _ _ (by simp) (by simp), Hub.get_put_apart _ _ _ _ (by simp) (by simp), Hub.get_put_same _ _ _
      (by simp)]
      exact Nat.mod_eq_of_lt (by simp; omega)
    · rw [Hub.get_put_apart _ _ _ _ (by simp) (by simp), Hub.get_put_same _ _ _ (by simp)]
      exact Nat.mod_eq_of_lt (by simp; omega)
    · rw [Hub.get_put_same _ _ _ (by simp)]
      exact b2n_mod_two _
  obtain ⟨rateIs, widthIs, flitIs⟩ := shown { s.hub with pcie := { s.hub.pcie with linkUp := true } }
  have up (k : Hub) : (((k.put R.GLB_PCIE_STAT_RATE rate).put R.GLB_PCIE_STAT_WIDTH width).put R.GLB_PCIE_STAT_FLIT
      (b2n (flit || rate == 6))).pcie = k.pcie := rfl
  generalize hk : (({ s.hub with pcie := { s.hub.pcie with linkUp := true } }.put R.GLB_PCIE_STAT_RATE rate).put
    R.GLB_PCIE_STAT_WIDTH width).put R.GLB_PCIE_STAT_FLIT (b2n (flit || rate == 6)) = k at *
  have linkUp : k.pcie.linkUp = true := by rw [← hk, up]
  split
  · have noted : Hub.Alters [] (those []) k (k.warn 0x13 0 rate 0xFFFF) := (self ..).warn _ _ _ _
    exact ⟨(congrArg PcieS.linkUp (noted.pcie (by simp))).trans linkUp,
      (noted.get _ (by simp [framed, logReg, evtReg, those])).trans rateIs,
      (noted.get _ (by simp [framed, logReg, evtReg, those])).trans widthIs,
      (noted.get _ (by simp [framed, logReg, evtReg, those])).trans flitIs, rfl⟩
  · exact ⟨linkUp, rateIs, widthIs, flitIs, rfl⟩

theorem malformedTlp_setsItsAer :
    ∀ (fn : Nat) (overflow : Bool) (s : State),
    (Instr.malformedTlp ⟨fn, overflow⟩).wf = true →
    ∃ t, exec (.malformedTlp ⟨fn, overflow⟩) s = .next t ∧ bit (nget t.hub.pcie.aer fn) (if overflow then 6 else 5) = true
      ∧ t.hub.regs = s.hub.regs ∧ t.mem = s.mem := by
  intro fn overflow s hwf
  refine ⟨_, (by unfold exec; exact State.act_next hwf _ _), ?_⟩
  exact ⟨Hub.aer_marks .., rfl, rfl⟩

theorem poisonedTlpReceived_setsItsAer :
    ∀ (fn : Nat) (s : State),
    (Instr.poisonedTlpReceived fn).wf = true →
    ∃ t, exec (.poisonedTlpReceived fn) s = .next t ∧ bit (nget t.hub.pcie.aer fn) 2 = true ∧ t.hub.regs = s.hub.regs
      ∧ t.mem = s.mem := by
  intro fn s hwf
  refine ⟨_, (by unfold exec; exact State.act_next hwf _ _), ?_⟩
  exact ⟨Hub.aer_marks .., rfl, rfl⟩

theorem unsupportedRequest_setsItsAer :
    ∀ (fn : Nat) (posted : Bool) (s : State),
    (Instr.unsupportedRequest fn posted).wf = true →
    ∃ t, exec (.unsupportedRequest fn posted) s = .next t ∧ bit (nget t.hub.pcie.aer fn) 1 = true ∧ t.hub.out =
      (if posted then s.hub.out else Out.completion fn 1 [] :: s.hub.out) ∧ t.hub.regs = s.hub.regs ∧ t.mem = s.mem := by
  intro fn posted s hwf
  refine ⟨_, (by unfold exec; exact State.act_next hwf _ _), ?_⟩
  have marked := Hub.aer_marks fn 1 s.hub
  dsimp only
  cases posted with
  | true => exact ⟨marked, rfl, rfl, rfl⟩
  | false => exact ⟨marked, rfl, rfl, rfl⟩

theorem vfEnableChange_storesVfEnable :
    ∀ (enable : Bool) (num : Nat) (s : State),
    (Instr.vfEnableChange enable num).wf = true →
    ∃ t, exec (.vfEnableChange enable num) s = .next t ∧ t.hub.pcie.vfEn = enable ∧ t.hub.pcie.numVfs = num := by
  intro enable num s hwf
  refine ⟨_, (by unfold exec; exact State.actMem_next hwf _ _), ?_⟩
  exact ⟨rfl, rfl⟩

theorem vfWindowWrite_withTheVfs :
    ∀ (req : Path) (k w : Nat) (v : Word) (s : State),
    (Instr.vfWindowWrite req k w v).wf = true →
    req.holdsBlocks = true →
    s.hub.vfIdle k = true →
    ∃ t, exec (.vfWindowWrite req k w v) s = .next t ∧ t.hub.reg (0x200 + 0x10 * k + 4 * w) = v &&& vfWinMask w := by
  intro req k w v s hwf h1 h2
  refine ⟨_, (by unfold exec; exact State.act_pfWrite_next hwf h1 _ _), ?_⟩
  dsimp only
  rw [Hub.vfWinWrite, if_pos h2, Hub.reg_setReg_same]

theorem busMasterDisable_stopsTheFunction :
    ∀ (fn : Nat) (d3hot : Bool) (s : State),
    (Instr.busMasterDisable fn d3hot).wf = true →
    ∃ t, exec (.busMasterDisable fn d3hot) s = .next t ∧ t.hub.fnRuns fn = false ∧ t.hub.regs = s.hub.regs
      ∧ t.hub.out = s.hub.out ∧ t.hub.rings = s.hub.rings := by
  intro fn d3hot s hwf
  refine ⟨_, (by unfold exec; exact State.act_next hwf _ _), ?_⟩
  dsimp only
  cases d3hot with
  | true => exact ⟨by simp [Hub.fnRuns], rfl, rfl, rfl⟩
  | false => exact ⟨by simp [Hub.fnRuns], rfl, rfl, rfl⟩

theorem busMasterEnable_letsTheFunction :
    ∀ (fn : Nat) (s : State),
    (Instr.busMasterEnable fn).wf = true →
    s.hub.boot.fwDue = false →
    ∃ t, exec (.busMasterEnable fn) s = .next t ∧ t.hub.fnRuns fn = true ∧ t.mem = s.mem := by
  intro fn s hwf h1
  refine ⟨_, (by unfold exec; exact State.actMem_next hwf _ _), ?_⟩
  have same : Hub.SameRuns
      { s.hub with pcie := { s.hub.pcie with bme := nset s.hub.pcie.bme fn 1, d3 := nset s.hub.pcie.d3 fn 0 } }
      (s.hub.busMasterOn fn) := by
    unfold Hub.busMasterOn
    refine Hub.SameRuns.trans (Hub.sameRuns_upto 256 _ (fun n g => ?_) _)
      (Hub.sameRuns_upto (vectorsOf fn) (Hub.sendPending fn) (Hub.sameRuns_sendPending fn) _)
    split
    · exact Hub.sameRuns_flushList ..
    · exact .refl g
  have runs : (s.hub.busMasterOn fn).fnRuns fn = true := by
    unfold Hub.fnRuns
    rw [same.bme, same.d3]
    simp
  dsimp only
  rw [if_neg (by rw [same.boot]; simp [h1])]
  exact ⟨runs, rfl⟩

/-- PEND of one vector of the PF is cleared, in its own word, and nothing is sent. -/
theorem Hub.clearPending_pf (vec : Nat) (h : Hub) : (h.setPending 0 vec false).vecPending 0 vec = false ∧
    (h.setPending 0 vec false).out = h.out ∧
    ∀ f : RF, f.off ≠ (R.MSIX_PBA_PEND (vec / 32)).off → (h.setPending 0 vec false).get f = h.get f := by
  unfold Hub.setPending Hub.vecPending
  rw [if_pos rfl, if_pos rfl]
  refine ⟨?_, rfl, fun f hf => Hub.get_put_ne _ _ _ _ hf⟩
  have word : h.get (R.MSIX_PBA_PEND (vec / 32)) < 2 ^ 32 := Hub.get_lt h _
  have fits : withBit (h.get (R.MSIX_PBA_PEND (vec / 32))) (vec % 32) false < 2 ^ 32 := (withBit_false_le _ _).trans_lt word
  rw [Hub.get_put_same _ _ _ (by simp), Nat.mod_eq_of_lt (by simpa using fits), bit_withBit]

theorem vectorUnmask_ofAPending :
    ∀ (fn vec : Nat) (s : State),
    (Instr.vectorUnmask fn vec).wf = true →
    fn = 0 →
    s.hub.vecPending 0 vec = true →
    nget s.hub.pcie.msixEn 0 = 1 →
    nget s.hub.pcie.fmask 0 = 0 →
    s.hub.fnRuns 0 = true →
    ∃ t, exec (.vectorUnmask fn vec) s = .next t ∧ t.hub.get (R.MSIX_CTRL_MASK vec) = 0 ∧ t.hub.vecPending 0 vec = false
      ∧ t.hub.out = Out.msix 0 vec :: s.hub.out := by
  intro fn vec s hwf h1 h2 h3 h4 h5
  refine ⟨_, (by unfold exec; exact State.act_next hwf _ _), ?_⟩
  subst h1
  obtain ⟨-, hv⟩ : 0 < 32 ∧ vec < 264 := by simpa [Instr.wf, Ok.vectorUnmask] using hwf
  have waits : (s.hub.put (R.MSIX_CTRL_MASK vec) 0).vecPending 0 vec = true := by
    unfold Hub.vecPending at h2 ⊢
    rw [if_pos rfl] at h2 ⊢
    rw [Hub.get_put_ne _ _ _ _ (by simp; omega)]
    exact h2
  have open_ : (s.hub.put (R.MSIX_CTRL_MASK vec) 0).vecMasked 0 vec = false := by
    have shown : (s.hub.put (R.MSIX_CTRL_MASK vec) 0).get (R.MSIX_CTRL_MASK vec) = 0 := Hub.get_put_same _ _ _ (by simp)
    have fmask : nget (s.hub.put (R.MSIX_CTRL_MASK vec) 0).pcie.fmask 0 = 0 := h4
    unfold Hub.vecMasked Hub.on
    rw [fmask, shown]
    rfl
  have enabled : nget (s.hub.put (R.MSIX_CTRL_MASK vec) 0).pcie.msixEn 0 ≠ 0 := by
    have same : nget (s.hub.put (R.MSIX_CTRL_MASK vec) 0).pcie.msixEn 0 = 1 := h3
    omega
  dsimp only
  rw [Hub.setMask, if_pos rfl, Hub.sendPending_sends vec _ waits enabled open_ h5]
  have masked : (s.hub.put (R.MSIX_CTRL_MASK vec) 0).get (R.MSIX_CTRL_MASK vec) = 0 := Hub.get_put_same _ _ _ (by simp)
  have out : (s.hub.put (R.MSIX_CTRL_MASK vec) 0).out = s.hub.out := rfl
  generalize s.hub.put (R.MSIX_CTRL_MASK vec) 0 = g at masked out ⊢
  obtain ⟨shown, sent, kept⟩ := Hub.clearPending_pf vec g
  refine ⟨(kept _ (by simp; omega)).trans masked, shown, ?_⟩
  exact congrArg (Out.msix 0 vec :: ·) (sent.trans out)

theorem vectorUnmask_ofAVfs :
    ∀ (fn vec : Nat) (s : State),
    (Instr.vectorUnmask fn vec).wf = true →
    0 < fn →
    s.hub.vecPending fn vec = false →
    ∃ t, exec (.vectorUnmask fn vec) s = .next t ∧ bitsOf (Store.get vfTableReset t.hub.pcie.vfTable (32 *
      (fn - 1) + 4 * vec + 3)) 0 1 = 0 ∧ t.hub.out = s.hub.out ∧ t.hub.regs = s.hub.regs := by
  intro fn vec s hwf h1 h2
  refine ⟨_, (by unfold exec; exact State.act_next hwf _ _), ?_⟩
  have quiet : (s.hub.setMask fn vec 0).sendPending fn vec = s.hub.setMask fn vec 0 := by
    have waits : (s.hub.setMask fn vec 0).vecPending fn vec = false := by
      unfold Hub.setMask Hub.vecPending at *
      rw [if_neg (by omega)] at h2 ⊢
      rw [if_neg (by omega)]
      exact h2
    exact if_neg fun all => by rw [waits] at all; exact absurd all.1 (by decide)
  dsimp only
  rw [quiet, Hub.setMask, if_neg (by omega)]
  refine ⟨?_, rfl, rfl⟩
  dsimp only
  rw [Store.get_set_same]
  rfl

theorem moderationTimerExpiry_withCompletionsPending :
    ∀ (n : Nat) (s : State),
    (Instr.moderationTimerExpiry n).wf = true →
    (s.hub.ring n).timer = true →
    0 < (s.hub.ring n).pend →
    s.hub.ringFn n = 0 →
    nget s.hub.pcie.msixEn 0 = 1 →
    s.hub.vecMasked 0 ((s.hub.ring n).vec % 264) = false →
    s.hub.fnRuns 0 = true →
    ∃ t, exec (.moderationTimerExpiry n) s = .next t ∧ (t.hub.ring n).timer = false ∧ (t.hub.ring n).pend = 0 ∧
      t.hub.out = Out.msix 0 ((s.hub.ring n).vec % 264) :: s.hub.out ∧ t.hub.regs = s.hub.regs := by
  intro n s hwf h1 h2 h3 h4 h5 h6
  refine ⟨_, (by unfold exec; exact State.act_next hwf _ _), ?_⟩
  dsimp only
  rw [if_pos h1, if_pos h2]
  generalize hg : s.hub.setRing n { s.hub.ring n with timer := false } = g
  have ring : g.ring n = { s.hub.ring n with timer := false } := by rw [← hg, Hub.ring_setRing_same]
  have same : g.regs = s.hub.regs ∧ g.out = s.hub.out ∧ g.pcie = s.hub.pcie := by rw [← hg]; exact ⟨rfl, rfl, rfl⟩
  obtain ⟨regs, out, pcie⟩ := same
  have fn : g.ringFn n = 0 := (Hub.get_congr regs _).trans h3
  have sent (k : Hub) (hp : k.pcie = s.hub.pcie) (hr : k.regs = s.hub.regs) :
      k.sendVector 0 ((s.hub.ring n).vec % 264) = k.send (.msix 0 ((s.hub.ring n).vec % 264)) := by
    have clear : k.vecMasked 0 ((s.hub.ring n).vec % 264) = false := by
      unfold Hub.vecMasked Hub.on at h5 ⊢
      rw [hp, Hub.get_congr hr]
      exact h5
    have runs : k.fnRuns 0 = true := by
      unfold Hub.fnRuns at h6 ⊢
      rw [hp]
      exact h6
    unfold Hub.sendVector
    rw [if_neg (by rw [hp, h4]; decide), if_neg (by rw [clear, runs]; decide)]
  unfold Hub.fire
  dsimp only
  rw [ring, fn]
  dsimp only
  rw [show vectorsOf 0 = 264 from rfl, sent (g.setRing n _) pcie regs]
  have fired : (g.setRing n { s.hub.ring n with pend := 0, timer := false }).ring n =
      { s.hub.ring n with pend := 0, timer := false } := Hub.ring_setRing_same ..
  exact ⟨congrArg RingS.timer fired, congrArg RingS.pend fired, congrArg (Out.msix 0 ((s.hub.ring n).vec % 264) :: ·) out, regs⟩

/-- Settles O28: one lemma per clause; a vector sent or made pending leaves which functions run and which vectors are enabled. -/
theorem hostLinkAnswers : Obligations.HostLinkAnswers := by
  unfold Obligations.HostLinkAnswers
  exact ⟨configRequest_forTheId, configRequest_forAField, configRequest_thatWritesA, configRequest_ofMsixControl,
    pcieLinkUp_recordsRateWidth, malformedTlp_setsItsAer, poisonedTlpReceived_setsItsAer, unsupportedRequest_setsItsAer,
    vfEnableChange_storesVfEnable, vfWindowWrite_withTheVfs, busMasterDisable_stopsTheFunction,
    busMasterEnable_letsTheFunction, vectorUnmask_ofAPending, vectorUnmask_ofAVfs,
    moderationTimerExpiry_withCompletionsPending⟩

end Sys2Proof.Machine
end

section
/-!
### Sheet and the telltales
-/
namespace Sys2Proof.Machine

set_option Elab.async false
open Hub.Alters

/-- The registers that say how Sheet treats class `c`: the controls, the class's limits and its cuts. -/
abbrev classReg (c a : Nat) : Prop := a = 0x400000 ∨ a = 0x400010 + 16 * c ∨ a = 0x400018 + 16 * c

/-- What Sheet knows of class `c` is as before: its rate, the time since its cut, its congestion and its registers. -/
structure Hub.SameClass (c : Nat) (h g : Hub) : Prop where
  rate : nget g.memch.rate c = nget h.memch.rate c
  since : nget g.memch.sinceCut c = nget h.memch.sinceCut c
  cong : g.memch.congAt = h.memch.congAt
  clock : g.clock = h.clock
  get : ∀ f : RF, classReg c f.off → g.get f = h.get f

theorem Hub.SameClass.refl (c : Nat) (h : Hub) : Hub.SameClass c h h := ⟨rfl, rfl, rfl, rfl, fun _ _ => rfl⟩

theorem Hub.SameClass.trans (c : Nat) (h g k : Hub) (x : Hub.SameClass c h g) (y : Hub.SameClass c g k) : Hub.SameClass c h k :=
  ⟨y.rate.trans x.rate, y.since.trans x.since, y.cong.trans x.cong, y.clock.trans x.clock,
    fun f hf => (y.get f hf).trans (x.get f hf)⟩

theorem Hub.SameClass.of_alters {c : Nat} {W : Nat → Prop} {h g : Hub} (x : Hub.Alters [] W h g) (hc : c < 7)
    (hW : ∀ a, classReg c a → ¬ W a) : Hub.SameClass c h g := by
  have memch := x.memch (by simp)
  refine ⟨by rw [memch], by rw [memch], by rw [memch], x.clock (by simp), fun f hf => x.get f ?_⟩
  rintro (log | event | w)
  · simp [classReg, logReg] at hf log
    omega
  · simp [classReg, evtReg] at hf event
    omega
  · exact hW _ hf w

/-- A new rate of class `j`, shown in its registers. -/
theorem Hub.sameClass_setRate {c j : Nat} (other : j ≠ c) (v : Nat) (h : Hub) : Hub.SameClass c h (h.setRate j v) := by
  unfold Hub.setRate
  refine ⟨(show nget (nset h.memch.rate j (v + 1)) c = _ from nget_nset_ne _ _ other.symm), rfl, rfl, rfl, fun f hf => ?_⟩
  rw [Hub.get_put_ne _ _ _ _ (by simp [classReg] at hf ⊢; omega), Hub.get_put_ne _ _ _ _ (by simp [classReg] at hf ⊢; omega)]
  rfl

/-- The time since the cut of class `j`. -/
theorem Hub.sameClass_since {c j : Nat} (other : j ≠ c) (v : Nat) (h : Hub) :
    Hub.SameClass c h { h with memch := { h.memch with sinceCut := nset h.memch.sinceCut j v } } :=
  ⟨rfl, nget_nset_ne _ _ other.symm, rfl, rfl, fun _ _ => rfl⟩

theorem Hub.sameClass_sheetClassStep {c j : Nat} (other : j ≠ c) (hj : j < 7) (hc : c < 7) (h : Hub) :
    Hub.SameClass c h (h.sheetClassStep j) := by
  unfold Hub.sheetClassStep
  extract_lets since m g v m2 g2
  have begun : Hub.SameClass c h g := Hub.sameClass_since other _ h
  split
  · have cut : Hub.SameClass c g (g2.setRate j v) :=
      (Hub.sameClass_since other _ g).trans _ _ _ _ (Hub.sameClass_setRate other v g2)
    have counted : Hub.SameClass c (g2.setRate j v) (((g2.setRate j v).bump (R.QOS_CLASS2_CUTS j) 1).countEvent 6) :=
      .of_alters (W := fun a => a = 0x400018 + 16 * j) (((self ..).bump _ (by simp [framed])).countEvent 6) hc
        (by intro a ha; simp [classReg] at ha; omega)
    exact begun.trans _ _ _ _ (cut.trans _ _ _ _ counted)
  · split
    · exact begun.trans _ _ _ _ (Hub.sameClass_setRate other _ g)
    · exact begun.trans _ _ _ _ (Hub.sameClass_setRate other _ g)

theorem Hub.sameRates_releaseWaiting (c : Nat) (l : List MemReq) (h : Hub) :
    (h.releaseWaiting c l).memch.rate = h.memch.rate ∧ (h.releaseWaiting c l).memch.sinceCut = h.memch.sinceCut := by
  induction l generalizing h with
  | nil => exact ⟨rfl, rfl⟩
  | cons q l ih =>
    unfold Hub.releaseWaiting
    split
    · have entered : (h.payEnter q).memch.rate = h.memch.rate ∧ (h.payEnter q).memch.sinceCut = h.memch.sinceCut := by
        unfold Hub.payEnter Hub.enter Hub.setQueue
        dsimp only
        split
        · exact ⟨rfl, rfl⟩
        · exact ⟨rfl, rfl⟩
      exact ⟨(ih _).1.trans entered.1, (ih _).2.trans entered.2⟩
    · exact ⟨rfl, rfl⟩

/-- The refill of the classes leaves their rates and the times since their cuts. -/
theorem Hub.sameRates_sheetRefill (c : Nat) (h : Hub) :
    (h.sheetRefill c).memch.rate = h.memch.rate ∧ (h.sheetRefill c).memch.sinceCut = h.memch.sinceCut := by
  unfold Hub.sheetRefill
  exact Hub.sameRates_releaseWaiting ..

/-- Sheet's update once the congested pseudo-channels are known. -/
def Hub.sheetSteps (n b : Nat) (h : Hub) : Hub :=
  ((((h.upto 192 Hub.congest).put R.QOS_SHEET_STAT_CONG_PC n).put R.QOS_SHEET_STAT_CRITICAL b).upto 7
    Hub.sheetClassStep).upto 7 Hub.sheetRefill

/-- Sheet's update. -/
def Hub.sheetUpdate (h : Hub) : Hub :=
  h.sheetSteps ((List.range 192).filter fun p => (h.upto 192 Hub.congest).on (R.MEM_PC_CONG (p / 32) (p % 32))).length
    (b2n (h.upto 192 Hub.congest).critical)

theorem exec_sheetUpdate (s : State) : exec .sheetUpdate s = .next { s with hub := s.hub.sheetUpdate } := by
  unfold exec execSheetUpdate Hub.sheetUpdate Hub.sheetSteps
  exact State.act_next rfl _ _

/-- Sheet's update is one step of class `c`, with what the step reads as it was and what it leaves kept to the end. -/
theorem Hub.sheetUpdate_around (c : Nat) (h : Hub) (hc : c < 7) :
    ∃ g, Hub.SameClass c h g ∧
      nget h.sheetUpdate.memch.rate c = nget (g.sheetClassStep c).memch.rate c ∧
      nget h.sheetUpdate.memch.sinceCut c = nget (g.sheetClassStep c).memch.sinceCut c ∧
      ∀ f : RF, classReg c f.off → h.sheetUpdate.get f = (g.sheetClassStep c).get f := by
  unfold Hub.sheetUpdate
  generalize ((List.range 192).filter fun p => (h.upto 192 Hub.congest).on (R.MEM_PC_CONG (p / 32) (p % 32))).length = n
  generalize b2n (h.upto 192 Hub.congest).critical = b
  have first : Hub.SameClass c h (((h.upto 192 Hub.congest).put R.QOS_SHEET_STAT_CONG_PC n).put R.QOS_SHEET_STAT_CRITICAL b) := by
    refine .of_alters (W := fun a => within 0x300000 0x400000 a ∨ a = 0x400004) ?_ hc
      (by intro a ha; simp [classReg, within] at ha ⊢; omega)
    exact ((((self ..).upto _ fun p hp g => (Hub.alters_congest p g hp).mono (by simp) fun _ x => .inr (.inr (.inl x))).put _
      (by simp [framed])).put _ (by simp [framed]))
  obtain ⟨g, before, after⟩ := Hub.upto_around (Hub.SameClass.refl c) (Hub.SameClass.trans c) hc
    (fun j hj hne k => Hub.sameClass_sheetClassStep hne hj hc k)
    (((h.upto 192 Hub.congest).put R.QOS_SHEET_STAT_CONG_PC n).put R.QOS_SHEET_STAT_CRITICAL b)
  refine ⟨g, first.trans _ _ _ _ before, ?_⟩
  unfold Hub.sheetSteps
  generalize ((h.upto 192 Hub.congest).put R.QOS_SHEET_STAT_CONG_PC n).put R.QOS_SHEET_STAT_CRITICAL b = k at after ⊢
  have rates := Hub.upto_rel (n := 7) (Rel := fun a b : Hub => b.memch.rate = a.memch.rate ∧ b.memch.sinceCut = a.memch.sinceCut)
    (fun _ => ⟨rfl, rfl⟩) (fun _ _ _ x y => ⟨y.1.trans x.1, y.2.trans x.2⟩) (fun j _ a => Hub.sameRates_sheetRefill j a)
    (k.upto 7 Hub.sheetClassStep)
  have regs : Hub.Alters [.memch] (within 0x300000 0x400000) (k.upto 7 Hub.sheetClassStep)
      ((k.upto 7 Hub.sheetClassStep).upto 7 Hub.sheetRefill) :=
    (self ..).upto _ fun j _ a => Hub.alters_sheetRefill j a
  refine ⟨by rw [rates.1, after.rate], by rw [rates.2, after.since], fun f hf => ?_⟩
  rw [regs.get f (by simp [framed, logReg, evtReg, within, classReg] at hf ⊢; omega), after.get f hf]

theorem Hub.rateOf_of_stored {h : Hub} {c v : Nat} (stored : nget h.memch.rate c = v + 1) : h.rateOf c = v := by
  unfold Hub.rateOf
  rw [stored, if_neg (by omega)]
  omega

theorem Hub.get_setRate (c v : Nat) (h : Hub) {f : RF} (hf : f.off ≠ 0x400014 + 16 * c) : (h.setRate c v).get f = h.get f := by
  unfold Hub.setRate
  rw [Hub.get_put_ne _ _ _ _ (by simpa using hf), Hub.get_put_ne _ _ _ _ (by simpa using hf)]
  rfl

theorem Hub.setRate_rate (c v : Nat) (h : Hub) : nget (h.setRate c v).memch.rate c = v + 1 :=
  (show nget (nset h.memch.rate c (v + 1)) c = v + 1 from nget_nset_same _ _ _)

/-- A cut of a congested class. -/
theorem Hub.sheetClassStep_cuts (c : Nat) (h : Hub) (hc : c < 7) (sent : h.sentCong c 200 = true)
    (long : 150 ≤ nget h.memch.sinceCut c) (room : h.get (R.QOS_CLASS2_CUTS c) + 1 < 2 ^ (R.QOS_CLASS2_CUTS c).width) :
    nget (h.sheetClassStep c).memch.rate c =
        max (1000 * h.get (R.QOS_CLASS0_FLOOR c)) (h.rateOf c * (16 - h.get R.QOS_SHEET_CTRL_CUT) / 16) + 1 ∧
      nget (h.sheetClassStep c).memch.sinceCut c = 0 ∧
      (h.sheetClassStep c).get (R.QOS_CLASS2_CUTS c) = h.get (R.QOS_CLASS2_CUTS c) + 1 := by
  unfold Hub.sheetClassStep
  extract_lets since m g v m2 g2
  have known : (g.sentCong c 200 && decide (200 ≤ since)) = true := by
    have same : g.sentCong c 200 = h.sentCong c 200 := rfl
    rw [same, sent]
    simp [since]
    omega
  rw [if_pos known]
  have counted : Hub.Alters [] (fun a => a = 0x400018 + 16 * c) (g2.setRate c v)
      (((g2.setRate c v).bump (R.QOS_CLASS2_CUTS c) 1).countEvent 6) :=
    ((self ..).bump _ (by simp [framed])).countEvent 6
  have memch := counted.memch (by simp)
  refine ⟨by rw [memch, Hub.setRate_rate]; rfl, ?_, ?_⟩
  · rw [memch]
    exact (show nget (nset g.memch.sinceCut c 0) c = 0 from nget_nset_same _ _ _)
  · have noted : Hub.Alters [] (those []) ((g2.setRate c v).bump (R.QOS_CLASS2_CUTS c) 1)
        (((g2.setRate c v).bump (R.QOS_CLASS2_CUTS c) 1).countEvent 6) := (self ..).countEvent 6
    have cuts : (g2.setRate c v).get (R.QOS_CLASS2_CUTS c) = h.get (R.QOS_CLASS2_CUTS c) :=
      (Hub.get_setRate c v g2 (by simp)).trans (Hub.get_congr rfl _)
    rw [noted.get _ (by simp [framed, logReg, evtReg, those]; omega), Hub.get_bump_same _ _ _ (by simp)
      (by rw [cuts]; exact room), cuts]

/-- A rise of an uncongested class. -/
theorem Hub.sheetClassStep_rises (c : Nat) (h : Hub) (far : h.sentCong c 1000 = false) (near : h.sentCong c 200 = false) :
    nget (h.sheetClassStep c).memch.rate c =
        min (1000 * h.ceilOf c) (h.rateOf c + 50 * h.get R.QOS_SHEET_CTRL_RISE) + 1 ∧
      (h.sheetClassStep c).get (R.QOS_CLASS2_CUTS c) = h.get (R.QOS_CLASS2_CUTS c) := by
  unfold Hub.sheetClassStep
  extract_lets since m g v m2 g2
  have same (ns : Nat) : g.sentCong c ns = h.sentCong c ns := rfl
  rw [if_neg (by rw [same, near]; simp), if_pos (by rw [same, far]; rfl)]
  exact ⟨Hub.setRate_rate c _ g, (Hub.get_setRate c _ g (by simp)).trans (Hub.get_congr rfl _)⟩

/-- A class that is as it was has the congestion, the rate and the ceiling it had. -/
theorem Hub.SameClass.reads {c : Nat} {h g : Hub} (x : Hub.SameClass c h g) :
    (∀ ns, g.sentCong c ns = h.sentCong c ns) ∧ g.rateOf c = h.rateOf c ∧ g.ceilOf c = h.ceilOf c := by
  have ceil : g.ceilOf c = h.ceilOf c := by
    unfold Hub.ceilOf
    rw [x.get (R.QOS_CLASS0_CEIL c) (by simp [classReg]), x.get (R.QOS_CLASS0_FLOOR c) (by simp [classReg])]
  refine ⟨fun ns => ?_, ?_, ceil⟩
  · unfold Hub.sentCong
    rw [x.cong, x.clock]
  · unfold Hub.rateOf
    rw [x.rate, ceil]

theorem sheetUpdate_ofACongested :
    ∀ (c : Nat) (s : State),
    c < 7 →
    s.hub.sentCong c 200 = true →
    150 ≤ nget s.hub.memch.sinceCut c →
    s.hub.get (R.QOS_CLASS2_CUTS c) + 1 < 2 ^ (R.QOS_CLASS2_CUTS c).width →
    ∃ t, exec .sheetUpdate s = .next t ∧ t.hub.rateOf c = max (1000 * s.hub.get (R.QOS_CLASS0_FLOOR c)) (s.hub.rateOf c *
      (16 - s.hub.get R.QOS_SHEET_CTRL_CUT) / 16) ∧
      t.hub.get (R.QOS_CLASS2_CUTS c) = s.hub.get (R.QOS_CLASS2_CUTS c) + 1 ∧ nget t.hub.memch.sinceCut c = 0
        ∧ t.mem = s.mem := by
  intro c s h1 h2 h3 h4
  refine ⟨_, exec_sheetUpdate s, ?_⟩
  obtain ⟨g, same, rate, since, regs⟩ := Hub.sheetUpdate_around c s.hub h1
  obtain ⟨sent, rateOf, -⟩ := same.reads
  have cutsSame := same.get (R.QOS_CLASS2_CUTS c) (by simp [classReg])
  obtain ⟨cut, since0, cuts⟩ := Hub.sheetClassStep_cuts c g h1 ((sent 200).trans h2) (by rw [same.since]; exact h3)
    (by rw [cutsSame]; exact h4)
  rw [rateOf, same.get (R.QOS_CLASS0_FLOOR c) (by simp [classReg]), same.get R.QOS_SHEET_CTRL_CUT (by simp [classReg])] at cut
  have counted := (regs (R.QOS_CLASS2_CUTS c) (by simp [classReg])).trans cuts
  rw [cutsSame] at counted
  dsimp only
  rw [Hub.rateOf_of_stored (rate.trans cut), counted, since.trans since0]
  exact ⟨rfl, rfl, rfl, rfl⟩

theorem sheetUpdate_ofAnUncongested :
    ∀ (c : Nat) (s : State),
    c < 7 →
    s.hub.sentCong c 1000 = false →
    s.hub.sentCong c 200 = false →
    ∃ t, exec .sheetUpdate s = .next t ∧ t.hub.rateOf c = min (1000 * s.hub.ceilOf c)
      (s.hub.rateOf c + 50 * s.hub.get R.QOS_SHEET_CTRL_RISE) ∧
      t.hub.get (R.QOS_CLASS2_CUTS c) = s.hub.get (R.QOS_CLASS2_CUTS c) ∧ t.mem = s.mem := by
  intro c s h1 h2 h3
  refine ⟨_, exec_sheetUpdate s, ?_⟩
  obtain ⟨g, same, rate, -, regs⟩ := Hub.sheetUpdate_around c s.hub h1
  obtain ⟨sent, rateOf, ceil⟩ := same.reads
  obtain ⟨risen, cuts⟩ := Hub.sheetClassStep_rises c g ((sent 1000).trans h2) ((sent 200).trans h3)
  rw [rateOf, ceil, same.get R.QOS_SHEET_CTRL_RISE (by simp [classReg])] at risen
  have kept := (regs (R.QOS_CLASS2_CUTS c) (by simp [classReg])).trans
    (cuts.trans (same.get (R.QOS_CLASS2_CUTS c) (by simp [classReg])))
  dsimp only
  rw [Hub.rateOf_of_stored (rate.trans risen), kept]
  exact ⟨rfl, rfl, rfl⟩

theorem floorWrite_withinTheLimit :
    ∀ (req : Path) (c : Nat) (v : Word) (s : State),
    (Instr.floorWrite req c v).wf = true →
    req.holdsBlocks = true →
    s.hub.unlocked = true →
    10 * s.hub.floorSum c (bitsOf v 16 16) ≤ floorLimit (s.hub.get (R.MEM_STAT_RATE 0)) →
    ∃ t, exec (.floorWrite req c v) s = .next t ∧ t.hub.get (R.QOS_CLASS0_CEIL c) = bitsOf v 0 16 ∧ t.hub.get
      (R.QOS_CLASS0_FLOOR c) = bitsOf v 16 16 ∧ t.mem = s.mem := by
  intro req c v s hwf h1 h2 h3
  refine ⟨_, (by unfold exec; exact State.act_pfWrite_next hwf h1 _ _), ?_⟩
  dsimp only
  rw [Hub.floorWrite]
  rw [if_neg (by rw [h2]; decide), if_neg (by omega)]
  refine ⟨?_, ?_, rfl⟩
  · rw [Hub.get_put_apart _ _ _ _ (by simp) (by simp), Hub.get_put_same _ _ _ (by simp)]
    exact bitsOf_mod_of_le _ _ _ _ (Nat.le_refl _)
  · rw [Hub.get_put_same _ _ _ (by simp)]
    exact bitsOf_mod_of_le _ _ _ _ (Nat.le_refl _)

theorem floorWrite_beyondTheLimit :
    ∀ (req : Path) (c : Nat) (v : Word) (s : State),
    (Instr.floorWrite req c v).wf = true →
    req.holdsBlocks = true →
    s.hub.unlocked = true →
    floorLimit (s.hub.get (R.MEM_STAT_RATE 0)) < 10 * s.hub.floorSum c (bitsOf v 16 16) →
    ∃ t, exec (.floorWrite req c v) s = .next t ∧ t.hub.get R.QOS_SHEET_STAT_FLOOR_REF = 1 ∧ t.hub.get
      (R.QOS_CLASS0_FLOOR c) = s.hub.get (R.QOS_CLASS0_FLOOR c) ∧ t.mem = s.mem := by
  intro req c v s hwf h1 h2 h3
  refine ⟨_, (by unfold exec; exact State.act_pfWrite_next hwf h1 _ _), ?_⟩
  have hc : c < 7 := by
    have := hwf
    simp [Instr.wf, Ok.floorWrite] at this
    exact this.2
  dsimp only
  rw [Hub.floorWrite]
  rw [if_neg (by rw [h2]; decide), if_pos h3]
  have noted : Hub.Alters [] (those []) (s.hub.put R.QOS_SHEET_STAT_FLOOR_REF 1)
    ((s.hub.put R.QOS_SHEET_STAT_FLOOR_REF 1).notice 205 v.toNat) := (self ..).notice _ _
  refine ⟨?_, ?_, rfl⟩
  · rw [noted.get _ (by simp [framed, logReg, evtReg, those])]
    exact Hub.get_put_same _ _ _ (by simp)
  · rw [noted.get _ (by simp [framed, logReg, evtReg, those]; omega), Hub.get_put_ne _ _ _ _ (by simp; omega)]

theorem levelStep_lt (t1 t2 t3 fill level : Nat) : levelStep t1 t2 t3 fill level < 4 := by
  unfold levelStep
  extract_lets up down
  have hu : up < 4 := by
    simp only [up]
    split_ifs <;> decide
  have hd : down < 4 := by
    simp only [down]
    split_ifs <;> decide
  omega

/-- The level of a telltale other than a site's stands in its own word. -/
theorem Hub.setLevel_upper (m l : Nat) (h : Hub) (hm : 4 ≤ m) :
    ∃ g : Hub, g.regs = h.regs ∧ h.setLevel m l = g.put (R.QOS_TT1_LEVEL m) l := by
  unfold Hub.setLevel
  dsimp only
  rw [if_neg (by omega)]
  split
  · exact ⟨h, rfl, rfl⟩
  · refine ⟨_, ?_, rfl⟩
    rfl

/-- What a telltale other than a site's stores of its fill: FILL, and the level that the thresholds give. -/
theorem Hub.fillLevel_stores (m fill : Nat) (h : Hub) (hm : 4 ≤ m) (hm' : m < 13) (hf : fill ≤ 100) :
    (h.fillLevel m fill).get (R.QOS_TT1_FILL m) = fill ∧
      (h.fillLevel m fill).get (R.QOS_TT1_LEVEL m) = levelStep (h.get (R.QOS_TT0_T1 m)) (h.get (R.QOS_TT0_T2 m))
        (h.get (R.QOS_TT0_T3 m)) fill (h.get (R.QOS_TT1_LEVEL m)) ∧
      ∀ f : RF, f.off < 0x400000 ∨ 0x500000 ≤ f.off → (h.fillLevel m fill).get f = h.get f := by
  unfold Hub.fillLevel
  extract_lets l k
  obtain ⟨g, regs, stored⟩ := Hub.setLevel_upper m l (h.put (R.QOS_TT1_FILL m) fill) hm
  have level : (k.put R.QOS_SHEET_STAT_CRITICAL (b2n k.critical)).get (R.QOS_TT1_LEVEL m) = l := by
    simp only [k, stored]
    rw [Hub.get_put_ne _ _ _ _ (by simp; omega), Hub.get_put_same _ _ _ (by simp)]
    exact Nat.mod_eq_of_lt (levelStep_lt ..)
  refine ⟨?_, level, fun f hf => ?_⟩
  · simp only [k, stored]
    rw [Hub.get_put_ne _ _ _ _ (by simp; omega), Hub.get_put_apart _ _ _ _ (by simp) (by simp), Hub.get_congr regs,
      Hub.get_put_same _ _ _ (by simp)]
    exact Nat.mod_eq_of_lt (by simp; omega)
  · simp only [k, stored]
    rw [Hub.get_put_ne _ _ _ _ (by simp; omega), Hub.get_put_ne _ _ _ _ (by simp; omega), Hub.get_congr regs,
      Hub.get_put_ne _ _ _ _ (by simp; omega)]

theorem telltaleLevelChange_ofTelltale4 :
    ∀ (m fill : Nat) (s : State),
    (Instr.telltaleLevelChange m fill).wf = true →
    m = 4 →
    ∃ t, exec (.telltaleLevelChange m fill) s = .next t ∧ t.hub.get (R.QOS_TT1_FILL m) = fill ∧
      t.hub.get (R.QOS_TT1_LEVEL m) = levelStep (s.hub.get (R.QOS_TT0_T1 m)) (s.hub.get (R.QOS_TT0_T2 m)) (s.hub.get
        (R.QOS_TT0_T3 m)) fill (s.hub.get (R.QOS_TT1_LEVEL m)) ∧ t.mem = s.mem := by
  intro m fill s hwf h1
  refine ⟨_, (by unfold exec; exact State.act_next hwf _ _), ?_⟩
  obtain ⟨-, -, hf⟩ : 4 ≤ m ∧ m < 13 ∧ fill ≤ 100 := by simpa [Instr.wf, Ok.telltaleLevelChange, and_assoc] using hwf
  obtain ⟨shown, level, -⟩ := Hub.fillLevel_stores m fill s.hub (by omega) (by omega) hf
  dsimp only
  rw [if_pos h1]
  exact ⟨shown, level, rfl⟩

theorem telltaleLevelChange_ofAQuad :
    ∀ (m fill : Nat) (s : State),
    (Instr.telltaleLevelChange m fill).wf = true →
    5 ≤ m →
    ∃ t, exec (.telltaleLevelChange m fill) s = .next t ∧ t.hub.get (R.QOS_TT1_FILL m) = s.hub.quadFill (m - 5) ∧ t.hub.get
      (R.SER_QUAD_FILL (m - 5)) = s.hub.quadFill (m - 5) ∧ t.mem = s.mem := by
  intro m fill s hwf h1
  refine ⟨_, (by unfold exec; exact State.act_next hwf _ _), ?_⟩
  obtain ⟨-, hm, -⟩ : 4 ≤ m ∧ m < 13 ∧ fill ≤ 100 := by simpa [Instr.wf, Ok.telltaleLevelChange, and_assoc] using hwf
  dsimp only
  rw [if_neg (by omega)]
  have paused (k : Hub) : Hub.Alters [.ser] (those []) k
      (k.upto 32 fun p g => if (g.quadsOf p).contains (m - 5) then g.pauseCheck p else g) :=
    (self ..).upto _ fun p _ g => branch (Hub.alters_pauseCheck ..) (self ..)
  have full : s.hub.quadFill (m - 5) ≤ 100 := Nat.min_le_left _ _
  obtain ⟨shown, -, kept⟩ := Hub.fillLevel_stores (5 + (m - 5)) (s.hub.quadFill (m - 5))
    (s.hub.put (R.SER_QUAD_FILL (m - 5)) (s.hub.quadFill (m - 5))) (by omega) (by omega) full
  rw [show 5 + (m - 5) = m by omega] at shown kept
  refine ⟨?_, ?_, rfl⟩
  · rw [(paused _).get _ (by simp [framed, logReg, evtReg, those]; omega), Hub.showFill, show 5 + (m - 5) = m by omega, shown]
  · rw [(paused _).get _ (by simp [framed, logReg, evtReg, those]; omega), Hub.showFill, show 5 + (m - 5) = m by omega,
      kept _ (by simp; omega), Hub.get_put_same _ _ _ (by simp)]
    exact Nat.mod_eq_of_lt (by simp; omega)

theorem sort3_lt {a b c n : Nat} (ha : a < n) (hb : b < n) (hc : c < n) :
    (sort3 a b c).1 < n ∧ (sort3 a b c).2.1 < n ∧ (sort3 a b c).2.2 < n := by
  unfold sort3
  dsimp only
  omega

theorem telltaleThresholdWrite_storesItsThresholds :
    ∀ (req : Path) (m : Nat) (v : Word) (s : State),
    (Instr.telltaleThresholdWrite req m v).wf = true →
    req.holdsBlocks = true →
    4 ≤ m →
    ∃ t, exec (.telltaleThresholdWrite req m v) s = .next t ∧
      (t.hub.get (R.QOS_TT0_T1 m), t.hub.get (R.QOS_TT0_T2 m), t.hub.get (R.QOS_TT0_T3 m)) = sort3 (bitsOf v 0 7)
        (bitsOf v 8 7) (bitsOf v 16 7) ∧ t.mem = s.mem := by
  intro req m v s hwf h1 h2
  refine ⟨_, (by unfold exec; exact State.act_pfWrite_next hwf h1 _ _), ?_⟩
  obtain ⟨-, hm⟩ : req.wf = true ∧ m < 13 := by simpa [Instr.wf, Ok.telltaleThresholdWrite] using hwf
  obtain ⟨lo, mid, hi⟩ := sort3_lt (bitsOf_lt v 0 7) (bitsOf_lt v 8 7) (bitsOf_lt v 16 7)
  dsimp only
  rw [Hub.thresholdWrite, if_neg (by omega)]
  dsimp only
  generalize sort3 (bitsOf v 0 7) (bitsOf v 8 7) (bitsOf v 16 7) = t at lo mid hi ⊢
  have stored (g : Hub) (hg : g = ((s.hub.put (R.QOS_TT0_T1 m) t.1).put (R.QOS_TT0_T2 m) t.2.1).put (R.QOS_TT0_T3 m) t.2.2) :
      g.get (R.QOS_TT0_T1 m) = t.1 ∧ g.get (R.QOS_TT0_T2 m) = t.2.1 ∧ g.get (R.QOS_TT0_T3 m) = t.2.2 := by
    subst hg
    refine ⟨?_, ?_, ?_⟩
    · rw [Hub.get_put_apart _ _ _ _ (by simp) (by simp), Hub.get_put_apart _ _ _ _ (by simp) (by simp), Hub.get_put_same _ _ _
      (by simp)]
      exact Nat.mod_eq_of_lt lo
    · rw [Hub.get_put_apart _ _ _ _ (by simp) (by simp), Hub.get_put_same _ _ _ (by simp)]
      exact Nat.mod_eq_of_lt mid
    · rw [Hub.get_put_same _ _ _ (by simp)]
      exact Nat.mod_eq_of_lt hi
  generalize ((s.hub.put (R.QOS_TT0_T1 m) t.1).put (R.QOS_TT0_T2 m) t.2.1).put (R.QOS_TT0_T3 m) t.2.2 = g at stored
  obtain ⟨t1, t2, t3⟩ := stored g rfl
  split
  · have noted : Hub.Alters [] (those []) g (g.notice 209 v.toNat) := (self ..).notice _ _
    rw [noted.get _ (by simp [framed, logReg, evtReg, those]; omega), noted.get _
      (by simp [framed, logReg, evtReg, those]; omega),
      noted.get _ (by simp [framed, logReg, evtReg, those]; omega), t1, t2, t3]
    exact ⟨rfl, rfl⟩
  · rw [t1, t2, t3]
    exact ⟨rfl, rfl⟩

theorem telltaleWindow_endsEveryUrgency :
    ∀ (s : State),
    ∃ t, exec .telltaleWindow s = .next t ∧ t.hub.memch.urgent = [] ∧ t.hub.memch.clamp = [] ∧ t.hub.regs = s.hub.regs
      ∧ t.mem = s.mem := by
  intro s
  refine ⟨_, (by unfold exec; exact State.act_next rfl _ _), ?_⟩
  exact ⟨rfl, rfl, rfl, rfl⟩

/-- Settles O39: one lemma per clause; Sheet's step of another class, and the refill, leave a class's rate, cuts and limits. -/
theorem sheetAndTelltalesRun : Obligations.SheetAndTelltalesRun := by
  unfold Obligations.SheetAndTelltalesRun
  exact ⟨sheetUpdate_ofACongested, sheetUpdate_ofAnUncongested, floorWrite_withinTheLimit, floorWrite_beyondTheLimit,
    telltaleLevelChange_ofTelltale4, telltaleLevelChange_ofAQuad, telltaleThresholdWrite_storesItsThresholds,
    telltaleWindow_endsEveryUrgency⟩

end Sys2Proof.Machine
end

section
/-!
### Errors in stored data and scrubbing
-/
namespace Sys2Proof.Machine

set_option Elab.async false
open Hub.Alters

/-- A write of the RAS ring leaves the fields of the RAS block before its words, but PROD and, where the ring is full, CONS and
LOST. -/
theorem Hub.rasWrite_get (h : Hub) (e : RasEntry) {f : RF} (hf : 0x500004 ≤ f.off ∧ f.off < 0x508000)
    (prod : RF.apart R.RAS_LOG_PTR_PROD f)
    (full : h.rasFull = false ∨ (RF.apart R.RAS_LOG_PTR_CONS f ∧ RF.apart R.RAS_LOG_STAT_LOST f)) :
    (h.rasWrite e).get f = h.get f := by
  have vector (g : Hub) (v : Nat) : (g.sendVector 0 (v % 264)).get f = g.get f := by
    unfold Hub.sendVector Hub.setPending
    split
    · rfl
    · split
      · rw [if_pos rfl, Hub.get_put_ne _ _ _ _ (by simp; omega)]
      · rfl
  have irq (g : Hub) (sev : Nat) : (g.rasIrq sev).get f = g.get f := by
    unfold Hub.rasIrq
    extract_lets
    split
    · exact vector g _
    · rfl
  have words (k : Nat) (ws : List Nat) (g : Hub) : (g.upto 8 fun j g => g.put (R.RAS_LOG_WORD k j)
    (ws.getD j 0)).get f = g.get f :=
    Hub.upto_rel (Rel := fun x y : Hub => y.get f = x.get f) (fun _ => rfl) (fun _ _ _ x y => y.trans x)
      (fun j _ g => Hub.get_put_ne _ _ _ _ (by simp; omega)) g
  unfold Hub.rasWrite
  split
  · unfold Hub.rasCountNewest
    exact Hub.get_put_ne _ _ _ _ (by simp; omega)
  · unfold Hub.rasPush
    extract_lets k isFull ws g w r g1 g2 g3
    have put8 : g.get f = h.get f := words k ws h
    clear_value g
    have filled : g1.get f = h.get f := put8
    clear_value g1
    have first : g2.get f = h.get f := (Hub.get_put_of_apart prod (by simp) _ _).trans filled
    clear_value g2
    have moved : g3.get f = g2.get f := by
      simp only [g3]
      split
      · next holds =>
        obtain ⟨cons, lost⟩ : RF.apart R.RAS_LOG_PTR_CONS f ∧ RF.apart R.RAS_LOG_STAT_LOST f :=
          full.resolve_left (by simp only [isFull] at holds; rw [holds]; decide)
        exact (Hub.get_bump_of_apart lost (by simp) _ _).trans (Hub.get_put_of_apart cons (by simp) _ _)
      · rfl
    clear_value g3
    exact (irq g3 e.sev).trans (moved.trans first)

/-- An access that is refused writes the RAS ring alone. -/
theorem Hub.logAccess_eq (kind : Nat) (req : Path) (off v : Nat) (h : Hub) (quiet : rasToYew kind = false) :
    h.logAccess kind req off v = h.rasWrite { kind := kind, req := req.req, addr := off, detail := v } := by
  unfold Hub.logAccess Hub.rasLog Hub.rasLogWith
  dsimp only
  rw [quiet, if_neg (by decide), if_neg (by decide)]

/-- What a record leaves: the word of the scrub passes, the two copies of the region, and the tokens. -/
structure Hub.LogKept (h g : Hub) : Prop where
  passes : g.get R.RAS_SCRUB_DRAM_PASSES = h.get R.RAS_SCRUB_DRAM_PASSES
  copies : g.yew.copyA = h.yew.copyA ∧ g.yew.copyB = h.yew.copyB
  tokens : g.yew.tokens = h.yew.tokens

theorem Hub.LogKept.refl (h : Hub) : Hub.LogKept h h := ⟨rfl, ⟨rfl, rfl⟩, rfl⟩

theorem Hub.LogKept.trans {h g k : Hub} (x : Hub.LogKept h g) (y : Hub.LogKept g k) : Hub.LogKept h k :=
  ⟨y.passes.trans x.passes, ⟨y.copies.1.trans x.copies.1, y.copies.2.trans x.copies.2⟩, y.tokens.trans x.tokens⟩

theorem Hub.LogKept.put {h g : Hub} (x : Hub.LogKept h g) (f : RF) (v : Nat) (hf : f.off ≠ 0x500020) : Hub.LogKept h
  (g.put f v) :=
  x.trans ⟨Hub.get_put_ne g _ _ v hf.symm, ⟨rfl, rfl⟩, rfl⟩

theorem Hub.LogKept.rasWrite {h g : Hub} (x : Hub.LogKept h g) (e : RasEntry) : Hub.LogKept h (g.rasWrite e) := by
  have same := (Hub.SameYew.rasWrite g e).yew
  exact x.trans ⟨Hub.rasWrite_get g e (by simp) (.inl (by simp)) (.inr ⟨.inl (by simp), .inl (by simp)⟩), by rw [same]; exact
    ⟨rfl, rfl⟩, by rw [same]⟩

theorem Hub.LogKept.programBlock (recs : List YewRec) (h : Hub) : Hub.LogKept h (h.programBlock recs) := by
  have oldest {g : Hub} (x : Hub.LogKept h g) : Hub.LogKept h (match g.yew.blocks with
      | [] => g
      | e :: _ => match e.2.recs with
        | [] => g
        | r :: _ => g.put R.YEW_OLDEST_SEQ r.seq) := by
    split
    · exact x
    · split
      · exact x
      · exact x.put _ _ (by simp)
  unfold Hub.programBlock
  extract_lets n fires err y et mirrored g g1 g2
  have filled : Hub.LogKept h g := ⟨rfl, ⟨rfl, rfl⟩, rfl⟩
  clear_value g
  have lagged : Hub.LogKept h g1 := filled.put _ _ (by simp)
  clear_value g1
  have kept : Hub.LogKept h g2 := oldest lagged
  clear_value g2
  split
  · exact ((kept.put _ _ (by simp)).put _ _ (by simp)).rasWrite _
  · exact kept

theorem Hub.LogKept.flushStaged (h : Hub) : Hub.LogKept h h.flushStaged := by
  have emptied : Hub.LogKept h { h with yew := { h.yew with staged := [] } } := ⟨rfl, ⟨rfl, rfl⟩, rfl⟩
  unfold Hub.flushStaged
  split
  · exact .refl h
  · exact emptied.trans (Hub.LogKept.programBlock ..)

theorem Hub.LogKept.yewStage (type sev flags : Nat) (p : List Byte) (h : Hub) : Hub.LogKept h (h.yewStage type sev flags p) := by
  unfold Hub.yewStage
  extract_lets q y g
  have staged : Hub.LogKept h g := ⟨rfl, ⟨rfl, rfl⟩, rfl⟩
  exact staged.put _ _ (by simp)

/-- What a record of the Yew log leaves; it takes a token unless it bypasses the bucket. -/
theorem Hub.yewRecordWith_kept (flags type sev : Nat) (bypass : Bool) (p : List Byte) (h : Hub) :
    (h.yewRecordWith flags type sev bypass p).get R.RAS_SCRUB_DRAM_PASSES = h.get R.RAS_SCRUB_DRAM_PASSES ∧
      ((h.yewRecordWith flags type sev bypass p).yew.copyA = h.yew.copyA ∧
        (h.yewRecordWith flags type sev bypass p).yew.copyB = h.yew.copyB) ∧
      (bypass = false → h.yew.tokens ≠ 0 → (h.yewRecordWith flags type sev bypass p).yew.tokens = h.yew.tokens - 1) := by
  have staged (g : Hub) : Hub.LogKept g (if 8 ≤ (g.yewStage type sev flags p).yew.staged.length ∨ sev = 3
      then (g.yewStage type sev flags p).flushStaged else g.yewStage type sev flags p) := by
    split
    · exact (Hub.LogKept.yewStage type sev flags p g).trans (Hub.LogKept.flushStaged _)
    · exact Hub.LogKept.yewStage type sev flags p g
  unfold Hub.yewRecordWith
  cases bypass with
  | true =>
    have same := staged h
    exact ⟨same.passes, same.copies, fun x => by cases x⟩
  | false =>
    split
    · next empty =>
      refine ⟨?_, ?_, fun _ some => absurd (by simpa using empty) some⟩
      · exact (Hub.get_bump_ne _ _ _ _ (by simp)).trans (Hub.get_congr rfl _)
      · unfold Hub.bump
        split <;> exact ⟨rfl, rfl⟩
    · have same := staged { h with yew := { h.yew with tokens := h.yew.tokens - 1 } }
      exact ⟨same.passes, same.copies, fun _ _ => same.tokens⟩

/-- A RAS entry leaves the word of the scrub passes. -/
theorem Hub.rasLogWith_passes (b : Bool) (e : RasEntry) (h : Hub) :
    (h.rasLogWith b e).get R.RAS_SCRUB_DRAM_PASSES = h.get R.RAS_SCRUB_DRAM_PASSES := by
  have record (type sev : Nat) (b : Bool) (p : List Byte) (g : Hub) : 
      (g.yewRecord type sev b p).get R.RAS_SCRUB_DRAM_PASSES = g.get R.RAS_SCRUB_DRAM_PASSES :=
    (Hub.yewRecordWith_kept 0 type sev b p g).1
  unfold Hub.rasLogWith
  extract_lets g g1
  have first : g1.get R.RAS_SCRUB_DRAM_PASSES = h.get R.RAS_SCRUB_DRAM_PASSES := by
    have wrote : g.get R.RAS_SCRUB_DRAM_PASSES = h.get R.RAS_SCRUB_DRAM_PASSES :=
      Hub.rasWrite_get h e (by simp) (.inl (by simp)) (.inr ⟨.inl (by simp), .inl (by simp)⟩)
    simp only [g1]
    split
    · exact (record _ _ _ _ (g.escNote 0x20)).trans wrote
    · exact wrote
  split
  · exact (record _ _ _ _ g1).trans first
  · exact first

theorem Hub.track_passes (limit unit addr : Nat) (h : Hub) :
    (h.track limit unit addr).2.2.get R.RAS_SCRUB_DRAM_PASSES = h.get R.RAS_SCRUB_DRAM_PASSES := by
  have stored (l : List Repeat) : ({ h with ras := { h.ras with reps := l } }.put R.RAS_REPEAT_STAT_TRACKED l.length).get
      R.RAS_SCRUB_DRAM_PASSES = h.get R.RAS_SCRUB_DRAM_PASSES :=
    (Hub.get_put_ne _ _ _ _ (by simp)).trans (Hub.get_congr rfl _)
  unfold Hub.track
  dsimp only
  split
  · exact stored _
  · split
    · exact stored _
    · split
      · exact stored _
      · exact Hub.get_bump_ne _ _ _ _ (by simp)

theorem Hub.countCe_passes (sp base : Nat) (h : Hub) :
    (h.countCe sp base).get R.RAS_SCRUB_DRAM_PASSES = h.get R.RAS_SCRUB_DRAM_PASSES := by
  have counted (f : RF) (hf : f.off = 0x500030) : ((h.bump f 1).countEvent 9).get R.RAS_SCRUB_DRAM_PASSES =
      h.get R.RAS_SCRUB_DRAM_PASSES :=
    (Hub.countEvent_rget _ _ _ (.inr (by simp))).trans (Hub.get_bump_ne _ _ _ _ (by rw [hf]; simp))
  unfold Hub.countCe
  refine (Hub.get_congr rfl _).trans (counted _ ?_)
  split <;> rfl

theorem Hub.logCe_passes (req sp base detail : Nat) (h : Hub) :
    (h.logCe req sp base detail).get R.RAS_SCRUB_DRAM_PASSES = h.get R.RAS_SCRUB_DRAM_PASSES := by
  unfold Hub.logCe
  exact (Hub.rasLogWith_passes ..).trans ((Hub.track_passes ..).trans (Hub.countCe_passes ..))

theorem Hub.logUe_passes (req sp base : Nat) (latent : Bool) (h : Hub) :
    (h.logUe req sp base latent).get R.RAS_SCRUB_DRAM_PASSES = h.get R.RAS_SCRUB_DRAM_PASSES := by
  unfold Hub.logUe
  refine (Hub.rasLogWith_passes ..).trans (Hub.get_bump_ne _ _ _ _ ?_)
  split
  · simp
  · split <;> simp

theorem Hub.countBytes_passes (write : Bool) (sp base : Nat) (h : Hub) :
    (h.countBytes write sp base).get R.RAS_SCRUB_DRAM_PASSES = h.get R.RAS_SCRUB_DRAM_PASSES := by
  have stack : (dramDecode base).stack < 6 := by
    have pc := dramPc_lt base
    have here : (dramDecode base).stack = dramPc base / 32 := rfl
    omega
  have added (lo hi n : Nat) (hlo : lo < 0x400000) (hhi : hi < 0x400000) : (h.add64 lo hi n).get R.RAS_SCRUB_DRAM_PASSES =
      h.get R.RAS_SCRUB_DRAM_PASSES := by
    unfold Hub.add64
    rw [Hub.get_setReg_ne _ _ _ (by simp; omega), Hub.get_setReg_ne _ _ _ (by simp; omega)]
  unfold Hub.countBytes
  split
  · dsimp only
    split
    · exact added _ _ _ (by omega) (by omega)
    · exact added _ _ _ (by omega) (by omega)
  · rfl

/-- A read of a code word leaves the count of scrub passes. -/
theorem Chip.readCw_passes (req : Nat) (latent : Bool) (sp base : Nat) (c : Chip) :
    (c.readCw req latent sp base).chip.hub.get R.RAS_SCRUB_DRAM_PASSES = c.hub.get R.RAS_SCRUB_DRAM_PASSES := by
  have counted := Hub.countBytes_passes false sp base c.hub
  have drew (h : Hub) : h.drew.get R.RAS_SCRUB_DRAM_PASSES = h.get R.RAS_SCRUB_DRAM_PASSES := rfl
  unfold Chip.readCw
  dsimp only
  split
  · exact counted
  · exact (Hub.logCe_passes ..).trans counted
  · exact (Hub.logUe_passes ..).trans counted
  · split
    · exact (Hub.logUe_passes ..).trans ((drew _).trans counted)
    · exact (Hub.logCe_passes ..).trans ((drew _).trans ((drew _).trans counted))

/-- A read of a code word alters no part of the hub but registers and logs. -/
theorem Chip.alters_readCw (req : Nat) (latent : Bool) (sp base : Nat) (c : Chip) :
    Hub.Alters [] (fun _ => True) c.hub (c.readCw req latent sp base).chip.hub := by
  have counted : Hub.Alters [] (fun _ => True) c.hub (c.hub.countBytes false sp base) := by
    unfold Hub.countBytes
    exact branch (branch ((self ..).add64 _) ((self ..).add64 _)) (self ..)
  have ce (detail : Nat) (h : Hub) : Hub.Alters [] (fun _ => True) h (h.logCe req sp base detail) := by
    have tracked (limit unit addr : Nat) (g : Hub) : Hub.Alters [] (fun _ => True) g (g.track limit unit addr).2.2 := by
      unfold Hub.track
      dsimp only
      split
      · exact ((self ..).set_ras _).put _
      · split
        · exact ((self ..).set_ras _).put _
        · split
          · exact ((self ..).set_ras _).put _
          · exact (self ..).bump _
    have ceCounted : Hub.Alters [] (fun _ => True) h (h.countCe sp base) := by
      unfold Hub.countCe
      exact (((self ..).bump _).countEvent _).set_ras _
    unfold Hub.logCe
    exact (ceCounted.trans (tracked ..)).rasLogWith _ _
  have ue (h : Hub) : Hub.Alters [] (fun _ => True) h (h.logUe req sp base latent) := by
    unfold Hub.logUe
    exact ((self ..).bump _).rasLog _
  unfold Chip.readCw
  dsimp only
  split
  · exact counted
  · exact counted.trans (ce ..)
  · exact counted.trans (ue _)
  · split
    · exact counted.drew.trans (ue _)
    · exact counted.drew.drew.trans (ce ..)

/-- The scrub of the buffer goes on within its pass. -/
theorem Hub.scrubBufTo_goes (n : Nat) (h : Hub) (inside : n < bufPassWords) :
    (h.scrubBufTo n).ras.bufPos = n ∧ (h.scrubBufTo n).dir = h.dir := by
  unfold Hub.scrubBufTo
  rw [if_neg (by omega)]
  exact ⟨rfl, rfl⟩

theorem bufScrubRead_ofAPowered :
    ∀ (n : Nat) (s : State),
    n = s.hub.ras.bufPos →
    s.hub.ready = true →
    s.hub.on R.RAS_SCRUB_BUF_MIN = true →
    n < 1600 * bankWords →
    s.hub.domOn (2 + tileOfBank (n / bankWords)) = true →
    ∃ t, exec .bufScrubRead s = .next t ∧ t.hub.ras.bufPos = n + 1 ∧ t.hub.dir = s.hub.dir := by
  intro n s h1 h2 h3 h4 h5
  refine ⟨_, (by unfold exec; exact State.actMem_next rfl _ _), ?_⟩
  subst h1
  have inside : s.hub.ras.bufPos + 1 < bufPassWords := by
    unfold bufPassWords
    omega
  dsimp only
  unfold Chip.scrubBuf
  dsimp only
  rw [if_neg (by rw [h2, h3]; decide), if_pos h4, if_neg (by rw [h5]; decide)]
  split
  · split
    · obtain ⟨pos, dir⟩ := Hub.scrubBufTo_goes _ (Chip.readCw 0x3001 true 1 _ ⟨s.hub, s.mem⟩).chip.hub inside
      exact ⟨pos, dir.trans ((Chip.alters_readCw ..).dir (by simp))⟩
    · exact Hub.scrubBufTo_goes _ _ inside
  · exact Hub.scrubBufTo_goes _ _ inside

/-- A scrub of DRAM at a granule that is not skipped reads a sector and goes on from what the read leaves. -/
theorem Chip.scrubDram_reads (c : Chip) (ready : c.hub.ready = true) (rate : c.hub.on R.RAS_SCRUB_DRAM_HOURS = true)
    (inside : c.hub.get R.RAS_SCRUB_DRAM_POS_GRANULE < c.hub.dramSize / 4096)
    (kept : c.hub.skipped (c.hub.get R.RAS_SCRUB_DRAM_POS_GRANULE) = false) :
    ∃ h : Hub, h.get R.RAS_SCRUB_DRAM_PASSES = c.hub.get R.RAS_SCRUB_DRAM_PASSES ∧ c.scrubDram.hub =
      if c.hub.ras.dramSec + 1 < 128 then
        h.scrubTo (c.hub.dramSize / 4096) (c.hub.get R.RAS_SCRUB_DRAM_POS_GRANULE) (c.hub.ras.dramSec + 1)
      else h.scrubTo (c.hub.dramSize / 4096) (c.hub.get R.RAS_SCRUB_DRAM_POS_GRANULE + 1) 0 := by
  have here : c.hub.nextGranule (c.hub.dramSize / 4096) 513 (c.hub.get R.RAS_SCRUB_DRAM_POS_GRANULE) =
      c.hub.get R.RAS_SCRUB_DRAM_POS_GRANULE := by
    unfold Hub.nextGranule
    exact if_neg fun x => by rw [kept] at x; exact absurd x.2 (by decide)
  have entered (q : MemReq) : (c.hub.enter q).get R.RAS_SCRUB_DRAM_PASSES = c.hub.get R.RAS_SCRUB_DRAM_PASSES := by
    have pc := dramPc_lt q.addr
    unfold Hub.enter Hub.setQueue
    dsimp only
    rw [Hub.get_put_ne _ _ _ _ (by simp; omega), Hub.get_put_ne _ _ _ _ (by simp; omega)]
    split
    · exact Hub.get_congr rfl _
    · exact Hub.get_congr rfl _
  unfold Chip.scrubDram
  dsimp only
  rw [if_neg (by rw [ready, rate]; decide), here, if_pos rfl, if_neg (by omega)]
  generalize 4096 * c.hub.get R.RAS_SCRUB_DRAM_POS_GRANULE + 32 * c.hub.ras.dramSec = a
  generalize { c.hub.requestOf false 0x3001 13 a (a + 32) with scrub := true } = q
  have read := (Chip.readCw_passes 0x3001 true 0 a ⟨c.hub.enter q, c.mem⟩).trans (entered q)
  generalize Chip.readCw 0x3001 true 0 a ⟨c.hub.enter q, c.mem⟩ = r at read ⊢
  exact ⟨r.chip.hub, read, rfl⟩

theorem dramScrubRead_withinAGranule :
    ∀ (g : Nat) (s : State),
    s.hub.ready = true →
    s.hub.on R.RAS_SCRUB_DRAM_HOURS = true →
    g = s.hub.get R.RAS_SCRUB_DRAM_POS_GRANULE →
    g < s.hub.dramSize / 4096 →
    s.hub.skipped g = false →
    s.hub.ras.dramSec < 127 →
    ∃ t, exec .dramScrubRead s = .next t ∧ t.hub.ras.dramSec = s.hub.ras.dramSec + 1
      ∧ t.hub.get R.RAS_SCRUB_DRAM_POS_GRANULE = g := by
  intro g s h1 h2 h3 h4 h5 h6
  refine ⟨_, (by unfold exec; exact State.actMem_next rfl _ _), ?_⟩
  subst h3
  obtain ⟨h, -, read⟩ := Chip.scrubDram_reads ⟨s.hub, s.mem⟩ h1 h2 h4 h5
  have granule : s.hub.get R.RAS_SCRUB_DRAM_POS_GRANULE < 2 ^ 26 := Hub.get_lt s.hub _
  dsimp only at read ⊢
  rw [if_pos (by omega), Hub.scrubTo, if_neg (by omega)] at read
  rw [read]
  refine ⟨rfl, (Hub.get_congr (h := h.put R.RAS_SCRUB_DRAM_POS_GRANULE (s.hub.get R.RAS_SCRUB_DRAM_POS_GRANULE)) rfl _).trans ?_⟩
  rw [Hub.get_put_same _ _ _ (by simp)]
  exact Nat.mod_eq_of_lt granule

theorem dramScrubRead_ofTheLast :
    ∀ (g : Nat) (s : State),
    s.hub.ready = true →
    s.hub.on R.RAS_SCRUB_DRAM_HOURS = true →
    g = s.hub.get R.RAS_SCRUB_DRAM_POS_GRANULE →
    g + 1 = s.hub.dramSize / 4096 →
    s.hub.skipped g = false →
    s.hub.ras.dramSec = 127 →
    s.hub.get R.RAS_SCRUB_DRAM_PASSES + 1 < 2 ^ (R.RAS_SCRUB_DRAM_PASSES).width →
    ∃ t, exec .dramScrubRead s = .next t ∧ t.hub.ras.dramSec = 0 ∧ t.hub.get R.RAS_SCRUB_DRAM_POS_GRANULE = 0 ∧
      t.hub.get R.RAS_SCRUB_DRAM_PASSES = s.hub.get R.RAS_SCRUB_DRAM_PASSES + 1 := by
  intro g s h1 h2 h3 h4 h5 h6 h7
  refine ⟨_, (by unfold exec; exact State.actMem_next rfl _ _), ?_⟩
  subst h3
  obtain ⟨h, passes, read⟩ := Chip.scrubDram_reads ⟨s.hub, s.mem⟩ h1 h2 (by dsimp only; omega) h5
  dsimp only at passes read ⊢
  rw [if_neg (by omega), Hub.scrubTo, if_pos (by omega)] at read
  rw [read]
  have same : (h.put R.RAS_SCRUB_DRAM_POS_GRANULE 0).get R.RAS_SCRUB_DRAM_PASSES = s.hub.get R.RAS_SCRUB_DRAM_PASSES :=
    (Hub.get_put_ne _ _ _ _ (by simp)).trans passes
  have pos : (h.put R.RAS_SCRUB_DRAM_POS_GRANULE 0).get R.RAS_SCRUB_DRAM_POS_GRANULE = 0 := Hub.get_put_same _ _ _ (by simp)
  generalize h.put R.RAS_SCRUB_DRAM_POS_GRANULE 0 = k at same pos
  have counted := Hub.get_bump_same k R.RAS_SCRUB_DRAM_PASSES 1 (by simp) (by rw [same]; exact h7)
  rw [same] at counted
  exact ⟨rfl, (Hub.get_congr (h := k.bump R.RAS_SCRUB_DRAM_PASSES 1) rfl _).trans ((Hub.get_bump_ne _ _ _ _ (by simp)).trans pos),
    (Hub.get_congr (h := k.bump R.RAS_SCRUB_DRAM_PASSES 1) rfl _).trans counted⟩

theorem rasConsWrite_withinTheEntries :
    ∀ (req : Path) (v : Word) (c n : Nat) (s : State),
    (Instr.rasConsWrite req v).wf = true →
    req.holdsBlocks = true →
    c = s.hub.get R.RAS_LOG_PTR_CONS →
    n = bitsOf v 16 10 →
    (n + 1024 - c) % 1024 ≤ (s.hub.get R.RAS_LOG_PTR_PROD + 1024 - c) % 1024 →
    ∃ t, exec (.rasConsWrite req v) s = .next t ∧ t.hub.get R.RAS_LOG_PTR_CONS = n
      ∧ t.hub.get R.RAS_LOG_PTR_PROD = s.hub.get R.RAS_LOG_PTR_PROD := by
  intro req v c n s hwf h1 h2 h3 h4
  refine ⟨_, (by unfold exec; exact State.act_pfWrite_next hwf h1 _ _), ?_⟩
  subst h2 h3
  dsimp only
  rw [Hub.consWrite, if_pos h4]
  refine ⟨?_, Hub.get_put_apart _ _ _ _ (by simp) (by simp)⟩
  rw [Hub.get_put_same _ _ _ (by simp)]
  exact bitsOf_mod_of_le _ _ _ _ (by decide)

theorem rasConsWrite_beyondProdLeaves :
    ∀ (req : Path) (v : Word) (c n : Nat) (s : State),
    (Instr.rasConsWrite req v).wf = true →
    req.holdsBlocks = true →
    c = s.hub.get R.RAS_LOG_PTR_CONS →
    n = bitsOf v 16 10 →
    (s.hub.get R.RAS_LOG_PTR_PROD + 1024 - c) % 1024 < (n + 1024 - c) % 1024 →
    s.hub.rasFull = false →
    ∃ t, exec (.rasConsWrite req v) s = .next t ∧ t.hub.get R.RAS_LOG_PTR_CONS = c := by
  intro req v c n s hwf h1 h2 h3 h4 h5
  refine ⟨_, (by unfold exec; exact State.act_pfWrite_next hwf h1 _ _), ?_⟩
  subst h2 h3
  dsimp only
  rw [Hub.consWrite, if_neg (by omega), Hub.logAccess_eq _ _ _ _ _ rfl]
  exact Hub.rasWrite_get _ _ (by simp) (.inr (by simp)) (.inl h5)

theorem ceHourly_writesItsRecord :
    ∀ (s : State),
    s.hub.ready = true →
    s.hub.yew.tokens ≠ 0 →
    ∃ t, exec .ceHourly s = .next t ∧ t.hub.ras.ceHour = [] ∧ t.hub.yew.seq = nextSeq s.hub.yew.seq
      ∧ t.hub.yew.tokens + 1 = s.hub.yew.tokens ∧ t.mem = s.mem := by
  intro s h1 h2
  refine ⟨_, (by unfold exec; exact State.act_next rfl _ _), ?_⟩
  dsimp only
  rw [if_pos h1]
  obtain ⟨seq, -⟩ := Hub.yewRecord_seq 0x11 0 false s.hub.ceHourPayload s.hub (.inr h2)
  have tokens := (Hub.yewRecordWith_kept 0 0x11 0 false s.hub.ceHourPayload s.hub).2.2 rfl h2
  refine ⟨rfl, seq, ?_, rfl⟩
  have taken : (s.hub.yewRecord 0x11 0 false s.hub.ceHourPayload).yew.tokens = s.hub.yew.tokens - 1 := tokens
  dsimp only
  omega

theorem YewS.region_congr {y z : YewS} (a : y.copyA = z.copyA) (b : y.copyB = z.copyB) : y.region = z.region := by
  unfold YewS.region YewS.newerA
  rw [a, b]

/-- The region reads as it was last written: the new copy has the higher version. -/
theorem Hub.writeRegion_ppr (a : Nat) (h : Hub) :
    (h.writeRegion fun r => { r with ppr := r.ppr ++ [a] }).yew.region.ppr = h.yew.region.ppr ++ [a] := by
  by_cases newer : h.yew.newerA = true
  · have region : h.yew.region = h.yew.copyA := if_pos newer
    unfold Hub.writeRegion
    dsimp only
    rw [if_pos newer, region]
    simp [YewS.region, YewS.newerA]
  · have region : h.yew.region = h.yew.copyB := if_neg newer
    unfold Hub.writeRegion
    dsimp only
    rw [if_neg newer, region]
    simp [YewS.region, YewS.newerA]

theorem pprRequest_ofAGood :
    ∀ (noResource : Bool) (a : Nat) (s : State),
    (Instr.pprRequest noResource).wf = true →
    s.hub.on R.MAST_STAT_BUSY = true →
    s.hub.mast.op = 0x20 →
    s.hub.mast.answer = none →
    s.hub.mast.mgmt = none →
    2 ≤ s.hub.stage →
    s.hub.ras.sram = [] →
    s.hub.mast.len = 16 →
    a = leAt s.hub.mastData 0 8 →
    a < s.hub.dramSize →
    leAt s.hub.mastData 8 1 = 0 →
    leAt s.hub.mastData 9 7 = 0 →
    s.hub.yew.region.ppr.any (sameRow a) = false →
    s.hub.yew.region.ppr.length < 16 →
    noResource = false →
    ∃ t, exec (.pprRequest noResource) s = .next t ∧ t.hub.mast.answer = some (0, 1, [0])
      ∧ t.hub.yew.region.ppr = s.hub.yew.region.ppr ++ [a] := by
  intro noResource a s hwf h1 h2 h3 h4 h5 h6 h7 h8 h9 h10 h11 h12 h13 h14
  refine ⟨_, (by unfold exec; exact State.act_next hwf _ _), ?_⟩
  dsimp only
  rw [Hub.mastDo_of_clean h1 h2 h3 h4 h5 h6 (by rw [h7]; rfl)]
  subst h8 h14
  unfold Hub.pprRequest
  extract_lets d a q ans
  rw [if_neg (by simp only [d]; rw [h10, h11]; decide), if_neg (by simp only [a, d]; omega), if_neg
    (by simp only [d]; rw [h10]; decide),
    if_neg (by simp only [q]; rw [h12]; decide), if_neg (by simp only [q]; omega), if_neg (by decide)]
  refine ⟨rfl, ?_⟩
  have copies := (Hub.yewRecordWith_kept 0 0x22 0 true (padTo 8 [BitVec.ofNat 8 0] ++ leBytes 8 a)
    (s.hub.writeRegion fun r => { r with ppr := r.ppr ++ [a] })).2.1
  have region := YewS.region_congr copies.1 copies.2
  exact (congrArg Region.ppr region).trans (Hub.writeRegion_ppr a s.hub)

/-- What a write of FLIP_CTRL stores besides ARM. -/
theorem Hub.flipFields_stores (v : Word) (h : Hub) : (h.flipFields v).get R.RAS_FLIP_CTRL_TARGET = bitsOf v 4 3 ∧
    (h.flipFields v).get R.RAS_FLIP_CTRL_MATCH_EN = bitsOf v 12 1 := by
  have kept (c d : Prop) [Decidable c] [Decidable d] (g : Hub) (f : RF)
      (fired : RF.apart R.RAS_FLIP_CTRL_FIRED f) (refused : RF.apart R.RAS_FLIP_CTRL_REFUSED f) :
      (if d then (if c then g.put R.RAS_FLIP_CTRL_FIRED 0 else g).put R.RAS_FLIP_CTRL_REFUSED 0
        else if c then g.put R.RAS_FLIP_CTRL_FIRED 0 else g).get f = g.get f := by
    have one : (if c then g.put R.RAS_FLIP_CTRL_FIRED 0 else g).get f = g.get f := by
      split
      · exact Hub.get_put_of_apart fired (by simp) _ _
      · rfl
    split
    · exact (Hub.get_put_of_apart refused (by simp) _ _).trans one
    · exact one
  unfold Hub.flipFields
  extract_lets g g1
  refine ⟨(kept _ _ g _ (.inr (by simp)) (.inr (by simp))).trans ?_, (kept _ _ g _ (.inr (by simp)) (.inr (by simp))).trans ?_⟩
  · simp only [g]
    rw [Hub.get_put_apart _ _ _ _ (by simp) (by simp), Hub.get_put_apart _ _ _ _ (by simp) (by simp), Hub.get_put_same _ _ _
      (by simp)]
    exact bitsOf_mod_of_le _ _ _ _ (by decide)
  · simp only [g]
    rw [Hub.get_put_same _ _ _ (by simp)]
    exact bitsOf_mod_of_le _ _ _ _ (by decide)

/-- The fields above bit 0 of a word whose bit 0 is set are the word's. -/
theorem bitsOf_or_one (v : Word) {lo width : Nat} (hlo : 0 < lo) : bitsOf (v ||| 1) lo width = bitsOf v lo width := by
  have one : 1 >>> lo = 0 := by
    rw [Nat.shiftRight_eq_div_pow]
    exact Nat.div_eq_of_lt (Nat.one_lt_two_pow hlo.ne')
  unfold bitsOf
  rw [BitVec.toNat_or, ← Nat.shiftRight_eq_div_pow, Nat.shiftRight_or_distrib, ← Nat.shiftRight_eq_div_pow]
  simp [one]

theorem flipArm_whereAllowedArms :
    ∀ (req : Path) (v : Word) (s : State),
    (Instr.flipArm req v).wf = true →
    req.holdsBlocks = true →
    s.hub.mayArm req = true →
    ∃ t, exec (.flipArm req v) s = .next t ∧ t.hub.get R.RAS_FLIP_CTRL_ARM = 1 ∧ t.hub.get R.RAS_FLIP_CTRL_TARGET = bitsOf v 4 3 ∧
      t.hub.get R.RAS_FLIP_CTRL_MATCH_EN = bitsOf v 12 1 ∧ t.mem = s.mem := by
  intro req v s hwf h1 h2
  refine ⟨_, (by unfold exec; exact State.act_pfWrite_next hwf h1 _ _), ?_⟩
  dsimp only
  rw [Hub.flipArm, if_pos h2]
  obtain ⟨target, matchEn⟩ := Hub.flipFields_stores (v ||| 1) s.hub
  rw [bitsOf_or_one v (by decide)] at target matchEn
  refine ⟨Hub.get_put_same _ _ _ (by simp), ?_, ?_, rfl⟩
  · rw [Hub.get_put_apart _ _ _ _ (by simp) (by simp), target]
  · rw [Hub.get_put_apart _ _ _ _ (by simp) (by simp), matchEn]

theorem flipArm_elsewhereSetsRefused :
    ∀ (req : Path) (v : Word) (s : State),
    (Instr.flipArm req v).wf = true →
    req.holdsBlocks = true →
    s.hub.mayArm req = false →
    ∃ t, exec (.flipArm req v) s = .next t ∧ t.hub.get R.RAS_FLIP_CTRL_REFUSED = 1
      ∧ t.hub.get R.RAS_FLIP_CTRL_ARM = s.hub.get R.RAS_FLIP_CTRL_ARM ∧ t.mem = s.mem := by
  intro req v s hwf h1 h2
  refine ⟨_, (by unfold exec; exact State.act_pfWrite_next hwf h1 _ _), ?_⟩
  dsimp only
  rw [Hub.flipArm, if_neg (by rw [h2]; decide), Hub.logAccess_eq _ _ _ _ _ rfl]
  refine ⟨?_, ?_, rfl⟩
  · rw [Hub.rasWrite_get _ _ (by simp) (.inl (by simp)) (.inr ⟨.inl (by simp), .inl (by simp)⟩)]
    exact Hub.get_put_same _ _ _ (by simp)
  · rw [Hub.rasWrite_get _ _ (by simp) (.inl (by simp)) (.inr ⟨.inl (by simp), .inl (by simp)⟩)]
    exact Hub.get_put_apart _ _ _ _ (by simp) (by simp)

theorem flipDisarm_clearsArm :
    ∀ (req : Path) (v : Word) (s : State),
    (Instr.flipDisarm req v).wf = true →
    req.holdsBlocks = true →
    ∃ t, exec (.flipDisarm req v) s = .next t ∧ t.hub.get R.RAS_FLIP_CTRL_ARM = 0 ∧ t.mem = s.mem := by
  intro req v s hwf h1
  refine ⟨_, (by unfold exec; exact State.act_pfWrite_next hwf h1 _ _), ?_⟩
  exact ⟨Hub.get_put_same _ _ _ (by simp), rfl⟩

/-- Settles O40: one lemma per clause; what a record in the logs leaves is said once, by `Hub.LogKept`. -/
theorem errorsAndScrubRun : Obligations.ErrorsAndScrubRun := by
  unfold Obligations.ErrorsAndScrubRun
  exact ⟨bufScrubRead_ofAPowered, dramScrubRead_withinAGranule, dramScrubRead_ofTheLast, rasConsWrite_withinTheEntries,
    rasConsWrite_beyondProdLeaves, ceHourly_writesItsRecord, pprRequest_ofAGood, flipArm_whereAllowedArms,
    flipArm_elsewhereSetsRefused, flipDisarm_clearsArm⟩

end Sys2Proof.Machine
end

section
/-!
### The flits of a site link
-/
namespace Sys2Proof.Machine

set_option Elab.async false
open Hub.Alters

theorem Hub.siteS_onSite (h : Hub) (s : Nat) (f : SiteS → SiteS) : (h.onSite s f).siteS s = f (h.siteS s) := Store.get_set_same ..

theorem Hub.siteS_send (h : Hub) (o : Out) (s : Nat) : (h.send o).siteS s = h.siteS s := rfl

theorem Hub.siteS_congr {h g : Hub} (same : g.sites = h.sites) (s : Nat) : g.siteS s = h.siteS s :=
  congrArg (fun l => Store.get (fun _ => SiteS.empty) l s) same

theorem SiteS.mod_onMod (x : SiteS) (p : Nat) (f : ModLink → ModLink) : (x.onMod p f).mod p = f (x.mod p) := Store.get_set_same ..

theorem SiteS.mod_onMod_ne (x : SiteS) {p q : Nat} (f : ModLink → ModLink) (apart : q ≠ p) : (x.onMod p f).mod q = x.mod q :=
  Store.get_set_ne _ _ _ apart

theorem Hub.alters_takeLevel (s p v : Nat) (h : Hub) :
    Hub.Alters [.memch] (fun a => a = 0x600010 + 262144 * s ∨ a = 0x400204 + 16 * s) h (h.takeLevel s p v) := by
  have level (l : Nat) (g : Hub) : Hub.Alters [.memch] (fun a => a = 0x600010 + 262144 * s ∨ a = 0x400204 + 16 * s) g
    (g.setLevel s l) := by
    unfold Hub.setLevel
    exact (branchIf (fun _ => (branch (self ..) ((self ..).set_memch _)).put _) fun _ => branch (self ..)
      ((self ..).set_memch _)).put _
  unfold Hub.takeLevel
  exact branch (self ..) (branch ((level ..).bump _) (level ..))

/-- With no accepted flit next in order, nothing is delivered. -/
theorem Chip.deliver_of_none (wave digest : Nat → List Byte → Chip → Chip) (s k : Nat) (c : Chip)
    (none : (c.hub.siteS s).held.find? (fun f => f.sfn == c.hub.ownXr s) = none) : Chip.deliver wave digest s k c = c := by
  cases k with
  | zero => rfl
  | succ k =>
    unfold Chip.deliver Hub.nextFlit
    dsimp only
    rw [none]

theorem siteUp_put (s : Nat) (f : RF) (v : Nat) (h : Hub) (apart : f.off ≠ 0x600004 + 262144 * s) :
    (h.put f v).siteUp s = h.siteUp s := by
  unfold Hub.siteUp
  rw [Hub.get_put_ne _ _ _ _ apart.symm]

/-- A spare that fails is taken out of the map, the site's sets staying. -/
theorem Chip.moduleFail_spare (s p cause : Nat) (c : Chip) (up : (c.hub.put (R.YDL_MOD_CAUSE s p) cause).siteUp s = true)
    (spare : (c.hub.put (R.YDL_MOD_CAUSE s p) cause).get (R.YDL_MOD_STATE s p) = 2) :
    c.moduleFail s p cause =
      ⟨((c.hub.put (R.YDL_MOD_CAUSE s p) cause).put (R.YDL_MOD_STATE s p) 4).stageChange (lostModule s p), c.mem⟩ := by
  unfold Chip.moduleFail
  dsimp only
  rw [if_neg (not_not_intro up), if_pos spare]

theorem stepsOf_unsigned {o : Int} (small : o.natAbs ≤ 16) : stepsOf (unsigned 6 o % 2 ^ 6) = o := by
  unfold stepsOf signed unsigned
  norm_num
  split <;> omega

/-- Until the die has ended the step too, training waits. -/
theorem Chip.trainNext_of_none (s : Nat) (c : Chip) (waits : (c.hub.siteS s).diePass = none) : c.trainNext s = c := by
  unfold Chip.trainNext
  dsimp only
  rw [waits]
  split
  · next none => exact absurd none (by simp)
  · rfl

theorem Hub.alters_recordEyes (s : Nat) (eyes : List (Nat × Nat × Nat × Nat)) (h : Hub) :
    Hub.Alters [] (fun a => 0x600000 ≤ a) h (h.recordEyes s eyes) := by
  unfold Hub.recordEyes
  exact (self ..).each _ fun _ _ _ => branch ((((self ..).put _).put _).put _) (self ..)

theorem Hub.takeLevel_siteS (h : Hub) (s p v k : Nat) : (h.takeLevel s p v).siteS k = h.siteS k :=
  Hub.siteS_congr ((Hub.alters_takeLevel ..).sites (by simp)) k

/-- A data flit that is expected is taken, and what is next in order delivered. -/
theorem Chip.receiveFlit_accepts (wave digest : Nat → List Byte → Chip → Chip) {s p v k : Nat} {payload : List Byte} {c : Chip}
    (up : c.hub.siteUp s = true) (on : (c.hub.siteS s).rxOn p = true) (kind : slotKind v = 0) (data : k % 4 = 1 ∨ k % 4 = 2)
    (crc : k / 256 = flitCrc (k / 4 % 64) (k % 4) payload) (nak : ((c.hub.siteS s).mod p).nak = false)
    (expected : k / 4 % 64 = ((c.hub.siteS s).mod p).exp) :
    c.receiveFlit wave digest s p v k payload =
      Chip.deliver wave digest s 2048 ⟨(c.hub.takeLevel s p v).acceptFlit s p (k / 4 % 64) (k % 4) payload, c.mem⟩ := by
  unfold Chip.receiveFlit
  dsimp only
  rw [if_neg (by simp [up, on]), if_neg (by omega), if_neg (by rw [← crc]; omega), if_neg (by omega), Hub.takeLevel_siteS,
    if_neg (by simp [nak, expected])]

/-- A control header next in order starts its run, taking one credit. -/
theorem Chip.deliverData_header {s : Nat} {b : List Byte} {c : Chip} (up : c.hub.siteUp s = true)
    (idle : (c.hub.siteS s).run = none) (many : leAt b 2 1 ≠ 0)
    (room : c.hub.get (R.YDL_CREDIT_OWED s (c.hub.runPool s (leAt b 0 2))) + 1 ≤ hubGrant (c.hub.runPool s (leAt b 0 2))) :
    c.deliverData s b =
      ⟨(c.hub.onSite s fun x => { x with run := some (leAt b 0 2, leAt b 2 1, leAt b 4 4) }).put
        (R.YDL_CREDIT_OWED s (c.hub.runPool s (leAt b 0 2)))
        (c.hub.get (R.YDL_CREDIT_OWED s (c.hub.runPool s (leAt b 0 2))) + 1), c.mem⟩ := by
  have pool (f : Option (Nat × Nat × Nat)) :
      (c.hub.onSite s fun x => { x with run := f }).runPool s (leAt b 0 2) = c.hub.runPool s (leAt b 0 2) := by
    unfold Hub.runPool
    rw [Hub.siteS_onSite]
    rfl
  have upAfter (f : SiteS → SiteS) : (c.hub.onSite s f).siteUp s = true := up
  unfold Chip.deliverData Chip.consume
  rw [idle]
  dsimp only
  rw [if_neg many, pool, upAfter, if_neg (by decide), if_neg (by rw [Hub.onSite_get]; omega), Hub.onSite_get]

theorem Hub.siteS_put (h : Hub) (f : RF) (v k : Nat) : (h.put f v).siteS k = h.siteS k := rfl

/-- An accepted flit waits for its turn, and its module expects the one after it. -/
theorem Hub.acceptFlit_siteS (s p seq type : Nat) (b : List Byte) (h : Hub) :
    (((h.acceptFlit s p seq type b).siteS s).mod p).exp = (((h.siteS s).mod p).exp + 1) % 64 ∧
      ((h.acceptFlit s p seq type b).siteS s).held = (h.siteS s).held ++
        [{ sfn := (h.siteS s).nextSfn p (h.ownXr s), seq := seq, module := p, type := type, payload := b }] ∧
      ((h.acceptFlit s p seq type b).siteS s).change = (h.siteS s).change ∧
      ((h.acceptFlit s p seq type b).siteS s).run = (h.siteS s).run ∧
      ((h.acceptFlit s p seq type b).siteS s).streams = (h.siteS s).streams := by
  unfold Hub.acceptFlit
  extract_lets n
  rw [Hub.siteS_onSite]
  exact ⟨congrArg ModLink.exp (SiteS.mod_onMod (h.siteS s) p fun m =>
    { m with exp := (m.exp + 1) % 64, nak := false, armed := false, changed := true }), rfl, rfl, rfl, rfl⟩

theorem Hub.acceptFlit_regs (s p seq type : Nat) (b : List Byte) (h : Hub) : (h.acceptFlit s p seq type b).regs = h.regs := rfl

/-- The one flit that waits is delivered where it is next in order. -/
theorem Hub.nextFlit_of_held {s : Nat} {h : Hub} {f : RxFlit} (held : (h.siteS s).held = [f]) (turn : f.sfn = h.ownXr s) :
    ∃ g, h.nextFlit s = some (f, g) ∧ g.regs = (h.put (R.YDL_SFN_RX_SFN s) ((h.ownXr s + 1) % 2 ^ 32)).regs ∧
      ((g.siteS s).mod f.module).dlv = f.seq + 1 ∧ (g.siteS s).held = [] ∧ (g.siteS s).run = (h.siteS s).run ∧
      (g.siteS s).change = (h.siteS s).change ∧ (g.siteS s).streams = (h.siteS s).streams := by
  unfold Hub.nextFlit
  dsimp only
  rw [held, List.find?_cons_of_pos (by simp [turn])]
  refine ⟨_, rfl, rfl, ?_⟩
  rw [Hub.siteS_put, Hub.siteS_onSite]
  exact ⟨congrArg ModLink.dlv (SiteS.mod_onMod (h.siteS s) f.module fun m => { m with dlv := f.seq + 1, changed := true }),
    by simp [held, turn], rfl, rfl, rfl⟩

theorem Chip.deliver_next (wave digest : Nat → List Byte → Chip → Chip) {s : Nat} (k : Nat) {c : Chip} {f : RxFlit} {g : Hub}
    (next : c.hub.nextFlit s = some (f, g)) (still : (g.siteS s).change = none) (data : f.type ≠ 2) :
    Chip.deliver wave digest s (k + 1) c = Chip.deliver wave digest s k ((⟨g, c.mem⟩ : Chip).deliverData s f.payload) := by
  rw [Chip.deliver, next]
  dsimp only
  rw [if_neg data]
  unfold Hub.msetSwitch
  rw [still]

/-- A site with the modules `ps` answered: an ACK flit has gone out for them. -/
def SiteS.answered (x : SiteS) (ps : List Nat) : SiteS := ps.foldl (fun x p => x.onMod p
  fun m => { m with asked := false, changed := false }) x

theorem SiteS.answered_cons (x : SiteS) (p : Nat) (ps : List Nat) :
    x.answered (p :: ps) = (x.onMod p fun m => { m with asked := false, changed := false }).answered ps := rfl

theorem SiteS.answered_kept (x : SiteS) (ps : List Nat) (q : Nat) :
    ((x.answered ps).mod q).exp = (x.mod q).exp ∧ ((x.answered ps).mod q).nak = (x.mod q).nak ∧ (x.answered ps).held = x.held ∧
      (x.answered ps).setRx = x.setRx := by
  induction ps generalizing x with
  | nil => exact ⟨rfl, rfl, rfl, rfl⟩
  | cons p ps ih =>
    rw [SiteS.answered_cons]
    obtain ⟨exp, nak, held, rx⟩ := ih (x.onMod p fun m => { m with asked := false, changed := false })
    refine ⟨exp.trans ?_, nak.trans ?_, held, rx⟩ <;>
    · by_cases same : q = p
      · rw [same, SiteS.mod_onMod]
      · rw [SiteS.mod_onMod_ne _ _ same]

theorem SiteS.answered_still (x : SiteS) (ps : List Nat) (q : Nat) (asked : (x.mod q).asked = false) (changed :
  (x.mod q).changed = false) :
    ((x.answered ps).mod q).asked = false ∧ ((x.answered ps).mod q).changed = false := by
  induction ps generalizing x with
  | nil => exact ⟨asked, changed⟩
  | cons p ps ih =>
    rw [SiteS.answered_cons]
    by_cases same : q = p
    · exact ih _ (by rw [same, SiteS.mod_onMod]) (by rw [same, SiteS.mod_onMod])
    · exact ih _ (by rw [SiteS.mod_onMod_ne _ _ same]; exact asked) (by rw [SiteS.mod_onMod_ne _ _ same]; exact changed)

theorem SiteS.answered_of_mem (x : SiteS) {ps : List Nat} {q : Nat} (mem : q ∈ ps) :
    ((x.answered ps).mod q).asked = false ∧ ((x.answered ps).mod q).changed = false := by
  induction ps generalizing x with
  | nil => exact absurd mem (by simp)
  | cons p ps ih =>
    rw [SiteS.answered_cons]
    by_cases same : q = p
    · exact SiteS.answered_still _ _ _ (by rw [same, SiteS.mod_onMod]) (by rw [same, SiteS.mod_onMod])
    · exact ih _ ((List.mem_cons.mp mem).resolve_left same)

theorem Hub.siteS_bump (h : Hub) (f : RF) (v k : Nat) : (h.bump f v).siteS k = h.siteS k := by
  unfold Hub.bump
  split <;> rfl

/-- An ACK flit answers its group of modules. -/
theorem Hub.sendAck_siteS (s first : Nat) (h : Hub) :
    (h.sendAck s first).siteS s = (h.siteS s).answered (((h.siteS s).setRx.drop first).take 16) := by
  unfold Hub.sendAck
  dsimp only
  split
  · next empty => rw [empty]; rfl
  · split
    · exact Hub.siteS_onSite ..
    · rw [Hub.siteS_bump]
      exact Hub.siteS_onSite ..

theorem Hub.sendAck_out (s first : Nat) (h : Hub) : ∃ os, (h.sendAck s first).out = os ++ h.out ∧
    (((h.siteS s).setRx.drop first).take 16 ≠ [] → flitOut s ((h.siteS s).setTx.getD 0 34) 0 0 (padTo 64 (ackBody first
      (h.get (R.YDL_EVT_MSET_RX s)) ((((h.siteS s).setRx.drop first).take 16).map fun p =>
        ((h.siteS s).mod p).ackEntry))) ∈ os) := by
  unfold Hub.sendAck
  dsimp only
  split
  · next empty => exact ⟨[], rfl, fun some => absurd empty some⟩
  · split
    · exact ⟨[_], rfl, fun _ => List.mem_cons_self ..⟩
    · refine ⟨[_], (Hub.bump_out ..).trans rfl, fun _ => List.mem_cons_self ..⟩

theorem Hub.alters_sendAck (s first : Nat) (h : Hub) :
    Hub.Alters [.sites] (fun a => a = 0x60001c + 262144 * s) h (h.sendAck s first) := by
  unfold Hub.sendAck Hub.onSite Hub.linkOut
  exact branch (self ..) (branch (((self ..).send _).set_sites _) ((((self ..).send _).set_sites _).bump _))

/-- One entry of an ACK flit, at its place in the flit. -/
def Chip.ackPlace (s first : Nat) (set : List Nat) (e : (Nat × Nat) × Nat) (c : Chip) : Chip :=
  if first + e.2 < set.length then c.ackEntry s (set.getD (first + e.2) 34) e.1 else c

/-- An entry without a resend changes its own module only. -/
theorem Chip.ackEntry_siteS (s p : Nat) (e : Nat × Nat) (c : Chip) (acked : e.2 / 64 % 2 = 0) :
    (c.ackEntry s p e).hub.siteS s = (c.hub.siteS s).onMod p fun m =>
      { m with txExp := e.2 % 64, txBuf := if e.1 / 64 % 2 = 1 then freeTo (e.1 % 64) m.txBuf else m.txBuf } := by
  unfold Chip.ackEntry
  dsimp only
  rw [if_neg (by omega), Hub.siteS_onSite]
  congr 1
  by_cases same : e.2 % 64 = ((c.hub.siteS s).mod p).txExp
  · rw [if_pos same]
  · rw [if_neg same, Hub.siteS_put]

theorem Chip.ackEntry_mem (s p : Nat) (e : Nat × Nat) (c : Chip) (acked : e.2 / 64 % 2 = 0) : (c.ackEntry s p e).mem = c.mem := by
  unfold Chip.ackEntry
  dsimp only
  rw [if_neg (by omega)]

theorem Chip.ackPlace_kept (s first : Nat) (set : List Nat) (e : (Nat × Nat) × Nat) (c : Chip) (acked : e.1.2 / 64 % 2 = 0) :
    ((c.ackPlace s first set e).hub.siteS s).txq = (c.hub.siteS s).txq ∧ (c.ackPlace s first set e).mem = c.mem := by
  unfold Chip.ackPlace
  split
  · rw [Chip.ackEntry_siteS _ _ _ _ acked, Chip.ackEntry_mem _ _ _ _ acked]
    exact ⟨rfl, rfl⟩
  · exact ⟨rfl, rfl⟩

theorem Chip.ackPlace_ne (s first : Nat) (set : List Nat) (e : (Nat × Nat) × Nat) (c : Chip) {p : Nat} (acked
  : e.1.2 / 64 % 2 = 0)
    (other : set[first + e.2]? ≠ some p) : ((c.ackPlace s first set e).hub.siteS s).mod p = (c.hub.siteS s).mod p := by
  unfold Chip.ackPlace
  split
  · next inside =>
    rw [Chip.ackEntry_siteS _ _ _ _ acked, SiteS.mod_onMod_ne]
    intro same
    exact other (by simp [same, inside])
  · rfl

theorem Chip.ackPlace_same (s first : Nat) (set : List Nat) (e : (Nat × Nat) × Nat) (c : Chip) {p : Nat} (acked
  : e.1.2 / 64 % 2 = 0)
    (frees : e.1.1 / 64 % 2 = 1) (own : set[first + e.2]? = some p) :
    (((c.ackPlace s first set e).hub.siteS s).mod p).txExp = e.1.2 % 64 ∧
      (((c.ackPlace s first set e).hub.siteS s).mod p).txBuf = freeTo (e.1.1 % 64) ((c.hub.siteS s).mod p).txBuf := by
  obtain ⟨inside, found⟩ := List.getElem?_eq_some_iff.mp own
  unfold Chip.ackPlace
  rw [if_pos inside, Chip.ackEntry_siteS _ _ _ _ acked, List.getD_eq_getElem _ _ inside, found, SiteS.mod_onMod]
  exact ⟨rfl, if_pos frees⟩

theorem Chip.each_ackPlace_kept (s first : Nat) (set : List Nat) (entries : List (Nat × Nat)) (n : Nat) (c : Chip)
    (acked : ∀ e ∈ entries, e.2 / 64 % 2 = 0) :
    ((Chip.each (entries.zipIdx n) (Chip.ackPlace s first set) c).hub.siteS s).txq = (c.hub.siteS s).txq ∧
      (Chip.each (entries.zipIdx n) (Chip.ackPlace s first set) c).mem = c.mem := by
  induction entries generalizing n c with
  | nil => exact ⟨rfl, rfl⟩
  | cons e es ih =>
    obtain ⟨txq, mem⟩ := ih (n + 1) (c.ackPlace s first set (e, n)) fun e he => acked e (List.mem_cons_of_mem _ he)
    obtain ⟨txq', mem'⟩ := Chip.ackPlace_kept s first set (e, n) c (acked e (List.mem_cons_self ..))
    exact ⟨txq.trans txq', mem.trans mem'⟩

theorem Chip.each_ackPlace_ne (s first : Nat) (set : List Nat) (entries : List (Nat × Nat)) (n : Nat) (c : Chip) {p : Nat}
    (acked : ∀ e ∈ entries, e.2 / 64 % 2 = 0) (others : ∀ i, n ≤ i → set[first + i]? ≠ some p) :
    ((Chip.each (entries.zipIdx n) (Chip.ackPlace s first set) c).hub.siteS s).mod p = (c.hub.siteS s).mod p := by
  induction entries generalizing n c with
  | nil => rfl
  | cons e es ih =>
    exact (ih (n + 1) (c.ackPlace s first set (e, n)) (fun e he => acked e (List.mem_cons_of_mem _ he))
      fun i hi => others i (by omega)).trans
        (Chip.ackPlace_ne s first set (e, n) c (acked e (List.mem_cons_self ..)) (others n (Nat.le_refl n)))

/-- In a set without repeats, only the entry at a module's own place reaches it. -/
theorem Chip.each_ackPlace_same (s first : Nat) {set : List Nat} (entries : List (Nat × Nat)) (n j : Nat) (c : Chip) {p : Nat}
    (acked : ∀ e ∈ entries, e.2 / 64 % 2 = 0) (apart : set.Nodup) (own : set[first + (n + j)]? = some p)
    (frees : (entries.getD j (0, 0)).1 / 64 % 2 = 1) :
    (((Chip.each (entries.zipIdx n) (Chip.ackPlace s first set) c).hub.siteS s).mod p).txExp = (entries.getD j (0, 0)).2 % 64 ∧
      (((Chip.each (entries.zipIdx n) (Chip.ackPlace s first set) c).hub.siteS s).mod p).txBuf =
        freeTo ((entries.getD j (0, 0)).1 % 64) ((c.hub.siteS s).mod p).txBuf := by
  obtain ⟨inside, -⟩ := List.getElem?_eq_some_iff.mp own
  have other (i : Nat) (hi : i ≠ n + j) : set[first + i]? ≠ some p := fun same =>
    hi (by have := (List.getElem?_inj inside apart).mp (own.trans same.symm); omega)
  induction entries generalizing n j c with
  | nil => simp at frees
  | cons e es ih =>
    have rest : ∀ e ∈ es, e.2 / 64 % 2 = 0 := fun e he => acked e (List.mem_cons_of_mem _ he)
    have head := acked e (List.mem_cons_self ..)
    cases j with
    | zero =>
      rw [List.zipIdx_cons]
      change (((Chip.each (es.zipIdx (n + 1)) (Chip.ackPlace s first set) (c.ackPlace s first set
        (e, n))).hub.siteS s).mod p).txExp = _ ∧
        (((Chip.each (es.zipIdx (n + 1)) (Chip.ackPlace s first set) (c.ackPlace s first set
          (e, n))).hub.siteS s).mod p).txBuf = _
      rw [Chip.each_ackPlace_ne _ _ _ _ _ _ rest fun i hi => other i (by omega)]
      exact Chip.ackPlace_same s first set (e, n) c head frees own
    | succ j =>
      rw [← Chip.ackPlace_ne s first set (e, n) c head (other n (by omega))]
      exact ih (n + 1) j _ rest (by rw [← own]; congr 2; omega) frees (by omega) fun i hi => other i (by omega)

theorem Chip.takeAck_eq {s first mset : Nat} {entries : List (Nat × Nat)} {c : Chip} (up : c.hub.siteUp s = true)
    (now : mset = c.hub.get (R.YDL_STAT_MSET_TX s)) :
    c.takeAck s first mset entries =
      ⟨((Chip.each entries.zipIdx (Chip.ackPlace s first (c.hub.siteS s).setTx) c).hub.onSite s SiteS.escapeBack).pump s,
        (Chip.each entries.zipIdx (Chip.ackPlace s first (c.hub.siteS s).setTx) c).mem⟩ := by
  unfold Chip.takeAck
  rw [if_neg (by simp [up, now])]
  rfl

theorem Hub.each_send_out {α : Type} (l : List α) (out : α → Out) (h : Hub) :
    (Hub.each l (fun a g => g.send (out a)) h).out = (l.map out).reverse ++ h.out := by
  induction l generalizing h with
  | nil => rfl
  | cons a l ih => exact (ih (h.send (out a))).trans (by simp [Hub.send])

theorem Hub.each_send_regs {α : Type} (l : List α) (out : α → Out) (h : Hub) :
    (Hub.each l (fun a g => g.send (out a)) h).regs = h.regs :=
  Hub.each_rel (Rel := fun x y : Hub => y.regs = x.regs) (fun _ => rfl) (fun _ _ _ x y => y.trans x) (fun a _ g => (rfl :
    (g.send (out a)).regs = g.regs)) h

theorem moduleTest_thatFailsMarks :
    ∀ (site module : Nat) (good : Bool) (s : State),
    (Instr.moduleTest site module good).wf = true →
    (s.hub.siteS site).step = 6 →
    good = false →
    ∃ t, exec (.moduleTest site module good) s = .next t ∧ bit (t.hub.siteS site).testBad module = true
      ∧ t.hub.regs = s.hub.regs := by
  intro site module good s hwf h1 h2
  refine ⟨_, (by unfold exec; exact State.act_next hwf _ _), ?_⟩
  dsimp only
  rw [if_pos ⟨h1, by simp [h2]⟩, Hub.siteS_onSite]
  exact ⟨bit_withBit .., rfl⟩

theorem trainStepLimit_beforeEitherSide :
    ∀ (site pass : Nat) (eyes : List (Nat × Nat × Nat × Nat)) (s : State),
    (Instr.trainStepLimit site pass eyes).wf = true →
    s.hub.trains site = true →
    (s.hub.siteS site).hubPass = none →
    (s.hub.siteS site).diePass = none →
    1 ≤ (s.hub.siteS site).step →
    (s.hub.siteS site).step ≤ 6 →
    ∃ t, exec (.trainStepLimit site pass eyes) s = .next t ∧ (t.hub.siteS site).hubPass =
        some (modLess ((pass &&& (s.hub.siteS site).mask &&&
          ((List.range 34).filter fun q => eyePasses (s.hub.siteS site).step q eyes).foldl (fun m q => m + 2 ^ q) 0) % 2 ^ 34)
          (s.hub.siteS site).testBad) ∧ (t.hub.siteS site).step = (s.hub.siteS site).step := by
  intro site pass eyes s hwf h1 h2 h3 h4 h5
  refine ⟨_, (by unfold exec; exact State.actMem_next hwf _ _), ?_⟩
  have seen (g : Hub) : (g.recordEyes site eyes).sites = g.sites :=
    (Hub.alters_recordEyes ..).sites (by simp)
  have sent (g : Hub) (l : List Nat) : ((g.sbSend site 7 l).siteS site).hubPass = (g.siteS site).hubPass ∧
      ((g.sbSend site 7 l).siteS site).diePass = (g.siteS site).diePass ∧
      ((g.sbSend site 7 l).siteS site).step = (g.siteS site).step := by
    unfold Hub.sbSend
    split
    · exact ⟨rfl, rfl, rfl⟩
    · rw [Hub.siteS_send, Hub.siteS_onSite]
      exact ⟨rfl, rfl, rfl⟩
  have passed := fun m l => sent ((s.hub.recordEyes site eyes).onSite site fun x => { x with hubPass := some m }) l
  dsimp only
  rw [if_neg (by simp [h1, h2]; omega), Chip.trainNext_of_none]
  · rw [(passed _ _).1, (passed _ _).2.2, Hub.siteS_onSite, Hub.siteS_congr (seen _)]
    exact ⟨rfl, rfl⟩
  · rw [(passed _ _).2.1, Hub.siteS_onSite, Hub.siteS_congr (seen _)]
    exact h3

theorem driftUpdate_within16Steps :
    ∀ (site module : Nat) (up : Bool) (o : Int) (s : State),
    (Instr.driftUpdate site module up).wf = true →
    ([1, 2].contains (s.hub.get (R.YDL_MOD_STATE site module))) = true →
    o = stepsOf (s.hub.get (R.YDL_DRIFT_OFFSET site module)) + (if up then 1 else -1) →
    o.natAbs ≤ 16 →
    ∃ t, exec (.driftUpdate site module up) s = .next t ∧ stepsOf (t.hub.get (R.YDL_DRIFT_OFFSET site module)) = o ∧
      t.hub.get (R.YDL_DRIFT_PEAK site module) = max (s.hub.get (R.YDL_DRIFT_PEAK site module)) o.natAbs ∧ t.mem = s.mem := by
  intro site module up o s hwf h1 h2 h3
  refine ⟨_, (by unfold exec; exact State.actMem_next hwf _ _), ?_⟩
  dsimp only
  rw [if_neg (not_not_intro h1), ← h2, if_neg (by omega)]
  have peak : s.hub.get (R.YDL_DRIFT_PEAK site module) < 2 ^ 6 := Hub.get_lt ..
  refine ⟨?_, ?_, rfl⟩
  · rw [Hub.get_put_apart _ _ _ _ (by simp) (by simp)]
    rw [Hub.get_put_same _ _ _ (by simp)]
    change stepsOf (unsigned 6 o % 2 ^ 6) = o
    exact stepsOf_unsigned (by omega)
  · rw [Hub.get_put_same _ _ _ (by simp), Hub.get_put_apart _ _ _ _ (by simp) (by simp)]
    exact Nat.mod_eq_of_lt (by change _ < 2 ^ 6; omega)

theorem driftUpdate_ofASpare :
    ∀ (site module : Nat) (up : Bool) (o : Int) (s : State),
    (Instr.driftUpdate site module up).wf = true →
    s.hub.siteUp site = true →
    s.hub.get (R.YDL_MOD_STATE site module) = 2 →
    o = stepsOf (s.hub.get (R.YDL_DRIFT_OFFSET site module)) + (if up then 1 else -1) →
    16 < o.natAbs →
    ∃ t, exec (.driftUpdate site module up) s = .next t ∧ t.hub.get (R.YDL_MOD_STATE site module) = 4 ∧ t.hub.get
      (R.YDL_MOD_CAUSE site module) = 2 ∧
      (t.hub.siteS site).setTx = (s.hub.siteS site).setTx ∧ t.mem = s.mem := by
  intro site module up o s hwf h1 h2 h3 h4
  refine ⟨_, (by unfold exec; exact State.actMem_next hwf _ _), ?_⟩
  dsimp only
  rw [if_neg (by rw [h2]; decide), ← h3, if_pos h4]
  have put : (s.hub.put (R.YDL_MOD_CAUSE site module) 2).get (R.YDL_MOD_STATE site module) = 2 :=
    (Hub.get_put_apart _ _ _ _ (by simp) (by simp)).trans h2
  rw [Chip.moduleFail_spare site module 2 ⟨s.hub, s.mem⟩ ((siteUp_put _ _ _ _ (by simp; omega)).trans h1) put]
  have kept (f : RF) (hf : 0x600000 ≤ f.off) (h : Hub) : (h.stageChange (lostModule site module)).get f = h.get f := by
    unfold Hub.stageChange Hub.showQueued
    exact Hub.get_put_ne _ _ _ _ (by simp; omega)
  have same (h : Hub) : (h.stageChange (lostModule site module)).sites = h.sites := rfl
  have sites (h : Hub) (f g : RF) (v w : Nat) : (((h.put f v).put g w).stageChange
    (lostModule site module)).sites = h.sites := same _
  dsimp only
  rw [kept _ (by simp; omega), kept _ (by simp; omega), Hub.get_put_same _ _ _ (by simp),
    Hub.get_put_apart _ _ _ _ (by simp) (by simp), Hub.get_put_same _ _ _ (by simp)]
  exact ⟨rfl, rfl, congrArg SiteS.setTx (Hub.siteS_congr (sites _ _ _ _ _) _), rfl⟩

theorem flitReceive_ofAnExpected :
    ∀ (site module v k seq : Nat) (payload : List Byte) (s : State),
    (Instr.flitReceive site module v k payload).wf = true →
    s.hub.siteUp site = true →
    (s.hub.siteS site).rxOn module = true →
    slotKind v = 0 →
    k % 4 = 1 ∨ k % 4 = 2 →
    seq = k / 4 % 64 →
    k / 256 = flitCrc seq (k % 4) payload →
    ((s.hub.siteS site).mod module).nak = false →
    seq = ((s.hub.siteS site).mod module).exp →
    (s.hub.siteS site).held = [] →
    (s.hub.siteS site).nextSfn module (s.hub.ownXr site) ≠ s.hub.ownXr site →
    ∃ t, exec (.flitReceive site module v k payload) s = .next t ∧ ((t.hub.siteS site).mod module).exp = (seq + 1) % 64 ∧
      (t.hub.siteS site).held.map (fun (f : RxFlit) => (f.sfn, f.module, f.type, f.payload)) =
        [((s.hub.siteS site).nextSfn module (s.hub.ownXr site), module, k % 4, payload)] ∧
      t.hub.ownXr site = s.hub.ownXr site ∧ t.mem = s.mem := by
  intro site module v k seq payload s hwf h1 h2 h3 h4 h5 h6 h7 h8 h9 h10
  refine ⟨_, (by unfold exec; exact State.actMem_next hwf _ _), ?_⟩
  have small : site < 4 := by
    simp [Instr.wf, Ok.flitReceive] at hwf
    omega
  have r : (s.hub.takeLevel site module v).ownXr site = s.hub.ownXr site :=
    (Hub.alters_takeLevel site module v s.hub).get (R.YDL_SFN_RX_SFN site) (by simp [framed, logReg, evtReg]; omega)
  rw [Chip.receiveFlit_accepts _ _ h1 h2 h3 h4 (h5 ▸ h6) h7 (h5 ▸ h8)]
  obtain ⟨exp, held, -⟩ := Hub.acceptFlit_siteS site module (k / 4 % 64) (k % 4) payload (s.hub.takeLevel site module v)
  have same (a : Nat) (b : List Byte) (h : Hub) : (h.acceptFlit site module a (k % 4) b).ownXr site = h.ownXr site :=
    Hub.get_congr (Hub.acceptFlit_regs ..) _
  rw [Hub.takeLevel_siteS] at exp held
  rw [r, h9, List.nil_append] at held
  rw [Chip.deliver_of_none _ _ _ _ _ (by rw [held, same, r]; simp [h10])]
  dsimp only
  rw [exp, held, same, r]
  exact ⟨by rw [h8], rfl, rfl, rfl⟩

theorem flitReceive_ofARun :
    ∀ (site module v k seq r : Nat) (payload : List Byte) (s : State),
    (Instr.flitReceive site module v k payload).wf = true →
    s.hub.siteUp site = true →
    (s.hub.siteS site).rxOn module = true →
    slotKind v = 0 →
    k % 4 = 1 →
    seq = k / 4 % 64 →
    k / 256 = flitCrc seq 1 payload →
    ((s.hub.siteS site).mod module).nak = false →
    seq = ((s.hub.siteS site).mod module).exp →
    (s.hub.siteS site).held = [] →
    r = s.hub.ownXr site →
    (s.hub.siteS site).nextSfn module r = r →
    (s.hub.siteS site).change = none →
    (s.hub.siteS site).run = none →
    leAt payload 2 1 ≠ 0 →
    s.hub.get (R.YDL_CREDIT_OWED site (s.hub.runPool site (leAt payload 0 2))) + 1 ≤ hubGrant (s.hub.runPool site
      (leAt payload 0 2)) →
    s.hub.runPool site (leAt payload 0 2) < 6 →
    ∃ t, exec (.flitReceive site module v k payload) s = .next t ∧ t.hub.ownXr site = (r + 1) % 2 ^ 32 ∧
      ((t.hub.siteS site).mod module).dlv = seq + 1 ∧ (t.hub.siteS site).held = [] ∧
      (t.hub.siteS site).run = some (leAt payload 0 2, leAt payload 2 1, leAt payload 4 4) ∧ t.mem = s.mem := by
  intro site module v k seq r payload s hwf h1 h2 h3 h4 h5 h6 h7 h8 h9 h10 h11 h12 h13 h14 h15 h16
  refine ⟨_, (by unfold exec; exact State.actMem_next hwf _ _), ?_⟩
  have small : site < 4 := by
    simp [Instr.wf, Ok.flitReceive] at hwf
    omega
  have level := Hub.alters_takeLevel site module v s.hub
  have xr : (s.hub.takeLevel site module v).ownXr site = s.hub.ownXr site :=
    level.get (R.YDL_SFN_RX_SFN site) (by simp [framed, logReg, evtReg]; omega)
  have upLevel : (s.hub.takeLevel site module v).siteUp site = true := by
    unfold Hub.siteUp
    rw [level.get (R.YDL_STAT_STATE site) (by simp [framed, logReg, evtReg]; omega)]
    exact h1
  have owed : (s.hub.takeLevel site module v).get (R.YDL_CREDIT_OWED site (s.hub.runPool site (leAt payload 0 2))) =
      s.hub.get (R.YDL_CREDIT_OWED site (s.hub.runPool site (leAt payload 0 2))) :=
    level.get (R.YDL_CREDIT_OWED site _) (by simp [framed, logReg, evtReg]; omega)
  rw [Chip.receiveFlit_accepts _ _ h1 h2 h3 (.inl h4) (h5 ▸ h4 ▸ h6) h7 (h5 ▸ h8)]
  obtain ⟨-, held, change, run, streams⟩ :=
    Hub.acceptFlit_siteS site module (k / 4 % 64) (k % 4) payload (s.hub.takeLevel site module v)
  have regs := Hub.acceptFlit_regs site module (k / 4 % 64) (k % 4) payload (s.hub.takeLevel site module v)
  rw [Hub.takeLevel_siteS] at held change run streams
  rw [xr, h9, List.nil_append] at held
  generalize (s.hub.takeLevel site module v).acceptFlit site module (k / 4 % 64) (k % 4) payload = h at *
  have turn : h.ownXr site = r := (Hub.get_congr regs _).trans (xr.trans h10.symm)
  obtain ⟨g, next, gregs, dlv, gheld, grun, gchange, gstreams⟩ := Hub.nextFlit_of_held held (by rw [turn, ← h10]; exact h11)
  have pool : g.runPool site (leAt payload 0 2) = s.hub.runPool site (leAt payload 0 2) := by
    unfold Hub.runPool SiteS.stream
    rw [gstreams, streams]
  have gget (f : RF) (hf : f.off ≠ 0x60000c + 262144 * site) : g.get f = (s.hub.takeLevel site module v).get f :=
    (Hub.get_congr gregs f).trans ((Hub.get_put_ne _ _ _ _ hf).trans (Hub.get_congr regs f))
  have upNow : g.siteUp site = true := by
    unfold Hub.siteUp at upLevel ⊢
    rw [gget _ (by simp)]
    exact upLevel
  have owes : g.get (R.YDL_CREDIT_OWED site (g.runPool site (leAt payload 0 2))) =
      s.hub.get (R.YDL_CREDIT_OWED site (s.hub.runPool site (leAt payload 0 2))) := by
    rw [pool, gget _ (by simp; omega), owed]
  rw [Chip.deliver_next _ _ _ next (by rw [gchange, change, h12]) (by simp [h4]),
    Chip.deliverData_header upNow (by rw [grun, run, h13]) h14 (by rw [owes, pool]; exact h15)]
  rw [Chip.deliver_of_none _ _ _ _ _ (by rw [Hub.siteS_put, Hub.siteS_onSite]; simp [gheld])]
  dsimp only
  rw [Hub.siteS_put, Hub.siteS_onSite]
  refine ⟨?_, ?_, gheld, rfl, rfl⟩
  · unfold Hub.ownXr
    rw [Hub.get_put_ne _ _ _ _ (by simp; omega), Hub.onSite_get, Hub.get_congr gregs, Hub.get_put_same _ _ _ (by simp), turn]
    exact Nat.mod_mod ..
  · exact h5 ▸ dlv

theorem flitReceive_withAWrong :
    ∀ (site module v k : Nat) (payload : List Byte) (s : State),
    (Instr.flitReceive site module v k payload).wf = true →
    s.hub.siteUp site = true →
    (s.hub.siteS site).rxOn module = true →
    slotKind v = 0 →
    k / 256 ≠ flitCrc (k / 4 % 64) (k % 4) payload →
    s.hub.get (R.YDL_MODCNT_RX_ERR site module) + 1 < 2 ^ (R.YDL_MODCNT_RX_ERR site module).width →
    ∃ t, exec (.flitReceive site module v k payload) s = .next t ∧
      t.hub.get (R.YDL_MODCNT_RX_ERR site module) = s.hub.get (R.YDL_MODCNT_RX_ERR site module) + 1 ∧
      ((t.hub.siteS site).mod module).exp = ((s.hub.siteS site).mod module).exp ∧ (t.hub.siteS site).held =
        (s.hub.siteS site).held ∧
      ((t.hub.siteS site).mod module).nak = true ∧ t.mem = s.mem := by
  intro site module v k payload s hwf h1 h2 h3 h4 h5
  refine ⟨_, (by unfold exec; exact State.actMem_next hwf _ _), ?_⟩
  have small : site < 4 ∧ module < 34 := by
    simp [Instr.wf, Ok.flitReceive] at hwf
    omega
  have rx : (s.hub.takeLevel site module v).get (R.YDL_MODCNT_RX_ERR site module) = s.hub.get (R.YDL_MODCNT_RX_ERR site module) :=
    (Hub.alters_takeLevel site module v s.hub).get (R.YDL_MODCNT_RX_ERR site module) (by simp [framed, logReg, evtReg]; omega)
  have same := Hub.takeLevel_siteS s.hub site module v site
  unfold Chip.receiveFlit
  dsimp only
  rw [if_neg (by simp [h1, h2]), if_neg (by omega), if_pos (.inr (.inr h4))]
  generalize s.hub.takeLevel site module v = h at *
  dsimp only
  unfold Hub.badFlit
  dsimp only
  have counted : (h.bump (R.YDL_MODCNT_RX_ERR site module) 1).get (R.YDL_MODCNT_RX_ERR site module) =
      s.hub.get (R.YDL_MODCNT_RX_ERR site module) + 1 := by
    rw [Hub.get_bump_same _ _ _ (by simp) (by rw [rx]; exact h5), rx]
  have bumped : (h.bump (R.YDL_MODCNT_RX_ERR site module) 1).siteS site = s.hub.siteS site := (Hub.siteS_bump ..).trans same
  generalize h.bump (R.YDL_MODCNT_RX_ERR site module) 1 = g at *
  split
  · have asks := SiteS.mod_onMod (s.hub.siteS site) module fun m => { m with nak := true, armed := false, asked := true }
    rw [Hub.sendAck_siteS, Hub.siteS_onSite, bumped,
      (Hub.alters_sendAck ..).get (R.YDL_MODCNT_RX_ERR site module) (by simp [framed, logReg, evtReg]; omega), Hub.onSite_get]
    obtain ⟨exp, nak, held, -⟩ := SiteS.answered_kept
      ((s.hub.siteS site).onMod module fun m => { m with nak := true, armed := false, asked := true }) _ module
    exact ⟨counted, exp.trans (by rw [asks]), held, nak.trans (by rw [asks]), rfl⟩
  · next quiet =>
    rw [bumped]
    exact ⟨counted, rfl, rfl, by rw [← same]; simp at quiet; exact quiet.1, rfl⟩

theorem replayStart_ofTheExpected :
    ∀ (site module seq mset : Nat) (s : State),
    (Instr.replayStart site module seq mset).wf = true →
    s.hub.siteUp site = true →
    seq = ((s.hub.siteS site).mod module).exp →
    mset = s.hub.get (R.YDL_EVT_MSET_RX site) →
    ∃ t, exec (.replayStart site module seq mset) s = .next t ∧ ((t.hub.siteS site).mod module).armed = true
      ∧ t.hub.regs = s.hub.regs ∧ t.mem = s.mem := by
  intro site module seq mset s hwf h1 h2 h3
  refine ⟨_, (by unfold exec; exact State.act_next hwf _ _), ?_⟩
  unfold Hub.replayStart
  dsimp only
  rw [if_pos ⟨h1, h2, h3⟩, Hub.siteS_onSite, SiteS.mod_onMod]
  exact ⟨rfl, rfl, rfl⟩

theorem ack_freesWhatIt :
    ∀ (site first mset j p : Nat) (entries : List (Nat × Nat)) (s : State),
    (Instr.ack site first mset entries).wf = true →
    s.hub.siteUp site = true →
    mset = s.hub.get (R.YDL_STAT_MSET_TX site) →
    (entries.all fun e => e.2 / 64 % 2 == 0) = true →
    (s.hub.siteS site).txq = [] →
    (s.hub.siteS site).setTx.Nodup →
    j < 16 →
    (s.hub.siteS site).setTx[first + j]? = some p →
    (entries.getD j (0, 0)).1 / 64 % 2 = 1 →
    ∃ t, exec (.ack site first mset entries) s = .next t ∧ ((t.hub.siteS site).mod p).txExp = (entries.getD j (0, 0)).2 % 64 ∧
      ((t.hub.siteS site).mod p).txBuf = freeTo ((entries.getD j (0, 0)).1 % 64) ((s.hub.siteS site).mod p).txBuf
        ∧ t.mem = s.mem := by
  intro site first mset j p entries s hwf h1 h2 h3 h4 h5 h6 h7 h8
  refine ⟨_, (by unfold exec; exact State.actMem_next hwf _ _), ?_⟩
  have acked : ∀ e ∈ entries, e.2 / 64 % 2 = 0 := fun e he => by simpa using List.all_eq_true.mp h3 e he
  have places := Chip.each_ackPlace_same site first entries 0 j ⟨s.hub, s.mem⟩ acked h5 (by simpa using h7) h8
  have kept := Chip.each_ackPlace_kept site first (s.hub.siteS site).setTx entries 0 ⟨s.hub, s.mem⟩ acked
  have pumped (h : Hub) (f : SiteS → SiteS) (mods : ∀ x, (f x).mods = x.mods) (txq : ((h.onSite site f).siteS site).txq = [])
    (q : Nat) :
      (((h.onSite site f).pump site).siteS site).mod q = (h.siteS site).mod q := by
    unfold Hub.pump
    rw [txq, Hub.pumpList, Hub.siteS_onSite, Hub.siteS_onSite]
    exact congrArg (fun l => Store.get (fun _ => ModLink.empty) l q) (mods _)
  have back (x : SiteS) : x.escapeBack.mods = x.mods ∧ x.escapeBack.txq = x.txq := by
    unfold SiteS.escapeBack
    split <;> exact ⟨rfl, rfl⟩
  rw [Chip.takeAck_eq h1 h2]
  dsimp only
  rw [pumped _ _ (fun x => (back x).1) (by rw [Hub.siteS_onSite, (back _).2, kept.1, h4])]
  exact ⟨places.1, places.2, kept.2⟩

theorem ackInterval_sendsWhatChanged :
    ∀ (site p : Nat) (s : State),
    (Instr.ackInterval site).wf = true →
    s.hub.siteUp site = true →
    (s.hub.siteS site).setRx.length ≤ 32 →
    p ∈ (s.hub.siteS site).setRx →
    ((s.hub.siteS site).mod p).changed = true →
    ∃ t, exec (.ackInterval site) s = .next t ∧ ((t.hub.siteS site).mod p).changed = false ∧
      ((t.hub.siteS site).mod p).asked = false ∧
      ((t.hub.siteS site).mod p).exp = ((s.hub.siteS site).mod p).exp ∧
      flitOut site ((s.hub.siteS site).setTx.getD 0 34) 0 0 (padTo 64 (ackBody 0 (s.hub.get (R.YDL_EVT_MSET_RX site))
        (((s.hub.siteS site).setRx.take 16).map fun q => ((s.hub.siteS site).mod q).ackEntry))) ∈ t.hub.out := by
  intro site p s hwf h1 h2 h3 h4
  refine ⟨_, (by unfold exec; exact State.act_next hwf _ _), ?_⟩
  have first : (s.hub.sendAck site 0).siteS site = (s.hub.siteS site).answered
    ((s.hub.siteS site).setRx.take 16) := Hub.sendAck_siteS ..
  obtain ⟨exp, -, -, rx⟩ := SiteS.answered_kept (s.hub.siteS site) ((s.hub.siteS site).setRx.take 16) p
  have second := Hub.sendAck_siteS site 16 (s.hub.sendAck site 0)
  rw [first, rx] at second
  obtain ⟨exp', -⟩ := SiteS.answered_kept ((s.hub.siteS site).answered ((s.hub.siteS site).setRx.take 16))
    (((s.hub.siteS site).setRx.drop 16).take 16) p
  have answered := by
    have parts : p ∈ (s.hub.siteS site).setRx.take 16 ∨ p ∈ ((s.hub.siteS site).setRx.drop 16).take 16 := by
      rw [List.take_of_length_le (l := List.drop _ _) (by simp; omega), ← List.mem_append, List.take_append_drop]
      exact h3
    exact parts.elim
      (fun early => SiteS.answered_still ((s.hub.siteS site).answered ((s.hub.siteS site).setRx.take 16))
        (((s.hub.siteS site).setRx.drop 16).take 16) p (SiteS.answered_of_mem _ early).1 (SiteS.answered_of_mem _ early).2)
      fun late => SiteS.answered_of_mem _ late
  dsimp only
  rw [if_pos ⟨h1, List.any_eq_true.mpr ⟨p, h3, by simp [h4]⟩⟩, second]
  refine ⟨answered.2, answered.1, exp'.trans exp, ?_⟩
  obtain ⟨os, out, -⟩ := Hub.sendAck_out site 16 (s.hub.sendAck site 0)
  obtain ⟨os', out', sent⟩ := Hub.sendAck_out site 0 s.hub
  rw [out, out']
  exact List.mem_append_right _ (List.mem_append_left _ (sent (by
    rw [List.drop_zero]
    intro none
    rw [List.take_eq_nil_iff] at none
    exact absurd h3 (by simp [none.resolve_left (by decide)]))))

theorem replayTimeout_belowEightRuns :
    ∀ (site module e n : Nat) (s : State),
    (Instr.replayTimeout site module).wf = true →
    s.hub.siteUp site = true →
    module ∈ (s.hub.siteS site).setTx →
    e = ((s.hub.siteS site).mod module).txExp →
    fromSeq e ((s.hub.siteS site).mod module).txBuf ≠ [] →
    n = s.hub.get (R.YDL_MOD_RUN site module) →
    n < 8 →
    ∃ t, exec (.replayTimeout site module) s = .next t ∧ t.hub.get (R.YDL_MOD_RUN site module) = n + 1 ∧
      flitOut site module e 0 (padTo 64 (replayBody (s.hub.get (R.YDL_STAT_MSET_TX site)))) ∈ t.hub.out ∧
      ((fromSeq e ((s.hub.siteS site).mod module).txBuf).all fun f => t.hub.out.contains
        (flitOut site module f.seq f.type f.payload)) = true := by
  intro site module e n s hwf h1 h2 h3 h4 h5 h6
  refine ⟨_, (by unfold exec; exact State.actMem_next hwf _ _), ?_⟩
  have small : site < 4 ∧ module < 34 := by
    simp [Instr.wf, Ok.replayTimeout] at hwf
    omega
  have counted : Hub.Alters [] (fun a => a = 0x600018 + 262144 * site) (s.hub.put (R.YDL_MOD_RUN site module) (n + 1))
      (((s.hub.put (R.YDL_MOD_RUN site module) (n + 1)).bump (R.YDL_REPLAY_COUNT site) 1).countEvent 8) :=
        ((self ..).bump _).countEvent _
  unfold Chip.replay
  dsimp only
  rw [if_pos ⟨h1, by simp [h2], by rw [← h3]; exact h4⟩, ← h5, if_neg (by omega)]
  have run := counted.get (R.YDL_MOD_RUN site module) (by simp [framed, logReg, evtReg]; omega)
  have tx := counted.get (R.YDL_STAT_MSET_TX site) (by simp [framed, logReg, evtReg]; omega)
  have sites := counted.sites (by simp)
  rw [Hub.get_put_same _ _ _ (by simp)] at run
  rw [Hub.get_put_ne _ _ _ _ (by simp; omega)] at tx
  generalize ((s.hub.put (R.YDL_MOD_RUN site module) (n + 1)).bump (R.YDL_REPLAY_COUNT site) 1).countEvent 8 = h at *
  unfold Hub.linkOut
  rw [Hub.siteS_send, Hub.siteS_congr sites, Hub.siteS_put, tx, ← h3, Hub.each_send_out]
  refine ⟨?_, ?_, ?_⟩
  · rw [Hub.get_congr (Hub.each_send_regs ..), Hub.get_congr (h := h) (Hub.send_regs ..), run]
    exact Nat.mod_eq_of_lt (by simp; omega)
  · simp [Hub.send]
  · rw [List.all_eq_true]
    intro f hf
    exact List.contains_iff_mem.mpr (List.mem_append_left _ (List.mem_reverse.mpr (List.mem_map_of_mem hf)))

/-- Settles O41: one lemma per clause. -/
theorem ydlTrainsAndDelivers : Obligations.YdlTrainsAndDelivers := by
  unfold Obligations.YdlTrainsAndDelivers
  exact ⟨moduleTest_thatFailsMarks, trainStepLimit_beforeEitherSide, driftUpdate_within16Steps, driftUpdate_ofASpare,
    flitReceive_ofAnExpected, flitReceive_ofARun, flitReceive_withAWrong, replayStart_ofTheExpected, ack_freesWhatIt,
    ackInterval_sendsWhatChanged, replayTimeout_belowEightRuns⟩

end Sys2Proof.Machine
end

section
/-!
### Lookups and commands of the map
-/
namespace Sys2Proof.Machine

set_option Elab.async false
open Hub.Alters

theorem Hub.physOf_lt {h : Hub} {t s l p : Nat} (found : h.physOf t s l = some p) : p < unitCount t := by
  simpa using List.mem_range.mp (List.mem_of_find?_eq_some found)

/-- A write of the lookup register leaves the map. -/
theorem Hub.physOf_congr {h g : Hub} {s : Nat} (small : s < 4) (table : ∀ f : RF, f.off ≠ 0x50108 → g.get f = h.get f) (t l
  : Nat) :
    g.physOf t s l = h.physOf t s l ∧ g.logicalCount t s = h.logicalCount t s := by
  have off (p : Nat) : unitOff t s p ≠ 0x50108 := by
    unfold unitOff
    split_ifs <;> omega
  constructor
  · unfold Hub.physOf Hub.unitState Hub.unitLogical
    congr 1
    funext p
    rw [table _ (off p), table _ (off p)]
  · unfold Hub.logicalCount
    have count : (countField t).off ≠ 0x50108 := by
      unfold countField
      split_ifs <;> simp
    rw [table _ count, table _ (by simp; omega)]

/-- What the lookup register shows, for a type that has logical units in the map. -/
theorem Hub.lookup_shows (v : Word) (h : Hub) (type : bitsOf v 12 3 < 4) {o : Option Nat}
    (found : o = if bitsOf v 0 11 < h.logicalCount (bitsOf v 12 3) (if bitsOf v 12 3 = 3 then bitsOf v 16 2 else 0) then
      h.physOf (bitsOf v 12 3) (if bitsOf v 12 3 = 3 then bitsOf v 16 2 else 0) (bitsOf v 0 11) else none) :
    (h.lookup v).get R.MAP_LOOKUP_PHYS = (o.getD 0) % 2 ^ 11 ∧ (h.lookup v).get R.MAP_LOOKUP_VALID = b2n o.isSome ∧
      (h.lookup v).map = h.map := by
  unfold Hub.lookup Hub.showLookup
  have table (f : RF) (hf : f.off ≠ 0x50108) :
      (((h.put R.MAP_LOOKUP_LOGICAL (bitsOf v 0 11)).put R.MAP_LOOKUP_TYPE (bitsOf v 12 3)).put R.MAP_LOOKUP_SITE
        (bitsOf v 16 2)).get f =
        h.get f := by
    rw [Hub.get_put_ne _ _ _ _ hf, Hub.get_put_ne _ _ _ _ hf, Hub.get_put_ne _ _ _ _ hf]
  have site : (((h.put R.MAP_LOOKUP_LOGICAL (bitsOf v 0 11)).put R.MAP_LOOKUP_TYPE (bitsOf v 12 3)).put R.MAP_LOOKUP_SITE
      (bitsOf v 16 2)).get R.MAP_LOOKUP_SITE = bitsOf v 16 2 := by
    rw [Hub.get_put_same _ _ _ (by simp)]
    exact Nat.mod_mod ..
  have kind : (((h.put R.MAP_LOOKUP_LOGICAL (bitsOf v 0 11)).put R.MAP_LOOKUP_TYPE (bitsOf v 12 3)).put R.MAP_LOOKUP_SITE
      (bitsOf v 16 2)).get R.MAP_LOOKUP_TYPE = bitsOf v 12 3 := by
    rw [Hub.get_put_apart _ _ _ _ (by simp) (by simp), Hub.get_put_same _ _ _ (by simp)]
    exact Nat.mod_mod ..
  have logical : (((h.put R.MAP_LOOKUP_LOGICAL (bitsOf v 0 11)).put R.MAP_LOOKUP_TYPE (bitsOf v 12 3)).put R.MAP_LOOKUP_SITE
      (bitsOf v 16 2)).get R.MAP_LOOKUP_LOGICAL = bitsOf v 0 11 := by
    rw [Hub.get_put_apart _ _ _ _ (by simp) (by simp), Hub.get_put_apart _ _ _ _ (by simp) (by simp), Hub.get_put_same _ _ _
      (by simp)]
    exact Nat.mod_mod ..
  have map : (((h.put R.MAP_LOOKUP_LOGICAL (bitsOf v 0 11)).put R.MAP_LOOKUP_TYPE (bitsOf v 12 3)).put R.MAP_LOOKUP_SITE
      (bitsOf v 16 2)).map = h.map := rfl
  generalize ((h.put R.MAP_LOOKUP_LOGICAL (bitsOf v 0 11)).put R.MAP_LOOKUP_TYPE (bitsOf v 12 3)).put R.MAP_LOOKUP_SITE
      (bitsOf v 16 2) = g at *
  have small : (if bitsOf v 12 3 = 3 then bitsOf v 16 2 else 0) < 4 := by
    have := Nat.mod_lt (v.toNat / 2 ^ 16) (y := 2 ^ 2) (by decide)
    unfold bitsOf
    split <;> omega
  dsimp only
  rw [site, kind, logical, (Hub.physOf_congr small table _ _).1, (Hub.physOf_congr small table _ (bitsOf v 0 11)).2,
    if_neg (show ¬ bitsOf v 12 3 = 4 by omega)]
  have same : (if bitsOf v 12 3 ≤ 4 ∧ bitsOf v 0 11 < h.logicalCount (bitsOf v 12 3)
    (if bitsOf v 12 3 = 3 then bitsOf v 16 2 else 0) then
      h.physOf (bitsOf v 12 3) (if bitsOf v 12 3 = 3 then bitsOf v 16 2 else 0) (bitsOf v 0 11) else none) = o := by
    rw [found]
    exact if_congr ⟨fun x => x.2, fun x => ⟨by omega, x⟩⟩ rfl rfl
  rw [same]
  cases o <;>
  · dsimp only
    rw [Hub.get_put_apart _ _ _ _ (by simp) (by simp), Hub.get_put_same _ _ _ (by simp), Hub.get_put_same _ _ _ (by simp)]
    exact ⟨rfl, rfl, (Hub.put_map ..).trans ((Hub.put_map ..).trans map)⟩

theorem mapLookup_ofALive :
    ∀ (req : Path) (v : Word) (l p site : Nat) (s : State),
    (Instr.mapLookup req v).wf = true →
    req.holdsBlocks = true →
    l = bitsOf v 0 11 →
    bitsOf v 12 3 < 4 →
    site = (if bitsOf v 12 3 = 3 then bitsOf v 16 2 else 0) →
    l < s.hub.logicalCount (bitsOf v 12 3) site →
    s.hub.physOf (bitsOf v 12 3) site l = some p →
    ∃ t, exec (.mapLookup req v) s = .next t ∧ t.hub.get R.MAP_LOOKUP_PHYS = p ∧ t.hub.get R.MAP_LOOKUP_VALID = 1
      ∧ t.hub.map = s.hub.map := by
  intro req v l p site s hwf h1 h2 h3 h4 h5 h6
  refine ⟨_, (by unfold exec; exact State.act_pfWrite_next hwf h1 _ _), ?_⟩
  have count : p < 2 ^ 11 := by
    have := Hub.physOf_lt h6
    unfold unitCount at this
    split_ifs at this <;> omega
  obtain ⟨phys, valid, map⟩ := Hub.lookup_shows v s.hub h3 (o := some p) (by rw [← h4, ← h2, if_pos h5, h6])
  exact ⟨phys.trans (Nat.mod_eq_of_lt count), valid, map⟩

theorem mapLookup_beyondTheCount :
    ∀ (req : Path) (v : Word) (s : State),
    (Instr.mapLookup req v).wf = true →
    req.holdsBlocks = true →
    bitsOf v 12 3 < 3 →
    s.hub.logicalCount (bitsOf v 12 3) 0 ≤ bitsOf v 0 11 →
    ∃ t, exec (.mapLookup req v) s = .next t ∧ t.hub.get R.MAP_LOOKUP_PHYS = 0 ∧ t.hub.get R.MAP_LOOKUP_VALID = 0 := by
  intro req v s hwf h1 h2 h3
  refine ⟨_, (by unfold exec; exact State.act_pfWrite_next hwf h1 _ _), ?_⟩
  obtain ⟨phys, valid, -⟩ := Hub.lookup_shows v s.hub (by omega) (o := none)
    (by rw [if_neg (show ¬ bitsOf v 12 3 = 3 by omega), if_neg (by omega)])
  exact ⟨phys, valid⟩

/-- With no command running, the register starts the operation written. -/
theorem Hub.mapCmd_idle {h : Hub} (idle : h.map.cmd = none) (req : Path) (v : Word) :
    h.mapCmd req (setBits v 0 3 1) = h.retire (setBits v 0 3 1) ∧ h.mapCmd req (setBits v 0 3 2) = h.readmit
      (setBits v 0 3 2) := by
  unfold Hub.mapCmd
  rw [idle]
  dsimp only
  rw [bitsOf_setBits_same _ _ _ _ (by decide), bitsOf_setBits_same _ _ _ _ (by decide)]
  exact ⟨rfl, rfl⟩

/-- The fields of a map command above its operation are as written. -/
theorem bitsOf_setOp (v : Word) (n a b : Nat) (above : 3 ≤ a) : bitsOf (setBits v 0 3 n) a b = bitsOf v a b :=
  bitsOf_setBits_above v 0 3 n a b (by decide) above

/-- A retirement that takes a spare begins with its command. -/
theorem Hub.retire_spared {h : Hub} {w : Word} {p q : Nat} (ready : h.ready = true) (type : bitsOf w 4 3 ≤ 2) (perm
  : bitsOf w 8 1 = 0)
    (inside : bitsOf w 16 11 < h.logicalCount (bitsOf w 4 3) 0) (found : h.physOf (bitsOf w 4 3) 0 (bitsOf w 16 11) = some p)
    (spare : pickSpare (bitsOf w 4 3) (bitsOf w 16 11 / perGroup (bitsOf w 4 3)) (h.spares (bitsOf w 4 3) 0) = some q) :
    h.retire w = if bitsOf w 4 3 = 2 ∧ bitsOf w 9 1 = 0 then h.mapBegin (cmdFor false w (bitsOf w 4 3) 0 p (bitsOf w 16 11) q 0)
      else (h.mapBegin (cmdFor false w (bitsOf w 4 3) 0 p (bitsOf w 16 11) q 0)).stageCmd := by
  unfold Hub.retire
  dsimp only
  rw [if_neg (by simp [ready]), if_neg (show ¬ bitsOf w 4 3 = 3 by omega), if_neg (by omega), found]
  dsimp only
  rw [if_pos type]
  unfold Hub.retireSpared Hub.persistIf
  dsimp only
  rw [if_neg (by omega), spare]

theorem Hub.stageCmd_queues {h : Hub} {x : MapCmd} (running : h.map.cmd = some x) :
    h.stageCmd.map.cmd = some { x with phase := 2 } ∧ h.stageCmd.map.changes = h.map.changes ++ [x.change] ∧
      h.stageCmd.get R.MAP_CMD_STAT_BUSY = h.get R.MAP_CMD_STAT_BUSY := by
  unfold Hub.stageCmd
  rw [running]
  refine ⟨?_, rfl, ?_⟩
  · change Option.map _ h.map.cmd = _
    rw [running]
    rfl
  · unfold Hub.mapPhase Hub.onMap Hub.stageChange Hub.showQueued
    exact Hub.get_put_ne (h.onMap _) _ _ _ (by simp)

theorem Hub.mapBegin_starts (h : Hub) (x : MapCmd) :
    (h.mapBegin x).map.cmd = some x ∧ (h.mapBegin x).map.changes = h.map.changes ∧ (h.mapBegin x).get R.MAP_CMD_STAT_BUSY = 1 :=
  ⟨rfl, rfl, Hub.get_put_same (h.onMap _) _ _ (by simp)⟩

theorem mapCmdRetire_ofATile :
    ∀ (req : Path) (v : Word) (p q : Nat) (s : State),
    (Instr.mapCmdRetire req v).wf = true →
    req.holdsBlocks = true →
    s.hub.map.cmd = none →
    s.hub.ready = true →
    bitsOf v 4 3 ≤ 1 →
    bitsOf v 8 1 = 0 →
    bitsOf v 16 11 < s.hub.logicalCount (bitsOf v 4 3) 0 →
    s.hub.physOf (bitsOf v 4 3) 0 (bitsOf v 16 11) = some p →
    pickSpare (bitsOf v 4 3) (bitsOf v 16 11 / perGroup (bitsOf v 4 3)) (s.hub.spares (bitsOf v 4 3) 0) = some q →
    ∃ t, exec (.mapCmdRetire req v) s = .next t ∧ t.hub.map.cmd = some
      ({ join := false, type := bitsOf v 4 3, site := 0, phys := p, logical := bitsOf v 16 11, spare := q,
         abort := bitsOf v 7 1 == 1, discard := false, phase := 2 } : MapCmd) ∧
      t.hub.map.changes = s.hub.map.changes ++
        [({ join := false, type := bitsOf v 4 3, site := 0, phys := p, logical := bitsOf v 16 11, spare := q,
            cause := 5, abort := bitsOf v 7 1 == 1, byCmd := true } : MapChange)] ∧ t.hub.get R.MAP_CMD_STAT_BUSY = 1 := by
  intro req v p q s hwf h1 h2 h3 h4 h5 h6 h7 h8
  refine ⟨_, (by unfold exec; exact State.act_pfWrite_next hwf h1 _ _), ?_⟩
  dsimp only
  have fields := fun a b ha => bitsOf_setOp v 1 a b ha
  rw [(Hub.mapCmd_idle h2 req v).1, Hub.retire_spared (p := p) (q := q) h3 (by rw [fields _ _ (by decide)]; omega)
    (by rw [fields _ _ (by decide), h5]) (by rw [fields _ _ (by decide), fields _ _ (by decide)]; exact h6)
    (by rw [fields _ _ (by decide), fields _ _ (by decide)]; exact h7)
    (by rw [fields _ _ (by decide), fields _ _ (by decide)]; exact h8), if_neg (by rw [fields _ _ (by decide)]; omega)]
  obtain ⟨cmd, changes, busy⟩ := Hub.mapBegin_starts s.hub
    (cmdFor false (setBits v 0 3 1) (bitsOf (setBits v 0 3 1) 4 3) 0 p (bitsOf (setBits v 0 3 1) 16 11) q 0)
  obtain ⟨cmd', changes', busy'⟩ := Hub.stageCmd_queues cmd
  rw [cmd', changes', changes, busy', busy]
  unfold MapCmd.change cmdFor
  rw [fields _ _ (by decide), fields _ _ (by decide), fields _ _ (by decide)]
  have tile : (bitsOf v 4 3 == 2) = false := by simp; omega
  rw [tile]
  exact ⟨rfl, rfl, rfl⟩

theorem mapCmdRetire_ofABank :
    ∀ (req : Path) (v : Word) (p q : Nat) (s : State),
    (Instr.mapCmdRetire req v).wf = true →
    req.holdsBlocks = true →
    s.hub.map.cmd = none →
    s.hub.ready = true →
    bitsOf v 4 3 = 2 →
    bitsOf v 8 1 = 0 →
    bitsOf v 9 1 = 0 →
    bitsOf v 16 11 < s.hub.logicalCount 2 0 →
    s.hub.physOf 2 0 (bitsOf v 16 11) = some p →
    pickSpare 2 (bitsOf v 16 11 / perGroup 2) (s.hub.spares 2 0) = some q →
    ∃ t, exec (.mapCmdRetire req v) s = .next t ∧ t.hub.map.cmd = some
      ({ join := false, type := 2, site := 0, phys := p, logical := bitsOf v 16 11, spare := q,
         abort := bitsOf v 7 1 == 1, discard := false, phase := 0 } : MapCmd) ∧
      t.hub.map.changes = s.hub.map.changes ∧ t.hub.get R.MAP_CMD_STAT_BUSY = 1 := by
  intro req v p q s hwf h1 h2 h3 h4 h5 h6 h7 h8 h9
  refine ⟨_, (by unfold exec; exact State.act_pfWrite_next hwf h1 _ _), ?_⟩
  dsimp only
  have fields := fun a b ha => bitsOf_setOp v 1 a b ha
  have type : bitsOf (setBits v 0 3 1) 4 3 = 2 := (fields _ _ (by decide)).trans h4
  rw [(Hub.mapCmd_idle h2 req v).1, Hub.retire_spared (p := p) (q := q) h3 (by omega)
    (by rw [fields _ _ (by decide), h5]) (by rw [type, fields _ _ (by decide)]; exact h7)
    (by rw [type, fields _ _ (by decide)]; exact h8)
    (by rw [type, fields _ _ (by decide)]; exact h9), if_pos ⟨type, (fields _ _ (by decide)).trans h6⟩]
  obtain ⟨cmd, changes, busy⟩ := Hub.mapBegin_starts s.hub
    (cmdFor false (setBits v 0 3 1) (bitsOf (setBits v 0 3 1) 4 3) 0 p (bitsOf (setBits v 0 3 1) 16 11) q 0)
  rw [cmd, changes, busy]
  unfold cmdFor
  rw [type, fields _ _ (by decide), fields _ _ (by decide), fields _ _ (by decide), h6]
  exact ⟨rfl, rfl, rfl⟩

theorem mapCmdRetire_beforeReady :
    ∀ (req : Path) (v : Word) (s : State),
    (Instr.mapCmdRetire req v).wf = true →
    req.holdsBlocks = true →
    s.hub.map.cmd = none →
    s.hub.ready = false →
    ∃ t, exec (.mapCmdRetire req v) s = .next t ∧ t.hub.get R.MAP_CMD_STAT_STATUS = 5 ∧ t.hub.get R.MAP_CMD_STAT_BUSY = 0
      ∧ t.hub.map = s.hub.map := by
  intro req v s hwf h1 h2 h3
  refine ⟨_, (by unfold exec; exact State.act_pfWrite_next hwf h1 _ _), ?_⟩
  dsimp only
  rw [(Hub.mapCmd_idle h2 req v).1]
  unfold Hub.retire
  dsimp only
  rw [if_pos (by simp [h3])]
  unfold Hub.mapDone
  rw [Hub.get_put_same _ _ _ (by simp), Hub.get_put_apart _ _ _ _ (by simp) (by simp), Hub.get_put_same _ _ _ (by simp)]
  refine ⟨rfl, rfl, ?_⟩
  change { s.hub.map with cmd := none } = s.hub.map
  rw [← h2]

theorem Chip.copyBank_map (l : Nat) (c : Chip) : (c.copyBank l).hub.map = c.hub.map := by
  have word (a : Nat) (c : Chip) : (c.copyWord a).hub.map = c.hub.map := by
    have read := Chip.alters_readCw 0x3000 false 1 a c
    unfold Chip.copyWord
    dsimp only
    split
    · unfold Hub.logPoison
      exact (read.rasLog _).map (by simp)
    · exact read.map (by simp)
  unfold Chip.copyBank Chip.each
  induction c.mem.badWords l generalizing c with
  | nil => rfl
  | cons a as ih => exact (ih (c.copyWord a)).trans (word a c)

theorem bankCopyComplete_queuesTheBanks :
    ∀ (x : MapCmd) (s : State),
    s.hub.map.cmd = some x →
    x.join = false →
    x.type = 2 →
    x.phase = 0 →
    ∃ t, exec .bankCopyComplete s = .next t ∧ t.hub.map.cmd = some { x with phase := 2 }
      ∧ t.hub.map.changes = s.hub.map.changes ++ [x.change] := by
  intro x s h1 h2 h3 h4
  refine ⟨_, (by unfold exec; exact State.actMem_next rfl _ _), ?_⟩
  dsimp only
  rw [h1]
  dsimp only
  rw [if_pos ⟨by simp [h2], h3, h4⟩]
  have map := Chip.copyBank_map x.logical ⟨s.hub, s.mem⟩
  obtain ⟨cmd, changes, -⟩ := Hub.stageCmd_queues ((congrArg MapS.cmd map).trans h1)
  exact ⟨cmd, changes.trans (by rw [map])⟩

theorem mapCmdReadmit_ofARetired :
    ∀ (req : Path) (v : Word) (p : Nat) (s : State),
    (Instr.mapCmdReadmit req v).wf = true →
    req.holdsBlocks = true →
    s.hub.map.cmd = none →
    s.hub.ready = true →
    bitsOf v 4 3 ≤ 2 →
    p = bitsOf v 16 11 →
    p < unitCount (bitsOf v 4 3) →
    s.hub.unitState (bitsOf v 4 3) 0 p = 2 →
    s.hub.get (R.PWR_DOM_REQ (unitDomain (bitsOf v 4 3) 0 p)) ≠ 2 →
    nget s.hub.power.barred (unitDomain (bitsOf v 4 3) 0 p) = 0 →
    ∃ t, exec (.mapCmdReadmit req v) s = .next t ∧ t.hub.unitState (bitsOf v 4 3) 0 p = 3 ∧ t.hub.get R.MAP_CMD_STAT_BUSY = 1 ∧
      t.hub.map.cmd = some ({ join := true, type := bitsOf v 4 3, site := 0, phys := p, logical := 0x7FF,
                              spare := 0x7FF, abort := false, discard := false, phase := 3 } : MapCmd) := by
  intro req v p s hwf h1 h2 h3 h4 h5 h6 h7 h8 h9
  refine ⟨_, (by unfold exec; exact State.act_pfWrite_next hwf h1 _ _), ?_⟩
  dsimp only
  have fields := fun a b ha => bitsOf_setOp v 2 a b ha
  rw [(Hub.mapCmd_idle h2 req v).2]
  unfold Hub.readmit
  dsimp only
  rw [fields 4 3 (by decide), fields 16 11 (by decide), ← h5, if_neg (by simp [h3]), if_neg (show ¬ bitsOf v 4 3 = 3 by omega),
    if_neg (by omega), if_neg (by omega), if_neg (by unfold outState; split_ifs <;> omega), 
    if_neg fun bad => bad.elim h8 fun b => b.elim (fun n => n h9) fun m => absurd m.1 (by omega),
    if_neg (by omega)]
  obtain ⟨cmd, -, busy⟩ := Hub.mapBegin_starts s.hub (cmdFor true (setBits v 0 3 2) (bitsOf v 4 3) 0 p 0x7FF 0x7FF 3)
  have unit : 0x51000 ≤ unitOff (bitsOf v 4 3) 0 p ∧ unitOff (bitsOf v 4 3) 0 p < 0x54000 := by
    unfold unitCount at h6
    unfold unitOff
    split_ifs at * <;> omega
  have domain : unitDomain (bitsOf v 4 3) 0 p < 74 := by
    unfold unitCount at h6
    unfold unitDomain unitGroup tileOfBank
    split_ifs at * <;> omega
  generalize s.hub.mapBegin (cmdFor true (setBits v 0 3 2) (bitsOf v 4 3) 0 p 0x7FF 0x7FF 3) = h at *
  unfold Hub.setState
  have asked := Hub.alters_demandDom (unitDomain (bitsOf v 4 3) 0 p) (h.put ⟨unitOff (bitsOf v 4 3) 0 p, 0, 3⟩ 3)
  unfold Hub.unitState
  rw [asked.get ⟨unitOff (bitsOf v 4 3) 0 p, 0, 3⟩ (by simp [framed, powerReg, logReg, evtReg]; omega), Hub.get_put_same _ _ _
    (by simp),
    asked.get R.MAP_CMD_STAT_BUSY (by simp [framed, powerReg, logReg, evtReg]), Hub.get_put_ne _ _ _ _ (by simp; omega), busy,
    asked.map (by simp), Hub.put_map, cmd]
  unfold cmdFor
  exact ⟨rfl, rfl, rfl⟩

/-- Settles O26: one lemma per clause. -/
theorem mapCommandsAnswer : Obligations.MapCommandsAnswer := by
  unfold Obligations.MapCommandsAnswer
  exact ⟨mapLookup_ofALive, mapLookup_beyondTheCount, mapCmdRetire_ofATile, mapCmdRetire_ofABank, mapCmdRetire_beforeReady,
    bankCopyComplete_queuesTheBanks, mapCmdReadmit_ofARetired⟩

end Sys2Proof.Machine
end

section
/-!
### The early stages of bring-up
-/
namespace Sys2Proof.Machine

set_option Elab.async false
open Hub.Alters

theorem Hub.onBoot_get (h : Hub) (f : BootS → BootS) (g : RF) : (h.onBoot f).get g = h.get g := rfl

theorem Hub.alters_scanLog (h : Hub) : Hub.Alters [] (fun a => 0xB00000 ≤ a) h h.scanLog := by
  unfold Hub.scanLog
  exact ((((self ..).set_yew _).put _).put _).bump _

/-- The start of a stage writes the records of stages only. -/
theorem Hub.enterStage_get (n : Nat) (h : Hub) {f : RF} (apart : ¬ within 0x40100 0x40140 f.off) (ready
  : RF.apart R.GLB_RDY_STAGE f)
    (stage : RF.apart R.BOOT_STAT_STAGE f) (pct : RF.apart R.BOOT_STAT_PCT f) : (h.enterStage n).get f = h.get f := by
  have now : h.stage < 16 := Hub.get_lt h _
  unfold Hub.enterStage Hub.closeStage
  dsimp only
  rw [Hub.onBoot_get, Hub.get_put_of_apart pct (by simp), Hub.get_put_of_apart stage (by simp), Hub.get_put_of_apart ready
    (by simp),
    Hub.get_put_ne _ _ _ _ (by simp [within] at apart ⊢; omega)]

theorem Hub.enterStage_stage (n : Nat) (h : Hub) : (h.enterStage n).stage = n % 16 := by
  unfold Hub.enterStage Hub.stage
  dsimp only
  rw [Hub.onBoot_get, Hub.get_put_ne _ _ _ _ (by simp), Hub.get_put_ne _ _ _ _ (by simp), Hub.get_put_same _ _ _ (by simp)]
  rfl

theorem Hub.enterStage_yew (n : Nat) (h : Hub) : (h.enterStage n).yew = h.yew := rfl

theorem Hub.runStage_enters {h : Hub} {n : Nat} (may : h.mayEnter n = true) (f : Hub → Hub) : h.runStage n f = f
  (h.enterStage n) := by
  unfold Hub.runStage
  rw [if_pos may]

theorem Hub.booting_of_mayEnter {h : Hub} {n : Nat} (may : h.mayEnter n = true) : (h.enterStage n).booting = true := by
  unfold Hub.booting
  rw [Hub.enterStage_get n h (by simp [within]) (.inr (.inr (by simp))) (.inl (by simp)) (.inl (by simp))]
  unfold Hub.mayEnter at may
  simp only [Bool.and_eq_true] at may
  exact may.1.1.1.1

/-- What a halt of the bring-up shows. -/
theorem Hub.bootHalt_shows {h : Hub} (booting : h.booting = true) (reason unit : Nat) :
    (h.bootHalt reason unit).get R.GLB_RDY_OUTCOME = 3 ∧ (h.bootHalt reason unit).get R.BOOT_FAIL_REASON = reason % 2 ^ 8 ∧
      (h.bootHalt reason unit).get R.BOOT_FAIL_STAGE = h.stage % 16 ∧
      (h.bootHalt reason unit).get R.GLB_RDY_READY = h.get R.GLB_RDY_READY := by
  have now : h.stage < 16 := Hub.get_lt h _
  unfold Hub.bootHalt
  rw [if_pos booting]
  extract_lets g g1 g2
  have irq (k : Hub) (f : RF) (kept : f.off < 0x50000 ∧ ¬ logReg f.off) (apart : RF.apart R.GLB_RDY_PEND f) :
      k.readinessIrq.get f = k.get f := by
    unfold Hub.readinessIrq
    dsimp only
    split
    · exact Hub.get_put_of_apart apart (by simp) _ _
    · exact ((self [] (fun _ => False) k).sendVector_mod _).get f (by simp [framed, logReg, evtReg] at kept ⊢; omega)
  have lowered : Hub.Alters [.power] powerReg g g1 := (self ..).upto _ fun n hn k => branch (self ..) (Hub.alters_lowerOwn n k hn)
  have recorded : Hub.Alters [.power] powerReg g g2 := branch (lowered.yewRecord _ _ _ _) (lowered.yewRecord _ _ _ _)
  have noted : g.get R.GLB_RDY_OUTCOME = 3 ∧ g.get R.BOOT_FAIL_REASON = reason % 2 ^ 8 ∧ g.get R.BOOT_FAIL_STAGE = h.stage % 16 ∧
      g.get R.GLB_RDY_READY = h.get R.GLB_RDY_READY := by
    have closed (k : Hub) (f : RF) (hf : ¬ within 0x40100 0x40140 f.off) (small : k.stage < 16)
      : k.closeStage.get f = k.get f := by
      unfold Hub.closeStage
      exact Hub.get_put_ne _ _ _ _ (by simp [within] at hf ⊢; omega)
    have small : (h.noteFail reason unit).stage < 16 := Hub.get_lt _ R.GLB_RDY_STAGE
    simp only [g]
    refine ⟨?_, ?_, ?_, ?_⟩
    · rw [Hub.get_put_ne _ _ _ _ (by simp), Hub.get_put_same _ _ _ (by simp)]
      rfl
    · rw [Hub.get_put_ne _ _ _ _ (by simp), Hub.get_put_ne _ _ _ _ (by simp), closed _ _ (by simp [within]) small]
      unfold Hub.noteFail
      rw [Hub.get_put_apart _ _ _ _ (by simp) (by simp), Hub.get_put_apart _ _ _ _ (by simp) (by simp), Hub.get_put_same _ _ _
        (by simp)]
    · rw [Hub.get_put_ne _ _ _ _ (by simp), Hub.get_put_ne _ _ _ _ (by simp), closed _ _ (by simp [within]) small]
      unfold Hub.noteFail
      rw [Hub.get_put_apart _ _ _ _ (by simp) (by simp), Hub.get_put_same _ _ _ (by simp)]
      rfl
    · rw [Hub.get_put_ne _ _ _ _ (by simp), Hub.get_put_apart _ _ _ _ (by simp) (by simp), closed _ _ (by simp [within]) small]
      unfold Hub.noteFail
      rw [Hub.get_put_ne _ _ _ _ (by simp), Hub.get_put_ne _ _ _ _ (by simp), Hub.get_put_ne _ _ _ _ (by simp)]
  clear_value g g1 g2
  rw [irq g2 _ (by simp [logReg]) (.inr (.inr (by simp))), irq g2 _ (by simp [logReg]) (.inl (by simp)),
    irq g2 _ (by simp [logReg]) (.inl (by simp)), irq g2 _ (by simp [logReg]) (.inr (.inr (by simp))),
    recorded.get R.GLB_RDY_OUTCOME (by simp [framed, logReg, evtReg]), recorded.get R.BOOT_FAIL_REASON
      (by simp [framed, logReg, evtReg]),
    recorded.get R.BOOT_FAIL_STAGE (by simp [framed, logReg, evtReg]), recorded.get R.GLB_RDY_READY
      (by simp [framed, logReg, evtReg])]
  exact noted

theorem Hub.enterStage_lbist (n : Nat) (h : Hub) : (h.enterStage n).on R.BOOT_PROFILE_LBIST = h.on R.BOOT_PROFILE_LBIST := by
  unfold Hub.on
  rw [Hub.enterStage_get n h (by simp [within]) (.inl (by simp)) (.inl (by simp)) (.inl (by simp))]

theorem Hub.scanLog_slots (h : Hub) : h.scanLog.yew.slots = h.yew.slots ∧ h.scanLog.yew.rollback = h.yew.rollback := by
  constructor <;>
  · unfold Hub.scanLog
    dsimp only
    rw [Hub.bump_yew]
    rfl

theorem stageS1_bootsTheFirst :
    ∀ (images : List (Bool × Nat)) (k : Nat) (s : State),
    (Instr.stageS1 images).wf = true →
    s.hub.mayEnter 1 = true →
    (s.hub.yew.slots.filter fun k => (images.getD k (false, 0)).1).find? (fun k => decide (s.hub.yew.rollback ≤ (images.getD k
      (false, 0)).2)) = some k →
    ∃ t, exec (.stageS1 images) s = .next t ∧ t.hub.stage = 1 ∧ t.hub.boot.slot = k ∧ t.hub.boot.version = (images.getD k
      (false, 0)).2 ∧
      t.hub.boot.done = true := by
  intro images k s hwf h1 h2
  refine ⟨_, (by unfold exec; exact State.act_next hwf _ _), ?_⟩
  dsimp only
  rw [Hub.runStage_enters h1]
  obtain ⟨slots, rollback⟩ := Hub.scanLog_slots (s.hub.enterStage 1)
  have stage : (s.hub.enterStage 1).scanLog.stage = (s.hub.enterStage 1).stage :=
    (Hub.alters_scanLog _).get R.GLB_RDY_STAGE (by simp [framed, logReg, evtReg])
  rw [Hub.enterStage_stage] at stage
  rw [← Hub.enterStage_yew 1, ← slots, ← rollback] at h2
  generalize (s.hub.enterStage 1).scanLog = h at *
  unfold Hub.bootImage
  dsimp only
  rw [h2]
  refine ⟨?_, rfl, rfl, rfl⟩
  exact (Hub.get_setReg_ne _ _ _ (by simp)).trans stage

theorem stageS1_withNoGood :
    ∀ (images : List (Bool × Nat)) (s : State),
    (Instr.stageS1 images).wf = true →
    s.hub.mayEnter 1 = true →
    (s.hub.yew.slots.filter fun k => (images.getD k (false, 0)).1) = [] →
    ∃ t, exec (.stageS1 images) s = .next t ∧ t.hub.get R.GLB_RDY_OUTCOME = 3 ∧ t.hub.get R.BOOT_FAIL_REASON = 2
      ∧ t.hub.ready = s.hub.ready := by
  intro images s hwf h1 h2
  refine ⟨_, (by unfold exec; exact State.act_next hwf _ _), ?_⟩
  dsimp only
  rw [Hub.runStage_enters h1]
  have scanned := Hub.alters_scanLog (s.hub.enterStage 1)
  have slots : (s.hub.enterStage 1).scanLog.yew.slots = s.hub.yew.slots := (Hub.scanLog_slots _).1
  have booting : (s.hub.enterStage 1).scanLog.booting = true := by
    have before := Hub.booting_of_mayEnter h1
    unfold Hub.booting at before ⊢
    rw [scanned.get R.GLB_RDY_OUTCOME (by simp [framed, logReg, evtReg])]
    exact before
  have ready : (s.hub.enterStage 1).scanLog.get R.GLB_RDY_READY = s.hub.get R.GLB_RDY_READY :=
    (scanned.get R.GLB_RDY_READY (by simp [framed, logReg, evtReg])).trans
      (Hub.enterStage_get 1 _ (by simp [within]) (.inr (.inr (by simp))) (.inl (by simp)) (.inl (by simp)))
  generalize (s.hub.enterStage 1).scanLog = h at *
  unfold Hub.bootImage
  dsimp only
  rw [slots, h2]
  obtain ⟨outcome, reason, -, kept⟩ := Hub.bootHalt_shows (h := h.onBoot fun b => { b with slot := 2 }) booting 0x02 0xFFF
  exact ⟨outcome, reason, congrArg (· != 0) (kept.trans ((Hub.onBoot_get ..).trans ready))⟩

/-- A domain's state, and whether it is to come on. -/
theorem Hub.askOn_want (m n : Nat) (h : Hub) (off : h.domState n = 0) :
    (h.askOn m).domState n = 0 ∧ ((m = n ∨ nget h.power.want n = 1) → nget (h.askOn m).power.want n = 1) := by
  have pending (g : Hub) : (g.showPending m).domState n = g.domState n := by
    unfold Hub.showPending Hub.domState
    by_cases same : m = n
    · exact same ▸ Hub.get_put_apart _ _ _ _ (by simp) (by simp)
    · exact Hub.get_put_ne _ _ _ _ (by simp; omega)
  have state (g : Hub) (w : Nat) : (g.setWant m w).domState n = g.domState n := pending _
  have want (g : Hub) (w : Nat) : (g.setWant m w).power.want = nset g.power.want m w := rfl
  have hold (g : Hub) (w : Nat) : (g.holdNi m w).power.want = g.power.want ∧ (g.holdNi m w).domState n = g.domState n :=
    ⟨rfl, rfl⟩
  unfold Hub.askOn
  by_cases same : m = n
  · subst same
    rw [if_pos off, state, want]
    exact ⟨off, fun _ => nget_nset_same ..⟩
  · split
    · rw [state, want, nget_nset_ne _ _ (Ne.symm same)]
      exact ⟨off, fun x => x.resolve_left same⟩
    · rw [(hold _ _).2, state, (hold _ _).1, want, nget_nset_ne _ _ (Ne.symm same)]
      exact ⟨off, fun x => x.resolve_left same⟩

theorem Hub.each_askOn_want (l : List Nat) (n : Nat) (h : Hub) (off : h.domState n = 0) (asked
  : n ∈ l ∨ nget h.power.want n = 1) :
    nget (Hub.each l Hub.askOn h).power.want n = 1 := by
  induction l generalizing h with
  | nil => exact asked.resolve_left (by simp)
  | cons m l ih =>
    obtain ⟨state, want⟩ := Hub.askOn_want m n h off
    refine ih (h.askOn m) state ?_
    rcases asked with mem | want'
    · exact (List.mem_cons.mp mem).elim (fun same => .inr (want (.inl same.symm))) .inl
    · exact .inr (want (.inr want'))

theorem Hub.lt_of_mem_s2Domains {h : Hub} {n : Nat} (mem : n ∈ h.s2Domains) : n < 74 := List.mem_range.mp
  (List.mem_of_mem_filter mem)

theorem Hub.enterStage_s2Domains (n : Nat) (h : Hub) : (h.enterStage n).s2Domains = h.s2Domains := by
  unfold Hub.s2Domains Hub.siteFit
  rw [Hub.enterStage_get n h (by simp [within]) (.inl (by simp)) (.inl (by simp)) (.inl (by simp))]

theorem stageS2_requestsTheDomains :
    ∀ (n : Nat) (s : State),
    s.hub.mayEnter 2 = true →
    n ∈ s.hub.s2Domains →
    s.hub.domState n = 0 →
    ∃ t, exec .stageS2 s = .next t ∧ t.hub.stage = 2 ∧ nget t.hub.power.want n = 1 := by
  intro n s h1 h2 h3
  refine ⟨_, (by unfold exec; exact State.act_next rfl _ _), ?_⟩
  dsimp only
  rw [Hub.runStage_enters h1, Hub.enterStage_s2Domains]
  have small : n < 74 := Hub.lt_of_mem_s2Domains h2
  have asked : Hub.Alters [.power] powerReg (s.hub.enterStage 2) (Hub.each s.hub.s2Domains Hub.askOn (s.hub.enterStage 2)) :=
    (self ..).each _ fun n hn k => Hub.alters_askOn n k (Hub.lt_of_mem_s2Domains hn)
  have off : (s.hub.enterStage 2).domState n = 0 :=
    (Hub.enterStage_get 2 _ (by simp [within]; omega) (.inl (by simp; omega)) (.inl (by simp; omega)) (.inl
      (by simp; omega))).trans h3
  exact ⟨(asked.get R.GLB_RDY_STAGE (by simp [framed, logReg, evtReg])).trans (Hub.enterStage_stage ..),
    Hub.each_askOn_want _ _ _ off (.inl h2)⟩

theorem stageS3_withoutLbist :
    ∀ (s : State),
    s.hub.mayEnter 3 = true →
    s.hub.on R.BOOT_PROFILE_LBIST = false →
    ∃ t, exec .stageS3 s = .next t ∧ t.hub.stage = 3 ∧ t.hub.boot.lbNext = 48 := by
  intro s h1 h2
  refine ⟨_, (by unfold exec; exact State.act_next rfl _ _), ?_⟩
  dsimp only
  rw [Hub.runStage_enters h1, if_neg (by rw [Hub.enterStage_lbist, h2]; decide)]
  exact ⟨(Hub.onBoot_get ..).trans (Hub.enterStage_stage ..), rfl⟩

theorem Hub.alters_sliceStep (k : Nat) (h : Hub) : Hub.Alters [.power] powerReg h (h.sliceStep k) := by
  unfold Hub.sliceStep Hub.addStep Hub.judgeSteps
  exact ((branch (self ..) ((self ..).set_power _)).set_power _).each _ fun st _ g => Hub.alters_judgeStep st g

theorem Hub.alters_progress (h : Hub) : Hub.Alters [] haltReg h h.progress := by
  unfold Hub.progress
  exact ((self ..).put _ (.inr (.inr (by simp [haltReg])))).drew

/-- The registers that the slices after slice `k` write. -/
abbrev sliceReg (k a : Nat) : Prop :=
  haltReg a ∨ within 0x40140 0x40148 a ∨ within 0x51000 0x51400 a ∨ a = 0xA00004 ∨ (0xA00100 + 4 * k < a ∧ a < 0xA00200)

theorem Hub.alters_sliceStart (k : Nat) (l : List Nat) (later : ∀ j ∈ l, k < j ∧ j < 48) (h : Hub) :
    Hub.Alters [.power, .boot] (sliceReg k) h (h.sliceStart l) := by
  induction l generalizing h with
  | nil =>
    unfold Hub.sliceStart Hub.slicesOver Hub.onBoot
    extract_lets g
    have ended : Hub.Alters [.power, .boot] (sliceReg k) h g := ((self ..).set_boot _).put _ (.inr (.inr (by simp [sliceReg])))
    clear_value g
    split
    · exact ended.trans ((Hub.alters_bootHalt ..).mono (by simp) fun _ x => .inr (.inr (.inl x)))
    · exact ended
  | cons j l ih =>
    obtain ⟨above, below⟩ := later j (List.mem_cons_self ..)
    unfold Hub.sliceStart
    refine branch ?_ ?_
    · exact ((self ..).put _ (.inr (.inr (by simp [sliceReg]; omega)))).trans (ih (fun j hj => later j
      (List.mem_cons_of_mem _ hj)) _)
    · unfold Hub.onBoot
      exact ((self ..).set_boot _).trans ((Hub.alters_sliceStep ..).mono (by simp) fun _ x => .inr (.inr (.inl (.inl x))))

theorem Hub.alters_sliceFails (k j : Nat) (small : k < 48) (h : Hub) : Hub.Alters [.power, .boot] (sliceReg j) h
  (h.sliceFails k) := by
  unfold Hub.sliceFails
  extract_lets g g1
  have counted : Hub.Alters [.power, .boot] (sliceReg j) h g1 :=
    branch (((self ..).bump _ (.inr (.inr (by simp [sliceReg])))).put _ (.inr (.inr (by simp [sliceReg, within]))))
      (((self ..).bump _ (.inr (.inr (by simp [sliceReg])))).put _ (.inr (.inr (by simp [sliceReg, within]))))
  clear_value g g1
  refine counted.each _ fun u hu g => ?_
  have unit : unitOff u.1 0 u.2 < 0x51400 ∧ 0x51000 ≤ unitOff u.1 0 u.2 := by
    have mem := List.mem_of_mem_filter hu
    unfold sliceUnits at mem
    unfold unitOff
    split_ifs at mem with tile engine
    · simp at mem
      simp [mem]
      omega
    · obtain ⟨i, hi, rfl⟩ := List.mem_map.mp mem
      have := List.mem_range.mp hi
      simp
      omega
    · exact absurd mem (by simp)
  unfold Hub.mergeDefect Hub.unitOut Hub.setState Hub.setCause Hub.setLogical
  exact branch ((((self ..).put _ (.inr (.inr (by simp [sliceReg, within]; omega)))).put _
    (.inr (.inr (by simp [sliceReg, within]; omega)))).put _ (.inr (.inr (by simp [sliceReg, within]; omega)))) (self ..)

/-- The end of a slice records its result and signature. -/
theorem Hub.sliceEnd_records {h : Hub} {k : Nat} (stage : h.stage = 3) (next : h.boot.lbNext = k) (small : k < 48)
    (booting : h.booting = true) (admitted : h.stepAdmitted 5 k = true) (result us sig : Nat) :
    (h.sliceEnd result us sig).get (R.TEST_LBIST_RESULT k) = result % 2 ^ 3 ∧
      (h.sliceEnd result us sig).get (R.TEST_LBIST_SIG_LO k) = sig % 2 ^ 32 := by
  unfold Hub.sliceEnd
  dsimp only
  rw [next, if_neg (by simp [stage, small, booting, admitted])]
  have recorded : ((((((h.dropStep 5 k).put (R.TEST_LBIST_RESULT k) result).put (R.TEST_LBIST_TIME_US k) 0).bump
    (R.TEST_LBIST_TIME_US k)
      us).put (R.TEST_LBIST_SIG_LO k) sig).put (R.TEST_LBIST_SIG_HI k) (sig / 2 ^ 32)).get
        (R.TEST_LBIST_RESULT k) = result % 2 ^ 3 := by
    rw [Hub.get_put_ne _ _ _ _ (by simp; omega), Hub.get_put_ne _ _ _ _ (by simp; omega),
      Hub.get_bump_of_apart (.inr (.inr (by simp))) (by simp), Hub.get_put_apart _ _ _ _ (by simp)
        (by simp), Hub.get_put_same _ _ _ (by simp)]
  have signed : ((((((h.dropStep 5 k).put (R.TEST_LBIST_RESULT k) result).put (R.TEST_LBIST_TIME_US k) 0).bump
    (R.TEST_LBIST_TIME_US k)
      us).put (R.TEST_LBIST_SIG_LO k) sig).put (R.TEST_LBIST_SIG_HI k) (sig / 2 ^ 32)).get
        (R.TEST_LBIST_SIG_LO k) = sig % 2 ^ 32 := by
    rw [Hub.get_put_ne _ _ _ _ (by simp), Hub.get_put_same _ _ _ (by simp)]
  generalize (((((h.dropStep 5 k).put (R.TEST_LBIST_RESULT k) result).put (R.TEST_LBIST_TIME_US k) 0).bump
    (R.TEST_LBIST_TIME_US k)
      us).put (R.TEST_LBIST_SIG_LO k) sig).put (R.TEST_LBIST_SIG_HI k) (sig / 2 ^ 32) = g at *
  have failed : Hub.Alters [.power, .boot] (sliceReg k) g (if result = 1 then g else g.sliceFails k) :=
    branch (self ..) (Hub.alters_sliceFails k k small g)
  generalize (if result = 1 then g else g.sliceFails k) = g1 at *
  have fell := failed.trans ((Hub.alters_knownFall (1000 * g1.boot.lbRise) g1).mono (by simp) fun _ x => .inr (.inr (.inl
    (.inl x))))
  generalize g1.knownFall (1000 * g1.boot.lbRise) = g2 at *
  have goes := fell.trans ((Hub.alters_progress g2).mono (by simp) fun _ x => .inr (.inr (.inl x)))
  generalize g2.progress = g3 at *
  have all := goes.trans (Hub.alters_sliceStart k ((List.range 48).drop (k + 1)) (fun j hj => by
    obtain ⟨i, hi, rfl⟩ := List.mem_iff_getElem.mp hj
    rw [List.getElem_drop, List.getElem_range]
    rw [List.length_drop, List.length_range] at hi
    omega) g3)
  rw [all.get (R.TEST_LBIST_RESULT k) (by simp [framed, logReg, evtReg, within]; omega),
    all.get (R.TEST_LBIST_SIG_LO k) (by simp [framed, logReg, evtReg, within]; omega)]
  exact ⟨recorded, signed⟩

theorem stageS3_withLbist :
    ∀ (s : State),
    s.hub.mayEnter 3 = true →
    s.hub.on R.BOOT_PROFILE_LBIST = true →
    s.hub.sliceSkipped 0 = false →
    ∃ t, exec .stageS3 s = .next t ∧ t.hub.stage = 3 ∧ t.hub.boot.lbNext = 0 ∧
      t.hub.boot.lbRise = min 38 (max 2 (s.hub.get R.PWR_COV_STEP - s.hub.get R.PWR_COV_STEP_GUARD)) := by
  intro s h1 h2 h3
  refine ⟨_, (by unfold exec; exact State.act_next rfl _ _), ?_⟩
  dsimp only
  rw [Hub.runStage_enters h1, if_pos (by rw [Hub.enterStage_lbist, h2])]
  have slices : List.range 48 = 0 :: (List.range 47).map Nat.succ := List.range_succ_eq_map
  have skipped : (s.hub.enterStage 3).takeBudget.sliceSkipped 0 = false := h3
  rw [slices, Hub.sliceStart, skipped, if_neg (by decide)]
  have stepped := Hub.alters_sliceStep 0 ((s.hub.enterStage 3).takeBudget.onBoot fun b => { b with lbNext := 0 })
  have boot := stepped.boot (by simp)
  rw [boot]
  refine ⟨(stepped.get R.GLB_RDY_STAGE (by simp [framed, logReg, evtReg])).trans ((Hub.onBoot_get ..).trans ?_), rfl, ?_⟩
  · unfold Hub.takeBudget
    exact (Hub.onBoot_get ..).trans (Hub.enterStage_stage ..)
  · change min 38 (max 2 ((s.hub.enterStage 3).get R.PWR_COV_STEP - (s.hub.enterStage 3).get R.PWR_COV_STEP_GUARD)) = _
    rw [Hub.enterStage_get 3 _ (by simp [within]) (.inl (by simp)) (.inl (by simp)) (.inl (by simp)),
      Hub.enterStage_get 3 _ (by simp [within]) (.inl (by simp)) (.inl (by simp)) (.inl (by simp))]

theorem lbistSliceEnd_inBudget :
    ∀ (us sig : Nat) (good : Bool) (k : Nat) (s : State),
    (Instr.lbistSliceEnd us sig good).wf = true →
    s.hub.stage = 3 →
    s.hub.boot.lbNext = k →
    k < 48 →
    s.hub.booting = true →
    s.hub.stepAdmitted 5 k = true →
    good = true →
    us ≤ s.hub.boot.lbBudget →
    ∃ t, exec (.lbistSliceEnd us sig good) s = .next t ∧ t.hub.get (R.TEST_LBIST_RESULT k) = 1 ∧ t.hub.get
      (R.TEST_LBIST_SIG_LO k) = sig % 2 ^ 32 := by
  intro us sig good k s hwf h1 h2 h3 h4 h5 h6 h7
  refine ⟨_, (by unfold exec; exact State.act_next hwf _ _), ?_⟩
  dsimp only
  rw [if_pos h7, h6]
  exact Hub.sliceEnd_records h1 h2 h3 h4 h5 1 us sig

theorem lbistSliceTimeout_records :
    ∀ (k : Nat) (s : State),
    s.hub.stage = 3 →
    s.hub.boot.lbNext = k →
    k < 48 →
    s.hub.booting = true →
    s.hub.stepAdmitted 5 k = true →
    ∃ t, exec .lbistSliceTimeout s = .next t ∧ t.hub.get (R.TEST_LBIST_RESULT k) = 3 ∧ t.hub.get (R.TEST_LBIST_SIG_LO k) = 0 := by
  intro k s h1 h2 h3 h4 h5
  refine ⟨_, (by unfold exec; exact State.act_next rfl _ _), ?_⟩
  exact Hub.sliceEnd_records h1 h2 h3 h4 h5 3 _ 0

theorem stageS4_withSixStacks :
    ∀ (present cap36 : Nat) (s : State),
    (Instr.stageS4 present cap36).wf = true →
    s.hub.mayEnter 4 = true →
    present = 63 →
    (cap36 = 0 ∨ cap36 = 63) →
    ∃ t, exec (.stageS4 present cap36) s = .next t ∧ t.hub.stage = 4 ∧ t.hub.get R.GLB_POP_STACK_CAP =
      (if cap36 = 63 then 2 else 1) := by
  intro present cap36 s hwf h1 h2 h3
  refine ⟨_, (by unfold exec; exact State.act_next hwf _ _), ?_⟩
  dsimp only
  rw [Hub.runStage_enters h1]
  unfold Hub.checkStacks
  subst h2
  dsimp only
  rw [if_neg (by decide), if_pos h3]
  refine ⟨(Hub.get_put_ne _ _ _ _ (by simp)).trans (Hub.enterStage_stage ..), ?_⟩
  rw [Hub.get_put_same _ _ _ (by simp)]
  split <;> rfl

theorem stackTrainingComplete_withCodeOne :
    ∀ (stack code chan rate lanes raaimt raammt pprGood : Nat) (s : State),
    (Instr.stackTrainingComplete stack code chan rate lanes raaimt raammt pprGood).wf = true →
    s.hub.stage = 4 →
    s.hub.booting = true →
    s.hub.boot.done = false →
    code = 1 →
    s.hub.boot.trained = [] →
    ∃ t, exec (.stackTrainingComplete stack code chan rate lanes raaimt raammt pprGood) s = .next t ∧ t.hub.get
      (R.MEM_TRAIN_CODE stack) = 1 ∧
      t.hub.get (R.MEM_STAT_LANES_REP stack) = lanes ∧ t.hub.get (R.MEM_STAT_RATE stack) = min rate (max 1 (s.hub.get
        (R.MEM_CFG_RATE_MAX stack))) := by
  intro stack code chan rate lanes raaimt raammt pprGood s hwf h1 h2 h3 h4 h5
  refine ⟨_, (by unfold exec; exact State.act_next hwf _ _), ?_⟩
  simp [Instr.wf, Ok.stackTrainingComplete] at hwf
  dsimp only
  have rest (f : RF) (hf : f.off ≠ 0x40000) : (s.hub.stackPassed stack rate lanes raaimt raammt).progress.get f =
      (((s.hub.put (R.MEM_TRAIN_CODE stack) 1).put (R.MEM_STAT_LANES_REP stack) lanes).put (R.MEM_STAT_RATE stack)
        (min rate (max 1 (s.hub.get (R.MEM_CFG_RATE_MAX stack))))).get f := by
    unfold Hub.progress Hub.stackPassed
    exact Hub.get_put_ne (Hub.onBoot _ _) _ _ _ hf
  have trained : (s.hub.stackPassed stack rate lanes raaimt raammt).progress.boot.trained =
      (stack, min rate (max 1 (s.hub.get (R.MEM_CFG_RATE_MAX stack)))) :: s.hub.boot.trained.filter fun e => e.1 != stack := rfl
  rw [if_neg (by simp [h1, h2, h3]), if_pos h4, if_neg (by rw [trained, h5]; simp), rest _ (by simp; omega), rest _
    (by simp; omega),
    rest _ (by simp; omega), Hub.get_put_ne _ _ _ _ (by simp), Hub.get_put_ne _ _ _ _ (by simp), Hub.get_put_same _ _ _ (by simp),
    Hub.get_put_apart _ _ _ _ (by simp) (by simp), Hub.get_put_same _ _ _ (by simp), Hub.get_put_same _ _ _ (by simp)]
  refine ⟨rfl, Nat.mod_eq_of_lt (by simp; omega), Nat.mod_eq_of_lt ?_⟩
  have : rate < 2 ^ 4 := by omega
  exact Nat.lt_of_le_of_lt (Nat.min_le_left ..) this

theorem stackTrainingComplete_withAnotherCode :
    ∀ (stack code chan rate lanes raaimt raammt pprGood : Nat) (s : State),
    (Instr.stackTrainingComplete stack code chan rate lanes raaimt raammt pprGood).wf = true →
    s.hub.stage = 4 →
    s.hub.booting = true →
    s.hub.boot.done = false →
    code ≠ 1 →
    ∃ t, exec (.stackTrainingComplete stack code chan rate lanes raaimt raammt pprGood) s = .next t ∧ t.hub.get
      (R.MEM_TRAIN_CODE stack) = code ∧
      t.hub.get R.GLB_RDY_OUTCOME = 3 := by
  intro stack code chan rate lanes raaimt raammt pprGood s hwf h1 h2 h3 h4
  refine ⟨_, (by unfold exec; exact State.act_next hwf _ _), ?_⟩
  simp [Instr.wf, Ok.stackTrainingComplete] at hwf
  dsimp only
  rw [if_neg (by simp [h1, h2, h3]), if_neg h4]
  have booting : (((s.hub.put (R.MEM_TRAIN_CODE stack) code).put (R.MEM_TRAIN_CHAN stack) chan).put (R.MEM_STAT_LANES_REP stack)
      lanes).booting = true := by
    unfold Hub.booting at h2 ⊢
    rw [Hub.get_put_ne _ _ _ _ (by simp; omega), Hub.get_put_ne _ _ _ _ (by simp; omega), Hub.get_put_ne _ _ _ _ (by simp; omega)]
    exact h2
  refine ⟨?_, (Hub.bootHalt_shows booting ..).1⟩
  rw [(Hub.alters_bootHalt ..).get (R.MEM_TRAIN_CODE stack) (by simp [framed, logReg, evtReg, within]; omega),
    Hub.get_put_ne _ _ _ _ (by simp), Hub.get_put_apart _ _ _ _ (by simp) (by simp), Hub.get_put_same _ _ _ (by simp)]
  exact Nat.mod_eq_of_lt (by simp; omega)

/-- What putting the other sites in discovery leaves of site `k`. -/
structure Hub.SettlesOthers (k : Nat) (h g : Hub) : Prop where
  phase : g.get (R.YDL_DISC_PHASE k) = h.get (R.YDL_DISC_PHASE k)
  state : g.get (R.YDL_STAT_STATE k) = h.get (R.YDL_STAT_STATE k)
  fit : g.siteFit k = h.siteFit k
  out : g.siteOut k = h.siteOut k
  stage : g.stage = h.stage

theorem Hub.SettlesOthers.refl (k : Nat) (h : Hub) : Hub.SettlesOthers k h h := ⟨rfl, rfl, rfl, rfl, rfl⟩

theorem Hub.SettlesOthers.trans (k : Nat) (a b c : Hub) (x : Hub.SettlesOthers k a b) (y : Hub.SettlesOthers k b c) :
    Hub.SettlesOthers k a c :=
  ⟨y.phase.trans x.phase, y.state.trans x.state, y.fit.trans x.fit, y.out.trans x.out, y.stage.trans x.stage⟩

/-- Site `j` goes to discovery where it is fitted and not barred. -/
def Hub.discover (j : Nat) (h : Hub) : Hub :=
  if h.siteFit j ∧ ¬ h.siteOut j then (h.put (R.YDL_DISC_PHASE j) 1).put (R.YDL_STAT_STATE j) 1 else h

theorem Hub.discover_stage (j : Nat) (h : Hub) : (h.discover j).stage = h.stage := by
  unfold Hub.discover Hub.stage
  split
  · rw [Hub.get_put_ne _ _ _ _ (by simp; omega), Hub.get_put_ne _ _ _ _ (by simp; omega)]
  · rfl

theorem Hub.discover_others {j k : Nat} (other : j ≠ k) (h : Hub) : Hub.SettlesOthers k h (h.discover j) := by
  refine ⟨?_, ?_, ?_, ?_, Hub.discover_stage j h⟩ <;> unfold Hub.discover <;> split
  · rw [Hub.get_put_ne _ _ _ _ (by simp; omega), Hub.get_put_ne _ _ _ _ (by simp; omega)]
  · rfl
  · rw [Hub.get_put_ne _ _ _ _ (by simp; omega), Hub.get_put_ne _ _ _ _ (by simp; omega)]
  · rfl
  · unfold Hub.siteFit
    rw [Hub.get_put_ne _ _ _ _ (by simp; omega), Hub.get_put_ne _ _ _ _ (by simp; omega)]
  · rfl
  · rfl
  · rfl

theorem stageS5_putsEachFitted :
    ∀ (k : Nat) (s : State),
    s.hub.mayEnter 5 = true →
    k < 4 →
    s.hub.siteFit k = true →
    s.hub.siteOut k = false →
    ∃ t, exec .stageS5 s = .next t ∧ t.hub.stage = 5 ∧ t.hub.get (R.YDL_DISC_PHASE k) = 1 ∧ t.hub.get
      (R.YDL_STAT_STATE k) = 1 := by
  intro k s h1 h2 h3 h4
  refine ⟨_, (by unfold exec; exact State.act_next rfl _ _), ?_⟩
  dsimp only
  rw [Hub.runStage_enters h1]
  have fit : (s.hub.enterStage 5).siteFit k = true := by
    unfold Hub.siteFit at h3 ⊢
    rw [Hub.enterStage_get 5 _ (by simp [within]) (.inl (by simp)) (.inl (by simp)) (.inl (by simp))]
    exact h3
  have stage := Hub.enterStage_stage 5 s.hub
  have out : (s.hub.enterStage 5).siteOut k = false := h4
  generalize s.hub.enterStage 5 = h at *
  obtain ⟨g, before, after⟩ := Hub.upto_around (f := Hub.discover) (Hub.SettlesOthers.refl k) (Hub.SettlesOthers.trans k) h2
    (fun j _ other g => Hub.discover_others other g) h
  have found : g.discover k = (g.put (R.YDL_DISC_PHASE k) 1).put (R.YDL_STAT_STATE k) 1 :=
    if_pos ⟨before.fit.trans fit, by rw [before.out, out]; decide⟩
  refine ⟨after.stage.trans ((Hub.discover_stage ..).trans
    (before.stage.trans stage)), after.phase.trans ?_, after.state.trans ?_⟩
  · rw [found, Hub.get_put_ne _ _ _ _ (by simp), Hub.get_put_same _ _ _ (by simp)]
    rfl
  · rw [found, Hub.get_put_same _ _ _ (by simp)]
    rfl

theorem stageLimitExpiry_ofS1 :
    ∀ (s : State),
    s.hub.booting = true →
    s.hub.stageDone = false →
    s.hub.pins.d0Reset = false →
    s.hub.boot.pend = 0 →
    s.hub.stage = 1 →
    s.hub.on R.PWR_HOLD_READY = false →
    ∃ t, exec .stageLimitExpiry s = .next t ∧ t.hub.get R.GLB_RDY_OUTCOME = 3 ∧ t.hub.get R.BOOT_FAIL_REASON = 4
      ∧ t.hub.get R.BOOT_FAIL_STAGE = 1 := by
  intro s h1 h2 h3 h4 h5 h6
  refine ⟨_, (by unfold exec; exact State.actMem_next rfl _ _), ?_⟩
  unfold Chip.stageLimit
  dsimp only
  rw [if_neg (by simp [h1, h2, h3, h4]), if_neg (by omega), if_pos ⟨h5, by rw [h6]; decide⟩]
  obtain ⟨outcome, reason, stage, -⟩ := Hub.bootHalt_shows h1 0x04 0xFFF
  exact ⟨outcome, reason, stage.trans (by rw [h5])⟩

/-- Settles O23: one lemma per clause; a stage's own work follows what its start leaves, `Hub.enterStage_get`. -/
theorem earlyStagesRun : Obligations.EarlyStagesRun := by
  unfold Obligations.EarlyStagesRun
  exact ⟨stageS1_bootsTheFirst, stageS1_withNoGood, stageS2_requestsTheDomains, stageS3_withoutLbist, stageS3_withLbist,
    lbistSliceEnd_inBudget, lbistSliceTimeout_records, stageS4_withSixStacks, stackTrainingComplete_withCodeOne,
    stackTrainingComplete_withAnotherCode, stageS5_putsEachFitted, stageLimitExpiry_ofS1⟩

end Sys2Proof.Machine
end

section
/-!
### Clean DRAM

Where no sector of the DRAM holds an error and the flip mask is not armed, a read answers the stored bytes and a write stores exactly
its own; both alter the channels' registers and queues only.
-/
namespace Sys2Proof.Machine

set_option Elab.async false
open Hub.Alters

/-- The registers of the memory channels. -/
abbrev channelReg (a : Nat) : Prop := within 0x300000 0x400000 a

/-- No sector of the DRAM holds an error. -/
def Mem.CleanDram (m : Mem) : Prop := ∀ k, nget m.dramErr k = 0

theorem Mem.cleanDram_of_nil {m : Mem} (none : m.dramErr = []) : m.CleanDram := fun _ => by rw [none]; rfl

theorem Mem.CleanDram.err {m : Mem} (clean : m.CleanDram) (base : Nat) : m.err 0 base = 0 := clean _

theorem Mem.CleanDram.setBytes {m : Mem} (clean : m.CleanDram) (sp a : Nat) (bs : List Byte) : (m.setBytes sp a bs).CleanDram := by
  have kept (l : List (Byte × Nat)) (n : Mem) : (l.foldl (fun m' e => m'.setByte sp (a + e.2) e.1) n).dramErr = n.dramErr := by
    induction l generalizing n with
    | nil => rfl
    | cons e l ih =>
      refine (ih _).trans ?_
      unfold Mem.setByte
      split <;> rfl
  intro k
  unfold Mem.setBytes
  rw [kept]
  exact clean k

theorem Mem.CleanDram.setErr {m : Mem} (clean : m.CleanDram) (base : Nat) : (m.setErr 0 base 0).CleanDram := by
  intro k
  change nget (nset m.dramErr _ 0) k = 0
  by_cases same : k = base / cwBytes 0
  · rw [same, nget_nset_same]
  · rw [nget_nset_ne _ _ same]
    exact clean k

/-- The bytes a store leaves in its space. -/
theorem Mem.byte_setBytes (m : Mem) (sp a k : Nat) (bs : List Byte) :
    (m.setBytes sp a bs).byte sp k = if a ≤ k ∧ k < a + bs.length then bs.getD (k - a) 0 else m.byte sp k := by
  have key (n : Nat) (m : Mem) : ((bs.zipIdx n).foldl (fun m' e => m'.setByte sp (a + e.2) e.1) m).byte sp k =
      if a + n ≤ k ∧ k < a + n + bs.length then bs.getD (k - a - n) 0 else m.byte sp k := by
    induction bs generalizing n m with
    | nil =>
      rw [if_neg (by simp)]
      rfl
    | cons b bs ih =>
      rw [List.zipIdx_cons, List.foldl_cons, ih, Mem.byte_setByte]
      by_cases first : k = a + n
      · rw [if_neg (by omega), if_pos first, if_pos (by simp; omega), show k - a - n = 0 by omega]
        rfl
      · rw [if_neg first]
        by_cases inside : a + (n + 1) ≤ k ∧ k < a + (n + 1) + bs.length
        · rw [if_pos inside, if_pos (by simp; omega), show k - a - n = k - a - (n + 1) + 1 by omega]
          rfl
        · rw [if_neg inside, if_neg (by simp; omega)]
  exact key 0 m

theorem Mem.byte_setBytes_other (m : Mem) (sp s a k : Nat) (bs : List Byte) (other : ¬ (sp = 0 ↔ s = 0)) :
    (m.setBytes sp a bs).byte s k = m.byte s k := by
  unfold Mem.setBytes
  generalize bs.zipIdx = l
  induction l generalizing m with
  | nil => rfl
  | cons e l ih => exact (ih _).trans (Mem.byte_setByte_other _ _ _ _ _ _ other)

theorem Mem.length_bytes (m : Mem) (sp a n : Nat) : (m.bytes sp a n).length = n := by simp [Mem.bytes]

theorem Mem.bytes_append (m : Mem) (sp a n k : Nat) : m.bytes sp a (n + k) = m.bytes sp a n ++ m.bytes sp (a + n) k := by
  simp [Mem.bytes, List.range_add, Function.comp_def, Nat.add_assoc]

theorem Mem.bytes_slice (m : Mem) {sp b d n l : Nat} (inside : d + n ≤ l) : ((m.bytes sp b l).drop d).take n = m.bytes sp (b + d) n := by
  refine List.ext_getElem (by simp [Mem.bytes]; omega) fun i hi hj => ?_
  simp [Mem.bytes, Nat.add_assoc]

/-- `g` is `h` but for the channels' registers and queues. -/
structure Hub.Channels (h g : Hub) : Prop where
  same : g = { h with regs := g.regs, memch := g.memch }
  reg : ∀ a, ¬ channelReg a → g.reg a = h.reg a

namespace Hub.Channels

theorem refl (h : Hub) : Hub.Channels h h := ⟨rfl, fun _ _ => rfl⟩

theorem trans {h g k : Hub} (x : Hub.Channels h g) (y : Hub.Channels g k) : Hub.Channels h k := by
  obtain ⟨sameX, regX⟩ := x
  obtain ⟨sameY, regY⟩ := y
  refine ⟨?_, fun a ha => (regY a ha).trans (regX a ha)⟩
  rw [sameY, sameX]

theorem get {h g : Hub} (x : Hub.Channels h g) (f : RF) (outside : ¬ channelReg f.off) : g.get f = h.get f := by
  unfold Hub.get
  rw [x.reg _ outside]

theorem on {h g : Hub} (x : Hub.Channels h g) (f : RF) (outside : ¬ channelReg f.off) : g.on f = h.on f := by
  unfold Hub.on
  rw [x.get f outside]

theorem memch {h g : Hub} (x : Hub.Channels h g) (m : MemChS) : Hub.Channels h { g with memch := m } := by
  obtain ⟨same, reg⟩ := x
  refine ⟨?_, reg⟩
  rw [same]

theorem setReg {h g : Hub} (x : Hub.Channels h g) {a : Nat} (w : Word) (inside : channelReg a) : Hub.Channels h (g.setReg a w) := by
  obtain ⟨same, reg⟩ := x
  refine ⟨?_, fun b hb => (Hub.reg_setReg_ne g w fun e => hb (by rw [e]; exact inside)).trans (reg b hb)⟩
  rw [same]
  rfl

theorem put {h g : Hub} (x : Hub.Channels h g) (f : RF) (v : Nat) (inside : channelReg f.off) : Hub.Channels h (g.put f v) :=
  x.setReg _ inside

theorem upto {h g : Hub} (x : Hub.Channels h g) (n : Nat) (f : Nat → Hub → Hub) (step : ∀ i k, Hub.Channels k (f i k)) :
    Hub.Channels h (g.upto n f) :=
  x.trans (Hub.upto_rel (Rel := Hub.Channels) refl (fun _ _ _ => trans) (fun i _ k => step i k) g)

end Hub.Channels

theorem Hub.channels_countBytes (write : Bool) (sp base : Nat) (h : Hub) : Hub.Channels h (h.countBytes write sp base) := by
  have stack := dramPc_lt base
  have add (g : Hub) {lo hi : Nat} (n : Nat) (hl : channelReg lo) (hh : channelReg hi) : Hub.Channels g (g.add64 lo hi n) :=
    ((Hub.Channels.refl g).setReg _ hl).setReg _ hh
  unfold Hub.countBytes dramDecode
  dsimp only
  split
  · split
    · exact add _ _ (by simp only [channelReg, within]; omega) (by simp only [channelReg, within]; omega)
    · exact add _ _ (by simp only [channelReg, within]; omega) (by simp only [channelReg, within]; omega)
  · exact .refl h

theorem Hub.channels_enter (q : MemReq) (h : Hub) : Hub.Channels h (h.enter q) := by
  have hp := dramPc_lt q.addr
  have queued (g : Hub) (l : List MemReq) : Hub.Channels g (g.setQueue (dramPc q.addr) l) := by
    unfold Hub.setQueue
    exact ((((Hub.Channels.refl g).memch _).put _ _ (by simp only [channelReg, within]; omega)).put _ _ (by simp only [channelReg, within]; omega))
  unfold Hub.enter
  dsimp only
  split
  · exact ((Hub.Channels.refl h).memch _).trans (queued ..)
  · exact queued ..

theorem Hub.channels_enqueue (write : Bool) (req m sp a n : Nat) (h : Hub) : Hub.Channels h (h.enqueue write req m sp a n) := by
  unfold Hub.enqueue
  split
  · refine (Hub.Channels.refl h).upto _ _ fun i g => ?_
    unfold Hub.request
    dsimp only
    split
    · exact Hub.channels_enter ..
    · split
      · exact ((Hub.Channels.refl g).memch _).trans (Hub.channels_enter ..)
      · exact (Hub.Channels.refl g).memch _
  · exact .refl h

/-- A read of a clean sector. -/
theorem Chip.readCw_clean {c : Chip} (clean : c.mem.CleanDram) (req : Nat) (latent : Bool) (base : Nat) :
    c.readCw req latent 0 base = { data := c.mem.bytes 0 base 32, bad := false, chip := ⟨c.hub.countBytes false 0 base, c.mem⟩ } := by
  have class0 : errClass 0 (c.mem.err 0 base) = 0 := by
    rw [clean.err]
    rfl
  unfold Chip.readCw
  dsimp only
  rw [class0]
  rfl

theorem Chip.readCws_clean {c : Chip} (clean : c.mem.CleanDram) (req k base : Nat) :
    (c.readCws req 0 k base).data = c.mem.bytes 0 base (32 * k) ∧ (c.readCws req 0 k base).bad = false ∧
      (c.readCws req 0 k base).chip.mem = c.mem ∧ Hub.Channels c.hub (c.readCws req 0 k base).chip.hub := by
  induction k generalizing base c with
  | zero => exact ⟨rfl, rfl, rfl, .refl _⟩
  | succ k ih =>
    obtain ⟨data, bad, mem, hub⟩ := ih (c := ⟨c.hub.countBytes false 0 base, c.mem⟩) clean (base + cwBytes 0)
    unfold Chip.readCws
    rw [Chip.readCw_clean clean]
    dsimp only
    rw [if_neg (by decide), data]
    refine ⟨?_, bad, mem, (Hub.channels_countBytes false 0 base c.hub).trans hub⟩
    change c.mem.bytes 0 base 32 ++ c.mem.bytes 0 (base + 32) (32 * k) = _
    rw [← Mem.bytes_append]
    congr 1
    omega

/-- A read of clean DRAM answers the stored bytes. -/
theorem Chip.read_clean {c : Chip} (clean : c.mem.CleanDram) (req a n : Nat) :
    (c.read req 0 a n).data = c.mem.bytes 0 a n ∧ (c.read req 0 a n).bad = false ∧ (c.read req 0 a n).chip.mem = c.mem ∧
      Hub.Channels c.hub (c.read req 0 a n).chip.hub := by
  unfold Chip.read
  split
  · next none => exact ⟨by rw [none]; rfl, rfl, rfl, .refl _⟩
  · next some =>
    obtain ⟨data, bad, mem, hub⟩ := Chip.readCws_clean (c := ⟨c.hub.enqueue false req (masterOf req) 0 a n, c.mem⟩) clean req
      ((a + n - 1) / 32 - a / 32 + 1) (a / 32 * 32)
    dsimp only
    change (if (Chip.readCws req 0 ((a + n - 1) / 32 - a / 32 + 1) (a / 32 * 32) _).bad = true then _ else _) = _ ∧ _
    rw [if_neg (by rw [bad]; decide)]
    refine ⟨?_, bad, mem, (Hub.channels_enqueue ..).trans hub⟩
    change ((Chip.readCws req 0 ((a + n - 1) / 32 - a / 32 + 1) (a / 32 * 32) _).data.drop (a - a / 32 * 32)).take n = _
    rw [data, Mem.bytes_slice _ (by omega)]
    congr 1
    omega

/-- What stands at DRAM address `x` after the stores `ps`, where `b` stood. -/
def written : List (Nat × List Byte) → Nat → Byte → Byte
  | [], _, b => b
  | p :: ps, x, b => written ps x (if p.1 ≤ x ∧ x < p.1 + p.2.length then p.2.getD (x - p.1) 0 else b)

/-- A store that wrote exactly `ps` to clean DRAM. -/
structure Chip.WroteClean (c : Chip) (w : Wr) (ps : List (Nat × List Byte)) : Prop where
  bad : w.bad = false
  clean : w.chip.mem.CleanDram
  bytes : ∀ x, w.chip.mem.byte 0 x = written ps x (c.mem.byte 0 x)
  other : ∀ sp x, sp ≠ 0 → w.chip.mem.byte sp x = c.mem.byte sp x
  hub : Hub.Channels c.hub w.chip.hub

/-- A store within one clean sector. -/
theorem Chip.writeCw_clean {c : Chip} (clean : c.mem.CleanDram) (req base at_ : Nat) (bs : List Byte) :
    Chip.WroteClean c (c.writeCw req 0 base at_ bs) [(base + at_, bs)] := by
  have class0 : errClass 0 (c.mem.err 0 base) = 0 := by
    rw [clean.err]
    rfl
  have stored (x : Nat) : (c.mem.setBytes 0 (base + at_) bs).byte 0 x = written [(base + at_, bs)] x (c.mem.byte 0 x) :=
    Mem.byte_setBytes ..
  have others (sp x : Nat) (other : sp ≠ 0) : (c.mem.setBytes 0 (base + at_) bs).byte sp x = c.mem.byte sp x :=
    Mem.byte_setBytes_other _ _ _ _ _ _ (by simp [other])
  unfold Chip.writeCw
  dsimp only
  rw [class0]
  split
  · exact ⟨rfl, Mem.CleanDram.setErr (clean.setBytes _ _ _) base, fun x => (Mem.byte_setErr ..).trans (stored x),
      fun sp x o => (Mem.byte_setErr ..).trans (others sp x o), Hub.channels_countBytes true 0 base c.hub⟩
  · exact ⟨rfl, clean.setBytes _ _ _, stored, others, Hub.channels_countBytes true 0 base c.hub⟩

/-- A store in two parts, the second from where the first ends. -/
theorem written_append (a n x : Nat) (bs : List Byte) (b : Byte) :
    written [(a, bs.take n), (a + n, bs.drop n)] x b = written [(a, bs)] x b := by
  unfold written written written
  simp only [List.length_take, List.length_drop]
  by_cases late : a + n ≤ x
  · by_cases inside : x < a + bs.length
    · rw [if_pos (by omega), if_pos (by omega), List.getD_eq_getElem _ _ (by simp; omega), List.getD_eq_getElem _ _ (by omega), List.getElem_drop]
      congr 1
      omega
    · rw [if_neg (by omega), if_neg (by omega), if_neg (by omega)]
  · rw [if_neg (by omega)]
    by_cases inside : a ≤ x ∧ x < a + bs.length
    · rw [if_pos (by omega), if_pos (by omega), List.getD_eq_getElem _ _ (by simp; omega), List.getD_eq_getElem _ _ (by omega), List.getElem_take]
    · rw [if_neg (by omega), if_neg (by omega)]

theorem Chip.writeCws_succ (req k a : Nat) (bs : List Byte) (c : Chip) :
    c.writeCws req 0 (k + 1) a bs =
      ⟨(c.writeCw req 0 (a / 32 * 32) (a - a / 32 * 32) (bs.take (a / 32 * 32 + 32 - a))).bad ||
        (Chip.writeCws req 0 k (a / 32 * 32 + 32) (bs.drop (a / 32 * 32 + 32 - a))
          (c.writeCw req 0 (a / 32 * 32) (a - a / 32 * 32) (bs.take (a / 32 * 32 + 32 - a))).chip).bad,
        (Chip.writeCws req 0 k (a / 32 * 32 + 32) (bs.drop (a / 32 * 32 + 32 - a))
          (c.writeCw req 0 (a / 32 * 32) (a - a / 32 * 32) (bs.take (a / 32 * 32 + 32 - a))).chip).chip⟩ := rfl

theorem Chip.writeCws_clean {c : Chip} (clean : c.mem.CleanDram) (req k a : Nat) (bs : List Byte)
    (room : a + bs.length ≤ (a / 32 + k) * 32) : Chip.WroteClean c (c.writeCws req 0 k a bs) [(a, bs)] := by
  induction k generalizing a bs c with
  | zero =>
    have none : bs = [] := List.eq_nil_of_length_eq_zero (by omega)
    subst none
    exact ⟨rfl, clean, fun x => by simp [written, Chip.writeCws], fun _ _ _ => rfl, .refl _⟩
  | succ k ih =>
    have first := Chip.writeCw_clean clean req (a / 32 * 32) (a - a / 32 * 32) (bs.take (a / 32 * 32 + 32 - a))
    have rest := ih first.clean (a / 32 * 32 + 32) (bs.drop (a / 32 * 32 + 32 - a)) (by rw [List.length_drop]; omega)
    rw [Chip.writeCws_succ]
    refine ⟨?_, rest.clean, fun x => (rest.bytes x).trans ?_, fun sp x o => (rest.other sp x o).trans (first.other sp x o),
      first.hub.trans rest.hub⟩
    · dsimp only
      rw [first.bad, rest.bad]
      rfl
    · rw [first.bytes, ← written_append a (a / 32 * 32 + 32 - a), show a / 32 * 32 + (a - a / 32 * 32) = a by omega,
        show a / 32 * 32 + 32 = a + (a / 32 * 32 + 32 - a) by omega, Nat.add_sub_cancel_left]
      rfl

/-- With the flip mask not armed, a write stores exactly its bytes. -/
theorem Chip.writeAs_clean {c : Chip} (clean : c.mem.CleanDram) (calm : c.hub.on R.RAS_FLIP_CTRL_ARM = false) (m req a : Nat)
    (bs : List Byte) : Chip.WroteClean c (c.writeAs m req 0 a bs) [(a, bs)] := by
  unfold Chip.writeAs
  split
  · next none =>
    subst none
    exact ⟨rfl, clean, fun x => by simp [written], fun _ _ _ => rfl, .refl _⟩
  · next some =>
    have length : bs.length ≠ 0 := fun zero => some (List.eq_nil_of_length_eq_zero zero)
    have hits : c.hub.flipHits 0 a bs.length = [] := by
      unfold Hub.flipHits
      dsimp only
      rw [calm, if_neg (by simp)]
    have stored := Chip.writeCws_clean (c := ⟨c.hub.enqueue true req m 0 a bs.length, c.mem⟩) clean req
      ((a + bs.length - 1) / 32 - a / 32 + 1) a bs (by omega)
    dsimp only
    rw [hits]
    exact ⟨stored.bad, stored.clean, stored.bytes, stored.other, (Hub.channels_enqueue ..).trans stored.hub⟩

theorem Chip.writePiecesAs_clean {c : Chip} (clean : c.mem.CleanDram) (calm : c.hub.on R.RAS_FLIP_CTRL_ARM = false) (m req : Nat)
    (ps : List (Nat × List Byte)) : Chip.WroteClean c (c.writePiecesAs m req 0 ps) ps := by
  induction ps generalizing c with
  | nil => exact ⟨rfl, clean, fun _ => rfl, fun _ _ _ => rfl, .refl _⟩
  | cons p ps ih =>
    have first := Chip.writeAs_clean clean calm m req p.1 p.2
    have rest := ih first.clean ((first.hub.on R.RAS_FLIP_CTRL_ARM (by simp)).trans calm)
    unfold Chip.writePiecesAs
    refine ⟨?_, rest.clean, fun x => (rest.bytes x).trans ?_, fun sp x o => (rest.other sp x o).trans (first.other sp x o),
      first.hub.trans rest.hub⟩
    · dsimp only
      rw [first.bad, rest.bad]
      rfl
    · rw [first.bytes]
      rfl

theorem Chip.writePieces_clean {c : Chip} (clean : c.mem.CleanDram) (calm : c.hub.on R.RAS_FLIP_CTRL_ARM = false) (req : Nat)
    (ps : List (Nat × List Byte)) : Chip.WroteClean c (c.writePieces req 0 ps) ps :=
  Chip.writePiecesAs_clean clean calm (masterOf req) req ps

end Sys2Proof.Machine
end

section
/-!
### Reads, writes and credits of sites
-/
namespace Sys2Proof.Machine

set_option Elab.async false
open Hub.Alters

theorem Hub.alters_showQuery (h : Hub) : Hub.Alters [] (within 0x200300 0x200400) h h.showQuery := by
  unfold Hub.showQuery
  refine branch (self ..) ?_
  dsimp only
  split
  · exact ((self ..).setReg _).put _
  · exact (((((((self ..).put _).put _).put _).put _).put _).put _)

/-- `g` follows `h` with messages sent, and the first pool's owed credits of site `s` as they were. A watch that stands at no
watch's place can clear the top bit of the word that counts them, and no count within a grant has it. -/
structure Hub.Owes (s : Nat) (h g : Hub) : Prop where
  sent : ∃ l, g.out = l ++ h.out
  owed : h.get (R.YDL_CREDIT_OWED s 0) < 2 ^ 15 → g.get (R.YDL_CREDIT_OWED s 0) = h.get (R.YDL_CREDIT_OWED s 0)

namespace Hub.Owes

theorem refl (s : Nat) (h : Hub) : Hub.Owes s h h := ⟨⟨[], rfl⟩, fun _ => rfl⟩

theorem trans {s : Nat} {h g k : Hub} (x : Hub.Owes s h g) (y : Hub.Owes s g k) : Hub.Owes s h k := by
  obtain ⟨⟨l, hl⟩, owedX⟩ := x
  obtain ⟨⟨m, hm⟩, owedY⟩ := y
  exact ⟨⟨m ++ l, by rw [hm, hl, List.append_assoc]⟩, fun small => (owedY (by rw [owedX small]; exact small)).trans (owedX small)⟩

theorem of_alters {s : Nat} {P : List Part} {W : Nat → Prop} {h g : Hub} (x : Hub.Alters P W h g)
    (outside : ¬ framed W (R.YDL_CREDIT_OWED s 0).off) : Hub.Owes s h g := ⟨x.sent, fun _ => x.get _ outside⟩

theorem mem {s : Nat} {h g : Hub} (x : Hub.Owes s h g) {o : Out} (before : o ∈ h.out) : o ∈ g.out := by
  obtain ⟨l, hl⟩ := x.sent
  rw [hl]
  exact List.mem_append_right _ before

theorem put {s : Nat} {h g : Hub} (x : Hub.Owes s h g) (f : RF) (v : Nat) (apart : RF.apart f (R.YDL_CREDIT_OWED s 0))
    (inside : f.lo + f.width ≤ 32 := by simp) : Hub.Owes s h (g.put f v) :=
  x.trans ⟨⟨[], rfl⟩, fun _ => Hub.get_put_of_apart apart inside _ _⟩

theorem part {s : Nat} {h g k : Hub} (x : Hub.Owes s h g) (out : k.out = g.out) (regs : k.regs = g.regs) : Hub.Owes s h k :=
  x.trans ⟨⟨[], out⟩, fun _ => Hub.get_congr regs _⟩

theorem send {s : Nat} {h g : Hub} (x : Hub.Owes s h g) (o : Out) : Hub.Owes s h (g.send o) :=
  x.trans ⟨⟨[o], rfl⟩, fun _ => rfl⟩

theorem onSite {s : Nat} {h g : Hub} (x : Hub.Owes s h g) (k : Nat) (f : SiteS → SiteS) : Hub.Owes s h
  (g.onSite k f) := x.part rfl rfl

theorem each {α : Type} {s : Nat} {h g : Hub} (x : Hub.Owes s h g) (l : List α) (f : α → Hub → Hub)
    (step : ∀ a k, Hub.Owes s k (f a k)) : Hub.Owes s h (Hub.each l f g) :=
  x.trans (Hub.each_rel (Rel := Hub.Owes s) (refl s) (fun _ _ _ => trans) (fun a _ k => step a k) g)

theorem pumpList {s : Nat} (k : Nat) (l : List TxFlit) (h : Hub) : Hub.Owes s h (h.pumpList k l) := by
  induction l generalizing h with
  | nil => exact (refl s h).onSite ..
  | cons f fs ih =>
    unfold Hub.pumpList
    split
    · exact (refl s h).onSite ..
    · exact ((((refl s h).onSite ..).put (R.YDL_SFN_TX_SFN k) _ (.inl (by simp; omega))).send _).trans (ih _)

theorem txFlit {s : Nat} (k type : Nat) (b : List Byte) (h : Hub) : Hub.Owes s h (h.txFlit k type b) := by
  unfold Hub.txFlit Hub.pump
  exact ((refl s h).onSite ..).trans (pumpList _ _ _)

theorem emitCtl {s : Nat} (k : Nat) (m : CtlMsg) (h : Hub) : Hub.Owes s h (h.emitCtl k m) := by
  unfold Hub.emitCtl
  dsimp only
  split
  · exact ((refl s h).send _).trans (txFlit ..)
  · exact (((refl s h).send _).trans (txFlit ..)).trans (txFlit ..)

theorem passCtl {s : Nat} (k : Nat) (m : CtlMsg) (h : Hub) : Hub.Owes s h (h.passCtl k m) := by
  unfold Hub.passCtl
  exact ((refl s h).put (R.YDL_CREDIT_HELD k m.pool) _ (.inr (.inl (by simp)))).trans (emitCtl ..)

theorem sendCtl {s : Nat} (k : Nat) (m : CtlMsg) (h : Hub) : Hub.Owes s h (h.sendCtl k m) := by
  have released (l : List CtlMsg) (g : Hub) : Hub.Owes s g (l.foldl (fun h m =>
      if h.ctlReady k m && !(h.siteS k).ctlq.any (fun w => w.rsp == m.rsp) then h.passCtl k m
      else h.onSite k fun x => { x with ctlq := x.ctlq ++ [m] }) g) := by
    induction l generalizing g with
    | nil => exact refl s g
    | cons m l ih =>
      rw [List.foldl_cons]
      refine Hub.Owes.trans ?_ (ih _)
      split
      · exact passCtl ..
      · exact (refl s g).onSite ..
  unfold Hub.sendCtl Hub.releaseCtl
  split
  · exact ((refl s h).onSite ..).trans (released _ _)
  · exact refl s h

/-- Clearing the enable of a watch, wherever it stands, leaves a count below its top bit. -/
theorem watchEn {s : Nat} (w : Nat) (h : Hub) : Hub.Owes s h (h.put (R.CLT_WATCH0_EN w) 0) := by
  refine ⟨⟨[], rfl⟩, fun small => ?_⟩
  by_cases same : (R.CLT_WATCH0_EN w).off = (R.YDL_CREDIT_OWED s 0).off
  · have low := Hub.get_put_apart h (R.CLT_WATCH0_EN w) ⟨(R.YDL_CREDIT_OWED s 0).off, 16, 15⟩ 0 (by simp) (.inr (by simp))
    have high := Hub.get_put_same h (R.CLT_WATCH0_EN w) 0 (by simp)
    unfold Hub.get at low high small ⊢
    rw [same] at high
    unfold bitsOf at low high small ⊢
    simp only [R.CLT_WATCH0_EN] at low high small ⊢
    omega
  · exact Hub.get_put_ne _ _ _ _ (Ne.symm same)

theorem watchEnd {s : Nat} (hs : s < 4) (w : Nat) (fired : Bool) (value : Nat) (h : Hub) : Hub.Owes s h
  (h.watchEnd w fired value) := by
  have ended : Hub.Owes s h (if fired then h.put (R.CLT_WATCH3_FIRED w) 1 else h.put (R.CLT_WATCH3_TIMEDOUT w) 1) := by
    split
    · exact (refl s h).put (R.CLT_WATCH3_FIRED w) 1 (.inl (by simp; omega))
    · exact (refl s h).put (R.CLT_WATCH3_TIMEDOUT w) 1 (.inl (by simp; omega))
  unfold Hub.watchEnd
  dsimp only
  refine Hub.Owes.trans (g := Hub.put _ (R.CLT_WATCH0_EN w) 0) (ended.trans (watchEn ..)) ?_
  generalize Hub.put _ (R.CLT_WATCH0_EN w) 0 = g
  refine Hub.Owes.trans (g := { g with cleat := { g.cleat with seen := nset g.cleat.seen w (value + 1) } })
    ((refl s g).part rfl rfl) ?_
  exact of_alters ((self [] (fun _ => False) _).sendVector_mod _) (by simp [framed, logReg, evtReg]; omega)

theorem cltApply {s : Nat} (hs : s < 4) (x : CltHeld) (h : Hub) : Hub.Owes s h (h.cltApply x) := by
  have judged (n : Nat) (g : Hub) : Hub.Owes s g (g.judge n) := by
    unfold Hub.judge Hub.showWaiters
    dsimp only
    have moved (l : List Wait) : Hub.Owes s g { g with cleat := { g.cleat with waits := l } } := (refl s g).part rfl rfl
    refine Hub.Owes.put ((moved _).each _ _ fun w k => ?_) R.CLT_STAT_WAITERS _ (.inl (by simp; omega))
    unfold Hub.waitDone
    split
    · exact (refl s k).part rfl rfl
    · exact sendCtl ..
    · exact watchEnd hs ..
    · exact refl s k
  have stored {n : Nat} (hn : n < 4096) (v : Nat) (g : Hub) : Hub.Owes s g (g.cleatSet n v) := by
    unfold Hub.cleatSet
    exact (((refl s g).put (R.CLT_VALUE n) v (.inl (by simp; omega))).trans
      (of_alters ((self [] (fun _ => False) _).countEvent 3) (by simp [framed, logReg, evtReg]; omega))).trans (judged ..)
  unfold Hub.cltApply Hub.cltOp
  split
  · next own =>
    refine Hub.Owes.trans ?_ (sendCtl ..)
    split
    · exact stored own.2 ..
    · exact stored own.2 ..
  · exact (of_alters ((self [] (fun a => a = 0x128000) h).bump (f := R.CLT_STAT_DENIED) 1)
    (by simp [framed, logReg, evtReg]; omega)).trans (sendCtl ..)

/-- The end of a decision with nothing gathered. -/
theorem decided {s : Nat} (hs : s < 4) (more : Bool) (c : Chip) (none : c.hub.dir.gather = []) :
    Hub.Owes s c.hub (c.decided more).hub ∧ (c.decided more).mem = c.mem := by
  unfold Chip.decided
  split
  · exact ⟨refl s _, rfl⟩
  · dsimp only
    rw [none]
    refine ⟨?_, rfl⟩
    have released (h : Hub) : Hub.Owes s h h.cltRelease := by
      unfold Hub.cltRelease
      dsimp only
      split
      · have moved (f : DirS → DirS) : Hub.Owes s h (h.onDir f) := (refl s h).part rfl rfl
        exact (moved _).each _ _ fun x k => cltApply hs x k
      · exact refl s h
    have moved (f : DirS → DirS) : Hub.Owes s c.hub (c.hub.onDir f) := (refl s c.hub).part rfl rfl
    have shown (h : Hub) : Hub.Owes s h h.showQuery :=
      of_alters (Hub.alters_showQuery h) (by simp [framed, logReg, evtReg, within]; omega)
    exact ((moved fun d => { d with gather := [] }).trans (released _)).trans (shown _)

end Hub.Owes

/-- With nothing waiting before it and the credits it takes, a message is sent. -/
theorem Hub.sendCtl_sent {s : Nat} {m : CtlMsg} {h : Hub} (up : h.siteUp s = true) (idle : (h.siteS s).ctlq = [])
    (room : m.flits ≤ h.get (R.YDL_CREDIT_HELD s m.pool)) : .control s m.msg m.tag m.body m.data ∈ (h.sendCtl s m).out := by
  have ready (f : SiteS → SiteS) : (h.onSite s f).ctlReady s m = true := decide_eq_true room
  have emitted (g : Hub) : .control s m.msg m.tag m.body m.data ∈ (g.emitCtl s m).out := by
    have sent : .control s m.msg m.tag m.body m.data ∈ (g.send
      (.control s m.msg m.tag m.body m.data)).out := List.mem_cons_self ..
    unfold Hub.emitCtl
    dsimp only
    split
    · exact (Hub.Owes.txFlit (s := s) ..).mem sent
    · exact ((Hub.Owes.txFlit (s := s) ..).trans (Hub.Owes.txFlit ..)).mem sent
  unfold Hub.sendCtl Hub.releaseCtl
  rw [if_pos up, idle, List.nil_append, List.foldl_cons, List.foldl_nil, ready, Hub.siteS_onSite, if_pos (by simp)]
  exact emitted _

/-- A message within what is owed is taken, with its credits owed. -/
theorem Chip.consume_takes {s flits : Nat} {c : Chip} (up : c.hub.siteUp s = true)
    (room : c.hub.get (R.YDL_CREDIT_OWED s 0) + flits ≤ hubGrant 0) (f : Chip → Chip) :
    c.consume s 0 flits f = f ⟨c.hub.put (R.YDL_CREDIT_OWED s 0) (c.hub.get (R.YDL_CREDIT_OWED s 0) + flits), c.mem⟩ := by
  unfold Chip.consume
  rw [if_neg (by simp [up]), if_neg (by omega)]

/-- What owing credits leaves of what a message is judged by. -/
theorem Hub.put_owed_leaves {s : Nat} (hs : s < 4) (h : Hub) (v : Nat) :
    (h.put (R.YDL_CREDIT_OWED s 0) v).on R.MAP_EPOCH_CUR = h.on R.MAP_EPOCH_CUR ∧
      (∀ a, (h.put (R.YDL_CREDIT_OWED s 0) v).lineAddr a = h.lineAddr a) ∧
      (h.put (R.YDL_CREDIT_OWED s 0) v).siteUp s = h.siteUp s ∧
      (∀ p, (h.put (R.YDL_CREDIT_OWED s 0) v).get (R.YDL_CREDIT_HELD s p) = h.get (R.YDL_CREDIT_HELD s p)) ∧
      (h.put (R.YDL_CREDIT_OWED s 0) v).on R.RAS_FLIP_CTRL_ARM = h.on R.RAS_FLIP_CTRL_ARM := by
  refine ⟨?_, fun a => ?_, siteUp_put _ _ _ _ (by simp), fun p => ?_, ?_⟩
  · unfold Hub.on
    rw [Hub.get_put_ne _ _ _ _ (by simp; omega)]
  · unfold Hub.lineAddr Hub.spaceSize Hub.dramSize Hub.bufSize
    rw [Hub.get_put_ne _ _ _ _ (by simp; omega), Hub.get_put_ne _ _ _ _ (by simp; omega)]
  · exact Hub.get_put_of_apart (.inr (.inr (by simp))) (by simp) _ _
  · unfold Hub.on
    rw [Hub.get_put_ne _ _ _ _ (by simp; omega)]

theorem siteRd_ofAClean :
    ∀ (site tag a : Nat) (addr : DWord) (s : State),
    (Instr.siteRd site tag addr).wf = true →
    s.hub.siteUp site = true →
    s.hub.get (R.YDL_CREDIT_OWED site 0) + 1 ≤ hubGrant 0 →
    s.hub.on R.MAP_EPOCH_CUR = true →
    s.hub.dir.gather = [] →
    s.sameDecision (.siteRd site tag addr) = false →
    a = addr.toNat →
    s.hub.lineAddr a = true →
    addrSpace a = 0 →
    s.mem.dramErr = [] →
    (s.hub.siteS site).ctlq = [] →
    2 ≤ s.hub.get (R.YDL_CREDIT_HELD site 1) →
    ∃ t, exec (.siteRd site tag addr) s = .next t ∧ Out.control site 0x12 tag ([0]) (s.mem.bytes 0
      (addrOff a) 64) ∈ t.hub.out ∧ t.mem = s.mem ∧
      t.hub.get (R.YDL_CREDIT_OWED site 0) = s.hub.get (R.YDL_CREDIT_OWED site 0) + 1 := by
  intro site tag a addr s hwf h1 h2 h3 h4 h5 h6 h7 h8 h9 h10 h11
  refine ⟨_, (by unfold exec; exact State.actMem_next hwf _ _), ?_⟩
  have small : site < 4 := by
    simp [Instr.wf, Ok.siteRd] at hwf
    omega
  have grant : s.hub.get (R.YDL_CREDIT_OWED site 0) + 1 ≤ 256 := h2
  obtain ⟨epoch, line, up, held, -⟩ := Hub.put_owed_leaves small s.hub (s.hub.get (R.YDL_CREDIT_OWED site 0) + 1)
  have owed := Hub.get_put_same s.hub (R.YDL_CREDIT_OWED site 0) (s.hub.get (R.YDL_CREDIT_OWED site 0) + 1) (by simp)
  have sites : (s.hub.put (R.YDL_CREDIT_OWED site 0) (s.hub.get
    (R.YDL_CREDIT_OWED site 0) + 1)).siteS site = s.hub.siteS site := rfl
  have dir : (s.hub.put (R.YDL_CREDIT_OWED site 0) (s.hub.get (R.YDL_CREDIT_OWED site 0) + 1)).dir = s.hub.dir := rfl
  dsimp only
  rw [Chip.consume_takes h1 h2, h5]
  generalize s.hub.put (R.YDL_CREDIT_OWED site 0) (s.hub.get (R.YDL_CREDIT_OWED site 0) + 1) = h at *
  rw [h3] at epoch
  unfold Chip.siteRead
  dsimp only
  rw [if_neg (by rw [epoch]; decide), ← h6, if_neg (by rw [line, h7]; decide), if_neg (by rw [h8]; decide)]
  obtain ⟨data, bad, mem, hub⟩ := Chip.read_clean (c := ⟨h, s.mem⟩) (Mem.cleanDram_of_nil h9) (0x2000 + site) (addrOff a) 64
  generalize Chip.read (0x2000 + site) 0 (addrOff a) 64 ⟨h, s.mem⟩ = r at *
  have clear : b2n false = 0 := rfl
  rw [bad, if_neg (by decide), data, mem, clear]
  dsimp only
  have room : 2 ≤ r.chip.hub.get (R.YDL_CREDIT_HELD site 1) := by
    rw [hub.get _ (by simp; omega), held]
    exact h11
  have upNow : r.chip.hub.siteUp site = true := by
    rw [← up] at h1
    unfold Hub.siteUp at h1 ⊢
    rw [hub.get _ (by simp; omega)]
    exact h1
  have idle : (r.chip.hub.siteS site).ctlq = [] := by
    rw [Hub.siteS_congr (h := h) (by rw [hub.same]), sites]
    exact h10
  have gather : (r.chip.hub.rdResp site tag 0 (s.mem.bytes 0 (addrOff a) 64)).dir.gather = [] := by
    unfold Hub.rdResp
    rw [(Hub.alters_sendCtl ..).dir (by simp), hub.same, dir]
    exact h4
  have sent : Out.control site 0x12 tag [0] (s.mem.bytes 0 (addrOff a) 64) ∈
      (r.chip.hub.rdResp site tag 0 (s.mem.bytes 0 (addrOff a) 64)).out := Hub.sendCtl_sent upNow idle room
  have answered : Hub.Owes site r.chip.hub (r.chip.hub.rdResp site tag 0 (s.mem.bytes 0 (addrOff a) 64)) := Hub.Owes.sendCtl ..
  obtain ⟨ends, kept⟩ := Hub.Owes.decided small false ⟨r.chip.hub.rdResp site tag 0 (s.mem.bytes 0 (addrOff a) 64), s.mem⟩ gather
  refine ⟨ends.mem sent, kept, ?_⟩
  have before : r.chip.hub.get (R.YDL_CREDIT_OWED site 0) = s.hub.get (R.YDL_CREDIT_OWED site 0) + 1 := by
    rw [hub.get _ (by simp; omega), owed]
    exact Nat.mod_eq_of_lt (by change _ < 2 ^ 16; omega)
  rw [(answered.trans ends).owed (by rw [before]; omega), before]

theorem siteRd_ofABad :
    ∀ (site tag a : Nat) (addr : DWord) (s : State),
    (Instr.siteRd site tag addr).wf = true →
    s.hub.siteUp site = true →
    s.hub.get (R.YDL_CREDIT_OWED site 0) + 1 ≤ hubGrant 0 →
    s.hub.on R.MAP_EPOCH_CUR = true →
    s.hub.dir.gather = [] →
    s.sameDecision (.siteRd site tag addr) = false →
    a = addr.toNat →
    s.hub.lineAddr a = false →
    (s.hub.siteS site).ctlq = [] →
    2 ≤ s.hub.get (R.YDL_CREDIT_HELD site 1) →
    ∃ t, exec (.siteRd site tag addr) s = .next t ∧ Out.control site 0x12 tag ([2]) (zeros 64) ∈ t.hub.out ∧ t.mem = s.mem := by
  intro site tag a addr s hwf h1 h2 h3 h4 h5 h6 h7 h8 h9
  refine ⟨_, (by unfold exec; exact State.actMem_next hwf _ _), ?_⟩
  have small : site < 4 := by
    simp [Instr.wf, Ok.siteRd] at hwf
    omega
  obtain ⟨epoch, line, up, held, -⟩ := Hub.put_owed_leaves small s.hub (s.hub.get (R.YDL_CREDIT_OWED site 0) + 1)
  have sites : (s.hub.put (R.YDL_CREDIT_OWED site 0) (s.hub.get
    (R.YDL_CREDIT_OWED site 0) + 1)).siteS site = s.hub.siteS site := rfl
  have dir : (s.hub.put (R.YDL_CREDIT_OWED site 0) (s.hub.get (R.YDL_CREDIT_OWED site 0) + 1)).dir = s.hub.dir := rfl
  dsimp only
  rw [Chip.consume_takes h1 h2, h5]
  generalize s.hub.put (R.YDL_CREDIT_OWED site 0) (s.hub.get (R.YDL_CREDIT_OWED site 0) + 1) = h at *
  rw [h3] at epoch
  unfold Chip.siteRead
  dsimp only
  rw [if_neg (by rw [epoch]; decide), ← h6, if_pos (by rw [line, h7]; decide)]
  have gather : (h.rdResp site tag 2 (zeros 64)).dir.gather = [] := by
    unfold Hub.rdResp
    rw [(Hub.alters_sendCtl ..).dir (by simp), dir]
    exact h4
  have sent : Out.control site 0x12 tag [2] (zeros 64) ∈ (h.rdResp site tag 2 (zeros 64)).out :=
    Hub.sendCtl_sent (up.trans h1) (by rw [sites]; exact h8) ((held 1).symm ▸ h9)
  obtain ⟨ends, kept⟩ := Hub.Owes.decided small false ⟨h.rdResp site tag 2 (zeros 64), s.mem⟩ gather
  exact ⟨ends.mem sent, kept⟩

/-- The pieces of a masked line lie within it. -/
theorem maskRuns_from (mask off : Nat) (bs : List Byte) (k : Nat) : ∀ p ∈ maskRuns mask off bs k, off + k ≤ p.1 := by
  induction bs generalizing k with
  | nil => exact fun p hp => absurd hp (by simp [maskRuns])
  | cons b bs ih =>
    intro p hp
    have rest := ih (k + 1)
    unfold maskRuns at hp
    dsimp only at hp
    split at hp
    · split at hp
      · next a l more e =>
        split at hp
        · exact (List.mem_cons.mp hp).elim (fun x => by rw [x]) fun x => by
            have := rest p (by rw [e]; exact List.mem_cons_of_mem _ x)
            omega
        · exact (List.mem_cons.mp hp).elim (fun x => by rw [x]) fun x => by
            have := rest p x
            omega
      · exact (List.mem_singleton.mp hp) ▸ Nat.le_refl _
    · have := rest p hp
      omega

theorem written_of_before {ps : List (Nat × List Byte)} {x : Nat} (after : ∀ p ∈ ps, x < p.1) (b : Byte)
  : written ps x b = b := by
  induction ps with
  | nil => rfl
  | cons p ps ih =>
    have := after p (List.mem_cons_self ..)
    unfold written
    rw [if_neg (by omega), ih fun q hq => after q (List.mem_cons_of_mem _ hq)]

/-- The pieces of a masked line store exactly the bytes its mask selects. -/
theorem written_maskRuns (mask off : Nat) (bs : List Byte) (k x : Nat) (b : Byte) :
    written (maskRuns mask off bs k) x b =
      if off + k ≤ x ∧ x < off + k + bs.length ∧ bit mask (x - off) = true then bs.getD (x - off - k) 0 else b := by
  induction bs generalizing k with
  | nil =>
    rw [if_neg (by simp; omega)]
    rfl
  | cons c bs ih =>
    have rest := ih (k + 1)
    have starts := maskRuns_from mask off bs (k + 1)
    have later (y : Byte) (past : x ≠ off + k) :
        (if off + (k + 1) ≤ x ∧ x < off + (k + 1) + bs.length ∧ bit mask (x - off) = true then bs.getD (x - off -
          (k + 1)) 0 else y) =
          if off + k ≤ x ∧ x < off + k + (c :: bs).length ∧ bit mask (x - off) = true then (c :: bs).getD
            (x - off - k) 0 else y := by
      by_cases inside : off + (k + 1) ≤ x ∧ x < off + (k + 1) + bs.length ∧ bit mask (x - off) = true
      · rw [if_pos inside, if_pos ⟨by omega, by simp; omega, inside.2.2⟩, show x - off - k = x - off - (k + 1) + 1 by omega]
        rfl
      · rw [if_neg inside, if_neg fun both => inside ⟨by omega, by simpa [Nat.add_assoc, Nat.add_comm] using both.2.1, both.2.2⟩]
    have here (off' : x = off + k) : x - off = k ∧ x - off - k = 0 := by omega
    unfold maskRuns
    dsimp only
    split
    · next on =>
      have first (same : x = off + k) : off + k ≤ x ∧ x < off + k + (c :: bs).length ∧ bit mask (x - off) = true :=
        ⟨by omega, by simp; omega, by rw [(here same).1]; exact on⟩
      have alone (ps : List (Nat × List Byte)) (same : ps = maskRuns mask off bs (k + 1)) : written ((off + k, [c]) :: ps) x b =
          if off + k ≤ x ∧ x < off + k + (c :: bs).length ∧ bit mask (x - off) = true then (c :: bs).getD
            (x - off - k) 0 else b := by
        subst same
        unfold written
        by_cases same : x = off + k
        · rw [if_pos (by simp; omega), written_of_before fun p hp => by have := starts p hp; omega, if_pos (first same),
          (here same).2,
            show x - (off + k) = 0 by omega]
          rfl
        · rw [if_neg (by simp; omega), rest]
          exact later b same
      split
      · next a l more e =>
        split
        · next joined =>
          by_cases same : x = off + k
          · unfold written
            rw [if_pos (by simp; omega), written_of_before fun p hp => by
              have := starts p (by rw [e]; exact List.mem_cons_of_mem _ hp)
              omega, if_pos (first same), (here same).2, show x - (off + k) = 0 by omega]
            rfl
          · rw [e] at rest
            rw [← later b same, ← rest]
            unfold written
            congr 1
            by_cases inside : a ≤ x ∧ x < a + l.length
            · rw [if_pos (by simp; omega), if_pos inside, show x - (off + k) = x - a + 1 by omega]
              rfl
            · rw [if_neg (by simp; omega), if_neg inside]
        · exact alone _ rfl
      · next e => exact alone [] e.symm
    · next off_ =>
      rw [rest]
      by_cases same : x = off + k
      · rw [if_neg (by omega), if_neg fun both => off_ (by rw [← (here same).1]; exact both.2.2)]
      · exact later b same

theorem siteWr_toAClean :
    ∀ (site tag a : Nat) (addr mask : DWord) (line : List Byte) (s : State),
    (Instr.siteWr site tag addr mask line).wf = true →
    s.hub.siteUp site = true →
    s.hub.get (R.YDL_CREDIT_OWED site 0) + 2 ≤ hubGrant 0 →
    s.hub.on R.MAP_EPOCH_CUR = true →
    s.hub.dir.gather = [] →
    s.sameDecision (.siteWr site tag addr mask line) = false →
    a = addr.toNat →
    s.hub.lineAddr a = true →
    addrSpace a = 0 →
    s.mem.dramErr = [] →
    s.hub.on R.RAS_FLIP_CTRL_ARM = false →
    (s.hub.siteS site).ctlq = [] →
    1 ≤ s.hub.get (R.YDL_CREDIT_HELD site 1) →
    ∃ t, exec (.siteWr site tag addr mask line) s = .next t ∧ Out.control site 0x13 tag ([0]) ([]) ∈ t.hub.out ∧
      (∀ i, i < 64 → t.mem.byte 0 (addrOff a + i) = if bit mask.toNat i then line.getD i 0 else s.mem.byte 0 (addrOff a + i)) ∧
      ∀ sp x, ¬ (sp = 0 ∧ addrOff a ≤ x ∧ x < addrOff a + 64) → t.mem.byte sp x = s.mem.byte sp x := by
  intro site tag a addr mask line s hwf h1 h2 h3 h4 h5 h6 h7 h8 h9 h10 h11 h12
  refine ⟨_, (by unfold exec; exact State.actMem_next hwf _ _), ?_⟩
  have wf : site < 4 ∧ line.length = 64 := by
    simp [Instr.wf, Ok.siteWr] at hwf
    omega
  obtain ⟨small, length⟩ := wf
  obtain ⟨epoch, inside, up, held, arm⟩ := Hub.put_owed_leaves small s.hub (s.hub.get (R.YDL_CREDIT_OWED site 0) + 2)
  have sites : (s.hub.put (R.YDL_CREDIT_OWED site 0) (s.hub.get
    (R.YDL_CREDIT_OWED site 0) + 2)).siteS site = s.hub.siteS site := rfl
  have dir : (s.hub.put (R.YDL_CREDIT_OWED site 0) (s.hub.get (R.YDL_CREDIT_OWED site 0) + 2)).dir = s.hub.dir := rfl
  dsimp only
  rw [Chip.consume_takes h1 h2, h5]
  generalize s.hub.put (R.YDL_CREDIT_OWED site 0) (s.hub.get (R.YDL_CREDIT_OWED site 0) + 2) = h at *
  rw [h3] at epoch
  unfold Chip.siteWrite
  dsimp only
  rw [if_neg (by rw [epoch]; decide), ← h6, if_neg (by rw [inside, h7]; decide), if_neg (by rw [h8]; decide)]
  have stored := Chip.writePieces_clean (c := ⟨h, s.mem⟩) (Mem.cleanDram_of_nil h9) (arm.trans h10) (0x2000 + site)
    (maskRuns mask.toNat (addrOff a) line 0)
  generalize Chip.writePieces (0x2000 + site) 0 (maskRuns mask.toNat (addrOff a) line 0) ⟨h, s.mem⟩ = r at *
  obtain ⟨bad, -, bytes, other, hub⟩ := stored
  have clear : b2n false = 0 := rfl
  rw [bad, clear]
  have room : 1 ≤ r.chip.hub.get (R.YDL_CREDIT_HELD site 1) := by
    rw [hub.get _ (by simp; omega), held]
    exact h12
  have upNow : r.chip.hub.siteUp site = true := by
    rw [← up] at h1
    unfold Hub.siteUp at h1 ⊢
    rw [hub.get _ (by simp; omega)]
    exact h1
  have idle : (r.chip.hub.siteS site).ctlq = [] := by
    rw [Hub.siteS_congr (h := h) (by rw [hub.same]), sites]
    exact h11
  have gather : (r.chip.hub.wrAck site tag 0).dir.gather = [] := by
    unfold Hub.wrAck
    rw [(Hub.alters_sendCtl ..).dir (by simp), hub.same, dir]
    exact h4
  have sent : Out.control site 0x13 tag [0] [] ∈ (r.chip.hub.wrAck site tag 0).out := Hub.sendCtl_sent upNow idle room
  obtain ⟨ends, kept⟩ := Hub.Owes.decided small false ⟨r.chip.hub.wrAck site tag 0, r.chip.mem⟩ gather
  refine ⟨ends.mem sent, ?_⟩
  rw [kept]
  refine ⟨fun i hi => ?_, fun sp x out => ?_⟩
  · rw [bytes, written_maskRuns, Nat.add_sub_cancel_left]
    by_cases selected : bit mask.toNat i = true
    · rw [if_pos ⟨by omega, by omega, selected⟩, if_pos selected]
      rfl
    · rw [if_neg fun both => selected both.2.2, if_neg selected]
  · by_cases dram : sp = 0
    · subst dram
      rw [bytes, written_maskRuns, if_neg (by omega)]
    · exact other sp x dram

theorem Chip.each_nil {α : Type} (f : α → Chip → Chip) (c : Chip) : Chip.each [] f c = c := rfl

/-- Placing flits moves the sequence number only, and keeps the escape credit. -/
theorem Hub.pumpList_keeps (k : Nat) (l : List TxFlit) (h : Hub) :
    ((h.pumpList k l).siteS k).escape = (h.siteS k).escape ∧
      ∀ f : RF, f.off ≠ (R.YDL_SFN_TX_SFN k).off → (h.pumpList k l).get f = h.get f := by
  induction l generalizing h with
  | nil => exact ⟨by rw [Hub.pumpList, Hub.siteS_onSite], fun _ _ => rfl⟩
  | cons f fs ih =>
    unfold Hub.pumpList
    split
    · exact ⟨by rw [Hub.siteS_onSite], fun _ _ => rfl⟩
    · next p g x placed =>
      obtain ⟨escape, regs⟩ := ih (((h.onSite k fun _ => x).put (R.YDL_SFN_TX_SFN k) ((g.sfn + 1) % 2 ^ 32)).send
        (flitOut k p g.seq g.type g.payload))
      have kept : x.escape = (h.siteS k).escape := by
        unfold SiteS.place at placed
        dsimp only at placed
        split at placed
        · exact absurd placed (by simp)
        · obtain ⟨-, -, rfl⟩ := placed
          rfl
      refine ⟨escape.trans ?_, fun e he => (regs e he).trans (Hub.get_put_ne (h.onSite k fun _ => x) _ _ _ he)⟩
      rw [Hub.siteS_send, Hub.siteS_put, Hub.siteS_onSite, kept]

theorem Hub.txFlit_keeps (k type : Nat) (b : List Byte) (h : Hub) :
    ((h.txFlit k type b).siteS k).escape = (h.siteS k).escape ∧
      ∀ f : RF, f.off ≠ (R.YDL_SFN_TX_SFN k).off → (h.txFlit k type b).get f = h.get f := by
  unfold Hub.txFlit Hub.pump
  obtain ⟨escape, regs⟩ := Hub.pumpList_keeps k _ (h.onSite k _)
  exact ⟨escape.trans (by rw [Hub.siteS_onSite]), regs⟩

theorem credit_addsWhatIt :
    ∀ (site p : Nat) (give : List Nat) (s : State),
    (Instr.credit site give).wf = true →
    s.hub.siteUp site = true →
    (s.hub.siteS site).ctlq = [] →
    (s.hub.siteS site).streams = [] →
    p < 6 →
    ∃ t, exec (.credit site give) s = .next t ∧ t.hub.get (R.YDL_CREDIT_HELD site p) = satNat 16 (s.hub.get
      (R.YDL_CREDIT_HELD site p) + give.getD p 0) ∧ t.mem = s.mem := by
  intro site p give s hwf h1 h2 h3 h4
  refine ⟨_, (by unfold exec; exact State.actMem_next hwf _ _), ?_⟩
  have small : site < 4 := by
    simp [Instr.wf, Ok.credit] at hwf
    omega
  obtain ⟨g, ⟨before, sites, up⟩, after, sites', up'⟩ := Hub.upto_around
    (Rel := fun a b : Hub => b.get (R.YDL_CREDIT_HELD site p) = a.get (R.YDL_CREDIT_HELD site p) ∧ b.sites = a.sites
      ∧ b.siteUp site = a.siteUp site)
    (f := fun q g => g.put (R.YDL_CREDIT_HELD site q) (satNat 16 (g.get (R.YDL_CREDIT_HELD site q) + give.getD q 0)))
    (fun _ => ⟨rfl, rfl, rfl⟩) (fun _ _ _ x y => ⟨y.1.trans x.1, y.2.1.trans x.2.1, y.2.2.trans x.2.2⟩) h4
    (fun j hj other g => ⟨Hub.get_put_ne _ _ _ _ (by simp; omega), rfl, siteUp_put _ _ _ _ (by simp; omega)⟩) s.hub
  have now : (s.hub.upto 6 fun q g => g.put (R.YDL_CREDIT_HELD site q) (satNat 16 (g.get
    (R.YDL_CREDIT_HELD site q) + give.getD q 0))).siteS
      site = s.hub.siteS site := Hub.siteS_congr (sites'.trans sites) site
  unfold Chip.takeCredit
  dsimp only
  rw [if_neg (by simp [h1]), now, h2]
  unfold Hub.releaseCtl Chip.pumpStreams
  rw [List.foldl_nil, Hub.siteS_onSite]
  dsimp only
  rw [now, h3, Chip.each_nil]
  dsimp only
  rw [Hub.onSite_get, after, Hub.get_put_same _ _ _ (by simp), before]
  exact ⟨Nat.mod_eq_of_lt (by unfold satNat; simp), rfl⟩

theorem creditReturn_returnsAllThat :
    ∀ (site p : Nat) (s : State),
    (Instr.creditReturn site).wf = true →
    s.hub.siteUp site = true →
    (s.hub.siteS site).escape = true →
    p < 6 →
    s.hub.get (R.YDL_CREDIT_OWED site p) ≠ 0 →
    ∃ t, exec (.creditReturn site) s = .next t ∧ t.hub.get (R.YDL_CREDIT_OWED site p) = 0 ∧ (t.hub.siteS site).escape = false ∧
      Out.control site 1 0 (((List.range 6).map fun q => s.hub.get (R.YDL_CREDIT_OWED site q)).flatMap (leBytes 2))
        ([]) ∈ t.hub.out := by
  intro site p s hwf h1 h2 h3 h4
  refine ⟨_, (by unfold exec; exact State.act_next hwf _ _), ?_⟩
  have small : site < 4 := by
    simp [Instr.wf, Ok.creditReturn] at hwf
    omega
  obtain ⟨g, ⟨before, sites⟩, after, sites'⟩ := Hub.upto_around
    (Rel := fun a b : Hub => b.get (R.YDL_CREDIT_OWED site p) = a.get (R.YDL_CREDIT_OWED site p) ∧ b.sites = a.sites)
    (f := fun q g => g.put (R.YDL_CREDIT_OWED site q) 0)
    (fun _ => ⟨rfl, rfl⟩) (fun _ _ _ x y => ⟨y.1.trans x.1, y.2.trans x.2⟩) h3
    (fun j hj other g => ⟨Hub.get_put_ne _ _ _ _ (by simp; omega), Hub.put_sites ..⟩) s.hub
  unfold Hub.returnCredits
  dsimp only
  rw [if_neg (by simp [h1, h2]; exact ⟨p, h3, h4⟩)]
  generalize s.hub.upto 6 (fun q g => g.put (R.YDL_CREDIT_OWED site q) 0) = h at *
  have spent : ((h.onSite site fun x => { x with escape := false, escSfn := x.sfn }).siteS site).escape = false :=
    congrArg SiteS.escape (Hub.siteS_onSite ..)
  have owed : (h.onSite site fun x => { x with escape := false, escSfn := x.sfn }).get (R.YDL_CREDIT_OWED site p) = 0 :=
    (Hub.onSite_get ..).trans (after.trans (Hub.get_put_same _ _ _ (by simp)))
  generalize h.onSite site (fun x => { x with escape := false, escSfn := x.sfn }) = k at *
  generalize ((List.range 6).map fun p => s.hub.get (R.YDL_CREDIT_OWED site p)).flatMap (leBytes 2) = body
  unfold Hub.emitCtl
  dsimp only
  rw [if_pos rfl]
  have sent : .control site 1 0 body [] ∈ (k.send (.control site 1 0 body [])).out := List.mem_cons_self ..
  have escape : ((k.send (.control site 1 0 body [])).siteS site).escape = false := (congrArg SiteS.escape
    (Hub.siteS_send ..)).trans spent
  have regs : (k.send (.control site 1 0 body [])).get (R.YDL_CREDIT_OWED site p) = 0 := (Hub.get_congr
    (Hub.send_regs ..) _).trans owed
  generalize k.send (.control site 1 0 body []) = g at *
  obtain ⟨escape', regs'⟩ := Hub.txFlit_keeps site 2 (CtlMsg.header ⟨false, 1, 0, body, []⟩) g
  exact ⟨(regs' (R.YDL_CREDIT_OWED site p) (by simp; omega)).trans regs, escape'.trans escape, (Hub.Owes.txFlit
    (s := site) ..).mem sent⟩

/-- Settles O45: one lemma per clause; what the cleat operations of other sites that a decision lets go can do to the credits
a site is owed is said once, by `Hub.Owes`. -/
theorem siteMessagesReachMemory : Obligations.SiteMessagesReachMemory := by
  unfold Obligations.SiteMessagesReachMemory
  exact ⟨siteRd_ofAClean, siteRd_ofABad, siteWr_toAClean, credit_addsWhatIt, creditReturn_returnsAllThat⟩

end Sys2Proof.Machine
end

section
/-!
### Operations the dispatcher completes itself

A completion queue of 2^17 entries has tails of 17 bits, and CQ_TAIL has 16.
-/
namespace Sys2Proof.Machine

set_option Elab.async false

/-- Ring 3 holds a NOP; its completion queue has 2^17 entries, with CQ_TAIL at its greatest value. -/
def nopUnderLongQueue : State :=
  stOf { ringHub [descOf 5 (descBytes [(4, 7)])] [(R.RING_SIZE_CQ_LOG2 3, 17), (R.RING_CQ_PTR_CQ_TAIL 3, 65535)] with draws := 0 }

theorem nop_under_long_queue :
    ∃ t, exec (.nop 3 5) nopUnderLongQueue = .next t ∧ t.hub.get (R.RING_CQ_PTR_CQ_TAIL 3) ≠
    (nopUnderLongQueue.hub.get (R.RING_CQ_PTR_CQ_TAIL 3) + 1) % nopUnderLongQueue.hub.cqSize 3 := by
  refine ⟨_, (by unfold exec; exact State.act_next rfl _ _), ?_⟩
  decide +kernel

/-- Refutes O32: CQ_TAIL goes from 65,535 to 0 where the queue has 2^17 entries, and the next place is 65,536. -/
theorem not_immediateOperationsComplete : ¬ Obligations.ImmediateOperationsComplete := by
  unfold Obligations.ImmediateOperationsComplete
  rintro ⟨clause, -⟩
  obtain ⟨t, run, bad⟩ := nop_under_long_queue
  obtain ⟨u, run', -, good, -⟩ := clause 3 5 (descOf 5 (descBytes [(4, 7)])) nopUnderLongQueue (by decide +kernel)
    (by decide +kernel) (by decide +kernel) (by decide +kernel) (by decide +kernel) (by decide +kernel) (by decide +kernel)
    (by decide +kernel) (by decide +kernel)
  obtain rfl : t = u := Host.Outcome.next.inj (run.symm.trans run')
  exact bad good

end Sys2Proof.Machine
end

section
/-!
### Entries of a ring

A submission queue of 2^17 entries has heads of 17 bits, and SQ_HEAD has 16.
-/
namespace Sys2Proof.Machine

set_option Elab.async false

/-- Ring 3's submission queue has 2^17 entries, with SQ_HEAD at its greatest value and one more entry submitted. -/
def fetchFromLongQueue : State :=
  stOf (ringHub [] [(R.RING_SIZE_SQ_LOG2 3, 17), (R.RING_SQ_PTR_SQ_HEAD 3, 65535), (R.RING_SQ_PTR_SQ_TAIL 3, 0)])

theorem descriptorFetch_from_long_queue :
    ∃ t, exec (.descriptorFetch 3 (descBytes [(4, 7)])) fetchFromLongQueue = .next t ∧ t.hub.get (R.RING_SQ_PTR_SQ_HEAD 3) ≠
    (fetchFromLongQueue.hub.get (R.RING_SQ_PTR_SQ_HEAD 3) + 1) % fetchFromLongQueue.hub.sqSize 3 := by
  refine ⟨_, (by unfold exec; exact State.act_next rfl _ _), ?_⟩
  decide +kernel

/-- Refutes O31: SQ_HEAD goes from 65,535 to 0 where the queue has 2^17 entries, and the next place is 65,536. -/
theorem not_ringEntriesComplete : ¬ Obligations.RingEntriesComplete := by
  unfold Obligations.RingEntriesComplete
  rintro ⟨clause, -⟩
  obtain ⟨t, run, bad⟩ := descriptorFetch_from_long_queue
  obtain ⟨u, run', good, -⟩ := clause 3 (descBytes [(4, 7)]) fetchFromLongQueue (by decide +kernel) (by decide +kernel)
    (by decide +kernel) (by decide +kernel) (by decide +kernel) (by decide +kernel) (by decide +kernel) (by decide +kernel)
    (by decide +kernel)
  obtain rfl : t = u := Host.Outcome.next.inj (run.symm.trans run')
  exact bad good

end Sys2Proof.Machine
end

section
/-!
### Bytes moved by descriptors
-/
namespace Sys2Proof.Machine

set_option Elab.async false
open Hub.Alters

theorem Hub.desc_onDesc (h : Hub) (n id : Nat) (f : Desc → Desc) (same : ∀ d, (f d).id = d.id) :
    (h.onDesc n id f).desc n id = (h.desc n id).map f := by
  unfold Hub.desc Hub.onDesc
  rw [Hub.ring_setRing_same]
  dsimp only
  induction (h.ring n).descs with
  | nil => rfl
  | cons d ds ih =>
    rw [List.map_cons]
    by_cases here : d.id = id
    · rw [if_pos here, List.find?_cons_of_pos (by simp [same, here]), List.find?_cons_of_pos (by simp [here])]
      rfl
    · rw [if_neg here, List.find?_cons_of_neg (by simp [here]), List.find?_cons_of_neg (by simp [here]), ih]

theorem Hub.id_of_desc {h : Hub} {n id : Nat} {d : Desc} (found : h.desc n id = some d) : d.id = id := by
  simpa using List.find?_some found

/-- Stores that none of the pieces reach leave a byte. -/
theorem written_of_uncovered {ps : List (Nat × List Byte)} {x : Nat}
    (none : ∀ p ∈ ps, ¬ (p.1 ≤ x ∧ x < p.1 + p.2.length)) (b : Byte) :
    written ps x b = b := by
  induction ps with
  | nil => rfl
  | cons p ps ih =>
    unfold written
    rw [if_neg (none p (List.mem_cons_self ..)), ih fun q hq => none q (List.mem_cons_of_mem _ hq)]

/-- Stores of slices of one list store its bytes wherever one of them reaches. -/
theorem written_of_slices {ps : List (Nat × List Byte)} {off x : Nat} {bs : List Byte}
    (slices : ∀ p ∈ ps, p.1 ≤ x → x < p.1 + p.2.length → p.2.getD (x - p.1) 0 = bs.getD (x - off) 0)
    (covered : ∃ p ∈ ps, p.1 ≤ x ∧ x < p.1 + p.2.length) (b : Byte) : written ps x b = bs.getD (x - off) 0 := by
  induction ps generalizing b with
  | nil => exact absurd covered (by simp)
  | cons p ps ih =>
    unfold written
    by_cases later : ∃ q ∈ ps, q.1 ≤ x ∧ x < q.1 + q.2.length
    · exact ih (fun q hq => slices q (List.mem_cons_of_mem _ hq)) later _
    · have here : p.1 ≤ x ∧ x < p.1 + p.2.length := by
        obtain ⟨q, hq, inside⟩ := covered
        exact (List.mem_cons.mp hq).elim (fun e => e ▸ inside) fun m => absurd ⟨q, m, inside⟩ later
      rw [if_pos here, written_of_uncovered fun q hq inside => later ⟨q, hq, inside⟩]
      exact slices p (List.mem_cons_self ..) here.1 here.2

/-- A store cut at the lines stores its bytes. -/
theorem written_cutLines (off x : Nat) (bs : List Byte) (b : Byte) :
    written (cutLines off bs) x b = if off ≤ x ∧ x < off + bs.length then bs.getD (x - off) 0 else b := by
  have piece : ∀ p ∈ cutLines off bs, off ≤ p.1 ∧ p.1 + p.2.length ≤ off + bs.length ∧ ∀ i, i < p.2.length →
      p.2.getD i 0 = bs.getD (p.1 - off + i) 0 := by
    intro p hp
    unfold cutLines at hp
    obtain ⟨l, hl, rfl⟩ := List.mem_map.mp hp
    have inside : off / 64 ≤ l ∧ l ≤ (off + bs.length - 1) / 64 ∧ bs.length ≠ 0 := by
      unfold linesOf at hl
      split at hl
      · exact absurd hl (by simp)
      · next some =>
        obtain ⟨i, hi, rfl⟩ := List.mem_map.mp hl
        have := List.mem_range.mp hi
        omega
    unfold linePart
    dsimp only
    rw [List.length_take, List.length_drop]
    refine ⟨by omega, by omega, fun i hi => ?_⟩
    rw [List.getD_eq_getElem _ _ (by simp; omega), List.getD_eq_getElem _ _ (by omega), List.getElem_take, List.getElem_drop]
  by_cases inside : off ≤ x ∧ x < off + bs.length
  · rw [if_pos inside]
    refine written_of_slices (fun p hp low high => ?_) ?_ b
    · obtain ⟨start, -, slice⟩ := piece p hp
      rw [slice _ (by omega)]
      congr 1
      omega
    · refine ⟨_, List.mem_map.mpr ⟨x / 64, ?_, rfl⟩, ?_⟩
      · unfold linesOf
        rw [if_neg (by omega)]
        exact List.mem_map.mpr ⟨x / 64 - off / 64, List.mem_range.mpr (by omega), by omega⟩
      · unfold linePart
        dsimp only
        rw [List.length_take, List.length_drop]
        omega
  · rw [if_neg inside]
    exact written_of_uncovered (fun p hp => by have := piece p hp; omega) b

/-- A piece that DRAM takes is stored whole. -/
theorem Chip.writePiece_clean {c : Chip} (clean : c.mem.CleanDram) (calm : c.hub.on R.RAS_FLIP_CTRL_ARM = false) (req fn
  : Nat) {a : Nat}
    (dram : addrSpace a = 0) (bs : List Byte) :
    ∃ d, c.writePiece req fn a bs = (.more bs.length, d) ∧ Hub.Channels c.hub d.hub ∧
      (∀ x, d.mem.byte 0 x = if addrOff a ≤ x ∧ x < addrOff a + bs.length then bs.getD (x - addrOff a) 0 else c.mem.byte 0 x) ∧
      ∀ sp x, sp ≠ 0 → d.mem.byte sp x = c.mem.byte sp x := by
  obtain ⟨bad, -, bytes, other, hub⟩ := Chip.writePieces_clean clean calm req (cutLines (addrOff a) bs)
  unfold Chip.writePiece
  rw [dram, if_neg (by omega), if_neg (by omega), if_neg (by omega)]
  dsimp only
  rw [bad]
  exact ⟨_, rfl, hub, fun x => (bytes x).trans (written_cutLines ..), other⟩

/-- The state after a move's last piece, with the descriptor it ends. -/
structure Chip.MovedLast (c t : Chip) (n id b : Nat) (d : Desc) (bs : List Byte) : Prop where
  bytes : t.mem.bytes 0 (addrOff b) bs.length = bs
  desc : (t.hub.desc n id).map (fun e => (e.ended, e.status, e.moved, e.result)) = some (true, 0, d.total, d.total)
  other : ∀ sp x, ¬ (sp = 0 ∧ addrOff b ≤ x ∧ x < addrOff b + bs.length) → t.mem.byte sp x = c.mem.byte sp x

theorem Mem.bytes_of_byte {m : Mem} {a : Nat} {bs : List Byte} (h : ∀ i, i < bs.length → m.byte 0 (a + i) = bs.getD i 0) :
    m.bytes 0 a bs.length = bs := by
  refine List.ext_getElem (by simp [Mem.bytes]) fun i hi hj => ?_
  simp only [Mem.bytes, List.getElem_map, List.getElem_range]
  rw [h i hj, List.getD_eq_getElem _ _ hj]

theorem fillBytes_length (p k n : Nat) : (fillBytes p k n).length = n := by simp [fillBytes]

/-- A started descriptor that needs no snapshot goes straight on to its pieces. -/
theorem Chip.mover_started {c : Chip} {op n id limit : Nat} {d : Desc} (found : c.hub.desc n id = some d) (op_eq
  : dOp d.bytes = op)
    (started : d.started = true) (open_ : d.ended = false) (apart : d.overlaps = false) (host : List Byte) :
    c.mover op n id limit host = c.moves n id limit host := by
  have notReady : c.hub.listReady n d = false := by simp [Hub.listReady, Hub.considers, started]
  have fetched : c.fetchList n id host = (0, c) := by
    unfold Chip.fetchList
    rw [found]
    dsimp only
    rw [if_pos (by simp [notReady])]
  have considered : c.hub.consider op n id = c.hub := by
    unfold Hub.consider
    rw [found]
    dsimp only
    rw [if_pos (by simp [Hub.considers, started])]
  have running : c.hub.running op n id = some d := by
    unfold Hub.running
    rw [found]
    dsimp only
    rw [if_pos ⟨op_eq, started, by simp [open_]⟩]
  have snap : c.takeSnap n id host = (0, c) := by
    unfold Chip.takeSnap
    rw [found]
    dsimp only
    rw [if_pos (by simp [apart])]
  unfold Chip.mover
  rw [found]
  dsimp only
  rw [if_neg (by simp [op_eq]), fetched]
  dsimp only
  rw [found]
  dsimp only
  rw [notReady, if_neg (by simp), considered, running]
  dsimp only
  rw [if_pos started]
  unfold Chip.goOn
  rw [List.drop_zero, snap]
  rfl

/-- The last piece of a FILL stores the pattern. -/
theorem Chip.moveOne_fill {c : Chip} (clean : c.mem.CleanDram) (calm : c.hub.on R.RAS_FLIP_CTRL_ARM = false) {n m b : Nat} {d
  : Desc}
    (op : dOp d.bytes = 2) (runs : d.stop = false) (left : m = d.total - d.moved) (some : 0 < m) (dst
      : b = dDest d.bytes + d.moved)
    (dram : addrSpace b = 0) (line : m ≤ toLineEnd b) (host : List Byte) :
    c.moveOne n d d.moved host =
      (.more m, 0, (c.writePiece (0x1000 + n) (c.hub.ringFn n) b (fillBytes (leAt d.bytes 40 8) d.moved m)).2) := by
  obtain ⟨e, write, -, -, -⟩ := Chip.writePiece_clean clean calm (0x1000 + n) (c.hub.ringFn n) dram
    (fillBytes (leAt d.bytes 40 8) d.moved m)
  have place : d.dstAt d.moved = (b, m) := by
    unfold Desc.dstAt
    rw [if_neg (by omega), ← dst, ← left]
  have size : min (min m m) (min m (toLineEnd b)) = m := by omega
  unfold Chip.moveOne
  rw [place, ← left]
  dsimp only
  rw [if_neg (by omega), if_neg (by simp [runs]), if_neg (by simp [Desc.overlaps, op]), if_pos op, runs]
  simp only [Bool.false_eq_true, if_false]
  rw [size, write, fillBytes_length]

/-- The last piece of a move stores the source's bytes. -/
theorem Chip.moveOne_read {c : Chip} (clean : c.mem.CleanDram) (calm : c.hub.on R.RAS_FLIP_CTRL_ARM = false) {n m a b
  : Nat} {d : Desc}
    (op : dOp d.bytes ≠ 2) (runs : d.stop = false) (apart : d.overlaps = false) (noSnap : d.snap = none) (left
      : m = d.total - d.moved)
    (some : 0 < m) (src : d.srcAt d.moved = (a, m)) (dst : d.dstAt d.moved = (b, m)) (from_ : addrSpace a = 0) (line
      : m ≤ toLineEnd a)
    (dram : addrSpace b = 0) (host : List Byte) :
    c.moveOne n d d.moved host = (.more m, 0, ((c.read (0x1000 + n) 0 (addrOff a) m).chip.writePiece (0x1000 + n)
      (c.hub.ringFn n) b
      (c.mem.bytes 0 (addrOff a) m)).2) := by
  obtain ⟨data, good, mem, hub⟩ := Chip.read_clean clean (0x1000 + n) (addrOff a) m
  obtain ⟨e, write, -, -, -⟩ := Chip.writePiece_clean (c := (c.read (0x1000 + n) 0 (addrOff a) m).chip) (mem ▸ clean)
    ((hub.on _ (by simp [channelReg, within])).trans calm) (0x1000 + n) (c.hub.ringFn n) dram (c.mem.bytes 0 (addrOff a) m)
  have size : min (min m m) (min (min m m) (toLineEnd a)) = m := by omega
  have whole : min m (min m (toLineEnd a)) = m := by omega
  have piece : c.readPiece (0x1000 + n) (c.hub.ringFn n) a m host =
      (.bytes (c.mem.bytes 0 (addrOff a) m), (c.read (0x1000 + n) 0 (addrOff a) m).chip) := by
    unfold Chip.readPiece
    rw [from_, if_neg (by omega), if_neg (by omega)]
    dsimp only
    rw [good, data]
    rfl
  unfold Chip.moveOne
  rw [src, dst, ← left]
  dsimp only
  rw [if_neg (by omega), if_neg (by simp [runs]), if_neg (by simp [apart]), if_neg op, runs, noSnap]
  simp only [Bool.false_eq_true, if_false]
  rw [size, from_, if_neg (by omega), whole, piece]
  dsimp only
  rw [if_neg (by omega), List.take_of_length_le (by rw [Mem.length_bytes]), write, Mem.length_bytes]

/-- The descriptor after its last piece of `m` bytes. -/
def Desc.movedAll (m : Nat) (d : Desc) : Desc :=
  let x := { d with moved := d.moved + m, drained := d.drained || d.hostFrom (d.moved + m) }
  { x with ended := true, drained := x.drained || !(dOp d.bytes == 0x18 || dOp d.bytes == 0x19 || dOp d.bytes == 0x1A),
           status := 0, result := d.moved + m }

theorem Chip.moves_ended {c : Chip} {n id : Nat} {d : Desc} (found : c.hub.desc n id = some d) (ended : d.ended = true) (k : Nat)
    (host : List Byte) : c.moves n id k host = c := by
  cases k with
  | zero => rfl
  | succ k =>
    unfold Chip.moves
    rw [found]
    dsimp only
    rw [if_pos (Or.inl ended)]

/-- Where a piece that reaches the total has been taken, the move has ended. -/
theorem Chip.moves_last {c d0 : Chip} {n id k used b m : Nat} {d : Desc} {bs host : List Byte} (found : c.hub.desc n id = some d)
    (open_ : d.ended = false) (turn : c.hub.itsTurn n d = true) (last : d.moved + m = d.total)
    (one : c.moveOne n d d.moved host = (.more m, used, d0)) (hub : Hub.Channels c.hub d0.hub)
    (bytes : ∀ x, d0.mem.byte 0 x = if addrOff b ≤ x ∧ x < addrOff b + bs.length then bs.getD
      (x - addrOff b) 0 else c.mem.byte 0 x)
    (other : ∀ sp x, sp ≠ 0 → d0.mem.byte sp x = c.mem.byte sp x) : Chip.MovedLast c (c.moves n id (k + 1) host) n id b d bs := by
  have found0 : d0.hub.desc n id = some d := by
    rw [hub.same]
    exact found
  have ended : ((d0.hub.onDesc n id fun x =>
      { x with moved := x.moved + m, drained := x.drained || x.hostFrom (x.moved + m) }).endWork n id 0 d.total).desc n id =
        some (d.movedAll m) := by
    unfold Hub.endWork
    rw [Hub.desc_onDesc, Hub.desc_onDesc, found0]
    · unfold Desc.movedAll
      rw [← last]
      rfl
    · exact fun _ => rfl
    · exact fun _ => rfl
  have step : c.moves n id (k + 1) host = ⟨(d0.hub.onDesc n id fun x =>
      { x with moved := x.moved + m, drained := x.drained || x.hostFrom (x.moved + m) }).endWork n id 0 d.total, d0.mem⟩ := by
    conv => lhs; unfold Chip.moves
    rw [found]
    dsimp only
    rw [if_neg (by simp [open_, turn]), one]
    dsimp only
    rw [if_pos last]
    exact Chip.moves_ended (c := ⟨_, d0.mem⟩) ended rfl k _
  obtain ⟨g, step, ended⟩ : ∃ g : Hub, c.moves n id (k + 1) host = ⟨g, d0.mem⟩ ∧ g.desc n id = some (d.movedAll m) :=
    ⟨_, step, ended⟩
  rw [step]
  refine ⟨Mem.bytes_of_byte fun i hi => ?_, ?_, fun sp x outside => ?_⟩
  · rw [bytes, if_pos (by omega)]
    congr 1
    omega
  · dsimp only
    rw [ended]
    unfold Desc.movedAll
    rw [last]
    rfl
  · by_cases space : sp = 0
    · subst space
      rw [bytes, if_neg fun inside => outside ⟨rfl, inside⟩]
    · exact other sp x space

/-- COPY, GATHER and SCATTER store the source's bytes with their last piece. -/
theorem Chip.mover_reads {c : Chip} (clean : c.mem.CleanDram) (calm
  : c.hub.on R.RAS_FLIP_CTRL_ARM = false) {op n id limit m a b : Nat}
    {d : Desc} (found : c.hub.desc n id = some d) (op_eq : dOp d.bytes = op) (reads : op ≠ 2) (started : d.started = true)
    (open_ : d.ended = false) (runs : d.stop = false) (noSnap : d.snap = none) (turn : c.hub.itsTurn n d = true)
    (apart : d.overlaps = false) (left : m = d.total - d.moved) (some : 0 < m) (hlim : 1 ≤ limit) (host : List Byte)
    (src : d.srcAt d.moved = (a, m)) (dst : d.dstAt d.moved = (b, m)) (dram : addrSpace a = 0) (line : m ≤ toLineEnd a)
    (into : addrSpace b = 0) :
    Chip.MovedLast c (c.mover op n id limit host) n id b d (c.mem.bytes 0 (addrOff a) m) := by
  obtain ⟨k, rfl⟩ : ∃ k, limit = k + 1 := ⟨limit - 1, by omega⟩
  obtain ⟨-, -, mem, read⟩ := Chip.read_clean clean (0x1000 + n) (addrOff a) m
  obtain ⟨e, write, hub, bytes, other⟩ := Chip.writePiece_clean (c := (c.read (0x1000 + n) 0 (addrOff a) m).chip) (mem ▸ clean)
    ((read.on _ (by simp [channelReg, within])).trans calm) (0x1000 + n) (c.hub.ringFn n) into (c.mem.bytes 0 (addrOff a) m)
  have one := Chip.moveOne_read (n := n) clean calm (op_eq ▸ reads) runs apart noSnap left some src dst dram line into host
  rw [write] at one
  rw [mem] at bytes other
  rw [Chip.mover_started found op_eq started open_ apart host]
  exact Chip.moves_last found open_ turn (by omega) one (read.trans hub) bytes other

theorem copy_lastPieceStores :
    ∀ (n id limit : Nat) (host : List Byte) (m a b : Nat) (d : Desc) (s : State),
    (Instr.copy n id limit host).wf = true →
    1 ≤ limit →
    s.hub.desc n id = some d →
    dOp d.bytes = 1 →
    d.started = true →
    d.ended = false →
    d.stop = false →
    d.snap = none →
    s.hub.itsTurn n d = true →
    d.overlaps = false →
    m = d.total - d.moved →
    0 < m →
    a = leAt d.bytes 28 8 + d.moved →
    addrSpace a = 0 →
    m ≤ toLineEnd a →
    b = dDest d.bytes + d.moved →
    addrSpace b = 0 →
    s.hub.on R.RAS_FLIP_CTRL_ARM = false →
    s.mem.dramErr = [] →
    ∃ t, exec (.copy n id limit host) s = .next t ∧ t.mem.bytes 0 (addrOff b) m = s.mem.bytes 0 (addrOff a) m ∧
      (t.hub.desc n id).map (fun (e : Desc) => (e.ended, e.status, e.moved, e.result)) = some (true, 0, d.total, d.total) ∧
      ∀ sp x, ¬ (sp = 0 ∧ addrOff b ≤ x ∧ x < addrOff b + m) → t.mem.byte sp x = s.mem.byte sp x := by
  intro n id limit host m a b d s hwf hlim found op started open_ runs noSnap turn apart left some src dram line dst into calm
    clean
  refine ⟨_, (by unfold exec; exact State.actMem_next hwf _ _), ?_⟩
  obtain ⟨bytes, desc, other⟩ := Chip.mover_reads (c := ⟨s.hub, s.mem⟩) (Mem.cleanDram_of_nil clean) calm found op
    (by omega) started
    open_ runs noSnap turn apart left some
    hlim host (by rw [Desc.srcAt, if_neg (by omega), if_neg (by omega), ← src, ← left])
    (by rw [Desc.dstAt, if_neg (by omega), ← dst, ← left]) dram line into
  rw [Mem.length_bytes] at bytes other
  exact ⟨bytes, desc, other⟩

theorem fill_lastPieceStores :
    ∀ (n id limit : Nat) (m b : Nat) (d : Desc) (s : State),
    (Instr.fill n id limit).wf = true →
    1 ≤ limit →
    s.hub.desc n id = some d →
    dOp d.bytes = 2 →
    d.started = true →
    d.ended = false →
    d.stop = false →
    d.snap = none →
    s.hub.itsTurn n d = true →
    m = d.total - d.moved →
    0 < m →
    b = dDest d.bytes + d.moved →
    addrSpace b = 0 →
    m ≤ toLineEnd b →
    s.hub.on R.RAS_FLIP_CTRL_ARM = false →
    s.mem.dramErr = [] →
    ∃ t, exec (.fill n id limit) s = .next t ∧ t.mem.bytes 0 (addrOff b) m = fillBytes (leAt d.bytes 40 8) d.moved m ∧
      (t.hub.desc n id).map (fun (e : Desc) => (e.ended, e.status, e.moved, e.result)) = some (true, 0, d.total, d.total) ∧
      ∀ sp x, ¬ (sp = 0 ∧ addrOff b ≤ x ∧ x < addrOff b + m) → t.mem.byte sp x = s.mem.byte sp x := by
  intro n id limit m b d s hwf hlim found op started open_ runs noSnap turn left some dst into line calm clean
  refine ⟨_, (by unfold exec; exact State.actMem_next hwf _ _), ?_⟩
  obtain ⟨k, rfl⟩ : ∃ k, limit = k + 1 := ⟨limit - 1, by omega⟩
  have tidy := Mem.cleanDram_of_nil clean
  obtain ⟨e, write, hub, bytes, other⟩ := Chip.writePiece_clean (c := ⟨s.hub, s.mem⟩) tidy calm (0x1000 + n) (s.hub.ringFn n) into
    (fillBytes (leAt d.bytes 40 8) d.moved m)
  have one := Chip.moveOne_fill (n := n) (c := ⟨s.hub, s.mem⟩) tidy calm op runs left some dst into line []
  rw [write] at one
  have moved := Chip.moves_last (c := ⟨s.hub, s.mem⟩) (k := k) found open_ turn (by omega) one hub bytes other
  rw [← Chip.mover_started (c := ⟨s.hub, s.mem⟩) found op started open_ (by simp [Desc.overlaps, op]) []] at moved
  obtain ⟨bytes, desc, other⟩ := moved
  rw [fillBytes_length] at bytes other
  exact ⟨bytes, desc, other⟩

theorem gather_lastPieceStores :
    ∀ (n id limit : Nat) (host : List Byte) (m a b : Nat) (d : Desc) (s : State),
    (Instr.gather n id limit host).wf = true →
    1 ≤ limit →
    s.hub.desc n id = some d →
    dOp d.bytes = 3 →
    d.started = true →
    d.ended = false →
    d.stop = false →
    d.snap = none →
    s.hub.itsTurn n d = true →
    m = d.total - d.moved →
    0 < m →
    (a, m) = inList d.list d.moved →
    addrSpace a = 0 →
    m ≤ toLineEnd a →
    b = dDest d.bytes + d.moved →
    addrSpace b = 0 →
    s.hub.on R.RAS_FLIP_CTRL_ARM = false →
    s.mem.dramErr = [] →
    ∃ t, exec (.gather n id limit host) s = .next t ∧ t.mem.bytes 0 (addrOff b) m = s.mem.bytes 0 (addrOff a) m ∧
      (t.hub.desc n id).map (fun (e : Desc) => (e.ended, e.status, e.moved, e.result)) = some (true, 0, d.total, d.total) ∧
      ∀ sp x, ¬ (sp = 0 ∧ addrOff b ≤ x ∧ x < addrOff b + m) → t.mem.byte sp x = s.mem.byte sp x := by
  intro n id limit host m a b d s hwf hlim found op started open_ runs noSnap turn left some list dram line dst into calm clean
  refine ⟨_, (by unfold exec; exact State.actMem_next hwf _ _), ?_⟩
  obtain ⟨bytes, desc, other⟩ := Chip.mover_reads (c := ⟨s.hub, s.mem⟩) (Mem.cleanDram_of_nil clean) calm found op
    (by omega) started
    open_ runs noSnap turn (by simp [Desc.overlaps, op]) left some
    hlim host (by rw [Desc.srcAt, if_pos op, list]) (by rw [Desc.dstAt, if_neg (by omega), ← dst, ← left]) dram line into
  rw [Mem.length_bytes] at bytes other
  exact ⟨bytes, desc, other⟩

theorem scatter_lastPieceStores :
    ∀ (n id limit : Nat) (host : List Byte) (m a b : Nat) (d : Desc) (s : State),
    (Instr.scatter n id limit host).wf = true →
    1 ≤ limit →
    s.hub.desc n id = some d →
    dOp d.bytes = 4 →
    d.started = true →
    d.ended = false →
    d.stop = false →
    d.snap = none →
    s.hub.itsTurn n d = true →
    m = d.total - d.moved →
    0 < m →
    (b, m) = inList d.list d.moved →
    a = dDest d.bytes + d.moved →
    addrSpace a = 0 →
    m ≤ toLineEnd a →
    addrSpace b = 0 →
    s.hub.on R.RAS_FLIP_CTRL_ARM = false →
    s.mem.dramErr = [] →
    ∃ t, exec (.scatter n id limit host) s = .next t ∧ t.mem.bytes 0 (addrOff b) m = s.mem.bytes 0 (addrOff a) m ∧
      (t.hub.desc n id).map (fun (e : Desc) => (e.ended, e.status, e.moved, e.result)) = some (true, 0, d.total, d.total) ∧
      ∀ sp x, ¬ (sp = 0 ∧ addrOff b ≤ x ∧ x < addrOff b + m) → t.mem.byte sp x = s.mem.byte sp x := by
  intro n id limit host m a b d s hwf hlim found op started open_ runs noSnap turn left some list dst dram line into calm clean
  refine ⟨_, (by unfold exec; exact State.actMem_next hwf _ _), ?_⟩
  obtain ⟨bytes, desc, other⟩ := Chip.mover_reads (c := ⟨s.hub, s.mem⟩) (Mem.cleanDram_of_nil clean) calm found op
    (by omega) started
    open_ runs noSnap turn (by simp [Desc.overlaps, op]) left some
    hlim host (by rw [Desc.srcAt, if_neg (by omega), if_pos op, ← dst, ← left])
    (by rw [Desc.dstAt, if_pos op, list]) dram line into
  rw [Mem.length_bytes] at bytes other
  exact ⟨bytes, desc, other⟩

/-- Settles O33: one lemma per clause; each is a case of `Chip.moves_last`, the last piece of a move. -/
theorem moverMovesBytes : Obligations.MoverMovesBytes := by
  unfold Obligations.MoverMovesBytes
  exact ⟨copy_lastPieceStores, fill_lastPieceStores, gather_lastPieceStores, scatter_lastPieceStores⟩

end Sys2Proof.Machine
end

section
/-!
### Frames of the Ethernet ports
-/
namespace Sys2Proof.Machine

set_option Elab.async false
open Hub.Alters

theorem Hub.desc_of_rings {h g : Hub} (rings : g.rings = h.rings) (n id : Nat) : g.desc n id = h.desc n id := by
  unfold Hub.desc Hub.ring
  rw [rings]

theorem Hub.port_of_ser {h g : Hub} (ser : g.ser = h.ser) (p : Nat) : g.port p = h.port p := by
  unfold Hub.port
  rw [ser]

theorem Hub.port_onPort (p : Nat) (f : PortS → PortS) (h : Hub) : (h.onPort p f).port p = f (h.port p) := Store.get_set_same ..

/-- Between `h` and `g` a port may have begun or ended its own pausing; the ports and the rings are otherwise as they were. -/
structure Hub.PausesOnly (h g : Hub) : Prop where
  rings : g.rings = h.rings
  port : ∀ q, g.port q = { h.port q with pausing := (g.port q).pausing }

theorem Hub.PausesOnly.of_same {h g : Hub} (rings : g.rings = h.rings) (ser : g.ser = h.ser) : Hub.PausesOnly h g :=
  ⟨rings, fun q => by unfold Hub.port; rw [ser]⟩

theorem Hub.PausesOnly.trans {h g k : Hub} (x : Hub.PausesOnly h g) (y : Hub.PausesOnly g k) : Hub.PausesOnly h k :=
  ⟨y.rings.trans x.rings, fun q => by rw [y.port q, x.port q]⟩

theorem Hub.pausesOnly_onPort (p : Nat) (b : Bool) (h : Hub) : Hub.PausesOnly h (h.onPort p
  fun x => { x with pausing := b }) := by
  refine ⟨rfl, fun q => ?_⟩
  by_cases here : q = p
  · rw [here, Hub.port_onPort]
  · have same : (h.onPort p fun x => { x with pausing := b }).port q = h.port q := Store.get_set_ne _ _ _ here
    rw [same]

theorem Hub.pausesOnly_pauseCheck (p : Nat) (h : Hub) : Hub.PausesOnly h (h.pauseCheck p) := by
  have sent (b : Bool) (q : Nat) : Hub.PausesOnly h ((h.onPort p fun x => { x with pausing := b }).sendPause p q) :=
    (Hub.pausesOnly_onPort p b h).trans (.of_same rfl rfl)
  unfold Hub.pauseCheck
  split
  · split
    · split
      · exact .of_same rfl rfl
      · exact sent ..
    · split
      · exact sent ..
      · exact .of_same rfl rfl
  · exact .of_same rfl rfl

/-- What the fill of a quad writes. -/
def fillReg (a : Nat) : Prop := within 0x400000 0x500000 a ∨ within 0x780000 0x781000 a

theorem Hub.alters_showFill_fillReg (q : Nat) (h : Hub) (hb : q < 8) : Hub.Alters [.memch] fillReg h (h.showFill q) := by
  unfold Hub.showFill
  exact ((self ..).put _ (by simp [framed, fillReg, within]; omega)).andThen (Hub.alters_fillLevel ..) (by simp)
    fun a ha => Or.inr (Or.inr (Or.inl ha))

theorem Hub.alters_fills (l : List Nat) (h : Hub) (hl : ∀ q ∈ l, q < 8) : Hub.Alters [.memch] fillReg h (h.each l Hub.showFill) :=
  (self ..).each l fun q hq g => Hub.alters_showFill_fillReg q g (hl q hq)

theorem Hub.pausesOnly_rxChanged (p : Nat) (h : Hub) : Hub.PausesOnly h (h.rxChanged p) := by
  have fills := Hub.alters_fills (h.quadsOf p) h fun _ hq => quadsOfLanes_lt hq
  exact (Hub.PausesOnly.of_same (fills.rings (by simp)) (fills.ser (by simp))).trans (Hub.pausesOnly_pauseCheck ..)

theorem Hub.rxChanged_get (p : Nat) (h : Hub) (f : RF) (hf : ¬ framed fillReg f.off) : (h.rxChanged p).get f = h.get f := by
  have fills := Hub.alters_fills (h.quadsOf p) h fun _ hq => quadsOfLanes_lt hq
  exact ((Hub.alters_pauseCheck ..).get f (fun x => hf (x.imp_right fun y => y.imp_right (by simp [those])))).trans
    (fills.get f hf)

/-- Received bytes go to clean DRAM as they are, whatever quads they came through. -/
theorem Chip.drainTo_clean {c : Chip} (clean : c.mem.CleanDram) (calm : c.hub.on R.RAS_FLIP_CTRL_ARM = false) (req : Nat)
    (quads : List Nat) (a : Nat) (bs : List Byte) : Chip.WroteClean c (c.drainTo req 0 quads a bs) [(a, bs)] := by
  have whole {d : Chip} {w : Wr} {a : Nat} {bs : List Byte} (x : Chip.WroteClean d w (cutLines a bs)) :
      Chip.WroteClean d w [(a, bs)] := by
    obtain ⟨bad, clean, bytes, other, hub⟩ := x
    exact ⟨bad, clean, fun y => (bytes y).trans (written_cutLines ..), other, hub⟩
  induction quads generalizing c a bs with
  | nil => exact whole (Chip.writePieces_clean clean calm req _)
  | cons q qs ih =>
    cases qs with
    | nil => exact whole (Chip.writePiecesAs_clean clean calm (5 + q) req _)
    | cons r rs =>
      have first := whole (Chip.writePiecesAs_clean clean calm (5 + q) req
        (cutLines a (bs.take (bs.length / ((r :: rs).length + 1)))))
      have rest := ih first.clean ((first.hub.on R.RAS_FLIP_CTRL_ARM (by simp)).trans calm)
        (a + bs.length / ((r :: rs).length + 1)) (bs.drop (bs.length / ((r :: rs).length + 1)))
      unfold Chip.drainTo
      refine ⟨?_, rest.clean, fun x => (rest.bytes x).trans ?_, fun sp x o => (rest.other sp x o).trans (first.other sp x o),
        first.hub.trans rest.hub⟩
      · dsimp only
        rw [first.bad, rest.bad]
        rfl
      · rw [first.bytes]
        exact written_append a (bs.length / ((r :: rs).length + 1)) x bs _

theorem Hub.laneForget_rings (n id : Nat) (h : Hub) : (h.laneForget n id).rings = h.rings :=
  Hub.upto_rel (Rel := fun a b => b.rings = a.rings) (fun _ => rfl) (fun _ _ _ x y => y.trans x) (fun _ _ g => by
    split <;> rfl) h

theorem Hub.laneForget_out (n id : Nat) (h : Hub) : (h.laneForget n id).out = h.out :=
  Hub.upto_rel (Rel := fun a b => b.out = a.out) (fun _ => rfl) (fun _ _ _ x y => y.trans x) (fun _ _ g => by
    split <;> rfl) h

/-- What the end of a lane descriptor takes from one port. -/
def PortS.forget (n id : Nat) (x : PortS) : PortS :=
  { x with sends := x.sends.filter (· != (n, id)), recvs := x.recvs.filter fun r => !(r.ring == n && r.desc == id) }

def Hub.forgetOn (n id p : Nat) (g : Hub) : Hub :=
  if (g.port p).sends.any (· == (n, id)) ∨ (g.port p).recvs.any fun r => r.ring == n && r.desc == id then
    g.onPort p (PortS.forget n id)
  else g

theorem Hub.laneForget_eq (n id : Nat) (h : Hub) : h.laneForget n id = h.upto 32 (Hub.forgetOn n id) := rfl

theorem Hub.forgetOn_port (n id p : Nat) (g : Hub) : (g.forgetOn n id p).port p = (g.port p).forget n id := by
  unfold Hub.forgetOn
  split
  · exact Hub.port_onPort ..
  · next free =>
    simp only [not_or, Bool.not_eq_true, List.any_eq_false] at free
    obtain ⟨sends, recvs⟩ := free
    unfold PortS.forget
    rw [List.filter_eq_self.mpr fun e he => ?_, List.filter_eq_self.mpr fun r hr => ?_]
    · simpa [imp_iff_not_or] using recvs r hr
    · simpa using sends e he

theorem Hub.laneForget_port {p : Nat} (hp : p < 32) (n id : Nat) (h : Hub) : (h.laneForget n id).port p =
  (h.port p).forget n id := by
  rw [Hub.laneForget_eq]
  obtain ⟨g, before, after⟩ := Hub.upto_around (Rel := fun a b : Hub => b.port p = a.port p) (f := Hub.forgetOn n id)
    (fun _ => rfl)
    (fun _ _ _ x y => y.trans x) hp (fun j _ other g => by
      unfold Hub.forgetOn
      split
      · exact Store.get_set_ne _ _ _ other.symm
      · rfl) h
  exact after.trans ((Hub.forgetOn_port ..).trans (congrArg _ before))

theorem Hub.endWork_ser (n id st res : Nat) (h : Hub) : (h.endWork n id st res).ser = h.ser := rfl

theorem Hub.endWork_out (n id st res : Nat) (h : Hub) : (h.endWork n id st res).out = h.out := rfl

theorem Hub.laneMoved_out (n id k : Nat) (h : Hub) : (h.laneMoved n id k).out = h.out := rfl

theorem Hub.endLane_out (n id st res : Nat) (h : Hub) : (h.endLane n id st res).out = h.out :=
  (Hub.endWork_out ..).trans (Hub.laneForget_out ..)

theorem Hub.endLane_port {p : Nat} (hp : p < 32) (n id st res : Nat) (h : Hub) :
    (h.endLane n id st res).port p = (h.port p).forget n id :=
  (Hub.port_of_ser (Hub.endWork_ser ..) p).trans (Hub.laneForget_port hp n id h)

/-- A lane descriptor that has not moved ends with what it moved at once. -/
theorem Hub.endLane_desc {h : Hub} {n id m : Nat} {d : Desc} (found : h.desc n id = some d) (fresh : d.moved = 0) :
    (((h.laneMoved n id m).endLane n id 0 m).desc n id).map (fun e => (e.ended, e.status, e.moved, e.result)) = some
      (true, 0, m, m) := by
  unfold Hub.endLane Hub.endWork
  rw [Hub.desc_onDesc, Hub.desc_of_rings (Hub.laneForget_rings ..)]
  · unfold Hub.laneMoved
    rw [Hub.desc_onDesc, found]
    · simp [fresh]
    · exact fun _ => rfl
  · exact fun _ => rfl

/-- The hub after the FEC counts of a received frame. -/
def Hub.fecCounted (p fixed lost : Nat) (h : Hub) : Hub :=
  (h.add64 (R.SER_PORT_FECCORR_LO p).off (R.SER_PORT_FECCORR_HI p).off fixed).bump (R.SER_PORT_RXCNT1_FEC_UNCORR p) lost

theorem Hub.fecCounted_fits {p lost : Nat} (fixed : Nat) {h : Hub}
    (fits : h.get (R.SER_PORT_RXCNT1_FEC_UNCORR p) + lost < 2 ^ (R.SER_PORT_RXCNT1_FEC_UNCORR p).width) :
    h.fecCounted p fixed lost =
      (h.add64 (R.SER_PORT_FECCORR_LO p).off (R.SER_PORT_FECCORR_HI p).off fixed).put (R.SER_PORT_RXCNT1_FEC_UNCORR p)
        (h.get (R.SER_PORT_RXCNT1_FEC_UNCORR p) + lost) := by
  have same : (h.add64 (R.SER_PORT_FECCORR_LO p).off (R.SER_PORT_FECCORR_HI p).off fixed).get (R.SER_PORT_RXCNT1_FEC_UNCORR p) =
      h.get (R.SER_PORT_RXCNT1_FEC_UNCORR p) := by
    unfold Hub.add64
    rw [Hub.get_setReg_ne _ _ _ (by simp), Hub.get_setReg_ne _ _ _ (by simp)]
  unfold Hub.fecCounted Hub.bump
  rw [same, if_pos fits]

/-- The lanes a port uses follow from its configuration and the marks of the lanes. -/
theorem Hub.inUse_congr {h g : Hub} (p : Nat) (config : g.reg (R.SER_PORT_CFG_MODE p).off = h.reg (R.SER_PORT_CFG_MODE p).off)
    (marks : ∀ l, l < 64 → g.laneMarked l = h.laneMarked l) : g.inUse p = h.inUse p := by
  have field (f : RF) (hf : f.off = (R.SER_PORT_CFG_MODE p).off) : g.get f = h.get f := by
    unfold Hub.get
    rw [hf, config]
  have first := Hub.get_lt h (R.SER_PORT_CFG_FIRST p)
  have width := Hub.get_lt h (R.SER_PORT_CFG_WIDTH p)
  simp only at first width
  unfold Hub.inUse Hub.portLanes Hub.portMode
  rw [field (R.SER_PORT_CFG_FIRST p) rfl, field (R.SER_PORT_CFG_WIDTH p) rfl, field (R.SER_PORT_CFG_MODE p) rfl,
    field (R.SER_PORT_CFG_RATE p) rfl]
  dsimp only
  split
  · congr 1
    refine List.find?_congr fun lanes member => ?_
    obtain ⟨w, -, member⟩ := List.mem_flatMap.mp member
    obtain ⟨i, hi, rfl⟩ := List.mem_map.mp member
    rw [Bool.eq_iff_iff, List.all_eq_true, List.all_eq_true]
    refine forall₂_congr fun l hl => ?_
    obtain ⟨k, hk, rfl⟩ := List.mem_map.mp hl
    have inside : k < w := List.mem_range.mp hk
    have group : i + 1 ≤ h.get (R.SER_PORT_CFG_WIDTH p) / w := List.mem_range.mp hi
    have room := (Nat.le_div_iff_mul_le (by omega)).mp group
    rw [Nat.add_mul] at room
    rw [marks _ (by omega)]
  · refine List.filter_congr fun l member => ?_
    obtain ⟨i, hi, rfl⟩ := List.mem_map.mp member
    have := List.mem_range.mp hi
    rw [marks _ (by omega)]

theorem Hub.fecCounted_reg {p lost : Nat} (fixed : Nat) {h : Hub}
    (fits : h.get (R.SER_PORT_RXCNT1_FEC_UNCORR p) + lost < 2 ^ (R.SER_PORT_RXCNT1_FEC_UNCORR p).width) {a : Nat}
    (h0 : a ≠ 0x78100c + 64 * p) (h1 : a ≠ 0x781010 + 64 * p) (h2 : a ≠ 0x781014 + 64 * p) :
    (h.fecCounted p fixed lost).reg a = h.reg a := by
  rw [Hub.fecCounted_fits fixed fits]
  unfold Hub.put Hub.add64
  rw [Hub.reg_setReg_ne _ _ h0, Hub.reg_setReg_ne _ _ h2, Hub.reg_setReg_ne _ _ h1]

theorem Hub.fecCounted_keeps {p lost data back : Nat} {l : List Byte} {h : Hub} (hwf :
  (Instr.frameReceive p l back data lost).wf = true)
    (fixed : Nat) (fits : h.get (R.SER_PORT_RXCNT1_FEC_UNCORR p) + lost < 2 ^ (R.SER_PORT_RXCNT1_FEC_UNCORR p).width) :
    (h.fecCounted p fixed lost).get (R.SER_PORT_RXCNT1_FEC_UNCORR p) = h.get (R.SER_PORT_RXCNT1_FEC_UNCORR p) + lost ∧
      (h.fecCounted p fixed lost).portMode p = h.portMode p ∧ (h.fecCounted p fixed lost).port p = h.port p ∧
      (h.fecCounted p fixed lost).now = h.now ∧ (h.fecCounted p fixed lost).rxQuads p = h.rxQuads p ∧
      (h.fecCounted p fixed lost).rxRoom = h.rxRoom := by
  have hp : p < 32 := by simpa [Instr.wf, Ok.frameReceive] using hwf
  have reg := fun a => Hub.fecCounted_reg fixed fits (a := a)
  have field (f : RF) (h0 : f.off ≠ 0x78100c + 64 * p) (h1 : f.off ≠ 0x781010 + 64 * p) (h2 : f.off ≠ 0x781014 + 64 * p) :
      (h.fecCounted p fixed lost).get f = h.get f := by
    unfold Hub.get
    rw [reg _ h0 h1 h2]
  have ser : (h.fecCounted p fixed lost).ser = h.ser := by
    rw [Hub.fecCounted_fits fixed fits]
    rfl
  have time : (h.fecCounted p fixed lost).now = h.now := by
    rw [Hub.fecCounted_fits fixed fits]
    rfl
  refine ⟨?_, field _ (by simp only; omega) (by simp only; omega) (by simp only; omega), Hub.port_of_ser ser p, time, ?_, ?_⟩
  · rw [Hub.fecCounted_fits fixed fits, Hub.get_put_same _ _ _ (by simp)]
    exact Nat.mod_eq_of_lt fits
  · unfold Hub.rxQuads
    rw [Hub.inUse_congr p (reg _ (by simp only; omega) (by simp only; omega) (by simp only; omega))]
    intro l hl
    unfold Hub.laneMarked Hub.unitState unitOff
    rw [field _ (by simp; omega) (by simp; omega) (by simp; omega)]
  · unfold Hub.rxRoom Hub.quadUse
    simp only [Hub.port_of_ser ser]

theorem Chip.ethDrain_idle {c : Chip} {p : Nat} (idle : (c.hub.port p).rx = [] ∨ (c.hub.port p).recvs = []) (k : Nat) :
    c.ethDrain p k = c := by
  cases k with
  | zero => rfl
  | succ k =>
    unfold Chip.ethDrain
    split
    · next rx recvs =>
      rw [rx, recvs] at idle
      exact absurd idle (by simp)
    · rfl

theorem Chip.portDrain_idle {c : Chip} {p : Nat} (ethernet : c.hub.portMode p = 0)
    (idle : (c.hub.port p).rx = [] ∨ (c.hub.port p).recvs = []) : Chip.portDrain p c = c := by
  unfold Chip.portDrain
  rw [if_pos ethernet]
  exact Chip.ethDrain_idle idle _

/-- A frame that no LANE_RECV waits for is held. -/
theorem Chip.arrived_isHeld {g : Hub} {m : Mem} {p : Nat} (hp : p < 32) (mode : g.portMode p = 0) (none : (g.port p).recvs = [])
    (f : RxHeld) :
    Chip.portDrain p ⟨(g.onPort p fun x => { x with rx := x.rx ++ [f] }).rxChanged p, m⟩ =
        ⟨(g.onPort p fun x => { x with rx := x.rx ++ [f] }).rxChanged p, m⟩ ∧
      (((g.onPort p fun x => { x with rx := x.rx ++ [f] }).rxChanged p).port p).rx = (g.port p).rx ++ [f] ∧
      ((g.onPort p fun x => { x with rx := x.rx ++ [f] }).rxChanged p).get (R.SER_PORT_RXCNT1_FEC_UNCORR p) =
        g.get (R.SER_PORT_RXCNT1_FEC_UNCORR p) := by
  have pauses := (Hub.pausesOnly_rxChanged p (g.onPort p fun x => { x with rx := x.rx ++ [f] })).port p
  rw [Hub.port_onPort] at pauses
  refine ⟨Chip.portDrain_idle ?_ (Or.inr ?_), ?_, ?_⟩
  · exact (Hub.rxChanged_get p (g.onPort p fun x => { x with rx := x.rx ++ [f] }) (R.SER_PORT_CFG_MODE p) fun x => by
      simp [framed, fillReg, logReg, evtReg, within] at x
      omega).trans mode
  · rw [pauses]
    exact none
  · rw [pauses]
  · exact Hub.rxChanged_get _ _ _ fun x => by
      simp [framed, fillReg, logReg, evtReg, within] at x
      omega

/-- On an Ethernet port that is UP a received frame is counted, taken, and the port drained. -/
theorem frameReceive_next {p back fixed lost : Nat} {data : List Byte} {s : State}
    (hwf : (Instr.frameReceive p data back fixed lost).wf = true) (up : s.hub.portState p = 2)
    (mode : (s.hub.fecCounted p fixed lost).portMode p = 0) (was : s.hub.portMode p = 0) {c : Chip}
    (drained : Chip.portDrain p ⟨(s.hub.fecCounted p fixed lost).ethArrive p data back, s.mem⟩ = c) :
    exec (.frameReceive p data back fixed lost) s = .next ⟨c.hub, c.mem, s.pending⟩ := by
  unfold exec
  refine (State.actMem_next hwf _ _).trans ?_
  rw [if_pos ⟨up, by rw [was]; decide⟩]
  change Host.Outcome.next (State.mk (Chip.portDrain p ⟨if (s.hub.fecCounted p fixed lost).portMode p = 0 then
      (s.hub.fecCounted p fixed lost).ethArrive p data back else _, _⟩).hub (Chip.portDrain p ⟨if
      (s.hub.fecCounted p fixed lost).portMode p = 0 then
        (s.hub.fecCounted p fixed lost).ethArrive p data back else _, _⟩).mem _) = _
  rw [if_pos mode, drained]

theorem frameReceive_ofAGood :
    ∀ (p back fixed lost : Nat) (data : List Byte) (s : State),
    (Instr.frameReceive p data back fixed lost).wf = true →
    s.hub.portState p = 2 →
    s.hub.portMode p = 0 →
    s.hub.get (R.SER_PORT_RXCNT1_FEC_UNCORR p) + lost < 2 ^ (R.SER_PORT_RXCNT1_FEC_UNCORR p).width →
    64 ≤ data.length →
    data.length ≤ 9216 →
    data.drop (data.length - 4) = fcs (data.take (data.length - 4)) →
    s.hub.rxRoom { data := data.take (data.length - 4), time := s.hub.now - back, src := 0xFF, dst := 0, hops := 0,
                   msg := 0, offset := 0, last := true, quads := s.hub.rxQuads p } = true →
    (s.hub.port p).recvs = [] →
    ∃ t, exec (.frameReceive p data back fixed lost) s = .next t ∧ (t.hub.port p).rx = (s.hub.port p).rx ++
        [({ data := data.take (data.length - 4), time := s.hub.now - back, src := 0xFF, dst := 0, hops := 0,
            msg := 0, offset := 0, last := true, quads := s.hub.rxQuads p } : RxHeld)] ∧
      t.hub.get (R.SER_PORT_RXCNT1_FEC_UNCORR p) = s.hub.get (R.SER_PORT_RXCNT1_FEC_UNCORR p) + lost ∧ t.mem = s.mem := by
  intro p back fixed lost data s hwf up mode fits low high good room none
  obtain ⟨counted, gmode, gport, gnow, gquads, guse⟩ := Hub.fecCounted_keeps hwf fixed fits
  obtain ⟨f, hf⟩ : ∃ f : RxHeld, f =
      { data := data.take (data.length - 4), time := s.hub.now - back, src := 0xFF, dst := 0, hops := 0, msg := 0,
        offset := 0, last := true, quads := s.hub.rxQuads p } := ⟨_, rfl⟩
  rw [← hf] at room ⊢
  have kept : (s.hub.fecCounted p fixed lost).ethArrive p data back =
      ((s.hub.fecCounted p fixed lost).onPort p fun x => { x with rx := x.rx ++ [f] }).rxChanged p := by
    unfold Hub.ethArrive
    rw [gnow, gquads]
    dsimp only
    rw [if_neg (by omega), if_neg (by simp [good]; omega), guse, ← hf, room]
    rfl
  obtain ⟨held, rx, count⟩ := Chip.arrived_isHeld (m := s.mem) (by simpa [Instr.wf, Ok.frameReceive] using hwf)
    (gmode.trans mode) (by rw [gport, none]) f
  refine ⟨_, frameReceive_next hwf up (gmode.trans mode) mode
    ((congrArg (fun h => Chip.portDrain p ⟨h, s.mem⟩) kept).trans held), ?_⟩
  exact ⟨rx.trans (by rw [gport]), count.trans counted, rfl⟩

theorem frameReceive_ofABad :
    ∀ (p back fixed lost : Nat) (data : List Byte) (s : State),
    (Instr.frameReceive p data back fixed lost).wf = true →
    s.hub.portState p = 2 →
    s.hub.portMode p = 0 →
    s.hub.get (R.SER_PORT_RXCNT1_FEC_UNCORR p) + lost < 2 ^ (R.SER_PORT_RXCNT1_FEC_UNCORR p).width →
    data.length ≤ 9216 →
    (data.length < 64 ∨ data.drop (data.length - 4) ≠ fcs (data.take (data.length - 4))) →
    s.hub.get (R.SER_PORT_RXCNT_RX_BAD p) + 1 < 2 ^ (R.SER_PORT_RXCNT_RX_BAD p).width →
    (s.hub.port p).rx = [] →
    ∃ t, exec (.frameReceive p data back fixed lost) s = .next t ∧ (t.hub.port p).rx = [] ∧
      t.hub.get (R.SER_PORT_RXCNT_RX_BAD p) = s.hub.get (R.SER_PORT_RXCNT_RX_BAD p) + 1 ∧ t.mem = s.mem := by
  intro p back fixed lost data s hwf up mode fits high bad fitsBad none
  obtain ⟨-, gmode, gport, -, -, -⟩ := Hub.fecCounted_keeps hwf fixed fits
  have counted : (s.hub.fecCounted p fixed lost).get (R.SER_PORT_RXCNT_RX_BAD p) = s.hub.get (R.SER_PORT_RXCNT_RX_BAD p) := by
    unfold Hub.get
    rw [Hub.fecCounted_reg fixed fits (by simp) (by simp) (by simp)]
  have refused : (s.hub.fecCounted p fixed lost).ethArrive p data back =
      (s.hub.fecCounted p fixed lost).put (R.SER_PORT_RXCNT_RX_BAD p) (s.hub.get (R.SER_PORT_RXCNT_RX_BAD p) + 1) := by
    unfold Hub.ethArrive Hub.bump
    dsimp only
    rw [if_neg (by omega), if_pos bad, counted, if_pos fitsBad]
  refine ⟨_, frameReceive_next hwf up (gmode.trans mode) mode
    (c := ⟨(s.hub.fecCounted p fixed lost).ethArrive p data back, s.mem⟩) ?_, ?_⟩
  · rw [refused]
    exact Chip.portDrain_idle ((Hub.get_put_of_apart (Or.inl (by simp)) (by simp) _ _).trans (gmode.trans mode))
      (Or.inl (gport ▸ none))
  · dsimp only
    rw [refused, Hub.get_put_same _ _ _ (by simp)]
    exact ⟨(congrArg PortS.rx gport).trans none, Nat.mod_eq_of_lt fitsBad, rfl⟩

theorem Hub.desc_of_running {h : Hub} {op n id : Nat} {d : Desc} (run : h.running op n id = some d) :
    h.desc n id = some d ∧ dOp d.bytes = op ∧ d.started = true ∧ d.ended = false := by
  unfold Hub.running at run
  split at run
  · exact absurd run (by simp)
  · next e found =>
    split at run
    · next ok =>
      obtain ⟨op_eq, started, open_⟩ := ok
      obtain rfl : e = d := by simpa using run
      exact ⟨found, op_eq, started, by simpa using open_⟩
    · exact absurd run (by simp)

/-- A running descriptor is not considered again. -/
theorem Hub.consider_running {h : Hub} {op n id : Nat} {d : Desc} (run : h.running op n id = some d)
  : h.consider op n id = h := by
  obtain ⟨found, -, started, -⟩ := Hub.desc_of_running run
  unfold Hub.consider
  rw [found]
  dsimp only
  rw [if_pos (by simp [Hub.considers, started])]

theorem rxRecord_none {d : Desc} (flag : dLaneFlag d.bytes = false) (len : Nat) (time : Nat) :
    (if dLaneFlag d.bytes then rxRecord len 0xFF false time else []) = [] := by
  rw [flag]
  rfl

/-- The state after a held frame has gone to the LANE_RECV that waits for it. -/
structure Chip.TookFrame (c t : Chip) (p n id b : Nat) (f : RxHeld) : Prop where
  bytes : t.mem.bytes 0 (addrOff b) f.data.length = f.data
  rx : (t.hub.port p).rx = []
  recvs : (t.hub.port p).recvs = []
  desc : (t.hub.desc n id).map (fun e => (e.ended, e.status, e.moved, e.result)) = some (true, 0, f.data.length, f.data.length)
  other : ∀ sp x, ¬ (sp = 0 ∧ addrOff b ≤ x ∧ x < addrOff b + f.data.length) → t.mem.byte sp x = c.mem.byte sp x

theorem Chip.ethDrain_takes {c : Chip} (clean : c.mem.CleanDram) (calm : c.hub.on R.RAS_FLIP_CTRL_ARM = false) {p : Nat} (hp
  : p < 32)
    {f : RxHeld} {r : Recv} (rx : (c.hub.port p).rx = [f]) (recvs : (c.hub.port p).recvs = [r]) {d : Desc}
    (found : c.hub.desc r.ring r.desc = some d) (flag : dLaneFlag d.bytes = false) (room : f.data.length ≤ leAt d.bytes 40 4)
    (fresh : d.moved = 0) (dram : addrSpace (leAt d.bytes 32 8) = 0) (k : Nat) :
    Chip.TookFrame c (c.ethDrain p (k + 1)) p r.ring r.desc (leAt d.bytes 32 8) f := by
  have wrote := Chip.drainTo_clean clean calm (0x1000 + r.ring) f.quads (addrOff (leAt d.bytes 32 8)) f.data
  have write : c.laneWrite f.quads r.ring (leAt d.bytes 32 8) f.data =
      (.more f.data.length, (c.drainTo (0x1000 + r.ring) 0 f.quads (addrOff (leAt d.bytes 32 8)) f.data).chip) := by
    unfold Chip.laneWrite
    rw [dram, if_neg (by omega), if_neg (by omega), if_neg (by omega)]
    dsimp only
    rw [wrote.bad]
    rfl
  generalize (c.drainTo (0x1000 + r.ring) 0 f.quads (addrOff (leAt d.bytes 32 8)) f.data) = w at *
  obtain ⟨-, -, bytes, other, hub⟩ := wrote
  have pauses := Hub.pausesOnly_rxChanged p (w.chip.hub.onPort p fun x => { x with rx := [] })
  obtain ⟨b, port⟩ : ∃ b, ((w.chip.hub.onPort p fun x => { x with rx := [] }).rxChanged p).port p =
      { c.hub.port p with rx := [], pausing := b } := by
    have kept := pauses.port p
    rw [Hub.port_onPort, Hub.port_of_ser (show w.chip.hub.ser = c.hub.ser by rw [hub.same]) p] at kept
    exact ⟨_, kept⟩
  have desc : ((w.chip.hub.onPort p fun x => { x with rx := [] }).rxChanged p).desc r.ring r.desc = some d := by
    rw [Hub.desc_of_rings pauses.rings, ← found]
    exact Hub.desc_of_rings (show w.chip.hub.rings = c.hub.rings by rw [hub.same]) ..
  have step : c.ethDrain p (k + 1) = Chip.ethDrain p k ⟨(((w.chip.hub.onPort p fun x => { x with rx :=
    [] }).rxChanged p).laneMoved
      r.ring r.desc f.data.length).endLane r.ring r.desc 0 f.data.length, w.chip.mem⟩ := by
    conv => lhs; unfold Chip.ethDrain
    rw [rx, recvs]
    dsimp only
    rw [found]
    dsimp only
    rw [if_neg (by simp [dRoom, dRecLen, flag]; omega), flag]
    simp only [Bool.false_eq_true, if_false, List.nil_append]
    rw [write]
  generalize ((w.chip.hub.onPort p fun x => { x with rx := [] }).rxChanged p) = g at *
  have ended := Hub.endLane_port hp r.ring r.desc 0 f.data.length (g.laneMoved r.ring r.desc f.data.length)
  rw [Hub.port_of_ser (show (g.laneMoved r.ring r.desc f.data.length).ser = g.ser from rfl) p, port] at ended
  have result := Hub.endLane_desc (m := f.data.length) desc fresh
  generalize (g.laneMoved r.ring r.desc f.data.length).endLane r.ring r.desc 0 f.data.length = e at *
  have none : (e.port p).rx = [] := by
    rw [ended]
    rfl
  rw [step, Chip.ethDrain_idle (Or.inl none)]
  refine ⟨Mem.bytes_of_byte fun i hi => ?_, none, ?_, result, fun sp x outside => ?_⟩
  · refine (bytes _).trans ?_
    unfold written written
    rw [if_pos (by dsimp only; omega)]
    dsimp only
    rw [Nat.add_sub_cancel_left]
  · rw [ended]
    unfold PortS.forget
    rw [recvs]
    simp
  · by_cases space : sp = 0
    · subst space
      refine (bytes x).trans ?_
      unfold written written
      rw [if_neg fun inside => outside ⟨rfl, inside⟩]
    · exact other sp x space

theorem laneRecv_storesExactlyThe :
    ∀ (n id p b : Nat) (f : RxHeld) (r : Recv) (d : Desc) (s : State),
    (Instr.laneRecv n id).wf = true →
    s.hub.running 0x21 n id = some d →
    p = leAt d.bytes 28 1 →
    s.hub.portMode p = 0 →
    p < 32 →
    (s.hub.port p).rx = [f] →
    (s.hub.port p).recvs = [r] →
    r.ring = n →
    r.desc = id →
    dLaneFlag d.bytes = false →
    f.data.length ≤ leAt d.bytes 40 4 →
    d.moved = 0 →
    b = leAt d.bytes 32 8 →
    addrSpace b = 0 →
    s.mem.dramErr = [] →
    s.hub.on R.RAS_FLIP_CTRL_ARM = false →
    ∃ t, exec (.laneRecv n id) s = .next t ∧ t.mem.bytes 0 (addrOff b) f.data.length = f.data ∧ (t.hub.port p).rx = [] ∧
      (t.hub.port p).recvs = [] ∧
      (t.hub.desc n id).map (fun (e : Desc) => (e.ended, e.status, e.moved, e.result)) = some
        (true, 0, f.data.length, f.data.length) ∧
      ∀ sp x, ¬ (sp = 0 ∧ addrOff b ≤ x ∧ x < addrOff b + f.data.length) → t.mem.byte sp x = s.mem.byte sp x := by
  intro n id p b f r d s hwf run port mode hp rx recvs hr hd flag room fresh dst into clean calm
  obtain ⟨found, -, -, -⟩ := Hub.desc_of_running run
  subst hr hd dst
  have taken := Chip.ethDrain_takes (c := ⟨s.hub, s.mem⟩)
    (Mem.cleanDram_of_nil clean) calm hp rx recvs found flag room fresh into 1
  have drained : Chip.portDrain p ⟨s.hub, s.mem⟩ = Chip.ethDrain p 2 ⟨s.hub, s.mem⟩ := by
    unfold Chip.portDrain
    rw [if_pos mode, rx, recvs]
    rfl
  refine ⟨_, (by unfold exec; exact State.actMem_next hwf _ _), ?_⟩
  dsimp only
  rw [Hub.consider_running run, run]
  dsimp only
  rw [← port, drained]
  exact ⟨taken.bytes, taken.rx, taken.recvs, taken.desc, taken.other⟩

theorem Hub.ethSend_ends {h : Hub} {n p : Nat} {d : Desc} {bs : List Byte} (found : h.desc n d.id = some d) (fresh
  : d.moved = 0) :
    Out.frame p 0 [] ((if bs.length < 60 then padTo 60 bs else bs) ++ fcs (if bs.length < 60 then padTo 60 bs else bs)) ∈
        (h.ethSend n d p bs).out ∧
      ((h.ethSend n d p bs).desc n d.id).map (fun e => (e.ended, e.status, e.moved, e.result)) = some
        (true, 0, bs.length, bs.length) := by
  obtain ⟨f, hf⟩ : ∃ f, f = if bs.length < 60 then padTo 60 bs else bs := ⟨_, rfl⟩
  obtain ⟨g, hg⟩ : ∃ g, g = if dLaneFlag d.bytes then (h.send (.frame p 0 [] (f ++ fcs f))).recordTx p
    else h.send (.frame p 0 [] (f ++ fcs f)) :=
    ⟨_, rfl⟩
  have out : g.out = Out.frame p 0 [] (f ++ fcs f) :: h.out := by
    rw [hg]
    split <;> rfl
  have rings : g.rings = h.rings := by
    rw [hg]
    split <;> rfl
  unfold Hub.ethSend
  dsimp only
  rw [← hf, ← hg]
  refine ⟨?_, Hub.endLane_desc ((Hub.desc_of_rings rings ..).trans found) fresh⟩
  rw [Hub.endLane_out, Hub.laneMoved_out, out]
  exact List.mem_cons_self ..

theorem laneSend_sendsTheFrame :
    ∀ (n id limit p a m : Nat) (host f : List Byte) (d : Desc) (s : State),
    (Instr.laneSend n id limit host).wf = true →
    s.hub.running 0x20 n id = some d →
    p = leAt d.bytes 28 1 →
    s.hub.sending p = some (n, id) →
    s.hub.portMode p = 0 →
    (s.hub.port p).paused = false →
    d.moved = 0 →
    a = leAt d.bytes 32 8 →
    m = leAt d.bytes 40 4 →
    addrSpace a = 0 →
    s.mem.dramErr = [] →
    f = (if m < 60 then padTo 60 (s.mem.bytes 0 (addrOff a) m) else s.mem.bytes 0 (addrOff a) m) →
    ∃ t, exec (.laneSend n id limit host) s = .next t ∧ Out.frame p 0 [] (f ++ fcs f) ∈ t.hub.out ∧
      (t.hub.desc n id).map (fun (e : Desc) => (e.ended, e.status, e.moved, e.result)) = some (true, 0, m, m)
        ∧ t.mem = s.mem := by
  intro n id limit p a m host f d s hwf run port sending mode free fresh src len from_ clean frame
  obtain ⟨found, -, -, -⟩ := Hub.desc_of_running run
  obtain rfl := Hub.id_of_desc found
  obtain ⟨data, bad, mem, hub⟩ := Chip.read_clean (c := ⟨s.hub, s.mem⟩) (Mem.cleanDram_of_nil clean) (0x1000 + n) (addrOff a) m
  have read : Chip.laneRead n (leAt d.bytes 32 8) (leAt d.bytes 40 4) host ⟨s.hub, s.mem⟩ =
      (.bytes (s.mem.bytes 0 (addrOff a) m), ((Chip.mk s.hub s.mem).read (0x1000 + n) 0 (addrOff a) m).chip) := by
    unfold Chip.laneRead
    rw [← src, ← len, from_, if_neg (by omega), if_neg (by omega)]
    dsimp only
    rw [bad, data]
    rfl
  generalize (Chip.mk s.hub s.mem).read (0x1000 + n) 0 (addrOff a) m = q at *
  have sent : Chip.sendGo n d limit host ⟨s.hub, s.mem⟩ = ⟨q.chip.hub.ethSend n d p (s.mem.bytes 0
    (addrOff a) m), q.chip.mem⟩ := by
    unfold Chip.sendGo
    dsimp only
    rw [← port, sending, if_neg (by simp), mode, if_neg (by omega), free, if_neg (by simp), read]
    dsimp only
    rw [show q.chip.hub.portMode p = 0 from (hub.get _ (by simp [channelReg, within]; omega)).trans mode]
    rfl
  obtain ⟨out, desc⟩ := Hub.ethSend_ends (p := p) (bs := s.mem.bytes 0 (addrOff a) m)
    ((Hub.desc_of_rings (show q.chip.hub.rings = s.hub.rings by rw [hub.same]) ..).trans found) fresh
  rw [Mem.length_bytes] at out desc
  refine ⟨_, (by unfold exec; exact State.actMem_next hwf _ _), ?_⟩
  dsimp only
  rw [Hub.consider_running run, run]
  dsimp only [Option.isSome_some]
  rw [if_pos rfl, run]
  dsimp only
  rw [sent, frame]
  exact ⟨out, desc, mem⟩

theorem pause_onAPort :
    ∀ (p quanta : Nat) (s : State),
    (Instr.pause p quanta).wf = true →
    s.hub.portState p = 2 →
    s.hub.portMode p = 0 →
    s.hub.on (R.SER_PORT_CFG_PAUSE p) = true →
    ∃ t, exec (.pause p quanta) s = .next t ∧ (t.hub.port p).paused = (quanta != 0) ∧ t.mem = s.mem := by
  intro p quanta s hwf up mode honours
  refine ⟨_, (by unfold exec; exact State.act_next hwf _ _), ?_⟩
  dsimp only
  rw [if_pos ⟨up, mode, honours⟩, Hub.port_onPort]
  exact ⟨rfl, rfl⟩

theorem pauseQuantaExpiry_resumes :
    ∀ (p : Nat) (s : State),
    (Instr.pauseQuantaExpiry p).wf = true →
    ∃ t, exec (.pauseQuantaExpiry p) s = .next t ∧ (t.hub.port p).paused = false ∧ (t.hub.port p).rx = (s.hub.port p).rx
      ∧ t.mem = s.mem := by
  intro p s hwf
  refine ⟨_, (by unfold exec; exact State.act_next hwf _ _), ?_⟩
  dsimp only
  rw [Hub.port_onPort]
  exact ⟨rfl, rfl, rfl⟩

theorem pauseRepeat_aboveT2Sends :
    ∀ (p : Nat) (s : State),
    (Instr.pauseRepeat p).wf = true →
    (s.hub.port p).pausing = true →
    s.hub.portState p = 2 →
    ((s.hub.quadsOf p).any fun q => decide (s.hub.get (R.QOS_TT0_T2 (5 + q)) ≤ s.hub.quadFill q)) = true →
    ∃ t, exec (.pauseRepeat p) s = .next t ∧ t.hub.out = Out.frame p 1 [0xFFFF] [] :: s.hub.out ∧ t.mem = s.mem := by
  intro p s hwf pausing up full
  have checked : s.hub.pauseCheck p = s.hub := by
    have low : ((s.hub.quadsOf p).all fun q => decide (s.hub.quadFill q < s.hub.get (R.QOS_TT0_T2 (5 + q)))) = false := by
      obtain ⟨q, hq, above⟩ := List.any_eq_true.mp full
      exact List.all_eq_false.mpr ⟨q, hq, by simpa using above⟩
    unfold Hub.pauseCheck
    rw [pausing, low]
    simp
  refine ⟨_, (by unfold exec; exact State.act_next hwf _ _), ?_⟩
  dsimp only
  rw [checked, if_pos ⟨pausing, up, full⟩]
  exact ⟨rfl, rfl⟩

/-- Settles O49: one lemma per clause. -/
theorem ethernetFramesMove : Obligations.EthernetFramesMove := by
  unfold Obligations.EthernetFramesMove
  exact ⟨frameReceive_ofAGood, frameReceive_ofABad, laneRecv_storesExactlyThe, laneSend_sendsTheFrame, pause_onAPort,
    pauseQuantaExpiry_resumes, pauseRepeat_aboveT2Sends⟩

end Sys2Proof.Machine
end

section
/-!
SUPPORT. What the end of a ring's work leaves
  (R111, R125): of the rings' registers, of Trim's and of the sensors', of bus mastering
and of the plans. Said once for every operation a reset of a ring runs: completions, streams that close, Spar's queue and the
accesses of stored data it takes.
-/
namespace Sys2Proof.Machine

/-- The fields this part follows: those of Trim and of the sensors, and those of the rings' registers that the end of descriptors, of
calls and of streams leaves: all but the tail and PHASE of the completion queue, the count of completions and CQ_FULL. -/
def keptField (f : RF) : Bool :=
  decide ((0x20000 ≤ f.off ∧ f.off < 0x40000) ∨
    (0x100000 ≤ f.off ∧ f.off < 0x110000 ∧ f.off % 256 ≠ 0x2c ∧ f.off % 256 ≠ 0x38 ∧ f.off % 256 ≠ 0x3c ∧
      (f.off % 256 = 0x24 → f.lo + f.width ≤ 4 ∨ 5 ≤ f.lo)))

theorem keptField_iff (f : RF) : keptField f = true ↔
    (0x20000 ≤ f.off ∧ f.off < 0x40000) ∨
    (0x100000 ≤ f.off ∧ f.off < 0x110000 ∧ f.off % 256 ≠ 0x2c ∧ f.off % 256 ≠ 0x38 ∧ f.off % 256 ≠ 0x3c ∧
      (f.off % 256 = 0x24 → f.lo + f.width ≤ 4 ∨ 5 ≤ f.lo)) := decide_eq_true_iff

/-- The offsets at which no such field lies, whatever the ring. -/
def keptFree (a : Nat) : Prop := a < 0x20000 ∨ (0x40000 ≤ a ∧ a < 0x100000) ∨ 0x110000 ≤ a

theorem off_ne_of_keptFree {a : Nat} (ha : keptFree a) {f : RF} (hf : keptField f = true) : f.off ≠ a := by
  have := (keptField_iff f).mp hf
  unfold keptFree at ha
  omega

/-- Those fields in a list of registers; 0 for any other field. -/
def keptFields (l : List (Nat × Word)) (f : RF) : Nat := if keptField f then rget l f else 0

theorem Hub.get_of_keptFields {h g : Hub} (same : keptFields g.regs = keptFields h.regs) {f : RF} (hf : keptField f = true) :
    g.get f = h.get f := by
  simpa [keptFields, hf] using congrFun same f

theorem keptFields_congr {l m : List (Nat × Word)} (same : ∀ f, keptField f = true → rget m f = rget l f) :
    keptFields m = keptFields l := by
  funext f
  unfold keptFields
  split
  · next hf => exact same f hf
  · rfl

/-! ## The register file and runs of an operation -/

@[simp] theorem above_add (m k : Nat) (hm : 0x110000 ≤ m) : 0x110000 ≤ m + k := Nat.le_add_right_of_le hm

@[simp] theorem above_add_add (m j k : Nat) (hm : 0x110000 ≤ m) : 0x110000 ≤ m + j + k := above_add _ k (above_add m j hm)

theorem keptFields_rset_free (l : List (Nat × Word)) (a : Nat) (w : Word) (ha : keptFree a) : keptFields
  (rset l a w) = keptFields l :=
  keptFields_congr fun f hf => by
    unfold rget
    rw [rword_rset_ne _ _ _ _ (off_ne_of_keptFree ha hf)]

@[simp] theorem keptFields_rset (l : List (Nat × Word)) (a : Nat) (w : Word) (ha : 0x110000 ≤ a) :
    keptFields (rset l a w) = keptFields l := keptFields_rset_free l a w (Or.inr (Or.inr ha))

@[simp] theorem keptFields_rput (l : List (Nat × Word)) (f : RF) (v : Nat) (hf : 0x110000 ≤ f.off) :
    keptFields (rput l f v) = keptFields l := keptFields_rset l f.off _ hf

@[simp] theorem keptFields_rput_low (l : List (Nat × Word)) (f : RF) (v : Nat) (hf : 0x40000 ≤ f.off ∧ f.off < 0x100000) :
    keptFields (rput l f v) = keptFields l := keptFields_rset_free l f.off _ (Or.inr (Or.inl hf))

/-- What a field must be for its write to leave the fields followed. -/
theorem keptFields_put_of_apart (h : Hub) (f : RF) (v : Nat) (inside : f.lo + f.width ≤ 32)
    (apart : ∀ g, keptField g = true → f.apart g) : keptFields (h.put f v).regs = keptFields h.regs :=
  keptFields_congr fun g hg => Hub.get_put_of_apart (apart g hg) inside h v

theorem keptFields_of_frame {W : Nat → Prop} {l m : List (Nat × Word)} (reg : ∀ a, ¬ W a → rword m a = rword l a)
    (free : ∀ a, W a → keptFree a) : keptFields m = keptFields l :=
  keptFields_congr fun f hf => by
    unfold rget
    rw [reg f.off fun w => off_ne_of_keptFree (free _ w) hf rfl]

/-- Which functions may master the bus and send MSI-X. -/
def busOf (p : PcieS) : List (Nat × Nat) × List (Nat × Nat) := (p.bme, p.msixEn)

/-- The rings whose GEN returns to 0. -/
def zeroGens (l : List (Nat × RingS)) (n : Nat) : Bool := (Store.get (fun _ => RingS.empty) l n).zeroGen

/-- Trim's plan, the one prepared, and whether a solve is posted. -/
def planOf (t : TrimS) : TrimPlan × Option TrimPlan × Bool := (t.plan, t.next, t.posted)

/-- Between `h` and `g` the fields followed, the functions, the rings whose GEN returns to 0 and Trim's plans are the same. -/
abbrev Hub.Same (h g : Hub) : Prop :=
  keptFields g.regs = keptFields h.regs ∧ busOf g.pcie = busOf h.pcie ∧ zeroGens g.rings = zeroGens h.rings ∧
    planOf g.trim = planOf h.trim

theorem Hub.Same.refl (h : Hub) : Hub.Same h h := ⟨rfl, rfl, rfl, rfl⟩

theorem Hub.Same.after {h g k : Hub} (y : Hub.Same g k) (x : Hub.Same h g) : Hub.Same h k := by
  obtain ⟨fx, bx, zx, px⟩ := x
  obtain ⟨fy, bye, zy, py⟩ := y
  exact ⟨fy.trans fx, bye.trans bx, zy.trans zx, py.trans px⟩

theorem parts_ite (p : Prop) {_ : Decidable p} :
    (∀ a b, keptFields (if p then a else b) = if p then keptFields a else keptFields b) ∧
      (∀ h g : Hub, busOf (if p then h else g).pcie = if p then busOf h.pcie else busOf g.pcie) ∧
      (∀ h g : Hub, zeroGens (if p then h else g).rings = if p then zeroGens h.rings else zeroGens g.rings) ∧
      (∀ h g : Hub, planOf (if p then h else g).trim = if p then planOf h.trim else planOf g.trim) := by
  split <;> simp

theorem Hub.Same.get {h g : Hub} (x : Hub.Same h g) {f : RF} (hf : keptField f = true) : g.get f = h.get f :=
  Hub.get_of_keptFields x.1 hf

theorem Hub.Same.zeroGen {h g : Hub} (x : Hub.Same h g) (n : Nat) : (g.ring n).zeroGen = (h.ring n).zeroGen := congrFun x.2.2.1 n

theorem Hub.Same.bus {h g : Hub} (x : Hub.Same h g) : g.pcie.bme = h.pcie.bme ∧ g.pcie.msixEn = h.pcie.msixEn :=
  by simpa [busOf] using x.2.1

theorem Hub.Same.plans {h g : Hub} (x : Hub.Same h g) :
    g.trim.plan = h.trim.plan ∧ g.trim.next = h.trim.next ∧ g.trim.posted = h.trim.posted := by
  obtain ⟨_, _, _, same⟩ := x
  simpa [planOf] using same

theorem Hub.Same.of_frame {W : Nat → Prop} {h g : Hub} (reg : ∀ a, ¬ W a → rword g.regs a = rword h.regs a)
    (free : ∀ a, W a → keptFree a) (pcie : g.pcie = h.pcie) (rings : g.rings = h.rings) (trim : g.trim = h.trim) : Hub.Same h g :=
  ⟨keptFields_of_frame reg free, by rw [pcie], by rw [rings], by rw [trim]⟩

theorem Hub.Quiet.same {W : Nat → Prop} {h g : Hub} (x : Hub.Quiet W h g) (free : ∀ a, W a → keptFree a) : Hub.Same h g :=
  .of_frame x.reg free x.pcie x.rings x.trim

/-- An operation that writes one field apart from those followed. -/
theorem Hub.put_same (h : Hub) {f : RF} (v : Nat) (free : keptFree f.off) : Hub.Same h (h.put f v) :=
  ⟨keptFields_rset_free _ _ _ free, rfl, rfl, rfl⟩

@[simp] theorem Hub.bump_same (h : Hub) (f : RF) (n : Nat) (hf : 0x110000 ≤ f.off) : Hub.Same h (h.bump f n) := by
  unfold Hub.bump
  split <;> simp [Hub.Same, hf]

@[simp] theorem Hub.add64_same (h : Hub) (lo hi n : Nat) (h1 : 0x110000 ≤ lo) (h2 : 0x110000 ≤ hi) : Hub.Same h
  (h.add64 lo hi n) := by
  simp [Hub.Same, Hub.add64, h1, h2]

theorem Hub.Same.ite {p : Prop} {_ : Decidable p} {h g k : Hub} (x : Hub.Same h g) (y : Hub.Same h k) : Hub.Same h
  (if p then g else k) := by
  split
  · exact x
  · exact y

theorem Hub.upto_same {n : Nat} {f : Nat → Hub → Hub} (h : Hub) (step : ∀ k g, Hub.Same g (f k g)) : Hub.Same h (h.upto n f) :=
  Hub.upto_rel (Rel := Hub.Same) .refl (fun _ _ _ x y => y.after x) (fun k _ g => step k g) h

theorem Hub.each_same {α : Type} {l : List α} {f : α → Hub → Hub} (h : Hub) (step : ∀ a g, Hub.Same g (f a g)) :
    Hub.Same h (h.each l f) :=
  Hub.each_rel (Rel := Hub.Same) .refl (fun _ _ _ x y => y.after x) (fun a _ g => step a g) h

theorem Chip.each_same {α : Type} {l : List α} {f : α → Chip → Chip} (c : Chip) (step : ∀ a d, Hub.Same d.hub (f a d).hub) :
    Hub.Same c.hub (Chip.each l f c).hub := by
  unfold Chip.each
  induction l generalizing c with
  | nil => exact ⟨rfl, rfl, rfl, rfl⟩
  | cons a l ih => exact (ih _).after (step a c)

/-! ## Rings -/

theorem zeroGens_setRing (h : Hub) (n : Nat) (r : RingS) (same : r.zeroGen = (h.ring n).zeroGen) :
    zeroGens (h.setRing n r).rings = zeroGens h.rings := by
  funext m
  by_cases here : m = n
  · rw [here]
    exact (congrArg RingS.zeroGen (Hub.ring_setRing_same ..)).trans same
  · exact congrArg RingS.zeroGen (Store.get_set_ne _ _ _ here)

@[simp] theorem Hub.setRing_same (n : Nat) (r : RingS) (h : Hub) (same : r.zeroGen = (h.ring n).zeroGen) : Hub.Same h
  (h.setRing n r) :=
  ⟨rfl, rfl, zeroGens_setRing h n r same, rfl⟩

@[simp] theorem Hub.onDesc_same (n id : Nat) (f : Desc → Desc) (h : Hub) : Hub.Same h
  (h.onDesc n id f) := Hub.setRing_same _ _ _ rfl

/-! ## Logs, counters, vectors and messages to sites -/

theorem keptFree_of_log (a : Nat) (x : logReg a) : keptFree a := by unfold logReg at x; unfold keptFree; omega

theorem keptFree_of_evt (a : Nat) (x : evtReg a) : keptFree a := by unfold evtReg at x; unfold keptFree; omega

theorem keptFree_of_link (a : Nat) (x : linkReg a) : keptFree a := by unfold linkReg at x; unfold keptFree; omega

theorem keptFree_of_judge (a : Nat) (x : judgeReg a) : keptFree a := by unfold judgeReg at x; unfold keptFree; omega

/-- The vector of a ring lies in its function's table. -/
theorem vec_inside (fn v : Nat) : v % vectorsOf fn < 2048 := by
  have size : 0 < vectorsOf fn ∧ vectorsOf fn ≤ 2048 := by
    unfold vectorsOf
    split <;> decide
  exact Nat.lt_of_lt_of_le (Nat.mod_lt _ size.1) size.2


@[simp] theorem Hub.logAccess_same (kind : Nat) (req : Path) (off v : Nat) (h : Hub) :
    Hub.Same h (h.logAccess kind req off v) :=
  (Hub.quiet_logAccess kind req off v h).same keptFree_of_log

@[simp] theorem Hub.rasLog_same (e : RasEntry) (h : Hub) : Hub.Same h (h.rasLog e) :=
  (Hub.quiet_rasLog e h).same keptFree_of_log

@[simp] theorem Hub.rasLogWith_same (b : Bool) (e : RasEntry) (h : Hub) :
    Hub.Same h (h.rasLogWith b e) := (Hub.quiet_rasLogWith b e h).same keptFree_of_log

@[simp] theorem Hub.warn_same (code cls detail unit : Nat) (h : Hub) :
    Hub.Same h (h.warn code cls detail unit) :=
  (Hub.quiet_warn code cls detail unit h).same keptFree_of_log

@[simp] theorem Hub.countEvents_same (code n : Nat) (h : Hub) :
    Hub.Same h (h.countEvents code n) := (Hub.quiet_countEvents h code n).same keptFree_of_evt

@[simp] theorem Hub.countEvent_same (code : Nat) (h : Hub) : Hub.Same h (h.countEvent code) :=
  Hub.countEvents_same code 1 h

theorem Hub.setPending_same (fn vec : Nat) (x : Bool) (h : Hub) (inside : vec < 2048) :
    Hub.Same h (h.setPending fn vec x) := by
  unfold Hub.setPending
  split
  · exact (Hub.quiet_put (W := logReg) h _ (Or.inl (by simp; omega))).same keptFree_of_log
  · exact ⟨rfl, rfl, rfl, rfl⟩

theorem Hub.sendVector_same (fn vec : Nat) (h : Hub) (inside : vec < 2048) :
    Hub.Same h (h.sendVector fn vec) := by
  unfold Hub.sendVector
  split
  · exact ⟨rfl, rfl, rfl, rfl⟩
  · split
    · exact Hub.setPending_same _ _ _ _ inside
    · exact ⟨rfl, rfl, rfl, rfl⟩

@[simp] theorem Hub.sendCtl_same (s : Nat) (m : CtlMsg) (h : Hub) : Hub.Same h (h.sendCtl s m) :=
  .of_frame (Hub.wide_sendCtl s m h).reg keptFree_of_link (Hub.wide_sendCtl s m h).pcie
    ((Hub.alters_sendCtl_any s m h).rings (by simp)) (Hub.wide_sendCtl s m h).trim

@[simp] theorem Hub.cltAns_same (s tag result value : Nat) (h : Hub) :
    Hub.Same h (h.cltAns s tag result value) := Hub.sendCtl_same s _ h

@[simp] theorem Hub.sendReq_same (s msg : Nat) (body : List Byte) (h : Hub) :
    Hub.Same h (h.sendReq s msg body) := Hub.sendCtl_same s _ _

/-! ## Cleats -/

theorem Hub.watchEnd_same (w : Nat) (fired : Bool) (value : Nat) (h : Hub) : Hub.Same h (h.watchEnd w fired value) := by
  refine (Hub.sendVector_same 0 _ _ (by omega)).after ?_
  cases fired <;> simp [Hub.Same]

theorem Hub.waitDone_zeroGens (v : Nat) (w : Wait) (h : Hub) : zeroGens (h.waitDone v w).rings = zeroGens h.rings := by
  unfold Hub.waitDone
  split
  · exact (Hub.onDesc_same ..).2.2.1
  · exact (Hub.cltAns_same ..).2.2.1
  · exact (Hub.watchEnd_same ..).2.2.1
  · rfl

theorem Hub.judge_same (n : Nat) (h : Hub) : Hub.Same h (h.judge n) := by
  have wide := Hub.wide_judge n h
  refine ⟨keptFields_of_frame wide.reg keptFree_of_judge, by rw [wide.pcie], ?_, by rw [wide.trim]⟩
  exact Hub.each_rel (Rel := fun g k => zeroGens k.rings = zeroGens g.rings) (fun _ => rfl) (fun _ _ _ x y => y.trans x)
    (fun w _ g => Hub.waitDone_zeroGens _ w g) _

@[simp] theorem Hub.cleatSet_same (n v : Nat) (h : Hub) : Hub.Same h (h.cleatSet n v) := by
  unfold Hub.cleatSet
  exact (Hub.judge_same ..).after ((Hub.countEvent_same ..).after (by simp [Hub.Same]))

@[simp] theorem Hub.cleatAdd_same (n v : Nat) (h : Hub) : Hub.Same h (h.cleatAdd n v) :=
  Hub.cleatSet_same n _ h

@[simp] theorem Hub.dropWaits_same (p : Wait → Bool) (h : Hub) : Hub.Same h (h.dropWaits p) := by
  simp [Hub.Same, Hub.dropWaits, Hub.showWaiters]

/-! ## A ring's completions (R117 to R121) -/

theorem Hub.fire_same (n : Nat) (h : Hub) : Hub.Same h (h.fire n) :=
  (Hub.sendVector_same _ _ _ (vec_inside _ _)).after (Hub.setRing_same n _ h rfl)

@[simp] theorem Hub.moderate_same (n status : Nat) (h : Hub) : Hub.Same h (h.moderate n status) := by
  have counted (g : Hub) (r : RingS) (same : r.zeroGen = (g.ring n).zeroGen) : Hub.Same g
    (g.setRing n r) := Hub.setRing_same n r g same
  unfold Hub.moderate
  split
  · exact ⟨rfl, rfl, rfl, rfl⟩
  · dsimp only
    split
    · exact (Hub.fire_same ..).after (counted _ _ rfl)
    · split
      · exact (counted _ _ (by rw [Hub.ring_setRing_same])).after (counted _ _ rfl)
      · exact counted _ _ rfl

/-- A write of a field of a word that no ring field lies in. -/
theorem Hub.put_same_of_mod (h : Hub) {f : RF} (v : Nat) (high : 0x100000 ≤ f.off) (free : f.off % 256 = 0x2c) :
    Hub.Same h (h.put f v) :=
  ⟨keptFields_congr fun g hg => Hub.get_put_ne _ _ _ _ fun e => by
    have kept := (keptField_iff g).mp hg
    rw [e] at kept
    omega, rfl, rfl, rfl⟩

theorem Hub.setUsed_same (n u : Nat) (h : Hub) : Hub.Same h (h.setUsed n u) := by
  have full (g : Hub) (v : Nat) : Hub.Same g (g.put (R.RING_STAT_CQ_FULL n) v) :=
    ⟨keptFields_put_of_apart _ _ _ (by simp) fun f hf => by
      have kept := (keptField_iff f).mp hf
      by_cases here : f.off = (R.RING_STAT_CQ_FULL n).off
      · simp only at here
        exact Or.inr (by simp only; omega)
      · exact Or.inl here, rfl, rfl, rfl⟩
  exact (full ..).after (Hub.setRing_same n _ h rfl)

theorem Hub.doneCount_same (n k : Nat) (h : Hub) : Hub.Same h (h.add64 (R.RING_DONE_LO n).off (R.RING_DONE_HI n).off k) :=
  ⟨keptFields_congr fun f hf => by
    have kept := (keptField_iff f).mp hf
    exact (Hub.get_setReg_ne _ _ _ fun e => by simp only at e; omega).trans
      (Hub.get_setReg_ne _ _ _ fun e => by simp only at e; omega), rfl, rfl, rfl⟩

@[simp] theorem Hub.writeCpl_same (n : Nat) (c : Cpl) (h : Hub) : Hub.Same h (h.writeCpl n c) := by
  have sent (o : Out) : Hub.Same h (h.send o) := ⟨rfl, rfl, rfl, rfl⟩
  unfold Hub.writeCpl
  exact (Hub.moderate_same ..).after ((Hub.countEvent_same ..).after ((Hub.doneCount_same ..).after ((Hub.setUsed_same ..).after
    ((Hub.put_same_of_mod _ _ (by simp only; omega) (by simp only; omega)).after ((Hub.put_same_of_mod _ _
      (by simp only; omega) (by simp only; omega)).after
    (sent _))))))

@[simp] theorem Hub.pushCpl_same (n : Nat) (c : Cpl) (h : Hub) : Hub.Same h (h.pushCpl n c) := by
  unfold Hub.pushCpl
  split
  · split <;> simp [Hub.Same]
  · exact ⟨rfl, rfl, rfl, rfl⟩

/-! ## The end of a descriptor (R140, R143, R146, R151) -/

@[simp] theorem Hub.showPools_same (h : Hub) : Hub.Same h h.showPools :=
  Hub.upto_same h fun _ _ => by simp [Hub.Same]

@[simp] theorem Hub.showTail_same (n : Nat) (h : Hub) : Hub.Same h (h.showTail n) := by
  unfold Hub.showTail
  dsimp only
  split <;> simp [Hub.Same]

@[simp] theorem Hub.signal_same (b : List Byte) (h : Hub) : Hub.Same h (h.signal b) := by
  unfold Hub.signal
  split <;> simp [Hub.Same]

@[simp] theorem Hub.settle_same (d : Desc) (energy : Nat) (h : Hub) :
    Hub.Same h (h.settle d energy) := by
  unfold Hub.settle
  split
  · exact ⟨rfl, rfl, rfl, rfl⟩
  · simp [Hub.Same, Hub.countEnergy, Hub.setBalance, planOf]

@[simp] theorem Hub.endDesc_same (n : Nat) (d : Desc) (status result energy : Nat) (h : Hub) :
    Hub.Same h (h.endDesc n d status result energy) := by
  unfold Hub.endDesc
  split <;> simp [Hub.Same, parts_ite]

@[simp] theorem Hub.closeBound_same (n : Nat) (h : Hub) : Hub.Same h (h.closeBound n) := by
  unfold Hub.closeBound
  dsimp only
  split
  · exact ⟨rfl, rfl, rfl, rfl⟩
  · split
    · exact ⟨rfl, rfl, rfl, rfl⟩
    · split <;> simp [Hub.Same]

@[simp] theorem Hub.finish_same (n : Nat) (d : Desc) (status result energy : Nat) (h : Hub) :
    Hub.Same h (h.finish n d status result energy) := by
  simp [Hub.Same, Hub.finish]

@[simp] theorem Hub.freePeak_same (b : List Byte) (h : Hub) : Hub.Same h (h.freePeak b) := by
  unfold Hub.freePeak Hub.judgePeak
  split <;> simp [Hub.Same]

@[simp] theorem Hub.finishId_same (n id status result : Nat) (h : Hub) :
    Hub.Same h (h.finishId n id status result) := by
  unfold Hub.finishId
  split
  · exact ⟨rfl, rfl, rfl, rfl⟩
  · split
    · simp [Hub.Same]
    · split <;> simp [Hub.Same]

end Sys2Proof.Machine
end

section
/-!
SUPPORT. The same under the accesses of stored data (R102, R171, R203 to R232) and under the directory
  (R174 to R185): reads, writes
and recalls write none of what is followed.
-/
namespace Sys2Proof.Machine

/-! ## Reads and writes of stored data -/

@[simp] theorem Hub.countBytes_same (write : Bool) (sp base : Nat) (h : Hub) :
    Hub.Same h (h.countBytes write sp base) := by
  unfold Hub.countBytes
  split
  · dsimp only
    split <;> simp [Hub.Same]
  · exact ⟨rfl, rfl, rfl, rfl⟩

@[simp] theorem Hub.track_same (limit unit addr : Nat) (h : Hub) :
    Hub.Same h (h.track limit unit addr).2.2 := by
  unfold Hub.track
  dsimp only
  split
  · simp [Hub.Same]
  · split
    · simp [Hub.Same]
    · split <;> simp [Hub.Same]

@[simp] theorem Hub.countCe_same (sp base : Nat) (h : Hub) : Hub.Same h (h.countCe sp base) := by
  unfold Hub.countCe
  split <;> simp [Hub.Same]

@[simp] theorem Hub.logCe_same (req sp base detail : Nat) (h : Hub) :
    Hub.Same h (h.logCe req sp base detail) := by
  simp [Hub.Same, Hub.logCe]

@[simp] theorem Hub.logUe_same (req sp base : Nat) (latent : Bool) (h : Hub) :
    Hub.Same h (h.logUe req sp base latent) := by
  unfold Hub.logUe
  split
  · simp [Hub.Same]
  · split <;> simp [Hub.Same]

@[simp] theorem Hub.logPoison_same (req sp base : Nat) (h : Hub) :
    Hub.Same h (h.logPoison req sp base) := by
  simp [Hub.Same, Hub.logPoison]

@[simp] theorem Hub.setQueue_same (p : Nat) (l : List MemReq) (h : Hub) :
    Hub.Same h (h.setQueue p l) := by
  simp [Hub.Same, Hub.setQueue]

@[simp] theorem Hub.enter_same (q : MemReq) (h : Hub) : Hub.Same h (h.enter q) := by
  exact (Hub.setQueue_same ..).after (Hub.Same.ite ⟨rfl, rfl, rfl, rfl⟩ (.refl h))

@[simp] theorem Hub.request_same (q : MemReq) (h : Hub) : Hub.Same h (h.request q) := by
  unfold Hub.request
  split
  · simp [Hub.Same]
  · split
    · simp [Hub.Same, Hub.payEnter]
    · exact ⟨rfl, rfl, rfl, rfl⟩

@[simp] theorem Hub.enqueue_same (write : Bool) (req m sp a n : Nat) (h : Hub) :
    Hub.Same h (h.enqueue write req m sp a n) := by
  unfold Hub.enqueue
  split
  · exact Hub.upto_same h fun _ g => Hub.request_same _ g
  · exact ⟨rfl, rfl, rfl, rfl⟩

@[simp] theorem Chip.readCw_same (req : Nat) (latent : Bool) (sp base : Nat) (c : Chip) :
    Hub.Same c.hub (c.readCw req latent sp base).chip.hub := by
  unfold Chip.readCw
  dsimp only
  split
  · simp [Hub.Same]
  · simp [Hub.Same]
  · simp [Hub.Same]
  · split <;> simp [Hub.Same]

@[simp] theorem Chip.readCws_same (req sp k base : Nat) (c : Chip) :
    Hub.Same c.hub (Chip.readCws req sp k base c).chip.hub := by
  induction k generalizing base c with
  | zero => exact ⟨rfl, rfl, rfl, rfl⟩
  | succ k ih =>
    unfold Chip.readCws
    dsimp only
    split <;> simp [Hub.Same, ih]

@[simp] theorem Chip.read_same (req sp a n : Nat) (c : Chip) :
    Hub.Same c.hub (c.read req sp a n).chip.hub := by
  unfold Chip.read
  split
  · exact ⟨rfl, rfl, rfl, rfl⟩
  · simp [Hub.Same]

@[simp] theorem Chip.writeCw_same (req sp base at_ : Nat) (bs : List Byte) (c : Chip) :
    Hub.Same c.hub (c.writeCw req sp base at_ bs).chip.hub := by
  unfold Chip.writeCw
  dsimp only
  split
  · simp [Hub.Same]
  · split
    · simp [Hub.Same]
    · simp [Hub.Same]
    · simp [Hub.Same]
    · split <;> simp [Hub.Same]

@[simp] theorem Chip.writeCws_same (req sp k a : Nat) (bs : List Byte) (c : Chip) :
    Hub.Same c.hub (Chip.writeCws req sp k a bs c).chip.hub := by
  induction k generalizing a bs c with
  | zero => exact ⟨rfl, rfl, rfl, rfl⟩
  | succ k ih =>
    unfold Chip.writeCws
    simp [Hub.Same, ih]

@[simp] theorem Chip.flipFire_same (req sp base : Nat) (c : Chip) :
    Hub.Same c.hub (c.flipFire req sp base).hub :=
  (Hub.rasLog_same _ _).after (by simp [Hub.Same])

@[simp] theorem Chip.writeAs_same (m req sp a : Nat) (bs : List Byte) (c : Chip) :
    Hub.Same c.hub (c.writeAs m req sp a bs).chip.hub := by
  unfold Chip.writeAs
  split
  · exact ⟨rfl, rfl, rfl, rfl⟩
  · dsimp only
    split <;> simp [Hub.Same]

@[simp] theorem Chip.writePiecesAs_same (m req sp : Nat) (l : List (Nat × List Byte)) (c : Chip) :
    Hub.Same c.hub (c.writePiecesAs m req sp l).chip.hub := by
  induction l generalizing c with
  | nil => exact ⟨rfl, rfl, rfl, rfl⟩
  | cons p ps ih =>
    unfold Chip.writePiecesAs
    simp [Hub.Same, ih]

@[simp] theorem Chip.writePieces_same (req sp : Nat) (l : List (Nat × List Byte)) (c : Chip) :
    Hub.Same c.hub (c.writePieces req sp l).chip.hub := Chip.writePiecesAs_same _ _ _ _ _

/-! ## The directory's own state -/

@[simp] theorem Hub.setEntry_same (i e : Nat) (h : Hub) : Hub.Same h (h.setEntry i e) := by
  simp [Hub.Same, Hub.setEntry, Hub.onDir]

@[simp] theorem Hub.setTxn_same (t : DirTxn) (h : Hub) : Hub.Same h (h.setTxn t) := by
  simp [Hub.Same, Hub.setTxn, Hub.showWalk, Hub.onDir]

@[simp] theorem Hub.queueBehind_same (l : Nat) (q : List DirReq) (h : Hub) :
    Hub.Same h (h.queueBehind l q) := by
  unfold Hub.queueBehind
  split
  · split <;> simp [Hub.Same]
  · exact ⟨rfl, rfl, rfl, rfl⟩

@[simp] theorem Hub.recall_same (l mask : Nat) (inv : Bool) (h : Hub) :
    Hub.Same h (h.recall l mask inv) := by
  refine Hub.upto_same h fun s g => ?_
  split <;> simp [Hub.Same]

@[simp] theorem Hub.dropOwn_same (r : DirReq) (i : Nat) (h : Hub) :
    Hub.Same h (h.dropOwn r i) := by
  unfold Hub.dropOwn
  split <;> simp [Hub.Same]

@[simp] theorem Hub.showQuery_same (h : Hub) : Hub.Same h h.showQuery := by
  unfold Hub.showQuery
  split
  · exact ⟨rfl, rfl, rfl, rfl⟩
  · dsimp only
    split <;> simp [Hub.Same]

@[simp] theorem Hub.cltApply_same (x : CltHeld) (h : Hub) : Hub.Same h (h.cltApply x) := by
  unfold Hub.cltApply Hub.cltOp Hub.cltDone
  split
  · dsimp only
    split <;> simp [Hub.Same]
  · simp [Hub.Same]

@[simp] theorem Chip.shown_same (c : Chip) : Hub.Same c.hub c.shown.hub := by
  have release : Hub.Same c.hub c.hub.cltRelease := by
    unfold Hub.cltRelease
    dsimp only
    split
    · exact Hub.each_same _ fun x g => Hub.cltApply_same x g
    · exact ⟨rfl, rfl, rfl, rfl⟩
  exact (Hub.showQuery_same _).after release

/-! ## Serving a request -/

@[simp] theorem Chip.grant_same (s msg tag l : Nat) (bare : Bool) (c : Chip) :
    Hub.Same c.hub (c.grant s msg tag l bare).hub := by
  unfold Chip.grant
  split <;> simp [Hub.Same]

@[simp] theorem Hub.ncAnswer_same (a : NcAcc) (data : List Byte) (h : Hub) :
    Hub.Same h (h.ncAnswer a data) := by
  unfold Hub.ncAnswer
  split
  · split
    · exact ⟨rfl, rfl, rfl, rfl⟩
    · split <;> exact ⟨rfl, rfl, rfl, rfl⟩
  · dsimp only
    split <;> simp [Hub.Same]
  · exact ⟨rfl, rfl, rfl, rfl⟩

@[simp] theorem Hub.ncDone_same (id : Nat) (h : Hub) : Hub.Same h (h.ncDone id) := by
  unfold Hub.ncDone
  split
  · exact ⟨rfl, rfl, rfl, rfl⟩
  · split
    · exact Hub.ncAnswer_same _ _ _
    · exact ⟨rfl, rfl, rfl, rfl⟩

theorem Chip.inEpoch_same (e l : Nat) {f : Chip → Chip} (c : Chip)
    (hf : ∀ d, Hub.Same d.hub (f d).hub) :
    Hub.Same c.hub (Chip.inEpoch e l f c).hub := by
  unfold Chip.inEpoch
  split
  · exact hf c
  · exact hf _

@[simp] theorem Chip.ncPart_same (id l : Nat) (c : Chip) :
    Hub.Same c.hub (c.ncPart id l).hub := by
  unfold Chip.ncPart
  split
  · exact ⟨rfl, rfl, rfl, rfl⟩
  · refine Chip.inEpoch_same _ _ c fun d => ?_
    dsimp only
    split
    · exact (Hub.ncDone_same _ _).after (Chip.writePieces_same _ _ _ d)
    · exact (Hub.ncDone_same _ _).after (Chip.read_same _ _ _ _ d)

@[simp] theorem Chip.dirGrant_same (r : DirReq) (l i : Nat) (bare : Bool) (c : Chip) :
    Hub.Same c.hub (c.dirGrant r l i bare).hub := by
  unfold Chip.dirGrant
  dsimp only
  split
  · simp [Hub.Same]
  · simp [Hub.Same]
  · simp [Hub.Same]
  · split <;> simp [Hub.Same]
  · split <;> simp [Hub.Same]
  · simp [Hub.Same]

@[simp] theorem Chip.dirServe_same (l i : Nat) (r : DirReq) (c : Chip) :
    Hub.Same c.hub (c.dirServe l i r).hub := by
  unfold Chip.dirServe
  split
  · simp [Hub.Same, Hub.notCoherent]
  · dsimp only
    split <;> simp [Hub.Same]

@[simp] theorem Chip.dirArrive_same (l i : Nat) (r : DirReq) (c : Chip) :
    Hub.Same c.hub (c.dirArrive l i r).hub := by
  unfold Chip.dirArrive
  split <;> simp [Hub.Same]

@[simp] theorem Chip.dirRecover_same (i : Nat) (c : Chip) : Hub.Same c.hub (c.dirRecover i).hub := by
  unfold Chip.dirRecover
  split <;> simp [Hub.Same]

@[simp] theorem Chip.dirCheck_same (req w : Nat) (c : Chip) :
    Hub.Same c.hub (c.dirCheck req w).hub := by
  have recover (k : Nat) (m : Mem) (h : Hub) : Hub.Same h (Chip.each ((List.range 8).map fun j => dirIndex k (8 * (w % 8192) + j))
      Chip.dirRecover ⟨h, m⟩).hub :=
    Chip.each_same _ Chip.dirRecover_same
  unfold Chip.dirCheck
  dsimp only
  split
  · exact ⟨rfl, rfl, rfl, rfl⟩
  · simp [Hub.Same, Hub.onDir]
  · simp [Hub.Same, recover, Hub.onDir]
  · split
    · simp [Hub.Same, recover, Hub.onDir]
    · exact (Hub.each_same _ fun _ _ => by simp [Hub.Same]).after (by simp [Hub.Same, Hub.onDir])

/-! ## Requests of the hub itself -/

@[simp] theorem Chip.dirSettle_same (l i n : Nat) (clash : Bool) (q : List DirReq) (c : Chip) :
    Hub.Same c.hub (Chip.dirSettle l i n clash q c).hub := by
  induction n generalizing clash q c with
  | zero => exact ⟨rfl, rfl, rfl, rfl⟩
  | succ n ih =>
    unfold Chip.dirSettle
    dsimp only
    split
    · exact ⟨rfl, rfl, rfl, rfl⟩
    · split <;> split <;> simp [Hub.Same, ih]

@[simp] theorem Chip.dirGather_same (req l i : Nat) (r : DirReq) (c : Chip) :
    Hub.Same c.hub (c.dirGather req l i r).hub := by
  unfold Chip.dirGather
  dsimp only
  split <;> simp [Hub.Same, Hub.onDir]

@[simp] theorem Chip.decided_same (more : Bool) (c : Chip) : Hub.Same c.hub (c.decided more).hub := by
  unfold Chip.decided
  split
  · exact ⟨rfl, rfl, rfl, rfl⟩
  · refine (Chip.shown_same _).after ((Chip.each_same _ fun l d => ?_).after ⟨rfl, rfl, rfl, rfl⟩)
    split <;> simp [Hub.Same]

@[simp] theorem Chip.probe_same (req : Nat) (write : Bool) (off n : Nat) (c : Chip) :
    Hub.Same c.hub (c.probe req write off n).hub := by
  refine Chip.each_same c fun l d => ?_
  split
  · exact ⟨rfl, rfl, rfl, rfl⟩
  · split <;> split <;> simp [Hub.Same, Chip.dirRequest]

@[simp] theorem Chip.ncAccess_same (more : Bool) (a : NcAcc) (c : Chip) :
    Hub.Same c.hub (c.ncAccess more a).hub := by
  unfold Chip.ncAccess
  split
  · split <;> simp [Hub.Same]
  · dsimp only
    refine (Chip.decided_same ..).after ((Chip.each_same _ fun l d => ?_).after ⟨rfl, rfl, rfl, rfl⟩)
    split <;> simp [Hub.Same]

end Sys2Proof.Machine
end

section
/-!
SUPPORT. The same under Spar's queue (R327 to R343) and under streams that close; and what the reset of a ring writes
  (R125, R126).
-/
namespace Sys2Proof.Machine

/-! ## Contexts of Spar -/

@[simp] theorem Hub.setCtx_same (k : Nat) (x : SparCtx) (h : Hub) : Hub.Same h (h.setCtx k x) := by
  simp [Hub.Same, Hub.setCtx, Hub.showSpar]

@[simp] theorem Hub.onCtx_same (k : Nat) (f : SparCtx → SparCtx) (h : Hub) :
    Hub.Same h (h.onCtx k f) := Hub.setCtx_same k _ h

@[simp] theorem Hub.popOp_same (k : Nat) (h : Hub) : Hub.Same h (h.popOp k) :=
  Hub.onCtx_same k _ h

@[simp] theorem Hub.endOp_same (k : Nat) (o : SparOp) (status result : Nat) (h : Hub) :
    Hub.Same h (h.endOp k o status result) :=
  (Hub.onDesc_same ..).after (Hub.popOp_same k h)

@[simp] theorem Hub.spreadTiles_same (n : Nat) (h : Hub) : Hub.Same h (h.spreadTiles n) := by
  induction n generalizing h with
  | zero => exact ⟨rfl, rfl, rfl, rfl⟩
  | succ n ih =>
    unfold Hub.spreadTiles
    split
    · exact ⟨rfl, rfl, rfl, rfl⟩
    · dsimp only
      split
      · exact ⟨rfl, rfl, rfl, rfl⟩
      · simp [Hub.Same, ih]

@[simp] theorem Hub.factorDone_same (k : Nat) (r : RunRec) (h : Hub) :
    Hub.Same h (h.factorDone k r) := by
  simp [Hub.Same, Hub.factorDone, Hub.draw]

@[simp] theorem Hub.runStop_same (k : Nat) (r : RunRec) (h : Hub) :
    Hub.Same h (h.runStop k r).2 := by
  unfold Hub.runStop
  dsimp only [Hub.draw]
  rw [apply_ite Prod.snd]
  split <;> simp [Hub.Same, parts_ite]

/-! ## Operations that begin -/

@[simp] theorem Chip.sparProbe_same (k : Nat) (write : Bool) (l : List (Nat × Nat)) (c : Chip) :
    Hub.Same c.hub (c.sparProbe k write l).hub :=
  (Chip.shown_same _).after (Chip.each_same c fun _ d => Chip.probe_same _ _ _ _ d)

@[simp] theorem Chip.sparRead_same (k : Nat) (e : Nat × Nat) (c : Chip) :
    Hub.Same c.hub (c.sparRead k e).2.hub := by
  unfold Chip.sparRead
  split <;> simp [Hub.Same]

theorem Chip.same_of_sparRead {k : Nat} {e : Nat × Nat} {b : Option (List Byte)} {c d : Chip}
    (hr : c.sparRead k e = (b, d)) : Hub.Same c.hub d.hub := by
  have same := Chip.sparRead_same k e c
  rwa [hr] at same

@[simp] theorem Chip.sparWrite_same (k a : Nat) (bs : List Byte) (c : Chip) :
    Hub.Same c.hub (c.sparWrite k a bs).chip.hub := by
  unfold Chip.sparWrite
  split
  · exact Chip.ncAccess_same _ _ c
  · simp [Hub.Same]

@[simp] theorem Chip.runOver_same (k : Nat) (o : SparOp) (e : RunEnd) (out : Option (List Byte)) (extra : Nat) (c : Chip) :
    Hub.Same c.hub (c.runOver k o e out extra).hub := by
  unfold Chip.runOver
  split
  · simp [Hub.Same]
  · dsimp only
    split <;> simp [Hub.Same]

@[simp] theorem Chip.storeLost_same (k : Nat) (o : SparOp) (c : Chip) :
    Hub.Same c.hub (c.storeLost k o).hub := by
  simp [Hub.Same, Chip.storeLost]

@[simp] theorem Chip.setupBegin_same (k : Nat) (o : SparOp) (d : Desc) (c : Chip) :
    Hub.Same c.hub (c.setupBegin k o d).hub := by
  unfold Chip.setupBegin
  dsimp only
  split
  · simp [Hub.Same]
  · split
    · next hr => simp [Hub.Same, Chip.same_of_sparRead hr]
    · next hr => split <;> simp [Hub.Same, Chip.same_of_sparRead hr]

@[simp] theorem Chip.patchGo_same (k : Nat) (o : SparOp) (d : Desc) (c : Chip) :
    Hub.Same c.hub (c.patchGo k o d).hub := by
  unfold Chip.patchGo
  dsimp only
  split
  · simp [Hub.Same]
  · split
    · simp [Hub.Same]
    · split
      · next hr => simp [Hub.Same, Chip.same_of_sparRead hr]
      · next hr =>
        have read := Chip.same_of_sparRead hr
        split
        · simp [Hub.Same, read]
        · split
          · simp [Hub.Same, read]
          · split <;> simp [Hub.Same, read]

@[simp] theorem Chip.runBegin_same (k : Nat) (o : SparOp) (d : Desc) (r : RunRec) (c : Chip) :
    Hub.Same c.hub (c.runBegin k o d r).hub := by
  unfold Chip.runBegin
  dsimp only
  split
  · simp [Hub.Same]
  · split
    · simp [Hub.Same]
    · split <;> simp [Hub.Same]

@[simp] theorem Chip.opBegin_same (k : Nat) (o : SparOp) (c : Chip) :
    Hub.Same c.hub (c.opBegin k o).hub := by
  unfold Chip.opBegin
  dsimp only
  split
  · simp [Hub.Same]
  · split
    · simp [Hub.Same]
    · split
      · simp [Hub.Same]
      · split <;> simp [Hub.Same]

@[simp] theorem Chip.sparServe_same (n : Nat) (c : Chip) : Hub.Same c.hub (c.sparServe n).hub := by
  induction n generalizing c with
  | zero => exact Hub.spreadTiles_same _ _
  | succ n ih =>
    unfold Chip.sparServe
    split
    · simp [Hub.Same]
    · split <;> simp [Hub.Same, ih]

@[simp] theorem Chip.sparGo_same (c : Chip) : Hub.Same c.hub c.sparGo.hub := by
  unfold Chip.sparGo
  generalize 600 = n
  exact Chip.sparServe_same n c

@[simp] theorem Chip.sparDropRing_same (n : Nat) (c : Chip) : Hub.Same c.hub (c.sparDropRing n).hub := by
  have filtered (k : Nat) (g : Hub) : Hub.Same g (if (g.ctx k).queue.any (fun p => p.ring == n) then
      g.onCtx k fun x => { x with queue := x.queue.filter fun p => p.ring != n } else g) :=
    .ite (Hub.onCtx_same ..) (.refl g)
  unfold Chip.sparDropRing
  dsimp only
  refine (Chip.sparGo_same _).after (Hub.upto_same c.hub fun k g => ?_)
  split
  · exact ⟨rfl, rfl, rfl, rfl⟩
  · refine (filtered k _).after ?_
    split
    · split
      · simp [Hub.Same]
      · split <;> simp [Hub.Same]
    · exact ⟨rfl, rfl, rfl, rfl⟩

/-! ## Streams that close -/

@[simp] theorem Hub.endOpen_same (s : Nat) (t : Stream) (status : Nat) (h : Hub) :
    Hub.Same h (h.endOpen s t status) := Hub.finishId_same _ _ _ _ _

@[simp] theorem Hub.sendClose_same (s : Nat) (t : Stream) (mode err : Nat) (h : Hub) :
    Hub.Same h (h.sendClose s t mode err) := Hub.sendReq_same _ _ _ _

@[simp] theorem Hub.stopAtBoundary_same (n id : Nat) (h : Hub) :
    Hub.Same h (h.stopAtBoundary n id) :=
  Hub.upto_same h fun _ g => Hub.each_same g fun _ _ => by split <;> simp [Hub.Same]

/-! ## Ring reset and function-level reset (R125, R126) -/

@[simp] theorem Hub.unlinkRing_same (n : Nat) (h : Hub) : Hub.Same h (h.unlinkRing n) :=
  Hub.upto_same h fun _ _ => ⟨rfl, rfl, rfl, rfl⟩

@[simp] theorem Hub.laneForget_same (n id : Nat) (h : Hub) : Hub.Same h (h.laneForget n id) := by
  refine Hub.upto_same h fun p g => ?_
  split <;> exact ⟨rfl, rfl, rfl, rfl⟩

/-- The hub as the reset of ring `n` begins. -/
def Hub.resetBegun (n : Nat) (zeroGen : Bool) (h : Hub) : Hub :=
  let g := (h.put (R.RING_CTRL_ENABLE n) 0).put (R.RING_STAT_STATE n) 2
  let r := g.ring n
  g.setRing n { r with held := [], pend := 0, timer := false, bound := none, zeroGen := r.zeroGen || zeroGen }

/-- After its begin a reset of a ring leaves the rings' fields. -/
theorem Chip.resetRing_same (n : Nat) (zeroGen : Bool) (c : Chip) :
    Hub.Same (c.hub.resetBegun n zeroGen) (c.resetRing n zeroGen).hub := by
  unfold Chip.resetRing Hub.resetBegun
  dsimp only
  exact (Hub.showPools_same _).after ((Hub.showTail_same ..).after ((Hub.each_same _ fun d g => by simp [Hub.Same]).after
    ((Hub.each_same _ fun d g => by simp [Hub.Same]).after ((Chip.sparDropRing_same ..).after (by simp [Hub.Same])))))

/-- The reset of an active ring leaves what this part follows as its begin left it. -/
theorem Chip.startReset_same {n : Nat} {c : Chip} (active : c.hub.ringState n = 1 ∨ c.hub.ringState n = 3) (zeroGen : Bool) :
    Hub.Same (c.hub.resetBegun n zeroGen) (c.startReset n zeroGen).hub := by
  unfold Chip.startReset
  rw [if_pos active]
  exact Chip.resetRing_same ..

theorem Hub.resetBegun_state (n : Nat) (zeroGen : Bool) (h : Hub) : (h.resetBegun n zeroGen).ringState n = 2 :=
  Hub.get_put_same (h.put (R.RING_CTRL_ENABLE n) 0) (R.RING_STAT_STATE n) 2 (by simp)

theorem Hub.resetBegun_enable (n : Nat) (zeroGen : Bool) (h : Hub) : (h.resetBegun n zeroGen).get (R.RING_CTRL_ENABLE n) = 0 :=
  (Hub.get_put_of_apart (f := R.RING_STAT_STATE n) (Or.inl (by simp)) (by simp) _ _).trans
    (Hub.get_put_same h (R.RING_CTRL_ENABLE n) 0 (by simp))

/-- A field of the status, the owner or the control word of a ring is followed. -/
theorem keptField_ring {f : RF} {n : Nat} (inside : n < 256) (word : f.off = 0x100014 + 256 * n ∨ f.off = 0x100018 + 256 * n ∨
    (f.off = 0x100024 + 256 * n ∧ (f.lo + f.width ≤ 4 ∨ 5 ≤ f.lo))) : keptField f = true :=
  (keptField_iff f).mpr (by omega)

/-- The reset of an active ring makes it RESETTING, not enabled. -/
theorem Chip.startReset_shows {n : Nat} {c : Chip} (inside : n < 256) (active : c.hub.ringState n = 1 ∨ c.hub.ringState n = 3)
    (zeroGen : Bool) :
    (c.startReset n zeroGen).hub.ringState n = 2 ∧ (c.startReset n zeroGen).hub.get (R.RING_CTRL_ENABLE n) = 0 := by
  have same := Chip.startReset_same active zeroGen
  exact ⟨(same.get (keptField_ring inside (by simp))).trans (Hub.resetBegun_state ..),
    (same.get (keptField_ring inside (by simp))).trans (Hub.resetBegun_enable ..)⟩

end Sys2Proof.Machine
end

section
/-!
SUPPORT. The end of a descriptor (R140 to R151) in steps: how it leaves its ring, and what that leaves of the ring. In a ring that is
RESETTING the end writes no completion, so that only the descriptors change.
-/
namespace Sys2Proof.Machine

/-- The hub as descriptor `d` leaves ring `n`, before its signal and its completion. -/
def Hub.leaves (n : Nat) (d : Desc) (energy : Nat) (h : Hub) : Hub :=
  let r := h.ring n
  let h := h.setRing n { r with descs := r.descs.filter fun e => e.id != d.id }
  let h := h.dropWaits fun w => w.who == .desc n d.id
  let h := h.settle d energy
  if d.started then h.put (R.DISP_RING_INFLIGHT n) (h.get (R.DISP_RING_INFLIGHT n) - 1) else h

/-- The signal of descriptor `d`, if it ends in one, then its completion. -/
def Hub.answers (n : Nat) (d : Desc) (status result energy : Nat) (h : Hub) : Hub :=
  if h.ringState n = 1 ∨ h.ringState n = 3 then
    (if h.signals (h.ringFn n) d.bytes (lateStatus d status) then h.signal d.bytes else h).pushCpl n
      { tag := dTag d.bytes, status := lateStatus d status, eclass := eclassOf energy, result := result, slot := d.slot }
  else h

theorem Hub.endDesc_eq (n : Nat) (d : Desc) (status result energy : Nat) (h : Hub) :
    h.endDesc n d status result energy = (h.leaves n d energy).answers n d status result energy := rfl

theorem Hub.leaves_same (n : Nat) (d : Desc) (energy : Nat) (h : Hub) : Hub.Same h (h.leaves n d energy) := by
  unfold Hub.leaves
  dsimp only
  split <;> simp [Hub.Same]

theorem Hub.settle_rings (d : Desc) (energy : Nat) (h : Hub) : (h.settle d energy).rings = h.rings := by
  unfold Hub.settle
  split <;> rfl

theorem Hub.showPools_rings (h : Hub) : h.showPools.rings = h.rings := by
  unfold Hub.showPools
  refine Hub.upto_rel (Rel := fun a b => b.rings = a.rings) (fun _ => rfl) (fun _ _ _ x y => y.trans x) (fun p _ g => ?_) h
  rw [Hub.put_rings, Hub.put_rings]

theorem Hub.showTail_rings (n : Nat) (h : Hub) : (h.showTail n).rings = h.rings := by
  unfold Hub.showTail
  dsimp only
  split <;> rw [Hub.put_rings, Hub.put_rings]

theorem Hub.ring_of_rings {h g : Hub} (rings : g.rings = h.rings) (n : Nat) : g.ring n = h.ring n := by
  unfold Hub.ring
  rw [rings]

theorem Hub.leaves_ring (n : Nat) (d : Desc) (energy : Nat) (h : Hub) :
    (h.leaves n d energy).ring n = { h.ring n with descs := (h.ring n).descs.filter fun e => e.id != d.id } := by
  have rings : (h.leaves n d energy).rings =
      (h.setRing n { h.ring n with descs := (h.ring n).descs.filter fun e => e.id != d.id }).rings := by
    unfold Hub.leaves
    dsimp only
    split
    · exact Hub.settle_rings ..
    · exact Hub.settle_rings ..
  rw [Hub.ring_of_rings rings, Hub.ring_setRing_same]

/-! ## A ring that is RESETTING -/

/-- From `h` to `g` ring `n` is RESETTING still and holds no descriptor it did not hold. -/
structure Hub.Drops (n : Nat) (h g : Hub) : Prop where
  state : g.ringState n = h.ringState n
  descs : ∀ d ∈ (g.ring n).descs, d ∈ (h.ring n).descs

theorem Hub.Drops.refl (n : Nat) (h : Hub) : Hub.Drops n h h := ⟨rfl, fun _ hd => hd⟩

theorem Hub.Drops.after {n : Nat} {h g k : Hub} (y : Hub.Drops n g k) (x : Hub.Drops n h g) : Hub.Drops n h k :=
  ⟨y.state.trans x.state, fun d hd => x.descs d (y.descs d hd)⟩

theorem Hub.Same.drops {n : Nat} {h g : Hub} (x : Hub.Same h g) (inside : n < 256) (rings : g.rings = h.rings) : Hub.Drops n h g :=
  ⟨x.get (keptField_ring inside (by simp)), fun d hd => by rwa [Hub.ring_of_rings rings] at hd⟩

theorem Hub.endDesc_reset {n : Nat} (inside : n < 256) {h : Hub} (resetting : h.ringState n = 2) (d : Desc) (status result energy : Nat) :
    h.endDesc n d status result energy = h.leaves n d energy := by
  have state : (h.leaves n d energy).ringState n = 2 :=
    ((Hub.leaves_same ..).get (keptField_ring inside (by simp))).trans resetting
  rw [Hub.endDesc_eq]
  unfold Hub.answers
  rw [if_neg (by omega)]

theorem Hub.leaves_drops {n : Nat} (inside : n < 256) (d : Desc) (energy : Nat) (h : Hub) : Hub.Drops n h (h.leaves n d energy) :=
  ⟨(Hub.leaves_same ..).get (keptField_ring inside (by simp)), fun e he => by
    rw [Hub.leaves_ring] at he
    exact List.mem_of_mem_filter he⟩

theorem Hub.closeBound_drops {n : Nat} (inside : n < 256) {h : Hub} (resetting : h.ringState n = 2) : Hub.Drops n h (h.closeBound n) := by
  have closed : Hub.Drops n h (h.setRing n { h.ring n with bound := none }) :=
    ⟨rfl, fun e he => by rwa [Hub.ring_setRing_same] at he⟩
  unfold Hub.closeBound
  dsimp only
  split
  · exact .refl ..
  · split
    · exact .refl ..
    · split
      · exact closed
      · rw [Hub.endDesc_reset inside (closed.state.trans resetting)]
        exact (Hub.leaves_drops inside ..).after closed

theorem Hub.finish_drops {n : Nat} (inside : n < 256) {h : Hub} (resetting : h.ringState n = 2) (d : Desc) (status result energy : Nat) :
    Hub.Drops n (h.leaves n d energy) (h.finish n d status result energy) := by
  have gone := Hub.leaves_drops inside d energy h
  unfold Hub.finish
  rw [Hub.endDesc_reset inside resetting]
  exact ((Hub.showPools_same _).drops inside (Hub.showPools_rings _)).after
    (((Hub.showTail_same ..).drops inside (Hub.showTail_rings ..)).after (Hub.closeBound_drops inside (gone.state.trans resetting)))

theorem Hub.freePeak_rings (b : List Byte) (h : Hub) : (h.freePeak b).rings = h.rings := by
  unfold Hub.freePeak Hub.judgePeak Hub.bump
  split
  · split <;> rfl
  · rfl

/-- In a RESETTING ring the end of a descriptor by its id leaves only others. -/
theorem Hub.finishId_drops {n : Nat} (inside : n < 256) {h : Hub} (resetting : h.ringState n = 2) (id status result : Nat) :
    Hub.Drops n h (h.finishId n id status result) ∧ ∀ e ∈ ((h.finishId n id status result).ring n).descs, e.id ≠ id := by
  have ends (g : Hub) (same : Hub.Same h g) (rings : g.rings = h.rings) (d : Desc) (found : h.desc n id = some d) (energy : Nat) :
      Hub.Drops n h (g.finish n d status result energy) ∧ ∀ e ∈ ((g.finish n d status result energy).ring n).descs, e.id ≠ id := by
    have first := same.drops inside rings
    have drops := Hub.finish_drops inside (first.state.trans resetting) d status result energy
    refine ⟨drops.after ((Hub.leaves_drops inside ..).after first), fun e he => ?_⟩
    have left := drops.descs e he
    rw [Hub.leaves_ring] at left
    rw [← Hub.id_of_desc found]
    simpa using (List.mem_filter.mp left).2
  unfold Hub.finishId
  split
  · next none =>
    refine ⟨.refl .., fun e he same => ?_⟩
    have := List.find?_eq_none.mp none e he
    simp [same] at this
  · next d found =>
    split
    · exact ends h (.refl h) rfl d found _
    · split
      · exact ends _ (Hub.freePeak_same ..) (Hub.freePeak_rings ..) d found _
      · exact ends (h.drew.freePeak d.bytes) ((Hub.freePeak_same d.bytes h.drew).after ⟨rfl, rfl, rfl, rfl⟩)
          (Hub.freePeak_rings d.bytes h.drew) d found _

end Sys2Proof.Machine
end

section
/-!
### Faults that escalate
-/
namespace Sys2Proof.Machine

set_option Elab.async false

/-- A fault of a ring that is ACTIVE or in ERROR resets it and marks it FAULTED. -/
theorem Chip.fault_ring {code n : Nat} {c : Chip} (inside : n < 256) (active : c.hub.ringState n = 1 ∨ c.hub.ringState n = 3) :
    (c.fault code 1 n).hub.ringState n = 2 ∧ (c.fault code 1 n).hub.get (R.RING_STAT_FAULTED n) = 1 ∧
      (c.fault code 1 n).hub.get (R.RING_CTRL_ENABLE n) = 0 := by
  have recorded (a : Nat) (low : 0x100000 ≤ a) (high : a < 0x110000) : (c.hub.faultRecord code 1 n).reg a = c.hub.reg a :=
    (Hub.quiet_faultRecord code 1 n c.hub).reg a fun x => by
      have := keptFree_of_log a x
      unfold keptFree at this
      omega
  have state : (c.hub.faultRecord code 1 n).ringState n = c.hub.ringState n := by
    unfold Hub.ringState Hub.get
    rw [recorded _ (by simp only; omega) (by simp only; omega)]
  obtain ⟨resetting, disabled⟩ := Chip.startReset_shows (c := ⟨c.hub.faultRecord code 1 n, c.mem⟩) inside
    (by rw [state]; exact active) false
  have faulted : c.fault code 1 n = ⟨((Chip.mk (c.hub.faultRecord code 1 n) c.mem).startReset n false).hub.put
    (R.RING_STAT_FAULTED n) 1,
      ((Chip.mk (c.hub.faultRecord code 1 n) c.mem).startReset n false).mem⟩ := by
    unfold Chip.fault
    rw [if_pos (by decide)]
    unfold Chip.faultReset Chip.faultRing
    rw [if_pos rfl]
    dsimp only
    rw [if_pos resetting]
  generalize (Chip.mk (c.hub.faultRecord code 1 n) c.mem).startReset n false = e at *
  rw [faulted]
  exact ⟨(Hub.get_put_of_apart (f := R.RING_STAT_FAULTED n) (Or.inr (by simp)) (by simp) _ _).trans resetting,
    Hub.get_put_same _ _ _ (by simp),
    (Hub.get_put_of_apart (f := R.RING_STAT_FAULTED n) (Or.inl (by simp)) (by simp) _ _).trans disabled⟩

theorem faultResetTimeout_ofAPending :
    ∀ (cls unit : Nat) (s : State),
    (Instr.faultResetTimeout cls unit).wf = true →
    s.hub.faultPending cls unit = true →
    s.hub.pins.d0Reset = false →
    s.hub.get R.YEW_ESC_FATALS + 1 < 2 ^ (R.YEW_ESC_FATALS).width →
    ∃ t, exec (.faultResetTimeout cls unit) s = .next t ∧ t.hub.pins.fatalN = false ∧ t.hub.boot.pend = 2 ∧
      t.hub.get R.YEW_ESC_FATALS = s.hub.get R.YEW_ESC_FATALS + 1 := by
  intro cls unit s hwf pending up fits
  obtain ⟨fatalN, -, pend, count⟩ := Hub.fatal_ends 0x05 cls unit s.hub up
  refine ⟨_, (by unfold exec; exact State.act_next hwf _ _), ?_⟩
  dsimp only
  rw [if_pos pending]
  exact ⟨fatalN, pend, count.trans (Hub.get_bump_same _ _ _ (by simp) fits)⟩

theorem mastheadWatchdog_isFatal :
    ∀ (s : State),
    s.hub.pins.d0Reset = false →
    s.hub.get R.YEW_ESC_FATALS + 1 < 2 ^ (R.YEW_ESC_FATALS).width →
    ∃ t, exec .mastheadWatchdog s = .next t ∧ t.hub.pins.fatalN = false ∧ t.hub.pins.lgN = false ∧ t.hub.boot.pend = 2 ∧
      t.hub.get R.YEW_ESC_FATALS = s.hub.get R.YEW_ESC_FATALS + 1 ∧ t.mem = s.mem := by
  intro s up fits
  obtain ⟨fatalN, lgN, pend, count⟩ := Hub.fatal_ends 0x07 0 0xFFFF s.hub up
  refine ⟨_, (by unfold exec; exact State.act_next rfl _ _), ?_⟩
  exact ⟨fatalN, lgN, pend, count.trans (Hub.get_bump_same _ _ _ (by simp) fits), rfl⟩

theorem lockstepMismatch_isFatal :
    ∀ (s : State),
    s.hub.pins.d0Reset = false →
    s.hub.get R.YEW_ESC_FATALS + 1 < 2 ^ (R.YEW_ESC_FATALS).width →
    ∃ t, exec .lockstepMismatch s = .next t ∧ t.hub.pins.fatalN = false ∧ t.hub.pins.lgN = false ∧ t.hub.boot.pend = 2 ∧
      t.hub.get R.YEW_ESC_FATALS = s.hub.get R.YEW_ESC_FATALS + 1 ∧ t.mem = s.mem := by
  intro s up fits
  obtain ⟨fatalN, lgN, pend, count⟩ := Hub.fatal_ends 0x01 0 0xFFFF s.hub up
  refine ⟨_, (by unfold exec; exact State.act_next rfl _ _), ?_⟩
  exact ⟨fatalN, lgN, pend, count.trans (Hub.get_bump_same _ _ _ (by simp) fits), rfl⟩

theorem watchdogExpiry_ofARing :
    ∀ (cls unit : Nat) (s : State),
    (Instr.watchdogExpiry cls unit).wf = true →
    cls = 1 →
    (s.hub.ringState unit = 1 ∨ s.hub.ringState unit = 3) →
    ∃ t, exec (.watchdogExpiry cls unit) s = .next t ∧ t.hub.ringState unit = 2 ∧ t.hub.get (R.RING_STAT_FAULTED unit) = 1 ∧
      t.hub.get (R.RING_CTRL_ENABLE unit) = 0 := by
  intro cls unit s hwf ring active
  subst ring
  have inside : unit < 256 := by simpa [Instr.wf, Ok.watchdogExpiry, unitNamed] using hwf
  refine ⟨_, (by unfold exec; exact State.actMem_next hwf _ _), ?_⟩
  exact Chip.fault_ring (c := ⟨s.hub, s.mem⟩) inside active

theorem watchdogExpiry_ofAUnit :
    ∀ (cls unit : Nat) (s : State),
    (Instr.watchdogExpiry cls unit).wf = true →
    faultListed cls = false →
    s.hub.pins.d0Reset = false →
    ∃ t, exec (.watchdogExpiry cls unit) s = .next t ∧ t.hub.pins.fatalN = false ∧ t.hub.pins.lgN = false
      ∧ t.hub.boot.pend = 2 ∧ t.mem = s.mem := by
  intro cls unit s hwf other up
  obtain ⟨fatalN, lgN, pend, -⟩ := Hub.fatal_ends 0x06 cls unit s.hub up
  have fatal : Chip.fault 0x61 cls unit ⟨s.hub, s.mem⟩ = ⟨s.hub.fatal 0x06 cls unit, s.mem⟩ := by
    unfold Chip.fault
    rw [other]
    rfl
  refine ⟨_, (by unfold exec; exact State.actMem_next hwf _ _), ?_⟩
  dsimp only
  rw [fatal]
  exact ⟨fatalN, lgN, pend, rfl⟩

/-- Settles O60: one lemma per clause; the FATAL ones are cases of `Hub.fatal_ends`, the one of a ring follows from what its reset leaves. -/
theorem faultsEscalate : Obligations.FaultsEscalate := by
  unfold Obligations.FaultsEscalate
  exact ⟨faultResetTimeout_ofAPending, mastheadWatchdog_isFatal, lockstepMismatch_isFatal, watchdogExpiry_ofARing,
    watchdogExpiry_ofAUnit⟩

end Sys2Proof.Machine
end

section
/-!
### Map epochs and readmission
-/
namespace Sys2Proof.Machine

set_option Elab.async false
open Hub.Alters

/-- The registers that show the spares, the command and the lookup. -/
def mapShowReg (a : Nat) : Prop := within 0x50008 0x50020 a ∨ within 0x50104 0x50110 a

theorem framed_of_mapShow {a : Nat} (x : mapShowReg a) : framed mapShowReg a := Or.inr (Or.inr x)

theorem unitOff_apart {t s p : Nat} (type : t ≤ 2) (inside : p < unitCount t) :
    0x51000 ≤ unitOff t s p ∧ unitOff t s p < 0x60000 := by
  unfold unitCount at inside
  unfold unitOff
  split_ifs at inside ⊢ <;> omega

theorem Hub.showSpares_alters (h : Hub) : Hub.Alters [] mapShowReg h h.showSpares := by
  have low {a : Nat} (x : within 0x50008 0x50020 a) : framed mapShowReg a := framed_of_mapShow (Or.inl x)
  unfold Hub.showSpares
  exact ((((self ..).put _ (low (by decide))).put _ (low (by decide))).put _ (low (by decide))).upto _ fun s hs g =>
    (self ..).put _ (low (by simp only; omega))

theorem Hub.showLookup_alters (h : Hub) : Hub.Alters [] mapShowReg h h.showLookup := by
  have shown (v w : Nat) : Hub.Alters [] mapShowReg h ((h.put R.MAP_LOOKUP_PHYS v).put R.MAP_LOOKUP_VALID w) :=
    ((self ..).put _ (framed_of_mapShow (Or.inr (by decide)))).put _ (framed_of_mapShow (Or.inr (by decide)))
  unfold Hub.showLookup
  dsimp only
  split
  · exact shown ..
  · exact shown ..

theorem Hub.mapDone_alters (st e : Nat) (h : Hub) : Hub.Alters [.map, .power] mapShowReg h
  ((h.mapDone st).put R.MAP_CMD_STAT_EPOCH e) := by
  unfold Hub.mapDone Hub.dropStep Hub.onMap
  exact (((((self ..).set_power _).set_map _).put _ (framed_of_mapShow (Or.inr (by decide)))).put _
    (framed_of_mapShow (Or.inr (by decide)))).put _ (framed_of_mapShow (Or.inr (by decide)))

/-- A field of the map outside those registers. -/
def mapField (f : RF) : Prop := 0x50000 ≤ f.off ∧ f.off < 0x60000 ∧ ¬ mapShowReg f.off

theorem mapField.free {f : RF} (x : mapField f) : ¬ framed mapShowReg f.off := by
  obtain ⟨low, high, other⟩ := x
  rintro (log | evt | reg)
  · unfold logReg at log
    omega
  · unfold evtReg at evt
    omega
  · exact other reg

theorem mapField_of_unit {t s p lo w : Nat} (type : t ≤ 2) (inside : p < unitCount t) : mapField ⟨unitOff t s p, lo, w⟩ := by
  obtain ⟨low, high⟩ := unitOff_apart (s := s) type inside
  refine ⟨by simp only; omega, high, ?_⟩
  unfold mapShowReg
  simp only
  omega

/-- What an adoption shows at its end leaves the other fields of the map. -/
theorem Hub.adoptionShown_get (h : Hub) {f : RF} (x : mapField f) (apart : R.MAP_EPOCH_STAT_QUEUED.apart f) :
    h.showSpares.showQueued.showLookup.get f = h.get f :=
  ((Hub.showLookup_alters _).get f x.free).trans ((Hub.get_put_of_apart apart (by simp) _ _).trans
    ((Hub.showSpares_alters h).get f x.free))

theorem Hub.showQueued_map (h : Hub) : h.showQueued.map = h.map := rfl

theorem Hub.adoptionShown_map (h : Hub) : h.showSpares.showQueued.showLookup.map = h.map :=
  ((Hub.showLookup_alters _).map (by simp)).trans ((Hub.showQueued_map _).trans ((Hub.showSpares_alters h).map (by simp)))

/-- The hub as an adoption begins. -/
def Hub.adoptionBegun (old : Nat) (h : Hub) : Hub :=
  ((((h.onMap fun m => { m with changes := [], prev := h.table }).put R.MAP_EPOCH_CUR (h.get R.MAP_EPOCH_CUR + 1)).put
    R.MAP_EPOCH_STAT_DRAIN 1).put R.MAP_EPOCH_STAT_OLD_TXN (satNat 16 (old + h.dir.ncs.length))).countEvent 11

theorem Hub.adoptionBegun_shows (old : Nat) {h : Hub} (fits : h.get R.MAP_EPOCH_CUR + 1 < 2 ^ (R.MAP_EPOCH_CUR).width) :
    (h.adoptionBegun old).get R.MAP_EPOCH_CUR = h.get R.MAP_EPOCH_CUR + 1 ∧ (h.adoptionBegun old).get R.MAP_EPOCH_STAT_DRAIN = 1 ∧
      (h.adoptionBegun old).get R.MAP_EPOCH_STAT_OLD_TXN = satNat 16 (old + h.dir.ncs.length) ∧
        (h.adoptionBegun old).map.changes = [] := by
  have counted (g : Hub) (f : RF) (hf : f.off < 0x60000) : (g.countEvent 11).get f = g.get f :=
    Hub.countEvent_rget _ _ _ (Or.inl (by omega))
  unfold Hub.adoptionBegun
  refine ⟨?_, ?_, ?_, (congrArg MapS.changes (Hub.quiet_countEvent _ _).map).trans rfl⟩
  · rw [counted _ _ (by simp), Hub.get_put_of_apart (Or.inl (by simp)) (by simp), Hub.get_put_of_apart (Or.inl (by simp))
    (by simp),
      Hub.get_put_same _ _ _ (by simp)]
    exact Nat.mod_eq_of_lt fits
  · rw [counted _ _ (by simp), Hub.get_put_of_apart (Or.inr (by simp)) (by simp)]
    exact Hub.get_put_same _ _ _ (by simp)
  · rw [counted _ _ (by simp), Hub.get_put_same _ _ _ (by simp)]
    exact Nat.mod_eq_of_lt (by simp only [satNat]; omega)

/-- The hub after the change of a command. -/
def Hub.commandDone (byCmd : Bool) (h : Hub) : Hub :=
  if byCmd then (h.mapDone 0).put R.MAP_CMD_STAT_EPOCH (h.get R.MAP_EPOCH_CUR) else h

theorem Hub.commandDone_alters (byCmd : Bool) (h : Hub) : Hub.Alters [.map, .power] mapShowReg h (h.commandDone byCmd) := by
  unfold Hub.commandDone
  exact branch (Hub.mapDone_alters ..) (self ..)

theorem Hub.commandDone_changes (byCmd : Bool) (h : Hub) : (h.commandDone byCmd).map.changes = h.map.changes := by
  unfold Hub.commandDone
  split <;> rfl

theorem Hub.unitOut_map (t s p st cause : Nat) (h : Hub) : (h.unitOut t s p st cause).map = h.map := by
  simp [Hub.unitOut, Hub.setState, Hub.setCause, Hub.setLogical]

theorem Hub.assign_map (t s p l : Nat) (h : Hub) : (h.assign t s p l).map = h.map := by
  simp [Hub.assign, Hub.setState, Hub.setLogical]

/-- A unit that leaves, and the spare that takes its place. -/
theorem Hub.replaced_units {h : Hub} {site p q l cause : Nat} (hp : p < 68) (hq : q < 68) (hl : l < 64) (other : p ≠ q) :
    ((h.unitOut 0 site p 2 cause).assign 0 0 q l).unitState 0 site p = 2 ∧
      ((h.unitOut 0 site p 2 cause).assign 0 0 q l).unitState 0 0 q = 0 ∧
      ((h.unitOut 0 site p 2 cause).assign 0 0 q l).unitLogical 0 0 q = l ∧
      ∀ f : RF, f.off < 0x51000 → ((h.unitOut 0 site p 2 cause).assign 0 0 q l).get f = h.get f := by
  have words : unitOff 0 site p = 0x51000 + 4 * p ∧ unitOff 0 0 q = 0x51000 + 4 * q := ⟨rfl, rfl⟩
  obtain ⟨wp, wq⟩ := words
  unfold Hub.unitOut Hub.assign Hub.unitState Hub.unitLogical Hub.setState Hub.setCause Hub.setLogical
  rw [wp, wq]
  refine ⟨?_, ?_, ?_, fun f below => ?_⟩
  · rw [Hub.get_put_of_apart (Or.inl (by simp only; omega)) (by simp), Hub.get_put_of_apart (Or.inl (by simp only; omega))
    (by simp),
      Hub.get_put_of_apart (Or.inr (by simp)) (by simp), Hub.get_put_of_apart (Or.inr (by simp)) (by simp)]
    exact Hub.get_put_same _ _ _ (by simp)
  · rw [Hub.get_put_of_apart (Or.inr (by simp)) (by simp)]
    exact Hub.get_put_same _ _ _ (by simp)
  · rw [Hub.get_put_same _ _ _ (by simp)]
    exact Nat.mod_eq_of_lt (by simp only; omega)
  · have other (g : Hub) (a lo w v : Nat) (ha : 0x51000 ≤ a) : (g.put ⟨a, lo, w⟩ v).get f = g.get f :=
      Hub.get_put_ne _ _ _ _ (by simp only; omega)
    exact (other _ _ _ _ _ (by omega)).trans ((other _ _ _ _ _ (by omega)).trans ((other _ _ _ _ _ (by omega)).trans
      ((other _ _ _ _ _ (by omega)).trans (other _ _ _ _ _ (by omega)))))

theorem Chip.leave_engine {c : Chip} {x : MapChange} (type : x.type = 0) (abort : x.abort = false) :
    c.leave x = ⟨(c.hub.unitOut 0 x.site x.phys 2 x.cause).assign 0 0 x.spare x.logical, c.mem⟩ := by
  simp [Chip.leave, type, abort, outState]

theorem Chip.applyChange_engine {c : Chip} {x : MapChange} (join : x.join = false) (type : x.type = 0) (abort : x.abort = false) :
    c.applyChange x = ⟨((c.hub.unitOut 0 x.site x.phys 2 x.cause).assign 0 0 x.spare x.logical).commandDone x.byCmd, c.mem⟩ := by
  have left : (if x.join then c.join x else c.leave x) = c.leave x := by rw [join, if_neg (by simp)]
  unfold Chip.applyChange Hub.commandDone
  rw [left, Chip.leave_engine type abort]
  by_cases command : x.byCmd = true
  · rw [command]
    rfl
  · simp only [command]
    rfl

/-- The adoption of one change that takes an engine out. -/
theorem Chip.adoptEpoch_one {c : Chip} (old : Nat) {x : MapChange} (changes : c.hub.map.changes = [x])
    (idle : c.hub.on R.MAP_EPOCH_STAT_DRAIN = false) (live : c.hub.on R.MAP_EPOCH_CUR = true)
    (fits : c.hub.get R.MAP_EPOCH_CUR + 1 < 2 ^ (R.MAP_EPOCH_CUR).width) (join : x.join = false) (type : x.type = 0)
    (abort : x.abort = false) :
    c.adoptEpoch old = ⟨((((c.hub.adoptionBegun old).unitOut 0 x.site x.phys 2 x.cause).assign 0 0 x.spare x.logical).commandDone
      x.byCmd).showSpares.showQueued.showLookup, c.mem⟩ := by
  have below : ¬ c.hub.get R.MAP_EPOCH_CUR + 1 = 2 ^ 32 := Nat.ne_of_lt fits
  have each : Chip.each c.hub.map.changes Chip.applyChange ⟨c.hub.adoptionBegun old, c.mem⟩ =
      ⟨(((c.hub.adoptionBegun old).unitOut 0 x.site x.phys 2 x.cause).assign 0 0 x.spare x.logical).commandDone x.byCmd, c.mem⟩
        := by
    rw [changes]
    exact Chip.applyChange_engine join type abort
  unfold Chip.adoptEpoch
  dsimp only
  rw [if_neg]
  · change Chip.mk (Chip.each c.hub.map.changes Chip.applyChange
    ⟨c.hub.adoptionBegun old, c.mem⟩).hub.showSpares.showQueued.showLookup
      (Chip.each c.hub.map.changes Chip.applyChange ⟨c.hub.adoptionBegun old, c.mem⟩).mem = _
    rw [each]
  · rw [changes, idle, live]
    rintro (none | on | off | full)
    · exact absurd none (by simp)
    · exact absurd on (by simp)
    · exact absurd off (by simp)
    · exact below full

theorem mapEpochAdopt_ofOneTile :
    ∀ (old : Nat) (x : MapChange) (s : State),
    (Instr.mapEpochAdopt old).wf = true →
    s.hub.map.changes = [x] →
    s.hub.on R.MAP_EPOCH_STAT_DRAIN = false →
    s.hub.on R.MAP_EPOCH_CUR = true →
    s.hub.get R.MAP_EPOCH_CUR + 1 < 2 ^ (R.MAP_EPOCH_CUR).width →
    x.join = false →
    x.type = 0 →
    x.abort = false →
    x.phys < 68 →
    x.spare < 68 →
    x.phys ≠ x.spare →
    x.logical < 64 →
    ∃ t, exec (.mapEpochAdopt old) s = .next t ∧ t.hub.get R.MAP_EPOCH_CUR = s.hub.get R.MAP_EPOCH_CUR + 1 ∧
      t.hub.get R.MAP_EPOCH_STAT_DRAIN = 1 ∧ t.hub.get R.MAP_EPOCH_STAT_OLD_TXN = satNat 16 (old + s.hub.dir.ncs.length)
        ∧ t.hub.map.changes = [] ∧
      t.hub.unitState 0 x.site x.phys = 2 ∧ t.hub.unitState 0 0 x.spare = 0 ∧ t.hub.unitLogical 0 0 x.spare = x.logical := by
  intro old x s hwf changes idle live fits join type abort hp hs apart hl
  obtain ⟨unit, spare, logical, others⟩ := Hub.replaced_units (h := s.hub.adoptionBegun old) (site := x.site)
    (cause := x.cause) hp hs hl apart
  obtain ⟨epoch, drain, txn, none⟩ := Hub.adoptionBegun_shows old fits
  have adopted := Chip.adoptEpoch_one (c := ⟨s.hub, s.mem⟩) old changes idle live fits join type abort
  refine ⟨_, (by unfold exec; exact State.actMem_next hwf _ _), ?_⟩
  dsimp only
  rw [adopted]
  generalize hg : ((s.hub.adoptionBegun old).unitOut 0 x.site x.phys 2 x.cause).assign 0 0 x.spare x.logical = g at *
  have last {f : RF} (hf : mapField f) (apart : R.MAP_EPOCH_STAT_QUEUED.apart f) :
      (g.commandDone x.byCmd).showSpares.showQueued.showLookup.get f = g.get f :=
    (Hub.adoptionShown_get _ hf apart).trans ((Hub.commandDone_alters ..).get f hf.free)
  have epochs (lo w : Nat) : mapField ⟨0x50000, lo, w⟩ := by
    refine ⟨by simp, by simp, ?_⟩
    unfold mapShowReg
    simp
  have stats (lo w : Nat) : mapField ⟨0x50004, lo, w⟩ := by
    refine ⟨by simp, by simp, ?_⟩
    unfold mapShowReg
    simp
  have none' : g.map.changes = [] := by
    rw [← hg, Hub.assign_map, Hub.unitOut_map, none]
  have unitWord (p site lo w : Nat) (inside : p < 68) : mapField ⟨unitOff 0 site p, lo, w⟩ :=
    mapField_of_unit (by omega) (by simpa [unitCount] using inside)
  have unitFree (p site lo w : Nat) : R.MAP_EPOCH_STAT_QUEUED.apart ⟨unitOff 0 site p, lo, w⟩ := Or.inl (by
    unfold unitOff
    simp
    omega)
  refine ⟨?_, ?_, ?_, ?_, ?_, ?_, ?_⟩
  · exact (last (epochs ..) (Or.inl (by simp))).trans ((others _ (by simp)).trans epoch)
  · exact (last (stats ..) (Or.inr (by simp))).trans ((others _ (by simp)).trans drain)
  · exact (last (stats ..) (Or.inr (by simp))).trans ((others _ (by simp)).trans txn)
  · rw [Hub.adoptionShown_map, Hub.commandDone_changes, none']
  · exact (last (unitWord _ _ _ _ hp) (unitFree ..)).trans unit
  · exact (last (unitWord _ _ _ _ hs) (unitFree ..)).trans spare
  · exact (last (unitWord _ _ _ _ hs) (unitFree ..)).trans logical

theorem mapDrainTimeout_againstARing :
    ∀ (cls unit : Nat) (s : State),
    (Instr.mapDrainTimeout cls unit).wf = true →
    cls = 1 →
    s.hub.on R.MAP_EPOCH_STAT_DRAIN = true →
    (s.hub.ringState unit = 1 ∨ s.hub.ringState unit = 3) →
    ∃ t, exec (.mapDrainTimeout cls unit) s = .next t ∧ t.hub.ringState unit = 2 ∧ t.hub.get (R.RING_STAT_FAULTED unit) = 1 := by
  intro cls unit s hwf ring draining active
  subst ring
  have inside : unit < 256 := by simpa [Instr.wf, Ok.mapDrainTimeout, unitNamed] using hwf
  obtain ⟨state, faulted, -⟩ := Chip.fault_ring (code := 0x60) (c := ⟨s.hub, s.mem⟩) inside active
  refine ⟨_, (by unfold exec; exact State.actMem_next hwf _ _), ?_⟩
  dsimp only
  rw [if_pos draining]
  exact ⟨state, faulted⟩

theorem mapEpochDrainEnd_endsTheDrain :
    ∀ (s : State),
    s.hub.oldHeld = false →
    ∃ t, exec .mapEpochDrainEnd s = .next t ∧ t.hub.get R.MAP_EPOCH_STAT_DRAIN = 0 ∧ t.hub.get R.MAP_EPOCH_STAT_OLD_TXN = 0 ∧
      t.hub.map = { s.hub.map with left := none } ∧ t.mem = s.mem := by
  intro s free
  refine ⟨_, (by unfold exec; exact State.act_next rfl _ _), ?_⟩
  dsimp only
  rw [free, if_neg (by simp)]
  unfold Hub.showQueued Hub.onMap
  refine ⟨?_, ?_, rfl, rfl⟩
  · rw [Hub.get_put_of_apart (Or.inr (by simp)) (by simp), Hub.get_put_of_apart (Or.inr (by simp)) (by simp)]
    exact Hub.get_put_same _ _ _ (by simp)
  · rw [Hub.get_put_of_apart (Or.inr (by simp)) (by simp)]
    exact Hub.get_put_same _ _ _ (by simp)

theorem Hub.cmd_of_readmitting {h : Hub} {n : Nat} {c : MapCmd} (waiting : h.readmitting n = some c) : h.map.cmd = some c := by
  unfold Hub.readmitting at waiting
  split at waiting
  · next d running =>
    split at waiting
    · rw [running, waiting]
    · exact absurd waiting (by simp)
  · exact absurd waiting (by simp)

theorem Hub.stageCmd_get (h : Hub) {f : RF} (hf : f.off ≠ 0x50004) : h.stageCmd.get f = h.get f := by
  unfold Hub.stageCmd
  split
  · rfl
  · unfold Hub.mapPhase Hub.onMap Hub.stageChange Hub.showQueued
    exact Hub.get_put_ne _ R.MAP_EPOCH_STAT_QUEUED _ _ hf

/-- The test of a unit of the map's own kinds. -/
theorem Hub.testUnit_tests {h : Hub} {c : MapCmd} (running : h.map.cmd = some c) (type : c.type ≤ 2) :
    (h.testUnit c).unitState c.type c.site c.phys = 4 ∧ (h.testUnit c).map.cmd = some { c with phase := 4 } := by
  unfold Hub.testUnit
  dsimp only
  rw [if_neg (by omega), if_neg (by omega)]
  unfold Hub.mapPhase Hub.onMap Hub.setState Hub.unitState
  refine ⟨Hub.get_put_same _ _ _ (by simp), ?_⟩
  change h.map.cmd.map _ = _
  rw [running]
  rfl

theorem quarantineEnd_ofAUnit :
    ∀ (c : MapCmd) (s : State),
    s.hub.readmitting 3 = some c →
    c.type ≤ 2 →
    c.phys < unitCount c.type →
    s.hub.domOn (unitDomain c.type c.site c.phys) = true →
    (s.hub.stepAdmitted 6 0 = true ∨ s.hub.riseOk (Config.testMw c.type) (s.hub.swapOf (Config.testMw c.type))
      (Config.testMw c.type) 0 = true) →
    ∃ t, exec .quarantineEnd s = .next t ∧ t.hub.unitState c.type c.site c.phys = 4
      ∧ t.hub.map.cmd = some { c with phase := 4 } := by
  intro c s waiting type inside on admitted
  have running := Hub.cmd_of_readmitting waiting
  refine ⟨_, (by unfold exec; exact State.act_next rfl _ _), ?_⟩
  dsimp only
  rw [waiting]
  dsimp only
  rw [on, if_neg (by simp)]
  by_cases held : s.hub.stepAdmitted 6 0 = true
  · rw [if_pos held]
    exact Hub.testUnit_tests running type
  · rw [if_neg held]
    unfold Hub.tryStep
    rw [if_pos (admitted.resolve_left held)]
    exact Hub.testUnit_tests ((congrArg MapS.cmd ((Hub.alters_takeStep ..).map (by simp))).trans running) type

theorem readmissionTestEnd_passedQueuesThe :
    ∀ (pass : Bool) (c : MapCmd) (s : State),
    (Instr.readmissionTestEnd pass).wf = true →
    pass = true →
    s.hub.readmitting 4 = some c →
    c.type ≤ 2 →
    c.phys < unitCount c.type →
    ∃ t, exec (.readmissionTestEnd pass) s = .next t ∧ t.hub.unitState c.type c.site c.phys = 5
      ∧ t.hub.map.cmd = some { c with phase := 2 } ∧
      t.hub.map.changes = s.hub.map.changes ++ [c.change] := by
  intro pass c s hwf passed testing type inside
  obtain ⟨low, high⟩ := unitOff_apart (s := c.site) type inside
  have running : (s.hub.setState c.type c.site c.phys 5).map.cmd = some c := Hub.cmd_of_readmitting testing
  obtain ⟨cmd, changes, -⟩ := Hub.stageCmd_queues running
  refine ⟨_, (by unfold exec; exact State.act_next hwf _ _), ?_⟩
  dsimp only
  rw [testing]
  dsimp only
  rw [if_neg (by simp [passed]), if_neg (by omega)]
  unfold Hub.readmitPasses
  dsimp only
  rw [if_neg (by omega)]
  refine ⟨(Hub.stageCmd_get _ (by simp only; omega)).trans (Hub.get_put_same _ _ _ (by simp)), cmd, changes⟩

theorem Hub.mapDone_get (st : Nat) (h : Hub) {f : RF} (hf : f.off ≠ 0x50104) : (h.mapDone st).get f = h.get f :=
  (Hub.get_put_ne _ R.MAP_CMD_STAT_STATUS _ _ hf).trans (Hub.get_put_ne _ R.MAP_CMD_STAT_BUSY _ _ hf)

theorem Hub.mapDone_ends (st : Nat) (h : Hub) : (h.mapDone st).map.cmd = none ∧
  (h.mapDone st).get R.MAP_CMD_STAT_STATUS = st % 2 ^ 4 :=
  ⟨rfl, Hub.get_put_same _ R.MAP_CMD_STAT_STATUS _ (by simp)⟩

/-- What a failure writes to its unit's word. -/
theorem Hub.unitFailed_word (t s p st : Nat) (h : Hub) :
    (((h.unitFailed t s p).setState t s p st).unitState t s p = st % 2 ^ 3) ∧
      ((h.unitFailed t s p).setState t s p st).get ⟨unitOff t s p, 4, 4⟩ = 7 ∧
      ((h.unitFailed t s p).setState t s p st).get ⟨unitOff t s p, 12, 4⟩ = min 15 (h.get ⟨unitOff t s p, 12, 4⟩ + 1) := by
  have beside (g : Hub) (a v lo width : Nat) (other : 3 ≤ lo) : (g.put ⟨a, 0, 3⟩ v).get ⟨a, lo, width⟩ = g.get ⟨a, lo, width⟩ :=
    Hub.get_put_of_apart (Or.inr (Or.inl (by simp only; omega))) (by simp) _ _
  have cause (g : Hub) (a v : Nat) : (g.put ⟨a, 12, 4⟩ v).get ⟨a, 4, 4⟩ = g.get ⟨a, 4, 4⟩ :=
    Hub.get_put_of_apart (Or.inr (by simp)) (by simp) _ _
  have cause' (g : Hub) (a v : Nat) : (g.put ⟨a, 16, 11⟩ v).get ⟨a, 4, 4⟩ = g.get ⟨a, 4, 4⟩ :=
    Hub.get_put_of_apart (Or.inr (by simp)) (by simp) _ _
  unfold Hub.unitFailed Hub.unitOut Hub.setState Hub.setCause Hub.setLogical Hub.unitState
  dsimp only
  refine ⟨Hub.get_put_same _ _ _ (by simp), ?_, ?_⟩
  · rw [beside _ _ _ _ _ (by omega), cause, cause', Hub.get_put_same _ _ _ (by simp)]
    rfl
  · rw [beside _ _ _ _ _ (by omega), Hub.get_put_same _ _ _ (by simp)]
    exact Nat.mod_eq_of_lt (by simp only; omega)

/-- A test that fails retires the unit. -/
theorem Hub.readmitFails_retires {c : MapCmd} (type : c.type ≤ 2) (inside : c.phys < unitCount c.type) (h : Hub) :
    (h.readmitFails c).unitState c.type c.site c.phys = 2 ∧ (h.readmitFails c).get ⟨unitOff c.type c.site c.phys, 4, 4⟩ = 7 ∧
      (h.readmitFails c).get ⟨unitOff c.type c.site c.phys, 12, 4⟩ = min 15 (h.get ⟨unitOff c.type c.site c.phys, 12, 4⟩ + 1) ∧
      (h.readmitFails c).map.cmd = none ∧ (h.readmitFails c).get R.MAP_CMD_STAT_STATUS = 10 := by
  obtain ⟨low, high⟩ := unitOff_apart (s := c.site) type inside
  obtain ⟨state, cause, count⟩ := Hub.unitFailed_word c.type c.site c.phys 2 h
  have fails : h.readmitFails c = ((h.unitFailed c.type c.site c.phys).setState c.type c.site c.phys 2).mapDone 10 := by
    unfold Hub.readmitFails outState
    dsimp only
    rw [if_neg (by omega), if_neg (by omega), if_neg (by omega)]
  have ends := Hub.mapDone_ends 10 ((h.unitFailed c.type c.site c.phys).setState c.type c.site c.phys 2)
  rw [fails]
  exact ⟨(Hub.mapDone_get _ _ (by simp only; omega)).trans state, (Hub.mapDone_get _ _ (by simp only; omega)).trans cause,
    (Hub.mapDone_get _ _ (by simp only; omega)).trans count, ends⟩

theorem readmissionTestEnd_failedRetiresThe :
    ∀ (pass : Bool) (c : MapCmd) (s : State),
    (Instr.readmissionTestEnd pass).wf = true →
    pass = false →
    s.hub.readmitting 4 = some c →
    c.type ≤ 2 →
    c.phys < unitCount c.type →
    ∃ t, exec (.readmissionTestEnd pass) s = .next t ∧ t.hub.unitState c.type c.site c.phys = 2 ∧
      t.hub.get ⟨unitOff c.type c.site c.phys, 4, 4⟩ = 7 ∧
      t.hub.get ⟨unitOff c.type c.site c.phys, 12, 4⟩ = min 15 (s.hub.get ⟨unitOff c.type c.site c.phys, 12, 4⟩ + 1) ∧
      t.hub.map.cmd = none ∧ t.hub.get R.MAP_CMD_STAT_STATUS = 10 := by
  intro pass c s hwf failed testing type inside
  refine ⟨_, (by unfold exec; exact State.act_next hwf _ _), ?_⟩
  dsimp only
  rw [testing]
  dsimp only
  rw [if_pos (by simp [failed])]
  exact Hub.readmitFails_retires type inside s.hub

theorem readmissionTestTimeout_doesTheSame :
    ∀ (c : MapCmd) (s : State),
    s.hub.readmitting 4 = some c →
    c.type ≤ 2 →
    c.phys < unitCount c.type →
    ∃ t, exec .readmissionTestTimeout s = .next t ∧ t.hub.unitState c.type c.site c.phys = 2 ∧
      t.hub.get ⟨unitOff c.type c.site c.phys, 4, 4⟩ = 7 ∧
      t.hub.get ⟨unitOff c.type c.site c.phys, 12, 4⟩ = min 15 (s.hub.get ⟨unitOff c.type c.site c.phys, 12, 4⟩ + 1) ∧
      t.hub.map.cmd = none ∧ t.hub.get R.MAP_CMD_STAT_STATUS = 10 := by
  intro c s testing type inside
  refine ⟨_, (by unfold exec; exact State.act_next rfl _ _), ?_⟩
  dsimp only
  rw [testing]
  exact Hub.readmitFails_retires type inside s.hub

/-- Settles O27: one lemma per clause. -/
theorem mapEpochsAdopt : Obligations.MapEpochsAdopt := by
  unfold Obligations.MapEpochsAdopt
  exact ⟨mapEpochAdopt_ofOneTile, mapDrainTimeout_againstARing, mapEpochDrainEnd_endsTheDrain, quarantineEnd_ofAUnit,
    readmissionTestEnd_passedQueuesThe, readmissionTestEnd_failedRetiresThe, readmissionTestTimeout_doesTheSame⟩

end Sys2Proof.Machine
end

section
/-!
### Rings: ownership, pointers, doorbells and resets
-/
namespace Sys2Proof.Machine

set_option Elab.async false

/-! ## Pointers and slots -/

/-- What a ring's pointers show once it is cleared. -/
theorem Hub.clearRing_shows {n : Nat} (inside : n < 256) (h : Hub) :
    (h.clearRing n).get (R.RING_SQ_PTR_SQ_HEAD n) = 0 ∧ (h.clearRing n).get (R.RING_SQ_PTR_SQ_TAIL n) = 0 ∧
      (h.clearRing n).get (R.RING_CQ_PTR_CQ_TAIL n) = 0 ∧ (h.clearRing n).get (R.RING_CQ_PTR_PHASE n) = 1 ∧
      (h.clearRing n).cqHead n = 0 := by
  unfold Hub.clearRing Hub.setCqHead Hub.cqHead
  refine ⟨?_, ?_, ?_, ?_, ?_⟩ <;> simp (disch := (simp only; omega))

/-- Clearing a ring leaves the fields outside its pointers, of this block, apart from CQ_FULL. -/
theorem Hub.clearRing_get {n : Nat} {f : RF} (inside : n < 256) (low : f.off < 0x110000) (sq : f.off ≠ 0x100028 + 256 * n)
    (cq : f.off ≠ 0x10002c + 256 * n) (high : f.off ≠ 0x100040 + 256 * n) (full : RF.apart (R.RING_STAT_CQ_FULL n) f) (h : Hub) :
    (h.clearRing n).get f = h.get f := by
  unfold Hub.clearRing Hub.setCqHead
  rw [Hub.get_put_ne _ _ _ _ (by simp only; omega), Hub.get_put_ne _ _ _ _ (by simp only; omega), Hub.get_put_of_apart full
    (by simp),
    Hub.get_put_ne _ _ _ _ cq, Hub.get_put_ne _ _ _ _ high, Hub.get_put_ne _ _ _ _ cq, Hub.get_put_ne _ _ _ _ cq,
    Hub.get_put_ne _ _ _ _ sq, Hub.get_put_ne _ _ _ _ sq]

theorem Hub.cqHead_congr {h g : Hub} {n : Nat} (low : g.get (R.RING_CQ_PTR_CQ_HEAD n) = h.get (R.RING_CQ_PTR_CQ_HEAD n))
    (high : g.get (R.RING_CQ_HEAD16_BIT n) = h.get (R.RING_CQ_HEAD16_BIT n)) : g.cqHead n = h.cqHead n := by
  unfold Hub.cqHead
  rw [low, high]

theorem Hub.setCqHead_cqHead {n v : Nat} (fits : v < 2 ^ 16) (h : Hub) : (h.setCqHead n v).cqHead n = v := by
  unfold Hub.cqHead Hub.setCqHead
  rw [Hub.get_put_of_apart (f := R.RING_CQ_HEAD16_BIT n) (Or.inl (by simp)) (by simp), Hub.get_put_same _ _ _ (by simp),
    Hub.get_put_same _ _ _ (by simp)]
  simp only
  omega

theorem Hub.sizesOk_congr {h g : Hub} {n : Nat} (sq : g.get (R.RING_SIZE_SQ_LOG2 n) = h.get (R.RING_SIZE_SQ_LOG2 n))
    (cq : g.get (R.RING_SIZE_CQ_LOG2 n) = h.get (R.RING_SIZE_CQ_LOG2 n)) : g.sizesOk n = h.sizesOk n := by
  unfold Hub.sizesOk
  rw [sq, cq]

/-- The hub as RING_ENABLE of an OFF ring prepares it. -/
def Hub.enabledRing (n : Nat) (h : Hub) : Hub :=
  ((h.put (R.RING_CTRL_ENABLE n) 1).clearRing n).setRing n { RingS.empty with hints := (h.ring n).hints }

theorem Hub.enabledRing_get (n : Nat) (h : Hub) (f : RF) :
    (h.enabledRing n).get f = ((h.put (R.RING_CTRL_ENABLE n) 1).clearRing n).get f := Hub.setRing_get ..

theorem Hub.enabledRing_ring (n : Nat) (h : Hub) : (h.enabledRing n).ring n = { RingS.empty with hints := (h.ring n).hints } :=
  Hub.ring_setRing_same ..

theorem Hub.enabledRing_sizesOk {n : Nat} (inside : n < 256) (h : Hub) : (h.enabledRing n).sizesOk n = h.sizesOk n := by
  have kept (f : RF) (word : f.off = 0x100010 + 256 * n) : (h.enabledRing n).get f = h.get f :=
    (Hub.enabledRing_get ..).trans <| (Hub.clearRing_get inside (by omega) (by omega) (by omega) (by omega) (Or.inl
      (by simp only; omega)) _).trans
      (Hub.get_put_ne _ _ _ _ (by simp only; omega))
  exact Hub.sizesOk_congr (kept _ rfl) (kept _ rfl)

theorem Hub.ringEnable_off {n : Nat} (inside : n < 256) (req : Path) (h : Hub) (off : h.ringState n = 0) :
    h.ringEnable req n = if h.sizesOk n then ((h.enabledRing n).put (R.RING_STAT_STATE n) 1).put (R.RING_STAT_CAUSE n) 0
      else (h.enabledRing n).ringError n 1 := by
  unfold Hub.ringEnable
  rw [if_neg (by omega), if_pos off]
  have sizes := Hub.enabledRing_sizesOk inside h
  unfold Hub.enabledRing at sizes ⊢
  dsimp only at sizes ⊢
  rw [sizes]

theorem Hub.ringError_shows (n cause : Nat) (h : Hub) (fits : cause < 16) :
    (h.ringError n cause).ringState n = 3 ∧ (h.ringError n cause).get (R.RING_STAT_CAUSE n) = cause :=
  ⟨(Hub.get_put_of_apart (f := R.RING_STAT_CAUSE n) (Or.inr (by simp)) (by simp) _ _).trans (Hub.get_put_same _ _ _ (by simp)),
    (Hub.get_put_same _ _ _ (by simp)).trans (Nat.mod_eq_of_lt fits)⟩

/-- A doorbell the PF rings on its own ACTIVE ring, with the ring's generation. -/
theorem Hub.doorbell_taken {h : Hub} {page off : Nat} {v : Word} {f : Nat → Nat → Hub → Hub} (ready : h.ready = true)
    (own : h.ringFn page = 0) (gen : bitsOf v 16 16 = h.get (R.RING_STAT_GEN page)) (active : h.ringState page = 1) :
    h.doorbell .pf page off v f = f page (bitsOf v 0 16) h := by
  unfold Hub.doorbell
  simp [ready, own, gen, active]

theorem Hub.setUsed_ring (n u : Nat) (h : Hub) : (h.setUsed n u).ring n = { h.ring n with used := u } := by
  unfold Hub.setUsed
  exact Hub.ring_setRing_same n { h.ring n with used := u } h

theorem Hub.setUsed_get {n u : Nat} {f : RF} (word : f.off ≠ 0x100024 + 256 * n) (h : Hub) : (h.setUsed n u).get f = h.get f :=
  (Hub.get_put_ne _ _ _ _ word).trans (Hub.setRing_get ..)

theorem Hub.flushHeld_nil {h : Hub} {n : Nat} (held : (h.ring n).held = []) :
    h.flushHeld n = h.setRing n { h.ring n with held := [] } := by
  unfold Hub.flushHeld
  rw [held]
  rfl

theorem Hub.setCqHead_ring (n v : Nat) (h : Hub) : (h.setCqHead n v).ring n = h.ring n := rfl

/-- What the end of a reset leaves in the words of a ring's pointers: what clearing them wrote. -/
theorem Hub.endReset_get {n : Nat} {f : RF} (stat : f.off ≠ 0x100024 + 256 * n) (drops : f.off ≠ 0x100030 + 256 * n)
    (low : f.off ≠ 0x100038 + 256 * n) (high : f.off ≠ 0x10003c + 256 * n) (h : Hub) :
    (h.endReset n).get f = (h.clearRing n).get f := by
  unfold Hub.endReset
  dsimp only
  rw [Hub.get_put_ne _ _ _ _ stat, Hub.get_put_ne _ _ _ _ stat, Hub.get_put_ne _ _ _ _ stat, Hub.get_put_ne _ _ _ _ drops,
    Hub.get_put_ne _ _ _ _ drops, Hub.get_put_ne _ _ _ _ high, Hub.get_put_ne _ _ _ _ low, Hub.setRing_get]

theorem Hub.endReset_state (n : Nat) (h : Hub) :
    (h.endReset n).ringState n = 0 ∧
      (h.endReset n).get (R.RING_STAT_GEN n) = if (h.ring n).zeroGen then 0 else (h.get (R.RING_STAT_GEN n) + 1) % 65536 := by
  unfold Hub.endReset
  refine ⟨Hub.get_put_same _ _ _ (by simp), (Hub.get_put_of_apart (Or.inr (by simp)) (by simp) _ _).trans
    ((Hub.get_put_same _ _ _ (by simp)).trans ?_)⟩
  split
  · rfl
  · exact Nat.mod_mod _ _

/-! ## Descriptors under a reset (R125) -/

/-- The hub once a reset has ended the descriptors that do not run on and has told the others to stop. -/
def Hub.resetEnds (n : Nat) (h : Hub) : Hub :=
  Hub.each ((h.ring n).descs.filter Desc.runsOn)
    (fun d h => (h.onDesc n d.id fun x => { x with stop := true }).stopAtBoundary n d.id)
    (Hub.each ((h.ring n).descs.filter fun d => !d.runsOn) (fun d h => (h.laneForget n d.id).finishId n d.id 0 0) h)

theorem Hub.each_cons {α : Type} (a : α) (l : List α) (f : α → Hub → Hub) (h : Hub) :
    Hub.each (a :: l) f h = Hub.each l f (f a h) := rfl

theorem Hub.sendClose_rings (s : Nat) (t : Stream) (mode err : Nat) (h : Hub) : (h.sendClose s t mode err).rings = h.rings := by
  unfold Hub.sendClose Hub.sendReq
  exact (Hub.alters_sendCtl_any ..).rings (by simp)

/-- The ends of the descriptors of a list leave only others. -/
theorem Hub.each_finishId_drops {n : Nat} (inside : n < 256) (l : List Desc) {h : Hub} (resetting : h.ringState n = 2) :
    Hub.Drops n h (Hub.each l (fun d h => (h.laneForget n d.id).finishId n d.id 0 0) h) ∧
      ∀ d ∈ l, ∀ e ∈ ((Hub.each l (fun d h => (h.laneForget n d.id).finishId n d.id 0 0) h).ring n).descs, e.id ≠ d.id := by
  induction l generalizing h with
  | nil => exact ⟨.refl .., fun d hd => absurd hd (List.not_mem_nil)⟩
  | cons d l ih =>
    rw [Hub.each_cons]
    have lanes := (Hub.laneForget_same n d.id h).drops inside (Hub.laneForget_rings ..)
    obtain ⟨drops, gone⟩ := Hub.finishId_drops inside (lanes.state.trans resetting) d.id 0 0
    have first := drops.after lanes
    obtain ⟨rest, goneRest⟩ := ih (first.state.trans resetting)
    refine ⟨rest.after first, fun x hx e he => ?_⟩
    rcases List.mem_cons.mp hx with here | later
    · rw [here]
      exact gone e (rest.descs e he)
    · exact goneRest x later e he

/-- From `h`, whose ring `n` is RESETTING, to `g`: the ring is so still, and if all its descriptors have started they have still. -/
def Hub.KeepsStarted (n : Nat) (h g : Hub) : Prop :=
  h.ringState n = 2 → g.ringState n = 2 ∧ ((∀ d ∈ (h.ring n).descs, d.started = true) → ∀ d ∈ (g.ring n).descs, d.started = true)

theorem Hub.KeepsStarted.refl (n : Nat) (h : Hub) : Hub.KeepsStarted n h h := fun resetting => ⟨resetting, id⟩

theorem Hub.KeepsStarted.trans {n : Nat} {h g k : Hub} (x : Hub.KeepsStarted n h g) (y : Hub.KeepsStarted n g k) :
    Hub.KeepsStarted n h k := fun resetting =>
  have ⟨state, started⟩ := x resetting
  have ⟨state', started'⟩ := y state
  ⟨state', fun all => started' (started all)⟩

theorem Hub.Drops.keepsStarted {n : Nat} {h g : Hub} (x : Hub.Drops n h g) : Hub.KeepsStarted n h g := fun resetting =>
  ⟨x.state.trans resetting, fun all d hd => all d (x.descs d hd)⟩

theorem Hub.onDesc_keepsStarted (n id : Nat) (h : Hub) : Hub.KeepsStarted n h (h.onDesc n id
  fun x => { x with stop := true }) := by
  refine fun resetting => ⟨resetting, fun all d hd => ?_⟩
  unfold Hub.onDesc at hd
  dsimp only at hd
  rw [Hub.ring_setRing_same] at hd
  obtain ⟨e, he, rfl⟩ := List.mem_map.mp hd
  split
  · exact all e he
  · exact all e he

theorem Hub.stopAtBoundary_keepsStarted {n : Nat} (inside : n < 256) (id : Nat) (h : Hub) :
    Hub.KeepsStarted n h (h.stopAtBoundary n id) := by
  unfold Hub.stopAtBoundary
  refine Hub.upto_rel (Rel := Hub.KeepsStarted n) (.refl n) (fun _ _ _ => .trans) (fun s _ g => ?_) h
  refine Hub.each_rel (Rel := Hub.KeepsStarted n) (.refl n) (fun _ _ _ => .trans) (fun t ht k => ?_) g
  have here : t.ring = n := by
    have := (List.mem_filter.mp ht).2
    simp at this
    omega
  have closed : Hub.Drops n k (k.sendClose s t (if t.toSite then 1 else 2) 0) :=
    (Hub.sendClose_same ..).drops inside (Hub.sendClose_rings ..)
  refine closed.keepsStarted.trans fun resetting => ?_
  unfold Hub.endOpen
  rw [here]
  exact (Hub.finishId_drops inside (h := Hub.onStream _ _ _ _ _) resetting ..).1.keepsStarted resetting

/-- After a reset only descriptors that have started are left. -/
theorem Hub.resetEnds_started {n : Nat} (inside : n < 256) {h : Hub} (resetting : h.ringState n = 2) :
    ∀ d ∈ ((h.resetEnds n).ring n).descs, d.started = true := by
  unfold Hub.resetEnds
  obtain ⟨drops, gone⟩ := Hub.each_finishId_drops inside ((h.ring n).descs.filter fun d => !d.runsOn) resetting
  have stops := Hub.each_rel (Rel := Hub.KeepsStarted n) (l := (h.ring n).descs.filter Desc.runsOn)
    (f := fun d h => (h.onDesc n d.id fun x => { x with stop := true }).stopAtBoundary n d.id) (.refl n) (fun _ _ _ => .trans)
    (fun d _ g => Hub.KeepsStarted.trans (Hub.onDesc_keepsStarted n d.id g) (Hub.stopAtBoundary_keepsStarted inside d.id _))
    (Hub.each ((h.ring n).descs.filter fun d => !d.runsOn) (fun d h => (h.laneForget n d.id).finishId n d.id 0 0) h)
  refine (stops (drops.state.trans resetting)).2 fun e he => ?_
  by_cases runs : e.runsOn = true
  · unfold Desc.runsOn at runs
    simp at runs
    exact runs.1.1
  · exact absurd rfl (gone e (List.mem_filter.mpr ⟨drops.descs e he, by simp [runs]⟩) e he)

/-- The chip of a reset once the waits `p` names are dropped and Spar has dropped the ring's operations. -/
def Chip.resetStopped (p : Wait → Bool) (n : Nat) (zeroGen : Bool) (c : Chip) : Chip :=
  Chip.sparDropRing n ⟨((c.hub.resetBegun n zeroGen).dropWaits p).unlinkRing n, c.mem⟩

theorem Chip.resetStopped_same (p : Wait → Bool) (n : Nat) (zeroGen : Bool) (c : Chip) :
    Hub.Same (c.hub.resetBegun n zeroGen) (c.resetStopped p n zeroGen).hub := by
  unfold Chip.resetStopped
  exact (Chip.sparDropRing_same n _).after ((Hub.unlinkRing_same n _).after (Hub.dropWaits_same p _))

theorem Chip.resetRing_hub (n : Nat) (zeroGen : Bool) (c : Chip) :
    ∃ p, (c.resetRing n zeroGen).hub = (((c.resetStopped p n zeroGen).hub.resetEnds n).showTail n).showPools := by
  unfold Chip.resetRing Chip.resetStopped Hub.resetEnds Hub.resetBegun
  dsimp only
  exact ⟨_, rfl⟩

/-- The reset of an active ring leaves only descriptors that have started. -/
theorem Chip.startReset_started {n : Nat} {c : Chip} (inside : n < 256) (active : c.hub.ringState n = 1 ∨ c.hub.ringState n = 3)
    (zeroGen : Bool) : ∀ d ∈ ((c.startReset n zeroGen).hub.ring n).descs, d.started = true := by
  obtain ⟨p, ends⟩ := Chip.resetRing_hub n zeroGen c
  unfold Chip.startReset
  rw [if_pos active, ends, Hub.ring_of_rings (Hub.showPools_rings _), Hub.ring_of_rings (Hub.showTail_rings ..)]
  exact Hub.resetEnds_started inside (((Chip.resetStopped_same ..).get (keptField_ring inside (by simp))).trans
    (Hub.resetBegun_state ..))

/-! ## Function-level reset (R126) -/

/-- A run over a list in which `n` stands once: what holds before the turn of `n`, and what its turn brings about. -/
theorem Chip.each_around {P Q : Hub → Prop} {l : List Nat} {n : Nat} {f : Nat → Chip → Chip} (mem : n ∈ l) (once : l.Nodup)
    (before : ∀ m c, m ≠ n → P c.hub → P (f m c).hub) (turn : ∀ c, P c.hub → Q (f n c).hub)
    (after : ∀ m c, m ≠ n → Q c.hub → Q (f m c).hub) {c : Chip} (hc : P c.hub) : Q (Chip.each l f c).hub := by
  have rest (k : List Nat) (out : n ∉ k) (R : Hub → Prop) (step : ∀ m c, m ≠ n → R c.hub → R (f m c).hub) {d : Chip} (hd
    : R d.hub) :
      R (Chip.each k f d).hub := by
    unfold Chip.each
    induction k generalizing d with
    | nil => exact hd
    | cons m k ih =>
      rw [List.mem_cons, not_or] at out
      exact ih out.2 (step m d (Ne.symm out.1) hd)
  obtain ⟨s, u, rfl⟩ := List.append_of_mem mem
  obtain ⟨-, once', apart⟩ := List.nodup_append.mp once
  have outS : n ∉ s := fun hn => apart n hn n (List.mem_cons_self ..) rfl
  have split : Chip.each (s ++ n :: u) f c = Chip.each u f (f n (Chip.each s f c)) := by
    unfold Chip.each
    rw [List.foldl_append, List.foldl_cons]
  rw [split]
  exact rest u (List.nodup_cons.mp once').1 Q after (turn _ (rest s outS P before hc))

/-- What a function-level reset does to ring `m`. -/
def Chip.resetTurn (fn m : Nat) (c : Chip) : Chip :=
  if c.hub.ringFn m ≠ fn then c
  else if c.hub.ringState m = 0 then ⟨c.hub.put (R.RING_STAT_GEN m) 0, c.mem⟩
  else c.startReset m true

theorem Chip.resetRingsOf_eq (fn : Nat) (c : Chip) : c.resetRingsOf fn = Chip.each (List.range 256) (Chip.resetTurn fn) c := rfl

/-- From `h` to `g` ring `n` has its owner, its status and its GEN as they were, and the functions what they may do. -/
structure Hub.SameRing (n : Nat) (h g : Hub) : Prop where
  get : ∀ f, (f.off = 0x100018 + 256 * n ∨ (f.off = 0x100024 + 256 * n ∧ (f.lo + f.width ≤ 4 ∨ 5 ≤ f.lo))) → g.get f = h.get f
  zeroGen : (g.ring n).zeroGen = (h.ring n).zeroGen
  bus : busOf g.pcie = busOf h.pcie

theorem Hub.SameRing.refl (n : Nat) (h : Hub) : Hub.SameRing n h h := ⟨fun _ _ => rfl, rfl, rfl⟩

theorem Hub.SameRing.trans {n : Nat} {h g k : Hub} (x : Hub.SameRing n h g) (y : Hub.SameRing n g k) : Hub.SameRing n h k :=
  ⟨fun f hf => (y.get f hf).trans (x.get f hf), y.zeroGen.trans x.zeroGen, y.bus.trans x.bus⟩

theorem Hub.Same.sameRing {n : Nat} {h g : Hub} (x : Hub.Same h g) (inside : n < 256) : Hub.SameRing n h g :=
  ⟨fun _ hf => x.get (keptField_ring inside (Or.inr hf)), x.zeroGen n, x.2.1⟩

theorem Hub.SameRing.fn {n : Nat} {h g : Hub} (x : Hub.SameRing n h g) : g.ringFn n = h.ringFn n := x.get _ (by simp)

theorem Hub.SameRing.state {n : Nat} {h g : Hub} (x : Hub.SameRing n h g) : g.ringState n = h.ringState n := x.get _ (by simp)

theorem Hub.SameRing.gen {n : Nat} {h g : Hub} (x : Hub.SameRing n h g) :
    g.get (R.RING_STAT_GEN n) = h.get (R.RING_STAT_GEN n) := x.get _ (by simp)

/-- A change of another ring. -/
theorem Hub.setRing_sameRing {n m : Nat} (other : m ≠ n) (r : RingS) (h : Hub) : Hub.SameRing n h (h.setRing m r) :=
  ⟨fun _ _ => rfl, congrArg RingS.zeroGen (Store.get_set_ne _ _ _ (Ne.symm other)), rfl⟩

theorem Hub.put_sameRing {n m : Nat} {f : RF} (other : m ≠ n) (word : f.off = 0x100014 + 256 * m ∨ f.off = 0x100024 + 256 * m)
    (v : Nat) (h : Hub) : Hub.SameRing n h (h.put f v) :=
  ⟨fun _ hg => Hub.get_put_ne _ _ _ _ (by omega), rfl, rfl⟩

theorem Hub.resetBegun_sameRing {n m : Nat} (other : m ≠ n) (zeroGen : Bool) (h : Hub) : Hub.SameRing n h
  (h.resetBegun m zeroGen) := by
  unfold Hub.resetBegun
  exact ((Hub.put_sameRing other (by simp) ..).trans (Hub.put_sameRing other (by simp) ..)).trans (Hub.setRing_sameRing other ..)

/-- The turn of another ring. -/
theorem Chip.resetTurn_sameRing {n m : Nat} (inside : n < 256) (other : m ≠ n) (fn : Nat) (c : Chip) :
    Hub.SameRing n c.hub (c.resetTurn fn m).hub := by
  unfold Chip.resetTurn
  split
  · exact .refl ..
  · split
    · exact Hub.put_sameRing other (by simp) ..
    · by_cases active : c.hub.ringState m = 1 ∨ c.hub.ringState m = 3
      · exact (Hub.resetBegun_sameRing other ..).trans ((Chip.startReset_same active true).sameRing inside)
      · unfold Chip.startReset
        rw [if_neg active]
        split
        · exact Hub.setRing_sameRing other ..
        · exact .refl ..

theorem Chip.resetTurn_bus (fn m : Nat) (c : Chip) : busOf (c.resetTurn fn m).hub.pcie = busOf c.hub.pcie := by
  unfold Chip.resetTurn
  split
  · rfl
  · split
    · simp
    · by_cases active : c.hub.ringState m = 1 ∨ c.hub.ringState m = 3
      · exact (Chip.startReset_same active true).2.1
      · unfold Chip.startReset
        rw [if_neg active]
        split <;> rfl

theorem Chip.resetRingsOf_bus (fn : Nat) (c : Chip) : busOf (c.resetRingsOf fn).hub.pcie = busOf c.hub.pcie := by
  rw [Chip.resetRingsOf_eq]
  unfold Chip.each
  generalize List.range 256 = l
  induction l generalizing c with
  | nil => rfl
  | cons m l ih => exact (ih _).trans (Chip.resetTurn_bus fn m c)

/-- The ring is the PF's, RESETTING, and its GEN returns to 0. -/
def Hub.ResetForPf (n : Nat) (h : Hub) : Prop := h.ringFn n = 0 ∧ h.ringState n = 2 ∧ (h.ring n).zeroGen = true

theorem Hub.SameRing.resetForPf {n : Nat} {h g : Hub} (x : Hub.SameRing n h g) (y : h.ResetForPf n) : g.ResetForPf n := by
  obtain ⟨own, state, zeroGen⟩ := y
  exact ⟨x.fn.trans own, x.state.trans state, x.zeroGen.trans zeroGen⟩

/-- Its own turn resets an active ring of the PF. -/
theorem Chip.resetTurn_active {n : Nat} (inside : n < 256) {c : Chip} (own : c.hub.ringFn n = 0)
    (active : c.hub.ringState n = 1 ∨ c.hub.ringState n = 3) : (c.resetTurn 0 n).hub.ResetForPf n := by
  have same := Chip.startReset_same active true
  unfold Chip.resetTurn
  rw [if_neg (by simp [own]), if_neg (by omega)]
  refine ⟨?_, (Chip.startReset_shows inside active true).1, ?_⟩
  · refine (same.get (keptField_ring inside (by simp))).trans (Eq.trans ?_ own)
    exact (Hub.get_put_ne _ _ _ _ (by simp)).trans (Hub.get_put_ne _ _ _ _ (by simp))
  · rw [same.zeroGen n]
    unfold Hub.resetBegun
    dsimp only
    rw [Hub.ring_setRing_same]
    exact Bool.or_true _

theorem Chip.resetRingsOf_active {n : Nat} (inside : n < 256) {c : Chip} (own : c.hub.ringFn n = 0)
    (active : c.hub.ringState n = 1 ∨ c.hub.ringState n = 3) : (c.resetRingsOf 0).hub.ResetForPf n := by
  rw [Chip.resetRingsOf_eq]
  refine Chip.each_around (P := fun h => h.ringFn n = 0 ∧ (h.ringState n = 1 ∨ h.ringState n = 3)) (Q := Hub.ResetForPf n)
    (List.mem_range.mpr inside) List.nodup_range (fun m d other hd => ?_) (fun d hd => Chip.resetTurn_active inside hd.1 hd.2)
    (fun m d other hd => (Chip.resetTurn_sameRing inside other 0 d).resetForPf hd) ⟨own, active⟩
  have same := Chip.resetTurn_sameRing inside other 0 d
  rwa [same.fn, same.state]

/-- The reset of a VF leaves a ring of the PF. -/
theorem Chip.resetRingsOf_other {n : Nat} (inside : n < 256) (k : Nat) {c : Chip} (reset : c.hub.ResetForPf n) :
    (c.resetRingsOf (k + 1)).hub.ResetForPf n := by
  rw [Chip.resetRingsOf_eq]
  refine Chip.each_around (P := Hub.ResetForPf n) (Q := Hub.ResetForPf n) (List.mem_range.mpr inside) List.nodup_range
    (fun m d other hd => (Chip.resetTurn_sameRing inside other _ d).resetForPf hd) (fun d hd => ?_)
    (fun m d other hd => (Chip.resetTurn_sameRing inside other _ d).resetForPf hd) reset
  unfold Chip.resetTurn
  rw [if_pos (by rw [hd.1]; omega)]
  exact hd

/-- The turns of a function-level reset leave the GEN of an OFF ring of the function 0. -/
theorem Chip.resetRingsOf_off {n fn : Nat} (inside : n < 256) {c : Chip} (own : c.hub.ringFn n = fn) (off
  : c.hub.ringState n = 0) :
    (c.resetRingsOf fn).hub.get (R.RING_STAT_GEN n) = 0 := by
  rw [Chip.resetRingsOf_eq]
  refine Chip.each_around (P := fun h => h.ringFn n = fn ∧ h.ringState n = 0) (Q := fun h => h.get (R.RING_STAT_GEN n) = 0)
    (List.mem_range.mpr inside) List.nodup_range (fun m d other hd => ?_) (fun d hd => ?_)
    (fun m d other hd => (Chip.resetTurn_sameRing inside other _ d).gen.trans hd) ⟨own, off⟩
  · have same := Chip.resetTurn_sameRing inside other fn d
    rwa [same.fn, same.state]
  · unfold Chip.resetTurn
    rw [if_neg (by simp [hd.1]), if_pos hd.2]
    exact Hub.get_put_same _ _ _ (by simp)

/-- From `h` to `g` registers of the MSI-X block alone are written. -/
structure Hub.MsixOnly (h g : Hub) : Prop where
  rings : g.rings = h.rings
  pcie : g.pcie = h.pcie
  get : ∀ f : RF, 0x100000 ≤ f.off → g.get f = h.get f

theorem Hub.MsixOnly.refl (h : Hub) : Hub.MsixOnly h h := ⟨rfl, rfl, fun _ _ => rfl⟩

theorem Hub.MsixOnly.trans {h g k : Hub} (x : Hub.MsixOnly h g) (y : Hub.MsixOnly g k) : Hub.MsixOnly h k :=
  ⟨y.rings.trans x.rings, y.pcie.trans x.pcie, fun f hf => (y.get f hf).trans (x.get f hf)⟩

theorem Hub.msixOnly_setReg {a : Nat} (low : a < 0x100000) (w : Word) (h : Hub) : Hub.MsixOnly h (h.setReg a w) :=
  ⟨rfl, rfl, fun _ hf => Hub.get_setReg_ne _ _ _ (by omega)⟩

theorem Hub.msixOnly_put {f : RF} (low : f.off < 0x100000) (v : Nat) (h : Hub) : Hub.MsixOnly h (h.put f v) :=
  ⟨rfl, rfl, fun _ hf => Hub.get_put_ne _ _ _ _ (by omega)⟩

theorem Hub.msixOnly_upto {n : Nat} {f : Nat → Hub → Hub} (h : Hub) (step : ∀ k, k < n → ∀ g, Hub.MsixOnly g (f k g)) :
    Hub.MsixOnly h (h.upto n f) := Hub.upto_rel .refl (fun _ _ _ => .trans) step h

/-- What clearing a function leaves of the rings, and what it leaves the functions to do. -/
theorem Hub.clearFn_leaves (fn : Nat) (h : Hub) :
    (h.clearFn fn).rings = h.rings ∧ (h.clearFn fn).pcie.bme = nset h.pcie.bme fn 0 ∧
      (h.clearFn fn).pcie.msixEn = nset h.pcie.msixEn fn 0 ∧
      (fn ≠ 0 → (h.clearFn fn).pcie.vfPba = nset h.pcie.vfPba (fn - 1) 0) ∧
      ∀ f : RF, 0x100000 ≤ f.off → (h.clearFn fn).get f = h.get f := by
  unfold Hub.clearFn
  split
  · next pf =>
    have entries (g : Hub) : Hub.MsixOnly g (g.upto 264 fun v g =>
        (((g.put (R.MSIX_ADDR_LO_ADDR v) 0).put (R.MSIX_ADDR_HI_ADDR v) 0).put (R.MSIX_DATA v) 0).setReg (R.MSIX_CTRL_MASK v).off
          (resetWord (R.MSIX_CTRL_MASK v).off)) :=
      Hub.msixOnly_upto g fun v hv g => (((Hub.msixOnly_put (by simp only; omega) ..).trans (Hub.msixOnly_put
        (by simp only; omega) ..)).trans
        (Hub.msixOnly_put (by simp only; omega) ..)).trans (Hub.msixOnly_setReg (by simp only; omega) ..)
    have pending (g : Hub) : Hub.MsixOnly g (g.upto 9 fun i g => g.put (R.MSIX_PBA_PEND i) 0) :=
      Hub.msixOnly_upto g fun i hi g => Hub.msixOnly_put (by simp only; omega) ..
    have all (g : Hub) := (entries g).trans (pending _)
    exact ⟨(all _).rings, congrArg PcieS.bme (all _).pcie, congrArg PcieS.msixEn (all _).pcie, fun vf => absurd pf vf,
      (all _).get⟩
  · exact ⟨rfl, rfl, rfl, fun _ => rfl, fun _ _ => rfl⟩

theorem Hub.ResetForPf.of_eq {n : Nat} {h g : Hub} (rings : g.rings = h.rings) (get : ∀ f
  : RF, 0x100000 ≤ f.off → g.get f = h.get f)
    (x : h.ResetForPf n) : g.ResetForPf n := by
  obtain ⟨own, state, zeroGen⟩ := x
  exact ⟨(get _ (by simp only; omega)).trans own, (get _ (by simp only; omega)).trans state, by rwa [Hub.ring_of_rings rings]⟩

/-- Ring `n` is reset for the PF, which neither masters the bus nor sends MSI-X. -/
def Hub.PfQuiet (n : Nat) (h : Hub) : Prop := h.ResetForPf n ∧ nget h.pcie.bme 0 = 0 ∧ nget h.pcie.msixEn 0 = 0

theorem Chip.resetFn_pf {n : Nat} (inside : n < 256) {c : Chip} (own : c.hub.ringFn n = 0)
    (active : c.hub.ringState n = 1 ∨ c.hub.ringState n = 3) : (c.resetFn 0).hub.PfQuiet n := by
  obtain ⟨rings, bme, msixEn, -, get⟩ := Hub.clearFn_leaves 0 (c.resetRingsOf 0).hub
  unfold Chip.resetFn
  exact ⟨.of_eq rings get (Chip.resetRingsOf_active inside own active), by rw [bme, nget_nset_same],
    by rw [msixEn, nget_nset_same]⟩

theorem Chip.resetFn_vf {n : Nat} (inside : n < 256) (k : Nat) {c : Chip} (quiet : c.hub.PfQuiet n) :
    (c.resetFn (k + 1)).hub.PfQuiet n := by
  obtain ⟨reset, bme0, msix0⟩ := quiet
  obtain ⟨rings, bme, msixEn, -, get⟩ := Hub.clearFn_leaves (k + 1) (c.resetRingsOf (k + 1)).hub
  have bus := Chip.resetRingsOf_bus (k + 1) c
  simp [busOf] at bus
  obtain ⟨bmeSame, msixSame⟩ := bus
  unfold Chip.resetFn
  refine ⟨.of_eq rings get (Chip.resetRingsOf_other inside k reset), ?_, ?_⟩
  · rw [bme, nget_nset_ne _ _ (by omega), bmeSame, bme0]
  · rw [msixEn, nget_nset_ne _ _ (by omega), msixSame, msix0]

theorem Chip.setVfs_quiet {n : Nat} (inside : n < 256) (num : Nat) {c : Chip} (quiet : c.hub.PfQuiet n) :
    (c.setVfs false num).hub.PfQuiet n ∧ (c.setVfs false num).hub.pcie.vfEn = false := by
  have gone (l : List Nat) : (Chip.each l (fun k c => c.resetFn (k + 1)) c).hub.PfQuiet n := by
    unfold Chip.each
    induction l generalizing c with
    | nil => exact quiet
    | cons k l ih => exact ih (Chip.resetFn_vf inside k quiet)
  unfold Chip.setVfs
  obtain ⟨reset, bme, msixEn⟩ := gone ((List.range 31).filter fun k => c.hub.vfHere k && !(false && decide (k < num)))
  exact ⟨⟨reset, bme, msixEn⟩, rfl⟩

theorem ringOwnerWrite_ofAnAllowed :
    ∀ (req : Path) (n : Nat) (v : Word) (s : State),
    (Instr.ringOwnerWrite req n v).wf = true →
    req.holdsBlocks = true →
    s.hub.ownerOk n (bitsOf v 0 5) (bitsOf v 8 6) = true →
    ∃ t, exec (.ringOwnerWrite req n v) s = .next t ∧ t.hub.ringFn n = bitsOf v 0 5 ∧ t.hub.get
      (R.RING_OWNER_LOCAL n) = bitsOf v 8 6 := by
  intro req n v s hwf blocks ok
  refine ⟨_, (by unfold exec; exact State.act_next hwf _ _), ?_⟩
  dsimp only
  unfold Hub.pfWrite Hub.ownerWrite Hub.ringFn
  rw [if_pos blocks, if_pos ok, Hub.get_put_of_apart (f := R.RING_OWNER_LOCAL n) (Or.inr (by simp)) (by simp),
    Hub.get_put_same _ _ _ (by simp), Hub.get_put_same _ _ _ (by simp)]
  exact ⟨Nat.mod_eq_of_lt (bitsOf_lt ..), Nat.mod_eq_of_lt (bitsOf_lt ..)⟩

theorem ringOwnerWrite_whileEnableIs :
    ∀ (req : Path) (n : Nat) (v : Word) (s : State),
    (Instr.ringOwnerWrite req n v).wf = true →
    req.holdsBlocks = true →
    s.hub.get (R.RING_CTRL_ENABLE n) = 1 →
    ∃ t, exec (.ringOwnerWrite req n v) s = .next t ∧ t.hub.ringFn n = s.hub.ringFn n ∧ t.hub.rings = s.hub.rings := by
  intro req n v s hwf blocks enabled
  have inside : n < 256 := by simp [Instr.wf, Ok.ringOwnerWrite] at hwf; exact hwf.2
  refine ⟨_, (by unfold exec; exact State.act_next hwf _ _), ?_⟩
  have closed : s.hub.ownerOk n (bitsOf v 0 5) (bitsOf v 8 6) = false := by
    unfold Hub.ownerOk Hub.on
    rw [enabled]
    rfl
  dsimp only
  unfold Hub.pfWrite Hub.ownerWrite
  rw [if_pos blocks, closed, if_neg (by simp)]
  have same := Hub.logAccess_same 0x13 req (0x100018 + 0x100 * n) v.toNat s.hub
  exact ⟨same.get (keptField_ring inside (by simp)), (Hub.quiet_logAccess ..).rings⟩

theorem ringEnable_ofASound :
    ∀ (req : Path) (n : Nat) (s : State),
    (Instr.ringEnable req n).wf = true →
    req = .pf →
    s.hub.ringFn n = 0 →
    s.hub.ringState n = 0 →
    s.hub.sizesOk n = true →
    ∃ t, exec (.ringEnable req n) s = .next t ∧ t.hub.ringState n = 1 ∧ t.hub.get (R.RING_CTRL_ENABLE n) = 1 ∧ t.hub.get
      (R.RING_SQ_PTR_SQ_HEAD n) = 0 ∧
      t.hub.get (R.RING_SQ_PTR_SQ_TAIL n) = 0 ∧ t.hub.get (R.RING_CQ_PTR_CQ_TAIL n) = 0 ∧ t.hub.get (R.RING_CQ_PTR_PHASE n) = 1 ∧
      (t.hub.ring n).descs = [] := by
  intro req n s hwf pf own off sizes
  have inside : n < 256 := by simp [Instr.wf, Ok.ringEnable] at hwf; exact hwf.2
  refine ⟨_, (by unfold exec; exact State.act_next hwf _ _), ?_⟩
  subst pf
  have done : s.hub.ringWrite .pf n 0x14 1 (Hub.ringEnable .pf) =
      ((s.hub.enabledRing n).put (R.RING_STAT_STATE n) 1).put (R.RING_STAT_CAUSE n) 0 := by
    unfold Hub.ringWrite
    rw [if_pos own, Hub.ringEnable_off inside _ _ off, if_pos sizes]
  have kept (f : RF) (word : f.off ≠ 0x100024 + 256 * n) :
      (((s.hub.enabledRing n).put (R.RING_STAT_STATE n) 1).put (R.RING_STAT_CAUSE n) 0).get f =
        ((s.hub.put (R.RING_CTRL_ENABLE n) 1).clearRing n).get f :=
    (Hub.get_put_ne _ _ _ _ word).trans ((Hub.get_put_ne _ _ _ _ word).trans (Hub.enabledRing_get ..))
  obtain ⟨head, tail, cqTail, phase, -⟩ := Hub.clearRing_shows inside (s.hub.put (R.RING_CTRL_ENABLE n) 1)
  dsimp only
  rw [done]
  refine ⟨?_, ?_, (kept _ (by simp only; omega)).trans head, (kept _ (by simp only; omega)).trans tail,
    (kept _ (by simp only; omega)).trans cqTail, (kept _ (by simp only; omega)).trans phase, ?_⟩
  · exact (Hub.get_put_of_apart (f := R.RING_STAT_CAUSE n) (g := R.RING_STAT_STATE n) (Or.inr (by simp)) (by simp) _ _).trans
      (Hub.get_put_same _ _ _ (by simp))
  · refine (kept _ (by simp only; omega)).trans ((Hub.clearRing_get inside ?_ ?_ ?_ ?_ (Or.inl ?_) _).trans
      (Hub.get_put_same _ _ _ (by simp))) <;> simp only <;> omega
  · rw [Hub.ring_of_rings (Hub.put_rings ..), Hub.ring_of_rings (Hub.put_rings ..), Hub.enabledRing_ring]
    rfl

theorem ringEnable_withABad :
    ∀ (req : Path) (n : Nat) (s : State),
    (Instr.ringEnable req n).wf = true →
    req = .pf →
    s.hub.ringFn n = 0 →
    s.hub.ringState n = 0 →
    s.hub.sizesOk n = false →
    ∃ t, exec (.ringEnable req n) s = .next t ∧ t.hub.ringState n = 3 ∧ t.hub.get (R.RING_STAT_CAUSE n) = 1 := by
  intro req n s hwf pf own off sizes
  have inside : n < 256 := by simp [Instr.wf, Ok.ringEnable] at hwf; exact hwf.2
  refine ⟨_, (by unfold exec; exact State.act_next hwf _ _), ?_⟩
  subst pf
  have done : s.hub.ringWrite .pf n 0x14 1 (Hub.ringEnable .pf) = (s.hub.enabledRing n).ringError n 1 := by
    unfold Hub.ringWrite
    rw [if_pos own, Hub.ringEnable_off inside _ _ off, sizes, if_neg (by simp)]
  dsimp only
  rw [done]
  exact Hub.ringError_shows _ _ _ (by omega)

theorem submissionDoorbell_ofThisGeneration :
    ∀ (req : Path) (page : Nat) (v : Word) (s : State),
    (Instr.submissionDoorbell req page v).wf = true →
    req = .pf →
    s.hub.ready = true →
    s.hub.ringFn page = 0 →
    bitsOf v 16 16 = s.hub.get (R.RING_STAT_GEN page) →
    s.hub.ringState page = 1 →
    bitsOf v 0 16 < s.hub.sqSize page →
    ∃ t, exec (.submissionDoorbell req page v) s = .next t ∧ t.hub.get (R.RING_SQ_PTR_SQ_TAIL page) = bitsOf v 0 16
      ∧ t.hub.rings = s.hub.rings := by
  intro req page v s hwf pf ready own gen active room
  refine ⟨_, (by unfold exec; exact State.act_next hwf _ _), ?_⟩
  subst pf
  dsimp only
  rw [Hub.doorbell_taken ready own gen active]
  unfold Hub.postEntries
  rw [if_neg (by omega)]
  exact ⟨(Hub.get_put_same _ _ _ (by simp)).trans (Nat.mod_eq_of_lt (bitsOf_lt ..)), rfl⟩

theorem submissionDoorbell_beyondTheQueue :
    ∀ (req : Path) (page : Nat) (v : Word) (s : State),
    (Instr.submissionDoorbell req page v).wf = true →
    req = .pf →
    s.hub.ready = true →
    s.hub.ringFn page = 0 →
    bitsOf v 16 16 = s.hub.get (R.RING_STAT_GEN page) →
    s.hub.ringState page = 1 →
    s.hub.sqSize page ≤ bitsOf v 0 16 →
    ∃ t, exec (.submissionDoorbell req page v) s = .next t ∧ t.hub.ringState page = 3 ∧ t.hub.get
      (R.RING_STAT_CAUSE page) = 2 ∧ t.hub.get (R.RING_SQ_PTR_SQ_TAIL page) = s.hub.get (R.RING_SQ_PTR_SQ_TAIL page) := by
  intro req page v s hwf pf ready own gen active beyond
  refine ⟨_, (by unfold exec; exact State.act_next hwf _ _), ?_⟩
  subst pf
  dsimp only
  rw [Hub.doorbell_taken ready own gen active]
  unfold Hub.postEntries
  rw [if_pos beyond]
  obtain ⟨state, cause⟩ := Hub.ringError_shows page 2 s.hub (by omega)
  exact ⟨state, cause, (Hub.get_put_ne _ _ _ _ (by simp)).trans (Hub.get_put_ne _ _ _ _ (by simp))⟩

theorem submissionDoorbell_ofAnotherGeneration :
    ∀ (req : Path) (page : Nat) (v : Word) (s : State),
    (Instr.submissionDoorbell req page v).wf = true →
    req = .pf →
    s.hub.ready = true →
    s.hub.ringFn page = 0 →
    bitsOf v 16 16 ≠ s.hub.get (R.RING_STAT_GEN page) →
    s.hub.get (R.RING_DB_CNT_DB_STALE page) + 1 < 65536 →
    ∃ t, exec (.submissionDoorbell req page v) s = .next t ∧ t.hub.get (R.RING_SQ_PTR_SQ_TAIL page) = s.hub.get
      (R.RING_SQ_PTR_SQ_TAIL page) ∧
      t.hub.get (R.RING_DB_CNT_DB_STALE page) = s.hub.get (R.RING_DB_CNT_DB_STALE page) + 1 := by
  intro req page v s hwf pf ready own gen fits
  have inside : page < 256 := by simp [Instr.wf, Ok.submissionDoorbell] at hwf; exact hwf.2
  refine ⟨_, (by unfold exec; exact State.act_next hwf _ _), ?_⟩
  subst pf
  have stale : s.hub.doorbell .pf page 0 v Hub.postEntries = (s.hub.bump (R.RING_DB_CNT_DB_STALE page) 1).countEvent 14 := by
    unfold Hub.doorbell
    simp only [ready]
    rw [if_neg (by simp), if_neg (by simp [own]), if_pos gen]
    rfl
  dsimp only
  rw [stale]
  have counted (f : RF) (low : f.off < 0x110000) : ((s.hub.bump (R.RING_DB_CNT_DB_STALE page) 1).countEvent 14).get f =
      (s.hub.bump (R.RING_DB_CNT_DB_STALE page) 1).get f :=
    (Hub.quiet_countEvent ..).get f fun x => by
      unfold evtReg at x
      omega
  rw [counted _ (by simp only; omega), counted _ (by simp only; omega)]
  exact ⟨Hub.get_bump_ne _ _ _ _ (by simp), Hub.get_bump_same _ _ _ (by simp) (by simpa using fits)⟩

theorem completionRelease_movesTheCq :
    ∀ (req : Path) (page : Nat) (v : Word) (k : Nat) (s : State),
    (Instr.completionRelease req page v).wf = true →
    req = .pf →
    s.hub.ready = true →
    s.hub.ringFn page = 0 →
    bitsOf v 16 16 = s.hub.get (R.RING_STAT_GEN page) →
    s.hub.ringState page = 1 →
    bitsOf v 0 16 < s.hub.cqSize page →
    k = (bitsOf v 0 16 + s.hub.cqSize page - s.hub.cqHead page) % s.hub.cqSize page →
    k ≤ (s.hub.ring page).used →
    (s.hub.ring page).held = [] →
    ∃ t, exec (.completionRelease req page v) s = .next t ∧ t.hub.cqHead page = bitsOf v 0 16 ∧ (t.hub.ring page).used =
      (s.hub.ring page).used - k := by
  intro req page v k s hwf pf ready own gen active room slots enough held
  have inside : page < 256 := by simp [Instr.wf, Ok.completionRelease] at hwf; exact hwf.2
  refine ⟨_, (by unfold exec; exact State.act_next hwf _ _), ?_⟩
  subst pf
  dsimp only
  rw [Hub.doorbell_taken ready own gen active]
  unfold Hub.releaseSlots
  dsimp only
  rw [← slots, if_neg (by omega)]
  have none : (((s.hub.setCqHead page (bitsOf v 0 16)).setUsed page ((s.hub.ring page).used - k)).ring page).held = [] := by
    rw [Hub.setUsed_ring, Hub.setCqHead_ring]
    exact held
  rw [Hub.flushHeld_nil none, Hub.ring_setRing_same, Hub.setUsed_ring]
  refine ⟨(Hub.cqHead_congr ?_ ?_).trans (Hub.setCqHead_cqHead (bitsOf_lt ..) s.hub), rfl⟩
  · exact (Hub.setRing_get ..).trans (Hub.setUsed_get (by simp) _)
  · exact (Hub.setRing_get ..).trans (Hub.setUsed_get (by simp) _)

theorem ringReset_makesTheRing :
    ∀ (req : Path) (n : Nat) (s : State),
    (Instr.ringReset req n).wf = true →
    req = .pf →
    s.hub.ringFn n = 0 →
    (s.hub.ringState n = 1 ∨ s.hub.ringState n = 3) →
    ∃ t, exec (.ringReset req n) s = .next t ∧ t.hub.ringState n = 2 ∧ t.hub.get (R.RING_CTRL_ENABLE n) = 0 ∧
      ((t.hub.ring n).descs.all fun d => d.started) = true := by
  intro req n s hwf pf own active
  have inside : n < 256 := by simp [Instr.wf, Ok.ringReset] at hwf; exact hwf.2
  refine ⟨_, (by unfold exec; exact State.actMem_next hwf _ _), ?_⟩
  subst pf
  have resets : Chip.disableRing .pf n ⟨s.hub, s.mem⟩ = Chip.startReset n false ⟨s.hub, s.mem⟩ := by
    unfold Chip.disableRing Hub.ringTarget
    rw [if_pos own]
  dsimp only
  rw [resets]
  obtain ⟨state, enable⟩ := Chip.startReset_shows (c := ⟨s.hub, s.mem⟩) inside active false
  exact ⟨state, enable, List.all_eq_true.mpr (Chip.startReset_started inside active false)⟩

theorem ringResetComplete_makesItOff :
    ∀ (n : Nat) (s : State),
    (Instr.ringResetComplete n).wf = true →
    s.hub.ringState n = 2 →
    (s.hub.ring n).descs = [] →
    ∃ t, exec (.ringResetComplete n) s = .next t ∧ t.hub.ringState n = 0 ∧ t.hub.get (R.RING_SQ_PTR_SQ_HEAD n) = 0 ∧
      t.hub.get (R.RING_SQ_PTR_SQ_TAIL n) = 0 ∧ t.hub.get (R.RING_CQ_PTR_CQ_TAIL n) = 0 ∧ t.hub.get
        (R.RING_CQ_PTR_PHASE n) = 1 ∧ t.hub.cqHead n = 0 ∧
      t.hub.get (R.RING_STAT_GEN n) = (if (s.hub.ring n).zeroGen then 0 else (s.hub.get (R.RING_STAT_GEN n) + 1) % 65536) := by
  intro n s hwf resetting none
  have inside : n < 256 := by simpa [Instr.wf, Ok.ringResetComplete] using hwf
  refine ⟨_, (by unfold exec; exact State.act_next hwf _ _), ?_⟩
  dsimp only
  rw [if_pos ⟨resetting, none⟩]
  obtain ⟨head, tail, cqTail, phase, cqHead⟩ := Hub.clearRing_shows inside s.hub
  obtain ⟨off, gen⟩ := Hub.endReset_state n s.hub
  have kept (f : RF) (word : f.off = 0x100028 + 256 * n ∨ f.off = 0x10002c + 256 * n ∨ f.off = 0x100040 + 256 * n) :
      (s.hub.endReset n).get f = (s.hub.clearRing n).get f :=
    Hub.endReset_get (by omega) (by omega) (by omega) (by omega) _
  exact ⟨off, (kept _ (by simp)).trans head, (kept _ (by simp)).trans tail, (kept _ (by simp)).trans cqTail,
    (kept _ (by simp)).trans phase, (Hub.cqHead_congr (kept _ (by simp)) (kept _ (by simp))).trans cqHead, gen⟩

theorem pfFlr_resetsEveryPf :
    ∀ (n : Nat) (s : State),
    n < 256 →
    s.hub.ringFn n = 0 →
    (s.hub.ringState n = 1 ∨ s.hub.ringState n = 3) →
    ∃ t, exec .pfFlr s = .next t ∧ t.hub.ringState n = 2 ∧ (t.hub.ring n).zeroGen = true ∧ t.hub.pcie.vfEn = false
      ∧ nget t.hub.pcie.bme 0 = 0 ∧
      nget t.hub.pcie.msixEn 0 = 0 := by
  intro n s inside own active
  refine ⟨_, (by unfold exec; exact State.actMem_next rfl _ _), ?_⟩
  obtain ⟨⟨⟨-, state, zeroGen⟩, bme, msixEn⟩, vfEn⟩ := Chip.setVfs_quiet inside s.hub.pcie.numVfs
    (Chip.resetFn_pf (c := ⟨s.hub, s.mem⟩) inside own active)
  dsimp only
  exact ⟨state, zeroGen, vfEn, bme, msixEn⟩

theorem vfFlr_zeroesTheGeneration :
    ∀ (k n : Nat) (s : State),
    (Instr.vfFlr k).wf = true →
    n < 256 →
    s.hub.ringFn n = k + 1 →
    s.hub.ringState n = 0 →
    ∃ t, exec (.vfFlr k) s = .next t ∧ t.hub.get (R.RING_STAT_GEN n) = 0 ∧ nget t.hub.pcie.bme (k + 1) = 0
      ∧ nget t.hub.pcie.msixEn (k + 1) = 0 ∧
      nget t.hub.pcie.vfPba k = 0 := by
  intro k n s hwf inside own off
  refine ⟨_, (by unfold exec; exact State.actMem_next hwf _ _), ?_⟩
  dsimp only
  unfold Chip.resetFn
  obtain ⟨-, bme, msixEn, pba, kept⟩ := Hub.clearFn_leaves (k + 1) (Chip.resetRingsOf (k + 1) ⟨s.hub, s.mem⟩).hub
  refine ⟨(kept _ (by simp only; omega)).trans (Chip.resetRingsOf_off (c := ⟨s.hub, s.mem⟩) inside own off), ?_, ?_, ?_⟩
  · rw [bme]
    exact nget_nset_same ..
  · rw [msixEn]
    exact nget_nset_same ..
  · rw [pba (by omega)]
    exact nget_nset_same ..

/-- Settles O30: one lemma per clause; the last four follow from what the reset of a ring leaves. -/
theorem ringsRun : Obligations.RingsRun := by
  unfold Obligations.RingsRun
  exact ⟨ringOwnerWrite_ofAnAllowed, ringOwnerWrite_whileEnableIs, ringEnable_ofASound, ringEnable_withABad,
    submissionDoorbell_ofThisGeneration, submissionDoorbell_beyondTheQueue, submissionDoorbell_ofAnotherGeneration,
    completionRelease_movesTheCq, ringReset_makesTheRing, ringResetComplete_makesItOff, pfFlr_resetsEveryPf,
    vfFlr_zeroesTheGeneration⟩

end Sys2Proof.Machine
end

section
/-!
### Descriptors of streams and calls

A descriptor whose work has ended is not running, so that its start does nothing; the statement does not set this case aside.
-/
namespace Sys2Proof.Machine

set_option Elab.async false

/-- A STREAM_CLOSE for stream 3 from site 2, whose work is marked as ended before it starts. -/
def endedStreamClose : Desc :=
  { descOf 6 (descBytes [(0, 9), (28, 2), (29, 1), (30, 1), (32, 3)]) with ended := true }

/-- The stream it names, open. -/
def openStreamThree : Stream :=
  { toSite := false, id := 3, tag := 9, cls := 1, len := 4, got := 0, sent := 0, state := 1, bcast := false,
    space := 1, addr := 0x1000,
    engine := 2, ring := 3, desc := 5, closeRing := 256, closeDesc := 0 }

/-- Ring 3 holds the descriptor; site 2 is up and holds the stream. -/
def closeOfEndedWork : State :=
  stOf ((ringHub [endedStreamClose] [(R.YDL_STAT_STATE 2, 2), (R.YDL_CREDIT_HELD 2 0, 20), (R.YDL_CREDIT_HELD 2 1, 20),
    (R.YDL_NEG_LO 2, 0x04040300), (R.GLB_POP_SITE_LIVE, 4), (R.PWR_DOM_STATE 73, 2), (R.PWR_DOM_STATE 58, 2),
      (R.MAP_COUNT_ENG, 4),
    (R.DISP_POOL1_BALANCE 0, 99)]).onSite 2 fun x => { x with streams := [openStreamThree] })

theorem streamClose_of_ended_work :
    ∃ t, exec (.streamClose 3 6) closeOfEndedWork = .next t ∧ ((t.hub.siteS 2).stream false 3).map (fun y =>
      (y.state, y.closeRing, y.closeDesc)) ≠ some (3 + leAt endedStreamClose.bytes 30 1, 3, 6) := by
  refine ⟨_, (by unfold exec; exact State.act_next rfl _ _), ?_⟩
  decide +kernel

/-- Refutes O34: the STREAM_CLOSE is started, and the stream stays open, since the descriptor's work is marked as ended. -/
theorem not_ringStreamsAndCalls : ¬ Obligations.RingStreamsAndCalls := by
  unfold Obligations.RingStreamsAndCalls
  rintro ⟨-, clause, -⟩
  obtain ⟨t, run, bad⟩ := streamClose_of_ended_work
  obtain ⟨u, run', good⟩ := clause 3 6 2 3 false endedStreamClose openStreamThree closeOfEndedWork (by decide +kernel)
    (by decide +kernel) (by decide +kernel) (by decide +kernel) (by decide +kernel) (by decide +kernel) (by decide +kernel)
    (by decide +kernel) (by decide +kernel) (by decide +kernel) (by decide +kernel)
  obtain rfl : t = u := Host.Outcome.next.inj (run.symm.trans run')
  exact bad good

end Sys2Proof.Machine
end
